-- ==== Sys2Proof/Word.lean ====
section
/-! DEFINITION. The word types of the model: bytes, 64-bit register words and byte strings. -/

namespace Sys2Proof

/-- One byte. -/
abbrev Byte := BitVec 8

/-- One 64-bit register word. -/
abbrev Word := BitVec 64

/-- A byte string, first byte at the lowest address. -/
abbrev Bytes := List (BitVec 8)

end Sys2Proof
end

