-- ==== Sys2Proof/Syntax.lean ====
section
/-! DEFINITION. The commands of the block and what they carry. A row of spec/opcode_table.json has no bits and names
no operands; each constructor carries what the row's rules need from outside the module (NOTES.md, Operands). -/

namespace Sys2Proof

/-- Who makes a register access: a Headland session (00 R629, 12 R456) or an on-module master by its stamped identity
(01 R47). -/
inductive Master where
  | session (n : Nat)
  | onModule (id : Nat)
  deriving DecidableEq, Repr

/-- What a start-up or wake-up test finds (14 R519, 03 R122, 16 R573): the most faulty SRAM rows in any bank, the
faulty columns of each tensor array, the faulty LLC ways, and any fault no spare covers. -/
structure TestFound where
  rows : Nat
  cols : List Nat
  ways : Nat
  beyond : Bool
  deriving DecidableEq, Repr

/-- A request as its master presents it at its mesh port (07 R256, R260): stamped identity, tag, address as issued
(a plot address where the master works for a plot), length in bytes. -/
structure MeshReq where
  id : Nat
  tag : Nat
  addr : Nat
  len : Nat
  deriving DecidableEq, Repr

/-- Symbol errors found when a stored line is read (05 R196): the line (physical address / 64), the pins whose symbol
is wrong; or, where the LLC slice holds the line, its way, whether a word is uncorrectable, and the words corrected
(16 R574). A listed line without LLC errors is read from the stack: replacement is not specified (log 8). -/
structure LineErr where
  line : Nat
  pins : List Nat := []
  llcBad : Bool := false
  llcCorr : Nat := 0
  llcWay : Nat := 0
  deriving DecidableEq, Repr

/-- What a chiplet answers to reads of its window (09 R346; 07 R262): the bytes in the order in which the requests leave,
and the byte offsets of requests whose STATUS is not OK, with it: 1 poison, 2 an error, 4 no answer within the timer. -/
structure SiteAns where
  data : Bytes
  fails : List (Nat × Nat) := []
  deriving DecidableEq, Repr

/-- A SECDED error that a work order meets (03 R110): in tile memory at an address, or in the accumulators of an output tile
(`acc`); whether it is uncorrectable. -/
structure TmErr where
  addr : Nat
  bad : Bool
  acc : Option Nat := none
  deriving DecidableEq, Repr

/-- Messages of a chiplet on a CXL link (08 R323; 09 R329, R331): a host's on CXL.mem, a device's on CXL.cache, and those
of CXL.io; `other` stands for a code that none of them has. -/
inductive CxlOp where
  | memRd | memRdData | memInv | memWr | memWrPtl | memClnEvct | biRspI | biRspS | biRspE | biConflict
  | rdShared | rdAny | rdOwn | rdOwnNoData | rdCurr | wrInv | woWrInv | cleanEvict | cleanEvictNoData | dirtyEvict
  | rspIHitI | rspIFwdM | rspSHitSE | rspSFwdM | rspVHitV | rspVFwdV | hostData
  | ioRead | ioWrite | ioCpl | ioIoSpace | ioAtomic | ioError | other
  deriving DecidableEq, Repr

/-- A message of a chiplet on a CXL link. `sub` is the CacheID or the function number (09 R331, R343); `noOp` is MetaField
No-Op instead of Meta0-State, `mval` the MetaValue (0 I, 2 A, 3 S); `biId` the BI-ID of a response. A response to a snoop
names its line by `addr`. `status` is that of a completion (0 SC, 1 UR, 2 CA), `poison` the mask of poisoned data. -/
structure CxlMsg where
  op : CxlOp
  sub : Nat := 0
  noOp : Bool := false
  mval : Nat := 0
  biId : Nat := 0
  addr : Nat := 0
  len : Nat := 64
  tag : Nat := 0
  status : Nat := 0
  poison : Nat := 0
  data : Bytes := []
  deriving DecidableEq, Repr

/-- A flit that arrives on a site link (09 R332, R333): on a Bludric site its 272 bytes (09 R335), on a CXL site its place in
the stream, the place it acknowledges, what its CRC shows, and its messages. -/
inductive SiteFlit where
  | bludric (b : Bytes)
  | cxl (seq ack : Nat) (crcOk nak : Bool) (msgs : List CxlMsg)
  deriving DecidableEq, Repr

/-- What the chiplet proposes in SITE_PARAM and REPAIR_RECORD (09 R350, R353): per module the width and the repaired
lanes of each direction; beside it what the hub's own lane tests of this training find, by module, where it runs one (09
R354). -/
structure SiteParam where
  profile : Nat
  role : Nat
  version : Nat
  credits : List Nat
  widths : List Nat
  txLanes : List (List Nat)
  rxLanes : List (List Nat)
  testWidths : List Nat := []
  testTx : List (List Nat) := []
  testRx : List (List Nat) := []
  deriving DecidableEq, Repr

/-- What a received Ethernet frame carries above its MAC header (10 R384). -/
inductive FrameBody where
  | pfc (quanta : List (Option Nat))
  | arp (op target srcIp : Nat)
  | neighborSol (target dst srcIp : Nat)
  | otherIcmpNd
  | udp (v6 : Bool) (src dst srcPort dstPort dscp : Nat) (ce hdrOk lenOk cksumZero cksumOk icrcOk : Bool)
      (qpn pkey opcode : Nat) (payload : Bytes)
  | otherIp (v6 : Bool) (src dst : Nat) (hdrOk : Bool)
  | other
  deriving DecidableEq, Repr

/-- A received Ethernet frame (10 R376, R384, R386). Addresses are the numbers the headers carry; an IPv4 address is
::ffff:a.b.c.d as in 10 R415. `corr` are the symbols that the FEC has corrected since the frame before, by lane (10 R379). -/
structure Frame where
  fcsOk : Bool
  fecOk : Bool
  len : Nat
  dstMac : Nat
  srcMac : Nat
  vlan : Option (Nat × Nat)
  body : FrameBody
  corr : List Nat := []
  deriving DecidableEq, Repr

/-- Position of a packet in its message (10 R391). -/
inductive BthPos where
  | first | middle | last | only
  deriving DecidableEq, Repr

/-- A RoCEv2 packet after its header checks (10 R391, R394): PSN, position, immediate, RETH fields and payload. -/
structure Bth where
  psn : Nat
  pos : BthPos
  imm : Option (BitVec 32)
  va : Nat
  rkey : Nat
  dmaLen : Nat
  payload : Bytes
  ecnCe : Bool := false
  supported : Bool := true
  deriving DecidableEq, Repr

/-- What an Acknowledge packet says (10 R401, R403). -/
inductive AckKind where
  | ack | nakSeq | nakRnr | nakAccess | nakInvalid | nakOp
  deriving DecidableEq, Repr

/-- An Acknowledge packet: what it says, and whether it arrived marked CE (10 R390). -/
structure Ack where
  kind : AckKind
  ce : Bool := false
  deriving DecidableEq, Repr

/-- How a Headland datagram was addressed (12 R446, R448). -/
inductive DgDest where
  | unicast | broadcast4 | allNodes6 | multicast
  deriving DecidableEq, Repr

/-- A datagram on UDP port 20054 (12 R443, R448): addresses and the UDP payload. -/
structure Datagram where
  srcIp : Nat
  srcPort : Nat
  srcMac : Nat
  dstIp : Nat
  dest : DgDest
  bytes : Bytes
  deriving DecidableEq, Repr

/-- One PMBus poll of a rail (15 R547): `fails` failed transactions before success; readings in the units of
PWR_RAIL_STATUS. -/
structure RailReading where
  rail : Nat
  fails : Nat
  mv : Nat
  da : Nat
  tempC : Nat
  deriving DecidableEq, Repr

/-- The commands of the block: one constructor per row of spec/opcode_table.json, in the table's order. -/
inductive Instr where
  /-- PORST_N_LOW (R513). PORST_N driven low for 1 µs or longer starts a whole reset with cause 0. -/
  | porstNLow (ns : Nat)
  /-- PORST_N_RELEASE (R539). Release of PORST_N samples the straps, votes the life cycle, derives the identity key, starts the boot-set domains and trains the port. -/
  | porstNRelease (strapEth : Nat)
  /-- WHOLE_RESET (R514). A delayed whole reset (from RESET_DEVICE, GLB_RESET_REQ or a life-cycle transition) stops every domain except AON and switches off the site rails. -/
  | wholeReset
  /-- GLB_RESET_REQ (R513). A write of GO to GLB_RESET_REQ schedules a whole reset with cause 2 for 100 µs later. -/
  | glbResetReq (m : Master) (v : Word)
  /-- UM_PUBLISHED (R540). Once MEM_INIT is done and training is done, the unit map is published, READY and GEN become 1, and STAGE becomes 3. -/
  | umPublished
  /-- REGISTER_WRITE (R16). A write to a register that has no row of its own is checked under R629 and applied to its RW, RW1C and RWL fields. -/
  | registerWrite (m : Master) (addr len : Nat) (v : Word)
  /-- READ_CLEAR (R12). A read of an RC register returns the value and clears it atomically. -/
  | readClear (m : Master) (addr len : Nat)
  /-- CLK_DOM_CFG_WRITE (R517). A write of FREQ_MHZ and PLL_EN = 1 starts the domain's PLL. -/
  | clkDomCfgWrite (m : Master) (d : Nat) (v : Word)
  /-- PLL_LOCK (R517). The domain's PLL locks and LOCKED becomes 1. -/
  | pllLock (d : Nat)
  /-- CLK_RELEASE (R518). A write of GO to CLK_RELEASE is judged and, if it is accepted, releases the domain's clock and reset and starts its test. -/
  | clkRelease (m : Master) (v : Word)
  /-- STARTUP_TEST_DONE (R519). The domain's start-up test ends, substituting spares or failing the unit. -/
  | startupTestDone (d : Nat) (r : TestFound)
  /-- CLK_REF_LOST (R522). After 10 µs without the reference, every domain except AON stops, the board alert is asserted and AON moves to its internal oscillator. -/
  | clkRefLost
  /-- CLK_UNLOCK (R522). A PLL that loses lock is a hard fault of what it clocks. -/
  | clkUnlock (d : Nat)
  /-- CC_SRAM_CORR (R523). A corrected CC SRAM error raises a CORRECTED event. -/
  | ccSramCorr
  /-- CC_SRAM_FATAL (R523). An uncorrectable CC SRAM or core parity error halts the cores and is MODULE_FATAL. -/
  | ccSramFatal
  /-- CC_WDT_KICK (R524). A kick from CC restarts the watchdog. -/
  | ccWdtKick (m : Master) (v : Word)
  /-- CC_WATCHDOG (R524). Watchdog expiry halts the CC cores and raises CC_WATCHDOG. -/
  | ccWatchdog
  /-- CC_READY (R529). A write of CC_READY by the firmware raises STAGE to 1. -/
  | ccReady (m : Master) (v : Word)
  /-- CC_BOOT_FAIL (R529). Expiry of CC_BOOT_LIMIT without CC_READY raises CC_BOOT_FAIL. -/
  | ccBootFail
  /-- TRAIN_DONE (R535). Training or replay ends, STATE becomes 3 and TRAIN_DONE is raised. -/
  | trainDone (failedChannels : List Nat) (driftStacks : Nat)
  /-- REC_UPDATED (R538). The stale training record is re-signed and rewritten in the record region. -/
  | recUpdated
  /-- REG_WRITE (R457). REG_WRITE applies its pairs in order and stops at the first failure. -/
  | regWrite (n : Nat)
  /-- MEM_READ (R459). MEM_READ reads stacked memory. -/
  | memRead (n : Nat)
  /-- MEM_WRITE (R459). MEM_WRITE writes stacked memory. -/
  | memWrite (n : Nat)
  /-- FW_LOAD (R527). FW_LOAD writes a firmware chunk to SRAM or to the staging buffer. -/
  | fwLoad (n : Nat)
  /-- FW_START_STAGE (R530). FW_START with MODE 2 verifies the staging buffer and stages its digest. -/
  | fwStartStage (n : Nat)
  /-- DEBUG_READ (R593). DEBUG_READ reads with identity 0x070 past every guard, setting debug-touch flags. -/
  | debugRead (n : Nat)
  /-- DEBUG_WRITE (R593). DEBUG_WRITE writes with identity 0x070. -/
  | debugWrite (n : Nat)
  /-- DEBUG_ACCESS_INSTRUMENT (R597). At Update-DR the instrument performs a debug read or write. -/
  | debugAccessInstrument (dr : BitVec 128)
  /-- MEM_INIT_START (R225). A write of START to MEM_INIT locks MEM_GROUP_LOCAL, computes the relocation region and begins memory initialisation. -/
  | memInitStart (m : Master) (v : Word)
  /-- MEM_INIT_DONE (R218). Memory initialisation completes, and granule availability and INIT_DONE are set, or MEM_INIT_FAIL is raised. -/
  | memInitDone
  /-- ENG_FAULT (R181). An engine hard fault writes ENGINE_FAULT records, fences the engine, records CE_FAULT_Q and puts the engine in FAILED. -/
  | engFault (e cause : Nat) (frontEnd : Bool)
  /-- ENGINE_FALLOW (R121). PWR_FALLOW_REQ with ACTION 1 and CLASS 0 is judged and, if accepted, starts draining the engine. -/
  | engineFallow (m : Master) (v : Word)
  /-- ENGINE_WAKE (R122). PWR_FALLOW_REQ with ACTION 2 and CLASS 0 is judged and, if accepted, powers the engine on. -/
  | engineWake (m : Master) (v : Word)
  /-- CE_DRAIN_LIMIT_EXPIRY (R121). Expiry of CE_DRAIN_LIMIT aborts the running orders at their next boundary with ABORTED. -/
  | ceDrainLimitExpiry (e : Nat)
  /-- FENCE_COMPLETE (R273). Every outstanding request of a fencing port has completed, the stub takes over and FENCE_STATE becomes 2. -/
  | fenceComplete (port : Nat)
  /-- WAKE_TEST_DONE (R122). The wake-up test ends, and the engine becomes PRESENT or FAILED. -/
  | wakeTestDone (e : Nat) (r : TestFound)
  /-- SITE_FALLOW (R364). PWR_FALLOW_REQ with ACTION 1 and CLASS 1 is judged and, if accepted, sends SITE_DRAIN. -/
  | siteFallow (m : Master) (v : Word)
  /-- SITE_WAKE (R365). PWR_FALLOW_REQ with ACTION 2 and CLASS 1 is judged and, if accepted, switches the site rails on and trains the site. -/
  | siteWake (m : Master) (v : Word)
  /-- SITE_DRAIN_DONE (R364). The chiplet's SITE_DRAIN_DONE lets the FALLOW sequence recall the filter entries and fence the port. -/
  | siteDrainDone (n : Nat)
  /-- SITE_DRAIN_LIMIT_EXPIRY (R364). Expiry of SITE_DRAIN_LIMIT ends step 1 of the site drain. -/
  | siteDrainLimitExpiry (n : Nat)
  /-- CE_WQ_TAIL (R133). A work-queue doorbell write is accepted or ignored, setting DB_ERR when it is ignored. -/
  | ceWqTail (m : Master) (e q : Nat) (v : Word)
  /-- CE_CQ_HEAD (R133). The consumer's completion-ring head write is accepted or ignored. -/
  | ceCqHead (m : Master) (e q : Nat) (v : Word)
  /-- QUEUE_ENABLE (R131). ENABLE = 1 on a DISABLED queue checks the rings and makes the queue RUNNING, or sets RING_ERR. -/
  | queueEnable (m : Master) (e q : Nat) (v : Word)
  /-- QUEUE_DISABLE (R137). ENABLE = 0 puts the queue in STOPPING until its started orders complete. -/
  | queueDisable (m : Master) (e q : Nat) (v : Word)
  /-- RESUME (R138). RESUME = 1 on a HALTED queue discards fetched orders that have not started, refetches from HEAD and makes the queue RUNNING. -/
  | resume (m : Master) (e q : Nat) (v : Word)
  /-- CE_LPS_DATA (R166). An access to CE_LPS_DATA writes or reads the lane program instruction at INDEX and increments INDEX. -/
  | ceLpsData (m : Master) (e : Nat) (w : Option Word)
  /-- NOP (R150). Work order NOP completes OK. -/
  | nop (e : Nat) (q : Nat)
  /-- WAIT (R169). Work order WAIT becomes pending on a tally until VALUE reaches AMOUNT, consuming it if CONSUME is set. -/
  | wait (e : Nat) (q : Nat)
  /-- WAIT_TIMEOUT (R170). Expiry of LIMIT_US completes the WAIT with TIMEOUT, consuming nothing. -/
  | waitTimeout (e : Nat) (q : Nat)
  /-- SIGNAL (R168). Work order SIGNAL adds AMOUNT to a tally after every earlier order of its queue has completed. -/
  | signal (e : Nat) (q : Nat)
  /-- MATMUL (R98). Work order MATMUL computes C = A × B tile by tile on the arrays. -/
  | matmul (e q : Nat) (cols : List (Nat × Nat)) (tm : List TmErr)
  /-- MATMUL_ACC (R100). Work order MATMUL_ACC computes C = C + A × B. -/
  | matmulAcc (e q : Nat) (cols : List (Nat × Nat)) (tm : List TmErr)
  /-- CONV (R154). Work order CONV runs a convolution as an implicit GEMM. -/
  | conv (e q : Nat) (cols : List (Nat × Nat)) (tm : List TmErr)
  /-- LANE (R159). Work order LANE runs lane program streams on the masked lane groups. -/
  | lane (e q : Nat) (tm : List TmErr)
  /-- REDUCE (R155). Work order REDUCE combines DIM_M rows into one row on the lane groups. -/
  | reduce (e q : Nat) (tm : List TmErr)
  /-- COPY (R150). Work order COPY moves DIM_M rows of DIM_N bytes without interpreting them. -/
  | copy (e q : Nat) (site : SiteAns) (tm : List TmErr)
  /-- CONVERT (R78). Work order CONVERT converts rows of elements from FMT_A to FMT_C. -/
  | convert (e q : Nat) (site : SiteAns) (tm : List TmErr)
  /-- TRANSPOSE (R150). Work order TRANSPOSE transposes a DIM_M × DIM_N matrix of elements. -/
  | transpose (e q : Nat) (tm : List TmErr)
  /-- GATHER (R157). Work order GATHER copies indexed rows to consecutive destination rows. -/
  | gather (e q : Nat) (tm : List TmErr)
  /-- SCATTER (R157). Work order SCATTER writes consecutive rows to indexed destinations. -/
  | scatter (e q : Nat) (tm : List TmErr)
  /-- PREFETCH_LLC (R150). Work order PREFETCH_LLC loads a region into the plot's LLC ways. -/
  | prefetchLlc (e : Nat) (q : Nat)
  /-- WRITEBACK (R150). Work order WRITEBACK writes the region's dirty LLC lines to the stacks. -/
  | writeback (e : Nat) (q : Nat)
  /-- WORK_ORDER_COMPLETE (R173). A finished order's writes are performed, its completion record is written in index order, and the queue continues or halts. -/
  | workOrderComplete (e : Nat) (q : Nat)
  /-- LANE_STEP_LIMIT (R164). A stream that exceeds STEP_LIMIT completes the LANE order with TIMEOUT. -/
  | laneStepLimit (e : Nat) (u : Nat)
  /-- LANE_NOP (R163). Lane instruction NOP does nothing. -/
  | laneNop (e : Nat) (u : Nat)
  /-- FADD (R163). Lane FP32 addition. -/
  | fadd (e : Nat) (u : Nat)
  /-- FSUB (R163). Lane FP32 subtraction. -/
  | fsub (e : Nat) (u : Nat)
  /-- FMUL (R163). Lane FP32 multiplication. -/
  | fmul (e : Nat) (u : Nat)
  /-- FFMA (R85). Lane fused FP32 multiply-add. -/
  | ffma (e : Nat) (u : Nat)
  /-- FMIN (R86). Lane FP32 minimum. -/
  | fmin (e : Nat) (u : Nat)
  /-- FMAX (R86). Lane FP32 maximum. -/
  | fmax (e : Nat) (u : Nat)
  /-- FCMP (R162). Lane FP32 compare into a predicate. -/
  | fcmp (e : Nat) (u : Nat)
  /-- HADD (R163). Lane paired BF16 addition. -/
  | hadd (e : Nat) (u : Nat)
  /-- HMUL (R163). Lane paired BF16 multiplication. -/
  | hmul (e : Nat) (u : Nat)
  /-- HFMA (R163). Lane paired BF16 fused multiply-add. -/
  | hfma (e : Nat) (u : Nat)
  /-- IADD (R88). Lane INT32 wrapping addition. -/
  | iadd (e : Nat) (u : Nat)
  /-- ISUB (R88). Lane INT32 wrapping subtraction. -/
  | isub (e : Nat) (u : Nat)
  /-- IMUL (R88). Lane INT32 wrapping multiplication. -/
  | imul (e : Nat) (u : Nat)
  /-- IADDS (R88). Lane INT32 saturating addition. -/
  | iadds (e : Nat) (u : Nat)
  /-- ISUBS (R88). Lane INT32 saturating subtraction. -/
  | isubs (e : Nat) (u : Nat)
  /-- AND (R163). Lane bitwise AND. -/
  | and (e : Nat) (u : Nat)
  /-- OR (R163). Lane bitwise OR. -/
  | or (e : Nat) (u : Nat)
  /-- XOR (R163). Lane bitwise XOR. -/
  | xor (e : Nat) (u : Nat)
  /-- SHL (R163). Lane shift left. -/
  | shl (e : Nat) (u : Nat)
  /-- SHR (R163). Lane logical shift right. -/
  | shr (e : Nat) (u : Nat)
  /-- SRA (R163). Lane arithmetic shift right. -/
  | sra (e : Nat) (u : Nat)
  /-- ICMP (R162). Lane INT32 compare into a predicate. -/
  | icmp (e : Nat) (u : Nat)
  /-- CVT (R78). Lane format conversion. -/
  | cvt (e : Nat) (u : Nat)
  /-- RCP (R87). Lane reciprocal. -/
  | rcp (e : Nat) (u : Nat)
  /-- RSQRT (R87). Lane reciprocal square root. -/
  | rsqrt (e : Nat) (u : Nat)
  /-- SQRT (R87). Lane square root. -/
  | sqrt (e : Nat) (u : Nat)
  /-- EXP2 (R87). Lane base-2 exponential. -/
  | exp2 (e : Nat) (u : Nat)
  /-- LOG2 (R87). Lane base-2 logarithm. -/
  | log2 (e : Nat) (u : Nat)
  /-- MOVI (R163). Lane move immediate. -/
  | movi (e : Nat) (u : Nat)
  /-- MOVS (R163). Lane move from a scalar register. -/
  | movs (e : Nat) (u : Nat)
  /-- LANEID (R163). Lane number into a register. -/
  | laneid (e : Nat) (u : Nat)
  /-- SEL (R163). Lane select by predicate. -/
  | sel (e : Nat) (u : Nat)
  /-- LD (R163). Lane load from tile memory. -/
  | ld (e : Nat) (u : Nat)
  /-- ST (R163). Lane store to tile memory. -/
  | st (e : Nat) (u : Nat)
  /-- LDX (R163). Lane indexed load. -/
  | ldx (e : Nat) (u : Nat)
  /-- STX (R163). Lane indexed store. -/
  | stx (e : Nat) (u : Nat)
  /-- RED (R114). Cross-lane reduction into a scalar register. -/
  | red (e : Nat) (u : Nat)
  /-- SADD (R89). Scalar 64-bit addition. -/
  | sadd (e : Nat) (u : Nat)
  /-- SSUB (R89). Scalar 64-bit subtraction. -/
  | ssub (e : Nat) (u : Nat)
  /-- SMUL (R89). Scalar 64-bit multiplication. -/
  | smul (e : Nat) (u : Nat)
  /-- SAND (R163). Scalar AND. -/
  | sand (e : Nat) (u : Nat)
  /-- SOR (R163). Scalar OR. -/
  | sor (e : Nat) (u : Nat)
  /-- SXOR (R163). Scalar XOR. -/
  | sxor (e : Nat) (u : Nat)
  /-- SSHL (R163). Scalar shift left. -/
  | sshl (e : Nat) (u : Nat)
  /-- SSHR (R163). Scalar logical shift right. -/
  | sshr (e : Nat) (u : Nat)
  /-- SSRA (R163). Scalar arithmetic shift right. -/
  | ssra (e : Nat) (u : Nat)
  /-- SADDI (R163). Scalar add immediate. -/
  | saddi (e : Nat) (u : Nat)
  /-- SSHLI (R163). Scalar shift left by an immediate. -/
  | sshli (e : Nat) (u : Nat)
  /-- SSHRI (R163). Scalar shift right by an immediate. -/
  | sshri (e : Nat) (u : Nat)
  /-- SLUI (R163). Scalar shift by 28 bits and OR with an immediate. -/
  | slui (e : Nat) (u : Nat)
  /-- SCMP (R163). Scalar compare. -/
  | scmp (e : Nat) (u : Nat)
  /-- SFMIN (R89). Scalar FP32 minimum. -/
  | sfmin (e : Nat) (u : Nat)
  /-- SFMAX (R89). Scalar FP32 maximum. -/
  | sfmax (e : Nat) (u : Nat)
  /-- SFCMP (R89). Scalar FP32 compare. -/
  | sfcmp (e : Nat) (u : Nat)
  /-- SLD (R163). Scalar 8-byte load from tile memory. -/
  | sld (e : Nat) (u : Nat)
  /-- SST (R163). Scalar 8-byte store to tile memory. -/
  | sst (e : Nat) (u : Nat)
  /-- SLDM (R163). Scalar 8-byte load from memory. -/
  | sldm (e u : Nat) (site : SiteAns)
  /-- SSTM (R163). Scalar 8-byte store to memory. -/
  | sstm (e : Nat) (u : Nat)
  /-- SCPYIN (R163). Scalar copy from memory to tile memory. -/
  | scpyin (e u : Nat) (site : SiteAns)
  /-- SCPYOUT (R163). Scalar copy from tile memory to memory. -/
  | scpyout (e : Nat) (u : Nat)
  /-- SFENCE (R163). Waits until the unit's memory accesses are performed. -/
  | sfence (e : Nat) (u : Nat)
  /-- BR (R163). Conditional scalar branch. -/
  | br (e : Nat) (u : Nat)
  /-- JMP (R163). Unconditional jump. -/
  | jmp (e : Nat) (u : Nat)
  /-- BRANY (R163). Branch if the predicate is true in any lane. -/
  | brany (e : Nat) (u : Nat)
  /-- BRALL (R163). Branch if the predicate is true in all lanes. -/
  | brall (e : Nat) (u : Nat)
  /-- END (R165). Ends the stream; the order completes after every stream ends and OUT_BYTES is copied. -/
  | endStream (e : Nat) (u : Nat)
  /-- TALLY_SIGNAL (R168). A write to TALLY_SIGNAL adds AMOUNT, saturating, and judges the pending waits. -/
  | tallySignal (m : Master) (t : Nat) (v : Word)
  /-- TALLY_VALUE (R169). A write to TALLY_VALUE sets the count and judges the pending waits again. -/
  | tallyValue (m : Master) (t : Nat) (v : Word)
  /-- READ (R199). A mesh READ accepted at a memory site is served through the LLC, combining or the stack, with ECC outcomes. -/
  | read (r : MeshReq) (errs : List LineErr)
  /-- WRITE (R201). A mesh WRITE is applied as a normal, partial, alias, site or control write according to its address. -/
  | write (r : MeshReq) (data : Bytes) (poison : Nat) (errs : List LineErr)
  /-- UNCORR_INTERVAL_END (R209). At the end of a 100 µs interval, a withheld MEM_UNCORR is raised. -/
  | uncorrIntervalEnd (n : Nat)
  /-- COMB_WINDOW_CLOSE (R243). A combining entry's window expires and the entry closes. -/
  | combWindowClose (n : Nat) (line : Nat)
  /-- TRACKER_GRANT (R269). A free memory-site tracker is granted to the most urgent waiting request. -/
  | trackerGrant (n : Nat)
  /-- REFRESH (R220). A bank refresh whose deadline has arrived is issued. -/
  | refresh (n : Nat) (ch : Nat) (bank : Nat)
  /-- MEM_TEMP_READING (R219). Every 10 µs the memory site reads the stack sensor, publishes MEM_TEMP, adjusts the refresh rate and passes the reading to the governor. -/
  | memTempReading (n : Nat) (q2 : Option Int)
  /-- PATROL_READ (R206). Harrow reads a stored line for patrol scrub, writing back or poisoning as needed. -/
  | patrolRead (n line : Nat) (errs : List LineErr)
  /-- POST_PACKAGE_REPAIR (R203). A row with repeated corrections is drained, read, soft-repaired onto a spare and rewritten, and MEM_PPR is raised. -/
  | postPackageRepair (ch bank row : Nat) (errs : List LineErr)
  /-- MEM_CH_FAIL (R208). A channel failure poisons every line on the channel and changes the unit map. -/
  | memChFail (ch : Nat) (cause : Nat)
  /-- MEM_SITE_FATAL (R185). A fault in memory-site logic raises MODULE_FATAL. -/
  | memSiteFatal (n : Nat)
  /-- MESH_LINK_RETRY (R277, R278). A flit that fails its CRC is replayed on its link; `again` where the replay fails too. -/
  | meshLinkRetry (plane : Nat) (link : Nat) (again : Bool)
  /-- MESH_PLANE_FAIL (R278). A plane fails: its packets are discarded and answered with ERR_PLANE, and capacities fall. -/
  | meshPlaneFail (plane : Nat)
  /-- MESH_ROUTER_FATAL (R279). Loss of the last plane, or a router fault across planes, is MODULE_FATAL: the mask of
  planes, or the port and tag of a request whose packet carries a reserved COMMAND (R261). -/
  | meshRouterFatal (planes : Nat) (packet : Option (Nat × Nat))
  /-- MESH_TIMEOUT (R271). A port timer expires and synthesises an ERR_TIMEOUT response. -/
  | meshTimeout (port : Nat) (tag : Nat)
  /-- DATA_RESPONSE (R262). A DATA response arrives at its initiator and completes the request with its status. -/
  | dataResponse (port tag : Nat) (site : Bytes)
  /-- COMPLETION_RESPONSE (R262). A COMPLETION response arrives at its initiator. -/
  | completionResponse (port : Nat) (tag : Nat)
  /-- URGENCY_AGE (R267). A waiting packet's urgency increases by 1 after every URG_AGE cycles. -/
  | urgencyAge (port : Nat) (tag : Nat)
  /-- QOS_WINDOW_END (R290). At each 1 µs window boundary the regulators reset and misses are recorded. -/
  | qosWindowEnd
  /-- QOS_COMMIT_GO (R284). A write of GO to QOS_COMMIT runs admission and schedules the commit or reports a failure. -/
  | qosCommitGo (m : Master) (v : Word)
  /-- RD_SHARED (R311). Coherent read to be held in S, handled by the home. -/
  | rdShared (a : Nat) (addr : Nat)
  /-- RD_ANY (R311). Coherent read granted E if there is no other holder, else S. -/
  | rdAny (a : Nat) (addr : Nat)
  /-- RD_OWN (R311). Coherent read for ownership in E. -/
  | rdOwn (a : Nat) (addr : Nat)
  /-- RD_OWN_NODATA (R311). Request for ownership of a line held in S, without data. -/
  | rdOwnNodata (a : Nat) (addr : Nat)
  /-- RD_CURR (R311). Read of the current value, not to be cached. -/
  | rdCurr (a : Nat) (addr : Nat)
  /-- WR_INV (R311). Write by an agent of a line it does not hold, invalidating other copies. -/
  | wrInv (a addr : Nat) (data : Bytes) (poison : Bool)
  /-- EVICT_CLEAN (R313). An agent drops a clean line and receives EVICT_ACK. -/
  | evictClean (a : Nat) (addr : Nat)
  /-- EVICT_DIRTY (R313). An agent evicts a modified line, and its data enters the LLC slice. -/
  | evictDirty (a addr : Nat) (data : Bytes) (poison : Bool)
  /-- GRANT_ACK (R313). The grant is delivered, and the home applies the final state. -/
  | grantAck (a : Nat) (addr : Nat)
  /-- RSP_I (R313). A snoop response reporting I is recorded at the home. -/
  | rspI (a line txn : Nat) (dirty : Option Bytes)
  /-- RSP_S (R313). A snoop response reporting S is recorded at the home. -/
  | rspS (a line txn : Nat) (dirty : Option Bytes)
  /-- RSP_E (R313). A snoop response reporting E is recorded at the home. -/
  | rspE (a line txn : Nat) (dirty : Option Bytes)
  /-- RSP_I_WBP (R313). Invalid with a writeback pending; the home waits in HW for the writeback. -/
  | rspIWbp (a : Nat) (line : Nat) (txn : Nat)
  /-- RSP_LOST (R313). A synthesised lost response removes the agent and poisons owned lines. -/
  | rspLost (a : Nat) (line : Nat) (txn : Nat)
  /-- SNP_INV (R303). Invalidate snoop answered by a caching agent such as CC. -/
  | snpInv (a : Nat) (line : Nat) (txn : Nat)
  /-- SNP_DATA (R303). Downgrade snoop answered by a caching agent. -/
  | snpData (a : Nat) (line : Nat) (txn : Nat)
  /-- SNP_CUR (R303). Current-data snoop answered by a caching agent. -/
  | snpCur (a : Nat) (line : Nat) (txn : Nat)
  /-- HOME_TRANSACTION_START (R310). A request waiting behind an open transaction starts when that transaction ends. -/
  | homeTransactionStart (line : Nat)
  /-- SF_ALLOC_RETRY (R308). A waiting snoop-filter allocation is tried again when a transaction in its set ends. -/
  | sfAllocRetry (line : Nat)
  /-- SNOOP_TIMEOUT (R316). Expiry of the snoop timer loses the agent, as for RSP_LOST. -/
  | snoopTimeout (line : Nat)
  /-- COH_RING_REPLAY (R300). A ring hop that fails its CRC is replayed. -/
  | cohRingReplay (ring : Nat)
  /-- COH_RING_FATAL (R300). A ring that cannot deliver after three replays is MODULE_FATAL. -/
  | cohRingFatal (ring : Nat)
  /-- COH_SF_FATAL (R309). An uncorrectable snoop-filter error raises COH_SF_FATAL. -/
  | cohSfFatal (n : Nat) (uncorrectable : Bool)
  /-- BLUDRIC_FLIT (R333). A flit received on a site link is CRC-checked, ordered, acknowledged and unpacked. -/
  | bludricFlit (n : Nat) (f : SiteFlit)
  /-- CREDIT_STALL (R338). SITE_CREDIT_LIMIT without credit drops the link. -/
  | creditStall (n : Nat)
  /-- SITE_TRAINING (R351). Training of a site's link starts after reset release, a drop, a wake or RETRAIN. -/
  | siteTraining (n : Nat) (p : SiteParam)
  /-- SITE_LINK_UP (R351). Training completes, striping starts and SITE_LINK_UP is raised. -/
  | siteLinkUp (n rate : Nat) (trained : Nat)
  /-- RESET_NOTICE (R359). The chiplet's RESET_NOTICE drops the link at once. -/
  | resetNotice (n : Nat)
  /-- SITE_LINK_DOWN (R359). The link drops: outstanding requests fail, the site is reclaimed and it retrains. -/
  | siteLinkDown (n : Nat) (cause : Nat)
  /-- SITE_LANE_REPAIR (R357). A lane past the error thresholds is repaired, or its module degrades to x32. -/
  | siteLaneRepair (n k lane : Nat) (rx : Bool)
  /-- SITE_UM_FAIL (R358). A module that cannot hold x32 enters FAILED. -/
  | siteUmFail (n : Nat) (k : Nat)
  /-- SITE_RETEST (R354). SITE_CTL.RETEST orders a lane test of the chosen modules. -/
  | siteRetest (m : Master) (n : Nat) (v : Word)
  /-- CHIPLET_RESET (R362). SITE_CTL.CHIPLET_RESET holds SITEn_RST_N low and drops the link. -/
  | chipletReset (m : Master) (n : Nat) (v : Word)
  /-- CHIPLET_RESET_RELEASE (R362). After 1 ms, SITEn_RST_N is released and training follows. -/
  | chipletResetRelease (n : Nat)
  /-- SITE_RETRAIN (R374). SITE_CTL.RETRAIN drops and retrains the link. -/
  | siteRetrain (m : Master) (n : Nat) (v : Word)
  /-- ETH_LINK_UP (R377). The Ethernet link completes training and comes up. -/
  | ethLinkUp (mode : Nat) (lanes : Nat)
  /-- ETH_LINK_DOWN (R378). Loss of link on every lane drops the link. -/
  | ethLinkDown (cause : Nat)
  /-- AUTONEG_TIMEOUT (R377). Without an auto-negotiation page within 500 ms, the port tries the chip-to-module mode, then returns. -/
  | autonegTimeout
  /-- ETH_LANE_FAIL (R380). A lane fails, the link drops and the port falls back or becomes fatal. -/
  | ethLaneFail (l : Nat)
  /-- ETH_RETRAIN (R378). ETH_CFG.RETRAIN drops and retrains the link after 100 µs. -/
  | ethRetrain (m : Master) (v : Word)
  /-- ETH_MODE_CHANGE (R378). A write of ETH_CFG.MODE drops the link and retrains it in the new mode. -/
  | ethModeChange (m : Master) (v : Word)
  /-- FRAME_RECEIVE (R384). A received frame is classified and dropped or dispatched under the first matching row. -/
  | frameReceive (f : Frame)
  /-- ARP_REQUEST (R383). An ARP request for an own address is answered within the rate limit. -/
  | arpRequest (target : Nat) (srcMac : Nat) (srcIp : Nat)
  /-- NEIGHBOR_SOLICITATION (R383). A Neighbor Solicitation for an own address is answered. -/
  | neighborSolicitation (target : Nat) (dst : Nat) (srcMac : Nat) (srcIp : Nat)
  /-- PFC_FRAME (R388). A received PFC frame pauses a lossless priority for its quanta; `quanta` lists those of priorities 0
  on, none where the frame's class-enable vector leaves the priority out. -/
  | pfcFrame (quanta : List (Option Nat))
  /-- PFC_PAUSE_EXPIRY (R388). The pause time of a priority ends. -/
  | pfcPauseExpiry (p : Nat)
  /-- PFC_XOFF_REPEAT (R387). Every 10 µs above XON, the port resends the pause frame. -/
  | pfcXoffRepeat (p : Nat)
  /-- ETH_PFC_STORM (R388). A priority paused for ETH_PFC_WD raises ETH_PFC_STORM. -/
  | ethPfcStorm (p : Nat)
  /-- QP_TO_INIT (R393). A queue pair moves from RESET to INIT. -/
  | qpToInit (m : Master) (q : Nat) (v : Word)
  /-- QP_TO_RTR (R393). A queue pair moves to RTR after its rings are checked. -/
  | qpToRtr (m : Master) (q : Nat) (v : Word)
  /-- QP_TO_RTS (R393). A queue pair moves to RTS with RATE_NOW set to RATE_MAX. -/
  | qpToRts (m : Master) (q : Nat) (v : Word)
  /-- QP_TO_RESET (R393). A queue pair returns to RESET, discarding everything outstanding. -/
  | qpToReset (m : Master) (q : Nat) (v : Word)
  /-- QP_TO_ERROR (R393). A queue pair enters ERROR, flushing its work requests. -/
  | qpToError (m : Master) (q : Nat) (v : Word)
  /-- ETH_QP_SQ_TAIL (R398). The send doorbell posts send work requests. -/
  | ethQpSqTail (m : Master) (q : Nat) (v : Word)
  /-- ETH_QP_RQ_TAIL (R398). The receive doorbell posts receive work requests. -/
  | ethQpRqTail (m : Master) (q : Nat) (v : Word)
  /-- ETH_QP_CQ_HEAD (R398). The consumer index write frees completion slots. -/
  | ethQpCqHead (m : Master) (q : Nat) (v : Word)
  /-- WR_SEND (R396). Send work request SEND. -/
  | wrSend (q : Nat)
  /-- WR_SEND_IMM (R396). Send work request SEND with immediate. -/
  | wrSendImm (q : Nat)
  /-- WR_RDMA_WRITE (R396). Send work request RDMA WRITE. -/
  | wrRdmaWrite (q : Nat)
  /-- WR_RDMA_WRITE_IMM (R396). Send work request RDMA WRITE with immediate. -/
  | wrRdmaWriteImm (q : Nat)
  /-- WR_RDMA_READ (R396). Send work request RDMA READ. -/
  | wrRdmaRead (q : Nat)
  /-- SEND_PACKET (R400). An inbound SEND packet is placed into a posted receive buffer. -/
  | sendPacket (q : Nat) (b : Bth)
  /-- RDMA_WRITE_PACKET (R394). An inbound RDMA WRITE packet is checked against its window and applied at most once. -/
  | rdmaWritePacket (q : Nat) (b : Bth)
  /-- RDMA_READ_REQUEST (R394). An inbound RDMA READ request is checked and answered with response packets. -/
  | rdmaReadRequest (q : Nat) (b : Bth)
  /-- RDMA_READ_RESPONSE (R399). An RDMA READ response packet places its data locally. -/
  | rdmaReadResponse (q : Nat) (b : Bth)
  /-- ACKNOWLEDGE (R401). An ACK or NAK advances, resends or fails the requester's messages. -/
  | acknowledge (q psn : Nat) (a : Ack) (sack : List Nat)
  /-- CNP (R406). A congestion notification cuts the queue pair's rate. -/
  | cnp (q : Nat)
  /-- ACK_TIMEOUT (R401). No progress for the ACK timeout resends from the oldest unacknowledged PSN. -/
  | ackTimeout (q : Nat)
  /-- RISE_PERIOD (R406). At the end of each RISE_PERIOD_US, queue pairs that saw no CNP raise their rates. -/
  | risePeriod
  /-- IDLE_RESET (R406). An idle queue pair's rate resets to RATE_MAX. -/
  | idleReset (q : Nat)
  /-- INGEST_DATAGRAM (R410). An ingest row is written into its slot, dropped, or opens a new slot. -/
  | ingestDatagram (udpPort srcIp : Nat) (payload : Bytes)
  /-- SLOT_TIMEOUT (R411). SLOT_US after its first row, a slot closes with cause 2. -/
  | slotTimeout (k : Nat)
  /-- INGEST_ENABLE (R407). Enabling a stream checks its rings and port and resets its indices. -/
  | ingestEnable (m : Master) (k : Nat) (v : Word)
  /-- INGEST_DISABLE (R407). Disabling a stream closes its open slots with cause 3. -/
  | ingestDisable (m : Master) (k : Nat) (v : Word)
  /-- NEIGHBOUR_BIND (R419). Making a neighbour entry valid binds its queue pair to the Sheaf context. -/
  | neighbourBind (m : Master) (x i : Nat) (v : Word)
  /-- SHEAF_START (R427). START is checked and begins a run by sending READY to the neighbours. -/
  | sheafStart (m : Master) (x : Nat) (v : Word)
  /-- SHEAF_CANCEL (R436). CANCEL ends a running run with CANCELLED and sends ABORTs. -/
  | sheafCancel (m : Master) (x : Nat) (v : Word)
  /-- READY (R424). A READY message is latched for its neighbour entry. -/
  | ready (q : Nat) (imm : BitVec 32)
  /-- SHEAF_DATA (R428). An arriving DATA segment is checked and may release onward segments or end the run. -/
  | sheafData (q : Nat) (imm : BitVec 32)
  /-- LAG (R434). A received LAG extends the progress deadline and is forwarded. -/
  | lag (q : Nat) (imm : BitVec 32)
  /-- ABORT (R436). An arriving ABORT ends the run with PEER_ABORT. -/
  | abort (q : Nat) (imm : BitVec 32)
  /-- PROGRESS_DEADLINE (R432). The progress deadline passes and the run ends with PEER_TIMEOUT. -/
  | progressDeadline (x : Nat)
  /-- LAG_REPEAT (R433). While half issue lasts, LAG is resent every LAG_MS / 2. -/
  | lagRepeat (x : Nat)
  /-- HEADLAND_DATAGRAM (R446). A datagram on port 20054 is dropped, answered or accepted into its session's order. -/
  | headlandDatagram (d : Datagram)
  /-- DISCOVER (R447). DISCOVER is answered with the module's identity, within the rate limit. -/
  | discover (d : Datagram)
  /-- ATTEST (R493). ATTEST returns a signed attestation report. -/
  | attest (n : Nat)
  /-- SESSION_OPEN (R491). SESSION_OPEN checks the credential and opens a session with a fresh key. -/
  | sessionOpen (srcIp : Nat) (srcPort : Nat) (tag : Nat)
  /-- SESSION_OPEN_PARTS_TIMEOUT (R445). An incomplete SESSION_OPEN whose parts miss the 100 ms limit is discarded. -/
  | sessionOpenPartsTimeout (srcIp : Nat) (srcPort : Nat) (tag : Nat)
  /-- SESSION_CLOSE (R452). SESSION_CLOSE closes a session and releases its claims, locks and subscription. -/
  | sessionClose (n : Nat)
  /-- SESSION_IDLE_TIMEOUT (R452). A session idle for IDLE_S closes with cause 2. -/
  | sessionIdleTimeout (n : Nat)
  /-- SESSION_UNCONFIRMED_TIMEOUT (R452). A session with no command within 10 s of opening closes with cause 5. -/
  | sessionUnconfirmedTimeout (n : Nat)
  /-- REG_READ (R456). REG_READ returns COUNT registers. -/
  | regRead (n : Nat)
  /-- REG_POLL (R458). REG_POLL reads a register until it meets the condition. -/
  | regPoll (n : Nat)
  /-- REG_POLL_LIMIT (R458). REG_POLL reaches LIMIT_US and is answered with TIMEOUT. -/
  | regPollLimit (n : Nat)
  /-- FW_START_RUN (R527). FW_START with MODE 0 verifies the image and starts the cores. -/
  | fwStartRun (n : Nat)
  /-- FW_START_VERIFY (R527). FW_START with MODE 1 verifies the image only. -/
  | fwStartVerify (n : Nat)
  /-- FW_START_CLEAR (R527). FW_START with MODE 3 clears the staged and retained digests. -/
  | fwStartClear (n : Nat)
  /-- TRAIN (R532). TRAIN starts full training of the named stacks and sites. -/
  | train (n : Nat)
  /-- RECORD_REPLAY (R534). RECORD_REPLAY loads record chunks; at LAST the record is checked and replayed. -/
  | recordReplay (n : Nat)
  /-- PLOT_CREATE (R501). PLOT_CREATE is judged and creates a plot with its key, map and resources. -/
  | plotCreate (n : Nat)
  /-- PLOT_TEARDOWN (R508). PLOT_TEARDOWN begins the teardown of a plot. -/
  | plotTeardown (n : Nat)
  /-- PLOT_SCRUBBED (R508). A teardown ends its scrub, returns the resources and closes the plot's sessions. -/
  | plotScrubbed (p : Nat)
  /-- QOS_COMMIT (R284). The Headland command QOS_COMMIT runs a commit. -/
  | qosCommit (n : Nat)
  /-- MBOX_POST (R472). MBOX_POST posts a message from a Headland sender. -/
  | mboxPost (n : Nat)
  /-- MBOX_TAKE (R474). MBOX_TAKE takes a message as receiver or clears the channel as sender. -/
  | mboxTake (n : Nat)
  /-- MBOX_ACK (R472). MBOX_ACK acknowledges a message with a return code. -/
  | mboxAck (n : Nat)
  /-- DOORBELL (R473). HL_MBOX_CTL ACTION 1 posts the slot contents and records the sender. -/
  | doorbell (m : Master) (ch : Nat) (v : Word)
  /-- TAKE (R472). HL_MBOX_CTL ACTION 2 takes a posted message. -/
  | take (m : Master) (ch : Nat) (v : Word)
  /-- ACK (R472). HL_MBOX_CTL ACTION 3 acknowledges a message. -/
  | ack (m : Master) (ch : Nat) (v : Word)
  /-- CLEAR (R472). HL_MBOX_CTL ACTION 4 returns the channel to EMPTY. -/
  | clear (m : Master) (ch : Nat) (v : Word)
  /-- HL_MBOX_BIND_SRC (R471). The first accepted write loads and locks the mailbox binding table. -/
  | hlMboxBindSrc (m : Master) (v : Word)
  /-- EVENT_SUBSCRIBE (R467). EVENT_SUBSCRIBE replaces the subscription and may replay events. -/
  | eventSubscribe (n : Nat)
  /-- EVENT_SEND (R469). A raised event is sent to each subscribed session while the link is up. -/
  | eventSend (n : Nat)
  /-- CLAIM (R463). CLAIM takes a shared resource. -/
  | claim (n : Nat)
  /-- RELEASE (R463). RELEASE frees a held resource. -/
  | release (n : Nat)
  /-- HELD_CLAIM (R463). An on-module write of HELD = 1 claims a resource. -/
  | heldClaim (m : Master) (k : Nat)
  /-- HELD_RELEASE (R463). An on-module write of HELD = 0 releases a resource. -/
  | heldRelease (m : Master) (k : Nat)
  /-- LOCK (R465). LOCK holds a block or resource against other sessions. -/
  | lock (n : Nat)
  /-- UNLOCK (R465). UNLOCK releases a lock. -/
  | unlock (n : Nat)
  /-- RESET_DEVICE (R460). RESET_DEVICE is answered, aborts other commands and schedules a whole reset. -/
  | resetDevice (n : Nat)
  /-- DEBUG_HALT (R595). DEBUG_HALT with ACTION 0 halts an engine or CC core. -/
  | debugHalt (n : Nat)
  /-- DEBUG_RESUME (R595). DEBUG_HALT with ACTION 1 resumes a halted unit. -/
  | debugResume (n : Nat)
  /-- DEBUG_STEP (R595). DEBUG_HALT with ACTION 2 steps a halted unit. -/
  | debugStep (n : Nat)
  /-- SEC_LC_REQ (R480). A life-cycle transition request is checked, blows the fuses and ends in a whole reset. -/
  | secLcReq (m : Master) (v : Word)
  /-- OWNER_PROGRAM (R487). SEC_OWNER_PROG ACTION 1 blows an owner key slot. -/
  | ownerProgram (m : Master) (v : Word)
  /-- OWNER_REVOKE (R487). SEC_OWNER_PROG ACTION 2 revokes an owner key slot. -/
  | ownerRevoke (m : Master) (v : Word)
  /-- FW_MIN_SVN_RAISE (R487). SEC_OWNER_PROG ACTION 3 raises FW_MIN_SVN by one. -/
  | fwMinSvnRaise (m : Master) (v : Word)
  /-- MAKE_COMMON (R503). SEC_COMMON_REQ ACTION 1 makes a granule common. -/
  | makeCommon (m : Master) (v : Word)
  /-- RELEASE_COMMON (R503). SEC_COMMON_REQ ACTION 2 releases a common granule and its twin. -/
  | releaseCommon (m : Master) (v : Word)
  /-- SEC_RETIRE_PROG (R489). A write of GO blows a retirement fuse entry. -/
  | secRetireProg (m : Master) (v : Word)
  /-- SB_FATAL (R484). An entropy health failure stops the DRBG and is MODULE_FATAL. -/
  | sbFatal (cause : Nat)
  /-- PMBUS_POLL (R547). Every 5 ms the hub reads the voltage, current and temperature of every rail that is on. -/
  | pmbusPoll (readings : List RailReading)
  /-- PMB_ALERT (R547). A falling PMB_ALERT_N makes the hub read STATUS_WORD of every rail. -/
  | pmbAlert (words : List (Nat × Nat))
  /-- PWR_RAIL_FAULT (R548). A rail fault fails the engine or site, or starts the protective stop. -/
  | pwrRailFault (r : Nat) (statusWord : Nat)
  /-- HUB_SENSOR_READING (R552). Every 10 µs the zone's junction sensors are read, and HOT and TRIP act at once. -/
  | hubSensorReading (z : Nat) (readings : List (Option Int))
  /-- GOVERNOR_TICK (R556). Every 100 µs the governor applies levels, caps, half issue and the power limit. -/
  | governorTick (est : List Nat)
  /-- GRACE_EXPIRY (R557). GRACE_MS elapses and the collective grace ends. -/
  | graceExpiry (z : Nat)
  /-- CAP_RISE (R556). After each RISE_MS, a thermal or power cap rises by one step. -/
  | capRise (z : Nat)
  /-- DVFS_CHANGE_DONE (R551). A change of DVFS step completes once the voltage settles and the clock changes. -/
  | dvfsChangeDone (e : Nat)
  /-- SITE_POWER_AVERAGE (R563). The 10 ms site power average is compared with LIMIT_W. -/
  | sitePowerAverage (n : Nat) (avgW : Nat) (peakW : Nat)
  /-- TEL_SNAP (R578). TEL_SNAP_CTL.GO captures all domain counters against one AON edge. -/
  | telSnap (m : Master) (v : Word)
  /-- TEL_CO_OPEN (R579). OPEN turns LLC ways 14 and 15 into the telemetry carve-out. -/
  | telCoOpen (m : Master) (v : Word)
  /-- TEL_CO_CLOSE (R579). CLOSE stops the carve-out's users, zeroes it and returns the ways. -/
  | telCoClose (m : Master) (v : Word)
  /-- TEL_CO_REGION (R580). A carve-out region write is checked and defines a user's region. -/
  | telCoRegion (m : Master) (i : Nat) (v : Word)
  /-- TEL_EXPORT (R583). TEL_EXPORT.GO copies carve-out bytes to physical memory. -/
  | telExport (m : Master) (v : Word)
  /-- TEL_EXPORT_DONE (R583). The export copy completes. -/
  | telExportDone
  /-- GLEAN_SAMPLE (R586). A Glean monitor samples its level every PERIOD_US. -/
  | gleanSample (k : Nat)
  /-- GLEAN_EPOCH (R587). At the end of EPOCH_US a monitor writes its histogram record and clears its bins. -/
  | gleanEpoch (k : Nat)
  /-- PRB_CFG (R589). A probe configuration write is checked against the claims and enables the probe. -/
  | prbCfg (m : Master) (k : Nat) (v : Word)
  /-- DBG_DATA (R594). A DBG_DATA access transfers 8 bytes of a selected store and advances the offset. -/
  | dbgData (m : Master) (w : Option Word)
  /-- ATB_CFG (R598). An ATB_CFG write by the pin's holder connects a node or forces a current. -/
  | atbCfg (m : Master) (j : Nat) (v : Word)
  /-- EXTEST (R596). JTAG EXTEST drives the pins from the boundary cells. -/
  | extest (dr : Nat)
  /-- SAMPLE_PRELOAD (R596). JTAG SAMPLE/PRELOAD captures the pin states. -/
  | samplePreload (dr : Nat)
  /-- IDCODE (R596). JTAG IDCODE selects the identification register. -/
  | idcode
  /-- CLAMP (R596). JTAG CLAMP holds the pins at their preloaded values. -/
  | clamp
  /-- HIGHZ (R596). JTAG HIGHZ releases the pins to high impedance. -/
  | highz
  /-- IJTAG (R596). JTAG IJTAG selects the IEEE 1687 network. -/
  | ijtag
  /-- BYPASS (R596). JTAG BYPASS selects the one-bit register. -/
  | bypass
  /-- TRST_N (R624). TRST_N low resets the TAP. -/
  | trstN
  /-- MGMT_WRITE_INDEX (R622). An I²C write to the management port sets INDEX. -/
  | mgmtWriteIndex (bytes : Bytes)
  /-- MGMT_READ (R622). An I²C read returns the latched register named by INDEX, with PEC. -/
  | mgmtRead (n : Nat)
  /-- SITE_FAIL (R355). Site training ends in failure: parameter exchange still disagrees after three attempts, or no rate reaches three modules, and the site enters FAILED. -/
  | siteFail (n : Nat) (cause : Nat)
  /-- CHANNEL_RETRAIN (R208). A command or data-path parity or training error on a memory channel blocks the channel and retrains it for up to 20 µs. -/
  | channelRetrain (ch : Nat) (cleared : Bool)
  /-- TEL_CO_STATE (R579). The carve-out open or close finishes its write-back and zeroing, and STATE leaves 1 (changing). -/
  | telCoState
  /-- COMMON_REQUEST_DONE (R503). Harrow finishes rewriting a granule for a make-common or release request, and SEC_COMMON_RESULT goes from running to done. -/
  | commonRequestDone
  /-- FUSE_BLOW_DONE (R489). An owner-slot, revocation, FW_MIN_SVN or retirement fuse blow finishes within 2 ms, ending the running state in which a second write gets BUSY. -/
  | fuseBlowDone
  /-- SNAP_CAPTURE_DONE (R578). A counter capture completes within 2 µs, after which a new GO is no longer ignored. -/
  | snapCaptureDone
  /-- TEST_LOGIC_RESET_EXIT (R512). The TAP leaves Test-Logic-Reset under TCK and TMS, and JTAG_SEEN is set. -/
  | testLogicResetExit
  /-- ATB_NEW_CONNECTION (R598). 10 µs after a change of NODE or MODE, the ATB pin leaves high impedance and the new connection is made. -/
  | atbNewConnection (j : Nat)
  /-- TRIG_OUT_PULSE_END (R589). 20 ns after a probe trigger drives TRIG_OUT high, the pin returns low. -/
  | trigOutPulseEnd
  deriving DecidableEq, Repr

end Sys2Proof
end

