-- ==== Sys2Proof/Decode.lean ====
section
/-! DEFINITION. The rows of spec/opcode_table.json carry no bits: a command arrives as an event, not as a word. -/

namespace Sys2Proof

/-- The command a word spells by the table's bits: no row of the table gives any, so no word spells one. -/
def decodeTableWord (_nbits _w : Nat) : Option Instr := none

end Sys2Proof
end

