-- ==== Sys2Proof/Config.lean ====
section
/-! DEFINITION. What the manual leaves open and what it takes from published algorithms: constants without a body, so
that nothing in Lean can evaluate them and every statement holds whatever they are. -/

namespace Sys2Proof.Config

/-- DESIGN CHOICE (log 4): a fresh free number, applied to the step's counter. -/
opaque free : Nat → Nat

/-- A memory key by its instance: SB generates each on chip, and no master can read one (05 R215). -/
opaque memKey : Nat → List (BitVec 8)

/-- AES-256-XTS encryption of a 64-byte data unit, four AES blocks (05 R214): key, 16-byte tweak, plaintext. -/
opaque xtsEncrypt : List (BitVec 8) → List (BitVec 8) → List (BitVec 8) → List (BitVec 8)

/-- AES-256-XTS decryption of a 64-byte data unit (05 R214): key, 16-byte tweak, ciphertext. Nothing is assumed of what
another key than the one it was written under makes of a line (13 R502; log 5). -/
opaque xtsDecrypt : List (BitVec 8) → List (BitVec 8) → List (BitVec 8) → List (BitVec 8)

/-- The eight check symbols of 64 data symbols in the RS(72,64) code over GF(2^8) (05 R196), whose generator the manual does
not give (log 82). -/
opaque rsCheck : List (BitVec 8) → List (BitVec 8)

/-- What the reserved poison coset of the RS(72,64) code adds to a codeword (05 R198): 72 symbols, which the manual does not
give (log 82). -/
opaque poisonCoset : List (BitVec 8)

/-- DESIGN CHOICE (log 7): the bank and row of a channel-local address (05 R189: chosen by the memory site). -/
opaque bankRow : Nat → Nat × Nat

/-- The AES-256-GCM tag of an empty plaintext (12 R444): key, nonce, additional data; 16 bytes. -/
opaque gcmTag : List (BitVec 8) → List (BitVec 8) → List (BitVec 8) → List (BitVec 8)

/-- SLH-DSA-SHA2-128f verification (13 R483): public key, message, signature. -/
opaque slhVerify : List (BitVec 8) → List (BitVec 8) → List (BitVec 8) → Bool

/-- SLH-DSA-SHA2-128f signing with the key pair of a seed (13 R483, R485): seed, message. -/
opaque slhSign : List (BitVec 8) → List (BitVec 8) → List (BitVec 8)

/-- The public key of a 48-byte seed (13 R485). -/
opaque slhPublic : List (BitVec 8) → List (BitVec 8)

/-- The encapsulation-key check of FIPS 203 (13 R491). -/
opaque mlkemCheck : List (BitVec 8) → Bool

/-- ML-KEM-768 encapsulation (13 R492): encapsulation key and the random 32 bytes give ciphertext and secret. -/
opaque mlkemEncaps : List (BitVec 8) → List (BitVec 8) → List (BitVec 8) × List (BitVec 8)

/-- The Noveig life-cycle public key (13 R479, R486). -/
opaque lifeCycleKey : List (BitVec 8)

/-- The digests of FK0-FK3 in the mask ROM (13 R486). -/
opaque fwKeyHash : Nat → List (BitVec 8)

/-- Random bytes of SB's generator (13 R483): the draw's number and how many bytes. -/
opaque random : Nat → Nat → List (BitVec 8)

/-- The timer code of a receiver-not-ready NAK (10 R398): the spec names no timer. -/
opaque rnrTimer : BitVec 5

/-- Training parameters of a channel's 256-byte record entry (14 R536): channel, generation, byte. -/
opaque trainParam : Nat → Nat → Nat → BitVec 8

/-- DETAIL of an event (12 R468), 32 bytes: the chapters say which values it carries and not at which bytes (log 57): event
code, values. -/
opaque eventDetail : Nat → List Nat → List (BitVec 8)

/-- Which of two pending terms an accumulation adds next (02 R70): the step's counter, terms left. -/
opaque addOrder : Nat → Nat → Nat × Nat

/-- Where a special function's result lies within its error bound (02 R87): function, operand, candidates. -/
opaque ulpError : Nat → Nat → Nat → Nat

end Sys2Proof.Config
end

