-- ==== Sys2Proof/Machine/Bits.lean ====
section
/-! DEFINITION. Bit fields and byte order of plain numbers: registers, packets and memory structures are assembled
and taken apart here, once. -/

namespace Sys2Proof.Machine

/-- Bits [hi:lo] of a number. -/
def bits (v hi lo : Nat) : Nat := v / 2 ^ lo % 2 ^ (hi + 1 - lo)

/-- Bit `i` of a number. -/
def bit (v i : Nat) : Bool := v / 2 ^ i % 2 == 1

/-- A number with bits [hi:lo] replaced. -/
def putBits (v hi lo x : Nat) : Nat :=
  v / 2 ^ (hi + 1) * 2 ^ (hi + 1) + x % 2 ^ (hi + 1 - lo) * 2 ^ lo + v % 2 ^ lo

/-- A number with bit `i` set or cleared. -/
def setBit (v i : Nat) (b : Bool) : Nat := putBits v i i (if b then 1 else 0)

/-- 1 for true. -/
def b2n (b : Bool) : Nat := if b then 1 else 0

/-- The number a little-endian byte string spells (00 R9). -/
def leNat : Bytes → Nat
  | [] => 0
  | b :: t => b.toNat + 256 * leNat t

/-- `n` little-endian bytes of a number (00 R9). -/
def leBytes : Nat → Nat → Bytes
  | 0, _ => []
  | n + 1, v => BitVec.ofNat 8 v :: leBytes n (v / 256)

/-- The number a big-endian byte string spells (00 R10). -/
def beNat (b : Bytes) : Nat := leNat b.reverse

/-- `n` big-endian bytes of a number (00 R10). -/
def beBytes (n v : Nat) : Bytes := (leBytes n v).reverse

/-- `n` bytes of a string from byte `o` on; bytes past its end read as zero. -/
def slice (b : Bytes) (o n : Nat) : Bytes :=
  let t := (b.drop o).take n
  t ++ List.replicate (n - t.length) 0

/-- A little-endian field of a byte string: `n` bytes at offset `o`. -/
def leAt (b : Bytes) (o n : Nat) : Nat := leNat (slice b o n)

/-- A big-endian field of a byte string: `n` bytes at offset `o`. -/
def beAt (b : Bytes) (o n : Nat) : Nat := beNat (slice b o n)

/-- Replaces bytes of a string from offset `o` on. -/
def patch (b : Bytes) (o : Nat) (new : Bytes) : Bytes :=
  b.take o ++ new ++ b.drop (o + new.length)

/-- Number of bits set among the low `n`. -/
def popCount : Nat → Nat → Nat
  | 0, _ => 0
  | n + 1, v => v % 2 + popCount n (v / 2)

/-- Smallest n with 2^n at least v. -/
def ceilLog2 (v : Nat) : Nat := if v ≤ 1 then 0 else Nat.log2 (v - 1) + 1

/-- Quotient rounded up. -/
def ceilDiv (a b : Nat) : Nat := (a + b - 1) / b

/-- Least multiple of `b` at or above `a`. -/
def alignUp (a b : Nat) : Nat := ceilDiv a b * b

/-- Saturating count (00 R630): `x` more, stopping at the largest `w`-bit value. -/
def satAdd (w v x : Nat) : Nat := min (v + x) (2 ^ w - 1)

/-- A 64-bit or narrower field read as two's complement. -/
def asInt (w v : Nat) : Int := if v % 2 ^ w < 2 ^ (w - 1) then (v % 2 ^ w : Nat) else (v % 2 ^ w : Nat) - (2 ^ w : Nat)

/-- The two's complement encoding of an integer in `w` bits. -/
def ofInt (w : Nat) (i : Int) : Nat := (i % (2 ^ w : Nat)).toNat

/-- Members of a bit mask among 0 .. n-1. -/
def maskList (n v : Nat) : List Nat := (List.range n).filter (bit v)

/-- The mask whose members are listed. -/
def maskOf (l : List Nat) : Nat := l.foldl (fun a i => setBit a i true) 0

/-- Replaces the element at a position (nothing past the end). -/
def listSet {α : Type} (l : List α) (i : Nat) (v : α) : List α := l.set i v

/-- Bitwise exclusive or of equal-length byte strings. -/
def xorBytes (a b : Bytes) : Bytes := List.zipWith (· ^^^ ·) a b

end Sys2Proof.Machine
end

