-- ==== Sys2Proof/Machine/Flags.lean ====
section
/-! DEFINITION. The exception flags of a work order (02 R90), as the 4-bit field of its completion record. -/

namespace Sys2Proof.Machine

/-- INVALID: a NaN from inputs none of which is NaN, or a NaN converted to an integer. -/
def flInvalid : Nat := 1

/-- OVERFLOW: an FP32 result rounds to infinity from finite operands. -/
def flOverflow : Nat := 2

/-- SATURATED: an output conversion or INT32 accumulator clamps. -/
def flSaturated : Nat := 4

/-- NAN_IN: a NaN read from storage is used in arithmetic or conversion. -/
def flNanIn : Nat := 8

/-- Whether INVALID is among the flags. -/
def hasInvalid (fl : Nat) : Bool := bit fl 0

end Sys2Proof.Machine
end

