-- ==== Sys2Proof/Machine/Float.lean ====
section
/-! DEFINITION. Number formats and arithmetic (02): exact values, rounding once to nearest even, conversion, block
scales, accumulation in an unspecified order. -/

namespace Sys2Proof.Machine

/-! ### Exact values -/

/-- An exact value: NaN, an infinity, or (−1)^neg × man × 2^exp; `man` 0 is a signed zero. -/
inductive Fv where
  | nan
  | inf (neg : Bool)
  | fin (neg : Bool) (man : Nat) (exp : Int)
  deriving DecidableEq, Repr

/-- Positive zero. -/
def Fv.zero : Fv := .fin false 0 0

/-- The exact value of an integer. -/
def Fv.ofInt (i : Int) : Fv := .fin (decide (i < 0)) i.natAbs 0

/-- Whether a value is NaN. -/
def Fv.isNan : Fv → Bool
  | .nan => true
  | _ => false

/-- Whether a value is finite. -/
def Fv.isFin : Fv → Bool
  | .fin _ _ _ => true
  | _ => false

/-- Sign of a value. -/
def Fv.neg : Fv → Bool
  | .nan => false
  | .inf n => n
  | .fin n _ _ => n

/-- The value with its sign changed. -/
def Fv.negate : Fv → Fv
  | .nan => .nan
  | .inf n => .inf !n
  | .fin n m e => .fin (!n) m e

/-- The value times a power of two. -/
def Fv.scale (v : Fv) (k : Int) : Fv :=
  match v with
  | .fin n m e => .fin n m (e + k)
  | x => x

/-- Signed mantissa at a common exponent. -/
def signedAt (n : Bool) (m : Nat) (e lo : Int) : Int :=
  let v : Int := ((m * 2 ^ (e - lo).toNat : Nat) : Int)
  if n then -v else v

/-- Exact sum with 02 R75's zero sign: value and INVALID for infinities of opposite sign. -/
def Fv.add (a b : Fv) : Fv × Nat :=
  match a, b with
  | .nan, _ => (.nan, 0)
  | _, .nan => (.nan, 0)
  | .inf x, .inf y => if x = y then (.inf x, 0) else (.nan, flInvalid)
  | .inf x, .fin _ _ _ => (.inf x, 0)
  | .fin _ _ _, .inf y => (.inf y, 0)
  | .fin na ma ea, .fin nb mb eb =>
    let lo := min ea eb
    let v := signedAt na ma ea lo + signedAt nb mb eb lo
    if v = 0 then (.fin (na && nb && decide (ma = 0) && decide (mb = 0)) 0 0, 0)
    else (.fin (decide (v < 0)) v.natAbs lo, 0)

/-- Exact product with 02 R75's zero sign: value and INVALID for 0 × ∞. -/
def Fv.mul (a b : Fv) : Fv × Nat :=
  match a, b with
  | .nan, _ => (.nan, 0)
  | _, .nan => (.nan, 0)
  | .inf x, .inf y => (.inf (x != y), 0)
  | .inf x, .fin n m _ => if m = 0 then (.nan, flInvalid) else (.inf (x != n), 0)
  | .fin n m _, .inf y => if m = 0 then (.nan, flInvalid) else (.inf (n != y), 0)
  | .fin na ma ea, .fin nb mb eb => (.fin (na != nb) (ma * mb) (ea + eb), 0)

/-- Order of two values neither of which is NaN; −0 equals +0 (02 R86). -/
def Fv.lt (a b : Fv) : Bool :=
  match a, b with
  | .nan, _ => false
  | _, .nan => false
  | .inf x, .inf y => x && !y
  | .inf x, .fin _ _ _ => x
  | .fin _ _ _, .inf y => !y
  | .fin na ma ea, .fin nb mb eb =>
    let lo := min ea eb
    decide (signedAt na ma ea lo < signedAt nb mb eb lo)

/-- Equality of value (02 R86): false with a NaN. -/
def Fv.eqv (a b : Fv) : Bool := !a.isNan && !b.isNan && !a.lt b && !b.lt a

/-- Minimum (02 R86): canonical NaN with a NaN operand, −0 for zeros of opposite sign. -/
def Fv.min2 (a b : Fv) : Fv :=
  if a.isNan || b.isNan then .nan
  else if a.lt b then a else if b.lt a then b else if a.neg then a else b

/-- Maximum (02 R86): canonical NaN with a NaN operand, +0 for zeros of opposite sign. -/
def Fv.max2 (a b : Fv) : Fv :=
  if a.isNan || b.isNan then .nan
  else if a.lt b then b else if b.lt a then a else if a.neg then b else a

/-! ### Floating-point formats (02 R57, R58) -/

/-- A floating-point format: exponent bits, mantissa bits, bias; whether it has infinities; `nanOnly` marks E4M3, whose
one NaN is all ones; `noSpecial` marks E2M1. -/
structure FFmt where
  ebits : Nat
  mbits : Nat
  bias : Int
  nanOnly : Bool := false
  noSpecial : Bool := false
  deriving DecidableEq, Repr

def e2m1 : FFmt := { ebits := 2, mbits := 1, bias := 1, noSpecial := true }
def e4m3 : FFmt := { ebits := 4, mbits := 3, bias := 7, nanOnly := true }
def e5m2 : FFmt := { ebits := 5, mbits := 2, bias := 15 }
def fp16 : FFmt := { ebits := 5, mbits := 10, bias := 15 }
def bf16 : FFmt := { ebits := 8, mbits := 7, bias := 127 }
def fp32 : FFmt := { ebits := 8, mbits := 23, bias := 127 }

/-- Bits of a code without its sign. -/
def FFmt.mag (k : FFmt) : Nat := k.ebits + k.mbits

/-- Code of infinity, without sign. -/
def FFmt.infCode (k : FFmt) : Nat := (2 ^ k.ebits - 1) * 2 ^ k.mbits

/-- Largest finite code, without sign (02 R58). -/
def FFmt.maxCode (k : FFmt) : Nat :=
  if k.noSpecial then 2 ^ k.mag - 1 else if k.nanOnly then 2 ^ k.mag - 2 else k.infCode - 1

/-- Canonical NaN code (02 R58, R76). -/
def FFmt.nanCode (k : FFmt) : Nat :=
  if k.nanOnly then 2 ^ k.mag - 1 else k.infCode + 2 ^ (k.mbits - 1)

/-- The value a code stands for (02 R57, R59). -/
def FFmt.decode (k : FFmt) (code : Nat) : Fv :=
  let n := bit code k.mag
  let c := code % 2 ^ k.mag
  let e := c / 2 ^ k.mbits
  let m := c % 2 ^ k.mbits
  if k.nanOnly && decide (c = 2 ^ k.mag - 1) then .nan
  else if !k.nanOnly && !k.noSpecial && decide (e = 2 ^ k.ebits - 1) then if m = 0 then .inf n else .nan
  else if e = 0 then .fin n m (1 - k.bias - k.mbits)
  else .fin n (2 ^ k.mbits + m) (e - k.bias - k.mbits)

/-- Quotient rounded to nearest, ties to even (02 R73). -/
def rneDiv (a d : Nat) : Nat :=
  let q := a / d
  let r := a % d
  if d < 2 * r then q + 1 else if 2 * r = d then q + q % 2 else q

/-- man × 2^exp rounded to nearest even at quantum 2^q: the multiple of 2^q. -/
def roundAt (man : Nat) (exp q : Int) : Nat :=
  if q ≤ exp then man * 2 ^ (exp - q).toNat else rneDiv man (2 ^ (q - exp).toNat)

/-- Code without sign of man × 2^exp rounded once to a format, as if its exponents had no upper limit (02 R73, R78). -/
def FFmt.roundMag (k : FFmt) (man : Nat) (exp : Int) : Nat :=
  if man = 0 then 0
  else
    let top : Int := exp + (Nat.log2 man : Int)
    let q : Int := max (top - k.mbits) (1 - k.bias - k.mbits)
    let m := roundAt man exp q
    (q - (1 - k.bias - k.mbits)).toNat * 2 ^ k.mbits + m

/-- Adds the sign bit to a code. -/
def FFmt.signed (k : FFmt) (n : Bool) (c : Nat) : Nat := if n then 2 ^ k.mag + c else c

/-- Rounds an arithmetic result to FP32 or BF16: a magnitude past the largest finite becomes an infinity (02 R73);
code, and whether finite operands overflowed. -/
def FFmt.roundArith (k : FFmt) (v : Fv) : Nat × Bool :=
  match v with
  | .nan => (k.nanCode, false)
  | .inf n => (k.signed n k.infCode, false)
  | .fin n m e =>
    let c := k.roundMag m e
    if k.maxCode < c then (k.signed n k.infCode, true) else (k.signed n c, false)

/-- Converts to a float format (02 R78, R80): code and flags. -/
def FFmt.conv (k : FFmt) (v : Fv) : Nat × Nat :=
  match v with
  | .nan => (k.nanCode, 0)
  | .inf n => if k.nanOnly then (k.nanCode, flInvalid) else (k.signed n k.infCode, 0)
  | .fin n m e =>
    let c := k.roundMag m e
    if k.maxCode < c then (k.signed n k.maxCode, flSaturated) else (k.signed n c, 0)

/-- Rounds an exact finite value to an integer, ties to even. -/
def roundInt (n : Bool) (m : Nat) (e : Int) : Int :=
  let r : Int := ((roundAt m e 0 : Nat) : Int)
  if n then -r else r

/-- Clamps an integer to `w` bits of two's complement (02 R79): value and whether it was clamped. -/
def clampInt (w : Nat) (i : Int) : Int × Bool :=
  let hi : Int := 2 ^ (w - 1) - 1
  let lo : Int := -(2 ^ (w - 1))
  if hi < i then (hi, true) else if i < lo then (lo, true) else (i, false)

/-- Converts to a `w`-bit integer format (02 R78-R80): code and flags. -/
def convInt (w : Nat) (v : Fv) : Nat × Nat :=
  match v with
  | .nan => (0, flInvalid)
  | .inf n => (ofInt w (if n then -(2 ^ (w - 1)) else 2 ^ (w - 1) - 1), flSaturated)
  | .fin n m e =>
    let (i, c) := clampInt w (roundInt n m e)
    (ofInt w i, if c then flSaturated else 0)

/-! ### Format codes (02 R54) -/

/-- Bits of an element. -/
def fmtBits (f : Nat) : Nat := if f ≤ 2 then 4 else if f ≤ 8 then 8 else if f ≤ 10 then 16 else 32

/-- Whether a format code is listed. -/
def fmtOk (f : Nat) : Bool := decide (f ≤ 12)

/-- Whether a format has block scales. -/
def fmtBlock (f : Nat) : Bool := f == 1 || f == 2 || f == 4 || f == 7 || f == 8

/-- Whether a format is INT4, INT8 or INT32. -/
def fmtInt (f : Nat) : Bool := f == 0 || f == 3 || f == 12

/-- The value of an element code, before any block scale (02 R55-R61). -/
def elemDecode (f c : Nat) : Fv :=
  match f with
  | 0 => .ofInt (asInt 4 c)
  | 1 => .ofInt (asInt 4 c)
  | 2 => e2m1.decode c
  | 3 => .ofInt (asInt 8 c)
  | 4 => (Fv.ofInt (asInt 8 c)).scale (-6)
  | 5 => e4m3.decode c
  | 6 => e5m2.decode c
  | 7 => e4m3.decode c
  | 8 => e5m2.decode c
  | 9 => bf16.decode c
  | 10 => fp16.decode c
  | 11 => fp32.decode c
  | _ => .ofInt (asInt 32 c)

/-- The value of an element under a block scale (02 R60-R62). -/
def scaled (v : Fv) (sc : Nat) : Fv := if sc = 255 then .nan else v.scale ((sc : Int) - 127)

/-- Whether an element code, or the scale over it, is a NaN read as an input (02 R62, R90). -/
def nanInput (f c sc : Nat) : Bool := (fmtBlock f && sc == 255) || (elemDecode f c).isNan

/-- Converts a value to an element format without block scale (02 R78-R81): code and flags. -/
def elemConv (f : Nat) (v : Fv) : Nat × Nat :=
  match f with
  | 0 => convInt 4 v
  | 3 => convInt 8 v
  | 5 => e4m3.conv v
  | 6 => e5m2.conv v
  | 9 => bf16.conv v
  | 10 => fp16.conv v
  | 11 => fp32.conv v
  | 12 => convInt 32 v
  | _ => (0, 0)

/-! ### Block encoding (02 R82-R84) -/

/-- Exponent E of a block format (02 R82). -/
def blockE (f : Nat) : Int :=
  match f with
  | 1 => 2 | 2 => 2 | 4 => 0 | 7 => 8 | _ => 15

/-- floor(log2) of the largest finite magnitude of a block, none when it is 0 or absent. -/
def blockTop (vs : List Fv) : Option Int :=
  vs.foldl (fun a v => match v with
    | .fin _ m e => if m = 0 then a else
        let t : Int := e + (Nat.log2 m : Int)
        some (match a with
          | some x => max x t
          | none => t)
    | _ => a) none

/-- Scale code of a block (02 R82). -/
def blockScale (f : Nat) (vs : List Fv) : Nat :=
  match blockTop vs with
  | some t => (min 254 (max 0 (t - blockE f + 127))).toNat
  | none => 0

/-- One element of a block (02 R83): converted, clamped to the largest code, no flag. -/
def blockElem (f : Nat) (v : Fv) : Nat :=
  match f with
  | 1 => (convInt 4 v).1
  | 2 => (e2m1.conv v).1
  | 4 => (convInt 8 (v.scale 6)).1
  | 7 => (e4m3.conv v).1
  | _ => (e5m2.conv v).1

/-- Encodes a block of values: scale, element codes, flags (02 R82-R84). -/
def blockConv (f : Nat) (vs : List Fv) : Nat × List Nat × Nat :=
  let inf := decide (f ≠ 8) && vs.any (fun v => !v.isNan && !v.isFin)
  if vs.any Fv.isNan || inf then (255, vs.map (fun _ => 0), if inf then flInvalid else 0)
  else
    let sc := blockScale f vs
    (sc, vs.map (fun v => blockElem f (v.scale (127 - (sc : Int)))), 0)

/-! ### Accumulation in an unspecified order (02 R66-R70) -/

/-- Takes an element out of a list. -/
def takeAt {α : Type} (l : List α) (i : Nat) : Option (α × List α) :=
  match l.drop i with
  | [] => none
  | x :: t => some (x, l.take i ++ t)

/-- Combines the terms of a pool two at a time, in an order and grouping that nothing fixes (02 R70, log 10); two terms
that combine alike either way leave no choice. -/
def combine {α : Type} [DecidableEq α] (f : α → α → α) : Nat → Nat → List α → Option α
  | _, _, [] => none
  | _, _, [x] => some x
  | _, k, [x, y] => some (if f x y = f y x ∨ (Config.addOrder k 2).1 % 2 = 0 then f x y else f y x)
  | 0, _, x :: _ => some x
  | n + 1, k, l =>
    let (i, j) := Config.addOrder k l.length
    match takeAt l (i % l.length) with
    | none => l.head?
    | some (x, l1) => match takeAt l1 (j % l1.length) with
      | none => some x
      | some (y, l2) => combine f n (k + 1) (f x y :: l2)

/-- A term of a floating accumulation with the flags gathered so far. -/
abbrev Term := Fv × Nat

/-- A term brought to FP32 on its own. -/
def roundTerm (a : Term) : Term :=
  let (c, o) := fp32.roundArith a.1
  (fp32.decode c, a.2 ||| (if o then flOverflow else 0))

/-- One FP32 addition (02 R67, R68): its sum rounds once; OVERFLOW from finite operands (02 R90). -/
def addTerm (a b : Term) : Term :=
  let (v, fl) := a.1.add b.1
  roundTerm (v, a.2 ||| b.2 ||| fl)

/-- What an accumulation adds up: a term with its exact value, or an FP32 accumulator. -/
structure Accum where
  acc : Bool
  val : Term
  deriving DecidableEq, Repr

/-- A term enters an FP32 accumulator, or two accumulators are added (02 R67, R68, R70); the first term of an accumulator
enters it alone, since the starting zero is not a term (02 R75). -/
def Accum.plus (a b : Accum) : Accum :=
  { acc := true
    val := if a.acc then addTerm a.val b.val else if b.acc then addTerm b.val a.val else addTerm (roundTerm a.val) b.val }

/-- FP32 accumulation of terms; the starting zero is not a term (02 R75). -/
def accumF (k : Nat) (ts : List Term) : Term :=
  match combine Accum.plus ts.length k (ts.map (fun t => { acc := false, val := t })) with
  | some t => roundTerm t.val
  | none => (.zero, 0)

/-- One saturating INT32 addition (02 R66). -/
def addSat (a b : Int × Nat) : Int × Nat :=
  let (v, c) := clampInt 32 (a.1 + b.1)
  (v, a.2 ||| b.2 ||| (if c then flSaturated else 0))

/-- INT32 accumulation (02 R66): where no partial sum can leave INT32 the order does not matter. -/
def accumI (k : Nat) (ts : List Int) : Int × Nat :=
  if (ts.map Int.natAbs).sum < 2 ^ 31 then (ts.sum, 0)
  else match combine addSat ts.length k (ts.map (fun t => (t, 0))) with
    | some t => let (v, c) := clampInt 32 t.1
      (v, t.2 ||| (if c then flSaturated else 0))
    | none => (0, 0)

/-! ### Lane special functions (02 R87) -/

/-- Integer square root, rounded down, bit by bit from 2^n. -/
def isqrt (v : Nat) : Nat → Nat → Nat
  | 0, r => r
  | n + 1, r =>
    let t := r + 2 ^ n
    isqrt v n (if t * t ≤ v then t else r)

/-- Square root of man × 2^exp, correctly rounded to FP32; 64 extra bits and a sticky bit decide the rounding. -/
def sqrtFin (m : Nat) (e : Int) : Fv :=
  let e2 := if e % 2 = 0 then e else e - 1
  let m2 := if e % 2 = 0 then m else 2 * m
  let v := m2 * 2 ^ 64
  let r := isqrt v 48 0
  .fin false (2 * r + (if r * r = v then 0 else 1)) (e2 / 2 - 33)

/-- Square root (02 R87): value, flags. -/
def fSqrt (v : Fv) : Fv × Nat :=
  match v with
  | .nan => (.nan, 0)
  | .inf false => (.inf false, 0)
  | .inf true => (.nan, flInvalid)
  | .fin n m e => if m = 0 then (v, 0) else if n then (.nan, flInvalid) else (sqrtFin m e, 0)

/-- A magnitude code near a lower bound `c` of the exact result, within a bound of 1 or 2 ulp (02 R87): the choice is
free (log 11). -/
def nearCode (fn operand : Nat) (ulps : Nat) (exact : Bool) (c : Nat) : Nat :=
  let width := if exact then 2 * ulps + 1 else 2 * ulps
  let low := if exact then ulps else ulps - 1
  c + Config.ulpError fn operand width % width - low

/-- FP32 magnitude code of man × 2^exp rounded down. -/
def floorCode (m : Nat) (e : Int) : Nat :=
  if m = 0 then 0
  else
    let top : Int := e + (Nat.log2 m : Int)
    let q : Int := max (top - 23) (-149)
    (q + 149).toNat * 2 ^ 23 + (if q ≤ e then m * 2 ^ (e - q).toNat else m / 2 ^ (q - e).toNat)

/-- A finite FP32 result from a magnitude code, past the largest finite an infinity. -/
def fromCode (n : Bool) (c : Nat) : Fv × Nat :=
  if fp32.maxCode < c then (.inf n, flOverflow) else (fp32.decode (fp32.signed n c), 0)

/-- Reciprocal (02 R87). -/
def fRcp (code : Nat) : Fv × Nat :=
  match fp32.decode code with
  | .nan => (.nan, 0)
  | .inf n => (.fin n 0 0, 0)
  | .fin n m e =>
    if m = 0 then (.inf n, 0)
    else fromCode n (nearCode 0 code 1 (decide (2 ^ Nat.log2 m = m)) (floorCode (2 ^ 200 / m) (-200 - e)))

/-- Reciprocal square root (02 R87). DESIGN CHOICE (log 11): for −0 the manual states no result, a free value, nor whether
INVALID is set; it is set where the free value is a NaN, as 02 R90 says of a NaN made from inputs none of which is NaN. -/
def fRsqrt (code : Nat) : Fv × Nat :=
  match fp32.decode code with
  | .nan => (.nan, 0)
  | .inf false => (.fin false 0 0, 0)
  | .inf true => (.nan, flInvalid)
  | .fin n m e =>
    if m = 0 then
      if n then
        let v := fp32.decode (Config.ulpError 4 code (2 ^ 32) % 2 ^ 32)
        (v, if v.isNan then flInvalid else 0)
      else (.inf false, 0)
    else if n then (.nan, flInvalid)
    else
      let e2 := if e % 2 = 0 then e else e - 1
      let m2 := if e % 2 = 0 then m else 2 * m
      let r := isqrt (2 ^ 200 / m2) 101 0
      fromCode false (nearCode 1 code 1 (decide (r * r * m2 = 2 ^ 200)) (floorCode r (-100 - e2 / 2)))

/-- 2^(2^-k) in 96-bit fixed point, by repeated square roots. -/
def rootTwo : Nat → Nat
  | 0 => 2 ^ 97
  | k + 1 => isqrt (rootTwo k * 2 ^ 96) 98 0

/-- 2^f for the top `n` fraction bits of `f` (a 64-bit fraction), in 96-bit fixed point. -/
def expFrac (f : Nat) : Nat → Nat
  | 0 => 2 ^ 96
  | n + 1 => let r := expFrac f n
    if bit f (63 - n) then r * rootTwo (n + 1) / 2 ^ 96 else r

/-- Base-2 exponential (02 R87). -/
def fExp2 (code : Nat) : Fv × Nat :=
  match fp32.decode code with
  | .nan => (.nan, 0)
  | .inf false => (.inf false, 0)
  | .inf true => (.fin false 0 0, 0)
  | .fin n m e =>
    let x : Int := signedAt n m e (min e (-64))
    let d : Int := 2 ^ (-(min e (-64))).toNat
    let i := x / d
    let f := (x % d).toNat * 2 ^ 64 / d.toNat
    if 128 ≤ i then (.inf false, flOverflow)
    else if i < -200 then fromCode false (nearCode 2 code 2 false 0)
    else fromCode false (nearCode 2 code 2 (decide (x % d = 0)) (floorCode (expFrac f 60) (i - 96)))

/-- Fraction bits of log2 of m / 2^96 in [1, 2): squares and halves. -/
def logFrac : Nat → Nat → Nat
  | 0, _ => 0
  | n + 1, m =>
    let q := m * m / 2 ^ 96
    if 2 ^ 97 ≤ q then 2 ^ n + logFrac n (q / 2) else logFrac n q

/-- Base-2 logarithm (02 R87). -/
def fLog2 (code : Nat) : Fv × Nat :=
  match fp32.decode code with
  | .nan => (.nan, 0)
  | .inf false => (.inf false, 0)
  | .inf true => (.nan, flInvalid)
  | .fin n m e =>
    if m = 0 then (.inf true, 0)
    else if n then (.nan, flInvalid)
    else
      let t := Nat.log2 m
      let v : Int := (e + (t : Int)) * 2 ^ 72 + ((logFrac 72 (m * 2 ^ 96 / 2 ^ t) : Nat) : Int)
      if v = 0 then fromCode false (nearCode 3 code 2 true 0)
      else fromCode (decide (v < 0)) (nearCode 3 code 2 (decide (2 ^ t = m)) (floorCode v.natAbs (-72)))

/-! ### Element arrays (02 R56, R63) -/

/-- Code of element `i` of an array. -/
def elemAt (f : Nat) (b : Bytes) (i : Nat) : Nat :=
  if fmtBits f = 4 then (((b.getD (i / 2) 0).toNat) / (if i % 2 = 0 then 1 else 16)) % 16
  else leAt b (i * (fmtBits f / 8)) (fmtBits f / 8)

/-- Bytes of `n` elements. -/
def elemBytes (f n : Nat) : Nat := (n * fmtBits f + 7) / 8

/-- Packs element codes into bytes (02 R56, 00 R9). -/
def packElems (f : Nat) (cs : List Nat) : Bytes :=
  if fmtBits f = 4 then
    (List.range ((cs.length + 1) / 2)).map (fun j =>
      BitVec.ofNat 8 (cs.getD (2 * j) 0 % 16 + 16 * (cs.getD (2 * j + 1) 0 % 16)))
  else (cs.map (leBytes (fmtBits f / 8))).flatten

end Sys2Proof.Machine
end

