-- ==== Sys2Proof/Machine/Sha.lean ====
section
/-! DEFINITION. SHA-256 and HMAC-SHA-256, which 13 R483 names: the functions of FIPS 180-4 and FIPS 198-1 (PRESUMED, log 77), and
the digests of the mask ROM (13 R486). -/

namespace Sys2Proof.Config

/-- The round constants of SHA-256. -/
def shaK : List (BitVec 32) :=
  [0x428a2f98, 0x71374491, 0xb5c0fbcf, 0xe9b5dba5, 0x3956c25b, 0x59f111f1, 0x923f82a4, 0xab1c5ed5,
   0xd807aa98, 0x12835b01, 0x243185be, 0x550c7dc3, 0x72be5d74, 0x80deb1fe, 0x9bdc06a7, 0xc19bf174,
   0xe49b69c1, 0xefbe4786, 0x0fc19dc6, 0x240ca1cc, 0x2de92c6f, 0x4a7484aa, 0x5cb0a9dc, 0x76f988da,
   0x983e5152, 0xa831c66d, 0xb00327c8, 0xbf597fc7, 0xc6e00bf3, 0xd5a79147, 0x06ca6351, 0x14292967]
  ++ [0x27b70a85, 0x2e1b2138, 0x4d2c6dfc, 0x53380d13, 0x650a7354, 0x766a0abb, 0x81c2c92e, 0x92722c85,
   0xa2bfe8a1, 0xa81a664b, 0xc24b8b70, 0xc76c51a3, 0xd192e819, 0xd6990624, 0xf40e3585, 0x106aa070,
   0x19a4c116, 0x1e376c08, 0x2748774c, 0x34b0bcb5, 0x391c0cb3, 0x4ed8aa4a, 0x5b9cca4f, 0x682e6ff3,
   0x748f82ee, 0x78a5636f, 0x84c87814, 0x8cc70208, 0x90befffa, 0xa4506ceb, 0xbef9a3f7, 0xc67178f2]

/-- The initial hash value of SHA-256. -/
def shaInit : List (BitVec 32) :=
  [0x6a09e667, 0xbb67ae85, 0x3c6ef372, 0xa54ff53a, 0x510e527f, 0x9b05688c, 0x1f83d9ab, 0x5be0cd19]

/-- A message padded to whole blocks of 64 bytes: a one bit, zeros, and its length in bits. -/
def shaPad (m : List (BitVec 8)) : List (BitVec 8) :=
  m ++ [0x80] ++ List.replicate ((119 - m.length % 64) % 64) 0
    ++ (List.range 8).map (fun i => BitVec.ofNat 8 (8 * m.length / 256 ^ (7 - i)))

/-- Big-endian words of a list of bytes, `n` of them. -/
def shaWords : Nat → List (BitVec 8) → List (BitVec 32)
  | 0, _ => []
  | n + 1, b => (b.take 4).foldl (fun a x => a * 256 + x.setWidth 32) 0 :: shaWords n (b.drop 4)

/-- The message schedule, last word first: `n` words more than it has. -/
def shaSchedule : Nat → List (BitVec 32) → List (BitVec 32)
  | 0, w => w
  | n + 1, w =>
    let x := w.getD 1 0
    let y := w.getD 14 0
    let s1 := x.rotateRight 17 ^^^ x.rotateRight 19 ^^^ (x >>> 10)
    let s0 := y.rotateRight 7 ^^^ y.rotateRight 18 ^^^ (y >>> 3)
    shaSchedule n ((s1 + w.getD 6 0 + s0 + w.getD 15 0) :: w)

/-- One round over the eight working variables, with its constant and word. -/
def shaRound (v : List (BitVec 32)) (kw : BitVec 32 × BitVec 32) : List (BitVec 32) :=
  match v with
  | [a, b, c, d, e, f, g, h] =>
    let s1 := e.rotateRight 6 ^^^ e.rotateRight 11 ^^^ e.rotateRight 25
    let t1 := h + s1 + ((e &&& f) ^^^ (~~~e &&& g)) + kw.1 + kw.2
    let s0 := a.rotateRight 2 ^^^ a.rotateRight 13 ^^^ a.rotateRight 22
    [t1 + s0 + ((a &&& b) ^^^ (a &&& c) ^^^ (b &&& c)), a, b, c, d + t1, e, f, g]
  | _ => v

/-- The hash value after the blocks of a padded message, `n` of them. -/
def shaBlocks : Nat → List (BitVec 32) → List (BitVec 8) → List (BitVec 32)
  | 0, h, _ => h
  | n + 1, h, b =>
    let w := (shaSchedule 48 (shaWords 16 b).reverse).reverse
    shaBlocks n (List.zipWith (· + ·) h ((shaK.zip w).foldl shaRound h)) (b.drop 64)

/-- SHA-256 (13 R483). -/
def sha256 (m : List (BitVec 8)) : List (BitVec 8) :=
  let p := shaPad m
  (shaBlocks (p.length / 64) shaInit p).flatMap (fun (x : BitVec 32) =>
    (List.range 4).map (fun i => BitVec.setWidth 8 (x >>> (24 - 8 * i))))

/-- HMAC-SHA-256 (13 R483): key, message. -/
def hmacSha256 (key m : List (BitVec 8)) : List (BitVec 8) :=
  let k := if key.length ≤ 64 then key else sha256 key
  let k0 := k ++ List.replicate (64 - k.length) 0
  sha256 (k0.map (· ^^^ 0x5c) ++ sha256 (k0.map (· ^^^ 0x36) ++ m))

/-- The digests in the mask ROM (13 R486): 0 to 3 those of FK0-FK3, 4 that of the life-cycle key, which is the key an authorisation
is verified with. -/
def romHash (i : Nat) : List (BitVec 8) := if i = 4 then sha256 lifeCycleKey else fwKeyHash i

end Sys2Proof.Config
end

