-- ==== Sys2Proof/Machine/RegNames.lean ====
section
/-! DEFINITION. The names of the module's registers and of their fields, as the register tables of spec/ give
them (01 R32, R49; 03 R119, R124; 04 R129, R166, R167, R182; 05 R223, R224; 06 R253; 07 R293, R294; 08 R325;
09 R374; 10 R414-R417; 11 R440, R441; 12 R475; 13 R512; 14 R542-R544; 15 R567; 16 R601, R602).
A constructor of `Reg` is a register name of the manual; one of `Fid` is REGISTER_FIELD. -/

namespace Sys2Proof.Machine

/-- The registers of the control space, by the manual's names (an indexed register is one constructor). -/
inductive Reg where
  | GLB_ID | GLB_SERIAL | GLB_LC | GLB_UM_CTL | GLB_UM_CE | GLB_UM_MS
  | GLB_UM_PLANE | GLB_UM_SITE | GLB_UM_ETHLANE | GLB_UM_UCIE | GLB_UM_CH | GLB_GRAN_AVAIL
  | GLB_GRAN_COUNT | PWR_FALLOW_REQ | PWR_FALLOW_RESULT | CE_STATUS | CE_DRAIN_LIMIT | CE_SPARE_USE
  | CE_ERR_STATUS | CE_ERR_COUNT | CE_CYCLES | CE_ARRAY_BUSY | CE_LANE_ISSUE | CE_PORT_STALL
  | CE_WQ_BASE | CE_WQ_CFG | CE_WQ_TAIL | CE_WQ_HEAD | CE_CQ_BASE | CE_CQ_CFG
  | CE_CQ_HEAD | CE_WQ_STATUS | TALLY_VALUE | TALLY_SIGNAL | TALLY_OVF | MEM_STATUS
  | MEM_TEMP | MEM_TEMP_MAX | MEM_CAP | MEM_ERR_STATUS | MEM_CORR_COUNT | MEM_UNCORR_COUNT
  | MEM_ERR_ADDR | MEM_SCRUB_CFG | MEM_SCRUB_STATUS | MEM_PPR_USE | MEM_SCHED_CFG | MEM_OUTSTANDING
  | MEM_PIN_ERASE | MEM_GKEY | MEM_GROUP_LOCAL | MEM_GROUP_EFFECTIVE | MEM_RELOC | MEM_INIT
  | MEM_COMB_CFG | MEM_COMB_OPENED | MEM_COMB_ATTACHED | MEM_COMB_FULL | MEM_COMB_INUSE | MEM_RED_WRITES
  | MEM_RED_REFUSED | MEM_RED_POISONED | MEM_TWIN_REPAIR_COUNT | MEM_TWIN_SERVED | MEM_RED_FLAGS | MESH_STATUS
  | MESH_CFG | MESH_ERR_STATUS | MESH_RETRY_COUNT | QOS_COMMIT | QOS_COMMIT_RESULT | QOS_SITE_LOAD
  | QOS_CLASS_MISS | QOS_MISS_STATUS | QOS_MISS_IRQ_EN | QOS_PORT_STATUS | QOS_TIMEOUT | QOS_PORT_COUNT
  | QOS_DEFAULT_CLASS | QOS_RANGE_BASE | QOS_RANGE_LIMIT | QOS_CLASS_CFG | QOS_CLASS_EFF | QOS_MISS
  | COH_STATUS | COH_CFG | COH_ERR_STATUS | COH_ERR_LINE | COH_ERR_INFO | COH_SF_OCC
  | COH_SNOOPS | COH_VICTIMS | COH_ALLOC_RETRY | COH_WBP | COH_STALE_EVICT | COH_SF_CORR_COUNT
  | COH_AGENT_STATUS | COH_AGENT_LINES | COH_RECLAIMED | SITE_STATUS | SITE_CFG | SITE_CTL
  | SITE_ERR_STATUS | SITE_LAST_DOWN | SITE_LINK_DOWNS | SITE_REPLAYS | SITE_BAD_PKTS | SITE_LATE
  | SITE_DRAIN_LIMIT | SITE_CREDIT_LIMIT | SITE_PEER_CREDITS | SITE_OUTSTANDING | SITE_UM_STATUS | SITE_UM_RECORD
  | ETH_STATUS | ETH_CFG | ETH_MAC | ETH_VLAN | ETH_IPV4_ADDR | ETH_IPV6_HI
  | ETH_IPV6_LO | ETH_IPV6_VALID | ETH_PFC | ETH_PFC_THRESH | ETH_DSCP_MAP | ETH_PRIO_DSCP
  | ETH_TX_WEIGHT | ETH_CC_CFG | ETH_PFC_WD | ETH_LANE_LIMIT | ETH_CNT | ETH_ERR_STATUS
  | ETH_PLOT_RES | ETH_LANE | ETH_QP_CTL | ETH_QP_DEST_IP_HI | ETH_QP_DEST_IP_LO | ETH_QP_DEST_MAC
  | ETH_QP_PSN | ETH_QP_SQ | ETH_QP_RQ | ETH_QP_CQ | ETH_QP_SQ_TAIL | ETH_QP_RQ_TAIL
  | ETH_QP_CQ_HEAD | ETH_QP_STATUS | ETH_QP_RATE | ETH_QP_TALLY | ETH_QP_COUNT | ETH_WIN_CTL
  | ETH_WIN_RANGE | ETH_ING_CFG | ETH_ING_SRC_HI | ETH_ING_SRC_LO | ETH_ING_ROWCFG | ETH_ING_SLOT_BASE
  | ETH_ING_REC_BASE | ETH_ING_HEAD | ETH_ING_STATUS | ETH_ING_ROWS | ETH_ING_DROPS | SHEAF_STATUS
  | SHEAF_CFG | SHEAF_ERR_STATUS | SHEAF_STRAY | SHEAF_CTX_OWNER | SHEAF_CTX_OP | SHEAF_CTX_RANK
  | SHEAF_CTX_BUF | SHEAF_CTX_LEN | SHEAF_CTX_SEG | SHEAF_CTX_TIMEOUT | SHEAF_CTX_CMPL | SHEAF_CTX_CTL
  | SHEAF_CTX_STATUS | SHEAF_CTX_LAG | SHEAF_CTX_NBR_QP | SHEAF_CTX_NBR_ADDR | HL_STATUS | HL_CFG
  | HL_ERR_STATUS | HL_CNT_DROP | HL_CNT_DISCOVER_LIMITED | HL_CNT_DUP | HL_EVT_SEQ | HL_SESS
  | HL_SESS_SUB | HL_CLAIM | HL_LOCK | HL_MBOX_BIND_SRC | HL_MBOX_BIND_STATUS | HL_MBOX_BIND
  | HL_MBOX_SLOT | HL_MBOX_CTL | HL_MBOX_STATE | HL_MBOX_POSTS | SEC_STATUS | SEC_LC_REQ
  | SEC_LC_RESULT | SEC_ID_PUBKEY | SEC_FUSE | SEC_OWNER_HASH | SEC_OWNER_PROG | SEC_OWNER_RESULT
  | SEC_COMMON_REQ | SEC_COMMON_RESULT | SEC_DEBUG | SEC_DEBUG_COUNT | SEC_STACK_TEST | SEC_CNT_OPEN_FAIL
  | SEC_RETIRE | SEC_RETIRE_PROG | SEC_RETIRE_RESULT | SEC_PLOT_INFO | SEC_PLOT_STATE | SEC_GRAN_COMMON
  | SEC_TWIN | GLB_RESET_CAUSE | GLB_RESET_REQ | GLB_STRAP | GLB_TEST_CFG | GLB_TRAIN_STATUS
  | GLB_TRAIN_OWNER | GLB_REC_STATUS | CLK_DOM_CFG | CLK_DOM_STATUS | CLK_RELEASE | CLK_RELEASE_RESULT
  | CC_STATUS | CC_READY | CC_WDT_CFG | CC_WDT_KICK | CC_BOOT_LIMIT | CC_ERR_STATUS
  | CC_SRAM_CORR_COUNT | CC_FW_RUN_DIGEST | CC_FW_STAGED_DIGEST | CC_FW_SVN | CC_FW_LOADED | PWR_STATUS
  | PWR_CFG | PWR_LIMIT | PWR_ERR_STATUS | PWR_STOP_INFO | PWR_VID | PWR_ZONE_STATUS
  | PWR_ZONE_POWER | PWR_ZONE_MAX | PWR_ZONE_TIME | PWR_RAIL_CFG | PWR_RAIL_STATUS | PWR_SITE_CFG
  | PWR_SITE_STATUS | TEL_FATAL | TEL_FATAL_CYC | TEL_ERR_SUMMARY | TEL_SNAP_CTL | TEL_DOM_CYC
  | TEL_SNAP_CYC | TEL_CO_CTL | TEL_CO_REGION | TEL_CO_REGSTAT | TEL_EXPORT | TEL_EXPORT_SRC
  | TEL_EXPORT_RESULT | TEL_COH_TRACE | TEL_COH_ADDR_LO | TEL_COH_ADDR_HI | DBG_SEL | DBG_OFFSET
  | DBG_DATA | ATB_CFG | GLN_CFG | GLN_MINMAX | GLN_COUNT | GLN_SUM
  | GLN_EPOCH | PRB_CFG | PRB_MATCH | PRB_ADDR_LO | PRB_ADDR_HI | PRB_STATUS_MASK
  | PRB_PKTS | PRB_BYTES | PRB_TRIG | CE_FAULT_Q | CE_LPS_INDEX | CE_LPS_DATA
  | SEC_PLOT_MAP
  deriving DecidableEq, Repr

/-- The fields of the registers, by the manual's names. -/
inductive Fid where
  | GLB_ID_VENDOR | GLB_ID_PART | GLB_ID_STEPPING | GLB_SERIAL_SERIAL
  | GLB_LC_VOTE_SPLIT | GLB_LC_LC_STATE | GLB_LC_LC_CODE | GLB_UM_CTL_GEN
  | GLB_UM_CTL_READY | GLB_UM_CE_ENTRY | GLB_UM_MS_ENTRY | GLB_UM_PLANE_ENTRY
  | GLB_UM_SITE_ENTRY | GLB_UM_ETHLANE_ENTRY | GLB_UM_UCIE_ENTRY | GLB_UM_CH_ENTRY
  | GLB_GRAN_AVAIL_AVAIL | GLB_GRAN_COUNT_COUNT | PWR_FALLOW_REQ_SEQ | PWR_FALLOW_REQ_ACTION
  | PWR_FALLOW_REQ_CLASS | PWR_FALLOW_REQ_UNIT | PWR_FALLOW_RESULT_SEQ | PWR_FALLOW_RESULT_PHASE
  | PWR_FALLOW_RESULT_CODE | CE_STATUS_DVFS_STEP | CE_STATUS_PSTATE | CE_STATUS_UM_STATE
  | CE_DRAIN_LIMIT_LIMIT_US | CE_SPARE_USE_TM_ROWS_MAX | CE_SPARE_USE_TA_COLS | CE_ERR_STATUS_HARD_FAULT
  | CE_ERR_STATUS_TM_POISON | CE_ERR_STATUS_TM_CORR | CE_ERR_STATUS_COL_SPARED | CE_ERR_COUNT_CORR
  | CE_CYCLES_COUNT | CE_ARRAY_BUSY_COUNT | CE_LANE_ISSUE_COUNT | CE_PORT_STALL_COUNT
  | CE_WQ_BASE_BASE | CE_WQ_CFG_LOG2_SIZE | CE_WQ_CFG_PRIORITY | CE_WQ_CFG_RESUME
  | CE_WQ_CFG_ENABLE | CE_WQ_TAIL_TAIL | CE_WQ_HEAD_HEAD | CE_CQ_BASE_BASE
  | CE_CQ_CFG_LOG2_SIZE | CE_CQ_HEAD_HEAD | CE_WQ_STATUS_CQ_TAIL | CE_WQ_STATUS_STATE
  | CE_WQ_STATUS_RING_ERR | CE_WQ_STATUS_DB_ERR | TALLY_VALUE_VALUE | TALLY_SIGNAL_AMOUNT
  | TALLY_OVF_OVF | MEM_STATUS_REFRESH_2X | MEM_STATUS_HALF_ISSUE | MEM_STATUS_INIT_DONE
  | MEM_STATUS_UM_STATE | MEM_TEMP_TEMP_Q2 | MEM_TEMP_MAX_MAX_Q2 | MEM_CAP_CAP_GBPS
  | MEM_ERR_STATUS_CH_FAILED | MEM_ERR_STATUS_PIN_ERASED | MEM_ERR_STATUS_PPR_NONE | MEM_ERR_STATUS_PPR_DONE
  | MEM_ERR_STATUS_UNCORR | MEM_ERR_STATUS_CORR | MEM_CORR_COUNT_COUNT | MEM_UNCORR_COUNT_COUNT
  | MEM_ERR_ADDR_LINE | MEM_ERR_ADDR_CHAN | MEM_SCRUB_CFG_ENABLE | MEM_SCRUB_CFG_PERIOD_H
  | MEM_SCRUB_STATUS_PASSES | MEM_SCRUB_STATUS_PROGRESS | MEM_PPR_USE_FREE | MEM_PPR_USE_USED
  | MEM_SCHED_CFG_AGE_LIMIT_NS | MEM_SCHED_CFG_C0_RESERVE | MEM_SCHED_CFG_WR_HIGH | MEM_SCHED_CFG_WR_LOW
  | MEM_OUTSTANDING_COUNT | MEM_PIN_ERASE_COUNT | MEM_PIN_ERASE_PIN1 | MEM_PIN_ERASE_PIN0
  | MEM_GKEY_KEY | MEM_GROUP_LOCAL_LOCAL | MEM_GROUP_EFFECTIVE_LOCAL | MEM_RELOC_BASE
  | MEM_RELOC_MAPPED_OUT | MEM_INIT_STATE | MEM_INIT_START | MEM_COMB_CFG_WINDOW_NS
  | MEM_COMB_OPENED_COUNT | MEM_COMB_ATTACHED_COUNT | MEM_COMB_FULL_COUNT | MEM_COMB_INUSE_COUNT
  | MEM_RED_WRITES_COUNT | MEM_RED_REFUSED_COUNT | MEM_RED_POISONED_COUNT | MEM_TWIN_REPAIR_COUNT_COUNT
  | MEM_TWIN_SERVED_COUNT | MEM_RED_FLAGS_NAN_COUNT | MEM_RED_FLAGS_FLAGS | MESH_STATUS_PLANES_UP
  | MESH_STATUS_ACTIVE | MESH_CFG_GUAR_URG | MESH_CFG_URG_AGE | MESH_ERR_STATUS_PLANE_FAIL
  | MESH_ERR_STATUS_LINK_RETRY | MESH_ERR_STATUS_TIMEOUT | MESH_ERR_STATUS_UNMAPPED | MESH_RETRY_COUNT_COUNT
  | QOS_COMMIT_SEQ | QOS_COMMIT_GO | QOS_COMMIT_RESULT_LIMIT_GBPS | QOS_COMMIT_RESULT_LOAD_GBPS
  | QOS_COMMIT_RESULT_IS_PORT | QOS_COMMIT_RESULT_WHERE | QOS_COMMIT_RESULT_SEQ | QOS_COMMIT_RESULT_CODE
  | QOS_SITE_LOAD_SCALE | QOS_SITE_LOAD_EFF_LOAD_GBPS | QOS_SITE_LOAD_LOAD_GBPS | QOS_CLASS_MISS_COUNT
  | QOS_MISS_STATUS_CLASS | QOS_MISS_IRQ_EN_ENABLE | QOS_PORT_STATUS_CAP_GBPS | QOS_PORT_STATUS_SCALE
  | QOS_PORT_STATUS_OUTSTANDING | QOS_PORT_STATUS_FENCE_STATE | QOS_TIMEOUT_CTL_US | QOS_TIMEOUT_SITE_US
  | QOS_TIMEOUT_MEM_US | QOS_PORT_COUNT_UNMAPPED | QOS_PORT_COUNT_LATE | QOS_PORT_COUNT_TIMEOUTS
  | QOS_DEFAULT_CLASS_RCLASS | QOS_DEFAULT_CLASS_WCLASS | QOS_RANGE_BASE_BASE | QOS_RANGE_BASE_ENABLE
  | QOS_RANGE_LIMIT_LIMIT | QOS_RANGE_LIMIT_RCLASS | QOS_RANGE_LIMIT_WCLASS | QOS_CLASS_CFG_SITE_MASK
  | QOS_CLASS_CFG_BASE_URG | QOS_CLASS_CFG_CEIL_GBPS | QOS_CLASS_CFG_GUAR_GBPS | QOS_CLASS_EFF_GUAR_GBPS
  | QOS_CLASS_EFF_EFF_GUAR | QOS_MISS_COUNT | COH_STATUS_RING_OK | COH_STATUS_AGENTS_UP
  | COH_CFG_SNOOP_US | COH_ERR_STATUS_RING_REPLAY | COH_ERR_STATUS_RECLAIM | COH_ERR_STATUS_SNOOP_TIMEOUT
  | COH_ERR_STATUS_PROTO_ERR | COH_ERR_STATUS_SF_CORR | COH_ERR_LINE_LINE | COH_ERR_INFO_HOME_STATE
  | COH_ERR_INFO_MESSAGE | COH_ERR_INFO_AGENT | COH_SF_OCC_OWNED | COH_SF_OCC_VALID
  | COH_SNOOPS_COUNT | COH_VICTIMS_COUNT | COH_ALLOC_RETRY_COUNT | COH_WBP_COUNT
  | COH_STALE_EVICT_COUNT | COH_SF_CORR_COUNT_COUNT | COH_AGENT_STATUS_STATE | COH_AGENT_LINES_COUNT
  | COH_RECLAIMED_POISONED | COH_RECLAIMED_DROPPED | SITE_STATUS_CAP_GBPS | SITE_STATUS_RATE
  | SITE_STATUS_PROFILE_ACT | SITE_STATUS_LINK | SITE_STATUS_UM_STATE | SITE_CFG_CTL_ACCESS
  | SITE_CFG_FITTED | SITE_CFG_CXL_ROLE | SITE_CFG_PROFILE | SITE_CTL_RETEST
  | SITE_CTL_CHIPLET_RESET | SITE_CTL_RETRAIN | SITE_ERR_STATUS_FAIL | SITE_ERR_STATUS_BAD_PKT
  | SITE_ERR_STATUS_CREDIT_STALL | SITE_ERR_STATUS_LINK_DOWN | SITE_ERR_STATUS_UM_FAIL | SITE_ERR_STATUS_WIDTH
  | SITE_ERR_STATUS_LANE_REPAIR | SITE_LAST_DOWN_CAUSE | SITE_LINK_DOWNS_COUNT | SITE_REPLAYS_COUNT
  | SITE_BAD_PKTS_COUNT | SITE_LATE_COUNT | SITE_DRAIN_LIMIT_LIMIT_US | SITE_CREDIT_LIMIT_LIMIT_US
  | SITE_PEER_CREDITS_SRSP | SITE_PEER_CREDITS_SNP | SITE_PEER_CREDITS_RSP | SITE_PEER_CREDITS_REQ
  | SITE_OUTSTANDING_COUNT | SITE_UM_STATUS_RX_REPAIRS | SITE_UM_STATUS_TX_REPAIRS | SITE_UM_STATUS_WIDTH
  | SITE_UM_STATUS_STATE | SITE_UM_RECORD_RX_LANES | SITE_UM_RECORD_TX_LANES | ETH_STATUS_LANES_USED
  | ETH_STATUS_MODE_ACT | ETH_STATUS_LINK | ETH_CFG_RETRAIN | ETH_CFG_MODE
  | ETH_CFG_HL_PRIO | ETH_CFG_CNP_PRIO | ETH_CFG_CC_EN | ETH_CFG_FALLBACK
  | ETH_MAC_MAC | ETH_VLAN_ENABLE | ETH_VLAN_VID | ETH_IPV4_ADDR_VALID
  | ETH_IPV4_ADDR_ADDR | ETH_IPV6_HI_ADDR | ETH_IPV6_LO_ADDR | ETH_IPV6_VALID_VALID
  | ETH_PFC_LOSSLESS | ETH_PFC_THRESH_HEADROOM_KIB | ETH_PFC_THRESH_XOFF_KIB | ETH_PFC_THRESH_XON_KIB
  | ETH_DSCP_MAP_PRIO | ETH_PRIO_DSCP_DSCP | ETH_TX_WEIGHT_WEIGHT | ETH_CC_CFG_IDLE_RESET
  | ETH_CC_CFG_CNP_GAP_US | ETH_CC_CFG_RATE_MIN | ETH_CC_CFG_RISE_STEP | ETH_CC_CFG_RECOVER_STEPS
  | ETH_CC_CFG_RISE_PERIOD_US | ETH_CC_CFG_CUT_HOLD_US | ETH_CC_CFG_CUT_NUM | ETH_PFC_WD_MS
  | ETH_LANE_LIMIT_SYMBOLS | ETH_CNT_COUNT | ETH_ERR_STATUS_PORT_FATAL | ETH_ERR_STATUS_PFC_STORM
  | ETH_ERR_STATUS_QP_ERROR | ETH_ERR_STATUS_LANE_FAIL | ETH_ERR_STATUS_LINK_DOWN | ETH_PLOT_RES_QP_COUNT
  | ETH_PLOT_RES_QP_FIRST | ETH_PLOT_RES_ING_COUNT | ETH_PLOT_RES_ING_FIRST | ETH_LANE_CORR_SYMBOLS
  | ETH_LANE_LOCK | ETH_LANE_UM_STATE | ETH_QP_CTL_DEST_QPN | ETH_QP_CTL_SRC_ADDR
  | ETH_QP_CTL_PRIO | ETH_QP_CTL_PMTU | ETH_QP_CTL_SACK | ETH_QP_CTL_ACK_TIMEOUT
  | ETH_QP_CTL_RETRY_CNT | ETH_QP_CTL_RNR_RETRY | ETH_QP_CTL_STATE | ETH_QP_DEST_IP_HI_IP
  | ETH_QP_DEST_IP_LO_IP | ETH_QP_DEST_MAC_P_KEY | ETH_QP_DEST_MAC_MAC | ETH_QP_PSN_SQ_PSN
  | ETH_QP_PSN_RQ_PSN | ETH_QP_SQ_BASE | ETH_QP_SQ_LOG2_SIZE | ETH_QP_RQ_BASE
  | ETH_QP_RQ_LOG2_SIZE | ETH_QP_CQ_BASE | ETH_QP_CQ_LOG2_SIZE | ETH_QP_SQ_TAIL_TAIL
  | ETH_QP_RQ_TAIL_TAIL | ETH_QP_CQ_HEAD_HEAD | ETH_QP_STATUS_CQ_TAIL | ETH_QP_STATUS_LAST_STATUS
  | ETH_QP_STATUS_RING_ERR | ETH_QP_STATUS_DB_ERR | ETH_QP_RATE_RATE_MAX | ETH_QP_RATE_RATE_NOW
  | ETH_QP_TALLY_RECV_EN | ETH_QP_TALLY_RECV_TALLY | ETH_QP_COUNT_RETRANS | ETH_QP_COUNT_CNP_RX
  | ETH_WIN_CTL_TAG | ETH_WIN_CTL_ALIAS | ETH_WIN_CTL_WRITE | ETH_WIN_CTL_READ
  | ETH_WIN_CTL_VALID | ETH_WIN_RANGE_BASE | ETH_WIN_RANGE_LIMIT | ETH_ING_CFG_UDP_PORT
  | ETH_ING_CFG_TALLY | ETH_ING_CFG_LOG2_SLOTS | ETH_ING_CFG_LOG2_ROWS | ETH_ING_CFG_FILL
  | ETH_ING_CFG_SRC_FILTER | ETH_ING_CFG_MODE | ETH_ING_CFG_ENABLE | ETH_ING_SRC_HI_IP
  | ETH_ING_SRC_LO_IP | ETH_ING_ROWCFG_SLOT_US | ETH_ING_ROWCFG_ROW_BYTES | ETH_ING_SLOT_BASE_BASE
  | ETH_ING_REC_BASE_BASE | ETH_ING_HEAD_HEAD | ETH_ING_STATUS_TAIL | ETH_ING_STATUS_OPENED
  | ETH_ING_ROWS_COUNT | ETH_ING_DROPS_LATE | ETH_ING_DROPS_DUP | ETH_ING_DROPS_OVERRUN
  | ETH_ING_DROPS_BADLEN | SHEAF_STATUS_ACTIVE | SHEAF_CFG_LAG_CAP_MS | SHEAF_CFG_LAG_MS
  | SHEAF_ERR_STATUS_LAG_RX | SHEAF_ERR_STATUS_LAG_SENT | SHEAF_ERR_STATUS_FAIL | SHEAF_STRAY_COUNT
  | SHEAF_CTX_OWNER_PLOT_VALID | SHEAF_CTX_OWNER_PLOT | SHEAF_CTX_OP_ARITY | SHEAF_CTX_OP_ALIAS
  | SHEAF_CTX_OP_ALGO | SHEAF_CTX_OP_KIND | SHEAF_CTX_RANK_SIZE | SHEAF_CTX_RANK_RANK
  | SHEAF_CTX_BUF_ADDR | SHEAF_CTX_LEN_BYTES | SHEAF_CTX_SEG_SEG_BYTES | SHEAF_CTX_TIMEOUT_PROGRESS_MS
  | SHEAF_CTX_CMPL_TALLY | SHEAF_CTX_CMPL_ADDR | SHEAF_CTX_CTL_EPOCH | SHEAF_CTX_CTL_CANCEL
  | SHEAF_CTX_CTL_START | SHEAF_CTX_STATUS_SEGS_DONE | SHEAF_CTX_STATUS_EPOCH | SHEAF_CTX_STATUS_PHASE
  | SHEAF_CTX_STATUS_LAST_STATUS | SHEAF_CTX_STATUS_STATE | SHEAF_CTX_LAG_LAG_MS | SHEAF_CTX_NBR_QP_RKEY
  | SHEAF_CTX_NBR_QP_VALID | SHEAF_CTX_NBR_QP_QP | SHEAF_CTX_NBR_ADDR_REMOTE_BASE | HL_STATUS_SESSIONS
  | HL_STATUS_STAGE | HL_CFG_IDLE_S | HL_CFG_DISCOVER_RATE | HL_ERR_STATUS_EVT_LOST
  | HL_ERR_STATUS_DROP | HL_CNT_DROP_COUNT | HL_CNT_DISCOVER_LIMITED_COUNT | HL_CNT_DUP_COUNT
  | HL_EVT_SEQ_MODULE_SEQ | HL_SESS_NEXT | HL_SESS_PLOT_VALID | HL_SESS_PLOT
  | HL_SESS_STATE | HL_SESS_SUB_RANGES | HL_SESS_SUB_PLOTS | HL_SESS_SUB_OP_SCOPE
  | HL_SESS_SUB_MIN_SEV | HL_CLAIM_HELD | HL_CLAIM_KIND | HL_CLAIM_MASTER_ID
  | HL_CLAIM_SESSION | HL_LOCK_VALID | HL_LOCK_SESSION | HL_LOCK_KIND
  | HL_LOCK_TARGET | HL_MBOX_BIND_SRC_ADDR | HL_MBOX_BIND_STATUS_ERR | HL_MBOX_BIND_STATUS_LOADED
  | HL_MBOX_BIND_VALID | HL_MBOX_BIND_SCOPE_PLOT_VALID | HL_MBOX_BIND_SCOPE_PLOT | HL_MBOX_BIND_RECEIVER_ID
  | HL_MBOX_BIND_SENDER_ID | HL_MBOX_SLOT_DATA | HL_MBOX_CTL_ACK_CODE | HL_MBOX_CTL_LEN
  | HL_MBOX_CTL_ACTION | HL_MBOX_STATE_ACK_CODE | HL_MBOX_STATE_LEN | HL_MBOX_STATE_SENDER_ID
  | HL_MBOX_STATE_SENDER_SESSION | HL_MBOX_STATE_SESSION_VALID | HL_MBOX_STATE_STATE | HL_MBOX_POSTS_COUNT
  | SEC_STATUS_SCRUBBING | SEC_STATUS_PLOTS | SEC_STATUS_COMMON_KEY | SEC_STATUS_ID_READY
  | SEC_LC_REQ_AUTH_ADDR | SEC_LC_REQ_TARGET | SEC_LC_REQ_GO | SEC_LC_RESULT_CODE
  | SEC_ID_PUBKEY_KEY | SEC_FUSE_RETIRE | SEC_FUSE_FW_MIN_SVN | SEC_FUSE_FWKEY_REVOKED
  | SEC_FUSE_OWNER_REVOKED | SEC_FUSE_OWNER_BLOWN | SEC_OWNER_HASH_HASH | SEC_OWNER_PROG_ACTION
  | SEC_OWNER_PROG_SLOT | SEC_OWNER_RESULT_CODE | SEC_COMMON_REQ_ACTION | SEC_COMMON_REQ_GRAN
  | SEC_COMMON_RESULT_CODE | SEC_COMMON_RESULT_GRAN | SEC_DEBUG_TOUCH | SEC_DEBUG_HALT_ACTIVE
  | SEC_DEBUG_DEBUG_USED | SEC_DEBUG_JTAG_SEEN | SEC_DEBUG_COUNT_COUNT | SEC_STACK_TEST_ENABLE
  | SEC_CNT_OPEN_FAIL_COUNT | SEC_RETIRE_ENTRY | SEC_RETIRE_PROG_GO | SEC_RETIRE_PROG_ENTRY
  | SEC_RETIRE_PROG_VALUE | SEC_RETIRE_RESULT_CODE | SEC_PLOT_INFO_GENERATION | SEC_PLOT_INFO_LLC_WAYS
  | SEC_PLOT_INFO_SITES | SEC_PLOT_INFO_ENGINES | SEC_PLOT_STATE_DEBUG_TOUCH | SEC_PLOT_STATE_STATE
  | SEC_GRAN_COMMON_COMMON | SEC_TWIN_VALID | SEC_TWIN_TWIN_GRAN | GLB_RESET_CAUSE_COUNT
  | GLB_RESET_CAUSE_CAUSE | GLB_RESET_REQ_GO | GLB_STRAP_ETH | GLB_TEST_CFG_QUICK
  | GLB_TRAIN_STATUS_STACK_FULL | GLB_TRAIN_STATUS_STACK_DONE | GLB_TRAIN_STATUS_SITE_DONE | GLB_TRAIN_STATUS_RESULT
  | GLB_TRAIN_STATUS_STATE | GLB_TRAIN_OWNER_VALID | GLB_TRAIN_OWNER_SESSION | GLB_REC_STATUS_GEN
  | GLB_REC_STATUS_WEAR_FULL | GLB_REC_STATUS_STALE | GLB_REC_STATUS_VALID | CLK_DOM_CFG_FREQ_MHZ
  | CLK_DOM_CFG_PLL_EN | CLK_DOM_STATUS_FREQ_ACT | CLK_DOM_STATUS_TEST_FAIL | CLK_DOM_STATUS_TESTED
  | CLK_DOM_STATUS_RELEASED | CLK_DOM_STATUS_LOCKED | CLK_RELEASE_SEQ | CLK_RELEASE_DOMAIN
  | CLK_RELEASE_GO | CLK_RELEASE_RESULT_SEQ | CLK_RELEASE_RESULT_PHASE | CLK_RELEASE_RESULT_CODE
  | CC_STATUS_FW_STATE | CC_STATUS_CORES_RUN | CC_STATUS_READY | CC_READY_READY
  | CC_WDT_CFG_TIMEOUT_MS | CC_WDT_KICK_KICK | CC_BOOT_LIMIT_MS | CC_ERR_STATUS_BOOT_FAIL
  | CC_ERR_STATUS_WDT | CC_ERR_STATUS_SRAM_FATAL | CC_ERR_STATUS_SRAM_CORR | CC_SRAM_CORR_COUNT_COUNT
  | CC_FW_RUN_DIGEST_DIGEST | CC_FW_STAGED_DIGEST_DIGEST | CC_FW_SVN_STAGED_SVN | CC_FW_SVN_RUN_SVN
  | CC_FW_LOADED_BYTES | PWR_STATUS_STOP | PWR_STATUS_MOD_W | PWR_STATUS_SITE_W
  | PWR_STATUS_LIMITING | PWR_STATUS_COLL | PWR_CFG_HUB_WARN_OFF | PWR_CFG_HUB_HOT_OFF
  | PWR_CFG_STK_WARN_OFF | PWR_CFG_STK_HOT_OFF | PWR_CFG_RISE_MS | PWR_CFG_GRACE_MS
  | PWR_LIMIT_WINDOW_MS | PWR_LIMIT_LIMIT_W | PWR_ERR_STATUS_STOP | PWR_ERR_STATUS_RAIL_FAULT
  | PWR_ERR_STATUS_PMBUS_RETRY | PWR_ERR_STATUS_TSENSE_LOST | PWR_ERR_STATUS_SITE_OVER | PWR_ERR_STATUS_LIMIT_UNMET
  | PWR_ERR_STATUS_HALF_ISSUE | PWR_STOP_INFO_TEMP_Q2 | PWR_STOP_INFO_RAIL | PWR_STOP_INFO_ZONE
  | PWR_STOP_INFO_CAUSE | PWR_VID_VID | PWR_ZONE_STATUS_HUB_TEMP_Q2 | PWR_ZONE_STATUS_STK_TEMP_Q2
  | PWR_ZONE_STATUS_STEP | PWR_ZONE_STATUS_CAP_THERM | PWR_ZONE_STATUS_CAP_POWER | PWR_ZONE_STATUS_HUB_LEVEL
  | PWR_ZONE_STATUS_STK_LEVEL | PWR_ZONE_STATUS_HALF_ISSUE | PWR_ZONE_STATUS_GRACE | PWR_ZONE_STATUS_SENSOR_LOST
  | PWR_ZONE_POWER_ENG_W | PWR_ZONE_POWER_MEM_W | PWR_ZONE_POWER_STK_W | PWR_ZONE_MAX_STK_MAX_Q2
  | PWR_ZONE_MAX_HUB_MAX_Q2 | PWR_ZONE_TIME_HALF_US | PWR_ZONE_TIME_THROTTLE_US | PWR_RAIL_CFG_ADDR
  | PWR_RAIL_CFG_PAGE | PWR_RAIL_STATUS_VOUT_MV | PWR_RAIL_STATUS_IOUT_DA | PWR_RAIL_STATUS_TEMP_C
  | PWR_RAIL_STATUS_STATE | PWR_SITE_CFG_VCORE_MV | PWR_SITE_CFG_LIMIT_W | PWR_SITE_STATUS_PEAK_W
  | PWR_SITE_STATUS_AVG_W | TEL_FATAL_COUNT | TEL_FATAL_DOMAIN | TEL_FATAL_CODE
  | TEL_FATAL_CYC_CYCLES | TEL_ERR_SUMMARY_RANGE | TEL_SNAP_CTL_SNAP_SEQ | TEL_SNAP_CTL_GO
  | TEL_DOM_CYC_COUNT | TEL_SNAP_CYC_COUNT | TEL_CO_CTL_STATE | TEL_CO_CTL_CLOSE
  | TEL_CO_CTL_OPEN | TEL_CO_REGION_SIZE | TEL_CO_REGION_BASE | TEL_CO_REGION_USER
  | TEL_CO_REGION_MODE | TEL_CO_REGION_ENABLE | TEL_CO_REGSTAT_DROPPED | TEL_CO_REGSTAT_WR_PTR
  | TEL_CO_REGSTAT_FULL | TEL_CO_REGSTAT_WRAPPED | TEL_EXPORT_DEST | TEL_EXPORT_GO
  | TEL_EXPORT_SRC_LENGTH_L | TEL_EXPORT_SRC_SRC | TEL_EXPORT_RESULT_CODE | TEL_COH_TRACE_AGENT_MASK
  | TEL_COH_TRACE_HOME_MASK | TEL_COH_TRACE_ENABLE | TEL_COH_ADDR_LO_LINE | TEL_COH_ADDR_HI_LINE
  | DBG_SEL_STORE | DBG_SEL_ARRAY | DBG_SEL_WAY | DBG_SEL_UNIT
  | DBG_OFFSET_OFFSET | DBG_DATA_DATA | ATB_CFG_IFORCE_UA | ATB_CFG_NODE
  | ATB_CFG_MODE | GLN_CFG_PERIOD_US | GLN_CFG_CLASS_MASK | GLN_CFG_SRC_KIND
  | GLN_CFG_SRC_INDEX | GLN_CFG_DIR | GLN_CFG_SAMPLE_LOG2 | GLN_CFG_BIN_SHIFT
  | GLN_CFG_BIN_MODE | GLN_CFG_HIST_EN | GLN_CFG_ENABLE | GLN_MINMAX_MAX
  | GLN_MINMAX_MIN | GLN_COUNT_COUNT | GLN_SUM_SUM | GLN_EPOCH_EPOCH_US
  | PRB_CFG_PORT | PRB_CFG_ACTIONS | PRB_CFG_DIR | PRB_CFG_ENABLE
  | PRB_MATCH_CMD_MASK | PRB_MATCH_CMD_VAL | PRB_MATCH_CLASS_MASK | PRB_MATCH_PLOT_MASK
  | PRB_MATCH_PLOT_VAL | PRB_MATCH_ID_MASK | PRB_MATCH_ID_VAL | PRB_ADDR_LO_LINE
  | PRB_ADDR_HI_LINE | PRB_STATUS_MASK_STATUS | PRB_PKTS_COUNT | PRB_BYTES_COUNT
  | PRB_TRIG_POST | PRB_TRIG_TRIG_MODE | CE_FAULT_Q_TAIL | CE_FAULT_Q_NEXT
  | CE_LPS_INDEX_INDEX | CE_LPS_DATA_INSTR | SEC_PLOT_MAP_VALID | SEC_PLOT_MAP_COMMON
  | SEC_PLOT_MAP_TWIN | SEC_PLOT_MAP_WRITE | SEC_PLOT_MAP_TWIN_GRAN | SEC_PLOT_MAP_GRAN
  deriving DecidableEq, Repr

end Sys2Proof.Machine
end

