-- ==== Sys2Proof/Machine/RegTable.lean ====
section
/-! DEFINITION. The register table: where each register lies in the control space (01 R45 and the chapters'
tables), its fields with bits, access code (00 R11) and reset value (00 R13), the encodings a field accepts (00 R15)
and who may reach the register (R51, R456 and the sentence before each table). -/

namespace Sys2Proof.Machine

/-- Access codes of 00 R11. -/
inductive Acc where
  | ro | rw | rw1c | wo | rwl | rc
  deriving DecidableEq, Repr

/-- Who may reach a register: the manual's sentence before each register table. -/
inductive Reach where
  | operatorOnly | anyRead | engine | engineRead | faultQ | redFlags | portRead | siteRead | queuePair | window
  | stream | tally | sheafCtx | mailbox | claimant | plotSelfRead | ccOnly | debugOnly
  deriving DecidableEq, Repr

/-- One field of a register: bits [hi:lo] of its first element; `rep` elements, `step` bits apart (1 for a plain
field); the values from `vmin` to `vmax` that are multiples of `mult` are not reserved. -/
structure FieldRow where
  fid : Fid
  hi : Nat
  lo : Nat
  acc : Acc
  vmin : Nat := 0
  vmax : Nat := 2 ^ (hi - lo + 1) - 1
  mult : Nat := 1
  rep : Nat := 1
  step : Nat := 0
  deriving DecidableEq, Repr

/-- One register: control-space offset of its first instance, up to two dimensions (count, stride in bytes). -/
structure RegRow where
  base : Nat
  n1 : Nat := 1
  s1 : Nat := 0
  n2 : Nat := 1
  s2 : Nat := 0
  reach : Reach := .operatorOnly
  fields : List FieldRow
  deriving DecidableEq, Repr

/-- The row of each register, as its chapter's table gives it. -/
def regRow : Reg → RegRow
  | .GLB_ID => { base := 0x00000000, reach := .anyRead, fields := [
      { fid := .GLB_ID_VENDOR, hi := 47, lo := 32, acc := .ro },
      { fid := .GLB_ID_PART, hi := 31, lo := 16, acc := .ro },
      { fid := .GLB_ID_STEPPING, hi := 7, lo := 0, acc := .ro }] }
  | .GLB_SERIAL => { base := 0x00000008, reach := .anyRead, fields := [
      { fid := .GLB_SERIAL_SERIAL, hi := 63, lo := 0, acc := .ro }] }
  | .GLB_LC => { base := 0x00000010, reach := .anyRead, fields := [
      { fid := .GLB_LC_VOTE_SPLIT, hi := 19, lo := 19, acc := .ro },
      { fid := .GLB_LC_LC_STATE, hi := 18, lo := 16, acc := .ro },
      { fid := .GLB_LC_LC_CODE, hi := 15, lo := 0, acc := .ro }] }
  | .GLB_UM_CTL => { base := 0x00000200, reach := .anyRead, fields := [
      { fid := .GLB_UM_CTL_GEN, hi := 63, lo := 32, acc := .ro },
      { fid := .GLB_UM_CTL_READY, hi := 0, lo := 0, acc := .ro }] }
  | .GLB_UM_CE => { base := 0x00000208, reach := .anyRead, fields := [
      { fid := .GLB_UM_CE_ENTRY, hi := 7, lo := 0, acc := .ro, rep := 8, step := 8 }] }
  | .GLB_UM_MS => { base := 0x00000210, reach := .anyRead, fields := [
      { fid := .GLB_UM_MS_ENTRY, hi := 7, lo := 0, acc := .ro, rep := 8, step := 8 }] }
  | .GLB_UM_PLANE => { base := 0x00000218, reach := .anyRead, fields := [
      { fid := .GLB_UM_PLANE_ENTRY, hi := 7, lo := 0, acc := .ro, rep := 4, step := 8 }] }
  | .GLB_UM_SITE => { base := 0x00000220, reach := .anyRead, fields := [
      { fid := .GLB_UM_SITE_ENTRY, hi := 7, lo := 0, acc := .ro, rep := 8, step := 8 }] }
  | .GLB_UM_ETHLANE => { base := 0x00000228, reach := .anyRead, fields := [
      { fid := .GLB_UM_ETHLANE_ENTRY, hi := 7, lo := 0, acc := .ro, rep := 8, step := 8 }] }
  | .GLB_UM_UCIE => { base := 0x00000230, n1 := 6, s1 := 0x8, reach := .anyRead, fields := [
      { fid := .GLB_UM_UCIE_ENTRY, hi := 7, lo := 0, acc := .ro, rep := 8, step := 8 }] }
  | .GLB_UM_CH => { base := 0x00000300, n1 := 32, s1 := 0x8, reach := .anyRead, fields := [
      { fid := .GLB_UM_CH_ENTRY, hi := 7, lo := 0, acc := .ro, rep := 8, step := 8 }] }
  | .GLB_GRAN_AVAIL => { base := 0x00000400, n1 := 8, s1 := 0x8, reach := .anyRead, fields := [
      { fid := .GLB_GRAN_AVAIL_AVAIL, hi := 63, lo := 0, acc := .ro }] }
  | .GLB_GRAN_COUNT => { base := 0x00000440, reach := .anyRead, fields := [
      { fid := .GLB_GRAN_COUNT_COUNT, hi := 9, lo := 0, acc := .ro }] }
  | .PWR_FALLOW_REQ => { base := 0x09000100, fields := [
      { fid := .PWR_FALLOW_REQ_SEQ, hi := 15, lo := 12, acc := .wo },
      { fid := .PWR_FALLOW_REQ_ACTION, hi := 9, lo := 8, acc := .wo, vmin := 0, vmax := 2 },
      { fid := .PWR_FALLOW_REQ_CLASS, hi := 4, lo := 4, acc := .wo },
      { fid := .PWR_FALLOW_REQ_UNIT, hi := 2, lo := 0, acc := .wo }] }
  | .PWR_FALLOW_RESULT => { base := 0x09000108, fields := [
      { fid := .PWR_FALLOW_RESULT_SEQ, hi := 15, lo := 12, acc := .ro },
      { fid := .PWR_FALLOW_RESULT_PHASE, hi := 6, lo := 4, acc := .ro },
      { fid := .PWR_FALLOW_RESULT_CODE, hi := 2, lo := 0, acc := .ro }] }
  | .CE_STATUS => { base := 0x01000000, n1 := 8, s1 := 0x100000, reach := .engineRead, fields := [
      { fid := .CE_STATUS_DVFS_STEP, hi := 10, lo := 8, acc := .ro },
      { fid := .CE_STATUS_PSTATE, hi := 6, lo := 4, acc := .ro },
      { fid := .CE_STATUS_UM_STATE, hi := 1, lo := 0, acc := .ro }] }
  | .CE_DRAIN_LIMIT => { base := 0x01000008, n1 := 8, s1 := 0x100000, fields := [
      { fid := .CE_DRAIN_LIMIT_LIMIT_US, hi := 23, lo := 0, acc := .rw }] }
  | .CE_SPARE_USE => { base := 0x01000010, n1 := 8, s1 := 0x100000, fields := [
      { fid := .CE_SPARE_USE_TM_ROWS_MAX, hi := 36, lo := 32, acc := .ro },
      { fid := .CE_SPARE_USE_TA_COLS, hi := 4, lo := 0, acc := .ro, rep := 4, step := 8 }] }
  | .CE_ERR_STATUS => { base := 0x01000018, n1 := 8, s1 := 0x100000, fields := [
      { fid := .CE_ERR_STATUS_HARD_FAULT, hi := 3, lo := 3, acc := .rw1c },
      { fid := .CE_ERR_STATUS_TM_POISON, hi := 2, lo := 2, acc := .rw1c },
      { fid := .CE_ERR_STATUS_TM_CORR, hi := 1, lo := 1, acc := .rw1c },
      { fid := .CE_ERR_STATUS_COL_SPARED, hi := 0, lo := 0, acc := .rw1c }] }
  | .CE_ERR_COUNT => { base := 0x01000020, n1 := 8, s1 := 0x100000, fields := [
      { fid := .CE_ERR_COUNT_CORR, hi := 31, lo := 0, acc := .rc }] }
  | .CE_CYCLES => { base := 0x01000028, n1 := 8, s1 := 0x100000, reach := .engineRead, fields := [
      { fid := .CE_CYCLES_COUNT, hi := 63, lo := 0, acc := .ro }] }
  | .CE_ARRAY_BUSY => { base := 0x01000030, n1 := 8, s1 := 0x100000, n2 := 4, s2 := 0x8, reach := .engineRead, fields := [
      { fid := .CE_ARRAY_BUSY_COUNT, hi := 63, lo := 0, acc := .ro }] }
  | .CE_LANE_ISSUE => { base := 0x01000050, n1 := 8, s1 := 0x100000, reach := .engineRead, fields := [
      { fid := .CE_LANE_ISSUE_COUNT, hi := 63, lo := 0, acc := .ro }] }
  | .CE_PORT_STALL => { base := 0x01000058, n1 := 8, s1 := 0x100000, reach := .engineRead, fields := [
      { fid := .CE_PORT_STALL_COUNT, hi := 63, lo := 0, acc := .ro }] }
  | .CE_WQ_BASE => { base := 0x01001000, n1 := 8, s1 := 0x100000, n2 := 16, s2 := 0x40, reach := .engine, fields := [
      { fid := .CE_WQ_BASE_BASE, hi := 51, lo := 12, acc := .rw, vmin := 0, vmax := 134217727 }] }
  | .CE_WQ_CFG => { base := 0x01001008, n1 := 8, s1 := 0x100000, n2 := 16, s2 := 0x40, reach := .engine, fields := [
      { fid := .CE_WQ_CFG_LOG2_SIZE, hi := 19, lo := 16, acc := .rw, vmin := 4, vmax := 15 },
      { fid := .CE_WQ_CFG_PRIORITY, hi := 9, lo := 8, acc := .rw },
      { fid := .CE_WQ_CFG_RESUME, hi := 2, lo := 2, acc := .wo },
      { fid := .CE_WQ_CFG_ENABLE, hi := 0, lo := 0, acc := .rw }] }
  | .CE_WQ_TAIL => { base := 0x01001010, n1 := 8, s1 := 0x100000, n2 := 16, s2 := 0x40, reach := .engine, fields := [
      { fid := .CE_WQ_TAIL_TAIL, hi := 31, lo := 0, acc := .rw }] }
  | .CE_WQ_HEAD => { base := 0x01001018, n1 := 8, s1 := 0x100000, n2 := 16, s2 := 0x40, reach := .engine, fields := [
      { fid := .CE_WQ_HEAD_HEAD, hi := 31, lo := 0, acc := .ro }] }
  | .CE_CQ_BASE => { base := 0x01001020, n1 := 8, s1 := 0x100000, n2 := 16, s2 := 0x40, reach := .engine, fields := [
      { fid := .CE_CQ_BASE_BASE, hi := 51, lo := 12, acc := .rw, vmin := 0, vmax := 134217727 }] }
  | .CE_CQ_CFG => { base := 0x01001028, n1 := 8, s1 := 0x100000, n2 := 16, s2 := 0x40, reach := .engine, fields := [
      { fid := .CE_CQ_CFG_LOG2_SIZE, hi := 19, lo := 16, acc := .rw, vmin := 4, vmax := 15 }] }
  | .CE_CQ_HEAD => { base := 0x01001030, n1 := 8, s1 := 0x100000, n2 := 16, s2 := 0x40, reach := .engine, fields := [
      { fid := .CE_CQ_HEAD_HEAD, hi := 31, lo := 0, acc := .rw }] }
  | .CE_WQ_STATUS => { base := 0x01001038, n1 := 8, s1 := 0x100000, n2 := 16, s2 := 0x40, reach := .engine, fields := [
      { fid := .CE_WQ_STATUS_CQ_TAIL, hi := 63, lo := 32, acc := .ro },
      { fid := .CE_WQ_STATUS_STATE, hi := 9, lo := 8, acc := .ro },
      { fid := .CE_WQ_STATUS_RING_ERR, hi := 4, lo := 4, acc := .rw1c },
      { fid := .CE_WQ_STATUS_DB_ERR, hi := 3, lo := 3, acc := .rw1c }] }
  | .TALLY_VALUE => { base := 0x07800000, n1 := 4096, s1 := 0x10, reach := .tally, fields := [
      { fid := .TALLY_VALUE_VALUE, hi := 31, lo := 0, acc := .rw }] }
  | .TALLY_SIGNAL => { base := 0x07800008, n1 := 4096, s1 := 0x10, reach := .tally, fields := [
      { fid := .TALLY_SIGNAL_AMOUNT, hi := 31, lo := 0, acc := .wo }] }
  | .TALLY_OVF => { base := 0x07810000, n1 := 64, s1 := 0x8, reach := .tally, fields := [
      { fid := .TALLY_OVF_OVF, hi := 63, lo := 0, acc := .rw1c }] }
  | .MEM_STATUS => { base := 0x02000000, n1 := 8, s1 := 0x100000, reach := .anyRead, fields := [
      { fid := .MEM_STATUS_REFRESH_2X, hi := 5, lo := 5, acc := .ro },
      { fid := .MEM_STATUS_HALF_ISSUE, hi := 4, lo := 4, acc := .ro },
      { fid := .MEM_STATUS_INIT_DONE, hi := 3, lo := 3, acc := .ro },
      { fid := .MEM_STATUS_UM_STATE, hi := 1, lo := 0, acc := .ro }] }
  | .MEM_TEMP => { base := 0x02000008, n1 := 8, s1 := 0x100000, reach := .anyRead, fields := [
      { fid := .MEM_TEMP_TEMP_Q2, hi := 11, lo := 0, acc := .ro }] }
  | .MEM_TEMP_MAX => { base := 0x02000010, n1 := 8, s1 := 0x100000, fields := [
      { fid := .MEM_TEMP_MAX_MAX_Q2, hi := 11, lo := 0, acc := .rc }] }
  | .MEM_CAP => { base := 0x02000018, n1 := 8, s1 := 0x100000, reach := .anyRead, fields := [
      { fid := .MEM_CAP_CAP_GBPS, hi := 15, lo := 0, acc := .ro }] }
  | .MEM_ERR_STATUS => { base := 0x02000020, n1 := 8, s1 := 0x100000, fields := [
      { fid := .MEM_ERR_STATUS_CH_FAILED, hi := 5, lo := 5, acc := .rw1c },
      { fid := .MEM_ERR_STATUS_PIN_ERASED, hi := 4, lo := 4, acc := .rw1c },
      { fid := .MEM_ERR_STATUS_PPR_NONE, hi := 3, lo := 3, acc := .rw1c },
      { fid := .MEM_ERR_STATUS_PPR_DONE, hi := 2, lo := 2, acc := .rw1c },
      { fid := .MEM_ERR_STATUS_UNCORR, hi := 1, lo := 1, acc := .rw1c },
      { fid := .MEM_ERR_STATUS_CORR, hi := 0, lo := 0, acc := .rw1c }] }
  | .MEM_CORR_COUNT => { base := 0x02000028, n1 := 8, s1 := 0x100000, fields := [
      { fid := .MEM_CORR_COUNT_COUNT, hi := 31, lo := 0, acc := .rc }] }
  | .MEM_UNCORR_COUNT => { base := 0x02000030, n1 := 8, s1 := 0x100000, fields := [
      { fid := .MEM_UNCORR_COUNT_COUNT, hi := 31, lo := 0, acc := .rc }] }
  | .MEM_ERR_ADDR => { base := 0x02000038, n1 := 8, s1 := 0x100000, fields := [
      { fid := .MEM_ERR_ADDR_LINE, hi := 51, lo := 6, acc := .ro },
      { fid := .MEM_ERR_ADDR_CHAN, hi := 4, lo := 0, acc := .ro }] }
  | .MEM_SCRUB_CFG => { base := 0x02000040, n1 := 8, s1 := 0x100000, fields := [
      { fid := .MEM_SCRUB_CFG_ENABLE, hi := 8, lo := 8, acc := .rw },
      { fid := .MEM_SCRUB_CFG_PERIOD_H, hi := 7, lo := 0, acc := .rw, vmin := 1, vmax := 168 }] }
  | .MEM_SCRUB_STATUS => { base := 0x02000048, n1 := 8, s1 := 0x100000, fields := [
      { fid := .MEM_SCRUB_STATUS_PASSES, hi := 63, lo := 32, acc := .ro },
      { fid := .MEM_SCRUB_STATUS_PROGRESS, hi := 15, lo := 0, acc := .ro }] }
  | .MEM_PPR_USE => { base := 0x02000050, n1 := 8, s1 := 0x100000, fields := [
      { fid := .MEM_PPR_USE_FREE, hi := 31, lo := 16, acc := .ro },
      { fid := .MEM_PPR_USE_USED, hi := 15, lo := 0, acc := .ro }] }
  | .MEM_SCHED_CFG => { base := 0x02000058, n1 := 8, s1 := 0x100000, fields := [
      { fid := .MEM_SCHED_CFG_AGE_LIMIT_NS, hi := 47, lo := 32, acc := .rw, vmin := 100, vmax := 65535 },
      { fid := .MEM_SCHED_CFG_C0_RESERVE, hi := 27, lo := 16, acc := .rw, vmin := 0, vmax := 1024 },
      { fid := .MEM_SCHED_CFG_WR_HIGH, hi := 14, lo := 8, acc := .rw, vmin := 0, vmax := 64 },
      { fid := .MEM_SCHED_CFG_WR_LOW, hi := 6, lo := 0, acc := .rw }] }
  | .MEM_OUTSTANDING => { base := 0x02000060, n1 := 8, s1 := 0x100000, fields := [
      { fid := .MEM_OUTSTANDING_COUNT, hi := 11, lo := 0, acc := .ro }] }
  | .MEM_PIN_ERASE => { base := 0x02000100, n1 := 8, s1 := 0x100000, n2 := 32, s2 := 0x8, fields := [
      { fid := .MEM_PIN_ERASE_COUNT, hi := 17, lo := 16, acc := .ro },
      { fid := .MEM_PIN_ERASE_PIN1, hi := 14, lo := 8, acc := .ro },
      { fid := .MEM_PIN_ERASE_PIN0, hi := 6, lo := 0, acc := .ro }] }
  | .MEM_GKEY => { base := 0x02000200, n1 := 8, s1 := 0x100000, n2 := 32, s2 := 0x8, fields := [
      { fid := .MEM_GKEY_KEY, hi := 3, lo := 0, acc := .ro, rep := 16, step := 4 }] }
  | .MEM_GROUP_LOCAL => { base := 0x02008000, fields := [
      { fid := .MEM_GROUP_LOCAL_LOCAL, hi := 63, lo := 0, acc := .rwl }] }
  | .MEM_GROUP_EFFECTIVE => { base := 0x02008008, fields := [
      { fid := .MEM_GROUP_EFFECTIVE_LOCAL, hi := 63, lo := 0, acc := .ro }] }
  | .MEM_RELOC => { base := 0x02008010, fields := [
      { fid := .MEM_RELOC_BASE, hi := 25, lo := 16, acc := .ro },
      { fid := .MEM_RELOC_MAPPED_OUT, hi := 7, lo := 0, acc := .ro }] }
  | .MEM_INIT => { base := 0x02008018, fields := [
      { fid := .MEM_INIT_STATE, hi := 9, lo := 8, acc := .ro },
      { fid := .MEM_INIT_START, hi := 0, lo := 0, acc := .wo }] }
  | .MEM_COMB_CFG => { base := 0x02000400, n1 := 8, s1 := 0x100000, fields := [
      { fid := .MEM_COMB_CFG_WINDOW_NS, hi := 15, lo := 0, acc := .rw }] }
  | .MEM_COMB_OPENED => { base := 0x02000408, n1 := 8, s1 := 0x100000, fields := [
      { fid := .MEM_COMB_OPENED_COUNT, hi := 63, lo := 0, acc := .ro }] }
  | .MEM_COMB_ATTACHED => { base := 0x02000410, n1 := 8, s1 := 0x100000, fields := [
      { fid := .MEM_COMB_ATTACHED_COUNT, hi := 63, lo := 0, acc := .ro }] }
  | .MEM_COMB_FULL => { base := 0x02000418, n1 := 8, s1 := 0x100000, fields := [
      { fid := .MEM_COMB_FULL_COUNT, hi := 31, lo := 0, acc := .rc }] }
  | .MEM_COMB_INUSE => { base := 0x02000420, n1 := 8, s1 := 0x100000, fields := [
      { fid := .MEM_COMB_INUSE_COUNT, hi := 15, lo := 0, acc := .ro }] }
  | .MEM_RED_WRITES => { base := 0x02000428, n1 := 8, s1 := 0x100000, fields := [
      { fid := .MEM_RED_WRITES_COUNT, hi := 63, lo := 0, acc := .ro }] }
  | .MEM_RED_REFUSED => { base := 0x02000430, n1 := 8, s1 := 0x100000, fields := [
      { fid := .MEM_RED_REFUSED_COUNT, hi := 31, lo := 0, acc := .rc }] }
  | .MEM_RED_POISONED => { base := 0x02000438, n1 := 8, s1 := 0x100000, fields := [
      { fid := .MEM_RED_POISONED_COUNT, hi := 31, lo := 0, acc := .rc }] }
  | .MEM_TWIN_REPAIR_COUNT => { base := 0x02000440, n1 := 8, s1 := 0x100000, fields := [
      { fid := .MEM_TWIN_REPAIR_COUNT_COUNT, hi := 31, lo := 0, acc := .rc }] }
  | .MEM_TWIN_SERVED => { base := 0x02000448, n1 := 8, s1 := 0x100000, fields := [
      { fid := .MEM_TWIN_SERVED_COUNT, hi := 31, lo := 0, acc := .rc }] }
  | .MEM_RED_FLAGS => { base := 0x02000480, n1 := 8, s1 := 0x100000, n2 := 10, s2 := 0x8, reach := .redFlags, fields := [
      { fid := .MEM_RED_FLAGS_NAN_COUNT, hi := 31, lo := 16, acc := .rc },
      { fid := .MEM_RED_FLAGS_FLAGS, hi := 3, lo := 0, acc := .rw1c }] }
  | .MESH_STATUS => { base := 0x04000000, fields := [
      { fid := .MESH_STATUS_PLANES_UP, hi := 11, lo := 8, acc := .ro },
      { fid := .MESH_STATUS_ACTIVE, hi := 2, lo := 0, acc := .ro }] }
  | .MESH_CFG => { base := 0x04000008, fields := [
      { fid := .MESH_CFG_GUAR_URG, hi := 27, lo := 24, acc := .rw },
      { fid := .MESH_CFG_URG_AGE, hi := 11, lo := 0, acc := .rw, vmin := 1, vmax := 4095 }] }
  | .MESH_ERR_STATUS => { base := 0x04000010, fields := [
      { fid := .MESH_ERR_STATUS_PLANE_FAIL, hi := 3, lo := 3, acc := .rw1c },
      { fid := .MESH_ERR_STATUS_LINK_RETRY, hi := 2, lo := 2, acc := .rw1c },
      { fid := .MESH_ERR_STATUS_TIMEOUT, hi := 1, lo := 1, acc := .rw1c },
      { fid := .MESH_ERR_STATUS_UNMAPPED, hi := 0, lo := 0, acc := .rw1c }] }
  | .MESH_RETRY_COUNT => { base := 0x04000018, fields := [
      { fid := .MESH_RETRY_COUNT_COUNT, hi := 31, lo := 0, acc := .rc }] }
  | .QOS_COMMIT => { base := 0x04000100, fields := [
      { fid := .QOS_COMMIT_SEQ, hi := 15, lo := 12, acc := .wo },
      { fid := .QOS_COMMIT_GO, hi := 0, lo := 0, acc := .wo }] }
  | .QOS_COMMIT_RESULT => { base := 0x04000108, fields := [
      { fid := .QOS_COMMIT_RESULT_LIMIT_GBPS, hi := 63, lo := 48, acc := .ro },
      { fid := .QOS_COMMIT_RESULT_LOAD_GBPS, hi := 47, lo := 32, acc := .ro },
      { fid := .QOS_COMMIT_RESULT_IS_PORT, hi := 21, lo := 21, acc := .ro },
      { fid := .QOS_COMMIT_RESULT_WHERE, hi := 20, lo := 16, acc := .ro },
      { fid := .QOS_COMMIT_RESULT_SEQ, hi := 15, lo := 12, acc := .ro },
      { fid := .QOS_COMMIT_RESULT_CODE, hi := 10, lo := 8, acc := .ro }] }
  | .QOS_SITE_LOAD => { base := 0x04000140, n1 := 8, s1 := 0x8, fields := [
      { fid := .QOS_SITE_LOAD_SCALE, hi := 48, lo := 32, acc := .ro },
      { fid := .QOS_SITE_LOAD_EFF_LOAD_GBPS, hi := 31, lo := 16, acc := .ro },
      { fid := .QOS_SITE_LOAD_LOAD_GBPS, hi := 15, lo := 0, acc := .ro }] }
  | .QOS_CLASS_MISS => { base := 0x04000200, n1 := 8, s1 := 0x8, fields := [
      { fid := .QOS_CLASS_MISS_COUNT, hi := 31, lo := 0, acc := .rc }] }
  | .QOS_MISS_STATUS => { base := 0x04000240, fields := [
      { fid := .QOS_MISS_STATUS_CLASS, hi := 7, lo := 0, acc := .rw1c }] }
  | .QOS_MISS_IRQ_EN => { base := 0x04000248, fields := [
      { fid := .QOS_MISS_IRQ_EN_ENABLE, hi := 7, lo := 0, acc := .rw }] }
  | .QOS_PORT_STATUS => { base := 0x04001000, n1 := 30, s1 := 0x200, reach := .portRead, fields := [
      { fid := .QOS_PORT_STATUS_CAP_GBPS, hi := 63, lo := 48, acc := .ro },
      { fid := .QOS_PORT_STATUS_SCALE, hi := 40, lo := 24, acc := .ro },
      { fid := .QOS_PORT_STATUS_OUTSTANDING, hi := 23, lo := 8, acc := .ro },
      { fid := .QOS_PORT_STATUS_FENCE_STATE, hi := 1, lo := 0, acc := .ro }] }
  | .QOS_TIMEOUT => { base := 0x04001008, n1 := 30, s1 := 0x200, fields := [
      { fid := .QOS_TIMEOUT_CTL_US, hi := 60, lo := 44, acc := .rw, vmin := 1, vmax := 100000 },
      { fid := .QOS_TIMEOUT_SITE_US, hi := 40, lo := 24, acc := .rw, vmin := 1, vmax := 100000 },
      { fid := .QOS_TIMEOUT_MEM_US, hi := 16, lo := 0, acc := .rw, vmin := 1, vmax := 100000 }] }
  | .QOS_PORT_COUNT => { base := 0x04001010, n1 := 30, s1 := 0x200, fields := [
      { fid := .QOS_PORT_COUNT_UNMAPPED, hi := 63, lo := 48, acc := .rc },
      { fid := .QOS_PORT_COUNT_LATE, hi := 47, lo := 32, acc := .rc },
      { fid := .QOS_PORT_COUNT_TIMEOUTS, hi := 31, lo := 0, acc := .rc }] }
  | .QOS_DEFAULT_CLASS => { base := 0x04001018, n1 := 30, s1 := 0x200, fields := [
      { fid := .QOS_DEFAULT_CLASS_RCLASS, hi := 6, lo := 4, acc := .rw },
      { fid := .QOS_DEFAULT_CLASS_WCLASS, hi := 2, lo := 0, acc := .rw, vmin := 1, vmax := 7 }] }
  | .QOS_RANGE_BASE => { base := 0x04001040, n1 := 30, s1 := 0x200, n2 := 16, s2 := 0x10, fields := [
      { fid := .QOS_RANGE_BASE_BASE, hi := 51, lo := 12, acc := .rw },
      { fid := .QOS_RANGE_BASE_ENABLE, hi := 0, lo := 0, acc := .rw }] }
  | .QOS_RANGE_LIMIT => { base := 0x04001048, n1 := 30, s1 := 0x200, n2 := 16, s2 := 0x10, fields := [
      { fid := .QOS_RANGE_LIMIT_LIMIT, hi := 51, lo := 12, acc := .rw },
      { fid := .QOS_RANGE_LIMIT_RCLASS, hi := 6, lo := 4, acc := .rw },
      { fid := .QOS_RANGE_LIMIT_WCLASS, hi := 2, lo := 0, acc := .rw, vmin := 1, vmax := 7 }] }
  | .QOS_CLASS_CFG => { base := 0x04001140, n1 := 30, s1 := 0x200, n2 := 8, s2 := 0x10, fields := [
      { fid := .QOS_CLASS_CFG_SITE_MASK, hi := 63, lo := 56, acc := .rw },
      { fid := .QOS_CLASS_CFG_BASE_URG, hi := 51, lo := 48, acc := .rw },
      { fid := .QOS_CLASS_CFG_CEIL_GBPS, hi := 47, lo := 32, acc := .rw },
      { fid := .QOS_CLASS_CFG_GUAR_GBPS, hi := 15, lo := 0, acc := .rw }] }
  | .QOS_CLASS_EFF => { base := 0x04001148, n1 := 30, s1 := 0x200, n2 := 8, s2 := 0x10, reach := .portRead, fields := [
      { fid := .QOS_CLASS_EFF_GUAR_GBPS, hi := 31, lo := 16, acc := .ro },
      { fid := .QOS_CLASS_EFF_EFF_GUAR, hi := 15, lo := 0, acc := .ro }] }
  | .QOS_MISS => { base := 0x040011C0, n1 := 30, s1 := 0x200, n2 := 8, s2 := 0x8, fields := [
      { fid := .QOS_MISS_COUNT, hi := 31, lo := 0, acc := .rc }] }
  | .COH_STATUS => { base := 0x05000000, fields := [
      { fid := .COH_STATUS_RING_OK, hi := 16, lo := 16, acc := .ro },
      { fid := .COH_STATUS_AGENTS_UP, hi := 8, lo := 0, acc := .ro }] }
  | .COH_CFG => { base := 0x05000008, fields := [
      { fid := .COH_CFG_SNOOP_US, hi := 9, lo := 0, acc := .rw, vmin := 1, vmax := 1000 }] }
  | .COH_ERR_STATUS => { base := 0x05000010, fields := [
      { fid := .COH_ERR_STATUS_RING_REPLAY, hi := 4, lo := 4, acc := .rw1c },
      { fid := .COH_ERR_STATUS_RECLAIM, hi := 3, lo := 3, acc := .rw1c },
      { fid := .COH_ERR_STATUS_SNOOP_TIMEOUT, hi := 2, lo := 2, acc := .rw1c },
      { fid := .COH_ERR_STATUS_PROTO_ERR, hi := 1, lo := 1, acc := .rw1c },
      { fid := .COH_ERR_STATUS_SF_CORR, hi := 0, lo := 0, acc := .rw1c }] }
  | .COH_ERR_LINE => { base := 0x05000018, fields := [
      { fid := .COH_ERR_LINE_LINE, hi := 51, lo := 6, acc := .ro }] }
  | .COH_ERR_INFO => { base := 0x05000020, fields := [
      { fid := .COH_ERR_INFO_HOME_STATE, hi := 18, lo := 16, acc := .ro },
      { fid := .COH_ERR_INFO_MESSAGE, hi := 15, lo := 8, acc := .ro },
      { fid := .COH_ERR_INFO_AGENT, hi := 3, lo := 0, acc := .ro }] }
  | .COH_SF_OCC => { base := 0x05001000, n1 := 8, s1 := 0x100, fields := [
      { fid := .COH_SF_OCC_OWNED, hi := 52, lo := 32, acc := .ro },
      { fid := .COH_SF_OCC_VALID, hi := 20, lo := 0, acc := .ro }] }
  | .COH_SNOOPS => { base := 0x05001008, n1 := 8, s1 := 0x100, fields := [
      { fid := .COH_SNOOPS_COUNT, hi := 63, lo := 0, acc := .ro }] }
  | .COH_VICTIMS => { base := 0x05001010, n1 := 8, s1 := 0x100, fields := [
      { fid := .COH_VICTIMS_COUNT, hi := 63, lo := 0, acc := .ro }] }
  | .COH_ALLOC_RETRY => { base := 0x05001018, n1 := 8, s1 := 0x100, fields := [
      { fid := .COH_ALLOC_RETRY_COUNT, hi := 31, lo := 0, acc := .rc }] }
  | .COH_WBP => { base := 0x05001020, n1 := 8, s1 := 0x100, fields := [
      { fid := .COH_WBP_COUNT, hi := 31, lo := 0, acc := .rc }] }
  | .COH_STALE_EVICT => { base := 0x05001028, n1 := 8, s1 := 0x100, fields := [
      { fid := .COH_STALE_EVICT_COUNT, hi := 31, lo := 0, acc := .rc }] }
  | .COH_SF_CORR_COUNT => { base := 0x05001030, n1 := 8, s1 := 0x100, fields := [
      { fid := .COH_SF_CORR_COUNT_COUNT, hi := 31, lo := 0, acc := .rc }] }
  | .COH_AGENT_STATUS => { base := 0x05002000, n1 := 9, s1 := 0x40, reach := .siteRead, fields := [
      { fid := .COH_AGENT_STATUS_STATE, hi := 1, lo := 0, acc := .ro }] }
  | .COH_AGENT_LINES => { base := 0x05002008, n1 := 9, s1 := 0x40, reach := .siteRead, fields := [
      { fid := .COH_AGENT_LINES_COUNT, hi := 20, lo := 0, acc := .ro }] }
  | .COH_RECLAIMED => { base := 0x05002010, n1 := 9, s1 := 0x40, fields := [
      { fid := .COH_RECLAIMED_POISONED, hi := 63, lo := 32, acc := .rc },
      { fid := .COH_RECLAIMED_DROPPED, hi := 31, lo := 0, acc := .rc }] }
  | .SITE_STATUS => { base := 0x03000000, n1 := 8, s1 := 0x100000, reach := .siteRead, fields := [
      { fid := .SITE_STATUS_CAP_GBPS, hi := 47, lo := 32, acc := .ro },
      { fid := .SITE_STATUS_RATE, hi := 22, lo := 20, acc := .ro },
      { fid := .SITE_STATUS_PROFILE_ACT, hi := 17, lo := 16, acc := .ro },
      { fid := .SITE_STATUS_LINK, hi := 14, lo := 12, acc := .ro },
      { fid := .SITE_STATUS_UM_STATE, hi := 1, lo := 0, acc := .ro }] }
  | .SITE_CFG => { base := 0x03000008, n1 := 8, s1 := 0x100000, fields := [
      { fid := .SITE_CFG_CTL_ACCESS, hi := 4, lo := 4, acc := .rw },
      { fid := .SITE_CFG_FITTED, hi := 3, lo := 3, acc := .rw },
      { fid := .SITE_CFG_CXL_ROLE, hi := 2, lo := 2, acc := .rw },
      { fid := .SITE_CFG_PROFILE, hi := 1, lo := 0, acc := .rw, vmin := 0, vmax := 1 }] }
  | .SITE_CTL => { base := 0x03000010, n1 := 8, s1 := 0x100000, fields := [
      { fid := .SITE_CTL_RETEST, hi := 13, lo := 8, acc := .wo },
      { fid := .SITE_CTL_CHIPLET_RESET, hi := 1, lo := 1, acc := .wo },
      { fid := .SITE_CTL_RETRAIN, hi := 0, lo := 0, acc := .wo }] }
  | .SITE_ERR_STATUS => { base := 0x03000018, n1 := 8, s1 := 0x100000, fields := [
      { fid := .SITE_ERR_STATUS_FAIL, hi := 6, lo := 6, acc := .rw1c },
      { fid := .SITE_ERR_STATUS_BAD_PKT, hi := 5, lo := 5, acc := .rw1c },
      { fid := .SITE_ERR_STATUS_CREDIT_STALL, hi := 4, lo := 4, acc := .rw1c },
      { fid := .SITE_ERR_STATUS_LINK_DOWN, hi := 3, lo := 3, acc := .rw1c },
      { fid := .SITE_ERR_STATUS_UM_FAIL, hi := 2, lo := 2, acc := .rw1c },
      { fid := .SITE_ERR_STATUS_WIDTH, hi := 1, lo := 1, acc := .rw1c },
      { fid := .SITE_ERR_STATUS_LANE_REPAIR, hi := 0, lo := 0, acc := .rw1c }] }
  | .SITE_LAST_DOWN => { base := 0x03000020, n1 := 8, s1 := 0x100000, fields := [
      { fid := .SITE_LAST_DOWN_CAUSE, hi := 3, lo := 0, acc := .ro }] }
  | .SITE_LINK_DOWNS => { base := 0x03000028, n1 := 8, s1 := 0x100000, fields := [
      { fid := .SITE_LINK_DOWNS_COUNT, hi := 31, lo := 0, acc := .rc }] }
  | .SITE_REPLAYS => { base := 0x03000030, n1 := 8, s1 := 0x100000, fields := [
      { fid := .SITE_REPLAYS_COUNT, hi := 31, lo := 0, acc := .rc }] }
  | .SITE_BAD_PKTS => { base := 0x03000038, n1 := 8, s1 := 0x100000, fields := [
      { fid := .SITE_BAD_PKTS_COUNT, hi := 31, lo := 0, acc := .rc }] }
  | .SITE_LATE => { base := 0x03000040, n1 := 8, s1 := 0x100000, fields := [
      { fid := .SITE_LATE_COUNT, hi := 31, lo := 0, acc := .rc }] }
  | .SITE_DRAIN_LIMIT => { base := 0x03000048, n1 := 8, s1 := 0x100000, fields := [
      { fid := .SITE_DRAIN_LIMIT_LIMIT_US, hi := 23, lo := 0, acc := .rw }] }
  | .SITE_CREDIT_LIMIT => { base := 0x03000050, n1 := 8, s1 := 0x100000, fields := [
      { fid := .SITE_CREDIT_LIMIT_LIMIT_US, hi := 23, lo := 0, acc := .rw, vmin := 1, vmax := 100000 }] }
  | .SITE_PEER_CREDITS => { base := 0x03000058, n1 := 8, s1 := 0x100000, fields := [
      { fid := .SITE_PEER_CREDITS_SRSP, hi := 63, lo := 48, acc := .ro },
      { fid := .SITE_PEER_CREDITS_SNP, hi := 47, lo := 32, acc := .ro },
      { fid := .SITE_PEER_CREDITS_RSP, hi := 31, lo := 16, acc := .ro },
      { fid := .SITE_PEER_CREDITS_REQ, hi := 15, lo := 0, acc := .ro }] }
  | .SITE_OUTSTANDING => { base := 0x03000060, n1 := 8, s1 := 0x100000, fields := [
      { fid := .SITE_OUTSTANDING_COUNT, hi := 11, lo := 0, acc := .ro }] }
  | .SITE_UM_STATUS => { base := 0x03000100, n1 := 8, s1 := 0x100000, n2 := 6, s2 := 0x10, reach := .siteRead, fields := [
      { fid := .SITE_UM_STATUS_RX_REPAIRS, hi := 14, lo := 12, acc := .ro },
      { fid := .SITE_UM_STATUS_TX_REPAIRS, hi := 10, lo := 8, acc := .ro },
      { fid := .SITE_UM_STATUS_WIDTH, hi := 5, lo := 4, acc := .ro },
      { fid := .SITE_UM_STATUS_STATE, hi := 1, lo := 0, acc := .ro }] }
  | .SITE_UM_RECORD => { base := 0x03000108, n1 := 8, s1 := 0x100000, n2 := 6, s2 := 0x10, fields := [
      { fid := .SITE_UM_RECORD_RX_LANES, hi := 55, lo := 28, acc := .ro },
      { fid := .SITE_UM_RECORD_TX_LANES, hi := 27, lo := 0, acc := .ro }] }
  | .ETH_STATUS => { base := 0x06000000, reach := .anyRead, fields := [
      { fid := .ETH_STATUS_LANES_USED, hi := 23, lo := 16, acc := .ro },
      { fid := .ETH_STATUS_MODE_ACT, hi := 10, lo := 8, acc := .ro },
      { fid := .ETH_STATUS_LINK, hi := 2, lo := 0, acc := .ro }] }
  | .ETH_CFG => { base := 0x06000008, fields := [
      { fid := .ETH_CFG_RETRAIN, hi := 15, lo := 15, acc := .wo },
      { fid := .ETH_CFG_MODE, hi := 14, lo := 12, acc := .rw },
      { fid := .ETH_CFG_HL_PRIO, hi := 10, lo := 8, acc := .rw },
      { fid := .ETH_CFG_CNP_PRIO, hi := 6, lo := 4, acc := .rw },
      { fid := .ETH_CFG_CC_EN, hi := 1, lo := 1, acc := .rw },
      { fid := .ETH_CFG_FALLBACK, hi := 0, lo := 0, acc := .rw }] }
  | .ETH_MAC => { base := 0x06000010, fields := [
      { fid := .ETH_MAC_MAC, hi := 47, lo := 0, acc := .ro }] }
  | .ETH_VLAN => { base := 0x06000018, fields := [
      { fid := .ETH_VLAN_ENABLE, hi := 16, lo := 16, acc := .rw },
      { fid := .ETH_VLAN_VID, hi := 11, lo := 0, acc := .rw }] }
  | .ETH_IPV4_ADDR => { base := 0x06000020, n1 := 4, s1 := 0x8, fields := [
      { fid := .ETH_IPV4_ADDR_VALID, hi := 32, lo := 32, acc := .rw },
      { fid := .ETH_IPV4_ADDR_ADDR, hi := 31, lo := 0, acc := .rw }] }
  | .ETH_IPV6_HI => { base := 0x06000040, n1 := 4, s1 := 0x10, fields := [
      { fid := .ETH_IPV6_HI_ADDR, hi := 63, lo := 0, acc := .rw }] }
  | .ETH_IPV6_LO => { base := 0x06000048, n1 := 4, s1 := 0x10, fields := [
      { fid := .ETH_IPV6_LO_ADDR, hi := 63, lo := 0, acc := .rw }] }
  | .ETH_IPV6_VALID => { base := 0x06000080, fields := [
      { fid := .ETH_IPV6_VALID_VALID, hi := 3, lo := 0, acc := .rw }] }
  | .ETH_PFC => { base := 0x06000088, fields := [
      { fid := .ETH_PFC_LOSSLESS, hi := 7, lo := 0, acc := .rw }] }
  | .ETH_PFC_THRESH => { base := 0x06000090, n1 := 8, s1 := 0x8, fields := [
      { fid := .ETH_PFC_THRESH_HEADROOM_KIB, hi := 47, lo := 32, acc := .rw },
      { fid := .ETH_PFC_THRESH_XOFF_KIB, hi := 31, lo := 16, acc := .rw },
      { fid := .ETH_PFC_THRESH_XON_KIB, hi := 15, lo := 0, acc := .rw }] }
  | .ETH_DSCP_MAP => { base := 0x060000D0, n1 := 4, s1 := 0x8, fields := [
      { fid := .ETH_DSCP_MAP_PRIO, hi := 2, lo := 0, acc := .rw, rep := 16, step := 4 }] }
  | .ETH_PRIO_DSCP => { base := 0x060000F0, fields := [
      { fid := .ETH_PRIO_DSCP_DSCP, hi := 5, lo := 0, acc := .rw, rep := 8, step := 6 }] }
  | .ETH_TX_WEIGHT => { base := 0x060000F8, fields := [
      { fid := .ETH_TX_WEIGHT_WEIGHT, hi := 7, lo := 0, acc := .rw, vmin := 1, vmax := 255, rep := 8, step := 8 }] }
  | .ETH_CC_CFG => { base := 0x06000100, fields := [
      { fid := .ETH_CC_CFG_IDLE_RESET, hi := 63, lo := 56, acc := .rw },
      { fid := .ETH_CC_CFG_CNP_GAP_US, hi := 55, lo := 48, acc := .rw },
      { fid := .ETH_CC_CFG_RATE_MIN, hi := 47, lo := 40, acc := .rw },
      { fid := .ETH_CC_CFG_RISE_STEP, hi := 39, lo := 32, acc := .rw },
      { fid := .ETH_CC_CFG_RECOVER_STEPS, hi := 27, lo := 24, acc := .rw },
      { fid := .ETH_CC_CFG_RISE_PERIOD_US, hi := 23, lo := 16, acc := .rw, vmin := 1, vmax := 255 },
      { fid := .ETH_CC_CFG_CUT_HOLD_US, hi := 15, lo := 8, acc := .rw },
      { fid := .ETH_CC_CFG_CUT_NUM, hi := 7, lo := 0, acc := .rw, vmin := 1, vmax := 255 }] }
  | .ETH_PFC_WD => { base := 0x06000108, fields := [
      { fid := .ETH_PFC_WD_MS, hi := 15, lo := 0, acc := .rw }] }
  | .ETH_LANE_LIMIT => { base := 0x06000110, fields := [
      { fid := .ETH_LANE_LIMIT_SYMBOLS, hi := 31, lo := 0, acc := .rw }] }
  | .ETH_CNT => { base := 0x06000200, n1 := 15, s1 := 0x8, fields := [
      { fid := .ETH_CNT_COUNT, hi := 31, lo := 0, acc := .rc }] }
  | .ETH_ERR_STATUS => { base := 0x06000300, fields := [
      { fid := .ETH_ERR_STATUS_PORT_FATAL, hi := 5, lo := 5, acc := .rw1c },
      { fid := .ETH_ERR_STATUS_PFC_STORM, hi := 4, lo := 4, acc := .rw1c },
      { fid := .ETH_ERR_STATUS_QP_ERROR, hi := 3, lo := 3, acc := .rw1c },
      { fid := .ETH_ERR_STATUS_LANE_FAIL, hi := 2, lo := 2, acc := .rw1c },
      { fid := .ETH_ERR_STATUS_LINK_DOWN, hi := 0, lo := 0, acc := .rw1c }] }
  | .ETH_PLOT_RES => { base := 0x06000400, n1 := 8, s1 := 0x8, reach := .anyRead, fields := [
      { fid := .ETH_PLOT_RES_QP_COUNT, hi := 45, lo := 32, acc := .ro },
      { fid := .ETH_PLOT_RES_QP_FIRST, hi := 28, lo := 16, acc := .ro },
      { fid := .ETH_PLOT_RES_ING_COUNT, hi := 14, lo := 8, acc := .ro },
      { fid := .ETH_PLOT_RES_ING_FIRST, hi := 5, lo := 0, acc := .ro }] }
  | .ETH_LANE => { base := 0x06000500, n1 := 8, s1 := 0x8, fields := [
      { fid := .ETH_LANE_CORR_SYMBOLS, hi := 63, lo := 32, acc := .rc },
      { fid := .ETH_LANE_LOCK, hi := 8, lo := 8, acc := .ro },
      { fid := .ETH_LANE_UM_STATE, hi := 1, lo := 0, acc := .ro }] }
  | .ETH_QP_CTL => { base := 0x06100000, n1 := 8192, s1 := 0x80, reach := .queuePair, fields := [
      { fid := .ETH_QP_CTL_DEST_QPN, hi := 63, lo := 40, acc := .rw },
      { fid := .ETH_QP_CTL_SRC_ADDR, hi := 39, lo := 36, acc := .rw, vmin := 0, vmax := 8 },
      { fid := .ETH_QP_CTL_PRIO, hi := 34, lo := 32, acc := .rw },
      { fid := .ETH_QP_CTL_PMTU, hi := 30, lo := 28, acc := .rw, vmin := 1, vmax := 5 },
      { fid := .ETH_QP_CTL_SACK, hi := 27, lo := 27, acc := .rw },
      { fid := .ETH_QP_CTL_ACK_TIMEOUT, hi := 24, lo := 20, acc := .rw, vmin := 1, vmax := 31 },
      { fid := .ETH_QP_CTL_RETRY_CNT, hi := 18, lo := 16, acc := .rw },
      { fid := .ETH_QP_CTL_RNR_RETRY, hi := 14, lo := 12, acc := .rw },
      { fid := .ETH_QP_CTL_STATE, hi := 2, lo := 0, acc := .rw }] }
  | .ETH_QP_DEST_IP_HI => { base := 0x06100008, n1 := 8192, s1 := 0x80, reach := .queuePair, fields := [
      { fid := .ETH_QP_DEST_IP_HI_IP, hi := 63, lo := 0, acc := .rw }] }
  | .ETH_QP_DEST_IP_LO => { base := 0x06100010, n1 := 8192, s1 := 0x80, reach := .queuePair, fields := [
      { fid := .ETH_QP_DEST_IP_LO_IP, hi := 63, lo := 0, acc := .rw }] }
  | .ETH_QP_DEST_MAC => { base := 0x06100018, n1 := 8192, s1 := 0x80, reach := .queuePair, fields := [
      { fid := .ETH_QP_DEST_MAC_P_KEY, hi := 63, lo := 48, acc := .rw },
      { fid := .ETH_QP_DEST_MAC_MAC, hi := 47, lo := 0, acc := .rw }] }
  | .ETH_QP_PSN => { base := 0x06100020, n1 := 8192, s1 := 0x80, reach := .queuePair, fields := [
      { fid := .ETH_QP_PSN_SQ_PSN, hi := 55, lo := 32, acc := .rw },
      { fid := .ETH_QP_PSN_RQ_PSN, hi := 23, lo := 0, acc := .rw }] }
  | .ETH_QP_SQ => { base := 0x06100028, n1 := 8192, s1 := 0x80, reach := .queuePair, fields := [
      { fid := .ETH_QP_SQ_BASE, hi := 51, lo := 12, acc := .rw },
      { fid := .ETH_QP_SQ_LOG2_SIZE, hi := 3, lo := 0, acc := .rw, vmin := 4, vmax := 12 }] }
  | .ETH_QP_RQ => { base := 0x06100030, n1 := 8192, s1 := 0x80, reach := .queuePair, fields := [
      { fid := .ETH_QP_RQ_BASE, hi := 51, lo := 12, acc := .rw },
      { fid := .ETH_QP_RQ_LOG2_SIZE, hi := 3, lo := 0, acc := .rw, vmin := 4, vmax := 12 }] }
  | .ETH_QP_CQ => { base := 0x06100038, n1 := 8192, s1 := 0x80, reach := .queuePair, fields := [
      { fid := .ETH_QP_CQ_BASE, hi := 51, lo := 12, acc := .rw },
      { fid := .ETH_QP_CQ_LOG2_SIZE, hi := 3, lo := 0, acc := .rw, vmin := 4, vmax := 13 }] }
  | .ETH_QP_SQ_TAIL => { base := 0x06100040, n1 := 8192, s1 := 0x80, reach := .queuePair, fields := [
      { fid := .ETH_QP_SQ_TAIL_TAIL, hi := 31, lo := 0, acc := .rw }] }
  | .ETH_QP_RQ_TAIL => { base := 0x06100048, n1 := 8192, s1 := 0x80, reach := .queuePair, fields := [
      { fid := .ETH_QP_RQ_TAIL_TAIL, hi := 31, lo := 0, acc := .rw }] }
  | .ETH_QP_CQ_HEAD => { base := 0x06100050, n1 := 8192, s1 := 0x80, reach := .queuePair, fields := [
      { fid := .ETH_QP_CQ_HEAD_HEAD, hi := 31, lo := 0, acc := .rw }] }
  | .ETH_QP_STATUS => { base := 0x06100058, n1 := 8192, s1 := 0x80, reach := .queuePair, fields := [
      { fid := .ETH_QP_STATUS_CQ_TAIL, hi := 63, lo := 32, acc := .ro },
      { fid := .ETH_QP_STATUS_LAST_STATUS, hi := 31, lo := 24, acc := .ro },
      { fid := .ETH_QP_STATUS_RING_ERR, hi := 3, lo := 3, acc := .rw1c },
      { fid := .ETH_QP_STATUS_DB_ERR, hi := 2, lo := 2, acc := .rw1c }] }
  | .ETH_QP_RATE => { base := 0x06100060, n1 := 8192, s1 := 0x80, reach := .queuePair, fields := [
      { fid := .ETH_QP_RATE_RATE_MAX, hi := 47, lo := 32, acc := .rw },
      { fid := .ETH_QP_RATE_RATE_NOW, hi := 15, lo := 0, acc := .ro }] }
  | .ETH_QP_TALLY => { base := 0x06100068, n1 := 8192, s1 := 0x80, reach := .queuePair, fields := [
      { fid := .ETH_QP_TALLY_RECV_EN, hi := 28, lo := 28, acc := .rw },
      { fid := .ETH_QP_TALLY_RECV_TALLY, hi := 27, lo := 16, acc := .rw }] }
  | .ETH_QP_COUNT => { base := 0x06100070, n1 := 8192, s1 := 0x80, reach := .queuePair, fields := [
      { fid := .ETH_QP_COUNT_RETRANS, hi := 63, lo := 32, acc := .rc },
      { fid := .ETH_QP_COUNT_CNP_RX, hi := 31, lo := 0, acc := .rc }] }
  | .ETH_WIN_CTL => { base := 0x06200000, n1 := 1024, s1 := 0x10, reach := .window, fields := [
      { fid := .ETH_WIN_CTL_TAG, hi := 63, lo := 42, acc := .rw },
      { fid := .ETH_WIN_CTL_ALIAS, hi := 3, lo := 3, acc := .rw },
      { fid := .ETH_WIN_CTL_WRITE, hi := 2, lo := 2, acc := .rw },
      { fid := .ETH_WIN_CTL_READ, hi := 1, lo := 1, acc := .rw },
      { fid := .ETH_WIN_CTL_VALID, hi := 0, lo := 0, acc := .rw }] }
  | .ETH_WIN_RANGE => { base := 0x06200008, n1 := 1024, s1 := 0x10, reach := .window, fields := [
      { fid := .ETH_WIN_RANGE_BASE, hi := 58, lo := 32, acc := .rw },
      { fid := .ETH_WIN_RANGE_LIMIT, hi := 26, lo := 0, acc := .rw }] }
  | .ETH_ING_CFG => { base := 0x06300000, n1 := 64, s1 := 0x80, reach := .stream, fields := [
      { fid := .ETH_ING_CFG_UDP_PORT, hi := 63, lo := 48, acc := .rw },
      { fid := .ETH_ING_CFG_TALLY, hi := 43, lo := 32, acc := .rw },
      { fid := .ETH_ING_CFG_LOG2_SLOTS, hi := 19, lo := 16, acc := .rw, vmin := 1, vmax := 12 },
      { fid := .ETH_ING_CFG_LOG2_ROWS, hi := 12, lo := 8, acc := .rw, vmin := 0, vmax := 16 },
      { fid := .ETH_ING_CFG_FILL, hi := 5, lo := 4, acc := .rw, vmin := 0, vmax := 2 },
      { fid := .ETH_ING_CFG_SRC_FILTER, hi := 2, lo := 2, acc := .rw },
      { fid := .ETH_ING_CFG_MODE, hi := 1, lo := 1, acc := .rw },
      { fid := .ETH_ING_CFG_ENABLE, hi := 0, lo := 0, acc := .rw }] }
  | .ETH_ING_SRC_HI => { base := 0x06300008, n1 := 64, s1 := 0x80, reach := .stream, fields := [
      { fid := .ETH_ING_SRC_HI_IP, hi := 63, lo := 0, acc := .rw }] }
  | .ETH_ING_SRC_LO => { base := 0x06300010, n1 := 64, s1 := 0x80, reach := .stream, fields := [
      { fid := .ETH_ING_SRC_LO_IP, hi := 63, lo := 0, acc := .rw }] }
  | .ETH_ING_ROWCFG => { base := 0x06300018, n1 := 64, s1 := 0x80, reach := .stream, fields := [
      { fid := .ETH_ING_ROWCFG_SLOT_US, hi := 47, lo := 24, acc := .rw },
      { fid := .ETH_ING_ROWCFG_ROW_BYTES, hi := 13, lo := 0, acc := .rw, vmin := 4, vmax := 8192, mult := 4 }] }
  | .ETH_ING_SLOT_BASE => { base := 0x06300020, n1 := 64, s1 := 0x80, reach := .stream, fields := [
      { fid := .ETH_ING_SLOT_BASE_BASE, hi := 51, lo := 12, acc := .rw }] }
  | .ETH_ING_REC_BASE => { base := 0x06300028, n1 := 64, s1 := 0x80, reach := .stream, fields := [
      { fid := .ETH_ING_REC_BASE_BASE, hi := 51, lo := 12, acc := .rw }] }
  | .ETH_ING_HEAD => { base := 0x06300030, n1 := 64, s1 := 0x80, reach := .stream, fields := [
      { fid := .ETH_ING_HEAD_HEAD, hi := 31, lo := 0, acc := .rw }] }
  | .ETH_ING_STATUS => { base := 0x06300038, n1 := 64, s1 := 0x80, reach := .stream, fields := [
      { fid := .ETH_ING_STATUS_TAIL, hi := 63, lo := 32, acc := .ro },
      { fid := .ETH_ING_STATUS_OPENED, hi := 31, lo := 0, acc := .ro }] }
  | .ETH_ING_ROWS => { base := 0x06300040, n1 := 64, s1 := 0x80, reach := .stream, fields := [
      { fid := .ETH_ING_ROWS_COUNT, hi := 63, lo := 0, acc := .ro }] }
  | .ETH_ING_DROPS => { base := 0x06300048, n1 := 64, s1 := 0x80, reach := .stream, fields := [
      { fid := .ETH_ING_DROPS_LATE, hi := 63, lo := 48, acc := .rc },
      { fid := .ETH_ING_DROPS_DUP, hi := 47, lo := 32, acc := .rc },
      { fid := .ETH_ING_DROPS_OVERRUN, hi := 31, lo := 16, acc := .rc },
      { fid := .ETH_ING_DROPS_BADLEN, hi := 15, lo := 0, acc := .rc }] }
  | .SHEAF_STATUS => { base := 0x06800000, reach := .anyRead, fields := [
      { fid := .SHEAF_STATUS_ACTIVE, hi := 15, lo := 0, acc := .ro }] }
  | .SHEAF_CFG => { base := 0x06800008, fields := [
      { fid := .SHEAF_CFG_LAG_CAP_MS, hi := 47, lo := 32, acc := .rw, vmin := 1, vmax := 65535 },
      { fid := .SHEAF_CFG_LAG_MS, hi := 15, lo := 0, acc := .rw, vmin := 1, vmax := 65535 }] }
  | .SHEAF_ERR_STATUS => { base := 0x06800010, fields := [
      { fid := .SHEAF_ERR_STATUS_LAG_RX, hi := 2, lo := 2, acc := .rw1c },
      { fid := .SHEAF_ERR_STATUS_LAG_SENT, hi := 1, lo := 1, acc := .rw1c },
      { fid := .SHEAF_ERR_STATUS_FAIL, hi := 0, lo := 0, acc := .rw1c }] }
  | .SHEAF_STRAY => { base := 0x06800018, fields := [
      { fid := .SHEAF_STRAY_COUNT, hi := 31, lo := 0, acc := .rc }] }
  | .SHEAF_CTX_OWNER => { base := 0x06801000, n1 := 16, s1 := 0x200, reach := .operatorOnly, fields := [
      { fid := .SHEAF_CTX_OWNER_PLOT_VALID, hi := 3, lo := 3, acc := .rw },
      { fid := .SHEAF_CTX_OWNER_PLOT, hi := 2, lo := 0, acc := .rw }] }
  | .SHEAF_CTX_OP => { base := 0x06801008, n1 := 16, s1 := 0x200, reach := .sheafCtx, fields := [
      { fid := .SHEAF_CTX_OP_ARITY, hi := 19, lo := 16, acc := .rw },
      { fid := .SHEAF_CTX_OP_ALIAS, hi := 14, lo := 12, acc := .rw, vmin := 0, vmax := 4 },
      { fid := .SHEAF_CTX_OP_ALGO, hi := 8, lo := 8, acc := .rw },
      { fid := .SHEAF_CTX_OP_KIND, hi := 2, lo := 0, acc := .rw, vmin := 1, vmax := 5 }] }
  | .SHEAF_CTX_RANK => { base := 0x06801010, n1 := 16, s1 := 0x200, reach := .sheafCtx, fields := [
      { fid := .SHEAF_CTX_RANK_SIZE, hi := 52, lo := 32, acc := .rw, vmin := 1, vmax := 1048576 },
      { fid := .SHEAF_CTX_RANK_RANK, hi := 19, lo := 0, acc := .rw }] }
  | .SHEAF_CTX_BUF => { base := 0x06801018, n1 := 16, s1 := 0x200, reach := .sheafCtx, fields := [
      { fid := .SHEAF_CTX_BUF_ADDR, hi := 51, lo := 8, acc := .rw }] }
  | .SHEAF_CTX_LEN => { base := 0x06801020, n1 := 16, s1 := 0x200, reach := .sheafCtx, fields := [
      { fid := .SHEAF_CTX_LEN_BYTES, hi := 39, lo := 0, acc := .rw }] }
  | .SHEAF_CTX_SEG => { base := 0x06801028, n1 := 16, s1 := 0x200, reach := .sheafCtx, fields := [
      { fid := .SHEAF_CTX_SEG_SEG_BYTES, hi := 31, lo := 0, acc := .rw, vmin := 4096, vmax := 2147483648, mult := 4096 }] }
  | .SHEAF_CTX_TIMEOUT => { base := 0x06801030, n1 := 16, s1 := 0x200, reach := .sheafCtx, fields := [
      { fid := .SHEAF_CTX_TIMEOUT_PROGRESS_MS, hi := 31, lo := 0, acc := .rw, vmin := 1, vmax := 4294967295 }] }
  | .SHEAF_CTX_CMPL => { base := 0x06801038, n1 := 16, s1 := 0x200, reach := .sheafCtx, fields := [
      { fid := .SHEAF_CTX_CMPL_TALLY, hi := 63, lo := 52, acc := .rw },
      { fid := .SHEAF_CTX_CMPL_ADDR, hi := 51, lo := 5, acc := .rw }] }
  | .SHEAF_CTX_CTL => { base := 0x06801040, n1 := 16, s1 := 0x200, reach := .sheafCtx, fields := [
      { fid := .SHEAF_CTX_CTL_EPOCH, hi := 7, lo := 4, acc := .wo },
      { fid := .SHEAF_CTX_CTL_CANCEL, hi := 1, lo := 1, acc := .wo },
      { fid := .SHEAF_CTX_CTL_START, hi := 0, lo := 0, acc := .wo }] }
  | .SHEAF_CTX_STATUS => { base := 0x06801048, n1 := 16, s1 := 0x200, reach := .sheafCtx, fields := [
      { fid := .SHEAF_CTX_STATUS_SEGS_DONE, hi := 63, lo := 32, acc := .ro },
      { fid := .SHEAF_CTX_STATUS_EPOCH, hi := 27, lo := 24, acc := .ro },
      { fid := .SHEAF_CTX_STATUS_PHASE, hi := 21, lo := 20, acc := .ro },
      { fid := .SHEAF_CTX_STATUS_LAST_STATUS, hi := 15, lo := 8, acc := .ro },
      { fid := .SHEAF_CTX_STATUS_STATE, hi := 1, lo := 0, acc := .ro }] }
  | .SHEAF_CTX_LAG => { base := 0x06801050, n1 := 16, s1 := 0x200, reach := .sheafCtx, fields := [
      { fid := .SHEAF_CTX_LAG_LAG_MS, hi := 31, lo := 0, acc := .ro }] }
  | .SHEAF_CTX_NBR_QP => { base := 0x06801080, n1 := 16, s1 := 0x200, n2 := 9, s2 := 0x10, reach := .sheafCtx, fields := [
      { fid := .SHEAF_CTX_NBR_QP_RKEY, hi := 63, lo := 32, acc := .rw },
      { fid := .SHEAF_CTX_NBR_QP_VALID, hi := 24, lo := 24, acc := .rw },
      { fid := .SHEAF_CTX_NBR_QP_QP, hi := 12, lo := 0, acc := .rw }] }
  | .SHEAF_CTX_NBR_ADDR => { base := 0x06801088, n1 := 16, s1 := 0x200, n2 := 9, s2 := 0x10, reach := .sheafCtx, fields := [
      { fid := .SHEAF_CTX_NBR_ADDR_REMOTE_BASE, hi := 51, lo := 0, acc := .rw }] }
  | .HL_STATUS => { base := 0x07000000, reach := .anyRead, fields := [
      { fid := .HL_STATUS_SESSIONS, hi := 20, lo := 16, acc := .ro },
      { fid := .HL_STATUS_STAGE, hi := 9, lo := 8, acc := .ro }] }
  | .HL_CFG => { base := 0x07000008, fields := [
      { fid := .HL_CFG_IDLE_S, hi := 31, lo := 16, acc := .rw },
      { fid := .HL_CFG_DISCOVER_RATE, hi := 15, lo := 0, acc := .rw, vmin := 1, vmax := 65535 }] }
  | .HL_ERR_STATUS => { base := 0x07000010, fields := [
      { fid := .HL_ERR_STATUS_EVT_LOST, hi := 1, lo := 1, acc := .rw1c },
      { fid := .HL_ERR_STATUS_DROP, hi := 0, lo := 0, acc := .rw1c }] }
  | .HL_CNT_DROP => { base := 0x07000018, fields := [
      { fid := .HL_CNT_DROP_COUNT, hi := 31, lo := 0, acc := .rc }] }
  | .HL_CNT_DISCOVER_LIMITED => { base := 0x07000020, fields := [
      { fid := .HL_CNT_DISCOVER_LIMITED_COUNT, hi := 31, lo := 0, acc := .rc }] }
  | .HL_CNT_DUP => { base := 0x07000028, fields := [
      { fid := .HL_CNT_DUP_COUNT, hi := 31, lo := 0, acc := .rc }] }
  | .HL_EVT_SEQ => { base := 0x07000030, fields := [
      { fid := .HL_EVT_SEQ_MODULE_SEQ, hi := 63, lo := 0, acc := .ro }] }
  | .HL_SESS => { base := 0x07000100, n1 := 16, s1 := 0x10, fields := [
      { fid := .HL_SESS_NEXT, hi := 63, lo := 32, acc := .ro },
      { fid := .HL_SESS_PLOT_VALID, hi := 11, lo := 11, acc := .ro },
      { fid := .HL_SESS_PLOT, hi := 10, lo := 8, acc := .ro },
      { fid := .HL_SESS_STATE, hi := 1, lo := 0, acc := .ro }] }
  | .HL_SESS_SUB => { base := 0x07000108, n1 := 16, s1 := 0x10, fields := [
      { fid := .HL_SESS_SUB_RANGES, hi := 47, lo := 32, acc := .ro },
      { fid := .HL_SESS_SUB_PLOTS, hi := 31, lo := 24, acc := .ro },
      { fid := .HL_SESS_SUB_OP_SCOPE, hi := 20, lo := 20, acc := .ro },
      { fid := .HL_SESS_SUB_MIN_SEV, hi := 18, lo := 16, acc := .ro }] }
  | .HL_CLAIM => { base := 0x07000400, n1 := 16, s1 := 0x8, reach := .claimant, fields := [
      { fid := .HL_CLAIM_HELD, hi := 31, lo := 31, acc := .rw },
      { fid := .HL_CLAIM_KIND, hi := 29, lo := 28, acc := .ro },
      { fid := .HL_CLAIM_MASTER_ID, hi := 25, lo := 16, acc := .ro },
      { fid := .HL_CLAIM_SESSION, hi := 3, lo := 0, acc := .ro }] }
  | .HL_LOCK => { base := 0x07000500, n1 := 32, s1 := 0x8, fields := [
      { fid := .HL_LOCK_VALID, hi := 63, lo := 63, acc := .ro },
      { fid := .HL_LOCK_SESSION, hi := 59, lo := 56, acc := .ro },
      { fid := .HL_LOCK_KIND, hi := 52, lo := 52, acc := .ro },
      { fid := .HL_LOCK_TARGET, hi := 31, lo := 0, acc := .ro }] }
  | .HL_MBOX_BIND_SRC => { base := 0x07000800, fields := [
      { fid := .HL_MBOX_BIND_SRC_ADDR, hi := 51, lo := 9, acc := .rwl }] }
  | .HL_MBOX_BIND_STATUS => { base := 0x07000808, fields := [
      { fid := .HL_MBOX_BIND_STATUS_ERR, hi := 1, lo := 1, acc := .ro },
      { fid := .HL_MBOX_BIND_STATUS_LOADED, hi := 0, lo := 0, acc := .ro }] }
  | .HL_MBOX_BIND => { base := 0x07001000, n1 := 64, s1 := 0x8, reach := .mailbox, fields := [
      { fid := .HL_MBOX_BIND_VALID, hi := 63, lo := 63, acc := .ro },
      { fid := .HL_MBOX_BIND_SCOPE_PLOT_VALID, hi := 55, lo := 55, acc := .ro },
      { fid := .HL_MBOX_BIND_SCOPE_PLOT, hi := 54, lo := 52, acc := .ro },
      { fid := .HL_MBOX_BIND_RECEIVER_ID, hi := 41, lo := 32, acc := .ro },
      { fid := .HL_MBOX_BIND_SENDER_ID, hi := 9, lo := 0, acc := .ro }] }
  | .HL_MBOX_SLOT => { base := 0x07100000, n1 := 64, s1 := 0x200, n2 := 32, s2 := 0x8, reach := .mailbox, fields := [
      { fid := .HL_MBOX_SLOT_DATA, hi := 63, lo := 0, acc := .rw }] }
  | .HL_MBOX_CTL => { base := 0x07100100, n1 := 64, s1 := 0x200, reach := .mailbox, fields := [
      { fid := .HL_MBOX_CTL_ACK_CODE, hi := 63, lo := 48, acc := .wo },
      { fid := .HL_MBOX_CTL_LEN, hi := 40, lo := 32, acc := .wo },
      { fid := .HL_MBOX_CTL_ACTION, hi := 2, lo := 0, acc := .wo, vmin := 0, vmax := 4 }] }
  | .HL_MBOX_STATE => { base := 0x07100108, n1 := 64, s1 := 0x200, reach := .mailbox, fields := [
      { fid := .HL_MBOX_STATE_ACK_CODE, hi := 63, lo := 48, acc := .ro },
      { fid := .HL_MBOX_STATE_LEN, hi := 40, lo := 32, acc := .ro },
      { fid := .HL_MBOX_STATE_SENDER_ID, hi := 29, lo := 20, acc := .ro },
      { fid := .HL_MBOX_STATE_SENDER_SESSION, hi := 19, lo := 16, acc := .ro },
      { fid := .HL_MBOX_STATE_SESSION_VALID, hi := 15, lo := 15, acc := .ro },
      { fid := .HL_MBOX_STATE_STATE, hi := 2, lo := 0, acc := .ro }] }
  | .HL_MBOX_POSTS => { base := 0x07100110, n1 := 64, s1 := 0x200, reach := .mailbox, fields := [
      { fid := .HL_MBOX_POSTS_COUNT, hi := 31, lo := 0, acc := .ro }] }
  | .SEC_STATUS => { base := 0x08000000, reach := .anyRead, fields := [
      { fid := .SEC_STATUS_SCRUBBING, hi := 31, lo := 24, acc := .ro },
      { fid := .SEC_STATUS_PLOTS, hi := 23, lo := 16, acc := .ro },
      { fid := .SEC_STATUS_COMMON_KEY, hi := 9, lo := 9, acc := .ro },
      { fid := .SEC_STATUS_ID_READY, hi := 8, lo := 8, acc := .ro }] }
  | .SEC_LC_REQ => { base := 0x08000008, fields := [
      { fid := .SEC_LC_REQ_AUTH_ADDR, hi := 51, lo := 12, acc := .wo },
      { fid := .SEC_LC_REQ_TARGET, hi := 10, lo := 8, acc := .wo, vmin := 0, vmax := 4 },
      { fid := .SEC_LC_REQ_GO, hi := 0, lo := 0, acc := .wo }] }
  | .SEC_LC_RESULT => { base := 0x08000010, fields := [
      { fid := .SEC_LC_RESULT_CODE, hi := 2, lo := 0, acc := .ro }] }
  | .SEC_ID_PUBKEY => { base := 0x08000018, n1 := 4, s1 := 0x8, fields := [
      { fid := .SEC_ID_PUBKEY_KEY, hi := 63, lo := 0, acc := .ro }] }
  | .SEC_FUSE => { base := 0x08000040, fields := [
      { fid := .SEC_FUSE_RETIRE, hi := 63, lo := 48, acc := .ro },
      { fid := .SEC_FUSE_FW_MIN_SVN, hi := 46, lo := 40, acc := .ro },
      { fid := .SEC_FUSE_FWKEY_REVOKED, hi := 19, lo := 16, acc := .ro },
      { fid := .SEC_FUSE_OWNER_REVOKED, hi := 11, lo := 8, acc := .ro },
      { fid := .SEC_FUSE_OWNER_BLOWN, hi := 3, lo := 0, acc := .ro }] }
  | .SEC_OWNER_HASH => { base := 0x08000048, n1 := 4, s1 := 0x8, fields := [
      { fid := .SEC_OWNER_HASH_HASH, hi := 63, lo := 0, acc := .rw }] }
  | .SEC_OWNER_PROG => { base := 0x08000068, fields := [
      { fid := .SEC_OWNER_PROG_ACTION, hi := 9, lo := 8, acc := .wo },
      { fid := .SEC_OWNER_PROG_SLOT, hi := 1, lo := 0, acc := .wo }] }
  | .SEC_OWNER_RESULT => { base := 0x08000070, fields := [
      { fid := .SEC_OWNER_RESULT_CODE, hi := 2, lo := 0, acc := .ro }] }
  | .SEC_COMMON_REQ => { base := 0x08000100, fields := [
      { fid := .SEC_COMMON_REQ_ACTION, hi := 17, lo := 16, acc := .wo, vmin := 0, vmax := 2 },
      { fid := .SEC_COMMON_REQ_GRAN, hi := 8, lo := 0, acc := .wo }] }
  | .SEC_COMMON_RESULT => { base := 0x08000108, fields := [
      { fid := .SEC_COMMON_RESULT_CODE, hi := 18, lo := 16, acc := .ro },
      { fid := .SEC_COMMON_RESULT_GRAN, hi := 8, lo := 0, acc := .ro }] }
  | .SEC_DEBUG => { base := 0x08000110, fields := [
      { fid := .SEC_DEBUG_TOUCH, hi := 23, lo := 16, acc := .ro },
      { fid := .SEC_DEBUG_HALT_ACTIVE, hi := 2, lo := 2, acc := .ro },
      { fid := .SEC_DEBUG_DEBUG_USED, hi := 1, lo := 1, acc := .ro },
      { fid := .SEC_DEBUG_JTAG_SEEN, hi := 0, lo := 0, acc := .ro }] }
  | .SEC_DEBUG_COUNT => { base := 0x08000118, fields := [
      { fid := .SEC_DEBUG_COUNT_COUNT, hi := 31, lo := 0, acc := .ro }] }
  | .SEC_STACK_TEST => { base := 0x08000120, fields := [
      { fid := .SEC_STACK_TEST_ENABLE, hi := 7, lo := 0, acc := .rw }] }
  | .SEC_CNT_OPEN_FAIL => { base := 0x08000128, fields := [
      { fid := .SEC_CNT_OPEN_FAIL_COUNT, hi := 31, lo := 0, acc := .rc }] }
  | .SEC_RETIRE => { base := 0x08000130, n1 := 4, s1 := 0x8, fields := [
      { fid := .SEC_RETIRE_ENTRY, hi := 15, lo := 0, acc := .ro, rep := 4, step := 16 }] }
  | .SEC_RETIRE_PROG => { base := 0x08000150, fields := [
      { fid := .SEC_RETIRE_PROG_GO, hi := 63, lo := 63, acc := .wo },
      { fid := .SEC_RETIRE_PROG_ENTRY, hi := 35, lo := 32, acc := .wo },
      { fid := .SEC_RETIRE_PROG_VALUE, hi := 15, lo := 0, acc := .wo }] }
  | .SEC_RETIRE_RESULT => { base := 0x08000158, fields := [
      { fid := .SEC_RETIRE_RESULT_CODE, hi := 2, lo := 0, acc := .ro }] }
  | .SEC_PLOT_INFO => { base := 0x08000200, n1 := 8, s1 := 0x20, reach := .plotSelfRead, fields := [
      { fid := .SEC_PLOT_INFO_GENERATION, hi := 63, lo := 32, acc := .ro },
      { fid := .SEC_PLOT_INFO_LLC_WAYS, hi := 31, lo := 16, acc := .ro },
      { fid := .SEC_PLOT_INFO_SITES, hi := 15, lo := 8, acc := .ro },
      { fid := .SEC_PLOT_INFO_ENGINES, hi := 7, lo := 0, acc := .ro }] }
  | .SEC_PLOT_STATE => { base := 0x08000208, n1 := 8, s1 := 0x20, reach := .plotSelfRead, fields := [
      { fid := .SEC_PLOT_STATE_DEBUG_TOUCH, hi := 4, lo := 4, acc := .ro },
      { fid := .SEC_PLOT_STATE_STATE, hi := 1, lo := 0, acc := .ro }] }
  | .SEC_GRAN_COMMON => { base := 0x08000400, n1 := 8, s1 := 0x8, fields := [
      { fid := .SEC_GRAN_COMMON_COMMON, hi := 63, lo := 0, acc := .ro }] }
  | .SEC_TWIN => { base := 0x08002000, n1 := 512, s1 := 0x8, fields := [
      { fid := .SEC_TWIN_VALID, hi := 15, lo := 15, acc := .ro },
      { fid := .SEC_TWIN_TWIN_GRAN, hi := 8, lo := 0, acc := .ro }] }
  | .GLB_RESET_CAUSE => { base := 0x00000100, fields := [
      { fid := .GLB_RESET_CAUSE_COUNT, hi := 47, lo := 32, acc := .ro },
      { fid := .GLB_RESET_CAUSE_CAUSE, hi := 3, lo := 0, acc := .ro }] }
  | .GLB_RESET_REQ => { base := 0x00000108, fields := [
      { fid := .GLB_RESET_REQ_GO, hi := 0, lo := 0, acc := .wo }] }
  | .GLB_STRAP => { base := 0x00000110, fields := [
      { fid := .GLB_STRAP_ETH, hi := 2, lo := 0, acc := .ro }] }
  | .GLB_TEST_CFG => { base := 0x00000118, fields := [
      { fid := .GLB_TEST_CFG_QUICK, hi := 0, lo := 0, acc := .rw }] }
  | .GLB_TRAIN_STATUS => { base := 0x00000120, fields := [
      { fid := .GLB_TRAIN_STATUS_STACK_FULL, hi := 39, lo := 32, acc := .ro },
      { fid := .GLB_TRAIN_STATUS_STACK_DONE, hi := 31, lo := 24, acc := .ro },
      { fid := .GLB_TRAIN_STATUS_SITE_DONE, hi := 23, lo := 16, acc := .ro },
      { fid := .GLB_TRAIN_STATUS_RESULT, hi := 11, lo := 8, acc := .ro },
      { fid := .GLB_TRAIN_STATUS_STATE, hi := 2, lo := 0, acc := .ro }] }
  | .GLB_TRAIN_OWNER => { base := 0x00000128, fields := [
      { fid := .GLB_TRAIN_OWNER_VALID, hi := 4, lo := 4, acc := .ro },
      { fid := .GLB_TRAIN_OWNER_SESSION, hi := 3, lo := 0, acc := .ro }] }
  | .GLB_REC_STATUS => { base := 0x00000130, fields := [
      { fid := .GLB_REC_STATUS_GEN, hi := 63, lo := 32, acc := .ro },
      { fid := .GLB_REC_STATUS_WEAR_FULL, hi := 2, lo := 2, acc := .ro },
      { fid := .GLB_REC_STATUS_STALE, hi := 1, lo := 1, acc := .ro },
      { fid := .GLB_REC_STATUS_VALID, hi := 0, lo := 0, acc := .ro }] }
  | .CLK_DOM_CFG => { base := 0x09000800, n1 := 25, s1 := 0x10, fields := [
      { fid := .CLK_DOM_CFG_FREQ_MHZ, hi := 27, lo := 16, acc := .rw },
      { fid := .CLK_DOM_CFG_PLL_EN, hi := 0, lo := 0, acc := .rw }] }
  | .CLK_DOM_STATUS => { base := 0x09000808, n1 := 25, s1 := 0x10, fields := [
      { fid := .CLK_DOM_STATUS_FREQ_ACT, hi := 27, lo := 16, acc := .ro },
      { fid := .CLK_DOM_STATUS_TEST_FAIL, hi := 5, lo := 5, acc := .ro },
      { fid := .CLK_DOM_STATUS_TESTED, hi := 4, lo := 4, acc := .ro },
      { fid := .CLK_DOM_STATUS_RELEASED, hi := 2, lo := 2, acc := .ro },
      { fid := .CLK_DOM_STATUS_LOCKED, hi := 1, lo := 1, acc := .ro }] }
  | .CLK_RELEASE => { base := 0x09000A00, fields := [
      { fid := .CLK_RELEASE_SEQ, hi := 15, lo := 12, acc := .wo },
      { fid := .CLK_RELEASE_DOMAIN, hi := 8, lo := 4, acc := .wo },
      { fid := .CLK_RELEASE_GO, hi := 0, lo := 0, acc := .wo }] }
  | .CLK_RELEASE_RESULT => { base := 0x09000A08, fields := [
      { fid := .CLK_RELEASE_RESULT_SEQ, hi := 15, lo := 12, acc := .ro },
      { fid := .CLK_RELEASE_RESULT_PHASE, hi := 5, lo := 4, acc := .ro },
      { fid := .CLK_RELEASE_RESULT_CODE, hi := 2, lo := 0, acc := .ro }] }
  | .CC_STATUS => { base := 0x0B000000, fields := [
      { fid := .CC_STATUS_FW_STATE, hi := 18, lo := 16, acc := .ro },
      { fid := .CC_STATUS_CORES_RUN, hi := 11, lo := 8, acc := .ro },
      { fid := .CC_STATUS_READY, hi := 0, lo := 0, acc := .ro }] }
  | .CC_READY => { base := 0x0B000008, reach := .ccOnly, fields := [
      { fid := .CC_READY_READY, hi := 0, lo := 0, acc := .wo }] }
  | .CC_WDT_CFG => { base := 0x0B000010, fields := [
      { fid := .CC_WDT_CFG_TIMEOUT_MS, hi := 15, lo := 0, acc := .rw, vmin := 1, vmax := 65535 }] }
  | .CC_WDT_KICK => { base := 0x0B000018, reach := .ccOnly, fields := [
      { fid := .CC_WDT_KICK_KICK, hi := 0, lo := 0, acc := .wo }] }
  | .CC_BOOT_LIMIT => { base := 0x0B000020, fields := [
      { fid := .CC_BOOT_LIMIT_MS, hi := 15, lo := 0, acc := .rw, vmin := 1, vmax := 65535 }] }
  | .CC_ERR_STATUS => { base := 0x0B000028, fields := [
      { fid := .CC_ERR_STATUS_BOOT_FAIL, hi := 3, lo := 3, acc := .rw1c },
      { fid := .CC_ERR_STATUS_WDT, hi := 2, lo := 2, acc := .rw1c },
      { fid := .CC_ERR_STATUS_SRAM_FATAL, hi := 1, lo := 1, acc := .rw1c },
      { fid := .CC_ERR_STATUS_SRAM_CORR, hi := 0, lo := 0, acc := .rw1c }] }
  | .CC_SRAM_CORR_COUNT => { base := 0x0B000030, fields := [
      { fid := .CC_SRAM_CORR_COUNT_COUNT, hi := 31, lo := 0, acc := .rc }] }
  | .CC_FW_RUN_DIGEST => { base := 0x0B000040, n1 := 4, s1 := 0x8, fields := [
      { fid := .CC_FW_RUN_DIGEST_DIGEST, hi := 63, lo := 0, acc := .ro }] }
  | .CC_FW_STAGED_DIGEST => { base := 0x0B000060, n1 := 4, s1 := 0x8, fields := [
      { fid := .CC_FW_STAGED_DIGEST_DIGEST, hi := 63, lo := 0, acc := .ro }] }
  | .CC_FW_SVN => { base := 0x0B000080, fields := [
      { fid := .CC_FW_SVN_STAGED_SVN, hi := 63, lo := 32, acc := .ro },
      { fid := .CC_FW_SVN_RUN_SVN, hi := 31, lo := 0, acc := .ro }] }
  | .CC_FW_LOADED => { base := 0x0B000088, fields := [
      { fid := .CC_FW_LOADED_BYTES, hi := 23, lo := 0, acc := .ro }] }
  | .PWR_STATUS => { base := 0x09000000, fields := [
      { fid := .PWR_STATUS_STOP, hi := 63, lo := 63, acc := .ro },
      { fid := .PWR_STATUS_MOD_W, hi := 47, lo := 32, acc := .ro },
      { fid := .PWR_STATUS_SITE_W, hi := 31, lo := 16, acc := .ro },
      { fid := .PWR_STATUS_LIMITING, hi := 8, lo := 8, acc := .ro },
      { fid := .PWR_STATUS_COLL, hi := 0, lo := 0, acc := .ro }] }
  | .PWR_CFG => { base := 0x09000008, fields := [
      { fid := .PWR_CFG_HUB_WARN_OFF, hi := 47, lo := 40, acc := .rw, vmin := 0, vmax := 10 },
      { fid := .PWR_CFG_HUB_HOT_OFF, hi := 39, lo := 32, acc := .rw, vmin := 0, vmax := 10 },
      { fid := .PWR_CFG_STK_WARN_OFF, hi := 31, lo := 24, acc := .rw, vmin := 0, vmax := 10 },
      { fid := .PWR_CFG_STK_HOT_OFF, hi := 23, lo := 16, acc := .rw, vmin := 0, vmax := 10 },
      { fid := .PWR_CFG_RISE_MS, hi := 15, lo := 8, acc := .rw, vmin := 1, vmax := 255 },
      { fid := .PWR_CFG_GRACE_MS, hi := 7, lo := 0, acc := .rw, vmin := 0, vmax := 50 }] }
  | .PWR_LIMIT => { base := 0x09000010, fields := [
      { fid := .PWR_LIMIT_WINDOW_MS, hi := 47, lo := 32, acc := .rw, vmin := 1, vmax := 1000 },
      { fid := .PWR_LIMIT_LIMIT_W, hi := 15, lo := 0, acc := .rw, vmin := 1000, vmax := 3400 }] }
  | .PWR_ERR_STATUS => { base := 0x09000018, fields := [
      { fid := .PWR_ERR_STATUS_STOP, hi := 6, lo := 6, acc := .rw1c },
      { fid := .PWR_ERR_STATUS_RAIL_FAULT, hi := 5, lo := 5, acc := .rw1c },
      { fid := .PWR_ERR_STATUS_PMBUS_RETRY, hi := 4, lo := 4, acc := .rw1c },
      { fid := .PWR_ERR_STATUS_TSENSE_LOST, hi := 3, lo := 3, acc := .rw1c },
      { fid := .PWR_ERR_STATUS_SITE_OVER, hi := 2, lo := 2, acc := .rw1c },
      { fid := .PWR_ERR_STATUS_LIMIT_UNMET, hi := 1, lo := 1, acc := .rw1c },
      { fid := .PWR_ERR_STATUS_HALF_ISSUE, hi := 0, lo := 0, acc := .rw1c }] }
  | .PWR_STOP_INFO => { base := 0x09000020, fields := [
      { fid := .PWR_STOP_INFO_TEMP_Q2, hi := 59, lo := 48, acc := .ro },
      { fid := .PWR_STOP_INFO_RAIL, hi := 44, lo := 40, acc := .ro },
      { fid := .PWR_STOP_INFO_ZONE, hi := 38, lo := 36, acc := .ro },
      { fid := .PWR_STOP_INFO_CAUSE, hi := 1, lo := 0, acc := .ro }] }
  | .PWR_VID => { base := 0x09000028, fields := [
      { fid := .PWR_VID_VID, hi := 7, lo := 0, acc := .ro, rep := 6, step := 8 }] }
  | .PWR_ZONE_STATUS => { base := 0x09000200, n1 := 8, s1 := 0x20, reach := .engineRead, fields := [
      { fid := .PWR_ZONE_STATUS_HUB_TEMP_Q2, hi := 59, lo := 48, acc := .ro },
      { fid := .PWR_ZONE_STATUS_STK_TEMP_Q2, hi := 43, lo := 32, acc := .ro },
      { fid := .PWR_ZONE_STATUS_STEP, hi := 22, lo := 20, acc := .ro },
      { fid := .PWR_ZONE_STATUS_CAP_THERM, hi := 18, lo := 16, acc := .ro },
      { fid := .PWR_ZONE_STATUS_CAP_POWER, hi := 14, lo := 12, acc := .ro },
      { fid := .PWR_ZONE_STATUS_HUB_LEVEL, hi := 9, lo := 8, acc := .ro },
      { fid := .PWR_ZONE_STATUS_STK_LEVEL, hi := 5, lo := 4, acc := .ro },
      { fid := .PWR_ZONE_STATUS_HALF_ISSUE, hi := 2, lo := 2, acc := .ro },
      { fid := .PWR_ZONE_STATUS_GRACE, hi := 1, lo := 1, acc := .ro },
      { fid := .PWR_ZONE_STATUS_SENSOR_LOST, hi := 0, lo := 0, acc := .ro }] }
  | .PWR_ZONE_POWER => { base := 0x09000208, n1 := 8, s1 := 0x20, reach := .engineRead, fields := [
      { fid := .PWR_ZONE_POWER_ENG_W, hi := 47, lo := 32, acc := .ro },
      { fid := .PWR_ZONE_POWER_MEM_W, hi := 31, lo := 16, acc := .ro },
      { fid := .PWR_ZONE_POWER_STK_W, hi := 15, lo := 0, acc := .ro }] }
  | .PWR_ZONE_MAX => { base := 0x09000210, n1 := 8, s1 := 0x20, fields := [
      { fid := .PWR_ZONE_MAX_STK_MAX_Q2, hi := 27, lo := 16, acc := .rc },
      { fid := .PWR_ZONE_MAX_HUB_MAX_Q2, hi := 11, lo := 0, acc := .rc }] }
  | .PWR_ZONE_TIME => { base := 0x09000218, n1 := 8, s1 := 0x20, fields := [
      { fid := .PWR_ZONE_TIME_HALF_US, hi := 63, lo := 32, acc := .ro },
      { fid := .PWR_ZONE_TIME_THROTTLE_US, hi := 31, lo := 0, acc := .ro }] }
  | .PWR_RAIL_CFG => { base := 0x09000400, n1 := 32, s1 := 0x10, fields := [
      { fid := .PWR_RAIL_CFG_ADDR, hi := 14, lo := 8, acc := .rw },
      { fid := .PWR_RAIL_CFG_PAGE, hi := 7, lo := 0, acc := .rw }] }
  | .PWR_RAIL_STATUS => { base := 0x09000408, n1 := 32, s1 := 0x10, fields := [
      { fid := .PWR_RAIL_STATUS_VOUT_MV, hi := 63, lo := 48, acc := .ro },
      { fid := .PWR_RAIL_STATUS_IOUT_DA, hi := 47, lo := 32, acc := .ro },
      { fid := .PWR_RAIL_STATUS_TEMP_C, hi := 31, lo := 24, acc := .ro },
      { fid := .PWR_RAIL_STATUS_STATE, hi := 1, lo := 0, acc := .ro }] }
  | .PWR_SITE_CFG => { base := 0x09000600, n1 := 8, s1 := 0x10, fields := [
      { fid := .PWR_SITE_CFG_VCORE_MV, hi := 27, lo := 16, acc := .rw, vmin := 550, vmax := 1050, mult := 5 },
      { fid := .PWR_SITE_CFG_LIMIT_W, hi := 7, lo := 0, acc := .rw, vmin := 1, vmax := 180 }] }
  | .PWR_SITE_STATUS => { base := 0x09000608, n1 := 8, s1 := 0x10, reach := .siteRead, fields := [
      { fid := .PWR_SITE_STATUS_PEAK_W, hi := 47, lo := 32, acc := .rc },
      { fid := .PWR_SITE_STATUS_AVG_W, hi := 15, lo := 0, acc := .ro }] }
  | .TEL_FATAL => { base := 0x0A000000, fields := [
      { fid := .TEL_FATAL_COUNT, hi := 63, lo := 48, acc := .ro },
      { fid := .TEL_FATAL_DOMAIN, hi := 47, lo := 40, acc := .ro },
      { fid := .TEL_FATAL_CODE, hi := 31, lo := 16, acc := .ro }] }
  | .TEL_FATAL_CYC => { base := 0x0A000008, fields := [
      { fid := .TEL_FATAL_CYC_CYCLES, hi := 63, lo := 0, acc := .ro }] }
  | .TEL_ERR_SUMMARY => { base := 0x0A000010, fields := [
      { fid := .TEL_ERR_SUMMARY_RANGE, hi := 11, lo := 0, acc := .ro }] }
  | .TEL_SNAP_CTL => { base := 0x0A000018, fields := [
      { fid := .TEL_SNAP_CTL_SNAP_SEQ, hi := 63, lo := 32, acc := .ro },
      { fid := .TEL_SNAP_CTL_GO, hi := 0, lo := 0, acc := .wo }] }
  | .TEL_DOM_CYC => { base := 0x0A000100, n1 := 25, s1 := 0x8, fields := [
      { fid := .TEL_DOM_CYC_COUNT, hi := 63, lo := 0, acc := .ro }] }
  | .TEL_SNAP_CYC => { base := 0x0A000200, n1 := 25, s1 := 0x8, fields := [
      { fid := .TEL_SNAP_CYC_COUNT, hi := 63, lo := 0, acc := .ro }] }
  | .TEL_CO_CTL => { base := 0x0A000400, fields := [
      { fid := .TEL_CO_CTL_STATE, hi := 9, lo := 8, acc := .ro },
      { fid := .TEL_CO_CTL_CLOSE, hi := 1, lo := 1, acc := .wo },
      { fid := .TEL_CO_CTL_OPEN, hi := 0, lo := 0, acc := .wo }] }
  | .TEL_CO_REGION => { base := 0x0A000410, n1 := 4, s1 := 0x10, fields := [
      { fid := .TEL_CO_REGION_SIZE, hi := 58, lo := 44, acc := .rw, vmin := 1, vmax := 16384 },
      { fid := .TEL_CO_REGION_BASE, hi := 41, lo := 28, acc := .rw },
      { fid := .TEL_CO_REGION_USER, hi := 5, lo := 4, acc := .rw },
      { fid := .TEL_CO_REGION_MODE, hi := 1, lo := 1, acc := .rw },
      { fid := .TEL_CO_REGION_ENABLE, hi := 0, lo := 0, acc := .rw }] }
  | .TEL_CO_REGSTAT => { base := 0x0A000418, n1 := 4, s1 := 0x10, fields := [
      { fid := .TEL_CO_REGSTAT_DROPPED, hi := 63, lo := 32, acc := .rc },
      { fid := .TEL_CO_REGSTAT_WR_PTR, hi := 27, lo := 2, acc := .ro },
      { fid := .TEL_CO_REGSTAT_FULL, hi := 1, lo := 1, acc := .ro },
      { fid := .TEL_CO_REGSTAT_WRAPPED, hi := 0, lo := 0, acc := .ro }] }
  | .TEL_EXPORT => { base := 0x0A000480, fields := [
      { fid := .TEL_EXPORT_DEST, hi := 51, lo := 6, acc := .rw },
      { fid := .TEL_EXPORT_GO, hi := 0, lo := 0, acc := .wo }] }
  | .TEL_EXPORT_SRC => { base := 0x0A000488, fields := [
      { fid := .TEL_EXPORT_SRC_LENGTH_L, hi := 57, lo := 32, acc := .rw },
      { fid := .TEL_EXPORT_SRC_SRC, hi := 25, lo := 0, acc := .rw }] }
  | .TEL_EXPORT_RESULT => { base := 0x0A000490, fields := [
      { fid := .TEL_EXPORT_RESULT_CODE, hi := 1, lo := 0, acc := .ro }] }
  | .TEL_COH_TRACE => { base := 0x0A000500, fields := [
      { fid := .TEL_COH_TRACE_AGENT_MASK, hi := 24, lo := 16, acc := .rw },
      { fid := .TEL_COH_TRACE_HOME_MASK, hi := 15, lo := 8, acc := .rw },
      { fid := .TEL_COH_TRACE_ENABLE, hi := 0, lo := 0, acc := .rw }] }
  | .TEL_COH_ADDR_LO => { base := 0x0A000508, fields := [
      { fid := .TEL_COH_ADDR_LO_LINE, hi := 51, lo := 6, acc := .rw }] }
  | .TEL_COH_ADDR_HI => { base := 0x0A000510, fields := [
      { fid := .TEL_COH_ADDR_HI_LINE, hi := 51, lo := 6, acc := .rw }] }
  | .DBG_SEL => { base := 0x0A000600, reach := .debugOnly, fields := [
      { fid := .DBG_SEL_STORE, hi := 15, lo := 12, acc := .rw, vmin := 0, vmax := 5 },
      { fid := .DBG_SEL_ARRAY, hi := 9, lo := 8, acc := .rw },
      { fid := .DBG_SEL_WAY, hi := 7, lo := 4, acc := .rw },
      { fid := .DBG_SEL_UNIT, hi := 2, lo := 0, acc := .rw }] }
  | .DBG_OFFSET => { base := 0x0A000608, reach := .debugOnly, fields := [
      { fid := .DBG_OFFSET_OFFSET, hi := 31, lo := 3, acc := .rw }] }
  | .DBG_DATA => { base := 0x0A000610, reach := .debugOnly, fields := [
      { fid := .DBG_DATA_DATA, hi := 63, lo := 0, acc := .rw }] }
  | .ATB_CFG => { base := 0x0A000700, n1 := 2, s1 := 0x8, fields := [
      { fid := .ATB_CFG_IFORCE_UA, hi := 31, lo := 24, acc := .rw },
      { fid := .ATB_CFG_NODE, hi := 15, lo := 8, acc := .rw, vmin := 0, vmax := 46 },
      { fid := .ATB_CFG_MODE, hi := 1, lo := 0, acc := .rw, vmin := 0, vmax := 2 }] }
  | .GLN_CFG => { base := 0x0A001000, n1 := 64, s1 := 0x40, fields := [
      { fid := .GLN_CFG_PERIOD_US, hi := 63, lo := 48, acc := .rw, vmin := 1, vmax := 65535 },
      { fid := .GLN_CFG_CLASS_MASK, hi := 47, lo := 40, acc := .rw },
      { fid := .GLN_CFG_SRC_KIND, hi := 39, lo := 36, acc := .rw, vmin := 0, vmax := 9 },
      { fid := .GLN_CFG_SRC_INDEX, hi := 35, lo := 31, acc := .rw },
      { fid := .GLN_CFG_DIR, hi := 30, lo := 29, acc := .rw, vmin := 0, vmax := 2 },
      { fid := .GLN_CFG_SAMPLE_LOG2, hi := 27, lo := 24, acc := .rw },
      { fid := .GLN_CFG_BIN_SHIFT, hi := 20, lo := 16, acc := .rw },
      { fid := .GLN_CFG_BIN_MODE, hi := 8, lo := 8, acc := .rw },
      { fid := .GLN_CFG_HIST_EN, hi := 1, lo := 1, acc := .rw },
      { fid := .GLN_CFG_ENABLE, hi := 0, lo := 0, acc := .rw }] }
  | .GLN_MINMAX => { base := 0x0A001008, n1 := 64, s1 := 0x40, fields := [
      { fid := .GLN_MINMAX_MAX, hi := 63, lo := 32, acc := .rc },
      { fid := .GLN_MINMAX_MIN, hi := 31, lo := 0, acc := .rc }] }
  | .GLN_COUNT => { base := 0x0A001010, n1 := 64, s1 := 0x40, fields := [
      { fid := .GLN_COUNT_COUNT, hi := 63, lo := 0, acc := .ro }] }
  | .GLN_SUM => { base := 0x0A001018, n1 := 64, s1 := 0x40, fields := [
      { fid := .GLN_SUM_SUM, hi := 63, lo := 0, acc := .ro }] }
  | .GLN_EPOCH => { base := 0x0A001020, n1 := 64, s1 := 0x40, fields := [
      { fid := .GLN_EPOCH_EPOCH_US, hi := 31, lo := 0, acc := .rw, vmin := 10, vmax := 4294967295 }] }
  | .PRB_CFG => { base := 0x04800000, n1 := 16, s1 := 0x100, fields := [
      { fid := .PRB_CFG_PORT, hi := 12, lo := 8, acc := .rw, vmin := 0, vmax := 29 },
      { fid := .PRB_CFG_ACTIONS, hi := 6, lo := 4, acc := .rw },
      { fid := .PRB_CFG_DIR, hi := 1, lo := 1, acc := .rw },
      { fid := .PRB_CFG_ENABLE, hi := 0, lo := 0, acc := .rw }] }
  | .PRB_MATCH => { base := 0x04800008, n1 := 16, s1 := 0x100, fields := [
      { fid := .PRB_MATCH_CMD_MASK, hi := 63, lo := 56, acc := .rw },
      { fid := .PRB_MATCH_CMD_VAL, hi := 55, lo := 48, acc := .rw },
      { fid := .PRB_MATCH_CLASS_MASK, hi := 47, lo := 40, acc := .rw },
      { fid := .PRB_MATCH_PLOT_MASK, hi := 39, lo := 36, acc := .rw },
      { fid := .PRB_MATCH_PLOT_VAL, hi := 35, lo := 32, acc := .rw },
      { fid := .PRB_MATCH_ID_MASK, hi := 25, lo := 16, acc := .rw },
      { fid := .PRB_MATCH_ID_VAL, hi := 9, lo := 0, acc := .rw }] }
  | .PRB_ADDR_LO => { base := 0x04800010, n1 := 16, s1 := 0x100, fields := [
      { fid := .PRB_ADDR_LO_LINE, hi := 51, lo := 6, acc := .rw }] }
  | .PRB_ADDR_HI => { base := 0x04800018, n1 := 16, s1 := 0x100, fields := [
      { fid := .PRB_ADDR_HI_LINE, hi := 51, lo := 6, acc := .rw }] }
  | .PRB_STATUS_MASK => { base := 0x04800020, n1 := 16, s1 := 0x100, fields := [
      { fid := .PRB_STATUS_MASK_STATUS, hi := 7, lo := 0, acc := .rw }] }
  | .PRB_PKTS => { base := 0x04800028, n1 := 16, s1 := 0x100, fields := [
      { fid := .PRB_PKTS_COUNT, hi := 63, lo := 0, acc := .ro }] }
  | .PRB_BYTES => { base := 0x04800030, n1 := 16, s1 := 0x100, fields := [
      { fid := .PRB_BYTES_COUNT, hi := 63, lo := 0, acc := .ro }] }
  | .PRB_TRIG => { base := 0x04800038, n1 := 16, s1 := 0x100, fields := [
      { fid := .PRB_TRIG_POST, hi := 47, lo := 16, acc := .rw },
      { fid := .PRB_TRIG_TRIG_MODE, hi := 0, lo := 0, acc := .rw }] }
  | .CE_FAULT_Q => { base := 0x01000100, n1 := 8, s1 := 0x100000, n2 := 16, s2 := 0x8, reach := .faultQ, fields := [
      { fid := .CE_FAULT_Q_TAIL, hi := 63, lo := 32, acc := .ro },
      { fid := .CE_FAULT_Q_NEXT, hi := 31, lo := 0, acc := .ro }] }
  | .CE_LPS_INDEX => { base := 0x01002000, n1 := 8, s1 := 0x100000, reach := .engine, fields := [
      { fid := .CE_LPS_INDEX_INDEX, hi := 9, lo := 0, acc := .rw }] }
  | .CE_LPS_DATA => { base := 0x01002008, n1 := 8, s1 := 0x100000, reach := .engine, fields := [
      { fid := .CE_LPS_DATA_INSTR, hi := 63, lo := 0, acc := .rw }] }
  | .SEC_PLOT_MAP => { base := 0x08100000, n1 := 8, s1 := 0x1000, n2 := 512, s2 := 0x8, reach := .plotSelfRead, fields := [
      { fid := .SEC_PLOT_MAP_VALID, hi := 63, lo := 63, acc := .ro },
      { fid := .SEC_PLOT_MAP_COMMON, hi := 62, lo := 62, acc := .ro },
      { fid := .SEC_PLOT_MAP_TWIN, hi := 61, lo := 61, acc := .ro },
      { fid := .SEC_PLOT_MAP_WRITE, hi := 60, lo := 60, acc := .ro },
      { fid := .SEC_PLOT_MAP_TWIN_GRAN, hi := 24, lo := 16, acc := .ro },
      { fid := .SEC_PLOT_MAP_GRAN, hi := 8, lo := 0, acc := .ro }] }

/-- Reset value of a field (00 R13) at instance (i, j). HW, fuse and strap fields start at 0 here: what they hold comes
from the bring-up commands and from the views of Machine/RegRead.lean. -/
def fieldReset (f : Fid) (i j : Nat) : Nat :=
  match f with
  | .GLB_ID_VENDOR => 20054
  | .GLB_ID_PART => 5640
  | .GLB_ID_STEPPING => 161
  | .CE_DRAIN_LIMIT_LIMIT_US => 10000
  | .CE_WQ_CFG_LOG2_SIZE => 4
  | .CE_CQ_CFG_LOG2_SIZE => 4
  | .MEM_SCRUB_CFG_ENABLE => 1
  | .MEM_SCRUB_CFG_PERIOD_H => 24
  | .MEM_SCHED_CFG_AGE_LIMIT_NS => 2000
  | .MEM_SCHED_CFG_C0_RESERVE => 256
  | .MEM_SCHED_CFG_WR_HIGH => 48
  | .MEM_SCHED_CFG_WR_LOW => 16
  | .MEM_RELOC_BASE => 512
  | .MEM_COMB_CFG_WINDOW_NS => 4000
  | .MESH_CFG_GUAR_URG => 11
  | .MESH_CFG_URG_AGE => 256
  | .QOS_SITE_LOAD_SCALE => 65536
  | .QOS_PORT_STATUS_SCALE => 65536
  | .QOS_TIMEOUT_CTL_US => 1000
  | .QOS_TIMEOUT_SITE_US => 2000
  | .QOS_TIMEOUT_MEM_US => if 8 ≤ i ∧ i ≤ 15 then 50 else 100
  | .QOS_DEFAULT_CLASS_RCLASS => 4
  | .QOS_DEFAULT_CLASS_WCLASS => 4
  | .QOS_RANGE_LIMIT_RCLASS => 4
  | .QOS_RANGE_LIMIT_WCLASS => 4
  | .QOS_CLASS_CFG_SITE_MASK => 255
  | .QOS_CLASS_CFG_BASE_URG => [12, 8, 7, 6, 5, 4, 3, 2].getD j 0
  | .COH_CFG_SNOOP_US => 20
  | .SITE_STATUS_LINK => 1
  | .SITE_DRAIN_LIMIT_LIMIT_US => 10000
  | .SITE_CREDIT_LIMIT_LIMIT_US => 2000
  | .ETH_CFG_HL_PRIO => 7
  | .ETH_CFG_CNP_PRIO => 6
  | .ETH_CFG_CC_EN => 1
  | .ETH_CFG_FALLBACK => 1
  | .ETH_PFC_THRESH_HEADROOM_KIB => 256
  | .ETH_PFC_THRESH_XOFF_KIB => 512
  | .ETH_PFC_THRESH_XON_KIB => 256
  | .ETH_TX_WEIGHT_WEIGHT => 1
  | .ETH_CC_CFG_IDLE_RESET => 10
  | .ETH_CC_CFG_CNP_GAP_US => 8
  | .ETH_CC_CFG_RATE_MIN => 2
  | .ETH_CC_CFG_RISE_STEP => 8
  | .ETH_CC_CFG_RECOVER_STEPS => 4
  | .ETH_CC_CFG_RISE_PERIOD_US => 32
  | .ETH_CC_CFG_CUT_HOLD_US => 16
  | .ETH_CC_CFG_CUT_NUM => 64
  | .ETH_PFC_WD_MS => 100
  | .ETH_LANE_LIMIT_SYMBOLS => 20000
  | .ETH_QP_CTL_SRC_ADDR => 8
  | .ETH_QP_CTL_PMTU => 5
  | .ETH_QP_CTL_ACK_TIMEOUT => 15
  | .ETH_QP_CTL_RETRY_CNT => 7
  | .ETH_QP_CTL_RNR_RETRY => 7
  | .ETH_QP_DEST_MAC_P_KEY => 65535
  | .ETH_QP_SQ_LOG2_SIZE => 4
  | .ETH_QP_RQ_LOG2_SIZE => 4
  | .ETH_QP_CQ_LOG2_SIZE => 4
  | .ETH_QP_RATE_RATE_MAX => 6400
  | .ETH_ING_CFG_LOG2_SLOTS => 1
  | .ETH_ING_ROWCFG_ROW_BYTES => 64
  | .SHEAF_CFG_LAG_CAP_MS => 1000
  | .SHEAF_CFG_LAG_MS => 50
  | .SHEAF_CTX_RANK_SIZE => 1
  | .SHEAF_CTX_SEG_SEG_BYTES => 1048576
  | .SHEAF_CTX_TIMEOUT_PROGRESS_MS => 1000
  | .HL_CFG_IDLE_S => 300
  | .HL_CFG_DISCOVER_RATE => 100
  | .CLK_DOM_CFG_FREQ_MHZ => ([2000, 0, 0, 0, 0, 1100, 1500, 800, 100].getD (i - 16) 0) * (if 16 ≤ i then 1 else 0)
  | .CLK_DOM_CFG_PLL_EN => if i = 16 ∨ 21 ≤ i then 1 else 0
  | .CC_WDT_CFG_TIMEOUT_MS => 1000
  | .CC_BOOT_LIMIT_MS => 2000
  | .PWR_CFG_RISE_MS => 5
  | .PWR_CFG_GRACE_MS => 20
  | .PWR_LIMIT_WINDOW_MS => 10
  | .PWR_LIMIT_LIMIT_W => 3400
  | .PWR_RAIL_CFG_ADDR => 0x40 + i
  | .PWR_SITE_CFG_VCORE_MV => 750
  | .PWR_SITE_CFG_LIMIT_W => 180
  | .GLN_CFG_PERIOD_US => 10
  | .GLN_CFG_CLASS_MASK => 255
  | .GLN_MINMAX_MIN => 4294967295
  | .GLN_EPOCH_EPOCH_US => 1000
  | .PRB_MATCH_CLASS_MASK => 255
  | .PRB_ADDR_HI_LINE => 70368744177663
  | .PRB_STATUS_MASK_STATUS => 255
  | _ => 0

/-- Registers of the control-space block 0x0000_0000 (01 R45). -/
def regsOf0 : List Reg := [
  .GLB_ID, .GLB_SERIAL, .GLB_LC, .GLB_UM_CTL, .GLB_UM_CE, .GLB_UM_MS,
  .GLB_UM_PLANE, .GLB_UM_SITE, .GLB_UM_ETHLANE, .GLB_UM_UCIE, .GLB_UM_CH, .GLB_GRAN_AVAIL,
  .GLB_GRAN_COUNT, .GLB_RESET_CAUSE, .GLB_RESET_REQ, .GLB_STRAP, .GLB_TEST_CFG, .GLB_TRAIN_STATUS,
  .GLB_TRAIN_OWNER, .GLB_REC_STATUS]

/-- Registers of the control-space block 0x0100_0000 (01 R45). -/
def regsOf1 : List Reg := [
  .CE_STATUS, .CE_DRAIN_LIMIT, .CE_SPARE_USE, .CE_ERR_STATUS, .CE_ERR_COUNT, .CE_CYCLES,
  .CE_ARRAY_BUSY, .CE_LANE_ISSUE, .CE_PORT_STALL, .CE_WQ_BASE, .CE_WQ_CFG, .CE_WQ_TAIL,
  .CE_WQ_HEAD, .CE_CQ_BASE, .CE_CQ_CFG, .CE_CQ_HEAD, .CE_WQ_STATUS, .CE_FAULT_Q,
  .CE_LPS_INDEX, .CE_LPS_DATA]

/-- Registers of the control-space block 0x0200_0000 (01 R45). -/
def regsOf2 : List Reg := [
  .MEM_STATUS, .MEM_TEMP, .MEM_TEMP_MAX, .MEM_CAP, .MEM_ERR_STATUS, .MEM_CORR_COUNT,
  .MEM_UNCORR_COUNT, .MEM_ERR_ADDR, .MEM_SCRUB_CFG, .MEM_SCRUB_STATUS, .MEM_PPR_USE, .MEM_SCHED_CFG,
  .MEM_OUTSTANDING, .MEM_PIN_ERASE, .MEM_GKEY, .MEM_GROUP_LOCAL, .MEM_GROUP_EFFECTIVE, .MEM_RELOC,
  .MEM_INIT, .MEM_COMB_CFG, .MEM_COMB_OPENED, .MEM_COMB_ATTACHED, .MEM_COMB_FULL, .MEM_COMB_INUSE,
  .MEM_RED_WRITES, .MEM_RED_REFUSED, .MEM_RED_POISONED, .MEM_TWIN_REPAIR_COUNT, .MEM_TWIN_SERVED, .MEM_RED_FLAGS]

/-- Registers of the control-space block 0x0300_0000 (01 R45). -/
def regsOf3 : List Reg := [
  .SITE_STATUS, .SITE_CFG, .SITE_CTL, .SITE_ERR_STATUS, .SITE_LAST_DOWN, .SITE_LINK_DOWNS,
  .SITE_REPLAYS, .SITE_BAD_PKTS, .SITE_LATE, .SITE_DRAIN_LIMIT, .SITE_CREDIT_LIMIT, .SITE_PEER_CREDITS,
  .SITE_OUTSTANDING, .SITE_UM_STATUS, .SITE_UM_RECORD]

/-- Registers of the control-space block 0x0400_0000 (01 R45). -/
def regsOf4 : List Reg := [
  .MESH_STATUS, .MESH_CFG, .MESH_ERR_STATUS, .MESH_RETRY_COUNT, .QOS_COMMIT, .QOS_COMMIT_RESULT,
  .QOS_SITE_LOAD, .QOS_CLASS_MISS, .QOS_MISS_STATUS, .QOS_MISS_IRQ_EN, .QOS_PORT_STATUS, .QOS_TIMEOUT,
  .QOS_PORT_COUNT, .QOS_DEFAULT_CLASS, .QOS_RANGE_BASE, .QOS_RANGE_LIMIT, .QOS_CLASS_CFG, .QOS_CLASS_EFF,
  .QOS_MISS, .PRB_CFG, .PRB_MATCH, .PRB_ADDR_LO, .PRB_ADDR_HI, .PRB_STATUS_MASK,
  .PRB_PKTS, .PRB_BYTES, .PRB_TRIG]

/-- Registers of the control-space block 0x0500_0000 (01 R45). -/
def regsOf5 : List Reg := [
  .COH_STATUS, .COH_CFG, .COH_ERR_STATUS, .COH_ERR_LINE, .COH_ERR_INFO, .COH_SF_OCC,
  .COH_SNOOPS, .COH_VICTIMS, .COH_ALLOC_RETRY, .COH_WBP, .COH_STALE_EVICT, .COH_SF_CORR_COUNT,
  .COH_AGENT_STATUS, .COH_AGENT_LINES, .COH_RECLAIMED]

/-- Registers of the control-space block 0x0600_0000 (01 R45). -/
def regsOf6 : List Reg := [
  .ETH_STATUS, .ETH_CFG, .ETH_MAC, .ETH_VLAN, .ETH_IPV4_ADDR, .ETH_IPV6_HI,
  .ETH_IPV6_LO, .ETH_IPV6_VALID, .ETH_PFC, .ETH_PFC_THRESH, .ETH_DSCP_MAP, .ETH_PRIO_DSCP,
  .ETH_TX_WEIGHT, .ETH_CC_CFG, .ETH_PFC_WD, .ETH_LANE_LIMIT, .ETH_CNT, .ETH_ERR_STATUS,
  .ETH_PLOT_RES, .ETH_LANE, .ETH_QP_CTL, .ETH_QP_DEST_IP_HI, .ETH_QP_DEST_IP_LO, .ETH_QP_DEST_MAC,
  .ETH_QP_PSN, .ETH_QP_SQ, .ETH_QP_RQ, .ETH_QP_CQ, .ETH_QP_SQ_TAIL, .ETH_QP_RQ_TAIL,
  .ETH_QP_CQ_HEAD, .ETH_QP_STATUS, .ETH_QP_RATE, .ETH_QP_TALLY, .ETH_QP_COUNT, .ETH_WIN_CTL,
  .ETH_WIN_RANGE, .ETH_ING_CFG, .ETH_ING_SRC_HI, .ETH_ING_SRC_LO, .ETH_ING_ROWCFG, .ETH_ING_SLOT_BASE,
  .ETH_ING_REC_BASE, .ETH_ING_HEAD, .ETH_ING_STATUS, .ETH_ING_ROWS, .ETH_ING_DROPS, .SHEAF_STATUS,
  .SHEAF_CFG, .SHEAF_ERR_STATUS, .SHEAF_STRAY, .SHEAF_CTX_OWNER, .SHEAF_CTX_OP, .SHEAF_CTX_RANK,
  .SHEAF_CTX_BUF, .SHEAF_CTX_LEN, .SHEAF_CTX_SEG, .SHEAF_CTX_TIMEOUT, .SHEAF_CTX_CMPL, .SHEAF_CTX_CTL,
  .SHEAF_CTX_STATUS, .SHEAF_CTX_LAG, .SHEAF_CTX_NBR_QP, .SHEAF_CTX_NBR_ADDR]

/-- Registers of the control-space block 0x0700_0000 (01 R45). -/
def regsOf7 : List Reg := [
  .TALLY_VALUE, .TALLY_SIGNAL, .TALLY_OVF, .HL_STATUS, .HL_CFG, .HL_ERR_STATUS,
  .HL_CNT_DROP, .HL_CNT_DISCOVER_LIMITED, .HL_CNT_DUP, .HL_EVT_SEQ, .HL_SESS, .HL_SESS_SUB,
  .HL_CLAIM, .HL_LOCK, .HL_MBOX_BIND_SRC, .HL_MBOX_BIND_STATUS, .HL_MBOX_BIND, .HL_MBOX_SLOT,
  .HL_MBOX_CTL, .HL_MBOX_STATE, .HL_MBOX_POSTS]

/-- Registers of the control-space block 0x0800_0000 (01 R45). -/
def regsOf8 : List Reg := [
  .SEC_STATUS, .SEC_LC_REQ, .SEC_LC_RESULT, .SEC_ID_PUBKEY, .SEC_FUSE, .SEC_OWNER_HASH,
  .SEC_OWNER_PROG, .SEC_OWNER_RESULT, .SEC_COMMON_REQ, .SEC_COMMON_RESULT, .SEC_DEBUG, .SEC_DEBUG_COUNT,
  .SEC_STACK_TEST, .SEC_CNT_OPEN_FAIL, .SEC_RETIRE, .SEC_RETIRE_PROG, .SEC_RETIRE_RESULT, .SEC_PLOT_INFO,
  .SEC_PLOT_STATE, .SEC_GRAN_COMMON, .SEC_TWIN, .SEC_PLOT_MAP]

/-- Registers of the control-space block 0x0900_0000 (01 R45). -/
def regsOf9 : List Reg := [
  .PWR_FALLOW_REQ, .PWR_FALLOW_RESULT, .CLK_DOM_CFG, .CLK_DOM_STATUS, .CLK_RELEASE, .CLK_RELEASE_RESULT,
  .PWR_STATUS, .PWR_CFG, .PWR_LIMIT, .PWR_ERR_STATUS, .PWR_STOP_INFO, .PWR_VID,
  .PWR_ZONE_STATUS, .PWR_ZONE_POWER, .PWR_ZONE_MAX, .PWR_ZONE_TIME, .PWR_RAIL_CFG, .PWR_RAIL_STATUS,
  .PWR_SITE_CFG, .PWR_SITE_STATUS]

/-- Registers of the control-space block 0x0A00_0000 (01 R45). -/
def regsOfA : List Reg := [
  .TEL_FATAL, .TEL_FATAL_CYC, .TEL_ERR_SUMMARY, .TEL_SNAP_CTL, .TEL_DOM_CYC, .TEL_SNAP_CYC,
  .TEL_CO_CTL, .TEL_CO_REGION, .TEL_CO_REGSTAT, .TEL_EXPORT, .TEL_EXPORT_SRC, .TEL_EXPORT_RESULT,
  .TEL_COH_TRACE, .TEL_COH_ADDR_LO, .TEL_COH_ADDR_HI, .DBG_SEL, .DBG_OFFSET, .DBG_DATA,
  .ATB_CFG, .GLN_CFG, .GLN_MINMAX, .GLN_COUNT, .GLN_SUM, .GLN_EPOCH]

/-- Registers of the control-space block 0x0B00_0000 (01 R45). -/
def regsOfB : List Reg := [
  .CC_STATUS, .CC_READY, .CC_WDT_CFG, .CC_WDT_KICK, .CC_BOOT_LIMIT, .CC_ERR_STATUS,
  .CC_SRAM_CORR_COUNT, .CC_FW_RUN_DIGEST, .CC_FW_STAGED_DIGEST, .CC_FW_SVN, .CC_FW_LOADED]

/-- The registers of a block of 16 MiB of the control space, by the block's number (01 R45). -/
def regsOfBlock (b : Nat) : List Reg :=
  match b with
  | 0x0 => regsOf0
  | 0x1 => regsOf1
  | 0x2 => regsOf2
  | 0x3 => regsOf3
  | 0x4 => regsOf4
  | 0x5 => regsOf5
  | 0x6 => regsOf6
  | 0x7 => regsOf7
  | 0x8 => regsOf8
  | 0x9 => regsOf9
  | 0xA => regsOfA
  | 0xB => regsOfB
  | _ => []

end Sys2Proof.Machine
end

