-- ==== Sys2Proof/Machine/Tbl.lean ====
section
/-! DEFINITION. Sparse tables: what the machine keeps by key, as a list of key and value pairs in one canonical form
(keys strictly rising, no entry equal to what an unlisted key reads as). -/

namespace Sys2Proof.Machine

/-- A sparse table. -/
abbrev Tbl (κ : Type) (α : Type) := List (κ × α)

/-- The value at a key; `d` says what an unlisted key reads as. -/
def Tbl.get {κ α : Type} [DecidableEq κ] (d : κ → α) : Tbl κ α → κ → α
  | [], k => d k
  | (k', v) :: t, k => if k' = k then v else Tbl.get d t k

/-- Removes a key. -/
def Tbl.del {κ α : Type} [DecidableEq κ] : Tbl κ α → κ → Tbl κ α
  | [], _ => []
  | (k', v) :: t, k => if k' = k then Tbl.del t k else (k', v) :: Tbl.del t k

/-- Puts an entry in its place: replaces an equal key, else goes before the first larger key. -/
def Tbl.ins {κ α : Type} [DecidableEq κ] (lt : κ → κ → Bool) : Tbl κ α → κ → α → Tbl κ α
  | [], k, v => [(k, v)]
  | (k', v') :: t, k, v =>
    if k' = k then (k, v) :: t
    else if lt k k' then (k, v) :: (k', v') :: t
    else (k', v') :: Tbl.ins lt t k v

/-- Writes a value; writing what an unlisted key reads as removes the entry. -/
def Tbl.set {κ α : Type} [DecidableEq κ] [DecidableEq α] (lt : κ → κ → Bool) (d : κ → α)
    (t : Tbl κ α) (k : κ) (v : α) : Tbl κ α :=
  if v = d k then Tbl.del t k else Tbl.ins lt t k v

/-- The canonical form: keys strictly rising and no entry at its default. -/
def Tbl.wf {κ α : Type} [DecidableEq α] (lt : κ → κ → Bool) (d : κ → α) : Tbl κ α → Bool
  | [] => true
  | (k, v) :: t => decide (v ≠ d k) && t.all (fun e => lt k e.1) && Tbl.wf lt d t

/-- Order of natural keys. -/
def natLt (a b : Nat) : Bool := decide (a < b)

/-- A table keyed by numbers. -/
abbrev NTbl (α : Type) := Tbl Nat α

/-- The value at a number in a table with one default. -/
def NTbl.at {α : Type} (d : α) (t : NTbl α) (k : Nat) : α := Tbl.get (fun _ => d) t k

/-- Writes a number's value in a table with one default. -/
def NTbl.put {α : Type} [DecidableEq α] (d : α) (t : NTbl α) (k : Nat) (v : α) : NTbl α :=
  Tbl.set natLt (fun _ => d) t k v

/-- Order of key pairs. -/
def pairLt (a b : Nat × Nat) : Bool := decide (a.1 < b.1) || (decide (a.1 = b.1) && decide (a.2 < b.2))

/-- A table keyed by pairs of numbers. -/
abbrev PTbl (α : Type) := Tbl (Nat × Nat) α

/-- The value at a pair in a table with one default. -/
def PTbl.at {α : Type} (d : α) (t : PTbl α) (i j : Nat) : α := Tbl.get (fun _ => d) t (i, j)

/-- Writes a pair's value in a table with one default. -/
def PTbl.put {α : Type} [DecidableEq α] (d : α) (t : PTbl α) (i j : Nat) (v : α) : PTbl α :=
  Tbl.set pairLt (fun _ => d) t (i, j) v

end Sys2Proof.Machine
end

