-- ==== Sys2Proof/Machine/StCore.lean ====
section
/-! DEFINITION. The shared parts of the state: units, domains, events, Headland sessions, claims, locks and
mailboxes (01, 12, 14), and what leaves the module. -/

namespace Sys2Proof.Machine

/-- Unit classes of the unit map (01 R23), in the encoding of 12 R468. -/
inductive UCls where
  | engine | memSite | channel | plane | site | ucie | ethLane
  deriving DecidableEq, Repr

/-- Unit states of 01 R24. -/
inductive UState where
  | present | fallow | failed | retired
  deriving DecidableEq, Repr

/-- A unit: its state (none before bring-up decides it, 01 R26) and its DEGRADED flag (01 R30). -/
structure CUnit where
  st : Option UState := none
  deg : Bool := false
  deriving DecidableEq, Repr

/-- Key of a register field: the field and its instance numbers. -/
structure FKey where
  f : Fid
  i : Nat := 0
  j : Nat := 0
  deriving DecidableEq, Repr

/-- A clock domain (14 R517-R519, 01 R38): running, its cycles, and whether it was ever released. -/
structure Dom where
  running : Bool := false
  cycles : Nat := 0
  ever : Bool := false
  deriving DecidableEq, Repr

/-- An event (12 R468, R469): `detail` lists the values that the defining chapter says it carries, in its order;
`op`, `plots` and `sess` are its scope. -/
structure Event where
  code : Nat
  sev : Nat := 0
  plot : Option Nat := none
  ucls : Nat := 0
  unit : Nat := 0
  dom : Nat := 0
  seq : Nat := 0
  cycles : Nat := 0
  detail : List Nat := []
  op : Bool := true
  plots : Nat := 0
  sess : Option Nat := none
  deriving DecidableEq, Repr

/-- Where a reply or event goes: IP address, UDP port, MAC address, and the module's own address it leaves from
(12 R448). -/
structure Peer where
  ip : Nat := 0
  port : Nat := 0
  mac : Nat := 0
  own : Nat := 0
  deriving DecidableEq, Repr

/-- A command accepted into a session's order (12 R446, R451). -/
structure HCmd where
  opcode : Nat
  tag : Nat
  plot : Nat
  payload : Bytes
  peer : Peer
  deriving DecidableEq, Repr

/-- A reply (12 R443, R453), as sent and as retained under R451. -/
structure HReply where
  session : Nat
  opcode : Nat
  tag : Nat
  plot : Nat
  status : Nat
  seq : Nat
  payload : Bytes
  peer : Peer
  deriving DecidableEq, Repr

/-- An event subscription (12 R467). -/
structure Sub where
  ranges : Nat := 0
  plots : Nat := 0
  opScope : Bool := false
  minSev : Nat := 0
  deriving DecidableEq, Repr

/-- A session (12 R449-R452); `again` holds retained events and `relog` events of the module log that are to be resent (12 R469). -/
structure Session where
  isOpen : Bool := false
  plot : Option Nat := none
  next : Nat := 0
  window : NTbl (Option HCmd) := []
  retained : List (Nat × HReply) := []
  sub : Option Sub := none
  evSeq : Nat := 1
  unsent : List Event := []
  sent : List (Nat × Nat × Event) := []
  again : List (Nat × Nat × Event) := []
  relog : List Event := []
  lost : Nat := 0
  confirmed : Bool := false
  opened : Nat := 0
  polling : Option Nat := none
  peer : Peer := {}
  key : Bytes := []
  deriving DecidableEq, Repr

/-- Holder of a claim (12 R463). -/
inductive Holder where
  | free | session (n : Nat) | master (id : Nat)
  deriving DecidableEq, Repr

/-- A lock (12 R465): its holder, kind and target. -/
structure LockEnt where
  session : Nat
  kind : Nat
  target : Nat
  deriving DecidableEq, Repr

/-- A SESSION_OPEN being assembled (12 R445). -/
structure OpenAsm where
  peer : Peer
  tag : Nat
  parts : Nat
  got : NTbl (Option Bytes) := []
  deriving DecidableEq, Repr

/-- Mailbox channel states (12 R472). -/
inductive MbState where
  | empty | posted | taken | acked | aborted
  deriving DecidableEq, Repr

/-- A binding-table entry (12 R471). -/
structure MbBind where
  valid : Bool := false
  scopePlot : Option Nat := none
  scopeNo : Nat := 0
  receiver : Nat := 0
  sender : Nat := 0
  deriving DecidableEq, Repr

/-- A mailbox channel (12 R471-R475). -/
structure Mbox where
  bind : MbBind := {}
  st : MbState := .empty
  slot : Bytes := []
  len : Nat := 0
  ackCode : Nat := 0
  senderId : Nat := 0
  session : Option Nat := none
  posts : Nat := 0
  deriving DecidableEq, Repr

/-- The Headland (12). -/
structure Hl where
  sessions : NTbl Session := []
  claims : NTbl Holder := []
  locks : NTbl (Option LockEnt) := []
  asm : List OpenAsm := []
  openCtr : Nat := 0
  bucket : Nat := 16000000
  log : List Event := []
  moduleSeq : Nat := 0
  closing : Bool := false
  mbox : NTbl Mbox := []
  bindLoaded : Bool := false
  bindErr : Bool := false
  deriving DecidableEq, Repr

/-- A message from the hub to a chiplet (09 R336, R340, R341): the fields of its header (07 R260), its data units, and the
line of a grant. -/
structure SiteMsg where
  cmd : Nat
  rsp : Bool := false
  id : Nat := 0
  urg : Nat := 0
  cls : Nat := 0
  len : Nat := 0
  tag : Nat := 0
  status : Nat := 0
  addr : Nat := 0
  poison : Nat := 0
  info : Nat := 0
  data : Bytes := []
  grant : Option Nat := none
  deriving DecidableEq, Repr

/-- Messages of the hub on a CXL link (08 R323, R324; 09 R346): of CXL.mem with their MetaValue (0 I, 2 A, 3 S), of CXL.cache,
and of CXL.io; a completion of CXL.io is 0 SC, 1 UR, 2 CA. -/
inductive CxlHub where
  | memData (mval : Nat) | cmp | cmpS | cmpE | biSnpInv | biSnpData | biSnpCur | biConflictAck
  | goS | goE | goI | goWritePull | cacheData | snpInv | snpData | snpCur
  | ioRead | ioWrite | ioCpl (status : Nat)
  deriving DecidableEq, Repr

/-- What a flit of the hub holds: the 272 bytes of a Bludric flit (09 R335), or the message of a CXL flit, none in a flit that
only acknowledges. -/
inductive FlitBody where
  | bludric (b : Bytes)
  | cxl (seq ack : Nat) (nak : Bool) (m : Option (CxlHub × SiteMsg))
  deriving DecidableEq, Repr

/-- How a frame of the port leaves (10 R382, R386, R389, R390): its priority, the PCP and the VLAN identifier of its VLAN tag if
it has one, its DSCP, and whether it is ECT(0). -/
structure TxHdr where
  prio : Nat
  pcp : Option Nat
  vid : Option Nat := none
  dscp : Nat
  ect : Bool
  deriving DecidableEq, Repr

/-- Where a RoCEv2 packet goes (10 R382, R391, R415): destination MAC, source and destination IP, UDP source port, destination
QPN, P_Key. -/
structure PktAddr where
  mac : Nat
  srcIp : Nat
  dstIp : Nat
  udpSrc : Nat
  qpn : Nat
  pkey : Nat
  deriving DecidableEq, Repr

/-- What leaves the module (NOTES.md, Outputs): Headland replies and events, packets and frames of the port, responses
at the mesh ports, messages on the site links, pin pulses. -/
inductive Out where
  /-- A Headland reply and the datagrams of its parts (12 R443-R445). -/
  | reply (h : TxHdr) (r : HReply) (parts : List Bytes)
  /-- The DISCOVER reply (12 R447): destination and datagram. -/
  | discover (h : TxHdr) (p : Peer) (datagram : Bytes)
  /-- An event packet to a session (12 R448, R468, R469): where it goes, its session SEQ, the event, and its datagram. -/
  | event (h : TxHdr) (p : Peer) (session seq : Nat) (e : Event) (datagram : Bytes)
  /-- The end of a register access by an on-module master: value read, or an error response (00 R629). -/
  | access (id : Nat) (err : Bool) (value : Nat)
  /-- A response at a mesh port (07 R262): port, tag, STATUS, data and poisoned lines. -/
  | response (port tag status : Nat) (data : Bytes) (poison : Nat)
  /-- A RoCEv2 packet of a queue pair (10 R391): its addresses, BTH opcode, PSN and fields, payload. -/
  | packet (h : TxHdr) (a : PktAddr) (qp kind psn : Nat) (fields : List Nat) (payload : Bytes)
  /-- A PFC frame: priority and quanta (10 R387). -/
  | pfc (p quanta : Nat)
  /-- An answer of ARP or Neighbor Discovery (10 R383, R384): kind and fields. -/
  | frame (h : TxHdr) (kind : Nat) (fields : List Nat)
  /-- A message on the coherence ring or a site link (08 R301): code, agent, line, transaction, data. -/
  | snoop (code agent line txn : Nat) (data : Option Bytes)
  /-- A grant, read data or acknowledgement of a home to an agent (08 R301): code, grant, agent, line, status, data. -/
  | cohReply (code grant agent line status : Nat) (data : Bytes)
  /-- A message on a site's sideband (09 R350): site, module, vendor code, 0 SITE_PARAM, 1 REPAIR_RECORD or 0x40
  SITE_DRAIN, fields. -/
  | sideband (n k vendor code : Nat) (fields : List Nat)
  /-- A flit on a site's link, and the module that takes it (09 R332). -/
  | flit (n k : Nat) (body : FlitBody)
  /-- An interrupt to the CC cores (12 R474, 07 R294): source and number. -/
  | interrupt (src n : Nat)
  /-- A level on a pin: 0 TRIG_OUT, 1 and 2 the analogue test bus, its level or connection (16 R589, R598); 16 + n SITEn_REFCLK
  and 32 + n the clock of stack n, 1 while it runs (09 R367; 14 R521). -/
  | pin (name value : Nat)
  /-- A PMBus write to the regulator of a rail (15 R545, R546, R549, R551): rail, ADDR, PAGE, command code, value: OPERATION
  with 0x80 on or 0 off, VOUT_COMMAND with a voltage in mV, CLEAR_FAULTS. -/
  | pmbus (rail addr page cmd value : Nat)
  /-- Bytes read at the management port or a test data register (16 R596, 17). -/
  | serial (port : Nat) (bytes : Bytes)
  deriving DecidableEq, Repr

end Sys2Proof.Machine
end

