-- ==== Sys2Proof/Machine/StMem.lean ====
section
/-! DEFINITION. State of the memory sites, the mesh and the security block (05, 06, 07, 13). -/

namespace Sys2Proof.Machine

/-- A line held in an LLC slice (05, 06): only whether it must be written back. -/
structure LlcLine where
  dirty : Bool
  deriving DecidableEq, Repr

/-- An open combining entry (06 R240-R245): reads attached, the most urgent class among them, and whether the access they share
returned poison. -/
structure CombEnt where
  attached : Nat
  cls : Nat
  bad : Bool := false
  deriving DecidableEq, Repr

/-- A command in a channel's queue (05 R193): its kind (0 read, 1 write, 2 patrol read), line, class and time of arrival, and
the mesh request it belongs to (port 31 for none). -/
structure ChCmd where
  kind : Nat
  line : Nat
  cls : Nat
  since : Nat
  port : Nat := 31
  tag : Nat := 0
  deriving DecidableEq, Repr

/-- What a memory channel's scheduler holds (05 R193, R194): the commands waiting, oldest first, the row open in each bank, a
write drain in progress. -/
structure Sched where
  queue : List ChCmd := []
  rows : NTbl (Option Nat) := []
  draining : Bool := false
  deriving DecidableEq, Repr

/-- A memory channel (05 R197, R202-R210): erased pins from the wear record and in operation, failure in this session,
retrains, spare rows used per bank, the bank and row under repair. -/
structure Chan where
  erased : List Nat := []
  failed : Bool := false
  retrains : Nat := 0
  spareUsed : NTbl Nat := []
  pprNone : NTbl Bool := []
  repair : Option (Nat × Nat) := none
  deriving DecidableEq, Repr

/-- A memory site's rate-limited reports (05 R200, 06 R252; `chanLossDue` the channel losses still to report) and sensor (05
R219-R221, R635; `maxSeen` a reading since MEM_TEMP_MAX was read), its trackers (05 R191) with the port served last (07
R266), the patrol's place in its pass and the period in force (05 R206, R226). -/
structure MSite where
  fatal : Bool := false
  uncorrOpen : Bool := false
  suppressed : Nat := 0
  chanLossDue : List Nat := []
  tempFails : Nat := 0
  tempRead : Bool := false
  tempLost : Bool := false
  refresh2x : Bool := false
  halfIssue : Bool := false
  cap : Nat := 0
  combInUse : Nat := 0
  trackers : Nat := 0
  trackersNonC0 : Nat := 0
  lastPort : Nat := 29
  maxSeen : Bool := false
  patrolPos : Nat := 0
  period : Nat := 24
  deriving DecidableEq, Repr

/-- Memory: the plaintext view of the stacks and LLC, one canonical list of (address, byte) cells; an unlisted byte
reads as zero, which is what memory initialisation writes (05 R218). -/
abbrev Cells := List Host.Cell

/-- Everything behind the memory sites. `tag` and `base` say under which key instance each line was last written (0: before
initialisation, 1: the operator key, above: the keys drawn since);
`cells` is the plaintext under that instance; `gkey` is the granule key table (05 R216) and `ginst` the instance of that key. -/
structure Mem where
  cells : Cells := []
  poison : NTbl Bool := []
  tag : NTbl (Option Nat) := []
  base : NTbl (Option Nat) := []
  inited : Bool := false
  gkey : NTbl Nat := []
  ginst : NTbl Nat := []
  keyCtr : Nat := 2
  llc : NTbl (Option LlcLine) := []
  comb : NTbl (Option CombEnt) := []
  pinErr : PTbl (List Nat) := []
  rowErr : PTbl (List Nat) := []
  chans : NTbl Chan := []
  sched : NTbl Sched := []
  sites : NTbl MSite := []
  wayErr : PTbl (List Nat) := []
  waysSpared : NTbl Nat := []
  relocR : Nat := 0
  mapped : List Nat := []
  deriving DecidableEq, Repr

/-- Where a mesh request is (07 R281, R269, R271; 08 R310 for one that waits on snoops at its home). -/
inductive ReqPhase where
  | waitPort | waitTracker | waitHome | issued
  deriving DecidableEq, Repr

/-- The work order an access belongs to: engine, queue, index, and the scalar unit that makes it (64: none). -/
structure RunRef where
  e : Nat
  q : Nat
  idx : Nat
  unit : Nat := 64
  deriving DecidableEq, Repr

/-- A request at a mesh port (07 R260): `ans` once its outcome stands and only its response is to come, `late` once it
has timed out (07 R271), `dropped` where nobody is left to take the response (09 R359), `gone` once its packet has been
discarded (07 R261). `limit` is its timer (07 R270), `arrUrg` its urgency on arrival at the target (07 R268); `run` the
work order whose write it is (04 R173). -/
structure Req where
  port : Nat
  id : Nat
  tag : Nat
  plot : Option Nat
  pa : Nat
  len : Nat
  write : Bool
  data : Bytes
  poison : Nat
  cls : Nat
  urg : Nat
  plane : Nat
  home : Option Nat
  errs : List LineErr
  phase : ReqPhase
  since : Nat
  status : Nat := 0
  rdata : Bytes := []
  rpoison : Nat := 0
  ans : Bool := false
  late : Bool := false
  dropped : Bool := false
  trk : Bool := false
  gone : Bool := false
  limit : Nat := 0
  arrUrg : Nat := 0
  run : Option RunRef := none
  deriving DecidableEq, Repr

/-- A range of a port's class table in force (07 R280). -/
structure QRange where
  base : Nat
  limit : Nat
  rcls : Nat
  wcls : Nat
  deriving DecidableEq, Repr

/-- A class setting in force at a port (07 R281, R282, R288). -/
structure QClass where
  siteMask : Nat := 0xFF
  baseUrg : Nat := 0
  ceil : Nat := 0
  guar : Nat := 0
  eff : Nat := 0
  deriving DecidableEq, Repr

/-- A port's regulator: what is in force, and the current window (07 R280-R282, R290). -/
structure QPort where
  ranges : List QRange := []
  dflt : Nat × Nat := (4, 4)
  classes : NTbl QClass := []
  issued : NTbl Nat := []
  done : NTbl Nat := []
  busyAll : Nat := 0
  fence : Nat := 0
  deriving DecidableEq, Repr

/-- A commit or rescale waiting for its window boundary (07 R287, R289): window ends still to come; for a commit the staged
settings it took when it was judged, for a rescale the factors of the memory sites and ports as they were recomputed. -/
structure QPending where
  windows : Nat
  commit : Option (List QPort)
  sites : List Nat := []
  ports : List Nat := []
  deriving DecidableEq, Repr

/-- A limiter of an event to one report per interval (07 R271, R277, R292): since when, and reports withheld. -/
structure Limiter where
  since : Option Nat := none
  withheld : Nat := 0
  deriving DecidableEq, Repr

/-- The mesh and its regulators (07). `stopped` is the mask of planes that a router fault of 07 R279 has stopped, `linkFails`
the failed replays in a row of a plane's link (07 R278). -/
structure Mesh where
  reqs : List Req := []
  ports : NTbl QPort := []
  pending : List QPending := []
  linkFails : PTbl Nat := []
  stopped : Nat := 0
  limits : PTbl Limiter := []
  siteCap : NTbl Nat := []
  ethCap : Nat := 0
  deriving DecidableEq, Repr

/-- One plot-map entry (01 R49). -/
structure PMapEnt where
  common : Bool
  twin : Bool
  write : Bool
  twinGran : Nat
  gran : Nat
  deriving DecidableEq, Repr

/-- A plot's teardown (13 R508, R510): the ETH-domain cycle count when it began, its place in the order, and the queue pairs
that could receive and the streams that were enabled when it began, whose packets 10 R384 row 11 drops. -/
structure Teardown where
  began : Nat
  order : Nat
  qps : List Nat := []
  streams : List Nat := []
  deriving DecidableEq, Repr

/-- A plot (13 R494, R498-R501). -/
structure Plot where
  active : Bool := false
  teardown : Option Teardown := none
  engines : Nat := 0
  sites : Nat := 0
  ways : Nat := 0
  map : NTbl (Option PMapEnt) := []
  qpFirst : Nat := 0
  qpCount : Nat := 0
  ingFirst : Nat := 0
  ingCount : Nat := 0
  keyHash : Bytes := []
  generation : Nat := 0
  touch : Bool := false
  keyInst : Nat := 0
  deriving DecidableEq, Repr

/-- The fuse array (13 R476-R488, 01 R32): state the module keeps through everything. -/
structure Fuses where
  lc : List Nat := [0, 0, 0]
  serial : Nat := 0
  mac : Nat := 0
  ownerHash : NTbl Bytes := []
  ownerBlown : Nat := 0
  ownerRevoked : Nat := 0
  fwkRevoked : Nat := 0
  minSvn : Nat := 0
  retire : NTbl Nat := []
  secret : Bytes := []
  secretWiped : Bool := false
  trimWiped : Bool := false
  vid : NTbl Nat := []
  deriving DecidableEq, Repr

/-- What a fuse-blowing or common-granule request in progress will do when it ends (13 R480, R487, R489, R503). -/
inductive SecJob where
  | lcBlow (target : Nat)
  | ownerProgram (slot : Nat) (hash : Bytes)
  | ownerRevoke (slot : Nat)
  | minSvn
  | retire (entry value : Nat)
  deriving DecidableEq, Repr

/-- The security block (13 R476-R511); `lcDone` counts the blows of an accepted life-cycle transition that have ended: copies 0, 1 and 2 of
the code, then the banks (13 R480). -/
structure Sec where
  lcState : Nat := 0
  lcCode : Nat := 0
  voteSplit : Bool := false
  idReady : Bool := false
  idPub : Bytes := []
  plots : NTbl Plot := []
  common : List Nat := []
  twins : NTbl (Option Nat) := []
  commonInst : Nat := 0
  jobs : List SecJob := []
  commonJob : Option (Nat × Nat) := none
  fatal : Bool := false
  reportSeq : Nat := 0
  jtagSeen : Bool := false
  debugUsed : Bool := false
  debugCount : Nat := 0
  bindings : NTbl Bytes := []
  credSlot : NTbl Nat := []
  lcDone : Nat := 0
  deriving DecidableEq, Repr

end Sys2Proof.Machine
end

