-- ==== Sys2Proof/Machine/StBoot.lean ====
section
/-! DEFINITION. State of the control complex, firmware, training and the training record (14). -/

namespace Sys2Proof.Machine

/-- A wear entry (14 R536, R537). -/
structure Wear where
  kind : Nat
  cls : Nat
  unit : Nat
  detail : Nat
  gen : Nat
  deriving DecidableEq, Repr

/-- A UCIe module's repair record (09 R353, 14 R536); the width is coded as SITE_UM_STATUS.WIDTH, 3 for x64. -/
structure UmRepair where
  width : Nat := 3
  tx : List Nat := []
  rx : List Nat := []
  deriving DecidableEq, Repr

/-- Training or replay in progress (14 R532-R535). -/
structure TrainJob where
  stks : Nat
  sites : Nat
  replay : Bool
  wearOnly : Bool
  deriving DecidableEq, Repr

/-- Firmware, training and record (14 R525-R538); `dead` once an error has halted the cores (14 R523, R524), `kicked` the
latest kick of the watchdog, `ccHalt` the cores halted by debug (16 R595). -/
structure Boot where
  sram : Cells := []
  holder : Option Nat := none
  fwState : Nat := 0
  started : Bool := false
  entry : Nat := 0
  cores : Nat := 0
  ready : Bool := false
  runDigest : Bytes := []
  runSvn : Nat := 0
  stagedDigest : Bytes := []
  stagedSvn : Nat := 0
  buf : Cells := []
  bufHolder : Option Nat := none
  job : Option TrainJob := none
  trained : Nat := 0
  wear : List Wear := []
  repairs : NTbl UmRepair := []
  recorded : Nat := 0
  testing : Option Nat := none
  testSeq : Nat := 0
  loaded : Nat := 0
  dead : Bool := false
  kicked : Nat := 0
  ccHalt : Nat := 0
  deriving DecidableEq, Repr

end Sys2Proof.Machine
end

