-- ==== Sys2Proof/Machine/StEng.lean ====
section
/-! DEFINITION. State of the engines and of the tallies (03, 04). -/

namespace Sys2Proof.Machine

/-- A write that an order will make when it completes: its address field (SPACE included, 04 R144), the bytes,
whether they carry poison, the output tile or row it belongs to, that tile's or row's flags (02 R90, R91), and the NaN elements
of it: the byte each begins at, and how many it counts as (02 R92). -/
structure OutWr where
  addr : Nat
  bytes : Bytes
  pois : Bool := false
  piece : Nat := 0
  flags : Nat := 0
  nans : List (Nat × Nat) := []
  deriving DecidableEq, Repr

/-- A work order that has started and has no completion record yet (04 R140-R142, R177). `done` once its outcome stands
and only its writes and record remain; WAIT and LANE orders start with `done` false. `finished` once nothing of it runs: its
fetch or a check failed, its WAIT or its streams have ended. `nans` counts NaN elements written so far (02 R92). -/
structure Run where
  q : Nat
  idx : Nat
  op : Nat
  order : Bytes
  res : List Nat
  done : Bool
  finished : Bool := false
  status : Nat := 0
  fault : Nat := 0
  flags : Nat := 0
  nans : Nat := 0
  aux0 : Nat := 0
  aux1 : Nat := 0
  outs : List OutWr := []
  start : Nat := 0
  deriving DecidableEq, Repr

/-- An instruction stream of a LANE order (04 R159-R162): of the queue's order, with its scalar registers, lane
registers (each 4,096 values, [] when all zero), predicates, and which values came from storage (02 R90). `held`: its unit has
ended an instruction block and waits for a claim (03 R116). -/
structure Stream where
  q : Nat
  idx : Nat
  no : Nat
  scalar : Bool
  pc : Nat
  steps : Nat
  limit : Nat
  ended : Bool
  sreg : NTbl Nat
  snan : NTbl Bool
  vreg : NTbl (List (BitVec 32))
  vnan : NTbl (List Bool)
  pred : NTbl (List Bool)
  held : Bool := false
  deriving DecidableEq, Repr

/-- An order that an engine has read ahead of its start (04 R142): its queue, index, and what the read gave. -/
structure Ahead where
  q : Nat
  idx : Nat
  status : Nat
  data : Bytes
  deriving DecidableEq, Repr

/-- Bytes that a LANE order (queue, index) has itself made and stored, so that a NaN among them is no input of it (02 R90): an
address field, SPACE included, a length, and in memory the bytes stored. -/
structure Made where
  addr : Nat
  len : Nat
  q : Nat
  idx : Nat
  data : Bytes := []
  deriving DecidableEq, Repr

/-- An engine (03, 04). `stepMask`: the streams (by unit) and, bit 64, the arrays that may take one step while halted (16
R595). Resources in `served` and `Run.res`: 0 arrays, 1-4 lane groups, 5 inbound, 6 outbound data
mover, 7 all scalar units (03 R116); `served` is the queue served last by resource and priority (04 R141). `latent`: SECDED errors that no read has
met yet (03 R110). `claim`: the order (queue, index) that waits to claim all scalar units (03 R116). -/
structure Eng where
  lps : NTbl Nat := []
  tile : Cells := []
  tpois : NTbl Bool := []
  acc : PTbl Byte := []
  accGen : Nat := 0
  runs : List Run := []
  streams : NTbl (Option Stream) := []
  served : PTbl Nat := []
  ahead : List Ahead := []
  made : List Made := []
  latent : List TmErr := []
  claim : Option (Nat × Nat) := none
  faultOwner : Option Nat := none
  halted : Bool := false
  stepMask : Nat := 0
  deriving DecidableEq, Repr

/-- A WAIT pending on a tally (04 R169), in the order in which it became pending. -/
structure TWait where
  e : Nat
  q : Nat
  idx : Nat
  tally : Nat
  consume : Bool
  amount : Nat
  deriving DecidableEq, Repr

end Sys2Proof.Machine
end

