-- ==== Sys2Proof/Machine/StCoh.lean ====
section
/-! DEFINITION. State of the coherence homes (08) and of the site links (09). -/

namespace Sys2Proof.Machine

/-- A snoop-filter entry (08 R305): O or S, the mask of holders, and when it was last used. -/
structure SfEnt where
  owned : Bool
  holders : Nat
  used : Nat
  deriving DecidableEq, Repr

/-- A snooped agent in an open transaction (08 R313): its answer (0 I, 1 S, 2 E), whether a writeback was announced
(RSP_I_WBP), and whether its EVICT_DIRTY has been taken in. -/
structure SnpWait where
  agent : Nat
  resp : Option Nat := none
  wbp : Bool := false
  wb : Bool := false
  deriving DecidableEq, Repr

/-- A request to a home: its code (08 R301; 0x100 and 0x101 a mesh read and write by port and tag,
0x200 a victim recall, 0x201 a recall of a plot's teardown, 0x202 the recall of one agent's entry), the agent, the line, the
bytes of a write at their offset, and whether E may be granted. Port 64 marks the accesses of a waiting command, by its
number. `cls` and `urg` are the class and urgency of an agent's request or of a waiting command's, `mport` the port of such
a command's, `plane` the plane it travels on (07 R263), `since` and `limit` its timer (07 R270); `late` once that has expired,
`gone` once its packet has been lost with a plane (07 R278) or discarded (07 R261). -/
structure HReq where
  cmd : Nat
  agent : Nat
  line : Nat
  off : Nat := 0
  data : Bytes := []
  poison : Bool := false
  noE : Bool := false
  port : Nat := 0
  tag : Nat := 0
  cls : Nat := 4
  urg : Nat := 0
  mport : Nat := 29
  plane : Nat := 0
  since : Nat := 0
  limit : Nat := 0
  late : Bool := false
  gone : Bool := false
  deriving DecidableEq, Repr

/-- Where an open transaction stands: waiting for a filter way, for snoops, for its mesh request's other lines, or for
the GRANT_ACK. -/
inductive HPhase where
  | alloc | snoop | held | grant
  deriving DecidableEq, Repr

/-- An open home transaction (08 R310-R316); `final` is the entry that applies at its end, `before` the home state it met
and `snooped` the mask of agents it snooped (16 R591), `victim` the line whose recall an allocation waits for (08 R307). -/
structure HTxn where
  line : Nat
  txn : Nat
  req : HReq
  phase : HPhase
  pend : List SnpWait := []
  final : Option SfEnt := none
  before : Nat := 0
  snooped : Nat := 0
  victim : Option Nat := none
  deriving DecidableEq, Repr

/-- CC's cached copy of a line (08 R302, R303). -/
inductive CcLine where
  | s | e | m | isD | imD | smD | miA | ciA
  deriving DecidableEq, Repr

/-- What a command of a unit of the hub waits for (log 21): an access of a line at its home, with its class and urgency, port,
plane and timer (07 R263, R268, R270); the next `window` of its port, for a request of `len` bytes (07 R281); or the end of the
repair of its `bank` (05 R204), for the write-back of the line. -/
structure Want where
  line : Nat := 0
  write : Bool
  cls : Nat
  urg : Nat
  port : Nat
  plane : Nat
  since : Nat
  limit : Nat
  window : Bool := false
  bank : Bool := false
  len : Nat := 0
  deriving DecidableEq, Repr

/-- A command of a unit of the hub that waits at a home or at its port (08 R310, log 21): what its unit orders it by, its
number, what it waits for, the lines read for it so far, poisoned or not, the lines whose access has failed with a status, and
the bytes its requests have used of their windows, by port and class. -/
structure Parked where
  cmd : Instr
  key : Nat
  no : Nat
  want : List Want := []
  got : List (Nat × Bool × Bytes) := []
  fails : List (Nat × Nat) := []
  paid : PTbl Nat := []
  deriving DecidableEq, Repr

/-- An EVICT_DIRTY that waits for room in its home's writeback buffer (08 R310): agent, line, data, poisoned or not, its
reference, and whether the adapter has answered it. -/
structure EvWait where
  agent : Nat
  line : Nat
  data : Bytes
  poison : Bool
  ref : Nat
  quiet : Bool
  deriving DecidableEq, Repr

/-- The coherence homes (08). `waiting` are agents' requests that wait for a tracker (05 R191), `reclaim` the reclaims whose
last step is to come: agent, lines dropped, lines poisoned (08 R318). `parked` and `parkNo` hold the commands of units of
the hub that wait at a home (log 21), `evicts` the lines in each home's writeback buffer, `evWait` the evictions that wait for
room there (08 R310); the fields after `parkNo` are at their defaults between commands: whether the present
one can wait, the accesses it must wait for, the lines held for its writes, the lines read for it, those whose access failed,
the bytes it has issued before and now, its number. -/
structure Coh where
  sf : NTbl (Option SfEnt) := []
  txns : List HTxn := []
  queue : List HReq := []
  next : Nat := 0
  stamp : Nat := 0
  up : Nat := 0
  ringDown : Bool := false
  cc : NTbl (Option CcLine) := []
  waiting : List HReq := []
  reclaim : List (Nat × Nat × Nat) := []
  evicts : NTbl Nat := []
  evWait : List EvWait := []
  parked : List Parked := []
  parkNo : Nat := 0
  canPark : Bool := false
  stall : List Want := []
  mine : List Nat := []
  got : List (Nat × Bool × Bytes) := []
  fails : List (Nat × Nat) := []
  paid : PTbl Nat := []
  spent : PTbl Nat := []
  resuming : Option Nat := none
  deriving DecidableEq, Repr

/-- An eviction that the adapter of a CXL site has taken from its chiplet and not yet had acknowledged (08 R324): its address as
the chiplet knows it, its identity below the site's and its tag (as one number, the tag in the low 12 bits), whether the
adapter has answered it with GO_WritePull, and its data, poisoned or not, once the chiplet has sent it. -/
structure CxlEvict where
  addr : Nat
  ref : Nat
  pulled : Bool := false
  data : Option (Bool × Bytes)
  deriving DecidableEq, Repr

/-- A site link (09): receive and send sequence, flits received ahead of the expected one, the packet being assembled,
requests that wait at the site port, snoop responses that wait for their dirty data and dirty data that came first; the
flits sent and not acknowledged, with their modules, and the place in the rotation (09 R332, R333); acknowledgements and
credits still to send; the chiplet's credits and the messages that wait for them; lines whose grant is on the link and not
acknowledged to the home, and the adapter's evictions with the requests held behind them (08 R324); training: the rate tried
next (09 R352), the modules' widths and repairs to come and in force (R353), CTL_ACCESS as the last training took it (R374),
the modules whose sideband is up (R350); power: the rails (R369), SITEn_REFCLK and since when, SITEn_RST_N, how long it must
stay low, when it is due to be released, and whether CHIPLET_RESET holds it (R362, R368). -/
structure SLink where
  rxNext : Nat := 0
  rxBad : Bool := false
  rxFails : Nat := 0
  ahead : List (Nat × SiteFlit) := []
  txSeq : Nat := 0
  acked : Nat := 0
  sent : List (Nat × FlitBody) := []
  dealt : Nat := 0
  oweAck : Bool := false
  oweNak : Bool := false
  owed : List Nat := [0, 0, 0, 0]
  acks : List Nat := []
  evicting : List CxlEvict := []
  behind : List CxlMsg := []
  recalling : Bool := false
  replayAt : Nat := 0
  replays : Nat := 0
  hdr : Option (BitVec 512) := none
  units : List (BitVec 512) := []
  waiting : List (BitVec 512 × List (BitVec 512)) := []
  dirtyRsp : List (Nat × Nat) := []
  dirtyData : List (Nat × Bool × Bytes) := []
  credits : List Nat := [0, 0, 0, 0]
  held : List SiteMsg := []
  attempts : Nat := 0
  plan : List UmRepair := []
  live : List UmRepair := []
  tryRate : Nat := 5
  ctl : Bool := false
  sideUp : Nat := 0
  retest : Nat := 0
  drops : List Nat := []
  waking : Bool := false
  fencing : Bool := false
  rstLow : Bool := true
  refclk : Bool := false
  clkAt : Nat := 0
  lowUntil : Nat := 0
  releaseAt : Option Nat := none
  hold : Bool := false
  rails : Bool := false
  deriving DecidableEq, Repr

end Sys2Proof.Machine
end

