-- ==== Sys2Proof/Machine/StNet.lean ====
section
/-! DEFINITION. State of the Ethernet port, its queue pairs and streams (10), and of Sheaf (11). -/

namespace Sys2Proof.Machine

/-- A packet sent and not yet acknowledged (10 R401): BTH opcode, header fields, payload; whether a SACK block has had it sent
again (R402). -/
structure SentPkt where
  psn : Nat
  kind : Nat
  fields : List Nat
  payload : Bytes
  again : Bool := false
  deriving DecidableEq, Repr

/-- A started send work request, or a message of Sheaf, without a record (10 R399; 11 R419): PSNs it occupies, bytes of a
READ received, its status once it has one; for Sheaf the context, the neighbour entry and whether it is DATA. -/
structure Wqe where
  idx : Nat
  op : Nat
  flags : Nat
  tally : Nat
  len : Nat
  wrId : Nat
  laddr : Nat
  psn : Nat
  count : Nat
  got : Nat := 0
  st : Option Nat := none
  sheaf : Option (Nat × Nat × Bool) := none
  deriving DecidableEq, Repr

/-- An inbound message in progress (10 R400): whether it is a SEND, where its data goes, the bytes placed, the room of a
receive buffer, the key of a WRITE, and the packets since the last ACK. -/
structure RxMsg where
  send : Bool
  addr : Nat
  got : Nat
  room : Nat
  rkey : Nat
  left : Nat
  wrId : Nat
  wrIdx : Nat
  deriving DecidableEq, Repr

/-- A frame that waits to leave (10 R389): whether its priority is strict, whether it is an ACK, NAK or CNP, the queue pair that
paces it, its bytes on the wire. -/
structure TxItem where
  h : TxHdr
  strict : Bool := false
  ctl : Bool := false
  qp : Option Nat := none
  bytes : Nat := 0
  out : Out
  deriving DecidableEq, Repr

/-- A queue pair beyond its registers (10 R398-R406): started sends, packets to resend, the inbound message, packets placed
ahead of the expected PSN with their immediates (R402), messages that the responder has completed, messages of Sheaf
acknowledged, congestion control; `nextAt` when its
rate lets its next packet start, in picoseconds. -/
structure Qp where
  sqHead : Nat := 0
  rqHead : Nat := 0
  wqes : List Wqe := []
  unacked : List SentPkt := []
  retries : Nat := 0
  rnr : Nat := 0
  rx : Option RxMsg := none
  sinceAck : Nat := 0
  nakSent : Bool := false
  ahead : NTbl (Option (Option Nat × Nat)) := []
  msn : Nat := 0
  shDone : List (Nat × Nat × Bool) := []
  target : Nat := 0
  quiet : Nat := 0
  lastCut : Option Nat := none
  cnpSent : Option Nat := none
  cnpSeen : Bool := false
  sentNow : Bool := false
  nextAt : Nat := 0
  deriving DecidableEq, Repr

/-- An open slot of an ingest stream (10 R409): first sequence number, its number in the order of opening, rows received,
cycle counts of the first and last. -/
structure IngSlot where
  first : Nat
  no : Nat
  rows : List Nat
  c0 : Nat
  c1 : Nat
  deriving DecidableEq, Repr

/-- An ingest stream beyond its registers: open slots, rows accepted, FIRST_SEQ of the slot opened last. -/
structure Ing where
  slots : List IngSlot := []
  accepted : Nat := 0
  last : Option Nat := none
  deriving DecidableEq, Repr

/-- The Ethernet port (10): priorities paused by the peer and since when, storms reported, priorities this port has paused,
buffer occupancy in bytes, answers to ARP and NDP in the present second, the lanes' half in use, fallback in force, a
drop ordered, and the mode it retrains in; the frames that wait to leave, when the link is free for the next one in
picoseconds, the priority whose turn it is and the bytes left of its turn (R389); when and how many symbols the FEC has
corrected on each lane in the last millisecond (R379). -/
structure Eth where
  pauseSince : NTbl (Option Nat) := []
  storm : Nat := 0
  xoff : Nat := 0
  occ : NTbl Nat := []
  arpStart : Nat := 0
  arpCount : Nat := 0
  half : Nat := 0
  fall : Option Nat := none
  dropDue : Option Nat := none
  fatal : Bool := false
  txq : List TxItem := []
  linkAt : Nat := 0
  turn : Nat := 0
  turnLeft : Nat := 0
  corr : NTbl (List (Nat × Nat)) := []
  qps : NTbl Qp := []
  streams : NTbl Ing := []
  deriving DecidableEq, Repr

/-- A run of a Sheaf context (11 R427-R436): START, which neighbours' READY has counted, DATA sent and arrived per entry,
segments acknowledged, the deadline and how far LAG has moved it since the last arrival, notices sent, and the failure
that ends it. -/
structure ShRun where
  start : Nat
  cyc : Nat
  counted : Nat := 0
  tx : NTbl Nat := []
  rx : NTbl Nat := []
  acked : Nat := 0
  due : Nat
  ext : Nat := 0
  total : Nat := 0
  lastRx : NTbl Nat := []
  lagTx : NTbl (Option Nat) := []
  fail : Option (Nat × Nat) := none
  again : Bool := false
  deriving DecidableEq, Repr

/-- A Sheaf context beyond its registers: the READY latched per neighbour entry (11 R424), as its immediate; the run. -/
structure ShCtx where
  ready : NTbl (Option Nat) := []
  run : Option ShRun := none
  deriving DecidableEq, Repr

end Sys2Proof.Machine
end

