-- ==== Sys2Proof/Machine/StPwr.lean ====
section
/-! DEFINITION. State of the governor and the rails (15), of telemetry and debug (16), and of the pins and ports (16, 17). -/

namespace Sys2Proof.Machine

/-- A thermal zone beyond its registers (15 R552-R557, R636): hub readings failed in a row, whether the hub has a
reading, the running grace's start, the step a change in progress leads to, a hub and a stack reading since PWR_ZONE_MAX
was read. -/
structure Zone where
  hubFails : Nat := 0
  hubKnown : Bool := false
  grace : Option Nat := none
  changing : Option Nat := none
  hubSeen : Bool := false
  stkSeen : Bool := false
  deriving DecidableEq, Repr

/-- The power and thermal block beyond its registers (15): zones, rails in fault, the voltages set in mV
(none: the nominal one of R545), the ticks' power samples. -/
structure Pwr where
  zones : NTbl Zone := []
  railFault : Nat := 0
  volts : NTbl (Option Nat) := []
  samples : List Nat := []
  deriving DecidableEq, Repr

/-- A Glean monitor beyond its registers (16 R584-R587): requests since the last one measured, bins, record sequence
number, and minimum, maximum, samples and sum of the epoch. -/
structure Gln where
  skip : Nat := 0
  bins : NTbl Nat := []
  seq : Nat := 0
  start : Nat := 0
  min : Nat := 0xFFFFFFFF
  max : Nat := 0
  count : Nat := 0
  sum : Nat := 0
  deriving DecidableEq, Repr

/-- Telemetry and debug beyond the registers (16): the carve-out's bytes and where a change of it leads, an export in
progress, a capture in progress, probe-trace numbers, records left before a trigger stop, regions stopped, TRIG_OUT, pins
waiting to connect, and the write slots of the carve-out's slices used in the current microsecond. -/
structure Tel where
  co : Cells := []
  opening : Bool := false
  job : Option (Nat × Nat × Nat) := none
  snap : Bool := false
  trcSeq : Nat := 0
  post : Option Nat := none
  stopped : Nat := 0
  trigHigh : Bool := false
  atbWait : Nat := 0
  monitors : NTbl Gln := []
  slotAt : Nat := 0
  slots : NTbl Nat := []
  deriving DecidableEq, Repr

/-- The TAP (16 R596, R597): instruction, preloaded boundary values, the debug access instrument's result, captures still
to come before it shows. -/
structure Jtag where
  ir : Nat := 2
  boundary : Nat := 0
  reset : Bool := true
  result : Nat := 0
  left : Nat := 0
  deriving DecidableEq, Repr

end Sys2Proof.Machine
end

