-- ==== Sys2Proof/Machine/State.lean ====
section
/-! DEFINITION. The state of the module: plain data, everything spec/ gives it, and the queue of waiting commands. -/

namespace Sys2Proof.Machine

/-- Ways a command stops the block with a fault. No rule of spec/ stops the whole module without a next state: a fault
the manual describes is an effect on the state. -/
inductive Fault where
  /-- Raised by no meaning. Safe. -/
  | never
  deriving DecidableEq, Repr

/-- Ways a command has no meaning. -/
inductive Refusal where
  /-- Raised by an arm of exec for a command without a meaning yet. Safe: the run stops. -/
  | notModelled (mnemonic : String)
  deriving DecidableEq, Repr

/-- The AON block (14 R513-R515, R522): what a whole reset keeps, a scheduled reset with its time and cause, the board
alert. -/
structure Aon where
  cause : Nat := 0
  count : Nat := 0
  porstLow : Bool := true
  due : Option (Nat × Nat) := none
  strapEth : Nat := 0
  refLost : Bool := false
  alert : Bool := false
  digest : Bytes := []
  svn : Nat := 0
  deriving DecidableEq, Repr

/-- The module. -/
structure State where
  flds : Tbl FKey Nat
  rwl : NTbl Bool
  aon : Aon
  fuses : Fuses
  units : PTbl CUnit
  umReady : Bool
  umGen : Nat
  doms : NTbl Dom
  hl : Hl
  mem : Mem
  mesh : Mesh
  sec : Sec
  boot : Boot
  engs : NTbl Eng
  waits : List TWait
  coh : Coh
  links : NTbl SLink
  eth : Eth
  sheaf : NTbl ShCtx
  pwr : Pwr
  tel : Tel
  jtag : Jtag
  mgmtIndex : Nat
  fallowUnit : Option (Nat × Nat)
  out : List Out
  now : Nat
  freeCtr : Nat
  pending : List Instr
  deriving DecidableEq, Repr

/-- The module just after a whole reset has cleared it and before PORST_N is released (14 R513-R515): every table
empty, every register at its reset value, the fuses of a blank part. -/
def State.reset : State where
  flds := []
  rwl := []
  aon := {}
  fuses := {}
  units := []
  umReady := false
  umGen := 0
  doms := []
  hl := {}
  mem := {}
  mesh := {}
  sec := {}
  boot := {}
  engs := []
  waits := []
  coh := {}
  links := []
  eth := {}
  sheaf := []
  pwr := {}
  tel := {}
  jtag := {}
  mgmtIndex := 0
  fallowUnit := none
  out := []
  now := 0
  freeCtr := 0
  pending := []

end Sys2Proof.Machine
end

