-- ==== Sys2Proof/Machine/Ops.lean ====
section
/-! DEFINITION. Named operations shared by every family: register fields, the unit map, ownership, the wear record,
events and rate limits. -/

namespace Sys2Proof.Machine

/-! ### Register fields -/

/-- Order of field keys. -/
def fkLt (a b : FKey) : Bool :=
  let x := a.f.ctorIdx
  let y := b.f.ctorIdx
  decide (x < y) || (decide (x = y) && pairLt (a.i, a.j) (b.i, b.j))

/-- A field's reset value (00 R13). -/
def fkReset (k : FKey) : Nat := fieldReset k.f k.i k.j

/-- The value of a register field. -/
def State.f (s : State) (f : Fid) (i : Nat := 0) (j : Nat := 0) : Nat :=
  Tbl.get fkReset s.flds ⟨f, i, j⟩

/-- Sets a register field. -/
def State.setF (s : State) (f : Fid) (i j v : Nat) : State :=
  { s with flds := Tbl.set fkLt fkReset s.flds ⟨f, i, j⟩ v }

/-- Adds to a `w`-bit counter, which stops at its largest value (00 R630). -/
def State.count (s : State) (f : Fid) (i j w x : Nat) : State :=
  s.setF f i j (satAdd w (s.f f i j) x)

/-- Sets a one-bit status flag. -/
def State.flag (s : State) (f : Fid) (i : Nat := 0) (j : Nat := 0) : State := s.setF f i j 1

/-- Appends to what leaves the module. -/
def State.emit (s : State) (o : Out) : State := { s with out := s.out ++ [o] }

/-- A site link. -/
def State.link (s : State) (n : Nat) : SLink := NTbl.at {} s.links n

/-- Sets a site link. -/
def State.setLink (s : State) (n : Nat) (v : SLink) : State := { s with links := NTbl.put {} s.links n v }

/-- SITEn_REFCLK starts or stops (09 R367; 14 R521): pin 16 + n. -/
def State.setRefclk (s : State) (n : Nat) (b : Bool) : State :=
  if (s.link n).refclk = b then s
  else (s.setLink n { s.link n with refclk := b, clkAt := if b then s.now else (s.link n).clkAt }).emit (.pin (16 + n) (if b then 1 else 0))

/-- Virtual channel of a message from the hub (09 R337): 0 REQ, 1 RSP, 2 SNP. -/
def vcOf (code : Nat) : Nat := if code = 0x80 ∨ code = 0x81 then 1 else if (0x30 ≤ code ∧ code ≤ 0x32) ∨ code = 0x40 then 2 else 0

/-- Units of a message: its header and its data. -/
def SiteMsg.units (m : SiteMsg) : Nat := 1 + m.data.length / 64

/-- Flits of a message: each message starts a flit of its own (log 22). -/
def SiteMsg.flits (m : SiteMsg) : Nat := (m.units + 3) / 4

/-- The header unit of a message (07 R260; 09 R336): PLOT and the routing fields are zero. -/
def SiteMsg.header (m : SiteMsg) : Nat :=
  m.urg % 16 + m.cls % 8 * 2 ^ 4 + b2n m.rsp * 2 ^ 7 + m.cmd % 256 * 2 ^ 8 + m.id % 1024 * 2 ^ 16
    + (m.units - 1) % 16 * 2 ^ 30 + m.len % 1024 * 2 ^ 34 + m.tag % 4096 * 2 ^ 48 + m.status % 16 * 2 ^ 60
    + m.addr % 2 ^ 52 * 2 ^ 64 + m.poison % 256 * 2 ^ 116 + m.info * 2 ^ 192

/-- One bit of CRC-64 with the ECMA-182 polynomial (09 R335; its initial value 0, the bit order and no final inversion: log
98). -/
def crc64Bit (c : Nat) : Nat := if 2 ^ 63 ≤ c then c * 2 % 2 ^ 64 ^^^ 0x42F0E1EBA9EA3693 else c * 2

/-- CRC-64 of a byte string. -/
def crc64 (b : Bytes) : Nat :=
  b.foldl (fun c x => (List.range 8).foldl (fun c _ => crc64Bit c) (c ^^^ x.toNat * 2 ^ 56)) 0

/-- The 272 bytes of a Bludric flit (09 R335). -/
def flitBytes (seq ack map flags cr : Nat) (slots : Bytes) : Bytes :=
  let b := leBytes 2 seq ++ leBytes 2 ack ++ leBytes 1 map ++ leBytes 1 flags ++ leBytes 2 cr ++ slice slots 0 256
  b ++ leBytes 8 (crc64 b)

/-- SLOT_MAP of the flit at a place of a message: slot 0 of its first flit is the header, the others hold data units. -/
def SiteMsg.slotMap (m : SiteMsg) (i : Nat) : Nat :=
  ((List.range 4).map (fun j => (if 4 * i + j = 0 then 1 else if 4 * i + j < m.units then 2 else 0) * 4 ^ j)).sum

/-- A message as a message of CXL (08 R323; 09 R343, R346): of CXL.io where its requester is a function, else of CXL.mem in
role M or of CXL.cache in role C. The adapter's own messages have codes that no packet has: 0x60 and 0x61. -/
def SiteMsg.cxl (m : SiteMsg) (roleM : Bool) : CxlHub :=
  let grant := m.info % 4
  if m.cmd = 0x60 then .biConflictAck
  else if m.cmd = 0x61 then .goWritePull
  else if m.cmd = 0x01 then .ioRead
  else if m.cmd = 0x02 then .ioWrite
  else if m.cmd = 0x30 then if roleM then .biSnpInv else .snpInv
  else if m.cmd = 0x31 then if roleM then .biSnpData else .snpData
  else if m.cmd = 0x32 then if roleM then .biSnpCur else .snpCur
  else if m.id % 64 < 0x10 then .ioCpl (if m.status ≤ 1 then 0 else if m.status = 3 then 1 else 2)
  else if m.cmd = 0x80 then
    if roleM then .memData (if grant = 1 then 3 else if grant = 2 then 2 else 0)
    else if grant = 1 then .goS else if grant = 2 then .goE else .cacheData
  else if roleM then if grant = 2 then .cmpE else if grant = 1 then .cmpS else .cmp
  else if grant = 2 then .goE else .goI

/-- Lanes of a WIDTH code of a module (09 R374): 0 out, 1 and 2 the halves, 3 x64. -/
def widthLanes (w : Nat) : Nat := if w = 3 then 64 else if w = 0 then 0 else 32

/-- Width of a site's module in the rotation. -/
def State.umWidth (s : State) (n k : Nat) : Nat := s.f .SITE_UM_STATUS_WIDTH n k

/-- A site's rotation (09 R332): its modules in rising order, two slots at x64 and one at x32. -/
def State.linkSlots (s : State) (n : Nat) : List Nat :=
  (List.range 6).flatMap (fun k => List.replicate (widthLanes (s.umWidth n k) / 32) k)

/-- Deals one flit to the next module of a rotation. -/
def State.deal (s : State) (n : Nat) (mods : List Nat) (b : FlitBody) : Nat × State :=
  let l := s.link n
  let k := mods.getD (l.dealt % max mods.length 1) 0
  (k, (s.setLink n { l with dealt := (l.dealt + 1) % max mods.length 1 }).emit (.flit n k b))

/-- A new flit leaves, with the next sequence number and the last one received in order; it stays in the replay buffer until
it is acknowledged (09 R333). -/
def State.flitOut (s : State) (n : Nat) (body : Nat → Nat → FlitBody) : State :=
  let l := s.link n
  let b := body l.txSeq ((l.rxNext + 65535) % 65536)
  let (k, s1) := s.deal n (s.linkSlots n) b
  let l1 := s1.link n
  s1.setLink n { l1 with txSeq := (l1.txSeq + 1) % 65536, sent := l1.sent ++ [(k, b)], oweAck := false }

/-- A message is placed in flits; the site adapter marks a grant for its GRANT_ACK (08 R324; 09 R340). -/
def State.place (s : State) (n : Nat) (m : SiteMsg) : State :=
  let act := s.f .SITE_STATUS_PROFILE_ACT n
  let s1 := if act = 3 then
      let l := s.link n
      let units := leBytes 64 m.header ++ m.data
      (List.range m.flits).foldl (fun s i =>
          s.flitOut n (fun q a => .bludric (flitBytes q a (m.slotMap i) 0 0 (units.drop (256 * i)))))
        (s.setLink n { l with credits := l.credits.set (vcOf m.cmd) (l.credits.getD (vcOf m.cmd) 0 - m.units) })
    else s.flitOut n (fun q a => .cxl q a false (some (m.cxl (act == 2), m)))
  match m.grant with
  | some line => s1.setLink n { s1.link n with acks := (s1.link n).acks ++ [line] }
  | none => s1

/-- Whether the link can take a message now: credits of a Bludric link, and the replay buffer of 1,024 flits (09 R333,
R337, R338). -/
def State.linkTakes (s : State) (n : Nat) (m : SiteMsg) : Bool :=
  let l := s.link n
  let b := decide (s.f .SITE_STATUS_PROFILE_ACT n = 3)
  (!b || decide (m.units ≤ l.credits.getD (vcOf m.cmd) 0))
    && decide (l.sent.length + (if b then m.flits else 1) ≤ 1024)

/-- ERR_SCRUB of 07 R262. -/
def stScrub : Nat := 7

/-- Whether a site's plot is being torn down. -/
def State.siteScrubs (s : State) (n : Nat) : Bool := s.sec.plots.any (fun e => bit e.2.sites n && e.2.teardown.isSome)

/-- A message with data while the plot of its site is being scrubbed: no data crosses the link (09 R349). The response says
ERR_SCRUB, which a read of CXL.cache or CXL.mem sees as zeros with poison (R346). -/
def SiteMsg.scrubbed (m : SiteMsg) (bludric : Bool) : SiteMsg :=
  if m.data = [] then m
  else if bludric ∨ m.id % 64 < 0x10 then { m with status := stScrub, data := [], poison := 0 }
  else { m with status := 1, data := List.replicate m.data.length 0, poison := 2 ^ (m.data.length / 64) - 1 }

/-- Sends a message to a site, after those of its channel that wait. -/
def State.siteSend (s : State) (n : Nat) (m0 : SiteMsg) : State :=
  let l := s.link n
  let m := if s.siteScrubs n then m0.scrubbed (decide (s.f .SITE_STATUS_PROFILE_ACT n = 3)) else m0
  if s.f .SITE_STATUS_LINK n < 5 then s
  else if !s.linkTakes n m ∨ l.held.any (fun h => vcOf h.cmd == vcOf m.cmd) then s.setLink n { l with held := l.held ++ [m] }
  else s.place n m

/-- A fresh free number below `n` (log 4). -/
def State.freeBelow (s : State) (n : Nat) : Nat × State :=
  (Config.free s.freeCtr % n, { s with freeCtr := s.freeCtr + 1 })

/-- Repeats an update over a list. -/
def overAll {α : Type} (l : List α) (g : α → State → State) (s : State) : State := l.foldl (fun s a => g a s) s

/-- Whether a RWL register, named by its control-space offset, is locked (00 R11). -/
def State.rwlLocked (s : State) (off : Nat) : Bool := NTbl.at false s.rwl off

/-- Locks a RWL register. -/
def State.rwlLock (s : State) (off : Nat) : State := { s with rwl := NTbl.put false s.rwl off true }

/-! ### Byte stores -/

/-- Bytes of a plain table. -/
def cellBytes (c : Cells) (a : Nat) : Nat → Bytes
  | 0 => []
  | n + 1 => NTbl.at 0 c a :: cellBytes c (a + 1) n

/-- Writes bytes of a plain table. -/
def putCells (c : Cells) (a : Nat) : Bytes → Cells
  | [] => c
  | b :: t => putCells (NTbl.put 0 c a b) (a + 1) t

/-! ### Headland status codes (12 R453) -/

def hOk : Nat := 0x00
def hBusy : Nat := 0x01
def hOwned : Nat := 0x02
def hDenied : Nat := 0x03
def hBadAuth : Nat := 0x04
def hBadOpcode : Nat := 0x05
def hBadArg : Nat := 0x06
def hNotReady : Nat := 0x07
def hScrubbing : Nat := 0x08
def hOvercommit : Nat := 0x09
def hAborted : Nat := 0x0A
def hTimeout : Nat := 0x0B

/-- The result of a register write's handler: the status a controller gets (an on-module master gets an error response
where it is not OK), and the state. -/
abbrev WRes := Nat × State

/-! ### Domains and time (01 R38, 16 R577) -/

/-- A clock domain. -/
def State.dom (s : State) (d : Nat) : Dom := NTbl.at {} s.doms d

/-- Sets a clock domain. -/
def State.setDom (s : State) (d : Nat) (v : Dom) : State := { s with doms := NTbl.put {} s.doms d v }

/-- Quadrant of a chiplet site (01 R22). -/
def siteQuadrant (n : Nat) : Nat := ((n + 1) / 2) % 4

/-- SITEQ domain of a chiplet site (01 R38). -/
def siteDom (n : Nat) : Nat := 17 + siteQuadrant n

/-- Sites of a SITEQ domain (01 R22, R38). -/
def domSites (d : Nat) : List Nat := (List.range 8).filter (fun n => siteDom n == d)

/-! ### Plots and ownership (13, 01 R51) -/

/-- A plot. -/
def State.plot (s : State) (p : Nat) : Plot := NTbl.at {} s.sec.plots p

/-- Sets a plot. -/
def State.setPlot (s : State) (p : Nat) (v : Plot) : State :=
  { s with sec := { s.sec with plots := NTbl.put {} s.sec.plots p v } }

/-- The plot that satisfies a test, lowest number first. -/
def State.findPlot (s : State) (t : Plot → Bool) : Option Nat :=
  (List.range 8).find? (fun p => (s.plot p).active && t (s.plot p))

/-- Owner of an engine. -/
def State.plotOfEngine (s : State) (e : Nat) : Option Nat := s.findPlot (fun p => bit p.engines e)

/-- Owner of a chiplet site. -/
def State.plotOfSite (s : State) (n : Nat) : Option Nat := s.findPlot (fun p => bit p.sites n)

/-- Owner of a queue pair. -/
def State.plotOfQp (s : State) (q : Nat) : Option Nat :=
  s.findPlot (fun p => decide (p.qpFirst ≤ q) && decide (q < p.qpFirst + p.qpCount))

/-- Owner of an ingest stream. -/
def State.plotOfStream (s : State) (k : Nat) : Option Nat :=
  s.findPlot (fun p => decide (p.ingFirst ≤ k) && decide (k < p.ingFirst + p.ingCount))

/-- Owner of a protection window (13 R501). -/
def State.plotOfWindow (s : State) (w : Nat) : Option Nat :=
  if w < 1024 ∧ (s.plot (w / 128)).active then some (w / 128) else none

/-- The plot-map entry of a plot address (01 R49). -/
def State.mapEnt (s : State) (p e : Nat) : Option PMapEnt := NTbl.at none (s.plot p).map e

/-- Whether a plot maps a granule (privately, or at all). -/
def Plot.maps (p : Plot) (g : Nat) (priv : Bool) : Bool :=
  p.map.any (fun e => match e.2 with
    | some m => decide (m.gran = g) && (!priv || !m.common)
    | none => false)

/-- The plots that map a granule, as a mask. -/
def State.granPlots (s : State) (g : Nat) : Nat :=
  maskOf ((List.range 8).filter (fun p => (s.plot p).active && (s.plot p).maps g false))

/-- The plot that maps a granule privately. -/
def State.granOwner (s : State) (g : Nat) : Option Nat := s.findPlot (fun p => p.maps g true)

/-- Mask of an optional plot. -/
def plotMask : Option Nat → Nat
  | some p => 2 ^ p
  | none => 0

/-! ### Events (12 R467-R470) -/

/-- Scope of an event (12 R467). -/
inductive Scope where
  /-- The operator and the owner of the unit named. -/
  | owner
  /-- The operator. -/
  | op
  /-- The operator and the plots of a mask. -/
  | opPlots (m : Nat)
  /-- The plots of a mask. -/
  | plots (m : Nat)
  /-- A session. -/
  | sess (n : Nat)
  /-- The operator and a session. -/
  | opSess (n : Nat)
  deriving DecidableEq, Repr

/-- Range number of an event code (12 R467, 00). -/
def rangeOf (code : Nat) : Nat :=
  if code / 0x800 = 13 then 11 else code / 0x1000

/-- Clock domain an event's cycle count is taken from (12 R468; log 6). -/
def evDom (code ucls unit : Nat) : Nat :=
  match code / 0x1000 with
  | 1 => if ucls = 1 then unit else 16
  | 2 => if ucls = 2 then 8 + unit else if ucls = 3 then 8 + unit / 32 else 8
  | 3 => 16
  | 4 => 16
  | 5 => if ucls = 5 then siteDom unit else if ucls = 6 then siteDom (unit / 6) else 16
  | 6 => 21
  | 7 => 22
  | 8 => 23
  | 9 => 24
  | 10 => 22
  | _ => 24

/-- Owner of the unit an event names. -/
def State.unitOwner (s : State) (ucls unit : Nat) : Option Nat :=
  match ucls with
  | 1 => s.plotOfEngine unit
  | 5 => s.plotOfSite unit
  | 6 => s.plotOfSite (unit / 6)
  | 8 => s.plotOfQp unit
  | 9 => s.plotOfStream unit
  | 13 => if unit < 512 ∧ (s.plot (unit / 64)).active then some (unit / 64) else none
  | _ => none

/-- A session. -/
def State.sess (s : State) (n : Nat) : Session := NTbl.at {} s.hl.sessions n

/-- Sets a session. -/
def State.setSess (s : State) (n : Nat) (v : Session) : State :=
  { s with hl := { s.hl with sessions := NTbl.put {} s.hl.sessions n v } }

/-- Whether an event passes a subscription's filters (12 R467). -/
def Sub.passes (b : Sub) (e : Event) : Bool :=
  bit b.ranges (rangeOf e.code) && decide (b.minSev ≤ e.sev)
    && ((b.opScope && e.op) || decide (b.plots &&& e.plots ≠ 0))

/-- Whether a session receives an event (12 R467). -/
def Session.receives (x : Session) (n : Nat) (e : Event) : Bool :=
  x.isOpen && (decide (e.sess = some n) || match x.sub with
    | some b => b.passes e
    | none => false)

/-- Queues an event to one session; a session with 1,024 unsent events loses the newest (12 R469). -/
def State.deliver (e : Event) (s : State) (n : Nat) : State :=
  let x := s.sess n
  if x.receives n e then
    if x.unsent.length < 1024 then s.setSess n { x with unsent := x.unsent ++ [e] }
    else (s.setSess n { x with lost := min (x.lost + 1) 65535 }).flag .HL_ERR_STATUS_EVT_LOST
  else s

/-- Scope of an event as (operator, plots, session). -/
def State.scopeOf (s : State) (sc : Scope) (ucls unit : Nat) : Bool × Nat × Option Nat :=
  match sc with
  | .owner => (true, plotMask (s.unitOwner ucls unit), none)
  | .op => (true, 0, none)
  | .opPlots m => (true, m, none)
  | .plots m => (false, m, none)
  | .sess n => (false, 0, some n)
  | .opSess n => (true, 0, some n)

/-- First and later MODULE_FATAL errors (16 R570, R571). -/
def State.fatal (s : State) (code d cyc : Nat) : State :=
  let s1 := if s.f .TEL_FATAL_COUNT = 0 then
      ((s.setF .TEL_FATAL_CODE 0 0 code).setF .TEL_FATAL_DOMAIN 0 0 d).setF .TEL_FATAL_CYC_CYCLES 0 0 cyc
    else s
  let s2 := s1.count .TEL_FATAL_COUNT 0 0 16 1
  { s2 with aon := { s2.aon with alert := true } }

/-- Raises an event: MODULE_SEQ, the module log of the last 4,096, the sessions' queues, and for MODULE_FATAL the
record of 16 R571 and the board alert. PLOT is the plot that owns the unit named, else the one plot in the scope (log 6). -/
def State.raise (s : State) (code sev ucls unit : Nat) (detail : List Nat) (sc : Scope := .owner)
    (plot : Option Nat := none) : State :=
  let d := evDom code ucls unit
  let cyc := (s.dom d).cycles
  let (op, pl, se) := s.scopeOf sc ucls unit
  let seq := s.hl.moduleSeq + 1
  let e : Event :=
    { code := code, sev := sev, ucls := ucls, unit := unit, dom := d, seq := seq, cycles := cyc, detail := detail,
      op := op, plots := pl, sess := se, plot := (plot.or (s.unitOwner ucls unit)).or ((List.range 8).find? (fun p => pl == 2 ^ p)) }
  let log := s.hl.log ++ [e]
  let s1 := { s with hl := { s.hl with moduleSeq := seq, log := log.drop (log.length - 4096) } }
  let s2 := (List.range 16).foldl (State.deliver e) s1
  if sev = 4 then s2.fatal code d cyc else s2

/-- Severities (12 R468). -/
def sevNone : Nat := 0
def sevCorrected : Nat := 1
def sevDeferred : Nat := 2
def sevUnitFatal : Nat := 3
def sevModuleFatal : Nat := 4

/-! ### Rate limits: at most one report per interval, the rest counted -/

/-- A report limited to one in each `us` microseconds: whether to raise now, and reports withheld before. -/
def State.limit (s : State) (a b us : Nat) : Option Nat × State :=
  let l := PTbl.at {} s.mesh.limits a b
  let put (v : Limiter) : State := { s with mesh := { s.mesh with limits := PTbl.put {} s.mesh.limits a b v } }
  match l.since with
  | some t => if s.now < t + us then (none, put { l with withheld := l.withheld + 1 })
    else (some l.withheld, put { since := some s.now, withheld := 0 })
  | none => (some l.withheld, put { since := some s.now, withheld := 0 })

/-- Raises an event at most once in each `us` microseconds; the count withheld is its last detail. -/
def State.raiseLimited (s : State) (us code sev ucls unit : Nat) (detail : List Nat) (sc : Scope := .owner)
    (key : Nat := 0) : State :=
  match s.limit code (unit + 65536 * key) us with
  | (some w, s1) => s1.raise code sev ucls unit (detail ++ [w]) sc
  | (none, s1) => s1

/-! ### The wear record (14 R537, R538) -/

/-- Adds a wear entry, once per unit and detail; the record becomes stale. -/
def State.wearAdd (s : State) (kind cls unit detail : Nat) : State :=
  if s.boot.wear.any (fun w => decide (w.kind = kind ∧ w.cls = cls ∧ w.unit = unit ∧ w.detail = detail)) then s
  else if 2048 ≤ s.boot.wear.length then s.flag .GLB_REC_STATUS_WEAR_FULL
  else
    let w : Wear := { kind, cls, unit, detail, gen := s.f .GLB_REC_STATUS_GEN }
    ({ s with boot := { s.boot with wear := s.boot.wear ++ [w] } }).flag .GLB_REC_STATUS_STALE

/-! ### The unit map (01 R24-R36, R631) -/

/-- Class codes of 12 R468. -/
def UCls.code : UCls → Nat
  | .engine => 1 | .memSite => 2 | .channel => 3 | .plane => 4 | .site => 5 | .ucie => 6 | .ethLane => 7

/-- Units per class (01 R23). -/
def UCls.size : UCls → Nat
  | .engine => 8 | .memSite => 8 | .channel => 256 | .plane => 4 | .site => 8 | .ucie => 48 | .ethLane => 8

/-- State encodings of 01 R24. -/
def UState.code : UState → Nat
  | .present => 0 | .fallow => 1 | .failed => 2 | .retired => 3

/-- A unit. -/
def State.unit (s : State) (c : UCls) (n : Nat) : CUnit := PTbl.at {} s.units c.code n

/-- A unit-map entry (01 R33). -/
def State.umEntry (s : State) (c : UCls) (n : Nat) : Nat :=
  if s.umReady then
    let u := s.unit c n
    128 + 8 * b2n u.deg + (u.st.map UState.code).getD 0
  else 0

/-- Whether a unit is PRESENT. -/
def State.present (s : State) (c : UCls) (n : Nat) : Bool := decide ((s.unit c n).st = some .present)

/-- Transitions of 01 R26; R29 keeps RETIRED, R631 keeps FAILED; only engines and sites become FALLOW (R25). -/
def umAllowed (c : UCls) (old : Option UState) (new : UState) : Bool :=
  match old, new with
  | none, _ => true
  | some .present, .fallow => decide (c = .engine) || decide (c = .site)
  | some .fallow, .present => true
  | some .present, .failed => true
  | some .fallow, .failed => true
  | _, _ => false

/-- Puts a unit's entry and, once the map is published, counts and reports the change (01 R31, R34, R35). -/
def State.putUnit (s : State) (c : UCls) (n : Nat) (v : CUnit) : State :=
  let old := s.umEntry c n
  let s1 := { s with units := PTbl.put {} s.units c.code n v }
  if s.umReady ∧ s.unit c n ≠ v then
    ({ s1 with umGen := s1.umGen + 1 }).raise 0x0010 sevNone c.code n [c.code, n, old, s1.umEntry c n]
  else s1

/-- Whether a unit's failure enters the wear record (14 R537). -/
def UCls.wears : UCls → Bool
  | .engine => true | .channel => true | .plane => true | .ethLane => true | .ucie => true
  | .memSite => false | .site => false

/-- Moves a unit to a state where 01 R26 allows it; DEGRADED reads 0 outside PRESENT. -/
def State.setUnit (s : State) (c : UCls) (n : Nat) (st : UState) : State :=
  let u := s.unit c n
  if umAllowed c u.st st then
    let s1 := s.putUnit c n { st := some st, deg := u.deg && decide (st = .present) }
    if st = .failed ∧ c.wears then s1.wearAdd 1 c.code n 0 else s1
  else s

/-- Sets a PRESENT unit's DEGRADED flag (01 R30). -/
def State.setDeg (s : State) (c : UCls) (n : Nat) (d : Bool) : State :=
  if s.present c n then s.putUnit c n { s.unit c n with deg := d } else s

/-! ### Stage and life cycle (12 R454, 13 R476) -/

/-- STAGE of HL_STATUS. -/
def State.stage (s : State) : Nat := s.f .HL_STATUS_STAGE

/-- Life-cycle states of 13 R476. -/
def lcTest : Nat := 0
def lcProvision : Nat := 1
def lcField : Nat := 2
def lcReturn : Nat := 3
def lcScrap : Nat := 4

/-- TEST or RETURN. -/
def State.lcAnalysis (s : State) : Bool := decide (s.sec.lcState = lcTest) || decide (s.sec.lcState = lcReturn)

end Sys2Proof.Machine
end

