-- ==== Sys2Proof/Machine/QosCore.lean ====
section
/-! DEFINITION. Bandwidth regulation: capacities, classes, admission, scale factors (07 R256, R280-R292). -/

namespace Sys2Proof.Machine

/-- A memory site's state. -/
def State.msite (s : State) (n : Nat) : MSite := NTbl.at {} s.mem.sites n

/-- Sets a memory site's state. -/
def State.setMsite (s : State) (n : Nat) (v : MSite) : State :=
  { s with mem := { s.mem with sites := NTbl.put {} s.mem.sites n v } }

/-- A port's regulator. -/
def State.qport (s : State) (p : Nat) : QPort := NTbl.at {} s.mesh.ports p

/-- Sets a port's regulator. -/
def State.setQport (s : State) (p : Nat) (v : QPort) : State :=
  { s with mesh := { s.mesh with ports := NTbl.put {} s.mesh.ports p v } }

/-- Reset base urgency of a class (07 R294). -/
def baseUrgReset (c : Nat) : Nat := [12, 8, 7, 6, 5, 4, 3, 2].getD c 0

/-- A class setting in force at a port. -/
def QPort.cls (q : QPort) (c : Nat) : QClass := Tbl.get (fun c => { baseUrg := baseUrgReset c }) q.classes c

/-- The planes that are up (07 R263, R278), those a router fault has stopped left out (07 R279). -/
def State.planesUp (s : State) : List Nat :=
  (List.range 4).filter (fun p => !bit s.mesh.stopped p && match (s.unit .plane p).st with
    | some .failed => false
    | some .retired => false
    | _ => true)

/-- The plane of a request to an address (07 R263): the (PA[13:6] mod N)-th that is up; 4 where none is. -/
def State.planeFor (s : State) (pa : Nat) : Nat :=
  let up := s.planesUp
  up.getD (bits pa 13 6 % max up.length 1) 4

/-- The port through which a master identity enters the mesh (01 R47, 07 R256). -/
def portOfId (id : Nat) : Option Nat :=
  if id < 0x04 ∨ (0x08 ≤ id ∧ id < 0x10) then some 25
  else if 0x20 ≤ id ∧ id < 0x40 then some ((id - 0x20) / 4)
  else if 0x40 ≤ id ∧ id < 0x48 then some (8 + (id - 0x40))
  else if id = 0x50 ∨ id = 0x51 ∨ id = 0x52 then some 24
  else if id = 0x60 then some 26
  else if id = 0x61 then some 27
  else if id = 0x70 then some 29
  else if 0x100 ≤ id ∧ id < 0x300 then some (16 + (id - 0x100) / 0x40)
  else none

/-- A port's current capacity in GB/s (07 R256, R278). -/
def State.portCap (s : State) (p : Nat) : Nat :=
  let up := s.planesUp.length
  if p < 8 then 2000 * up / 4
  else if p < 16 then 4000 * up / 4
  else if p < 24 then NTbl.at 0 s.mesh.siteCap (p - 16) * up / 4
  else if p = 24 then s.mesh.ethCap * up / 4
  else if p = 25 then 256 * up / 4
  else 64 * up / 4

/-- A port's staged settings, as a commit takes them (07 R283, R287). -/
def State.staged (s : State) (p : Nat) : QPort :=
  let ranges := ((List.range 16).filter (fun r => s.f .QOS_RANGE_BASE_ENABLE p r = 1)).map (fun r =>
    { base := s.f .QOS_RANGE_BASE_BASE p r, limit := s.f .QOS_RANGE_LIMIT_LIMIT p r,
      rcls := s.f .QOS_RANGE_LIMIT_RCLASS p r, wcls := s.f .QOS_RANGE_LIMIT_WCLASS p r : QRange })
  let classes := (List.range 8).map (fun c =>
    (c, { siteMask := s.f .QOS_CLASS_CFG_SITE_MASK p c, baseUrg := s.f .QOS_CLASS_CFG_BASE_URG p c,
          ceil := s.f .QOS_CLASS_CFG_CEIL_GBPS p c, guar := s.f .QOS_CLASS_CFG_GUAR_GBPS p c : QClass }))
  { ranges, classes,
    dflt := (s.f .QOS_DEFAULT_CLASS_RCLASS p, s.f .QOS_DEFAULT_CLASS_WCLASS p) }

/-- Sum of a port's guarantees. -/
def QPort.guarSum (q : QPort) : Nat := ((List.range 8).map (fun c => (q.cls c).guar)).sum

/-- 840 times the load a port's guarantees, or effective guarantees, put on memory site `m` (07 R286). -/
def QPort.load840 (q : QPort) (eff : Bool) (m : Nat) : Nat :=
  ((List.range 8).map (fun c =>
    let k := q.cls c
    if bit k.siteMask m then (if eff then k.eff else k.guar) * 840 / popCount 8 k.siteMask else 0)).sum

/-- 840 times the load of all ports on a memory site. -/
def load840 (qs : List QPort) (eff : Bool) (m : Nat) : Nat := (qs.map (fun q => q.load840 eff m)).sum

/-- SCALE of a capacity against 840 times a load (07 R288). -/
def scaleOf (cap load : Nat) : Nat :=
  if load = 0 then 65536 else min 65536 (65536 * 4 * cap * 840 / (5 * load))

/-- The regulators in force at the 30 ports. -/
def State.qports (s : State) : List QPort := (List.range 30).map s.qport

/-- Recomputes f(s) and f(p) for settings `qs` and the current capacities; each change raises GUAR_SCALED
(07 R288, R289). -/
def State.rescale (s : State) (qs : List QPort) : State :=
  let s1 := (List.range 8).foldl (fun s m =>
    let old := s.f .QOS_SITE_LOAD_SCALE m
    let new := scaleOf (s.msite m).cap (load840 qs false m)
    if old = new then s
    else (s.setF .QOS_SITE_LOAD_SCALE m 0 new).raise 0x3010 sevNone 2 m [0, m, old, new] .op) s
  (List.range 30).foldl (fun s p =>
    let old := s.f .QOS_PORT_STATUS_SCALE p
    let new := scaleOf (s.portCap p) (840 * (qs.getD p {}).guarSum)
    if old = new then s
    else (s.setF .QOS_PORT_STATUS_SCALE p 0 new).raise 0x3010 sevNone 0 p [1, p, old, new] .op) s1

/-- The factors f(s) as they stand (07 R288). -/
def State.siteScales (s : State) : List Nat := (List.range 8).map (fun m => s.f .QOS_SITE_LOAD_SCALE m)

/-- The factors f(p) as they stand (07 R288). -/
def State.portScales (s : State) : List Nat := (List.range 30).map (fun p => s.f .QOS_PORT_STATUS_SCALE p)

/-- A class's scale: the least factor that bears on it (07 R288). -/
def classScale (sites ports : List Nat) (p : Nat) (k : QClass) : Nat :=
  (maskList 8 k.siteMask).foldl (fun a m => min a (sites.getD m 65536)) (ports.getD p 65536)

/-- Puts the effective guarantees of a set of factors in force (07 R288). -/
def State.applyEff (s : State) (sites ports : List Nat) : State :=
  (List.range 30).foldl (fun s p =>
    let q := s.qport p
    let cl := (List.range 8).map (fun c =>
      let k := q.cls c
      (c, { k with eff := k.guar * classScale sites ports p k / 65536 }))
    if q.guarSum = 0 then s else s.setQport p { q with classes := cl }) s

/-- A capacity changed: new factors now, effective guarantees at the first window boundary at least 10 µs later
(07 R288, R289; log 9 counts window ends), each change with the factors it gave. -/
def State.capChanged (s : State) : State :=
  let s1 := s.rescale s.qports
  { s1 with mesh := { s1.mesh with pending := s1.mesh.pending ++ [{ windows := 11, commit := none, sites := s1.siteScales, ports := s1.portScales }] } }

/-- Class of a request by its physical address (07 R280). -/
def QPort.classify (q : QPort) (pa : Nat) (write : Bool) : Nat :=
  match q.ranges.find? (fun r => decide (r.base ≤ pa / 4096) && decide (pa / 4096 ≤ r.limit)) with
  | some r => if write then r.wcls else r.rcls
  | none => if write then q.dflt.2 else q.dflt.1

/-- Bytes a class has issued in the window. -/
def QPort.used (q : QPort) (c : Nat) : Nat := NTbl.at 0 q.issued c

/-- Whether a request fits its class's ceiling in this window (07 R281). -/
def QPort.fits (q : QPort) (c n : Nat) : Bool :=
  decide ((q.cls c).ceil = 0) || decide (q.used c + n ≤ (q.cls c).ceil * 1000)

/-- Whether a class is within its guarantee (07 R282). -/
def QPort.within (q : QPort) (c : Nat) : Bool := decide (q.used c < (q.cls c).eff * 1000)

/-- Urgency with which a request leaves its port (07 R268). -/
def State.urgency (s : State) (q : QPort) (c : Nat) : Nat :=
  if q.within c then max (q.cls c).baseUrg (s.f .MESH_CFG_GUAR_URG) else (q.cls c).baseUrg

/-- A Sheaf context ends its run: IDLE, no run, PHASE 3 (11 R430, R437, R440). -/
def State.sheafIdle (s : State) (x : Nat) : State :=
  let c := NTbl.at {} s.sheaf x
  let s1 := { s with sheaf := NTbl.put {} s.sheaf x { c with run := none } }
  let s2 := (s1.setF .SHEAF_CTX_STATUS_STATE x 0 0).setF .SHEAF_CTX_STATUS_PHASE x 0 3
  s2.setF .SHEAF_STATUS_ACTIVE 0 0 (setBit (s2.f .SHEAF_STATUS_ACTIVE) x false)

/-- Runs end without a record and without an ABORT (11 R437). -/
def State.sheafStop (s : State) : State :=
  (List.range 16).foldl (fun s x => if s.f .SHEAF_CTX_STATUS_STATE x = 0 then s else s.sheafIdle x) s

end Sys2Proof.Machine
end

