-- ==== Sys2Proof/Machine/MemCore.lean ====
section
/-! DEFINITION. The stacks behind the memory sites: where an address lives, ECC and poison, twins, channel failure,
reads and writes of lines (05, 06 R247-R252). A line is the 64-byte line number PA / 64. -/

namespace Sys2Proof.Machine

/-- Bytes of stacked memory (01 R40). -/
def memSize : Nat := 2 ^ 39

/-- Exclusive or of a number's 3-bit groups from bit `lo`, `n` of them. -/
def xor3 (v lo : Nat) : Nat → Nat
  | 0 => 0
  | n + 1 => (bits v (lo + 2) lo) ^^^ xor3 v (lo + 3) n

/-- Whether an address lies in a site-local granule group (05 R190). -/
def State.siteLocal (s : State) (pa : Nat) : Bool := bit (s.f .MEM_GROUP_EFFECTIVE_LOCAL) (bits pa 38 33)

/-- Home memory site of a physical address (05 R187, R188). -/
def State.home (s : State) (pa : Nat) : Nat :=
  if s.siteLocal pa then bits pa 32 30 else xor3 pa 12 9

/-- Site-local address (05 R187, R188). -/
def State.sla (s : State) (pa : Nat) : Nat :=
  if s.siteLocal pa then bits pa 38 33 * 2 ^ 30 + bits pa 29 0 else bits pa 38 15 * 2 ^ 12 + bits pa 11 0

/-- Channel within the site of a site-local address (05 R189). -/
def slaChan (a : Nat) : Nat :=
  16 * (bits a 12 12 ^^^ bits a 17 17 ^^^ bits a 22 22 ^^^ bits a 27 27 ^^^ bits a 32 32)
    + (bits a 11 8 ^^^ bits a 16 13)

/-- Channel-local address (05 R189). -/
def slaCla (a : Nat) : Nat := bits a 35 13 * 256 + bits a 7 0

/-- The channel CH(32s + c) that 05 R189 gives a physical address. -/
def State.chanOf (s : State) (pa : Nat) : Nat := 32 * s.home pa + slaChan (s.sla pa)

/-- A channel. -/
def State.chan (s : State) (c : Nat) : Chan := NTbl.at {} s.mem.chans c

/-- Sets a channel. -/
def State.setChan (s : State) (c : Nat) (v : Chan) : State :=
  { s with mem := { s.mem with chans := NTbl.put {} s.mem.chans c v } }

/-- Whether a channel is mapped out (05 R211). -/
def State.out? (s : State) (c : Nat) : Bool := s.mem.mapped.contains c

/-- Mapped-out 256-byte blocks below address `pa` within its granule: in a hashed granule each 64 KiB holds every
channel once; in a site-local one each 8 KiB holds every channel of its site once (05 R187-R189). -/
def State.outBelowInGranule (s : State) (pa : Nat) : Nat :=
  let run := if s.siteLocal pa then 0x2000 else 0x10000
  let start := pa / run * run
  let perRun := if s.siteLocal pa then (s.mem.mapped.filter (fun c => c / 32 == bits pa 32 30)).length
    else s.mem.mapped.length
  bits pa 29 0 / run * perRun
    + ((List.range (pa % run / 256)).filter (fun b => s.out? (s.chanOf (start + 256 * b)))).length

/-- Mapped-out blocks of a whole granule. -/
def State.outInGranule (s : State) (g : Nat) : Nat :=
  if s.siteLocal (g * 2 ^ 30) then
    2 ^ 17 * (s.mem.mapped.filter (fun c => c / 32 == g % 8)).length
  else 2 ^ 14 * s.mem.mapped.length

/-- First granule of the relocation region (05 R211). -/
def State.relocBase (s : State) : Nat := 512 - 2 * s.mem.relocR

/-- Storage block S[i] of the relocation region (05 R211): every region granule is hashed (05 R190). -/
def State.relocBlock (s : State) (i : Nat) : Nat :=
  let per := 256 - s.mem.relocR
  let start := s.relocBase * 2 ^ 30 + i / per * 0x10000
  let free := (List.range 256).filter (fun b => !s.out? (s.chanOf (start + 256 * b)))
  start + 256 * free.getD (i % per) 0

/-- The address whose storage holds an address: its own, or that of the block it is relocated to (05 R211, R212). -/
def State.storePa (s : State) (pa : Nat) : Nat :=
  if s.out? (s.chanOf pa) && decide (pa / 2 ^ 30 < s.relocBase) then
    let i := ((List.range (pa / 2 ^ 30)).map s.outInGranule).sum + s.outBelowInGranule pa
    s.relocBlock i + pa % 256
  else pa

/-- The channel that stores an address. -/
def State.storeChan (s : State) (pa : Nat) : Nat := s.chanOf (s.storePa pa)

/-- Bank and row of the storage of a line, in its channel (05 R189; log 7). -/
def State.lineRow (s : State) (line : Nat) : Nat × Nat :=
  let (b, r) := Config.bankRow (slaCla (s.sla (s.storePa (line * 64))))
  (b % 64, r % 2 ^ 17)

/-! ### Channel commands (05 R193, R194) -/

/-- The scheduler of a channel. -/
def State.sched (s : State) (k : Nat) : Sched := NTbl.at {} s.mem.sched k

/-- Sets the scheduler of a channel. -/
def State.setSched (s : State) (k : Nat) (v : Sched) : State :=
  { s with mem := { s.mem with sched := NTbl.put {} s.mem.sched k v } }

/-- Writes that wait for a channel. -/
def Sched.writes (c : Sched) : Nat := c.queue.countP (fun x => x.kind == 1)

/-- A command joins its channel's queue; WR_HIGH writes start a drain (05 R194). A FAILED channel takes none (05 R210). -/
def State.chanPush (s : State) (line kind cls : Nat) (port : Nat := 31) (tag : Nat := 0) : State :=
  let k := s.storeChan (line * 64)
  if (s.chan k).failed then s
  else
    let c := s.sched k
    let c1 := { c with queue := c.queue ++ [({ kind, line, cls, since := s.now, port, tag } : ChCmd)] }
    s.setSched k { c1 with draining := c1.draining || decide (s.f .MEM_SCHED_CFG_WR_HIGH (k / 32) ≤ c1.writes) }

/-- Whether a command finds its row open. -/
def State.rowHit (s : State) (c : Sched) (x : ChCmd) : Bool :=
  let (b, r) := s.lineRow x.line
  NTbl.at none c.rows b == some r

/-- Row hits first, then oldest first. -/
def State.hitFirst (s : State) (c : Sched) (l : List ChCmd) : Option ChCmd := (l.find? (s.rowHit c)).or l.head?

/-- The command a channel chooses next (05 R193): a refresh is a row of its own, a bank under repair takes none (05 R203,
R204), and the commands of one line keep their order, a write-back of a read before the line's next one (05 R192). -/
def State.chanPick (s : State) (k : Nat) (c : Sched) : Option ChCmd :=
  let can := c.queue.filter (fun x => (s.chan k).repair.map Prod.fst != some (s.lineRow x.line).1
    && c.queue.find? (fun y => y.line == x.line) == some x)
  let of (t : ChCmd → Bool) : Option ChCmd := s.hitFirst c (can.filter t)
  (can.find? (fun x => x.kind != 2 && decide (s.f .MEM_SCHED_CFG_AGE_LIMIT_NS (k / 32) ≤ (s.now - x.since) * 1000))).or
    ((of (fun x => x.kind == 0 && x.cls == 0)).or ((if c.draining then of (fun x => x.kind == 1) else none).or
      ((of (fun x => x.kind == 0)).or (of (fun x => x.kind == 2)))))

/-- A channel carries out a command: its row is open from then on, and WR_LOW writes left end a drain (05 R194). -/
def State.chanStep (s : State) (k : Nat) (c : Sched) (x : ChCmd) : Sched :=
  let (b, r) := s.lineRow x.line
  let c1 := { c with queue := c.queue.erase x, rows := NTbl.put none c.rows b (some r) }
  { c1 with draining := c1.draining && decide (s.f .MEM_SCHED_CFG_WR_LOW (k / 32) < c1.writes) }

/-- A channel carries out commands in its order until `stop` holds or it has none to choose. -/
def State.chanRun (s : State) (k : Nat) (stop : Sched → Bool) : Nat → Sched → Sched
  | 0, c => c
  | n + 1, c => if stop c then c else match s.chanPick k c with
    | some x => s.chanRun k stop n (s.chanStep k c x)
    | none => c

/-- A channel carries out what waits for it until `stop` holds. -/
def State.chanUntil (s : State) (k : Nat) (stop : Sched → Bool) : State :=
  s.setSched k (s.chanRun k stop (s.sched k).queue.length (s.sched k))

/-- Every channel carries out what waits for it until `stop` holds. -/
def State.chansUntil (s : State) (stop : Sched → Bool) : State :=
  { s with mem := { s.mem with sched := s.mem.sched.foldl (fun t e =>
    NTbl.put {} t e.1 (s.chanRun e.1 stop e.2.queue.length e.2)) s.mem.sched } }

/-- A stack access of a line: its command joins the queue, and where no mesh request is left to wait for it, the channel
carries it out in its turn. -/
def State.chanServe (s : State) (line kind cls port tag : Nat) : State :=
  let x : ChCmd := { kind, line, cls, since := s.now, port, tag }
  let s1 := s.chanPush line kind cls port tag
  if port = 31 ∧ kind ≠ 1 then s1.chanUntil (s.storeChan (line * 64)) (fun c => !c.queue.contains x) else s1

/-- The channels carry out every command of a mesh request. -/
def State.chanFor (s : State) (port tag : Nat) : State :=
  s.chansUntil (fun c => !c.queue.any (fun x => x.port == port && x.tag == tag))

/-- Whether a line's bank is under repair (05 R203). -/
def State.bankRepair (s : State) (line : Nat) : Bool :=
  match (s.chan (s.storeChan (line * 64))).repair with
  | some b => decide ((s.lineRow line).1 = b.1)
  | none => false

/-- Whether a line's bank is under repair and the LLC does not hold the line (05 R204). -/
def State.bankBlocked (s : State) (line : Nat) : Bool := s.bankRepair line && (NTbl.at none s.mem.llc line).isNone

/-- Whether a line's storage is on a FAILED channel (05 R209). -/
def State.lineLost (s : State) (line : Nat) : Bool := (s.chan (s.storeChan (line * 64))).failed

/-- Whether a line is poisoned (05 R198, R209). -/
def State.poisoned (s : State) (line : Nat) : Bool := NTbl.at false s.mem.poison line || s.lineLost line

/-- Granule of a line. -/
def lineGran (line : Nat) : Nat := line / 2 ^ 24

/-- Instance of the key in force for a granule (05 R215, R216). -/
def State.ginst (s : State) (g : Nat) : Nat := NTbl.at 1 s.mem.ginst g

/-- Instance of the key a line was written under. -/
def State.lineTag (s : State) (line : Nat) : Nat :=
  (NTbl.at none s.mem.tag line).getD ((NTbl.at none s.mem.base (lineGran line)).getD (b2n s.mem.inited))

/-! ### What the stack holds of a line (05 R184, R196, R214) -/

/-- The tweak of a line: its physical byte address as a 128-bit little-endian integer (05 R214). -/
def xtsTweak (line : Nat) : Bytes := leBytes 16 (line * 64)

/-- Bytes of a line as they were before encryption. -/
def State.plainLine (s : State) (line : Nat) : Bytes := (List.range 64).map (fun i => NTbl.at 0 s.mem.cells (line * 64 + i))

/-- The ciphertext a line is stored as, under the key it was last written under. -/
def State.cipherLine (s : State) (line : Nat) : Bytes :=
  Config.xtsEncrypt (Config.memKey (s.lineTag line)) (xtsTweak line) (s.plainLine line)

/-- The pin that carries bit `i` of byte `b` of a line, and the beat it travels in (05 R184). -/
def pinOf (b i : Nat) : Nat × Nat := (8 * (b % 8) + i, b / 8)

/-- Symbol `p` of a line of 64 bytes: what pin `p` carries, beat `k` as bit `k` (05 R196). -/
def lineSymbol (b : Bytes) (p : Nat) : Byte :=
  BitVec.ofNat 8 ((List.range 8).map (fun k => bits (leAt b (8 * k + p / 8) 1) (p % 8) (p % 8) * 2 ^ k)).sum

/-- The codeword of a stored line: 64 data symbols and 8 check symbols, over its ciphertext (05 R196); a poisoned line is stored
in the poison coset (05 R198). -/
def State.codeword (s : State) (line : Nat) : Bytes :=
  let d := (List.range 64).map (lineSymbol (s.cipherLine line))
  let w := d ++ slice (Config.rsCheck d) 0 8
  if NTbl.at false s.mem.poison line then List.zipWith (fun x y => x ^^^ y) w (slice Config.poisonCoset 0 72) else w

/-- What pin `p` carries in beat `k` of the burst that moves a line (05 R184). -/
def State.burstBit (s : State) (line p k : Nat) : Bool := bit (leAt (s.codeword line) p 1) k

/-- A byte as the home reads it: plaintext, or, where the line was written under another key than the one in force, what
decryption under that key gives (05 R214, R217; 13 R502). -/
def State.memByte (s : State) (pa : Nat) : Byte :=
  let line := pa / 64
  let k := s.ginst (lineGran line)
  if s.lineTag line = k then NTbl.at 0 s.mem.cells pa
  else BitVec.ofNat 8 (leAt (Config.xtsDecrypt (Config.memKey k) (xtsTweak line) (s.cipherLine line)) (pa % 64) 1)

/-- `n` bytes of memory from an address. -/
def State.memBytes (s : State) (pa : Nat) : Nat → Bytes
  | 0 => []
  | n + 1 => s.memByte pa :: s.memBytes (pa + 1) n

/-- Writes one byte of the plaintext view. -/
def Mem.putByte (m : Mem) (pa : Nat) (b : Byte) : Mem := { m with cells := NTbl.put 0 m.cells pa b }

/-- Writes bytes of the plaintext view. -/
def Mem.putBytes (m : Mem) (pa : Nat) : Bytes → Mem
  | [] => m
  | b :: t => (m.putByte pa b).putBytes (pa + 1) t

/-- Marks a line poisoned, or not. -/
def State.setPoison (s : State) (line : Nat) (p : Bool) : State :=
  { s with mem := { s.mem with poison := NTbl.put false s.mem.poison line p } }

/-- Brings a stale line under the key in force, keeping what it reads as. -/
def State.freshen (s : State) (line : Nat) : State :=
  let k := s.ginst (lineGran line)
  if s.lineTag line = k then s
  else
    let b := s.memBytes (line * 64) 64
    let m := s.mem.putBytes (line * 64) b
    { s with mem := { m with tag := NTbl.put none m.tag line (some k) } }

/-- Stores bytes inside one line whose storage is not lost. -/
def State.storeIn (s : State) (pa : Nat) (b : Bytes) : State :=
  let line := pa / 64
  let s1 := if b.length = 64 then
      { s with mem := { s.mem with tag := NTbl.put none s.mem.tag line (some (s.ginst (lineGran line))) } }
    else s.freshen line
  { s1 with mem := s1.mem.putBytes pa b }

/-! ### Reports of the memory sites -/

/-- A plot-map or operator scope of a line: the operator and every plot that maps its granule (05 R200). -/
def State.lineScope (s : State) (line : Nat) : Scope := .opPlots (s.granPlots (lineGran line))

/-- Detecting sources of MEM_UNCORR (05 R200). -/
def srcDemand : Nat := 0
def srcMerge : Nat := 1
def srcPatrol : Nat := 2
def srcRepair : Nat := 3
def srcChannel : Nat := 4

/-- Raises MEM_UNCORR of a channel, with the detections withheld since the last one (05 R200). -/
def State.uncorrRaise (s : State) (n line chan src : Nat) (sc : Scope) : State :=
  let m := s.msite n
  (s.setMsite n { m with uncorrOpen := true, suppressed := 0 }).raise 0x2010 sevDeferred 2 n
    [line * 64, chan, src, m.suppressed] sc

/-- Reports a detection, at most once per interval of the site (05 R200). -/
def State.uncorrEvent (s : State) (n line src : Nat) (sc : Scope) : State :=
  let m := s.msite n
  if m.uncorrOpen then s.setMsite n { m with suppressed := m.suppressed + 1 }
  else s.uncorrRaise n line (s.storeChan (line * 64)) src sc

/-- Counts and reports an uncorrectable detection (05 R199, R200). -/
def State.uncorr (s : State) (line src : Nat) : State :=
  let n := s.home (line * 64)
  let s1 := (s.count .MEM_UNCORR_COUNT_COUNT n 0 32 1).flag .MEM_ERR_STATUS_UNCORR n
  let s2 := (s1.setF .MEM_ERR_ADDR_LINE n 0 line).setF .MEM_ERR_ADDR_CHAN n 0 (s.storeChan (line * 64) % 32)
  s2.uncorrEvent n line src (s.lineScope line)

/-! ### Capacity and channel failure -/

/-- Channels of a memory site that are PRESENT. -/
def State.chansPresent (s : State) (n : Nat) : Nat :=
  ((List.range 32).filter (fun c => s.present .channel (32 * n + c))).length

/-- MEM_CAP of a memory site (05 R222). -/
def State.capOf (s : State) (n : Nat) : Nat :=
  let m := s.msite n
  s.chansPresent n * 1024 * (if m.refresh2x then 92 else 96) * (if m.halfIssue then 5 else 10) / 10000

/-- Brings MEM_CAP up to date and reports a change (05 R222), which rescales guarantees (07 R288). -/
def State.updateCap (s : State) (n : Nat) : State :=
  let m := s.msite n
  let c := s.capOf n
  if m.cap = c then s
  else ((s.setMsite n { m with cap := c }).raise 0x2030 sevNone 2 n [m.cap, c]).capChanged

/-- Brings a memory site's DEGRADED flag up to date (01 R30). -/
def State.degMem (s : State) (n : Nat) : State :=
  s.setDeg .memSite n ((List.range 32).any (fun c =>
    let u := (s.unit .channel (32 * n + c)).st
    decide (u = some .failed) || decide (u = some .retired)))

/-- Whether any line of granule `g` is stored on channel `c` (05 R187-R189, R211): by the hash, or as a relocated block. A
granule with displaced blocks has at least 2^14 of them, and any 256 in a row of the region's blocks lie on every channel
that is left. -/
def State.granOnChan (s : State) (g c : Nat) : Bool :=
  !s.out? c && (!s.siteLocal (g * 2 ^ 30) || c / 32 == g % 8
    || (decide (g < s.relocBase) && decide (0 < s.outInGranule g)))

/-- The lowest line stored on a channel, by which a channel's loss is reported (log 83). -/
def State.chanLine (s : State) (c : Nat) : Nat :=
  (((List.range 256).map (fun b => 256 * b) ++ (List.range 32).map (fun b => c / 32 * 2 ^ 30 + 256 * b)).find?
    (fun a => s.storeChan a == c)).getD 0 / 64

/-- Plots mapping a granule with lines on a channel (05 R209). -/
def State.chanPlots (s : State) (c : Nat) : Nat :=
  maskOf ((List.range 8).filter (fun p => (s.plot p).active && (s.plot p).map.any (fun e => match e.2 with
    | some m => s.granOnChan m.gran c
    | none => false)))

/-- Reports the loss of a channel's lines (05 R209). -/
def State.chanLossRaise (s : State) (c : Nat) : State :=
  s.uncorrRaise (c / 32) (s.chanLine c) c srcChannel (.opPlots (s.chanPlots c))

/-- A read that waits for its channel when the channel fails: the line comes as poison (05 R210). -/
def Req.lost (r : Req) (line : Nat) : Req :=
  let k := line - r.pa % 2 ^ 48 / 64
  let lo := line * 64 - r.pa % 2 ^ 48
  let hi := line * 64 + 64 - r.pa % 2 ^ 48
  { r with rpoison := setBit r.rpoison k true, status := if r.status = 0 then 1 else r.status,
           rdata := r.rdata.zipIdx.map (fun x => if lo ≤ x.2 ∧ x.2 < hi then 0 else x.1) }

/-- The reads among the commands that a failing channel has not carried out complete as poison (05 R210); the lines are that
of the command and, for a twin's, its primary's. -/
def State.lostReads (s : State) (c : Nat) : State :=
  { s with mesh := { s.mesh with reqs := s.mesh.reqs.map (fun r =>
    (s.sched c).queue.foldl (fun (r : Req) x =>
      if x.kind = 0 ∧ x.port = r.port ∧ x.tag = r.tag ∧ r.ans ∧ r.status ≤ 1 then r.lost x.line else r) r) } }

/-- A channel fails (05 R204, R208-R210): causes 0 third pin, 1 interface lost, 2 reported by the stack, 3 test. Its
requests complete, and a repair in progress is abandoned. One that is FAILED already reports the further fault alone
(01 R631). -/
def State.channelFail (s : State) (c cause : Nat) : State :=
  if (s.unit .channel c).st = some .failed then s.raise 0x2020 sevUnitFatal 3 c [cause]
  else
    let n := c / 32
    let s1 := ((s.lostReads c).setChan c { s.chan c with failed := true, repair := none }).setSched c
      { s.sched c with queue := [], draining := false }
    let s2 := (((s1.setUnit .channel c .failed).degMem n).flag .MEM_ERR_STATUS_CH_FAILED n).flag .MEM_ERR_STATUS_UNCORR n
    let s3 := (s2.raise 0x2020 sevUnitFatal 3 c [cause]).updateCap n
    let m := s3.msite n
    if m.uncorrOpen then s3.setMsite n { m with chanLossDue := m.chanLossDue ++ [c] } else s3.chanLossRaise c

/-! ### ECC (05 R196-R203) -/

/-- Random symbol errors corrected in an ordinary line (05 R197). -/
def ordReach (f : Nat) : Nat := if f = 0 then 4 else 3

/-- Random symbol errors with which poison is recognised (05 R197). -/
def poisReach (f : Nat) : Nat := if f ≤ 1 then 3 else 2

/-- Outcomes of a stack read (05 R199). -/
inductive EccOut where
  | good | corrected | poison | bad
  deriving DecidableEq, Repr

/-- Notes a corrected pin (05 R202): 64 corrections of one pin of one channel within 10 ms erase it; a third fails the
channel. -/
def State.notePin (s : State) (c pin : Nat) : State :=
  let t := ((PTbl.at [] s.mem.pinErr c pin) ++ [s.now]).filter (fun t => decide (s.now < t + 10000))
  if t.length < 64 then { s with mem := { s.mem with pinErr := PTbl.put [] s.mem.pinErr c pin t } }
  else
    let s1 := { s with mem := { s.mem with pinErr := PTbl.put [] s.mem.pinErr c pin [] } }
    let ch := s1.chan c
    if ch.erased.length < 2 then
      let s2 := (s1.setChan c { ch with erased := ch.erased ++ [pin] }).flag .MEM_ERR_STATUS_PIN_ERASED (c / 32)
      (s2.raise 0x2008 sevCorrected 3 c [c, pin]).wearAdd 2 3 c pin
    else s1.channelFail c 0

/-- Number of a row: its bank and row in one number (14 R536). -/
def rowKey (bank row : Nat) : Nat := bank * 2 ^ 17 + row

/-- The patrol period in force (05 R226): that of the pass under way, and between passes the one that the next begins with. -/
def State.patrolPeriod (s : State) (n : Nat) : Nat :=
  if (s.msite n).patrolPos = 0 then s.f .MEM_SCRUB_CFG_PERIOD_H n else (s.msite n).period

/-- Notes a corrected read of the row that stores a line (05 R203); the row's repair becomes due at the fourth within a patrol
period, the one in force (05 R226). -/
def State.noteRow (s : State) (c line : Nat) : State :=
  let k := rowKey (s.lineRow line).1 (s.lineRow line).2
  let period := s.patrolPeriod (c / 32) * 3600000000
  let t := ((PTbl.at [] s.mem.rowErr c k) ++ [s.now]).filter (fun t => decide (s.now < t + period))
  { s with mem := { s.mem with rowErr := PTbl.put [] s.mem.rowErr c k t } }

/-- Reads a stored line through ECC with wrong symbols on `pins` (05 R197-R199): outcome, with corrections counted. -/
def State.eccRead (s : State) (line : Nat) (pins : List Nat) : EccOut × State :=
  let c := s.storeChan (line * 64)
  let n := s.home (line * 64)
  let ch := s.chan c
  if ch.failed then (.poison, s)
  else
    let rand := (pins.eraseDups.filter (fun p => decide (p < 72) && !ch.erased.contains p))
    let f := ch.erased.length
    if NTbl.at false s.mem.poison line then
      if rand.length ≤ poisReach f then (.poison, s) else (.bad, s)
    else if rand.length ≤ ordReach f then
      if pins = [] then (.good, s)
      else
        let s1 := (s.count .MEM_CORR_COUNT_COUNT n 0 32 1).flag .MEM_ERR_STATUS_CORR n
        let s2 := if rand = [] then s1 else (s1.noteRow c line).chanPush line 1 4
        (.corrected, rand.foldl (fun s p => s.notePin c p) s2)
    else (.bad, s)

/-! ### LLC (16 R573, R574) -/

/-- MEM_SITE_FATAL (05 R185): the site's logic is lost, and with it every run of Sheaf (11 R437). -/
def State.memFatal (s : State) (n : Nat) : State :=
  ((s.setMsite n { s.msite n with fatal := true }).raise 0x2050 sevModuleFatal 2 n [n]).sheafStop

/-- Brings in a spare way of a slice, or ends with MEM_SITE_FATAL when none is left (05 R185, 16 R573, R574). -/
def State.spareWay (s : State) (n way : Nat) : State :=
  let used := NTbl.at 0 s.mem.waysSpared n
  if used < 2 then
    ({ s with mem := { s.mem with waysSpared := NTbl.put 0 s.mem.waysSpared n (used + 1),
                                  wayErr := PTbl.put [] s.mem.wayErr n way [] } }).raise 0x2048 sevCorrected 2 n [way]
  else s.memFatal n

/-- Notes errors found in an LLC word: 16 corrected within 10 ms, or one uncorrectable, replace the way. -/
def State.llcErr (s : State) (n : Nat) (e : LineErr) : State :=
  if e.llcBad then s.spareWay n e.llcWay
  else if e.llcCorr = 0 then s
  else
    let t := ((PTbl.at [] s.mem.wayErr n e.llcWay) ++ List.replicate e.llcCorr s.now).filter
      (fun t => decide (s.now < t + 10000))
    if 16 ≤ t.length then s.spareWay n e.llcWay
    else { s with mem := { s.mem with wayErr := PTbl.put [] s.mem.wayErr n e.llcWay t } }

/-- Drops a line from its LLC slice. -/
def State.llcDrop (s : State) (line : Nat) : State :=
  { s with mem := { s.mem with llc := NTbl.put none s.mem.llc line none } }

/-- Whether the LLC holds a line that must be written back. -/
def State.llcDirty (s : State) (line : Nat) : Bool :=
  match NTbl.at none s.mem.llc line with
  | some l => l.dirty
  | none => false

/-- A dirty line is written to its stack, in its turn, and stays valid (04 R150). -/
def State.llcClean (s : State) (line cls : Nat) : State :=
  if !s.llcDirty line then s
  else
    let x : ChCmd := { kind := 1, line, cls, since := s.now, port := 31, tag := 0 }
    let s1 := (s.chanPush line 1 cls).chanUntil (s.storeChan (line * 64)) (fun c => !c.queue.contains x)
    { s1 with mem := { s1.mem with llc := NTbl.put none s1.mem.llc line (some { dirty := false }) } }

/-- A line leaves its LLC slice, written back to its stack if it is dirty (06 R238). -/
def State.llcEvict (s : State) (line : Nat) : State :=
  (if s.llcDirty line then s.chanPush line 1 4 else s).llcDrop line

/-- The fewest LLC ways that the operator or a plot has in each slice: the ways of no plot are the operator's, 14 and 15 but
while they serve as the carve-out (13 R494, 16 R579). -/
def State.llcLeast (s : State) : Nat :=
  let plots := ((List.range 8).filter (fun p => (s.plot p).active)).map (fun p => popCount 14 (s.plot p).ways)
  plots.foldl min (14 - plots.sum + if s.f .TEL_CO_CTL_STATE = 0 then 2 else 0)

/-- A slice makes room for a line: which of the lines of its memory site leaves for it, if any, is free (log 8). None does while
the slice holds fewer lines than anyone has ways. -/
def State.llcRoom (s : State) (line : Nat) : State :=
  let own := (s.mem.llc.map Prod.fst).filter (fun l => s.home (l * 64) == s.home (line * 64))
  if own.length < s.llcLeast ∨ own = [] then s
  else
    let (k, s1) := s.freeBelow (own.length + 1)
    match own[k]? with
    | some v => s1.llcEvict v
    | none => s1

/-- Puts a line in its LLC slice, dirty or clean. -/
def State.llcPut (s : State) (line : Nat) (dirty : Bool) : State :=
  let s1 := if (NTbl.at none s.mem.llc line).isSome then s else s.llcRoom line
  { s1 with mem := { s1.mem with llc := NTbl.put none s1.mem.llc line (some { dirty := dirty || s.llcDirty line }) } }

/-- Whether a read meets the line in the LLC: it is held and no stack read is listed for it (log 8). -/
def State.llcHit (s : State) (line : Nat) (e : Option LineErr) : Bool :=
  (NTbl.at none s.mem.llc line).isSome && (match e with
    | some x => x.llcBad || decide (0 < x.llcCorr)
    | none => true)

/-! ### Twins (06 R247-R252) -/

/-- The twin granule of a common granule. -/
def State.twinOf (s : State) (g : Nat) : Option Nat := NTbl.at none s.sec.twins g

/-- The primary of a twin granule. -/
def State.primaryOf (s : State) (t : Nat) : Option Nat :=
  (s.sec.twins.find? (fun e => decide (e.2 = some t))).map Prod.fst

/-- The twin line of a primary line. -/
def State.twinLine (s : State) (line : Nat) : Option Nat :=
  (s.twinOf (lineGran line)).map (fun t => t * 2 ^ 24 + line % 2 ^ 24)

/-- Reports a line repaired from its other copy, at most once in each 100 µs of the site (06 R252). -/
def State.twinRepaired (s : State) (line copy : Nat) : State :=
  let n := s.home (line * 64)
  (s.count .MEM_TWIN_REPAIR_COUNT_COUNT n 0 32 1).raiseLimited 100 0x2078 sevCorrected 2 n [line * 64, copy]
    (s.lineScope line)

/-! ### Line reads -/

/-- The listed errors of a line. -/
def errOf (errs : List LineErr) (line : Nat) : Option LineErr := errs.find? (fun e => e.line == line)

/-- A line read fails in both or the only copy: it is written back as poison and reported (05 R199, 06 R250). -/
def State.poisonOut (s : State) (line src : Nat) : State := ((s.setPoison line true).chanPush line 1 4).uncorr line src

/-- Reads a primary line's twin (06 R250): rewrites the primary, or, where the twin is poisoned or uncorrectable, poisons and
reports it. -/
def State.twinRead (s : State) (errs : List LineErr) (line tl src : Nat) : Bool × State :=
  let pins := ((errOf errs tl).map (·.pins)).getD []
  let (o, s1) := s.eccRead tl pins
  match o with
  | .good | .corrected =>
    if s1.lineLost line then (false, s1.count .MEM_TWIN_SERVED_COUNT (s1.home (line * 64)) 0 32 1)
    else (false, ((s1.setPoison line false).storeIn (line * 64) (s1.memBytes (tl * 64) 64)).twinRepaired line 0)
  | .poison | .bad =>
    let s2 := if o = .bad then s1.setPoison tl true else s1
    (true, s2.poisonOut line src)

/-- Reads one line at its home (05 R199, 06 R250, 16 R574), for a mesh request or none (port 31): whether it is returned as
poison. -/
def State.readLine (s : State) (line : Nat) (errs : List LineErr) (src : Nat) (cls : Nat := 4) (port : Nat := 31)
    (tag : Nat := 0) : Bool × State :=
  let e := errOf errs line
  if s.llcHit line e then
    let x := e.getD { line := line }
    let s1 := s.llcErr (s.home (line * 64)) x
    if !x.llcBad ∧ !s1.poisoned line then (false, s1)
    else
      let s2 := if x.llcBad then s1.poisonOut line src else s1
      match s2.twinLine line with
      | some tl => s2.twinRead errs line tl src
      | none => (true, s2)
  else
    let (o, s1) := (s.chanServe line 0 cls port tag).eccRead line ((e.map (·.pins)).getD [])
    let s2 := s1.llcPut line false
    match o with
    | .good | .corrected => (false, s2)
    | .poison | .bad => match s2.twinLine line with
      | some tl => s2.twinRead errs line tl src
      | none => (true, if o = .bad then s2.poisonOut line src else s2)

/-- Where the bytes of a line are read from: the twin when the line's own storage is lost (06 R250). -/
def State.readPa (s : State) (pa : Nat) : Nat :=
  if s.lineLost (pa / 64) then ((s.twinLine (pa / 64)).map (fun tl => tl * 64 + pa % 64)).getD pa else pa

/-- Lines an access touches. -/
def linesOf (pa n : Nat) : List Nat :=
  if n = 0 then [] else List.range' (pa / 64) ((pa + n - 1) / 64 + 1 - pa / 64)

/-- Bytes of an access, each read where its line is served from; a poisoned line's bytes read as zero. -/
def State.fetchBytes (s : State) (bad : List Nat) (pa : Nat) : Nat → Bytes
  | 0 => []
  | n + 1 => (if bad.contains (pa / 64) then 0 else s.memByte (s.readPa pa)) :: s.fetchBytes bad (pa + 1) n

/-- Reads `n` bytes of stacked memory: data, and the lines returned as poison. `joined` lists lines whose read attached to a
combining entry, each with the outcome of the one stack access (06 R244). -/
def State.memRead (s : State) (pa n : Nat) (errs : List LineErr := []) (src : Nat := srcDemand) (cls : Nat := 4)
    (port : Nat := 31) (tag : Nat := 0) (joined : List (Nat × Bool) := []) : Bytes × List Nat × State :=
  let (bad, s1) := (linesOf pa n).foldl (fun (a : List Nat × State) l =>
    let (p, s') := match joined.find? (fun j => j.1 == l) with
      | some j => (j.2, a.2)
      | none => a.2.readLine l errs src cls port tag
    (if p then a.1 ++ [l] else a.1, s')) ([], s)
  (s1.fetchBytes bad pa n, bad, s1)

/-! ### Line writes (05 R201, R209, 06 R243, R249) -/

/-- A line's combining entry closes (06 R243). -/
def State.combClose (s : State) (line : Nat) : State :=
  match NTbl.at none s.mem.comb line with
  | some _ =>
    let n := s.home (line * 64)
    let m := s.msite n
    let s1 := { s with mem := { s.mem with comb := NTbl.put none s.mem.comb line none } }
    s1.setMsite n { m with combInUse := m.combInUse - 1 }
  | none => s

/-- Writes bytes inside one copy of a line (05 R201, R209): whole lines clear poison, parts merge after a read in the writer's
class. -/
def State.writeCopy (s : State) (pa : Nat) (b : Bytes) (pois : Bool) (errs : List LineErr) (src : Nat) (cls : Nat := 4) : State :=
  let line := pa / 64
  if s.lineLost line then s
  else if b.length = 64 then
    if pois then s.setPoison line true else (s.setPoison line false).storeIn pa b
  else if pois then s.setPoison line true
  else
    let (bad, s1) := s.readLine line errs src cls
    if bad then s1 else s1.storeIn pa b

/-- Writes bytes inside one line at its home, and to the twin copy (06 R249). -/
def State.writeLine (s : State) (pa : Nat) (b : Bytes) (pois : Bool) (errs : List LineErr := []) (cls : Nat := 4) : State :=
  let line := pa / 64
  let s1 := (s.combClose line).writeCopy pa b pois errs srcMerge cls
  let s2 := match s1.twinLine line with
    | some tl => s1.writeCopy (tl * 64 + pa % 64) b pois errs srcMerge cls
    | none => s1
  s2.llcPut line true

/-- Splits a write at line boundaries: (address, bytes) of each line touched, `n` bounds the lines. -/
def splitLines : Nat → Nat → Bytes → List (Nat × Bytes)
  | 0, _, _ => []
  | _, _, [] => []
  | n + 1, pa, b =>
    let k := 64 - pa % 64
    (pa, b.take k) :: splitLines n (pa + k) (b.drop k)

/-- Writes bytes of stacked memory; bit i of `pois` marks the i-th line touched as poisoned data. -/
def State.memWrite (s : State) (pa : Nat) (b : Bytes) (pois : Nat := 0) (errs : List LineErr := []) (cls : Nat := 4) : State :=
  ((splitLines (b.length / 64 + 2) pa b).zipIdx).foldl
    (fun s x => s.writeLine x.1.1 x.1.2 (bit pois x.2) errs cls) s

/-! ### Granules -/

/-- Removes a granule's entries from a table keyed by line. -/
def dropLines {α : Type} (t : NTbl α) (g : Nat) : NTbl α :=
  t.filter (fun e => decide (e.1 / 2 ^ 24 ≠ g))

/-- The combining entries of a granule's lines close, as at any write (06 R243, R246). -/
def State.combCloseGran (s : State) (g : Nat) : State :=
  ((s.mem.comb.map Prod.fst).filter (fun l => decide (lineGran l = g))).foldl State.combClose s

/-- Writes a granule as zeros under a key instance, clearing poison (05 R218, 13 R503, R508); lines on a FAILED channel
stay poisoned through the channel. -/
def State.zeroGran (s0 : State) (g inst : Nat) : State :=
  let s := s0.combCloseGran g
  let m := s.mem
  { s with mem := { m with
      cells := m.cells.filter (fun e => decide (e.1 / 2 ^ 30 ≠ g))
      poison := dropLines m.poison g
      tag := dropLines m.tag g
      base := NTbl.put none m.base g (some inst)
      llc := dropLines m.llc g } }

/-- Sets a granule's key index and the instance of that key (05 R216). -/
def State.setGkey (s : State) (g idx inst : Nat) : State :=
  { s with mem := { s.mem with gkey := NTbl.put 0 s.mem.gkey g idx, ginst := NTbl.put 1 s.mem.ginst g inst } }

/-- Key index of a granule. -/
def State.gkey (s : State) (g : Nat) : Nat := NTbl.at 0 s.mem.gkey g

/-- Whether a granule is available to plot maps (01 R44, 05 R213). -/
def State.granAvail (s : State) (g : Nat) : Bool :=
  decide (g < 512) && bit (s.f .GLB_GRAN_AVAIL_AVAIL (g / 64)) (g % 64)

end Sys2Proof.Machine
end

