-- ==== Sys2Proof/Machine/CohBase.lean ====
section
/-! DEFINITION. Address ranges (01 R40); the snoop filter (08 R305), what an access must wait for at its home, and read
combining (06). -/

namespace Sys2Proof.Machine

/-- What a physical address names (01 R40). -/
inductive Tgt where
  | mem (pa : Nat)
  | red (k pa : Nat)
  | site (n : Nat)
  | ctl (off : Nat)
  | unmapped
  deriving DecidableEq, Repr

/-- The range of an address (01 R40-R42). -/
def target (a : Nat) : Tgt :=
  let top := a / 2 ^ 48
  let low := a % 2 ^ 48
  if 2 ^ 52 ≤ a then .unmapped
  else if top = 0 then if low < memSize then .mem low else .unmapped
  else if top ≤ 4 then if low < memSize then .red top low else .unmapped
  else if top = 8 then if low < 2 ^ 47 then .site (low / 2 ^ 44) else .unmapped
  else if top = 15 then if low < 2 ^ 32 then .ctl low else .unmapped
  else .unmapped

/-- STATUS values of 07 R262. -/
def stOk : Nat := 0
def stPoison : Nat := 1
def stTarget : Nat := 2
def stUnmapped : Nat := 3
def stTimeout : Nat := 4
def stFenced : Nat := 5
def stPlane : Nat := 6

/-- Whether a memory site answers: its domain runs and no MEM_SITE_FATAL stopped it (05 R185). -/
def State.msAlive (s : State) (n : Nat) : Bool := (s.dom (8 + n)).running && !(s.msite n).fatal

/-- The filter entry of a line. -/
def State.sfEnt (s : State) (line : Nat) : Option SfEnt := NTbl.at none s.coh.sf line

/-- Sets or frees the filter entry of a line; an entry without holders is freed. -/
def State.setSf (s : State) (line : Nat) (v : Option SfEnt) : State :=
  let v1 := match v with
    | some e => if e.holders = 0 then none else some e
    | none => none
  { s with coh := { s.coh with sf := NTbl.put none s.coh.sf line v1 } }

/-- Sets CC's copy of a line. -/
def State.setCc (s : State) (line : Nat) (v : Option CcLine) : State :=
  { s with coh := { s.coh with cc := NTbl.put none s.coh.cc line v } }

/-- The line number whose home orders a line: that of the primary where the granule is a twin (08 R296). -/
def State.homeLine (s : State) (line : Nat) : Nat :=
  match s.primaryOf (lineGran line) with
  | some g => g * 2 ^ 24 + line % 2 ^ 24
  | none => line

/-- The memory site that orders a physical address (05 R187, R188; 06 R248; 08 R296). -/
def State.homePa (s : State) (pa : Nat) : Nat := s.home (s.homeLine (pa / 64) * 64)

/-- The open transaction of a line. -/
def State.htxn (s : State) (line : Nat) : Option HTxn := s.coh.txns.find? (fun t => t.line == line)

/-- Whether an earlier request of a line is open at its home or waits there (08 R310). -/
def State.lineBusy (s : State) (line : Nat) : Bool := (s.htxn line).isSome || s.coh.queue.any (fun r => r.line == line)

/-- Whether an access that caches nothing makes the home snoop first (08 R311). -/
def State.mustSnoop (s : State) (line : Nat) (write : Bool) : Bool :=
  match s.sfEnt line with
  | some e => write || e.owned
  | none => false

/-- Whether serving a line meets a bank under repair (05 R204): its own, or the twin copy's where that is written, or is read
for a primary that is known to be bad (06 R249, R250). -/
def State.repairHeld (s : State) (line : Nat) (write : Bool) : Bool :=
  s.bankBlocked line || match s.twinLine line with
    | some tl => s.bankBlocked tl && (write || s.poisoned line)
    | none => false

/-- Whether an access must wait at its home: behind earlier requests, on snoops, or on a repair of a bank (08 R310, R311;
05 R204). -/
def State.lineHeld (s : State) (line : Nat) (write : Bool) : Bool :=
  s.lineBusy line || s.mustSnoop line write || s.repairHeld line write

/-! ### Trackers (05 R191; 07 R266, R269) -/

/-- Whether a request is one of the mesh, or of a waiting command. -/
def HReq.mesh (r : HReq) : Bool := decide (r.cmd = 0x100 ∨ r.cmd = 0x101)

/-- Whether a request at a home holds a tracker of its own: an agent's, or that of a waiting command (a request of the mesh
holds one as long as it is outstanding). -/
def HReq.tracked (r : HReq) : Bool := decide (r.cmd < 0x100) || (r.mesh && decide (r.port = 64))

/-- Whether a request is a C0 read. -/
def HReq.c0 (r : HReq) : Bool := decide (r.cls = 0 ∧ r.cmd ≠ 0x15 ∧ r.cmd ≠ 0x101)

/-- Trackers of a memory site that agents' requests and waiting commands hold, of those a test picks. -/
def State.homeLoad (s : State) (n : Nat) (p : HReq → Bool) : Nat :=
  ((s.coh.txns.map HTxn.req ++ s.coh.queue).filter (fun r => r.tracked && p r && s.homePa (r.line * 64) == n)).length

/-- Whether a memory site has a tracker for a class and kind: C0 reads may use them all. -/
def State.trackerFree (s : State) (n : Nat) (c0 : Bool) : Bool :=
  let m := s.msite n
  decide (m.trackers + s.homeLoad n (fun _ => true) < 2048)
    && (c0 || decide (m.trackersNonC0 + s.homeLoad n (fun r => !r.c0) < 2048 - s.f .MEM_SCHED_CFG_C0_RESERVE n))

/-- Whether a request is a C0 read. -/
def Req.c0 (r : Req) : Bool := !r.write && decide (r.cls = 0)

/-- Whether a request of the mesh waits for a tracker of a memory site, and could have one. -/
def State.meshWaits (s : State) (n : Nat) (r : Req) : Bool :=
  decide (r.phase = .waitTracker) && !r.gone && r.home == some n && s.trackerFree n r.c0

/-- Whether a request of an agent or of a waiting command does. -/
def State.homeWaits (s : State) (n : Nat) (r : HReq) : Bool :=
  !r.gone && decide (r.plane < 4) && s.homePa (r.line * 64) == n && s.trackerFree n r.c0

/-- Whether a request that arrives finds a tracker: one is free for it, and none that waits could have one; else it waits with
them for a grant by urgency (07 R266, R269). -/
def State.trackerOpen (s : State) (n : Nat) (c0 : Bool) : Bool :=
  s.trackerFree n c0 && !s.mesh.reqs.any (s.meshWaits n) && !s.coh.waiting.any (s.homeWaits n)

/-- Takes or gives back a tracker. -/
def State.tracker (s : State) (n : Nat) (c0 take : Bool) : State :=
  let m := s.msite n
  let d (x : Nat) : Nat := if take then x + 1 else x - 1
  s.setMsite n { m with trackers := d m.trackers, trackersNonC0 := if c0 then m.trackersNonC0 else d m.trackersNonC0 }

/-- The mesh port of an agent (07 R256). -/
def agentPort (a : Nat) : Nat := if a < 8 then 16 + a else 25

/-- The port through which a request at a home came. -/
def HReq.inPort (r : HReq) : Nat := if r.mesh then r.mport else agentPort r.agent

/-- Agents' requests that await their responses, at their homes or on the way there: not those granted, nor those that have timed
out or been lost with a plane (07 R271, R278). -/
def State.cohOut (s : State) : List HReq :=
  ((s.coh.txns.filter (fun t => decide (t.phase ≠ .grant))).map HTxn.req ++ s.coh.queue ++ s.coh.waiting).filter
    (fun r => decide (r.cmd < 0x100) && !r.late)

/-- The lines of a range that the present command must still wait for: those it already has at their homes are its own
(log 21). -/
def State.mustWait (s : State) (pa n : Nat) (write c0 : Bool) : List Nat :=
  (linesOf pa n).filter (fun l => !s.coh.mine.contains l && (write || !s.coh.got.any (fun g => g.1 == l))
    && (s.lineHeld l write || !s.trackerOpen (s.homePa pa) c0))

/-- 64 free bytes: what a chiplet returns (log 21). -/
def freeLine (k : Nat) : Bytes := (List.range 64).map (fun i => BitVec.ofNat 8 (Config.free (k + i)))

/-- Sends a snoop: counted at the line's home and put on the ring, or on its link where the agent is a site (08 R298). -/
def State.sendSnoop (s : State) (code line txn targets : Nat) : State :=
  let s1 := s.count .COH_SNOOPS_COUNT (s.home (line * 64)) 0 64 1
  (maskList 9 targets).foldl (fun s a => s.emit (.snoop code a line txn none)) s1

/-- The address of a line as an agent knows it (09 R345). -/
def State.agentLine (s : State) (a line : Nat) : Nat :=
  let pa := line * 64
  match if a < 8 then s.plotOfSite a else none with
  | some p => match (s.plot p).map.find? (fun e => match e.2 with
      | some m => m.gran == pa / 2 ^ 30
      | none => false) with
    | some e => e.1 * 2 ^ 30 + pa % 2 ^ 30
    | none => pa
  | none => pa

/-- A read that cannot wait meets a line in O: SNP_CUR, to a site on its link with the address it knows the line by (09 R345),
whose answer is free: dirty data or none, the line kept or not (08 R311; log 21). -/
def State.recallRead (s : State) (line : Nat) : State :=
  match s.sfEnt line with
  | some e =>
    if !e.owned then s
    else
      let k := s.freeCtr
      let s0 := (maskList 8 e.holders).foldl (fun s a => s.siteSend a {
        cmd := 0x32, len := 64, addr := s.agentLine a line, info := s.home (line * 64) * 2 ^ 16 }) (s.sendSnoop 0x32 line 0 e.holders)
      let s1 := { s0 with freeCtr := k + 66 }
      let s2 := if Config.free k % 2 = 1 then s1.memWrite (line * 64) (freeLine (k + 2)) else s1
      if Config.free (k + 1) % 2 = 1 then s2 else (s2.setSf line none).setCc line none
  | none => s

/-! ### Read combining (06 R240-R245) -/

/-- The stack access of a line that has not been issued runs in a class at least as urgent (06 R245). -/
def State.promote (s : State) (line cls : Nat) : State :=
  let k := s.storeChan (line * 64)
  let c := s.sched k
  if c.queue.any (fun x => x.line == line && x.kind == 0 && decide (cls < x.cls)) then
    s.setSched k { c with queue := c.queue.map (fun x => if x.line = line ∧ x.kind = 0 then { x with cls := min x.cls cls } else x) }
  else s

/-- An eligible read looks for, or opens, a combining entry for its line: whether it attached (06 R241, R242). A line that
the filter shows held takes no part; WINDOW_NS 0 opens none and leaves open entries as they are (06 R253). -/
def State.combRead (s : State) (line cls : Nat) (errs : List LineErr) : Bool × State :=
  let n := s.homePa (line * 64)
  if (s.sfEnt line).isSome then (false, s)
  else match NTbl.at none s.mem.comb line with
    | some c =>
      let c1 : CombEnt := { c with attached := c.attached + 1, cls := min c.cls cls }
      (true, ({ s with mem := { s.mem with comb := NTbl.put none s.mem.comb line (some c1) } }.promote line c1.cls).count
        .MEM_COMB_ATTACHED_COUNT n 0 64 1)
    | none =>
      if s.llcHit line (errOf errs line) ∨ s.f .MEM_COMB_CFG_WINDOW_NS n = 0 then (false, s)
      else
        let m := s.msite n
        if 32768 ≤ m.combInUse then (false, s.count .MEM_COMB_FULL_COUNT n 0 32 1)
        else
          let s1 := { s with mem := { s.mem with
            comb := NTbl.put none s.mem.comb line (some { attached := 0, cls := cls }) } }
          (false, (s1.setMsite n { m with combInUse := m.combInUse + 1 }).count .MEM_COMB_OPENED_COUNT n 0 64 1)

/-- Combining over the lines of a read but those of `skip`, which were snooped: the lines that attached, each with the outcome of
the access it joined (06 R244). -/
def State.combLines (s : State) (pa n cls : Nat) (skip : List Nat) (errs : List LineErr) : List (Nat × Bool) × State :=
  ((linesOf pa n).filter (fun l => !skip.contains l)).foldl (fun (a : List (Nat × Bool) × State) l =>
    let old := NTbl.at none a.2.mem.comb l
    let (att, s1) := a.2.combRead l cls errs
    (if att then a.1 ++ [(l, (old.map CombEnt.bad).getD false)] else a.1, s1)) ([], s)

/-- The entries that a read has opened keep the outcome of its stack accesses. -/
def State.combDone (s : State) (pa n : Nat) (joined : List (Nat × Bool)) (bad : List Nat) : State :=
  ((linesOf pa n).filter (fun l => bad.contains l && !joined.any (fun j => j.1 == l))).foldl (fun s l =>
    match NTbl.at none s.mem.comb l with
    | some c => { s with mem := { s.mem with comb := NTbl.put none s.mem.comb l (some { c with bad := true }) } }
    | none => s) s

/-- An eligible read of memory at its home, combined (06 R240-R245): data, and the lines returned as poison. -/
def State.combMemRead (s : State) (pa n : Nat) (errs : List LineErr) (cls : Nat) (skip : List Nat) (port tag : Nat) :
    Bytes × List Nat × State :=
  let (joined, s1) := s.combLines pa n cls skip errs
  let (d, bad, s2) := s1.memRead pa n errs srcDemand cls port tag joined
  (d, bad, s2.combDone pa n joined bad)

end Sys2Proof.Machine
end

