-- ==== Sys2Proof/Machine/TelCore.lean ====
section
/-! DEFINITION. Telemetry that other blocks feed: the carve-out and its users, packet probes, coherence trace and Glean's
latencies (16 R579-R592); the debug-touch flag (13 R506); claims (12 R463). -/

namespace Sys2Proof.Machine

/-! ### The debug-touch flag (13 R506, R507) -/

/-- A debug access touches a plot. -/
def State.touch (s : State) (p addr : Nat) : State :=
  let x := s.plot p
  if !x.active ∨ x.touch then s
  else (s.setPlot p { x with touch := true }).raise 0x8010 sevNone 0 0 [p, addr] (.opPlots (2 ^ p)) (some p)

/-- A debug access touches every plot of a mask. -/
def State.touchAll (s : State) (mask addr : Nat) : State := (maskList 8 mask).foldl (fun s p => s.touch p addr) s

/-! ### The carve-out (16 R579-R581) -/

/-- Updates telemetry. -/
def State.setTel (s : State) (v : Tel) : State := { s with tel := v }

/-- STATE of the carve-out: 0 closed, 1 changing, 2 open. -/
def State.coState (s : State) : Nat := s.f .TEL_CO_CTL_STATE

/-- The carve-out starts to close: every user stops (16 R579). -/
def State.coClose (s : State) : State :=
  if s.coState = 0 then s
  else
    let s1 := (List.range 4).foldl (fun s i => s.setF .TEL_CO_REGION_ENABLE i 0 0) s
    (s1.setF .TEL_CO_CTL_STATE 0 0 1).setTel { s1.tel with opening := false, post := none }

/-- The carve-out starts to open. -/
def State.coOpen (s : State) : State := (s.setF .TEL_CO_CTL_STATE 0 0 1).setTel { s.tel with opening := true }

/-- The enabled region of a user: 1 probe trace, 2 coherence trace, 3 Glean (16 R580). -/
def State.coRegion (s : State) (user : Nat) : Option Nat :=
  if s.coState = 2 then
    (List.range 4).find? (fun i => decide (s.f .TEL_CO_REGION_ENABLE i = 1) && decide (s.f .TEL_CO_REGION_USER i = user))
  else none

/-- The region a user still writes to: enabled and not stopped. -/
def State.coLive (s : State) (user : Nat) : Option Nat :=
  (s.coRegion user).filter (fun i => !bit s.tel.stopped i)

/-- Puts a record at an offset of a region and moves WR_PTR past it. -/
def State.coPut (s : State) (i off : Nat) (b : Bytes) : State :=
  (s.setTel { s.tel with co := putCells s.tel.co (4096 * s.f .TEL_CO_REGION_BASE i + off) b }).setF
    .TEL_CO_REGSTAT_WR_PTR i 0 ((off + b.length) / 4)

/-- A region stops and TEL_TRACE_FULL says so (16 R581, R589, R600). -/
def State.coStop (s : State) (i : Nat) : State :=
  (s.setTel { s.tel with stopped := setBit s.tel.stopped i true }).raise 0xA008 sevNone 0 0 [i] .op

/-- Slices of the carve-out that the 64-byte lines of a record lie in (16 R579). -/
def coSlices (off len : Nat) : List Nat := (linesOf off len).map (fun l => l / 64 % 8)

/-- Takes the write slots of a record, one for each 64-byte write: a slice has one in each FUR cycle (16 R582); none where a
slice has none left in this microsecond (log 41). -/
def State.coTake (s : State) (off len : Nat) : Option State :=
  let used := if s.tel.slotAt = s.now then s.tel.slots else []
  let new := (coSlices off len).foldl (fun t x => NTbl.put 0 t x (NTbl.at 0 t x + 1)) used
  if (coSlices off len).all (fun x => decide (NTbl.at 0 new x ≤ s.f .CLK_DOM_STATUS_FREQ_ACT 16)) then
    some (s.setTel { s.tel with slotAt := s.now, slots := new })
  else none

/-- Puts a record, or discards it where it finds no write slot (16 R582). -/
def State.coStore (s : State) (i off : Nat) (b : Bytes) : State :=
  match s.coTake (4096 * s.f .TEL_CO_REGION_BASE i + off) b.length with
  | some s1 => s1.coPut i off b
  | none => (s.count .TEL_CO_REGSTAT_DROPPED i 0 32 1).raiseLimited 10000 0xA010 sevNone 0 0 [i] .op

/-- A user writes a record: WRAP goes on at the region's start, STOP ends with FULL (16 R581). -/
def State.coWrite (s : State) (user : Nat) (b : Bytes) : State :=
  match s.coLive user with
  | none => s
  | some i =>
    let off := 4 * s.f .TEL_CO_REGSTAT_WR_PTR i
    let size := 4096 * s.f .TEL_CO_REGION_SIZE i
    if off + b.length ≤ size then s.coStore i off b
    else if s.f .TEL_CO_REGION_MODE i = 1 then (s.flag .TEL_CO_REGSTAT_FULL i).coStop i
    else if b.length ≤ size then (s.flag .TEL_CO_REGSTAT_WRAPPED i).coStore i 0 b
    else s

/-! ### Claims (12 R463, R464) -/

/-- Updates the Headland. -/
def State.setHl (s : State) (v : Hl) : State := { s with hl := v }

/-- Holder of a claim. -/
def State.claimOf (s : State) (k : Nat) : Holder := NTbl.at .free s.hl.claims k

/-- Sets a claim's holder; a change of the carve-out's holder closes it (16 R579). -/
def State.setClaim (s : State) (k : Nat) (h : Holder) : State :=
  let s1 := s.setHl { s.hl with claims := NTbl.put .free s.hl.claims k h }
  if k = 0 ∧ s.claimOf 0 ≠ h then s1.coClose else s1

/-! ### Packet probes (16 R588-R590, R592) -/

/-- A packet as a probe meets it (07 R260): `rsp` for a response, `units` its data units, `info` CMD_INFO. -/
structure Pkt where
  port : Nat
  rsp : Bool
  id : Nat
  plot : Option Nat
  cls : Nat
  cmd : Nat
  addr : Nat
  len : Nat
  units : Nat := 0
  tag : Nat := 0
  urg : Nat := 0
  status : Nat := 0
  poison : Nat := 0
  info : Nat := 0
  deriving DecidableEq, Repr

/-- (PLOT_VALID, PLOT) of a packet. -/
def Pkt.plotBits (p : Pkt) : Nat := match p.plot with
  | some n => 8 + n
  | none => 0

/-- Router of a port (07 R256); that of a memory site is its first attachment. -/
def portRouter (p : Nat) : Nat × Nat :=
  ([(1, 1), (3, 2), (6, 1), (4, 2), (6, 4), (4, 3), (1, 4), (3, 3), (2, 0), (3, 0), (5, 0), (4, 0), (5, 5), (4, 5), (2, 5),
    (3, 5), (1, 0), (6, 0), (7, 1), (7, 4), (6, 5), (1, 5), (0, 4), (0, 1), (7, 5), (0, 0), (7, 0), (0, 0), (7, 0),
    (0, 2)] : List (Nat × Nat)).getD p (0, 5)

/-- Attachment of a memory site for a channel (07 R258). -/
def memRouter (n ch : Nat) : Nat × Nat :=
  let (x, y) := portRouter (8 + n)
  if ch < 16 then (x, y) else (x, if y = 0 then 1 else 4)

/-- Router of what an address names; none where the manual gives no router to a block. -/
def State.targetRouter (s : State) (pa : Nat) : Option (Nat × Nat) :=
  match target pa with
  | .mem off => some (memRouter (s.home off) (slaChan (s.sla off)))
  | .red _ off => some (memRouter (s.home off) (slaChan (s.sla off)))
  | .site n => some (portRouter (16 + n))
  | .ctl off =>
    let u := off / 2 ^ 20 % 16
    match off / 2 ^ 24 with
    | 0 => some (0, 5)
    | 1 => some (portRouter u)
    | 2 => some (portRouter (8 + u))
    | 3 => some (portRouter (16 + u))
    | 6 => some (portRouter 24)
    | 7 => some (portRouter 26)
    | 8 => some (portRouter 27)
    | _ => none
  | .unmapped => none

/-- A packet's header (07 R260): attachment numbers, the output to take and a router that the manual does not give are
free (log 4). -/
def State.header (s : State) (p : Pkt) : Nat × State :=
  let (k, s1) := s.freeBelow (2 ^ 32)
  let here := portRouter p.port
  let there := (s.targetRouter p.addr).getD (bits k 2 0, bits k 6 4 % 6)
  let (dst, src) := if p.rsp then (here, there) else (there, here)
  (p.urg % 16 + p.cls % 8 * 2 ^ 4 + b2n p.rsp * 2 ^ 7 + p.cmd % 256 * 2 ^ 8 + p.id % 1024 * 2 ^ 16 + p.plotBits * 2 ^ 26
    + p.units % 16 * 2 ^ 30 + p.len % 1024 * 2 ^ 34 + p.tag % 4096 * 2 ^ 48 + p.status % 16 * 2 ^ 60
    + p.addr % 2 ^ 52 * 2 ^ 64 + p.poison % 256 * 2 ^ 116 + dst.1 * 2 ^ 128 + dst.2 * 2 ^ 132 + bits k 11 8 * 2 ^ 136
    + src.1 * 2 ^ 144 + src.2 * 2 ^ 148 + bits k 15 12 * 2 ^ 152 + bits k 18 16 * 2 ^ 157 + p.info * 2 ^ 192, s1)

/-- Whether a packet matches an enabled probe (16 R588). -/
def State.probeMatches (s : State) (k : Nat) (p : Pkt) : Bool :=
  decide (s.f .PRB_CFG_ENABLE k = 1) && decide (s.f .PRB_CFG_PORT k = p.port)
    && decide (s.f .PRB_CFG_DIR k = b2n p.rsp)
    && decide ((p.id ^^^ s.f .PRB_MATCH_ID_VAL k) &&& s.f .PRB_MATCH_ID_MASK k = 0)
    && decide ((p.plotBits ^^^ s.f .PRB_MATCH_PLOT_VAL k) &&& s.f .PRB_MATCH_PLOT_MASK k = 0)
    && bit (s.f .PRB_MATCH_CLASS_MASK k) p.cls
    && decide ((p.cmd ^^^ s.f .PRB_MATCH_CMD_VAL k) &&& s.f .PRB_MATCH_CMD_MASK k = 0)
    && (!p.rsp || bit (s.f .PRB_STATUS_MASK_STATUS k) p.status)
    && decide (64 * s.f .PRB_ADDR_LO_LINE k ≤ p.addr) && decide (p.addr < 64 * s.f .PRB_ADDR_HI_LINE k + 64)

/-- Cycle count of the FUR domain. -/
def State.furCycles (s : State) : Nat := (s.dom 16).cycles

/-- The probe-trace region stops after a trigger's last record. -/
def State.trcEnd (s : State) : State :=
  let s1 := s.setTel { s.tel with post := none }
  match s1.coLive 1 with
  | some i => s1.coStop i
  | none => s1

/-- A probe's TRACE: a 64-byte record, after the debug-touch flag of the packet's plot (16 R590, R592). -/
def State.probeTrace (s : State) (k : Nat) (p : Pkt) : State :=
  if (s.coLive 1).isNone then s
  else
    let s1 := s.touchAll (plotMask p.plot) p.addr
    let (h, s2) := s1.header p
    let rec64 := leBytes 8 s2.furCycles ++ leBytes 4 s2.tel.trcSeq ++ leBytes 1 k ++ leBytes 1 (b2n p.rsp) ++ leBytes 2 0
      ++ leBytes 20 (bits h 159 0) ++ leBytes 28 (bits h 415 192)
    let s3 := (s2.setTel { s2.tel with trcSeq := (s2.tel.trcSeq + 1) % 2 ^ 32 }).coWrite 1 rec64
    match s3.tel.post with
    | some n => if n ≤ 1 then s3.trcEnd else s3.setTel { s3.tel with post := some (n - 1) }
    | none => s3

/-- A probe's TRIGGER: a pulse of TRIG_OUT, or a stop of the probe trace after POST records (16 R589). -/
def State.probeTrigger (s : State) (k : Nat) : State :=
  if s.f .PRB_TRIG_TRIG_MODE k = 0 then
    if s.tel.trigHigh then s else (s.setTel { s.tel with trigHigh := true }).emit (.pin 0 1)
  else if s.tel.post.isSome ∨ (s.coLive 1).isNone then s
  else if s.f .PRB_TRIG_POST k = 0 then s.trcEnd
  else s.setTel { s.tel with post := some (s.f .PRB_TRIG_POST k) }

/-- What a probe does with a matching packet (16 R589). -/
def State.probeHit (s : State) (k : Nat) (p : Pkt) : State :=
  let act := s.f .PRB_CFG_ACTIONS k
  let s1 := if bit act 0 then
      (s.count .PRB_PKTS_COUNT k 0 64 1).count .PRB_BYTES_COUNT k 0 64 (if p.units = 0 then 0 else p.len) else s
  let s2 := if bit act 1 then s1.probeTrace k p else s1
  if bit act 2 then s2.probeTrigger k else s2

/-- The probes meet a packet. -/
def State.observe (s : State) (p : Pkt) : State :=
  (List.range 16).foldl (fun s k => if s.probeMatches k p then s.probeHit k p else s) s

/-- A mesh request as a packet. -/
def Req.pkt (r : Req) : Pkt :=
  { port := r.port, rsp := false, id := r.id, plot := r.plot, cls := r.cls, cmd := if r.write then 2 else 1,
    addr := r.pa, len := r.len, units := if r.write then (linesOf r.pa r.len).length else 0, tag := r.tag,
    urg := r.urg, poison := r.poison }

/-- The response to a mesh request as a packet. -/
def Req.rspPkt (r : Req) : Pkt :=
  { r.pkt with rsp := true, urg := r.arrUrg, cmd := if r.write then 0x81 else 0x80, poison := r.rpoison, status := r.status,
               units := if r.rdata = [] then 0 else (linesOf r.pa r.len).length }

/-! ### Coherence trace (16 R591, R592) -/

/-- The trace of a home transaction that ends. One of the mesh, or of a victim's recall, has no requesting agent: its
record carries the snoop sent and the lowest agent snooped. -/
def State.cohTrace (s : State) (t : HTxn) : State :=
  let own := decide (t.req.cmd < 0x100)
  let agents := t.snooped ||| (if own then 2 ^ t.req.agent else 0)
  if s.f .TEL_COH_TRACE_ENABLE = 1 ∧ bit (s.f .TEL_COH_TRACE_HOME_MASK) (s.home (s.homeLine t.line * 64))
      ∧ s.f .TEL_COH_TRACE_AGENT_MASK &&& agents ≠ 0 ∧ s.f .TEL_COH_ADDR_LO_LINE ≤ t.line
      ∧ t.line ≤ s.f .TEL_COH_ADDR_HI_LINE ∧ (s.coLive 2).isSome then
    let after := match s.sfEnt t.line with
      | some e => if e.owned then 2 else 1
      | none => 0
    let code := if own then t.req.cmd else if t.req.cmd = 0x100 then 0x32 else 0x30
    let agent := if own then t.req.agent else (maskList 9 t.snooped).headD 0
    let s1 := s.touchAll (plotMask (s.granOwner (lineGran t.line))) (t.line * 64)
    s1.coWrite 2 (leBytes 8 s1.furCycles ++ leBytes 8 (t.line * 64) ++ leBytes 1 code ++ leBytes 1 agent
      ++ leBytes 1 t.before ++ leBytes 1 after ++ leBytes 4 t.txn ++ leBytes 8 0)
  else s

/-! ### Glean (16 R584-R587) -/

/-- A monitor. -/
def State.gln (s : State) (m : Nat) : Gln := NTbl.at {} s.tel.monitors m

/-- Sets a monitor. -/
def State.setGln (s : State) (m : Nat) (v : Gln) : State :=
  s.setTel { s.tel with monitors := NTbl.put {} s.tel.monitors m v }

/-- Bin of a sample (16 R587). -/
def glnBin (log : Bool) (shift v : Nat) : Nat :=
  let u := v / 2 ^ shift
  if !log then min u 63 else if u = 0 then 0 else min (Nat.log2 u + 1) 63

/-- A monitor takes a sample (16 R586, R587). -/
def State.glnSample (s : State) (m v0 : Nat) : State :=
  let v := min v0 (2 ^ 32 - 1)
  let g := s.gln m
  let b := glnBin (decide (s.f .GLN_CFG_BIN_MODE m = 1)) (s.f .GLN_CFG_BIN_SHIFT m) v
  let s1 := (s.setF .GLN_MINMAX_MIN m 0 (min v (s.f .GLN_MINMAX_MIN m))).setF .GLN_MINMAX_MAX m 0
    (max v (s.f .GLN_MINMAX_MAX m))
  let s2 := (s1.count .GLN_COUNT_COUNT m 0 64 1).count .GLN_SUM_SUM m 0 64 v
  s2.setGln m { g with
    bins := NTbl.put 0 g.bins b (satAdd 32 (NTbl.at 0 g.bins b) 1)
    min := min g.min v
    max := max g.max v
    count := satAdd 64 g.count 1
    sum := satAdd 64 g.sum v }

/-- Whether a latency monitor watches a request of a port and class (16 R585). -/
def State.glnWatches (s : State) (m port cls : Nat) (write : Bool) : Bool :=
  decide (s.f .GLN_CFG_ENABLE m = 1) && decide (s.f .GLN_CFG_SRC_KIND m = 0)
    && decide (s.f .GLN_CFG_SRC_INDEX m = port) && bit (s.f .GLN_CFG_CLASS_MASK m) cls
    && (decide (s.f .GLN_CFG_DIR m = 0) || decide (s.f .GLN_CFG_DIR m = if write then 2 else 1))

/-- The latency monitors meet a response: one in 2^SAMPLE_LOG2 is measured, in FUR cycles of 0.5 ns (16 R585). -/
def State.glnLatency (s : State) (port cls : Nat) (write : Bool) (status since : Nat) : State :=
  if status = stPlane then s
  else (List.range 64).foldl (fun s m =>
    if s.glnWatches m port cls write then
      let g := s.gln m
      if g.skip = 0 then
        (s.setGln m { g with skip := 2 ^ s.f .GLN_CFG_SAMPLE_LOG2 m - 1 }).glnSample m ((s.now - since) * 2000)
      else s.setGln m { g with skip := g.skip - 1 }
    else s) s

end Sys2Proof.Machine
end

