-- ==== Sys2Proof/Machine/Access.lean ====
section
/-! DEFINITION. Plot translation (01 R50, R51), the reduction unit (06), a home's service of a page, and reads and writes of
any length by a unit of the module. -/

namespace Sys2Proof.Machine

/-- Translation through the plot map (01 R50, R51). -/
def State.plotPa (s : State) (p a off : Nat) (write : Bool) : Option Nat :=
  match s.mapEnt p (off / 2 ^ 30) with
  | some m => if write && !m.write then none
    else some (a / 2 ^ 48 * 2 ^ 48 + m.gran * 2 ^ 30 + off % 2 ^ 30)
  | none => none

/-- Physical address of an address a master issues, or none where 01 R41, R51 or 09 R345 refuses it. Control-space
addresses are judged by the register path. -/
def State.translate (s : State) (plot : Option Nat) (a : Nat) (write : Bool) : Option Nat :=
  match plot, target a with
  | _, .unmapped => none
  | none, .site n => if (s.plotOfSite n).isSome then none else some a
  | none, _ => some a
  | some p, .mem off => s.plotPa p a off write
  | some p, .red _ off => s.plotPa p a off write
  | some p, .site n => if bit (s.plot p).sites n then some a else none
  | some _, .ctl _ => some a

/-- RATE_NOW of a queue pair, which never exceeds the port rate (10 R406), in units of 0.25 Gb/s. -/
def State.rateNow (s : State) (q : Nat) : Nat := min (s.f .ETH_QP_RATE_RATE_NOW q) (s.mesh.ethCap * 32)

/-! ### The reduction unit (06 R227-R236) -/

/-- Element bytes of an alias (06 R227). -/
def aliasElem (k : Nat) : Nat := if k = 2 then 2 else 4

/-- One element's addition (06 R227, R228): code and flags. -/
def aliasAdd (k v x : Nat) : Nat × Nat :=
  let flt (f : FFmt) : Nat × Nat :=
    let a := f.decode v
    let b := f.decode x
    let (r, fl) := a.add b
    let (c, o) := f.roundArith r
    (c, fl ||| (if o then flOverflow else 0) ||| (if a.isNan || b.isNan then flNanIn else 0))
  match k with
  | 1 => flt fp32
  | 2 => flt bf16
  | 3 => ((v + x) % 2 ^ 32, 0)
  | _ => let (i, c) := clampInt 32 (asInt 32 v + asInt 32 x)
    (ofInt 32 i, if c then flSaturated else 0)

/-- Whether a stored result is a NaN (06 R233). -/
def aliasNan (k c : Nat) : Bool :=
  (k == 1 && (fp32.decode c).isNan) || (k == 2 && (bf16.decode c).isNan)

/-- Adds element by element: result bytes, flags, NaN results. -/
def aliasBytes (k : Nat) : Nat → Bytes → Bytes → Bytes × Nat × Nat
  | 0, _, _ => ([], 0, 0)
  | n + 1, old, new =>
    let w := aliasElem k
    let (c, fl) := aliasAdd k (leAt old 0 w) (leAt new 0 w)
    let (r, fl', nn) := aliasBytes k n (old.drop w) (new.drop w)
    (leBytes w c ++ r, fl ||| fl', nn + b2n (aliasNan k c))

/-- Accumulates flags and NaN results under the granule's key index (06 R233). -/
def State.redFlags (s : State) (n g fl nans : Nat) : State :=
  let k := s.gkey g
  let old := s.f .MEM_RED_FLAGS_FLAGS n k
  let s1 := (s.setF .MEM_RED_FLAGS_FLAGS n k (old ||| fl)).count .MEM_RED_FLAGS_NAN_COUNT n k 16 nans
  if old = 0 ∧ fl ≠ 0 then
    s1.raise 0x2070 sevNone 2 n [n, k, fl] (if k = 0 ∨ k = 9 then .op else .plots (2 ^ (k - 1)))
  else s1

/-- Applies an alias write to one line (06 R231-R234). -/
def State.reduceLine (s : State) (k pa : Nat) (b : Bytes) (pois : Bool) (errs : List LineErr) (cls : Nat := 4) : State :=
  let line := pa / 64
  let n := s.home pa
  let s0 := s.combClose line
  if s0.lineLost line then s0.count .MEM_RED_POISONED_COUNT n 0 32 1
  else if pois then ((s0.setPoison line true).llcPut line true).count .MEM_RED_POISONED_COUNT n 0 32 1
  else
    let (bad, s1) := s0.readLine line errs srcMerge cls
    if bad then s1.count .MEM_RED_POISONED_COUNT n 0 32 1
    else
      let (r, fl, nn) := aliasBytes k (b.length / aliasElem k) (s1.memBytes pa b.length) b
      let s2 := ((s1.storeIn pa r).llcPut line true).redFlags n (lineGran line) fl nn
      s2.count .MEM_RED_WRITES_COUNT n 0 64 1

/-- Whether the reduction unit refuses an alias write (06 R230): elements not whole, or a granule with or of a twin. -/
def State.aliasRefused (s : State) (k pa n : Nat) : Bool :=
  let g := pa / 2 ^ 30
  decide (pa % aliasElem k ≠ 0) || decide (n % aliasElem k ≠ 0)
    || (s.twinOf g).isSome || (s.primaryOf g).isSome

/-! ### Accesses by a unit of the module (07 R259-R282; 16 R588) -/

/-- Who makes an access: its identity (01 R47) and the plot it works for. -/
structure Src where
  id : Nat
  plot : Option Nat
  deriving DecidableEq, Repr

/-- The plot whose requests an identity's are (01 R47, 09 R344). -/
def State.plotOfMaster (s : State) (id : Nat) : Option Nat :=
  if 0x20 ≤ id ∧ id < 0x40 then s.plotOfEngine ((id - 0x20) / 4)
  else if 0x100 ≤ id ∧ id < 0x300 then s.plotOfSite ((id - 0x100) / 0x40)
  else none

/-- Masters of the port and of Sheaf: the transport, Sheaf and ingest (01 R47). -/
def State.qpSrc (s : State) (q : Nat) : Src := { id := 0x50, plot := s.plotOfQp q }
def State.ingSrc (s : State) (k : Nat) : Src := { id := 0x52, plot := s.plotOfStream k }

/-- Masters of an engine: 0 arrays, 1 lanes, 2 data mover and front end, 3 scalar units (01 R47). -/
def State.engSrc (s : State) (e k : Nat) : Src := { id := 0x20 + 4 * e + k, plot := s.plotOfEngine e }

/-- The timer that a port sets for a request, by the kind of its target (07 R270). -/
def State.portLimit (s : State) (port pa : Nat) : Nat :=
  match target pa with
  | .site _ => s.f .QOS_TIMEOUT_SITE_US port
  | .ctl _ => s.f .QOS_TIMEOUT_CTL_US port
  | _ => s.f .QOS_TIMEOUT_MEM_US port

/-- A request of a unit as its port sends it: address, length, data units, class, urgency, tag, plane, timer. -/
structure UnitReq where
  src : Src
  port : Nat
  pa : Nat
  len : Nat
  write : Bool
  cls : Nat
  urg : Nat
  tag : Nat
  plane : Nat
  limit : Nat
  deriving DecidableEq, Repr

/-- The request as a packet. -/
def UnitReq.pkt (r : UnitReq) : Pkt :=
  { port := r.port, rsp := false, id := r.src.id, plot := r.src.plot, cls := r.cls, cmd := if r.write then 2 else 1,
    addr := r.pa, len := r.len, units := if r.write then (linesOf r.pa r.len).length else 0, tag := r.tag, urg := r.urg }

/-- The first tag from one on that is not in use. -/
def nextTag (used : Nat → Bool) : Nat → Nat → Nat
  | 0, t => t
  | n + 1, t => if used t then nextTag used n ((t + 1) % 4096) else t

/-- A tag that no request of a port has: which one is free (log 4). -/
def State.freshTag (s : State) (port : Nat) : Nat × State :=
  let (x, s1) := s.freeBelow 4096
  (nextTag (fun t => s.mesh.reqs.any (fun r => r.port == port && r.tag == t)) s.mesh.reqs.length x, s1)

/-- The present command must wait (log 21); what it goes on with does not come about. -/
def State.stallOn (s : State) (l : List Want) : State :=
  { s with coh := { s.coh with stall := s.coh.stall ++ l.filter (fun x => !s.coh.stall.contains x) } }

/-- Whether the present command waits for a window of its port; its later requests have then not been issued. -/
def State.windowed (s : State) : Bool := s.coh.stall.any Want.window

/-- What a command waits for at the home of a line, or, with the line 0 and a length, at its port. -/
def UnitReq.want (r : UnitReq) (since line : Nat) (window : Bool := false) : Want :=
  { line, write := r.write, cls := r.cls, urg := r.urg, port := r.port, plane := r.plane, since, limit := r.limit, window
    len := if window then r.len else 0 }

/-- The bytes of a request count in its port's window (07 R281, R282). -/
def State.useWindow (s : State) (r : UnitReq) : State :=
  let q := s.qport r.port
  let s1 := s.setQport r.port { q with issued := NTbl.put 0 q.issued r.cls (q.used r.cls + r.len) }
  { s1 with coh := { s1.coh with spent := PTbl.put 0 s1.coh.spent r.port r.cls (PTbl.at 0 s1.coh.spent r.port r.cls + r.len) } }

/-- A request leaves its port (07 R263, R268, R270, R280-R282): its class, its urgency, a tag, its plane and timer, the bytes
counted in the window, and the probes. One beyond the class's ceiling waits for the next window, and what a command has
issued before it waited counts once; the request of a row that cannot wait counts against the windows after this one (logs 21
and 85). -/
def State.unitIssue (s : State) (src : Src) (pa len : Nat) (write : Bool) : UnitReq × State :=
  let port := (portOfId src.id).getD 29
  let q := s.qport port
  let c := q.classify pa write
  let (tag, s1) := s.freshTag port
  let r : UnitReq := { src, port, pa, len, write, cls := c, urg := s.urgency q c, tag, plane := s.planeFor pa
                       limit := s.portLimit port pa }
  let paid := PTbl.at 0 s.coh.paid port c
  if s.windowed then (r, s1)
  else if len ≤ paid then
    (r, { s1 with coh := { s1.coh with paid := PTbl.put 0 s1.coh.paid port c (paid - len) } }.observe r.pkt)
  else if s.coh.canPark ∧ !q.fits c len then (r, s1.stallOn [r.want s.now 0 true])
  else (r, (s1.useWindow r).observe r.pkt)

/-- A request times out at its port: counted, flagged, reported at most once in each 100 µs (07 R271). -/
def State.timedOut (s : State) (port id pa cls : Nat) : State :=
  ((s.count .QOS_PORT_COUNT_TIMEOUTS port 0 32 1).flag .MESH_ERR_STATUS_TIMEOUT).raiseLimited 100 0x3030 sevDeferred 0 port
    [port, id, pa, cls]

/-- When an access of stacked memory left its port: as early as its command has waited for one of its lines (16 R585; log 21). -/
def State.askedAt (s : State) (r : UnitReq) : Nat :=
  match s.coh.parked.find? (fun p => s.coh.resuming == some p.no) with
  | some p => (p.want.filter (fun w => w.port == r.port && !w.window && !w.bank
      && (linesOf (r.pa % 2 ^ 48) r.len).contains w.line)).foldl (fun t w => min t w.since) s.now
  | none => s.now

/-- Its response arrives (07 R262, R268, R290; 16 R585, R588), for a request that left its port at `since`, or has not waited;
`own` where none does, and the port's timer expires (07 R271). -/
def State.unitDone (s : State) (r : UnitReq) (st : Nat) (bad : List Nat) (own : Bool := false) (since : Option Nat := none) :
    State :=
  if own then s.timedOut r.port r.src.id r.pa r.cls
  else
    let p : Pkt := { r.pkt with
      rsp := true
      cmd := if r.write then 0x81 else 0x80
      status := st
      units := if !r.write && decide (st ≤ 1) then (linesOf r.pa r.len).length else 0
      poison := maskOf (bad.map (fun l => l - r.pa % 2 ^ 48 / 64)) }
    let s1 := (s.observe p).glnLatency r.port r.cls r.write st (since.getD s.now)
    let q := s1.qport r.port
    s1.setQport r.port { q with done := NTbl.put 0 q.done r.cls (NTbl.at 0 q.done r.cls + r.len) }

/-! ### A home's service of one page (05 R199-R201; 06 R229-R235, R240-R250) -/

/-- The lines of other memory sites that serving a line needs, each with the site that answers for it (07 R272): the storage of a
relocated block, or a twin copy that is written, or that a bad primary is read from. -/
def State.farLines (s : State) (line : Nat) (errs : List LineErr) (write : Bool) : List (Nat × Nat) :=
  let far := s.storeChan (line * 64) / 32
  let e := errOf errs line
  (if far ≠ s.home (line * 64) ∧ !s.llcHit line e then [(line, far)] else []) ++ match s.twinLine line with
    | some tl => if write || s.poisoned line
        || (if s.llcHit line e then (e.map (·.llcBad)).getD false
            else decide ((s.eccRead line ((e.map (·.pins)).getD [])).1 = .bad)) then [(tl, s.home (tl * 64))] else []
    | none => []

/-- Whether serving a line needs another memory site that does not answer (07 R272). -/
def State.farDead (s : State) (line : Nat) (errs : List LineErr) (write : Bool) : Bool :=
  (s.farLines line errs write).any (fun x => !s.msAlive x.2)

/-- The access of a home through its own port times out (07 R272): its identity is 0x040 + n (01 R47). -/
def State.farTimeout (s : State) (pa : Nat) (write : Bool) : State :=
  let n := s.homePa pa
  s.timedOut (8 + n) (0x40 + n) pa ((s.qport (8 + n)).classify pa write)

/-- A home's request for a line of another memory site, through its own port (01 R47; 07 R272, R281), and its response. -/
def State.farAsk (s : State) (n line : Nat) (write : Bool) : State :=
  let port := 8 + n
  let pa := line * 64
  let q := s.qport port
  let c := q.classify pa write
  let (tag, s1) := s.freshTag port
  let r : UnitReq := { src := { id := 0x40 + n, plot := none }, port, pa, len := 64, write, cls := c, urg := s.urgency q c, tag
                       plane := s.planeFor pa, limit := s.portLimit port pa }
  ((s1.setQport port { q with issued := NTbl.put 0 q.issued c (q.used c + 64) }).observe r.pkt).unitDone r stOk []

/-- The requests of a home that an access of its lines makes. -/
def State.farAsks (s : State) (pa n : Nat) (errs : List LineErr) (write : Bool) : State :=
  ((linesOf pa n).flatMap (fun l => s.farLines l errs write)).foldl (fun s x => s.farAsk (s.homePa pa) x.1 write) s

/-- Whether a home refuses a request (06 R230, R248): any to a twin granule, and alias writes that break R230. -/
def State.pageRefused (s : State) (k pa n : Nat) (write : Bool) : Bool :=
  (s.primaryOf (pa / 2 ^ 30)).isSome || (decide (k ≠ 0) && write && s.aliasRefused k pa n)

/-- A read within one 4 KiB page at its home: status, data, poisoned lines. `skip` lists lines that were snooped for it. -/
def State.pageRead (s : State) (pa n : Nat) (errs : List LineErr) (cls : Nat := 4) (skip : List Nat := [])
    (port : Nat := 31) (tag : Nat := 0) : Nat × Bytes × List Nat × State :=
  if !s.msAlive (s.homePa pa) then (stTimeout, [], [], s)
  else if s.pageRefused 0 pa n false then (stTarget, [], [], s)
  else if (linesOf pa n).any (fun l => s.farDead l errs false) then (stTimeout, [], [], s.farTimeout pa false)
  else
    let (d, bad, s1) := (s.farAsks pa n errs false).combMemRead pa n errs cls skip port tag
    (if bad = [] then stOk else stPoison, d, bad, s1)

/-- A write, normal (k 0) or alias, within one 4 KiB page at its home (06 R230, R248). -/
def State.pageWrite (s : State) (k pa : Nat) (b : Bytes) (pois : Nat) (errs : List LineErr) (cls : Nat := 4) : Nat × State :=
  if !s.msAlive (s.homePa pa) then (stTimeout, s)
  else if s.pageRefused k pa b.length true then
    (stTarget, if k = 0 then s else s.count .MEM_RED_REFUSED_COUNT (s.homePa pa) 0 32 1)
  else if (linesOf pa b.length).any (fun l => s.farDead l errs true) then (stTimeout, s.farTimeout pa true)
  else if k = 0 then (stOk, (s.farAsks pa b.length errs true).memWrite pa b pois errs cls)
  else (stOk, ((splitLines (b.length / 64 + 2) pa b).zipIdx).foldl
    (fun s x => s.reduceLine k x.1.1 x.1.2 (bit pois x.2) errs cls) (s.farAsks pa b.length errs true))

/-! ### Sites (09 R336, R339, R345, R349, R360; 07 R274) -/

/-- LINK of a site: 0 down, 1 reset held, 2 sideband, 3 parameter exchange, 4 training, 5 up, 6 draining. -/
def State.siteLinkState (s : State) (n : Nat) : Nat := s.f .SITE_STATUS_LINK n

/-- Whether flits are exchanged. -/
def State.linkUp (s : State) (n : Nat) : Bool := decide (5 ≤ s.siteLinkState n)

/-- The STATUS with which a site's port answers a request into the window at once, if it does. -/
def State.siteRefusal (s : State) (n : Nat) : Option Nat :=
  if (s.qport (16 + n)).fence = 2 ∨ !s.present .site n then some stFenced
  else if !s.linkUp n then some stTarget
  else match s.plotOfSite n with
    | some p => if (s.plot p).teardown.isSome then some stScrub else none
    | none => none

/-- Data units of an access (09 R339): the lines it touches, each byte at its place; the bytes around them, which the
receiver ignores, are zero (log 84). -/
def lineUnits (a : Nat) (b : Bytes) : Bytes :=
  slice (List.replicate (a % 64) 0 ++ b) 0 (64 * (linesOf a b.length).length)

/-- A request goes out to a chiplet (09 R336): the offset in its window, length, tag, initiator, URGENCY, CLASS, data
units and the poison marks of its lines (09 R347). -/
def State.siteAsk (s : State) (n id tag urg cls pa len : Nat) (data : Option Bytes) (poison : Nat := 0) : State :=
  let off := pa % 2 ^ 44
  s.siteSend n { cmd := if data.isSome then 2 else 1, id, urg, cls, len, tag, addr := off,
                 poison := poison % 2 ^ (linesOf off len).length, data := (data.map (lineUnits off)).getD [] }

/-- The status of a reply for a STATUS of 07 R262. -/
def meshStatus (st : Nat) : Nat := if st = stTimeout then hTimeout else if st = stScrub then hScrubbing else hAborted

/-! ### Reads and writes by a unit of the module (07 R259-R282) -/

/-- An access that its port refuses as unmapped (01 R41, R51; 07 R293, R294): only R41's refusals are counted. -/
def State.unmappedAt (s : State) (port a : Nat) : State :=
  if target a = .unmapped then
    (s.flag .MESH_ERR_STATUS_UNMAPPED).count .QOS_PORT_COUNT_UNMAPPED port 0 16 1
  else s

/-- What a read by a unit gives: the first status other than OK (poison gives way to an error), data, poisoned lines
(as issued addresses / 64), and the address, as issued, that gave the status. -/
structure RdRes where
  status : Nat := 0
  data : Bytes := []
  poison : List Nat := []
  addr : Nat := 0
  deriving DecidableEq, Repr

/-- Address, as issued, of the first poisoned line of a page access. -/
def poisonAddr (a : Nat) : List Nat → Nat
  | [] => a
  | l :: _ => max a (a / 4096 * 4096 + l * 64 % 4096)

/-- The status that a sequence of requests ends with: the first error, else poison. -/
def joinStatus (a b : Nat) : Nat := if a = 0 ∨ (a = 1 ∧ 1 < b) then b else a

/-- Lines already read at their home for the command take their bytes from there (log 21). -/
def State.gotBytes (s : State) (pa : Nat) (d : Bytes) : Bytes :=
  d.zipIdx.map (fun x => match s.coh.got.find? (fun g => g.1 == (pa + x.2) / 64) with
    | some g => g.2.2.getD ((pa + x.2) % 64) 0
    | none => x.1)

/-- How a unit's access of stacked memory ended or why it has not: a STATUS from its home, none in time, or, as a write of a row
that cannot wait, it goes on as a request of its own. -/
inductive UnitEnd where
  | home (st : Nat)
  | late
  | posted
  deriving DecidableEq, Repr

/-- The STATUS that an end shows its unit. -/
def UnitEnd.status : UnitEnd → Nat
  | .home st => st
  | .late => stTimeout
  | .posted => stOk

/-- Whether a request can reach its memory site: a plane is up and the site answers (07 R263; 05 R185). -/
def State.memReached (s : State) (r : UnitReq) (pa : Nat) : Bool := decide (r.plane < 4) && s.msAlive (s.homePa pa)

/-- The lines for which a unit's access of stacked memory waits: those that are held, all where no tracker is free, and all where
nothing answers (07 R270; log 21). -/
def State.memWaits (s : State) (r : UnitReq) (k pa : Nat) : List Nat :=
  if !s.memReached r pa then (linesOf pa r.len).filter (fun l => !s.coh.got.any (fun g => g.1 == l))
  else if s.pageRefused k pa r.len r.write then []
  else s.mustWait pa r.len r.write (!r.write && decide (r.cls = 0))

/-- The status with which an access of the lines has failed while its command waited (07 R271, R278). -/
def State.unitFailed (s : State) (ls : List Nat) : Option Nat := (s.coh.fails.find? (fun e => ls.contains e.1)).map Prod.snd

/-- A write that cannot wait goes on as a request of its own, whose response nobody awaits (log 21). -/
def State.postWrite (s : State) (r : UnitReq) (pa : Nat) (b : Bytes) (p : Nat) : State :=
  let n := s.homePa pa
  let ok := s.trackerOpen n false
  let q : Req := { port := r.port, id := r.src.id, tag := r.tag, plot := r.src.plot, pa := r.pa, len := b.length, write := true
                   data := b, poison := p, cls := r.cls, urg := r.urg, plane := r.plane, home := some n, errs := []
                   phase := if ok then .waitHome else .waitTracker, since := s.now, limit := r.limit, arrUrg := r.urg
                   dropped := true, trk := ok }
  let s1 := { s with mesh := { s.mesh with reqs := s.mesh.reqs ++ [q] } }
  if !ok then s1
  else
    let ls := linesOf pa b.length
    let s2 := (ls.foldl State.combClose s1).tracker n false true
    { s2 with coh := { s2.coh with queue := s2.coh.queue ++ ls.map (fun l =>
      { cmd := 0x101, agent := 9, line := l, port := r.port, tag := r.tag, cls := r.cls, mport := r.port }) } }

/-- A unit's read of stacked memory at its home: where a line must wait there, the whole command does (08 R310, R311; log
21). -/
def State.unitMemRead (s : State) (r : UnitReq) (pa : Nat) (errs : List LineErr) : UnitEnd × Bytes × List Nat × State :=
  let n := r.len
  let ls := linesOf pa n
  let w := s.memWaits r 0 pa
  match s.unitFailed ls with
  | some st => (if st = stTimeout then .late else .home st, [], [], s)
  | none =>
    if s.windowed then (.home stOk, List.replicate n 0, [], s)
    else if w ≠ [] ∧ s.coh.canPark then (.home stOk, List.replicate n 0, [], s.stallOn (w.map (r.want s.now)))
    else if !s.memReached r pa then (.late, [], [], s)
    else
      let held := w.filter (fun l => s.lineHeld l false)
      let mine := s.coh.got.filter (fun g => ls.contains g.1)
      if mine = [] then
        let (st, d, bad, s1) := (held.foldl State.recallRead s).pageRead pa n errs r.cls held
        (.home st, d, bad, s1)
      else
        let (bad, s1) := (ls.filter (fun l => !mine.any (fun g => g.1 == l))).foldl (fun (a : List Nat × State) l =>
          let (_, _, b, s') := a.2.pageRead (l * 64) 64 errs r.cls held
          (a.1 ++ b, s')) ([], s)
        let bad1 := ls.filter (fun l => bad.contains l || mine.any (fun g => g.1 == l && g.2.1))
        (.home (if bad1 = [] then stOk else stPoison), (s1.gotBytes pa (s1.fetchBytes bad1 pa n)), bad1, s1)

/-- A unit's write of stacked memory at its home. -/
def State.unitMemWrite (s : State) (r : UnitReq) (k pa : Nat) (b : Bytes) (p : Nat) : UnitEnd × State :=
  let ls := linesOf pa b.length
  let w := s.memWaits r k pa
  match s.unitFailed ls with
  | some st => (if st = stTimeout then .late else .home st, s)
  | none =>
    if s.windowed then (.home stOk, s)
    else if w ≠ [] ∧ s.coh.canPark then (.home stOk, s.stallOn (w.map (r.want s.now)))
    else if !s.memReached r pa then (.late, s)
    else if w ≠ [] then (.posted, s.postWrite r pa b p)
    else
      let s1 : State := { s with coh := { s.coh with got := s.coh.got.filter (fun g => !ls.contains g.1) } }
      let (st, s2) := s1.pageWrite k pa b p [] r.cls
      (.home st, s2)

/-- The response of an access of stacked memory reaches its unit. -/
def State.unitMemDone (s : State) (r : UnitReq) (e : UnitEnd) (bad : List Nat) : State :=
  match e with
  | .home st => s.unitDone r st bad false (some (s.askedAt r))
  | .late => s.unitDone r stTimeout [] true
  | .posted => s

/-- The part of a chiplet's answer after its first `n` bytes. -/
def siteDrop (x : SiteAns) (n : Nat) : SiteAns :=
  { data := x.data.drop n, fails := (x.fails.filter (fun f => decide (n ≤ f.1))).map (fun f => (f.1 - n, f.2)) }

/-- STATUS of the part of a chiplet's answer that its first `n` bytes hold. -/
def siteStatus (x : SiteAns) (n : Nat) : Nat := ((x.fails.find? (fun f => decide (f.1 < n))).map Prod.snd).getD 0

/-- Length of a unit's next request: it crosses no 512-byte boundary, so it touches at most 8 lines (07 R259, R260). -/
def reqLen (a n : Nat) : Nat := min n (512 - a % 512)

/-- Bytes that nothing gives are free (log 4). -/
def State.freeFill (s : State) (b : Bytes) (k : Nat) : Bytes × State :=
  let n := k - b.length
  (b ++ (List.range n).map (fun i => BitVec.ofNat 8 (Config.free (s.freeCtr + i))), { s with freeCtr := s.freeCtr + n })

/-- One read request of a unit at an address it issues; bytes of a chiplet beyond those of `site` are free. -/
def State.unitRead1 (s : State) (src : Src) (a k : Nat) (errs : List LineErr) (site : SiteAns) : RdRes × State :=
  let refuse (st : Nat) (s : State) : RdRes × State := ({ status := st, addr := a }, s)
  match s.translate src.plot a false with
  | none => refuse stUnmapped (s.unmappedAt ((portOfId src.id).getD 29) a)
  | some pa =>
    let (r, s1) := s.unitIssue src pa k false
    match target pa with
    | .mem off | .red _ off =>
      let (e, d, bad, s2) := s1.unitMemRead r off errs
      ({ status := e.status, data := d, poison := bad.map (fun l => a / 4096 * 64 + l % 64), addr := poisonAddr a bad },
        s2.unitMemDone r e bad)
    | .site i => if s1.windowed then refuse stOk s1 else if r.plane = 4 then refuse stTimeout (s1.unitDone r stTimeout [] true)
      else match s1.siteRefusal i with
      | some st => refuse st (s1.unitDone r st [])
      | none =>
        let st := siteStatus site k
        let (d, s1) := s1.freeFill (site.data.take k) k
        let bad := if st = stPoison then linesOf a k else []
        ({ status := st, data := if st ≤ 1 then d else [], poison := bad, addr := a },
          (s1.siteAsk i src.id r.tag r.urg r.cls pa k none).unitDone r st (linesOf pa k))
    | _ => if src.plot.isSome then refuse stUnmapped s else refuse stTarget (s1.unitDone r stTarget [])

/-- Reads `n` bytes at an address a unit issues, request by request; `site` is what a chiplet answers. -/
def State.unitRead (errs : List LineErr) (src : Src) : Nat → Nat → Nat → SiteAns → State → RdRes × State
  | 0, _, _, _, s => ({}, s)
  | fuel + 1, a, n, site, s =>
    if n = 0 then ({}, s)
    else
      let k := reqLen a n
      let (r, s1) := s.unitRead1 src a k errs site
      let d1 := if r.data.length = k then r.data else List.replicate k 0
      let (r2, s2) := State.unitRead errs src fuel (a + k) (n - k) (siteDrop site k) s1
      let st := joinStatus r.status r2.status
      ({ status := st, data := d1 ++ r2.data, poison := r.poison ++ r2.poison,
         addr := if st = r.status then r.addr else r2.addr }, s2)

/-- Reads `n` bytes for a unit. -/
def State.rd (s : State) (src : Src) (a n : Nat) (site : SiteAns := { data := [] }) : RdRes × State :=
  State.unitRead [] src (n / 512 + 2) a n site s

/-- One write request of a unit. A write into a site window has left for the chiplet when this answers OK; `run` names the
work order whose completion waits for its response (04 R173), and without one nobody awaits it (log 21). -/
def State.unitWrite1 (s : State) (src : Src) (pois : Bool) (run : Option RunRef) (a : Nat) (b : Bytes) :
    Nat × State :=
  match s.translate src.plot a true with
  | none => (stUnmapped, s.unmappedAt ((portOfId src.id).getD 29) a)
  | some pa =>
    let (r, s1) := s.unitIssue src pa b.length true
    let p := if pois then 2 ^ 9 - 1 else 0
    let done (x : Nat × State) : Nat × State := (x.1, x.2.unitDone r x.1 [])
    let mem (x : UnitEnd × State) : Nat × State := (x.1.status, x.2.unitMemDone r x.1 [])
    match target pa with
    | .mem off => mem (s1.unitMemWrite r 0 off b p)
    | .red i off => mem (s1.unitMemWrite r i off b p)
    | .site i => if s1.windowed then (stOk, s1)
      else
        let q : Req := { port := r.port, id := src.id, tag := r.tag, plot := src.plot, pa, len := b.length, write := true
                         data := b, poison := p, cls := r.cls, urg := r.urg, plane := r.plane, home := none, errs := []
                         phase := .issued, since := s.now, limit := r.limit, arrUrg := r.urg, run, dropped := run.isNone }
        let s2 : State := { s1 with mesh := { s1.mesh with reqs := s1.mesh.reqs ++ [q] } }
        if r.plane = 4 then (stOk, s2)
        else match s1.siteRefusal i with
          | some st => done (st, s1)
          | none => (stOk, s2.siteAsk i src.id r.tag r.urg r.cls pa b.length (some b) p)
    | _ => if src.plot.isSome then (stUnmapped, s) else done (stTarget, s1)

/-- Writes bytes at an address a unit issues, request by request; a request that fails ends it: status and address of that
request. -/
def State.unitWrite (src : Src) (pois : Bool) (run : Option RunRef) :
    Nat → Nat → Bytes → State → Nat × Nat × State
  | 0, _, _, s => (0, 0, s)
  | _, _, [], s => (0, 0, s)
  | fuel + 1, a, b, s =>
    let k := reqLen a b.length
    let (st, s1) := s.unitWrite1 src pois run a (b.take k)
    if st = stOk then State.unitWrite src pois run fuel (a + k) (b.drop k) s1 else (st, a, s1)

/-- Writes bytes for a unit: status, address of the request that failed, and the state after. -/
def State.wr (s : State) (src : Src) (a : Nat) (b : Bytes) (pois : Bool := false)
    (run : Option RunRef := none) : Nat × Nat × State :=
  State.unitWrite src pois run (b.length / 512 + 2) a b s

end Sys2Proof.Machine
end

