-- ==== Sys2Proof/Machine/RecordCore.lean ====
section
/-! DEFINITION. The training record: its layout, its signature, the record region (14 R536, R538). -/

namespace Sys2Proof.Machine

/-- Bytes of a training record. -/
def recordLen : Nat := 117440

/-- Bytes before the signature. -/
def recordBody : Nat := 0x18800

/-- Where the record region lies (14 R538). -/
def recordBase : Nat := 0xBFFC0000

/-- Four lane numbers, 127 for an unused place. -/
def laneBytes (l : List Nat) : Bytes := (List.range 4).map (fun i => BitVec.ofNat 8 (l.getD i 127))

/-- A module's 32-byte entry. -/
def UmRepair.bytes (r : UmRepair) : Bytes :=
  slice (leBytes 1 r.width ++ laneBytes r.tx ++ laneBytes r.rx) 0 32

/-- A 16-byte wear entry. -/
def Wear.bytes (w : Wear) : Bytes :=
  leBytes 1 w.kind ++ leBytes 1 w.cls ++ leBytes 2 w.unit ++ leBytes 4 w.detail ++ leBytes 4 w.gen ++ leBytes 4 0

/-- Wear entries in use. -/
def wearBytes (l : List Wear) : Bytes := l.flatMap Wear.bytes

/-- A channel's 256-byte entry: its training parameters are open (14 R536; log 4). -/
def trainBytes (c gen : Nat) : Bytes :=
  (List.range 224).map (Config.trainParam c gen) ++ List.replicate 32 0

/-- Bytes 0 to 0x1_87FF of the record. -/
def State.recordBytes (s : State) : Bytes :=
  let gen := s.f .GLB_REC_STATUS_GEN
  let head := leBytes 4 0x4F485452 ++ leBytes 2 1 ++ leBytes 2 0 ++ leBytes 4 recordLen
    ++ leBytes 4 s.boot.wear.length ++ leBytes 8 s.fuses.serial ++ leBytes 4 gen ++ leBytes 1 s.sec.lcState
    ++ leBytes 1 (s.f .GLB_REC_STATUS_WEAR_FULL) ++ leBytes 2 0 ++ slice s.boot.runDigest 0 32
  slice head 0 256 ++ (List.range 256).flatMap (fun c => trainBytes c gen)
    ++ slice ((List.range 48).flatMap (fun k => (NTbl.at {} s.boot.repairs k).bytes)) 0 0x700
    ++ slice (wearBytes s.boot.wear) 0 0x8000

/-- The whole record, signed with the identity key; in TEST the signature is zero (14 R534, R536). -/
def State.record (s : State) : Bytes :=
  let b := s.recordBytes
  b ++ (if s.sec.lcState = lcTest then List.replicate 17088 0 else slice (Config.slhSign s.fuses.secret b) 0 17088)

/-- SB as a master (01 R47). -/
def sbSrc : Src := { id := 0x61, plot := none }

/-- SB writes the current record into the record region. -/
def State.writeRecordRegion (s : State) : State := (s.wr sbSrc recordBase s.record).2.2

end Sys2Proof.Machine
end

