-- ==== Sys2Proof/Machine/Memory.lean ====
section
/-! DEFINITION. Commands of the memory sites (05, 06). -/

namespace Sys2Proof.Machine

/-- The next state of a command. -/
abbrev Res := Host.Outcome State Fault Refusal

/-! ### Memory initialisation (05 R211, R213, R218, R225) -/

/-- Channels that memory initialisation maps out (05 R211). -/
def State.outChannels (s : State) : List Nat :=
  (List.range 256).filter (fun c =>
    let u := (s.unit .channel c).st
    decide (u = some .failed) || decide (u = some .retired))

/-- Groups wholly below the relocation region keep their bit; groups that meet it are hashed (05 R190). -/
def effectiveGroups (loc r : Nat) : Nat := loc % 2 ^ ((512 - 2 * r) / 8)

/-- Every stack is trained (05 R225). -/
def State.stacksTrained (s : State) : Bool := (List.range 8).all (fun n => bit s.boot.trained n)

/-- A write of START to MEM_INIT (05 R225). -/
def State.memInitStart (s : State) : WRes :=
  if s.f .MEM_INIT_STATE ≠ 0 ∨ !s.stacksTrained then (hNotReady, s)
  else
    let out := s.outChannels
    let r := out.length
    let s1 := (s.rwlLock 0x02008000).setF .MEM_INIT_STATE 0 0 1
    let s2 := (s1.setF .MEM_RELOC_MAPPED_OUT 0 0 r).setF .MEM_RELOC_BASE 0 0 (512 - 2 * r)
    let s3 := s2.setF .MEM_GROUP_EFFECTIVE_LOCAL 0 0 (effectiveGroups (s.f .MEM_GROUP_LOCAL_LOCAL) r)
    (hOk, { s3 with mem := { s3.mem with relocR := r, mapped := out } })

/-- Sets GLB_GRAN_AVAIL and GLB_GRAN_COUNT: granules 3 to 511 − 2R (01 R44, 05 R213). -/
def State.setAvail (s : State) : State :=
  let top := 512 - 2 * s.mem.relocR
  let s1 := (List.range 8).foldl (fun s j =>
    s.setF .GLB_GRAN_AVAIL_AVAIL j 0 (maskOf ((List.range 64).filter (fun b =>
      decide (3 ≤ 64 * j + b) && decide (64 * j + b < top))))) s
  s1.setF .GLB_GRAN_COUNT_COUNT 0 0 (509 - 2 * s.mem.relocR)

/-- MEM_INIT_DONE: every stored line becomes encrypted zeros and the granules are counted, or initialisation fails
(05 R186, R213, R218; 14 R538, R540). -/
def execMemInitDone (s : State) : Res :=
  if s.f .MEM_INIT_STATE ≠ 1 then .next s
  else if 128 < s.mem.relocR ∨ (List.range 8).any (fun n => decide ((s.unit .memSite n).st = some .failed)) then
    .next ((s.setF .MEM_INIT_STATE 0 0 3).raise 0x2060 sevModuleFatal 0 0 [s.mem.relocR])
  else
    let s1 := { s with mem := { s.mem with cells := [], poison := [], tag := [], base := [], llc := [], comb := [],
                                           inited := true } }
    let s2 := (List.range 8).foldl (fun s n =>
      (s.setF .MEM_STATUS_INIT_DONE n 0 1).setMsite n { s.msite n with combInUse := 0 }) s1
    let s3 := (s2.setF .MEM_INIT_STATE 0 0 2).setAvail
    let s4 := (s3.setF .GLB_REC_STATUS_VALID 0 0 1).writeRecordRegion
    .next (s4.setF .HL_STATUS_STAGE 0 0 2)

/-! ### Reports, combining, refresh -/

/-- UNCORR_INTERVAL_END: the site's 100 µs interval ends; the oldest channel loss it withheld is reported, which begins the
next interval (05 R200, R209). -/
def execUncorrIntervalEnd (n : Nat) (s : State) : Res :=
  let m := s.msite n
  if !m.uncorrOpen then .next s
  else match m.chanLossDue with
    | [] => .next (s.setMsite n { m with uncorrOpen := false })
    | c :: t => .next ((s.setMsite n { m with uncorrOpen := false, chanLossDue := t }).chanLossRaise c)

/-- COMB_WINDOW_CLOSE: an entry's window expires and the entry closes (06 R243). -/
def execCombWindowClose (n line : Nat) (s : State) : Res :=
  if s.home (line * 64) = n then .next (s.combClose line) else .next s

/-- REFRESH: a bank is refreshed before any other command of its channel (05 R193, R220); no row of it is open afterwards
(log 86). -/
def execRefresh (n ch bank : Nat) (s : State) : Res :=
  let k := 32 * n + ch
  .next (s.setSched k { s.sched k with rows := NTbl.put none (s.sched k).rows bank none })

/-- A reading of the stack sensor (05 R219-R221, R635): MEM_TEMP, the refresh rate, three failures in a row.
DEDUCED (log 55): the 92 degrees put in for a lost sensor count in MEM_TEMP_MAX, also before any reading has succeeded. -/
def State.stackReading (s : State) (n : Nat) (q : Option Int) : State :=
  let m := s.msite n
  match q with
  | some t =>
    let s1 := s.setF .MEM_TEMP_TEMP_Q2 n 0 (ofInt 12 t)
    let old := asInt 12 (s.f .MEM_TEMP_MAX_MAX_Q2 n)
    let s2 := if !m.maxSeen ∨ old < t then s1.setF .MEM_TEMP_MAX_MAX_Q2 n 0 (ofInt 12 t) else s1
    let twice := if 340 < t then true else if t < 332 then false else m.refresh2x && m.tempRead
    let s3 := s2.setMsite n { m with tempFails := 0, tempRead := true, tempLost := false, refresh2x := twice, maxSeen := true }
    (s3.setF .MEM_STATUS_REFRESH_2X n 0 (b2n twice)).updateCap n
  | none =>
    let k := m.tempFails + 1
    if 3 ≤ k then
      let s0 := if !m.maxSeen ∨ asInt 12 (s.f .MEM_TEMP_MAX_MAX_Q2 n) < 368 then s.setF .MEM_TEMP_MAX_MAX_Q2 n 0 368 else s
      let s1 := s0.setMsite n { m with tempFails := k, tempRead := true, tempLost := true, refresh2x := true, maxSeen := true }
      let s2 := (s1.setF .MEM_TEMP_TEMP_Q2 n 0 368).setF .MEM_STATUS_REFRESH_2X n 0 1
      (if m.tempLost then s2 else s2.raise 0x2040 sevCorrected 2 n [n]).updateCap n
    else s.setMsite n { m with tempFails := k }

/-! ### Patrol and repair -/

/-- A patrol read of one stored line (05 R206, 06 R251). -/
def State.patrolLine (s : State) (line : Nat) (errs : List LineErr) : State :=
  let (o, s1) := (s.chanServe line 2 7 31 0).eccRead line (((errOf errs line).map (·.pins)).getD [])
  if o ≠ .bad then s1
  else match s1.twinLine line with
    | some tl => ((s1.farAsk (s1.homePa (line * 64)) tl false).twinRead errs line tl srcPatrol).2
    | none => match s1.primaryOf (lineGran line) with
      | some g =>
        let pl := g * 2 ^ 24 + line % 2 ^ 24
        let (o2, s2) := (s1.farAsk (s1.homePa (line * 64)) pl false).eccRead pl (((errOf errs pl).map (·.pins)).getD [])
        if o2 = .good ∨ o2 = .corrected then
          ((s2.setPoison line false).storeIn (line * 64) (s2.memBytes (pl * 64) 64)).twinRepaired pl 1
        else ((s2.setPoison line true).setPoison pl true).uncorr pl srcPatrol
      | none => s1.poisonOut line srcPatrol

/-- Whether a granule has lines on a memory site (05 R187, R188). -/
def State.granOnSite (s : State) (g n : Nat) : Bool := !s.siteLocal (g * 2 ^ 30) || decide (g % 8 = n)

/-- Whether Harrow scrubs a plot in a memory site: one being torn down that maps a granule there privately (05 R207). -/
def State.scrubsSite (s : State) (n : Nat) : Bool :=
  (List.range 8).any (fun p => (s.plot p).teardown.isSome && (s.plot p).map.any (fun e => match e.2 with
    | some m => !m.common && s.granOnSite m.gran n
    | none => false))

/-- The patrol's next place at or after one: places of a mapped-out channel store nothing. -/
def State.patrolNext (s : State) (n : Nat) : Nat → Nat → Nat
  | 0, pos => pos
  | k + 1, pos => if decide (pos < 2 ^ 30) && s.out? (32 * n + slaChan (pos * 64)) then State.patrolNext s n k (pos + 1) else pos

/-- Mapped-out places that can follow one another: all but one channel's share of 8 KiB, on both sides of its end. -/
def patrolGap : Nat := 256

/-- PATROL_READ: Harrow reads the line stored at the patrol's place, places in rising site-local address (05 R206; log 87).
It pauses while a plot is scrubbed in the site, and goes on where it stopped (05 R207). The first read of a pass takes the
period then set (05 R226), the last place ends it. The relocation region's own addresses store nothing: at its places the
pass reads the relocated blocks (05 R211). -/
def execPatrolRead (n line : Nat) (errs : List LineErr) (s : State) : Res :=
  let m := s.msite n
  let pos := s.patrolNext n patrolGap m.patrolPos
  let pa := s.storePa (line * 64)
  if s.f .MEM_SCRUB_CFG_ENABLE n = 0 ∨ s.scrubsSite n ∨ 2 ^ 33 ≤ line ∨ s.home pa ≠ n ∨ s.sla pa / 64 ≠ pos
      ∨ s.relocBase ≤ lineGran line ∨ s.bankBlocked line then .next s
  else
    let s0 := if m.patrolPos = 0 then s.setMsite n { m with period := s.f .MEM_SCRUB_CFG_PERIOD_H n } else s
    let s1 := s0.patrolLine line errs
    let after := s1.patrolNext n patrolGap (pos + 1)
    if 2 ^ 30 ≤ after then
      let s2 := s1.setMsite n { s1.msite n with patrolPos := 0 }
      .next ((s2.setF .MEM_SCRUB_STATUS_PROGRESS n 0 0).count .MEM_SCRUB_STATUS_PASSES n 0 32 1)
    else
      .next ((s1.setMsite n { s1.msite n with patrolPos := after }).setF .MEM_SCRUB_STATUS_PROGRESS n 0 (after / 2 ^ 14))

/-- Steps 1 and 2 of a repair (05 R203): the bank takes no new request, its accepted ones complete, and the row is read
through ECC; `errs` lists what its lines show. -/
def State.repairStart (s : State) (ch bank row : Nat) (errs : List LineErr) : State :=
  let s1 := s.chanUntil ch (fun c => !c.queue.any (fun x => (s.lineRow x.line).1 == bank))
  let c := s1.sched ch
  let s2 := (s1.setSched ch { c with queue := c.queue.filter (fun x => (s.lineRow x.line).1 != bank) }).setChan ch
    { s1.chan ch with repair := some (bank, row) }
  errs.foldl (fun s e =>
    let (o, s') := s.eccRead e.line e.pins
    if o = .bad then s'.poisonOut e.line srcRepair else s') s2

/-- Steps 3 to 5 of a repair (05 R203): the spare row takes the row's place and its lines, with no error noted of it
yet, and the bank is free again. -/
def State.repairEnd (s : State) (ch bank row : Nat) : State :=
  let c := s.chan ch
  let s0 := { s with mem := { s.mem with rowErr := PTbl.put [] s.mem.rowErr ch (rowKey bank row) [] } }
  let s1 := s0.setChan ch { c with
    spareUsed := NTbl.put 0 c.spareUsed bank (NTbl.at 0 c.spareUsed bank + 1)
    repair := none }
  let s2 := s1.setSched ch { s1.sched ch with rows := NTbl.put none (s1.sched ch).rows bank none }
  ((s2.flag .MEM_ERR_STATUS_PPR_DONE (ch / 32)).wearAdd 3 3 ch (rowKey bank row)).raise 0x2004 sevCorrected 3 ch
    [ch, bank, row]

/-- POST_PACKAGE_REPAIR: a row with corrected errors on four reads in a patrol period begins its repair, or stays in use
when the bank has no spare (05 R203-R205); of a row whose repair has begun, the repair's end. A channel that fails in
between abandons it (05 R204). -/
def execPostPackageRepair (ch bank row : Nat) (errs : List LineErr) (s : State) : Res :=
  let k := rowKey bank row
  let c := s.chan ch
  if c.repair = some (bank, row) then .next (s.repairEnd ch bank row)
  else if (PTbl.at [] s.mem.rowErr ch k).length < 4 ∨ c.failed ∨ c.repair.isSome then .next s
  else
    let s0 := { s with mem := { s.mem with rowErr := PTbl.put [] s.mem.rowErr ch k [] } }
    if 2 ≤ NTbl.at 0 c.spareUsed bank then
      if NTbl.at false c.pprNone bank then .next s0
      else
        let s1 := (s0.setChan ch { c with pprNone := NTbl.put false c.pprNone bank true }).flag
          .MEM_ERR_STATUS_PPR_NONE (ch / 32)
        .next (s1.raise 0x2005 sevCorrected 3 ch [ch, bank, row])
    else .next (s0.repairStart ch bank row errs)

/-! ### Failures -/

/-- MEM_CH_FAIL: a channel fails (05 R208-R210): the stack reports it, or a test finds it. -/
def execMemChFail (ch cause : Nat) (s : State) : Res :=
  if ch < 256 then .next (s.channelFail ch cause) else .next s

/-- CHANNEL_RETRAIN: an interface error retrains the channel; three retrains that do not clear it fail the channel
(05 R208). -/
def execChannelRetrain (ch : Nat) (cleared : Bool) (s : State) : Res :=
  if 256 ≤ ch ∨ (s.chan ch).failed then .next s
  else
    let c := s.chan ch
    if cleared then .next (s.setChan ch { c with retrains := 0 })
    else if 3 ≤ c.retrains + 1 then .next ((s.setChan ch { c with retrains := 0 }).channelFail ch 1)
    else .next (s.setChan ch { c with retrains := c.retrains + 1 })

/-- MEM_SITE_FATAL: a fault in a memory site's logic (05 R185). -/
def execMemSiteFatal (n : Nat) (s : State) : Res :=
  .next (s.memFatal n)

end Sys2Proof.Machine
end

