-- ==== Sys2Proof/Machine/Park.lean ====
section
/-! DEFINITION. Commands of the hub's own units that must wait at a home (08 R310, R311, R315; 05 R204; log 21): such a
command has no effect yet; its accesses join the home's queue as those of any other request do, and the command comes
about when its reads have been made there and its writes hold their lines. -/

namespace Sys2Proof.Machine

/-- Puts a transaction in place of the line's, or last. -/
def State.putHtxn (s : State) (t : HTxn) : State :=
  if (s.htxn t.line).isSome then
    { s with coh := { s.coh with txns := s.coh.txns.map (fun x => if x.line = t.line then t else x) } }
  else { s with coh := { s.coh with txns := s.coh.txns ++ [t] } }

/-- Ends a line's transaction; the coherence trace records it (16 R591). -/
def State.dropHtxn (s0 : State) (line : Nat) : State :=
  let s := match s0.htxn line with
    | some t => s0.cohTrace t
    | none => s0
  { s with coh := { s.coh with txns := s.coh.txns.filter (fun t => t.line != line) } }

/-- An access of a waiting command takes a tracker at its home and joins its line's queue, a write ending read combining for the
line (06 R243), or waits for a tracker (05 R191); one that reaches no home waits for its port's timer. -/
def State.askHome (s : State) (no : Nat) (w : Want) : State :=
  let n := s.homePa (w.line * 64)
  let r : HReq := { cmd := if w.write then 0x101 else 0x100, agent := 9, line := w.line, port := 64, tag := no, cls := w.cls
                    urg := w.urg, mport := w.port, plane := w.plane, since := w.since, limit := w.limit }
  if w.window ∨ w.bank ∨ w.plane = 4 ∨ !s.msAlive n then s
  else if s.trackerOpen n r.c0 then
    let s1 := if w.write then s.combClose w.line else s
    { s1 with coh := { s1.coh with queue := s1.coh.queue ++ [r] } }
  else { s with coh := { s.coh with waiting := s.coh.waiting ++ [r] } }

/-- Nothing of a command is left over from another. -/
def State.cohClear (s : State) : State :=
  { s with coh := { s.coh with canPark := false, stall := [], mine := [], got := [], fails := [], paid := [], spent := []
                               resuming := none } }

/-- The bytes that a command has issued before it waited count in their windows (07 R281). -/
def State.issuedOf (s t : State) : State :=
  { s with mesh := { s.mesh with ports := ((List.range 30).filter (fun p => p / 8 != 1)).foldl (fun q p =>
    NTbl.put {} q p { (NTbl.at {} q p : QPort) with issued := (t.qport p).issued }) s.mesh.ports } }

/-- A command waits for accesses or windows, having issued `spent` bytes; with nothing of its own to wait for, behind an earlier
command of its key. -/
def State.park (s : State) (c : Instr) (key : Nat) (want : List Want) (spent : PTbl Nat) : State :=
  let no := s.coh.parkNo
  let s1 := { s with coh := { s.coh with parkNo := no + 1, parked := s.coh.parked ++ [{ cmd := c, key, no, want, paid := spent }] } }
  want.foldl (fun s w => s.askHome no w) s1

/-- A line's transaction is held for a waiting command. -/
def State.heldFor (s : State) (no line : Nat) (write : Bool) : Bool :=
  match s.htxn line with
  | some t => decide (t.phase = .held) && t.req.port == 64 && t.req.tag == no && t.req.cmd == (if write then 0x101 else 0x100)
  | none => false

/-- Whether a request at a home is an access of a waiting command. -/
def HReq.ofPark (r : HReq) (no : Nat) : Bool := r.mesh && decide (r.port = 64) && r.tag == no

/-- The lines that homes hold for a command are free, and its accesses that have not been answered are given up. -/
def State.parkFree (s : State) (no : Nat) : State :=
  let s1 := ((s.coh.txns.filter (fun t => decide (t.phase = .held) && t.req.ofPark no)).map HTxn.line).foldl State.dropHtxn s
  { s1 with coh := { s1.coh with queue := s1.coh.queue.filter (fun r => !r.ofPark no)
                                 waiting := s1.coh.waiting.filter (fun r => !r.ofPark no) } }

/-- A waiting command that needs more than it first met: what it has read stays, the lines it holds for writes go back, and
all that it waits for joins the queue again (no command holds one line while it waits for another). -/
def State.parkAgain (s : State) (no : Nat) (more : List Want) (spent : PTbl Nat) : State :=
  let s1 := s.parkFree no
  let old := ((s.coh.parked.find? (fun p => p.no == no)).map Parked.want).getD []
  let want := old.filter (fun w => s.coh.mine.contains w.line) ++ more
  let paid := spent.foldl (fun t e => PTbl.put 0 t e.1.1 e.1.2 (PTbl.at 0 t e.1.1 e.1.2 + e.2)) s.coh.paid
  let s2 := { s1 with coh := { s1.coh with parked := s1.coh.parked.map (fun (p : Parked) =>
    if p.no = no then { p with want, got := s.coh.got, fails := s.coh.fails, paid } else p) } }
  (want.foldl (fun s w => s.askHome no w) s2).cohClear

/-- A waiting command has come about: the lines it held are free. -/
def State.parkEnd (s : State) (no : Nat) : State :=
  let s1 := s.parkFree no
  { s1 with coh := { s1.coh with parked := s1.coh.parked.filter (fun p => p.no != no) } }.cohClear

/-- Nothing makes an access of a unit wait (08 R310, R311; 05 R185, R191, R204; 07 R263, R281): no line is busy or held at any home,
no request waits there, no bank is under repair, every memory site answers and has a tracker, a plane is up, and no class has
a ceiling. -/
def State.homesIdle (s : State) : Bool :=
  s.coh.txns.isEmpty && s.coh.queue.isEmpty && s.coh.sf.isEmpty && s.coh.waiting.isEmpty
    && s.mem.chans.all (fun c => c.2.repair.isNone) && s.mesh.reqs.all (fun r => decide (r.phase ≠ .waitTracker))
    && (List.range 8).all (fun n => s.msAlive n && s.trackerFree n false) && decide (s.planesUp ≠ [])
    && s.mesh.ports.all (fun p => p.2.classes.all (fun c => decide (c.2.ceil = 0)))

/-- Runs a command of a unit: it waits where an earlier command of its key waits or where it meets what it must wait for. -/
def parkIf (c : Instr) (key : Nat) (f : State → Res) (s : State) : Res :=
  match s.coh.resuming with
  | some no => match f { s with coh := { s.coh with canPark := true } } with
    | .next t => .next (if t.coh.stall = [] then t.parkEnd no else (s.issuedOf t).parkAgain no t.coh.stall t.coh.spent)
    | r => r
  | none =>
    if s.coh.parked.any (fun p => p.key == key) then .next (s.park c key [] [])
    else match f { s with coh := { s.coh with canPark := !s.homesIdle } } with
      | .next t => .next (if s.homesIdle ∨ t.coh.stall = [] then t.cohClear
        else (s.issuedOf t).park c key t.coh.stall t.coh.spent)
      | r => r

/-- Whether one of the things a command waits for is there: its window; or its line, read or held for it; or a failure of the
access, by a plane (07 R278) or by the port's timer (07 R270, R271). -/
def State.wantReady (s : State) (p : Parked) (w : Want) : Bool :=
  if w.window then (s.qport w.port).fits w.cls w.len
  else if w.bank then !s.bankRepair w.line
  else s.heldFor p.no w.line w.write || (!w.write && p.got.any (fun g => g.1 == w.line)) || p.fails.any (fun e => e.1 == w.line)
    || decide (w.since + w.limit ≤ s.now)

/-- Whether all that a waiting command asked for is there. -/
def State.parkReady (s : State) (p : Parked) : Bool := p.want.all (s.wantReady p)

/-- The first waiting command that may come about: none of its key is before it. -/
def State.resumable (s : State) : Option Parked :=
  s.coh.parked.find? (fun p => s.parkReady p
    && !(s.coh.parked.takeWhile (fun x => x.no != p.no)).any (fun x => x.key == p.key))

/-- The lines whose access has timed out: neither held nor read when the port's timer has expired (07 R271). -/
def State.timeouts (s : State) (p : Parked) : List (Nat × Nat) :=
  (p.want.filter (fun w => !w.window && !w.bank && !s.heldFor p.no w.line w.write && !p.got.any (fun g => g.1 == w.line)
    && !p.fails.any (fun e => e.1 == w.line))).map (fun w => (w.line, stTimeout))

/-- The state in which a waiting command comes about. -/
def State.resuming (s : State) (p : Parked) : State :=
  { s with coh := { s.coh with
    resuming := some p.no, got := p.got, fails := p.fails ++ s.timeouts p, paid := p.paid
    mine := (p.want.filter (fun w => s.heldFor p.no w.line w.write && !p.fails.any (fun e => e.1 == w.line))).map Want.line } }

/-- A command that came about without asking for anything no longer waits. -/
def State.parkDone (s : State) : State :=
  match s.coh.resuming with
  | some no => s.parkEnd no
  | none => s

/-- What orders the commands of a unit: a queue of an engine, a lane stream, a queue pair, an ingest stream, a Sheaf context, a
Headland session, an on-module master of registers, the telemetry export. -/
inductive ParkKey where
  | queue (e q : Nat)
  | stream (e u : Nat)
  | qp (q : Nat)
  | ingest (k : Nat)
  | sheaf (x : Nat)
  | session (n : Nat)
  | master (id : Nat)
  | dump
  deriving DecidableEq, Repr

/-- The key of a master of registers. -/
def ParkKey.ofMaster : Master → ParkKey
  | .session n => .session n
  | .onModule id => .master id

/-- Keys as numbers. -/
def ParkKey.no : ParkKey → Nat
  | .queue e q => 16 * e + q
  | .stream e u => 0x1000 + 64 * e + u
  | .qp q => 0x2000 + q
  | .ingest k => 0x5000 + k
  | .sheaf x => 0x6000 + x
  | .session n => 0x7000 + n
  | .master id => 0x8000 + id
  | .dump => 0x9000

end Sys2Proof.Machine
end

