-- ==== Sys2Proof/Machine/Qos.lean ====
section
/-! DEFINITION. Commits of the regulators' settings (07 R283-R289). -/

namespace Sys2Proof.Machine

/-- Fills QOS_COMMIT_RESULT (07 R293). -/
def State.commitResult (s : State) (seq code isPort loc load limit : Nat) : State :=
  let s1 := (s.setF .QOS_COMMIT_RESULT_SEQ 0 0 seq).setF .QOS_COMMIT_RESULT_CODE 0 0 code
  let s2 := (s1.setF .QOS_COMMIT_RESULT_IS_PORT 0 0 isPort).setF .QOS_COMMIT_RESULT_WHERE 0 0 loc
  (s2.setF .QOS_COMMIT_RESULT_LOAD_GBPS 0 0 load).setF .QOS_COMMIT_RESULT_LIMIT_GBPS 0 0 limit

/-- A port with a class that 07 R285 refuses: a guarantee with no memory site, or a ceiling below the guarantee. -/
def QPort.malformed (q : QPort) : Bool :=
  (List.range 8).any (fun c =>
    let k := q.cls c
    (decide (0 < k.guar) && decide (k.siteMask = 0)) || (decide (0 < k.ceil) && decide (k.ceil < k.guar)))

/-- The controller's status for a commit's CODE (07 R285-R287). -/
def commitStatus (code : Nat) : Nat :=
  match code with
  | 0 => hOk | 1 => hOvercommit | 2 => hBadArg | _ => hBusy

/-- A commit is judged (07 R284-R287): it is scheduled, or QOS_COMMIT_RESULT names what failed. -/
def State.qosCommit (s : State) (seq : Nat) : WRes :=
  let qs := (List.range 30).map s.staged
  if s.mesh.pending ≠ [] then (hBusy, s.commitResult seq 3 0 0 0 0)
  else match (List.range 30).find? (fun p => (qs.getD p {}).malformed) with
    | some p => (hBadArg, s.commitResult seq 2 1 p 0 0)
    | none => match (List.range 8).find? (fun m => decide (4 * 840 * (s.msite m).cap < 5 * load840 qs false m)) with
      | some m => (hOvercommit, s.commitResult seq 1 0 m (load840 qs false m / 840) (4 * (s.msite m).cap / 5))
      | none => match (List.range 30).find? (fun p => decide (4 * s.portCap p < 5 * (qs.getD p {}).guarSum)) with
        | some p => (hOvercommit, s.commitResult seq 1 1 p (qs.getD p {}).guarSum (4 * s.portCap p / 5))
        | none =>
          let s1 := s.commitResult seq 0 0 0 0 0
          (hOk, { s1 with mesh := { s1.mesh with
            pending := s1.mesh.pending ++ [{ windows := 6, commit := some qs }] } })

/-- Puts committed settings in force with their effective guarantees; a rescale that still waits takes the factors of the new
settings (07 R287, R289). -/
def State.commitNow (s : State) (qs : List QPort) : State :=
  let s1 := s.rescale qs
  let s2 := (qs.zipIdx).foldl (fun s x =>
    let q := s.qport x.2
    s.setQport x.2 { q with ranges := x.1.ranges, dflt := x.1.dflt, classes := x.1.classes }) s1
  let s3 := s2.applyEff s2.siteScales s2.portScales
  { s3 with mesh := { s3.mesh with pending := s3.mesh.pending.map (fun p => match p.commit with
    | some _ => p
    | none => { p with sites := s3.siteScales, ports := s3.portScales }) } }

/-- One window end of the commits and rescales that wait (07 R287, R289). -/
def State.pendingTick (s : State) : State :=
  let ps := s.mesh.pending.map (fun p => { p with windows := p.windows - 1 })
  let s1 := { s with mesh := { s.mesh with pending := ps.filter (fun p => decide (p.windows ≠ 0)) } }
  (ps.filter (fun p => decide (p.windows = 0))).foldl (fun s p => match p.commit with
    | some qs => s.commitNow qs
    | none => s.applyEff p.sites p.ports) s1

end Sys2Proof.Machine
end

