-- ==== Sys2Proof/Machine/MboxCore.lean ====
section
/-! DEFINITION. Mailbox channels: their state changes and who hears of them (12 R470, R472-R474). -/

namespace Sys2Proof.Machine

/-- Encodings of HL_MBOX_STATE (12 R475). -/
def MbState.code : MbState → Nat
  | .empty => 0 | .posted => 1 | .taken => 2 | .acked => 3 | .aborted => 4

/-- A mailbox channel. -/
def State.mb (s : State) (c : Nat) : Mbox := NTbl.at {} s.hl.mbox c

/-- Sets a mailbox channel. -/
def State.setMb (s : State) (c : Nat) (v : Mbox) : State :=
  { s with hl := { s.hl with mbox := NTbl.put {} s.hl.mbox c v } }

/-- Whether an identity is a CC core (01 R47). -/
def isCcCore (id : Nat) : Bool := decide (id < 4)

/-- Scope of a channel's Headland endpoint (12 R470, R474). -/
def MbBind.scope (b : MbBind) : Scope :=
  match b.scopePlot with
  | some p => .plots (2 ^ p)
  | none => .op

/-- Tells sessions and CC cores of a channel's new state (12 R470, R474). -/
def State.mbNote (s : State) (c : Nat) : State :=
  let m := s.mb c
  let tell := m.st = .posted ∨ m.st = .acked ∨ m.st = .aborted
  let s1 := if tell ∧ (m.bind.sender = 0x60 ∨ m.bind.receiver = 0x60) then
      s.raise 0x7020 sevNone 11 c [c, m.st.code] m.bind.scope
    else s
  let s2 := if m.st = .posted ∧ isCcCore m.bind.receiver then s1.emit (.interrupt m.bind.receiver c) else s1
  if (m.st = .acked ∨ m.st = .aborted) ∧ isCcCore m.bind.sender then s2.emit (.interrupt m.bind.sender c) else s2

/-- Channels whose receiver satisfies a test are aborted by its reset (12 R472, R473). -/
def State.mbReset (s : State) (t : MbBind → Bool) : State :=
  (List.range 64).foldl (fun s c =>
    let m := s.mb c
    if m.bind.valid ∧ t m.bind ∧ (m.st = .posted ∨ m.st = .taken) then
      (s.setMb c { m with st := .aborted, slot := [] }).mbNote c
    else s) s

/-- Whether an identity is a sub-source of an engine (01 R47). -/
def isEngineId (e id : Nat) : Bool := decide (0x20 + 4 * e ≤ id) && decide (id < 0x24 + 4 * e)

/-- Whether an identity is a chiplet's of a site (01 R47). -/
def isSiteId (n id : Nat) : Bool := decide (0x100 + 0x40 * n ≤ id) && decide (id < 0x140 + 0x40 * n)

/-! ### Ports: fences (07 R273-R276) -/

/-- Whether a port has requests awaiting a response: the mesh's, agents', and those of commands that wait. -/
def State.portBusy (s : State) (p : Nat) : Bool :=
  s.mesh.reqs.any (fun r => r.port == p && !r.late && decide (r.phase = .issued ∨ r.phase = .waitTracker ∨ r.phase = .waitHome))
    || s.cohOut.any (fun r => r.inPort == p)
    || s.coh.parked.any (fun x => x.want.any (fun w => w.port == p && !w.window && !w.bank && decide (s.now < w.since + w.limit)))

/-- FENCE_STATE of a port: 0 open, 1 fencing, 2 fenced. -/
def State.setFence (s : State) (p v : Nat) : State := s.setQport p { s.qport p with fence := v }

/-- A port stops accepting requests; those still waiting at it stay with the unit and are discarded with it
(07 R273, R275); a stub that is in place stays (07 R276). -/
def State.beginFence (s : State) (p : Nat) : State :=
  let s1 := { s with mesh := { s.mesh with
    reqs := s.mesh.reqs.filter (fun (r : Req) => !(r.port == p && decide (r.phase = ReqPhase.waitPort))) } }
  if (s.qport p).fence = 2 then s1 else s1.setFence p 1

end Sys2Proof.Machine
end

