-- ==== Sys2Proof/Machine/EngCore.lean ====
section
/-! DEFINITION. Engines: tile memory, tallies, completion records, queues and hard faults (03, 04). -/

namespace Sys2Proof.Machine

/-- An engine. -/
def State.eng (s : State) (e : Nat) : Eng := NTbl.at {} s.engs e

/-- Sets an engine. -/
def State.setEng (s : State) (e : Nat) (v : Eng) : State := { s with engs := NTbl.put {} s.engs e v }

/-! ### Tile memory (03 R107-R110) -/

/-- Bytes of tile memory. -/
def tileSize : Nat := 0x3000000

/-- `n` bytes of tile memory from an address. -/
def Eng.tileBytes (g : Eng) (a : Nat) : Nat → Bytes
  | 0 => []
  | n + 1 => NTbl.at 0 g.tile a :: g.tileBytes (a + 1) n

/-- First poisoned granule an access touches, as a tile address (03 R110). -/
def Eng.tilePoison (g : Eng) (a n : Nat) : Option Nat :=
  ((linesOf a n).find? (fun l => NTbl.at false g.tpois l)).map (fun l => max a (l * 64))

/-- Writes bytes of tile memory without touching poison marks. -/
def Eng.putTile (g : Eng) (a : Nat) : Bytes → Eng
  | [] => g
  | b :: t => { g with tile := NTbl.put 0 g.tile a b }.putTile (a + 1) t

/-- What is left of a range outside `n` bytes at an address. -/
def Made.cut (a n : Nat) (m : Made) : List Made :=
  if m.addr + m.len ≤ a ∨ a + n ≤ m.addr then [m]
  else
    (if m.addr < a then [{ m with len := a - m.addr, data := m.data.take (a - m.addr) }] else [])
      ++ (if a + n < m.addr + m.len then
        [{ m with addr := a + n, len := m.addr + m.len - (a + n), data := m.data.drop (a + n - m.addr) }] else [])

/-- `n` bytes at an address field are written: nothing there is a LANE order's own any more (02 R90). -/
def Eng.unmake (g : Eng) (a n : Nat) : Eng := { g with made := g.made.flatMap (Made.cut a n) }

/-- Writes tile memory: whole granules clear their poison, poisoned data marks every granule it reaches
(03 R110, 04 R151); what a LANE order had stored there is gone (02 R90), and so are errors of the words written whole. -/
def Eng.tileWrite (g : Eng) (a : Nat) (b : Bytes) (pois : Bool) : Eng :=
  let g0 : Eng := { g.unmake (2 ^ 62 + a) b.length with
    latent := g.latent.filter (fun x => decide (x.addr / 8 * 8 < a ∨ a + b.length < x.addr / 8 * 8 + 8)) }
  let g1 := g0.putTile a b
  let mark := (splitLines (b.length / 64 + 2) a b).foldl (fun m x =>
    if pois then NTbl.put false m (x.1 / 64) true
    else if x.2.length = 64 then NTbl.put false m (x.1 / 64) false else m) g.tpois
  { g1 with tpois := mark }

/-- A SECDED error that is met in tile memory or the accumulators (03 R110): corrected and counted, or the granule is
poisoned. -/
def State.tmError (e : Nat) (s : State) (x : TmErr) : State :=
  if !x.bad then (s.count .CE_ERR_COUNT_CORR e 0 32 1).flag .CE_ERR_STATUS_TM_CORR e
  else
    let s1 := if x.acc.isSome then s else s.setEng e { s.eng e with tpois := NTbl.put false (s.eng e).tpois (x.addr / 64) true }
    (s1.flag .CE_ERR_STATUS_TM_POISON e).raise 0x1018 sevDeferred 1 e [e, x.addr / 64 * 64]

/-- A read of `n` bytes of tile memory meets the errors that lie in its words (03 R110). DESIGN CHOICE (log 74): an error is met
once. -/
def State.tmMeet (s : State) (e a n : Nat) : State :=
  let g := s.eng e
  let hit (x : TmErr) : Bool := decide (n ≠ 0 ∧ x.addr / 8 * 8 < a + n ∧ a < x.addr / 8 * 8 + 8)
  if g.latent.any hit then
    (g.latent.filter hit).foldl (State.tmError e) (s.setEng e { g with latent := g.latent.filter (fun x => !hit x) })
  else s

/-! ### Queues -/

/-- Queue states of CE_WQ_STATUS (04 R129). -/
def qDisabled : Nat := 0
def qRunning : Nat := 1
def qHalted : Nat := 2
def qStopping : Nat := 3

/-- A queue's state. -/
def State.qstate (s : State) (e q : Nat) : Nat := s.f .CE_WQ_STATUS_STATE e q

/-- Scope of an engine's owner alone: its plot, or the operator (02 R94, 04 R139). -/
def State.engScope (s : State) (e : Nat) : Scope :=
  match s.plotOfEngine e with
  | some p => .plots (2 ^ p)
  | none => .op

/-- Changes a running order. -/
def State.updRun (s : State) (e q idx : Nat) (f : Run → Run) : State :=
  let g := s.eng e
  s.setEng e { g with runs := g.runs.map (fun r => if r.q = q ∧ r.idx = idx then f r else r) }

/-- The first started order of a queue that has no record. -/
def Eng.first (g : Eng) (q : Nat) : Option Run := g.runs.find? (fun r => r.q == q)

/-! ### Tallies (04 R167-R172) -/

/-- VALUE of a tally. -/
def State.tally (s : State) (t : Nat) : Nat := s.f .TALLY_VALUE_VALUE t

/-- The plot that owns a tally. -/
def State.plotOfTally (s : State) (t : Nat) : Option Nat :=
  if t < 512 ∧ (s.plot (t / 64)).active then some (t / 64) else none

/-- A pending WAIT is satisfied with the VALUE it was judged against. -/
def State.waitDone (s : State) (w : TWait) (v : Nat) : State :=
  { s with waits := s.waits.filter (fun x => decide (x ≠ w)) }.updRun w.e w.q w.idx
    (fun r => { r with done := true, finished := true, aux0 := v })

/-- Judges the consuming WAITs of a tally, oldest first, until one is not satisfied (04 R169). -/
def State.judgeConsuming (t : Nat) : List TWait → State → State
  | [], s => s
  | w :: ws, s =>
    if w.amount ≤ s.tally t then
      State.judgeConsuming t ws ((s.waitDone w (s.tally t)).setF .TALLY_VALUE_VALUE t 0 (s.tally t - w.amount))
    else s

/-- Judges the WAITs pending on a tally after an operation on it (04 R169). -/
def State.judge (s : State) (t : Nat) : State :=
  let v := s.tally t
  let s1 := (s.waits.filter (fun w => decide (w.tally = t ∧ w.consume = false ∧ w.amount ≤ v))).foldl
    (fun s w => s.waitDone w v) s
  State.judgeConsuming t (s1.waits.filter (fun w => decide (w.tally = t ∧ w.consume = true))) s1

/-- WAITs leave their tallies' queues without being satisfied; a consuming WAIT that is now the oldest of its tally is judged
(04 R169, R170). -/
def State.dropWaits (s : State) (p : TWait → Bool) : State :=
  ((s.waits.filter p).map TWait.tally).eraseDups.foldl State.judge { s with waits := s.waits.filter (fun w => !p w) }

/-- Sets a tally's VALUE (04 R167). -/
def State.setTally (s : State) (t v : Nat) : State := (s.setF .TALLY_VALUE_VALUE t 0 v).judge t

/-- A SIGNAL adds AMOUNT and saturates (04 R168). -/
def State.signalTally (s : State) (t amount : Nat) : State :=
  let x := s.tally t + amount
  let s1 := s.setF .TALLY_VALUE_VALUE t 0 (min x 0xFFFFFFFF)
  let s2 := if 0xFFFFFFFF < x then
      (s1.setF .TALLY_OVF_OVF (t / 64) 0 (setBit (s1.f .TALLY_OVF_OVF (t / 64)) (t % 64) true)).raise 0x7080 sevNone 13 t
        [t] (match s1.plotOfTally t with
          | some p => .plots (2 ^ p)
          | none => .op)
    else s1
  s2.judge t

/-! ### Completion (04 R173-R178) -/

/-- Status codes of 04 R178. -/
def csOk : Nat := 0
def csFlags : Nat := 1
def csTrapped : Nat := 2
def csPlotFault : Nat := 3
def csPoison : Nat := 4
def csTimeout : Nat := 5
def csAborted : Nat := 6
def csIllegal : Nat := 7
def csEngineFault : Nat := 8

/-- Completion status and fault code for a mesh STATUS (07 R262). -/
def meshCompletion (st : Nat) : Nat × Nat :=
  match st with
  | 1 => (csPoison, 0x0301)
  | 3 => (csPlotFault, 0x0201)
  | 4 => (csTimeout, 0x0401)
  | _ => (csAborted, 0x0502)

/-- A run that ends with a status, fault code and 64-bit address or pair. -/
def Run.fail (r : Run) (st fault addr : Nat) : Run :=
  { r with done := true, status := st, fault := fault, aux0 := addr % 2 ^ 32, aux1 := addr / 2 ^ 32 % 2 ^ 32 }

/-- The unit of its engine that makes an order's accesses (01 R47; 03 R102; 04 R165): 0 arrays, 1 lanes, 2 data mover. -/
def opMaster (op : Nat) : Nat := if op / 16 = 1 then 0 else if op / 16 = 2 then 1 else 2

/-- NaN elements among the first `n` bytes of a write (02 R92). -/
def OutWr.nansIn (o : OutWr) (n : Nat) : Nat := ((o.nans.filter (fun x => decide (x.1 < n))).map Prod.snd).sum

/-- Performs an order's writes, counting the NaN elements written (02 R92), also those of the requests that a refused write
had made before; the first write that is refused decides the status (04 R173, R180). -/
def State.performOuts (e : Nat) : List OutWr → Run → State → Run × State
  | [], r, s => (r, s)
  | o :: os, r, s =>
    let wrote (n : Nat) : Run := { r with nans := min 65535 (r.nans + o.nansIn n) }
    if o.addr / 2 ^ 62 = 1 then
      State.performOuts e os (wrote o.bytes.length) (s.setEng e ((s.eng e).tileWrite (o.addr % 2 ^ 26) o.bytes o.pois))
    else
      let (st, a, s1) := s.wr (s.engSrc e (opMaster r.op)) o.addr o.bytes o.pois (some { e := e, q := r.q, idx := r.idx })
      if st = stOk then State.performOuts e os (wrote o.bytes.length) s1
      else let (c, fc) := meshCompletion st
        ((wrote (a - o.addr)).fail c fc a, s1)

/-- Whether writes of an order, or of one of its scalar units, into site windows still await their responses (04 R173). -/
def State.runWaits (s : State) (e q idx : Nat) (unit : Option Nat := none) : Bool := s.mesh.reqs.any (fun r => !r.late
  && match r.run with
    | some x => decide (x.e = e ∧ x.q = q ∧ x.idx = idx) && (match unit with
      | some u => x.unit == u
      | none => true)
    | none => false)

/-- The 32 bytes of a completion record (04 R177). -/
def Run.record (r : Run) (e phase cycles : Nat) : Bytes :=
  leBytes 1 r.status ++ leBytes 1 (r.flags % 16 + 128 * phase) ++ leBytes 2 (min r.nans 65535) ++ leBytes 4 r.idx
    ++ slice r.order 8 8 ++ leBytes 4 r.aux0 ++ leBytes 4 r.aux1 ++ leBytes 1 (r.q + 16 * e)
    ++ slice r.order 0 1 ++ leBytes 2 r.fault ++ leBytes 4 (min cycles 0xFFFFFFFF)

/-- Writes a record into the completion ring and advances CQ_TAIL (04 R130, R136, R174). -/
def State.writeRecord (s : State) (e : Nat) (r : Run) : State :=
  let lg := s.f .CE_CQ_CFG_LOG2_SIZE e r.q
  let slot := s.f .CE_CQ_BASE_BASE e r.q * 4096 + r.idx % 2 ^ lg * 32
  let phase := if r.idx / 2 ^ lg % 2 = 0 then 1 else 0
  let (_, _, s1) := s.wr (s.engSrc e 2) slot (r.record e phase ((s.dom e).cycles - r.start))
  s1.setF .CE_WQ_STATUS_CQ_TAIL e r.q ((r.idx + 1) % 2 ^ 32)

/-- The flags a run carries when it ends well. -/
def Run.final (r : Run) : Run := if r.status = csOk ∧ r.flags ≠ 0 then { r with status := csFlags } else r

/-- Bit of the order's FLAGS (04 R143). -/
def Run.flagBit (r : Run) (i : Nat) : Bool := bit (leAt r.order 1 1) i

/-- A queue in STOPPING with nothing running becomes DISABLED (04 R137). -/
def State.settleQueue (s : State) (e q : Nat) : State :=
  if s.qstate e q = qStopping ∧ ((s.eng e).first q).isNone then
    (s.setF .CE_WQ_STATUS_STATE e q qDisabled).setF .CE_WQ_CFG_ENABLE e q 0
  else s

/-- Writes the record of the oldest order of a queue, with its events, and halts the queue where its status asks for it
(02 R94, 04 R138, R139, R174). DESIGN CHOICE (log 110): ENG_ARITH, ENG_TRAPPED and the like take their sequence number and their
place in the module log whether or not a session is subscribed. -/
def State.finishRun (s : State) (e : Nat) (r0 : Run) : State :=
  let r := r0.final
  let s1 := s.writeRecord e r
  let g := s1.eng e
  let s2 := s1.setEng e { g with
    runs := g.runs.filter (fun x => !(decide (x.q = r.q) && decide (x.idx = r.idx)))
    streams := g.streams.filter (fun x => match x.2 with
      | some t => !(decide (t.q = r.q) && decide (t.idx = r.idx))
      | none => false)
    made := g.made.filter (fun m => !(decide (m.q = r.q) && decide (m.idx = r.idx))) }
  let s3 := if r.flags ≠ 0 then s2.raise 0x1040 sevNone 1 e [e, r.q, r.idx, r.flags, min 65535 r.nans] (s2.engScope e)
    else s2
  let s4 := if csFlags < r.status ∧ !r.flagBit 2 ∧ s3.qstate e r.q = qRunning then
      (s3.setF .CE_WQ_STATUS_STATE e r.q qHalted).raise 0x1030 sevNone 1 e [e, r.q, r.idx, r.status] (s3.engScope e)
    else s3
  s4.settleQueue e r.q

/-! ### Hard faults and loss of contents (03 R104, R111; 04 R181, R182) -/

/-- What an engine loses when it leaves PRESENT (03 R111). -/
def Eng.cleared (g : Eng) : Eng := { faultOwner := g.faultOwner }

/-- PWR_FALLOW_RESULT follows the latest request's unit (03 R119). -/
def State.fallowReport (s : State) (cls unit phase code : Nat) : State :=
  if s.fallowUnit = some (cls, unit) then
    (s.setF .PWR_FALLOW_RESULT_PHASE 0 0 phase).setF .PWR_FALLOW_RESULT_CODE 0 0 code
  else s

/-- PSTATE of an engine: 0 RUN, 1 IDLE, 2 draining, 3 fencing, 4 off, 5 waking (03 R124). -/
def State.pstate (s : State) (e : Nat) : Nat := s.f .CE_STATUS_PSTATE e

/-- A protective stop holds. -/
def State.stopped (s : State) : Bool := s.f .PWR_STATUS_STOP == 1

/-! ### Rails (15 R545-R549) -/

/-- Whether the rails of a site are on: off at power-up, on from before SITEn_RST_N is released until the site is off or
FAILED (15 R545, R549). -/
def State.siteRails (s : State) (n : Nat) : Bool := !s.stopped && (s.link n).rails

/-- Whether the hub keeps a rail on (15 R545, R549, R564 step 4). -/
def State.railOn (s : State) (r : Nat) : Bool :=
  if r < 8 then
    let st := (s.unit .engine r).st
    !(s.stopped || decide ((st = some .failed ∧ (s.qport r).fence ≠ 1) ∨ st = some .retired ∨ (st = some .fallow ∧ s.pstate r = 4)))
  else decide (r < 16) || s.siteRails ((r - 16) / 2)

/-- STATE of a rail: 0 off, 1 on, 2 fault. -/
def State.railState (s : State) (r : Nat) : Nat := if bit s.pwr.railFault r then 2 else b2n (s.railOn r)

/-- A PMBus write to a rail's regulator, at its ADDR and PAGE (15 R545, R546; log 103). -/
def State.pmbus (s : State) (r cmd value : Nat) : State :=
  s.emit (.pmbus r (s.f .PWR_RAIL_CFG_ADDR r) (s.f .PWR_RAIL_CFG_PAGE r) cmd value)

/-- VOUT_COMMAND: a rail's set voltage, in mV. -/
def State.setVolt (s : State) (r mv : Nat) : State :=
  { s with pwr := { s.pwr with volts := NTbl.put none s.pwr.volts r (some mv) } }.pmbus r 0x21 mv

/-- Sets VDD_CEe to the fused voltage of a step (15, DVFS table; PWR_VID). -/
def State.stepVolt (s : State) (e k : Nat) : State := s.setVolt e (5 * NTbl.at 0 s.fuses.vid k)

/-- Switches a rail on, at its voltage: the step's, VCORE_MV, or the nominal one (15 R549). -/
def State.railUp (s : State) (r : Nat) : State :=
  let s1 := if r < 8 then s.stepVolt r (s.f .PWR_ZONE_STATUS_STEP r)
    else if r % 2 = 0 then s.setVolt r (s.f .PWR_SITE_CFG_VCORE_MV ((r - 16) / 2)) else s
  s1.pmbus r 0x01 0x80

/-- Switches the rails whose demand has changed since `old`: VSITEn_AUX is first up and last down (15 R549). -/
def State.railsFollow (s old : State) : State :=
  let sites := (List.range 8).flatMap (fun n => [17 + 2 * n, 16 + 2 * n])
  let ups := (List.range 8 ++ sites).filter (fun r => s.railOn r && !old.railOn r)
  let downs := (List.range 8 ++ sites.reverse).filter (fun r => !s.railOn r && old.railOn r)
  downs.foldl (fun x r => x.pmbus r 0x01 0) (ups.foldl State.railUp s)

/-- Stops an engine's clock domain. -/
def State.stopDom (s : State) (d : Nat) : State :=
  (s.setDom d { s.dom d with running := false }).setF .CLK_DOM_STATUS_RELEASED d 0 0

/-- Flags that an order has gathered when it ends before its time (02 R91): all, where its instructions have run or its writes
are made; otherwise those of the pieces it has written, and a free part of the others, which it may have computed. -/
def Run.gathered (r : Run) (outs : List OutWr) (k : Nat) : Nat :=
  if r.finished || r.op == 0x20 then r.flags
  else outs.foldl (fun a o => a ||| o.flags) (r.flags &&& Config.free k)

/-- The OUT_BYTES copy that a LANE order whose streams have ended is about to make (04 R158, R165). -/
def Eng.laneCopy (g : Eng) (r : Run) : List OutWr :=
  let n := leAt r.order 120 4
  let a := leAt r.order 112 8 % 2 ^ 26
  if r.op = 0x20 ∧ r.done = true ∧ r.finished = false ∧ r.status = csOk ∧ n ≠ 0 ∧ g.tilePoison a n = none then
    [{ addr := leAt r.order 32 8, bytes := g.tileBytes a n }]
  else []

/-- What a lost order had done when its engine failed is open (04 R183): a free part of its writes, its SIGNAL or not. -/
def State.lostOrder (s0 : State) (e : Nat) (r : Run) : Run × State :=
  let k := s0.freeCtr
  let outs := ((r.outs ++ (s0.eng e).laneCopy r).zipIdx.filter (fun o => decide (Config.free (k + 3 + o.2) % 2 = 1))).map Prod.fst
  let (r1, s) := State.performOuts e outs r { s0 with freeCtr := k + 4 + r.outs.length }
  let s1 := if r.op = 0x02 ∧ r.status = csOk ∧ Config.free (k + 1) % 2 = 1 then
      s.signalTally (match s.plotOfEngine e with
        | some p => 64 * p + leAt r.order 88 2
        | none => leAt r.order 88 2) (leAt r.order 92 4)
    else s
  ({ r1 with flags := r.gathered outs k }, s1)

/-- ENGINE_FAULT records for every started order, queue by queue (04 R181), with their events (02 R94); without records
where the fault lies in the front end. -/
def State.faultRecords (s : State) (e : Nat) (records : Bool) : State :=
  (s.eng e).runs.foldl (fun s r0 =>
    let (r, s1) := s.lostOrder e r0
    if records then
      let s2 := s1.writeRecord e (r.fail csEngineFault 0x0601 0)
      if r.flags % 16 ≠ 0 then s2.raise 0x1040 sevNone 1 e [e, r.q, r.idx, r.flags % 16, min 65535 r.nans] (s2.engScope e)
      else s2
    else s1) s

/-- Records NEXT and TAIL of every queue at the port stub; the mask of queues that hold work (04 R181, R182). -/
def State.faultQueues (s : State) (e : Nat) : Nat × State :=
  (List.range 16).foldl (fun (a : Nat × State) q =>
    let next := a.2.f .CE_WQ_STATUS_CQ_TAIL e q
    let tail := a.2.f .CE_WQ_TAIL_TAIL e q
    (if next ≠ tail then setBit a.1 q true else a.1,
      (a.2.setF .CE_FAULT_Q_NEXT e q next).setF .CE_FAULT_Q_TAIL e q tail)) (0, s)

/-- A hard fault of an engine (04 R181): records, CE_FAULT_Q, fence, FAILED; `report` false where CLK_UNLOCK or another
event is the only report (14 R522). Its domain stops once the port is fenced (07 R273 step 4). One found in an engine that has failed is reported and changes nothing (01 R631). -/
def State.engineFault (s : State) (e cause : Nat) (frontEnd report : Bool) : State :=
  let st := (s.unit .engine e).st
  if st = some .retired then s
  else if st = some .failed then
    if report then (s.flag .CE_ERR_STATUS_HARD_FAULT e).raise 0x1020 sevUnitFatal 1 e [0, cause] else s
  else
    let owner := s.plotOfEngine e
    let s1 := s.faultRecords e (!frontEnd)
    let (mask, s2) := if cause = 3 then (0, s1) else s1.faultQueues e
    let s3 := s2.setEng e { (s2.eng e).cleared with faultOwner := owner }
    let s4 := s3.dropWaits (fun w => w.e == e)
    let s5 := (s4.beginFence e).flag .CE_ERR_STATUS_HARD_FAULT e
    let s6 := if report then s5.raise 0x1020 sevUnitFatal 1 e [mask, cause] else s5
    let s7 := (s6.setUnit .engine e .failed).setF .CE_STATUS_PSTATE e 0 4
    let s8 := (s7.fallowReport 0 e 5 5).mbReset (fun b => isEngineId e b.receiver)
    (if s8.portBusy e then s8 else (s8.setFence e 2).stopDom e).railsFollow s

/-- The step the governor assigns to an engine: the slowest of the top step and the two caps (15 R550). A FREQ_MHZ that
has not been written sets no top step. -/
def State.stepTarget (s : State) (e : Nat) : Nat :=
  max (if s.f .CLK_DOM_CFG_FREQ_MHZ e = 0 then 0 else (1000 - s.f .CLK_DOM_CFG_FREQ_MHZ e) / 100) (max (s.f .PWR_ZONE_STATUS_CAP_THERM e) (s.f .PWR_ZONE_STATUS_CAP_POWER e))

/-- Puts a step in force: its clock (15, DVFS table). -/
def State.putStep (s : State) (e k : Nat) : State :=
  (s.setF .PWR_ZONE_STATUS_STEP e 0 k).setF .CLK_DOM_STATUS_FREQ_ACT e 0 (1000 - 100 * k)

end Sys2Proof.Machine
end

