-- ==== Sys2Proof/Machine/Operands.lean ====
section
/-! DEFINITION. Work orders: their fields (04 R143, R144), and the checks made before issue, in the order of 04 R633. -/

namespace Sys2Proof.Machine

/-- A work order's fields (04 R143). -/
structure Wo where
  op : Nat
  flags : Nat
  fa : Nat
  fb : Nat
  fc : Nat
  hi3 : Nat
  rsv : Nat
  a : Nat
  b : Nat
  c : Nat
  sa : Nat
  sb : Nat
  sc : Nat
  m : Nat
  n : Nat
  k : Nat
  sta : Nat
  stb : Nat
  stc : Nat
  raw : Bytes
  deriving DecidableEq, Repr

/-- Reads a work order from its 128 bytes (04 R143). -/
def Wo.parse (b : Bytes) : Wo :=
  { op := leAt b 0 1, flags := leAt b 1 1, fa := leAt b 2 1 % 16, fb := leAt b 2 1 / 16, fc := leAt b 3 1 % 16,
    hi3 := leAt b 3 1 / 16, rsv := leAt b 4 4, a := leAt b 16 8, b := leAt b 24 8, c := leAt b 32 8,
    sa := leAt b 40 8, sb := leAt b 48 8, sc := leAt b 56 8, m := leAt b 64 4, n := leAt b 68 4, k := leAt b 72 4,
    sta := leAt b 76 4, stb := leAt b 80 4, stc := leAt b 84 4, raw := b }

/-- A field of ARGS: `n` bytes at offset `o` of the order. -/
def Wo.arg (w : Wo) (o n : Nat) : Nat := leAt w.raw o n

/-- Opcodes of 04 R150. -/
def opNop : Nat := 0x00
def opWait : Nat := 0x01
def opSignal : Nat := 0x02
def opMatmul : Nat := 0x10
def opMatmulAcc : Nat := 0x11
def opConv : Nat := 0x12
def opLane : Nat := 0x20
def opReduce : Nat := 0x21
def opCopy : Nat := 0x30
def opConvert : Nat := 0x31
def opTranspose : Nat := 0x32
def opGather : Nat := 0x33
def opScatter : Nat := 0x34
def opPrefetch : Nat := 0x40
def opWriteback : Nat := 0x41

/-- The opcodes that are not reserved. -/
def woOpcodes : List Nat :=
  [0x00, 0x01, 0x02, 0x10, 0x11, 0x12, 0x20, 0x21, 0x30, 0x31, 0x32, 0x33, 0x34, 0x40, 0x41]

/-- MATMUL, MATMUL_ACC or CONV. -/
def Wo.matrix (w : Wo) : Bool := w.op == opMatmul || w.op == opMatmulAcc || w.op == opConv

/-- GATHER or SCATTER. -/
def Wo.indexed (w : Wo) : Bool := w.op == opGather || w.op == opScatter

/-- PREFETCH_LLC or WRITEBACK. -/
def Wo.llcOp (w : Wo) : Bool := w.op == opPrefetch || w.op == opWriteback

/-- NOP, WAIT or SIGNAL. -/
def Wo.frontEnd (w : Wo) : Bool := w.op == opNop || w.op == opWait || w.op == opSignal

/-! ### Which fields an opcode uses (04 R632) -/

def Wo.usesFa (w : Wo) : Bool := w.matrix || w.op == opReduce || w.op == opConvert || w.op == opTranspose
def Wo.usesFb (w : Wo) : Bool := w.matrix || w.indexed
def Wo.usesFc (w : Wo) : Bool := w.usesFa
def Wo.usesA (w : Wo) : Bool := !w.frontEnd
def Wo.usesB (w : Wo) : Bool := w.matrix || w.op == opLane || w.indexed
def Wo.usesC (w : Wo) : Bool := !w.frontEnd && !w.llcOp
def Wo.usesSa (w : Wo) : Bool := (w.matrix || w.op == opConvert) && fmtBlock w.fa
def Wo.usesSb (w : Wo) : Bool := w.matrix && fmtBlock w.fb
def Wo.usesSc (w : Wo) : Bool := (w.matrix || w.op == opConvert || w.op == opReduce) && fmtBlock w.fc
def Wo.usesStA (w : Wo) : Bool := !w.frontEnd && w.op != opLane
def Wo.usesStB (w : Wo) : Bool := w.matrix
def Wo.usesStC (w : Wo) : Bool :=
  w.matrix || w.op == opCopy || w.op == opConvert || w.op == opTranspose || w.indexed

/-- CONV's ARGS of dimension `i` (04 R153): a dimension at or above NDIM counts as size 1 without padding. -/
structure ConvDim where
  inp : Nat
  ker : Nat
  str : Nat
  dil : Nat
  lo : Nat
  hi : Nat
  deriving DecidableEq, Repr

def Wo.ndim (w : Wo) : Nat := w.arg 88 1

def Wo.convDim (w : Wo) (i : Nat) : ConvDim :=
  if i < w.ndim then
    { inp := w.arg (92 + 2 * i) 2, ker := w.arg (98 + 2 * i) 2, str := w.arg (104 + i) 1, dil := w.arg (107 + i) 1,
      lo := w.arg (110 + i) 1, hi := w.arg (113 + i) 1 }
  else { inp := 1, ker := 1, str := 1, dil := 1, lo := 0, hi := 0 }

/-- Output size of a dimension (04 R154), 0 where it is below 1. -/
def ConvDim.out (d : ConvDim) : Nat :=
  let span := d.dil * (d.ker - 1) + 1
  if d.inp + d.lo + d.hi < span then 0 else (d.inp + d.lo + d.hi - span) / d.str + 1

/-- Product of a dimension figure over the three dimensions. -/
def Wo.convProd (w : Wo) (f : ConvDim → Nat) : Nat := f (w.convDim 0) * f (w.convDim 1) * f (w.convDim 2)

/-- Rows of the matrix product (04 R154). -/
def Wo.rows (w : Wo) : Nat := if w.op = opConv then w.m * w.convProd ConvDim.out else w.m

/-- Depth of the matrix product (04 R154). -/
def Wo.depth (w : Wo) : Nat := if w.op = opConv then w.convProd ConvDim.ker * w.k else w.k

/-! ### Address fields (04 R144) -/

/-- What an address field names. -/
inductive Space where
  | tile | mem | red (k : Nat) | site | ctl | unmapped | reserved
  deriving DecidableEq, Repr

/-- The space of an address field. -/
def spaceOf (x : Nat) : Space :=
  match x / 2 ^ 62 with
  | 0 => match target (x % 2 ^ 52) with
    | .mem _ => .mem
    | .red k _ => .red k
    | .site _ => .site
    | .ctl _ => .ctl
    | .unmapped => .unmapped
  | 1 => .tile
  | _ => .reserved

/-- Unused bits of an address field (04 R144). -/
def addrBitsBad (x : Nat) : Bool :=
  match x / 2 ^ 62 with
  | 0 => decide (x % 2 ^ 62 / 2 ^ 52 ≠ 0)
  | 1 => decide (x % 2 ^ 62 / 2 ^ 26 ≠ 0)
  | _ => false

/-- The address inside its space. -/
def addrOf (x : Nat) : Nat := if x / 2 ^ 62 = 1 then x % 2 ^ 26 else x % 2 ^ 52

/-- First failing entry of a list of (offset, fails). -/
def firstBad (l : List (Nat × Bool)) : Option Nat := (l.find? (fun x => x.2)).map Prod.fst

/-- Order 2 of 04 R633: reserved or unused fields, ARGS ranges. -/
def Wo.argsBad (w : Wo) (plot : Bool) : List (Nat × Bool) :=
  let z (o n : Nat) : Nat × Bool := (o, decide (w.arg o n ≠ 0))
  let tly : Nat × Bool := (88, decide ((if plot then 63 else 4095) < w.arg 88 2))
  if w.op = opWait then [tly, (90, decide (1 < w.arg 90 1)), z 91 1, (92, decide (w.arg 92 4 = 0)), z 100 28]
  else if w.op = opSignal then [tly, z 90 1, z 91 1, (92, decide (w.arg 92 4 = 0)), z 96 4, z 100 28]
  else if w.op = opConv then [z 90 2, z 116 12]
  else if w.op = opLane then
    [(88, decide (1023 < w.arg 88 2)), (90, decide (w.arg 90 1 = 0 ∨ 15 < w.arg 90 1)), (91, decide (1 < w.arg 91 1)),
      (112, addrBitsBad (w.arg 112 8)), z 124 4]
  else if w.op = opReduce then
    [(88, decide (4 < w.arg 88 1)), (89, decide (w.arg 89 1 = 0 ∨ 15 < w.arg 89 1)), z 90 38]
  else if w.indexed then [(92, decide (1 < w.arg 92 1)), z 93 35]
  else [z 88 40]

/-- Order 2 of 04 R633. DESIGN CHOICE (log 92): a WAIT with OVERLAP set, which 04 R150 forbids, fails here, with AUX0 at FLAGS. -/
def Wo.check2 (w : Wo) (plot : Bool) : Option Nat :=
  let adr (used : Bool) (o x : Nat) : Nat × Bool := (o, if used then addrBitsBad x else decide (x ≠ 0))
  let un (used : Bool) (o x : Nat) : Nat × Bool := (o, !used && decide (x ≠ 0))
  firstBad ([(1, decide (7 < w.flags) || (w.op == opWait && bit w.flags 0)),
    (2, (!w.usesFa && decide (w.fa ≠ 0)) || (!w.usesFb && decide (w.fb ≠ 0))),
    (3, decide (w.hi3 ≠ 0) || (!w.usesFc && decide (w.fc ≠ 0))),
    (4, decide (w.rsv ≠ 0)),
    adr w.usesA 16 w.a, adr w.usesB 24 w.b, adr w.usesC 32 w.c,
    adr w.usesSa 40 w.sa, adr w.usesSb 48 w.sb, adr w.usesSc 56 w.sc,
    un w.usesStA 76 w.sta, un w.usesStB 80 w.stb, un w.usesStC 84 w.stc] ++ w.argsBad plot)

/-- Order 3 of 04 R633: dimensions. -/
def Wo.check3 (w : Wo) : Option Nat :=
  let no32 (x : Nat) : Bool := decide (x % 32 ≠ 0)
  if w.frontEnd then firstBad [(64, decide (w.m ≠ 0)), (68, decide (w.n ≠ 0)), (72, decide (w.k ≠ 0))]
  else if w.op = opLane then none
  else if w.matrix then
    firstBad [(64, decide (w.m = 0)), (68, decide (w.n = 0) || (fmtBlock w.fc && no32 w.n)),
      (72, decide (w.k = 0) || ((fmtBlock w.fa || fmtBlock w.fb) && no32 w.k))]
  else
    let four := w.op == opTranspose && fmtBits w.fa == 4
    let blk := (w.op == opConvert && (fmtBlock w.fa || fmtBlock w.fc)) || (w.op == opReduce && fmtBlock w.fc)
    firstBad [(64, decide (w.m = 0) || (four && w.m % 2 == 1)),
      (68, decide (w.n = 0) || (four && w.n % 2 == 1) || (blk && no32 w.n)), (72, decide (w.k ≠ 0))]

/-- Order 4 of 04 R633: CONV geometry (04 R153, R154). DESIGN CHOICE (log 93): for an output size below 1, AUX0 is the offset of
that dimension's IN_SIZE. -/
def Wo.check4 (w : Wo) : Option Nat :=
  if w.op ≠ opConv then none
  else
    let nd := w.ndim
    let each (o sz : Nat) (pad : Bool) : List (Nat × Bool) := (List.range 3).map (fun i =>
      let v := w.arg (o + sz * i) sz
      (o + sz * i, if i < nd then !pad && decide (v = 0) else decide (v ≠ 0)))
    match firstBad ([(88, decide (nd = 0 ∨ 3 < nd)), (89, decide (1 < w.arg 89 1))] ++ each 92 2 false
        ++ each 98 2 false ++ each 104 1 false ++ each 107 1 false ++ each 110 1 true ++ each 113 1 true) with
    | some o => some o
    | none => firstBad ((List.range 3).map (fun i => (92 + 2 * i, decide ((w.convDim i).out = 0))))

/-- Order 5 of 04 R633: formats differ (02 R64). -/
def Wo.check5 (w : Wo) : Option Nat := if w.matrix && w.fa != w.fb then some 2 else none

/-- Whether a matrix or REDUCE order accumulates in INT32 (02 R66, 04 R155). -/
def Wo.intAcc (w : Wo) : Bool :=
  if w.op = opReduce then decide (3 ≤ w.arg 88 1) else w.fa == 0 || w.fa == 3

/-- Order 6 of 04 R633: formats not allowed (02 R64, R71; 04 R150, R155). -/
def Wo.check6 (w : Wo) : Option Nat :=
  let outBad := !fmtOk w.fc || (!w.intAcc && w.fc == 12)
  if w.matrix then
    firstBad [(2, decide (10 < w.fa)), (3, outBad || (w.op == opMatmulAcc && fmtBlock w.fc))]
  else if w.op = opReduce then
    firstBad [(2, if w.intAcc then !fmtInt w.fa else !(w.fa == 5 || w.fa == 6 || w.fa == 9 || w.fa == 10 || w.fa == 11)),
      (3, outBad)]
  else if w.op = opConvert then firstBad [(2, !fmtOk w.fa), (3, !fmtOk w.fc)]
  else if w.op = opTranspose then firstBad [(2, !fmtOk w.fa), (3, w.fc != w.fa)]
  else if w.indexed then firstBad [(2, w.fb != 12)]
  else none

/-- Whether a space is among those an operand allows; an unmapped address is left to the port (01 R51). -/
def Space.among (x : Space) (tile mem red site : Bool) : Bool :=
  match x with
  | .tile => tile
  | .mem => mem
  | .red _ => red
  | .site => site
  | .ctl => false
  | .unmapped => mem || red || site
  | .reserved => false

/-- LANE's output: OUT_SRC and OUT_BYTES (04 R158). -/
def Wo.outSrc (w : Wo) : Nat := w.arg 112 8
def Wo.outBytes (w : Wo) : Nat := w.arg 120 4

/-- Order 7 of 04 R633: spaces (04 R144, R149, R150). DESIGN CHOICE (log 111): an OUT_SRC that is neither zero nor a tile address,
or zero where OUT_BYTES is not, fails here; SCATTER's source, for which 04 R150 names no space, is tile memory or memory. -/
def Wo.check7 (w : Wo) : Option Nat :=
  let bad (used : Bool) (o x : Nat) (t m al si : Bool) : Nat × Bool := (o, used && !(spaceOf x).among t m al si)
  if w.matrix then
    let al := w.op != opMatmulAcc
    firstBad [bad true 16 w.a true false false false, bad true 24 w.b true false false false,
      bad true 32 w.c true true al false, bad w.usesSa 40 w.sa true false false false,
      bad w.usesSb 48 w.sb true false false false, bad w.usesSc 56 w.sc true true false false]
  else if w.op = opReduce then
    firstBad [bad true 16 w.a true false false false, bad true 32 w.c true true true false,
      bad w.usesSc 56 w.sc true true false false]
  else if w.op = opCopy ∨ w.op = opConvert then
    firstBad [bad true 16 w.a true true false true, bad true 32 w.c true true true true,
      bad w.usesSa 40 w.sa true true false true, bad w.usesSc 56 w.sc true true false true]
  else if w.op = opTranspose then
    firstBad [bad true 16 w.a true true false false, bad true 32 w.c true true false false]
  else if w.op = opGather then
    firstBad [bad true 16 w.a true true false false, bad true 24 w.b true true false false,
      bad true 32 w.c true true false false]
  else if w.op = opScatter then
    firstBad [bad true 16 w.a true true false false, bad true 24 w.b true true false false,
      bad true 32 w.c true true true false]
  else if w.llcOp then firstBad [bad true 16 w.a false true false false]
  else if w.op = opLane then
    let out := decide (w.outBytes ≠ 0)
    let any (x : Nat) : Bool := decide (spaceOf x = .reserved)
    firstBad [(16, any w.a), (24, any w.b), (32, any w.c || (out && !(spaceOf w.c).among false true true false)),
      (112, decide (spaceOf w.outSrc ≠ .tile ∧ (w.outSrc ≠ 0 ∨ out = true)))]
  else none

/-- Order 8 of 04 R633: the alias's format (04 R149). -/
def Wo.check8 (w : Wo) : Option Nat :=
  if !w.usesFc then none
  else match spaceOf w.c with
    | .red 1 => if w.fc = 11 then none else some 3
    | .red 2 => if w.fc = 9 then none else some 3
    | .red _ => if w.fc = 12 then none else some 3
    | _ => none

/-- The physical tally a WAIT or SIGNAL names (04 R152). -/
def Wo.tally (w : Wo) (plot : Option Nat) : Nat :=
  match plot with
  | some p => 64 * p + w.arg 88 2
  | none => w.arg 88 2

/-- Rows of bytes: start, stride, length of a row, number of rows. -/
structure Rows where
  field : Nat
  addr : Nat
  stride : Nat
  len : Nat
  num : Nat
  deriving DecidableEq, Repr

/-- One past the last byte of rows. -/
def Rows.last (r : Rows) : Nat := if r.num = 0 then addrOf r.addr else addrOf r.addr + (r.num - 1) * r.stride + r.len

/-- The input rows of an order (04 R145, R154-R156); indexed rows only where BOUND names them (04 R634). -/
def Wo.inputs (w : Wo) : List Rows :=
  let r (u : Bool) (f a st l n : Nat) : List Rows := if u then [{ field := f, addr := a, stride := st, len := l, num := n }] else []
  if w.matrix then
    let pos := if w.op = opConv then w.m * w.convProd ConvDim.inp else w.m
    r true 16 w.a w.sta (elemBytes w.fa w.k) pos ++ r true 24 w.b w.stb (elemBytes w.fb w.n) w.depth
      ++ r w.usesSa 40 w.sa (w.k / 32) (w.k / 32) pos ++ r w.usesSb 48 w.sb w.n w.n (w.depth / 32)
  else if w.op = opReduce then r true 16 w.a w.sta (elemBytes w.fa w.n) w.m
  else if w.op = opCopy ∨ w.llcOp then r true 16 w.a w.sta w.n w.m
  else if w.op = opConvert then
    r true 16 w.a w.sta (elemBytes w.fa w.n) w.m ++ r w.usesSa 40 w.sa (w.n / 32) (w.n / 32) w.m
  else if w.op = opTranspose then r true 16 w.a w.sta (elemBytes w.fa w.n) w.m
  else if w.op = opGather then
    r (decide (w.arg 88 4 ≠ 0)) 16 w.a w.sta w.n (w.arg 88 4) ++ r true 24 w.b 0 (4 * w.m) 1
  else if w.op = opScatter then r true 16 w.a w.sta w.n w.m ++ r true 24 w.b 0 (4 * w.m) 1
  else if w.op = opLane then
    r (decide (w.a / 2 ^ 62 = 1)) 16 w.a 0 1 1 ++ r (decide (w.b / 2 ^ 62 = 1)) 24 w.b 0 1 1
      ++ r (decide (w.c / 2 ^ 62 = 1)) 32 w.c 0 1 1 ++ r (decide (w.outBytes ≠ 0)) 112 w.outSrc 0 w.outBytes 1
  else []

/-- The output rows of an order. -/
def Wo.outputs (w : Wo) : List Rows :=
  let r (u : Bool) (f a st l n : Nat) : List Rows := if u then [{ field := f, addr := a, stride := st, len := l, num := n }] else []
  if w.matrix then
    r true 32 w.c w.stc (elemBytes w.fc w.n) w.rows ++ r w.usesSc 56 w.sc (w.n / 32) (w.n / 32) w.rows
  else if w.op = opReduce then
    r true 32 w.c 0 (elemBytes w.fc w.n) 1 ++ r w.usesSc 56 w.sc 0 (w.n / 32) 1
  else if w.op = opCopy then r true 32 w.c w.stc w.n w.m
  else if w.op = opConvert then
    r true 32 w.c w.stc (elemBytes w.fc w.n) w.m ++ r w.usesSc 56 w.sc (w.n / 32) (w.n / 32) w.m
  else if w.op = opTranspose then r true 32 w.c w.stc (elemBytes w.fa w.m) w.n
  else if w.op = opGather then r true 32 w.c w.stc w.n w.m
  else if w.op = opScatter then r (decide (w.arg 88 4 ≠ 0)) 32 w.c w.stc w.n (w.arg 88 4)
  else []

/-- Rows that lie in tile memory. -/
def Rows.tile (r : Rows) : Bool := decide (spaceOf r.addr = .tile)

/-- Order 10 of 04 R633: the tile range (03 R108). -/
def Wo.check10 (w : Wo) : Option Nat :=
  let l := (w.inputs ++ w.outputs).filter (fun r => r.tile && decide (tileSize < r.last))
  (l.map Rows.field).min?

/-- Order 11 of 04 R633: alignment (04 R147). -/
def Wo.check11 (w : Wo) : Option Nat :=
  let strict := w.matrix || w.op == opLane || w.op == opReduce || w.op == opConvert
  let t (used : Bool) (o x : Nat) : Nat × Bool := (o, strict && used && decide (spaceOf x = .tile) && decide (addrOf x % 256 ≠ 0))
  let ts (used : Bool) (x st : Nat) : Bool := strict && used && decide (spaceOf x = .tile) && decide (st % 256 ≠ 0)
  let outC := w.usesC && (w.op != opLane || decide (w.outBytes ≠ 0))
  let memC := strict && outC && decide (spaceOf w.c = .mem)
  let el := match spaceOf w.c with
    | .red k => aliasElem k
    | _ => 1
  let al := outC && decide (el ≠ 1)
  let rowLen := if w.op = opLane then w.outBytes
    else if w.op = opCopy ∨ w.op = opScatter then w.n else elemBytes w.fc w.n
  firstBad [t w.usesA 16 w.a, t w.usesB 24 w.b,
    (32, (t w.usesC 32 w.c).2 || (memC && decide (addrOf w.c % 64 ≠ 0)) || (al && decide (addrOf w.c % el ≠ 0))),
    t w.usesSa 40 w.sa, t w.usesSb 48 w.sb,
    (56, (t w.usesSc 56 w.sc).2 || (strict && w.usesSc && decide (spaceOf w.sc = .mem) && decide (addrOf w.sc % 64 ≠ 0))),
    (68, al && w.op != opLane && decide (rowLen % el ≠ 0)),
    (76, ts w.usesStA w.a w.sta), (80, ts w.usesStB w.b w.stb),
    (84, ts w.usesStC w.c w.stc || (memC && w.usesStC && decide (w.stc % 64 ≠ 0))
      || (al && w.usesStC && decide (w.stc % el ≠ 0))),
    t (decide (w.outSrc ≠ 0) && w.op == opLane) 112 w.outSrc,
    (120, al && w.op == opLane && decide (rowLen % el ≠ 0))]

/-- Whether a row [c, c + l) meets rows of bytes: only the last row that starts before its end can. -/
def Rows.meets (r : Rows) (c l : Nat) : Bool :=
  let a := addrOf r.addr
  if r.num = 0 ∨ r.len = 0 ∨ l = 0 ∨ c + l ≤ a then false
  else
    let j := if r.stride = 0 then 0 else min (r.num - 1) ((c + l - 1 - a) / r.stride)
    decide (c < a + j * r.stride + r.len)

/-- Order 12 of 04 R633: an output that overlaps an input in tile memory (04 R148). DESIGN CHOICE (log 94): AUX0 is the offset of
the output's address field, not of the input that it overlaps. -/
def Wo.check12 (w : Wo) : Option Nat :=
  let ins := w.inputs.filter Rows.tile
  if w.op = opLane then none
  else ((w.outputs.filter Rows.tile).find? (fun o => (List.range o.num).any (fun i =>
    ins.any (fun r => r.meets (addrOf o.addr + i * o.stride) o.len)))).map Rows.field

/-- Every check of 04 R146 in the order of 04 R633: FAULT_CODE and AUX0 of the first that fails. -/
def State.woCheck (s : State) (e : Nat) (w : Wo) : Option (Nat × Nat) :=
  let plot := s.plotOfEngine e
  let fails : List (Nat × Option Nat) :=
    [(0x0101, if woOpcodes.contains w.op then none else some 0),
     (0x0102, w.check2 plot.isSome), (0x0105, w.check3), (0x010D, w.check4), (0x0103, w.check5), (0x0104, w.check6),
     (0x0106, w.check7), (0x010A, w.check8),
     (0x010B, if (w.op = opWait ∨ w.op = opSignal) ∧ plot = none ∧ (s.plotOfTally (w.tally none)).isSome then some 88
       else none),
     (0x0107, w.check10), (0x0108, w.check11), (0x0109, w.check12)]
  (fails.find? (fun x => x.2.isSome)).map (fun x => (x.1, x.2.getD 0))

/-- Whether an order claims every scalar unit (03 R116). -/
def Wo.claims (w : Wo) : Bool := (w.op == opConv && bit (w.arg 89 1) 0) || (w.indexed && bit (w.arg 92 1) 0)

/-- Resources an order uses (04 R142, R158): 0 arrays, 1 + g lane group g, 5 inbound and 6 outbound data mover, 7 all scalar
units. -/
def Wo.resources (w : Wo) : List Nat :=
  let units := if w.claims then [7] else []
  if w.matrix then 0 :: units
  else if w.op = opLane then (maskList 4 (w.arg 90 1)).map (· + 1)
  else if w.op = opReduce then (maskList 4 (w.arg 89 1)).map (· + 1)
  else if w.frontEnd ∨ !woOpcodes.contains w.op then []
  else if w.llcOp then [6]
  else (if spaceOf w.c = .tile then 5 else 6) :: units

end Sys2Proof.Machine
end

