-- ==== Sys2Proof/Machine/WorkOrders.lean ====
section
/-! DEFINITION. Work orders: fetching and starting (04 R135, R140-R142), reading operands, and the front-end, movement
and reduction opcodes (04 R150-R157). An order's inputs are read and its results computed when it starts; its writes are
performed and its record written at WORK_ORDER_COMPLETE (log 12). -/

namespace Sys2Proof.Machine

/-! ### Starting an order -/

/-- Index of the next order not yet started. -/
def State.qhead (s : State) (e q : Nat) : Nat := s.f .CE_WQ_HEAD_HEAD e q

/-- Address of a work-ring slot (04 R130). -/
def State.slotAddr (s : State) (e q i : Nat) : Nat :=
  s.f .CE_WQ_BASE_BASE e q * 4096 + i % 2 ^ s.f .CE_WQ_CFG_LOG2_SIZE e q * 128

/-- Reads an order from its ring (04 R142). -/
def State.readSlot (s : State) (e q i : Nat) : RdRes × State := s.rd (s.engSrc e 2) (s.slotAddr e q i) 128

/-- Fetches the next order of a queue: its ring read, or what was read ahead; the order, which has no field where the read
failed; and the state after (04 R142, R180). -/
def State.fetchOrder (s : State) (e q : Nat) : RdRes × Wo × State :=
  let (r, s1) : RdRes × State := match (s.eng e).ahead.find? (fun x => x.q == q && x.idx == s.qhead e q) with
    | some x => ({ status := x.status, data := x.data }, s)
    | none => s.readSlot e q (s.qhead e q)
  (r, Wo.parse (if r.status = stOk then r.data else []), s1)

/-- Reads the order at an index ahead of its start: only what TAIL has reached, once, and without waiting at a home. -/
def State.readAhead (e q : Nat) (s : State) (i : Nat) : State :=
  let d := (s.f .CE_WQ_TAIL_TAIL e q + 2 ^ 32 - s.qhead e q) % 2 ^ 32
  let idx := (s.qhead e q + i) % 2 ^ 32
  if d ≤ i ∨ s.qstate e q ≠ qRunning ∨ (s.eng e).ahead.any (fun x => x.q == q && x.idx == idx) then s
  else
    let (r, s1) := s.readSlot e q idx
    if s1.coh.stall ≠ s.coh.stall then s
    else s1.setEng e { s1.eng e with ahead := (s1.eng e).ahead ++ [{ q, idx, status := r.status, data := r.data }] }

/-- Discards what was read ahead in a queue (04 R138). -/
def State.dropAhead (s : State) (e q : Nat) : State :=
  s.setEng e { s.eng e with ahead := (s.eng e).ahead.filter (fun x => x.q != q) }

/-- Whether an engine starts orders: PRESENT, neither draining nor halted nor being torn down (03 R121, 16 R595). -/
def State.engRuns (s : State) (e : Nat) : Bool :=
  s.present .engine e && decide (s.pstate e ≤ 1) && !(s.eng e).halted
    && match s.plotOfEngine e with
      | some p => (s.plot p).teardown.isNone
      | none => true

/-- Whether a queue has an order to start and a completion slot for it (04 R135, R138). -/
def State.queueOpen (s : State) (e q : Nat) : Bool :=
  decide (s.qstate e q = qRunning) && decide (s.qhead e q ≠ s.f .CE_WQ_TAIL_TAIL e q)
    && decide (((s.eng e).runs.filter (fun r => r.q == q)).length
      + (s.f .CE_WQ_STATUS_CQ_TAIL e q + 2 ^ 32 - s.f .CE_CQ_HEAD_HEAD e q) % 2 ^ 32
      < 2 ^ s.f .CE_CQ_CFG_LOG2_SIZE e q)

/-- Whether the order's place in its queue lets it start (04 R140). -/
def State.queueTurn (s : State) (e q : Nat) (w : Wo) : Bool :=
  let rs := (s.eng e).runs.filter (fun r => r.q == q)
  rs.isEmpty || (bit w.flags 0 && rs.all (fun r => r.op != opWait))

/-- Whether an order waits to claim all scalar units: the next of its queue, while that may start orders (03 R116). -/
def State.claimWaiting (s : State) (e : Nat) : Bool :=
  match (s.eng e).claim with
  | some (q, idx) => s.queueOpen e q && decide (s.qhead e q = idx)
  | none => false

/-- Whether the scalar units are kept from LANE orders: by an order that has claimed them, or that waits to (03 R116). -/
def State.claimed (s : State) (e : Nat) : Bool := s.claimWaiting e || (s.eng e).runs.any (fun r => r.res.contains 7)

/-- Whether every resource of an order is free (03 R95), the scalar units of a LANE order too (03 R116). -/
def State.resFree (s : State) (e : Nat) (w : Wo) : Bool :=
  w.resources.all (fun x => !(s.eng e).runs.any (fun r => r.res.contains x)) && !(w.op == opLane && s.claimed e)

/-- Whether the next order of a queue could start now. -/
def State.couldStart (s : State) (e q : Nat) : Bool :=
  s.queueOpen e q && (let f := s.fetchOrder e q
    decide (f.2.2.coh.stall = s.coh.stall) && s.queueTurn e q f.2.1 && s.resFree e f.2.1)

/-- Place of a queue in the rotation after the queue served last (04 R141). -/
def rotation (last q : Nat) : Nat := (q + 15 - last) % 16

/-- The resources that two orders both need: a claim and a LANE order both need the scalar units (03 R95, R116). -/
def Wo.shared (w w2 : Wo) : List Nat :=
  w.resources.filter (fun x => w2.resources.contains x)
    ++ (if (w.claims && w2.op == opLane) || (w.op == opLane && w2.claims) then [7] else [])

/-- Whether queue `q2`, whose order could start, goes before queue `q` and its order for a resource that both need (04 R141):
by priority, then by the turns of the first such resource. DESIGN CHOICE (log 88): before any queue of a priority level has
been served on a resource, the turn begins with Q0. -/
def State.ranksBefore (s : State) (e q2 q : Nat) (w : Wo) : Bool :=
  let p := s.f .CE_WQ_CFG_PRIORITY e q
  let p2 := s.f .CE_WQ_CFG_PRIORITY e q2
  match w.shared (s.fetchOrder e q2).2.1 with
  | [] => false
  | x :: _ =>
    let last := PTbl.at 15 (s.eng e).served x p
    decide (p2 < p) || (decide (p2 = p) && decide (rotation last q2 < rotation last q))

/-- Whether another queue's order goes first for a resource (04 R141). DESIGN CHOICE (log 88): where the turns of several
resources go round in a circle, so that each order would wait for another, the lowest queue of the best priority starts. -/
def State.outranked (s : State) (e q : Nat) (w : Wo) : Bool :=
  let ready := (List.range 16).filter (fun x => x == q || s.couldStart e x)
  let waits (x : Nat) (v : Wo) : Bool := ready.any (fun y => y != x && s.ranksBefore e y x v)
  waits q w && !(ready.all (fun x => waits x (s.fetchOrder e x).2.1)
    && ready.all (fun x => decide (s.f .CE_WQ_CFG_PRIORITY e q * 16 + q ≤ s.f .CE_WQ_CFG_PRIORITY e x * 16 + x)))

/-- A claim takes the units that serve a LANE order as they end an instruction block. DESIGN CHOICE (log 89): the manual does
not say what an instruction block is, so whether each has reached the end of one is free at each attempt. -/
def State.claimTake (s : State) (e q : Nat) : State :=
  let g := s.eng e
  let again := decide (g.claim = some (q, s.qhead e q))
  { s.setEng e { g with
      claim := some (q, s.qhead e q)
      streams := g.streams.map (fun x => (x.1, x.2.map (fun t =>
        { t with held := !t.ended && ((again && t.held) || decide (Config.free (s.freeCtr + x.1) % 2 = 1)) }))) }
    with freeCtr := s.freeCtr + 64 }

/-- Whether a claim still waits for a unit that serves a LANE order (03 R116). -/
def State.claimWaits (s : State) (e : Nat) : Bool :=
  (s.eng e).streams.any (fun x => match x.2 with
    | some t => !t.ended && !t.held
    | none => false)

/-- Appends a started order and advances HEAD (04 R142). -/
def State.beginRun (s : State) (e : Nat) (r : Run) : State :=
  let g := s.eng e
  let s1 := s.setEng e { g with
    runs := g.runs ++ [r]
    ahead := g.ahead.filter (fun x => !(x.q == r.q && x.idx == r.idx))
    claim := if g.claim = some (r.q, r.idx) then none else g.claim
    served := r.res.foldl (fun t x => PTbl.put 15 t x (s.f .CE_WQ_CFG_PRIORITY e r.q) r.q) g.served }
  let s2 := s1.setF .CE_WQ_HEAD_HEAD e r.q ((r.idx + 1) % 2 ^ 32)
  if s2.pstate e = 1 then s2.setF .CE_STATUS_PSTATE e 0 0 else s2

/-- Starts an order; up to four more orders are read ahead (04 R142). -/
def State.startRun (s : State) (e : Nat) (r : Run) : State :=
  (List.range 4).foldl (State.readAhead e r.q) (s.beginRun e r)

/-- The bytes of a write that overlap rows of an input: unspecified (04 R148, R634). -/
def OutWr.opened (k : Nat) (ins : List Rows) (o : OutWr) : OutWr :=
  let hit (a n : Nat) : Bool := ins.any (fun r => r.addr / 2 ^ 62 == o.addr / 2 ^ 62 && r.meets a n)
  if hit (addrOf o.addr) o.bytes.length then
    { o with bytes := o.bytes.zipIdx.map (fun b =>
        let a := addrOf o.addr + b.2
        if hit a 1 then BitVec.ofNat 8 (Config.free (k + a)) else b.1) }
  else o

/-- An order's writes with the bytes that overlap its inputs left open (04 R148). -/
def State.openOuts (x : Run × State) (ins : List Rows) : Run × State :=
  let outs := x.1.outs.map (OutWr.opened x.2.freeCtr ins)
  if outs = x.1.outs then x else ({ x.1 with outs := outs }, { x.2 with freeCtr := x.2.freeCtr + 2 ^ 52 })

/-- What an opcode does with a started order: the run with its outcome, and the state after its reads. -/
abbrev Body := Wo → Run → State → Run × State

/-- The first bytes of an order whose fetch failed, for its record (04 R177, R180). DESIGN CHOICE (log 112): the opcode and
USER_TAG that such a record shows are free, and CONTINUE, which was not read, counts as clear. -/
def unfetched (k : Nat) : Bytes :=
  leBytes 1 (Config.free k) ++ List.replicate 7 0 ++ leBytes 8 (Config.free (k + 1))

/-- Starts the next order of a queue if it is one of opcode `opc` and may start now; an order that cannot be fetched, or
whose opcode is reserved, or that fails a check, gets its outcome at once (04 R146, R180). A claim that must wait keeps what it
has fetched and the units it has taken (03 R116). -/
def State.order (s : State) (e q opc : Nat) (body : Body) : State :=
  if !s.engRuns e || !s.queueOpen e q then s
  else
    let (f, w, s1) := s.fetchOrder e q
    if s1.coh.stall ≠ [] then s1
    else if f.status = stOk ∧ w.op ≠ opc ∧ woOpcodes.contains w.op then s
    else if !s.queueTurn e q w || !s.resFree e w || s.outranked e q w then s
    else
      let idx := s.qhead e q
      let r : Run := { q := q, idx := idx, op := leAt f.data 0 1, order := f.data, res := [], done := true, finished := true,
                       start := (s.dom e).cycles }
      if f.status ≠ stOk then
        let (c, fc) := if f.status = stPoison then (csPoison, 0x0303) else meshCompletion f.status
        { s1 with freeCtr := s1.freeCtr + 2 }.startRun e
          ({ r with op := 0, order := unfetched s1.freeCtr }.fail c fc (s.slotAddr e q idx))
      else match s1.woCheck e w with
        | some (fc, off) => s1.startRun e (r.fail csIllegal fc off)
        | none =>
          let s2 := if w.claims then s1.claimTake e q else s1
          if w.claims && s2.claimWaits e then
            let g := s2.eng e
            s2.setEng e { g with
              ahead := g.ahead.filter (fun x => !(x.q == q && x.idx == idx)) ++ [{ q, idx, status := f.status, data := f.data }] }
          else
            let x := State.openOuts (body w { r with res := w.resources, finished := false } s2) w.inputs
            x.2.startRun e x.1

/-! ### Reading operands -/

/-- A row read from tile memory, memory or a site: data, poisoned lines of its own address space, a mesh error, and the
address (SPACE included) of the error or of the first poison. -/
structure RowRd where
  data : Bytes
  bad : List Nat := []
  err : Nat := 0
  addr : Nat := 0
  deriving DecidableEq, Repr

/-- The errors an order meets as it starts to run (03 R110). -/
def withTm (e : Nat) (tm : List TmErr) (body : Body) : Body := fun w r s => body w r (tm.foldl (State.tmError e) s)

/-- The errors that lie in tile memory while a LANE order runs: its instructions' reads, its copy or a later read meet them. -/
def withLatent (e : Nat) (tm : List TmErr) (body : Body) : Body := fun w r s =>
  body w r (s.setEng e { s.eng e with latent := (s.eng e).latent ++ tm.filter (fun x => x.acc.isNone) })

/-- Reads `n` bytes at an address field plus an offset, for an order of opcode `op`. -/
def State.readRow (s : State) (e op fld off n : Nat) (site : SiteAns) : RowRd × State :=
  if fld / 2 ^ 62 = 1 then
    let a := fld % 2 ^ 26 + off
    let s := s.tmMeet e a n
    let g := s.eng e
    let bad := (linesOf a n).filter (fun l => NTbl.at false g.tpois l)
    ({ data := g.tileBytes a n, bad := bad, addr := 2 ^ 62 + (g.tilePoison a n).getD 0 }, s)
  else
    let (r, s1) := s.rd (s.engSrc e (opMaster op)) (fld % 2 ^ 52 + off) n site
    ({ data := r.data, bad := r.poison, err := if 1 < r.status then r.status else 0, addr := r.addr }, s1)

/-- Reads rows of bytes in order; a site's data is handed out row by row. -/
def State.readRows (e op fld stride len : Nat) : Nat → Nat → SiteAns → State → List RowRd × State
  | 0, _, _, s => ([], s)
  | n + 1, off, site, s =>
    let (r, s1) := s.readRow e op fld off len site
    let (rs, s2) := State.readRows e op fld stride len n (off + stride) (siteDrop site len) s1
    (r :: rs, s2)

/-- No chiplet answers: what an order reads lies elsewhere. -/
def noSite : SiteAns := { data := [] }

/-- The first error among rows: mesh status and address. -/
def firstErr (rs : List RowRd) : Option (Nat × Nat) := (rs.find? (fun r => decide (r.err ≠ 0))).map (fun r => (r.err, r.addr))

/-- The first poisoned address among rows. -/
def firstPoison (rs : List RowRd) : Option Nat := (rs.find? (fun r => decide (r.bad ≠ []))).map (·.addr)

/-- Fault code of poison at an address field (04 R178). -/
def poisonCode (addr : Nat) : Nat := if addr / 2 ^ 62 = 1 then 0x0302 else 0x0301

/-- A run that meets a mesh error. -/
def Run.meshFail (r : Run) (x : Nat × Nat) : Run :=
  let (c, fc) := meshCompletion x.1
  r.fail c fc x.2

/-- A run that meets poison. -/
def Run.poisonFail (r : Run) (addr : Nat) : Run := r.fail csPoison (poisonCode addr) addr

/-- A run that stops at the first row that meets a mesh error or poison, if any does (04 R151, R180). -/
def Run.stopAt (r : Run) (rows : List RowRd) : Option Run :=
  (rows.find? (fun x => decide (x.err ≠ 0 ∨ x.bad ≠ []))).map (fun x =>
    if x.err ≠ 0 then r.meshFail (x.err, x.addr) else r.poisonFail x.addr)

/-- The writes of a free subset of rows. DESIGN CHOICE (log 12): which rows a movement order has written when it meets a mesh error
is open. -/
def keepFree (k : Nat) (outs : List OutWr) : List OutWr := outs.filter (fun o => decide (Config.free (k + o.piece) % 2 = 1))

/-- A run that goes on after meeting poison: the first poison decides its status (04 R151). -/
def Run.poisonMark (r : Run) (addr : Nat) : Run :=
  if r.fault = 0 then
    { r with status := csPoison, fault := poisonCode addr, aux0 := addr % 2 ^ 32, aux1 := addr / 2 ^ 32 % 2 ^ 32 }
  else r

/-- Marks writes with the output tile or row they belong to. -/
def ofPiece (j : Nat) (l : List OutWr) : List OutWr := l.map (fun o => { o with piece := j })

/-- Whether byte `i` of a row at address `a` of its space is poisoned. -/
def RowRd.badAt (r : RowRd) (a i : Nat) : Bool := r.bad.contains ((a + i) / 64)

/-- The write of a row of bytes, cut at destination lines where poison travels with some of them (04 R151). -/
def rowOuts (fld off : Nat) (b : Bytes) (bad : Nat → Bool) (any : Bool) : List OutWr :=
  if !any then [{ addr := fld + off, bytes := b }]
  else
    let a := addrOf fld + off
    (splitLines (b.length / 64 + 2) a b).map (fun x =>
      { addr := fld / 2 ^ 62 * 2 ^ 62 + x.1, bytes := x.2,
        pois := (List.range x.2.length).any (fun i => bad (x.1 - a + i)) })

/-! ### NOP, WAIT, SIGNAL -/

/-- NOP completes OK (04 R150). -/
def bodyNop : Body := fun _ r s => ({ r with finished := true }, s)

/-- WAIT pends on its tally until an operation satisfies it (04 R169). -/
def bodyWait (e : Nat) : Body := fun w r s =>
  ({ r with done := false },
   { s with waits := s.waits ++ [{ e := e, q := r.q, idx := r.idx, tally := w.tally (s.plotOfEngine e),
                                   consume := bit (w.arg 90 1) 0, amount := w.arg 92 4 }] })

/-! ### COPY, CONVERT, TRANSPOSE -/

/-- COPY: rows of bytes, poison travelling with them (04 R151). -/
def bodyCopy (e : Nat) (site : SiteAns) : Body := fun w r s =>
  let (rs, s1) := State.readRows e w.op w.a w.sta w.n w.m 0 site s
  let outs := ((rs.zipIdx.filter (fun x => decide (x.1.err = 0))).map (fun x => ofPiece x.2 (rowOuts w.c (x.2 * w.stc) x.1.data
    (x.1.badAt (addrOf w.a + x.2 * w.sta)) (decide (x.1.bad ≠ []))))).flatten
  match firstErr rs with
  | some x => ({ r.meshFail x with outs := keepFree s1.freeCtr outs }, { s1 with freeCtr := s1.freeCtr + w.m })
  | none => match firstPoison rs with
    | some a => ({ r.poisonFail a with outs := outs }, s1)
    | none => ({ r with outs := outs }, s1)

/-- NaN elements among codes (02 R92): the byte each begins at, each counted `weight` times. -/
def nansOf (bits weight : Nat) (l : List Bool) : List (Nat × Nat) :=
  l.zipIdx.filterMap (fun x => if x.1 then some (x.2 * bits / 8, weight) else none)

/-- Output codes of a row of values with flags and NaN elements: element codes, scales (02 R71, R72, R78-R84); a block's scale
of 0xFF counts as 32 (02 R92). -/
def outRow (f : Nat) (vs : List Fv) : List Nat × List Nat × Nat × List (Nat × Nat) :=
  if fmtBlock f then
    let blocks := (List.range (vs.length / 32)).map (fun i => blockConv f ((vs.drop (32 * i)).take 32))
    ((blocks.map (fun b => b.2.1)).flatten, blocks.map (fun b => b.1), blocks.foldl (fun a b => a ||| b.2.2) 0,
      nansOf 8 32 (blocks.map (fun b => b.1 == 255)))
  else
    let cs := vs.map (elemConv f)
    (cs.map Prod.fst, [], cs.foldl (fun a c => a ||| c.2) 0,
      if fmtInt f then [] else nansOf (fmtBits f) 1 (cs.map (fun c => (elemDecode f c.1).isNan)))

/-- Packs a row; the upper half of a byte that holds only one 4-bit element is a free value (log 13). -/
def packRow (f k : Nat) (cs : List Nat) : Bytes :=
  if fmtBits f = 4 ∧ cs.length % 2 = 1 then packElems f (cs ++ [Config.free k % 16]) else packElems f cs

/-- Values of a row under a format and its scales, and whether a NaN was read (02 R61, R62, R90). -/
def rowValues (f n : Nat) (b scales : Bytes) : List Fv × Bool :=
  let one (j : Nat) : Fv × Bool :=
    let c := elemAt f b j
    let sc := if fmtBlock f then (scales.getD (j / 32) 0).toNat else 127
    (scaled (elemDecode f c) sc, nanInput f c sc)
  let l := (List.range n).map one
  (l.map Prod.fst, l.any Prod.snd)

/-- Result of one output row or tile: its writes and flags. -/
structure Piece where
  outs : List OutWr
  flags : Nat
  deriving DecidableEq, Repr

/-- Writes of a row of elements and its scales; the NaN elements are those of the scales where there are any (02 R92). -/
def elemOuts (addr : Nat) (b : Bytes) (nans : List (Nat × Nat)) (sc : Option (Nat × List Nat)) : List OutWr :=
  match sc with
  | some (a, l) => [{ addr := addr, bytes := b }, { addr := a, bytes := l.map (BitVec.ofNat 8), nans := nans }]
  | none => [{ addr := addr, bytes := b, nans := nans }]

/-- Gathers numbered pieces into a run: writes and flags (02 R90-R93). -/
def Run.gather (r : Run) (ps : List (Nat × Piece)) : Run :=
  { r with
    outs := (ps.map (fun p => (ofPiece p.1 p.2.outs).map (fun o => { o with flags := p.2.flags }))).flatten
    flags := ps.foldl (fun a p => a ||| p.2.flags) r.flags }

/-- The pieces of an order that are not poisoned, numbered. -/
def cleanPieces (ps : List (Option Piece)) : List (Nat × Piece) := ps.zipIdx.filterMap (fun p => p.1.map (fun x => (p.2, x)))

/-- The piece that arms a trap (02 R93, 04 R179): groups of `grp` pieces are in flight together, and the group of the first
piece with INVALID traps unless an earlier group meets poison or an error. DESIGN CHOICE (log 90): which of several pieces of the
group with INVALID armed the trap is free, as their cycles are not modelled. -/
def trapPiece (grp k : Nat) (ps : List (Option Piece)) : Option Nat :=
  let inv := ((cleanPieces ps).filter (fun p => hasInvalid p.2.flags)).map Prod.fst
  match inv with
  | [] => none
  | i :: _ =>
    let g := inv.filter (fun j => j / grp == i / grp)
    if (ps.take (i / grp * grp)).all Option.isSome then g[Config.free k % g.length]? else none

/-- How many pieces may be started before the first INVALID arms a trap: those of its group and of earlier ones (02 R93). -/
def trapLimit (grp : Nat) (ps : List (Option Piece)) : Nat :=
  match ps.findIdx? (fun p => (p.map (fun x => hasInvalid x.flags)).getD false) with
  | some i => (i / grp + 1) * grp
  | none => ps.length

/-- The outcome of an order of pieces (02 R93; 04 R151, R179): `none` is a piece that meets poison or an error, `stop` the run
that ends so; the run, and the piece that trapped. Once a trap is armed every piece in flight that can be is written and none
later starts. DESIGN CHOICE (log 90): where a piece in flight meets poison or an error as well, which of the two decides the
status is free. Which pieces free of poison are written without a trap is free (log 14). -/
def Run.settle (r : Run) (grp k : Nat) (stop : Option Run) (ps : List (Option Piece)) : Run × Option Nat :=
  let lim := if r.flagBit 1 then trapLimit grp ps else ps.length
  let clean := (cleanPieces ps).filter (fun p => decide (p.1 < lim))
  match if r.flagBit 1 then trapPiece grp k ps else none, stop with
  | some i, some x =>
    if (ps.take lim).any Option.isNone && decide (Config.free (k + 1 + ps.length) % 2 = 1) then (x.gather clean, none)
    else ({ r.gather clean with status := csTrapped, fault := 0x0701, aux0 := 0, aux1 := 0 }, some i)
  | some i, none => ({ r.gather clean with status := csTrapped, fault := 0x0701, aux0 := 0, aux1 := 0 }, some i)
  | none, some x => (x.gather (clean.filter (fun p => decide (Config.free (k + 1 + p.1) % 2 = 1))), none)
  | none, none => (r.gather (cleanPieces ps), none)

/-- CONVERT: rows of elements from one format to another (04 R150, R151, R179). -/
def bodyConvert (e : Nat) (site : SiteAns) : Body := fun w r s =>
  let (rs, s1) := State.readRows e w.op w.a w.sta (elemBytes w.fa w.n) w.m 0 site s
  let (ss, s2) := if w.usesSa then State.readRows e w.op w.sa (w.n / 32) (w.n / 32) w.m 0
      (if spaceOf w.a = .site then siteDrop site (w.m * elemBytes w.fa w.n) else site) s1 else ([], s1)
  let piece (i : Nat) : Piece :=
    let (vs, nan) := rowValues w.fa w.n ((rs.getD i { data := [] }).data) ((ss.getD i { data := [] }).data)
    let (cs, scs, fl, nn) := outRow w.fc vs
    { outs := elemOuts (w.c + i * w.stc) (packRow w.fc (s2.freeCtr + i) cs) nn
        (if w.usesSc then some (w.sc + i * (w.n / 32), scs) else none),
      flags := fl ||| (if nan then flNanIn else 0) }
  let reads (i : Nat) : List RowRd := [rs.getD i { data := [] }, ss.getD i { data := [] }]
  let s3 := { s2 with freeCtr := s2.freeCtr + 2 * w.m + 2 }
  let (r1, t) := r.settle 1 (s2.freeCtr + w.m) (r.stopAt ((List.range w.m).flatMap reads))
    ((List.range w.m).map (fun i => if (r.stopAt (reads i)).isNone then some (piece i) else none))
  ({ r1 with aux0 := (t.getD r1.aux0) }, s3)

/-- TRANSPOSE: elements move, poison with them (04 R150, R151). -/
def bodyTranspose (e : Nat) : Body := fun w r s =>
  let (rs, s1) := State.readRows e w.op w.a w.sta (elemBytes w.fa w.n) w.m 0 noSite s
  match firstErr rs with
  | some x => (r.meshFail x, s1)
  | none =>
    let row (i : Nat) : RowRd := rs.getD i { data := [] }
    let byteOf (j i : Nat) : Nat := j * fmtBits w.fa / 8 + i
    let per := if fmtBits w.fa = 4 then 1 else fmtBits w.fa / 8
    let out (j : Nat) : List OutWr :=
      let b := packElems w.fa ((List.range w.m).map (fun i => elemAt w.fa (row i).data j))
      let bad (x : Nat) : Bool :=
        let els := if fmtBits w.fa = 4 then [2 * x, 2 * x + 1] else [x / per]
        els.any (fun i => decide (i < w.m) && (List.range per).any (fun y =>
          (row i).badAt (addrOf w.a + i * w.sta) (byteOf j y)))
      ofPiece j (rowOuts w.c (j * w.stc) b bad ((firstPoison rs).isSome))
    let outs := ((List.range w.n).map out).flatten
    match firstPoison rs with
    | some a => ({ r.poisonFail a with outs := outs }, s1)
    | none => ({ r with outs := outs }, s1)

/-! ### GATHER, SCATTER (04 R156, R157, R634) -/

/-- How an index is treated. -/
inductive IdxKind where
  | use (i : Int)
  | skip
  | poison
  deriving DecidableEq, Repr

/-- The indices of a GATHER or SCATTER. -/
def indices (w : Wo) (b : RowRd) : List IdxKind :=
  (List.range w.m).map (fun j =>
    if (List.range 4).any (fun k => b.badAt (addrOf w.b) (4 * j + k)) then .poison
    else
      let i := asInt 32 (leAt b.data (4 * j) 4)
      if w.arg 88 4 ≠ 0 ∧ (i < 0 ∨ ((w.arg 88 4 : Nat) : Int) ≤ i) then .skip else .use i)

/-- Address field of an indexed row: none where the address falls outside what its space can name. DESIGN CHOICE (log 91): a
negative address in tile memory fails the tile range as one beyond its end does; 04 R634 names only the latter. -/
def idxField (fld stride len : Nat) (i : Int) : Option Nat :=
  let a : Int := ((addrOf fld : Nat) : Int) + i * ((stride : Nat) : Int)
  if a < 0 then none
  else if fld / 2 ^ 62 = 1 then if tileSize < a.toNat + len then none else some (2 ^ 62 + a.toNat)
  else if 2 ^ 52 ≤ a.toNat then none else some a.toNat

/-- An indexed row out of range: ILLEGAL with its position in tile memory, PLOT_FAULT in memory (04 R157, R634). -/
def Run.idxFail (r : Run) (fld stride j : Nat) (i : Int) : Run :=
  if fld / 2 ^ 62 = 1 then r.fail csIllegal 0x0107 j
  else r.fail csPlotFault 0x0201 (ofInt 62 (((addrOf fld : Nat) : Int) + i * ((stride : Nat) : Int)))

/-- The indexed operand's rows that indices name (04 R634). -/
def namedRows (fld stride len : Nat) (l : List IdxKind) : List Rows :=
  l.filterMap (fun k => match k with
    | .use i => (idxField fld stride len i).map (fun f => { field := 0, addr := f, stride := 0, len := len, num := 1 })
    | _ => none)

/-- A source row without BOUND in tile memory is unspecified where it overlaps the destination or the indices (04 R634). -/
def Wo.openRow (w : Wo) (k f : Nat) (d : Bytes) : Bytes :=
  if w.arg 88 4 = 0 ∧ f / 2 ^ 62 = 1 then
    (OutWr.opened k (w.outputs ++ [{ field := 24, addr := w.b, stride := 0, len := 4 * w.m, num := 1 }])
      { addr := f, bytes := d }).bytes
  else d

/-- GATHER row by row: writes made so far, skipped indices, first poisoned address, or the run's failure. DESIGN CHOICE (log 12):
the rows before an index out of range are written; of those before a mesh error a free subset. -/
def gatherRows (e : Nat) (w : Wo) (bPois : Nat) : List (IdxKind × Nat) → Run → State → Run × State
  | [], r, s => (r, s)
  | (k, j) :: t, r, s =>
    let dst := w.c + j * w.stc
    match k with
    | .skip => gatherRows e w bPois t
        { r with outs := r.outs ++ [{ addr := dst, bytes := List.replicate w.n 0, piece := j }], aux0 := r.aux0 + b2n (decide (r.fault = 0)) } s
    | .poison =>
      let r1 : Run := { r with outs := r.outs ++ [{ addr := dst, bytes := List.replicate w.n 0, pois := true, piece := j }] }
      gatherRows e w bPois t (r1.poisonMark bPois) s
    | .use i => match idxField w.a w.sta w.n i with
      | none => (r.idxFail w.a w.sta j i, s)
      | some f =>
        let (x, s1) := s.readRow e w.op f 0 w.n noSite
        if x.err ≠ 0 then
          ({ r.meshFail (x.err, x.addr) with outs := keepFree s1.freeCtr r.outs }, { s1 with freeCtr := s1.freeCtr + w.m })
        else
          let d := w.openRow s1.freeCtr f x.data
          let s2 := if d = x.data then s1 else { s1 with freeCtr := s1.freeCtr + 2 ^ 26 }
          let r1 : Run := { r with outs := r.outs ++ ofPiece j (rowOuts w.c (j * w.stc) d (x.badAt (addrOf f)) (decide (x.bad ≠ []))) }
          gatherRows e w bPois t (if x.bad ≠ [] then r1.poisonMark x.addr else r1) s2

/-- GATHER (04 R156, R157). -/
def bodyGather (e : Nat) : Body := fun w r s =>
  let (b, s1) := s.readRow e w.op w.b 0 (4 * w.m) noSite
  if b.err ≠ 0 then (r.meshFail (b.err, b.addr), s1)
  else
    let x := gatherRows e w b.addr (indices w b).zipIdx r s1
    if w.arg 88 4 = 0 then State.openOuts x (namedRows w.a w.sta w.n (indices w b)) else x

/-- Whether row `j` is the one that stays where several rows name one index: a free choice (04 R157, log 15); in a
reduce alias every row is added. -/
def scatterKeeps (w : Wo) (k : Nat) (l : List IdxKind) (j : Nat) : Bool :=
  match spaceOf w.c, l.getD j .skip with
  | .red _, _ => true
  | _, .use i =>
    let same := (List.range l.length).filter (fun x => decide (l.getD x .skip = .use i))
    same.getD (Config.free (k + ofInt 32 i) % same.length) j == j
  | _, _ => true

/-- SCATTER row by row. -/
def scatterRows (w : Wo) (bPois k : Nat) (all : List IdxKind) : List (IdxKind × Nat × RowRd) → Run → Run
  | [], r => r
  | (kd, j, x) :: t, r =>
    match kd with
    | .skip => scatterRows w bPois k all t { r with aux0 := r.aux0 + b2n (decide (r.fault = 0)) }
    | .poison => scatterRows w bPois k all t (r.poisonMark bPois)
    | .use i => match idxField w.c w.stc w.n i with
      | none => r.idxFail w.c w.stc j i
      | some f =>
        let o := if scatterKeeps w k all j then
            ofPiece j (rowOuts f 0 x.data (x.badAt (addrOf w.a + j * w.sta)) (decide (x.bad ≠ []))) else []
        let r1 : Run := { r with outs := r.outs ++ o }
        scatterRows w bPois k all t (if x.bad ≠ [] then r1.poisonMark x.addr else r1)

/-- SCATTER (04 R156, R157). -/
def bodyScatter (e : Nat) : Body := fun w r s =>
  let (b, s1) := s.readRow e w.op w.b 0 (4 * w.m) noSite
  if b.err ≠ 0 then (r.meshFail (b.err, b.addr), s1)
  else
    let (rs, s2) := State.readRows e w.op w.a w.sta w.n w.m 0 noSite s1
    let l := indices w b
    let row (j : Nat) : RowRd := rs.getD j { data := [] }
    match firstErr rs with
    | some x =>
      let read := (l.zipIdx.map (fun y => (y.1, y.2, row y.2))).filter (fun y => decide (y.2.2.err = 0))
      ({ r.meshFail x with outs := keepFree s2.freeCtr (scatterRows w b.addr s2.freeCtr l read r).outs },
        { s2 with freeCtr := s2.freeCtr + 2 ^ 32 + w.m })
    | none =>
      let rows := l.zipIdx.map (fun x => (x.1, x.2, row x.2))
      (scatterRows w b.addr s2.freeCtr l rows r, { s2 with freeCtr := s2.freeCtr + 2 ^ 32 })

/-! ### PREFETCH_LLC, WRITEBACK -/

/-- The first line of rows whose address the port refuses (01 R51). -/
def State.rowsRefused (s : State) (plot : Option Nat) (w : Wo) : Option Nat :=
  ((List.range w.m).map (fun i => linesOf (addrOf w.a + i * w.sta) w.n)).flatten.find? (fun l =>
    (s.translate plot (l * 64) false).isNone)

/-- What a data mover does with a line of a region: PREFETCH_LLC reads it into its slice, WRITEBACK writes it to its stack where it
is dirty (04 R150). A line in O is not loaded (08, after R317). -/
def State.cacheLine (s : State) (wb : Bool) (cls line : Nat) : State :=
  if wb then s.llcClean line cls
  else if ((s.sfEnt line).map SfEnt.owned).getD false || s.coh.got.any (fun g => g.1 == line) then s
  else (s.readLine line [] srcDemand cls).2

/-- What a data mover waits for at the home of a line of its region (log 21): earlier requests of a line that it loads, its
bank's repair, and a tracker; or the repair of the bank that a dirty line is written to. -/
def State.cacheWaits (s : State) (r : UnitReq) (wb : Bool) (off : Nat) : List Want :=
  let ls := linesOf off r.len
  if wb ∧ s.memReached r off then (ls.filter (fun l => s.llcDirty l && s.bankRepair l)).map (fun l =>
    { r.want s.now l with bank := true })
  else ((s.memWaits r 0 off).filter (fun l => !s.memReached r off
    || !((s.sfEnt l).map SfEnt.owned).getD false)).map (r.want s.now)

/-- One request of a data mover for the lines of its region (07 R263, R270, R280-R282): its STATUS. A granule's twin is refused
(06 R248). -/
def State.cacheReq (s : State) (src : Src) (wb : Bool) (a k : Nat) : Nat × State :=
  match s.translate src.plot a false with
  | none => (stUnmapped, s)
  | some pa =>
    let (r, s1) := s.unitIssue src pa k false
    let done (e : UnitEnd) (s : State) : Nat × State := (e.status, s.unitMemDone r e [])
    match s1.unitFailed (linesOf pa k) with
    | some st => done (if st = stTimeout then .late else .home st) s1
    | none =>
      let w := s1.cacheWaits r wb pa
      if s1.windowed then (stOk, s1)
      else if w ≠ [] ∧ s1.coh.canPark then (stOk, s1.stallOn w)
      else if !s1.memReached r pa then done .late s1
      else if s1.pageRefused 0 pa k false then done (.home stTarget) s1
      else if !wb && (linesOf pa k).any (fun l => s1.farDead l [] false) then done (.home stTimeout) (s1.farTimeout pa false)
      else done (.home stOk) ((linesOf pa k).foldl (fun s l => s.cacheLine wb r.cls l) s1)

/-- The requests of one row of a region: the first STATUS other than OK ends it, with its address. -/
def State.cacheRow (src : Src) (wb : Bool) : Nat → Nat → Nat → State → Option (Nat × Nat) × State
  | 0, _, _, s => (none, s)
  | fuel + 1, a, n, s =>
    if n = 0 then (none, s)
    else
      let k := reqLen a n
      let (st, s1) := s.cacheReq src wb a k
      if st = stOk then State.cacheRow src wb fuel (a + k) (n - k) s1 else (some (st, a), s1)

/-- PREFETCH_LLC and WRITEBACK: the rows of the region in turn, until one fails. -/
def cacheBody (wb : Bool) (e : Nat) : Body := fun w r s =>
  match s.rowsRefused (s.plotOfEngine e) w with
  | some l => (r.fail csPlotFault 0x0201 (max (addrOf w.a) (l * 64)), s.unmappedAt e (l * 64))
  | none =>
    let (x, s1) := (List.range w.m).foldl (fun (a : Option (Nat × Nat) × State) i => match a.1 with
      | some _ => a
      | none => State.cacheRow (s.engSrc e 2) wb (w.n / 512 + 2) (addrOf w.a + i * w.sta) w.n a.2) (none, s)
    (match x with
      | some er => r.meshFail er
      | none => r, s1)

/-- PREFETCH_LLC: every line of the region is read into its slice; never POISON (04 R150). -/
def bodyPrefetch (e : Nat) : Body := cacheBody false e

/-- WRITEBACK: each dirty line of the region is written to its stack and stays valid (04 R150). -/
def bodyWriteback (e : Nat) : Body := cacheBody true e

/-! ### REDUCE (04 R155) -/

/-- Wraps an integer to INT32. -/
def wrap32 (i : Int) : Int := asInt 32 (ofInt 32 i)

/-- Reduces a column: value and flags. -/
def reduceColumn (op k : Nat) (vs : List Fv) : Fv × Nat :=
  let ints := vs.map (fun v => match v with
    | .fin n m e => roundInt n m e
    | _ => 0)
  match op with
  | 0 => accumF k (vs.map (fun v => (v, 0)))
  | 1 => ((vs.drop 1).foldl Fv.max2 (vs.getD 0 .zero), 0)
  | 2 => ((vs.drop 1).foldl Fv.min2 (vs.getD 0 .zero), 0)
  | 3 => (.ofInt (wrap32 ints.sum), 0)
  | _ => let (v, fl) := accumI k ints
    (.ofInt v, fl)

/-- REDUCE: DIM_M rows become one (04 R155, R151, R179). -/
def bodyReduce (e : Nat) : Body := fun w r s =>
  let (rs, s1) := State.readRows e w.op w.a w.sta (elemBytes w.fa w.n) w.m 0 noSite s
  match firstPoison rs with
  | some a => (r.poisonFail a, s1)
  | none =>
    let rows := rs.map (fun x => rowValues w.fa w.n x.data [])
    let cols := (List.range w.n).map (fun j =>
      reduceColumn (w.arg 88 1) (s1.freeCtr + j * w.m) (rows.map (fun x => x.1.getD j .zero)))
    let (cs, scs, fl, nn) := outRow w.fc (cols.map Prod.fst)
    let k := s1.freeCtr + w.n * w.m
    let p : Piece :=
      { outs := elemOuts w.c (packRow w.fc k cs) nn (if w.usesSc then some (w.sc, scs) else none),
        flags := cols.foldl (fun a c => a ||| c.2) (fl ||| (if rows.any Prod.snd then flNanIn else 0)) }
    let r1 := r.gather [(0, p)]
    ((if bit w.flags 1 ∧ hasInvalid p.flags then { r1 with status := csTrapped, fault := 0x0701 } else r1),
      { s1 with freeCtr := k + 1 })

end Sys2Proof.Machine
end

