-- ==== Sys2Proof/Machine/Matrix.lean ====
section
/-! DEFINITION. Matrix orders on the tensor arrays (02 R64-R72, R93; 03 R96-R104; 04 R150, R153, R154). -/

namespace Sys2Proof.Machine

/-- Columns of an output tile (03 R96). -/
def tileCols (f : Nat) : Nat := if f ≤ 2 then 1024 else if f ≤ 8 then 512 else 256

/-- Rows of a weight tile (03 R96). -/
def tileDepth (f : Nat) : Nat := if f ≤ 8 then 1024 else 512

/-- An element of an operand: its code and the scale code over it. -/
abbrev Elem := Nat × Nat

/-- Value of an element without its block scale, as a tensor operand. -/
def Elem.value (f : Nat) (x : Elem) : Fv := if fmtBlock f && x.2 == 255 then .nan else elemDecode f x.1

/-- Exponent both block scales add to a product or block sum (02 R67, R68). -/
def scalePair (f : Nat) (a b : Elem) : Int := if fmtBlock f then (a.2 : Int) + (b.2 : Int) - 254 else 0

/-- One product: exact, scaled, with its flags (02 R65, R68, R69, R90). -/
def product (f : Nat) (a b : Elem) : Term :=
  let (v, fl) := (a.value f).mul (b.value f)
  (v.scale (scalePair f a b), fl ||| (if nanInput f a.1 a.2 || nanInput f b.1 b.2 then flNanIn else 0))

/-- Sum of a block's products, exact; zero is negative where every product is (02 R67, R75). -/
def blockSum (f : Nat) (ab : List (Elem × Elem)) : Term :=
  match ab.map (fun x => product f x.1 x.2) with
  | [] => (.zero, 0)
  | p :: ps => ps.foldl (fun a t => ((a.1.add t.1).1, a.2 ||| t.2)) p

/-- Terms of a dot product: block sums for BINT4, MXFP4 and MXINT8, products otherwise (02 R67, R68). -/
def dotTerms (f : Nat) (ab : List (Elem × Elem)) : List Term :=
  if f = 1 ∨ f = 2 ∨ f = 4 then
    (List.range (ab.length / 32)).map (fun i => blockSum f ((ab.drop (32 * i)).take 32))
  else ab.map (fun x => product f x.1 x.2)

/-- A dot product with an existing value of C, if any, as a term (02 R66-R70, R75): value and flags. -/
def dot (f k : Nat) (ab : List (Elem × Elem)) (c : Option Term) : Term :=
  if f = 0 ∨ f = 3 then
    let w := if f = 0 then 4 else 8
    let ts := ab.map (fun x => asInt w x.1.1 * asInt w x.2.1)
    let (c0, fl0) : Int × Nat := match c with
      | some v => let (code, fl) := convInt 32 v.1
        (asInt 32 code, fl ||| v.2)
      | none => (0, 0)
    let (v, fl) := accumI k (if c.isSome then c0 :: ts else ts)
    (.ofInt v, fl ||| fl0)
  else accumF k (c.toList ++ dotTerms f ab)

/-- What a matrix order reads. -/
structure MatIn where
  aRows : List RowRd
  aSc : List RowRd
  bRows : List RowRd
  bSc : List RowRd
  cRows : List RowRd
  deriving DecidableEq, Repr

/-- A row of a list of reads. -/
def rowOf (l : List RowRd) (i : Nat) : RowRd := l.getD i { data := [] }

/-- Coordinates of an output position of CONV: batch and output position per dimension. -/
def Wo.convPos (w : Wo) (i : Nat) : Nat × Nat × Nat × Nat :=
  let o1 := (w.convDim 1).out
  let o2 := (w.convDim 2).out
  let o0 := (w.convDim 0).out
  (i / (o0 * o1 * o2), i / (o1 * o2) % o0, i / o2 % o1, i % o2)

/-- Input position of one dimension, none in the padding. -/
def ConvDim.src (d : ConvDim) (o k : Nat) : Option Nat :=
  let x := o * d.str + k * d.dil
  if x < d.lo ∨ d.inp ≤ x - d.lo then none else some (x - d.lo)

/-- Row of A's input that output position `i` meets at kernel position `kp`, none in the padding (04 R154). -/
def Wo.convRow (w : Wo) (i kp : Nat) : Option Nat :=
  let (b, o0, o1, o2) := w.convPos i
  let d0 := w.convDim 0
  let d1 := w.convDim 1
  let d2 := w.convDim 2
  match d0.src o0 (kp / (d1.ker * d2.ker)), d1.src o1 (kp / d2.ker % d1.ker), d2.src o2 (kp % d2.ker) with
  | some x, some y, some z => some (((b * d0.inp + x) * d1.inp + y) * d2.inp + z)
  | _, _, _ => none

/-- Input rows that row `i` of the product depends on. -/
def Wo.aRowsOf (w : Wo) (i : Nat) : List Nat :=
  if w.op = opConv then
    (List.range (w.convProd ConvDim.ker)).filterMap (w.convRow i)
  else [i]

/-- Element k of row i of A; padding reads as zero (04 R154). -/
def MatIn.aElem (x : MatIn) (w : Wo) (i k : Nat) : Elem :=
  let at_ (row c : Nat) : Elem :=
    (elemAt w.fa (rowOf x.aRows row).data c,
      if fmtBlock w.fa then ((rowOf x.aSc row).data.getD (c / 32) 0).toNat else 127)
  if w.op = opConv then
    match w.convRow i (k / w.k) with
    | some row => at_ row (k % w.k)
    | none => (0, 127)
  else at_ i k

/-- Element (k, j) of B. -/
def MatIn.bElem (x : MatIn) (w : Wo) (k j : Nat) : Elem :=
  (elemAt w.fb (rowOf x.bRows k).data j,
    if fmtBlock w.fb then ((rowOf x.bSc (k / 32)).data.getD j 0).toNat else 127)

/-- The existing value of C at (i, j), as a term of MATMUL_ACC (02 R75). -/
def MatIn.cTerm (x : MatIn) (w : Wo) (i j : Nat) : Option Term :=
  if w.op = opMatmulAcc then
    let v := elemDecode w.fc (elemAt w.fc (rowOf x.cRows i).data j)
    some (v, if v.isNan then flNanIn else 0)
  else none

/-- One output value. -/
def MatIn.value (x : MatIn) (w : Wo) (k i j : Nat) : Term :=
  dot w.fa k ((List.range w.depth).map (fun d => (x.aElem w i d, x.bElem w d j))) (x.cTerm w i j)

/-- Tiles per row of tiles, and in all (03 R98). -/
def Wo.tilesN (w : Wo) : Nat := ceilDiv w.n (tileCols w.fa)
def Wo.tiles (w : Wo) : Nat := ceilDiv w.rows 512 * w.tilesN

/-- Passes of each output tile (03 R99). -/
def Wo.passes (w : Wo) : Nat := ceilDiv w.depth (tileDepth w.fa)

/-- Rows and columns of tile `t` (03 R98). -/
def Wo.tileRows (w : Wo) (t : Nat) : List Nat :=
  let m := t / w.tilesN
  List.range' (512 * m) (min 512 (w.rows - 512 * m))
def Wo.tileColumns (w : Wo) (t : Nat) : List Nat :=
  let n := t % w.tilesN
  List.range' (tileCols w.fa * n) (min (tileCols w.fa) (w.n - tileCols w.fa * n))

/-- One output tile (02 R71, R72, R92). -/
def MatIn.tile (x : MatIn) (w : Wo) (k t : Nat) : Piece :=
  let cols := w.tileColumns t
  let c0 := cols.headD 0
  let rows := (w.tileRows t).map (fun i =>
    let vs := cols.map (fun j => x.value w (k + (i * w.n + j) * (w.depth + 1)) i j)
    let (cs, scs, fl, nn) := outRow w.fc (vs.map Prod.fst)
    ({ outs := elemOuts (w.c + i * w.stc + c0 * fmtBits w.fc / 8) (packRow w.fc (k + i) cs) nn
          (if w.usesSc then some (w.sc + i * (w.n / 32) + c0 / 32, scs) else none),
       flags := vs.foldl (fun a v => a ||| v.2) fl } : Piece))
  { outs := (rows.map Piece.outs).flatten, flags := rows.foldl (fun a p => a ||| p.flags) 0 }

/-- The mesh error that a row of C of tile `t` meets. -/
def MatIn.tileErr (x : MatIn) (w : Wo) (t : Nat) : Option (Nat × Nat) := firstErr ((w.tileRows t).map (rowOf x.cRows))

/-- Whether tile `t` depends on a poisoned input (04 R151). -/
def MatIn.tilePoisoned (x : MatIn) (w : Wo) (t : Nat) : Bool :=
  let cols := w.tileColumns t
  let b0 := cols.headD 0 * fmtBits w.fb / 8
  let bn := elemBytes w.fb cols.length
  let any (r : RowRd) (a o n : Nat) : Bool := (linesOf (a + o) n).any (fun l => r.bad.contains l)
  (w.tileRows t).any (fun i =>
      (w.aRowsOf i).any (fun r => (rowOf x.aRows r).bad ≠ [] || (rowOf x.aSc r).bad ≠ [])
        || any (rowOf x.cRows i) (addrOf w.c + i * w.stc) (cols.headD 0 * fmtBits w.fc / 8) (elemBytes w.fc cols.length))
    || (List.range w.depth).any (fun k => any (rowOf x.bRows k) (addrOf w.b + k * w.stb) b0 bn
        || any (rowOf x.bSc (k / 32)) (addrOf w.sb + k / 32 * w.n) (cols.headD 0) cols.length)

/-- Reads a matrix order's operands. -/
def State.matRead (s : State) (e : Nat) (w : Wo) : MatIn × State :=
  let pos := if w.op = opConv then w.m * w.convProd ConvDim.inp else w.m
  let (a, s1) := State.readRows e w.op w.a w.sta (elemBytes w.fa w.k) pos 0 noSite s
  let (sa, s2) := if w.usesSa then State.readRows e w.op w.sa (w.k / 32) (w.k / 32) pos 0 noSite s1 else ([], s1)
  let (b, s3) := State.readRows e w.op w.b w.stb (elemBytes w.fb w.n) w.depth 0 noSite s2
  let (sb, s4) := if w.usesSb then State.readRows e w.op w.sb w.n w.n (w.depth / 32) 0 noSite s3 else ([], s3)
  let (c, s5) := if w.op = opMatmulAcc then State.readRows e w.op w.c w.stc (elemBytes w.fc w.n) w.m 0 noSite s4 else ([], s4)
  ({ aRows := a, aSc := sa, bRows := b, bSc := sb, cRows := c }, s5)

/-- Cycles in which the arrays stream the rows of an order's tiles, one row a cycle in each pass (03 R98, R99, R124), and those
in which a pass waits for a weight load or an operand, which are free (log 63). -/
def State.arraysBusy (s : State) (e : Nat) (w : Wo) (tiles : List Nat) : State :=
  let s1 := tiles.foldl (fun s t => s.count .CE_ARRAY_BUSY_COUNT e (t % 4) 64 (w.passes * (w.tileRows t).length)) s
  { s1.count .CE_PORT_STALL_COUNT e 0 64 (Config.free s1.freeCtr) with freeCtr := s1.freeCtr + 1 }

/-- MATMUL, MATMUL_ACC and CONV: tiles in linear order, four at a time on the four arrays (03 R98); poison, traps and the
rest as 04 R151 and 02 R93 give. `acc` lists the tiles whose accumulators hold an uncorrectable error (03 R110). -/
def bodyMatrix (e : Nat) (acc : List Nat) : Body := fun w r s =>
  let (x, s1) := s.matRead e w
  let all := x.aRows ++ x.aSc ++ x.bRows ++ x.bSc ++ x.cRows
  let k := s1.freeCtr
  let k2 := k + (w.rows + 1) * (w.n + 1) * (w.depth + 2)
  let s2 := { s1 with freeCtr := k2 + w.tiles + 3 }
  let s3 := s2.setEng e { s2.eng e with accGen := (s2.eng e).accGen + 1, acc := [] }
  let ps := (List.range w.tiles).map (fun t =>
    if x.tilePoisoned w t || acc.contains t || (x.tileErr w t).isSome then none else some (x.tile w k t))
  let stop := (ps.findIdx? Option.isNone).map (fun t => match x.tileErr w t with
    | some er => r.meshFail er
    | none => r.poisonFail ((firstPoison all).getD (2 ^ 62 + Config.free (k2 + w.tiles + 2) % 2 ^ 26)))
  let (r1, t) := r.settle 4 k2 stop ps
  let s4 := s3.arraysBusy e w (r1.outs.map OutWr.piece).eraseDups
  match t with
  | some i => ({ r1 with aux0 := i / w.tilesN, aux1 := i % w.tilesN }, s4)
  | none => (r1, s4)

/-- Residue failures met by a matrix order (03 R103, R104): each takes a spare column, or is a hard fault when the
array's 16 are in use. -/
def State.residue (s : State) (e : Nat) : List (Nat × Nat) → State
  | [] => s
  | (a, c) :: t =>
    let used := s.f .CE_SPARE_USE_TA_COLS e (a % 4)
    if used < 16 then
      State.residue (((s.setF .CE_SPARE_USE_TA_COLS e (a % 4) (used + 1)).flag .CE_ERR_STATUS_COL_SPARED e).raise
        0x1010 sevCorrected 1 e [a % 4, c]) e t
    else s.engineFault e 1 false true

/-- A matrix row: starts the order and handles the residue failures it meets. -/
def State.matrixOrder (s : State) (e q opc : Nat) (cols : List (Nat × Nat)) (tm : List TmErr) : State :=
  let s1 := s.order e q opc (withTm e tm (bodyMatrix e ((tm.filter TmErr.bad).filterMap TmErr.acc)))
  if s1.qhead e q = s.qhead e q then s1 else s1.residue e cols

/-- A row of an order: its accesses wait with it at their homes (log 21). -/
def orderRow (c : Instr) (e q : Nat) (f : State → State) : State → Res :=
  parkIf c (ParkKey.queue e q).no (fun s => .next (f s))

/-- MATMUL. -/
def execMatmul (e q : Nat) (cols : List (Nat × Nat)) (tm : List TmErr) (s : State) : Res :=
  orderRow (.matmul e q cols tm) e q (fun s => s.matrixOrder e q opMatmul cols tm) s

/-- MATMUL_ACC. -/
def execMatmulAcc (e q : Nat) (cols : List (Nat × Nat)) (tm : List TmErr) (s : State) : Res :=
  orderRow (.matmulAcc e q cols tm) e q (fun s => s.matrixOrder e q opMatmulAcc cols tm) s

/-- CONV. -/
def execConv (e q : Nat) (cols : List (Nat × Nat)) (tm : List TmErr) (s : State) : Res :=
  orderRow (.conv e q cols tm) e q (fun s => s.matrixOrder e q opConv cols tm) s

/-- NOP (04 R150). -/
def execNop (e q : Nat) (s : State) : Res := orderRow (.nop e q) e q (fun s => s.order e q opNop bodyNop) s

/-- WAIT (04 R169): the order pends; it is judged at once. -/
def execWait (e q : Nat) (s : State) : Res :=
  orderRow (.wait e q) e q (fun s =>
    let s1 := s.order e q opWait (bodyWait e)
    match s1.waits.getLast? with
    | some w => s1.judge w.tally
    | none => s1) s

/-- SIGNAL starts; it acts when every earlier order of its queue has completed (04 R175). -/
def execSignal (e q : Nat) (s : State) : Res := orderRow (.signal e q) e q (fun s => s.order e q opSignal bodyNop) s

/-- REDUCE. -/
def execReduce (e q : Nat) (tm : List TmErr) (s : State) : Res :=
  orderRow (.reduce e q tm) e q (fun s => s.order e q opReduce (withTm e tm (bodyReduce e))) s

/-- COPY. -/
def execCopy (e q : Nat) (site : SiteAns) (tm : List TmErr) (s : State) : Res :=
  orderRow (.copy e q site tm) e q (fun s => s.order e q opCopy (withTm e tm (bodyCopy e site))) s

/-- CONVERT. -/
def execConvert (e q : Nat) (site : SiteAns) (tm : List TmErr) (s : State) : Res :=
  orderRow (.convert e q site tm) e q (fun s => s.order e q opConvert (withTm e tm (bodyConvert e site))) s

/-- TRANSPOSE. -/
def execTranspose (e q : Nat) (tm : List TmErr) (s : State) : Res :=
  orderRow (.transpose e q tm) e q (fun s => s.order e q opTranspose (withTm e tm (bodyTranspose e))) s

/-- GATHER. -/
def execGather (e q : Nat) (tm : List TmErr) (s : State) : Res :=
  orderRow (.gather e q tm) e q (fun s => s.order e q opGather (withTm e tm (bodyGather e))) s

/-- SCATTER. -/
def execScatter (e q : Nat) (tm : List TmErr) (s : State) : Res :=
  orderRow (.scatter e q tm) e q (fun s => s.order e q opScatter (withTm e tm (bodyScatter e))) s

/-- PREFETCH_LLC. -/
def execPrefetchLlc (e q : Nat) (s : State) : Res :=
  orderRow (.prefetchLlc e q) e q (fun s => s.order e q opPrefetch (bodyPrefetch e)) s

/-- WRITEBACK. -/
def execWriteback (e q : Nat) (s : State) : Res :=
  orderRow (.writeback e q) e q (fun s => s.order e q opWriteback (bodyWriteback e)) s

/-- WAIT_TIMEOUT: the pending WAIT of a queue reaches its limit (04 R170): it consumes nothing, and a consuming WAIT behind it
may be the oldest now. -/
def execWaitTimeout (e q : Nat) (s : State) : Res :=
  match s.waits.find? (fun w => w.e == e && w.q == q) with
  | some w => match (s.eng e).runs.find? (fun r => r.q == q && r.idx == w.idx) with
    | some r =>
      if leAt r.order 96 4 = 0 ∨ (s.eng e).halted then .next s
      else
        .next ((s.updRun e q w.idx (fun r => { r.fail csTimeout 0x0402 (s.tally w.tally) with finished := true })).dropWaits
          (fun x => decide (x = w)))
    | none => .next s
  | none => .next s

/-- A LANE order's OUT_BYTES copy (04 R158, R165). -/
def State.laneOut (s : State) (e : Nat) (r : Run) : Run :=
  let w := Wo.parse r.order
  if r.op = opLane ∧ r.status = csOk ∧ w.outBytes ≠ 0 then
    match (s.eng e).tilePoison (addrOf w.outSrc) w.outBytes with
    | some p => { r.poisonFail (2 ^ 62 + p) with flags := r.flags }
    | none => { r with outs := [{ addr := w.c, bytes := (s.eng e).tileBytes (addrOf w.outSrc) w.outBytes }] }
  else r

/-- The read of a LANE order's OUT_BYTES copy meets the errors that lie there (03 R110). -/
def State.laneOutRead (s : State) (e : Nat) (r : Run) : State :=
  let w := Wo.parse r.order
  if r.op = opLane ∧ r.status = csOk then s.tmMeet e (addrOf w.outSrc) w.outBytes else s

/-- An engine with no order left goes idle, or on from draining to fencing (03 R121). -/
def State.engineQuiet (s : State) (e : Nat) : State :=
  if (s.eng e).runs ≠ [] then s
  else if s.pstate e = 2 then ((s.beginFence e).setF .CE_STATUS_PSTATE e 0 3).fallowReport 0 e 2 0
  else if s.pstate e = 0 ∧ (List.range 16).all (fun q =>
      decide (s.qstate e q = qDisabled) || decide (s.qhead e q = s.f .CE_WQ_TAIL_TAIL e q)) then
    s.setF .CE_STATUS_PSTATE e 0 1
  else s

/-- The next order of a queue whose outcome stands and whose writes are still to be made. -/
def Eng.finishing (g : Eng) (q : Nat) : Option Run := g.runs.find? (fun r => r.q == q && r.done && !r.finished)

/-- An order makes its writes, and its resources are free (04 R173). -/
def State.performRun (s : State) (e : Nat) (r : Run) : State :=
  let s0 := s.laneOutRead e r
  let r0 := s0.laneOut e r
  let (r1, s1) := State.performOuts e r0.outs r0 s0
  s1.updRun e r.q r.idx (fun _ => { r1 with finished := true, res := [], outs := [] })

/-- Completes the oldest order of a queue once all it did is performed: a SIGNAL's action, its record (04 R173-R175). -/
def State.completeFirst (s : State) (e q : Nat) : State :=
  match (s.eng e).first q with
  | none => s
  | some r =>
    if !r.done || !r.finished || s.runWaits e q r.idx then s
    else
      let w := Wo.parse r.order
      let s1 := if r.op = opSignal ∧ r.status = csOk then s.signalTally (w.tally (s.plotOfEngine e)) (w.arg 92 4)
        else s
      (s1.finishRun e r).engineQuiet e

/-- Whether an engine lets an order's writes go out: while it is halted, an order of the arrays or of REDUCE ends only with a
step, whose pass is its last (16 R595). -/
def Eng.lets (g : Eng) (r : Run) : Bool :=
  !g.halted || !r.res.any (fun x => decide (x ≤ 4)) || r.op == opLane || bit g.stepMask 64

/-- WORK_ORDER_COMPLETE: the next order of the queue whose outcome stands makes its writes; then the oldest one completes if
all it did is performed. An order that ends early under OVERLAP holds its record (04 R174). -/
def execWorkOrderComplete (e q : Nat) (s : State) : Res :=
  parkIf (.workOrderComplete e q) (ParkKey.queue e q).no (fun s =>
    let g := s.eng e
    match g.finishing q with
    | some r =>
      if !g.lets r then .next (s.completeFirst e q)
      else
        let s1 := if g.halted && r.res.any (fun x => decide (x ≤ 4)) && r.op != opLane then
            s.setEng e { g with stepMask := setBit g.stepMask 64 false } else s
        .next ((s1.performRun e r).completeFirst e q)
    | none => .next (s.completeFirst e q)) s

end Sys2Proof.Machine
end

