-- ==== Sys2Proof/Machine/Lane.lean ====
section
/-! DEFINITION. Lane programs (04 R158-R165; arithmetic 02 R85-R90): instruction fields and checks, streams, lane-class
and scalar-class operations. A row executes the instruction at its unit's stream when that instruction has the row's
opcode; an instruction that 04 R164 refuses completes the order whichever row meets it. -/

namespace Sys2Proof.Machine

/-- Fields of a lane instruction (04 R161). -/
structure Ins where
  op : Nat
  rd : Nat
  ra : Nat
  rb : Nat
  rc : Nat
  pred : Nat
  pneg : Nat
  fmt : Nat
  imm : Nat
  deriving DecidableEq, Repr

/-- Takes an instruction apart (04 R161). -/
def Ins.parse (w : Nat) : Ins :=
  { op := bits w 63 56, rd := bits w 55 51, ra := bits w 50 46, rb := bits w 45 41, rc := bits w 40 36,
    pred := bits w 35 33, pneg := bits w 32 32, fmt := bits w 31 28, imm := bits w 27 0 }

/-- IMM read as signed (04 R161). -/
def Ins.simm (i : Ins) : Int := asInt 28 i.imm

/-- Whether every field that is not among those used is zero (04 R161, R164). -/
def Ins.fits (i : Ins) (rd ra rb rc prd neg fmt imm : Bool) : Bool :=
  (rd || i.rd == 0) && (ra || i.ra == 0) && (rb || i.rb == 0) && (rc || i.rc == 0) && (prd || i.pred == 0)
    && (neg || i.pneg == 0) && (fmt || i.fmt == 0) && (imm || i.imm == 0)

/-- A format a load or store accepts: not block-scaled, not reserved (04 R163). -/
def ldFmt (f : Nat) : Bool := fmtOk f && !fmtBlock f

/-- Checks of 04 R164 on the instruction alone; reserved condition codes, formats and immediates count as reserved
opcodes do (log 16). DESIGN CHOICE (log 95): FCMP and ICMP with RD of 8 or more, which name no predicate, are illegal too. -/
def Ins.legal (i : Ins) : Bool :=
  let t := true
  let f := false
  if i.op = 0x00 ∨ i.op = 0x57 ∨ i.op = 0x5F then i.fits f f f f f f f f
  else if (1 ≤ i.op ∧ i.op ≤ 3) ∨ i.op = 5 ∨ i.op = 6 ∨ i.op = 8 ∨ i.op = 9 ∨ (0x10 ≤ i.op ∧ i.op ≤ 0x1A) then
    i.fits t t t f t t f f
  else if i.op = 4 ∨ i.op = 0xA then i.fits t t t t t t f f
  else if i.op = 7 then i.fits t t t f t t t f && decide (i.fmt ≤ 3) && decide (i.rd < 8)
  else if i.op = 0x1B then i.fits t t t f t t t f && decide (i.fmt ≤ 5) && decide (i.rd < 8)
  else if i.op = 0x20 then i.fits t t f f t t t t && decide (i.imm < 16) && fmtOk i.imm && fmtOk i.fmt
  else if 0x21 ≤ i.op ∧ i.op ≤ 0x25 then i.fits t t f f t t f f
  else if i.op = 0x28 then i.fits t f f f t t t t && (i.fmt == 11 || i.fmt == 12)
  else if i.op = 0x29 then i.fits t t f f t t f f
  else if i.op = 0x2A then i.fits t f f f t t f f
  else if i.op = 0x2B then i.fits t t t f t f f f
  else if i.op = 0x30 ∨ i.op = 0x31 then i.fits t t f f t t t t && ldFmt i.fmt
  else if i.op = 0x32 ∨ i.op = 0x33 then i.fits t t t f t t t f && ldFmt i.fmt
  else if i.op = 0x38 then i.fits t t f f t t f t && decide (i.imm ≤ 3)
  else if (0x40 ≤ i.op ∧ i.op ≤ 0x48) ∨ i.op = 0x4E ∨ i.op = 0x4F then i.fits t t t f f f f f
  else if i.op = 0x49 ∨ i.op = 0x4C ∨ (0x51 ≤ i.op ∧ i.op ≤ 0x54) then i.fits t t f f f f f t
  else if i.op = 0x4A ∨ i.op = 0x4B then i.fits t t f f f f f t && decide (i.imm < 64)
  else if i.op = 0x4D then i.fits t t t f f f t f && decide (i.fmt ≤ 5)
  else if i.op = 0x50 then i.fits t t t f f f t f && decide (i.fmt ≤ 3)
  else if i.op = 0x55 ∨ i.op = 0x56 then
    i.fits t t f f f f f t && decide (8 ≤ i.imm ∧ i.imm ≤ 64 ∧ i.imm % 8 = 0)
  else if i.op = 0x58 then i.fits f t t f f f t t && decide (i.fmt ≤ 5) && decide (i.imm < 1024)
  else if i.op = 0x59 then i.fits f f f f f f f t && decide (i.imm < 1024)
  else if i.op = 0x5A ∨ i.op = 0x5B then i.fits f f f f t f f t && decide (i.imm < 1024)
  else f

/-- Lane-class opcodes, and BRANY and BRALL, which are for vector mode only (04 R159, R163). -/
def Ins.vectorOnly (i : Ins) : Bool :=
  decide (1 ≤ i.op ∧ i.op ≤ 0x38) || i.op == 0x5A || i.op == 0x5B

/-! ### Registers of a stream -/

/-- Lanes of a lane group. -/
def nLanes : Nat := 4096

/-- The lanes of a register whose list may be shorter: every lane beyond it holds `d`. -/
def padLanes {α : Type} (d : α) (l : List α) : List α := l.take nLanes ++ List.replicate (nLanes - l.length) d

/-- A lane register. -/
def Stream.v (t : Stream) (r : Nat) : List (BitVec 32) := padLanes 0 (NTbl.at [] t.vreg r)

/-- Which lanes of a register hold a value read from storage (02 R90). -/
def Stream.vStored (t : Stream) (r : Nat) : List Bool := padLanes false (NTbl.at [] t.vnan r)

/-- A predicate; p0 is true in every lane (04 R162). -/
def Stream.p (t : Stream) (r : Nat) : List Bool :=
  if r = 0 then List.replicate nLanes true else padLanes false (NTbl.at [] t.pred r)

/-- A scalar register. -/
def Stream.s (t : Stream) (r : Nat) : Nat := NTbl.at 0 t.sreg r

/-- Whether a scalar register holds a value read from storage. -/
def Stream.sStored (t : Stream) (r : Nat) : Bool := NTbl.at false t.snan r

/-- Writes a scalar register. -/
def Stream.setS (t : Stream) (r v : Nat) (stored : Bool := false) : Stream :=
  { t with sreg := NTbl.put 0 t.sreg r (v % 2 ^ 64), snan := NTbl.put false t.snan r stored }

/-- Lanes at zero, or all false, are kept as []. -/
def packLanes {α : Type} [DecidableEq α] (d : α) (l : List α) : List α := if l.all (fun x => decide (x = d)) then [] else l

/-- What one lane sees: its number, whether it acts, its operands and where they came from. -/
structure LaneIn where
  lane : Nat
  act : Bool
  a : Nat
  b : Nat
  c : Nat
  d : Nat
  sa : Bool
  sb : Bool
  sc : Bool
  sd : Bool
  prd : Bool
  deriving DecidableEq, Repr

/-- Pairs each lane's operand with whether it came from storage. -/
def Stream.lanesOf (t : Stream) (r : Nat) : List (BitVec 32 × Bool) := (t.v r).zip (t.vStored r)

/-- Which lanes act (04 R162). -/
def Stream.active (t : Stream) (i : Ins) : List Bool := (t.p i.pred).map (fun x => x != (i.pneg == 1))

/-- The lanes of an instruction. -/
def Stream.inputs (t : Stream) (i : Ins) : List LaneIn :=
  let ab := (t.lanesOf i.ra).zip (t.lanesOf i.rb)
  let cd := (t.lanesOf i.rc).zip (t.lanesOf i.rd)
  ((((t.active i).zip (t.p i.pred)).zip (ab.zip cd)).zipIdx).map (fun x =>
    { lane := x.2, act := x.1.1.1, prd := x.1.1.2, a := x.1.2.1.1.1.toNat, sa := x.1.2.1.1.2,
      b := x.1.2.1.2.1.toNat, sb := x.1.2.1.2.2, c := x.1.2.2.1.1.toNat, sc := x.1.2.2.1.2,
      d := x.1.2.2.2.1.toNat, sd := x.1.2.2.2.2 })

/-- What one lane answers: code, flags, whether the value came from storage. -/
abbrev LaneVal := Nat × Nat × Bool

/-- Writes vd in the lanes that act: stream and flags. -/
def Stream.vmap (t : Stream) (i : Ins) (f : LaneIn → LaneVal) : Stream × Nat :=
  let r := (t.inputs i).map (fun x => if x.act then f x else (x.d, 0, x.sd))
  ({ t with
      vreg := NTbl.put [] t.vreg i.rd (packLanes 0 (r.map (fun x => BitVec.ofNat 32 x.1)))
      vnan := NTbl.put [] t.vnan i.rd (packLanes false (r.map (fun x => x.2.2))) },
    r.foldl (fun a x => a ||| x.2.1) 0)

/-- Writes predicate pRD in the lanes that act; p0 ignores writes: stream and flags (04 R162). -/
def Stream.pmap (t : Stream) (i : Ins) (f : LaneIn → Bool × Nat) : Stream × Nat :=
  let r := ((t.inputs i).zip (t.p i.rd)).map (fun x => if x.1.act then f x.1 else (x.2, 0))
  let fl := r.foldl (fun a x => a ||| x.2) 0
  if i.rd = 0 then (t, fl)
  else ({ t with pred := NTbl.put [] t.pred i.rd (packLanes false (r.map Prod.fst)) }, fl)

/-! ### Lane arithmetic (02 R85-R90) -/

/-- NAN_IN of an FP32 operand that came from storage (02 R90). -/
def nanFrom (k : FFmt) (stored : Bool) (c : Nat) : Nat := if stored && (k.decode c).isNan then flNanIn else 0

/-- Rounds a lane result to FP32: code and flags. -/
def outF32 (v : Fv × Nat) : Nat × Nat :=
  let (c, o) := fp32.roundArith v.1
  (c, v.2 ||| (if o then flOverflow else 0))

/-- Rounds a lane result to BF16: code and flags; OVERFLOW is for FP32 results only (02 R90). -/
def outB16 (v : Fv × Nat) : Nat × Nat := ((bf16.roundArith v.1).1, v.2)

/-- a × b + c with one rounding to come (02 R85); a NaN third operand makes no operation invalid (02 R90). -/
def fmaFv (a b c : Fv) : Fv × Nat :=
  let p := a.mul b
  let r := p.1.add c
  (r.1, if c.isNan then 0 else p.2 ||| r.2)

/-- An FP32 operation of two operands. -/
def lane2 (f : Fv → Fv → Fv × Nat) (x : LaneIn) : LaneVal :=
  let (c, fl) := outF32 (f (fp32.decode x.a) (fp32.decode x.b))
  (c, fl ||| nanFrom fp32 x.sa x.a ||| nanFrom fp32 x.sb x.b, false)

/-- An FP32 operation of one operand's code. -/
def lane1 (f : Nat → Fv × Nat) (x : LaneIn) : LaneVal :=
  let (v, fl) := f x.a
  ((fp32.roundArith v).1, fl ||| nanFrom fp32 x.sa x.a, false)

/-- A paired BF16 operation: both halves (02 R85). -/
def laneH (f : Fv → Fv → Fv → Fv × Nat) (three : Bool) (x : LaneIn) : LaneVal :=
  let half (h : Nat) : Nat × Nat :=
    let a := x.a / 2 ^ h % 65536
    let b := x.b / 2 ^ h % 65536
    let c := x.c / 2 ^ h % 65536
    let (r, fl) := outB16 (f (bf16.decode a) (bf16.decode b) (bf16.decode c))
    (r, fl ||| nanFrom bf16 x.sa a ||| nanFrom bf16 x.sb b ||| (if three then nanFrom bf16 x.sc c else 0))
  let lo := half 0
  let hi := half 16
  (hi.1 * 65536 + lo.1, lo.2 ||| hi.2, false)

/-- An INT32 or bitwise operation: wraps, no flag (02 R88). -/
def laneI (f : Nat → Nat → Nat) (x : LaneIn) : LaneVal := (f x.a x.b % 2 ^ 32, 0, false)

/-- A saturating INT32 operation (02 R88). -/
def laneSat (f : Int → Int → Int) (x : LaneIn) : LaneVal :=
  let (v, c) := clampInt 32 (f (asInt 32 x.a) (asInt 32 x.b))
  (ofInt 32 v, if c then flSaturated else 0, false)

/-- Condition codes on floats (04 R162, 02 R86). -/
def condF (cond : Nat) (a b : Fv) : Bool :=
  match cond with
  | 0 => a.eqv b
  | 1 => !a.eqv b
  | 2 => a.lt b
  | _ => !a.isNan && !b.isNan && !a.lt b

/-- Condition codes on `w`-bit integers (04 R162). -/
def condI (w cond a b : Nat) : Bool :=
  match cond with
  | 0 => a == b
  | 1 => a != b
  | 2 => decide (asInt w a < asInt w b)
  | 3 => decide (asInt w b ≤ asInt w a)
  | 4 => decide (a < b)
  | _ => decide (b ≤ a)

/-- Arithmetic shift right. -/
def sraN (w a n : Nat) : Nat := ofInt w (asInt w a / (2 ^ n : Nat))

/-- A lone element of a block format under a scale code below 255: code and flags as 02 R82-R84 give them for its block. -/
def loneElem (f sc : Nat) (v : Fv) : Nat × Nat :=
  if v.isNan then (0, 0)
  else if f ≠ 8 ∧ !v.isFin then (0, flInvalid)
  else (blockElem f (v.scale (127 - (sc : Int))), 0)

/-- CVT of one lane: the bits of vd above FMT's width are free (log 17). DESIGN CHOICE (log 96): a lane holds no block scale, so
the scale under which an element of a block-scaled format is read or written is free. -/
def laneCvt (i : Ins) (k : Nat) (x : LaneIn) : LaneVal :=
  let src := x.a % 2 ^ fmtBits i.imm
  let v := if fmtBlock i.imm then scaled (elemDecode i.imm src) (Config.free (k + nLanes + x.lane) % 256) else elemDecode i.imm src
  let (c, fl) := if fmtBlock i.fmt then loneElem i.fmt (Config.free (k + 2 * nLanes + x.lane) % 255) v else elemConv i.fmt v
  let w := fmtBits i.fmt
  (c + Config.free (k + x.lane) % 2 ^ (32 - w) * 2 ^ w, fl ||| (if x.sa && v.isNan then flNanIn else 0), false)

/-! ### Tile accesses of lanes -/

/-- Nibble address of element `j` of a format from a byte address (04 R163: w is the element width of FMT). -/
def nibAt (f base : Nat) (j : Int) : Int := 2 * (base : Int) + j * ((fmtBits f / 4 : Nat) : Int)

/-- Whether an element at a nibble address lies in tile memory (03 R108). -/
def nibOk (f : Nat) (a : Int) : Bool := decide (0 ≤ a) && decide (a + ((fmtBits f / 4 : Nat) : Int) ≤ 2 * ((tileSize : Nat) : Int))

/-- Byte address and bytes touched of an element. -/
def nibBytes (f : Nat) (a : Int) : Nat × Nat := (a.toNat / 2, (fmtBits f + 7) / 8)

/-- An element's code at a nibble address. -/
def Eng.nibCode (g : Eng) (f : Nat) (a : Int) : Nat :=
  let (b, n) := nibBytes f a
  let v := leNat (g.tileBytes b n)
  if fmtBits f = 4 then v / (if a.toNat % 2 = 0 then 1 else 16) % 16 else v

/-- Bytes that put an element's code at a nibble address. -/
def Eng.nibPut (g : Eng) (f : Nat) (a : Int) (c : Nat) : Bytes :=
  let (b, n) := nibBytes f a
  if fmtBits f = 4 then
    let v := leNat (g.tileBytes b 1)
    leBytes 1 (if a.toNat % 2 = 0 then v / 16 * 16 + c % 16 else v % 16 + 16 * (c % 16))
  else leBytes n c

/-- Widens an element to 32 bits (02 R81): code, and NAN_IN where a narrow NaN is converted. -/
def widen (f c : Nat) : Nat × Nat :=
  let v := elemDecode f c
  if f = 11 ∨ f = 12 then (c, 0)
  else if fmtInt f then ((elemConv 12 v).1, 0)
  else ((fp32.roundArith v).1, if v.isNan then flNanIn else 0)

/-- Narrows 32 bits to an element (02 R78-R80): code, flags, whether a NaN is written. -/
def narrow (f : Nat) (stored : Bool) (c : Nat) : Nat × Nat × Bool :=
  if f = 12 then (c, 0, false)
  else if f = 11 then (c, 0, (fp32.decode c).isNan)
  else
    let v := if fmtInt f then elemDecode 12 c else fp32.decode c
    let (r, fl) := elemConv f v
    (r, fl ||| (if stored && v.isNan then flNanIn else 0), !fmtInt f && (elemDecode f r).isNan)

/-! ### Running streams -/

/-- What an instruction does: the stream after it, its flags and NaN elements written, the state; or the order's end. -/
inductive LaneEnd where
  | next (t : Stream) (fl nans : Nat) (s : State)
  | stop (status fault addr : Nat) (s : State)
  deriving DecidableEq, Repr

/-- What a row does at its unit's stream. -/
abbrev LaneFn := Stream → Ins → State → LaneEnd

/-- The stream of a scalar unit. -/
def State.stream (s : State) (e u : Nat) : Option Stream := NTbl.at none (s.eng e).streams u

/-- Puts a unit's stream back. -/
def State.setStream (s : State) (e u : Nat) (t : Stream) : State :=
  let g := s.eng e
  s.setEng e { g with streams := NTbl.put none g.streams u (some t) }

/-- Ends every stream of an order. -/
def Eng.endStreams (g : Eng) (q idx : Nat) : Eng :=
  { g with streams := g.streams.map (fun x => (x.1, x.2.map (fun t =>
      if t.q = q ∧ t.idx = idx then { t with ended := true } else t))) }

/-- Completes a LANE order with a status; the effects of earlier instructions remain (04 R164). -/
def State.laneStop (s : State) (e q idx status fault addr : Nat) : State :=
  let s1 := s.updRun e q idx (fun r => { r.fail status fault addr with finished := true, res := [] })
  s1.setEng e ((s1.eng e).endStreams q idx)

/-- Whether every stream of an order has ended. -/
def Eng.allEnded (g : Eng) (q idx : Nat) : Bool :=
  g.streams.all (fun x => match x.2 with
    | some t => !(decide (t.q = q) && decide (t.idx = idx)) || t.ended
    | none => true)

/-- Whether an engine executes a unit's lane instructions: powered, not halted by debug, or let step once (16 R595), and the unit
not taken by a claim (03 R116). -/
def State.laneRuns (s : State) (e u : Nat) : Bool :=
  s.present .engine e && (!(s.eng e).halted || bit (s.eng e).stepMask u)
    && !(((s.stream e u).map Stream.held).getD false && s.claimed e)

/-- Whether a stream has used its STEP_LIMIT (04 R158, R164). -/
def Stream.spent (t : Stream) : Bool := decide (t.limit ≠ 0) && decide (t.limit * 1024 ≤ t.steps)

/-- After an instruction: flags into the run, the trap of 02 R93 (04 R179), running past the store's end, the last END. -/
def State.laneAfter (s : State) (e u pc : Nat) (t : Stream) (fl nans : Nat) : State :=
  let g := s.eng e
  let s0 := (s.setEng e { g with stepMask := setBit g.stepMask u false }).setStream e u { t with steps := t.steps + 1 }
  let s1 := (s0.count .CE_LANE_ISSUE_COUNT e 0 64 1).updRun e t.q t.idx (fun r =>
    { r with flags := r.flags ||| fl, nans := r.nans + nans })
  let trap := match ((s1.eng e).runs.find? (fun r => r.q == t.q && r.idx == t.idx)) with
    | some r => r.flagBit 1 && hasInvalid fl
    | none => false
  if trap then s1.laneStop e t.q t.idx csTrapped 0x0701 (pc + 2 ^ 32 * t.no)
  else if !t.ended && decide (1024 ≤ t.pc) then s1.laneStop e t.q t.idx csIllegal 0x010C t.pc
  else if (s1.eng e).allEnded t.q t.idx then s1.updRun e t.q t.idx (fun r => { r with done := true })
  else s1

/-- A lane row of opcode `opc` at unit `u` of engine `e`. An instruction that ends its order as it runs has issued, one refused by
04 R164 has not (03 R124). -/
def State.laneRow (s : State) (e u opc : Nat) (f : LaneFn) : State :=
  match s.stream e u with
  | none => s
  | some t =>
    if t.ended || t.spent || !s.laneRuns e u then s
    else
      let i := Ins.parse (NTbl.at 0 (s.eng e).lps t.pc)
      if !i.legal || (t.scalar && i.vectorOnly) then s.laneStop e t.q t.idx csIllegal 0x010C t.pc
      else if i.op ≠ opc then s
      else match f { t with pc := t.pc + 1 } i s with
        | .next t1 fl nn s1 => s1.laneAfter e u t.pc t1 fl nn
        | .stop st fc a s1 =>
          if fc = 0x010C then s1.laneStop e t.q t.idx st fc t.pc
          else (s1.count .CE_LANE_ISSUE_COUNT e 0 64 1).laneStop e t.q t.idx st fc a

/-- A lane-class instruction that writes vd. -/
def fnV (f : LaneIn → LaneVal) : LaneFn := fun t i s =>
  let (t1, fl) := t.vmap i f
  .next t1 fl 0 s

/-- A lane-class compare. -/
def fnP (f : Ins → LaneIn → Bool × Nat) : LaneFn := fun t i s =>
  let (t1, fl) := t.pmap i (f i)
  .next t1 fl 0 s

/-- A scalar-class instruction that writes sd. -/
def fnS (f : Stream → Ins → Nat) : LaneFn := fun t i s => .next (t.setS i.rd (f t i)) 0 0 s

/-! ### The LANE order (04 R158-R160) -/

/-- Scalar registers at the start of stream `no` (04 R160). -/
def Wo.sregs (w : Wo) (no total : Nat) : NTbl Nat :=
  [(0, no), (1, total), (2, w.a % 2 ^ 52), (3, w.b % 2 ^ 52), (4, w.c % 2 ^ 52), (5, w.m), (6, w.n), (7, w.k),
    (8, w.arg 96 8), (9, w.arg 104 8)].foldl (fun t x => NTbl.put 0 t x.1 x.2) []

/-- Units that run streams: the lead unit of each group, or all 16 of each (04 R159). -/
def Wo.laneUnits (w : Wo) : List Nat :=
  let gs := maskList 4 (w.arg 90 1)
  if bit (w.arg 91 1) 0 then (gs.map (fun g => (List.range 16).map (fun i => 16 * g + i))).flatten
  else gs.map (16 * ·)

/-- LANE creates its streams; the order completes when all have ended (04 R159, R160, R165). -/
def bodyLane (e : Nat) : Body := fun w r s =>
  let us := w.laneUnits
  let g := s.eng e
  let mk (no : Nat) : Stream :=
    { q := r.q, idx := r.idx, no := no, scalar := bit (w.arg 91 1) 0, pc := w.arg 88 2, steps := 0,
      limit := w.arg 92 4, ended := false, sreg := w.sregs no us.length, snan := [], vreg := [], vnan := [],
      pred := [] }
  ({ r with done := false },
    s.setEng e { g with streams := us.zipIdx.foldl (fun t x => NTbl.put none t x.1 (some (mk x.2))) g.streams })

/-- LANE. -/
def execLane (e q : Nat) (tm : List TmErr) (s : State) : Res :=
  orderRow (.lane e q tm) e q (fun s => s.order e q opLane (withLatent e tm (bodyLane e))) s

/-- LANE_STEP_LIMIT: a stream that would exceed STEP_LIMIT ends the order (04 R164); what AUX0 and AUX1 hold is free
(log 18). -/
def execLaneStepLimit (e u : Nat) (s : State) : Res :=
  match s.stream e u with
  | some t =>
    if t.ended || !t.spent then .next s
    else .next ({ s with freeCtr := s.freeCtr + 1 }.laneStop e t.q t.idx csTimeout 0x0403 (Config.free s.freeCtr))
  | none => .next s

/-! ### Lane-class rows -/

/-- NOP (04 R163). -/
def execLaneNop (e u : Nat) (s : State) : Res := .next (s.laneRow e u 0x00 (fun t _ s => .next t 0 0 s))

/-- FADD. -/
def execFadd (e u : Nat) (s : State) : Res := .next (s.laneRow e u 0x01 (fnV (lane2 Fv.add)))

/-- FSUB. -/
def execFsub (e u : Nat) (s : State) : Res := .next (s.laneRow e u 0x02 (fnV (lane2 (fun a b => a.add b.negate))))

/-- FMUL. -/
def execFmul (e u : Nat) (s : State) : Res := .next (s.laneRow e u 0x03 (fnV (lane2 Fv.mul)))

/-- FFMA: fused (02 R85). -/
def execFfma (e u : Nat) (s : State) : Res :=
  .next (s.laneRow e u 0x04 (fnV (fun x =>
    let (c, fl) := outF32 (fmaFv (fp32.decode x.a) (fp32.decode x.b) (fp32.decode x.c))
    (c, fl ||| nanFrom fp32 x.sa x.a ||| nanFrom fp32 x.sb x.b ||| nanFrom fp32 x.sc x.c, false))))

/-- FMIN (02 R86). -/
def execFmin (e u : Nat) (s : State) : Res := .next (s.laneRow e u 0x05 (fnV (lane2 (fun a b => (a.min2 b, 0)))))

/-- FMAX (02 R86). -/
def execFmax (e u : Nat) (s : State) : Res := .next (s.laneRow e u 0x06 (fnV (lane2 (fun a b => (a.max2 b, 0)))))

/-- FCMP (04 R162). -/
def execFcmp (e u : Nat) (s : State) : Res :=
  .next (s.laneRow e u 0x07 (fnP (fun i x =>
    (condF i.fmt (fp32.decode x.a) (fp32.decode x.b), nanFrom fp32 x.sa x.a ||| nanFrom fp32 x.sb x.b))))

/-- HADD. -/
def execHadd (e u : Nat) (s : State) : Res :=
  .next (s.laneRow e u 0x08 (fnV (laneH (fun a b _ => a.add b) false)))

/-- HMUL. -/
def execHmul (e u : Nat) (s : State) : Res :=
  .next (s.laneRow e u 0x09 (fnV (laneH (fun a b _ => a.mul b) false)))

/-- HFMA. -/
def execHfma (e u : Nat) (s : State) : Res := .next (s.laneRow e u 0x0A (fnV (laneH fmaFv true)))

/-- IADD (02 R88). -/
def execIadd (e u : Nat) (s : State) : Res := .next (s.laneRow e u 0x10 (fnV (laneI (· + ·))))

/-- ISUB. -/
def execIsub (e u : Nat) (s : State) : Res := .next (s.laneRow e u 0x11 (fnV (laneI (fun a b => a + 2 ^ 32 - b))))

/-- IMUL. -/
def execImul (e u : Nat) (s : State) : Res := .next (s.laneRow e u 0x12 (fnV (laneI (· * ·))))

/-- IADDS. -/
def execIadds (e u : Nat) (s : State) : Res := .next (s.laneRow e u 0x13 (fnV (laneSat (· + ·))))

/-- ISUBS. -/
def execIsubs (e u : Nat) (s : State) : Res := .next (s.laneRow e u 0x14 (fnV (laneSat (· - ·))))

/-- AND. -/
def execAnd (e u : Nat) (s : State) : Res := .next (s.laneRow e u 0x15 (fnV (laneI (· &&& ·))))

/-- OR. -/
def execOr (e u : Nat) (s : State) : Res := .next (s.laneRow e u 0x16 (fnV (laneI (· ||| ·))))

/-- XOR. -/
def execXor (e u : Nat) (s : State) : Res := .next (s.laneRow e u 0x17 (fnV (laneI (· ^^^ ·))))

/-- SHL by vb[4:0]. -/
def execShl (e u : Nat) (s : State) : Res := .next (s.laneRow e u 0x18 (fnV (laneI (fun a b => a * 2 ^ (b % 32)))))

/-- SHR by vb[4:0]. -/
def execShr (e u : Nat) (s : State) : Res := .next (s.laneRow e u 0x19 (fnV (laneI (fun a b => a / 2 ^ (b % 32)))))

/-- SRA by vb[4:0]. -/
def execSra (e u : Nat) (s : State) : Res := .next (s.laneRow e u 0x1A (fnV (laneI (fun a b => sraN 32 a (b % 32)))))

/-- ICMP. -/
def execIcmp (e u : Nat) (s : State) : Res :=
  .next (s.laneRow e u 0x1B (fnP (fun i x => (condI 32 i.fmt x.a x.b, 0))))

/-- CVT from format IMM[3:0] to FMT (02 R78). -/
def execCvt (e u : Nat) (s : State) : Res :=
  .next (s.laneRow e u 0x20 (fun t i s =>
    let (t1, fl) := t.vmap i (laneCvt i s.freeCtr)
    .next t1 fl 0 { s with freeCtr := s.freeCtr + 3 * nLanes }))

/-- RCP (02 R87). -/
def execRcp (e u : Nat) (s : State) : Res := .next (s.laneRow e u 0x21 (fnV (lane1 fRcp)))

/-- RSQRT (02 R87). -/
def execRsqrt (e u : Nat) (s : State) : Res := .next (s.laneRow e u 0x22 (fnV (lane1 fRsqrt)))

/-- SQRT (02 R87). -/
def execSqrt (e u : Nat) (s : State) : Res :=
  .next (s.laneRow e u 0x23 (fnV (lane1 (fun c => fSqrt (fp32.decode c)))))

/-- EXP2 (02 R87). -/
def execExp2 (e u : Nat) (s : State) : Res := .next (s.laneRow e u 0x24 (fnV (lane1 fExp2)))

/-- LOG2 (02 R87). -/
def execLog2 (e u : Nat) (s : State) : Res := .next (s.laneRow e u 0x25 (fnV (lane1 fLog2)))

/-- MOVI. -/
def execMovi (e u : Nat) (s : State) : Res :=
  .next (s.laneRow e u 0x28 (fun t i s => fnV (fun _ =>
    (if i.fmt = 11 then i.imm * 16 else ofInt 32 i.simm, 0, false)) t i s))

/-- MOVS. -/
def execMovs (e u : Nat) (s : State) : Res :=
  .next (s.laneRow e u 0x29 (fun t i s => fnV (fun _ => (t.s i.ra % 2 ^ 32, 0, t.sStored i.ra)) t i s))

/-- LANEID. -/
def execLaneid (e u : Nat) (s : State) : Res := .next (s.laneRow e u 0x2A (fnV (fun x => (x.lane, 0, false))))

/-- SEL, which is not predicated. -/
def execSel (e u : Nat) (s : State) : Res :=
  .next (s.laneRow e u 0x2B (fun t i s =>
    let r := (t.inputs i).map (fun x => if x.prd then (x.a, x.sa) else (x.b, x.sb))
    .next { t with
        vreg := NTbl.put [] t.vreg i.rd (packLanes 0 (r.map (fun x => BitVec.ofNat 32 x.1)))
        vnan := NTbl.put [] t.vnan i.rd (packLanes false (r.map Prod.snd)) } 0 0 s))

/-! ### Loads and stores (04 R163) -/

/-- Base byte address of LD and ST, and of LDX and STX. -/
def Stream.laneBase (t : Stream) (i : Ins) (indexed : Bool) : Nat :=
  if indexed then t.s i.ra else ofInt 64 ((t.s i.ra : Int) + i.simm)

/-- Nibble address of a lane's element. -/
def laneNib (t : Stream) (i : Ins) (indexed : Bool) (x : LaneIn) : Int :=
  nibAt i.fmt (t.laneBase i indexed) (if indexed then asInt 32 x.b else (x.lane : Int))

/-- The first poisoned address the lanes read. -/
def Eng.lanePoison (g : Eng) (f : Nat) (as : List Int) : Option Nat :=
  as.findSome? (fun a => let (b, n) := nibBytes f a
    g.tilePoison b n)

/-- Whether `n` bytes of tile memory are what the stream's own order made and stored, and so no input of it (02 R90). -/
def Eng.madeBy (g : Eng) (t : Stream) (a n : Nat) : Bool :=
  (List.range n).all (fun k => g.made.any (fun m =>
    m.q == t.q && m.idx == t.idx && decide (m.addr ≤ 2 ^ 62 + (a + k) ∧ 2 ^ 62 + (a + k) < m.addr + m.len)))

/-- Bytes at an address field are the stream's own from now on (02 R90). -/
def Eng.mark (g : Eng) (t : Stream) (a n : Nat) (data : Bytes := []) : Eng :=
  { g with made := g.made ++ [{ addr := a, len := n, q := t.q, idx := t.idx, data }] }

/-- Elements at a nibble address, one after the other, are the stream's own: the bytes that lie wholly in them. -/
def Eng.markElems (g : Eng) (t : Stream) (f : Nat) (a : Int) (n : Nat) : Eng :=
  let lo := (a.toNat + 1) / 2
  let hi := (a.toNat + n * (fmtBits f / 4)) / 2
  if lo < hi then g.mark t (2 ^ 62 + lo) (hi - lo) else g

/-- The reads of a load meet the errors that lie there (03 R110). -/
def State.tmMeets (s : State) (e f : Nat) (as : List Int) : State :=
  if (s.eng e).latent = [] then s
  else as.foldl (fun s a => let (b, n) := nibBytes f a
    s.tmMeet e b n) s

/-- LD and LDX. -/
def fnLd (e : Nat) (indexed : Bool) : LaneFn := fun t i s =>
  let as := ((t.inputs i).filter LaneIn.act).map (laneNib t i indexed)
  if !as.all (nibOk i.fmt) then .stop csIllegal 0x010C 0 s
  else
    let s1 := s.tmMeets e i.fmt as
    let g := s1.eng e
    match g.lanePoison i.fmt as with
    | some a => .stop csPoison 0x0302 (2 ^ 62 + a) s1
    | none => fnV (fun x =>
        let a := laneNib t i indexed x
        let (c, fl) := widen i.fmt (g.nibCode i.fmt a)
        if g.madeBy t (nibBytes i.fmt a).1 (nibBytes i.fmt a).2 then (c, 0, false) else (c, fl, true)) t i s1

/-- Whether a lane's store stays where several lanes name one element: a free choice (log 19). -/
def stxKeeps (k : Nat) (l : List LaneIn) (x : LaneIn) : Bool :=
  let same := l.filter (fun y => y.b == x.b)
  ((same[Config.free (k + x.b) % same.length]?).map LaneIn.lane) == some x.lane

/-- One segment of contiguous stored elements: codes from a nibble address on, edges kept (04 R163). -/
def Eng.putSegment (g : Eng) (f : Nat) (a : Int) (cs : List Nat) : Eng :=
  if fmtBits f = 4 then
    let lo := if a.toNat % 2 = 1 then [leNat (g.tileBytes (a.toNat / 2) 1) % 16] else []
    let all := lo ++ cs
    let hi := if all.length % 2 = 1 then [leNat (g.tileBytes ((a.toNat + cs.length) / 2) 1) / 16] else []
    g.tileWrite (a.toNat / 2) (packElems f (all ++ hi)) false
  else g.tileWrite (a.toNat / 2) (packElems f cs) false

/-- Gathers active neighbours into segments: first address and codes. -/
def segments : List (Bool × Int × Nat) → List (Int × List Nat)
  | [] => []
  | (false, _, _) :: t => segments t
  | (true, a, c) :: t =>
    match t, segments t with
    | (true, _, _) :: _, (_, cs) :: more => (a, c :: cs) :: more
    | _, rest => (a, [c]) :: rest

/-- ST and STX; the stored register is vd. -/
def fnSt (e : Nat) (indexed : Bool) : LaneFn := fun t i s =>
  let g := s.eng e
  let l := t.inputs i
  let act := l.filter LaneIn.act
  if !(act.map (laneNib t i indexed)).all (nibOk i.fmt) then .stop csIllegal 0x010C 0 s
  else
    let out := l.map (fun x => (x, narrow i.fmt x.sd x.d))
    let on := out.filter (fun x => x.1.act)
    let fl := on.foldl (fun a x => a ||| x.2.2.1) 0
    let nn := (on.filter (fun x => x.2.2.2)).length
    if indexed then
      let g1 := on.foldl (fun g x =>
        if stxKeeps s.freeCtr act x.1 then
          let a := laneNib t i true x.1
          let g2 := g.tileWrite (a.toNat / 2) (g.nibPut i.fmt a x.2.1) false
          if x.1.sd then g2 else g2.markElems t i.fmt a 1
        else g) g
      .next t fl nn ({ s with freeCtr := s.freeCtr + 2 ^ 32 }.setEng e g1)
    else
      let segs (p : LaneIn → Bool) := segments (out.map (fun x => (p x.1, laneNib t i false x.1, x.2.1)))
      let g1 := (segs LaneIn.act).foldl (fun g x => g.putSegment i.fmt x.1 x.2) g
      .next t fl nn (s.setEng e ((segs (fun x => x.act && !x.sd)).foldl (fun g x => g.markElems t i.fmt x.1 x.2.length) g1))

/-- LD. -/
def execLd (e u : Nat) (s : State) : Res := .next (s.laneRow e u 0x30 (fnLd e false))

/-- ST. -/
def execSt (e u : Nat) (s : State) : Res := .next (s.laneRow e u 0x31 (fnSt e false))

/-- LDX. -/
def execLdx (e u : Nat) (s : State) : Res := .next (s.laneRow e u 0x32 (fnLd e true))

/-- STX. -/
def execStx (e u : Nat) (s : State) : Res := .next (s.laneRow e u 0x33 (fnSt e true))

/-- A 32-bit result in a scalar register: the upper half is free (log 17). -/
def withFreeTop (k c : Nat) : Nat := c % 2 ^ 32 + Config.free k % 2 ^ 32 * 2 ^ 32

/-- RED over the lanes that act: result code, flags (03 R114). DESIGN CHOICE (log 97): with no lane active the manual states no
result: a maximum or minimum is a free value, a sum that of no terms, and no flag is set. -/
def redResult (op k : Nat) (l : List LaneIn) : Nat × Nat :=
  let vs := l.map (fun x => fp32.decode x.a)
  let nan := l.foldl (fun a x => a ||| nanFrom fp32 x.sa x.a) 0
  match op with
  | 0 => let (v, fl) := accumF k (vs.map (fun v => (v, 0)))
    ((fp32.roundArith v).1, fl ||| nan)
  | 1 => match vs with
    | [] => (Config.free k, 0)
    | v :: t => ((fp32.roundArith (t.foldl Fv.max2 v)).1, nan)
  | 2 => match vs with
    | [] => (Config.free k, 0)
    | v :: t => ((fp32.roundArith (t.foldl Fv.min2 v)).1, nan)
  | _ => (ofInt 32 (l.map (fun x => asInt 32 x.a)).sum, 0)

/-- RED. -/
def execRed (e u : Nat) (s : State) : Res :=
  .next (s.laneRow e u 0x38 (fun t i s =>
    let (c, fl) := redResult i.imm s.freeCtr ((t.inputs i).filter LaneIn.act)
    .next (t.setS i.rd (withFreeTop (s.freeCtr + nLanes) c)) fl 0 { s with freeCtr := s.freeCtr + nLanes + 1 }))

/-! ### Scalar-class rows (04 R163, 02 R89) -/

/-- SADD. -/
def execSadd (e u : Nat) (s : State) : Res := .next (s.laneRow e u 0x40 (fnS (fun t i => t.s i.ra + t.s i.rb)))

/-- SSUB. -/
def execSsub (e u : Nat) (s : State) : Res :=
  .next (s.laneRow e u 0x41 (fnS (fun t i => t.s i.ra + 2 ^ 64 - t.s i.rb)))

/-- SMUL. -/
def execSmul (e u : Nat) (s : State) : Res := .next (s.laneRow e u 0x42 (fnS (fun t i => t.s i.ra * t.s i.rb)))

/-- SAND. -/
def execSand (e u : Nat) (s : State) : Res := .next (s.laneRow e u 0x43 (fnS (fun t i => t.s i.ra &&& t.s i.rb)))

/-- SOR. -/
def execSor (e u : Nat) (s : State) : Res := .next (s.laneRow e u 0x44 (fnS (fun t i => t.s i.ra ||| t.s i.rb)))

/-- SXOR. -/
def execSxor (e u : Nat) (s : State) : Res := .next (s.laneRow e u 0x45 (fnS (fun t i => t.s i.ra ^^^ t.s i.rb)))

/-- SSHL by sb[5:0] (log 20). -/
def execSshl (e u : Nat) (s : State) : Res :=
  .next (s.laneRow e u 0x46 (fnS (fun t i => t.s i.ra * 2 ^ (t.s i.rb % 64))))

/-- SSHR by sb[5:0] (log 20). -/
def execSshr (e u : Nat) (s : State) : Res :=
  .next (s.laneRow e u 0x47 (fnS (fun t i => t.s i.ra / 2 ^ (t.s i.rb % 64))))

/-- SSRA by sb[5:0] (log 20). -/
def execSsra (e u : Nat) (s : State) : Res :=
  .next (s.laneRow e u 0x48 (fnS (fun t i => sraN 64 (t.s i.ra) (t.s i.rb % 64))))

/-- SADDI. -/
def execSaddi (e u : Nat) (s : State) : Res :=
  .next (s.laneRow e u 0x49 (fnS (fun t i => ofInt 64 ((t.s i.ra : Int) + i.simm))))

/-- SSHLI. -/
def execSshli (e u : Nat) (s : State) : Res :=
  .next (s.laneRow e u 0x4A (fnS (fun t i => t.s i.ra * 2 ^ (i.imm % 64))))

/-- SSHRI. -/
def execSshri (e u : Nat) (s : State) : Res :=
  .next (s.laneRow e u 0x4B (fnS (fun t i => t.s i.ra / 2 ^ (i.imm % 64))))

/-- SLUI. -/
def execSlui (e u : Nat) (s : State) : Res :=
  .next (s.laneRow e u 0x4C (fnS (fun t i => (t.s i.ra * 2 ^ 28) % 2 ^ 64 ||| i.imm)))

/-- SCMP. -/
def execScmp (e u : Nat) (s : State) : Res :=
  .next (s.laneRow e u 0x4D (fnS (fun t i => b2n (condI 64 i.fmt (t.s i.ra) (t.s i.rb)))))

/-- FP32 operands of a scalar row, on the low halves, with NAN_IN. -/
def scalarF (t : Stream) (i : Ins) : Fv × Fv × Nat :=
  let a := t.s i.ra % 2 ^ 32
  let b := t.s i.rb % 2 ^ 32
  (fp32.decode a, fp32.decode b, nanFrom fp32 (t.sStored i.ra) a ||| nanFrom fp32 (t.sStored i.rb) b)

/-- SFMIN. -/
def execSfmin (e u : Nat) (s : State) : Res :=
  .next (s.laneRow e u 0x4E (fun t i s =>
    let (a, b, fl) := scalarF t i
    .next (t.setS i.rd (withFreeTop s.freeCtr (fp32.roundArith (a.min2 b)).1)) fl 0 { s with freeCtr := s.freeCtr + 1 }))

/-- SFMAX. -/
def execSfmax (e u : Nat) (s : State) : Res :=
  .next (s.laneRow e u 0x4F (fun t i s =>
    let (a, b, fl) := scalarF t i
    .next (t.setS i.rd (withFreeTop s.freeCtr (fp32.roundArith (a.max2 b)).1)) fl 0 { s with freeCtr := s.freeCtr + 1 }))

/-- SFCMP. -/
def execSfcmp (e u : Nat) (s : State) : Res :=
  .next (s.laneRow e u 0x50 (fun t i s =>
    let (a, b, fl) := scalarF t i
    .next (t.setS i.rd (b2n (condF i.fmt a b))) fl 0 s))

/-- Address sa + IMM of a scalar access. -/
def Stream.addr (t : Stream) (i : Ins) : Nat := ofInt 64 ((t.s i.ra : Int) + i.simm)

/-- SLD: 8 bytes of tile memory. -/
def execSld (e u : Nat) (s : State) : Res :=
  .next (s.laneRow e u 0x51 (fun t i s =>
    let a := t.addr i
    if tileSize < a + 8 then .stop csIllegal 0x010C 0 s
    else
      let s1 := s.tmMeet e a 8
      match (s1.eng e).tilePoison a 8 with
      | some p => .stop csPoison 0x0302 (2 ^ 62 + p) s1
      | none => .next (t.setS i.rd (leNat ((s1.eng e).tileBytes a 8)) (!(s1.eng e).madeBy t a 4)) 0 0 s1))

/-- SST: 8 bytes of tile memory from sd. -/
def execSst (e u : Nat) (s : State) : Res :=
  .next (s.laneRow e u 0x52 (fun t i s =>
    let a := t.addr i
    if tileSize < a + 8 then .stop csIllegal 0x010C 0 s
    else
      let g := (s.eng e).tileWrite a (leBytes 8 (t.s i.rd)) false
      .next t 0 0 (s.setEng e (if t.sStored i.rd then g else g.mark t (2 ^ 62 + a) 8))))

/-- Whether writes of a unit's stream into site windows still await their responses. -/
def State.unitWaits (s : State) (e u : Nat) : Bool :=
  match s.stream e u with
  | some t => s.runWaits e t.q t.idx (some u)
  | none => false

/-- SFENCE: the stream goes on once the unit's accesses are performed; those in the module are performed as they are made. -/
def execSfence (e u : Nat) (s : State) : Res :=
  .next (if s.unitWaits e u then s else s.laneRow e u 0x57 (fun t _ s => .next t 0 0 s))

/-- BR. -/
def execBr (e u : Nat) (s : State) : Res :=
  .next (s.laneRow e u 0x58 (fun t i s =>
    .next (if condI 64 i.fmt (t.s i.ra) (t.s i.rb) then { t with pc := i.imm } else t) 0 0 s))

/-- JMP. -/
def execJmp (e u : Nat) (s : State) : Res :=
  .next (s.laneRow e u 0x59 (fun t i s => .next { t with pc := i.imm } 0 0 s))

/-- BRANY. -/
def execBrany (e u : Nat) (s : State) : Res :=
  .next (s.laneRow e u 0x5A (fun t i s => .next (if (t.p i.pred).any id then { t with pc := i.imm } else t) 0 0 s))

/-- BRALL. -/
def execBrall (e u : Nat) (s : State) : Res :=
  .next (s.laneRow e u 0x5B (fun t i s => .next (if (t.p i.pred).all id then { t with pc := i.imm } else t) 0 0 s))

/-- END. -/
def execEndStream (e u : Nat) (s : State) : Res :=
  .next (s.laneRow e u 0x5F (fun t _ s => .next { t with ended := true } 0 0 s))

end Sys2Proof.Machine
end

