-- ==== Sys2Proof/Machine/Queues.lean ====
section
/-! DEFINITION. Writes of the engine's queue registers, the lane program store and the tallies (04 R129-R138, R166-R169).
Each takes the register's address and new value and answers the status a controller gets. -/

namespace Sys2Proof.Machine

/-- An index distance modulo 2^32. -/
def idxDist (a b : Nat) : Nat := (a % 2 ^ 32 + 2 ^ 32 - b % 2 ^ 32) % 2 ^ 32

/-- Granules a byte range touches. -/
def granulesOf (a n : Nat) : List Nat := if n = 0 then [] else List.range' (a / 2 ^ 30) ((a + n - 1) / 2 ^ 30 + 1 - a / 2 ^ 30)

/-- Whether a ring lies where 04 R131 allows it: in mapped granules, writable ones for a ring the module writes, or for the
operator within the stacked-memory range. -/
def State.ringOk (s : State) (plot : Option Nat) (base size : Nat) (wr : Bool) : Bool :=
  match plot with
  | none => decide (base + size ≤ memSize)
  | some p => (granulesOf base size).all (fun g => match s.mapEnt p g with
    | some m => !wr || m.write
    | none => false)

/-- Judges a queue at a write of its TAIL: whether it is accepted (04 R133, R138). -/
def State.tailOk (s : State) (e q t : Nat) : Bool :=
  decide (idxDist t (s.qhead e q) ≤ 2 ^ s.f .CE_WQ_CFG_LOG2_SIZE e q)
    && (decide (s.qstate e q = qHalted) || decide (idxDist t (s.f .CE_WQ_TAIL_TAIL e q) < 2 ^ 31))

/-- A write of CE_WQ_TAIL (04 R133, R138); it wakes an idle engine (03, power states). -/
def State.wqTail (s : State) (e q t : Nat) : WRes :=
  if t = s.f .CE_WQ_TAIL_TAIL e q then (hOk, s)
  else if !s.tailOk e q t then (hBadArg, s.flag .CE_WQ_STATUS_DB_ERR e q)
  else
    let s1 := s.setF .CE_WQ_TAIL_TAIL e q t
    (hOk, if s1.pstate e = 1 ∧ s1.qstate e q ≠ qDisabled ∧ s1.qhead e q ≠ t then s1.setF .CE_STATUS_PSTATE e 0 0 else s1)

/-- A write of CE_CQ_HEAD (04 R133). -/
def State.cqHead (s : State) (e q h : Nat) : WRes :=
  if h = s.f .CE_CQ_HEAD_HEAD e q then (hOk, s)
  else if idxDist (s.f .CE_WQ_STATUS_CQ_TAIL e q) h ≤ 2 ^ s.f .CE_CQ_CFG_LOG2_SIZE e q
      ∧ idxDist h (s.f .CE_CQ_HEAD_HEAD e q) < 2 ^ 31 then
    (hOk, s.setF .CE_CQ_HEAD_HEAD e q h)
  else (hBadArg, s.flag .CE_WQ_STATUS_DB_ERR e q)

/-- A write of a ring's BASE or LOG2_SIZE (04 R132). -/
def State.ringField (s : State) (fid : Fid) (e q v : Nat) : WRes :=
  if s.f fid e q = v then (hOk, s)
  else if s.qstate e q ≠ qDisabled then (hBusy, s)
  else (hOk, s.setF fid e q v)

/-- ENABLE = 1 on a DISABLED queue (04 R131). -/
def State.queueEnable (s : State) (e q lg prio : Nat) : WRes :=
  let plot := s.plotOfEngine e
  if s.ringOk plot (s.f .CE_WQ_BASE_BASE e q * 4096) (2 ^ lg * 128) false
      && s.ringOk plot (s.f .CE_CQ_BASE_BASE e q * 4096) (2 ^ s.f .CE_CQ_CFG_LOG2_SIZE e q * 32) true then
    let s1 := ((s.setF .CE_WQ_CFG_LOG2_SIZE e q lg).setF .CE_WQ_CFG_PRIORITY e q prio).setF .CE_WQ_CFG_ENABLE e q 1
    let s2 := (((s1.dropAhead e q).setF .CE_WQ_HEAD_HEAD e q 0).setF .CE_WQ_TAIL_TAIL e q 0).setF .CE_CQ_HEAD_HEAD e q 0
    (hOk, (s2.setF .CE_WQ_STATUS_CQ_TAIL e q 0).setF .CE_WQ_STATUS_STATE e q qRunning)
  else (hBadArg, s.flag .CE_WQ_STATUS_RING_ERR e q)

/-- ENABLE = 0 on a RUNNING or HALTED queue (04 R137). -/
def State.queueDisable (s : State) (e q prio : Nat) : WRes :=
  let s1 := (s.setF .CE_WQ_CFG_PRIORITY e q prio).setF .CE_WQ_CFG_ENABLE e q 0
  (hOk, (s1.setF .CE_WQ_STATUS_STATE e q qStopping).settleQueue e q)

/-- A write of CE_WQ_CFG: LOG2_SIZE, PRIORITY, RESUME, ENABLE (04 R131, R132, R137, R138). -/
def State.wqCfg (s : State) (e q lg prio resume en : Nat) : WRes :=
  let st := s.qstate e q
  if st ≠ qDisabled ∧ lg ≠ s.f .CE_WQ_CFG_LOG2_SIZE e q then (hBusy, s)
  else if st = qDisabled then
    if en = 1 then s.queueEnable e q lg prio
    else (hOk, (s.setF .CE_WQ_CFG_LOG2_SIZE e q lg).setF .CE_WQ_CFG_PRIORITY e q prio)
  else if st = qStopping then
    if en = 1 then (hBusy, s) else (hOk, s.setF .CE_WQ_CFG_PRIORITY e q prio)
  else if en = 0 then s.queueDisable e q prio
  else
    let s1 := s.setF .CE_WQ_CFG_PRIORITY e q prio
    (hOk, if resume = 1 ∧ st = qHalted then (s1.dropAhead e q).setF .CE_WQ_STATUS_STATE e q qRunning else s1)

/-! ### The lane program store (04 R166) -/

/-- Whether a LANE order runs on the engine. DESIGN CHOICE (log 114): until its record is written. -/
def State.laneBusy (s : State) (e : Nat) : Bool := (s.eng e).runs.any (fun r => r.op == opLane)

/-- INDEX moves on after an access to CE_LPS_DATA. -/
def State.lpsNext (s : State) (e : Nat) : State :=
  s.setF .CE_LPS_INDEX_INDEX e 0 ((s.f .CE_LPS_INDEX_INDEX e + 1) % 1024)

/-- A write of CE_LPS_INDEX. -/
def State.lpsIndex (s : State) (e v : Nat) : WRes :=
  if s.laneBusy e ∧ v ≠ s.f .CE_LPS_INDEX_INDEX e then (hBusy, s) else (hOk, s.setF .CE_LPS_INDEX_INDEX e 0 v)

/-- A write of CE_LPS_DATA. -/
def State.lpsWrite (s : State) (e v : Nat) : WRes :=
  if s.laneBusy e then (hBusy, s)
  else
    let g := s.eng e
    (hOk, (s.setEng e { g with lps := NTbl.put 0 g.lps (s.f .CE_LPS_INDEX_INDEX e) v }).lpsNext e)

/-- A read of CE_LPS_DATA. -/
def State.lpsRead (s : State) (e : Nat) : Nat × State :=
  (NTbl.at 0 (s.eng e).lps (s.f .CE_LPS_INDEX_INDEX e), s.lpsNext e)

/-! ### Tally registers (04 R167-R169) -/

/-- A write of TALLY_VALUE sets the count; waits are judged again. -/
def State.tallyWrite (s : State) (t v : Nat) : WRes := (hOk, s.setTally t v)

/-- A write of TALLY_SIGNAL adds AMOUNT. -/
def State.tallyAdd (s : State) (t v : Nat) : WRes := (hOk, s.signalTally t v)

end Sys2Proof.Machine
end

