-- ==== Sys2Proof/Machine/Engine.lean ====
section
/-! DEFINITION. Engines: hard faults, FALLOW and waking (03 R119-R125; 04 R181-R183). -/

namespace Sys2Proof.Machine

/-- Reports a FALLOW request (03 R119): SEQ, PHASE, CODE, and the unit whose sequence it follows from now on. -/
def State.fallowResult (s : State) (seq phase code : Nat) (unit : Option (Nat × Nat)) : State :=
  { ((s.setF .PWR_FALLOW_RESULT_SEQ 0 0 seq).setF .PWR_FALLOW_RESULT_PHASE 0 0 phase).setF .PWR_FALLOW_RESULT_CODE 0 0 code
    with fallowUnit := unit }

/-- A drained order: its finished output up to a boundary is written, nothing after it (03 R121). How far it had come, to its
end even where its outcome stands, is free (log 12); an order of which nothing runs any more is not touched. DESIGN CHOICE
(log 12): nor is a SIGNAL that has not acted yet, as 03 R121 names no boundary for it. -/
def Run.drain (r : Run) (k : Nat) : Run :=
  if r.finished || r.op == opSignal || (r.done && decide (Config.free (k + 2) % 2 = 1)) then r
  else
    let last := (r.outs.map OutWr.piece).foldl max 0
    let keep := Config.free k % (last + 2)
    { r.fail csAborted 0x0501 0 with
      outs := r.outs.filter (fun o => decide (o.piece < keep))
      flags := r.gathered (r.outs.filter (fun o => decide (o.piece < keep))) (k + 1) }

/-- Aborts every running order of an engine at its next boundary (03 R121). -/
def State.drainAbort (s : State) (e : Nat) : State :=
  let g := s.eng e
  let g1 : Eng := { g with
    runs := g.runs.zipIdx.map (fun x => x.1.drain (s.freeCtr + 3 * x.2))
    streams := g.streams.map (fun x => (x.1, x.2.map (fun t => { t with ended := true }))) }
  { s.setEng e g1 with freeCtr := s.freeCtr + 3 * g.runs.length }.dropWaits (fun w => w.e == e)

/-- Switches an engine's rail on at the voltage of the step the governor assigns, and starts its clock, its counters from
zero (03 R122, R125; 15 R549). -/
def State.engineClock (s : State) (e : Nat) : State :=
  let sv := s.setF .PWR_ZONE_STATUS_STEP e 0 (s.stepTarget e)
  let s0 := (if s.railOn e then sv.railUp e else sv).putStep e (s.stepTarget e)
  let s1 := (s0.setDom e { running := true, cycles := 0, ever := true }).setF .CLK_DOM_STATUS_RELEASED e 0 1
  ([Fid.CE_LANE_ISSUE_COUNT, .CE_PORT_STALL_COUNT]).foldl (fun s f => s.setF f e 0 0)
    ((List.range 4).foldl (fun s g => s.setF .CE_ARRAY_BUSY_COUNT e g 0) s1)

/-- A FALLOW or wake request for an engine, judged in the order of 03 R120: status, CODE, PHASE, state. A debug halt counts as
busy for FALLOW alone (16 R595). An accepted wake restores the clock (03 R122, R123). -/
def State.engFallow (s : State) (seq action e : Nat) : WRes :=
  let st := (s.unit .engine e).st
  let busy := s.pstate e = 2 ∨ s.pstate e = 3 ∨ s.pstate e = 5 ∨ (action = 1 ∧ (s.eng e).halted = true)
  if !s.umReady then (hNotReady, s.fallowResult seq 0 6 none)
  else if (s.plotOfEngine e).isSome then (hOwned, s.fallowResult seq 0 2 none)
  else if busy then (hBusy, s.fallowResult seq 0 3 none)
  else if st = some .failed ∨ st = some .retired then (hDenied, s.fallowResult seq 0 4 none)
  else if (action = 1 ∧ st = some .fallow) ∨ (action = 2 ∧ st = some .present) then
    (hOk, s.fallowResult seq 5 1 none)
  else if action = 1 then
    let s1 := (s.fallowResult seq 1 0 (some (0, e))).setF .CE_STATUS_PSTATE e 0 2
    let s2 := if s1.f .CE_DRAIN_LIMIT_LIMIT_US e = 0 then s1.drainAbort e else s1
    (hOk, s2.engineQuiet e)
  else if !(s.dom e).ever && (s.f .CLK_DOM_CFG_PLL_EN e = 0 || s.f .CLK_DOM_STATUS_LOCKED e = 0) then
    (hNotReady, s.fallowResult seq 0 6 none)
  else (hOk, ((s.fallowResult seq 4 0 (some (0, e))).setF .CE_STATUS_PSTATE e 0 5).engineClock e)

/-- CE_DRAIN_LIMIT_EXPIRY (03 R121). -/
def execCeDrainLimitExpiry (e : Nat) (s : State) : Res :=
  .next (if s.pstate e = 2 then s.drainAbort e else s)

/-- The engine's fence is complete: contents discarded, clock stopped, rail off, FALLOW (03 R121 step 4). -/
def State.engineOff (s : State) (e : Nat) : State :=
  let s1 := (s.fallowReport 0 e 3 0).setEng e (s.eng e).cleared
  let s2 := (s1.stopDom e).setF .CE_STATUS_PSTATE e 0 4
  (((s2.setUnit .engine e .fallow).mbReset (fun b => isEngineId e b.receiver)).fallowReport 0 e 5 0).railsFollow s

/-- Registers of an engine's queues, disabled and empty (03 R122 step 3). -/
def State.queuesClear (s : State) (e : Nat) : State :=
  (List.range 16).foldl (fun s q =>
    ([(Fid.CE_WQ_CFG_ENABLE, 0), (.CE_WQ_STATUS_STATE, 0), (.CE_WQ_HEAD_HEAD, 0), (.CE_WQ_TAIL_TAIL, 0),
      (.CE_CQ_HEAD_HEAD, 0), (.CE_WQ_STATUS_CQ_TAIL, 0)] : List (Fid × Nat)).foldl (fun s x => s.setF x.1 e q x.2) s) s

/-- Whether a test found faults beyond an engine's spares: 8 rows per bank, 16 columns per array (03 R103, R110). -/
def engineBad (r : TestFound) : Bool := r.beyond || decide (8 < r.rows) || r.cols.any (fun c => decide (16 < c))

/-- Spares in use after an engine's test (03 R124). -/
def State.sparesUsed (s : State) (e : Nat) (r : TestFound) : State :=
  (List.range 4).foldl (fun s g => s.setF .CE_SPARE_USE_TA_COLS e g (r.cols.getD g 0))
    (s.setF .CE_SPARE_USE_TM_ROWS_MAX e 0 r.rows)

/-- WAKE_TEST_DONE: the wake-up test ends; the engine is PRESENT, or FAILED (03 R122); it is the start-up test where the
domain starts inside this wake (03 R123). -/
def execWakeTestDone (e : Nat) (r : TestFound) (s : State) : Res :=
  if s.pstate e ≠ 5 then .next s
  else
    let first := decide (s.f .CLK_DOM_STATUS_TESTED e = 0)
    let bad := engineBad r
    let s1 := s.sparesUsed e r
    let s2 := if first then
        (s1.setF .CLK_DOM_STATUS_TESTED e 0 1).setF .CLK_DOM_STATUS_TEST_FAIL e 0 (b2n bad)
      else s1
    if bad then .next (s2.engineFault e 3 true true)
    else
      let s3 := ((s2.setEng e { faultOwner := (s2.eng e).faultOwner }).queuesClear e).setFence e 0
      let s4 := (s3.setF .CE_STATUS_PSTATE e 0 1).setUnit .engine e .present
      .next (s4.fallowReport 0 e 5 0)

/-- ENG_FAULT: a hard fault of an engine (04 R181): cause 1 an array column beyond its spares, else 2. A fault during a
FALLOW sequence ends it in FAILED (03 R122); one in an engine that has failed is reported again (01 R631). -/
def execEngFault (e cause : Nat) (frontEnd : Bool) (s : State) : Res :=
  let st := (s.unit .engine e).st
  if s.present .engine e || decide (st = some .failed) || (decide (st = some .fallow) && decide (s.pstate e = 5)) then
    .next (s.engineFault e (if cause = 1 then 1 else 2) frontEnd true)
  else .next s

end Sys2Proof.Machine
end

