-- ==== Sys2Proof/Machine/CohCore.lean ====
section
/-! DEFINITION. Home transactions: starting, snooping, granting, ending, and the loss of a caching agent (08 R305-R322). -/

namespace Sys2Proof.Machine

/-- Whether a snooped agent is complete (08 R314). -/
def SnpWait.complete (w : SnpWait) : Bool := w.resp.isSome && (!w.wbp || w.wb)

/-- A free number as an agent's reference: its identity one that the profile of its site gives (09 R343). -/
def State.agentRef (s : State) (a x : Nat) : Nat :=
  let act := if a < 8 then s.f .SITE_STATUS_PROFILE_ACT a else 3
  let sub := x / 4096 % 64
  (if act = 1 then 0x10 + sub % 16 else if act = 2 then 0x20 else sub) * 4096 + x % 4096

/-- A message of an agent at its port, met by the probes; for a request (`req`) its bytes count in the window (07 R281). `ref`
is its identity below the agent's own and its tag, as one number with the tag in the low 12 bits; where the carrier shows
neither they are free (log 4). The reference is what responses return. -/
def State.agentPacket (s : State) (a cmd line len units : Nat) (write req : Bool) (ref : Option Nat) : Nat × State :=
  let port := agentPort a
  let (k, s1) := match ref with
    | some x => (x, s)
    | none =>
      let (x, s') := s.freeBelow (2 ^ 18)
      (s.agentRef a x, s')
  let q := s1.qport port
  let c := q.classify (line * 64) write
  let s2 := if req then s1.setQport port { q with issued := NTbl.put 0 q.issued c (q.used c + len) } else s1
  (k, s2.observe { port, rsp := false, cmd, len, units, addr := line * 64, tag := k % 4096, cls := c, urg := s.urgency q c,
                   id := if a < 8 then 0x100 + 0x40 * a + k / 4096 % 64 else k / 4096 % 4,
                   plot := if a < 8 then s.plotOfSite a else none })

/-- An answer to an agent whose request is refused at its port (07 R271, R278; 08 R297; 09 R346, R349): on a CXL link a read gets
zeros with poison, and a write completes. -/
def State.cohRefuse (s : State) (a addr st : Nat) (read : Bool := false) (ref : Nat := 0) : State :=
  if a < 8 then
    let cxl := s.f .SITE_STATUS_PROFILE_ACT a ≠ 3
    let q := s.qport (16 + a)
    let c := q.classify addr (!read)
    s.siteSend a { cmd := if cxl ∧ read then 0x80 else 0x81, rsp := true, id := 0x100 + 0x40 * a + ref / 4096 % 64,
                   urg := s.urgency q c, cls := c
                   len := if cxl ∧ read then 64 else 1, tag := ref % 4096, poison := b2n (decide cxl && read), addr,
                   status := if !cxl then st else if read then stPoison else stOk,
                   data := if cxl ∧ read then List.replicate 64 0 else [] }
  else s.emit (.cohReply 0x81 0 a (addr / 64) st [])

/-- Sends an agent a grant, read data or an acknowledgement (08 R301), with the reference of its request; on a site's link it
carries the line's address as the chiplet knows it (09 R345) and the urgency of its request (07 R268; 09 R336). A `quiet` one
acknowledges an eviction that the adapter of a CXL site has answered itself (08 R324). -/
def State.cohSend (s : State) (a code grant line status : Nat) (data : Bytes) (ref : Nat) (quiet : Bool := false)
    (head : Option (Nat × Nat) := none) : State :=
  let port := agentPort a
  let q := s.qport port
  let c := (head.map Prod.fst).getD (q.classify (line * 64) false)
  let urg := (head.map Prod.snd).getD (s.urgency q c)
  let id := if a < 8 then 0x100 + 0x40 * a + ref / 4096 % 64 else ref / 4096 % 4
  let s1 := s.observe { port, rsp := true, cmd := code, len := if data = [] then 1 else 64, units := data.length / 64, status,
                        info := grant, addr := line * 64, tag := ref % 4096, id, cls := c, urg, poison := b2n (status == 1),
                        plot := if a < 8 then s.plotOfSite a else none }
  if quiet then s1
  else if a < 8 then
    s1.siteSend a { cmd := code, rsp := true, id, cls := c, urg, len := if data = [] then 1 else 64, tag := ref % 4096, status,
                    addr := s.agentLine a line, poison := b2n (status == 1), info := grant, data,
                    grant := if grant = 0 then none else some line }
  else s1.emit (.cohReply code grant a line status data)

/-- The home answers an agent's request (07 R262, R268, R290; 16 R585): one that has timed out at its port discards the answer and counts
it (07 R271), and one lost with a plane gets none (07 R278). -/
def State.cohAnswer (s : State) (r : HReq) (code grant status : Nat) (data : Bytes) : State :=
  let p := agentPort r.agent
  if r.gone then s
  else if r.late then s.count .QOS_PORT_COUNT_LATE p 0 16 1
  else
    let q := s.qport p
    let s1 := s.setQport p { q with done := NTbl.put 0 q.done r.cls (NTbl.at 0 q.done r.cls + 64) }
    (s1.glnLatency p r.cls (r.cmd == 0x15) status r.since).cohSend r.agent code grant r.line status data r.tag false
      (some (r.cls, r.urg))

/-- An agent's answer to the reads of its line: data, poisoned or not (08 R311). A read that takes no cache state of a line in I
combines (06 R241). Where the home must reach another memory site that does not answer, the answer is ERR_TIMEOUT and grants
nothing (07 R272). -/
def State.cohData (s : State) (r : HReq) (grant : Nat) (comb : Bool := false) : State :=
  if s.farDead r.line [] false then (s.farTimeout (r.line * 64) false).cohAnswer r 0x81 0 stTimeout []
  else
    let s0 := s.farAsks (r.line * 64) 64 [] false
    let (d, bad, s1) := if comb then s0.combMemRead (r.line * 64) 64 [] r.cls [] 31 0
      else s0.memRead (r.line * 64) 64 [] srcDemand r.cls
    s1.cohAnswer r 0x80 grant (if bad = [] then 0 else 1) d

/-- A home writes bytes of a line for an agent, in a class (05 R201): the STATUS of its answer. Where it must reach another
memory site that does not answer, the stored line stays (07 R272). -/
def State.homeWrite (s : State) (pa : Nat) (b : Bytes) (poison : Bool) (cls : Nat := 4) : Nat × State :=
  if s.farDead (pa / 64) [] true then (stTimeout, s.farTimeout pa true)
  else (stOk, (s.farAsks pa b.length [] true).memWrite pa b (b2n poison) [] cls)

/-- A WR_INV at its home: the write and its answer (08 R311). -/
def State.writeInv (s : State) (r : HReq) : State :=
  let (st, s1) := s.homeWrite (r.line * 64 + r.off) r.data r.poison r.cls
  s1.cohAnswer r 0x81 0 st []

/-- Home and set of a line in the snoop filter (08 R305). -/
def State.sfSet (s : State) (line : Nat) : Nat × Nat :=
  let a := s.sla (line * 64)
  (s.home (line * 64), bits a 18 6 ^^^ bits a 31 19)

/-- Lines that occupy a way of a line's set: those with an entry, and those whose grant is on its way (08 R306). -/
def State.sfWays (s : State) (line : Nat) : List Nat :=
  let k := s.sfSet line
  let held := (s.coh.sf.map Prod.fst).filter (fun l => decide (s.sfSet l = k))
  let coming := (s.coh.txns.filter (fun t => t.final.isSome && decide (s.sfSet t.line = k) && !held.contains t.line)).map
    HTxn.line
  held ++ coming

/-- The victim of a set: no open transaction, S before O, least recently used (08 R306). -/
def State.sfVictim (s : State) (line : Nat) : Option Nat :=
  let can := (s.sfWays line).filter (fun l => (s.htxn l).isNone)
  let rank (l : Nat) : Nat × Nat := match s.sfEnt l with
    | some e => (b2n e.owned, e.used)
    | none => (2, 0)
  can.foldl (fun a l => match a with
    | none => some l
    | some b => if pairLt (rank l) (rank b) then some l else a) none

/-- Opens a transaction with a fresh TXN (08 R298). -/
def State.openHtxn (s : State) (r : HReq) (phase : HPhase) : HTxn × State :=
  let before := match s.sfEnt r.line with
    | some e => if e.owned then 2 else 1
    | none => 0
  let t : HTxn := { line := r.line, txn := s.coh.next % 4096, req := r, phase, before }
  (t, ({ s with coh := { s.coh with next := (s.coh.next + 1) % 4096 } }).putHtxn t)

/-- Sends the snoops of a transaction to a mask of agents; they answer in HS. -/
def State.snoopFor (s : State) (t : HTxn) (code targets : Nat) : State :=
  (s.sendSnoop code t.line t.txn targets).putHtxn
    { t with phase := .snoop, snooped := t.snooped ||| targets,
             pend := (maskList 9 targets).map (fun a => { agent := a : SnpWait }) }

/-- An agent whose reclaim is still to be reported loses one more line; after the report only the register counts it. -/
def State.reclaimMore (s : State) (a : Nat) : State :=
  if s.coh.reclaim.any (fun r => r.1 == a) then
    { s with coh := { s.coh with reclaim := s.coh.reclaim.map (fun r => if r.1 = a then (r.1, r.2.1, r.2.2 + 1) else r) } }
  else s.count .COH_RECLAIMED_POISONED a 0 32 1

/-- Writes a line poisoned (08 R319). -/
def State.poisonLine (s : State) (line : Nat) : State := s.memWrite (line * 64) (List.replicate 64 0) 1

/-- Removes an agent from a filter entry. -/
def State.dropHolder (s : State) (line a : Nat) : State :=
  s.setSf line ((s.sfEnt line).map (fun e => { e with holders := setBit e.holders a false }))

/-- The line that an address of an agent names (08 R297): its line, or the status of the refusal. -/
def State.lineAddr (s : State) (a addr : Nat) (write : Bool) : Nat × Option Nat :=
  match s.translate (if a < 8 then s.plotOfSite a else none) addr write with
  | none => (stUnmapped, none)
  | some pa => match target pa with
    | .mem off => if (s.primaryOf (off / 2 ^ 30)).isSome then (stTarget, none) else (stOk, some (off / 64))
    | .red _ _ => (stTarget, none)
    | _ => (stUnmapped, none)

/-- Whether an agent holds a line, or will when its grant applies. -/
def State.holds (s : State) (a line : Nat) : Bool :=
  ((s.sfEnt line).map (fun e => bit e.holders a)).getD false
    || (match s.htxn line with
      | some t => ((t.final.map (fun e => bit e.holders a)).getD false)
      | none => false)

/-- Removes an agent from a line's entry and from the entry a grant will leave. -/
def State.unhold (s : State) (a line : Nat) : State :=
  let s1 := s.dropHolder line a
  match s1.htxn line with
  | some t => s1.putHtxn { t with final := t.final.map (fun e => { e with holders := setBit e.holders a false }) }
  | none => s1

/-- What a home takes in of an EVICT_DIRTY (08 R311, R313): none where it is a protocol error, else the STATUS of its answer and the
state. It comes from the owner, from a snooped owner, or from the agent a grant is on its way to; a transaction that has ended
its snoops, or sends none, meets it as its stable state does. -/
def State.evictTake (s : State) (a line : Nat) (data : Bytes) (poison : Bool) : Option (Nat × State) :=
  let owner : Bool := match s.sfEnt line with
    | some e => e.owned && bit e.holders a
    | none => false
  let (st, put) := s.homeWrite (line * 64) (slice data 0 64) poison
  match s.htxn line with
  | none => if owner then some (st, put.dropHolder line a) else none
  | some t =>
    if t.phase = .grant then if t.req.agent = a then some (st, put.unhold a line) else none
    else if t.phase ≠ .snoop then if owner then some (st, put.dropHolder line a) else none
    else if owner ∧ t.pend.any (fun w => w.agent == a && !w.wb) then
      some (st, (put.dropHolder line a).putHtxn
        { t with pend := t.pend.map (fun w => if w.agent = a then { w with wb := true } else w) })
    else none

/-- Evictions of a site that have come with their data, in the home's buffer or at the adapter, complete although its link drops
(09 R359). -/
def State.evictsKept (s : State) (n : Nat) : State :=
  let own := s.coh.evWait.filter (fun w => w.agent == n)
  let take (s : State) (line : Nat) (d : Bytes) (p : Bool) : State := ((s.evictTake n line d p).map Prod.snd).getD s
  let s1 := own.foldl (fun s w => take s w.line w.data w.poison)
    { s with coh := { s.coh with evWait := s.coh.evWait.filter (fun w => w.agent != n) } }
  (s1.link n).evicting.foldl (fun s e => match e.data, (s.lineAddr n e.addr true).2 with
    | some (p, d), some line => take s line d p
    | _, _ => s) s1

/-- The agent that a grant waits on is lost: it is removed, and a grant of E leaves the line poisoned (08 R313). -/
def State.grantLost (s : State) (t : HTxn) : Bool × State :=
  let e := (t.final.map SfEnt.owned).getD false
  let s1 := if e then s.poisonLine t.line else s
  let fin := t.final.map (fun x => { x with holders := setBit x.holders t.req.agent false })
  (e, (s1.setSf t.line fin).dropHtxn t.line)

/-- Sends a grant: 1 S, 2 E, with data or without; the final entry applies at its GRANT_ACK (08 R311, R315). A wait on an
agent that is down is answered with RSP_LOST (08 R318). Where the home cannot reach the line's data the transaction ends with
ERR_TIMEOUT (07 R272). -/
def State.sendGrant (s : State) (t : HTxn) (g : Nat) (data : Bool) (holders : Nat) : State :=
  let a := t.req.agent
  let s0 := if g = 2 then s.combClose t.line else s
  let s1 := if data then s0.cohData t.req g else s0.cohAnswer t.req 0x81 g 0 []
  if data && s0.farDead t.line [] false then s1.dropHtxn t.line
  else
  let t1 : HTxn := { t with phase := .grant, pend := [], victim := none,
                            final := some { owned := decide (g = 2), holders, used := s.coh.stamp } }
  let s2 := s1.putHtxn t1
  if bit s.coh.up a then s2
  else
    let (p, s3) := s2.grantLost t1
    if p then s3.reclaimMore a else s3

/-- Whether a request may be granted E. -/
def HReq.wantsE (r : HReq) : Bool := decide (r.cmd = 0x12 ∨ r.cmd = 0x13) || (decide (r.cmd = 0x11) && !r.noE)

/-- Takes a filter way for a line in I and grants, or starts the recall of a victim, or waits (08 R306-R308, R311). -/
def State.sfAlloc (s : State) (t : HTxn) : State :=
  if (s.sfWays t.line).length < 16 then
    s.sendGrant t (if t.req.wantsE then 2 else 1) true (2 ^ t.req.agent)
  else match s.sfVictim t.line with
    | none => s.putHtxn { t with phase := .alloc, pend := [], victim := none }
    | some v =>
      let s1 := (s.putHtxn { t with phase := .alloc, pend := [], victim := some v }).count .COH_VICTIMS_COUNT
        (s.home (v * 64)) 0 64 1
      let (vt, s2) := s1.openHtxn { cmd := 0x200, agent := 9, line := v } .snoop
      s2.snoopFor vt 0x30 (((s2.sfEnt v).map SfEnt.holders).getD 0)

/-- Whether a request comes from the owner of its line, which 08 R312 marks as a protocol error (log 23 for WR_INV). -/
def State.fromOwner (s : State) (r : HReq) : Bool :=
  match s.sfEnt r.line with
  | some e => e.owned && bit e.holders r.agent && decide (r.cmd < 0x100)
  | none => false

/-- The trace of a transaction that its home answers at once; its TXN, which no snoop carries, is free (log 4). -/
def State.cohTraceNow (s : State) (r : HReq) : State :=
  let (k, s1) := s.freeBelow 4096
  s1.cohTrace { line := r.line, txn := k, req := r, phase := .held,
                before := match s.sfEnt r.line with
                  | some e => if e.owned then 2 else 1
                  | none => 0 }

/-- A request to a line in I (08 R311). -/
def State.startI (s : State) (r : HReq) : State :=
  if r.mesh then (s.openHtxn r .held).2
  else if r.cmd = 0x14 then (s.cohData r 0 true).cohTraceNow r
  else if r.cmd = 0x15 then
    (s.writeInv r).cohTraceNow r
  else if 0x200 ≤ r.cmd then s
  else let (t, s1) := s.openHtxn r .alloc
    s1.sfAlloc t

/-- The first request of a line starts (08 R311); a read or write of the mesh with nothing to snoop is held for its
sibling lines at once. A recall has nothing to do where no entry is left. -/
def State.startHreq (s : State) (r : HReq) : State :=
  match s.sfEnt r.line with
  | none => s.startI r
  | some e =>
    let others := setBit e.holders r.agent false
    if r.cmd = 0x14 ∧ !e.owned then (s.cohData r 0).cohTraceNow r
    else if r.cmd = 0x202 ∧ !bit e.holders r.agent then s
    else
      let (t, s1) := s.openHtxn r .snoop
      if r.cmd = 0x100 then
        if e.owned then s1.snoopFor t 0x32 e.holders else s1.putHtxn { t with phase := .held }
      else if r.cmd = 0x14 then s1.snoopFor t 0x32 e.holders
      else if r.cmd = 0x10 ∨ r.cmd = 0x11 then
        if e.owned then s1.snoopFor t 0x31 e.holders else s1.sendGrant t 1 true (setBit e.holders r.agent true)
      else if (r.cmd = 0x12 ∨ r.cmd = 0x13) ∧ others = 0 then
        s1.sendGrant t 2 (decide (r.cmd = 0x12)) (2 ^ r.agent)
      else if r.cmd = 0x12 ∨ r.cmd = 0x13 then s1.snoopFor t 0x30 others
      else if r.cmd = 0x202 then s1.snoopFor t 0x30 (2 ^ r.agent)
      else s1.snoopFor t 0x30 e.holders

/-- Whether a request writes its line at the home. -/
def HReq.writes (r : HReq) : Bool := decide (r.cmd = 0x15 ∨ r.cmd = 0x101)

/-- A request to a line starts where none of the line is open and no bank it needs is under repair, else it waits
(08 R310; 05 R204). -/
def State.askLine (s : State) (r : HReq) : State :=
  if s.lineBusy r.line || s.repairHeld r.line r.writes then { s with coh := { s.coh with queue := s.coh.queue ++ [r] } }
  else s.startHreq r

/-- The allocation that waits for a line's recall takes the way that came free (08 R307). -/
def State.wakeAlloc (s : State) (line : Nat) : State :=
  match s.coh.txns.find? (fun t => decide (t.phase = .alloc) && t.victim == some line) with
  | some t => s.sfAlloc { t with victim := none }
  | none => s

/-- Which snooped agents a line keeps (08 R311): one that answered S to a read, or E to a read that caches nothing. -/
def HTxn.keeps (t : HTxn) (a : Nat) : Bool :=
  match t.pend.find? (fun w => w.agent == a) with
  | some w => (match w.resp with
    | some 1 => t.req.cmd = 0x10 || t.req.cmd = 0x11
    | some 2 => t.req.cmd = 0x14 || t.req.cmd = 0x100
    | _ => false)
  | none => true

/-- Whether a transaction was opened for a command that no longer waits for the line: its access has timed out (07 R271). -/
def State.orphan (s : State) (t : HTxn) : Bool :=
  t.req.port == 64 && !s.coh.parked.any (fun p => p.no == t.req.tag && p.want.any (fun w => w.line == t.line))

/-- A transaction's snoops are complete: the filter takes the answers, and the request ends or is granted (08 R311). A line
whose entry a crossing eviction has freed takes a way anew (08 R306); RD_ANY is then still granted S. -/
def State.snoopsIn (s : State) (t : HTxn) : State :=
  let old := s.sfEnt t.line
  let left := maskOf ((maskList 9 ((old.map SfEnt.holders).getD 0)).filter t.keeps)
  let down := t.req.cmd = 0x10 ∨ t.req.cmd = 0x11
  let own := t.req.cmd = 0x12 ∨ t.req.cmd = 0x13
  let s1 := s.setSf t.line (old.map (fun e => { e with holders := left, owned := e.owned && !decide down }))
  let a := t.req.agent
  if (down ∨ own) ∧ old = none then
    let t1 : HTxn := { t with phase := .alloc, pend := [], req := { t.req with noE := true } }
    (s1.putHtxn t1).sfAlloc t1
  else if down then s1.sendGrant t 1 true (setBit left a true)
  else if own then s1.sendGrant t 2 (!(decide (t.req.cmd = 0x13) && bit left a)) (2 ^ a)
  else if t.req.cmd = 0x14 then (s1.cohData t.req 0).dropHtxn t.line
  else if t.req.cmd = 0x15 then
    ((s1.setSf t.line none).writeInv t.req).dropHtxn t.line
  else if t.req.mesh ∧ s1.orphan t then s1.dropHtxn t.line
  else if t.req.mesh then s1.putHtxn { t with phase := .held, pend := [] }
  else if t.req.cmd = 0x202 then (s1.dropHtxn t.line).wakeAlloc t.line
  else ((s1.setSf t.line none).dropHtxn t.line).wakeAlloc t.line

/-- Ends the snoop phase of a line's transaction if every snooped agent is complete. -/
def State.snoopCheck (s : State) (line : Nat) : State :=
  match s.htxn line with
  | some t => if t.phase = .snoop ∧ t.pend.all SnpWait.complete then s.snoopsIn t else s
  | none => s

/-- An open transaction meets RSP_LOST for an agent (08 R313): whether a line was poisoned. A request of a lost agent that
waits for a way goes on; its grant is answered with RSP_LOST. -/
def State.lostAt (s : State) (t : HTxn) (a : Nat) : Bool × State :=
  let owner := match s.sfEnt t.line with
    | some e => e.owned && bit e.holders a
    | none => false
  if t.phase = .snoop ∧ t.pend.any (fun w => w.agent == a && !w.complete) then
    let s1 := if owner then s.poisonLine t.line else s
    let s2 := (s1.dropHolder t.line a).putHtxn { t with pend := t.pend.map (fun w =>
      if w.agent = a then { w with resp := some 0, wb := true } else w) }
    (owner, s2.snoopCheck t.line)
  else if t.phase = .grant ∧ t.req.agent = a then s.grantLost t
  else (false, s)

/-- Step 2 of 08 R318: every filter entry of an agent is removed; lines it held in O are poisoned. Counts of lines dropped
from S and lines poisoned. -/
def State.reclaimLines (a : Nat) : List Nat → State → Nat × Nat × State
  | [], s => (0, 0, s)
  | l :: ls, s =>
    match s.sfEnt l with
    | some e =>
      if bit e.holders a then
        let s1 := if e.owned then (s.setSf l none).poisonLine l else s.dropHolder l a
        let (d, p, s2) := State.reclaimLines a ls s1
        if e.owned then (d, p + 1, s2) else (d + 1, p, s2)
      else State.reclaimLines a ls s
    | none => State.reclaimLines a ls s

/-- A GRANT_ACK: the final state applies, CC's copy with it, and the transaction ends (08 R303, R313). -/
def State.grantApply (s : State) (a : Nat) (t : HTxn) : State :=
  let stamp := s.coh.stamp + 1
  let s1 := { s with coh := { s.coh with stamp := stamp } }
  let s2 := (s1.setSf t.line (t.final.map (fun e => { e with used := stamp }))).dropHtxn t.line
  if a = 8 then
    s2.setCc t.line (match t.final with
      | some e => if !bit e.holders 8 then none else if e.owned then some .e else some .s
      | none => none)
  else s2

/-- The GRANT_ACK of a site's adapter for a grant that it has placed in a flit (08 R324; 09 R340). -/
def State.siteGrantAck (s : State) (a line : Nat) : State :=
  let s1 := s.setLink a { s.link a with acks := (s.link a).acks.erase line }
  match s1.htxn line with
  | some t =>
    if t.phase = .grant ∧ t.req.agent = a then (s1.agentPacket a 0x20 line 64 0 false false none).2.grantApply a t else s1
  | none => s1

/-- The adapters send their GRANT_ACKs. -/
def State.grantAcks (s : State) : State :=
  (List.range 8).foldl (fun s a => (s.link a).acks.foldl (fun s l => s.siteGrantAck a l) s) s

/-- COH_STATUS.AGENTS_UP and COH_AGENT_STATUS. -/
def State.agentUp (s : State) (a : Nat) (b : Bool) : State :=
  ({ s with coh := { s.coh with up := setBit s.coh.up a b } }).setF .COH_AGENT_STATUS_STATE a 0 (b2n b)

/-- A lost agent holds nothing once the grants on their way to others have been acknowledged (08 R320). -/
def State.finalDrop (s : State) (a : Nat) : State :=
  { s with coh := { s.coh with txns := s.coh.txns.map (fun t => if t.req.agent = a then t else
    { t with final := t.final.map (fun e => { e with holders := setBit e.holders a false }) }) } }

/-- A site is lost as a caching agent: steps 1 and 2 of 08 R318; its requests that have not started vanish with it, but for
writes (09 R359). The report is to come. -/
def State.agentLost (s : State) (a : Nat) : State :=
  if !bit s.coh.up a then s
  else
    let keep (r : HReq) : Bool := !(r.agent == a && decide (r.cmd < 0x15))
    let s0 := { s with coh := { s.coh with queue := s.coh.queue.filter keep, waiting := s.coh.waiting.filter keep } }
    let s1 := (s0.agentUp a false).setF .COH_AGENT_STATUS_STATE a 0 2
    let (p1, s2) := s1.coh.txns.foldl (fun (x : Nat × State) t =>
      match x.2.htxn t.line with
      | some t1 => let (p, s') := x.2.lostAt t1 a
        (x.1 + b2n p, s')
      | none => x) (0, s1)
    let (d, p2, s3) := State.reclaimLines a (s2.coh.sf.map Prod.fst) s2
    let s4 := s3.finalDrop a
    { s4 with coh := { s4.coh with reclaim := s4.coh.reclaim ++ [(a, d, p1 + p2)] } }

/-- Step 3 of 08 R318: the reclaim is counted and reported, and COH_AGENT_STATUS shows the site down. -/
def State.reclaimEnd (s : State) (r : Nat × Nat × Nat) : State :=
  let (a, d, p) := r
  let s1 := { s with coh := { s.coh with reclaim := s.coh.reclaim.filter (fun x => x.1 != a) } }
  let s2 := (s1.count .COH_RECLAIMED_DROPPED a 0 32 d).count .COH_RECLAIMED_POISONED a 0 32 p
  ((s2.flag .COH_ERR_STATUS_RECLAIM).setF .COH_AGENT_STATUS_STATE a 0 (b2n (bit s.coh.up a))).raise 0x4030 sevDeferred 5 a
    [a, d, p]

/-- Ends the reclaims that have run. -/
def State.reclaimsEnd (s : State) : State := s.coh.reclaim.foldl State.reclaimEnd s

/-- COH_CC_FATAL (08 R317, R322). -/
def State.ccFatal (s : State) : State := s.raise 0x4040 sevModuleFatal 0 0 []

/-- Recalls every filter entry a test picks, as one home transaction per line: 0x201 from all holders, 0x202 from one
agent (08 R321; 09 R364). -/
def State.recallAll (s : State) (cmd a : Nat) (pick : Nat → SfEnt → Bool) : State :=
  (s.coh.sf.map Prod.fst).foldl (fun s l => match s.sfEnt l with
    | some e => if pick l e then s.askLine { cmd, agent := a, line := l } else s
    | none => s) s

/-- Whether recalls that a test picks are open or waiting. -/
def State.recallOpen (s : State) (pick : HReq → Bool) : Bool :=
  s.coh.txns.any (fun t => pick t.req) || s.coh.queue.any pick

end Sys2Proof.Machine
end

