-- ==== Sys2Proof/Machine/SiteCore.lean ====
section
/-! DEFINITION. Site links: capacity, widths and repairs, link drops, failure, drain (09 R334, R352-R366). -/

namespace Sys2Proof.Machine

/-- GT/s of a RATE code (09 R374). -/
def rateGts (c : Nat) : Nat := [0, 4, 8, 16, 24, 32].getD c 0

/-- Unit number of module k of site n. -/
def umNo (n k : Nat) : Nat := 6 * n + k

/-- A site's capacity in GB/s per direction (09 R334). -/
def State.siteCapacity (s : State) (n : Nat) : Nat :=
  if s.linkUp n then rateGts (s.f .SITE_STATUS_RATE n) * ((List.range 6).map (fun k => widthLanes (s.umWidth n k))).sum / 8
  else 0

/-- The port's capacity follows the link's (09 R334); regulators rescale (07 R288). -/
def State.siteCapSet (s : State) (n : Nat) : State :=
  let c := s.siteCapacity n
  if NTbl.at 0 s.mesh.siteCap n = c then s
  else ({ s with mesh := { s.mesh with siteCap := NTbl.put 0 s.mesh.siteCap n c } }).capChanged

/-- DEGRADED of a site (01 R30): a module FAILED, RETIRED or at x32, or a rate below 32 GT/s. -/
def State.siteDegSet (s : State) (n : Nat) : State :=
  let bad (k : Nat) : Bool :=
    let u := s.unit .ucie (umNo n k)
    decide (u.st = some .failed) || decide (u.st = some .retired) || u.deg
  s.setDeg .site n ((List.range 6).any bad || (s.linkUp n && s.f .SITE_STATUS_RATE n != 5))

/-- Whether a module takes no part in the site: FAILED or RETIRED. -/
def State.umOut (s : State) (n k : Nat) : Bool :=
  let st := (s.unit .ucie (umNo n k)).st
  decide (st = some .failed ∨ st = some .retired)

/-- The module that carries a site's messages (09 R350): the lowest-numbered one whose sideband is up. -/
def State.sideModule (s : State) (n : Nat) : Option Nat := (List.range 6).find? (fun k => bit (s.link n).sideUp k)

/-- A message on a site's sideband, with the vendor code 0x4E56 (09 R350). -/
def State.side (s : State) (n code : Nat) (fields : List Nat) : State := match s.sideModule n with
  | some k => s.emit (.sideband n k 0x4E56 code fields)
  | none => s

/-- The sideband of each module that takes part initialises (09 R351 step 2). -/
def State.sideInit (s : State) (n : Nat) : State :=
  s.setLink n { s.link n with sideUp := maskOf ((List.range 6).filter (fun k => !s.umOut n k)) }

/-- A module's repair record (09 R353). -/
def State.repair (s : State) (n k : Nat) : UmRepair := NTbl.at {} s.boot.repairs (umNo n k)

/-- A module's width and repairs in force. -/
def State.liveRepair (s : State) (n k : Nat) : UmRepair := (s.link n).live.getD k {}

/-- Puts a module's width and repairs in force. -/
def State.setLive (s : State) (n k : Nat) (r : UmRepair) : State :=
  s.setLink n { s.link n with live := (List.range 6).map (fun j => if j = k then r else s.liveRepair n j) }

/-- Sets a module's repair record; a change makes the training record stale (14 R537, R538). -/
def State.setRepair (s0 : State) (n k : Nat) (r : UmRepair) : State :=
  let s : State := { s0 with boot := { s0.boot with recorded := setBit s0.boot.recorded (umNo n k) true } }
  if s.repair n k = r then s
  else ({ s with boot := { s.boot with repairs := NTbl.put {} s.boot.repairs (umNo n k) r } }).flag .GLB_REC_STATUS_STALE

/-- Lanes of one half: 0 for 0-31, 1 for 32-63. -/
def halfLanes (h : Nat) (l : List Nat) : List Nat := l.filter (fun x => x / 32 == h)

/-- Union of two lane lists, in rising order. -/
def laneUnion (a b : List Nat) : List Nat := (List.range 64).filter (fun x => a.contains x || b.contains x)

/-- The width a module takes with a set of repairs: x64 with at most four in each direction, else the half that needs
fewer, lanes 0-31 on a tie, a half with more than four not used; of each direction four lanes are kept, those of the half in use
first (09 R353). -/
def fitWidth (w : Nat) (tx rx : List Nat) : UmRepair :=
  let need (h : Nat) : Nat := (halfLanes h tx).length + (halfLanes h rx).length
  let ok (h : Nat) : Bool := decide ((halfLanes h tx).length ≤ 4) && decide ((halfLanes h rx).length ≤ 4)
  let half : Nat :=
    if ok 0 && (!ok 1 || decide (need 0 ≤ need 1)) then 1 else if ok 1 then 2 else 0
  let width := if w = 0 then 0 else if w = 3 ∧ tx.length ≤ 4 ∧ rx.length ≤ 4 then 3 else half
  let keep (l : List Nat) : List Nat :=
    let h := if width = 2 then 1 else 0
    if l.length ≤ 4 then l else (halfLanes h l ++ halfLanes (1 - h) l).take 4
  { width, tx := keep tx, rx := keep rx }

/-- Repaired lanes that a width uses. -/
def UmRepair.inUse (r : UmRepair) (l : List Nat) : List Nat :=
  if r.width = 3 then l else if r.width = 0 then [] else halfLanes (r.width - 1) l

/-- Puts a module's width in the rotation; x32 is its DEGRADED flag (01 R30). -/
def State.setWidth (s : State) (n k w : Nat) : State :=
  (s.setF .SITE_UM_STATUS_WIDTH n k w).setDeg .ucie (umNo n k) (decide (w = 1 ∨ w = 2))

/-- Requests to a site window that await its answer. -/
def reqToSite (n : Nat) (r : Req) : Bool := match target r.pa with
  | .site i => i == n && decide (r.phase = .issued) && !r.ans
  | _ => false

/-- Steps 1 and 2 of a drop (09 R359): requests to the site fail, responses to its own requests have no taker, and its evictions
that have come with their data complete. Count of requests answered with errors. -/
def State.linkCut (s0 : State) (n : Nat) : Nat × State :=
  let s := s0.evictsKept n
  let k := (s.mesh.reqs.filter (reqToSite n)).length
  let reqs := s.mesh.reqs.map (fun r =>
    if reqToSite n r then { r with ans := true, status := stTarget, rdata := [], rpoison := 0 }
    else if r.port = 16 + n then { r with dropped := true } else r)
  let l := s.link n
  let s1 := { s with mesh := { s.mesh with reqs := reqs } }.setLink n
    { live := l.live, retest := l.retest, drops := l.drops, waking := l.waking, fencing := l.fencing, rstLow := l.rstLow,
      refclk := l.refclk, clkAt := l.clkAt, lowUntil := l.lowUntil, releaseAt := l.releaseAt, hold := l.hold, rails := l.rails }
  (k, (s1.setF .SITE_STATUS_RATE n 0 0).setF .SITE_STATUS_PROFILE_ACT n 0 0)

/-- A malformed packet: counted, reported, and answered with ERR_TARGET where it is a request whose TAG is known
(09 R348). -/
def State.badPkt (s : State) (n : Nat) (tag : Option Nat) : State :=
  let s1 := (s.count .SITE_BAD_PKTS_COUNT n 0 32 1).flag .SITE_ERR_STATUS_BAD_PKT n
  let s2 := s1.raiseLimited 100 0x5028 sevDeferred 5 n [n]
  match tag with
  | some t => s2.siteSend n { cmd := 0x81, rsp := true, len := 1, tag := t, status := stTarget }
  | none => s2

/-- A site's port begins its fence (09 R364 step 3, R366). -/
def State.siteFence (s : State) (n : Nat) : State :=
  (s.setLink n { s.link n with fencing := true }).beginFence (16 + n)

/-- The site enters FAILED (09 R366, R367); `report` false where another event is the only report (14 R522, 15 R548). A
further cause in a site that has failed is reported and changes nothing (01 R631). A link that was up has dropped with it: that
counts, and is reported unless another event is the only report. -/
def State.siteFailed (s : State) (n cause : Nat) (report : Bool := true) : State :=
  let st := (s.unit .site n).st
  if st = some .retired then s
  else if st = some .failed then
    if report then (s.flag .SITE_ERR_STATUS_FAIL n).raise 0x5040 sevUnitFatal 5 n [cause] else s
  else
    let (k, s0) := s.linkCut n
    let dropped := if !s.linkUp n then s0
      else
        let s' := (s0.flag .SITE_ERR_STATUS_LINK_DOWN n).count .SITE_LINK_DOWNS_COUNT n 0 32 1
        if report then (s'.setF .SITE_LAST_DOWN_CAUSE n 0 (cause % 16)).raise 0x5020 sevDeferred 5 n [cause, k] else s'
    let s1 := dropped.agentLost n
    let s2 := (s1.setF .SITE_STATUS_LINK n 0 1).setUnit .site n .failed
    let s3 := s2.beginFence (16 + n)
    let s4 := (s3.setRefclk n false).setLink n { (s3.setRefclk n false).link n with
      rstLow := true, waking := false, fencing := false, rails := false, releaseAt := none, hold := false }
    let s5 := s4.flag .SITE_ERR_STATUS_FAIL n
    let s6 := (if report then s5.raise 0x5040 sevUnitFatal 5 n [cause] else s5).fallowReport 1 n 5 5
    ((s6.mbReset (fun b => isSiteId n b.receiver)).siteCapSet n).railsFollow s

/-- Step 2 of 09 R364 begins: each filter entry that the site still has is recalled. -/
def State.siteRecall (s : State) (n : Nat) : State :=
  (s.setLink n { s.link n with recalling := true }).recallAll 0x202 n (fun _ e => bit e.holders n)

/-- Step 2 of 09 R364 ends once no recall is left; an entry that a request took meanwhile is recalled in turn. Then the port
fences (step 3). -/
def State.siteRecalled (s : State) (n : Nat) : State :=
  if !(s.link n).recalling ∨ s.recallOpen (fun r => r.cmd == 0x202 && r.agent == n) then s
  else if bit s.coh.up n ∧ s.coh.sf.any (fun e => (e.2.map (fun x => bit x.holders n)).getD false) then s.siteRecall n
  else
    let s1 := s.setLink n { s.link n with recalling := false }
    let s2 := if bit s1.coh.up n then s1.agentUp n false else s1
    (s2.siteFence n).fallowReport 1 n 2 0

/-- A drained site (09 R364 step 2). -/
def State.siteDrained (s : State) (n : Nat) : State := (s.siteRecall n).siteRecalled n

/-- Causes that count towards 09 R361. -/
def dropCounts (c : Nat) : Bool := c == 6 || c == 7 || c == 8

/-- The link of a site drops (09 R359-R361). -/
def State.linkDown (s : State) (n cause : Nat) : State :=
  if !s.linkUp n then s
  else
    let draining := s.siteLinkState n = 6
    let (k, s1) := s.linkCut n
    let s2 := (s1.setF .SITE_STATUS_LINK n 0 0).agentLost n
    let s3 := ((s2.flag .SITE_ERR_STATUS_LINK_DOWN n).setF .SITE_LAST_DOWN_CAUSE n 0 cause).count
      .SITE_LINK_DOWNS_COUNT n 0 32 1
    let s4 := if cause = 6 then s3.flag .SITE_ERR_STATUS_CREDIT_STALL n else s3
    let s5 := (s4.raise 0x5020 sevDeferred 5 n [cause, k]).mbReset (fun b => isSiteId n b.receiver)
    let s6 := s5.siteCapSet n
    let recent := (s6.link n).drops.filter (fun t => decide (s6.now < t + 1000000))
    let drops := if dropCounts cause then recent ++ [s6.now] else recent
    let s7 := s6.setLink n { s6.link n with drops := drops }
    if 3 ≤ drops.length ∧ dropCounts cause then s7.siteFailed n cause
    else if draining ∧ !(s7.link n).fencing then s7.siteDrained n
    else s7

/-- A site is powered on: its rails, and SITEn_RST_N released once SITEn_REFCLK has run for 100 µs and the least time of a reset
has passed; CHIPLET_RESET has its own end (09 R362, R365, R368; 15 R549). -/
def State.sitePower (s : State) (n : Nat) : State :=
  let l := s.link n
  (s.setLink n { l with rails := true, attempts := 0,
                        releaseAt := if l.hold then none else some (max (l.clkAt + 100) l.lowUntil) }).setF .SITE_STATUS_LINK n 0 1

/-- SITEn_RST_N is released and training begins (09 R351 step 1). -/
def State.siteRelease (s : State) (n : Nat) : State :=
  (s.setLink n { s.link n with rstLow := false, releaseAt := none, hold := false }).setF .SITE_STATUS_LINK n 0 2

/-- Whether SITEn_RST_N may be released: rails good, SITEn_REFCLK running, the site not failed and not on its way to FALLOW. -/
def State.siteMayRelease (s : State) (n : Nat) : Bool :=
  let l := s.link n
  s.siteRails n && l.refclk && l.rstLow && !l.fencing && !l.recalling && decide ((s.unit .site n).st ≠ some .failed)

/-- The release that sitePower has ordered takes place where it is due. -/
def State.siteReleaseDue (s : State) (n : Nat) (due : Nat → Bool) : State :=
  match (s.link n).releaseAt with
  | some t => if due t ∧ s.siteMayRelease n then s.siteRelease n else s
  | none => s

/-- The site is off after its fence (09 R364 step 4). -/
def State.siteOff (s : State) (n : Nat) : State :=
  let s1 := ((s.setRefclk n false).fallowReport 1 n 3 0).setF .SITE_STATUS_LINK n 0 1
  let s2 := s1.setLink n { rstLow := true, lowUntil := s.now + 1000, drops := (s1.link n).drops, retest := (s1.link n).retest }
  let s3 := (s2.setF .SITE_STATUS_RATE n 0 0).setF .SITE_STATUS_PROFILE_ACT n 0 0
  ((((s3.setUnit .site n .fallow).mbReset (fun b => isSiteId n b.receiver)).siteCapSet n).fallowReport 1 n 5 0).railsFollow s

/-- A module leaves the rotation: the flits it has not seen acknowledged are replayed on the others (09 R357 step 1), at
their places in the stream. -/
def State.replayOn (s : State) (n k : Nat) : State :=
  let mods := (s.linkSlots n).filter (fun x => x != k)
  if mods = [] then s
  else
    let l := s.link n
    let (sent, s1) := l.sent.foldl (fun (a : List (Nat × FlitBody) × State) e =>
      if e.1 = k then
        let (j, s') := a.2.deal n mods e.2
        (a.1 ++ [(j, e.2)], s'.count .SITE_REPLAYS_COUNT n 0 32 1)
      else (a.1 ++ [e], a.2)) ([], s)
    let s2 := s1.setLink n { s1.link n with sent := sent }
    if l.sent.any (fun e => e.1 == k) then s2.raiseLimited 10000 0x5030 sevCorrected 5 n [n] else s2

/-- A module is taken out (09 R358); the last one fails the site. A further fault of a failed module is reported and changes
nothing (01 R631). -/
def State.umFail (s0 : State) (n k : Nat) : State :=
  let st := (s0.unit .ucie (umNo n k)).st
  if st = some .retired then s0
  else if st = some .failed then (s0.flag .SITE_ERR_STATUS_UM_FAIL n).raise 0x5018 sevUnitFatal 6 (umNo n k) [n, k]
  else
    let s := (s0.replayOn n k).setLink n { (s0.replayOn n k).link n with sideUp := setBit (s0.link n).sideUp k false }
    let s1 := (s.setWidth n k 0).setUnit .ucie (umNo n k) .failed
    let s2 := (s1.flag .SITE_ERR_STATUS_UM_FAIL n).raise 0x5018 sevUnitFatal 6 (umNo n k) [n, k]
    if s2.linkUp n ∧ (List.range 6).all (fun j => s2.umWidth n j = 0) then
      (s2.linkDown n 10).siteFailed n 10
    else (s2.siteCapSet n).siteDegSet n

/-- A lane of a module fails in operation (09 R357), or enters the repair record for the next training while the link is
down (09, after R362). -/
def State.laneRepair (s : State) (n k lane : Nat) (rx : Bool) : State :=
  let plus (r : UmRepair) : UmRepair :=
    if rx then fitWidth r.width r.tx (laneUnion r.rx [lane]) else fitWidth r.width (laneUnion r.tx [lane]) r.rx
  let noted := s.setRepair n k (plus (s.repair n k))
  let r1 := plus { s.liveRepair n k with width := s.umWidth n k }
  if !s.linkUp n then noted
  else if s.umWidth n k = 0 then s
  else if r1.width = 0 then noted.umFail n k
  else
    let s1 := (noted.replayOn n k).setLive n k r1
    if r1.width = s.umWidth n k then
      (s1.flag .SITE_ERR_STATUS_LANE_REPAIR n).raise 0x5008 sevCorrected 5 n [k, lane, b2n rx]
    else
      let s2 := ((s1.setWidth n k r1.width).flag .SITE_ERR_STATUS_WIDTH n).siteCapSet n
      (s2.raise 0x5010 sevCorrected 5 n [k, r1.width, s2.siteCapacity n]).siteDegSet n

end Sys2Proof.Machine
end

