-- ==== Sys2Proof/Machine/MeshServe.lean ====
section
/-! DEFINITION. Requests at the mesh ports: acceptance, regulation, service at a memory site or a chiplet site, responses
(07 R256-R292; 05 R191, R192; 08 R310; 09 R344-R349). Requests to the control space are served in MeshReq. -/

namespace Sys2Proof.Machine

/-- The chiplet site of an identity. -/
def siteOfId (id : Nat) : Option Nat := if 0x100 ≤ id ∧ id < 0x300 then some ((id - 0x100) / 0x40) else none

/-- A request by its port and tag. -/
def State.req (s : State) (port tag : Nat) : Option Req :=
  s.mesh.reqs.find? (fun r => r.port == port && r.tag == tag)

/-- Changes a request. -/
def State.updReq (s : State) (port tag : Nat) (f : Req → Req) : State :=
  { s with mesh := { s.mesh with reqs := s.mesh.reqs.map (fun r => if r.port = port ∧ r.tag = tag then f r else r) } }

/-- Removes a request. -/
def State.dropReq (s : State) (port tag : Nat) : State :=
  { s with mesh := { s.mesh with reqs := s.mesh.reqs.filter (fun r => !(r.port == port && r.tag == tag)) } }

/-- Puts a request's outcome. -/
def Req.answer (r : Req) (st : Nat) (data : Bytes) (bad : Nat) : Req :=
  { r with ans := true, phase := .issued, status := st, rdata := data, rpoison := bad }

/-! ### Service at a memory site -/

/-- Offset in stacked memory of a request's address, and the alias it names. -/
def memTarget (pa : Nat) : Option (Nat × Nat) :=
  match target pa with
  | .mem off => some (0, off)
  | .red k off => some (k, off)
  | _ => none

/-- Performs a read or write of stacked memory (05 R199, R201; 06 R229-R235). Lines that were snooped for a read take no part
in combining (06 R241). -/
def State.serveMem (s : State) (r : Req) : State :=
  match memTarget r.pa with
  | none => s
  | some (k, off) =>
    if r.write then
      let (st, s1) := s.pageWrite k off r.data r.poison r.errs r.cls
      s1.updReq r.port r.tag (fun x => x.answer st [] 0)
    else
      let skip := (linesOf off r.len).filter (fun l => match s.htxn l with
        | some t => decide (t.before ≠ 0)
        | none => false)
      let (st, d, bad, s1) := s.pageRead off r.len r.errs r.cls skip r.port r.tag
      s1.updReq r.port r.tag (fun x => x.answer st d (maskOf (bad.map (fun l => l - off / 64))))

/-- Serves a request whose lines are all held for it, and ends their transactions (08 R310, R315). -/
def State.serveHeld (s : State) (r : Req) : State :=
  match memTarget r.pa with
  | none => s
  | some (_, off) =>
    let ls := linesOf off r.len
    let mine (l : Nat) : Bool := match s.htxn l with
      | some t => decide (t.phase = .held) && t.req.port == r.port && t.req.tag == r.tag
      | none => false
    if r.phase = .waitHome ∧ ls.all mine then ls.foldl State.dropHtxn (s.serveMem r) else s

/-- The read of a line for a waiting command is made at its home, in its turn (log 21). -/
def State.readParked (s : State) (t : HTxn) : State :=
  if t.phase = .held ∧ t.req.port = 64 ∧ t.req.cmd = 0x100 ∧ s.msAlive (s.homePa (t.line * 64)) then
    let (_, d, bad, s1) := s.pageRead (t.line * 64) 64 [] t.req.cls (if t.before = 0 then [] else [t.line])
    { s1 with coh := { s1.coh with parked := s1.coh.parked.map (fun (p : Parked) =>
      if p.no = t.req.tag then { p with got := p.got ++ [(t.line, bad != [], slice d 0 64)] } else p) } }.dropHtxn t.line
  else s

/-- Serves every request whose lines have come free, makes the reads of waiting commands, and takes drained sites on. -/
def State.serveReady (s : State) : State :=
  let s1 := s.mesh.reqs.foldl State.serveHeld s
  let s2 := s1.coh.txns.foldl State.readParked s1
  (List.range 8).foldl State.siteRecalled s2

/-- A request with a tracker at its home: one that is refused is refused at once, one that must wait for a line joins the
queues of its lines (08 R310, R311; 05 R204); a write ends read combining for its lines from now on (06 R243). -/
def State.atHome (s : State) (r : Req) : State :=
  match memTarget r.pa with
  | none => s
  | some (k, off) =>
    let ls := linesOf off r.len
    if s.pageRefused k off r.len r.write then s.serveMem r
    else
      let s0 := if r.write then ls.foldl State.combClose s else s
      if !ls.any (fun l => s0.lineHeld l r.write) then s0.serveMem r
      else
        let s1 := s0.updReq r.port r.tag (fun x => { x with phase := .waitHome })
        let s2 := ls.foldl (fun s l => s.askLine { cmd := if r.write then 0x101 else 0x100, agent := 9, line := l,
                                                   port := r.port, tag := r.tag, cls := r.cls }) s1
        s2.serveHeld { r with phase := .waitHome }

/-- A request arrives at a memory site: it takes a tracker, or waits for one with all that could have it (05 R191; 07 R266, R269);
a site that has stopped never answers. -/
def State.atMemory (s : State) (n : Nat) (r : Req) : State :=
  if !s.msAlive n then s
  else if s.trackerOpen n r.c0 then
    ((s.tracker n r.c0 true).updReq r.port r.tag (fun x => { x with trk := true })).atHome r
  else s.updReq r.port r.tag (fun x => { x with phase := .waitTracker })

/-- A request arrives at a site window (09 R336, R345, R349, R360; 07 R274). -/
def State.atSite (s : State) (n : Nat) (r : Req) : State :=
  match s.siteRefusal n with
  | some st => s.updReq r.port r.tag (fun x => x.answer st [] 0)
  | none => s.siteAsk n r.id r.tag r.urg r.cls r.pa r.len (if r.write then some r.data else none) r.poison

/-! ### Acceptance and issue -/

/-- A request leaves its port (07 R263, R268, R270, R281, R282), and is taken to its memory site or chiplet site. -/
def State.issueReq (s : State) (r : Req) : State :=
  let q := s.qport r.port
  let urg := s.urgency q r.cls
  let q1 := { q with issued := NTbl.put 0 q.issued r.cls (q.used r.cls + r.len) }
  let r1 : Req := { r with phase := .issued, urg, arrUrg := urg, since := s.now, limit := s.portLimit r.port r.pa,
                           plane := s.planeFor r.pa }
  let s0 := (s.setQport r.port q1).updReq r.port r.tag (fun _ => r1)
  let s1 := s0.observe r1.pkt
  if r1.plane = 4 then s0
  else match target r.pa with
    | .mem _ | .red _ _ => match r.home with
      | some n => s1.atMemory n r1
      | none => s1
    | .site n => s1.atSite n r1
    | _ => s1

/-- A response leaves for its initiator: to a chiplet as a packet with the urgency and class of its request (09 R336, R339), on a
CXL link mapped to its signals (09 R346): a failed read of CXL.cache or CXL.mem returns zeros with poison, and its writes
complete. -/
def State.reply (s : State) (port tag id addr len : Nat) (write : Bool) (st : Nat) (data : Bytes) (poison : Nat)
    (urg : Nat := 0) (cls : Nat := 0) : State :=
  if 16 ≤ port ∧ port < 24 then
    let cxl := s.f .SITE_STATUS_PROFILE_ACT (port - 16) ≠ 3 ∧ 0x10 ≤ id % 64 ∧ st ≠ stOk ∧ st ≠ stPoison
    let zeros := List.replicate len 0
    let (st1, d, p) : Nat × Bytes × Nat := if !cxl then (st, data, poison) else if write then (stOk, [], 0)
      else (stPoison, zeros, 2 ^ (linesOf addr len).length - 1)
    s.siteSend (port - 16) { cmd := if write then 0x81 else 0x80, rsp := true, id, urg, cls, len, tag, status := st1, poison := p, data := if d = [] then [] else lineUnits addr d }
  else s.emit (.response port tag st data poison)

/-- A response that leaves without the request having entered the mesh. -/
def State.refuseReq (s : State) (r : MeshReq) (port : Nat) (write : Bool) (st : Nat) : State :=
  let q := s.qport port
  let c := q.classify r.addr write
  s.reply port r.tag r.id r.addr r.len write st [] 0 (s.urgency q c) c

/-- Chiplet requests outstanding at a site (09 R338, R374): those of the mesh, and coherent ones at their homes or on the way
there. -/
def State.siteOut (s : State) (n : Nat) : Nat :=
  (s.mesh.reqs.filter (fun r => r.port == 16 + n)).length + (s.cohOut.filter (fun r => r.agent == n)).length

/-- Whether a request's identity is none that the site's profile gives (09 R331, R343): on CXL the functions 0 to 7, and the
CacheIDs in role C or 0x20 in role M. -/
def State.subBad (s : State) (n id : Nat) : Bool :=
  let act := s.f .SITE_STATUS_PROFILE_ACT n
  let sub := id % 64
  decide ((act = 1 ∨ act = 2) ∧ 8 ≤ sub) && !(decide (act = 1 ∧ 0x10 ≤ sub ∧ sub < 0x20) || decide (act = 2 ∧ sub = 0x20))

/-- A request presented at its port (01 R41, R51; 07 R260, R273, R280, R281; 09 R338, R344, R349): refused, waiting, or
issued. One that the port does not take stays with its unit. -/
def State.present? (s : State) (m : MeshReq) (write : Bool) (data : Bytes) (poison : Nat)
    (errs : List LineErr) : State × Option Req :=
  let id := m.id
  let tag := m.tag
  let addr := m.addr
  let len := m.len
  match portOfId id with
  | none => (s, none)
  | some port =>
    let plot := s.plotOfMaster id
    let site := siteOfId id
    let shape := decide (0 < len) && decide ((linesOf addr len).length ≤ 8) && decide (addr % 4096 + len ≤ 4096)
    let full := match site with
      | some n => decide (2048 ≤ s.siteOut n)
      | none => false
    let down := match site with
      | some n => !s.linkUp n
      | none => false
    let odd := match site with
      | some n => s.subBad n id
      | none => false
    if !down && odd then ((s.badPkt (port - 16) (some tag)), none)
    else if decide ((s.qport port).fence ≠ 0) || !shape || full || down || (s.req port tag).isSome then (s, none)
    else
      let scrub := match plot with
        | some p => site.isSome && (s.plot p).teardown.isSome
        | none => false
      let ctlNo := match site, plot, target addr with
        | some n, none, .ctl _ => !(s.link n).ctl
        | _, _, _ => false
      if scrub then (s.refuseReq m port write stScrub, none)
      else if target addr = .unmapped then ((s.unmappedAt port addr).refuseReq m port write stUnmapped, none)
      else match s.translate plot addr write with
        | none => (s.refuseReq m port write stUnmapped, none)
        | some pa =>
          if ctlNo then (s.refuseReq m port write stUnmapped, none)
          else
            let q := s.qport port
            let c := q.classify pa write
            let r : Req := { port, id, tag, plot, pa, len, write, data := slice data 0 len, poison, cls := c,
                             urg := (q.cls c).baseUrg, plane := 4,
                             home := (memTarget pa).map (fun x => s.homePa x.2),
                             errs, phase := .waitPort, since := s.now }
            ({ s with mesh := { s.mesh with reqs := s.mesh.reqs ++ [r] } }, some r)

/-- Whether a request may leave its port in this window: its ceiling allows it, and no earlier request of its class waits
(07 R281). -/
def State.mayIssue (s : State) (r : Req) : Bool :=
  (s.qport r.port).fits r.cls r.len
    && !s.mesh.reqs.any (fun x => x.port == r.port && x.cls == r.cls && decide (x.phase = .waitPort) && x.tag != r.tag)

/-! ### Responses -/

/-- Whether a port has requests of a class, waiting or outstanding (07 R290): the mesh's, agents', and those of commands that wait. -/
def State.classBusy (s : State) (port c : Nat) : Bool :=
  s.mesh.reqs.any (fun r => r.port == port && r.cls == c && !r.late) || s.cohOut.any (fun r => r.inPort == port && r.cls == c)
    || s.coh.parked.any (fun p => p.want.any (fun w => w.port == port && w.cls == c
      && (w.window || decide (s.now < w.since + w.limit))))

/-- A class of a port that has no request left is not busy throughout its window (07 R290). -/
def State.idleClass (s : State) (port c : Nat) : State :=
  if s.classBusy port c then s
  else
    let q := s.qport port
    s.setQport port { q with busyAll := setBit q.busyAll c false }

/-- A write of a work order into a site window has its response (04 R173, R180): a failed one decides the order's status. -/
def State.runAnswer (s : State) (x : RunRef) (pa st : Nat) : State :=
  if st = stOk then s
  else
    let (c, fc) := meshCompletion st
    if x.unit < 64 then s.laneStop x.e x.q x.idx c fc pa
    else s.updRun x.e x.q x.idx (fun r => if csFlags < r.status then r else r.fail c fc pa)

/-- A response reaches its initiator (07 R262, R271): late ones are discarded and counted. -/
def State.respond (s : State) (r : Req) : State :=
  let s0 := match r.home with
    | some n => if r.trk then s.tracker n r.c0 false else s
    | none => s
  let s1 := (s0.dropReq r.port r.tag).observe r.rspPkt
  if r.late then s1.count .QOS_PORT_COUNT_LATE r.port 0 16 1
  else
    let q := s1.qport r.port
    let q1 := { q with done := NTbl.put 0 q.done r.cls (NTbl.at 0 q.done r.cls + r.len) }
    let s2 := ((s1.setQport r.port q1).idleClass r.port r.cls).glnLatency r.port r.cls r.write r.status r.since
    match r.run with
    | some x => s2.runAnswer x r.pa r.status
    | none => if r.dropped then s2
      else s2.reply r.port r.tag r.id r.pa r.len r.write r.status r.rdata r.rpoison r.arrUrg r.cls

/-- A response arrives: that of a read (`write` false) or of a write; the answer of a site window comes with it. -/
def State.response (s : State) (port tag : Nat) (write : Bool) (site : Bytes) : State :=
  match s.req port tag with
  | none => s
  | some r =>
    if r.write ≠ write ∨ r.phase ≠ .issued ∨ r.gone then s
    else if r.ans then (s.chanFor port tag).respond r
    else match target r.pa with
      | .site n => if s.linkUp n then s.respond (r.answer stOk (if write then [] else slice site 0 r.len) 0) else s
      | _ => s

/-- An agent's requests at a home or on the way there change. -/
def State.updHreqs (s : State) (f : HReq → HReq) : State :=
  { s with coh := { s.coh with txns := s.coh.txns.map (fun t => { t with req := f t.req }), queue := s.coh.queue.map f
                               waiting := s.coh.waiting.map f } }

/-- An agent's request fails at its port: ERR_TIMEOUT or ERR_PLANE for it, and whatever its home answers later is discarded (07
R271, R278). -/
def State.hreqFails (s : State) (r : HReq) (st : Nat) (lost : Bool) : State :=
  (s.updHreqs (fun x => if x = r then { x with late := true, gone := x.gone || lost } else x)).cohRefuse r.agent
    (s.agentLine r.agent r.line) st (r.cmd != 0x15) r.tag

/-- The timer of an agent's request expires at its port (07 R270, R271). -/
def State.hreqTimeout (s : State) (port tag : Nat) : State :=
  match s.cohOut.find? (fun r => r.inPort == port && decide (r.tag % 4096 = tag) && decide (r.since + r.limit ≤ s.now)) with
  | some r =>
    let id := if r.agent < 8 then 0x100 + 0x40 * r.agent + r.tag / 4096 % 64 else r.tag / 4096 % 4
    ((s.hreqFails r stTimeout false).timedOut port id (r.line * 64) r.cls).idleClass port r.cls
  | none => s

/-- MESH_TIMEOUT: the port's timer, as it was set when the request was issued, has expired (07 R270, R271). -/
def execMeshTimeout (port tag : Nat) (s : State) : Res :=
  match s.req port tag with
  | none => .next (s.hreqTimeout port tag)
  | some r =>
    if r.late ∨ r.phase = .waitPort ∨ s.now < r.since + r.limit then .next s
    else
      let s1 := (s.updReq port tag (fun r => { r with late := true })).timedOut port r.id r.pa r.cls
      let s2 := s1.idleClass port r.cls
      .next (match r.run with
        | some x => s2.runAnswer x r.pa stTimeout
        | none => if r.dropped then s2 else s2.reply port r.tag r.id r.pa r.len r.write stTimeout [] 0 r.arrUrg r.cls)

/-- DATA_RESPONSE (07 R262). -/
def execDataResponse (port tag : Nat) (site : Bytes) (s : State) : Res := .next (s.response port tag false site)

/-- COMPLETION_RESPONSE (07 R262). -/
def execCompletionResponse (port tag : Nat) (s : State) : Res := .next (s.response port tag true [])

/-- URGENCY_AGE: a waiting packet's urgency rises by one, to 15 at most (07 R267), that of a coherent request which waits for a
tracker too. -/
def execUrgencyAge (port tag : Nat) (s : State) : Res :=
  match s.req port tag with
  | some r => .next (if r.phase = .waitPort then s else s.updReq port tag (fun r => { r with urg := min 15 (r.urg + 1) }))
  | none => .next { s with coh := { s.coh with waiting := s.coh.waiting.map (fun r =>
      if r.inPort = port ∧ r.tag % 4096 = tag then { r with urg := min 15 (r.urg + 1) } else r) } }

/-- HOME_STATE of COH_ERR_INFO (08 R325). -/
def State.homeState (s : State) (line : Nat) : Nat :=
  let stable := match s.sfEnt line with
    | some e => if e.owned then 2 else 1
    | none => 0
  match s.htxn line with
  | some t =>
    if t.phase = .grant then 5
    else if t.phase ≠ .snoop then stable
    else if t.pend.any (fun w => w.wbp && !w.wb) then 4 else 3
  | none => stable

/-- A protocol error of an agent (08 R317): recorded and reported; the site is lost, or CC_FATAL. -/
def State.protoErr (s : State) (a line msg : Nat) : State :=
  let s1 := (s.setF .COH_ERR_LINE_LINE 0 0 line).setF .COH_ERR_INFO_HOME_STATE 0 0 (s.homeState line)
  let s2 := (s1.setF .COH_ERR_INFO_MESSAGE 0 0 msg).setF .COH_ERR_INFO_AGENT 0 0 a
  let s3 := s2.flag .COH_ERR_STATUS_PROTO_ERR
  if a < 8 then (((s3.raise 0x4010 sevDeferred 5 a [a, line * 64, msg]).linkDown a 7).agentLost a).serveReady
  else s3.ccFatal

/-- A home accepts a request of an agent or of a waiting command (08 R310-R312): one for ownership or a write ends read combining
for its line (06 R243). -/
def State.acceptHreq (s : State) (r : HReq) : State :=
  if !s.lineBusy r.line && s.fromOwner r then s.protoErr r.agent r.line r.cmd
  else (if r.cmd = 0x12 ∨ r.cmd = 0x13 ∨ r.writes then s.combClose r.line else s).askLine r

/-- Waiting requests of a memory site: urgency, port, and the request of the mesh or of an agent. -/
def State.waiters (s : State) (n : Nat) : List (Nat × Nat × (Req ⊕ HReq)) :=
  ((s.mesh.reqs.filter (s.meshWaits n)).map (fun r => (r.urg, r.port, Sum.inl r)))
    ++ ((s.coh.waiting.filter (s.homeWaits n)).map (fun r => (r.urg, r.inPort, Sum.inr r)))

/-- TRACKER_GRANT: a free tracker goes to the most urgent waiting request (07 R269); among equals the ports take turns, the one
after the port served last first (07 R266). C0 reads keep their reserve. -/
def execTrackerGrant (n : Nat) (s : State) : Res :=
  let turn (p : Nat) : Nat := (p + 29 - (s.msite n).lastPort) % 30
  match (s.waiters n).foldl (fun (a : Option (Nat × Nat × (Req ⊕ HReq))) x => match a with
    | none => some x
    | some b => if b.1 < x.1 ∨ (b.1 = x.1 ∧ turn x.2.1 < turn b.2.1) then some x else a) none with
  | some (_, p, .inl r) =>
    let s1 := (s.setMsite n { s.msite n with lastPort := p }).updReq r.port r.tag (fun x =>
      { x with phase := .issued, trk := true })
    .next ((s1.tracker n r.c0 true).atHome { r with phase := .issued })
  | some (_, p, .inr r) =>
    let s1 := s.setMsite n { s.msite n with lastPort := p }
    .next ({ s1 with coh := { s1.coh with waiting := s1.coh.waiting.erase r } }.acceptHreq r).serveReady
  | none => .next s

/-! ### Windows (07 R281, R287-R292) -/

/-- Misses of one port at the end of a window (07 R290-R292). -/
def State.portMisses (s : State) (p : Nat) : State :=
  let q := s.qport p
  (maskList 8 q.busyAll).foldl (fun s c =>
    let eff := (q.cls c).eff
    let got := NTbl.at 0 q.done c
    if 0 < eff ∧ got < eff * 1000 then
      let s1 := (s.count .QOS_MISS_COUNT p c 32 1).count .QOS_CLASS_MISS_COUNT c 0 32 1
      let was := bit (s1.f .QOS_MISS_STATUS_CLASS) c
      let s2 := s1.setF .QOS_MISS_STATUS_CLASS 0 0 (setBit (s1.f .QOS_MISS_STATUS_CLASS) c true)
      let s3 := if !was && bit (s2.f .QOS_MISS_IRQ_EN_ENABLE) c then s2.emit (.interrupt 0x3020 c) else s2
      let sc : Scope := match if p < 8 then s3.plotOfEngine p else if 16 ≤ p ∧ p < 24 then s3.plotOfSite (p - 16) else none with
        | some x => .opPlots (2 ^ x)
        | none => .op
      s3.raiseLimited 100 0x3020 sevNone 0 c [p, c, got, eff] sc
    else s) s

/-- A port's counters start a new window; the classes with requests now are busy from its start. Bytes beyond a class's ceiling
that an access of several requests has issued stay counted (log 85). -/
def State.portWindow (s : State) (p : Nat) : State :=
  let q := s.qport p
  let excess (c : Nat) : Nat := if (q.cls c).ceil = 0 then 0 else q.used c - (q.cls c).ceil * 1000
  s.setQport p { q with issued := (List.range 8).foldl (fun t c => NTbl.put 0 t c (excess c)) [], done := [], busyAll := maskOf ((List.range 8).filter (s.classBusy p)) }

end Sys2Proof.Machine
end

