-- ==== Sys2Proof/Machine/Coherence.lean ====
section
/-! DEFINITION. The coherence rows: requests, evictions, grants, snoop responses, timers and errors (08), and the mesh's own
failures (07 R261, R277-R279). -/

namespace Sys2Proof.Machine

/-- Whether the home hears an agent: an accepted agent whose port is open (08 R320). -/
def State.agentHeard (s : State) (a : Nat) : Bool :=
  bit s.coh.up a && decide (a < 9) && (decide (a = 8) || decide ((s.qport (16 + a)).fence = 0))

/-- The line an agent's message names, after the checks of its port (08 R297; 09 R349): its line, or the status of the
refusal. -/
def State.agentAddr (s : State) (a addr : Nat) (write : Bool) : Nat × Option Nat :=
  let scrub := match if a < 8 then s.plotOfSite a else none with
    | some p => (s.plot p).teardown.isSome
    | none => false
  if scrub then (stScrub, none) else s.lineAddr a addr write

/-- What a refusal counts: an unmapped address at the port (01 R41), a request to an alias at its home (06 R230). -/
def State.refuseCount (s : State) (a addr st : Nat) : State :=
  let plot := if a < 8 then s.plotOfSite a else none
  if st = stUnmapped then s.unmappedAt (agentPort a) addr
  else if st = stTarget then match (s.translate plot addr false).map target with
    | some (.red _ off) => s.count .MEM_RED_REFUSED_COUNT (s.homePa off) 0 32 1
    | _ => s
  else s

/-! ### CC's agent logic (08 R302, R303) -/

/-- CC's copy as a message meets it (08 R302): a line in S may have been dropped, one in E written, and the eviction of a line
in E or M may be on its way. Which of these holds is free (log 24). -/
def ccNow (k : Nat) : Option CcLine → Option CcLine
  | some .s => if Config.free k % 2 = 1 then none else some .s
  | some .e => ([some .e, some .m, some .ciA, some .miA] : List (Option CcLine)).getD (Config.free k % 4) none
  | some .m => if Config.free k % 2 = 1 then some .miA else some .m
  | c => c

/-- Whether CC sends a request or eviction for a line (08 R302): with its copy in a state that allows it, and no other of the
line outstanding. -/
def State.ccMay (s : State) (cmd line : Nat) : Bool :=
  let c := NTbl.at none s.coh.cc line
  let free := !((s.coh.txns.map HTxn.req ++ s.coh.queue ++ s.coh.waiting).any (fun r => r.agent == 8 && r.line == line
      && decide (r.cmd < 0x100))) && !s.coh.evWait.any (fun w => w.agent == 8 && w.line == line)
  let idle := decide (c = none ∨ c = some .s) && free
  !s.boot.dead && (if cmd = 0x13 then decide (c = some .s) && idle
    else if cmd = 0x18 then decide (c = some .s ∨ c = some .e ∨ c = some .ciA) && free
    else if cmd = 0x19 then decide (c = some .e ∨ c = some .m ∨ c = some .miA) && free
    else if cmd = 0x20 then decide (c = some .isD ∨ c = some .imD ∨ c = some .smD)
    else idle)

/-- Whether an agent's message is one that the agent sends: CC keeps the obligations of 08 R302. -/
def State.agentMay (s : State) (a cmd line : Nat) : Bool := decide (a ≠ 8) || s.ccMay cmd line

/-- CC's copy once it has sent a request or eviction (08 R303). -/
def State.ccAsk (s : State) (a line cmd : Nat) : State :=
  if a ≠ 8 then s
  else if cmd = 0x10 ∨ cmd = 0x11 then s.setCc line (some .isD)
  else if cmd = 0x12 then s.setCc line (some .imD)
  else if cmd = 0x13 then s.setCc line (some .smD)
  else if cmd = 0x15 then s.setCc line none
  else if cmd = 0x18 then s.setCc line (some .ciA)
  else if cmd = 0x19 then s.setCc line (some .miA)
  else s

/-- An agent's request for a line as it leaves the agent's port, with the reference its packet carries. -/
def State.agentReq (s : State) (a cmd addr line : Nat) (data : Bytes) (poison : Bool) (ref : Option Nat) : HReq × State :=
  let write := decide (cmd = 0x12 ∨ cmd = 0x13 ∨ cmd = 0x15)
  let noE := match if a < 8 then s.plotOfSite a else none with
    | some p => ((s.mapEnt p (addr % 2 ^ 48 / 2 ^ 30)).map (fun m => !m.write)).getD false
    | none => false
  let off := if cmd = 0x15 then addr % 64 else 0
  let body := if cmd = 0x15 then data.take (64 - off) else []
  let (k, s1) := s.agentPacket a cmd line (if cmd = 0x15 then body.length else 64) (b2n (cmd == 0x15)) write true ref
  let q := s.qport (agentPort a)
  let c := q.classify (line * 64) write
  ({ cmd, agent := a, line, off, data := body, poison, noE, tag := k, cls := c, urg := s.urgency q c
     plane := s.planeFor (line * 64), since := s.now, limit := s.portLimit (agentPort a) (line * 64) }, s1.ccAsk a line cmd)

/-- Whether an agent's request reaches its home, with a tracker for it (05 R191; 07 R263): else it waits, where nothing answers for
its port's timer (07 R270). -/
def State.agentTracker (s : State) (r : HReq) : Bool :=
  let n := s.homePa (r.line * 64)
  decide (r.plane < 4) && s.msAlive n && s.trackerOpen n r.c0

/-- A coherent request (08 R310-R312), with the reference its packet carries: it takes a tracker or waits for one (05 R191). -/
def State.cohReq (s : State) (a cmd addr : Nat) (data : Bytes) (poison : Bool) (ref : Option Nat := none) : State :=
  if !s.agentHeard a || (decide (a < 8) && decide (2048 ≤ s.siteOut a)) then s
  else
    let write := decide (cmd = 0x12 ∨ cmd = 0x13 ∨ cmd = 0x15)
    match s.agentAddr a addr write with
    | (st, none) => (s.refuseCount a addr st).cohRefuse a addr st (cmd != 0x15) (ref.getD 0)
    | (_, some line) =>
      if !s.agentMay a cmd line then s
      else
        let (r, s1) := s.agentReq a cmd addr line data poison ref
        if s1.agentTracker r then s1.acceptHreq r else { s1 with coh := { s1.coh with waiting := s1.coh.waiting ++ [r] } }

/-- RD_SHARED. -/
def execRdShared (a addr : Nat) (s : State) : Res := .next (s.cohReq a 0x10 addr [] false)

/-- RD_ANY. -/
def execRdAny (a addr : Nat) (s : State) : Res := .next (s.cohReq a 0x11 addr [] false)

/-- RD_OWN. -/
def execRdOwn (a addr : Nat) (s : State) : Res := .next (s.cohReq a 0x12 addr [] false)

/-- RD_OWN_NODATA. -/
def execRdOwnNodata (a addr : Nat) (s : State) : Res := .next (s.cohReq a 0x13 addr [] false)

/-- RD_CURR. -/
def execRdCurr (a addr : Nat) (s : State) : Res := .next (s.cohReq a 0x14 addr [] false)

/-- WR_INV. -/
def execWrInv (a addr : Nat) (data : Bytes) (poison : Bool) (s : State) : Res :=
  .next (s.cohReq a 0x15 addr data poison)

/-- HOME_TRANSACTION_START: the first request that waits for a line starts (08 R310), unless the line's bank is under repair (05
R204). -/
def execHomeTransactionStart (line : Nat) (s : State) : Res :=
  if (s.htxn line).isSome then .next s
  else match s.coh.queue.find? (fun r => r.line == line) with
    | some r =>
      if s.repairHeld line r.writes then .next s
      else
      let s1 := { s with coh := { s.coh with queue := s.coh.queue.erase r } }
      if s1.fromOwner r then .next (s1.protoErr r.agent line r.cmd)
      else .next (s1.startHreq r).serveReady
    | none => .next s

/-- SF_ALLOC_RETRY: an allocation that waits for a way is tried again (08 R308); one whose victim is being recalled takes that
way instead (08 R307). -/
def execSfAllocRetry (line : Nat) (s : State) : Res :=
  match s.htxn line with
  | some t =>
    if t.phase ≠ .alloc ∨ (t.victim.map (fun v => (s.htxn v).isSome)).getD false then .next s
    else .next ((s.count .COH_ALLOC_RETRY_COUNT (s.home (line * 64)) 0 32 1).sfAlloc t).serveReady
  | none => .next s

/-! ### Evictions and grants (08 R311-R314) -/

/-- EVICT_ACK, with the reference of the eviction. -/
def State.evictAck (s : State) (a line ref : Nat) (quiet : Bool := false) (st : Nat := 0) : State :=
  let s1 := s.cohSend a 0x81 0 line st [] ref quiet
  if a = 8 then s1.setCc line none else s1

/-- A stale EVICT_CLEAN. -/
def State.staleEvict (s : State) (line : Nat) : State := s.count .COH_STALE_EVICT_COUNT (s.home (line * 64)) 0 32 1

/-- EVICT_CLEAN. -/
def State.evictCleanAt (s : State) (a line ref : Nat) : State :=
  let s1 := if s.holds a line then s.unhold a line else s.staleEvict line
  s1.evictAck a line ref

/-- An EVICT_DIRTY at its home: taken in and acknowledged, or a protocol error. -/
def State.evictDirtyAt (s : State) (a line : Nat) (data : Bytes) (poison : Bool) (ref : Nat) (quiet : Bool := false) : State :=
  match s.evictTake a line data poison with
  | none => s.protoErr a line 0x19
  | some (st, s1) =>
    let s2 := s1.evictAck a line ref quiet st
    match s.htxn line with
    | some t => if t.phase = .snoop then (s2.snoopCheck line).serveReady else s2
    | none => s2

/-- Lines in a home's writeback buffer (08 R310). -/
def State.evictLoad (s : State) (n : Nat) : Nat := NTbl.at 0 s.coh.evicts n

/-- An EVICT_DIRTY at the home's writeback buffer (08 R310): it takes one of its 256 places, or waits for one behind other
evictions only. -/
def State.evictBuf (s : State) (w : EvWait) : State :=
  let n := s.homePa (w.line * 64)
  if 256 ≤ s.evictLoad n ∨ s.coh.evWait.any (fun x => s.homePa (x.line * 64) == n) then
    { s with coh := { s.coh with evWait := s.coh.evWait ++ [w] } }
  else
    { s with coh := { s.coh with evicts := NTbl.put 0 s.coh.evicts n (s.evictLoad n + 1) } }.evictDirtyAt w.agent w.line w.data
      w.poison w.ref w.quiet

/-- The writeback buffers have drained into their slices, and evictions that waited come in (08 R310; log 8). -/
def State.evictsIn (s : State) : State :=
  s.coh.evWait.foldl State.evictBuf { s with coh := { s.coh with evicts := [], evWait := [] } }

/-- EVICT_CLEAN, with the reference its packet carries. -/
def State.evictClean (s : State) (a addr : Nat) (ref : Option Nat) : State :=
  if !s.agentHeard a then s
  else match s.agentAddr a addr false with
    | (st, none) => (s.refuseCount a addr st).cohRefuse a addr st false (ref.getD 0)
    | (_, some line) =>
      if !s.agentMay a 0x18 line then s
      else
        let (k, s1) := s.agentPacket a 0x18 line 64 0 false false ref
        (s1.ccAsk a line 0x18).evictCleanAt a line k

/-- EVICT_DIRTY, with the reference its packet carries; a `quiet` one has been answered already (08 R324). -/
def State.evictDirty (s : State) (a addr : Nat) (data : Bytes) (poison : Bool) (ref : Option Nat) (quiet : Bool := false) :
    State :=
  if !s.agentHeard a then s
  else match s.agentAddr a addr true with
    | (st, none) =>
      let s1 := s.refuseCount a addr st
      if quiet then s1 else s1.cohRefuse a addr st false (ref.getD 0)
    | (_, some line) =>
      if !s.agentMay a 0x19 line then s
      else
        let (k, s1) := s.agentPacket a 0x19 line 64 1 true false ref
        (s1.ccAsk a line 0x19).evictBuf { agent := a, line, data, poison, ref := k, quiet }

/-- EVICT_CLEAN. -/
def execEvictClean (a addr : Nat) (s : State) : Res := .next (s.evictClean a addr none)

/-- EVICT_DIRTY. -/
def execEvictDirty (a addr : Nat) (data : Bytes) (poison : Bool) (s : State) : Res :=
  .next (s.evictDirty a addr data poison none)

/-- GRANT_ACK: the final state applies and the transaction ends (08 R313). -/
def State.grantAckAt (s : State) (a line : Nat) : State :=
  match s.htxn line with
  | some t =>
    if t.phase = .grant ∧ t.req.agent = a then s.grantApply a t else s.protoErr a line 0x20
  | none => s.protoErr a line 0x20

/-- GRANT_ACK. That of a site is its adapter's, which sends it once the grant is on the link (08 R324; 09 R340): it does not come
before. It is no request of the chiplet, so a teardown does not refuse it (09 R349). -/
def execGrantAck (a addr : Nat) (s : State) : Res :=
  if !s.agentHeard a then .next s
  else match s.lineAddr a addr false with
    | (st, none) => .next ((s.refuseCount a addr st).cohRefuse a addr st)
    | (_, some line) =>
      let granted : Bool := match s.htxn line with
        | some t => decide (t.phase = .grant) && t.req.agent == a
        | none => false
      if decide (a < 8) && granted && !(s.link a).acks.contains line then .next s
      else if granted && !s.agentMay a 0x20 line then .next s
      else
        let (_, s1) := s.agentPacket a 0x20 line 64 0 false false none
        let s2 := if a < 8 then s1.setLink a { s1.link a with acks := (s1.link a).acks.erase line } else s1
        .next (s2.grantAckAt a line).serveReady

/-! ### Snoop responses (08 R299, R313, R314) -/

/-- RSP_I, RSP_S or RSP_E with `k` 0, 1 or 2, and dirty data where D is set, poisoned or not (09 R347). Data that a teardown
recalls is discarded (08 R321). -/
def State.snoopResp (s : State) (a line txn k msg : Nat) (dirty : Option Bytes) (bad : Bool := false) : State :=
  if !bit s.coh.up a then s
  else match s.htxn line with
    | some t =>
      if t.phase = .snoop ∧ t.txn = txn ∧ t.pend.any (fun w => w.agent == a && w.resp.isNone) then
        let s1 := match dirty with
          | some d => if t.req.cmd = 0x201 then s else s.memWrite (line * 64) (slice d 0 64) (b2n bad)
          | none => s
        let s2 := s1.putHtxn { t with pend := t.pend.map (fun w => if w.agent = a then { w with resp := some k } else w) }
        (s2.snoopCheck line).serveReady
      else s.protoErr a line msg
    | none => s.protoErr a line msg

/-- RSP_I. -/
def execRspI (a line txn : Nat) (dirty : Option Bytes) (s : State) : Res := .next (s.snoopResp a line txn 0 0x38 dirty)

/-- RSP_S. -/
def execRspS (a line txn : Nat) (dirty : Option Bytes) (s : State) : Res := .next (s.snoopResp a line txn 1 0x39 dirty)

/-- RSP_E. -/
def execRspE (a line txn : Nat) (dirty : Option Bytes) (s : State) : Res := .next (s.snoopResp a line txn 2 0x3A dirty)

/-- RSP_I_WBP: the agent counts as I; its writeback is awaited unless it has been taken in (08 R313). -/
def execRspIWbp (a line txn : Nat) (s : State) : Res :=
  if !bit s.coh.up a then .next s
  else match s.htxn line with
    | some t =>
      let hw := t.pend.any (fun w => w.wbp && !w.wb)
      if t.phase = .snoop ∧ t.txn = txn ∧ !hw ∧ t.pend.any (fun w => w.agent == a && w.resp.isNone) then
        let s1 := s.putHtxn { t with pend := t.pend.map (fun w =>
          if w.agent = a then { w with resp := some 0, wbp := true } else w) }
        let s2 := if t.pend.any (fun w => w.agent == a && !w.wb) then
            s1.count .COH_WBP_COUNT (s1.home (line * 64)) 0 32 1 else s1
        .next (s2.snoopCheck line).serveReady
      else .next (s.protoErr a line 0x3B)
    | none => .next (s.protoErr a line 0x3B)

/-- RSP_LOST (08 R313, R318). -/
def execRspLost (a line txn : Nat) (s : State) : Res :=
  if !bit s.coh.up a then .next s
  else match s.htxn line with
    | some t =>
      if (t.phase = .snoop ∧ t.txn = txn ∧ t.pend.any (fun w => w.agent == a && !w.complete))
          ∨ (t.phase = .grant ∧ t.req.agent = a) then
        .next (s.lostAt t a).2.serveReady
      else .next (s.protoErr a line 0x3C)
    | none => .next (s.protoErr a line 0x3C)

/-- SNOOP_TIMEOUT: the agents that have not completed are lost (08 R316, R318, R322); of one that is down already, only the
wait ends. -/
def execSnoopTimeout (line : Nat) (s : State) : Res :=
  match s.htxn line with
  | none => .next s
  | some t =>
    let late := if t.phase = .snoop then (t.pend.filter (fun w => !w.complete)).map SnpWait.agent
      else if t.phase = .grant then [t.req.agent] else []
    if late = [] then .next s
    else
      let s1 := s.flag .COH_ERR_STATUS_SNOOP_TIMEOUT
      .next (late.foldl (fun s a =>
        if a < 8 ∧ bit s.coh.up a then (s.linkDown a 8).agentLost a
        else if a < 8 then match s.htxn line with
          | some t1 => (s.lostAt t1 a).2
          | none => s
        else match s.htxn line with
          | some t1 => ((s.ccFatal).lostAt t1 a).2
          | none => s) s1).serveReady

/-! ### CC's answers to snoops (08 R303) -/

/-- What CC answers: response code, dirty data, its copy afterwards. Where two answers are allowed the choice is free
(log 24). -/
def ccAnswer (k snp : Nat) (c : Option CcLine) : Option (Nat × Option Bytes × Option CcLine) :=
  let pick := Config.free k % 2 = 1
  let d := some (freeLine (k + 1))
  match snp, c with
  | _, some .miA => some (0x3B, none, some .miA)
  | 0x30, some .m => some (0x38, d, none)
  | 0x30, some .smD => some (0x38, none, some .imD)
  | 0x30, some .s => some (0x38, none, none)
  | 0x30, some .e => some (0x38, none, none)
  | 0x31, some .s => some (if pick then (0x39, none, some .s) else (0x38, none, none))
  | 0x31, some .e => some (if pick then (0x39, none, some .s) else (0x38, none, none))
  | 0x31, some .m => some (if pick then (0x39, d, some .s) else (0x38, d, none))
  | 0x31, some .smD => none
  | 0x32, some .s => some (0x39, none, some .s)
  | 0x32, some .smD => some (0x39, none, some .smD)
  | 0x32, some .e => some (0x3A, none, some .e)
  | 0x32, some .m => some (0x3A, d, some .e)
  | _, c => some (0x38, none, c)

/-- A snoop reaches its agent: CC's agent logic answers by its copy, and a halted CC does not answer (14 R524); a chiplet
answers for itself, and the snoop goes out on its link, with TXN and home (09 R340, R345). -/
def State.snoopAt (s : State) (a line txn snp : Nat) : State :=
  match s.htxn line with
  | some t =>
    if a = 8 ∧ !s.boot.dead ∧ t.phase = .snoop ∧ t.txn = txn ∧ t.pend.any (fun w => w.agent == 8 && w.resp.isNone) then
      match ccAnswer (s.freeCtr + 1) snp (ccNow s.freeCtr (NTbl.at none s.coh.cc line)) with
      | some (code, data, c) =>
        ({ s with freeCtr := s.freeCtr + 66 }.setCc line c).emit (.snoop code 8 line txn data)
      | none => s
    else if a < 8 ∧ t.phase = .snoop ∧ t.txn = txn ∧ t.pend.any (fun w => w.agent == a && w.resp.isNone) then
      s.siteSend a { cmd := snp, len := 64, addr := s.agentLine a line, info := txn + s.home (line * 64) * 2 ^ 16 }
    else s
  | none => s

/-- SNP_INV. -/
def execSnpInv (a line txn : Nat) (s : State) : Res := .next (s.snoopAt a line txn 0x30)

/-- SNP_DATA. -/
def execSnpData (a line txn : Nat) (s : State) : Res := .next (s.snoopAt a line txn 0x31)

/-- SNP_CUR. -/
def execSnpCur (a line txn : Nat) (s : State) : Res := .next (s.snoopAt a line txn 0x32)

/-! ### Errors (08 R300, R309) -/

/-- COH_RING_REPLAY. -/
def execCohRingReplay (ring : Nat) (s : State) : Res :=
  .next ((s.flag .COH_ERR_STATUS_RING_REPLAY).raiseLimited 10000 0x4018 sevCorrected 0 ring [ring] .op)

/-- COH_RING_FATAL. -/
def execCohRingFatal (ring : Nat) (s : State) : Res :=
  .next ({ s with coh := { s.coh with ringDown := true } }.raise 0x4060 sevModuleFatal 0 ring [ring] .op)

/-- COH_SF_FATAL, and the corrected filter error of 08 R309. -/
def execCohSfFatal (n : Nat) (uncorrectable : Bool) (s : State) : Res :=
  if uncorrectable then .next (s.raise 0x4050 sevModuleFatal 2 n [n] .op)
  else .next (((s.flag .COH_ERR_STATUS_SF_CORR).count .COH_SF_CORR_COUNT_COUNT n 0 32 1).raise 0x4008 sevCorrected 2 n [n] .op)

/-! ### Link errors and plane failure -/

/-- Answers with ERR_PLANE every request of a plane, wherever it stands (07 R278): those of the mesh, coherent ones, and the
accesses of commands that wait. -/
def State.dropPlane (s : State) (plane : Nat) : State :=
  let s1 : State := { s with
    mesh := { s.mesh with reqs := s.mesh.reqs.map (fun (r : Req) =>
      if r.plane = plane ∧ r.phase ≠ ReqPhase.waitPort then
        { r with phase := .issued, status := stPlane, rdata := [], rpoison := 0, ans := true, gone := false }
      else r) }
    coh := { s.coh with parked := s.coh.parked.map (fun (p : Parked) =>
      { p with fails := p.fails ++ (p.want.filter (fun w => !w.window && !w.bank && w.plane == plane
        && !p.got.any (fun g => g.1 == w.line))).map (fun w => (w.line, stPlane)) }) } }
  let out := s1.cohOut.filter (fun r => r.plane == plane)
  let s2 := out.foldl (fun s r => s.hreqFails r stPlane true) s1
  { s2 with coh := { s2.coh with waiting := s2.coh.waiting.filter (fun r => r.plane != plane) } }

/-- The last plane, or several, are lost: the planes of a mask stop and keep their state in the unit map (07 R279). -/
def State.routerFatal (s : State) (mask : Nat) : State :=
  { s with mesh := { s.mesh with stopped := s.mesh.stopped ||| mask } }.raise 0x3050 sevModuleFatal 0 0 []

/-- A plane fails (07 R278); the last one is MESH_ROUTER_FATAL (07 R279). A plane that is FAILED already reports the further
fault and changes nothing (01 R631). -/
def State.planeFail (s : State) (plane : Nat) : State :=
  if (s.unit .plane plane).st = some .failed then s.raise 0x3040 sevUnitFatal 4 plane [plane]
  else if !s.planesUp.contains plane then s
  else if s.planesUp = [plane] then s.routerFatal (2 ^ plane)
  else
    let s1 := (s.dropPlane plane).setUnit .plane plane .failed
    ((s1.flag .MESH_ERR_STATUS_PLANE_FAIL).raise 0x3040 sevUnitFatal 4 plane [plane]).capChanged

/-- MESH_LINK_RETRY: a flit that failed its CRC is replayed; `again` says that the replay failed too. The third failed replay
in a row of one link is a plane failure (07 R277, R278). -/
def execMeshLinkRetry (plane link : Nat) (again : Bool) (s : State) : Res :=
  if !s.planesUp.contains plane then .next s
  else
    let s1 := (s.count .MESH_RETRY_COUNT_COUNT 0 0 32 1).flag .MESH_ERR_STATUS_LINK_RETRY
    let s2 := s1.raiseLimited 10000 0x3008 sevCorrected 4 plane [plane, link] .owner link
    let k := if again then PTbl.at 0 s2.mesh.linkFails plane link + 1 else 0
    let put (k : Nat) : State := { s2 with mesh := { s2.mesh with linkFails := PTbl.put 0 s2.mesh.linkFails plane link k } }
    .next (if 3 ≤ k then (put 0).planeFail plane else put k)

/-- MESH_PLANE_FAIL: a router of the plane detects a fault in its own logic (07 R278). -/
def execMeshPlaneFail (plane : Nat) (s : State) : Res := .next (s.planeFail plane)

/-- The packet of a port and tag that a router discards is lost (07 R261): a request that has not reached its target is not served,
of one that has been the response does not come; its port waits for the timer. -/
def State.losePacket (s : State) (port tag : Nat) : State :=
  let reqs := s.mesh.reqs.map (fun (r : Req) =>
    if r.port ≠ port ∨ r.tag ≠ tag then r
    else if r.phase = .waitPort then
      { r with gone := true, phase := .issued, since := s.now, limit := s.portLimit port r.pa, plane := s.planeFor r.pa }
    else { r with gone := true })
  ({ s with mesh := { s.mesh with reqs } } : State).updHreqs (fun r =>
    if r.inPort = port ∧ r.tag % 4096 = tag then { r with gone := true } else r)

/-- MESH_ROUTER_FATAL: a router fault that affects the planes of a mask (07 R279), or a packet with a reserved COMMAND, the
one of a port and tag, which the router discards (07 R261). -/
def execMeshRouterFatal (planes : Nat) (packet : Option (Nat × Nat)) (s : State) : Res :=
  .next (match packet with
    | none => s.routerFatal (planes % 16)
    | some (port, tag) => (s.losePacket port tag).routerFatal 0)

end Sys2Proof.Machine
end

