-- ==== Sys2Proof/Machine/Sites.lean ====
section
/-! DEFINITION. Commands of the chiplet sites: training, drops, repairs, FALLOW and waking, fences (09 R350-R366;
07 R273). The rows that write a register are in RegRows.lean, BLUDRIC_FLIT is in Bludric.lean. -/

namespace Sys2Proof.Machine

/-! ### FALLOW and waking (09 R363-R365) -/

/-- Whether a drain or wake of a site is in progress. -/
def State.siteBusy (s : State) (n : Nat) : Bool :=
  s.siteLinkState n == 6 || (s.link n).fencing || (s.link n).recalling || (s.link n).waking

/-- Starts a SITEQ domain that was never released, inside a wake (03 R123; 09 R356). -/
def State.wakeDom (s : State) (d : Nat) : State :=
  if (s.dom d).ever then s
  else (s.setDom d { running := true, cycles := 0, ever := true }).setF .CLK_DOM_STATUS_RELEASED d 0 1

/-- SITE_DRAIN goes out: on the link of a Bludric site, on the sideband of a CXL site (09 R341, R350, R364 step 1); a site
whose link is not up goes on to step 2. -/
def State.siteDrainStart (s : State) (n : Nat) : State :=
  if !s.linkUp n then s.siteDrained n
  else
    let s1 := if s.f .SITE_STATUS_PROFILE_ACT n = 3 then s.siteSend n { cmd := 0x40 } else s.side n 0x40 []
    s1.setF .SITE_STATUS_LINK n 0 6

/-- A FALLOW or wake request for a site, judged in the order of 09 R363: status and state. -/
def State.siteFallow (s : State) (seq action n : Nat) : WRes :=
  let st := (s.unit .site n).st
  let d := siteDom n
  if !s.umReady then (hNotReady, s.fallowResult seq 0 6 none)
  else if (s.plotOfSite n).isSome then (hOwned, s.fallowResult seq 0 2 none)
  else if s.siteBusy n then (hBusy, s.fallowResult seq 0 3 none)
  else if st = some .failed ∨ st = some .retired then (hDenied, s.fallowResult seq 0 4 none)
  else if (action = 1 ∧ st = some .fallow) ∨ (action = 2 ∧ st = some .present) then
    (hOk, s.fallowResult seq 5 1 none)
  else if action = 1 then (hOk, (s.fallowResult seq 1 0 (some (1, n))).siteDrainStart n)
  else if s.f .SITE_CFG_FITTED n = 0
      ∨ (!(s.dom d).ever ∧ (s.f .CLK_DOM_CFG_PLL_EN d = 0 ∨ s.f .CLK_DOM_STATUS_LOCKED d = 0)) then
    (hNotReady, s.fallowResult seq 0 6 none)
  else
    let s1 := ((s.fallowResult seq 4 0 (some (1, n))).wakeDom d).setRefclk n true
    (hOk, ((s1.setLink n { s1.link n with waking := true }).sitePower n).railsFollow s)

/-- A write of PWR_FALLOW_REQ (03 R119): class 0 engines, class 1 sites. -/
def State.fallowReq (s : State) (seq action cls unit : Nat) : WRes :=
  if cls = 0 then s.engFallow seq action unit else s.siteFallow seq action unit

/-- SITE_DRAIN_DONE: the chiplet has drained (09 R364 step 1). -/
def execSiteDrainDone (n : Nat) (s : State) : Res :=
  .next (if s.siteLinkState n = 6 ∧ !(s.link n).fencing ∧ !(s.link n).recalling then s.siteDrained n else s)

/-- SITE_DRAIN_LIMIT_EXPIRY: SITE_DRAIN_LIMIT ends step 1 (09 R364). -/
def execSiteDrainLimitExpiry (n : Nat) (s : State) : Res :=
  .next (if s.siteLinkState n = 6 ∧ !(s.link n).fencing ∧ !(s.link n).recalling then s.siteDrained n else s)

/-- FENCE_COMPLETE: every outstanding request of a fencing port has completed; the stub takes over and the unit's
sequence goes on (07 R273; 03 R121; 09 R364). -/
def execFenceComplete (port : Nat) (s : State) : Res :=
  if (s.qport port).fence ≠ 1 ∨ s.portBusy port then .next s
  else
    let s1 := s.setFence port 2
    if port < 8 then .next (if s1.pstate port = 3 then s1.engineOff port
      else if (s1.unit .engine port).st = some .failed then (s1.stopDom port).railsFollow s else s1)
    else if 16 ≤ port ∧ port < 24 then
      .next (if (s1.link (port - 16)).fencing then s1.siteOff (port - 16) else s1)
    else .next s1

/-! ### Training (09 R350-R356) -/

/-- A SITE_FAIL whose cause the manual does not number carries a free one (log 4). -/
def State.siteTrainFail (s : State) (n : Nat) : State :=
  let (c, s1) := s.freeBelow 256
  s1.siteFailed n c

/-- Whether a site may train: fitted, its reset released, not FAILED, RETIRED, fencing, or FALLOW without a wake. Before the
unit map is published a site trains that TRAIN or RECORD_REPLAY has started (09 R351; 14 R532). -/
def State.siteTrains (s : State) (n : Nat) : Bool :=
  let l := s.link n
  let st := (s.unit .site n).st
  s.f .SITE_CFG_FITTED n == 1 && !l.rstLow && !l.fencing && (s.dom (siteDom n)).running
    && (st == some .present || l.waking || (st == none && (l.rails || (match s.boot.job with
      | some j => bit j.sites n
      | none => false))))

/-- What both sides must agree on (09 R330, R350, R353, R355): profile, role of a CXL site, version 1; widths and lanes that
name what a module has, with at most four repaired lanes in each direction, as a record holds. Widths and lanes that differ
otherwise are joined by R353 (log 66). -/
def State.paramOk (s : State) (n : Nat) (p : SiteParam) : Bool :=
  p.profile == s.f .SITE_CFG_PROFILE n && p.version == 1
    && (p.profile == 1 || p.role == s.f .SITE_CFG_CXL_ROLE n)
    && p.widths.length == 6 && p.widths.all (fun w => decide (w ≤ 3))
    && p.txLanes.length == 6 && p.txLanes.all (fun l => decide (l.length ≤ 4) && l.all (fun x => decide (x < 64)))
    && p.rxLanes.length == 6 && p.rxLanes.all (fun l => decide (l.length ≤ 4) && l.all (fun x => decide (x < 64)))

/-- Whether a module runs a lane test: no record yet, a retest ordered, or the full training of TRAIN (09 R351, R354;
14 R532). -/
def State.laneTest (s : State) (n k : Nat) : Bool :=
  !bit s.boot.recorded (umNo n k) || bit (s.link n).retest k
    || (match s.boot.job with
      | some j => bit j.sites n && !j.replay
      | none => false)

/-- What the hub's lane test of a module finds; a test that finds nothing leaves it whole (09 R354). -/
def laneTested (p : SiteParam) (k : Nat) : UmRepair :=
  fitWidth (p.testWidths.getD k 3) (laneUnion (p.testTx.getD k []) []) (laneUnion (p.testRx.getD k []) [])

/-- The hub's side at a training: a module's record, which the result of a lane test replaces (09 R353, R354). -/
def State.hubSide (s : State) (n : Nat) (p : SiteParam) (k : Nat) : UmRepair :=
  if s.laneTest n k then laneTested p k else s.repair n k

/-- A module's width and repairs at a training (09 R353, R354): the narrower of the two sides, the union of their lanes. -/
def State.planModule (s : State) (n : Nat) (p : SiteParam) (k : Nat) : UmRepair :=
  let w := p.widths.getD k 0
  let tx := laneUnion (p.txLanes.getD k []) []
  let rx := laneUnion (p.rxLanes.getD k []) []
  if s.umOut n k then { width := 0 }
  else
    let r := s.hubSide n p k
    let both := if w = 0 ∨ r.width = 0 then 0 else if w = 3 ∧ r.width = 3 then 3 else 1
    fitWidth both (laneUnion r.tx tx) (laneUnion r.rx rx)

/-- The hub's own side of a parameter exchange (09 R337, R350): SITE_PARAM with profile, role, the units of its four receive
buffers and version 1, and REPAIR_RECORD with each module's width and repaired lanes. -/
def State.paramOut (s : State) (n : Nat) : State :=
  let rec1 (k : Nat) : List Nat :=
    let r := s.repair n k
    [r.width] ++ r.tx.length :: r.tx ++ r.rx.length :: r.rx
  (s.side n 0 [s.f .SITE_CFG_PROFILE n, s.f .SITE_CFG_CXL_ROLE n, 512, 512, 64, 64, 1]).side n 1
    ((List.range 6).flatMap rec1)

/-- SITE_TRAINING: the parameter exchange of a training (09 R351 steps 2 and 3, R353-R355). A release of SITEn_RST_N that was
ordered has taken place by then. -/
def execSiteTraining (n : Nat) (p : SiteParam) (sa : State) : Res :=
  let s0 := sa.siteReleaseDue n (fun _ => true)
  let ls := s0.siteLinkState n
  if !s0.siteTrains n ∨ !(ls = 0 ∨ ls = 2 ∨ ls = 3) then .next sa
  else
    let s := (s0.sideInit n).paramOut n
    let l := s.link n
    if !s.paramOk n p then
      if 2 ≤ l.attempts then .next (s.siteTrainFail n)
      else .next ((s.setLink n { l with attempts := l.attempts + 1 }).setF .SITE_STATUS_LINK n 0 3)
    else
      let cr (i : Nat) : Nat := p.credits.getD i 0 % 65536
      let s1 := (((s.setF .SITE_PEER_CREDITS_REQ n 0 (cr 0)).setF .SITE_PEER_CREDITS_RSP n 0 (cr 1)).setF
        .SITE_PEER_CREDITS_SNP n 0 (cr 2)).setF .SITE_PEER_CREDITS_SRSP n 0 (cr 3)
      let s1a := (List.range 6).foldl (fun t k =>
        if s.laneTest n k ∧ !s.umOut n k then t.setRepair n k (laneTested p k) else t) s1
      let s2 := s1a.setLink n { l with attempts := 0, credits := [cr 0, cr 1, cr 2, cr 3], tryRate := 5,
                                       ctl := decide (s.f .SITE_CFG_CTL_ACCESS n = 1),
                                       plan := (List.range 6).map (s.planModule n p) }
      let act := if p.profile = 1 then 3 else if p.role = 1 then 2 else 1
      .next ((s2.setF .SITE_STATUS_PROFILE_ACT n 0 act).setF .SITE_STATUS_LINK n 0 4)

/-- A module comes into the rotation at a training, with its width and repairs; a degrade to x32 is reported (09 R353, R373,
R374). -/
def State.umIn (s : State) (n k : Nat) (r : UmRepair) : State :=
  let s1 := (s.setWidth n k r.width).setLive n k r
  if (r.width = 1 ∨ r.width = 2) ∧ (s.umWidth n k = 0 ∨ s.umWidth n k = 3) then
    (s1.flag .SITE_ERR_STATUS_WIDTH n).raise 0x5010 sevCorrected 5 n
      [k, r.width, rateGts (s1.f .SITE_STATUS_RATE n) * ((List.range 6).map (fun j => widthLanes (s1.umWidth n j))).sum / 8]
  else s1

/-- SITE_LINK_UP: training of the mainbands at a rate has ended (09 R351 step 5, R352), no rate above it having brought three
modules up. It starts at 32 GT/s; fewer than three modules make the next lower rate be tried, and fail the site at 4 GT/s. With
three the rate is adopted, and modules that did not train are taken out. A reclaim of the site has ended by then (08 R320). -/
def execSiteLinkUp (n rate trained : Nat) (s0 : State) : Res :=
  let s := (s0.coh.reclaim.filter (fun r => r.1 == n)).foldl State.reclaimEnd s0
  if !s.siteTrains n ∨ s.siteLinkState n ≠ 4 ∨ rate = 0 ∨ (s.link n).tryRate < rate then .next s0
  else
    let l := s.link n
    let plan (k : Nat) : UmRepair := l.plan.getD k {}
    let up (k : Nat) : Bool := bit trained k && (plan k).width != 0
    if ((List.range 6).filter up).length < 3 then
      .next (if rate = 1 then s.siteTrainFail n else s.setLink n { l with tryRate := rate - 1 })
    else
      let s1 := (List.range 6).foldl (fun s k =>
        if up k then s.umIn n k (plan k) else if s.umOut n k then s else s.umFail n k) (s.setF .SITE_STATUS_RATE n 0 rate)
      let s2 := s1.setF .SITE_STATUS_LINK n 0 5
      let s3 := (s2.setLink n { s2.link n with attempts := 0, retest := 0, plan := [], waking := false }).agentUp n true
      let s4 := if l.waking then ((s3.setUnit .site n .present).setFence (16 + n) 0) else s3
      let s5 := (s4.siteCapSet n).siteDegSet n
      let s6 := s5.raise 0x5001 sevNone 5 n (rate :: (List.range 6).map (s5.umWidth n) ++ [s5.siteCapacity n])
      .next (if l.waking then s6.fallowReport 1 n 5 0 else s6)

/-! ### Drops, repairs, failure (09 R357-R362, R366) -/

/-- RESET_NOTICE: the chiplet is about to reset; the link has dropped (09 R359). -/
def execResetNotice (n : Nat) (s : State) : Res := .next (s.linkDown n 1)

/-- SITE_LINK_DOWN: the link drops for a cause of SITE_LAST_DOWN (09 R359). -/
def execSiteLinkDown (n cause : Nat) (s : State) : Res :=
  .next (if cause = 0 ∨ 11 < cause then s else s.linkDown n cause)

/-- CREDIT_STALL: a channel the hub needs has had no credit for SITE_CREDIT_LIMIT (09 R338). -/
def execCreditStall (n : Nat) (s : State) : Res := 
  .next (if (s.link n).held.any (fun h => decide ((s.link n).credits.getD (vcOf h.cmd) 0 < h.units)) then s.linkDown n 6 else s)

/-- SITE_LANE_REPAIR: a lane of a module fails (09 R357). -/
def execSiteLaneRepair (n k lane : Nat) (rx : Bool) (s : State) : Res :=
  .next (if n < 8 ∧ k < 6 ∧ lane < 64 then s.laneRepair n k lane rx else s)

/-- SITE_UM_FAIL: a module cannot hold x32 (09 R358). -/
def execSiteUmFail (n k : Nat) (s : State) : Res :=
  .next (if n < 8 ∧ k < 6 then s.umFail n k else s)

/-- SITE_FAIL: the site cannot train, or fails (09 R352, R355, R366). A FALLOW site that does not wake cannot. -/
def execSiteFail (n cause : Nat) (s : State) : Res :=
  .next (if 8 ≤ n ∨ ((s.unit .site n).st = some .fallow ∧ !(s.link n).waking) then s else s.siteFailed n cause)

/-- SITEn_RST_N goes low for 1 ms; the link drops (09 R362, R368). Without rails it is low already. -/
def State.chipletReset (s : State) (n : Nat) : State :=
  let s1 := s.linkDown n 2
  if !s1.siteRails n then s1
  else (s1.setLink n { s1.link n with rstLow := true, hold := true, attempts := 0, releaseAt := none, sideUp := 0,
                                      lowUntil := s.now + 1000 }).setF .SITE_STATUS_LINK n 0 1

/-- RETRAIN: the link drops, or its training starts again (09 R374). -/
def State.siteRetrain (s : State) (n : Nat) : State :=
  if s.linkUp n then s.linkDown n 11
  else if 3 ≤ s.siteLinkState n then
    (s.setLink n { s.link n with attempts := 0 }).setF .SITE_STATUS_LINK n 0 2
  else s

/-- A write of SITE_CTL (09 R354, R362, R374). -/
def State.siteCtl (s : State) (n retest reset retrain : Nat) : WRes :=
  let s1 := s.setLink n { s.link n with retest := (s.link n).retest ||| retest }
  let s2 := if reset = 1 then s1.chipletReset n else s1
  (hOk, if retrain = 1 then s2.siteRetrain n else s2)

/-- CHIPLET_RESET_RELEASE: the 1 ms ends, SITEn_RST_N is released and training begins (09 R351, R362, R368). -/
def execChipletResetRelease (n : Nat) (s : State) : Res :=
  .next (if n < 8 ∧ (s.link n).hold ∧ s.siteMayRelease n then s.siteRelease n else s)

end Sys2Proof.Machine
end

