-- ==== Sys2Proof/Machine/Boot.lean ====
section
/-! DEFINITION. Whole reset, clocks, the control complex, firmware, training (14). -/

namespace Sys2Proof.Machine

/-! ### Whole reset and bring-up step 1 (14 R513-R516, R539; 13 R477, R482, R485, R488) -/

/-- Bitwise two-of-three majority (13 R477). -/
def majority : List Nat → Nat
  | [a, b, c] => (a &&& b) ||| (a &&& c) ||| (b &&& c)
  | _ => 0xFFFF

/-- The state a voted code sets; any other value is SCRAP (13 R476, R477). -/
def lcOfCode (c : Nat) : Nat × Bool :=
  if c = 0 then (lcTest, true) else if c = 0x000F then (lcProvision, true) else if c = 0x00FF then (lcField, true)
  else if c = 0x0FFF then (lcReturn, true) else (lcScrap, decide (c = 0xFFFF))

/-- Bring-up votes the life cycle; in SCRAP the unblown bits are blown (13 R477, R482). -/
def State.voteLc (s : State) : State :=
  let code := majority s.fuses.lc
  let (st, ok) := lcOfCode code
  let same := s.fuses.lc.all (fun c => c == code)
  let s1 := { s with sec := { s.sec with lcState := st, lcCode := code, voteSplit := ok && !same } }
  if st = lcScrap then
    { s1 with fuses := { s1.fuses with lc := [0xFFFF, 0xFFFF, 0xFFFF], secret := List.replicate 48 0xFF,
                                       secretWiped := true, trimWiped := true } }
  else s1

/-- The identity key pair is derived in PROVISION, FIELD and RETURN (13 R485). -/
def State.deriveId (s : State) : State :=
  if s.sec.lcState = lcProvision ∨ s.sec.lcState = lcField ∨ s.sec.lcState = lcReturn then
    { s with sec := { s.sec with idReady := true, idPub := slice (Config.slhPublic s.fuses.secret) 0 32 } }
  else s

/-- A unit class by its code of 12 R468. -/
def uclsOf (c : Nat) : Option UCls :=
  match c with
  | 1 => some .engine | 2 => some .memSite | 3 => some .channel | 4 => some .plane | 5 => some .site | 6 => some .ucie
  | 7 => some .ethLane | _ => none

/-- Classes a retirement entry may name: engine, channel, plane, UCIe module, Ethernet lane (13 R488). -/
def retireValid (v : Nat) : Bool :=
  match uclsOf (v / 4096) with
  | some c => c.wears && decide (v % 4096 < c.size)
  | none => false

/-- Retires a unit at bring-up (01 R24, R26): whatever its start-up test or its training found before the map is published
(14 R537). -/
def State.retire (s : State) (c : UCls) (n : Nat) : State :=
  let st := (s.unit c n).st
  if n < c.size ∧ (st = none ∨ (st = some .failed ∧ !s.umReady)) then s.putUnit c n { st := some .retired } |>.railsFollow s else s

/-- The units named by retirement fuse entries, in PROVISION and FIELD (01 R29; 13 R488). -/
def State.retireFuses (s : State) : State :=
  if s.sec.lcState = lcProvision ∨ s.sec.lcState = lcField then
    (List.range 16).foldl (fun s i =>
      let v := NTbl.at 0 s.fuses.retire i
      match uclsOf (v / 4096) with
      | some c => if retireValid v then s.retire c (v % 4096) else s
      | none => s) s
  else s

/-- Starts a boot-set domain at its nominal frequency (14 R516). -/
def State.bootDom (s : State) (d : Nat) : State :=
  let s1 := s.setDom d { running := true, cycles := 0, ever := true }
  ((s1.setF .CLK_DOM_STATUS_LOCKED d 0 1).setF .CLK_DOM_STATUS_RELEASED d 0 1).setF .CLK_DOM_STATUS_FREQ_ACT d 0
    (s1.f .CLK_DOM_CFG_FREQ_MHZ d)

/-- The boot set; in SCRAP only what answers DISCOVER (13 R482; 14 R516). -/
def State.bootSet (s : State) : List Nat := if s.sec.lcState = lcScrap then [21, 22, 24] else [16, 21, 22, 23, 24]

/-- Capacity of mesh port 24 in GB/s in a mode (07 R256; 10 R375). -/
def modeCap (m : Nat) : Nat := if m < 4 then 200 else 100

/-- The strap values show in GLB_STRAP and set the mode (10 R375; 17 R620). -/
def State.applyStraps (s : State) : State :=
  let v := s.aon.strapEth
  let s1 := ((s.setF .GLB_STRAP_ETH 0 0 v).setF .ETH_CFG_MODE 0 0 v).setF .ETH_STATUS_MODE_ACT 0 0 v
  { s1 with mesh := { s1.mesh with ethCap := modeCap v } }

/-- The port begins to train: 1 negotiating in modes 0 and 7, else 2 (10 R375, R377). -/
def State.ethTrain (s : State) : State :=
  let m := s.f .ETH_STATUS_MODE_ACT
  s.setF .ETH_STATUS_LINK 0 0 (if m = 0 ∨ m = 7 then 1 else 2)

/-- Bring-up from its step 1 (14 R539): life cycle, identity key, boot set, port. CC's agent is part of the hub, and in SCRAP it stays
in reset (13 R482). -/
def State.bringUp (s : State) : State :=
  let s1 := (s.voteLc.deriveId).retireFuses
  let s2 := s1.bootSet.foldl State.bootDom s1
  (if s2.sec.lcState = lcScrap then s2 else s2.agentUp 8 true).ethTrain

/-- A whole reset with a cause (14 R513-R515): what it keeps, everything else as State.reset. -/
def State.wholeReset (s : State) (cause : Nat) : State :=
  let staged := cause ≠ 0 ∧ s.boot.fwState = 4
  let aon : Aon := { cause, count := if cause = 0 then 0 else min 65535 (s.aon.count + 1), porstLow := decide (cause = 0),
                     strapEth := s.aon.strapEth, refLost := decide (cause = 0) && s.aon.refLost,
                     digest := if cause = 0 then [] else if staged then s.boot.stagedDigest else s.aon.digest,
                     svn := if cause = 0 then 0 else if staged then s.boot.stagedSvn else s.aon.svn }
  let r : State := { State.reset with
    aon := aon, fuses := s.fuses, out := s.out, now := s.now, freeCtr := s.freeCtr, pending := s.pending,
    jtag := s.jtag, mgmtIndex := s.mgmtIndex }
  let r1 := ((r.setF .GLB_RESET_CAUSE_CAUSE 0 0 cause).setF .GLB_RESET_CAUSE_COUNT 0 0 aon.count).applyStraps
  let low := (if s.tel.trigHigh then [0] else []) ++ ((List.range 8).filter (fun n => (s.link n).refclk)).map (16 + ·)
    ++ ((List.range 8).filter (fun n => (s.dom (8 + n)).running)).map (32 + ·)
  (low.foldl (fun s k => s.emit (.pin k 0)) r1).railsFollow s

/-- Fuse code of a state (13 R476). -/
def lcCode (st : Nat) : Nat := [0, 0x000F, 0x00FF, 0x0FFF, 0xFFFF].getD st 0xFFFF

/-- The life-cycle transition under way (13 R480). -/
def State.lcJob (s : State) : Option Nat := s.sec.jobs.findSome? (fun j => match j with
  | .lcBlow t => some t
  | _ => none)

/-- Blows the bits of a mask in one copy of the life-cycle code; a fuse bit never returns to 0 (13 R476). -/
def State.blowCopy (s : State) (k mask : Nat) : State :=
  { s with fuses := { s.fuses with lc := s.fuses.lc.zipIdx.map (fun x => if x.2 = k then x.1 ||| mask else x.1) } }

/-- Blows bytes into the secret bank. -/
def State.blowSecret (s : State) (b : Bytes) : State :=
  { s with fuses := { s.fuses with secret := List.zipWith (fun x y => x ||| y) (slice s.fuses.secret 0 48) (slice b 0 48) } }

/-- The next blow of a transition ends (13 R480 steps 3 and 4): copy 0, 1, 2, then the identity seeds, which a failed generator
does not give (13 R484), or the wipe of the banks. -/
def State.blowLcStep (s : State) (t : Nat) : State :=
  let k := s.sec.lcDone
  let s1 := if k < 3 then s.blowCopy k (lcCode t)
    else if k = 3 ∧ t = lcProvision ∧ !s.sec.fatal then
      { s with freeCtr := s.freeCtr + 1 }.blowSecret (Config.random s.freeCtr 48)
    else if k = 3 ∧ t = lcScrap then
      { s with fuses := { s.fuses with secret := List.replicate 48 0xFF, secretWiped := true, trimWiped := true } }
    else s
  { s1 with sec := { s1.sec with lcDone := min 4 (k + 1) } }

/-- The blows of a transition that are left. -/
def State.blowLc (s : State) : State :=
  match s.lcJob with
  | some t => (List.range (4 - s.sec.lcDone)).foldl (fun s _ => s.blowLcStep t) s
  | none => s

/-- A microsecond of a transition: a blow ends (log 47). -/
def State.lcTick (s : State) : State :=
  if s.aon.porstLow ∨ s.aon.refLost then s else match s.lcJob with
    | some t => s.blowLcStep t
    | none => s

/-- Power is lost during a transition (13 R481): which bits of the blow under way are blown is open, and no later one is made. -/
def State.blowLcCut (s : State) : State :=
  match s.lcJob with
  | none => s
  | some t =>
    let k := s.sec.lcDone
    let part := (List.range 48).map (fun i => BitVec.ofNat 8 (Config.free (s.freeCtr + 1 + i)))
    let s1 : State := { s with freeCtr := s.freeCtr + 49 }
    let s2 := if k < 3 then s1.blowCopy k (lcCode t &&& Config.free s.freeCtr)
      else if k = 3 ∧ ((t = lcProvision ∧ !s.sec.fatal) ∨ t = lcScrap) then s1.blowSecret part else s1
    { s2 with sec := { s2.sec with lcDone := 0, jobs := s2.sec.jobs.filter (fun j => match j with
      | .lcBlow _ => false
      | _ => true) } }

/-- PORST_N_LOW: a low level of 1 µs or longer starts a whole reset with cause 0 (14 R513; 17 R620). -/
def execPorstNLow (ns : Nat) (s : State) : Res := .next (if ns < 1000 then s else s.blowLcCut.wholeReset 0)

/-- PORST_N_RELEASE: the straps are sampled and bring-up starts (14 R539; 17 R620). -/
def execPorstNRelease (strapEth : Nat) (s : State) : Res :=
  if !s.aon.porstLow then .next s
  else
    let s1 := { s with aon := { s.aon with porstLow := false, refLost := false, strapEth := strapEth % 8 } }
    .next (s1.applyStraps).bringUp

/-- WHOLE_RESET: a reset ordered before takes place, and bring-up starts by itself (14 R513, R514). -/
def execWholeReset (s : State) : Res :=
  match s.aon.due with
  | some (_, c) => .next (s.blowLc.wholeReset c).bringUp
  | none => .next s

/-- Schedules a whole reset 100 µs ahead; a second cause has no further effect (14 R513, R515). -/
def State.scheduleReset (s : State) (cause : Nat) : State :=
  match s.aon.due with
  | some _ => s
  | none => { s with aon := { s.aon with due := some (s.now + 100, cause) } }

/-- A write of GLB_RESET_REQ. -/
def State.glbResetReq (s : State) (go : Nat) : WRes := (hOk, if go = 1 then s.scheduleReset 2 else s)

/-! ### Clocks (14 R516-R522) -/

/-- Whether a frequency is one that FREQ_MHZ accepts (14 R520). -/
def freqOk (d mhz : Nat) : Bool :=
  if d < 8 then decide (500 ≤ mhz) && decide (mhz ≤ 1000) && mhz % 100 == 0
  else if d < 16 then mhz == 1600
  else if 17 ≤ d ∧ d ≤ 20 then mhz == 2000
  else false

/-- Whether a domain is in the boot set (14 R516). -/
def isBoot (d : Nat) : Bool := d == 16 || decide (21 ≤ d)

/-- A write of CLK_DOM_CFG (14 R517, R543). A PLL switched off before the release unlocks. -/
def State.clkDomCfg (s : State) (d freq en : Nat) : WRes :=
  if isBoot d then (hDenied, s)
  else if s.f .CLK_DOM_CFG_FREQ_MHZ d ≠ freq ∧ !freqOk d freq then (hBadArg, s)
  else
    let s1 := (s.setF .CLK_DOM_CFG_FREQ_MHZ d 0 freq).setF .CLK_DOM_CFG_PLL_EN d 0 en
    (hOk, if en = 0 ∧ !(s.dom d).running then s1.setF .CLK_DOM_STATUS_LOCKED d 0 0 else s1)

/-- PLL_LOCK: the PLL of a programmed domain locks (14 R517). -/
def execPllLock (d : Nat) (s : State) : Res :=
  if isBoot d ∨ 25 ≤ d ∨ s.f .CLK_DOM_CFG_PLL_EN d = 0 ∨ !freqOk d (s.f .CLK_DOM_CFG_FREQ_MHZ d) then .next s
  else .next ((s.setF .CLK_DOM_STATUS_LOCKED d 0 1).setF .CLK_DOM_STATUS_FREQ_ACT d 0 (s.f .CLK_DOM_CFG_FREQ_MHZ d))

/-- Reports a release request in CLK_RELEASE_RESULT. -/
def State.clkResult (s : State) (seq phase code : Nat) : State :=
  ((s.setF .CLK_RELEASE_RESULT_SEQ 0 0 seq).setF .CLK_RELEASE_RESULT_PHASE 0 0 phase).setF .CLK_RELEASE_RESULT_CODE 0 0 code

/-- A MEM domain is released: it forwards its stack's clock (14 R521), and until the first reading of its sensor the stack is
refreshed at the doubled rate (05 R635). -/
def State.memReleased (s : State) (n : Nat) : State :=
  ((s.setMsite n { s.msite n with refresh2x := true }).setF .MEM_STATUS_REFRESH_2X n 0 1).emit (.pin (32 + n) 1)

/-- A SITEQ domain is released: SITEn_REFCLK of its sites starts (14 R521; 09 R367). -/
def State.siteqReleased (s : State) (d : Nat) : State :=
  (domSites d).foldl (fun s n =>
    let st := (s.unit .site n).st
    if st = some .failed ∨ st = some .retired ∨ st = some .fallow then s else s.setRefclk n true) s

/-- A write of CLK_RELEASE with GO = 1, judged in the order of 14 R518. -/
def State.clkRelease (s : State) (seq d : Nat) : WRes :=
  if s.boot.testing.isSome then (hBusy, s.clkResult seq 0 4)
  else if isBoot d then (hBadArg, s)
  else if s.f .CLK_DOM_STATUS_LOCKED d = 0 then (hNotReady, s.clkResult seq 0 2)
  else if d < 8 ∧ !(s.dom (8 + d)).ever then (hDenied, s.clkResult seq 0 3)
  else if s.umReady ∧ (d < 8 ∨ 17 ≤ d) then (hDenied, s.clkResult seq 0 6)
  else if (s.dom d).ever then (hOk, s.clkResult seq 3 1)
  else
    let s0 := if d < 8 then (s.putStep d (s.stepTarget d)).stepVolt d (s.stepTarget d) else s
    let s1 := (s0.setDom d { running := true, cycles := 0, ever := true }).setF .CLK_DOM_STATUS_RELEASED d 0 1
    let s2 := if 8 ≤ d ∧ d < 16 then s1.memReleased (d - 8) else if 17 ≤ d ∧ d ≤ 20 then s1.siteqReleased d else s1
    (hOk, { s2 with boot := { s2.boot with testing := some d, testSeq := seq } }.clkResult seq 2 0)

/-- What a failed start-up test does (14 R519): the engine, memory site or sites of the domain are FAILED. -/
def State.testFailed (s : State) (d : Nat) : State :=
  if d < 8 then s.engineFault d 3 true true
  else if d < 16 then s.setUnit .memSite (d - 8) .failed
  else (domSites d).foldl State.siteTrainFail s

/-- Whether a domain's test found faults beyond the spares (03 R110; 16 R573). -/
def testBad (d : Nat) (r : TestFound) : Bool :=
  if d < 8 then engineBad r else r.beyond || decide (8 < r.rows) || (decide (d < 16) && decide (2 < r.ways))

/-- STARTUP_TEST_DONE: the start-up test of a released domain ends (14 R519). -/
def execStartupTestDone (d : Nat) (r : TestFound) (s : State) : Res :=
  if isBoot d ∨ 25 ≤ d ∨ s.f .CLK_DOM_STATUS_RELEASED d = 0 ∨ s.f .CLK_DOM_STATUS_TESTED d = 1 then .next s
  else
    let bad := testBad d r
    let s1 := (s.setF .CLK_DOM_STATUS_TESTED d 0 1).setF .CLK_DOM_STATUS_TEST_FAIL d 0 (b2n bad)
    let s2 := if d < 8 then s1.sparesUsed d r else s1
    let s3 := if 8 ≤ d ∧ d < 16 then
        { s2 with mem := { s2.mem with waysSpared := NTbl.put 0 s2.mem.waysSpared (d - 8) (min 2 r.ways) } }
      else s2
    let s4 := if s3.boot.testing = some d then
        { s3 with boot := { s3.boot with testing := none } }.clkResult s3.boot.testSeq 3 (if bad then 5 else 0)
      else s3
    .next (if bad then s4.testFailed d else s4)

/-- Stops every domain of a list; a MEM domain forwards its stack's clock no longer (14 R521). -/
def State.stopDoms (s : State) (l : List Nat) : State :=
  l.foldl (fun s d =>
    let s1 := s.setDom d { s.dom d with running := false }
    if 8 ≤ d ∧ d < 16 ∧ (s.dom d).running then s1.emit (.pin (32 + (d - 8)) 0) else s1) s

/-- CLK_REF_LOST: every domain except AON stops, and with the reference the clocks derived from it (14 R522; 09 R367). -/
def execClkRefLost (s : State) : Res :=
  if s.aon.porstLow ∨ s.aon.refLost then .next s
  else
    let s0 := ((s.blowLcCut.raise 0x9088 sevModuleFatal 0 0 []).stopDoms (List.range 24)).sheafStop
    let s1 := (List.range 8).foldl (fun s n => s.setRefclk n false) s0
    .next { s1 with aon := { s1.aon with refLost := true, due := none }, mesh := { s1.mesh with stopped := 15 } }

/-- A hard fault of what the clock of another domain drives: the domain stops, with FUR the mesh (14 R522; 11 R437). -/
def State.domFault (s : State) (d : Nat) : State :=
  let s1 := s.stopDoms [d]
  let s2 := if d = 16 then { s1 with mesh := { s1.mesh with stopped := 15 } } else s1
  if d < 16 ∨ d = 21 then s2.sheafStop else s2

/-- CLK_UNLOCK: a PLL loses lock, a hard fault of what it clocks and its only report (14 R522). That of an ENG domain clocks the
queue front end too, so no ENGINE_FAULT records are written (DESIGN CHOICE, log 102; 04 R181). -/
def execClkUnlock (d : Nat) (s : State) : Res :=
  if 24 ≤ d ∨ !(s.dom d).running then .next s
  else
    let s1 := s.setF .CLK_DOM_STATUS_LOCKED d 0 0
    if d < 8 then .next ((s1.raise 0x9080 sevUnitFatal 1 d [d]).engineFault d 2 true false)
    else if 17 ≤ d ∧ d ≤ 20 then
      .next ((domSites d).foldl (fun s n => s.siteFailed n 0 false) (s1.raise 0x9080 sevUnitFatal 5 ((domSites d).headD 0) [d]))
    else .next ((s1.raise 0x9080 sevModuleFatal 0 d [d]).domFault d)

/-! ### The control complex (14 R523, R524, R529) -/

/-- All four cores halt. -/
def State.ccHalted (s : State) : State := { s with boot := { s.boot with cores := 0, dead := true } }

/-- CC_SRAM_CORR. -/
def execCcSramCorr (s : State) : Res :=
  .next (((s.flag .CC_ERR_STATUS_SRAM_CORR).count .CC_SRAM_CORR_COUNT_COUNT 0 0 32 1).raise 0x0028 sevCorrected 0 0 [])

/-- CC_SRAM_FATAL. -/
def execCcSramFatal (s : State) : Res :=
  .next ((s.ccHalted.flag .CC_ERR_STATUS_SRAM_FATAL).raise 0x0030 sevModuleFatal 0 0 [])

/-- A kick of the watchdog. -/
def State.ccKick (s : State) (v : Nat) : WRes :=
  (hOk, if v = 1 then { s with boot := { s.boot with kicked := s.now } } else s)

/-- CC_WATCHDOG: no kick within TIMEOUT_MS; it does not advance while debug halts a core (16 R595). -/
def execCcWatchdog (s : State) : Res :=
  if s.boot.cores = 0 ∨ s.boot.ccHalt ≠ 0 then .next s
  else .next ((s.ccHalted.flag .CC_ERR_STATUS_WDT).raise 0x0020 sevModuleFatal 0 0 [])

/-- The running firmware writes CC_READY. -/
def State.ccReady (s : State) (v : Nat) : WRes :=
  if v = 1 ∧ s.boot.cores ≠ 0 then
    (hOk, { s with boot := { s.boot with ready := true } }.setF .HL_STATUS_STAGE 0 0 (max 1 s.stage))
  else (hOk, s)

/-- CC_BOOT_FAIL: CC_BOOT_LIMIT passes without CC_READY. -/
def execCcBootFail (s : State) : Res :=
  if s.boot.cores = 0 ∨ s.boot.ready then .next s
  else .next ((s.flag .CC_ERR_STATUS_BOOT_FAIL).raise 0x0038 sevModuleFatal 0 0 [])

/-! ### Firmware (14 R525-R530) -/

/-- FW_STATE: 0 NONE, 1 LOADING, 2 VERIFIED, 3 RUNNING, 4 STAGED. A change raises FW_STATE_CHANGE with the image's digest;
an image still loading has none yet, and what the event then carries is free (log 4). -/
def State.setFw (s : State) (st : Nat) (digest : Option Bytes) : State :=
  if s.boot.fwState = st then s
  else
    let old := s.boot.fwState
    let d := match digest with
      | some b => beNat (slice b 0 16)
      | none => Config.free s.freeCtr % 2 ^ 128
    let s1 := { s with boot := { s.boot with fwState := st }, freeCtr := s.freeCtr + (if digest.isNone then 1 else 0) }
    s1.raise 0x0040 sevNone 0 0 [old, st, d]

/-- Whether SB accepts an image (14 R526); `retained` is the retained staged digest where the image is to start. -/
def State.imageOk (s : State) (b : Bytes) (retained : Bytes) : Bool :=
  let body := leAt b 12 4
  let key := leAt b 6 1
  let pub := slice b 24 32
  leAt b 0 4 == 0x4F484657 && leAt b 4 2 == 1 && 64 + body + 17088 == b.length
    && decide (key < 4) && Config.sha256 pub == Config.romHash key && !bit s.fuses.fwkRevoked key
    && decide (s.fuses.minSvn ≤ leAt b 8 4)
    && Config.slhVerify pub (slice b 0 (64 + body)) (slice b (64 + body) 17088)
    && (retained == [] || retained == Config.sha256 b)

/-- Where the staging buffer lies (14 R530). -/
def stagingBase : Nat := 0x3F800000

/-- Largest image. -/
def imageMax : Nat := 8388608

/-- Whether another session holds the image buffer (14 R528). -/
def State.fwOther (s : State) (n : Nat) : Bool := match s.boot.holder with
  | some h => h != n
  | none => false

/-- FW_LOAD of a chunk by session `n` (14 R527, R528). -/
def State.fwLoad (s : State) (n off : Nat) (chunk : Bytes) : WRes :=
  let fw := s.boot.fwState
  if chunk.length = 0 ∨ 8188 < chunk.length ∨ imageMax < off + chunk.length then (hBadArg, s)
  else if s.fwOther n then (hOwned, s)
  else if 3 ≤ fw ∧ s.stage < 2 then (hNotReady, s)
  else
    let top := off + chunk.length
    let s1 := { s with boot := { s.boot with
      holder := if off = 0 then some n else s.boot.holder
      loaded := if off = 0 then top else max s.boot.loaded top } }
    if fw < 3 then
      (hOk, { s1 with boot := { s1.boot with sram := putCells s1.boot.sram off chunk } }.setFw 1 none)
    else
      let (st, _, s2) := s1.wr { id := 0x60, plot := none } (stagingBase + off) chunk
      let s3 := { s2 with boot := { s2.boot with stagedDigest := [], stagedSvn := 0 } }
      (if st = stOk then hOk else meshStatus st, s3.setFw 3 (some s.boot.runDigest))

/-- FW_START of modes 0 to 3 by session `n` (14 R527-R530); one of modes 0 to 2 by the holder releases the image buffer
whatever its outcome (R528). -/
def State.fwStart (s : State) (n len mode : Nat) : WRes :=
  let fw := s.boot.fwState
  let free (s : State) : State := if mode < 3 then { s with boot := { s.boot with holder := none } } else s
  if s.fwOther n then (if imageMax < len ∨ 3 < mode then hBadArg else hOwned, s)
  else if imageMax < len ∨ 3 < mode then (hBadArg, free s)
  else
    let img := cellBytes s.boot.sram 0 len
    if mode = 0 then
      if fw ≠ 1 ∧ fw ≠ 2 then (hBusy, free s)
      else if s.imageOk img s.aon.digest then
        let d := Config.sha256 img
        let s1 := { free s with aon := { s.aon with digest := [], svn := 0 } }
        let s2 := { s1 with boot := { s1.boot with cores := 15, entry := leAt img 16 8, runDigest := d,
                                                   runSvn := leAt img 8 4, started := true, kicked := s.now } }
        (hOk, s2.setFw 3 (some d))
      else (hDenied, (free s).setFw 1 (some (Config.sha256 img)))
    else if mode = 1 then
      if fw ≠ 1 then (hBusy, free s)
      else if s.imageOk img [] then (hOk, (free s).setFw 2 (some (Config.sha256 img)))
      else (hDenied, free s)
    else if mode = 2 then
      if fw ≠ 3 then (hBusy, free s)
      else
        let (r, s1) := s.rd sbSrc stagingBase len
        let b := r.data
        if r.status = stOk ∧ s1.imageOk b [] then
          let d := Config.sha256 b
          let s2 := free s1
          (hOk, { s2 with boot := { s2.boot with stagedDigest := d, stagedSvn := leAt b 8 4 } }.setFw 4 (some d))
        else (hDenied, free s1)
    else
      let old := s.boot.stagedDigest
      let s1 := { s with boot := { s.boot with stagedDigest := [], stagedSvn := 0 },
                         aon := { s.aon with digest := [], svn := 0 } }
      (hOk, if fw = 4 then s1.setFw 3 (some old) else s1)

/-! ### Training and replay (14 R532-R535) -/

/-- STATE of GLB_TRAIN_STATUS. -/
def State.trainState (s : State) : Nat := s.f .GLB_TRAIN_STATUS_STATE

/-- Whether another session holds the record buffer. -/
def State.recOther (s : State) (n : Nat) : Bool := match s.boot.bufHolder with
  | some h => h != n
  | none => false

/-- A site of a training starts on its way: rails on, and SITEn_RST_N released when it may be (09 R351, R368). A site that has
failed stays as it is until the next whole reset (R366), and one that is FALLOW until its wake (R365). -/
def State.siteStart (s : State) (n : Nat) : State :=
  let st := (s.unit .site n).st
  if s.linkUp n then s.siteRetrain n
  else if !(st = none ∨ st = some .present) ∨ (s.link n).fencing ∨ s.stopped then s
  else if (s.link n).rstLow then (s.sitePower n).railsFollow s
  else ((s.setLink n { s.link n with attempts := 0 }).setF .SITE_STATUS_LINK n 0 2).railsFollow s

/-- Training or replay begins. -/
def State.trainBegin (s : State) (j : TrainJob) : State :=
  let s1 := { s with boot := { s.boot with job := some j, buf := [], bufHolder := none } }
  (maskList 8 j.sites).foldl State.siteStart (s1.setF .GLB_TRAIN_STATUS_STATE 0 0 2)

/-- Whether a named stack or site is ready to train (14 R532). -/
def State.trainReady (s : State) (stks sites : Nat) : Bool :=
  (maskList 8 stks).all (fun n => (s.dom (8 + n)).ever)
    && (maskList 8 sites).all (fun n => (s.dom (siteDom n)).ever && s.f .SITE_CFG_FITTED n == 1)

/-- TRAIN by session `n` (14 R532, R533). -/
def State.train (s : State) (n stks sites : Nat) : WRes :=
  let st := s.trainState
  if 256 ≤ stks then (hBadArg, s)
  else if st = 1 ∧ s.recOther n then (hOwned, s)
  else if st = 2 ∨ (st = 3 ∧ stks ≠ 0 ∧ s.f .MEM_INIT_STATE ≠ 0) then (hBusy, s)
  else if !s.trainReady stks sites then (hNotReady, s)
  else (hOk, s.trainBegin { stks, sites, replay := false, wearOnly := false })

/-- A repair entry of a record. -/
def repairOf (b : Bytes) : UmRepair :=
  let lanes (o : Nat) : List Nat := (slice b o 4).map BitVec.toNat |>.filter (fun x => x != 127)
  { width := leAt b 0 1, tx := lanes 1, rx := lanes 5 }

/-- A wear entry of a record. -/
def wearOf (b : Bytes) : Wear :=
  { kind := leAt b 0 1, cls := leAt b 1 1, unit := leAt b 2 2, detail := leAt b 4 4, gen := leAt b 8 4 }

/-- What a replayed wear entry does (05 R202, R203; 14 R537). -/
def State.wearApply (s : State) (w : Wear) : State :=
  if w.kind = 1 then
    match uclsOf w.cls with
    | some c => if c.wears then s.retire c w.unit else s
    | none => s
  else if w.kind = 2 ∧ w.unit < 256 then
    let c := s.chan w.unit
    s.setChan w.unit { c with erased := if c.erased.contains w.detail then c.erased else c.erased ++ [w.detail] }
  else if w.kind = 3 ∧ w.unit < 256 then
    let c := s.chan w.unit
    let k := bits w.detail 22 17
    s.setChan w.unit { c with spareUsed := NTbl.put 0 c.spareUsed k (min 2 (NTbl.at 0 c.spareUsed k + 1)) }
  else s

/-- The checks of a record (14 R534): 0, or RESULT 1 bad format, 2 wrong serial, 3 bad signature. -/
def State.recordCheck (s : State) (b : Bytes) : Nat :=
  let sig := slice b recordBody 17088
  if leAt b 0 4 ≠ 0x4F485452 ∨ leAt b 4 2 ≠ 1 ∨ leAt b 8 4 ≠ recordLen then 1
  else if leAt b 16 8 ≠ s.fuses.serial then 2
  else if s.sec.lcState = lcTest then (if sig.all (fun x => x == 0) then 0 else 3)
  else if Config.slhVerify s.sec.idPub (slice b 0 recordBody) sig then 0 else 3

/-- TRAIN_DONE is raised with STACK_DONE, STACK_FULL, SITE_DONE and RESULT (14 R535). -/
def State.trainEvent (s : State) (result : Nat) : State :=
  let s1 := s.setF .GLB_TRAIN_STATUS_RESULT 0 0 result
  s1.raise 0x0048 sevNone 0 0 [s1.f .GLB_TRAIN_STATUS_STACK_DONE, s1.f .GLB_TRAIN_STATUS_STACK_FULL,
    s1.f .GLB_TRAIN_STATUS_SITE_DONE, result]

/-- LAST: the record in the buffer is checked, and replayed or rejected (14 R534). -/
def State.replayLast (s : State) (wearOnly : Bool) : State :=
  let b := cellBytes s.boot.buf 0 recordLen
  let r := s.recordCheck b
  if r ≠ 0 then
    ({ s with boot := { s.boot with buf := [], bufHolder := none } }.setF .GLB_TRAIN_STATUS_STATE 0 0 4).trainEvent r
  else
    let wear := (List.range (min 2048 (leAt b 12 4))).map (fun i => wearOf (slice b (0x10800 + 16 * i) 16))
    let reps := (List.range 48).map (fun k => repairOf (slice b (0x10100 + 0x20 * k) 0x20))
    let s1 := { s with boot := { s.boot with
      wear := wear
      repairs := (reps.zipIdx).foldl (fun t x => NTbl.put {} t x.2 x.1) [], recorded := 2 ^ 48 - 1 } }
    let s2 := wear.foldl State.wearApply s1
    let stks := maskOf ((List.range 8).filter (fun n => (s2.dom (8 + n)).ever))
    let sites := maskOf ((List.range 8).filter (fun n =>
      (s2.dom (siteDom n)).ever && s2.f .SITE_CFG_FITTED n == 1))
    s2.trainBegin { stks, sites, replay := true, wearOnly }

/-- RECORD_REPLAY of a chunk by session `n` (14 R533). -/
def State.recordReplay (s : State) (n off flags : Nat) (chunk : Bytes) : WRes :=
  let st := s.trainState
  if chunk.length = 0 ∨ 8184 < chunk.length ∨ 262144 < off + chunk.length ∨ 4 ≤ flags then (hBadArg, s)
  else if st = 2 ∨ (st = 3 ∧ s.f .MEM_INIT_STATE ≠ 0) then (hBusy, s)
  else if st = 1 ∧ s.recOther n then (hOwned, s)
  else if st ≠ 1 ∧ off ≠ 0 then (hBadArg, s)
  else
    let s1 := { s with boot := { s.boot with bufHolder := some n, buf := putCells s.boot.buf off chunk } }
    let s2 := s1.setF .GLB_TRAIN_STATUS_STATE 0 0 1
    (hOk, if bit flags 0 then s2.replayLast (bit flags 1) else s2)

/-- Sets bits of a mask field. -/
def State.orF (s : State) (f : Fid) (i j m : Nat) : State := s.setF f i j (s.f f i j ||| m)

/-- TRAIN_DONE: training or replay ends (14 R532-R535); stacks that drifted have trained fully. -/
def execTrainDone (failedChannels : List Nat) (driftStacks : Nat) (s : State) : Res :=
  match s.boot.job with
  | none => .next s
  | some j =>
    let full := if j.replay ∧ !j.wearOnly then j.stks &&& driftStacks else j.stks
    let s1 := if j.replay ∧ !j.wearOnly then
        (maskList 8 full).foldl (fun s n => s.raise 0x0050 sevCorrected 2 n [n]) s
      else s
    let bad := failedChannels.filter (fun c => decide (c < 256) && bit j.stks (c / 32))
    let s2 := bad.foldl (fun s c => s.channelFail c 3) s1
    let sites := maskOf ((maskList 8 j.sites).filter s2.linkUp)
    let s3 := ((s2.orF .GLB_TRAIN_STATUS_STACK_DONE 0 0 j.stks).orF .GLB_TRAIN_STATUS_STACK_FULL 0 0 full).orF
      .GLB_TRAIN_STATUS_SITE_DONE 0 0 sites
    let s4 : State := { s3 with boot := { s3.boot with job := none, trained := s3.boot.trained ||| j.stks } }
    let result : Nat := if (maskList 8 j.stks).any (fun n => decide ((s4.unit .memSite n).st = some .failed)) then 4 else 0
    .next ((s4.setF .GLB_TRAIN_STATUS_STATE 0 0 3).trainEvent result)

/-- REC_UPDATED: the stale record is signed and rewritten (14 R538). -/
def execRecUpdated (s : State) : Res :=
  parkIf .recUpdated (ParkKey.master 0x61).no (fun s =>
    if s.f .GLB_REC_STATUS_STALE = 0 ∨ s.f .GLB_REC_STATUS_VALID = 0 then .next s
    else
      let gen := s.f .GLB_REC_STATUS_GEN + 1
      let s1 := ((s.setF .GLB_REC_STATUS_GEN 0 0 gen).setF .GLB_REC_STATUS_STALE 0 0 0).writeRecordRegion
      .next (s1.raise 0x0058 sevNone 0 0 [gen])) s

end Sys2Proof.Machine
end

