-- ==== Sys2Proof/Machine/EthTx.lean ====
section
/-! DEFINITION. What the port transmits, and when (10 R386, R389, R390, R406). -/

namespace Sys2Proof.Machine

/-- Whether frames can pass: the ETH domain runs and the link is up. -/
def State.ethUp (s : State) : Bool := (s.dom 21).running && s.f .ETH_STATUS_LINK == 3

/-- Since when the peer has paused a priority. -/
def State.paused (s : State) (p : Nat) : Option Nat := NTbl.at none s.eth.pauseSince p

/-- STATE of a queue pair (10 R393). -/
def State.qpState (s : State) (q : Nat) : Nat := s.f .ETH_QP_CTL_STATE q

/-- A queue pair. -/
def State.qp (s : State) (q : Nat) : Qp := NTbl.at {} s.eth.qps q

/-- Sets a queue pair. -/
def State.setQp (s : State) (q : Nat) (v : Qp) : State := { s with eth := { s.eth with qps := NTbl.put {} s.eth.qps q v } }

/-- The header that a frame of a priority gets (10 R382, R386, R390). -/
def State.txHdr (s : State) (prio : Nat) (ect : Bool) : TxHdr :=
  { prio, pcp := if s.f .ETH_VLAN_ENABLE = 1 then some prio else none,
    vid := if s.f .ETH_VLAN_ENABLE = 1 then some (s.f .ETH_VLAN_VID) else none, dscp := s.f .ETH_PRIO_DSCP_DSCP 0 prio, ect }

/-- The header of Headland packets and of ARP and NDP replies (10 R389; 12 R448). -/
def State.hlHdr (s : State) : TxHdr := s.txHdr (s.f .ETH_CFG_HL_PRIO) false

/-- The end of the present microsecond, in picoseconds. -/
def State.psEnd (s : State) : Nat := (s.now + 1) * 1000000

/-- Whether a frame may start now: its priority is not paused (10 R388), the link is free for it, and its queue pair's rate
allows it (10 R406). Strict frames wait for no other (10 R389). -/
def State.txMay (s : State) (x : TxItem) : Bool :=
  (s.paused x.h.prio).isNone && (x.strict || (decide (s.eth.linkAt < s.psEnd) && (match x.qp with
    | some q => s.qpState q != 3 || (decide (0 < s.rateNow q) && decide ((s.qp q).nextAt < s.psEnd))
    | none => true)))

/-- A queue pair has sent bytes: its next packet waits as long as they take at RATE_NOW, in units of 0.25 Gb/s (10 R406). -/
def State.paceQp (s : State) (q bytes : Nat) : State :=
  let v := s.qp q
  s.setQp q { v with sentNow := true,
                     nextAt := max v.nextAt (s.now * 1000000) + bytes * 32000 / s.rateNow q }

/-- A frame leaves: the link is busy for its bytes, and they count against its priority's turn. -/
def State.txPut (s : State) (x : TxItem) : State :=
  let p := x.h.prio
  let left := if s.eth.turn = p ∧ 0 < s.eth.turnLeft then s.eth.turnLeft else s.f .ETH_TX_WEIGHT_WEIGHT 0 p * 4096
  let e1 : Eth := { s.eth with linkAt := max s.eth.linkAt (s.now * 1000000) + x.bytes * 1000 / s.mesh.ethCap }
  let s1 := { s with eth := if x.strict then e1 else { e1 with turn := p, turnLeft := left - x.bytes } }
  (match x.qp with
    | some q => s1.paceQp q x.bytes
    | none => s1).emit x.out

/-- The priority that sends next: that whose turn has bytes left, else the next one after it with a frame that may start. -/
def State.txPrio (s : State) (l : List TxItem) : Option Nat :=
  let t := s.eth.turn
  let has (p : Nat) : Bool := l.any (fun x => x.h.prio == p)
  if 0 < s.eth.turnLeft ∧ has t then some t else ((List.range 8).map (fun k => (t + 1 + k) % 8)).find? has

/-- The frame that leaves next (10 R389): strict ones first; then, in the priority whose turn it is, ACK, NAK and CNP before
data. -/
def State.txPick (s : State) : Option TxItem :=
  let l := s.eth.txq.filter s.txMay
  (l.find? (fun x => x.strict)).or ((s.txPrio l).bind (fun p =>
    (l.find? (fun x => x.h.prio == p && x.ctl)).or (l.find? (fun x => x.h.prio == p))))

/-- Sends what may leave now. -/
def State.txRun : Nat → State → State
  | 0, s => s
  | n + 1, s => match s.txPick with
    | some x => State.txRun n ({ s with eth := { s.eth with txq := s.eth.txq.erase x } }.txPut x)
    | none => s

/-- The same, for all that waits. -/
def State.txGo (s : State) : State := State.txRun s.eth.txq.length s

/-- A frame is to leave: at once where none waits and it may start, else in its turn. While the link is down it is lost
(10 R378). -/
def State.tx (s : State) (x : TxItem) : State :=
  if !s.ethUp then s
  else if s.eth.txq = [] ∧ s.txMay x then s.txPut x
  else { s with eth := { s.eth with txq := s.eth.txq ++ [x] } }.txGo

/-- A Headland packet or an answer of ARP or NDP leaves. -/
def State.txStrict (s : State) (o : Out) : State := s.tx { h := s.hlHdr, strict := true, out := o }

/-- The queue pair whose packet a frame carries. -/
def TxItem.ofQp (x : TxItem) : Option Nat := match x.out with
  | .packet _ _ q _ _ _ _ => some q
  | _ => none

/-- The packets of a queue pair that wait are discarded, ACK, NAK and CNP among them (10 R393, R405). -/
def State.txDrop (s : State) (q : Nat) : State :=
  { s with eth := { s.eth with txq := s.eth.txq.filter (fun x => x.ofQp != some q) } }

end Sys2Proof.Machine
end

