-- ==== Sys2Proof/Machine/EthLink.lean ====
section
/-! DEFINITION. The Ethernet port: link, lanes, received frames, ARP and Neighbor Discovery, priority flow control
(10 R375-R390). -/

namespace Sys2Proof.Machine

/-! ### Link (10 R375-R381) -/

/-- The mode the port trains in: its fallback, or ETH_CFG.MODE. -/
def State.trainMode (s : State) : Nat := s.eth.fall.getD (s.f .ETH_CFG_MODE)

/-- Lanes of a half: 0 for EL0-EL3, 1 for EL4-EL7. -/
def halfMask (h : Nat) : Nat := if h = 0 then 0x0F else 0xF0

/-- Whether every lane of a mask is neither FAILED nor RETIRED. -/
def State.lanesOk (s : State) (m : Nat) : Bool :=
  (maskList 8 m).all (fun l => let st := (s.unit .ethLane l).st
    decide (st ≠ some .failed) && decide (st ≠ some .retired))

/-- The lanes a mode uses. -/
def State.lanesOfMode (s : State) (mode : Nat) : Nat := if mode < 4 then 0xFF else halfMask s.eth.half

/-- Whether the port, set to train in `m`, may come up in `mode` (10 R375, R377). -/
def modeFits (m mode : Nat) : Bool :=
  if m = 0 then decide (1 ≤ mode) && decide (mode ≤ 5) else if m = 7 then decide (4 ≤ mode) && decide (mode ≤ 6)
  else m == mode

/-- Starts training in the mode and lanes that hold now. -/
def State.ethRestart (s : State) : State :=
  ((s.setF .ETH_STATUS_MODE_ACT 0 0 s.trainMode).setF .ETH_STATUS_LANES_USED 0 0 0).ethTrain

/-- ETH_LINK_UP: the link comes up in a mode (10 R377, R380 step 3). -/
def execEthLinkUp (mode lanes : Nat) (s : State) : Res :=
  let l := s.f .ETH_STATUS_LINK
  if !(l = 1 ∨ l = 2) ∨ !(s.dom 21).running ∨ !modeFits s.trainMode mode ∨ lanes ≠ s.lanesOfMode mode
      ∨ (s.umReady ∧ !s.lanesOk lanes) then .next s
  else
    let s1 := ((s.setF .ETH_STATUS_LINK 0 0 3).setF .ETH_STATUS_MODE_ACT 0 0 mode).setF .ETH_STATUS_LANES_USED 0 0 lanes
    let s2 := (List.range 8).foldl (fun s i => s.setF .ETH_LANE_LOCK i 0 (b2n (bit lanes i))) s1
    let s3 := if s2.mesh.ethCap = modeCap mode then s2
      else ({ s2 with mesh := { s2.mesh with ethCap := modeCap mode } }).capChanged
    .next (s3.raise 0x6001 sevNone 0 0 [mode, lanes])

/-- The link drops; a mode or retrain ordered before takes effect (10 R378). -/
def State.ethDrop (s : State) (cause : Nat) : State :=
  let s1 := { s with eth := { s.eth with
    fall := if s.eth.dropDue.isSome then none else s.eth.fall, dropDue := none, pauseSince := [], storm := 0, xoff := 0,
    txq := [], corr := [] } }
  let s2 := (List.range 8).foldl (fun s i => s.setF .ETH_LANE_LOCK i 0 0) s1
  let s3 := if s.f .ETH_STATUS_LINK = 3 then (s2.flag .ETH_ERR_STATUS_LINK_DOWN).raise 0x6008 sevNone 0 0 [cause] else s2
  s3.ethRestart

/-- ETH_LINK_DOWN: the link is lost, or the drop ordered 100 µs before takes place (10 R378). -/
def execEthLinkDown (cause : Nat) (s : State) : Res :=
  if s.eth.fatal then .next s
  else .next (if s.f .ETH_STATUS_LINK = 3 ∨ s.eth.dropDue.isSome then s.ethDrop cause else s)

/-- AUTONEG_TIMEOUT: no page arrives for 500 ms; the port tries the chip-to-module mode, and then negotiates again
(10 R377). -/
def execAutonegTimeout (s : State) : Res :=
  let m := s.trainMode
  if m ≠ 0 ∧ m ≠ 7 then .next s
  else if s.f .ETH_STATUS_LINK = 1 then
    .next ((s.setF .ETH_STATUS_LINK 0 0 2).setF .ETH_STATUS_MODE_ACT 0 0 (if m = 0 then 3 else 6))
  else if s.f .ETH_STATUS_LINK = 2 then
    .next ((s.setF .ETH_STATUS_LINK 0 0 1).setF .ETH_STATUS_MODE_ACT 0 0 m)
  else .next s

/-- No usable half of the lanes, or no fallback: the port stays down (10 R381). -/
def State.ethPortFatal (s : State) : State :=
  let s1 := { s with eth := { s.eth with fatal := true } }.setF .ETH_STATUS_LINK 0 0 4
  ((s1.flag .ETH_ERR_STATUS_PORT_FATAL).raise 0x6040 sevModuleFatal 0 0 []).sheafStop

/-- The 800 Gb/s counterpart of a mode (10 R380). -/
def fallMode (m : Nat) : Nat := if m = 0 then 7 else if m < 4 then m + 3 else m

/-- Step 2 of 10 R380 after lanes in use have failed or are retired. -/
def State.ethFallback (s : State) (used : Nat) : State :=
  let h : Option Nat :=
    if popCount 8 used = 8 then
      if s.lanesOk 0x0F then some 0 else if s.lanesOk 0xF0 then some 1 else none
    else
      let o := if used = 0x0F then 1 else 0
      if s.lanesOk (halfMask o) then some o else none
  match h with
  | some h =>
    if s.f .ETH_CFG_FALLBACK = 0 then s.ethPortFatal
    else ({ s with eth := { s.eth with half := h, fall := some (fallMode s.trainMode) } }).ethRestart
  | none => s.ethPortFatal

/-- A lane in use fails (10 R379, R380); the cause that ETH_LINK_DOWN then carries has no number of its own (log 4). -/
def State.laneFail (s : State) (l : Nat) : State :=
  let used := s.f .ETH_STATUS_LANES_USED
  let s1 := ((s.setUnit .ethLane l .failed).flag .ETH_ERR_STATUS_LANE_FAIL).raise 0x6010 sevUnitFatal 7 l [l]
  let (c, s2) := s1.freeBelow 256
  (s2.ethDrop c).ethFallback used

/-- Whether a lane is in use on a link that is up. -/
def State.laneUsed (s : State) (l : Nat) : Bool :=
  s.f .ETH_STATUS_LINK == 3 && decide (l < 8) && bit (s.f .ETH_STATUS_LANES_USED) l

/-- Whether a lane in use other than `l` holds lock. -/
def State.othersLock (s : State) (l : Nat) : Bool :=
  (maskList 8 (s.f .ETH_STATUS_LANES_USED)).any (fun k => k != l && s.f .ETH_LANE_LOCK k == 1)

/-- ETH_LANE_FAIL: a lane in use has lost lock for 10 ms while others hold it (10 R379, R380). -/
def execEthLaneFail (l : Nat) (s : State) : Res :=
  .next (if s.laneUsed l ∧ s.othersLock l then s.laneFail l else s)

/-- Fields MODE and RETRAIN of a write of ETH_CFG: the link drops 100 µs later (10 R378). -/
def State.ethCfgMode (s : State) (mode retrain : Nat) : State :=
  let s1 := s.setF .ETH_CFG_MODE 0 0 mode
  if retrain = 1 ∨ mode ≠ s.f .ETH_CFG_MODE then
    { s1 with eth := { s1.eth with dropDue := some (s1.now + 100) } }
  else s1

/-! ### Addresses (10 R382, R383) -/

/-- fe80::/64 with the modified EUI-64 identifier of the MAC address. -/
def linkLocal (mac : Nat) : Nat :=
  0xFE80 * 2 ^ 112 + (((mac / 2 ^ 24) ^^^ 0x020000) * 2 ^ 40 + 0xFFFE * 2 ^ 24 + mac % 2 ^ 24)

/-- An IPv4 address as the 128-bit number of ::ffff:a.b.c.d (10 R415). -/
def ip4 (a : Nat) : Nat := 0xFFFF * 2 ^ 32 + a

/-- Whether an address is an IPv4 address. -/
def isIp4 (a : Nat) : Bool := a / 2 ^ 32 == 0xFFFF

/-- The port's own IPv4 addresses. -/
def State.own4 (s : State) : List Nat :=
  ((List.range 4).filter (fun i => s.f .ETH_IPV4_ADDR_VALID i == 1)).map (fun i => ip4 (s.f .ETH_IPV4_ADDR_ADDR i))

/-- IPv6 address i. -/
def State.ip6 (s : State) (i : Nat) : Nat := s.f .ETH_IPV6_HI_ADDR i * 2 ^ 64 + s.f .ETH_IPV6_LO_ADDR i

/-- The port's own IPv6 addresses, the link-local one among them. -/
def State.own6 (s : State) : List Nat :=
  linkLocal s.fuses.mac :: ((List.range 4).filter (bit (s.f .ETH_IPV6_VALID_VALID))).map s.ip6

/-- Whether an address is an own address. -/
def State.isOwn (s : State) (a : Nat) : Bool := s.own4.contains a || s.own6.contains a

/-- The solicited-node multicast address of an address. -/
def solicited (a : Nat) : Nat := 0xFF02 * 2 ^ 112 + 0x1FF * 2 ^ 24 + a % 2 ^ 24

/-- The all-nodes multicast address ff02::1. -/
def allNodes : Nat := 0xFF02 * 2 ^ 112 + 1

/-- The IPv4 broadcast address. -/
def broadcast4 : Nat := ip4 0xFFFFFFFF

/-- Destination MAC addresses the port accepts (10 R384 row 4). -/
def State.macOk (s : State) (m : Nat) : Bool :=
  m == s.fuses.mac || m == 0xFFFFFFFFFFFF || m == 0x333300000001
    || s.own6.any (fun a => m == 0x3333FF000000 + a % 2 ^ 24)

/-- Adds to counter `c` of ETH_CNT (10 R414). -/
def State.ethCnt (s : State) (c : Nat) : State := s.count .ETH_CNT_COUNT c 0 32 1

/-- Answers an ARP request or a Neighbor Solicitation, at most 1,000 in a second (10 R383). -/
def State.answerNd (s : State) (kind : Nat) (fields : List Nat) : State :=
  let fresh := s.eth.arpStart + 1000000 ≤ s.now ∨ (s.eth.arpCount = 0)
  let n := if fresh then 0 else s.eth.arpCount
  let t := if fresh then s.now else s.eth.arpStart
  if 1000 ≤ n then s.ethCnt 12
  else { s with eth := { s.eth with arpStart := t, arpCount := n + 1 } }.txStrict (.frame s.hlHdr kind fields)

/-- An ARP request: answered for an own IPv4 address, else dropped (10 R383, R384 row 6). -/
def State.arpIn (s : State) (target srcMac srcIp : Nat) : State :=
  if s.own4.contains target then s.answerNd 0x0806 [srcMac, srcIp, target, s.fuses.mac] else s.ethCnt 5

/-- A Neighbor Solicitation: answered for an own IPv6 address that it was sent to (10 R383, R384 row 6). -/
def State.ndIn (s : State) (target dst srcMac srcIp : Nat) : State :=
  if s.own6.contains target ∧ (dst = target ∨ dst = solicited target) then
    s.answerNd 0x86DD [srcMac, srcIp, target, s.fuses.mac]
  else s.ethCnt 5

/-- ARP_REQUEST. -/
def execArpRequest (target srcMac srcIp : Nat) (s : State) : Res :=
  .next (if s.ethUp then s.arpIn target srcMac srcIp else s)

/-- NEIGHBOR_SOLICITATION. -/
def execNeighborSolicitation (target dst srcMac srcIp : Nat) (s : State) : Res :=
  .next (if s.ethUp then s.ndIn target dst srcMac srcIp else s)

/-! ### Priority flow control (10 R386-R388) -/

/-- Whether a priority is lossless. -/
def State.lossless (s : State) (p : Nat) : Bool := bit (s.f .ETH_PFC_LOSSLESS) p

/-- Sets or ends a pause; its end ends the storm. -/
def State.setPause (s : State) (p : Nat) (v : Option Nat) : State :=
  { s with eth := { s.eth with pauseSince := NTbl.put none s.eth.pauseSince p v,
                               storm := if v.isNone then setBit s.eth.storm p false else s.eth.storm } }

/-- One class of a received PFC frame. -/
def State.pfcClass (s : State) (p q : Nat) : State :=
  if !s.lossless p then s
  else if q = 0 then s.setPause p none
  else if (s.paused p).isSome then s else s.setPause p (some s.now)

/-- A received PFC frame: quanta of the priorities that its class-enable vector names (10 R388). -/
def State.pfcIn (s : State) (quanta : List (Option Nat)) : State :=
  (((quanta.take 8).zipIdx).foldl (fun s x => match x.1 with
    | some q => s.pfcClass x.2 q
    | none => s) (s.ethCnt 2)).txGo

/-- PFC_FRAME. -/
def execPfcFrame (quanta : List (Option Nat)) (s : State) : Res := .next (if s.ethUp then s.pfcIn quanta else s)

/-- PFC_PAUSE_EXPIRY: the pause's quanta have passed. -/
def execPfcPauseExpiry (p : Nat) (s : State) : Res := .next (if p < 8 then (s.setPause p none).txGo else s)

/-- Occupancy of the receive buffer by a priority, in bytes. -/
def State.occ (s : State) (p : Nat) : Nat := NTbl.at 0 s.eth.occ p

/-- Sends a PFC frame for a priority (10 R387). -/
def State.sendPfc (s : State) (p quanta : Nat) : State := s.emit (.pfc p quanta)

/-- PFC_XOFF_REPEAT: every 10 µs while occupancy stays above XON_KIB. -/
def execPfcXoffRepeat (p : Nat) (s : State) : Res :=
  .next (if p < 8 ∧ bit s.eth.xoff p ∧ s.f .ETH_PFC_THRESH_XON_KIB p * 1024 < s.occ p then s.sendPfc p 0xFFFF else s)

/-- ETH_PFC_STORM: a priority has stayed paused for ETH_PFC_WD, once per storm (10 R388). -/
def execEthPfcStorm (p : Nat) (s : State) : Res :=
  if 8 ≤ p ∨ (s.paused p).isNone ∨ s.f .ETH_PFC_WD_MS = 0 ∨ bit s.eth.storm p then .next s
  else
    let s1 := { s with eth := { s.eth with storm := setBit s.eth.storm p true } }
    .next ((s1.flag .ETH_ERR_STATUS_PFC_STORM).raise 0x6028 sevDeferred 0 p [p])

/-- Sum of the headroom of the lossless priorities, in bytes. -/
def State.headroom (s : State) : Nat :=
  ((List.range 8).map (fun p => if s.lossless p then s.f .ETH_PFC_THRESH_HEADROOM_KIB p * 1024 else 0)).sum

/-- Bytes in the receive buffer. -/
def State.occAll (s : State) : Nat := ((List.range 8).map s.occ).sum

/-- A frame enters the buffer (10 R387): whether it is kept. -/
def State.bufferIn (s : State) (p len : Nat) : Bool × State :=
  let o := s.occ p + len
  let put (s : State) : State := { s with eth := { s.eth with occ := NTbl.put 0 s.eth.occ p o } }
  if s.lossless p then
    let xoff := s.f .ETH_PFC_THRESH_XOFF_KIB p * 1024
    if xoff + s.f .ETH_PFC_THRESH_HEADROOM_KIB p * 1024 < o then (false, s.ethCnt 13)
    else
      let s1 := put s
      (true, if xoff ≤ o ∧ !bit s1.eth.xoff p then
          ({ s1 with eth := { s1.eth with xoff := setBit s1.eth.xoff p true } }).sendPfc p 0xFFFF
        else s1)
  else if 12 * 1048576 < s.occAll + s.headroom ∨ 12 * 1048576 < s.occAll + len then (false, s)
  else (true, put s)

/-- The buffer empties (log 1): paused priorities are released with quanta 0 (10 R387). -/
def State.bufferDrain (s : State) : State :=
  let s1 := (maskList 8 s.eth.xoff).foldl (fun s p => s.sendPfc p 0) s
  { s1 with eth := { s1.eth with occ := [], xoff := 0 } }

/-- Priority of a received frame (10 R386). -/
def State.framePrio (s : State) (f : Frame) : Nat :=
  match f.vlan with
  | some (_, pcp) => pcp % 8
  | none => match f.body with
    | .udp _ _ _ _ _ dscp _ _ _ _ _ _ _ _ _ _ => s.f .ETH_DSCP_MAP_PRIO (dscp / 16 % 4) (dscp % 16)
    | _ => 0

/-! ### Received frames (10 R384) -/

/-- What the rows of 10 R384 do with a frame. -/
inductive FrameEnd where
  | drop (cnt : Nat) | uncorr | pfc (quanta : List (Option Nat)) | arp (target srcIp : Nat) | nd (target dst srcIp : Nat) | take
  deriving DecidableEq, Repr

/-- Destination addresses row 7 lets pass. -/
def State.ipOk (s : State) (dst dport : Nat) : Bool :=
  s.isOwn dst || (dport == 20054 && (dst == broadcast4 || dst == allNodes))

/-- The plot that is being scrubbed among an optional plot. -/
def State.scrubbing (s : State) (p : Option Nat) : Bool :=
  match p with
  | some p => (s.plot p).teardown.isSome
  | none => false

/-- DEST_IP of a queue pair. -/
def State.qpDest (s : State) (q : Nat) : Nat := s.f .ETH_QP_DEST_IP_HI_IP q * 2 ^ 64 + s.f .ETH_QP_DEST_IP_LO_IP q

/-- Whether a queue pair could receive when the teardown of its plot began (10 R405). -/
def State.qpTorn (s : State) (q : Nat) : Bool := match s.plotOfQp q with
  | some p => (match (s.plot p).teardown with
    | some t => t.qps.contains q
    | none => false)
  | none => false

/-- Whether row 10 drops a RoCEv2 packet. A queue pair that the teardown of its plot has reset is still the one that row 11
names (log 45). -/
def State.stranger (s : State) (qpn pkey opcode src : Nat) : Bool :=
  let q := qpn - 0x10000
  let st := s.qpState q
  !(decide (0x10000 ≤ qpn) && decide (q < 8192) && s.qpDest q == src && s.f .ETH_QP_DEST_MAC_P_KEY q == pkey
    && (s.qpTorn q || ((st == 2 || st == 3) && (opcode != 0x81 || st == 3))))

/-- Whether a stream's port and source filter match a datagram. -/
def State.streamFits (s : State) (port src k : Nat) : Bool :=
  s.f .ETH_ING_CFG_UDP_PORT k == port && (s.f .ETH_ING_CFG_SRC_FILTER k == 0
    || s.f .ETH_ING_SRC_HI_IP k * 2 ^ 64 + s.f .ETH_ING_SRC_LO_IP k == src)

/-- The enabled stream a datagram goes to, lowest number first (10 R407). -/
def State.streamFor (s : State) (port src : Nat) : Option Nat :=
  (List.range 64).find? (fun k => s.f .ETH_ING_CFG_ENABLE k == 1 && s.streamFits port src k)

/-- Whether a datagram is a row of a stream that was enabled when the teardown of its plot began (10 R405). -/
def State.streamTorn (s : State) (port src : Nat) : Bool :=
  (List.range 8).any (fun p => match (s.plot p).teardown with
    | some t => t.streams.any (s.streamFits port src)
    | none => false)

/-- Rows 8 to 15 for a UDP datagram. -/
def State.judgeUdp (s : State) (v6 : Bool) (src dport : Nat) (hdrOk lenOk cksumZero cksumOk icrcOk : Bool)
    (qpn pkey opcode : Nat) : FrameEnd :=
  if !hdrOk || !lenOk || (!cksumZero && !cksumOk) || (cksumZero && v6 && dport != 4791) then .drop 7
  else if dport = 4791 ∧ !icrcOk then .drop 8
  else if dport = 4791 ∧ s.stranger qpn pkey opcode src then .drop 9
  else if dport = 4791 ∧ s.scrubbing (s.plotOfQp (qpn - 0x10000)) then .drop 10
  else if dport ≠ 4791 ∧ dport ≠ 20054 ∧ (s.streamFor dport src).isNone ∧ s.streamTorn dport src then .drop 10
  else if dport = 4791 ∨ dport = 20054 ∨ (s.streamFor dport src).isSome then .take
  else .drop 11

/-- The first row of 10 R384 that matches. -/
def State.judgeFrame (s : State) (f : Frame) : FrameEnd :=
  let vlanOn := s.f .ETH_VLAN_ENABLE = 1
  let vid := (f.vlan.map Prod.fst).getD 0
  if !f.fecOk then .uncorr
  else if !f.fcsOk then .drop 0
  else if 9216 < f.len then .drop 1
  else match f.body with
    | .pfc q => .pfc q
    | b =>
      if !s.macOk f.dstMac then .drop 3
      else if (vlanOn ∧ (f.vlan = none ∨ (vid ≠ s.f .ETH_VLAN_VID ∧ vid ≠ 0))) ∨ (¬ vlanOn ∧ vid ≠ 0) then .drop 4
      else match b with
        | .arp op target srcIp => if op = 1 ∧ s.own4.contains target then .arp target srcIp else .drop 5
        | .neighborSol target dst srcIp =>
          if s.own6.contains target ∧ (dst = target ∨ dst = solicited target) then .nd target dst srcIp else .drop 5
        | .otherIcmpNd => .drop 5
        | .other => .drop 5
        | .pfc q => .pfc q
        | .otherIp _ _ dst hdrOk => if !s.isOwn dst then .drop 6 else if !hdrOk then .drop 7 else .drop 11
        | .udp v6 src dst _ dport _ _ hdrOk lenOk cz ck icrc qpn pkey opcode _ =>
          if !s.ipOk dst dport then .drop 6 else s.judgeUdp v6 src dport hdrOk lenOk cz ck icrc qpn pkey opcode

/-- The symbols corrected on each lane are counted (10 R376, R379, ETH_LANE; 00 R630), and kept for a millisecond. -/
def State.fecCorr (s : State) (f : Frame) : State :=
  (List.range 8).foldl (fun s l =>
    let n := f.corr.getD l 0
    if n = 0 then s
    else
      let kept := (NTbl.at [] s.eth.corr l).filter (fun x => decide (s.now < x.1 + 1000))
      ({ s with eth := { s.eth with corr := NTbl.put [] s.eth.corr l (kept ++ [(s.now, n)]) } }).count
        .ETH_LANE_CORR_SYMBOLS l 0 32 n) s

/-- Symbols corrected on a lane within the last millisecond. -/
def State.corrRecent (s : State) (l : Nat) : Nat :=
  (((NTbl.at [] s.eth.corr l).filter (fun x => decide (s.now < x.1 + 1000))).map Prod.snd).sum

/-- The first lane in use whose corrected symbols of a millisecond exceed ETH_LANE_LIMIT fails (10 R379). -/
def State.fecLimit (s : State) : State :=
  match (List.range 8).find? (fun l => s.laneUsed l && decide (s.f .ETH_LANE_LIMIT_SYMBOLS < s.corrRecent l)) with
  | some l => s.laneFail l
  | none => s

/-- FRAME_RECEIVE: a received frame is dropped and counted, answered, acted on, or taken into the buffer for the
transport, the Headland or ingest, whose own commands carry out the rest (10 R384, R387). -/
def execFrameReceive (f : Frame) (s : State) : Res :=
  if !s.ethUp then .next s
  else
    let s1 := s.fecCorr f
    match s.judgeFrame f with
    | .drop c => .next (s1.ethCnt c).fecLimit
    | .uncorr => .next ((s1.ethCnt 0).ethCnt 14).fecLimit
    | .pfc q => .next (s1.pfcIn q).fecLimit
    | .arp t i => .next (s1.answerNd 0x0806 [f.srcMac, i, t, s.fuses.mac]).fecLimit
    | .nd t _ i => .next (s1.answerNd 0x86DD [f.srcMac, i, t, s.fuses.mac]).fecLimit
    | .take => .next (s1.bufferIn (s.framePrio f) f.len).2.fecLimit

end Sys2Proof.Machine
end

