-- ==== Sys2Proof/Machine/QpCore.lean ====
section
/-! DEFINITION. Queue pairs: packets, completion records, flushing, doorbells, state changes (10 R391-R406). -/

namespace Sys2Proof.Machine

/-! ### Access -/

/-- The Sheaf context and neighbour entry a queue pair is bound to (11 R419). -/
def State.boundTo (s : State) (q : Nat) : Option (Nat × Nat) :=
  (List.range 16).findSome? (fun x => ((List.range 9).find? (fun i =>
    s.f .SHEAF_CTX_NBR_QP_VALID x i == 1 && s.f .SHEAF_CTX_NBR_QP_QP x i == q)).map (fun i => (x, i)))

/-- Path MTU in bytes (10 R415). -/
def State.qpMtu (s : State) (q : Nat) : Nat := 128 * 2 ^ s.f .ETH_QP_CTL_PMTU q

/-- PSN arithmetic. -/
def psnAdd (a n : Nat) : Nat := (a + n) % 2 ^ 24
def psnDist (a b : Nat) : Nat := (a + 2 ^ 24 - b % 2 ^ 24) % 2 ^ 24

/-- Whether PSN `a` is at or before `b`. -/
def psnLe (a b : Nat) : Bool := decide (psnDist b a < 2 ^ 23)

/-- Completion statuses of 10 R403. -/
def qsOk : Nat := 0
def qsPoison : Nat := 1
def qsLocal : Nat := 2
def qsAccess : Nat := 3
def qsInvalid : Nat := 4
def qsOp : Nat := 5
def qsRetry : Nat := 6
def qsRnr : Nat := 7
def qsFlushed : Nat := 8
def qsLength : Nat := 9
def qsIllegal : Nat := 10

/-- Physical number of a tally that a plot or the operator names (04 R167). -/
def tallyNo (plot : Option Nat) (t : Nat) : Nat := match plot with
  | some p => 64 * p + t % 64
  | none => t % 4096

/-! ### Packets (10 R391) -/

/-- Cuts bytes into packets' payloads; an empty message is one empty packet. -/
def chunks (mtu : Nat) : Nat → Bytes → List Bytes
  | 0, _ => []
  | n + 1, b => if b.length ≤ mtu then [b] else b.take mtu :: chunks mtu n (b.drop mtu)

/-- BTH opcode of packet `i` of `n` (PRESUMED, log 25: the InfiniBand codes). -/
def bthOp (send imm : Bool) (n i : Nat) : Nat :=
  let base := if send then 0 else 6
  let last := i + 1 = n
  if n = 1 then base + 4 + b2n imm else if last then base + 2 + b2n imm else if i = 0 then base else base + 1

/-- The packets of a SEND or WRITE message; with SACK each packet of a WRITE is an Only packet with its own RETH
(10 R402). -/
def msgPackets (send sack : Bool) (psn va rkey : Nat) (imm : Option Nat) (mtu : Nat) (data : Bytes) : List SentPkt :=
  let cs := chunks mtu (data.length / mtu + 1) data
  let n := cs.length
  cs.zipIdx.map (fun x =>
    let last := x.2 + 1 = n
    let im := if last then imm.toList else []
    let only := sack && !send
    let kind := if only then (if last ∧ imm.isSome then 0x0B else 0x0A) else bthOp send (imm.isSome) n x.2
    let reth := if send then [] else if only then [va + x.2 * mtu, rkey, x.1.length]
      else if x.2 = 0 then [va, rkey, data.length] else []
    { psn := psnAdd psn x.2, kind, fields := reth ++ im, payload := x.1 })

/-- Bytes of a packet on the wire as 10, rates, counts them (log 101): Ethernet, VLAN, IP, UDP and BTH headers, RETH or
immediate of a request, AETH and SACK block, payload to a multiple of 4, ICRC, FCS, preamble and gap. -/
def State.wireBytes (s : State) (q : Nat) (p : SentPkt) : Nat :=
  let ext := if p.kind = 0x81 then 16 else if p.kind = 0x11 then 4 + 32 * (p.fields.length - 1)
    else if p.kind = 0x0D ∨ p.kind = 0x0F ∨ p.kind = 0x10 then 4
    else if 3 ≤ p.fields.length then 16 + 4 * (p.fields.length - 3) else 4 * p.fields.length
  14 + (if s.f .ETH_VLAN_ENABLE = 1 then 4 else 0) + (if isIp4 (s.qpDest q) then 20 else 40) + 8 + 12 + ext
    + (p.payload.length + 3) / 4 * 4 + 4 + 4 + 20

/-- The source address that SRC_ADDR names (10 R415). -/
def State.qpSource (s : State) (q : Nat) : Nat :=
  let k := s.f .ETH_QP_CTL_SRC_ADDR q
  if k < 4 then ip4 (s.f .ETH_IPV4_ADDR_ADDR k) else if k < 8 then s.ip6 (k - 4) else linkLocal s.fuses.mac

/-- Where the packets of a queue pair go (10 R391, R415). -/
def State.pktAddr (s : State) (q : Nat) : PktAddr :=
  { mac := s.f .ETH_QP_DEST_MAC_MAC q, srcIp := s.qpSource q, dstIp := s.qpDest q, udpSrc := 0xC000 + q % 0x4000,
    qpn := s.f .ETH_QP_CTL_DEST_QPN q, pkey := s.f .ETH_QP_DEST_MAC_P_KEY q }

/-- A packet of a queue pair as a frame (10 R389, R390): ACK and NAK in its priority ahead of data, CNP in CNP_PRIO; data is
ECT(0) and paced. -/
def State.pktItem (s : State) (q : Nat) (p : SentPkt) : TxItem :=
  let ctl := decide (p.kind = 0x11 ∨ p.kind = 0x81)
  let h := s.txHdr (if p.kind = 0x81 then s.f .ETH_CFG_CNP_PRIO else s.f .ETH_QP_CTL_PRIO q) (!ctl)
  { h, ctl, qp := if ctl then none else some q, bytes := s.wireBytes q p, out := .packet h (s.pktAddr q) q p.kind p.psn p.fields p.payload }

/-- Sends a packet; while the link is down it is lost (10 R378), and a protective stop sends nothing (15 R564). -/
def State.pktOut (s : State) (q : Nat) (p : SentPkt) : State :=
  if s.f .PWR_STATUS_STOP = 0 then s.tx (s.pktItem q p) else s

/-- Sends request packets, kept until they are acknowledged. -/
def State.pktSend (s : State) (q : Nat) (ps : List SentPkt) : State :=
  let s1 := ps.foldl (fun s p => s.pktOut q p) s
  let v := s1.qp q
  let s2 := s1.setQp q { v with unacked := v.unacked ++ ps }
  s2.setF .ETH_QP_PSN_SQ_PSN q 0 (psnAdd (s2.f .ETH_QP_PSN_SQ_PSN q) ps.length)

/-- Sends packets again (10 R401, R415). -/
def State.pktResend (s : State) (q : Nat) (ps : List SentPkt) : State :=
  (ps.foldl (fun s p => s.pktOut q p) s).count .ETH_QP_COUNT_RETRANS q 0 32 ps.length

/-! ### Records (10 R397, R398) -/

/-- Free slots of the completion ring, beyond those that started sends and the inbound message will fill. -/
def State.cqRoom (s : State) (q : Nat) : Nat :=
  let v := s.qp q
  let used := idxDist (s.f .ETH_QP_STATUS_CQ_TAIL q) (s.f .ETH_QP_CQ_HEAD_HEAD q)
    + (v.wqes.filter (fun w => w.sheaf.isNone)).length + (match v.rx with
      | some m => b2n m.send
      | none => 0)
  2 ^ s.f .ETH_QP_CQ_LOG2_SIZE q - used

/-- Whether the completion ring itself has a free slot. -/
def State.cqFree (s : State) (q : Nat) : Bool :=
  decide (idxDist (s.f .ETH_QP_STATUS_CQ_TAIL q) (s.f .ETH_QP_CQ_HEAD_HEAD q) < 2 ^ s.f .ETH_QP_CQ_LOG2_SIZE q)

/-- Writes a completion record; a status other than OK is reported and moves the queue pair to ERROR (10 R403).
DESIGN CHOICE (log 115): IMM stands in the order of the wire, its most significant byte first, as 10 R397 names no order. -/
def State.qpRecord (s : State) (q st : Nat) (recv : Bool) (bytes wrId : Nat) (imm : Option Nat) (idx : Nat) : State :=
  let lg := s.f .ETH_QP_CQ_LOG2_SIZE q
  let t := s.f .ETH_QP_STATUS_CQ_TAIL q
  let flags := b2n recv + (if imm.isSome then 2 else 0) + (if t / 2 ^ lg % 2 = 0 then 128 else 0)
  let rec_ := leBytes 1 st ++ leBytes 1 flags ++ leBytes 2 q ++ leBytes 4 bytes ++ leBytes 8 wrId
    ++ beBytes 4 (imm.getD 0) ++ leBytes 4 idx ++ leBytes 8 0
  let (_, _, s1) := s.wr (s.qpSrc q) (s.f .ETH_QP_CQ_BASE q * 4096 + t % 2 ^ lg * 32) rec_
  let s2 := s1.setF .ETH_QP_STATUS_CQ_TAIL q 0 ((t + 1) % 2 ^ 32)
  if st = qsOk then s2
  else
    let s3 := ((s2.setF .ETH_QP_STATUS_LAST_STATUS q 0 st).setF .ETH_QP_CTL_STATE q 0 6).flag .ETH_ERR_STATUS_QP_ERROR
    s3.raiseLimited 100 0x6020 sevDeferred 8 q [q, st]

/-- The queue pair enters ERROR without a record: for a request it has refused, or a message of Sheaf (10 R394, R395, R404,
R415). -/
def State.qpErrorState (s : State) (q st : Nat) : State :=
  (((s.setF .ETH_QP_STATUS_LAST_STATUS q 0 st).setF .ETH_QP_CTL_STATE q 0 6).flag .ETH_ERR_STATUS_QP_ERROR).raiseLimited 100 0x6020 sevDeferred 8 q [q, st]

/-- A send record with its tally (10 R396, R399). -/
def State.sendRecord (s : State) (q : Nat) (w : Wqe) (st : Nat) : State :=
  let s1 := s.qpRecord q st false w.len w.wrId none w.idx
  if bit w.flags 1 then s1.signalTally (tallyNo (s1.plotOfQp q) w.tally) 1 else s1

/-- A receive record with its tally (10 R400). -/
def State.recvRecord (s : State) (q st bytes wrId : Nat) (imm : Option Nat) (idx : Nat) : State :=
  let s1 := s.qpRecord q st true bytes wrId imm idx
  if s1.f .ETH_QP_TALLY_RECV_EN q = 1 then
    s1.signalTally (tallyNo (s1.plotOfQp q) (s1.f .ETH_QP_TALLY_RECV_TALLY q)) 1
  else s1

/-- Address of a ring slot. -/
def State.sqSlot (s : State) (q i : Nat) : Nat := s.f .ETH_QP_SQ_BASE q * 4096 + i % 2 ^ s.f .ETH_QP_SQ_LOG2_SIZE q * 64
def State.rqSlot (s : State) (q i : Nat) : Nat := s.f .ETH_QP_RQ_BASE q * 4096 + i % 2 ^ s.f .ETH_QP_RQ_LOG2_SIZE q * 32

/-- One FLUSHED record of a queue pair in ERROR: started sends, then those not started, then receives (10 R393). -/
def State.flushOne (s : State) (q : Nat) : Option State :=
  let v := s.qp q
  match v.wqes with
  | w :: ws =>
    let s1 := s.setQp q { v with wqes := ws }
    if w.sheaf.isSome then some s1
    else if s.cqFree q then some (s1.sendRecord q w (w.st.getD qsFlushed)) else none
  | [] =>
    if !s.cqFree q then none
    else if v.sqHead ≠ s.f .ETH_QP_SQ_TAIL_TAIL q then
      let (r, s1) := s.rd (s.qpSrc q) (s.sqSlot q v.sqHead) 64
      let w : Wqe := { idx := v.sqHead, op := leAt r.data 0 1, flags := leAt r.data 1 1, tally := leAt r.data 2 2, len := 0,
                       wrId := leAt r.data 8 8, laddr := 0, psn := 0, count := 0 }
      some ((s1.setQp q { s1.qp q with sqHead := (v.sqHead + 1) % 2 ^ 32 }).sendRecord q w qsFlushed)
    else match v.rx with
      | some m =>
        let s1 := s.setQp q { v with rx := none }
        if m.send then some (s1.recvRecord q qsFlushed 0 m.wrId none m.wrIdx) else some s1
      | none =>
        if v.rqHead = s.f .ETH_QP_RQ_TAIL_TAIL q then none
        else
          let (r, s1) := s.rd (s.qpSrc q) (s.rqSlot q v.rqHead) 32
          some ((s1.setQp q { s1.qp q with rqHead := (v.rqHead + 1) % 2 ^ 32 }).recvRecord q qsFlushed 0 (leAt r.data 0 8)
            none v.rqHead)

/-- Flushes as far as the completion ring has room (10 R393, R398). -/
def State.flushLoop (q : Nat) : Nat → State → State
  | 0, s => s
  | n + 1, s => match s.flushOne q with
    | some s1 => State.flushLoop q n s1
    | none => s

/-- A queue pair in ERROR keeps nothing to resend and flushes. -/
def State.qpFlush (s : State) (q : Nat) : State :=
  if s.qpState q = 6 then
    let v := s.qp q
    State.flushLoop q 32768 (s.setQp q { v with unacked := [], ahead := [] })
  else s

/-- Writes the records of sends that have ended, in index order (10 R399). -/
def State.retireLoop (q : Nat) : Nat → State → State
  | 0, s => s
  | n + 1, s =>
    let v := s.qp q
    match v.wqes with
    | w :: ws => match w.st with
      | some st =>
        if w.sheaf.isSome ∧ st = qsOk then
          State.retireLoop q n (s.setQp q { v with wqes := ws, shDone := v.shDone ++ w.sheaf.toList })
        else if w.sheaf.isSome then
          State.retireLoop q n ((s.setQp q { v with wqes := ws }).qpErrorState q st)
        else
          let s1 := (s.setQp q { v with wqes := ws }).sendRecord q w st
          if st = qsOk then State.retireLoop q n s1 else s1
      | none => s
    | [] => s

/-- Retires ended sends, and flushes if one of them failed. -/
def State.qpRetire (s : State) (q : Nat) : State :=
  (State.retireLoop q ((s.qp q).wqes.length + 1) s).qpFlush q

/-- Gives the oldest unfinished send a status. -/
def failFirst (st : Nat) : List Wqe → List Wqe
  | [] => []
  | w :: ws => if w.st.isSome then w :: failFirst st ws else { w with st := some st } :: ws

/-- The oldest unfinished send ends with a status (10 R401, R403). -/
def State.failSend (s : State) (q st : Nat) : State :=
  let v := s.qp q
  (s.setQp q { v with wqes := failFirst st v.wqes, unacked := [] }).qpRetire q

/-- Packets up to a PSN are acknowledged: sends they complete end with OK (10 R399, R401). -/
def State.ackTo (s : State) (q psn : Nat) : State :=
  let v := s.qp q
  let done (w : Wqe) : Bool := w.st.isNone && w.op != 4 && psnLe (psnAdd w.psn (w.count - 1)) psn
  let left := v.unacked.filter (fun p => !psnLe p.psn psn || p.kind == 0x0C)
  let v1 : Qp := { v with
    wqes := v.wqes.map (fun w => if done w then { w with st := some qsOk } else w)
    unacked := left, retries := if left.length < v.unacked.length then 0 else v.retries
    rnr := if left.length < v.unacked.length then 0 else v.rnr }
  (s.setQp q v1).qpRetire q

/-! ### State changes and doorbells (10 R393, R398, R419) -/

/-- any to RESET. -/
def State.qpReset (s : State) (q : Nat) : State :=
  let s1 := ((s.txDrop q).setQp q {}).setF .ETH_QP_CTL_STATE q 0 0
  ([Fid.ETH_QP_SQ_TAIL_TAIL, .ETH_QP_RQ_TAIL_TAIL, .ETH_QP_CQ_HEAD_HEAD, .ETH_QP_STATUS_CQ_TAIL]).foldl
    (fun s f => s.setF f q 0 0) s1

/-- Whether the three rings of a queue pair lie where 10 R393 allows them. -/
def State.qpRingsOk (s : State) (q : Nat) : Bool :=
  let p := s.plotOfQp q
  s.ringOk p (s.f .ETH_QP_SQ_BASE q * 4096) (2 ^ s.f .ETH_QP_SQ_LOG2_SIZE q * 64) true
    && s.ringOk p (s.f .ETH_QP_RQ_BASE q * 4096) (2 ^ s.f .ETH_QP_RQ_LOG2_SIZE q * 32) true
    && s.ringOk p (s.f .ETH_QP_CQ_BASE q * 4096) (2 ^ s.f .ETH_QP_CQ_LOG2_SIZE q * 32) true

/-- A write of STATE (10 R393). -/
def State.qpToState (s : State) (q st : Nat) : WRes :=
  let old := s.qpState q
  if st = old then (hOk, s)
  else if st = 0 then (hOk, s.qpReset q)
  else if st = 6 then (hOk, (s.setF .ETH_QP_CTL_STATE q 0 6).qpFlush q)
  else if old = 0 ∧ st = 1 then (hOk, s.setF .ETH_QP_CTL_STATE q 0 1)
  else if old = 1 ∧ st = 2 then
    if s.qpRingsOk q then (hOk, s.setF .ETH_QP_CTL_STATE q 0 2)
    else (hBadArg, s.flag .ETH_QP_STATUS_RING_ERR q)
  else if old = 2 ∧ st = 3 then
    let r := s.f .ETH_QP_RATE_RATE_MAX q
    let s1 := (s.setF .ETH_QP_CTL_STATE q 0 3).setF .ETH_QP_RATE_RATE_NOW q 0 r
    (hOk, s1.setQp q { s1.qp q with target := r })
  else (hBadArg, s)

/-- Whether a queue pair's settings may be changed. -/
def State.qpOpen (s : State) (q : Nat) : Bool := decide (s.qpState q ≤ 1)

/-- A write of SQ_TAIL or RQ_TAIL (04 R133; 10 R398; 11 R419). -/
def State.qpTail (s : State) (fid : Fid) (q head lg v : Nat) : WRes :=
  if v = s.f fid q then (hOk, s)
  else if (s.boundTo q).isSome then (hBusy, s.flag .ETH_QP_STATUS_DB_ERR q)
  else if idxDist v head ≤ 2 ^ lg ∧ idxDist v (s.f fid q) < 2 ^ 31 then (hOk, (s.setF fid q 0 v).qpFlush q)
  else (hBadArg, s.flag .ETH_QP_STATUS_DB_ERR q)

/-- A write of SQ_TAIL. -/
def State.qpSqTail (s : State) (q v : Nat) : WRes :=
  s.qpTail .ETH_QP_SQ_TAIL_TAIL q (s.qp q).sqHead (s.f .ETH_QP_SQ_LOG2_SIZE q) v

/-- A write of RQ_TAIL. -/
def State.qpRqTail (s : State) (q v : Nat) : WRes :=
  s.qpTail .ETH_QP_RQ_TAIL_TAIL q (s.qp q).rqHead (s.f .ETH_QP_RQ_LOG2_SIZE q) v

/-- A write of CQ_HEAD; a queue pair in ERROR goes on flushing. -/
def State.qpCqHead (s : State) (q h : Nat) : WRes :=
  if h = s.f .ETH_QP_CQ_HEAD_HEAD q then (hOk, s)
  else if idxDist (s.f .ETH_QP_STATUS_CQ_TAIL q) h ≤ 2 ^ s.f .ETH_QP_CQ_LOG2_SIZE q
      ∧ idxDist h (s.f .ETH_QP_CQ_HEAD_HEAD q) < 2 ^ 31 then
    (hOk, (s.setF .ETH_QP_CQ_HEAD_HEAD q 0 h).qpFlush q)
  else (hBadArg, s.flag .ETH_QP_STATUS_DB_ERR q)

/-- A write of RATE_MAX: RATE_NOW never exceeds it, and equals it while CC_EN is 0 (10 R406). -/
def State.qpRateMax (s : State) (q v : Nat) : WRes :=
  let now := s.f .ETH_QP_RATE_RATE_NOW q
  let s1 := s.setF .ETH_QP_RATE_RATE_MAX q 0 v
  (hOk, s1.setF .ETH_QP_RATE_RATE_NOW q 0
    (if s.qpState q ≠ 3 then now else if s.f .ETH_CFG_CC_EN = 0 then v else min now v))

end Sys2Proof.Machine
end

