-- ==== Sys2Proof/Machine/SheafCore.lean ====
section
/-! DEFINITION. Sheaf's contexts: who the neighbours are, which segments go where and when, messages in and out, and how
a run ends (11 R418-R439). -/

namespace Sys2Proof.Machine

/-! ### A context and its neighbours (11 R418-R421) -/

/-- A context. -/
def State.shc (s : State) (x : Nat) : ShCtx := NTbl.at {} s.sheaf x

/-- Sets a context. -/
def State.setShc (s : State) (x : Nat) (v : ShCtx) : State := { s with sheaf := NTbl.put {} s.sheaf x v }

/-- The plot that owns a context, or the operator. -/
def State.shPlot (s : State) (x : Nat) : Option Nat :=
  if s.f .SHEAF_CTX_OWNER_PLOT_VALID x = 1 then some (s.f .SHEAF_CTX_OWNER_PLOT x) else none

/-- Sheaf as a master, for a context's owner (01 R47). -/
def State.shSrc (s : State) (x : Nat) : Src := { id := 0x51, plot := s.shPlot x }

/-- STATE of a context: 0 IDLE, 1 RUNNING, 2 ABORTING. -/
def State.shState (s : State) (x : Nat) : Nat := s.f .SHEAF_CTX_STATUS_STATE x

/-- The settings of a context (11 R441). -/
structure ShCfg where
  kind : Nat
  tree : Bool
  arity : Nat
  alias_ : Nat
  size : Nat
  rank : Nat
  buf : Nat
  len : Nat
  seg : Nat
  deriving DecidableEq, Repr

/-- Reads a context's settings. -/
def State.shCfg (s : State) (x : Nat) : ShCfg :=
  { kind := s.f .SHEAF_CTX_OP_KIND x, tree := s.f .SHEAF_CTX_OP_ALGO x == 1, arity := s.f .SHEAF_CTX_OP_ARITY x,
    alias_ := s.f .SHEAF_CTX_OP_ALIAS x, size := s.f .SHEAF_CTX_RANK_SIZE x, rank := s.f .SHEAF_CTX_RANK_RANK x,
    buf := s.f .SHEAF_CTX_BUF_ADDR x * 256, len := s.f .SHEAF_CTX_LEN_BYTES x, seg := s.f .SHEAF_CTX_SEG_SEG_BYTES x }

/-- The neighbour of an entry: its rank, where it exists (11 R421). -/
def ShCfg.nbr (c : ShCfg) (i : Nat) : Option Nat :=
  if c.tree then
    if i = 0 then if 1 ≤ c.rank then some ((c.rank - 1) / c.arity) else none
    else if i ≤ c.arity ∧ c.arity * c.rank + i < c.size then some (c.arity * c.rank + i) else none
  else if c.size < 2 then none
  else if i = 0 then some ((c.rank + c.size - 1) % c.size)
  else if i = 1 then some ((c.rank + 1) % c.size)
  else none

/-- Children of a tree rank, as entries. -/
def ShCfg.children (c : ShCfg) : List Nat := (List.range' 1 8).filter (fun i => (c.nbr i).isSome)

/-! ### Segments (11 R426-R429) -/

/-- Ring chunk size. -/
def ShCfg.chunk (c : ShCfg) : Nat := 256 * ceilDiv c.len (256 * c.size)

/-- Bytes of ring chunk `n`. -/
def ShCfg.chunkLen (c : ShCfg) (n : Nat) : Nat := min ((n + 1) * c.chunk) c.len - min (n * c.chunk) c.len

/-- Segments of ring chunk `n`; an empty chunk travels as one empty message. -/
def ShCfg.chunkSegs (c : ShCfg) (n : Nat) : Nat := max 1 (ceilDiv (c.chunkLen n) c.seg)

/-- Steps of a ring run over both phases. -/
def ShCfg.steps (c : ShCfg) : Nat := if c.kind = 1 then 2 * (c.size - 1) else c.size - 1

/-- The chunk that ring rank `r` sends at step `t` of both phases (11 R428). -/
def ShCfg.chunkAt (c : ShCfg) (r t : Nat) : Nat := (r + 2 * c.size - t) % c.size

/-- Messages that ring rank `r` sends in its first `t` steps. -/
def ShCfg.ringCount (c : ShCfg) (r : Nat) : Nat → Nat
  | 0 => 0
  | t + 1 => ShCfg.ringCount c r t + c.chunkSegs (c.chunkAt r t)

/-- Step and segment of message `m` of ring rank `r`. -/
def ShCfg.ringLocate (c : ShCfg) (r : Nat) : Nat → Nat → Nat → Nat × Nat
  | 0, t, m => (t, m)
  | n + 1, t, m =>
    let k := c.chunkSegs (c.chunkAt r t)
    if m < k then (t, m) else ShCfg.ringLocate c r n (t + 1) (m - k)

/-- Segments of a tree's buffer. -/
def ShCfg.treeSegs (c : ShCfg) : Nat := max 1 (ceilDiv c.len c.seg)

/-- Whether a tree run goes upward, and downward. -/
def ShCfg.up (c : ShCfg) : Bool := c.kind == 1 || c.kind == 4
def ShCfg.down (c : ShCfg) : Bool := c.kind == 1 || c.kind == 5

/-- DATA messages a run sends to an entry. -/
def ShCfg.sendCount (c : ShCfg) (i : Nat) : Nat :=
  if (c.nbr i).isNone then 0
  else if c.tree then (if i = 0 then c.up else c.down).toNat * c.treeSegs
  else if i = 1 then c.ringCount c.rank c.steps else 0

/-- DATA messages a run expects from an entry. -/
def ShCfg.recvCount (c : ShCfg) (i : Nat) : Nat :=
  match c.nbr i with
  | none => 0
  | some r => if c.tree then (if i = 0 then c.down else c.up).toNat * c.treeSegs
    else if i = 0 then c.ringCount r c.steps else 0

/-- A segment to send: phase, offset in the buffer, length. -/
structure ShSeg where
  phase : Nat
  off : Nat
  len : Nat
  deriving DecidableEq, Repr

/-- Phase of step `t` of a ring run. -/
def ShCfg.ringPhase (c : ShCfg) (t : Nat) : Nat := if c.kind = 3 ∨ (c.kind = 1 ∧ c.size ≤ t + 1) then 2 else 1

/-- Message `m` to an entry. -/
def ShCfg.segment (c : ShCfg) (i m : Nat) : ShSeg :=
  if c.tree then { phase := if i = 0 then 1 else 2, off := m * c.seg, len := min c.seg (c.len - m * c.seg) }
  else
    let (t, k) := c.ringLocate c.rank c.steps 0 m
    let n := c.chunkAt c.rank t
    { phase := c.ringPhase t, off := n * c.chunk + k * c.seg, len := min c.seg (c.chunkLen n - k * c.seg) }

/-- Phase of message `m` that arrives from an entry. -/
def ShCfg.phaseIn (c : ShCfg) (i m : Nat) : Nat :=
  if c.tree then (if i = 0 then 2 else 1)
  else c.ringPhase (c.ringLocate ((c.rank + c.size - 1) % c.size) c.steps 0 m).1

/-- DATA sent to, and arrived from, an entry. -/
def ShRun.txOf (r : ShRun) (i : Nat) : Nat := NTbl.at 0 r.tx i
def ShRun.rxOf (r : ShRun) (i : Nat) : Nat := NTbl.at 0 r.rx i

/-- Whether message `m` to an entry may be sent: the contributions it awaits have arrived (11 R428, R429). -/
def ShCfg.mayGo (c : ShCfg) (r : ShRun) (i m : Nat) : Bool :=
  if c.tree then
    if i = 0 ∨ (c.rank = 0 ∧ c.kind = 1) then c.children.all (fun j => decide (m < r.rxOf j))
    else if c.rank = 0 then true
    else decide (m < r.rxOf 0)
  else decide (m < r.rxOf 0 + c.chunkSegs c.rank)

/-! ### Messages (11 R422, R423) -/

/-- Immediate of a message. -/
def shImm (kind x epoch arg : Nat) : Nat := kind * 2 ^ 28 + x % 16 * 2 ^ 24 + epoch % 16 * 2 ^ 20 + arg % 2 ^ 20

/-- Offset of the first poisoned byte of a local read at `a`. -/
def goodBytes (a n : Nat) : List Nat → Nat
  | [] => n
  | l :: t => min (l * 64 - a) (goodBytes a n t)

/-- Sends an RDMA WRITE with immediate to a neighbour; `bad` bytes from the start on are not sent (10 R404). -/
def State.shSend (s : State) (x i imm va : Nat) (data : Bytes) (isData : Bool) (good : Option Nat := none) : State :=
  let q := s.f .SHEAF_CTX_NBR_QP_QP x i
  if s.qpState q ≠ 3 then s
  else
    let mtu := s.qpMtu q
    let psn := s.f .ETH_QP_PSN_SQ_PSN q
    let ps := msgPackets false (s.f .ETH_QP_CTL_SACK q == 1) psn va (s.f .SHEAF_CTX_NBR_QP_RKEY x i) (some imm) mtu data
    match good with
    | some g => s.pktSend q (ps.take (g / mtu))
    | none =>
      let w : Wqe := { idx := 0, op := 3, flags := 0, tally := 0, len := data.length, wrId := 0, laddr := 0, psn,
                       count := ps.length, sheaf := some (x, i, isData) }
      let v := s.qp q
      (s.setQp q { v with wqes := v.wqes ++ [w] }).pktSend q ps

/-- Entries with a neighbour, one for each queue pair. -/
def State.shPeers (s : State) (x : Nat) : List Nat :=
  let c := s.shCfg x
  (List.range 9).filter (fun i => (c.nbr i).isSome
    && !(List.range i).any (fun j => (c.nbr j).isSome && s.f .SHEAF_CTX_NBR_QP_QP x j == s.f .SHEAF_CTX_NBR_QP_QP x i))

/-- Sends a message without data to an entry. -/
def State.shNote (s : State) (x i kind arg : Nat) : State :=
  s.shSend x i (shImm kind x (s.f .SHEAF_CTX_STATUS_EPOCH x) arg) (s.f .SHEAF_CTX_NBR_ADDR_REMOTE_BASE x i) [] false

/-- Puts a run and what its status registers show. -/
def State.setRun (s : State) (x : Nat) (r : ShRun) : State :=
  let s1 := s.setShc x { s.shc x with run := some r }
  let done := r.acked + ((List.range 9).map r.rxOf).sum
  (s1.setF .SHEAF_CTX_STATUS_SEGS_DONE x 0 done).setF .SHEAF_CTX_LAG_LAG_MS x 0 r.total

/-! ### The end of a run (11 R430, R431, R436) -/

/-- Messages of a context not yet acknowledged on queue pairs that can still carry them. -/
def State.shOutstanding (s : State) (x : Nat) : Bool :=
  s.eth.qps.any (fun e => s.qpState e.1 == 3 && e.2.wqes.any (fun w => match w.sheaf with
    | some m => m.1 == x
    | none => false))

/-- Scope of a context's events: its owner, a plot or the operator (11 R439). -/
def State.shScope (s : State) (x : Nat) : Scope :=
  match s.shPlot x with
  | some p => .plots (2 ^ p)
  | none => .op

/-- A run ends with a status: record, tally, report. -/
def State.shFinish (s : State) (x : Nat) (r : ShRun) (st peer : Nat) : State :=
  let rec_ := leBytes 1 st ++ leBytes 1 (s.f .SHEAF_CTX_STATUS_PHASE x) ++ leBytes 1 (s.f .SHEAF_CTX_STATUS_EPOCH x)
    ++ leBytes 1 x ++ leBytes 4 (s.f .SHEAF_CTX_STATUS_SEGS_DONE x) ++ leBytes 4 peer ++ leBytes 4 r.total
    ++ leBytes 8 ((s.dom 21).cycles - r.cyc) ++ leBytes 8 0
  let (_, _, s1) := s.wr (s.shSrc x) (s.f .SHEAF_CTX_CMPL_ADDR x * 32) rec_
  let s2 := ((s1.sheafIdle x).setF .SHEAF_CTX_STATUS_LAST_STATUS x 0 st).signalTally
    (tallyNo (s1.shPlot x) (s1.f .SHEAF_CTX_CMPL_TALLY x)) 1
  if st = 0 then s2
  else (s2.flag .SHEAF_ERR_STATUS_FAIL).raise 0x6820 sevDeferred 10 x [x, st, peer] (s2.shScope x)

/-- A run fails: one ABORT to every neighbour but those left out, then ABORTING. -/
def State.shFail (s : State) (x st peer : Nat) (but : Option Nat := none) : State :=
  match (s.shc x).run with
  | none => s
  | some r =>
    if r.fail.isSome then s
    else
      let s1 := (s.setRun x { r with fail := some (st, peer) }).setF .SHEAF_CTX_STATUS_STATE x 0 2
      let q? (i : Nat) : Nat := s1.f .SHEAF_CTX_NBR_QP_QP x i
      ((s1.shPeers x).filter (fun i => match but with
        | some j => q? i != q? j
        | none => true)).foldl (fun s i => s.shNote x i 3 st) s1

/-- The rank of an entry's neighbour, 0 where there is none. -/
def State.shRank (s : State) (x i : Nat) : Nat := ((s.shCfg x).nbr i).getD 0

/-- Whether a run has sent, had acknowledged and received everything. -/
def ShCfg.complete (c : ShCfg) (r : ShRun) : Bool :=
  (List.range 9).all (fun i => r.txOf i == c.sendCount i && r.rxOf i == c.recvCount i)
    && r.acked == ((List.range 9).map c.sendCount).sum

/-- Judges whether a context's run has ended or failed. -/
def State.shCheck (s : State) (x : Nat) : State :=
  match (s.shc x).run with
  | none => s
  | some r =>
    let end_ (s : State) : State := match (s.shc x).run with
      | some r => match r.fail with
        | some (st, peer) => if s.shOutstanding x then s else s.shFinish x r st peer
        | none => s
      | none => s
    if r.fail.isSome then end_ s
    else match (s.shPeers x).find? (fun i => s.qpState (s.f .SHEAF_CTX_NBR_QP_QP x i) == 6) with
      | some i => end_ (s.shFail x 3 (s.shRank x i) (some i))
      | none => if (s.shCfg x).complete r then s.shFinish x r 0 0 else s

/-- One acknowledged message of Sheaf. -/
def State.shAcked (s : State) (m : Nat × Nat × Bool) : State :=
  match (s.shc m.1).run with
  | some r => if m.2.2 then s.setRun m.1 { r with acked := r.acked + 1 } else s
  | none => s

/-- Takes in what the transport has finished for Sheaf, and judges every run. -/
def State.sheafSettle (s : State) : State :=
  let s1 := s.eth.qps.foldl (fun s e =>
    if e.2.shDone = [] then s
    else e.2.shDone.foldl State.shAcked (s.setQp e.1 { s.qp e.1 with shDone := [] })) s
  (List.range 16).foldl State.shCheck s1

/-! ### Sending segments -/

/-- A local read of Sheaf, made again once after ERR_PLANE or ERR_TIMEOUT (11 R436). -/
def State.shRead (s : State) (x a n : Nat) : RdRes × State :=
  let (r, s1) := s.rd (s.shSrc x) a n
  if r.status = stPlane ∨ r.status = stTimeout then s1.rd (s.shSrc x) a n else (r, s1)

/-- Sends message `m` to an entry: false where the local read fails, which ends the run. -/
def State.shSegment (s : State) (x i m : Nat) : Bool × State :=
  let c := s.shCfg x
  let g := c.segment i m
  let (r, s1) := s.shRead x (c.buf + g.off) g.len
  if 1 < r.status then (false, s1.shFail x 5 0)
  else
    let va := (if g.phase = 1 then c.alias_ * 2 ^ 48 else 0) + s.f .SHEAF_CTX_NBR_ADDR_REMOTE_BASE x i + g.off
    let imm := shImm 0 x (s.f .SHEAF_CTX_STATUS_EPOCH x) m
    if r.poison ≠ [] then
      let q := s1.f .SHEAF_CTX_NBR_QP_QP x i
      let s2 := s1.shSend x i imm va r.data true (some (goodBytes (c.buf + g.off) g.len r.poison))
      (false, ((s2.qpErrorState q qsPoison).qpFlush q).shFail x 4 0 (some i))
    else
      let s2 := s1.shSend x i imm va r.data true
      (true, if s2.f .SHEAF_CTX_STATUS_PHASE x < g.phase then s2.setF .SHEAF_CTX_STATUS_PHASE x 0 g.phase else s2)

/-- Sends to an entry what may go now. -/
def State.shPumpTo (x i : Nat) : Nat → State → State
  | 0, s => s
  | n + 1, s =>
    match (s.shc x).run with
    | none => s
    | some r =>
      let c := s.shCfg x
      let m := r.txOf i
      if r.fail.isSome ∨ !bit r.counted i ∨ c.sendCount i ≤ m ∨ !c.mayGo r i m then s
      else
        let (ok, s1) := s.shSegment x i m
        if ok then match (s1.shc x).run with
          | some r1 => State.shPumpTo x i n (s1.setRun x { r1 with tx := NTbl.put 0 r1.tx i (m + 1) })
          | none => s1
        else s1

/-- Sends what may go now to every entry. -/
def State.shPump (s : State) (x : Nat) : State :=
  let c := s.shCfg x
  (List.range 9).foldl (fun s i => State.shPumpTo x i (c.sendCount i + 1) s) s

/-! ### Arrivals (11 R424, R432-R434) -/

/-- PROGRESS_MS of a context, in µs. -/
def State.shProgress (s : State) (x : Nat) : Nat := s.f .SHEAF_CTX_TIMEOUT_PROGRESS_MS x * 1000

/-- A message of Sheaf dropped. -/
def State.shStray (s : State) : State := s.count .SHEAF_STRAY_COUNT 0 0 32 1

/-- The first phase of a run once every awaited READY has counted. -/
def ShCfg.firstPhase (c : ShCfg) : Nat := if c.kind = 3 ∨ c.kind = 5 then 2 else 1

/-- Whether a run has every READY it awaits. -/
def ShCfg.allReady (c : ShCfg) (r : ShRun) : Bool := (List.range 9).all (fun i => c.sendCount i == 0 || bit r.counted i)

/-- Leaves phase 0 once every awaited READY has counted. -/
def State.shPhase (s : State) (x : Nat) (r : ShRun) : State :=
  if s.f .SHEAF_CTX_STATUS_PHASE x = 0 ∧ (s.shCfg x).allReady r then
    s.setF .SHEAF_CTX_STATUS_PHASE x 0 (s.shCfg x).firstPhase
  else s

/-- An awaited arrival moves the deadline. -/
def State.shMoved (s : State) (x i : Nat) (r : ShRun) : ShRun :=
  { r with due := s.now + s.shProgress x, ext := 0, lastRx := NTbl.put 0 r.lastRx i s.now }

/-- The latched READY of an entry is judged for the run in progress. -/
def State.shReady (s : State) (x i : Nat) : State :=
  match (s.shc x).run, NTbl.at none (s.shc x).ready i with
  | some r, some imm =>
    if r.fail.isSome ∨ bits imm 23 20 ≠ s.f .SHEAF_CTX_STATUS_EPOCH x ∨ bits imm 27 24 ≠ x then s
    else if bits imm 19 0 ≠ s.shRank x i then s.shFail x 7 (s.shRank x i)
    else if (s.shCfg x).sendCount i = 0 ∨ bit r.counted i then s
    else
      let r1 := { s.shMoved x i r with counted := setBit r.counted i true }
      let c := s.shc x
      ((s.setShc x { c with ready := NTbl.put none c.ready i none }).setRun x r1).shPhase x r1
  | _, _ => s

/-- Entry that a message of a kind comes from on a queue pair, where the queue pair fills two. -/
def State.shEntry (s : State) (q x i : Nat) (count : ShCfg → Nat → Nat) : Nat :=
  let c := s.shCfg x
  ((List.range 9).find? (fun j => s.f .SHEAF_CTX_NBR_QP_VALID x j == 1 && s.f .SHEAF_CTX_NBR_QP_QP x j == q
    && decide (0 < count c j))).getD i

/-- Reports a LAG, the first in a run at once and then at most once in 10 ms (11 R439): direction 0 sent, 1 received. -/
def State.shLagEvent (s : State) (x dir d : Nat) : State :=
  match s.limit 0x6808 x 10000 with
  | (some _, s1) => s1.raise 0x6808 sevNone 10 x [x, dir, d] (s1.shScope x)
  | (none, s1) => s1

/-- Sends a LAG to an entry. -/
def State.shLagTo (s : State) (x i d : Nat) : State :=
  let s1 := ((s.shNote x i 2 d).flag .SHEAF_ERR_STATUS_LAG_SENT).shLagEvent x 0 d
  match (s1.shc x).run with
  | some r => s1.setRun x { r with lagTx := NTbl.put none r.lagTx i (some s1.now) }
  | none => s1

/-- Sends the module's own LAG to every neighbour of a running context (11 R433). -/
def State.shLagAll (s : State) (x : Nat) : State :=
  let d := s.f .SHEAF_CFG_LAG_MS
  if s.shState x = 1 then (s.shPeers x).foldl (fun s i => s.shLagTo x i d) s else s

/-- Half issue begins: every running context tells its neighbours (11 R433). -/
def State.lagBegin (s : State) : State := (List.range 16).foldl State.shLagAll s

/-- Whether a memory site is at half issue. -/
def State.halfHeld (s : State) : Bool := (List.range 8).any (fun n => (s.msite n).halfIssue)

/-- A LAG arrives: the deadline moves, and other neighbours are told (11 R434). -/
def State.shLag (s : State) (x i d : Nat) : State :=
  match (s.shc x).run with
  | none => s
  | some r =>
    let add := min d (s.f .SHEAF_CFG_LAG_CAP_MS - r.ext)
    let r1 := { r with due := r.due + add * 1000, ext := r.ext + add, total := r.total + add }
    let s1 := ((s.setRun x r1).flag .SHEAF_ERR_STATUS_LAG_RX).shLagEvent x 1 d
    if add = 0 then s1
    else
      let q? (i : Nat) : Nat := s1.f .SHEAF_CTX_NBR_QP_QP x i
      ((s1.shPeers x).filter (fun j => q? j != q? i && match NTbl.at none r.lagTx j with
        | some t => decide (t + d * 500 ≤ s1.now)
        | none => true)).foldl (fun s j => s.shLagTo x j d) s1

/-- A DATA message arrives (11 R424, R428). -/
def State.shData (s : State) (x i arg : Nat) : State :=
  match (s.shc x).run with
  | none => s
  | some r =>
    let c := s.shCfg x
    let m := r.rxOf i
    if arg ≠ m % 2 ^ 20 ∨ c.recvCount i ≤ m then s.shFail x 7 (s.shRank x i)
    else
      let r1 := { s.shMoved x i r with rx := NTbl.put 0 r.rx i (m + 1) }
      let p := c.phaseIn i m
      let s1 := s.setRun x r1
      (if s1.f .SHEAF_CTX_STATUS_PHASE x = 1 ∧ p = 2 then s1.setF .SHEAF_CTX_STATUS_PHASE x 0 2 else s1).shPump x

/-- A message arrives on a bound queue pair (11 R424). -/
def State.sheafArrive (s : State) (q imm : Nat) : State :=
  match s.boundTo q with
  | none => s
  | some (x, i0) =>
    let kind := bits imm 31 28
    let arg := bits imm 19 0
    if 3 < kind then s.shStray
    else if kind = 1 then
      let i := s.shEntry q x i0 ShCfg.sendCount
      let c := s.shc x
      ((s.setShc x { c with ready := NTbl.put none c.ready i (some imm) }).shReady x i).shPump x
    else if s.shState x = 0 ∨ bits imm 23 20 ≠ s.f .SHEAF_CTX_STATUS_EPOCH x then s.shStray
    else if s.shState x = 2 then s
    else if kind = 0 then s.shData x (s.shEntry q x i0 ShCfg.recvCount) arg
    else if kind = 2 then s.shLag x i0 arg
    else s.shFail x 1 (s.shRank x i0) (some i0)

end Sys2Proof.Machine
end

