-- ==== Sys2Proof/Machine/Transport.lean ====
section
/-! DEFINITION. The RoCEv2 transport: work requests, inbound packets, acknowledgements and congestion control
(10 R390-R406). -/

namespace Sys2Proof.Machine

/-- Whether the transport acts for a queue pair: it exists, the ETH domain runs, no protective stop holds, and its plot is
not being scrubbed (10 R405; 15 R564). -/
def State.qpActs (s : State) (q : Nat) : Bool :=
  decide (q < 8192) && (s.dom 21).running && s.f .PWR_STATUS_STOP == 0 && !s.scrubbing (s.plotOfQp q)

/-! ### Send work requests (10 R396, R399, R404) -/

/-- A READ work request without a status yet. -/
def Wqe.reading (w : Wqe) : Bool := w.op == 4 && w.st.isNone

/-- Whether a work request breaks 10 R396: a reserved opcode or field. -/
def wrIllegal (plot : Option Nat) (b : Bytes) : Bool :=
  let op := leAt b 0 1
  let fl := leAt b 1 1
  decide (4 < op) || decide (3 < fl) || decide (2 ^ 31 < leAt b 4 4) || decide (leAt b 40 24 ≠ 0)
    || (decide (op < 2) && decide (leAt b 24 12 ≠ 0))
    || (bit fl 1 && decide ((match plot with
      | some _ => 64
      | none => 4096) ≤ leAt b 2 2))

/-- Whether the next send work request may start now (10 R396, R398, R399). -/
def State.wrReady (s : State) (q : Nat) : Bool :=
  let v := s.qp q
  s.qpActs q && s.qpState q == 3 && (s.boundTo q).isNone && v.sqHead != s.f .ETH_QP_SQ_TAIL_TAIL q
    && decide (1 ≤ s.cqRoom q) && v.wqes.all (fun w => decide (w.st = none ∨ w.st = some qsOk))

/-- Sends the packets of a SEND or WRITE; those from the first poisoned byte on are not sent. -/
def State.wrPackets (s : State) (q : Nat) (w : Wqe) (b data : Bytes) (good : Nat) : State :=
  let send := decide (w.op < 2)
  let imm := if w.op % 2 = 1 then some (beAt b 36 4) else none
  let mtu := s.qpMtu q
  let ps := msgPackets send (s.f .ETH_QP_CTL_SACK q == 1) w.psn (leAt b 24 8) (leAt b 32 4) imm mtu data
  let bad := decide (good < data.length)
  let w1 : Wqe := { w with count := ps.length, st := if bad then some qsPoison else none }
  let s1 := s.setQp q { s.qp q with wqes := (s.qp q).wqes ++ [w1] }
  (s1.pktSend q (if bad then ps.take (good / mtu) else ps)).qpRetire q

/-- A READ request: one packet that occupies the PSNs of its responses. -/
def State.wrReadReq (s : State) (q : Nat) (w : Wqe) (b : Bytes) : State :=
  let n := max 1 (ceilDiv w.len (s.qpMtu q))
  let p : SentPkt := { psn := w.psn, kind := 0x0C, fields := [leAt b 24 8, leAt b 32 4, w.len], payload := [] }
  let s1 := s.setQp q { s.qp q with wqes := (s.qp q).wqes ++ [{ w with count := n }] }
  (s1.pktSend q [p]).setF .ETH_QP_PSN_SQ_PSN q 0 (psnAdd w.psn n)

/-- A work request that ends without packets. -/
def State.wrFail (s : State) (q : Nat) (w : Wqe) (st : Nat) : State :=
  (s.setQp q { s.qp q with wqes := (s.qp q).wqes ++ [{ w with st := some st }] }).qpRetire q

/-- Starts the next send work request of a queue pair if its opcode is the one named, reserved, or unreadable. -/
def State.wrStart (s : State) (q op : Nat) : State :=
  if !s.wrReady q then s
  else
    let plot := s.plotOfQp q
    let v := s.qp q
    let (r, s0) := s.rd (s.qpSrc q) (s.sqSlot q v.sqHead) 64
    let b := r.data
    let code := leAt b 0 1
    let fl := leAt b 1 1
    let bad := decide (r.status ≠ 0) || wrIllegal plot b
    if !bad ∧ (code ≠ op ∨ (bit fl 0 ∧ v.wqes.any Wqe.reading)
        ∨ (op = 4 ∧ 16 ≤ (v.wqes.filter Wqe.reading).length)) then s
    else
      let s1 := s0.setQp q { s0.qp q with sqHead := (v.sqHead + 1) % 2 ^ 32 }
      let w : Wqe := { idx := v.sqHead, op := code, flags := fl, tally := leAt b 2 2, len := leAt b 4 4, wrId := leAt b 8 8,
                       laddr := leAt b 16 8, psn := s.f .ETH_QP_PSN_SQ_PSN q, count := 0 }
      if r.status ≠ 0 then s1.wrFail q { w with flags := 0 } qsLocal
      else if bad then s1.wrFail q w qsIllegal
      else if op = 4 then s1.wrReadReq q w b
      else
        let (d, s2) := s1.rd (s.qpSrc q) w.laddr w.len
        if 1 < d.status then s2.wrFail q w qsLocal
        else s2.wrPackets q w b d.data (goodBytes w.laddr w.len d.poison)

/-- WR_SEND. -/
def execWrSend (q : Nat) (s : State) : Res :=
  parkIf (.wrSend q) (ParkKey.qp q).no (fun s => .next (s.wrStart q 0).sheafSettle) s

/-- WR_SEND_IMM. -/
def execWrSendImm (q : Nat) (s : State) : Res :=
  parkIf (.wrSendImm q) (ParkKey.qp q).no (fun s => .next (s.wrStart q 1).sheafSettle) s

/-- WR_RDMA_WRITE. -/
def execWrRdmaWrite (q : Nat) (s : State) : Res :=
  parkIf (.wrRdmaWrite q) (ParkKey.qp q).no (fun s => .next (s.wrStart q 2).sheafSettle) s

/-- WR_RDMA_WRITE_IMM. -/
def execWrRdmaWriteImm (q : Nat) (s : State) : Res :=
  parkIf (.wrRdmaWriteImm q) (ParkKey.qp q).no (fun s => .next (s.wrStart q 3).sheafSettle) s

/-- WR_RDMA_READ. -/
def execWrRdmaRead (q : Nat) (s : State) : Res :=
  parkIf (.wrRdmaRead q) (ParkKey.qp q).no (fun s => .next (s.wrStart q 4).sheafSettle) s

/-! ### Responses (10 R390, R400-R402) -/

/-- The status of 10 R403 that a NAK stands for. -/
def ackCode : AckKind → Nat
  | .ack => 0 | .nakSeq => 1 | .nakRnr => 2 | .nakAccess => 3 | .nakInvalid => 4 | .nakOp => 5

/-- The syndrome of an AETH (PRESUMED, log 25: InfiniBand): an ACK without a credit count, a receiver-not-ready NAK with its
timer, a NAK with its code. -/
def syndrome : AckKind → Nat
  | .ack => 0x1F | .nakRnr => 0x20 + Config.rnrTimer.toNat
  | .nakSeq => 0x60 | .nakInvalid => 0x61 | .nakAccess => 0x62 | .nakOp => 0x63

/-- An AETH as the number of its four bytes: the syndrome and the count of messages completed. -/
def State.aeth (s : State) (q : Nat) (k : AckKind) : Nat := syndrome k * 2 ^ 24 + (s.qp q).msn % 2 ^ 24

/-- The SACK block: packets placed beyond the expected PSN (10 R402). -/
def State.sackBlock (s : State) (q : Nat) : Nat :=
  maskOf ((s.qp q).ahead.filterMap (fun e =>
    let d := psnDist e.1 (s.f .ETH_QP_PSN_RQ_PSN q)
    if 1 ≤ d ∧ d ≤ 256 then some (d - 1) else none))

/-- Sends an Acknowledge. -/
def State.sendAck (s : State) (q : Nat) (k : AckKind) (psn : Nat) : State :=
  s.pktOut q { psn, kind := 0x11, fields := s.aeth q k :: (if s.f .ETH_QP_CTL_SACK q = 1 then [s.sackBlock q] else []),
               payload := [] }

/-- Acknowledges everything before the expected PSN. -/
def State.ackNow (s : State) (q : Nat) : State :=
  (s.setQp q { s.qp q with sinceAck := 0 }).sendAck q .ack (psnDist (s.f .ETH_QP_PSN_RQ_PSN q) 1)

/-- Refuses a request for good: NAK, and the queue pair enters ERROR (10 R391, R394, R395, R404). -/
def State.nakError (s : State) (q : Nat) (k : AckKind) (psn : Nat) : State :=
  ((s.sendAck q k psn).qpErrorState q (ackCode k)).qpFlush q

/-- A packet marked CE draws a CNP (10 R390). -/
def State.cnpFor (s : State) (q : Nat) (ce : Bool) : State :=
  let v := s.qp q
  let held : Bool := match v.cnpSent with
    | some t => decide (s.now < t + s.f .ETH_CC_CFG_CNP_GAP_US)
    | none => false
  if !ce ∨ held then s
  else (s.setQp q { v with cnpSent := some s.now }).pktOut q
    { psn := 0, kind := 0x81, fields := [s.f .ETH_QP_CTL_DEST_QPN q], payload := [] }

/-! ### Windows (10 R394) -/

/-- Whether every granule of a request passes 01 R50 and R51. -/
def State.mapsAll (s : State) (plot : Option Nat) (a n : Nat) (write : Bool) : Bool :=
  (s.translate plot a write).isSome && (List.range (n / 2 ^ 30 + 1)).all (fun i =>
    let x := (a / 2 ^ 30 + 1 + i) * 2 ^ 30
    decide (a + n ≤ x) || (s.translate plot x write).isSome)

/-- Whether a window admits a request of `n` bytes at `va`. -/
def State.winOk (s : State) (q va rkey n : Nat) (write : Bool) : Bool :=
  let w := rkey % 1024
  let range (off : Nat) : Bool := decide (n = 0)
    || (decide (s.f .ETH_WIN_RANGE_BASE w * 4096 ≤ off) && decide (off + n ≤ s.f .ETH_WIN_RANGE_LIMIT w * 4096 + 4096))
  s.f .ETH_WIN_CTL_VALID w == 1 && s.plotOfWindow w == s.plotOfQp q && s.f .ETH_WIN_CTL_TAG w == rkey / 1024 % 2 ^ 22
    && s.mapsAll (s.plotOfQp q) va n write
    && match target va with
      | .mem off => range off && s.f (if write then .ETH_WIN_CTL_WRITE else .ETH_WIN_CTL_READ) w == 1
      | .red _ off => range off && (if write then s.f .ETH_WIN_CTL_WRITE w == 1 && s.f .ETH_WIN_CTL_ALIAS w == 1
          else s.f .ETH_WIN_CTL_READ w == 1)
      | _ => false

/-- The NAK that a refused local access of a responder draws (10 R394, R395). -/
def nakOf (st : Nat) : AckKind := if st = stUnmapped then .nakAccess else .nakOp

/-! ### Receive work requests (10 R396, R398, R400) -/

/-- Whether a receive work request and a completion slot are free. -/
def State.recvReady (s : State) (q : Nat) : Bool :=
  (s.qp q).rqHead != s.f .ETH_QP_RQ_TAIL_TAIL q && decide (1 ≤ s.cqRoom q)

/-- Takes the next receive work request: its status, its words and its index. -/
def State.takeRecv (s : State) (q : Nat) : Nat × Bytes × Nat × State :=
  let i := (s.qp q).rqHead
  let (r, s1) := s.rd (s.qpSrc q) (s.rqSlot q i) 32
  let st := if r.status ≠ 0 then qsLocal else if leAt r.data 20 12 ≠ 0 then qsIllegal else qsOk
  (st, r.data, i, s1.setQp q { s1.qp q with rqHead := (i + 1) % 2 ^ 32 })

/-- The next expected PSN. -/
def State.rqStep (s : State) (q n : Nat) : State :=
  (s.setF .ETH_QP_PSN_RQ_PSN q 0 (psnAdd (s.f .ETH_QP_PSN_RQ_PSN q) n)).setQp q { s.qp q with nakSent := false }

/-- The responder has completed a message. -/
def State.msgDone (s : State) (q : Nat) : State := s.setQp q { s.qp q with msn := (s.qp q).msn + 1 }

/-- A message with immediate data is complete: Sheaf's, or a receive record (10 R400; 11 R419). -/
def State.immIn (s : State) (q bytes imm : Nat) : State :=
  if (s.boundTo q).isSome then s.sheafArrive q imm
  else
    let (st, b, i, s1) := s.takeRecv q
    let s2 := s1.recvRecord q st (if st = qsOk then bytes else 0) (leAt b 0 8) (some imm) i
    if st = qsOk then s2 else (s2.sendAck q .nakOp (s.f .ETH_QP_PSN_RQ_PSN q)).qpFlush q

/-- Packets placed ahead whose turn has come (10 R402). -/
def State.drainAhead (q : Nat) : Nat → State → State
  | 0, s => s
  | n + 1, s =>
    let psn := s.f .ETH_QP_PSN_RQ_PSN q
    let v := s.qp q
    match NTbl.at none v.ahead psn with
    | none => s
    | some (imm, bytes) =>
      let drop (s : State) : State := s.setQp q { s.qp q with ahead := NTbl.put none (s.qp q).ahead psn none }
      match imm with
      | none => State.drainAhead q n (((drop s).rqStep q 1).msgDone q)
      | some im =>
        if (s.boundTo q).isSome ∨ s.recvReady q then
          let s1 := (((drop s).rqStep q 1).msgDone q).immIn q bytes im
          if s1.qpState q = 6 then s1 else State.drainAhead q n s1
        else s.sendAck q .nakRnr psn

/-- After a packet that has been applied: packets placed ahead whose turn has come count too, and are acknowledged. -/
def State.thenAhead (s : State) (q : Nat) : State :=
  if s.qpState q = 6 then s
  else
    let s1 := State.drainAhead q 257 s
    if s1.qpState q = 6 ∨ s1.f .ETH_QP_PSN_RQ_PSN q = s.f .ETH_QP_PSN_RQ_PSN q then s1 else s1.ackNow q

/-! ### Inbound packets (10 R394, R400-R402) -/

/-- Where a packet stands against the expected PSN. -/
inductive PsnPlace where
  | expected | ahead (d : Nat) | duplicate
  deriving DecidableEq, Repr

/-- Place of a PSN. -/
def State.psnPlace (s : State) (q psn : Nat) : PsnPlace :=
  let d := psnDist psn (s.f .ETH_QP_PSN_RQ_PSN q)
  if d = 0 then .expected else if d < 2 ^ 23 then .ahead d else .duplicate

/-- A gap: one NAK for it, and the packet is discarded. -/
def State.gapNak (s : State) (q : Nat) : State :=
  if (s.qp q).nakSent then s
  else (s.setQp q { s.qp q with nakSent := true }).sendAck q .nakSeq (s.f .ETH_QP_PSN_RQ_PSN q)

/-- Whether the packet's position fits the message in progress. -/
def rxFits (rx : Option RxMsg) (send : Bool) (pos : BthPos) : Bool :=
  match rx with
  | none => pos == .first || pos == .only
  | some m => m.send == send && (pos == .middle || pos == .last)

/-- Whether a packet ends its message. -/
def posEnds (p : BthPos) : Bool := p == .last || p == .only

/-- The longest message (10 R391). -/
def msgMax : Nat := 2 ^ 31

/-- The end of a packet that has been applied: the expected PSN moves, and an ACK leaves at the end of the message and
after at most 16 packets. -/
def State.rxDone (s : State) (q : Nat) (ends : Bool) (rx : Option RxMsg) : State :=
  let v := s.qp q
  let s1 := (s.setQp q { v with rx := if ends then none else rx, sinceAck := v.sinceAck + 1,
                                 msn := if ends then v.msn + 1 else v.msn }).rqStep q 1
  if ends ∨ 16 ≤ v.sinceAck + 1 then s1.ackNow q else s1

/-- A WRITE packet with the expected PSN. -/
def State.writeIn (s : State) (q : Nat) (b : Bth) : State :=
  let v := s.qp q
  let bound := (s.boundTo q).isSome
  let ends : Bool := posEnds b.pos
  let imm := if ends then b.imm else none
  let fresh : RxMsg := { send := false, addr := b.va, got := 0, room := b.dmaLen, rkey := b.rkey, left := b.dmaLen, wrId := 0, wrIdx := 0 }
  let m := v.rx.getD fresh
  let n := b.payload.length
  if !rxFits v.rx false b.pos ∨ s.qpMtu q < n ∨ m.room < m.got + n ∨ (ends ∧ m.got + n ≠ m.room)
      ∨ msgMax < m.room then s.nakError q .nakInvalid b.psn
  else if v.rx.isNone ∧ !s.winOk q b.va b.rkey b.dmaLen true then s.nakError q .nakAccess b.psn
  else if imm.isSome ∧ !bound ∧ !s.recvReady q then s.sendAck q .nakRnr b.psn
  else
    let placed := (NTbl.at none v.ahead b.psn).isSome
    let (st, _, s1) := if placed then (0, 0, s) else s.wr (s.qpSrc q) (m.addr + m.got) b.payload
    if st ≠ 0 then s1.nakError q (nakOf st) b.psn
    else
      let s2 := s1.setQp q { s1.qp q with ahead := NTbl.put none (s1.qp q).ahead b.psn none }
      let s3 := s2.rxDone q ends (some { m with got := m.got + n, left := m.left - n })
      (match imm with
        | some im => s3.immIn q (m.got + n) im.toNat
        | none => s3).thenAhead q

/-- A WRITE Only packet within 256 beyond the expected PSN, placed at once under SACK (10 R402). -/
def State.writeAhead (s : State) (q : Nat) (b : Bth) : State :=
  let v := s.qp q
  if (NTbl.at none v.ahead b.psn).isSome then s.sendAck q .ack (psnDist (s.f .ETH_QP_PSN_RQ_PSN q) 1)
  else if s.qpMtu q < b.payload.length ∨ b.payload.length ≠ b.dmaLen ∨ msgMax < b.dmaLen then s.nakError q .nakInvalid b.psn
  else if !s.winOk q b.va b.rkey b.dmaLen true then s.nakError q .nakAccess b.psn
  else
    let (st, _, s1) := s.wr (s.qpSrc q) b.va b.payload
    if st ≠ 0 then s1.nakError q (nakOf st) b.psn
    else
      let e : Option Nat × Nat := (b.imm.map BitVec.toNat, b.payload.length)
      (s1.setQp q { s1.qp q with ahead := NTbl.put none (s1.qp q).ahead b.psn (some e) }).sendAck q .ack
        (psnDist (s1.f .ETH_QP_PSN_RQ_PSN q) 1)

/-- A SEND packet that fits a receive buffer taken before. -/
def State.sendInto (s : State) (q : Nat) (b : Bth) (m : RxMsg) : State :=
  let n := b.payload.length
  let ends : Bool := posEnds b.pos
  let fail (s : State) (st : Nat) : State :=
    ((s.setQp q { s.qp q with rx := none }).recvRecord q st 0 m.wrId none m.wrIdx).qpFlush q
  if msgMax < m.got + n then s.nakError q .nakInvalid b.psn
  else if m.room < m.got + n then fail s qsLength
  else
    let (st, _, s1) := s.wr (s.qpSrc q) (m.addr + m.got) b.payload
    if st ≠ 0 then fail s1 qsLocal
    else
      let m1 := { m with got := m.got + n, left := m.left - n }
      if ends then
        let s2 := ((s1.setQp q { s1.qp q with rx := none, sinceAck := 0, msn := (s1.qp q).msn + 1 }).rqStep q 1)
        (s2.recvRecord q qsOk m1.got m.wrId (b.imm.map BitVec.toNat) m.wrIdx).ackNow q
      else s1.rxDone q false (some m1)

/-- A SEND packet with the expected PSN (10 R398, R400, R403; 11 R419). -/
def State.sendIn (s : State) (q : Nat) (b : Bth) : State :=
  let v := s.qp q
  if (s.boundTo q).isSome ∨ !rxFits v.rx true b.pos ∨ s.qpMtu q < b.payload.length then s.nakError q .nakInvalid b.psn
  else match v.rx with
    | some m => s.sendInto q b m
    | none =>
      if !s.recvReady q then s.sendAck q .nakRnr b.psn
      else
        let (st, w, i, s1) := s.takeRecv q
        if st ≠ qsOk then (s1.recvRecord q st 0 (leAt w 0 8) none i).qpFlush q
        else s1.sendInto q b { send := true, addr := leAt w 8 8, got := 0, room := leAt w 16 4, rkey := 0,
                               left := leAt w 16 4, wrId := leAt w 0 8, wrIdx := i }

/-- What every inbound request does first: whether it goes on, and the state. -/
def State.rxStart (s : State) (q : Nat) (b : Bth) : Bool × State :=
  if !s.qpActs q ∨ !(s.qpState q = 2 ∨ s.qpState q = 3) then (false, s)
  else
    let s1 := s.cnpFor q b.ecnCe
    if !b.supported then (false, s1.nakError q .nakInvalid b.psn) else (true, s1)

/-- SEND_PACKET. -/
def execSendPacket (q : Nat) (b : Bth) (s : State) : Res :=
  parkIf (.sendPacket q b) (ParkKey.qp q).no (fun s =>
    let (go, s1) := s.rxStart q b
    if !go then .next s1.sheafSettle
    else match s1.psnPlace q b.psn with
      | .expected =>
        let s2 := s1.sendIn q b
        .next (if s2.f .ETH_QP_PSN_RQ_PSN q = s1.f .ETH_QP_PSN_RQ_PSN q then s2 else s2.thenAhead q).sheafSettle
      | .ahead _ => .next (s1.gapNak q).sheafSettle
      | .duplicate => .next (s1.ackNow q).sheafSettle) s

/-- RDMA_WRITE_PACKET. -/
def execRdmaWritePacket (q : Nat) (b : Bth) (s : State) : Res :=
  parkIf (.rdmaWritePacket q b) (ParkKey.qp q).no (fun s =>
    let (go, s1) := s.rxStart q b
    if !go then .next s1.sheafSettle
    else match s1.psnPlace q b.psn with
      | .expected => .next (s1.writeIn q b).sheafSettle
      | .ahead d =>
        if s1.f .ETH_QP_CTL_SACK q = 1 ∧ b.pos = .only ∧ d ≤ 256 then .next (s1.writeAhead q b).sheafSettle
        else .next (s1.gapNak q).sheafSettle
      | .duplicate => .next (s1.ackNow q).sheafSettle) s

/-! ### READ (10 R394, R399, R401, R404) -/

/-- BTH opcode of response packet `i` of `n`. -/
def readOp (n i : Nat) : Nat := if n = 1 then 0x10 else if i = 0 then 0x0D else if i + 1 = n then 0x0F else 0x0E

/-- Serves a READ: its response packets, those before the first poisoned byte if there is one. -/
def State.readServe (s : State) (q : Nat) (b : Bth) : State :=
  if msgMax < b.dmaLen then s.nakError q .nakInvalid b.psn
  else if !s.winOk q b.va b.rkey b.dmaLen false then s.nakError q .nakAccess b.psn
  else
    let (r, s1) := s.rd (s.qpSrc q) b.va b.dmaLen
    if 1 < r.status then s1.nakError q (nakOf r.status) b.psn
    else
      let mtu := s.qpMtu q
      let cs := chunks mtu (b.dmaLen / mtu + 1) r.data
      let n := cs.length
      let good := if r.poison = [] then n else goodBytes b.va b.dmaLen r.poison / mtu
      let s2 := (cs.take good).zipIdx.foldl (fun s x =>
        s.pktOut q { psn := psnAdd b.psn x.2, kind := readOp n x.2, payload := x.1,
                     fields := if readOp n x.2 = 0x0E then [] else [s1.aeth q .ack] }) s1
      if r.poison = [] then s2
      else s2.nakError q .nakOp (psnAdd b.psn good)

/-- RDMA_READ_REQUEST. -/
def execRdmaReadRequest (q : Nat) (b : Bth) (s : State) : Res :=
  parkIf (.rdmaReadRequest q b) (ParkKey.qp q).no (fun s =>
    let (go, s1) := s.rxStart q b
    if !go then .next s1.sheafSettle
    else match s1.psnPlace q b.psn with
      | .expected =>
        .next ((((s1.rqStep q (max 1 (ceilDiv b.dmaLen (s1.qpMtu q)))).msgDone q).readServe q b).thenAhead q).sheafSettle
      | .ahead _ => .next (s1.gapNak q).sheafSettle
      | .duplicate => .next (s1.readServe q b).sheafSettle) s

/-- READ data for the oldest READ outstanding: placed, and the READ ends once all of it is there. -/
def State.readData (s : State) (q : Nat) (w : Wqe) (b : Bth) : State :=
  let n := b.payload.length
  let (st, _, s1) := s.wr (s.qpSrc q) (w.laddr + w.got) b.payload
  if st ≠ 0 then s1.failSend q qsLocal
  else
    let full := decide (w.len ≤ w.got + n)
    let v := s1.qp q
    let upd (x : Wqe) : Wqe := if x.psn = w.psn ∧ x.reading then
        { x with got := x.got + n, st := if full then some qsOk else none } else x
    let v1 : Qp := { v with wqes := v.wqes.map upd, retries := 0, rnr := 0,
                            unacked := if full then v.unacked.filter (fun p => p.psn != w.psn) else v.unacked }
    (s1.setQp q v1).qpRetire q

/-- RDMA_READ_RESPONSE: the next packet of the oldest READ; any other is dropped. -/
def execRdmaReadResponse (q : Nat) (b : Bth) (s : State) : Res :=
  parkIf (.rdmaReadResponse q b) (ParkKey.qp q).no (fun s =>
    if !s.qpActs q ∨ s.qpState q ≠ 3 then .next s
    else
      let s0 := s.cnpFor q b.ecnCe
      match (s0.qp q).wqes.find? Wqe.reading with
      | none => .next s0
      | some w =>
        if b.psn ≠ psnAdd w.psn (w.got / s0.qpMtu q) ∨ s0.qpMtu q < b.payload.length ∨ w.len < w.got + b.payload.length
            ∨ (w.got + b.payload.length < w.len ∧ b.payload.length ≠ s0.qpMtu q) then .next s0
        else
          let s1 := s0.ackTo q (psnDist w.psn 1)
          .next (if s1.qpState q = 3 then s1.readData q w b else s1).sheafSettle) s

/-! ### Acknowledgements (10 R401-R403) -/

/-- Sends again everything unacknowledged, or gives up after RETRY_CNT retries without progress. -/
def State.retryAll (s : State) (q : Nat) : State :=
  let v := s.qp q
  if v.unacked = [] then s
  else if s.f .ETH_QP_CTL_RETRY_CNT q ≤ v.retries then s.failSend q qsRetry
  else (s.setQp q { v with retries := v.retries + 1, unacked := v.unacked.map (fun p => { p with again := false }) }).pktResend q
    v.unacked

/-- A receiver-not-ready NAK: sent again, or given up after RNR_RETRY of them. -/
def State.rnrRetry (s : State) (q : Nat) : State :=
  let v := s.qp q
  let lim := s.f .ETH_QP_CTL_RNR_RETRY q
  if lim ≠ 7 ∧ lim ≤ v.rnr + 1 then s.failSend q qsRnr
  else (s.setQp q { v with rnr := v.rnr + 1 }).pktResend q v.unacked

/-- Whether a SACK block after an ACK of a PSN shows a packet received. -/
def sackHas (psn : Nat) (sack : List Nat) (p : SentPkt) : Bool :=
  let d := psnDist p.psn psn
  decide (2 ≤ d) && sack.contains (d - 2)

/-- Whether it shows a packet missing with three later ones received (10 R402). -/
def sackMisses (psn : Nat) (sack : List Nat) (p : SentPkt) : Bool :=
  let d := psnDist p.psn psn
  !sackHas psn sack p && decide (1 ≤ d ∧ d < 2 ^ 23) && decide (3 ≤ (sack.filter (fun i => decide (d < i + 2))).length)

/-- An ACK with a SACK block: packets received are kept no longer, and those missing are sent again, once (10 R402). -/
def State.sackIn (s : State) (q psn : Nat) (sack : List Nat) : State :=
  let left := (s.qp q).unacked.filter (fun p => !sackHas psn sack p)
  let l := left.filter (fun p => sackMisses psn sack p && !p.again)
  let s1 := s.setQp q { s.qp q with
    unacked := left.map (fun p => if sackMisses psn sack p then { p with again := true } else p) }
  if l = [] then s1 else s1.pktResend q l

/-- ACKNOWLEDGE; `sack` lists the bits set in the SACK block. -/
def execAcknowledge (q psn : Nat) (a : Ack) (sack : List Nat) (s : State) : Res :=
  parkIf (.acknowledge q psn a sack) (ParkKey.qp q).no (fun s =>
    if !s.qpActs q ∨ s.qpState q ≠ 3 then .next s
    else
      let prev := psnDist psn 1
      let s1 := (s.cnpFor q a.ce).ackTo q (if a.kind = .ack then psn else prev)
      if s1.qpState q ≠ 3 then .next s1.sheafSettle
      else .next (match a.kind with
        | .ack => if s1.f .ETH_QP_CTL_SACK q = 1 then s1.sackIn q psn sack else s1
        | .nakSeq => s1.retryAll q
        | .nakRnr => s1.rnrRetry q
        | .nakAccess => s1.failSend q qsAccess
        | .nakInvalid => s1.failSend q qsInvalid
        | .nakOp => s1.failSend q qsOp).sheafSettle) s

/-- ACK_TIMEOUT. -/
def execAckTimeout (q : Nat) (s : State) : Res :=
  parkIf (.ackTimeout q) (ParkKey.qp q).no (fun s => if !s.qpActs q ∨ s.qpState q ≠ 3 then .next s else .next (s.retryAll q).sheafSettle) s

/-! ### Congestion control (10 R406) -/

/-- CNP: one cut in each CUT_HOLD_US. -/
def execCnp (q : Nat) (s : State) : Res :=
  if !s.qpActs q ∨ s.qpState q ≠ 3 then .next s
  else
    let s1 := s.count .ETH_QP_COUNT_CNP_RX q 0 32 1
    let v := s1.qp q
    let held : Bool := match v.lastCut with
      | some t => decide (s.now < t + s.f .ETH_CC_CFG_CUT_HOLD_US)
      | none => false
    if s.f .ETH_CFG_CC_EN = 0 ∨ held then .next (s1.setQp q { v with cnpSeen := true })
    else
      let r := s.rateNow q
      let cut := max (s.f .ETH_CC_CFG_RATE_MIN) (r * (256 - s.f .ETH_CC_CFG_CUT_NUM) / 256)
      .next ((s1.setQp q { v with target := r, lastCut := some s.now, quiet := 0, cnpSeen := true }).setF
        .ETH_QP_RATE_RATE_NOW q 0 (min cut (s.f .ETH_QP_RATE_RATE_MAX q)))

/-- The end of a rise period for one queue pair that sent in it. -/
def State.rise (s : State) (q : Nat) : State :=
  let v := s.qp q
  if v.cnpSeen ∨ s.qpState q ≠ 3 ∨ s.f .ETH_CFG_CC_EN = 0 then s
  else
    let mx := s.f .ETH_QP_RATE_RATE_MAX q
    let quiet := v.quiet + 1
    let rec_ := s.f .ETH_CC_CFG_RECOVER_STEPS
    let t := if rec_ < quiet then min mx (v.target + min (quiet - rec_) 8 * s.f .ETH_CC_CFG_RISE_STEP) else v.target
    (s.setQp q { v with quiet, target := t }).setF .ETH_QP_RATE_RATE_NOW q 0
      (min mx ((s.rateNow q + t) / 2))

/-- RISE_PERIOD. -/
def execRisePeriod (s : State) : Res :=
  if !(s.dom 21).running then .next s
  else .next (s.eth.qps.foldl (fun s e =>
    let s1 := if e.2.sentNow then s.rise e.1 else s
    s1.setQp e.1 { s1.qp e.1 with sentNow := false, cnpSeen := false }) s)

/-- IDLE_RESET. -/
def execIdleReset (q : Nat) (s : State) : Res :=
  if !s.qpActs q ∨ s.qpState q ≠ 3 ∨ s.f .ETH_CFG_CC_EN = 0 then .next s
  else
    let mx := s.f .ETH_QP_RATE_RATE_MAX q
    .next ((s.setQp q { s.qp q with target := mx, quiet := 0 }).setF .ETH_QP_RATE_RATE_NOW q 0 mx)

end Sys2Proof.Machine
end

