-- ==== Sys2Proof/Machine/Ingest.lean ====
section
/-! DEFINITION. Ingest streams: rows, slots, records (10 R407-R412). -/

namespace Sys2Proof.Machine

/-- A stream. -/
def State.ing (s : State) (k : Nat) : Ing := NTbl.at {} s.eth.streams k

/-- Sets a stream. -/
def State.setIng (s : State) (k : Nat) (v : Ing) : State :=
  { s with eth := { s.eth with streams := NTbl.put {} s.eth.streams k v } }

/-- Rows of a slot, slots of the ring, bytes of a row, and bytes from one slot to the next (10 R409). -/
def State.ingRows (s : State) (k : Nat) : Nat := 2 ^ s.f .ETH_ING_CFG_LOG2_ROWS k
def State.ingSlots (s : State) (k : Nat) : Nat := 2 ^ s.f .ETH_ING_CFG_LOG2_SLOTS k
def State.rowBytes (s : State) (k : Nat) : Nat := s.f .ETH_ING_ROWCFG_ROW_BYTES k
def State.ingStride (s : State) (k : Nat) : Nat := alignUp (s.ingRows k * s.rowBytes k) 4096

/-- Address of row `r` of slot number `j`. -/
def State.rowAddr (s : State) (k j r : Nat) : Nat :=
  s.f .ETH_ING_SLOT_BASE_BASE k * 4096 + j % s.ingSlots k * s.ingStride k + r * s.rowBytes k

/-- The cycle count of the ETH domain. -/
def State.ethCycles (s : State) : Nat := (s.dom 21).cycles

/-- A slot closes: missing rows are filled, the record is written, the tally signalled (10 R411, R412). -/
def State.slotClose (s : State) (k : Nat) (t : IngSlot) (cause : Nat) : State :=
  let plot := s.plotOfStream k
  let fill := s.f .ETH_ING_CFG_FILL k
  let missing := (List.range (s.ingRows k)).filter (fun r => !t.rows.contains r)
  let s1 := if fill = 1 then s
    else missing.foldl (fun s r =>
      (s.wr (s.ingSrc k) (s.rowAddr k t.no r) (List.replicate (s.rowBytes k) (if fill = 0 then 0 else 0xFF))).2.2) s
  let phase := if t.no / s.ingSlots k % 2 = 0 then 128 else 0
  let rec_ := leBytes 4 t.first ++ leBytes 4 t.rows.length ++ leBytes 4 missing.length ++ leBytes 1 cause
    ++ leBytes 1 phase ++ leBytes 2 0 ++ leBytes 8 t.c0 ++ leBytes 8 t.c1
  let (_, _, s2) := s1.wr (s.ingSrc k) (s.f .ETH_ING_REC_BASE_BASE k * 4096 + t.no % s.ingSlots k * 32) rec_
  let v := s2.ing k
  let s3 := (s2.setIng k { v with slots := v.slots.filter (fun x => x.no != t.no) }).setF .ETH_ING_STATUS_TAIL k 0
    ((s2.f .ETH_ING_STATUS_TAIL k + 1) % 2 ^ 32)
  s3.signalTally (tallyNo plot (s3.f .ETH_ING_CFG_TALLY k)) 1

/-- Whether FIRST_SEQ `a` is newer than `b` in serial arithmetic (10 R409). -/
def seqNewer (a b : Nat) : Bool := decide (a ≠ b) && decide (idxDist a b < 2 ^ 31)

/-- What 10 R410 does with a row. -/
inductive RowEnd where
  | write (t : IngSlot) | dup | late | fresh
  deriving DecidableEq, Repr

/-- The row of the table of 10 R410 that applies; a row between two open slots, or of no slot newer than the last opened,
can open none and is late (log 28). -/
def Ing.judge (v : Ing) (first r : Nat) : RowEnd :=
  match v.slots.find? (fun t => t.first == first) with
  | some t => if t.rows.contains r then .dup else .write t
  | none =>
    let newer : Bool := match v.last with
      | some f => seqNewer first f
      | none => true
    if newer && v.slots.all (fun t => seqNewer first t.first) then .fresh
    else .late

/-- Writes a row into an open slot; the last row closes it. -/
def State.rowIn (s : State) (k : Nat) (t : IngSlot) (r : Nat) (row : Bytes) : State :=
  let (_, _, s1) := s.wr (s.ingSrc k) (s.rowAddr k t.no r) row
  let t1 := { t with rows := t.rows ++ [r], c1 := s.ethCycles }
  let v := s1.ing k
  let s2 := (s1.setIng k { v with slots := v.slots.map (fun x => if x.no = t.no then t1 else x),
                                  accepted := v.accepted + 1 }).count .ETH_ING_ROWS_COUNT k 0 64 1
  if t1.rows.length = s2.ingRows k then s2.slotClose k t1 0 else s2

/-- A row for a new slot: the oldest of two open slots closes first; without a free slot the row is an overrun. -/
def State.rowFresh (s : State) (k first r : Nat) (row : Bytes) : State :=
  let s1 := match (s.ing k).slots with
    | t :: _ :: _ => s.slotClose k t 1
    | _ => s
  let j := s1.f .ETH_ING_STATUS_OPENED k
  if idxDist j (s1.f .ETH_ING_HEAD_HEAD k) < s1.ingSlots k then
    let t : IngSlot := { first, no := j, rows := [], c0 := s1.ethCycles, c1 := s1.ethCycles }
    let v := s1.ing k
    ((s1.setIng k { v with slots := v.slots ++ [t], last := some first }).setF .ETH_ING_STATUS_OPENED k 0
      ((j + 1) % 2 ^ 32)).rowIn k t r row
  else (s1.count .ETH_ING_DROPS_OVERRUN k 0 16 1).raiseLimited 10000 0x6030 sevDeferred 9 k [k]

/-- A row of a stream (10 R408, R410). -/
def State.ingRow (s : State) (k seq : Nat) (row : Bytes) : State :=
  if row.length ≠ s.rowBytes k then s.count .ETH_ING_DROPS_BADLEN k 0 16 1
  else
    let r := seq % s.ingRows k
    match (s.ing k).judge (seq - r) r with
    | .write t => s.rowIn k t r row
    | .dup => s.count .ETH_ING_DROPS_DUP k 0 16 1
    | .late => s.count .ETH_ING_DROPS_LATE k 0 16 1
    | .fresh => s.rowFresh k (seq - r) r row

/-- INGEST_DATAGRAM: the row goes to the first enabled stream that its port and source match. -/
def execIngestDatagram (port src : Nat) (payload : Bytes) (s : State) : Res :=
  match s.streamFor port src with
  | none => .next s
  | some k => parkIf (.ingestDatagram port src payload) (ParkKey.ingest k).no (fun s =>
    if !(s.dom 21).running ∨ s.f .PWR_STATUS_STOP = 1 ∨ s.scrubbing (s.plotOfStream k) then .next s
    else if s.f .ETH_ING_CFG_MODE k = 1 then .next (s.ingRow k ((s.ing k).accepted % 2 ^ 32) payload)
    else if payload.length < 8 then .next (s.count .ETH_ING_DROPS_BADLEN k 0 16 1)
    else .next (s.ingRow k (beAt payload 0 4) (payload.drop 8))) s

/-- SLOT_TIMEOUT: SLOT_US after its first row the oldest open slot closes. -/
def execSlotTimeout (k : Nat) (s : State) : Res :=
  parkIf (.slotTimeout k) (ParkKey.ingest k).no (fun s =>
    match (s.ing k).slots with
    | t :: _ => .next (if s.f .ETH_ING_ROWCFG_SLOT_US k = 0 then s else s.slotClose k t 2)
    | [] => .next s) s

/-- Whether an enabled stream of another owner has a UDP port (10 R407). -/
def State.portTaken (s : State) (k port : Nat) : Bool :=
  (List.range 64).any (fun j => s.f .ETH_ING_CFG_ENABLE j == 1 && s.f .ETH_ING_CFG_UDP_PORT j == port
    && s.plotOfStream j != s.plotOfStream k)

/-- The fields of ETH_ING_CFG with their places (10 R417). -/
def ingFields : List (Fid × Nat × Nat) :=
  [(.ETH_ING_CFG_UDP_PORT, 63, 48), (.ETH_ING_CFG_TALLY, 43, 32), (.ETH_ING_CFG_LOG2_SLOTS, 19, 16),
   (.ETH_ING_CFG_LOG2_ROWS, 12, 8), (.ETH_ING_CFG_FILL, 5, 4), (.ETH_ING_CFG_SRC_FILTER, 2, 2), (.ETH_ING_CFG_MODE, 1, 1)]

/-- Enabling a stream whose configuration is in place. -/
def State.ingEnable (s : State) (k : Nat) : WRes :=
  let p := s.plotOfStream k
  if !s.ringOk p (s.f .ETH_ING_SLOT_BASE_BASE k * 4096) (s.ingSlots k * s.ingStride k) true
      ∨ !s.ringOk p (s.f .ETH_ING_REC_BASE_BASE k * 4096) (s.ingSlots k * 32) true then (hBadArg, s)
  else if s.portTaken k (s.f .ETH_ING_CFG_UDP_PORT k) then (hOwned, s)
  else
    let s1 := ((s.setF .ETH_ING_HEAD_HEAD k 0 0).setF .ETH_ING_STATUS_TAIL k 0 0).setF .ETH_ING_STATUS_OPENED k 0 0
    (hOk, (s1.setIng k {}).setF .ETH_ING_CFG_ENABLE k 0 1)

/-- Disabling a stream closes its open slots (10 R411). -/
def State.ingDisable (s : State) (k : Nat) : State :=
  ((s.ing k).slots.foldl (fun s t => s.slotClose k t 3) s).setF .ETH_ING_CFG_ENABLE k 0 0

/-- A write of ETH_ING_CFG (10 R407). -/
def State.ingCfg (s : State) (k v : Nat) : WRes :=
  let same := ingFields.all (fun x => s.f x.1 k == bits v x.2.1 x.2.2)
  if s.f .ETH_ING_CFG_ENABLE k = 1 then
    if !same then (hBusy, s) else (hOk, if bit v 0 then s else s.ingDisable k)
  else
    let s1 := ingFields.foldl (fun s x => s.setF x.1 k 0 (bits v x.2.1 x.2.2)) s
    if bit v 0 then
      let (st, s2) := s1.ingEnable k
      (st, if st = hOk then s2 else s)
    else (hOk, s1)

end Sys2Proof.Machine
end

