-- ==== Sys2Proof/Machine/SheafRun.lean ====
section
/-! DEFINITION. Sheaf: START, CANCEL, arriving messages and deadlines (11 R424-R442). -/

namespace Sys2Proof.Machine

/-! ### START and CANCEL (11 R427, R436, R442) -/

/-- Whether KIND, ALGO and ALIAS match a row of 11 R425, and no field holds a reserved value. -/
def ShCfg.kindOk (c : ShCfg) : Bool :=
  (if c.tree then decide (2 ≤ c.arity ∧ c.arity ≤ 8) && (c.kind == 1 || c.kind == 4 || c.kind == 5)
    else c.arity == 0 && decide (1 ≤ c.kind ∧ c.kind ≤ 3))
    && (if c.kind = 3 ∨ c.kind = 5 then c.alias_ == 0 else decide (1 ≤ c.alias_ ∧ c.alias_ ≤ 4))

/-- Whether sizes are as 11 R420, R426 and R441 require. -/
def ShCfg.sizeOk (c : ShCfg) : Bool :=
  decide (1 ≤ c.size ∧ c.size ≤ 2 ^ 20 ∧ c.rank < c.size) && decide (0 < c.len) && c.len % 256 == 0
    && decide (4096 ≤ c.seg ∧ c.seg ≤ 2 ^ 31) && c.seg % 4096 == 0

/-- Whether a START is accepted. -/
def State.shStartOk (s : State) (x : Nat) : Bool :=
  let c := s.shCfg x
  c.kindOk && c.sizeOk && s.f .SHEAF_CTX_TIMEOUT_PROGRESS_MS x != 0 && s.ringOk (s.shPlot x) c.buf c.len true
    && (List.range 9).all (fun i => (s.f .SHEAF_CTX_NBR_QP_VALID x i == 1) == (c.nbr i).isSome
      && ((c.nbr i).isNone || s.qpState (s.f .SHEAF_CTX_NBR_QP_QP x i) == 3))

/-- Takes back the report limit of a context's LAG: the first of a run is always reported (11 R439). -/
def State.lagFresh (s : State) (x : Nat) : State :=
  { s with mesh := { s.mesh with limits := PTbl.put {} s.mesh.limits 0x6808 x {} } }

/-- The beginning of a run. -/
def State.shBegin (s : State) (x epoch : Nat) : State :=
  let c := s.shCfg x
  let r : ShRun := { start := s.now, cyc := s.ethCycles, due := s.now + s.shProgress x }
  let s1 := (((s.setF .SHEAF_CTX_STATUS_STATE x 0 1).setF .SHEAF_CTX_STATUS_EPOCH x 0 epoch).setF
    .SHEAF_CTX_STATUS_PHASE x 0 0).setF .SHEAF_STATUS_ACTIVE 0 0 (setBit (s.f .SHEAF_STATUS_ACTIVE) x true)
  let s2 := ((s1.setRun x r).lagFresh x).shPhase x r
  let s3 := (List.range 9).foldl (fun s i => if 0 < c.recvCount i then s.shNote x i 1 c.rank else s) s2
  let s4 := (List.range 9).foldl (fun s i => s.shReady x i) s3
  let s5 := if s4.halfHeld then s4.shLagAll x else s4
  (s5.shPump x).shCheck x

/-- A write of START. -/
def State.shStart (s : State) (x epoch : Nat) : WRes :=
  if s.shState x ≠ 0 then (hBusy, s)
  else if !s.shStartOk x then (hBadArg, s.setF .SHEAF_CTX_STATUS_LAST_STATUS x 0 8)
  else (hOk, s.shBegin x epoch)

/-- A write of SHEAF_CTX_CTL (11 R441, R442). -/
def State.shCtl (s : State) (x v : Nat) : WRes :=
  if bit v 0 then s.shStart x (bits v 7 4)
  else if bit v 1 ∧ s.shState x = 1 then (hOk, (s.shFail x 6 0).shCheck x)
  else (hOk, s)

/-! ### Neighbour entries and owners (11 R418, R419, R441) -/

/-- A write of SHEAF_CTX_NBR_QP: the queue pair must be the owner's and bound nowhere else. -/
def State.shNbrQp (s : State) (x i v : Nat) : WRes :=
  let q := bits v 12 0
  let other : Bool := match s.boundTo q with
    | some (y, _) => y != x
    | none => false
  if s.shState x ≠ 0 then (hBusy, s)
  else if bit v 24 ∧ (other ∨ s.plotOfQp q ≠ s.shPlot x) then (hOwned, s)
  else
    let s1 := ((s.setF .SHEAF_CTX_NBR_QP_RKEY x i (bits v 63 32)).setF .SHEAF_CTX_NBR_QP_VALID x i (bits v 24 24)).setF
      .SHEAF_CTX_NBR_QP_QP x i q
    let c := s1.shc x
    (hOk, if bit v 24 then s1 else s1.setShc x { c with ready := NTbl.put none c.ready i none })

/-- A context returns to the operator, IDLE, with every neighbour entry invalid and no record (11 R418). -/
def State.shRelease (s : State) (x : Nat) : State :=
  let s1 := if s.shState x = 0 then s else s.sheafIdle x
  let s2 := (s1.setShc x {}).setF .SHEAF_CTX_OWNER_PLOT_VALID x 0 0
  (List.range 9).foldl (fun s i => s.setF .SHEAF_CTX_NBR_QP_VALID x i 0) (s2.setF .SHEAF_CTX_OWNER_PLOT x 0 0)

/-! ### Messages and deadlines -/

/-- A message of a kind whose data is performed arrives on a queue pair. -/
def State.shMessage (s : State) (kind q : Nat) (imm : BitVec 32) : State :=
  if bits imm.toNat 31 28 = kind ∧ s.qpActs q ∧ (s.boundTo q).isSome then (s.sheafArrive q imm.toNat).sheafSettle else s

/-- READY. -/
def execReady (q : Nat) (imm : BitVec 32) (s : State) : Res :=
  parkIf (.ready q imm) (ParkKey.qp q).no (fun s => .next (s.shMessage 1 q imm)) s

/-- SHEAF_DATA. -/
def execSheafData (q : Nat) (imm : BitVec 32) (s : State) : Res :=
  parkIf (.sheafData q imm) (ParkKey.qp q).no (fun s => .next (s.shMessage 0 q imm)) s

/-- LAG. -/
def execLag (q : Nat) (imm : BitVec 32) (s : State) : Res :=
  parkIf (.lag q imm) (ParkKey.qp q).no (fun s => .next (s.shMessage 2 q imm)) s

/-- ABORT. -/
def execAbort (q : Nat) (imm : BitVec 32) (s : State) : Res :=
  parkIf (.abort q imm) (ParkKey.qp q).no (fun s => .next (s.shMessage 3 q imm)) s

/-- The entry whose message a run has awaited longest. -/
def State.shLongest (s : State) (x : Nat) (r : ShRun) : Nat :=
  let c := s.shCfg x
  let l := (List.range 9).filter (fun i => (decide (0 < c.sendCount i) && !bit r.counted i) || decide (r.rxOf i < c.recvCount i))
  let t (i : Nat) : Nat := NTbl.at r.start r.lastRx i
  (l.find? (fun i => l.all (fun j => decide (t i ≤ t j)))).getD 0

/-- PROGRESS_DEADLINE. -/
def execProgressDeadline (x : Nat) (s : State) : Res :=
  parkIf (.progressDeadline x) (ParkKey.sheaf x).no (fun s =>
    match (s.shc x).run with
    | none => .next s
    | some r => if s.shState x ≠ 1 then .next s
      else .next ((s.shFail x 2 (s.shRank x (s.shLongest x r))).shCheck x)) s

/-- LAG_REPEAT. -/
def execLagRepeat (x : Nat) (s : State) : Res :=
  parkIf (.lagRepeat x) (ParkKey.sheaf x).no (fun s => .next (if s.halfHeld then (s.shLagAll x).sheafSettle else s)) s

end Sys2Proof.Machine
end

