-- ==== Sys2Proof/Machine/Publish.lean ====
section
/-! DEFINITION. Publication of the unit map, the end of bring-up (01 R26, R30, R34; 14 R540). -/

namespace Sys2Proof.Machine

/-- Every unit of a class without a state takes the one that a test gives it. -/
def State.publishClass (s : State) (c : UCls) (st : Nat → UState) : State :=
  (List.range c.size).foldl (fun s n =>
    if (s.unit c n).st = none then s.putUnit c n { s.unit c n with st := some (st n) } else s) s

/-- State an engine is published in that no rule has decided before. -/
def State.engineState (s : State) (e : Nat) : UState := if (s.dom e).ever then .present else .fallow

/-- State a site is published in that no rule has decided before. -/
def State.siteState (s : State) (n : Nat) : UState :=
  if (s.dom (siteDom n)).ever ∧ s.f .SITE_CFG_FITTED n = 1 then .present else .fallow

/-- An engine's port and clock at publication: idle, or off behind its fence; a RETIRED engine's domain is stopped
(14 R537). -/
def State.publishEngine (s : State) (e : Nat) : State :=
  if s.present .engine e then (s.setF .CE_STATUS_PSTATE e 0 1).setFence e 0
  else (((s.stopDom e).setF .CE_STATUS_PSTATE e 0 4).setFence e 2).railsFollow s

/-- A site's port at publication: one published FALLOW has no link, whatever it had trained before (09 R356, R334). -/
def State.publishSite (s : State) (n : Nat) : State :=
  if s.present .site n then s.siteDegSet n
  else if (s.unit .site n).st = some .fallow then
    let s1 := ((s.setRefclk n false).linkCut n).2.agentLost n
    let s2 := (s1.setLink n { lowUntil := s.now + 1000, retest := (s1.link n).retest }).setF .SITE_STATUS_LINK n 0 1
    (((s2.siteCapSet n).siteDegSet n).setFence (16 + n) 2).railsFollow s
  else s.setFence (16 + n) 2

/-- A memory site's capacity and DEGRADED flag at publication. -/
def State.publishMem (s : State) (n : Nat) : State :=
  (s.updateCap n).degMem n

/-- A RETIRED lane that the link uses makes the port fall back (10 R380; 14 R537). -/
def State.publishLanes (s : State) : State :=
  let used := s.f .ETH_STATUS_LANES_USED
  if s.f .ETH_STATUS_LINK = 3 ∧ !s.lanesOk used ∧ s.f .ETH_CFG_FALLBACK = 1 then
    let (c, s1) := s.freeBelow 256
    (s1.ethDrop c).ethFallback used
  else s

/-- Some memory site failed its start-up test. -/
def State.memSiteFailed (s : State) : Bool := (List.range 8).any (fun n => decide ((s.unit .memSite n).st = some .failed))

/-- UM_PUBLISHED: initialisation and training are complete; the unit map becomes valid as a whole and STAGE 3 is
reached. With a memory site that failed its start-up test the map is published all the same, and initialisation does
not complete (04 R186): no stage 3 then. -/
def execUmPublished (s : State) : Res :=
  if s.umReady ∨ (s.f .MEM_INIT_STATE ≠ 2 ∧ (s.f .MEM_INIT_STATE = 0 ∨ !s.memSiteFailed)) ∨ s.trainState ≠ 3 then .next s
  else
    let s1 := ((s.publishClass .engine s.engineState).publishClass .site s.siteState).publishClass .memSite (fun _ => .present)
    let s2 := ((s1.publishClass .channel (fun _ => .present)).publishClass .plane (fun _ => .present)).publishClass
      .ucie (fun _ => .present)
    let s3 := s2.publishClass .ethLane (fun _ => .present)
    let s4 := (List.range 48).foldl (fun s k => s.setDeg .ucie k (s.umWidth (k / 6) (k % 6) == 1 || s.umWidth (k / 6) (k % 6) == 2)) s3
    let s5 := (List.range 8).foldl (fun s n => ((s.publishEngine n).publishSite n).publishMem n) s4
    let s6a := { s5 with umReady := true, umGen := 1 }
    let s6 := if s.f .MEM_INIT_STATE = 2 then s6a.setF .HL_STATUS_STAGE 0 0 3 else s6a
    let s7 := (s6.raise 0x0068 sevNone 0 0 [1]).capChanged
    let s8 := if s7.sec.voteSplit then s7.raise 0x8001 sevCorrected 0 0 s7.fuses.lc else s7
    .next s8.publishLanes

end Sys2Proof.Machine
end

