-- ==== Sys2Proof/Machine/HlCore.lean ====
section
/-! DEFINITION. The Headland's sessions: the window, replies, closing; claims and locks (12 R446-R466). -/

namespace Sys2Proof.Machine

/-! ### Roles (12 R449, R450) -/

/-- PLOT that a session's commands carry. -/
def Session.plotByte (x : Session) : Nat := x.plot.getD 0xFF

/-- Whether a session is an operator's. -/
def State.isOperator (s : State) (n : Nat) : Bool := (s.sess n).plot.isNone

/-- Whether the Headland sends and receives: the CTL domain runs and the link is up. -/
def State.hlUp (s : State) : Bool := (s.dom 22).running && s.ethUp

/-! ### Claims (12 R463, R464) -/

/-- HL_CLAIM_k as a word (12 R475). -/
def Holder.word : Holder → Nat
  | .free => 0
  | .session n => 2 ^ 31 + 2 ^ 28 + n
  | .master id => 2 ^ 31 + 2 * 2 ^ 28 + id * 2 ^ 16

/-- The lock on a target, if any: its place in the table. -/
def State.lockAt (s : State) (kind target : Nat) : Option (Nat × LockEnt) :=
  (List.range 32).findSome? (fun i => match NTbl.at none s.hl.locks i with
    | some l => if l.kind = kind ∧ l.target = target then some (i, l) else none
    | none => none)

/-- Sets an entry of the lock table. -/
def State.setLock (s : State) (i : Nat) (l : Option LockEnt) : State :=
  s.setHl { s.hl with locks := NTbl.put none s.hl.locks i l }

/-- Whether a resource may be claimed by CC (12 R463). -/
def ccMayClaim (k : Nat) : Bool := k == 0 || k == 3

/-- Whether an identity may claim a resource. -/
def mayClaim (k id : Nat) : Bool := id == 0x70 || (ccMayClaim k && isCcCore id)

/-- A claim of a resource; debug passes locks (13 R505). -/
def State.claim (s : State) (k : Nat) (h : Holder) : WRes :=
  let locked : Bool := match s.lockAt 1 k with
    | some (_, l) => h != .session l.session && h != .master 0x70
    | none => false
  if s.claimOf k = h then (hOk, s)
  else if locked then (hOwned, s)
  else if s.claimOf k = .free then (hOk, s.setClaim k h)
  else (hBusy, s)

/-- A release. -/
def State.unclaim (s : State) (k : Nat) (h : Holder) : WRes :=
  if s.claimOf k = h then (hOk, s.setClaim k .free)
  else if s.claimOf k = .free then (hOk, s)
  else (hOwned, s)

/-! ### Locks (12 R465, R466) -/

/-- Base of the control block of an offset (01 R45), where it is one. -/
def blockBase (off : Nat) : Option Nat :=
  let b := off / 2 ^ 24
  if b = 1 ∨ b = 2 ∨ b = 3 then if off / 2 ^ 20 % 16 < 8 then some (off / 2 ^ 20 * 2 ^ 20) else none
  else if b = 6 then some (off / 2 ^ 23 * 2 ^ 23)
  else if b < 12 then some (b * 2 ^ 24) else none

/-- Whether LOCK accepts a target. -/
def lockable (kind target : Nat) : Bool :=
  if kind = 0 then decide (blockBase target = some target) && target != 0x07000000 && target != 0x08000000
  else kind == 1 && decide (target < 4)

/-- Owner of the block at a base: an engine's or a site's plot. -/
def State.blockPlot (s : State) (base : Nat) : Option Nat :=
  if base / 2 ^ 24 = 1 then s.plotOfEngine (base / 2 ^ 20 % 16)
  else if base / 2 ^ 24 = 3 then s.plotOfSite (base / 2 ^ 20 % 16) else none

/-- An operator LOCK of a resource revokes its claim and makes the session the holder. -/
def State.lockClaim (s : State) (n k : Nat) : State :=
  match s.claimOf k with
  | .session m => if m = n then s else (s.raise 0x7010 sevNone 12 m [k] (.sess m)).setClaim k (.session n)
  | .master id => (s.raise 0x7010 sevNone 0 0 [k, id] (.plots 0)).setClaim k (.session n)
  | .free => s.setClaim k (.session n)

/-- LOCK by session `n`: status, the session whose lock is revoked or 0xFF (DEDUCED), state. -/
def State.lock (s : State) (n kind target : Nat) : Nat × Nat × State :=
  let op := s.isOperator n
  let finish (rev : Nat) (s : State) : Nat × Nat × State :=
    (hOk, rev, if kind = 1 then s.lockClaim n target else s)
  let e : LockEnt := { session := n, kind, target }
  if !lockable kind target then (hBadArg, 0xFF, s)
  else if !op ∧ (kind = 1 ∨ s.blockPlot target ≠ (s.sess n).plot) then (hDenied, 0xFF, s)
  else match s.lockAt kind target with
    | some (i, l) =>
      if l.session = n then finish 0xFF s
      else if s.isOperator l.session ∨ !op then (hOwned, 0xFF, s)
      else finish l.session ((s.setLock i (some e)).raise 0x7018 sevNone 12 l.session [kind, target] (.sess l.session))
    | none => match (List.range 32).find? (fun i => decide (NTbl.at none s.hl.locks i = none)) with
      | some i => finish 0xFF (s.setLock i (some e))
      | none => (hBusy, 0xFF, s)

/-- UNLOCK by session `n`; a target nobody holds is left as it is (log 29). -/
def State.unlock (s : State) (n kind target : Nat) : WRes :=
  if !lockable kind target then (hBadArg, s)
  else match s.lockAt kind target with
    | none => (hOk, s)
    | some (i, l) => if l.session = n then (hOk, s.setLock i none) else (hOwned, s)

/-- Whether a lock keeps a write to an offset from a session, or from an on-module master (12 R466). -/
def State.lockRefuses (s : State) (off : Nat) (sess : Option Nat) : Bool :=
  match (blockBase off).bind (s.lockAt 0) with
  | none => false
  | some (_, l) => match sess with
    | some n => l.session != n
    | none => s.isOperator l.session

/-! ### Closing a session (12 R452; 14 R528, R534) -/

/-- Claims, locks and buffers that a session gives up. -/
def State.giveUp (s : State) (n : Nat) : State :=
  let s1 := (List.range 4).foldl (fun s k => if s.claimOf k = .session n then s.setClaim k .free else s) s
  let s2 := s1.setHl { s1.hl with locks := s1.hl.locks.filter (fun e => match e.2 with
    | some l => l.session != n
    | none => false) }
  let s3 := if s2.boot.holder = some n then { s2 with boot := { s2.boot with holder := none } } else s2
  if s3.boot.bufHolder = some n ∧ s3.trainState = 1 then
    { s3 with boot := { s3.boot with buf := [], bufHolder := none } }.setF .GLB_TRAIN_STATUS_STATE 0 0 0
  else s3

/-- A session closes: SESSION_CLOSED is its last event; its key goes once that has been sent. -/
def State.sessClose (s : State) (n cause : Nat) : State :=
  if !(s.sess n).isOpen then s
  else
    let s1 := ((s.raise 0x7008 sevNone 12 n [cause] (.opSess n)).giveUp n)
    let x := s1.sess n
    let y : Session := if x.unsent = [] then {} else
      { plot := x.plot, unsent := x.unsent, evSeq := x.evSeq, lost := x.lost, peer := x.peer, key := x.key }
    let s2 := s1.setSess n y
    { s2 with sec := { s2.sec with bindings := NTbl.put [] s2.sec.bindings n [],
                                   credSlot := NTbl.put 0xFF s2.sec.credSlot n 0xFF } }

/-- Closes the sessions that satisfy a test. -/
def State.closeWhere (s : State) (cause : Nat) (t : Nat → Bool) : State :=
  (List.range 16).foldl (fun s n => if t n then s.sessClose n cause else s) s

/-! ### Replies (12 R443, R451) -/

/-- The authentication tag of a session's packet (12 R444): type, session, part, sequence number, header bytes 0-15 and
payload. -/
def authTag (key : Bytes) (type session part seq : Nat) (aad : Bytes) : Bytes :=
  slice (Config.gcmTag key (beBytes 1 type ++ beBytes 1 session ++ beBytes 1 part ++ beBytes 5 0 ++ beBytes 4 seq) aad) 0 16

/-- The header of a packet of the module (12 R443), but for LENGTH and AUTH. -/
structure HlHead where
  op : Nat
  tag : Nat
  session : Nat
  plot : Nat
  type : Nat
  status : Nat
  seq : Nat
  part : Nat := 0
  parts : Nat := 1
  deriving DecidableEq, Repr

/-- A packet of the module as a datagram (12 R443, R444); AUTH is zero where there is no key. -/
def hlPacket (key : Option Bytes) (h : HlHead) (payload : Bytes) : Bytes :=
  let head := beBytes 1 1 ++ beBytes 1 h.op ++ beBytes 2 h.tag ++ beBytes 1 h.session ++ beBytes 1 h.plot ++ beBytes 1 h.type
    ++ beBytes 1 h.status ++ beBytes 4 h.seq ++ beBytes 2 payload.length ++ beBytes 1 h.part ++ beBytes 1 h.parts
  head ++ (match key with
    | some k => authTag k h.type h.session h.part h.seq (head ++ payload)
    | none => List.replicate 16 0) ++ payload

/-- The datagrams of a reply, one for each part of at most 8,192 bytes (12 R443, R445; log 57). -/
def HReply.datagrams (r : HReply) (key : Option Bytes) : List Bytes :=
  let cs := chunks 8192 (r.payload.length / 8192 + 1) r.payload
  cs.zipIdx.map (fun x => hlPacket key {
    op := r.opcode, tag := r.tag, session := r.session, plot := r.plot, type := 1, status := r.status, seq := r.seq, part := x.2
    parts := cs.length } x.1)

/-- Sends a packet, in priority HL_PRIO (10 R389; 12 R448); while the link is down it is lost. -/
def State.hlEmit (s : State) (o : TxHdr → Out) : State := if s.hlUp then s.txStrict (o s.hlHdr) else s

/-- A reply of a session under its key; one without a session has AUTH zero (12 R449). -/
def State.replyOut (s : State) (r : HReply) : Out :=
  .reply s.hlHdr r (r.datagrams (if r.session = 0xFF then none else some (s.sess r.session).key))

/-- Sends a reply. -/
def State.hlSend (s : State) (r : HReply) : State := s.hlEmit (fun _ => s.replyOut r)

/-- The reply to a command. -/
def mkReply (n seq : Nat) (c : HCmd) (status : Nat) (payload : Bytes) : HReply :=
  { session := n, opcode := c.opcode, tag := c.tag, plot := c.plot, status, seq, payload, peer := c.peer }

/-- Answers the command at NEXT: the reply is retained, the window moves, and NEXT past its end closes the session. -/
def State.hlReply (s : State) (n : Nat) (c : HCmd) (status : Nat) (payload : Bytes) : State :=
  let x := s.sess n
  if !x.isOpen then s
  else
    let r := mkReply n x.next c status payload
    let kept := x.retained ++ [(x.next, r)]
    let y : Session := { x with
      next := x.next + 1, window := NTbl.put none x.window x.next none, polling := none
      retained := kept.drop (kept.length - 8) }
    let s1 := (s.setSess n y).hlSend r
    if x.next = 0xFFFFFFFF then s1.sessClose n 3 else s1

/-- Answers a session's waiting commands with ABORTED, in SEQ order (12 R460). -/
def State.abortWindow (s : State) (n : Nat) (but : Option Nat) : State :=
  let x := s.sess n
  let s1 := x.window.foldl (fun s e => match e.2 with
    | some c => if but = some e.1 then s else s.hlSend (mkReply n e.1 c hAborted [])
    | none => s) s
  if x.isOpen then s1.setSess n { x with window := x.window.filter (fun e => but == some e.1), polling := none } else s1

/-- The Headland stops: every other command executing or waiting is answered with ABORTED (12 R460; 13 R480). -/
def State.hlQuiesce (s : State) (n : Option Nat) : State :=
  let s1 := (List.range 16).foldl (fun s m => s.abortWindow m (if n = some m then some (s.sess m).next else none)) s
  s1.setHl { s1.hl with closing := true, asm := [] }

/-! ### Opcodes (12 R455) -/

/-- Lowest STAGE of an opcode and whether only operators may use it; none for a reserved opcode. -/
def opInfo (op : Nat) : Option (Nat × Bool) :=
  match op with
  | 0x02 => some (0, false) | 0x04 => some (0, false)
  | 0x10 => some (0, false) | 0x11 => some (0, false) | 0x12 => some (0, false)
  | 0x18 => some (2, false) | 0x19 => some (2, false)
  | 0x20 => some (0, true) | 0x21 => some (0, true) | 0x22 => some (1, true) | 0x23 => some (1, true)
  | 0x30 => some (3, true) | 0x31 => some (3, true) | 0x32 => some (3, true)
  | 0x40 => some (2, false) | 0x41 => some (2, false) | 0x42 => some (2, false)
  | 0x48 => some (0, false)
  | 0x50 => some (0, false) | 0x51 => some (0, false) | 0x52 => some (0, false) | 0x53 => some (0, false)
  | 0x60 => some (0, true) | 0x70 => some (0, true) | 0x71 => some (0, true) | 0x72 => some (0, true)
  | _ => none

/-- Commands answered during a protective stop (15 R565). -/
def stopAllows (op : Nat) : Bool := [0x02, 0x04, 0x10, 0x48, 0x60].contains op

/-- What a command meets before its own rules: BAD_AUTH, the opcode, the role, STAGE, a protective stop, a teardown (log 30:
the order is not given). -/
def State.hlRefusal (s : State) (n : Nat) (c : HCmd) : Option Nat :=
  let x := s.sess n
  if c.plot ≠ x.plotByte then some hBadAuth
  else match opInfo c.opcode with
    | none => some (if c.opcode = 0x03 then hDenied else hBadOpcode)
    | some (st, op) =>
      if op ∧ x.plot.isSome then some hDenied
      else if s.stage < st then some hNotReady
      else if s.f .PWR_STATUS_STOP = 1 ∧ !stopAllows c.opcode then some hNotReady
      else if s.scrubbing x.plot then some hScrubbing
      else none

/-- The command at NEXT of a session that may execute now. -/
def State.hlNext (s : State) (n : Nat) : Option HCmd :=
  let x := s.sess n
  if x.isOpen ∧ x.polling = none ∧ !s.hl.closing ∧ (s.dom 22).running then NTbl.at none x.window x.next else none

/-- Answers commands with an opcode that no row executes. -/
def State.hlSkip (n : Nat) : Nat → State → State
  | 0, s => s
  | k + 1, s => match s.hlNext n with
    | some c => if (opInfo c.opcode).isNone then
        State.hlSkip n k (s.hlReply n c ((s.hlRefusal n c).getD hBadOpcode) [])
      else s
    | none => s

/-- The end of a command: its reply, then those that need no execution. -/
def State.hlDone (s : State) (n : Nat) (c : HCmd) (status : Nat) (payload : Bytes) : State :=
  State.hlSkip n 8 (s.hlReply n c status payload)

/-- Executes the command at NEXT if its opcode is the one named: refused, or by its own rules. -/
def State.hlRun (s : State) (n op : Nat) (f : HCmd → State → Nat × Bytes × State) : State :=
  match s.hlNext n with
  | none => s
  | some c =>
    if c.opcode ≠ op then s
    else match s.hlRefusal n c with
      | some st => s.hlDone n c st []
      | none =>
        let (st, p, s1) := f c s
        s1.hlDone n c st p

/-- The same for a command whose effect is a status and a state. -/
def State.hlSimple (s : State) (n op : Nat) (f : HCmd → State → WRes) : State :=
  s.hlRun n op (fun c s => let r := f c s; (r.1, [], r.2))

end Sys2Proof.Machine
end

