-- ==== Sys2Proof/Machine/Security.lean ====
section
/-! DEFINITION. The security block's requests: life cycle, fuses, common granules, SB_FATAL, debug's touch (13). -/

namespace Sys2Proof.Machine

/-! ### Requests in progress -/

/-- Updates the security block. -/
def State.setSec (s : State) (v : Sec) : State := { s with sec := v }

/-- Whether a master is an operator session. -/
def State.opSession (s : State) (m : Master) : Bool :=
  match m with
  | .session n => s.isOperator n
  | .onModule _ => false

/-- Random bytes of SB's generator (13 R483). -/
def State.draw (s : State) (n : Nat) : Bytes × State :=
  (slice (Config.random s.freeCtr n) 0 n, { s with freeCtr := s.freeCtr + 1 })

/-- Whether a job is a life-cycle transition, a write of the owner fuses, or one of a retirement entry. -/
def SecJob.isLc : SecJob → Bool
  | .lcBlow _ => true
  | _ => false

/-- Whether a job came from SEC_OWNER_PROG. -/
def SecJob.isOwner : SecJob → Bool
  | .ownerProgram _ _ => true
  | .ownerRevoke _ => true
  | .minSvn => true
  | _ => false

/-- Whether a job came from SEC_RETIRE_PROG. -/
def SecJob.isRetire : SecJob → Bool
  | .retire _ _ => true
  | _ => false

/-- Whether a plot is being torn down. -/
def State.tearing (s : State) : Bool := (List.range 8).any (fun p => (s.plot p).teardown.isSome)

/-! ### Life cycle (13 R476-R482) -/

/-- The lowest STAGE of a transition (13 R479); none where it does not exist. -/
def lcStage (old new : Nat) : Option Nat :=
  if new = lcScrap ∧ old < lcScrap then some 0
  else if new = old + 1 ∧ new < lcScrap then some 2 else none

/-- Owner slots that are blown and not revoked. -/
def Fuses.ownersLive (f : Fuses) : Nat := (List.range 4).countP (fun i => bit f.ownerBlown i && !bit f.ownerRevoked i)

/-- Whether the authorisation at an address allows a transition (13 R479). -/
def State.lcAuthOk (s : State) (addr target : Nat) : Bool × State :=
  let (r, s1) := s.rd sbSrc addr 17104
  (r.status == stOk && slice r.data 0 16 == beBytes 8 s.fuses.serial ++ beBytes 1 target ++ beBytes 7 0
    && Config.slhVerify Config.lifeCycleKey (slice r.data 0 16) (slice r.data 16 17088), s1)

/-- Every memory key is destroyed: what memory holds can no longer be read (13 R480, R215). -/
def State.killKeys (s : State) : State :=
  let k := s.mem.keyCtr
  let s1 := (List.range 512).foldl (fun s g => s.setGkey g (s.gkey g) k) s
  { s1 with mem := { s1.mem with keyCtr := k + 1, llc := [] } }

/-- An accepted transition (13 R480). -/
def State.lcAccept (s : State) (target : Nat) : State :=
  let old := s.sec.lcState
  let s1 := (s.setF .SEC_LC_RESULT_CODE 0 0 1).raise 0x8020 sevNone 0 0 [old, target] .op
  let s2 := s1.setSec { s1.sec with jobs := s1.sec.jobs ++ [.lcBlow target] }
  (if target = lcScrap then s2.killKeys else s2).scheduleReset 3

/-- A write of SEC_LC_REQ (13 R480 step 1); any transition but the one to SCRAP waits for a teardown. -/
def State.lcReq (s : State) (m : Master) (v : Nat) : WRes :=
  let target := bits v 10 8
  let code (c st : Nat) (s : State) : WRes := (st, s.setF .SEC_LC_RESULT_CODE 0 0 c)
  if !s.opSession m then (hDenied, s)
  else if bits v 0 0 = 0 then (hOk, s)
  else if s.sec.jobs.any SecJob.isLc ∨ (s.tearing ∧ target ≠ lcScrap) then code 4 hBusy s
  else match lcStage s.sec.lcState target with
    | none => code 2 hDenied s
    | some st =>
      if s.stage < st then code 5 hDenied s
      else if s.sec.lcState = lcProvision ∧ target = lcField ∧ s.fuses.ownersLive = 0 then code 2 hDenied s
      else if target = lcScrap then (hOk, s.lcAccept target)
      else
        let (ok, s1) := s.lcAuthOk (bits v 51 12 * 4096) target
        if ok then (hOk, s1.lcAccept target) else code 3 hDenied s1

/-- Every session key is destroyed (13 R480 step 2). -/
def State.killSessionKeys (s : State) : State :=
  (List.range 16).foldl (fun s n => s.setSess n { s.sess n with key := [] }) s

/-- After the reply to an accepted transition the Headland stops, as after RESET_DEVICE; one to SCRAP destroys the session
keys (13 R480). -/
def State.lcSettle (s : State) : State :=
  if s.sec.jobs.any SecJob.isLc ∧ !s.hl.closing then
    let s1 := s.hlQuiesce none
    if s.sec.jobs.contains (.lcBlow lcScrap) then s1.killSessionKeys else s1
  else s

/-! ### Fuses (13 R487-R489) -/

/-- A write of SEC_OWNER_PROG. -/
def State.ownerProg (s : State) (m : Master) (v : Nat) : WRes :=
  let slot := bits v 1 0
  let st := s.sec.lcState
  let code (c : Nat) : WRes := (hDenied, s.setF .SEC_OWNER_RESULT_CODE 0 0 c)
  let start (j : SecJob) : WRes := (hOk, s.setSec { s.sec with jobs := s.sec.jobs ++ [j] })
  let live : Bool := bit s.fuses.ownerBlown slot && !bit s.fuses.ownerRevoked slot
  if !s.opSession m then (hDenied, s)
  else if s.sec.jobs.any SecJob.isOwner then (hBusy, s)
  else if st ≠ lcProvision ∧ st ≠ lcField then code 4
  else match bits v 9 8 with
    | 1 => if bit s.fuses.ownerBlown slot then code 2
      else start (.ownerProgram slot ((List.range 4).flatMap (fun i => leBytes 8 (s.f .SEC_OWNER_HASH_HASH i))))
    | 2 => if st = lcField ∧ s.fuses.ownersLive ≤ b2n live then code 3 else start (.ownerRevoke slot)
    | 3 => if 64 ≤ s.fuses.minSvn then code 2 else start .minSvn
    | _ => (hBadArg, s)

/-- A write of SEC_RETIRE_PROG (13 R489). -/
def State.retireProg (s : State) (m : Master) (v : Nat) : WRes :=
  let i := bits v 35 32
  let code (c st : Nat) : WRes := (st, s.setF .SEC_RETIRE_RESULT_CODE 0 0 c)
  if !s.opSession m then (hDenied, s)
  else if bits v 63 63 = 0 then (hOk, s)
  else if s.sec.jobs.any SecJob.isRetire then (hBusy, s)
  else if !s.lcAnalysis then code 4 hDenied
  else if NTbl.at 0 s.fuses.retire i ≠ 0 then code 2 hBadArg
  else if !retireValid (bits v 15 0) then code 3 hDenied
  else (hOk, s.setSec { s.sec with jobs := s.sec.jobs ++ [.retire i (bits v 15 0)] })

/-- Applies a blow that has ended. -/
def State.blow (s : State) (j : SecJob) : State :=
  let fz (f : Fuses) : State := { s with fuses := f }
  match j with
  | .ownerProgram i h =>
    (fz { s.fuses with ownerHash := NTbl.put [] s.fuses.ownerHash i h, ownerBlown := setBit s.fuses.ownerBlown i true }).setF
      .SEC_OWNER_RESULT_CODE 0 0 1
  | .ownerRevoke i =>
    let s1 := (fz { s.fuses with ownerRevoked := setBit s.fuses.ownerRevoked i true }).setF .SEC_OWNER_RESULT_CODE 0 0 1
    s1.closeWhere 1 (fun n => (s1.sess n).isOpen && NTbl.at 0xFF s1.sec.credSlot n == i)
  | .minSvn => (fz { s.fuses with minSvn := min 64 (s.fuses.minSvn + 1) }).setF .SEC_OWNER_RESULT_CODE 0 0 1
  | .retire i v => (fz { s.fuses with retire := NTbl.put 0 s.fuses.retire i v }).setF .SEC_RETIRE_RESULT_CODE 0 0 1
  | .lcBlow _ => s

/-- FUSE_BLOW_DONE: the owner, security-version or retirement blow that began first ends. -/
def execFuseBlowDone (s : State) : Res :=
  match s.sec.jobs.find? (fun j => !j.isLc) with
  | some j => .next ((s.setSec { s.sec with jobs := s.sec.jobs.erase j }).blow j)
  | none => .next s

/-! ### Common granules (13 R503) -/

/-- Whether a granule may be made common, or released, as far as no plot is concerned. -/
def State.commonEligible (s : State) (action g : Nat) : Bool :=
  if action = 1 then s.granAvail g && !s.sec.common.contains g && (s.primaryOf g).isNone else s.sec.common.contains g

/-- A write of SEC_COMMON_REQ. A first common granule needs a key, which SB cannot make after SB_FATAL (13 R484). -/
def State.commonReq (s : State) (v : Nat) : WRes :=
  let a := bits v 17 16
  let g := bits v 8 0
  let res (c st : Nat) : WRes := (st, (s.setF .SEC_COMMON_RESULT_CODE 0 0 c).setF .SEC_COMMON_RESULT_GRAN 0 0 g)
  if s.sec.commonJob.isSome then (hBusy, s)
  else if s.tearing then res 5 hBusy
  else if !s.commonEligible a g ∨ (a = 1 ∧ s.sec.fatal ∧ s.sec.commonInst = 0) then res 3 hBadArg
  else if s.granPlots g ≠ 0 then res 4 hOwned
  else
    let (st, s1) := res 1 hOk
    (st, s1.setSec { s1.sec with commonJob := some (a, g) })

/-- The granule becomes common. -/
def State.makeCommon (s : State) (g : Nat) : State :=
  let s1 := if s.sec.commonInst = 0 then
      { s with sec := { s.sec with commonInst := s.mem.keyCtr }, mem := { s.mem with keyCtr := s.mem.keyCtr + 1 } }
    else s
  let k := s1.sec.commonInst
  let s2 := (s1.setGkey g 9 k).zeroGran g k
  s2.setSec { s2.sec with common := s2.sec.common ++ [g] }

/-- A granule returns to the operator key, full of encrypted zeros. -/
def State.toOperator (s : State) (g : Nat) : State := (s.setGkey g 0 1).zeroGran g 1

/-- The granule and its twin are released. -/
def State.releaseCommon (s : State) (g : Nat) : State :=
  let s1 := s.toOperator g
  let s2 := match s.twinOf g with
    | some t => s1.toOperator t
    | none => s1
  let left := s2.sec.common.filter (fun x => x != g)
  s2.setSec { s2.sec with common := left, twins := NTbl.put none s2.sec.twins g none,
                          commonInst := if left = [] then 0 else s2.sec.commonInst }

/-- COMMON_REQUEST_DONE: Harrow has rewritten the granule. A request whose key SB can no longer make ends with CODE 3 (13 R484; log
47). -/
def execCommonRequestDone (s : State) : Res :=
  match s.sec.commonJob with
  | some (a, g) =>
    let noKey := a = 1 ∧ s.sec.fatal ∧ s.sec.commonInst = 0
    let s1 := (s.setSec { s.sec with commonJob := none }).setF .SEC_COMMON_RESULT_CODE 0 0 (if noKey then 3 else 2)
    .next (if noKey then s1 else if a = 1 then s1.makeCommon g else s1.releaseCommon g)
  | none => .next s

/-- SB_FATAL: the entropy source or SB itself has failed (13 R484, R511). -/
def execSbFatal (cause : Nat) (s : State) : Res :=
  .next ((s.setSec { s.sec with fatal := true }).raise 0x8050 sevModuleFatal 0 0 [cause] .op)

/-! ### Debug (13 R505-R507) -/

/-- Plots that a debug access to stacked memory touches (13 R506). -/
def State.memTouch (s : State) (pa n : Nat) (write : Bool) : Nat :=
  maskOf ((List.range 8).filter (fun p => (granulesOf pa n).any (fun g =>
    (s.plot p).active && (s.plot p).maps g (!write))))

/-- A debug access is counted (13 R512). -/
def State.debugCount (s : State) : State :=
  s.setSec { s.sec with debugUsed := true, debugCount := satAdd 32 s.sec.debugCount 1 }

end Sys2Proof.Machine
end

