-- ==== Sys2Proof/Machine/Plots.lean ====
section
/-! DEFINITION. Creating a plot and tearing one down (13 R498-R510). -/

namespace Sys2Proof.Machine

/-! ### The descriptor (13 R498, R499) -/

/-- A plot descriptor: its map entries are 32-bit words. -/
structure PlotDesc where
  plot : Nat
  engines : Nat
  sites : Nat
  ways : Nat
  qpFirst : Nat
  qpCount : Nat
  ingFirst : Nat
  ingCount : Nat
  keyHash : Bytes
  entries : List Nat
  deriving DecidableEq, Repr

/-- Reads a descriptor; none where its length, a reserved field or a range is wrong. -/
def PlotDesc.parse (b : Bytes) : Option PlotDesc :=
  let n := beAt b 6 2
  let d : PlotDesc := {
    plot := beAt b 0 1, engines := beAt b 1 1, sites := beAt b 2 1, ways := beAt b 4 2
    qpFirst := beAt b 8 2, qpCount := beAt b 10 2, ingFirst := beAt b 12 1, ingCount := beAt b 13 1
    keyHash := slice b 16 32, entries := (List.range n).map (fun e => beAt b (64 + 4 * e) 4) }
  if 1 ≤ n ∧ n ≤ 512 ∧ b.length = 64 + 4 * n ∧ (d.plot < 8 ∨ d.plot = 0xFF) ∧ beAt b 3 1 = 0 ∧ beAt b 14 2 = 0
      ∧ beAt b 48 16 = 0 ∧ ¬ (d.engines = 0 ∧ d.sites = 0) ∧ d.ways ≠ 0 ∧ d.ways < 2 ^ 14 ∧ d.qpFirst < 8192
      ∧ d.qpFirst + d.qpCount ≤ 8192 ∧ d.ingFirst < 64 ∧ d.ingFirst + d.ingCount ≤ 64 then some d else none

/-- Fields of an entry. -/
def peValid (w : Nat) : Bool := bit w 31
def peCommon (w : Nat) : Bool := bit w 30
def peTwin (w : Nat) : Bool := bit w 29
def peWrite (w : Nat) : Bool := bit w 28
def peTwinGran (w : Nat) : Nat := bits w 24 16
def peGran (w : Nat) : Nat := bits w 8 0

/-- Whether an entry keeps 13 R499. -/
def peOk (w : Nat) : Bool :=
  if peValid w then bits w 27 25 == 0 && bits w 15 9 == 0 && (if peCommon w then !peWrite w else !peTwin w) else w == 0

/-- Entries that map a granule: privately, and as common granules. -/
def PlotDesc.priv (d : PlotDesc) : List Nat := (d.entries.filter (fun w => peValid w && !peCommon w)).map peGran
def PlotDesc.common (d : PlotDesc) : List Nat := d.entries.filter (fun w => peValid w && peCommon w)

/-- Granules named, counting twins. -/
def PlotDesc.named (d : PlotDesc) : List Nat :=
  (d.entries.filter peValid).map peGran ++ ((d.entries.filter (fun w => peValid w && peTwin w)).map peTwinGran)

/-- Pairings that a descriptor asks for and that do not exist yet. -/
def PlotDesc.pairings (d : PlotDesc) (s : State) : List (Nat × Nat) :=
  ((d.common.filter peTwin).map (fun w => (peGran w, peTwinGran w))).filter (fun x => (s.twinOf x.1).isNone)

/-- The hash of 06 R247. -/
def twinHash (x : Nat) : Nat := bits x 2 0 ^^^ bits x 5 3 ^^^ bits x 8 6

/-- Whether every line of a twin lies on another memory site than that of its primary (06 R247). -/
def State.twinApart (s : State) (g t : Nat) : Bool :=
  let lg := s.siteLocal (g * 2 ^ 30)
  let lt := s.siteLocal (t * 2 ^ 30)
  if lg then lt && t % 8 != g % 8 else !lt && twinHash t != twinHash g

/-- Whether a common entry's pairing keeps 06 R247 and 13 R504. -/
def State.pairOk (s : State) (w : Nat) : Bool :=
  let g := peGran w
  let t := peTwinGran w
  match s.twinOf g with
  | some t' => peTwin w && t == t'
  | none => !peTwin w || (s.twinApart g t && decide (s.granPlots g = 0) && s.granAvail t && decide (s.granPlots t = 0)
      && !s.sec.common.contains t && (s.primaryOf t).isNone)

/-- Whether a descriptor has none of the faults that 13 R500 answers with BAD_ARG. -/
def State.descOk (s : State) (d : PlotDesc) : Bool :=
  d.entries.all peOk && decide d.named.Nodup && d.common.all (fun w => s.sec.common.contains (peGran w) && s.pairOk w)
    && decide ((d.pairings s).length ≤ 4)

/-- The plots that own something a descriptor names. -/
def State.descPlots (s : State) (d : PlotDesc) : List Nat :=
  (List.range 8).filter (fun p =>
    let x := s.plot p
    x.active && (decide (x.engines &&& d.engines ≠ 0) || decide (x.sites &&& d.sites ≠ 0) || decide (x.ways &&& d.ways ≠ 0)
      || (List.range' d.qpFirst d.qpCount).any (fun q => decide (x.qpFirst ≤ q ∧ q < x.qpFirst + x.qpCount))
      || (List.range' d.ingFirst d.ingCount).any (fun k => decide (x.ingFirst ≤ k ∧ k < x.ingFirst + x.ingCount))
      || d.priv.any (fun g => x.maps g true)))

/-- Queue pairs and streams of a descriptor. -/
def PlotDesc.qps (d : PlotDesc) : List Nat := List.range' d.qpFirst d.qpCount
def PlotDesc.streams (d : PlotDesc) : List Nat := List.range' d.ingFirst d.ingCount

/-- The first row of 13 R500 that refuses a descriptor. -/
def State.plotRefusal (s : State) (b : Bytes) : Option Nat :=
  if s.sec.lcState ≠ lcField then some hDenied
  else if s.sec.fatal then some hDenied
  else match PlotDesc.parse b with
    | none => some hBadArg
    | some d =>
      if !s.descOk d then some hBadArg
      else if (s.descPlots d).any (fun p => s.scrubbing (some p)) ∨ (d.plot < 8 ∧ s.scrubbing (some d.plot)) then
        some hScrubbing
      else if s.descPlots d ≠ [] ∨ d.priv.any (fun g => decide (s.granPlots g ≠ 0))
          ∨ d.qps.any (fun q => (s.boundTo q).isSome) then some hOwned
      else if (maskList 8 d.engines).any (fun e => !s.present .engine e)
          ∨ (maskList 8 d.sites).any (fun n => !s.present .site n)
          ∨ d.priv.any (fun g => !s.granAvail g || s.sec.common.contains g || (s.primaryOf g).isSome) then some hNotReady
      else if (d.plot < 8 ∧ (s.plot d.plot).active) ∨ (List.range 8).all (fun p => (s.plot p).active)
          ∨ (maskList 8 d.engines).any (fun e => (List.range 16).any (fun q => decide (s.qstate e q ≠ qDisabled)))
          ∨ d.qps.any (fun q => decide (s.qpState q ≠ 0))
          ∨ d.streams.any (fun k => s.f .ETH_ING_CFG_ENABLE k == 1) then some hBusy
      else none

/-! ### Effects of a creation (13 R501) -/

/-- Copies a common granule to its new twin (13 R504); lines whose storage is lost arrive poisoned. -/
def State.copyGran (s : State) (g t : Nat) : State :=
  let lo := g * 2 ^ 24
  let s1 := (s.setGkey t 9 s.sec.commonInst).zeroGran t s.sec.commonInst
  let s2 := (s.mem.cells.filter (fun c => decide (c.1 / 2 ^ 30 = g))).foldl
    (fun s c => { s with mem := s.mem.putByte (t * 2 ^ 30 + c.1 % 2 ^ 30) c.2 }) s1
  let bad := if s.mem.chans.any (fun c => c.2.failed) then (List.range' lo (2 ^ 24)).filter s.poisoned
    else (s.mem.poison.filter (fun e => decide (lineGran e.1 = g))).map Prod.fst
  bad.foldl (fun s l => s.setPoison (t * 2 ^ 24 + (l - lo)) true) s2

/-- A new pairing. -/
def State.pair (s : State) (x : Nat × Nat) : State :=
  let s1 := s.copyGran x.1 x.2
  s1.setSec { s1.sec with twins := NTbl.put none s1.sec.twins x.1 (some x.2) }

/-- What the creation and the end of a plot do to its tallies (04 R172): waits of orders outside the plot end with ILLEGAL. -/
def State.talliesClear (s : State) (p : Nat) : State :=
  let mine (t : Nat) : Bool := decide (t / 64 = p)
  let s1 := (s.waits.filter (fun w => mine w.tally)).foldl
    (fun s w => s.updRun w.e w.q w.idx (fun r => { r.fail csIllegal 0x010B 88 with finished := true })) s
  let s2 := s1.dropWaits (fun w => mine w.tally)
  ((List.range' (64 * p) 64).foldl (fun s t => s.setF .TALLY_VALUE_VALUE t 0 0) s2).setF .TALLY_OVF_OVF p 0 0

/-- MEM_RED_FLAGS(1 + p) of every memory site. -/
def State.redClear (s : State) (p : Nat) : State :=
  (List.range 8).foldl (fun s n =>
    (s.setF .MEM_RED_FLAGS_FLAGS n (1 + p) 0).setF .MEM_RED_FLAGS_NAN_COUNT n (1 + p) 0) s

/-- The plot map of a descriptor. -/
def PlotDesc.map (d : PlotDesc) : NTbl (Option PMapEnt) :=
  d.entries.zipIdx.foldl (fun t x => if peValid x.1 then
    NTbl.put none t x.2 (some { common := peCommon x.1, twin := peTwin x.1, write := peWrite x.1,
                                twinGran := peTwinGran x.1, gran := peGran x.1 }) else t) []

/-- Creates plot `p`. -/
def State.plotMake (s : State) (p : Nat) (d : PlotDesc) : State :=
  let k := s.mem.keyCtr
  let s1 := { s with mem := { s.mem with keyCtr := k + 1 } }
  let s2 := d.priv.foldl (fun s g => s.setGkey g (1 + p) k) s1
  let s3 := (d.pairings s).foldl State.pair s2
  let gen := (s.plot p).generation + 1
  let s4 := s3.setPlot p {
    active := true, engines := d.engines, sites := d.sites, ways := d.ways, map := d.map, qpFirst := d.qpFirst
    qpCount := d.qpCount, ingFirst := d.ingFirst, ingCount := d.ingCount, keyHash := d.keyHash, generation := gen
    keyInst := k }
  ((s4.talliesClear p).redClear p).raise 0x8008 sevNone 0 0 [p, gen] (.opPlots (2 ^ p)) (some p)

/-- PLOT_CREATE by its descriptor: status, reply, state. -/
def State.plotCreate (s : State) (b : Bytes) : Nat × Bytes × State :=
  match s.plotRefusal b, PlotDesc.parse b with
  | none, some d =>
    let p := if d.plot < 8 then d.plot else ((List.range 8).find? (fun p => !(s.plot p).active)).getD 0
    (hOk, beBytes 1 p, s.plotMake p d)
  | st, _ => (st.getD hBadArg, [], s)

/-- PLOT_CREATE: one that nothing else refuses is judged once every accepted request for a common granule has completed
(13 R503). -/
def execPlotCreate (n : Nat) (s : State) : Res :=
  let refused : Bool := match s.hlNext n with
    | some c => (s.hlRefusal n c).isSome
    | none => false
  .next (if s.sec.commonJob.isSome ∧ !refused then s else s.hlRun n 0x30 (fun c s => s.plotCreate c.payload))

/-! ### Teardown (13 R508, R510) -/

/-- Windows of a plot are cleared (10 R405). -/
def State.windowsClear (s : State) (p : Nat) : State :=
  (List.range' (128 * p) 128).foldl (fun s w =>
    ([Fid.ETH_WIN_CTL_VALID, .ETH_WIN_CTL_READ, .ETH_WIN_CTL_WRITE, .ETH_WIN_CTL_ALIAS, .ETH_WIN_CTL_TAG, .ETH_WIN_RANGE_BASE,
      .ETH_WIN_RANGE_LIMIT]).foldl (fun s f => s.setF f w 0 0) s) s

/-- An engine of the plot abandons its orders without records, and a halt of it ends (13 R508 step 2; 16 R595). -/
def State.engAbandon (s : State) (e : Nat) : State :=
  (s.setEng e { s.eng e with runs := [], streams := [], halted := false, stepMask := 0 }).dropWaits (fun w => w.e == e)

/-- Queue pairs and streams of a plot. -/
def Plot.qps (x : Plot) : List Nat := List.range' x.qpFirst x.qpCount
def Plot.streams (x : Plot) : List Nat := List.range' x.ingFirst x.ingCount

/-- Granules that a plot maps, and those it maps privately. -/
def Plot.granules (x : Plot) : List Nat := x.map.filterMap (fun e => e.2.map PMapEnt.gran)
def Plot.privGranules (x : Plot) : List Nat :=
  x.map.filterMap (fun e => e.2.bind (fun m => if m.common then none else some m.gran))

/-- Whether a request is a recall of a plot's teardown. -/
def HReq.tears (r : HReq) : Bool := r.cmd == 0x201

/-- Step 3 of a teardown: one home transaction recalls every line of the plot's granules that the filter shows held, or
whose grant is still to come (08 R321). -/
def State.tearRecall (s : State) (p : Nat) : State :=
  let gs := (s.plot p).granules
  let lines := s.coh.sf.map Prod.fst ++ s.coh.txns.map HTxn.line ++ s.coh.queue.map HReq.line
  (lines.eraseDups.filter (fun l => gs.contains (lineGran l))).foldl
    (fun s l => s.askLine { cmd := 0x201, agent := 9, line := l }) s

/-- The plot whose teardown began first: its later steps run (13 R510). -/
def State.tearFirst (s : State) : Option Nat :=
  (List.range 8).find? (fun p => match (s.plot p).teardown with
    | some t => (List.range 8).all (fun k => match (s.plot k).teardown with
      | some u => decide (t.order ≤ u.order)
      | none => true)
    | none => false)

/-- Steps 1 and 2 of a teardown, and step 3 where no other runs. -/
def State.tearBegin (s : State) (p : Nat) : State :=
  let x := s.plot p
  let order := ((List.range 8).map (fun k => match (s.plot k).teardown with
    | some t => t.order + 1
    | none => 0)).foldl max 0
  let t : Teardown := {
    began := s.ethCycles, order, qps := x.qps.filter (fun q => s.qpState q == 2 || s.qpState q == 3),
    streams := x.streams.filter (fun k => s.f .ETH_ING_CFG_ENABLE k == 1) }
  let s1 := s.setPlot p { x with teardown := some t }
  let s2 := (maskList 8 x.engines).foldl State.engAbandon s1
  let s3 := (List.range 16).foldl (fun s c => if s.shPlot c = some p then s.shRelease c else s) s2
  let s4 := (x.qps.foldl State.qpReset s3).windowsClear p
  let s5 := x.streams.foldl (fun s k => (s.setIng k {}).setF .ETH_ING_CFG_ENABLE k 0 0) s4
  let s6 := s5.mbReset (fun b => b.receiver == 0x60 && b.scopePlot == some p)
  if s6.tearFirst = some p then s6.tearRecall p else s6

/-- PLOT_TEARDOWN of a plot number: status, state. -/
def State.plotTeardown (s : State) (b : Bytes) : WRes :=
  let p := beAt b 0 1
  if b.length ≠ 1 ∨ 8 ≤ p ∨ !(s.plot p).active then (hBadArg, s)
  else if s.scrubbing (some p) then (hScrubbing, s)
  else (hOk, s.tearBegin p)

/-- PLOT_TEARDOWN. -/
def execPlotTeardown (n : Nat) (s : State) : Res := .next (s.hlSimple n 0x31 (fun c s => s.plotTeardown c.payload))

/-- Fields of the queue registers (04, registers). -/
def queueFields : List Fid :=
  [.CE_WQ_BASE_BASE, .CE_WQ_CFG_LOG2_SIZE, .CE_WQ_CFG_PRIORITY, .CE_WQ_CFG_ENABLE, .CE_WQ_TAIL_TAIL, .CE_WQ_HEAD_HEAD,
    .CE_CQ_BASE_BASE, .CE_CQ_CFG_LOG2_SIZE, .CE_CQ_HEAD_HEAD, .CE_WQ_STATUS_CQ_TAIL, .CE_WQ_STATUS_STATE,
    .CE_WQ_STATUS_RING_ERR, .CE_WQ_STATUS_DB_ERR]

/-- Step 6 for one engine: its stores are cleared and its queue registers return to their reset values. -/
def State.engScrub (s : State) (e : Nat) : State :=
  let s1 := s.setEng e (s.eng e).cleared
  (List.range 16).foldl (fun s q => queueFields.foldl (fun s f => s.setF f e q (fieldReset f e q)) s) s1

/-- Steps 4 to 7 of a teardown; the plot's private granules give `G`. Step 3 of the next one begins. -/
def State.tearEnd (s : State) (p : Nat) (began : Nat) : State :=
  let x := s.plot p
  let gs := x.privGranules
  let s1 := gs.foldl State.toOperator s
  let s2 := (maskList 8 x.engines).foldl State.engScrub s1
  let s3 := ((s2.talliesClear p).redClear p).setPlot p { generation := x.generation }
  let s4 := s3.raise 0x8018 sevNone 0 0 [p, gs.length, s3.ethCycles - began] .op (some p)
  let s5 := s4.closeWhere 4 (fun n => (s4.sess n).isOpen && decide ((s4.sess n).plot = some p))
  match s5.tearFirst with
  | some k => s5.tearRecall k
  | none => s5

/-- Whether requests of a plot's engines or sites are outstanding at their ports (13 R508 step 2). -/
def State.plotBusy (s : State) (p : Nat) : Bool :=
  (maskList 8 (s.plot p).engines).any s.portBusy || (maskList 8 (s.plot p).sites).any (fun n => s.portBusy (16 + n))

/-- PLOT_SCRUBBED: the teardown that began first ends, once its plot's requests are complete (step 2) and so is every recall of
its step 3 (13 R508, R510). -/
def execPlotScrubbed (p : Nat) (s : State) : Res :=
  match (s.plot p).teardown with
  | some t => .next (if s.tearFirst ≠ some p ∨ s.plotBusy p ∨ s.recallOpen HReq.tears then s else s.tearEnd p t.began)
  | none => .next s

end Sys2Proof.Machine
end

