-- ==== Sys2Proof/Machine/Headland.lean ====
section
/-! DEFINITION. Headland datagrams, DISCOVER, sessions, events, the attestation report (12 R443-R452, R467-R470;
13 R490-R497). -/

namespace Sys2Proof.Machine

/-! ### DISCOVER (12 R447, R448) -/

/-- Fields of a datagram's header (12 R443). -/
def dgOpcode (d : Datagram) : Nat := beAt d.bytes 1 1
def dgTag (d : Datagram) : Nat := beAt d.bytes 2 2
def dgSession (d : Datagram) : Nat := beAt d.bytes 4 1
def dgType (d : Datagram) : Nat := beAt d.bytes 6 1
def dgSeq (d : Datagram) : Nat := beAt d.bytes 8 4
def dgLength (d : Datagram) : Nat := beAt d.bytes 12 2
def dgPart (d : Datagram) : Nat := beAt d.bytes 14 1
def dgParts (d : Datagram) : Nat := beAt d.bytes 15 1
def dgPayload (d : Datagram) : Bytes := d.bytes.drop 32

/-- Whether a datagram's length is sound (12 R446 row 1). -/
def dgSized (d : Datagram) : Bool :=
  decide (32 ≤ d.bytes.length) && (dgLength d) + 32 == d.bytes.length

/-- Whether a datagram is a DISCOVER. -/
def dgDiscovers (d : Datagram) : Bool := (dgSized d) && (dgOpcode d) == 0x01 && (dgType d) == 0

/-- Where the answer to a datagram goes, and the own address it leaves from (12 R448). -/
def State.replyPeer (s : State) (d : Datagram) : Option Peer :=
  let peer (own : Nat) : Peer := { ip := d.srcIp, port := d.srcPort, mac := d.srcMac, own }
  match d.dest with
  | .unicast => some (peer d.dstIp)
  | .broadcast4 => s.own4.head?.map peer
  | .allNodes6 => some (peer (linkLocal s.fuses.mac))
  | .multicast => none

/-- Sessions that are open. -/
def State.openCount (s : State) : Nat := (List.range 16).countP (fun n => (s.sess n).isOpen)

/-- The payload of a DISCOVER reply. -/
def State.discoverBytes (s : State) : Bytes :=
  let head := beBytes 2 0x4E56 ++ beBytes 2 0x1608 ++ beBytes 1 0xA1 ++ beBytes 1 s.sec.lcState
  if s.sec.lcState = lcScrap then slice head 0 32
  else slice (head ++ beBytes 1 s.stage ++ beBytes 1 (16 - s.openCount) ++ beBytes 8 s.fuses.serial
    ++ beBytes 6 s.fuses.mac ++ [1, 2]) 0 32

/-- The datagram that answers DISCOVER: SESSION 0xFF, AUTH zero (12 R447). -/
def State.discoverReply (s : State) (d : Datagram) : Bytes :=
  hlPacket none { op := 0x01, tag := dgTag d, session := 0xFF, plot := 0xFF, type := 1, status := hOk, seq := dgSeq d }
    s.discoverBytes

/-- Answers DISCOVER from the bucket, or counts it: so too one that there is no address to answer from. -/
def State.discover (s : State) (d : Datagram) : State :=
  match s.replyPeer d with
  | none => if d.dest = .broadcast4 then s.count .HL_CNT_DISCOVER_LIMITED_COUNT 0 0 32 1 else s
  | some p =>
    if s.hl.bucket < 1000000 then s.count .HL_CNT_DISCOVER_LIMITED_COUNT 0 0 32 1
    else (s.setHl { s.hl with bucket := s.hl.bucket - 1000000 }).hlEmit (.discover · p (s.discoverReply d))

/-- Whether the Headland takes datagrams: not after the reply that announces a whole reset (12 R460). -/
def State.hlHears (s : State) : Bool := s.hlUp && !s.hl.closing

/-- DISCOVER. -/
def execDiscover (d : Datagram) (s : State) : Res :=
  .next (if s.hlHears ∧ (dgDiscovers d) then s.discover d else s)

/-! ### Datagrams (12 R445, R446, R451) -/

/-- A datagram is dropped. -/
def State.hlDrop (s : State) : State := (s.count .HL_CNT_DROP_COUNT 0 0 32 1).flag .HL_ERR_STATUS_DROP

/-- Whether every part of an open has arrived. -/
def OpenAsm.complete (a : OpenAsm) : Bool := (List.range a.parts).all (fun i => (NTbl.at none a.got i).isSome)

/-- Whether an assembly is the one of a source address and tag. -/
def OpenAsm.isFor (a : OpenAsm) (ip port tag : Nat) : Bool := a.peer.ip == ip && a.peer.port == port && a.tag == tag

/-- Drops the oldest incomplete assembly where four are under way. -/
def asmRoom (l : List OpenAsm) : List OpenAsm :=
  if 4 ≤ l.countP (fun a => !a.complete) then
    match l.find? (fun a => !a.complete) with
    | some a => l.erase a
    | none => l
  else l

/-- A part of a SESSION_OPEN. -/
def State.openPart (s : State) (d : Datagram) : State :=
  let peer : Peer := { ip := d.srcIp, port := d.srcPort, mac := d.srcMac, own := d.dstIp }
  let mine (a : OpenAsm) : Bool := a.isFor d.srcIp d.srcPort (dgTag d)
  let put (a : OpenAsm) : OpenAsm := { a with got := NTbl.put none a.got (dgPart d) (some (dgPayload d)) }
  let setAsm (l : List OpenAsm) : State := s.setHl { s.hl with asm := l }
  if (dgParts d) = 0 ∨ 8 < (dgParts d) ∨ (dgParts d) ≤ (dgPart d) then s.hlDrop
  else match s.hl.asm.find? mine with
    | some a => if a.parts ≠ (dgParts d) ∨ a.complete then s.hlDrop
      else setAsm (s.hl.asm.map (fun x => if x = a then put x else x))
    | none => setAsm (asmRoom s.hl.asm ++ [put { peer, tag := (dgTag d), parts := (dgParts d) }])

/-- Whether a command's tag verifies. -/
def State.authOk (s : State) (d : Datagram) : Bool :=
  slice d.bytes 16 16 == authTag (s.sess (dgSession d)).key (dgType d) (dgSession d) (dgPart d) (dgSeq d) (slice d.bytes 0 16 ++ (dgPayload d))

/-- A command with a session's authentication: accepted, answered again, or dropped. -/
def State.hlAccept (s : State) (d : Datagram) : State :=
  let n := (dgSession d)
  let x := s.sess n
  let peer : Peer := { ip := d.srcIp, port := d.srcPort, mac := d.srcMac, own := d.dstIp }
  let c : HCmd := { opcode := (dgOpcode d), tag := (dgTag d), plot := beAt d.bytes 5 1, payload := (dgPayload d), peer }
  if x.next ≤ (dgSeq d) ∧ (dgSeq d) < x.next + 8 then
    if (NTbl.at none x.window (dgSeq d)).isSome then s.hlDrop
    else State.hlSkip n 8 (s.setSess n { x with window := NTbl.put none x.window (dgSeq d) (some c), confirmed := true, peer })
  else match x.retained.find? (fun r => r.1 == (dgSeq d)) with
    | some r => (s.count .HL_CNT_DUP_COUNT 0 0 32 1).hlSend { r.2 with peer }
    | none => s.hlDrop

/-- The rows of 12 R446. -/
def State.hlDatagram (s : State) (d : Datagram) : State :=
  if !(dgSized d) then s.hlDrop
  else if (dgDiscovers d) then s.discover d
  else if s.sec.lcState = lcScrap then s.hlDrop
  else if d.dest ≠ .unicast then s.hlDrop
  else if (dgOpcode d) = 0x03 ∧ (dgType d) = 0 ∧ (dgSession d) = 0xFF then s.openPart d
  else if beAt d.bytes 0 1 ≠ 1 ∨ (dgType d) ≠ 0 ∨ (dgParts d) ≠ 1 ∨ 16 ≤ (dgSession d) ∨ !(s.sess (dgSession d)).isOpen then s.hlDrop
  else if !s.authOk d then s.hlDrop
  else s.hlAccept d

/-- HEADLAND_DATAGRAM. -/
def execHeadlandDatagram (d : Datagram) (s : State) : Res := .next (if s.hlHears then s.hlDatagram d else s)

/-- SESSION_OPEN_PARTS_TIMEOUT: 100 ms after the first part an incomplete open is discarded (12 R445). -/
def execSessionOpenPartsTimeout (srcIp srcPort tag : Nat) (s : State) : Res :=
  .next (s.setHl { s.hl with asm := s.hl.asm.filter (fun a => a.complete || !a.isFor srcIp srcPort tag) })

/-! ### SESSION_OPEN (13 R490-R492) -/

/-- The payload of an assembled open. -/
def OpenAsm.payload (a : OpenAsm) : Bytes := (List.range a.parts).flatMap (fun i => (NTbl.at none a.got i).getD [])

/-- Row 1 of 13 R491: the layout of 13 R490. -/
def openFormOk (b : Bytes) : Bool :=
  let role := beAt b 0 1
  let plot := beAt b 1 1
  let slot := beAt b 2 1
  b.length == 18344 && beAt b 3 5 == 0
    && ((role == 0 && plot == 0xFF && (decide (slot ≤ 3) || slot == 15)) || (role == 1 && decide (plot ≤ 7) && slot == 0))

/-- Row 2: the credential that the role needs (13 R478). -/
def State.credentialOk (s : State) (b : Bytes) : Bool :=
  let h := Config.sha256 (slice b 40 32)
  let slot := beAt b 2 1
  let p := beAt b 1 1
  if beAt b 0 1 = 1 then s.sec.lcState == lcField && (s.plot p).active && h == (s.plot p).keyHash
  else if s.sec.lcState = lcField then
    decide (slot ≤ 3) && bit s.fuses.ownerBlown slot && !bit s.fuses.ownerRevoked slot
      && h == NTbl.at [] s.fuses.ownerHash slot
  else slot == 15 && h == Config.romHash 4

/-- Row 3: the signature and the encapsulation key. -/
def State.openSigOk (s : State) (b : Bytes) : Bool :=
  Config.slhVerify (slice b 40 32) (slice b 0 1256 ++ beBytes 8 s.fuses.serial) (slice b 1256 17088)
    && Config.mlkemCheck (slice b 72 1184)

/-- Sessions that have accepted no command yet, with the order in which they opened. -/
def State.unconfirmed (s : State) : List (Nat × Nat) :=
  ((List.range 16).filter (fun n => (s.sess n).isOpen && !(s.sess n).confirmed)).map (fun n => ((s.sess n).opened, n))

/-- Where five sessions would be unconfirmed, the oldest closes (12 R452). -/
def State.closeOldest (s : State) : State :=
  let l := s.unconfirmed
  if l.length < 4 then s
  else match l.find? (fun x => l.all (fun y => decide (x.1 ≤ y.1))) with
    | some x => s.sessClose x.2 5
    | none => s

/-- Whether a session number can be assigned: closed, with no event still to be sent. -/
def State.numberFree (s : State) (n : Nat) : Bool := !(s.sess n).isOpen && decide ((s.sess n).unsent = [])

/-- The label of a session's authentication key (13 R492). -/
def sessionLabel : Bytes := "OROMAUST-HL-1".toList.map (fun c => BitVec.ofNat 8 c.toNat)

/-- Opens session `n`. -/
def State.openSession (s : State) (n : Nat) (a : OpenAsm) (b : Bytes) : State :=
  let (seed, s1) := s.draw 32
  let (ct, k) := Config.mlkemEncaps (slice b 72 1184) seed
  let t := Config.sha256 (slice b 0 1256 ++ slice ct 0 1088 ++ beBytes 8 s.fuses.serial ++ beBytes 1 n)
  let key := Config.hmacSha256 k (sessionLabel ++ t)
  let plot : Option Nat := if beAt b 0 1 = 1 then some (beAt b 1 1) else none
  let s2 := s1.setHl { s1.hl with openCtr := s1.hl.openCtr + 1 }
  let s3 := s2.setSess n { isOpen := true, plot, next := 1, opened := s1.hl.openCtr, peer := a.peer, key }
  let s4 := s3.setSec { s3.sec with
    bindings := NTbl.put [] s3.sec.bindings n t
    credSlot := NTbl.put 0xFF s3.sec.credSlot n (if plot.isSome then 0xFF else beAt b 2 1) }
  let s5 := s4.raise 0x7001 sevNone 12 n [n, beAt b 0 1, beAt b 1 1] .op plot
  s5.hlSend { session := n, opcode := 0x03, tag := a.tag, plot := beAt b 1 1, status := hOk, seq := 0,
              payload := beBytes 1 n ++ beBytes 3 0 ++ slice ct 0 1088, peer := a.peer }

/-- A refused open that is answered. -/
def State.openRefuse (s : State) (a : OpenAsm) (st : Nat) : State :=
  s.hlSend { session := 0xFF, opcode := 0x03, tag := a.tag, plot := 0xFF, status := st, seq := 0, payload := [],
             peer := a.peer }

/-- The rows of 13 R491. -/
def State.sessionOpen (s : State) (a : OpenAsm) : State :=
  let b := a.payload
  let p := beAt b 1 1
  if !openFormOk b ∨ !s.credentialOk b ∨ !s.openSigOk b then (s.count .SEC_CNT_OPEN_FAIL_COUNT 0 0 32 1).hlDrop
  else if s.sec.fatal then s.openRefuse a hDenied
  else if beAt b 0 1 = 1 ∧ s.scrubbing (some p) then s.openRefuse a hScrubbing
  else if s.openCount = 16 ∨ (List.range 16).all (fun n => !s.numberFree n) then s.openRefuse a hBusy
  else
    let s1 := s.closeOldest
    match (List.range 16).find? s1.numberFree with
    | some n => s1.openSession n a b
    | none => s1.openRefuse a hBusy

/-- SESSION_OPEN: SB checks an open whose parts have all arrived. -/
def execSessionOpen (srcIp srcPort tag : Nat) (s : State) : Res :=
  match s.hl.asm.find? (fun a => a.isFor srcIp srcPort tag && a.complete) with
  | some a => .next (if s.hlHears then (s.setHl { s.hl with asm := s.hl.asm.erase a }).sessionOpen a else s)
  | none => .next s

/-! ### Closing (12 R452) -/

/-- Status of a SESSION_CLOSE, and the session it closes. -/
def State.closeTarget (s : State) (n : Nat) (b : Bytes) : Nat × Nat :=
  let t := beAt b 0 1
  let k := if t = 0xFF then n else t
  if b.length ≠ 1 ∨ 16 ≤ k ∨ !(s.sess k).isOpen then (hBadArg, k)
  else if k ≠ n ∧ !s.isOperator n then (hDenied, k)
  else (hOk, k)

/-- SESSION_CLOSE: a session that closes itself is answered first. -/
def execSessionClose (n : Nat) (s : State) : Res :=
  .next (match s.hlNext n with
  | some c =>
    let (st, k) := s.closeTarget n c.payload
    if c.opcode = 0x04 ∧ (s.hlRefusal n c).isNone ∧ st = hOk ∧ k = n then (s.hlReply n c hOk []).sessClose n 0
    else s.hlSimple n 0x04 (fun _ s => (st, if st = hOk then s.sessClose k 1 else s))
  | none => s)

/-- SESSION_IDLE_TIMEOUT. -/
def execSessionIdleTimeout (n : Nat) (s : State) : Res :=
  .next (if s.f .HL_CFG_IDLE_S = 0 then s else s.sessClose n 2)

/-- SESSION_UNCONFIRMED_TIMEOUT. -/
def execSessionUnconfirmedTimeout (n : Nat) (s : State) : Res :=
  .next (if (s.sess n).confirmed then s else s.sessClose n 5)

/-! ### Events (12 R467, R469) -/

/-- A subscription as EVENT_SUBSCRIBE gives it. -/
def subOf (b : Bytes) : Sub :=
  { ranges := beAt b 0 2, plots := beAt b 2 1, opScope := beAt b 3 1 == 1, minSev := beAt b 4 1 }

/-- Status of an EVENT_SUBSCRIBE (12 R467); one that names a plot being torn down is refused (12 R461). -/
def State.subCheck (s : State) (n : Nat) (b : Bytes) : Nat :=
  if b.length ≠ 24 ∨ 4096 ≤ beAt b 0 2 ∨ 1 < beAt b 3 1 ∨ 4 < beAt b 4 1 ∨ beAt b 5 3 ≠ 0 ∨ beAt b 12 4 ≠ 0 then hBadArg
  else match (s.sess n).plot with
    | some p => if beAt b 3 1 = 1 ∨ beAt b 2 1 &&& (255 - 2 ^ p) ≠ 0 ∨ beAt b 16 8 ≠ 0 then hDenied else hOk
    | none => if (maskList 8 (beAt b 2 1)).any (fun p => s.scrubbing (some p)) then hScrubbing else hOk

/-- The payload of an event packet (12 R468): big-endian, DETAIL as the defining chapter gives it (log 57). -/
def Event.bytes (e : Event) (lost : Nat) : Bytes :=
  beBytes 2 e.code ++ beBytes 1 e.sev ++ beBytes 1 (e.plot.getD 0xFF) ++ beBytes 1 e.ucls ++ beBytes 1 e.dom
    ++ beBytes 2 e.unit ++ beBytes 8 e.seq ++ beBytes 8 e.cycles ++ beBytes 2 lost ++ beBytes 6 0
    ++ slice (Config.eventDetail e.code e.detail) 0 32

/-- The datagram of an event: TYPE 2, PLOT the session's (12 R443, R444, R468). -/
def Session.eventPacket (x : Session) (n seq lost : Nat) (e : Event) : Bytes :=
  hlPacket (some x.key) { op := 0, tag := 0, session := n, plot := x.plotByte, type := 2, status := 0, seq } (e.bytes lost)

/-- Queues retained events again, with their numbers (12 R469). -/
def State.replay (s : State) (n fromSeq : Nat) : State :=
  let x := s.sess n
  if fromSeq = 0 then s
  else s.setSess n { x with again := x.again ++ x.sent.filter (fun e => decide (fromSeq ≤ e.1)) }

/-- Queues the module log again, as far as the new subscription passes it (12 R469). -/
def State.logReplay (s : State) (n fromSeq : Nat) : State :=
  let x := s.sess n
  match x.sub with
  | some b => if fromSeq = 0 then s
    else s.setSess n { x with relog := x.relog ++ s.hl.log.filter (fun e => decide (fromSeq ≤ e.seq) && b.passes e) }
  | none => s

/-- EVENT_SUBSCRIBE. -/
def execEventSubscribe (n : Nat) (s : State) : Res :=
  .next (match s.hlNext n with
  | some c =>
    let b := c.payload
    if c.opcode = 0x48 ∧ (s.hlRefusal n c).isNone ∧ s.subCheck n b = hOk then
      let x := s.sess n
      let s1 := (s.setSess n { x with sub := some (subOf b) }).hlDone n c hOk (beBytes 4 x.evSeq)
      (s1.replay n (beAt b 8 4)).logReplay n (beAt b 16 8)
    else s.hlSimple n 0x48 (fun _ s => (s.subCheck n b, s))
  | none => s)

/-- What a session keeps once an event has left it: nothing where it is closing and that was the last. -/
def Session.after (x y : Session) : Session := if !x.isOpen && y.unsent.isEmpty && y.again.isEmpty && y.relog.isEmpty then {} else y

/-- EVENT_SEND: the next waiting event of a session leaves while the link is up (12 R469): one resent as it was, else the next of
the log, else the next unsent one, which take the session's next number and are retained. A closing session ends with its
last. -/
def execEventSend (n : Nat) (s : State) : Res :=
  let x := s.sess n
  let put (y : Session) (seq lost : Nat) (e : Event) : State :=
    (s.setSess n (x.after y)).txStrict (.event s.hlHdr x.peer n seq e (x.eventPacket n seq lost e))
  let fresh (y : Session) (lost : Nat) (e : Event) : State :=
    let kept := x.sent ++ [(x.evSeq, lost, e)]
    put { y with evSeq := x.evSeq + 1, sent := kept.drop (kept.length - 1024) } x.evSeq lost e
  .next (if !s.hlUp then s else match x.again, x.relog, x.unsent with
  | a :: rest, _, _ => put { x with again := rest } a.1 a.2.1 a.2.2
  | [], e :: rest, _ => fresh { x with relog := rest } 0 e
  | [], [], e :: rest => fresh { x with unsent := rest, lost := 0 } x.lost e
  | [], [], [] => s)

/-! ### The attestation report (13 R493-R497) -/

/-- A plot-map entry as a register (01 R49). -/
def PMapEnt.word (m : PMapEnt) : Nat :=
  2 ^ 63 + b2n m.common * 2 ^ 62 + b2n m.twin * 2 ^ 61 + b2n m.write * 2 ^ 60 + m.twinGran * 2 ^ 16 + m.gran

/-- Entry `e` of plot `p`'s map as a register. -/
def State.mapWord (s : State) (p e : Nat) : Nat := ((s.mapEnt p e).map PMapEnt.word).getD 0

/-- STATE of a plot: 0 none, 1 active, 2 being torn down (13 R494). -/
def Plot.code (x : Plot) : Nat := if !x.active then 0 else if x.teardown.isSome then 2 else 1

/-- The entries of a plot's map that satisfy a test. -/
def Plot.countMap (x : Plot) (t : PMapEnt → Bool) : Nat := x.map.countP (fun e => match e.2 with
  | some m => t m
  | none => false)

/-- The record of plot `p` (13 R494, R495); `full` where the requester may see its digests. -/
def State.plotRecord (s : State) (p : Nat) (full : Bool) : Bytes :=
  let x := s.plot p
  if !x.active then slice (beBytes 20 0 ++ beBytes 4 x.generation) 0 96
  else
    let head := beBytes 1 x.code ++ beBytes 1 (b2n x.touch) ++ beBytes 1 x.engines ++ beBytes 1 x.sites ++ beBytes 2 x.ways
      ++ beBytes 2 (x.countMap (fun m => !m.common)) ++ beBytes 2 (x.countMap (·.common))
      ++ beBytes 2 (x.countMap (·.twin)) ++ beBytes 2 x.qpFirst ++ beBytes 2 x.qpCount ++ beBytes 1 x.ingFirst
      ++ beBytes 1 x.ingCount ++ beBytes 2 0 ++ beBytes 4 x.generation ++ beBytes 8 0
    let digest := Config.sha256 ((List.range 512).flatMap (fun e => leBytes 8 (s.mapWord p e)))
    slice (head ++ (if full then slice x.keyHash 0 32 ++ slice digest 0 32 else [])) 0 96

/-- DEBUG_FLAGS of a report, as in SEC_DEBUG. -/
def State.haltActive (s : State) : Bool :=
  decide (s.boot.ccHalt ≠ 0) || (List.range 8).any (fun e => (s.eng e).halted)

/-- Retirement entries blown. -/
def Fuses.retireMask (f : Fuses) : Nat := maskOf ((List.range 16).filter (fun i => NTbl.at 0 f.retire i != 0))

/-- Whether a secret bank holds seeds: neither blank nor wiped. -/
def Fuses.seeded (f : Fuses) : Bool := decide (f.secret ≠ []) && !f.secretWiped

/-- The 1,088-byte body of a report for session `n` (13 R493). -/
def State.reportBody (s : State) (n : Nat) (nonce : Bytes) : Bytes :=
  let flags := b2n s.sec.voteSplit + 2 * b2n s.fuses.seeded + 4 * b2n (!s.fuses.trimWiped)
  let debug := b2n s.sec.jtagSeen + 2 * b2n s.sec.debugUsed + 4 * b2n s.haltActive
  let dig (b : Bytes) : Bytes := slice b 0 32
  let staged := s.boot.fwState = 4
  let sdig := if staged then s.boot.stagedDigest else s.aon.digest
  let ssvn := if staged then s.boot.stagedSvn else s.aon.svn
  let mine (p : Nat) : Bool := (s.sess n).plot.isNone || decide ((s.sess n).plot = some p)
  let touched := maskOf ((List.range 8).filter (fun p => (s.plot p).touch))
  slice (beBytes 4 0x4F415452 ++ beBytes 2 1 ++ beBytes 2 1088 ++ beBytes 8 s.fuses.serial
    ++ beBytes 2 0x4E56 ++ beBytes 2 0x1608 ++ beBytes 1 0xA1 ++ beBytes 1 s.sec.lcState ++ beBytes 2 s.sec.lcCode
    ++ beBytes 1 flags ++ beBytes 1 s.stage ++ beBytes 1 (NTbl.at 0xFF s.sec.credSlot n) ++ beBytes 1 0
    ++ beBytes 4 (s.sec.reportSeq + 1) ++ dig nonce ++ dig s.sec.idPub ++ dig (NTbl.at [] s.sec.bindings n)
    ++ beBytes 1 s.boot.fwState ++ beBytes 3 0 ++ beBytes 4 s.boot.runSvn ++ beBytes 4 ssvn ++ beBytes 4 s.fuses.minSvn
    ++ dig s.boot.runDigest ++ dig sdig ++ beBytes 1 s.fuses.ownerBlown ++ beBytes 1 s.fuses.ownerRevoked
    ++ beBytes 1 s.fuses.fwkRevoked ++ beBytes 1 0 ++ beBytes 2 s.fuses.retireMask ++ beBytes 2 0 ++ beBytes 1 debug
    ++ beBytes 1 touched ++ beBytes 2 0 ++ beBytes 4 s.sec.debugCount ++ beBytes 8 s.hl.moduleSeq ++ beBytes 4 s.umGen
    ++ beBytes 4 0 ++ (List.range 8).flatMap (fun k => beBytes 1 ((s.plotOfSite k).getD 0xFF)) ++ beBytes 8 0
    ++ beBytes 64 (maskOf s.sec.common)
    ++ (List.range 8).flatMap (fun p => s.plotRecord p (mine p))) 0 1088

/-- ATTEST: a signed report. -/
def execAttest (n : Nat) (s : State) : Res :=
  .next (s.hlRun n 0x02 (fun c s =>
    if c.payload.length ≠ 32 then (hBadArg, [], s)
    else if s.sec.lcState = lcTest then (hNotReady, [], s)
    else
      let b := s.reportBody n c.payload
      (hOk, b ++ slice (Config.slhSign s.fuses.secret b) 0 17088,
        s.setSec { s.sec with reportSeq := s.sec.reportSeq + 1 })))

end Sys2Proof.Machine
end

