-- ==== Sys2Proof/Machine/Mailbox.lean ====
section
/-! DEFINITION. Mailbox channels and claims as their registers and commands act on them (12 R463, R471-R475). -/

namespace Sys2Proof.Machine

/-! ### The binding table (12 R471) -/

/-- Whether an identity is listed in 01 R47. -/
def idListed (id : Nat) : Bool :=
  decide (id < 4) || (decide (8 ≤ id) && decide (id < 0x10)) || (decide (0x20 ≤ id) && decide (id < 0x48))
    || [0x50, 0x51, 0x52, 0x60, 0x61, 0x70].contains id || (decide (0x100 ≤ id) && decide (id < 0x300))

/-- An entry of the binding image. -/
def bindOf (w : Nat) : MbBind :=
  let snd := bits w 9 0
  let rcv := bits w 41 32
  let scope := bits w 55 52
  if bit w 63 ∧ bits w 62 56 = 0 ∧ bits w 51 42 = 0 ∧ bits w 31 10 = 0 ∧ idListed snd ∧ idListed rcv ∧ snd ≠ rcv
      ∧ (scope = 0 ∨ snd = 0x60 ∨ rcv = 0x60) then
    { valid := true, scopePlot := if bit w 55 then some (scope % 8) else none, scopeNo := scope % 8, receiver := rcv, sender := snd }
  else {}

/-- HL_MBOX_BIND c as a register. -/
def MbBind.word (b : MbBind) : Nat :=
  if b.valid then
    2 ^ 63 + b2n b.scopePlot.isSome * 2 ^ 55 + b.scopeNo * 2 ^ 52 + b.receiver * 2 ^ 32 + b.sender
  else 0

/-- An accepted write of HL_MBOX_BIND_SRC: the first reads the image and locks the table; a later one can only carry the
current address, and does nothing (00 R11, R18). -/
def State.mbBind (s : State) (v : Nat) : WRes :=
  if s.rwlLocked 0x07000800 then (hOk, s)
  else if s.stage < 2 then (hNotReady, s)
  else
    let (r, s1) := s.rd { id := 0x60, plot := none } (bits v 51 9 * 512) 512
    let ok := r.status = stOk
    let put (s : State) (c : Nat) : State := s.setMb c { s.mb c with bind := if ok then bindOf (leAt r.data (8 * c) 8) else {} }
    let s2 := ((List.range 64).foldl put s1).setF .HL_MBOX_BIND_SRC_ADDR 0 0 (bits v 51 9)
    (hOk, (s2.setHl { s2.hl with bindLoaded := true, bindErr := !decide ok }).rwlLock 0x07000800)

/-! ### Actions (12 R472-R474) -/

/-- The identity with which a master acts on a channel: the Headland's where a session is served by its endpoint. -/
def State.mbId (s : State) (c : Nat) (m : Master) : Option Nat :=
  match m with
  | .onModule id => some id
  | .session n => if (s.mb c).bind.scopePlot = (s.sess n).plot then some 0x60 else none

/-- Whether a master is the sender, or the receiver, of a bound channel. -/
def State.mbSends (s : State) (c : Nat) (m : Master) : Bool :=
  (s.mb c).bind.valid && decide (s.mbId c m = some (s.mb c).bind.sender)

def State.mbReceives (s : State) (c : Nat) (m : Master) : Bool :=
  (s.mb c).bind.valid && decide (s.mbId c m = some (s.mb c).bind.receiver)

/-- Changes a channel's state and tells of it. -/
def State.mbMove (s : State) (c : Nat) (v : Mbox) : WRes := (hOk, (s.setMb c v).mbNote c)

/-- DOORBELL: the channel becomes POSTED and records who posted. -/
def State.mbPost (s : State) (c len : Nat) (m : Master) : WRes :=
  let x := s.mb c
  if len = 0 ∨ 256 < len then (hBadArg, s)
  else if !s.mbSends c m then (hDenied, s)
  else if x.st ≠ .empty then (hBusy, s)
  else
    let se : Option Nat := match m with
      | .session n => some n
      | .onModule _ => none
    s.mbMove c { x with st := .posted, len, senderId := x.bind.sender, session := se, posts := satAdd 32 x.posts 1 }

/-- TAKE. -/
def State.mbTake (s : State) (c : Nat) (m : Master) : WRes :=
  let x := s.mb c
  if !s.mbReceives c m then (hDenied, s)
  else if x.st ≠ .posted then (hBusy, s)
  else s.mbMove c { x with st := .taken }

/-- ACK. -/
def State.mbAck (s : State) (c code : Nat) (m : Master) : WRes :=
  let x := s.mb c
  if !s.mbReceives c m then (hDenied, s)
  else if x.st ≠ .posted ∧ x.st ≠ .taken then (hBusy, s)
  else s.mbMove c { x with st := .acked, ackCode := code }

/-- CLEAR. -/
def State.mbClear (s : State) (c : Nat) (m : Master) : WRes :=
  let x := s.mb c
  if !s.mbSends c m then (hDenied, s)
  else if x.st ≠ .acked ∧ x.st ≠ .aborted then (hBusy, s)
  else s.mbMove c { x with st := .empty }

/-- A write of HL_MBOX_CTL. -/
def State.mbCtl (s : State) (c v : Nat) (m : Master) : WRes :=
  match bits v 2 0 with
  | 1 => s.mbPost c (bits v 40 32) m
  | 2 => s.mbTake c m
  | 3 => s.mbAck c (bits v 63 48) m
  | 4 => s.mbClear c m
  | _ => (hBadArg, s)

/-- A write of HL_MBOX_SLOT. -/
def State.mbSlot (s : State) (c w v : Nat) (m : Master) : WRes :=
  let x := s.mb c
  if !s.mbSends c m then (hDenied, s)
  else
    let slot := patch (slice x.slot 0 256) (8 * w) (leBytes 8 v)
    if x.st ≠ .empty then (if slot = slice x.slot 0 256 then hOk else hBusy, s) else (hOk, s.setMb c { x with slot })

/-- HL_MBOX_STATE as a register. -/
def Mbox.word (x : Mbox) : Nat :=
  x.ackCode * 2 ^ 48 + x.len * 2 ^ 32 + x.senderId * 2 ^ 20 + (match x.session with
    | some n => n * 2 ^ 16 + 2 ^ 15
    | none => 0) + x.st.code

/-! ### Commands of sessions -/

/-- A channel that a command names: its refusal, if any, before its state is looked at. -/
def State.mbGate (s : State) (c : Nat) : Option Nat :=
  if 64 ≤ c then some hBadArg
  else if s.scrubbing (s.mb c).bind.scopePlot then some hScrubbing
  else none

/-- MBOX_POST: the message goes into the slot and the channel becomes POSTED. -/
def State.hlPost (s : State) (n : Nat) (b : Bytes) : WRes :=
  let c := beAt b 0 1
  let len := beAt b 2 2
  if beAt b 1 1 ≠ 0 ∨ beAt b 4 4 ≠ 0 ∨ b.length ≠ 8 + len then (hBadArg, s)
  else match s.mbGate c with
    | some st => (st, s)
    | none =>
      let (st, s1) := s.mbPost c len (.session n)
      if st = hOk then
        (st, s1.setMb c { s1.mb c with slot := patch (slice (s1.mb c).slot 0 256) 0 (slice b 8 len) })
      else (st, s)

/-- MBOX_POST. -/
def execMboxPost (n : Nat) (s : State) : Res := .next (s.hlSimple n 0x40 (fun c s => s.hlPost n c.payload))

/-- MBOX_TAKE: takes as receiver, clears as sender; the reply holds HL_MBOX_STATE as the command found it. -/
def State.hlTake (s : State) (n : Nat) (b : Bytes) : Nat × Bytes × State :=
  let c := beAt b 0 1
  let x := s.mb c
  if b.length ≠ 1 then (hBadArg, [], s)
  else match s.mbGate c with
    | some st => (st, [], s)
    | none =>
      let takes := s.mbReceives c (.session n)
      let (st, s1) := if takes then s.mbTake c (.session n) else s.mbClear c (.session n)
      if st ≠ hOk then (st, [], s)
      else (hOk, beBytes 8 x.word ++ (if takes then slice x.slot 0 x.len else []), s1)

/-- MBOX_TAKE. -/
def execMboxTake (n : Nat) (s : State) : Res := .next (s.hlRun n 0x41 (fun c s => s.hlTake n c.payload))

/-- MBOX_ACK. -/
def State.hlAck (s : State) (n : Nat) (b : Bytes) : WRes :=
  let c := beAt b 0 1
  if b.length ≠ 4 ∨ beAt b 1 1 ≠ 0 then (hBadArg, s)
  else match s.mbGate c with
    | some st => (st, s)
    | none => s.mbAck c (beAt b 2 2) (.session n)

/-- MBOX_ACK. -/
def execMboxAck (n : Nat) (s : State) : Res := .next (s.hlSimple n 0x42 (fun c s => s.hlAck n c.payload))

/-! ### Claims (12 R463) -/

/-- The claimant that a master is, where it may claim a resource. -/
def State.claimant (s : State) (k : Nat) (m : Master) : Option Holder :=
  match m with
  | .session n => if k < 4 ∧ s.isOperator n then some (.session n) else none
  | .onModule id => if k < 4 ∧ mayClaim k id then some (.master id) else none

/-- A write of HL_CLAIM_k. -/
def State.heldWrite (s : State) (k v : Nat) (m : Master) : WRes :=
  match s.claimant k m with
  | some h => if bit v 31 then s.claim k h else s.unclaim k h
  | none => (hDenied, s)

/-- Whether a master holds a resource that its write would put to use (12 R464). -/
def State.holds? (s : State) (k : Nat) (m : Master) : Bool :=
  match s.claimant k m with
  | some h => decide (s.claimOf k = h)
  | none => false

/-- CLAIM by session `n`. -/
def State.hlClaim (s : State) (n : Nat) (b : Bytes) : Nat × Bytes × State :=
  let k := beAt b 0 1
  if b.length ≠ 1 ∨ 4 ≤ k then (hBadArg, [], s)
  else match s.claimant k (.session n) with
    | none => (hDenied, [], s)
    | some h =>
      let (st, s1) := s.claim k h
      (st, if st = hOk then beBytes 8 (s1.claimOf k).word else [], s1)

/-- CLAIM. -/
def execClaim (n : Nat) (s : State) : Res := .next (s.hlRun n 0x50 (fun c s => s.hlClaim n c.payload))

/-- RELEASE by session `n`. -/
def State.hlRelease (s : State) (n : Nat) (b : Bytes) : WRes :=
  let k := beAt b 0 1
  if b.length ≠ 1 ∨ 4 ≤ k then (hBadArg, s)
  else match s.claimant k (.session n) with
    | none => (hDenied, s)
    | some h => s.unclaim k h

/-- RELEASE. -/
def execRelease (n : Nat) (s : State) : Res := .next (s.hlSimple n 0x51 (fun c s => s.hlRelease n c.payload))

/-- Whether a LOCK or UNLOCK payload is well formed: KIND, three unused bytes, TARGET. -/
def lockForm (b : Bytes) : Bool := b.length == 8 && beAt b 1 3 == 0

/-- Whether a target is the block of an engine or site of a plot being torn down (12 R461). -/
def State.targetScrubs (s : State) (kind target : Nat) : Bool := kind == 0 && s.scrubbing (s.blockPlot target)

/-- LOCK. -/
def execLock (n : Nat) (s : State) : Res :=
  .next (s.hlRun n 0x52 (fun c s =>
    let k := beAt c.payload 0 1
    let t := beAt c.payload 4 4
    if !lockForm c.payload then (hBadArg, [], s)
    else if s.targetScrubs k t then (hScrubbing, [], s)
    else
      let (st, rev, s1) := s.lock n k t
      (st, if st = hOk then beBytes 1 rev else [], s1)))

/-- UNLOCK. -/
def execUnlock (n : Nat) (s : State) : Res :=
  .next (s.hlSimple n 0x53 (fun c s =>
    let k := beAt c.payload 0 1
    let t := beAt c.payload 4 4
    if !lockForm c.payload then (hBadArg, s)
    else if s.targetScrubs k t then (hScrubbing, s)
    else s.unlock n k t))

/-! ### Firmware, training, reset (12 R460; 14 R527, R532, R533) -/

/-- FW_LOAD. -/
def execFwLoad (n : Nat) (s : State) : Res :=
  parkIf (.fwLoad n) (ParkKey.session n).no (fun s => .next (s.hlSimple n 0x20 (fun c s =>
    if c.payload.length < 4 then (hBadArg, s) else s.fwLoad n (beAt c.payload 0 4) (c.payload.drop 4)))) s

/-- FW_START of one mode: the command at NEXT runs only in the row of its own MODE. -/
def State.fwStartRow (s : State) (n mode : Nat) : State :=
  match s.hlNext n with
  | some c =>
    let m := beAt c.payload 4 1
    if m = mode ∨ (mode = 0 ∧ 3 < m) then
      s.hlSimple n 0x21 (fun c s =>
        if c.payload.length ≠ 8 ∨ beAt c.payload 5 3 ≠ 0 then (hBadArg, s) else s.fwStart n (beAt c.payload 0 4) m)
    else s
  | none => s

/-- FW_START with MODE 0 (and a MODE that does not exist, which is refused). -/
def execFwStartRun (n : Nat) (s : State) : Res := .next (s.fwStartRow n 0)

/-- FW_START with MODE 1. -/
def execFwStartVerify (n : Nat) (s : State) : Res := .next (s.fwStartRow n 1)

/-- FW_START with MODE 2. -/
def execFwStartStage (n : Nat) (s : State) : Res :=
  parkIf (.fwStartStage n) (ParkKey.session n).no (fun s => .next (s.fwStartRow n 2)) s

/-- FW_START with MODE 3. -/
def execFwStartClear (n : Nat) (s : State) : Res := .next (s.fwStartRow n 3)

/-- TRAIN. -/
def execTrain (n : Nat) (s : State) : Res :=
  .next (s.hlSimple n 0x22 (fun c s =>
    if c.payload.length ≠ 3 then (hBadArg, s) else s.train n (beAt c.payload 0 2) (beAt c.payload 2 1)))

/-- RECORD_REPLAY. -/
def execRecordReplay (n : Nat) (s : State) : Res :=
  .next (s.hlSimple n 0x23 (fun c s =>
    if c.payload.length < 8 ∨ beAt c.payload 5 3 ≠ 0 then (hBadArg, s)
    else s.recordReplay n (beAt c.payload 0 4) (beAt c.payload 4 1) (c.payload.drop 8)))

/-- RESET_DEVICE: answered, then every other command is aborted and a whole reset follows (12 R460; 14 R513). -/
def execResetDevice (n : Nat) (s : State) : Res :=
  .next (match s.hlNext n with
  | some c =>
    if c.opcode ≠ 0x60 ∨ (s.hlRefusal n c).isSome ∨ c.payload ≠ [] then s.hlSimple n 0x60 (fun _ s => (hBadArg, s))
    else ((s.hlReply n c hOk []).hlQuiesce none).scheduleReset 1
  | none => s)

end Sys2Proof.Machine
end

