-- ==== Sys2Proof/Machine/Power.lean ====
section
/-! DEFINITION. Rails, sensors, the governor, the power limit and the protective stop (15). -/

namespace Sys2Proof.Machine

/-! ### Zones (15 R552-R555) -/

/-- A zone. -/
def State.zone (s : State) (z : Nat) : Zone := NTbl.at {} s.pwr.zones z

/-- Sets a zone. -/
def State.setZone (s : State) (z : Nat) (v : Zone) : State := { s with pwr := { s.pwr with zones := NTbl.put {} s.pwr.zones z v } }

/-- Whether a collective is in progress (15 R555; 11 R435). -/
def State.collective (s : State) : Bool := (List.range 16).any (fun x => decide (s.shState x ≠ 0))

/-- Whether a zone has both readings (15 R636); the temperature that 05 R221 substitutes counts. -/
def State.zoneKnown (s : State) (z : Nat) : Bool := (s.zone z).hubKnown && ((s.msite z).tempRead || (s.msite z).tempLost)

/-- Thresholds in quarter degrees (15 R554): of the stack, or of the hub. -/
def State.warnQ (s : State) (stk : Bool) : Int :=
  if stk then 4 * (85 - (s.f .PWR_CFG_STK_WARN_OFF : Int)) else 4 * (95 - (s.f .PWR_CFG_HUB_WARN_OFF : Int))

def State.hotQ (s : State) (stk : Bool) : Int :=
  if stk then 4 * (92 - (s.f .PWR_CFG_STK_HOT_OFF : Int)) else 4 * (102 - (s.f .PWR_CFG_HUB_HOT_OFF : Int))

def tripQ (stk : Bool) : Int := if stk then 392 else 440

/-- Temperature of a zone's stack, or of its hub. -/
def State.zoneTemp (s : State) (z : Nat) (stk : Bool) : Int :=
  if stk then asInt 12 (s.f .MEM_TEMP_TEMP_Q2 z) else asInt 12 (s.f .PWR_ZONE_STATUS_HUB_TEMP_Q2 z)

/-- Level of a zone's stack, or of its hub: 0 NORMAL, 1 WARN, 2 HOT, 3 TRIP. -/
def State.level (s : State) (z : Nat) (stk : Bool) : Nat :=
  if stk then s.f .PWR_ZONE_STATUS_STK_LEVEL z else s.f .PWR_ZONE_STATUS_HUB_LEVEL z

/-- The level after a temperature `t`: a level is entered at its threshold and left 3 °C below it; TRIP stays (15 R554). -/
def levelOf (old : Nat) (t warn hot trip : Int) : Nat :=
  if old = 3 ∨ trip ≤ t then 3
  else
    let e := if hot ≤ t then 2 else if warn ≤ t then 1 else 0
    if old ≤ e then e
    else if old = 2 ∧ hot - 12 < t then 2
    else if warn - 12 < t then 1 else 0

/-! ### Half issue and the grace (15 R556, R557) -/

/-- A memory site enters half issue, with a cause: 1 stack WARN, 2 stack HOT, 3 hub HOT. -/
def State.halfOn (s : State) (z cause : Nat) : State :=
  if (s.msite z).halfIssue then s
  else
    let first := !s.halfHeld
    let s1 := (s.setMsite z { s.msite z with halfIssue := true }).updateCap z
    let s2 := (s1.raise 0x9008 sevNone 2 z [z, cause] (.opPlots (plotMask (s.plotOfEngine z))) (s.plotOfEngine z)).flag .PWR_ERR_STATUS_HALF_ISSUE
    if first then s2.lagBegin else s2

/-- A memory site leaves half issue. -/
def State.halfOff (s : State) (z : Nat) : State :=
  if (s.msite z).halfIssue then
    ((s.setMsite z { s.msite z with halfIssue := false }).updateCap z).raise 0x9008 sevNone 2 z [z, 4]
      (.opPlots (plotMask (s.plotOfEngine z))) (s.plotOfEngine z)
  else s

/-- The collective grace ends; the causes are numbered as 15 R557 lists them. -/
def State.graceEnd (s : State) (z cause : Nat) : State :=
  if (s.zone z).grace.isSome then
    (s.setZone z { s.zone z with grace := none }).raise 0x9010 sevNone 1 z [z, cause]
  else s

/-- The collective grace starts; one of 0 ms ends at once. -/
def State.graceStart (s : State) (z : Nat) : State :=
  if s.collective then
    let s1 := (s.setZone z { s.zone z with grace := some s.now }).raise 0x9010 sevNone 1 z [z]
    if s.f .PWR_CFG_GRACE_MS = 0 then s1.graceEnd z 1 else s1
  else s

/-- Puts a level: its report, and the grace. -/
def State.putLevel (s : State) (z : Nat) (stk : Bool) (new : Nat) : State :=
  let old := s.level z stk
  if new = old then s
  else
    let s1 := s.setF (if stk then .PWR_ZONE_STATUS_STK_LEVEL else .PWR_ZONE_STATUS_HUB_LEVEL) z 0 new
    let s2 := s1.raiseLimited 1000 0x9001 sevNone 1 z [z, b2n stk, old, new, ofInt 12 (s.zoneTemp z stk)]
    if !stk then s2
    else if old = 0 ∧ new = 1 then s2.graceStart z
    else if new = 0 then s2.graceEnd z 4
    else if 2 ≤ new then s2.graceEnd z 2 else s2

/-- Brings both levels of a zone up to date. -/
def State.zoneLevels (s : State) (z : Nat) : State :=
  if !s.zoneKnown z then s
  else
    let put (stk : Bool) (s : State) : State :=
      s.putLevel z stk (levelOf (s.level z stk) (s.zoneTemp z stk) (s.warnQ stk) (s.hotQ stk) (tripQ stk))
    put true (put false s)

/-! ### The protective stop (15 R564, R565) -/

/-- A site's link and reset in a protective stop; its port's capacity follows (09 R334). -/
def State.siteStop (s : State) (n : Nat) : State :=
  let s1 := ((s.linkCut n).2.setF .SITE_STATUS_LINK n 0 0)
  ((s1.setLink n { s1.link n with rstLow := true, waking := false, rails := false, releaseAt := none,
                                     hold := false, lowUntil := s.now + 1000 }).mbReset (fun b => isSiteId n b.receiver)).siteCapSet n

/-- An engine's work ends without records (15 R565). -/
def State.engStop (s : State) (e : Nat) : State :=
  (s.setEng e { s.eng e with runs := [], streams := [] }).dropWaits (fun w => w.e == e)

/-- The protective stop (15 R564, R565): 1 hub TRIP, 2 stack TRIP, 3 rail fault; the first cause stays. -/
def State.protStop (s : State) (cause zone sensor temp rail : Nat) : State :=
  if s.stopped then s
  else
    let s1 := ((s.setF .PWR_STATUS_STOP 0 0 1).flag .PWR_ERR_STATUS_STOP).setF .PWR_STOP_INFO_CAUSE 0 0 cause
    let s2 := ((s1.setF .PWR_STOP_INFO_TEMP_Q2 0 0 temp).setF .PWR_STOP_INFO_RAIL 0 0 rail).setF .PWR_STOP_INFO_ZONE 0 0 zone
    let s3 := (List.range 8).foldl State.siteStop ((List.range 8).foldl State.engStop s2)
    let s4 := ((s3.sheafStop).stopDoms ((List.range 16) ++ [17, 18, 19, 20])).ccHalted
    (s4.raise 0x9050 sevModuleFatal 0 0 [cause, zone, sensor, temp]
      (.opPlots (maskOf ((List.range 8).filter (fun p => (s.plot p).active))))).railsFollow s

/-! ### HOT, TRIP and steps (15 R550, R551, R556) -/

/-- Whether an engine's clock follows the governor's steps. -/
def State.engClocked (s : State) (e : Nat) : Bool := s.present .engine e && (s.dom e).running

/-- HOT: the clock of step 5 at once, whatever change is in progress; lowering the voltage is then the change in progress
(15 R551). -/
def State.coolNow (s : State) (z : Nat) : State :=
  let s1 := s.setF .PWR_ZONE_STATUS_CAP_THERM z 0 5
  if s.f .PWR_ZONE_STATUS_STEP z = 5 ∧ (s.zone z).changing = none then s1
  else if s.engClocked z then ((s1.putStep z 5).stepVolt z 5).setZone z { s1.zone z with changing := some 5 }
  else (s1.setF .PWR_ZONE_STATUS_STEP z 0 5).setZone z { s1.zone z with changing := none }

/-- What HOT and TRIP do. -/
def State.heat (s : State) (z : Nat) : State :=
  let hub := s.level z false
  let stk := s.level z true
  if s.stopped then s
  else if hub = 3 then s.protStop 1 z 0 (ofInt 12 (s.zoneTemp z false)) 0
  else if stk = 3 then s.protStop 2 z 1 (ofInt 12 (s.zoneTemp z true)) 0
  else if hub = 2 ∨ stk = 2 then (s.coolNow z).halfOn z (if stk = 2 then 2 else 3)
  else s

/-- A zone's readings have changed. -/
def State.zoneRead (s : State) (z : Nat) : State := (s.zoneLevels z).heat z

/-- MEM_TEMP_READING: a reading of a stack's sensor (05 R219-R221; 15 R552). -/
def execMemTempReading (n : Nat) (q2 : Option Int) (s : State) : Res :=
  .next (if 8 ≤ n ∨ !(s.dom (8 + n)).running ∨ (s.msite n).fatal then s
  else
    let s1 := s.stackReading n q2
    let read : Option Int := if (s1.msite n).tempLost then some 368 else q2
    let s2 := match read with
      | some t => if !(s.zone n).stkSeen ∨ asInt 12 (s.f .PWR_ZONE_MAX_STK_MAX_Q2 n) < t then
          (s1.setF .PWR_ZONE_MAX_STK_MAX_Q2 n 0 (ofInt 12 t)).setZone n { s1.zone n with stkSeen := true }
        else s1
      | none => s1
    s2.zoneRead n)

/-- The hottest valid reading of a zone's hub sensors, eight under CEn and four under Mn (15 R552). -/
def hottest (readings : List (Option Int)) : Option Int :=
  readings.foldl (fun a r => match a, r with
    | some x, some y => some (max x y)
    | some x, none => some x
    | none, y => y) none

/-- HUB_SENSOR_READING: the readings of a zone's hub sensors (15 R552, R636). -/
def execHubSensorReading (z : Nat) (readings : List (Option Int)) (s : State) : Res :=
  let x := s.zone z
  .next (if 8 ≤ z ∨ s.aon.porstLow ∨ s.aon.refLost then s
  else match hottest readings with
  | some t =>
    let s1 := (s.setZone z { x with hubFails := 0, hubKnown := true, hubSeen := true }).setF .PWR_ZONE_STATUS_SENSOR_LOST z 0 0
    let s2 := s1.setF .PWR_ZONE_STATUS_HUB_TEMP_Q2 z 0 (ofInt 12 t)
    (if !x.hubSeen ∨ asInt 12 (s.f .PWR_ZONE_MAX_HUB_MAX_Q2 z) < t then s2.setF .PWR_ZONE_MAX_HUB_MAX_Q2 z 0 (ofInt 12 t)
      else s2).zoneRead z
  | none =>
    let k := x.hubFails + 1
    if 3 ≤ k ∧ s.f .PWR_ZONE_STATUS_SENSOR_LOST z = 0 then
      let s1 := (s.setZone z { x with hubFails := k, hubKnown := true }).setF .PWR_ZONE_STATUS_SENSOR_LOST z 0 1
      let s2 := (s1.setF .PWR_ZONE_STATUS_HUB_TEMP_Q2 z 0 (ofInt 12 (s.hotQ false))).flag .PWR_ERR_STATUS_TSENSE_LOST
      (s2.raise 0x9018 sevCorrected 1 z [z]).zoneRead z
    else s.setZone z { x with hubFails := k })

/-! ### The tick (15 R556-R561) -/

/-- One zone at a tick, with the collective's end, half issue and the fall of the thermal cap. -/
def State.tickZone (s0 : State) (z : Nat) : State :=
  let s := if s0.f .PWR_ZONE_STATUS_SENSOR_LOST z = 1 then
      s0.setF .PWR_ZONE_STATUS_HUB_TEMP_Q2 z 0 (ofInt 12 (s0.hotQ false))
    else s0
  if !s.zoneKnown z then s
  else
    let cap := s.f .PWR_ZONE_STATUS_CAP_THERM z
    let s1 := s.zoneRead z
    if s1.stopped then s1
    else
      let hub := s1.level z false
      let stk := s1.level z true
      let s2 := if s1.collective then s1 else s1.graceEnd z 3
      let s3 := if stk = 1 ∧ cap = 5 ∧ (s2.zone z).grace = none then s2.halfOn z 1 else s2
      let s4 := if (hub = 1 ∨ stk = 1) ∧ hub < 2 ∧ stk < 2 then s3.setF .PWR_ZONE_STATUS_CAP_THERM z 0 (min 5 (cap + 1)) else s3
      if s4.zoneTemp z true < s4.warnQ true - 12 ∧ s4.zoneTemp z false < s4.hotQ false - 12 then s4.halfOff z else s4

/-- The samples of the power window: one for each tick of WINDOW_MS. -/
def State.windowSamples (s : State) : List Nat :=
  let l := s.pwr.samples
  l.drop (l.length - 10 * s.f .PWR_LIMIT_WINDOW_MS)

/-- Whether the average of the window exceeds LIMIT_W, and whether it is below 95 % of it. -/
def State.overLimit (s : State) : Bool :=
  decide (s.f .PWR_LIMIT_LIMIT_W * s.windowSamples.length < s.windowSamples.sum)

def State.underLimit (s : State) : Bool :=
  decide (100 * s.windowSamples.sum < 95 * s.f .PWR_LIMIT_LIMIT_W * s.windowSamples.length)

/-- Engines that are PRESENT. -/
def State.enginesPresent (s : State) : List Nat := (List.range 8).filter (s.present .engine)

/-- Power of a rail by its latest PMBus readings, in W. -/
def State.railWatts (s : State) (r : Nat) : Nat := s.f .PWR_RAIL_STATUS_VOUT_MV r * s.f .PWR_RAIL_STATUS_IOUT_DA r / 10000

/-- The zones' estimates, in W: engine, memory site, stack of zone 0, then of zone 1, and so on (15 R553). -/
def State.putEstimates (s : State) (est : List Nat) : State :=
  (List.range 8).foldl (fun s z =>
    ((s.setF .PWR_ZONE_POWER_ENG_W z 0 (min 65535 (est.getD (3 * z) 0))).setF .PWR_ZONE_POWER_MEM_W z 0
      (min 65535 (est.getD (3 * z + 1) 0))).setF .PWR_ZONE_POWER_STK_W z 0 (min 65535 (est.getD (3 * z + 2) 0))) s

/-- Module power (15 R553): the zones' estimates, the common one, and the readings of rails 9 and 13 to 15. -/
def State.modulePower (s : State) (est : List Nat) : Nat :=
  ((List.range 25).map (fun k => est.getD k 0)).sum + (([9, 13, 14, 15]).map s.railWatts).sum

/-- The power limit at a tick (15 R560, R561). -/
def State.tickPower (s0 : State) (est : List Nat) : State :=
  let s := s0.putEstimates est
  let l := s.pwr.samples ++ [s.modulePower est]
  let s1 := { s with pwr := { s.pwr with samples := l.drop (l.length - 10000) } }
  let win := s1.windowSamples
  let s2 := s1.setF .PWR_STATUS_MOD_W 0 0 (min 65535 (win.sum / win.length))
  if !s2.overLimit then s2
  else
    let all5 := s2.enginesPresent.all (fun e => s2.f .PWR_ZONE_STATUS_CAP_POWER e == 5)
    let s3 := s2.enginesPresent.foldl (fun s e =>
      s.setF .PWR_ZONE_STATUS_CAP_POWER e 0 (min 5 (s.f .PWR_ZONE_STATUS_CAP_POWER e + 1))) s2
    if all5 then (s3.raiseLimited 100000 0x9020 sevNone 0 0 [] .op).flag .PWR_ERR_STATUS_LIMIT_UNMET else s3

/-- A change of step begins where one is due and none is in progress (15 R551): to a slower step the clock changes first, to a
faster one the voltage. An engine without a clock takes its step at once. -/
def State.tickStep (s : State) (e : Nat) : State :=
  let t := s.stepTarget e
  let x := s.zone e
  if s.f .PWR_ZONE_STATUS_STEP e = t ∧ x.changing = none then s
  else if !s.engClocked e then (s.setF .PWR_ZONE_STATUS_STEP e 0 t).setZone e { x with changing := none }
  else if x.changing.isSome then s
  else
    let s1 := if s.f .PWR_ZONE_STATUS_STEP e < t then (s.putStep e t).stepVolt e t else s.stepVolt e t
    s1.setZone e { x with changing := some t }

/-- The counters of PWR_ZONE_TIME advance by a tick. -/
def State.tickTime (s : State) (z : Nat) : State :=
  let s1 := if s.f .PWR_ZONE_STATUS_CAP_THERM z ≠ 0 then s.count .PWR_ZONE_TIME_THROTTLE_US z 0 32 100 else s
  if (s1.msite z).halfIssue then s1.count .PWR_ZONE_TIME_HALF_US z 0 32 100 else s1

/-- GOVERNOR_TICK; the estimators' values as last scaled, of the zones and the common one (15 R553; log 103). -/
def execGovernorTick (est : List Nat) (s : State) : Res :=
  .next (if !(s.dom 22).running ∨ s.stopped then s
  else
    let s1 := (List.range 8).foldl State.tickZone s
    if s1.stopped then s1
    else
      let s2 := s1.tickPower est
      (List.range 8).foldl State.tickTime ((List.range 8).foldl State.tickStep s2))

/-- GRACE_EXPIRY. -/
def execGraceExpiry (z : Nat) (s : State) : Res := .next (s.graceEnd z 1)

/-- CAP_RISE: RISE_MS has passed, and each cap whose condition holds rises by one step (15 R556, R560). -/
def execCapRise (z : Nat) (s : State) : Res :=
  let cool : Bool := s.zoneKnown z && decide (s.zoneTemp z true ≤ s.warnQ true - 12)
    && decide (s.zoneTemp z false ≤ s.warnQ false - 12)
  .next (if 8 ≤ z ∨ !(s.dom 22).running ∨ s.stopped then s
  else
    let s1 := if cool then s.setF .PWR_ZONE_STATUS_CAP_THERM z 0 (s.f .PWR_ZONE_STATUS_CAP_THERM z - 1) else s
    if s1.underLimit then s1.setF .PWR_ZONE_STATUS_CAP_POWER z 0 (s1.f .PWR_ZONE_STATUS_CAP_POWER z - 1) else s1)

/-- DVFS_CHANGE_DONE: voltage and clock of a step are in place (15 R551; 03 R106). -/
def execDvfsChangeDone (e : Nat) (s : State) : Res :=
  match (s.zone e).changing with
  | some k =>
    let s1 := s.setZone e { s.zone e with changing := none }
    .next (if s.engClocked e then s1.putStep e k else s1)
  | none => .next s

/-! ### Rail faults and readings (15 R547, R548, R563) -/

/-- A rail fault (15 R548). -/
def State.railFaulted (s : State) (r word : Nat) : State :=
  if 32 ≤ r ∨ s.railState r ≠ 1 then s
  else
    let s1 := { s with pwr := { s.pwr with railFault := setBit s.pwr.railFault r true } }.flag .PWR_ERR_STATUS_RAIL_FAULT
    let report (sev : Nat) : State := s1.raise 0x9030 sev 0 0 [r, word] .op
    if r < 8 then (report sevUnitFatal).engineFault r 2 true false
    else if r < 16 then (report sevModuleFatal).protStop 3 0 0 0 r
    else (report sevUnitFatal).siteFailed ((r - 16) / 2) 0 false

/-- PWR_RAIL_FAULT. -/
def execPwrRailFault (r statusWord : Nat) (s : State) : Res := .next (s.railFaulted r statusWord)

/-- One rail's readings; a rail that fails four transactions gives no STATUS_WORD, which is free (log 4). -/
def State.railRead (s : State) (x : RailReading) : State :=
  if 32 ≤ x.rail ∨ s.railState x.rail ≠ 1 then s
  else if 4 ≤ x.fails then
    let (w, s1) := s.freeBelow 65536
    s1.railFaulted x.rail w
  else
    let s1 := (s.setF .PWR_RAIL_STATUS_VOUT_MV x.rail 0 (min 65535 x.mv)).setF .PWR_RAIL_STATUS_IOUT_DA x.rail 0 (min 65535 x.da)
    let s2 := s1.setF .PWR_RAIL_STATUS_TEMP_C x.rail 0 (min 255 x.tempC)
    if x.fails = 0 then s2
    else (s2.raiseLimited 100000 0x9038 sevCorrected 0 0 [x.rail] .op).flag .PWR_ERR_STATUS_PMBUS_RETRY

/-- PMBUS_POLL. -/
def execPmbusPoll (readings : List RailReading) (s : State) : Res :=
  .next (if s.aon.porstLow then s else readings.foldl State.railRead s)

/-- The fault bits of STATUS_WORD (log 103, PRESUMED: PMBus; all but BUSY, OFF and POWER_GOOD#). -/
def statusFault (w : Nat) : Bool := decide (w &&& 0xF73F ≠ 0)

/-- PMB_ALERT: STATUS_WORD of every rail is read. -/
def execPmbAlert (words : List (Nat × Nat)) (s : State) : Res :=
  .next (if s.aon.porstLow then s
  else words.foldl (fun s x => if statusFault x.2 then s.railFaulted x.1 x.2 else s) s)

/-- SITE_POWER_AVERAGE: a site's 10 ms average and highest 1 ms power (15 R563). -/
def execSitePowerAverage (n avgW peakW : Nat) (s : State) : Res :=
  .next (if 8 ≤ n ∨ s.aon.porstLow then s
  else
    let s1 := s.setF .PWR_SITE_STATUS_AVG_W n 0 (min 65535 avgW)
    let s2 := s1.setF .PWR_SITE_STATUS_PEAK_W n 0 (max (s1.f .PWR_SITE_STATUS_PEAK_W n) (min 65535 peakW))
    let s3 := if s2.f .PWR_SITE_CFG_LIMIT_W n < avgW then
        (s2.raiseLimited 100000 0x9028 sevNone 5 n [n, avgW]).flag .PWR_ERR_STATUS_SITE_OVER
      else s2
    if 198 < peakW then
      let (w, s4) := s3.freeBelow 65536
      s4.railFaulted (16 + 2 * n) w
    else s3)

end Sys2Proof.Machine
end

