-- ==== Sys2Proof/Machine/Telemetry.lean ====
section
/-! DEFINITION. Telemetry and debug as their registers and rows act: counter captures, the carve-out, export, Glean, probes,
debug stores, debug halt, the analogue test bus (16). -/

namespace Sys2Proof.Machine

/-! ### Counter captures (16 R578) -/

/-- A write of TEL_SNAP_CTL: by how much each captured count exceeds its domain's, up to 4, is free (log 4). -/
def State.telSnap (s : State) (v : Nat) : WRes :=
  if bits v 0 0 = 0 ∨ s.tel.snap then (hOk, s)
  else
    let s1 := (List.range 25).foldl (fun s d =>
      let (k, s1) := s.freeBelow 5
      s1.setF .TEL_SNAP_CYC_COUNT d 0 (satAdd 64 (s1.dom d).cycles k)) s
    let s2 := s1.setF .TEL_SNAP_CTL_SNAP_SEQ 0 0 ((s1.f .TEL_SNAP_CTL_SNAP_SEQ + 1) % 2 ^ 32)
    (hOk, s2.setTel { s2.tel with snap := true })

/-- SNAP_CAPTURE_DONE. -/
def execSnapCaptureDone (s : State) : Res := .next (s.setTel { s.tel with snap := false })

/-! ### The carve-out (16 R579, R580) -/

/-- A write of TEL_CO_CTL by the holder of claim 0: OPEN acts on a closed carve-out, CLOSE on an open one. -/
def State.telCo (s : State) (v : Nat) : WRes :=
  if bits v 1 0 = 0 then (hOk, s)
  else if s.coState = 1 then (hBusy, s)
  else if s.coState = 0 ∧ bit v 0 then (hOk, s.coOpen)
  else if s.coState = 2 ∧ bit v 1 then (hOk, s.coClose)
  else (hOk, s)

/-- Ways 14 and 15 leave the LLC (16 R579): which of the lines held lie in them is open, and those are written back and
dropped (log 8). -/
def State.waysLeave (s : State) : State :=
  let lines := s.mem.llc.zipIdx.filter (fun e => decide (Config.free (s.freeCtr + e.2) % 2 = 1))
  lines.foldl (fun s e => s.llcDrop e.1.1) { s with freeCtr := s.freeCtr + s.mem.llc.length }

/-- TEL_CO_STATE: the ways are written back and zeroed, and STATE leaves 1. -/
def execTelCoState (s : State) : Res :=
  if s.coState ≠ 1 then .next s
  else
    let new := if s.tel.opening then 2 else 0
    let s0 := if s.tel.opening then s.waysLeave else s
    let s1 := s0.setTel { s0.tel with co := [], opening := false, stopped := 0, post := none }
    .next ((s1.setF .TEL_CO_CTL_STATE 0 0 new).raise 0xA001 sevNone 0 0 [new] .op)

/-- Whether two page ranges overlap. -/
def pagesMeet (b1 n1 b2 n2 : Nat) : Bool := decide (b1 < b2 + n2) && decide (b2 < b1 + n1)

/-- A write of TEL_CO_REGION i; an accepted write of an enabled region restarts it. -/
def State.telRegion (s : State) (i v : Nat) : WRes :=
  let size := bits v 58 44
  let base := bits v 41 28
  let user := bits v 5 4
  let en := bits v 0 0
  let clash := (List.range 4).any (fun j => decide (j ≠ i) && decide (s.f .TEL_CO_REGION_ENABLE j = 1)
    && (decide (user ≠ 0 ∧ s.f .TEL_CO_REGION_USER j = user)
      || pagesMeet base size (s.f .TEL_CO_REGION_BASE j) (s.f .TEL_CO_REGION_SIZE j)))
  if s.coState ≠ 2 ∨ 16384 < base + size ∨ (en = 1 ∧ clash) then (hBadArg, s)
  else
    let s1 := ([(Fid.TEL_CO_REGION_SIZE, size), (.TEL_CO_REGION_BASE, base), (.TEL_CO_REGION_USER, user),
      (.TEL_CO_REGION_MODE, bits v 1 1), (.TEL_CO_REGION_ENABLE, en)] : List (Fid × Nat)).foldl
        (fun s x => s.setF x.1 i 0 x.2) s
    if en = 1 then
      let s2 := ([Fid.TEL_CO_REGSTAT_WR_PTR, .TEL_CO_REGSTAT_FULL, .TEL_CO_REGSTAT_WRAPPED]).foldl
        (fun s f => s.setF f i 0 0) s1
      (hOk, s2.setTel { s2.tel with stopped := setBit s2.tel.stopped i false, post := if user = 1 then none else s2.tel.post })
    else (hOk, s1)

/-! ### Export (16 R583) -/

/-- Whether a destination may take an export. -/
def State.exportOk (s : State) (src len dest : Nat) : Bool :=
  s.coState == 2 && decide (0 < len) && decide (src + len ≤ 2 ^ 26) && decide (dest + len ≤ memSize)
    && (granulesOf dest len).all (fun g =>
      s.granAvail g && decide (s.granPlots g = 0) && !s.sec.common.contains g && (s.primaryOf g).isNone)

/-- A write of TEL_EXPORT. -/
def State.telExport (s : State) (v : Nat) : WRes :=
  let s1 := s.setF .TEL_EXPORT_DEST 0 0 (bits v 51 6)
  let src := 64 * s.f .TEL_EXPORT_SRC_SRC
  let len := 64 * s.f .TEL_EXPORT_SRC_LENGTH_L
  let dest := 64 * bits v 51 6
  if bits v 0 0 = 0 then (hOk, s1)
  else if s.tel.job.isSome then (hBusy, s)
  else if s.exportOk src len dest then
    (hOk, (s1.setF .TEL_EXPORT_RESULT_CODE 0 0 1).setTel { s1.tel with job := some (src, len, dest) })
  else (hBadArg, s.setF .TEL_EXPORT_RESULT_CODE 0 0 3)

/-- TEL_EXPORT_DONE: the bytes copied are those the carve-out holds at the end; the Headland's identity writes them (log
99). -/
def execTelExportDone (s : State) : Res :=
  parkIf .telExportDone ParkKey.dump.no (fun s => .next (match s.tel.job with
    | some (src, len, dest) =>
      let (_, _, s1) := (s.setTel { s.tel with job := none }).wr { id := 0x60, plot := none } dest (cellBytes s.tel.co src len)
      (s1.setF .TEL_EXPORT_RESULT_CODE 0 0 2).raise 0xA018 sevNone 0 0 [2] .op
    | none => s)) s

/-! ### Glean (16 R584-R587) -/

/-- SRC_INDEX limits of the source kinds. -/
def glnSources (kind : Nat) : Nat := [30, 30, 8, 8, 8, 32, 1, 8, 8, 8].getD kind 0

/-- Requests of a waiting command that await a response at a port: its lines of one 512-byte block are one request (07 R259; log
21). -/
def State.parkOut (s : State) (p : Nat) (x : Parked) : Nat :=
  ((x.want.filter (fun w => w.port == p && !w.window && !w.bank && decide (s.now < w.since + w.limit))).map
    (fun w => (w.line / 8, w.write))).eraseDups.length

/-- Requests of a port that await a response (07 R294): the mesh's, agents', and those of commands that wait. -/
def State.portOut (s : State) (p : Nat) : Nat :=
  (s.mesh.reqs.filter (fun r => r.port == p && decide (r.phase ≠ .waitPort) && !r.late)).length
    + (s.cohOut.filter (fun r => r.inPort == p)).length + (s.coh.parked.map (s.parkOut p)).sum

/-- Valid entries of a snoop-filter slice (08 R325). -/
def State.sfValid (s : State) (n : Nat) (owned : Bool) : Nat :=
  (s.coh.sf.filter (fun e => decide (s.home (e.1 * 64) = n) && (match e.2 with
    | some x => !owned || x.owned
    | none => false))).length

/-- The level a source has; none while a zone or stack has no reading. -/
def State.glnLevel (s : State) (kind i : Nat) : Option Nat :=
  match kind with
  | 1 => some (s.portOut i)
  | 2 => some ((s.msite i).trackers + s.homeLoad i (fun _ => true))
  | 3 => if (s.zone i).hubKnown then some (ofInt 32 (s.zoneTemp i false)) else none
  | 4 => if (s.msite i).tempRead ∨ (s.msite i).tempLost then some (ofInt 32 (s.zoneTemp i true)) else none
  | 5 => some (s.f .PWR_RAIL_STATUS_IOUT_DA i)
  | 6 => some (s.f .PWR_STATUS_MOD_W)
  | 7 => some (NTbl.at 0 s.eth.occ i / 1024)
  | 8 => some (s.sfValid i false)
  | 9 => some (s.msite i).combInUse
  | _ => none

/-- GLEAN_SAMPLE: PERIOD_US has passed for a monitor of a level. -/
def execGleanSample (m : Nat) (s : State) : Res :=
  if s.f .GLN_CFG_ENABLE m = 0 then .next s
  else match s.glnLevel (s.f .GLN_CFG_SRC_KIND m) (s.f .GLN_CFG_SRC_INDEX m) with
    | some v => .next (s.glnSample m v)
    | none => .next s

/-- Cycle count of the AON domain. -/
def State.aonCycles (s : State) : Nat := (s.dom 24).cycles

/-- The record of an epoch. -/
def State.glnRecord (s : State) (m : Nat) : Bytes :=
  let g := s.gln m
  leBytes 1 m ++ leBytes 1 (s.f .GLN_CFG_SRC_KIND m) ++ leBytes 2 (s.f .GLN_CFG_SRC_INDEX m) ++ leBytes 4 g.seq
    ++ leBytes 8 g.start ++ leBytes 8 s.aonCycles ++ leBytes 4 g.min ++ leBytes 4 g.max ++ leBytes 8 g.count
    ++ leBytes 8 g.sum ++ leBytes 16 0 ++ (List.range 64).flatMap (fun b => leBytes 4 (NTbl.at 0 g.bins b))

/-- GLEAN_EPOCH: the record goes to the Glean region, and the bins are cleared. -/
def execGleanEpoch (m : Nat) (s : State) : Res :=
  if s.f .GLN_CFG_ENABLE m = 0 ∨ s.f .GLN_CFG_HIST_EN m = 0 then .next s
  else
    let s1 := s.coWrite 3 (s.glnRecord m)
    .next (s1.setGln m { skip := (s.gln m).skip, seq := ((s.gln m).seq + 1) % 2 ^ 32, start := s.aonCycles })

/-- What ENABLE does to a monitor: COUNT and SUM run from it, and so does the epoch. -/
def State.glnStart (s : State) (m : Nat) : State :=
  ((s.setF .GLN_COUNT_COUNT m 0 0).setF .GLN_SUM_SUM m 0 0).setGln m { seq := (s.gln m).seq, start := s.aonCycles }

/-! ### Probes (16 R589, R602) -/

/-- ENABLE = 1 clears a probe's counts. -/
def State.prbStart (s : State) (k : Nat) : State := (s.setF .PRB_PKTS_COUNT k 0 0).setF .PRB_BYTES_COUNT k 0 0

/-- TRIG_OUT_PULSE_END: 20 ns have passed. -/
def execTrigOutPulseEnd (s : State) : Res :=
  .next (if s.tel.trigHigh then (s.setTel { s.tel with trigHigh := false }).emit (.pin 0 0) else s)

/-- The claim that a write of PRB_CFG or PRB_TRIG needs: 0 for TRACE, 3 for a TRIGGER that drives TRIG_OUT. -/
def prbClaims (en act mode : Nat) : List Nat :=
  if en = 0 then [] else (if bit act 1 then [0] else []) ++ (if bit act 2 ∧ mode = 0 then [3] else [])

/-! ### Debug stores (16 R594) -/

/-- Bytes of each store that DBG_SEL names. -/
def dbgSize (store : Nat) : Nat := [tileSize, 0x200000, 0x80000, 0x2000, 0x400000, 0x800000].getD store 0

/-- The plots that an access to a store touches (13 R506). -/
def State.dbgTouches (s : State) (store way unit : Nat) : Nat :=
  if store < 4 then plotMask (s.plotOfEngine unit)
  else if store = 4 then maskOf ((List.range 8).filter (fun p => (s.plot p).active && bit (s.plot p).ways way))
  else 0

/-- The stream that holds a lane group's registers. -/
def State.groupStream (s : State) (e g : Nat) : Stream :=
  (s.stream e (16 * g)).getD
    { q := 16, idx := 0, no := 0, scalar := false, pc := 0, steps := 0, limit := 0, ended := true, sreg := [], snan := [],
      vreg := [], vnan := [], pred := [] }

/-- A word of a store: accumulators whose contents the manual leaves inside the array, lane registers of a group that has
run nothing, and LLC ways, whose lines are placed without a rule (log 8), read free values (log 4). Lane registers lie
register after register, four bytes a lane. -/
def State.dbgRead (s : State) (store array unit off : Nat) : Nat × State :=
  let g := s.eng unit
  let (k, s1) := s.freeBelow (2 ^ 64)
  match store with
  | 0 => (leNat (g.tileBytes off 8), s.tmMeet unit off 8)
  | 1 => if (Tbl.get (fun _ => none) (g.acc.map (fun e => (e.1, some e.2))) (array, off)).isSome then
      (leNat ((List.range 8).map (fun i => PTbl.at 0 g.acc array (off + i))), s) else (k, s1)
  | 2 => match s.stream unit (16 * array) with
    | some t =>
      let l := t.v (off / 16384)
      let i := off % 16384 / 4
      ((l.getD i 0).toNat + 2 ^ 32 * (l.getD (i + 1) 0).toNat, s)
    | none => (k, s1)
  | 3 => (NTbl.at 0 g.lps (off / 8), s)
  | 5 => (leNat (cellBytes s.boot.sram off 8), s)
  | _ => (k, s1)

/-- A word written to an LLC way: the line it reaches, of the carve-out or of those the slice holds, is free (log 8). -/
def State.dbgWay (s : State) (way unit off : Nat) (b : Bytes) : State :=
  let held := (s.mem.llc.map Prod.fst).filter (fun l => s.home (l * 64) == unit)
  if s.coState = 2 ∧ 14 ≤ way then
    let (k, s1) := s.freeBelow (2 ^ 20)
    s1.setTel { s1.tel with co := putCells s1.tel.co (k / 512 * 32768 + unit * 4096 + k % 512 * 8) b }
  else
    let (k, s1) := s.freeBelow (held.length + 1)
    match held[k]? with
    | some l => s1.storeIn (l * 64 + off % 64) b
    | none => s1

/-- A word written to a store. -/
def State.dbgWrite (s : State) (store array way unit off v : Nat) : State :=
  let b := leBytes 8 v
  let g := s.eng unit
  match store with
  | 0 => s.setEng unit (g.tileWrite off b false)
  | 1 => s.setEng unit { g with acc := b.zipIdx.foldl (fun t x => PTbl.put 0 t array (off + x.2) x.1) g.acc }
  | 2 =>
    let t := s.groupStream unit array
    let r := off / 16384
    let i := off % 16384 / 4
    let l := ((t.v r).set i (BitVec.ofNat 32 v)).set (i + 1) (BitVec.ofNat 32 (v / 2 ^ 32))
    s.setStream unit (16 * array) { t with vreg := NTbl.put [] t.vreg r l }
  | 3 => s.setEng unit { g with lps := NTbl.put 0 g.lps (off / 8) v }
  | 4 => s.dbgWay way unit off b
  | 5 => { s with boot := { s.boot with sram := putCells s.boot.sram off b } }
  | _ => s

/-- An access to DBG_DATA by debug: `w` the word of a write. Status, value, state; DBG_OFFSET then moves on by 8. -/
def State.dbgData (s : State) (w : Option Nat) : Nat × Nat × State :=
  let store := s.f .DBG_SEL_STORE
  let array := s.f .DBG_SEL_ARRAY
  let way := s.f .DBG_SEL_WAY
  let unit := s.f .DBG_SEL_UNIT
  let off := 8 * s.f .DBG_OFFSET_OFFSET
  let s1 := s.touchAll (s.dbgTouches store way unit) off
  if dbgSize store ≤ off then (hBadArg, 0, s1)
  else
    let (v, s2) := match w with
      | some v => (0, s1.dbgWrite store array way unit off v)
      | none => s1.dbgRead store array unit off
    (hOk, v, s2.setF .DBG_OFFSET_OFFSET 0 0 ((off / 8 + 1) % 2 ^ 29))

/-! ### DEBUG_HALT (16 R595) -/

/-- Halts (0), resumes (1) or steps (2) an engine; its plot's debug-touch flag is set before, whether or not it succeeds (13
R506). -/
def State.haltEngine (s : State) (action e : Nat) : WRes :=
  let p := s.pstate e
  let s1 := s.touchAll (plotMask (s.plotOfEngine e)) e
  if p = 2 ∨ p = 3 ∨ p = 5 then (hBusy, s1)
  else if !s.present .engine e then (hNotReady, s1)
  else
    let g := s1.eng e
    match action with
    | 0 => (hOk, if g.halted then s1 else (s1.setEng e { g with halted := true, stepMask := 0 }).raise 0xA020 sevNone 1 e [1, e] .op)
    | 1 => (hOk, if g.halted then (s1.setEng e { g with halted := false, stepMask := 0 }).raise 0xA020 sevNone 1 e [1, e] .op else s1)
    | _ => (hOk, if g.halted then (s1.setEng e { g with stepMask := 2 ^ 65 - 1 }).raise 0xA020 sevNone 1 e [1, e] .op else s1)

/-- Halts, resumes or steps a CC core; the instructions that CC executes are not the model's (NOTES.md, Scope). -/
def State.haltCore (s : State) (action c : Nat) : WRes :=
  let h := bit s.boot.ccHalt c
  let put (b : Bool) : State := { s with boot := { s.boot with ccHalt := setBit s.boot.ccHalt c b } }
  match action with
  | 0 => (hOk, if h then s else (put true).raise 0xA020 sevNone 14 c [14, c] .op)
  | 1 => (hOk, if h then (put false).raise 0xA020 sevNone 14 c [14, c] .op else s)
  | _ => (hOk, if h then s.raise 0xA020 sevNone 14 c [14, c] .op else s)

/-- DEBUG_HALT of a unit. -/
def State.debugHalt (s : State) (cls unit action : Nat) : WRes :=
  if 2 < action then (hBadArg, s)
  else if cls = 1 ∧ unit < 8 then s.haltEngine action unit
  else if cls = 14 ∧ unit < 4 then s.haltCore action unit
  else (hBadArg, s)

/-! ### The analogue test bus (16 R598, R599) -/

/-- Whether a node takes a forced current. -/
def atbDiode (node : Nat) : Bool := decide (15 ≤ node) && decide (node ≤ 22)

/-- What a pin connects to, as it leaves the module: MODE, IFORCE_UA and NODE. -/
def State.atbPin (s : State) (j : Nat) : Nat :=
  if s.f .ATB_CFG_MODE j = 0 then 0
  else s.f .ATB_CFG_MODE j * 65536 + s.f .ATB_CFG_IFORCE_UA j * 256 + s.f .ATB_CFG_NODE j

/-- A write of ATB_CFG j by the holder of claim 1 + j. -/
def State.atbCfg (s : State) (j v : Nat) : WRes :=
  let mode := bits v 1 0
  let node := bits v 15 8
  let ua := bits v 31 24
  if mode = 2 ∧ !s.lcAnalysis then (hDenied, s)
  else if mode = 2 ∧ (!atbDiode node ∨ ua = 0 ∨ 100 < ua) then (hBadArg, s)
  else
    let s1 := ([(Fid.ATB_CFG_MODE, mode), (.ATB_CFG_NODE, node), (.ATB_CFG_IFORCE_UA, ua)] : List (Fid × Nat)).foldl
      (fun s x => s.setF x.1 j 0 x.2) s
    if s.f .ATB_CFG_MODE j ≠ mode ∨ s.f .ATB_CFG_NODE j ≠ node then
      (hOk, (s1.setTel { s1.tel with atbWait := setBit s1.tel.atbWait j true }).emit (.pin (1 + j) 0))
    else if s.f .ATB_CFG_IFORCE_UA j ≠ ua ∧ mode = 2 ∧ !bit s.tel.atbWait j then (hOk, s1.emit (.pin (1 + j) (s1.atbPin j)))
    else (hOk, s1)

/-- ATB_NEW_CONNECTION: 10 µs after a change, the pin connects. -/
def execAtbNewConnection (j : Nat) (s : State) : Res :=
  .next (if bit s.tel.atbWait j ∧ j < 2 then
      (s.setTel { s.tel with atbWait := setBit s.tel.atbWait j false }).emit (.pin (1 + j) (s.atbPin j))
    else s)

/-! ### TEL_ERR_SUMMARY (16 R572) -/

/-- The error status registers of the blocks, by event range (12 R467). -/
def errRegs : List (Nat × Reg) :=
  [(0, .CC_ERR_STATUS), (1, .CE_ERR_STATUS), (2, .MEM_ERR_STATUS), (3, .MESH_ERR_STATUS), (4, .COH_ERR_STATUS),
    (5, .SITE_ERR_STATUS), (6, .ETH_ERR_STATUS), (7, .HL_ERR_STATUS), (9, .PWR_ERR_STATUS), (11, .SHEAF_ERR_STATUS)]

/-- RANGE of TEL_ERR_SUMMARY: a bit for each range with an error status bit set. -/
def State.errSummary (s : State) : Nat :=
  maskOf ((errRegs.filter (fun x => (regRow x.2).fields.any (fun f =>
    (List.range (regRow x.2).n1).any (fun i => decide (s.f f.fid i ≠ 0))))).map Prod.fst)

end Sys2Proof.Machine
end

