-- ==== Sys2Proof/Machine/RegRead.lean ====
section
/-! DEFINITION. Reading registers: where a control-space offset leads (01 R45, R46), what each field shows, and what a
read does (00 R11, R12). -/

namespace Sys2Proof.Machine

/-! ### Locating a register -/

/-- Instance numbers of a row at an offset, if the offset is one of its instances. -/
def RegRow.index (r : RegRow) (off : Nat) : Option (Nat × Nat) :=
  let d := off - r.base
  let i := if r.n1 = 1 then 0 else d / r.s1
  let d1 := d - i * r.s1
  let j := if r.n2 = 1 then 0 else d1 / r.s2
  if r.base ≤ off ∧ i < r.n1 ∧ j < r.n2 ∧ off = r.base + i * r.s1 + j * r.s2 then some (i, j) else none

/-- The register at a control-space offset, with its instance numbers. -/
def locate (off : Nat) : Option (Reg × Nat × Nat) :=
  (regsOfBlock (off / 2 ^ 24)).findSome? (fun r => ((regRow r).index off).map (fun x => (r, x)))

/-- The key of element `e` of a field of instance (i, j). -/
def FieldRow.key (f : FieldRow) (r : RegRow) (i j e : Nat) : FKey :=
  { f := f.fid, i := i, j := if 1 < r.n2 then (if 1 < f.rep then j * f.rep + e else j) else e }

/-- Width of a field in bits. -/
def FieldRow.width (f : FieldRow) : Nat := f.hi + 1 - f.lo

/-- Lowest bit of element `e` of a field. -/
def FieldRow.at (f : FieldRow) (e : Nat) : Nat := f.lo + e * f.step

/-- Element `e` of a field in a register word. -/
def FieldRow.get (f : FieldRow) (v e : Nat) : Nat := v / 2 ^ f.at e % 2 ^ f.width

/-! ### What fields show -/

/-- Words that several fields of one register are parts of. -/
def State.lockWord (s : State) (l : Nat) : Nat :=
  match NTbl.at none s.hl.locks l with
  | some x => 2 ^ 63 + x.session * 2 ^ 56 + x.kind * 2 ^ 52 + x.target
  | none => 0

/-- Erased pins of channel `c` of memory site `n` (05 R202). -/
def State.pins (s : State) (n c : Nat) : List Nat := (s.chan (32 * n + c)).erased

/-- Spare rows of a memory site in use (05 R203): 64 banks of two spare rows in each of 32 channels. -/
def State.pprUsed (s : State) (n : Nat) : Nat :=
  ((List.range 32).map (fun c => ((s.chan (32 * n + c)).spareUsed.map Prod.snd).sum)).sum

/-- Unit-map state of a unit, as a status register shows it (01 R24). -/
def State.umState (s : State) (c : UCls) (n : Nat) : Nat := s.umEntry c n % 4

/-- Four repair lane numbers of seven bits, 127 for an unused place (09 R374). -/
def laneWord (l : List Nat) : Nat :=
  ((List.range 4).map (fun i => l.getD i 127 * 2 ^ (7 * i))).sum

/-- Lines that the filter shows an agent holding (08 R325). -/
def State.agentLines (s : State) (a : Nat) : Nat :=
  s.coh.sf.countP (fun e => match e.2 with
    | some x => bit x.holders a
    | none => false)

/-- STATE of a session (12 R475): closing until its last event has been sent. -/
def Session.code (x : Session) : Nat := if x.isOpen then 1 else if x.unsent ≠ [] then 2 else 0

/-- HL_SESS_SUB as a register (12 R467, R475). -/
def Sub.word (b : Sub) : Nat := b.ranges * 2 ^ 32 + b.plots * 2 ^ 24 + b2n b.opScope * 2 ^ 20 + b.minSev * 2 ^ 16

/-- Value of a field of the global and engine blocks (01 R32-R34, 03 R124). -/
def State.view0 (s : State) (f : Fid) (i j : Nat) : Option Nat :=
  match f with
  | .GLB_SERIAL_SERIAL => some s.fuses.serial
  | .GLB_LC_VOTE_SPLIT => some (b2n s.sec.voteSplit)
  | .GLB_LC_LC_STATE => some s.sec.lcState
  | .GLB_LC_LC_CODE => some s.sec.lcCode
  | .GLB_UM_CTL_GEN => some s.umGen
  | .GLB_UM_CTL_READY => some (b2n s.umReady)
  | .GLB_UM_CE_ENTRY => some (s.umEntry .engine j)
  | .GLB_UM_MS_ENTRY => some (s.umEntry .memSite j)
  | .GLB_UM_PLANE_ENTRY => some (s.umEntry .plane j)
  | .GLB_UM_SITE_ENTRY => some (s.umEntry .site j)
  | .GLB_UM_ETHLANE_ENTRY => some (s.umEntry .ethLane j)
  | .GLB_UM_UCIE_ENTRY => some (s.umEntry .ucie (8 * i + j))
  | .GLB_UM_CH_ENTRY => some (s.umEntry .channel (8 * i + j))
  | .GLB_TRAIN_OWNER_VALID => some (b2n s.boot.bufHolder.isSome)
  | .GLB_TRAIN_OWNER_SESSION => some (s.boot.bufHolder.getD 0)
  | .CE_STATUS_DVFS_STEP => some (s.f .PWR_ZONE_STATUS_STEP i)
  | .CE_STATUS_UM_STATE => some (s.umState .engine i)
  | .CE_CYCLES_COUNT => some (s.dom i).cycles
  | _ => none

/-- Value of a field of the memory blocks (05 R223). -/
def State.view2 (s : State) (f : Fid) (i j : Nat) : Option Nat :=
  match f with
  | .MEM_STATUS_HALF_ISSUE => some (b2n (s.msite i).halfIssue)
  | .MEM_STATUS_UM_STATE => some (s.umState .memSite i)
  | .MEM_CAP_CAP_GBPS => some (s.msite i).cap
  | .MEM_PPR_USE_FREE => some (4096 - s.pprUsed i)
  | .MEM_PPR_USE_USED => some (s.pprUsed i)
  | .MEM_OUTSTANDING_COUNT => some ((s.msite i).trackers + s.homeLoad i (fun _ => true))
  | .MEM_PIN_ERASE_COUNT => some (s.pins i j).length
  | .MEM_PIN_ERASE_PIN1 => some ((s.pins i j).getD 1 0)
  | .MEM_PIN_ERASE_PIN0 => some ((s.pins i j).getD 0 0)
  | .MEM_GKEY_KEY => some (s.gkey j)
  | .MEM_COMB_INUSE_COUNT => some (s.msite i).combInUse
  | _ => none

/-- Value of a field of the site, mesh and coherence blocks (07 R293, R294; 08 R325; 09 R374). -/
def State.view3 (s : State) (f : Fid) (i j : Nat) : Option Nat :=
  match f with
  | .SITE_STATUS_CAP_GBPS => some (s.siteCapacity i)
  | .SITE_STATUS_UM_STATE => some (s.umState .site i)
  | .SITE_OUTSTANDING_COUNT => some (s.siteOut i)
  | .SITE_UM_STATUS_RX_REPAIRS => some ((s.liveRepair i j).inUse (s.liveRepair i j).rx).length
  | .SITE_UM_STATUS_TX_REPAIRS => some ((s.liveRepair i j).inUse (s.liveRepair i j).tx).length
  | .SITE_UM_STATUS_STATE => some (s.umState .ucie (umNo i j))
  | .SITE_UM_RECORD_RX_LANES => some (laneWord (s.repair i j).rx)
  | .SITE_UM_RECORD_TX_LANES => some (laneWord (s.repair i j).tx)
  | .MESH_STATUS_PLANES_UP => some (maskOf s.planesUp)
  | .MESH_STATUS_ACTIVE => some s.planesUp.length
  | .QOS_SITE_LOAD_EFF_LOAD_GBPS => some (load840 s.qports true i / 840)
  | .QOS_SITE_LOAD_LOAD_GBPS => some (load840 s.qports false i / 840)
  | .QOS_PORT_STATUS_CAP_GBPS => some (s.portCap i)
  | .QOS_PORT_STATUS_OUTSTANDING => some (min 65535 (s.portOut i))
  | .QOS_PORT_STATUS_FENCE_STATE => some (s.qport i).fence
  | .QOS_CLASS_EFF_GUAR_GBPS => some ((s.qport i).cls j).guar
  | .QOS_CLASS_EFF_EFF_GUAR => some ((s.qport i).cls j).eff
  | .COH_STATUS_RING_OK => some (b2n ((s.dom 16).running && !s.coh.ringDown))
  | .COH_STATUS_AGENTS_UP => some s.coh.up
  | .COH_SF_OCC_OWNED => some (s.sfValid i true)
  | .COH_SF_OCC_VALID => some (s.sfValid i false)
  | .COH_AGENT_LINES_COUNT => some (s.agentLines i)
  | _ => none

/-- Value of a field of the Ethernet and Headland blocks (10 R414; 12 R475). -/
def State.view6 (s : State) (f : Fid) (i j : Nat) : Option Nat :=
  match f with
  | .ETH_MAC_MAC => some s.fuses.mac
  | .ETH_PLOT_RES_QP_COUNT => some (s.plot i).qpCount
  | .ETH_PLOT_RES_QP_FIRST => some (s.plot i).qpFirst
  | .ETH_PLOT_RES_ING_COUNT => some (s.plot i).ingCount
  | .ETH_PLOT_RES_ING_FIRST => some (s.plot i).ingFirst
  | .ETH_QP_RATE_RATE_NOW => some (s.rateNow i)
  | .ETH_LANE_UM_STATE => some (s.umState .ethLane i)
  | .HL_STATUS_SESSIONS => some s.openCount
  | .HL_EVT_SEQ_MODULE_SEQ => some s.hl.moduleSeq
  | .HL_SESS_NEXT => some (s.sess i).next
  | .HL_SESS_PLOT_VALID => some (b2n (s.sess i).plot.isSome)
  | .HL_SESS_PLOT => some ((s.sess i).plot.getD 0)
  | .HL_SESS_STATE => some (s.sess i).code
  | .HL_SESS_SUB_RANGES => some (bits (((s.sess i).sub.map Sub.word).getD 0) 47 32)
  | .HL_SESS_SUB_PLOTS => some (bits (((s.sess i).sub.map Sub.word).getD 0) 31 24)
  | .HL_SESS_SUB_OP_SCOPE => some (bits (((s.sess i).sub.map Sub.word).getD 0) 20 20)
  | .HL_SESS_SUB_MIN_SEV => some (bits (((s.sess i).sub.map Sub.word).getD 0) 18 16)
  | .HL_CLAIM_HELD => some (bits (s.claimOf i).word 31 31)
  | .HL_CLAIM_KIND => some (bits (s.claimOf i).word 29 28)
  | .HL_CLAIM_MASTER_ID => some (bits (s.claimOf i).word 25 16)
  | .HL_CLAIM_SESSION => some (bits (s.claimOf i).word 3 0)
  | .HL_LOCK_VALID => some (bits (s.lockWord i) 63 63)
  | .HL_LOCK_SESSION => some (bits (s.lockWord i) 59 56)
  | .HL_LOCK_KIND => some (bits (s.lockWord i) 52 52)
  | .HL_LOCK_TARGET => some (bits (s.lockWord i) 31 0)
  | .HL_MBOX_BIND_STATUS_ERR => some (b2n s.hl.bindErr)
  | .HL_MBOX_BIND_STATUS_LOADED => some (b2n s.hl.bindLoaded)
  | .HL_MBOX_BIND_VALID => some (bits (s.mb i).bind.word 63 63)
  | .HL_MBOX_BIND_SCOPE_PLOT_VALID => some (bits (s.mb i).bind.word 55 55)
  | .HL_MBOX_BIND_SCOPE_PLOT => some (bits (s.mb i).bind.word 54 52)
  | .HL_MBOX_BIND_RECEIVER_ID => some (bits (s.mb i).bind.word 41 32)
  | .HL_MBOX_BIND_SENDER_ID => some (bits (s.mb i).bind.word 9 0)
  | .HL_MBOX_SLOT_DATA => some (leAt (s.mb i).slot (8 * j) 8)
  | .HL_MBOX_STATE_ACK_CODE => some (bits (s.mb i).word 63 48)
  | .HL_MBOX_STATE_LEN => some (bits (s.mb i).word 40 32)
  | .HL_MBOX_STATE_SENDER_ID => some (bits (s.mb i).word 29 20)
  | .HL_MBOX_STATE_SENDER_SESSION => some (bits (s.mb i).word 19 16)
  | .HL_MBOX_STATE_SESSION_VALID => some (bits (s.mb i).word 15 15)
  | .HL_MBOX_STATE_STATE => some (bits (s.mb i).word 2 0)
  | .HL_MBOX_POSTS_COUNT => some (s.mb i).posts
  | _ => none

/-- Value of a field of the security block (13 R512; 01 R49). -/
def State.view8 (s : State) (f : Fid) (i j : Nat) : Option Nat :=
  match f with
  | .SEC_STATUS_SCRUBBING => some (maskOf ((List.range 8).filter (fun p => (s.plot p).teardown.isSome)))
  | .SEC_STATUS_PLOTS => some (maskOf ((List.range 8).filter (fun p => (s.plot p).active)))
  | .SEC_STATUS_COMMON_KEY => some (b2n (s.sec.commonInst != 0))
  | .SEC_STATUS_ID_READY => some (b2n s.sec.idReady)
  | .SEC_ID_PUBKEY_KEY => some (leAt s.sec.idPub (8 * i) 8)
  | .SEC_FUSE_RETIRE => some s.fuses.retireMask
  | .SEC_FUSE_FW_MIN_SVN => some s.fuses.minSvn
  | .SEC_FUSE_FWKEY_REVOKED => some s.fuses.fwkRevoked
  | .SEC_FUSE_OWNER_REVOKED => some s.fuses.ownerRevoked
  | .SEC_FUSE_OWNER_BLOWN => some s.fuses.ownerBlown
  | .SEC_DEBUG_TOUCH => some (maskOf ((List.range 8).filter (fun p => (s.plot p).touch)))
  | .SEC_DEBUG_HALT_ACTIVE => some (b2n s.haltActive)
  | .SEC_DEBUG_DEBUG_USED => some (b2n s.sec.debugUsed)
  | .SEC_DEBUG_JTAG_SEEN => some (b2n s.sec.jtagSeen)
  | .SEC_DEBUG_COUNT_COUNT => some s.sec.debugCount
  | .SEC_RETIRE_ENTRY => some (NTbl.at 0 s.fuses.retire (4 * i + j))
  | .SEC_PLOT_INFO_GENERATION => some (s.plot i).generation
  | .SEC_PLOT_INFO_LLC_WAYS => some (s.plot i).ways
  | .SEC_PLOT_INFO_SITES => some (s.plot i).sites
  | .SEC_PLOT_INFO_ENGINES => some (s.plot i).engines
  | .SEC_PLOT_STATE_DEBUG_TOUCH => some (b2n (s.plot i).touch)
  | .SEC_PLOT_STATE_STATE => some (s.plot i).code
  | .SEC_GRAN_COMMON_COMMON => some (maskOf ((List.range 64).filter (fun b => s.sec.common.contains (64 * i + b))))
  | .SEC_TWIN_VALID => some (b2n (s.twinOf i).isSome)
  | .SEC_TWIN_TWIN_GRAN => some ((s.twinOf i).getD 0)
  | .SEC_PLOT_MAP_VALID => some (bits (s.mapWord i j) 63 63)
  | .SEC_PLOT_MAP_COMMON => some (bits (s.mapWord i j) 62 62)
  | .SEC_PLOT_MAP_TWIN => some (bits (s.mapWord i j) 61 61)
  | .SEC_PLOT_MAP_WRITE => some (bits (s.mapWord i j) 60 60)
  | .SEC_PLOT_MAP_TWIN_GRAN => some (bits (s.mapWord i j) 24 16)
  | .SEC_PLOT_MAP_GRAN => some (bits (s.mapWord i j) 8 0)
  | _ => none

/-- Value of a field of the power, telemetry and control complex blocks (15 R567; 16 R572, R577; 14 R544). -/
def State.view9 (s : State) (f : Fid) (i j : Nat) : Option Nat :=
  match f with
  | .PWR_STATUS_SITE_W => some (min 65535 ((List.range 8).map (fun n => s.f .PWR_SITE_STATUS_AVG_W n)).sum)
  | .PWR_STATUS_LIMITING => some (b2n ((List.range 8).any (fun z =>
      decide (s.f .PWR_ZONE_STATUS_CAP_THERM z < s.f .PWR_ZONE_STATUS_CAP_POWER z))))
  | .PWR_STATUS_COLL => some (b2n s.collective)
  | .PWR_VID_VID => some (NTbl.at 0 s.fuses.vid j)
  | .PWR_ZONE_STATUS_HUB_TEMP_Q2 => some (if s.zoneKnown i then s.f .PWR_ZONE_STATUS_HUB_TEMP_Q2 i else 0)
  | .PWR_ZONE_STATUS_STK_TEMP_Q2 => some (if s.zoneKnown i then s.f .MEM_TEMP_TEMP_Q2 i else 0)
  | .PWR_ZONE_STATUS_HALF_ISSUE => some (b2n (s.msite i).halfIssue)
  | .PWR_ZONE_STATUS_GRACE => some (b2n (s.zone i).grace.isSome)
  | .PWR_RAIL_STATUS_STATE => some (s.railState i)
  | .TEL_ERR_SUMMARY_RANGE => some s.errSummary
  | .TEL_DOM_CYC_COUNT => some (s.dom i).cycles
  | .CC_STATUS_FW_STATE => some s.boot.fwState
  | .CC_STATUS_CORES_RUN => some s.boot.cores
  | .CC_STATUS_READY => some (b2n s.boot.ready)
  | .CC_FW_RUN_DIGEST_DIGEST => some (leAt s.boot.runDigest (8 * i) 8)
  | .CC_FW_STAGED_DIGEST_DIGEST => some (leAt s.boot.stagedDigest (8 * i) 8)
  | .CC_FW_SVN_STAGED_SVN => some s.boot.stagedSvn
  | .CC_FW_SVN_RUN_SVN => some s.boot.runSvn
  | .CC_FW_LOADED_BYTES => some s.boot.loaded
  | _ => none

/-- Value of a field as a read shows it: computed where the module measures it, else as stored. -/
def State.view (s : State) (f : Fid) (i j : Nat) : Nat :=
  ((((((s.view0 f i j).or (s.view2 f i j)).or (s.view3 f i j)).or (s.view6 f i j)).or (s.view8 f i j)).or
    (s.view9 f i j)).getD (s.f f i j)

/-- A register's word: write-only fields and bits not named read as zero (00 R11, R14). -/
def State.regWord (s : State) (r : Reg) (i j : Nat) : Nat :=
  let row := regRow r
  (row.fields.flatMap (fun f =>
    if f.acc = .wo then [] else
    (List.range f.rep).map (fun e =>
      let k := f.key row i j e
      s.view k.f k.i k.j % 2 ^ f.width * 2 ^ f.at e))).sum

/-- Clears the read-clear fields of a register (00 R11, R12); a largest reading is then sought anew (05 R223; 15 R567). -/
def State.clearRc (s0 : State) (r : Reg) (i j : Nat) : State :=
  let row := regRow r
  let s := if r = .MEM_TEMP_MAX then s0.setMsite i { s0.msite i with maxSeen := false }
    else if r = .PWR_ZONE_MAX then
      { s0 with pwr := { s0.pwr with zones := NTbl.put {} s0.pwr.zones i { NTbl.at {} s0.pwr.zones i with hubSeen := false, stkSeen := false } } }
    else s0
  row.fields.foldl (fun s f => if f.acc = .rc then
      (List.range f.rep).foldl (fun s e =>
        let k := f.key row i j e
        s.setF k.f k.i k.j (fkReset k)) s
    else s) s

/-! ### Who may reach a register -/

/-- Whether an access is debug's (13 R505). -/
def isDebug : Master → Bool
  | .session _ => false
  | .onModule id => id == 0x70

/-- The plot a master works for. -/
def State.masterPlot (s : State) (m : Master) : Option Nat :=
  match m with
  | .session n => (s.sess n).plot
  | .onModule id => s.plotOfMaster id

/-- Whether a master is a CC core. -/
def isCcMaster : Master → Bool
  | .session _ => false
  | .onModule id => isCcCore id

/-- The plot named in SHEAF_CTX_OWNER. -/
def State.shOwner (s : State) (x : Nat) : Option Nat :=
  if s.f .SHEAF_CTX_OWNER_PLOT_VALID x = 1 then some (s.f .SHEAF_CTX_OWNER_PLOT x) else none

/-- The plot that owns what a register belongs to, by its reach and first instance number. -/
def State.regOwner (s : State) (r : Reach) (i : Nat) : Option Nat :=
  match r with
  | .engine => s.plotOfEngine i
  | .engineRead => s.plotOfEngine i
  | .siteRead => s.plotOfSite i
  | .queuePair => s.plotOfQp i
  | .window => s.plotOfWindow i
  | .stream => s.plotOfStream i
  | .sheafCtx => s.shOwner i
  | _ => none

/-- The plot that owns the engine or chiplet site of a port (07 R294). -/
def State.plotOfPort (s : State) (p : Nat) : Option Nat :=
  if p < 8 then s.plotOfEngine p else if 16 ≤ p ∧ p < 24 then s.plotOfSite (p - 16) else none

/-- The plot that owns tally or overflow word `i` (04 R167). -/
def State.tallyOwner (s : State) (r : Reg) (i : Nat) : Option Nat :=
  s.plotOfTally (if r = .TALLY_OVF then 64 * i else i)

/-- Whether a plot's master or session may reach a register (00 R629 order 3; 01 R51; 12 R456). DESIGN CHOICE
(log 116): a plot created later under the number that owned an engine at its fault counts as that owner (04 R182). -/
def State.plotReaches (s : State) (p : Nat) (m : Master) (r : Reg) (i j : Nat) (write : Bool) : Bool :=
  match (regRow r).reach with
  | .anyRead => !write
  | .engine => s.plotOfEngine i == some p
  | .engineRead => s.plotOfEngine i == some p && !write
  | .faultQ => (s.eng i).faultOwner == some p && !write
  | .redFlags => j == p + 1
  | .portRead => s.plotOfPort i == some p && !write
  | .siteRead => decide (i < 8) && s.plotOfSite i == some p && !write
  | .queuePair => s.plotOfQp i == some p
  | .window => s.plotOfWindow i == some p
  | .stream => s.plotOfStream i == some p
  | .tally => s.tallyOwner r i == some p
  | .sheafCtx => s.shOwner i == some p
  | .mailbox => s.mbSends i m || s.mbReceives i m
  | .plotSelfRead => i == p && !write
  | .claimant => false
  | .ccOnly => false
  | .debugOnly => false
  | .operatorOnly => false

/-- The registers through which CC, as holder of claim 0, writes the telemetry carve-out (16 R601). -/
def carveReg (r : Reg) : Bool :=
  r == .TEL_CO_CTL || r == .TEL_CO_REGION || r == .TEL_EXPORT || r == .TEL_EXPORT_SRC

/-- Whether a CC core reaches a register that is operator-only: those of its own block, the cause of the reset, and the
carve-out's (14 R542, R544; 16 R601). -/
def State.ccReaches (s : State) (m : Master) (r : Reg) (write : Bool) : Bool :=
  isCcMaster m && (decide ((regRow r).base / 2 ^ 24 = 11) || (r == .GLB_RESET_CAUSE && !write)
    || (write && carveReg r && s.holds? 0 m))

/-- Whether a master stands on the operator's side: a session of the operator, and SB, whose writes locks do not hold (12
R466; log 104). -/
def operatorSide : Master → Bool
  | .session _ => true
  | .onModule id => decide (id = 0x61)

/-- Whether a master may reach a register (00 R629 order 3; log 104). Outside plots, a register that its chapter makes
plot-accessible is open to every master (04 R127), one that is operator-only to the operator's side; a channel is reached
by its two identities alone, CC_READY and CC_WDT_KICK are written by CC cores, the DBG registers by debug. -/
def State.reaches (s : State) (m : Master) (r : Reg) (i j : Nat) (write : Bool) : Bool :=
  if isDebug m then true
  else match s.masterPlot m with
    | some p => s.plotReaches p m r i j write
    | none => match (regRow r).reach with
      | .mailbox => s.mbSends i m || s.mbReceives i m
      | .claimant => !write || (s.claimant i m).isSome
      | .ccOnly => !write || isCcMaster m
      | .debugOnly => false
      | .operatorOnly => operatorSide m || s.ccReaches m r write
      | .anyRead => !write || operatorSide m
      | .redFlags => operatorSide m
      | .portRead => operatorSide m
      | .siteRead => operatorSide m
      | .engineRead => operatorSide m
      | .plotSelfRead => operatorSide m
      | _ => true

/-! ### Whether a block answers (01 R37) -/

/-- Registers that R37 keeps reachable. -/
def keptReg (r : Reg) (off : Nat) : Bool :=
  r == .CE_FAULT_Q || r == .SITE_CFG || decide (off % 2 ^ 20 = 0)
    || decide (0x02008000 ≤ off ∧ off < 0x02100000)

/-- Domain that clocks the registers of a module-wide block (01 R38, R45). -/
def blockDom (off : Nat) : Nat := [24, 16, 16, 16, 16, 16, 21, 22, 23, 24, 22, 22].getD (off / 2 ^ 24) 24

/-- A unit is PRESENT, or has no state yet: it has none until the unit map is published (01 R34, R37). -/
def State.presentOrNew (s : State) (c : UCls) (i : Nat) : Bool := s.present c i || decide ((s.unit c i).st = none)

/-- Whether the unit that owns a block answers: it is PRESENT, or not published yet, and its clock runs. DEDUCED: MEM_TEMP
has a value from the release of the MEM domain, before publication (05 R635; log 42). -/
def State.blockAnswers (s : State) (off : Nat) : Bool :=
  let b := off / 2 ^ 24
  let i := off / 2 ^ 20 % 16
  if b = 1 then s.presentOrNew .engine i && (s.dom i).running
  else if b = 2 then s.presentOrNew .memSite i && s.msAlive i
  else if b = 3 then s.presentOrNew .site i && (s.dom (siteDom i)).running
  else (s.dom (blockDom off)).running

/-- The plot of the engine or site that a register outside their blocks names: a port's settings, a zone's or a site's power. -/
def State.namedPlot (s : State) (r : Reg) (i : Nat) : Option Nat :=
  let b := (regRow r).base
  if b / 2 ^ 24 = 4 ∧ (regRow r).n1 = 30 then s.plotOfPort i
  else if 0x09000200 ≤ b ∧ b < 0x09000400 then s.plotOfEngine i
  else if 0x09000600 ≤ b ∧ b < 0x09000700 then s.plotOfSite i else none

/-- The plot being torn down that a register's unit belongs to (12 R461). -/
def State.regScrubs (s : State) (r : Reg) (i : Nat) (off : Nat) : Bool :=
  s.scrubbing (s.regOwner (regRow r).reach i) || s.scrubbing (s.namedPlot r i)
    || s.scrubbing (if off / 2 ^ 24 = 1 then s.plotOfEngine i else if off / 2 ^ 24 = 3 then s.plotOfSite i else none)
    || ((regRow r).reach == .tally && s.scrubbing (s.tallyOwner r i))
    || ((regRow r).reach == .mailbox && s.scrubbing (s.mb i).bind.scopePlot)

/-- Whether a session names something of a plot being torn down. -/
def State.regScrubRefuses (s : State) (m : Master) (r : Reg) (i off : Nat) : Bool :=
  match m with
  | .session _ => s.regScrubs r i off
  | .onModule _ => false

/-- Steps 1 to 3 and 5 of 00 R629, which a read meets; R461 stands beside the reach of a register. -/
def State.readRefusal (s : State) (m : Master) (r : Reg) (i j off : Nat) : Option Nat :=
  if !s.reaches m r i j false then some hDenied
  else if s.regScrubRefuses m r i off then some hScrubbing
  else if !s.blockAnswers off && !keptReg r off then some hNotReady
  else if r = .HL_MBOX_SLOT ∧ !isDebug m ∧ !s.mbSends i m ∧ (s.mb i).st ≠ .posted ∧ (s.mb i).st ≠ .taken then some hBusy
  else none

/-- A read of a register: status, value, state. A debug read clears nothing (16 R593). -/
def State.regRead (s : State) (m : Master) (off len : Nat) : Nat × Nat × State :=
  if off % 8 ≠ 0 ∨ len ≠ 8 then (hBadArg, 0, s)
  else match locate off with
    | none => (hBadArg, 0, s)
    | some (r, i, j) => match s.readRefusal m r i j off with
      | some st => (st, 0, s)
      | none =>
        if r = .CE_LPS_DATA then
          let (v, s1) := s.lpsRead i
          (hOk, v, s1)
        else if r = .DBG_DATA then s.dbgData none
        else (hOk, s.regWord r i j, if isDebug m then s else s.clearRc r i j)

end Sys2Proof.Machine
end

