-- ==== Sys2Proof/Machine/RegWrite.lean ====
section
/-! DEFINITION. Writing registers: the refusals of 00 R629 in their order, reserved encodings (R15), what a write changes
(R11, R16, R18), and the effects that chapters give a write. -/

namespace Sys2Proof.Machine

/-! ### Fields of a write -/

/-- Access of a field at an instance: QOS_TIMEOUT.MEM_US of ports 8 to 15 is RO (07 R294), and so is CLK_DOM_CFG of a
boot-set domain (14 R543). -/
def FieldRow.accAt (f : FieldRow) (i : Nat) : Acc :=
  if f.fid = .QOS_TIMEOUT_MEM_US ∧ 8 ≤ i ∧ i < 16 then .ro
  else if (f.fid = .CLK_DOM_CFG_FREQ_MHZ ∨ f.fid = .CLK_DOM_CFG_PLL_EN) ∧ isBoot i then .ro
  else f.acc

/-- Whether a value is an encoding listed for a field (00 R15). -/
def FieldRow.allows (f : FieldRow) (v : Nat) : Bool :=
  decide (f.vmin ≤ v) && decide (v ≤ f.vmax) && decide (v % f.mult = 0)

/-- Elements of a field with the values a write carries. -/
def FieldRow.elems (f : FieldRow) (v : Nat) : List (Nat × Nat) := (List.range f.rep).map (fun e => (e, f.get v e))

/-- Whether a write would change an element of an RW or RWL field (00 R18). -/
def State.changes (s : State) (row : RegRow) (f : FieldRow) (i j : Nat) (x : Nat × Nat) : Bool :=
  let k := f.key row i j x.1
  x.2 != s.f k.f k.i k.j

/-- Whether a write would change an RW or RWL field other than those of a list. -/
def State.anyChange (s : State) (r : Reg) (i j v : Nat) (but : List Fid := []) : Bool :=
  let row := regRow r
  row.fields.any (fun f => (f.accAt i == .rw || f.accAt i == .rwl) && !but.contains f.fid
    && (f.elems v).any (s.changes row f i j))

/-- Whether a field would take a reserved encoding: an RW field that changes, or a WO field. -/
def State.fieldReserved (s : State) (row : RegRow) (f : FieldRow) (i j v : Nat) : Bool :=
  match f.accAt i with
  | .rw => (f.elems v).any (fun x => s.changes row f i j x && !f.allows x.2)
  | .rwl => (f.elems v).any (fun x => s.changes row f i j x && !f.allows x.2)
  | .wo => (f.elems v).any (fun x => !f.allows x.2)
  | _ => false

/-- The KiB that the lossless priorities may take up (10 R387), with one register of thresholds or the mask changed. -/
def State.pfcSum (s : State) (lossless p xoff headroom : Nat) : Nat :=
  ((List.range 8).map (fun q => if bit lossless q then
    (if q = p then xoff + headroom else s.f .ETH_PFC_THRESH_XOFF_KIB q + s.f .ETH_PFC_THRESH_HEADROOM_KIB q)
    else 0)).sum

/-- Reserved combinations of fields: drain marks (05 R194, R226), PFC thresholds (10 R387), ARITY and RANK (11 R420, R441),
STATE of a queue pair (10 R393), reserved UDP ports (10 R407), thresholds of PWR_CFG (15 R568), SRC_INDEX of a monitor (16
R584), frequencies (14 R520). -/
def State.comboReserved (s : State) (r : Reg) (i _j v : Nat) : Bool :=
  match r with
  | .MEM_SCHED_CFG => decide (bits v 14 8 ≤ bits v 6 0)
  | .ETH_PFC_THRESH => decide (bits v 31 16 ≤ bits v 15 0)
      || decide (12288 < s.pfcSum (s.f .ETH_PFC_LOSSLESS) i (bits v 31 16) (bits v 47 32))
  | .ETH_PFC => decide (12288 < s.pfcSum (bits v 7 0) 8 0 0)
  | .SHEAF_CTX_OP => bits v 19 16 == 1 || decide (8 < bits v 19 16)
  | .SHEAF_CTX_RANK => decide (bits v 52 32 ≤ bits v 19 0)
  | .ETH_QP_CTL => !([0, 1, 2, 3, 6] : List Nat).contains (bits v 2 0)
  | .ETH_ING_CFG => (bits v 63 48 == 4791 || bits v 63 48 == 20054)
      && bits v 63 48 != s.f .ETH_ING_CFG_UDP_PORT i
  | .PWR_CFG => decide (102 - bits v 39 32 < 95 - bits v 47 40 + 3) || decide (92 - bits v 23 16 < 85 - bits v 31 24 + 3)
  | .GLN_CFG => decide (glnSources (bits v 39 36) ≤ bits v 35 31)
  | .CLK_DOM_CFG => bits v 27 16 != s.f .CLK_DOM_CFG_FREQ_MHZ i && !isBoot i && !freqOk i (bits v 27 16)
  | _ => false

/-- Whether a write would place a reserved encoding in any field (00 R15, R18). -/
def State.reserved (s : State) (r : Reg) (i j v : Nat) : Bool :=
  let row := regRow r
  row.fields.any (fun f => s.fieldReserved row f i j v) || (s.anyChange r i j v && s.comboReserved r i j v)

/-- Puts the RW and RWL fields of a write in place, except those of a list, and clears RW1C bits (00 R11). -/
def State.putFields (s : State) (r : Reg) (i j v : Nat) (but : List Fid := []) : State :=
  let row := regRow r
  row.fields.foldl (fun s f => if but.contains f.fid then s else (f.elems v).foldl (fun s x =>
    let k := f.key row i j x.1
    match f.accAt i with
    | .rw => s.setF k.f k.i k.j x.2
    | .rwl => s.setF k.f k.i k.j x.2
    | .rw1c => s.setF k.f k.i k.j (s.f k.f k.i k.j ^^^ (s.f k.f k.i k.j &&& x.2))
    | _ => s) s) s

/-- Whether every field of a register is RO or RC (00 R16). -/
def readOnly (r : Reg) (i : Nat) : Bool :=
  (regRow r).fields.all (fun f => f.accAt i == .ro || f.accAt i == .rc)

/-! ### Refusals of a write, before the chapter's own (00 R629 orders 3 to 7) -/

/-- Whether a lock, or another holder's claim, is in the way (12 R464-R466): debug and SB pass locks; ATB and TRIG_OUT,
probes, traces, monitors' histograms and the carve-out need their claim. -/
def State.claimsNeeded (s : State) (r : Reg) (i v : Nat) : List Nat :=
  match r with
  | .TEL_CO_CTL => if bits v 1 0 = 0 then [] else [0]
  | .TEL_CO_REGION => [0]
  | .TEL_EXPORT => if bit v 0 then [0] else []
  | .TEL_COH_TRACE => if bit v 0 then [0] else []
  | .GLN_CFG => if bit v 1 then [0] else []
  | .PRB_CFG => prbClaims (bits v 0 0) (bits v 6 4) (s.f .PRB_TRIG_TRIG_MODE i)
  | .PRB_TRIG => prbClaims (s.f .PRB_CFG_ENABLE i) (s.f .PRB_CFG_ACTIONS i) (bits v 0 0)
  | .ATB_CFG => [1 + i]
  | _ => []

/-- The session of a master. -/
def masterSession (m : Master) : Option Nat :=
  match m with
  | .session n => some n
  | .onModule _ => none

/-- The plot whose unit, queue pair, window, stream, tally or context a written register is (04 R127, R167; 09 R374; 10
R392; 11 R441; 15 R567). -/
def State.writeOwner (s : State) (r : Reg) (i off : Nat) : Option Nat :=
  match r with
  | .SITE_CFG => s.plotOfSite i
  | .SITE_CTL => s.plotOfSite i
  | .PWR_SITE_CFG => s.plotOfSite i
  | .SHEAF_CTX_OWNER => none
  | _ =>
    if off / 2 ^ 24 = 1 then if 0x1000 ≤ off % 2 ^ 20 then s.plotOfEngine i else none
    else match (regRow r).reach with
      | .tally => s.tallyOwner r i
      | .siteRead => none
      | .engineRead => none
      | x => s.regOwner x i

/-- Order 4 of 00 R629. -/
def State.owned (s : State) (m : Master) (r : Reg) (i j off v : Nat) : Bool :=
  let claims := (s.claimsNeeded r i v).any (fun k => !s.holds? k m)
    && (s.anyChange r i j v || r == .TEL_CO_CTL || (r == .TEL_EXPORT && bit v 0))
  if isDebug m then claims
  else
    let o := s.writeOwner r i off
    (o.isSome && s.masterPlot m != o) || (m != .onModule 0x61 && s.lockRefuses off (masterSession m)) || claims

/-- Orders 3 to 6 of 00 R629 for a write; R461 stands beside the reach of a register. -/
def State.writeRefusal (s : State) (m : Master) (r : Reg) (i j off v : Nat) : Option Nat :=
  if !s.reaches m r i j true then some hDenied
  else if s.regScrubRefuses m r i off then some hScrubbing
  else if s.owned m r i j off v then some hOwned
  else if !s.blockAnswers off && !keptReg r off then some hNotReady
  else if s.reserved r i j v then some hBadArg
  else none

/-- Order 7 of 00 R629: a locked RWL field that would change, or no field that a write can change. -/
def State.fixed (s : State) (r : Reg) (i j off v : Nat) : Bool :=
  readOnly r i || (s.rwlLocked off && s.anyChange r i j v)

/-! ### What writes do -/

/-- CC_EN (10 R406): while it is 0 every queue pair in RTS runs at its RATE_MAX. -/
def State.ccEnChanged (s : State) : State :=
  if s.f .ETH_CFG_CC_EN = 1 then s
  else (List.range 8192).foldl (fun s q => if s.qpState q = 3 then
    s.setF .ETH_QP_RATE_RATE_NOW q 0 (s.f .ETH_QP_RATE_RATE_MAX q) else s) s

/-- A write of ETH_CFG (10 R378, R406). -/
def State.ethCfg (s : State) (v : Nat) : State :=
  let s1 := s.putFields .ETH_CFG 0 0 v [.ETH_CFG_MODE]
  let s2 := if bits v 1 1 ≠ s.f .ETH_CFG_CC_EN then s1.ccEnChanged else s1
  s2.ethCfgMode (bits v 14 12) (bits v 15 15)

/-- A write of ETH_QP_CTL (10 R393): the settings first, where the state allows it, then STATE; Sheaf's runs are judged again
(11 R436). -/
def State.qpCtl (s : State) (q v : Nat) : WRes :=
  if s.anyChange .ETH_QP_CTL q 0 v [.ETH_QP_CTL_STATE] ∧ !s.qpOpen q then (hBusy, s)
  else
    let (st, s1) := (s.putFields .ETH_QP_CTL q 0 v [.ETH_QP_CTL_STATE]).qpToState q (bits v 2 0)
    if st = hOk then (st, if s.qpState q = bits v 2 0 then s1 else s1.sheafSettle)
    else (st, if s1.f .ETH_QP_STATUS_RING_ERR q = 1 then s.flag .ETH_QP_STATUS_RING_ERR q else s)

/-- A write that a state refuses with BUSY if it would change something. -/
def State.putUnless (s : State) (busy : Bool) (r : Reg) (i j v : Nat) : WRes :=
  if busy && s.anyChange r i j v then (hBusy, s) else (hOk, s.putFields r i j v)

/-- A write of a register of a Sheaf context (11 R441): one that would change it in another state than IDLE is refused. -/
def State.putIdle (s : State) (r : Reg) (x j v : Nat) : WRes := s.putUnless (s.shState x != 0) r x j v

/-- A write of GLN_CFG (16 R601). -/
def State.glnCfg (s : State) (m v : Nat) : WRes :=
  let was := s.f .GLN_CFG_ENABLE m
  if was = 1 ∧ bits v 0 0 = 1 ∧ s.anyChange .GLN_CFG m 0 v then (hBusy, s)
  else
    let s1 := s.putFields .GLN_CFG m 0 v
    (hOk, if was = 0 ∧ bits v 0 0 = 1 then s1.glnStart m else s1)

/-- A write of PRB_CFG (16 R602). -/
def State.prbCfgWrite (s : State) (k v : Nat) : WRes :=
  let s1 := s.putFields .PRB_CFG k 0 v
  (hOk, if s.f .PRB_CFG_ENABLE k = 0 ∧ bits v 0 0 = 1 then s1.prbStart k else s1)

/-- A write of a global, control complex, clock or power register (14 R513, R529, R543; 03 R119; 15 R567). -/
def State.write0 (s : State) (r : Reg) (i j v : Nat) : WRes :=
  match r with
  | .GLB_RESET_REQ => s.glbResetReq (bits v 0 0)
  | .CC_READY => s.ccReady (bits v 0 0)
  | .CC_WDT_KICK => s.ccKick (bits v 0 0)
  | .CLK_DOM_CFG => s.clkDomCfg i (bits v 27 16) (bits v 0 0)
  | .CLK_RELEASE => if bit v 0 then s.clkRelease (bits v 15 12) (bits v 8 4) else (hOk, s)
  | .PWR_FALLOW_REQ => if bits v 9 8 = 0 then (hOk, s)
      else s.fallowReq (bits v 15 12) (bits v 9 8) (bits v 4 4) (bits v 2 0)
  | .PWR_SITE_CFG => s.putUnless (s.siteRails i && bits v 27 16 != s.f .PWR_SITE_CFG_VCORE_MV i) r i j v
  | _ => (hOk, s.putFields r i j v)

/-- A write of an engine or memory register (04 R131-R138, R166; 05 R190, R225). -/
def State.write1 (s : State) (r : Reg) (i j v : Nat) : WRes :=
  match r with
  | .CE_WQ_BASE => s.ringField .CE_WQ_BASE_BASE i j (bits v 51 12)
  | .CE_CQ_BASE => s.ringField .CE_CQ_BASE_BASE i j (bits v 51 12)
  | .CE_CQ_CFG => s.ringField .CE_CQ_CFG_LOG2_SIZE i j (bits v 19 16)
  | .CE_WQ_CFG => s.wqCfg i j (bits v 19 16) (bits v 9 8) (bits v 2 2) (bits v 0 0)
  | .CE_WQ_TAIL => s.wqTail i j (bits v 31 0)
  | .CE_CQ_HEAD => s.cqHead i j (bits v 31 0)
  | .CE_LPS_INDEX => s.lpsIndex i (bits v 9 0)
  | .CE_LPS_DATA => s.lpsWrite i v
  | .MEM_GROUP_LOCAL => (hOk, (s.putFields r i j v).rwlLock 0x02008000)
  | .MEM_INIT => if bit v 0 then s.memInitStart else (hOk, s)
  | _ => (hOk, s.putFields r i j v)

/-- A write of a site, mesh, Ethernet or Sheaf register (07 R284; 09 R374; 10 R393, R398, R407; 11 R441). -/
def State.write3 (s : State) (r : Reg) (i j v : Nat) : WRes :=
  match r with
  | .SITE_CTL => s.siteCtl i (bits v 13 8) (bits v 1 1) (bits v 0 0)
  | .QOS_COMMIT => if bit v 0 then s.qosCommit (bits v 15 12) else (hOk, s)
  | .ETH_CFG => (hOk, s.ethCfg v)
  | .ETH_QP_CTL => s.qpCtl i v
  | .ETH_QP_DEST_IP_HI => s.putUnless (!s.qpOpen i) r i j v
  | .ETH_QP_DEST_IP_LO => s.putUnless (!s.qpOpen i) r i j v
  | .ETH_QP_DEST_MAC => s.putUnless (!s.qpOpen i) r i j v
  | .ETH_QP_PSN => s.putUnless (!s.qpOpen i) r i j v
  | .ETH_QP_SQ => s.putUnless (!s.qpOpen i) r i j v
  | .ETH_QP_RQ => s.putUnless (!s.qpOpen i) r i j v
  | .ETH_QP_CQ => s.putUnless (!s.qpOpen i) r i j v
  | .ETH_QP_TALLY => s.putUnless (!s.qpOpen i) r i j v
  | .ETH_QP_SQ_TAIL => s.qpSqTail i (bits v 31 0)
  | .ETH_QP_RQ_TAIL => s.qpRqTail i (bits v 31 0)
  | .ETH_QP_CQ_HEAD => s.qpCqHead i (bits v 31 0)
  | .ETH_QP_RATE => s.qpRateMax i (bits v 47 32)
  | .ETH_ING_CFG => s.ingCfg i v
  | .ETH_ING_SRC_HI => s.putUnless (s.f .ETH_ING_CFG_ENABLE i == 1) r i j v
  | .ETH_ING_SRC_LO => s.putUnless (s.f .ETH_ING_CFG_ENABLE i == 1) r i j v
  | .ETH_ING_ROWCFG => s.putUnless (s.f .ETH_ING_CFG_ENABLE i == 1) r i j v
  | .ETH_ING_SLOT_BASE => s.putUnless (s.f .ETH_ING_CFG_ENABLE i == 1) r i j v
  | .ETH_ING_REC_BASE => s.putUnless (s.f .ETH_ING_CFG_ENABLE i == 1) r i j v
  | .SHEAF_CTX_OWNER => s.putIdle r i j v
  | .SHEAF_CTX_OP => s.putIdle r i j v
  | .SHEAF_CTX_RANK => s.putIdle r i j v
  | .SHEAF_CTX_BUF => s.putIdle r i j v
  | .SHEAF_CTX_LEN => s.putIdle r i j v
  | .SHEAF_CTX_SEG => s.putIdle r i j v
  | .SHEAF_CTX_TIMEOUT => s.putIdle r i j v
  | .SHEAF_CTX_CMPL => s.putIdle r i j v
  | .SHEAF_CTX_CTL => s.shCtl i v
  | .SHEAF_CTX_NBR_QP => if s.anyChange r i j v then s.shNbrQp i j v else (hOk, s)
  | .SHEAF_CTX_NBR_ADDR => s.putIdle r i j v
  | _ => (hOk, s.putFields r i j v)

/-- A write of a Headland, tally, security or telemetry register (04 R167; 12 R463, R471, R472; 13 R478-R503; 16). -/
def State.write7 (s : State) (m : Master) (r : Reg) (i j v : Nat) : WRes :=
  match r with
  | .TALLY_VALUE => s.tallyWrite i (bits v 31 0)
  | .TALLY_SIGNAL => s.tallyAdd i (bits v 31 0)
  | .HL_CLAIM => s.heldWrite i v m
  | .HL_MBOX_BIND_SRC => s.mbBind v
  | .HL_MBOX_SLOT => s.mbSlot i j v m
  | .HL_MBOX_CTL => if bits v 2 0 = 0 then (hOk, s) else s.mbCtl i v m
  | .SEC_LC_REQ => if bit v 0 then s.lcReq m v else (hOk, s)
  | .SEC_OWNER_PROG => if bits v 9 8 = 0 then (hOk, s) else s.ownerProg m v
  | .SEC_COMMON_REQ => if bits v 17 16 = 0 then (hOk, s) else s.commonReq v
  | .SEC_RETIRE_PROG => if bit v 63 then s.retireProg m v else (hOk, s)
  | .SEC_STACK_TEST => if s.anyChange r i j v ∧ !s.lcAnalysis then (hDenied, s) else (hOk, s.putFields r i j v)
  | .TEL_SNAP_CTL => s.telSnap v
  | .TEL_CO_CTL => s.telCo v
  | .TEL_CO_REGION => if s.anyChange r i j v then s.telRegion i v else (hOk, s)
  | .TEL_EXPORT => s.telExport v
  | .DBG_DATA =>
    let (st, _, s1) := s.dbgData (some v)
    (st, s1)
  | .ATB_CFG => s.atbCfg i v
  | .GLN_CFG => s.glnCfg i v
  | .PRB_CFG => s.prbCfgWrite i v
  | _ => (hOk, s.putFields r i j v)

/-- Order 8 of 00 R629 and the write's effect. -/
def State.regApply (s : State) (m : Master) (r : Reg) (i j off v : Nat) : WRes :=
  let b := off / 2 ^ 24
  if b = 1 ∨ b = 2 then s.write1 r i j v
  else if b = 0 ∨ b = 9 ∨ b = 11 then s.write0 r i j v
  else if b = 3 ∨ b = 6 ∨ (b = 4 ∧ off < 0x04800000) then s.write3 r i j v
  else s.write7 m r i j v

/-- A write of a register: what a controller gets, and the state. -/
def State.regWrite (s : State) (m : Master) (off len v : Nat) : WRes :=
  if off % 8 ≠ 0 ∨ len ≠ 8 then (hBadArg, s)
  else match locate off with
    | none => (hBadArg, s)
    | some (r, i, j) => match s.writeRefusal m r i j off v with
      | some st => (st, s)
      | none =>
        if s.fixed r i j off v then (match m with
          | .session _ => hDenied
          | .onModule _ => hOk, s)
        else s.regApply m r i j off v

/-- The plots that a debug access to a control-space offset touches (13 R506). -/
def State.ctlTouches (s : State) (off : Nat) : Nat :=
  let u := off / 2 ^ 20 % 16
  if off / 2 ^ 24 = 1 then plotMask (s.plotOfEngine u)
  else if off / 2 ^ 24 = 3 then plotMask (s.plotOfSite u)
  else match locate off with
    | none => 0
    | some (r, i, _) => match (regRow r).reach with
      | .tally => plotMask (s.tallyOwner r i)
      | .siteRead => 0
      | .engineRead => 0
      | x => plotMask (s.regOwner x i)

/-- Debug's mark on a plot before its access. -/
def State.debugMark (s : State) (m : Master) (off : Nat) : State :=
  if isDebug m then s.touchAll (s.ctlTouches off) off else s

/-- Offset in the control space of a physical address. -/
def ctlOff (pa : Nat) : Option Nat :=
  match target pa with
  | .ctl off => some off
  | _ => none

/-- A register write at a physical address. -/
def State.ctlWrite (s : State) (m : Master) (pa len v : Nat) : WRes :=
  match ctlOff pa with
  | none => (hBadArg, s)
  | some off => (s.debugMark m off).regWrite m off len v

/-- A register read at a physical address. -/
def State.ctlRead (s : State) (m : Master) (pa len : Nat) : Nat × Nat × State :=
  match ctlOff pa with
  | none => (hBadArg, 0, s)
  | some off => (s.debugMark m off).regRead m off len

/-! ### Register accesses as traffic (01 R41, R47; 07 R256, R263, R268, R271, R280-R282; 12 R456) -/

/-- The identity with which a master of registers enters the mesh (01 R47). -/
def meshId : Master → Nat
  | .session _ => 0x60
  | .onModule id => id

/-- A register access leaves its master's port, is performed, and its response arrives: an unmapped address is counted there, and
where no plane is up the access times out. One beyond the ceiling of its class waits for the next window (log 21). -/
def State.ctlAccess (s : State) (m : Master) (pa len : Nat) (write : Bool) (f : State → Nat × Nat × State) : Nat × Nat × State :=
  let id := meshId m
  if target pa = .unmapped then (hBadArg, 0, s.unmappedAt ((portOfId id).getD 29) pa)
  else
    let (r, s1) := s.unitIssue { id, plot := s.plotOfMaster id } pa len write
    if s1.windowed then (hOk, 0, s1)
    else if r.plane = 4 then (hTimeout, 0, s1.unitDone r stTimeout [] true)
    else
      let (st, v, s2) := f s1
      (st, v, s2.unitDone r (if st = hOk then stOk else stTarget) [])

/-- A register write at a physical address, through its master's port. -/
def State.askWrite (s : State) (m : Master) (pa len v : Nat) : WRes :=
  let (st, _, s1) := s.ctlAccess m pa len true (fun s =>
    let (st, s1) := s.ctlWrite m pa len v
    (st, 0, s1))
  (st, s1)

/-- A register read at a physical address, through its master's port. -/
def State.askRead (s : State) (m : Master) (pa len : Nat) : Nat × Nat × State :=
  s.ctlAccess m pa len false (fun s => s.ctlRead m pa len)

end Sys2Proof.Machine
end

