-- ==== Sys2Proof/Machine/RegRows.lean ====
section
/-! DEFINITION. The commands that are a read or write of a register. A row that is one write of a register with an
action sets the bits that the action names; its operand gives the rest of the word (NOTES.md, Operands). -/

namespace Sys2Proof.Machine

/-- Base of the control space (01 R40). -/
def ctlBase : Nat := 0xF000000000000

/-- Physical address of an instance of a register, where there is one. -/
def regAddr (r : Reg) (i j : Nat) : Option Nat :=
  let row := regRow r
  if i < row.n1 ∧ j < row.n2 then some (ctlBase + row.base + i * row.s1 + j * row.s2) else none

/-- Whether a master can issue an access: a session is open and the Headland runs; an engine, a chiplet or a CC core is
there to issue it. -/
def State.masterLive (s : State) (m : Master) : Bool :=
  match m with
  | .session n => (s.sess n).isOpen && (s.dom 22).running
  | .onModule id =>
    if isCcCore id then bit s.boot.cores id
    else if 0x20 ≤ id ∧ id < 0x40 then s.present .engine ((id - 0x20) / 4) && (s.dom ((id - 0x20) / 4)).running
    else match siteOfId id with
      | some n => s.present .site n && s.linkUp n
      | none => idListed id

/-- What keeps an access from being made at all: a stopped module answers sessions' writes with NOT_READY (15 R565), a
plot being torn down answers its sessions with SCRUBBING (12 R461), an unowned chiplet needs CTL_ACCESS (09 R344). -/
def State.ctlGate (s : State) (m : Master) (write : Bool) : Option Nat :=
  match m with
  | .session n =>
    if write ∧ s.f .PWR_STATUS_STOP = 1 then some hNotReady
    else if s.scrubbing (s.sess n).plot then some hScrubbing
    else none
  | .onModule id => match siteOfId id with
    | some n => if (s.plotOfSite n).isNone ∧ !(s.link n).ctl then some hDenied else none
    | none => none

/-- The end of an access as its master sees it (00 R629): a controller's status, or an error response. -/
def State.accessEnd (s : State) (m : Master) (st v : Nat) : State :=
  match m with
  | .session _ => s.emit (.access 0x60 (st != hOk) (if st = hOk then v else st))
  | .onModule id => s.emit (.access id (st != hOk) (if st = hOk then v else 0))

/-- A write of a register as a command. -/
def State.sendWrite (s : State) (m : Master) (pa len v : Nat) : State :=
  if !s.masterLive m then s
  else
    let (st, s1) := match s.ctlGate m true with
      | some st => (st, s)
      | none => s.askWrite m pa len v
    (s1.accessEnd m st 0).lcSettle

/-- A read of a register as a command. -/
def State.sendRead (s : State) (m : Master) (pa len : Nat) : State :=
  if !s.masterLive m then s
  else
    let (st, v, s1) := match s.ctlGate m false with
      | some st => (st, 0, s)
      | none => s.askRead m pa len
    s1.accessEnd m st v

/-- A write of an instance of a register as a command. -/
def State.regSend (s : State) (m : Master) (r : Reg) (i j v : Nat) : State :=
  match regAddr r i j with
  | some a => s.sendWrite m a 8 v
  | none => s

/-- REGISTER_WRITE: any write of the control space (00 R15-R18, R629). -/
def execRegisterWrite (m : Master) (addr len : Nat) (v : Word) (s : State) : Res :=
  parkIf (.registerWrite m addr len v) (ParkKey.ofMaster m).no (fun s => .next (s.sendWrite m addr len v.toNat)) s

/-- A write of a register that may make a unit of the hub access memory waits where that access does, as any write of the
control space (log 21). -/
def State.regWait (s : State) (m : Master) (r : Reg) (i j v : Nat) : Res :=
  match regAddr r i j with
  | some a => execRegisterWrite m a 8 (BitVec.ofNat 64 v) s
  | none => .next s

/-- READ_CLEAR: a read of the control space; RC fields are returned and cleared (00 R11, R12). -/
def execReadClear (m : Master) (addr len : Nat) (s : State) : Res := .next (s.sendRead m addr len)

/-- CE_LPS_DATA: an access to the lane program store, with a word for a write (04 R166). -/
def execCeLpsData (m : Master) (e : Nat) (w : Option Word) (s : State) : Res :=
  .next (match regAddr .CE_LPS_DATA e 0, w with
    | some a, some v => s.sendWrite m a 8 v.toNat
    | some a, none => s.sendRead m a 8
    | none, _ => s)

/-- DBG_DATA: an access to the store that DBG_SEL names, with a word for a write (16 R594). -/
def execDbgData (m : Master) (w : Option Word) (s : State) : Res :=
  .next (match regAddr .DBG_DATA 0 0, w with
    | some a, some v => s.sendWrite m a 8 v.toNat
    | some a, none => s.sendRead m a 8
    | none, _ => s)

/-- HELD_CLAIM: HELD = 1 in HL_CLAIM k (12 R463). -/
def execHeldClaim (m : Master) (k : Nat) (s : State) : Res := .next (s.regSend m .HL_CLAIM k 0 (2 ^ 31))

/-- HELD_RELEASE: HELD = 0 in HL_CLAIM k (12 R463). -/
def execHeldRelease (m : Master) (k : Nat) (s : State) : Res := .next (s.regSend m .HL_CLAIM k 0 0)

/-- GLB_RESET_REQ with GO (14 R513). -/
def execGlbResetReq (m : Master) (v : Word) (s : State) : Res :=
  .next (s.regSend m .GLB_RESET_REQ 0 0 (setBit v.toNat 0 true))

/-- A write of CLK_DOM_CFG (14 R517, R520). -/
def execClkDomCfgWrite (m : Master) (d : Nat) (v : Word) (s : State) : Res :=
  .next (s.regSend m .CLK_DOM_CFG d 0 v.toNat)

/-- CLK_RELEASE with GO (14 R517, R518). -/
def execClkRelease (m : Master) (v : Word) (s : State) : Res :=
  .next (s.regSend m .CLK_RELEASE 0 0 (setBit v.toNat 0 true))

/-- CC_WDT_KICK (14 R524). -/
def execCcWdtKick (m : Master) (v : Word) (s : State) : Res :=
  .next (s.regSend m .CC_WDT_KICK 0 0 (setBit v.toNat 0 true))

/-- CC_READY (14 R529). -/
def execCcReady (m : Master) (v : Word) (s : State) : Res :=
  .next (s.regSend m .CC_READY 0 0 (setBit v.toNat 0 true))

/-- MEM_INIT with START (05 R225). -/
def execMemInitStart (m : Master) (v : Word) (s : State) : Res :=
  .next (s.regSend m .MEM_INIT 0 0 (setBit v.toNat 0 true))

/-- PWR_FALLOW_REQ of an engine, ACTION 1 (03 R119-R121). -/
def execEngineFallow (m : Master) (v : Word) (s : State) : Res :=
  .next (s.regSend m .PWR_FALLOW_REQ 0 0 (putBits (putBits v.toNat 9 8 1) 4 4 0))

/-- PWR_FALLOW_REQ of an engine, ACTION 2 (03 R122). -/
def execEngineWake (m : Master) (v : Word) (s : State) : Res :=
  .next (s.regSend m .PWR_FALLOW_REQ 0 0 (putBits (putBits v.toNat 9 8 2) 4 4 0))

/-- PWR_FALLOW_REQ of a site, ACTION 1 (09 R363, R364). -/
def execSiteFallow (m : Master) (v : Word) (s : State) : Res :=
  .next (s.regSend m .PWR_FALLOW_REQ 0 0 (putBits (putBits v.toNat 9 8 1) 4 4 1))

/-- PWR_FALLOW_REQ of a site, ACTION 2 (09 R365). -/
def execSiteWake (m : Master) (v : Word) (s : State) : Res :=
  .next (s.regSend m .PWR_FALLOW_REQ 0 0 (putBits (putBits v.toNat 9 8 2) 4 4 1))

/-- A write of CE_WQ_TAIL (04 R133, R138). -/
def execCeWqTail (m : Master) (e q : Nat) (v : Word) (s : State) : Res :=
  .next (s.regSend m .CE_WQ_TAIL e q v.toNat)

/-- A write of CE_CQ_HEAD (04 R133). -/
def execCeCqHead (m : Master) (e q : Nat) (v : Word) (s : State) : Res :=
  .next (s.regSend m .CE_CQ_HEAD e q v.toNat)

/-- CE_WQ_CFG with ENABLE 1 (04 R131). -/
def execQueueEnable (m : Master) (e q : Nat) (v : Word) (s : State) : Res :=
  .next (s.regSend m .CE_WQ_CFG e q (setBit v.toNat 0 true))

/-- CE_WQ_CFG with ENABLE 0 (04 R137). -/
def execQueueDisable (m : Master) (e q : Nat) (v : Word) (s : State) : Res :=
  .next (s.regSend m .CE_WQ_CFG e q (setBit v.toNat 0 false))

/-- CE_WQ_CFG with RESUME 1 (04 R138). -/
def execResume (m : Master) (e q : Nat) (v : Word) (s : State) : Res :=
  .next (s.regSend m .CE_WQ_CFG e q (setBit v.toNat 2 true))

/-- A write of TALLY_SIGNAL (04 R167, R168). -/
def execTallySignal (m : Master) (t : Nat) (v : Word) (s : State) : Res :=
  .next (s.regSend m .TALLY_SIGNAL t 0 v.toNat)

/-- A write of TALLY_VALUE (04 R167, R169). -/
def execTallyValue (m : Master) (t : Nat) (v : Word) (s : State) : Res :=
  .next (s.regSend m .TALLY_VALUE t 0 v.toNat)

/-- QOS_COMMIT with GO (07 R284-R287). -/
def execQosCommitGo (m : Master) (v : Word) (s : State) : Res :=
  .next (s.regSend m .QOS_COMMIT 0 0 (setBit v.toNat 0 true))

/-- SITE_CTL with a lane test of the modules named (09 R354). -/
def execSiteRetest (m : Master) (n : Nat) (v : Word) (s : State) : Res :=
  .next (s.regSend m .SITE_CTL n 0 v.toNat)

/-- SITE_CTL with CHIPLET_RESET (09 R362). -/
def execChipletReset (m : Master) (n : Nat) (v : Word) (s : State) : Res :=
  .next (s.regSend m .SITE_CTL n 0 (setBit v.toNat 1 true))

/-- SITE_CTL with RETRAIN (09 R374). -/
def execSiteRetrain (m : Master) (n : Nat) (v : Word) (s : State) : Res :=
  .next (s.regSend m .SITE_CTL n 0 (setBit v.toNat 0 true))

/-- ETH_CFG with RETRAIN (10 R378). -/
def execEthRetrain (m : Master) (v : Word) (s : State) : Res :=
  .next (s.regSend m .ETH_CFG 0 0 (setBit v.toNat 15 true))

/-- A write of ETH_CFG (10 R375, R378). -/
def execEthModeChange (m : Master) (v : Word) (s : State) : Res :=
  .next (s.regSend m .ETH_CFG 0 0 v.toNat)

/-- ETH_QP_CTL with STATE INIT (10 R393). -/
def execQpToInit (m : Master) (q : Nat) (v : Word) (s : State) : Res :=
  .next (s.regSend m .ETH_QP_CTL q 0 (putBits v.toNat 2 0 1))

/-- ETH_QP_CTL with STATE RTR (10 R393). -/
def execQpToRtr (m : Master) (q : Nat) (v : Word) (s : State) : Res :=
  .next (s.regSend m .ETH_QP_CTL q 0 (putBits v.toNat 2 0 2))

/-- ETH_QP_CTL with STATE RTS (10 R393). -/
def execQpToRts (m : Master) (q : Nat) (v : Word) (s : State) : Res :=
  .next (s.regSend m .ETH_QP_CTL q 0 (putBits v.toNat 2 0 3))

/-- ETH_QP_CTL with STATE RESET (10 R393). -/
def execQpToReset (m : Master) (q : Nat) (v : Word) (s : State) : Res :=
  .next (s.regSend m .ETH_QP_CTL q 0 (putBits v.toNat 2 0 0))

/-- ETH_QP_CTL with STATE ERROR (10 R393). -/
def execQpToError (m : Master) (q : Nat) (v : Word) (s : State) : Res :=
  s.regWait m .ETH_QP_CTL q 0 (putBits v.toNat 2 0 6)

/-- A write of ETH_QP_SQ_TAIL (10 R398). -/
def execEthQpSqTail (m : Master) (q : Nat) (v : Word) (s : State) : Res :=
  s.regWait m .ETH_QP_SQ_TAIL q 0 v.toNat

/-- A write of ETH_QP_RQ_TAIL (10 R398). -/
def execEthQpRqTail (m : Master) (q : Nat) (v : Word) (s : State) : Res :=
  s.regWait m .ETH_QP_RQ_TAIL q 0 v.toNat

/-- A write of ETH_QP_CQ_HEAD (10 R398). -/
def execEthQpCqHead (m : Master) (q : Nat) (v : Word) (s : State) : Res :=
  s.regWait m .ETH_QP_CQ_HEAD q 0 v.toNat

/-- ETH_ING_CFG with ENABLE 1 (10 R407). -/
def execIngestEnable (m : Master) (k : Nat) (v : Word) (s : State) : Res :=
  .next (s.regSend m .ETH_ING_CFG k 0 (setBit v.toNat 0 true))

/-- ETH_ING_CFG with ENABLE 0 (10 R407, R411). -/
def execIngestDisable (m : Master) (k : Nat) (v : Word) (s : State) : Res :=
  s.regWait m .ETH_ING_CFG k 0 (setBit v.toNat 0 false)

/-- SHEAF_CTX_NBR_QP with VALID (11 R419, R441). -/
def execNeighbourBind (m : Master) (x i : Nat) (v : Word) (s : State) : Res :=
  .next (s.regSend m .SHEAF_CTX_NBR_QP x i (setBit v.toNat 24 true))

/-- SHEAF_CTX_CTL with START (11 R427, R442). -/
def execSheafStart (m : Master) (x : Nat) (v : Word) (s : State) : Res :=
  s.regWait m .SHEAF_CTX_CTL x 0 (setBit v.toNat 0 true)

/-- SHEAF_CTX_CTL with CANCEL (11 R436, R442). -/
def execSheafCancel (m : Master) (x : Nat) (v : Word) (s : State) : Res :=
  s.regWait m .SHEAF_CTX_CTL x 0 (setBit (setBit v.toNat 1 true) 0 false)

/-- HL_MBOX_CTL with ACTION 1 (12 R472, R473). -/
def execDoorbell (m : Master) (ch : Nat) (v : Word) (s : State) : Res :=
  .next (s.regSend m .HL_MBOX_CTL ch 0 (putBits v.toNat 2 0 1))

/-- HL_MBOX_CTL with ACTION 2 (12 R472). -/
def execTake (m : Master) (ch : Nat) (v : Word) (s : State) : Res :=
  .next (s.regSend m .HL_MBOX_CTL ch 0 (putBits v.toNat 2 0 2))

/-- HL_MBOX_CTL with ACTION 3 (12 R472). -/
def execAck (m : Master) (ch : Nat) (v : Word) (s : State) : Res :=
  .next (s.regSend m .HL_MBOX_CTL ch 0 (putBits v.toNat 2 0 3))

/-- HL_MBOX_CTL with ACTION 4 (12 R472). -/
def execClear (m : Master) (ch : Nat) (v : Word) (s : State) : Res :=
  .next (s.regSend m .HL_MBOX_CTL ch 0 (putBits v.toNat 2 0 4))

/-- A write of HL_MBOX_BIND_SRC (12 R471). -/
def execHlMboxBindSrc (m : Master) (v : Word) (s : State) : Res :=
  s.regWait m .HL_MBOX_BIND_SRC 0 0 v.toNat

/-- SEC_LC_REQ with GO (13 R479, R480). -/
def execSecLcReq (m : Master) (v : Word) (s : State) : Res :=
  s.regWait m .SEC_LC_REQ 0 0 (setBit v.toNat 0 true)

/-- SEC_OWNER_PROG with ACTION 1 (13 R487). -/
def execOwnerProgram (m : Master) (v : Word) (s : State) : Res :=
  s.regWait m .SEC_OWNER_PROG 0 0 (putBits v.toNat 9 8 1)

/-- SEC_OWNER_PROG with ACTION 2 (13 R487). -/
def execOwnerRevoke (m : Master) (v : Word) (s : State) : Res :=
  s.regWait m .SEC_OWNER_PROG 0 0 (putBits v.toNat 9 8 2)

/-- SEC_OWNER_PROG with ACTION 3 (13 R487). -/
def execFwMinSvnRaise (m : Master) (v : Word) (s : State) : Res :=
  s.regWait m .SEC_OWNER_PROG 0 0 (putBits v.toNat 9 8 3)

/-- SEC_COMMON_REQ with ACTION 1 (13 R503). -/
def execMakeCommon (m : Master) (v : Word) (s : State) : Res :=
  .next (s.regSend m .SEC_COMMON_REQ 0 0 (putBits v.toNat 17 16 1))

/-- SEC_COMMON_REQ with ACTION 2 (13 R503). -/
def execReleaseCommon (m : Master) (v : Word) (s : State) : Res :=
  .next (s.regSend m .SEC_COMMON_REQ 0 0 (putBits v.toNat 17 16 2))

/-- SEC_RETIRE_PROG with GO (13 R489). -/
def execSecRetireProg (m : Master) (v : Word) (s : State) : Res :=
  .next (s.regSend m .SEC_RETIRE_PROG 0 0 (setBit v.toNat 63 true))

/-- TEL_SNAP_CTL with GO (16 R578). -/
def execTelSnap (m : Master) (v : Word) (s : State) : Res :=
  .next (s.regSend m .TEL_SNAP_CTL 0 0 (setBit v.toNat 0 true))

/-- TEL_CO_CTL with OPEN (16 R579). -/
def execTelCoOpen (m : Master) (v : Word) (s : State) : Res :=
  .next (s.regSend m .TEL_CO_CTL 0 0 (putBits v.toNat 1 0 1))

/-- TEL_CO_CTL with CLOSE (16 R579). -/
def execTelCoClose (m : Master) (v : Word) (s : State) : Res :=
  .next (s.regSend m .TEL_CO_CTL 0 0 (putBits v.toNat 1 0 2))

/-- A write of TEL_CO_REGION (16 R580). -/
def execTelCoRegion (m : Master) (i : Nat) (v : Word) (s : State) : Res :=
  .next (s.regSend m .TEL_CO_REGION i 0 v.toNat)

/-- TEL_EXPORT with GO (16 R583). -/
def execTelExport (m : Master) (v : Word) (s : State) : Res :=
  .next (s.regSend m .TEL_EXPORT 0 0 (setBit v.toNat 0 true))

/-- A write of PRB_CFG (16 R588, R589, R602). -/
def execPrbCfg (m : Master) (k : Nat) (v : Word) (s : State) : Res :=
  .next (s.regSend m .PRB_CFG k 0 v.toNat)

/-- A write of ATB_CFG (16 R598). -/
def execAtbCfg (m : Master) (j : Nat) (v : Word) (s : State) : Res :=
  .next (s.regSend m .ATB_CFG j 0 v.toNat)

end Sys2Proof.Machine
end

