-- ==== Sys2Proof/Machine/MeshReq.lean ====
section
/-! DEFINITION. Requests of the mesh as commands (07 R256-R262), those to the control space among them, and the end of a
bandwidth window (07 R281, R290). -/

namespace Sys2Proof.Machine

/-- Whether the port refuses a plot's request to the control space (01 R51): the register is not plot-accessible to it. -/
def State.plotCtlRefused (s : State) (id addr : Nat) (write : Bool) : Bool :=
  match s.plotOfMaster id, target addr with
  | some _, .ctl off => match locate off with
    | some (r, i, j) => !s.reaches (.onModule id) r i j write
    | none => true
  | _, _ => false

/-- The port of the engine or site whose register block an offset lies in. -/
def ctlPort (off : Nat) : Option Nat :=
  let b := off / 2 ^ 24
  let i := off / 2 ^ 20 % 16
  if 8 ≤ i then none else if b = 1 then some i else if b = 3 then some (16 + i) else none

/-- Whether the stub of a fenced unit refuses a request to its registers (07 R274): all but a read of offset 0x0000 and the
registers held at the stub. -/
def State.stubRefuses (s : State) (addr : Nat) (write : Bool) : Bool :=
  match target addr with
  | .ctl off => match ctlPort off with
    | some p =>
      let held : Bool := match locate off with
        | some (r, _, _) => r == .CE_FAULT_Q || r == .SITE_CFG
        | none => false
      decide ((s.qport p).fence = 2) && !(held || (!write && decide (off % 2 ^ 20 = 0)))
    | none => false
  | _ => false

/-- A request at the control space: performed at once, with the outcome put in place for its response (00 R629). A write
whose data is poisoned is refused (DESIGN CHOICE, log 31). -/
def State.serveCtl (s : State) (r : Req) : State :=
  if s.stubRefuses r.pa r.write then s.updReq r.port r.tag (fun x => x.answer stFenced [] 0)
  else if r.write then
    let (st, s1) := if r.poison ≠ 0 then (hBadArg, s) else s.ctlWrite (.onModule r.id) r.pa r.len (leNat r.data)
    s1.updReq r.port r.tag (fun x => x.answer (if st = hOk then stOk else stTarget) [] 0)
  else
    let (st, v, s1) := s.ctlRead (.onModule r.id) r.pa r.len
    s1.updReq r.port r.tag (fun x =>
      if st = hOk then x.answer stOk (leBytes 8 v) 0 else x.answer stTarget [] 0)

/-- A request leaves its port and reaches its target. -/
def State.issue (s : State) (r : Req) : State :=
  let s1 := s.issueReq r
  match target r.pa with
  | .ctl _ => if s1.planesUp = [] then s1 else s1.serveCtl r
  | _ => s1

/-- A debug access to stacked memory counts, and marks the plots it touches (13 R506, R512). -/
def State.debugReq (s : State) (id addr len : Nat) (write : Bool) : State :=
  if id = 0x70 then
    let s1 := s.debugCount
    match memTarget addr with
    | some (_, pa) => s1.touchAll (s1.memTouch pa len write) addr
    | none => s1
  else s

/-- A request presented by a master: accepted and issued, waiting for its window, or refused. -/
def State.request (s : State) (q : MeshReq) (write : Bool) (data : Bytes) (poison : Nat) (errs : List LineErr) : State :=
  match (s.debugReq q.id q.addr q.len write).present? q write data poison errs with
  | (s1, none) => s1
  | (s1, some r) =>
    if s1.plotCtlRefused q.id q.addr write then (s1.dropReq r.port r.tag).refuseReq q r.port write stUnmapped
    else if s1.mayIssue r then s1.issue r else s1

/-- READ (07 R260, R261). -/
def execRead (r : MeshReq) (errs : List LineErr) (s : State) : Res := .next (s.request r false [] 0 errs)

/-- WRITE (07 R260, R261): the address range decides what it does. One to a register may make a unit of the hub access memory, and
waits with that access (log 21). -/
def execWrite (r : MeshReq) (data : Bytes) (poison : Nat) (errs : List LineErr) (s : State) : Res :=
  match target r.addr with
  | .ctl _ => parkIf (.write r data poison errs) (ParkKey.master r.id).no (fun s => .next (s.request r true data poison errs)) s
  | _ => .next (s.request r true data poison errs)

/-- Issues the requests that waited for a window, in order, each class of a port as far as its ceiling allows. -/
def State.reissue : List Req → List (Nat × Nat) → State → State
  | [], _, s => s
  | r :: t, held, s =>
    if r.phase ≠ .waitPort ∨ held.contains (r.port, r.cls) then State.reissue t held s
    else if (s.qport r.port).fits r.cls r.len then State.reissue t held (s.issue r)
    else State.reissue t ((r.port, r.cls) :: held) s

/-- QOS_WINDOW_END: misses are judged, commits and rescales that are due take effect, and a window begins. -/
def execQosWindowEnd (s : State) : Res :=
  let s1 := (List.range 30).foldl State.portMisses s
  let s2 := ((List.range 30).foldl State.portWindow s1).pendingTick
  .next (State.reissue s2.mesh.reqs [] s2)

end Sys2Proof.Machine
end

