-- ==== Sys2Proof/Machine/LaneMem.lean ====
section
/-! DEFINITION. Scalar accesses of lane programs to memory, sites and the control space (04 R163, R178, R180). -/

namespace Sys2Proof.Machine

/-- Identity of an engine's scalar units (01 R47). -/
def scalarId (e : Nat) : Nat := 0x20 + 4 * e + 3

/-- A row whose access waits with it at its home (log 21). -/
def laneMemRow (c : Instr) (e u opc : Nat) (f : LaneFn) : State → Res :=
  parkIf c (ParkKey.stream e u).no (fun s => .next (s.laneRow e u opc f))

/-- A read of `n` bytes by a scalar unit: STATUS of 07 R262, bytes, the address it belongs to. -/
def State.scalarRead (s : State) (e a n : Nat) (site : SiteAns) : Nat × Bytes × Nat × State :=
  match ctlOff a with
  | some _ =>
    if s.plotCtlRefused (scalarId e) a false then (stUnmapped, [], a, s)
    else
      let (st, v, s1) := s.askRead (.onModule (scalarId e)) a n
      (if st = hOk then stOk else stTarget, leBytes 8 v, a, s1)
  | none =>
    let (r, s1) := s.rd (s.engSrc e 3) a n site
    (r.status, r.data, r.addr, s1)

/-- A write of bytes by scalar unit `u` for its stream's order: STATUS and the address it belongs to. -/
def State.scalarWrite (s : State) (e u : Nat) (t : Stream) (a : Nat) (b : Bytes) : Nat × Nat × State :=
  match ctlOff a with
  | some _ =>
    if s.plotCtlRefused (scalarId e) a true then (stUnmapped, a, s)
    else
      let (st, s1) := s.askWrite (.onModule (scalarId e)) a b.length (leNat b)
      (if st = hOk then stOk else stTarget, a, s1)
  | none => s.wr (s.engSrc e 3) a b false (some { e := e, q := t.q, idx := t.idx, unit := u })

/-- The end of a lane stream whose access failed. -/
def laneFail (st a : Nat) (s : State) : LaneEnd :=
  let (cs, fc) := meshCompletion st
  .stop cs fc a s

/-- Whether bytes read from memory are what the stream's own order stored there (02 R90). DESIGN CHOICE (log 113): another agent's
write of the same bytes over them is not told apart. -/
def Eng.madeMem (g : Eng) (t : Stream) (a : Nat) (d : Bytes) : Bool :=
  d.zipIdx.all (fun b => g.made.any (fun m => m.q == t.q && m.idx == t.idx && decide (m.addr ≤ a + b.2)
    && m.data[a + b.2 - m.addr]? == some b.1))

/-- Bytes have been stored to memory: those in `own` are the stream's own from now on (02 R90). -/
def State.markMem (s : State) (e : Nat) (t : Stream) (a : Nat) (b : Bytes) (own : Nat → Bool) : State :=
  let g := s.eng e
  if g.made = [] ∧ !(List.range b.length).any own then s
  else s.setEng e (b.zipIdx.foldl (fun g x => if own x.2 then g.mark t (a + x.2) 1 [x.1] else g) (g.unmake a b.length))

/-- SLDM: 8 bytes of memory; what a chiplet returns comes with the command. -/
def execSldm (e u : Nat) (site : SiteAns) (s : State) : Res :=
  laneMemRow (.sldm e u site) e u 0x53 (fun t i s =>
    let (st, d, a, s1) := s.scalarRead e (t.addr i) 8 site
    if st = stOk then .next (t.setS i.rd (leNat d) (!(s1.eng e).madeMem t (t.addr i) (d.take 4))) 0 0 s1
    else laneFail st a s1) s

/-- SSTM: 8 bytes of sd to memory. -/
def execSstm (e u : Nat) (s : State) : Res :=
  laneMemRow (.sstm e u) e u 0x54 (fun t i s =>
    let (st, a, s1) := s.scalarWrite e u t (t.addr i) (leBytes 8 (t.s i.rd))
    if st = stOk then .next t 0 0 (s1.markMem e t (t.addr i) (leBytes 8 (t.s i.rd)) (fun _ => !t.sStored i.rd))
    else laneFail st a s1) s

/-- SCPYIN: IMM bytes from memory at sa to tile memory at sd. -/
def execScpyin (e u : Nat) (site : SiteAns) (s : State) : Res :=
  laneMemRow (.scpyin e u site) e u 0x55 (fun t i s =>
    if tileSize < t.s i.rd + i.imm then .stop csIllegal 0x010C 0 s
    else
      let (st, d, a, s1) := s.scalarRead e (t.s i.ra) i.imm site
      let g := s1.eng e
      let own := d.zipIdx.filter (fun b => g.madeMem t (t.s i.ra + b.2) [b.1])
      if st = stOk then .next t 0 0 (s1.setEng e (own.foldl (fun g b => g.mark t (2 ^ 62 + (t.s i.rd + b.2)) 1)
        (g.tileWrite (t.s i.rd) (slice d 0 i.imm) false)))
      else laneFail st a s1) s

/-- SCPYOUT: IMM bytes from tile memory at sd to memory at sa. -/
def execScpyout (e u : Nat) (s : State) : Res :=
  laneMemRow (.scpyout e u) e u 0x56 (fun t i s =>
    if tileSize < t.s i.rd + i.imm then .stop csIllegal 0x010C 0 s
    else
      let s := s.tmMeet e (t.s i.rd) i.imm
      let g := s.eng e
      match g.tilePoison (t.s i.rd) i.imm with
      | some p => .stop csPoison 0x0302 (2 ^ 62 + p) s
      | none =>
        let (st, a, s1) := s.scalarWrite e u t (t.s i.ra) (g.tileBytes (t.s i.rd) i.imm)
        if st = stOk then .next t 0 0 (s1.markMem e t (t.s i.ra) (g.tileBytes (t.s i.rd) i.imm)
          (fun k => g.madeBy t (t.s i.rd + k) 1))
        else laneFail st a s1) s

end Sys2Proof.Machine
end

