-- ==== Sys2Proof/Machine/RegHl.lean ====
section
/-! DEFINITION. Headland commands that reach registers and memory: REG_READ, REG_WRITE, REG_POLL, MEM_READ, MEM_WRITE,
QOS_COMMIT and debug (12 R455-R459; 14 R531; 16 R593-R595). -/

namespace Sys2Proof.Machine

/-! ### Registers (12 R456-R458) -/

/-- Reads registers at rising addresses: the first status that is not OK ends it. -/
def State.readRegs (m : Master) : Nat → Nat → State → Nat × Bytes × State
  | 0, _, s => (hOk, [], s)
  | n + 1, pa, s =>
    let (st, v, s1) := s.askRead m pa 8
    if st = hOk then
      let (st2, b, s2) := State.readRegs m n (pa + 8) s1
      (st2, beBytes 8 v ++ b, s2)
    else (st, [], s1)

/-- REG_READ by session `n`. -/
def State.hlRegRead (s : State) (n : Nat) (b : Bytes) : Nat × Bytes × State :=
  let count := beAt b 8 2
  if b.length ≠ 10 ∨ count = 0 ∨ 64 < count then (hBadArg, [], s)
  else
    let (st, d, s1) := State.readRegs (.session n) count (beAt b 0 8) s
    (st, if st = hOk then d else [], s1)

/-- REG_READ. -/
def execRegRead (n : Nat) (s : State) : Res := .next (s.hlRun n 0x10 (fun c s => s.hlRegRead n c.payload))

/-- Applies the pairs of a REG_WRITE in order: status and index of the first that does not complete with OK, or the count
(12 R457). -/
def State.writePairs (m : Master) (b : Bytes) (count : Nat) : Nat → State → Nat × Nat × State
  | 0, s => (hOk, count, s)
  | k + 1, s =>
    let i := count - (k + 1)
    let (st, s1) := s.askWrite m (beAt b (2 + 16 * i) 8) 8 (beAt b (10 + 16 * i) 8)
    if st = hOk then State.writePairs m b count k s1 else (st, i, s1)

/-- REG_WRITE by session `n`. -/
def State.hlRegWrite (s : State) (n : Nat) (b : Bytes) : Nat × Bytes × State :=
  let count := beAt b 0 2
  if count = 0 ∨ 64 < count ∨ b.length ≠ 2 + 16 * count then (hBadArg, beBytes 2 0, s)
  else
    let (st, i, s1) := State.writePairs (.session n) b count count s
    (st, beBytes 2 i, s1)

/-- REG_WRITE; an accepted life-cycle request then stops the Headland (13 R480). -/
def execRegWrite (n : Nat) (s : State) : Res :=
  parkIf (.regWrite n) (ParkKey.session n).no
    (fun s => .next (s.hlRun n 0x11 (fun c s => s.hlRegWrite n c.payload)).lcSettle) s

/-- Whether a value meets VALUE under COND (12 R458). -/
def pollMet (cond v mask value : Nat) : Bool :=
  let x := v &&& mask
  match cond with
  | 0 => x == value
  | 1 => x != value
  | 2 => decide (value ≤ x)
  | _ => decide (x < value)

/-- The command of a session whose REG_POLL waits. -/
def State.hlPolling (s : State) (n : Nat) : Option HCmd :=
  let x := s.sess n
  if x.isOpen ∧ x.polling.isSome ∧ !s.hl.closing ∧ (s.dom 22).running then NTbl.at none x.window x.next else none

/-- One read of a REG_POLL that began at `since`: the reply if it ends here (status and payload), and the state. `last`
says that LIMIT_US has passed. -/
def State.pollOnce (s : State) (n since : Nat) (last : Bool) (b : Bytes) : Option (Nat × Bytes) × State :=
  let limit := beAt b 28 4
  let (st, v, s1) := s.askRead (.session n) (beAt b 0 8) 8
  if st ≠ hOk then (some (st, []), s1)
  else if pollMet (beAt b 24 1) v (beAt b 8 8) (beAt b 16 8) then
    (some (hOk, beBytes 8 v ++ beBytes 4 (min limit (s.now - since))), s1)
  else if last then (some (hTimeout, beBytes 8 v ++ beBytes 4 limit), s1)
  else (none, s1)

/-- Whether the arguments of a REG_POLL are sound. -/
def pollForm (b : Bytes) : Bool :=
  b.length == 32 && decide (beAt b 24 1 ≤ 3) && beAt b 25 3 == 0 && decide (1 ≤ beAt b 28 4) && decide (beAt b 28 4 ≤ 100000)

/-- A REG_POLL goes on: it answers, or waits for its next read. -/
def State.pollStep (s : State) (n : Nat) (c : HCmd) (since : Nat) (last : Bool) : State :=
  match s.hlRefusal n c with
  | some st => s.hlDone n c st []
  | none =>
    if !pollForm c.payload then s.hlDone n c hBadArg []
    else match s.pollOnce n since last c.payload with
      | (some (st, p), s1) => s1.hlDone n c st p
      | (none, s1) => s1.setSess n { s1.sess n with polling := some since }

/-- REG_POLL: the first read of the command at NEXT, or another of one that waits. -/
def execRegPoll (n : Nat) (s : State) : Res :=
  .next (match s.hlPolling n with
    | some c => s.pollStep n c ((s.sess n).polling.getD 0) false
    | none => match s.hlNext n with
      | some c => if c.opcode = 0x12 then s.pollStep n c s.now false else s
      | none => s)

/-- REG_POLL_LIMIT: LIMIT_US has passed for the REG_POLL that waits. -/
def execRegPollLimit (n : Nat) (s : State) : Res :=
  .next (match s.hlPolling n with
    | some c => s.pollStep n c ((s.sess n).polling.getD 0) true
    | none => s)

/-! ### Memory (12 R459; 14 R531) -/

/-- Whether a range lies wholly in stacked memory. -/
def inMemory (a n : Nat) : Bool := decide (a + n ≤ memSize)

/-- What refuses a MEM_READ or MEM_WRITE before any access: operator sessions stay off granules 0 to 2, but for reads of
the record region, and off granules that a plot maps privately; tenant sessions stay within their plot map. -/
def State.memRefusal (s : State) (n a len : Nat) (write : Bool) : Option Nat :=
  match (s.sess n).plot with
  | some p =>
    if !inMemory a len then some hDenied
    else if (granulesOf a len).all (fun g => (s.plotPa p (g * 2 ^ 30) (g * 2 ^ 30) write).isSome) then none
    else some hDenied
  | none =>
    if !inMemory a len then some hBadArg
    else
      let record := !write && decide (recordBase ≤ a) && decide (a + len ≤ recordBase + recordLen)
      if (granulesOf a len).any (fun g => (decide (g < 3) && !record) || (s.granOwner g).isSome) then some hDenied
      else none

/-- MEM_READ by session `n`. -/
def State.hlMemRead (s : State) (n : Nat) (b : Bytes) : Nat × Bytes × State :=
  let a := beAt b 0 8
  let len := beAt b 8 2
  if b.length ≠ 10 ∨ len = 0 ∨ 8192 < len then (hBadArg, [], s)
  else match s.memRefusal n a len false with
    | some st => (st, [], s)
    | none =>
      let (r, s1) := s.rd { id := 0x60, plot := (s.sess n).plot } a len
      if r.status = stOk then (hOk, r.data, s1)
      else if r.status = stPoison then (hAborted, beBytes 4 (r.addr - a), s1)
      else (meshStatus r.status, [], s1)

/-- MEM_READ. -/
def execMemRead (n : Nat) (s : State) : Res :=
  parkIf (.memRead n) (ParkKey.session n).no (fun s => .next (s.hlRun n 0x18 (fun c s => s.hlMemRead n c.payload))) s

/-- MEM_WRITE by session `n`. -/
def State.hlMemWrite (s : State) (n : Nat) (b : Bytes) : WRes :=
  let a := beAt b 0 8
  let d := b.drop 16
  if d = [] ∨ 8176 < d.length ∨ beAt b 8 8 ≠ 0 then (hBadArg, s)
  else match s.memRefusal n a d.length true with
    | some st => (st, s)
    | none =>
      let (st, _, s1) := s.wr { id := 0x60, plot := (s.sess n).plot } a d
      (if st = stOk then hOk else meshStatus st, s1)

/-- MEM_WRITE. -/
def execMemWrite (n : Nat) (s : State) : Res :=
  parkIf (.memWrite n) (ParkKey.session n).no (fun s => .next (s.hlSimple n 0x19 (fun c s => s.hlMemWrite n c.payload))) s

/-! ### QOS_COMMIT (07 R284-R287) -/

/-- QOS_COMMIT by session `n`: the reply holds QOS_COMMIT_RESULT. -/
def State.hlQosCommit (s : State) (n : Nat) (b : Bytes) : Nat × Bytes × State :=
  if b.length ≠ 1 ∨ 15 < beAt b 0 1 then (hBadArg, [], s)
  else if s.lockRefuses 0x04000100 (some n) then (hOwned, [], s)
  else
    let (st, s1) := s.qosCommit (beAt b 0 1)
    (st, beBytes 8 (s1.regWord .QOS_COMMIT_RESULT 0 0), s1)

/-- QOS_COMMIT. -/
def execQosCommit (n : Nat) (s : State) : Res := .next (s.hlRun n 0x32 (fun c s => s.hlQosCommit n c.payload))

/-! ### Debug (13 R505-R507; 16 R593-R595) -/

/-- Debug's identity as a master. -/
def debugMaster : Master := .onModule 0x70

/-- Debug as a master of the mesh: it belongs to no plot. -/
def debugSrc : Src := { id := 0x70, plot := none }

/-- Marks the plots whose stacked memory a debug access reaches. -/
def State.debugMem (s : State) (a n : Nat) (write : Bool) : State :=
  match memTarget a with
  | some (_, pa) => s.touchAll (s.memTouch pa n write) a
  | none => s

/-- A debug read of `n` bytes at a physical address: status, reply, state. -/
def State.debugRead (s : State) (a n : Nat) : Nat × Bytes × State :=
  match ctlOff a with
  | some _ => if n % 8 ≠ 0 then (hBadArg, [], s)
    else
      let (st, d, s1) := State.readRegs debugMaster (n / 8) a s.debugCount
      (st, if st = hOk then d else [], s1)
  | none =>
    if target a = .unmapped then (hBadArg, [], s.unmappedAt 29 a)
    else
      let (r, s1) := (s.debugCount.debugMem a n false).rd debugSrc a n
      if r.status = stOk then (hOk, r.data, s1)
      else if r.status = stPoison then (hAborted, beBytes 4 (r.addr - a), s1)
      else (meshStatus r.status, [], s1)

/-- Writes registers at rising addresses from big-endian values: the first status that is not OK ends it. -/
def State.writeRegs (m : Master) : Nat → Nat → Bytes → State → WRes
  | 0, _, _, s => (hOk, s)
  | k + 1, pa, d, s =>
    let (st, s1) := s.askWrite m pa 8 (beAt d 0 8)
    if st = hOk then State.writeRegs m k (pa + 8) (d.drop 8) s1 else (st, s1)

/-- A debug write at a physical address. -/
def State.debugWrite (s : State) (a : Nat) (d : Bytes) : WRes :=
  match ctlOff a with
  | some _ => if d.length % 8 ≠ 0 then (hBadArg, s) else State.writeRegs debugMaster (d.length / 8) a d s.debugCount
  | none =>
    if target a = .unmapped then (hBadArg, s.unmappedAt 29 a)
    else
      let (st, _, s1) := (s.debugCount.debugMem a d.length true).wr debugSrc a d
      (if st = stOk then hOk else meshStatus st, s1)

/-- Whether a debug access names a unit of a plot being torn down: a register, or a site window (12 R461). -/
def State.debugScrubs (s : State) (a n : Nat) : Bool :=
  match target a with
  | .ctl off => (List.range (n / 8)).any (fun k => match locate (off + 8 * k) with
    | some (r, i, _) => s.regScrubs r i (off + 8 * k)
    | none => false)
  | .site i => s.scrubbing (s.plotOfSite i)
  | _ => false

/-- DEBUG_READ. -/
def execDebugRead (n : Nat) (s : State) : Res :=
  parkIf (.debugRead n) (ParkKey.session n).no (fun s => .next (s.hlRun n 0x70 (fun c s =>
    let len := beAt c.payload 8 2
    if c.payload.length ≠ 10 ∨ len < 8 ∨ 8192 < len then (hBadArg, [], s)
    else if s.debugScrubs (beAt c.payload 0 8) len then (hScrubbing, [], s)
    else s.debugRead (beAt c.payload 0 8) len))) s

/-- DEBUG_WRITE. -/
def execDebugWrite (n : Nat) (s : State) : Res :=
  parkIf (.debugWrite n) (ParkKey.session n).no (fun s => .next (s.hlSimple n 0x71 (fun c s =>
    let d := c.payload.drop 16
    if d = [] ∨ 8176 < d.length ∨ beAt c.payload 8 8 ≠ 0 then (hBadArg, s)
    else if s.debugScrubs (beAt c.payload 0 8) d.length then (hScrubbing, s)
    else s.debugWrite (beAt c.payload 0 8) d))) s

/-- DEBUG_HALT of one action: the command at NEXT runs only in the row of its own ACTION; one that is malformed is refused
in the row of ACTION 0. -/
def State.haltRow (s : State) (n action : Nat) : State :=
  match s.hlNext n with
  | some c =>
    let act := beAt c.payload 4 1
    let bad : Bool := c.payload.length != 5 || beAt c.payload 1 1 != 0 || decide (2 < act)
    if (!bad ∧ act = action) ∨ (bad ∧ action = 0) then
      s.hlSimple n 0x72 (fun c s =>
        if bad then (hBadArg, s)
        else if beAt c.payload 0 1 = 1 ∧ s.scrubbing (s.plotOfEngine (beAt c.payload 2 2)) then (hScrubbing, s)
        else s.debugCount.debugHalt (beAt c.payload 0 1) (beAt c.payload 2 2) act)
    else s
  | none => s

/-- DEBUG_HALT with ACTION 0. -/
def execDebugHalt (n : Nat) (s : State) : Res := .next (s.haltRow n 0)

/-- DEBUG_HALT with ACTION 1. -/
def execDebugResume (n : Nat) (s : State) : Res := .next (s.haltRow n 1)

/-- DEBUG_HALT with ACTION 2. -/
def execDebugStep (n : Nat) (s : State) : Res := .next (s.haltRow n 2)

end Sys2Proof.Machine
end

