-- ==== Sys2Proof/Machine/Jtag.lean ====
section
/-! DEFINITION. The TAP and its debug access instrument (16 R596, R597; 17 R624), and the management port (17 R622, R623). -/

namespace Sys2Proof.Machine

/-! ### The TAP -/

/-- Codes of the instructions. -/
def irExtest : Nat := 0x00
def irSample : Nat := 0x01
def irIdcode : Nat := 0x02
def irClamp : Nat := 0x03
def irHighz : Nat := 0x04
def irIjtag : Nat := 0x10
def irBypass : Nat := 0xFF

/-- Whether EXTEST, CLAMP and HIGHZ act on the pins: PORST_N is low, or the life cycle is TEST or RETURN. -/
def State.pinsFree (s : State) : Bool := s.aon.porstLow || s.lcAnalysis

/-- The instruction that a code selects: in SCRAP only IDCODE and BYPASS act. -/
def State.irFor (s : State) (code : Nat) : Nat :=
  if s.sec.lcState = lcScrap ∧ code ≠ irIdcode then irBypass
  else if (code = irExtest ∨ code = irClamp ∨ code = irHighz) ∧ !s.pinsFree then irBypass
  else code

/-- Loads an instruction; a TAP in Test-Logic-Reset loads none. -/
def State.loadIr (s : State) (code : Nat) : State :=
  if s.jtag.reset then s else { s with jtag := { s.jtag with ir := s.irFor code } }

/-- Loads an instruction and, where it is the boundary register's, shifts its value in. -/
def State.loadBoundary (s : State) (code dr : Nat) : State :=
  let s1 := s.loadIr code
  if !s.jtag.reset ∧ s1.jtag.ir = code then { s1 with jtag := { s1.jtag with boundary := dr } } else s1

/-- EXTEST: the boundary cells drive the pins with the value shifted in. -/
def execExtest (dr : Nat) (s : State) : Res := .next (s.loadBoundary irExtest dr)

/-- SAMPLE/PRELOAD: the value shifted in is preloaded. -/
def execSamplePreload (dr : Nat) (s : State) : Res := .next (s.loadBoundary irSample dr)

/-- IDCODE: the identification register is shifted out. -/
def execIdcode (s : State) : Res :=
  .next (if s.jtag.reset then s else (s.loadIr irIdcode).emit (.serial 1 (leBytes 4 0x116085CF)))

/-- CLAMP: the pins hold their preloaded values. -/
def execClamp (s : State) : Res := .next (s.loadIr irClamp)

/-- HIGHZ: the pins are released. -/
def execHighz (s : State) : Res := .next (s.loadIr irHighz)

/-- IJTAG: the IEEE 1687 network is selected. -/
def execIjtag (s : State) : Res := .next (s.loadIr irIjtag)

/-- BYPASS. -/
def execBypass (s : State) : Res := .next (s.loadIr irBypass)

/-- TRST_N low resets the TAP only (17 R624). -/
def execTrstN (s : State) : Res := .next { s with jtag := { s.jtag with reset := true, ir := irIdcode } }

/-- TEST_LOGIC_RESET_EXIT: the TAP leaves Test-Logic-Reset, and JTAG_SEEN is set (13 R512). -/
def execTestLogicResetExit (s : State) : Res :=
  .next ({ s with jtag := { s.jtag with reset := false, ir := irIdcode } }.setSec { s.sec with jtagSeen := true })

/-! ### The debug access instrument (16 R597) -/

/-- An access of the instrument: DATA and RESULT. -/
def State.instrument (s : State) (op a data : Nat) : Nat × Nat × State :=
  if op = 1 then
    let s0 := s.debugCount
    match ctlOff a with
    | some _ =>
      let (st, v, s1) := s0.askRead debugMaster a 8
      (v, if st = hOk then 0 else 2, s1)
    | none =>
      let (r, s1) := (s0.debugMem a 8 false).rd debugSrc a 8
      (if r.status = stOk then leNat r.data else 0, if r.status = stOk then 0 else if r.status = stPoison then 3 else 2, s1)
  else if op = 2 then
    let s0 := s.debugCount
    match ctlOff a with
    | some _ =>
      let (st, s1) := s0.askWrite debugMaster a 8 data
      (data, if st = hOk then 0 else 2, s1)
    | none =>
      let (st, _, s1) := (s0.debugMem a 8 true).wr debugSrc a (leBytes 8 data)
      (data, if st = stOk then 0 else 2, s1)
  else (data, 4, s)

/-- What a Capture-DR of the instrument shows: free until the second after an access. -/
def State.instrCapture (s : State) : Nat × State :=
  let j := s.jtag
  let s1 : State := { s with jtag := { j with left := j.left - 1 } }
  if j.left ≤ 1 then (j.result, s1)
  else
    let (x, s2) := s1.freeBelow (2 ^ 128)
    (x, s2)

/-- DEBUG_ACCESS_INSTRUMENT: one scan of the 128-bit register: what it captured leaves, and Update-DR performs the access
shifted in, if OP names one. -/
def execDebugAccessInstrument (dr : BitVec 128) (s : State) : Res :=
  parkIf (.debugAccessInstrument dr) (ParkKey.master 0x70).no (fun s =>
    if s.jtag.reset ∨ s.jtag.ir ≠ irIjtag ∨ s.sec.lcState = lcScrap then .next s
    else
      let (cap, s1) := s.instrCapture
      let s2 := s1.emit (.serial 1 (leBytes 16 cap))
      let v := dr.toNat
      if bits v 63 62 = 0 then .next s2
      else
        let a := bits v 51 3 * 8
        let (d, res, s3) := s2.instrument (bits v 63 62) a (bits v 127 64)
        .next { s3 with jtag := { s3.jtag with
          result := d * 2 ^ 64 + bits v 63 62 * 2 ^ 62 + res * 2 ^ 59 + a, left := 2 } }) s

/-! ### The management port (17 R622, R623) -/

/-- The SMBus packet error code: CRC-8 with the polynomial x^8 + x^2 + x + 1 (PRESUMED, log 32). -/
def crc8 : Nat → Nat → Nat
  | 0, c => c
  | k + 1, c => crc8 k (if bit c 7 then (c * 2 % 256) ^^^ 0x07 else c * 2 % 256)

/-- The packet error code of a byte string. -/
def pec (b : Bytes) : Nat := b.foldl (fun c x => crc8 8 (c ^^^ x.toNat)) 0

/-- The registers of the indices. -/
def mgmtReg (i : Nat) : Option (Reg × Nat) :=
  match i with
  | 0x00 => some (.GLB_ID, 0) | 0x01 => some (.GLB_SERIAL, 0) | 0x02 => some (.GLB_LC, 0)
  | 0x03 => some (.GLB_RESET_CAUSE, 0) | 0x04 => some (.HL_STATUS, 0) | 0x05 => some (.TEL_FATAL, 0)
  | 0x06 => some (.TEL_ERR_SUMMARY, 0) | 0x07 => some (.PWR_STATUS, 0) | 0x08 => some (.PWR_STOP_INFO, 0)
  | 0x09 => some (.ETH_STATUS, 0) | 0x0A => some (.ETH_ERR_STATUS, 0) | 0x0B => some (.GLB_UM_CTL, 0)
  | _ => if 0x10 ≤ i ∧ i < 0x18 then some (.PWR_ZONE_STATUS, i - 0x10) else none

/-- BRD_ALERT_N is asserted: from the first MODULE_FATAL error, never in SCRAP nor while PORST_N is low (17 R621). -/
def State.alertOn (s : State) : Bool := s.aon.alert && !s.aon.porstLow && decide (s.sec.lcState ≠ lcScrap)

/-- The value an index reads as. -/
def State.mgmtWord (s : State) (i : Nat) : Nat :=
  if s.sec.lcState = lcScrap ∧ i ≠ 0 ∧ i ≠ 2 then 0
  else if i = 0x0C then 4 * s.f .PWR_STATUS_STOP + 2 * b2n s.alertOn + b2n s.aon.refLost
  else match mgmtReg i with
    | some (r, k) => s.regWord r k 0
    | none => 0

/-- MGMT_WRITE_INDEX: the first byte becomes INDEX, further ones are ignored. -/
def execMgmtWriteIndex (bytes : Bytes) (s : State) : Res :=
  .next (match bytes with
    | [] => s
    | b :: _ => { s with mgmtIndex := b.toNat })

/-- MGMT_READ of `n` bytes: the register, the packet error code over the transaction (log 32), then 0xFF. -/
def execMgmtRead (n : Nat) (s : State) : Res :=
  let d := leBytes 8 (s.mgmtWord s.mgmtIndex)
  let code := pec ([0xB4#8, BitVec.ofNat 8 s.mgmtIndex, 0xB5#8] ++ d)
  let all := d ++ [BitVec.ofNat 8 code]
  .next (s.emit (.serial 0 (all.take n ++ List.replicate (n - 9) 0xFF#8)))

end Sys2Proof.Machine
end

