-- ==== Sys2Proof/Machine/SitePkt.lean ====
section
/-! DEFINITION. Packets from a chiplet, whichever flits carried them: responses, snoop responses and requests (08 R299; 09
R336-R349). -/

namespace Sys2Proof.Machine

/-- A packet from a chiplet (07 R260; 09 R336, R340). -/
structure SitePkt where
  rsp : Bool
  cmd : Nat
  sub : Nat
  count : Nat
  len : Nat
  tag : Nat
  status : Nat
  addr : Nat
  poison : Nat
  txn : Nat
  home : Nat
  dirty : Bool
  units : List (BitVec 512)
  deriving DecidableEq, Repr

/-- Reads a packet's header. -/
def sitePkt (h : BitVec 512) (units : List (BitVec 512)) : SitePkt :=
  let v := h.toNat
  { rsp := bit v 7, cmd := bits v 15 8, sub := bits v 21 16, count := bits v 33 30, len := bits v 43 34,
    tag := bits v 59 48, status := bits v 63 60, addr := bits v 115 64, poison := bits v 123 116,
    txn := bits v 203 192, home := bits v 210 208, dirty := bit v 212, units }

/-- Bytes of its data units. -/
def SitePkt.bytes (p : SitePkt) : Bytes := p.units.flatMap (fun u => leBytes 64 u.toNat)

/-- The bytes addressed, each at its position within its line (09 R339). -/
def SitePkt.data (p : SitePkt) : Bytes := slice p.bytes (p.addr % 64) p.len

/-- Whether a command comes from a chiplet, with its RSP bit; its data units agree with 09 R339; and its channel, which
its command decides (09 R337), is one of those towards the hub. -/
def SitePkt.wellFormed (p : SitePkt) : Bool :=
  let n := (linesOf p.addr p.len).length
  let shape := decide (0 < p.len) && decide (n ≤ 8) && decide (p.addr % 4096 + p.len ≤ 4096)
  if p.cmd = 0x01 then !p.rsp && shape && decide (p.count = 0)
  else if p.cmd = 0x02 then !p.rsp && shape && decide (p.count = n)
  else if (0x10 ≤ p.cmd ∧ p.cmd ≤ 0x14) ∨ p.cmd = 0x18 ∨ p.cmd = 0x20 then !p.rsp && decide (p.count = 0)
  else if p.cmd = 0x15 ∨ p.cmd = 0x19 then !p.rsp && decide (0 < p.len) && decide (n = 1) && decide (p.count = 1)
  else if 0x38 ≤ p.cmd ∧ p.cmd ≤ 0x3B then decide (p.count = 0)
  else if p.cmd = 0x41 then decide (p.count = 0)
  else if p.cmd = 0x80 then p.rsp && decide (p.count ≤ 8)
  else if p.cmd = 0x81 then p.rsp && decide (p.count = 0)
  else false

/-- Channel of a packet towards the hub (09 R337). -/
def vcIn (cmd : Nat) : Nat :=
  if cmd = 0x80 ∨ cmd = 0x81 then 1 else if (0x38 ≤ cmd ∧ cmd ≤ 0x3B) ∨ cmd = 0x41 then 3 else 0

/-- The state a command leaves. -/
def State.after (s : State) (r : Res) : State := match r with
  | .next s1 => s1
  | _ => s

/-! ### Responses and snoop responses -/

/-- The request of the hub that a response answers: outstanding at this site with its TAG; of several, the one whose
identity agrees in bits [5:0] (09 R336, R348). -/
def State.siteAsked (s : State) (n : Nat) (p : SitePkt) : Option Req :=
  let can := s.mesh.reqs.filter (fun r => reqToSite n r && r.tag == p.tag)
  match can.find? (fun r => r.id % 64 == p.sub) with
  | some r => some r
  | none => can.head?

/-- A response to a request of the hub (09 R346): POISON where data is poisoned, ERR_TARGET for any other failure. -/
def State.siteResponse (s : State) (n : Nat) (p : SitePkt) : State :=
  match s.siteAsked n p with
  | none => s.count .SITE_LATE_COUNT n 0 32 1
  | some r =>
    let ok := p.status = stOk ∨ p.status = stPoison
    if ok ∧ (p.cmd = 0x81) ≠ (r.write = true) then s.badPkt n (some p.tag)
    else if ok ∧ !r.write ∧ p.count ≠ (linesOf r.pa r.len).length then s.badPkt n (some p.tag)
    else if s.siteScrubs n ∧ !r.write then s.respond (r.answer stScrub [] 0)
    else if !ok then s.respond (r.answer stTarget [] 0)
    else
      let bad := if r.write then 0 else p.poison % 2 ^ p.count
      s.respond (r.answer (if p.status = stPoison ∨ bad ≠ 0 then stPoison else stOk)
        (if r.write then [] else slice p.bytes (r.pa % 64) r.len) bad)

/-- The line of the open transaction that a snoop response names by TXN and home. -/
def State.txnLine (s : State) (txn home : Nat) : Option Nat :=
  (s.coh.txns.find? (fun t => t.txn == txn && s.home (t.line * 64) == home)).map HTxn.line

/-- A snoop response arrives with its dirty data, if any (08 R299, R313). One that no transaction awaits is a protocol
error whose line is free (log 4). -/
def State.siteSnoopRsp (s : State) (n cmd txn home : Nat) (dirty : Option (Bool × Bytes)) : State :=
  match s.txnLine txn home with
  | some line =>
    if cmd = 0x3B then s.after (execRspIWbp n line txn s)
    else s.snoopResp n line txn (cmd - 0x38) cmd (dirty.map Prod.snd) ((dirty.map Prod.fst).getD false)
  | none =>
    if !bit s.coh.up n then s
    else
      let (l, s1) := s.freeBelow (2 ^ 46)
      s1.protoErr n l cmd

/-- A snoop response: one with D waits for its DATA packet (08 R299). -/
def State.siteSnoopMsg (s : State) (n : Nat) (p : SitePkt) : State :=
  let l := s.link n
  if !p.dirty then s.siteSnoopRsp n p.cmd p.txn p.home none
  else match l.dirtyData.find? (fun d => d.1 == p.txn) with
    | some d =>
      (s.setLink n { l with dirtyData := l.dirtyData.erase d }).siteSnoopRsp n p.cmd p.txn p.home (some d.2)
    | none => s.setLink n { l with dirtyRsp := l.dirtyRsp ++ [(p.txn, p.cmd + 256 * p.home)] }

/-- Whether a DATA packet is the dirty data of a snoop response (09 R340): one that waits for it, or one still to come for a snoop
of this site. -/
def State.dirtyPkt (s : State) (n : Nat) (p : SitePkt) : Bool :=
  (s.link n).dirtyRsp.any (fun d => d.1 == p.tag)
    || ((s.siteAsked n p).isNone && s.coh.txns.any (fun t => t.txn == p.tag && decide (t.phase = .snoop)
      && t.pend.any (fun w => w.agent == n && w.resp.isNone)) && decide (p.count = 1))

/-- A DATA packet: dirty data of a snoop response that came before it, a response to a request, or dirty data whose
response follows (09 R340). -/
def State.siteData (s : State) (n : Nat) (p : SitePkt) : State :=
  let l := s.link n
  match l.dirtyRsp.find? (fun d => d.1 == p.tag) with
  | some d =>
    if p.count ≠ 1 then s.badPkt n (some p.tag)
    else (s.setLink n { l with dirtyRsp := l.dirtyRsp.erase d }).siteSnoopRsp n (d.2 % 256) p.tag (d.2 / 256)
      (some (bit p.poison 0, p.bytes))
  | none =>
    if !s.dirtyPkt n p then s.siteResponse n p
    else s.setLink n { l with dirtyData := l.dirtyData ++ [(p.tag, bit p.poison 0, p.bytes)] }

/-! ### Requests -/

/-- Whether the site port takes a request now (09 R338): not fencing, fewer than 2,048 outstanding, the TAG of a request of the
mesh not in use. -/
def State.siteTakes (s : State) (n cmd tag : Nat) : Bool :=
  decide ((s.qport (16 + n)).fence = 0) && decide (s.siteOut n < 2048)
    && (decide (2 < cmd) || (s.req (16 + n) tag).isNone)

/-- A request enters the site port (09 R343, R344). -/
def State.siteRequest (s : State) (n : Nat) (p : SitePkt) : State :=
  let m : MeshReq := { id := 0x100 + 0x40 * n + p.sub, tag := p.tag, addr := p.addr, len := p.len }
  let ref := some (4096 * p.sub + p.tag)
  if p.cmd = 0x01 then s.request m false [] 0 []
  else if p.cmd = 0x02 then s.request m true p.data p.poison []
  else if p.cmd = 0x18 then s.evictClean n p.addr ref
  else if p.cmd = 0x19 then s.evictDirty n p.addr p.bytes (bit p.poison 0) ref
  else if p.cmd = 0x20 then s.after (execGrantAck n p.addr s)
  else s.cohReq n p.cmd p.addr p.data (bit p.poison 0) ref

end Sys2Proof.Machine
end

