-- ==== Sys2Proof/Machine/Cxl.lean ====
section
/-! DEFINITION. Messages from a chiplet on a CXL link, and what the site adapter does with them (08 R323, R324; 09 R329, R331,
R343-R348). A message comes with the data it carries; that of a DirtyEvict comes after GO_WritePull (log 22). -/

namespace Sys2Proof

/-! ### What a message is -/

/-- Whether a message is one of CXL.cache, of CXL.mem, or of CXL.io. -/
def CxlOp.cache : CxlOp → Bool
  | .rdShared | .rdAny | .rdOwn | .rdOwnNoData | .rdCurr | .wrInv | .woWrInv | .cleanEvict | .cleanEvictNoData | .dirtyEvict
  | .rspIHitI | .rspIFwdM | .rspSHitSE | .rspSFwdM | .rspVHitV | .rspVFwdV | .hostData => true
  | _ => false
def CxlOp.mem : CxlOp → Bool
  | .memRd | .memRdData | .memInv | .memWr | .memWrPtl | .memClnEvct | .biRspI | .biRspS | .biRspE | .biConflict => true
  | _ => false

/-- The identity of a message below the site's (09 R343). -/
def CxlMsg.subId (m : CxlMsg) : Nat := if m.op.cache then 0x10 + m.sub % 16 else if m.op.mem then 0x20 else m.sub % 8

/-- Its identity and tag as one number. -/
def CxlMsg.ref (m : CxlMsg) : Nat := 4096 * m.subId + m.tag % 4096

/-- Whether a message agrees with the link's role and with 09 R331: CXL.cache in role C with a CacheID to 15, CXL.mem in role
M, functions to 7, the BI-ID of a response 0. -/
def CxlMsg.fits (m : CxlMsg) (roleM : Bool) : Bool :=
  if m.op.cache then !roleM && decide (m.sub < 16)
  else if m.op.mem then roleM && decide (m.biId = 0)
  else decide (m.sub < 8)

/-- What a message asks of the home (08 R323), by its code of 08 R301; none where its MetaField breaks 09 R331, or it writes a
line in a way that does not go with the line's state in the chiplet: a line not held by a non-cacheable write, a line held by a
write-back, which keeps it in S or A only ahead of a snoop response (`snooped`). -/
def CxlMsg.code (m : CxlMsg) (held snooped : Bool) : Option Nat :=
  match m.op with
  | .memRd => if m.noOp then some 0x14 else if m.mval = 3 then some 0x10 else if m.mval = 2 then some 0x12 else none
  | .memRdData => some 0x11
  | .memInv => if !m.noOp && decide (m.mval = 2) then some 0x13 else none
  | .memWr => if !held then (if m.noOp then some 0x15 else none)
    else if !m.noOp && (decide (m.mval = 0) || (snooped && decide (m.mval = 2 ∨ m.mval = 3))) then some 0x19 else none
  | .memWrPtl => if !held && m.noOp then some 0x15 else none
  | .memClnEvct => some 0x18
  | .rdShared => some 0x10
  | .rdAny => some 0x11
  | .rdOwn => some 0x12
  | .rdOwnNoData => some 0x13
  | .rdCurr => some 0x14
  | .wrInv => some 0x15
  | .woWrInv => some 0x15
  | .cleanEvict => some 0x18
  | .cleanEvictNoData => some 0x18
  | .dirtyEvict => some 0x19
  | _ => none

/-- Answer to a snoop: 0 I, 1 S, 2 E, and whether dirty data comes with it (08 R323). -/
def CxlOp.snoopRsp : CxlOp → Option (Nat × Bool)
  | .biRspI => some (0, false)
  | .biRspS => some (1, false)
  | .biRspE => some (2, false)
  | .rspIHitI => some (0, false)
  | .rspIFwdM => some (0, true)
  | .rspSHitSE => some (1, false)
  | .rspSFwdM => some (1, true)
  | .rspVHitV => some (2, false)
  | .rspVFwdV => some (2, true)
  | _ => none

/-- Whether a message is a request of the chiplet. -/
def CxlOp.request (o : CxlOp) : Bool :=
  o == .ioRead || o == .ioWrite || ((o.cache || o.mem) && o.snoopRsp.isNone && o != .hostData && o != .biConflict)

end Sys2Proof

namespace Sys2Proof.Machine

/-! ### The adapter -/

/-- The line a message names (09 R344, R345). -/
def State.cxlLine (s : State) (n addr : Nat) : Option Nat :=
  match (s.translate (s.plotOfSite n) addr false).map target with
  | some (.mem off) => some (off / 64)
  | _ => none

/-- A malformed message (09 R331, R348); a request is answered as one that ends with ERR_TARGET is. -/
def State.cxlBad (s : State) (n : Nat) (m : CxlMsg) : State :=
  let s1 := s.badPkt n none
  if m.op = .ioRead ∨ m.op = .ioWrite then
    s1.siteSend n { cmd := 0x80, rsp := true, id := 0x100 + 0x40 * n + m.subId, tag := m.tag % 4096, status := stTarget }
  else if m.op.request then
    let write := decide (m.op = .memWr ∨ m.op = .memWrPtl ∨ m.op = .wrInv ∨ m.op = .woWrInv ∨ m.op = .dirtyEvict)
    s1.cohRefuse n m.addr stTarget (!write) m.ref
  else s1

/-- The transaction that a site's answer to a snoop ends its wait for. -/
def State.snoopOf (s : State) (n line : Nat) : Option HTxn :=
  (s.htxn line).filter (fun t => decide (t.phase = .snoop) && t.pend.any (fun w => w.agent == n && w.resp.isNone))

/-- Whether the adapter holds an eviction of a line (08 R324). -/
def State.evicts (s : State) (n line : Nat) : Bool := (s.link n).evicting.any (fun e => s.cxlLine n e.addr == some line)

/-- Whether a request must wait behind the adapter's eviction of its line, or behind one that does, or the port does not take
it. -/
def State.cxlWaits (s : State) (n cmd : Nat) (m : CxlMsg) : Bool :=
  !s.siteTakes n cmd m.tag || (match s.cxlLine n m.addr with
    | some l => s.evicts n l || (s.link n).behind.any (fun x => s.cxlLine n x.addr == some l)
    | none => false)

/-- A write-back of a held line: dirty data for a snoop on its way (MemWr ahead of the response), else an eviction that the
adapter sends to the home; that of CXL.cache gives its data after GO_WritePull, which the adapter answers itself (08 R323,
R324). -/
def State.cxlWriteBack (s : State) (n : Nat) (m : CxlMsg) : State :=
  let l := s.link n
  let bad := decide (m.poison ≠ 0)
  if m.op = .dirtyEvict then
    (s.setLink n { l with evicting := l.evicting ++ [{ addr := m.addr, ref := m.ref, pulled := true, data := none }] }).siteSend n
      { cmd := 0x61, id := 0x100 + 0x40 * n + m.subId, tag := m.tag % 4096, addr := m.addr }
  else match (s.cxlLine n m.addr).bind (s.snoopOf n) with
    | some t =>
      (s.setLink n { l with dirtyData := l.dirtyData ++ [(t.txn, bad, m.data)] }).siteSend n
        { cmd := 0x81, rsp := true, id := 0x100 + 0x40 * n + m.subId, tag := m.tag % 4096 }
    | none => s.setLink n { l with evicting := l.evicting ++ [{ addr := m.addr, ref := m.ref, data := some (bad, m.data) }] }

/-- A request that waits for nothing (09 R343, R344). -/
def State.cxlRequest (s : State) (n code : Nat) (m : CxlMsg) : State :=
  let q : MeshReq := { id := 0x100 + 0x40 * n + m.subId, tag := m.tag % 4096, addr := m.addr, len := m.len }
  if code = 0x01 then s.request q false [] 0 []
  else if code = 0x02 then s.request q true m.data m.poison []
  else if code = 0x18 then s.evictClean n m.addr (some m.ref)
  else if code = 0x19 then s.cxlWriteBack n m
  else s.cohReq n code m.addr (m.data.take m.len) (decide (m.poison ≠ 0)) (some m.ref)

/-- The code of a request: CXL.io reads and writes memory, and so does a non-cacheable write of CXL.mem to an alias (09 R331); the
others are those of 08 R323. -/
def State.cxlCode (s : State) (n : Nat) (m : CxlMsg) : Option Nat :=
  let shape := decide (0 < m.len) && decide ((linesOf m.addr m.len).length ≤ 8) && decide (m.addr % 4096 + m.len ≤ 4096)
  let held := match s.cxlLine n m.addr with
    | some l => s.holds n l && !s.evicts n l
    | none => false
  if m.op = .ioRead then if shape then some 0x01 else none
  else if m.op = .ioWrite then if shape then some 0x02 else none
  else
    let c := m.code held (match s.cxlLine n m.addr with
      | some l => (s.snoopOf n l).isSome
      | none => false)
    match c, m.op.mem, (s.translate (s.plotOfSite n) m.addr true).map target with
    | some 0x15, true, some (.red _ _) => if shape then some 0x02 else none
    | c, _, _ => c

/-- The answer of a chiplet to a snoop, with its dirty data: RSP_I_WBP takes the place of an invalid one where an eviction of
the line is outstanding (08 R324). -/
def State.cxlSnoopRsp (s : State) (n k : Nat) (dirty : Bool) (m : CxlMsg) : State :=
  match s.cxlLine n m.addr with
  | none => s.badPkt n none
  | some line => match s.snoopOf n line with
    | none => if bit s.coh.up n then s.protoErr n line (0x38 + k) else s
    | some t =>
      if k = 0 ∧ s.evicts n line then s.after (execRspIWbp n line t.txn s)
      else
        let l := s.link n
        let first := l.dirtyData.find? (fun d => d.1 == t.txn)
        let data := match first with
          | some d => some d.2
          | none => if dirty then some (decide (m.poison ≠ 0), m.data) else none
        let s1 := s.setLink n { l with dirtyData := l.dirtyData.filter (fun d => d.1 != t.txn) }
        s1.snoopResp n line t.txn k (0x38 + k) (data.map Prod.snd) ((data.map Prod.fst).getD false)

/-- A completion of CXL.io for a request of the hub (09 R346): EP gives poison, UR and CA ERR_TARGET. -/
def State.cxlCpl (s : State) (n : Nat) (m : CxlMsg) : State :=
  match s.mesh.reqs.find? (fun r => reqToSite n r && r.tag == m.tag) with
  | none => s.count .SITE_LATE_COUNT n 0 32 1
  | some r =>
    if m.status ≠ 0 then s.respond (r.answer stTarget [] 0)
    else
      let bad := if r.write then 0 else m.poison % 2 ^ (linesOf r.pa r.len).length
      s.respond (r.answer (if bad = 0 then stOk else stPoison) (if r.write then [] else slice m.data 0 r.len) bad)

/-- A message of a chiplet on a CXL link. An access to I/O space and an AtomicOp are completed with UR (09 R329). -/
def State.cxlIn (s : State) (n : Nat) (m : CxlMsg) : State :=
  if !s.linkUp n then s
  else if !m.fits (decide (s.f .SITE_STATUS_PROFILE_ACT n = 2)) ∨ m.op = .other then s.cxlBad n m
  else if m.op = .ioIoSpace ∨ m.op = .ioAtomic then
    s.siteSend n { cmd := 0x80, rsp := true, id := 0x100 + 0x40 * n + m.subId, tag := m.tag % 4096, status := stUnmapped }
  else if m.op = .ioError then s
  else if m.op = .ioCpl then s.cxlCpl n m
  else if m.op = .biConflict then s.siteSend n { cmd := 0x60, id := 0x100 + 0x40 * n + 0x20, tag := m.tag % 4096, addr := m.addr }
  else if m.op = .hostData then
    let l := s.link n
    s.setLink n { l with evicting := l.evicting.map (fun e =>
      if e.addr / 64 = m.addr / 64 ∧ e.data.isNone then { e with data := some (decide (m.poison ≠ 0), m.data) } else e) }
  else match m.op.snoopRsp with
    | some (k, d) => s.cxlSnoopRsp n k d m
    | none => match s.cxlCode n m with
      | none => s.cxlBad n m
      | some c =>
        if s.cxlWaits n c m then s.setLink n { s.link n with behind := (s.link n).behind ++ [m] }
        else s.cxlRequest n c m

/-- The adapter's evictions whose data is there reach the home (08 R324). -/
def State.evictsOut (s : State) (n : Nat) : State :=
  if !s.agentHeard n then s
  else
    let l := s.link n
    let go := l.evicting.filter (fun e => e.data.isSome)
    go.foldl (fun s e => s.evictDirty n e.addr ((e.data.map Prod.snd).getD []) ((e.data.map Prod.fst).getD false) (some e.ref)
      e.pulled)
      (s.setLink n { l with evicting := l.evicting.filter (fun e => e.data.isNone) })

/-- Requests that waited come in, in order, as far as each may now (08 R324; 09 R338). -/
def State.behindIn (s : State) (n : Nat) : State :=
  let l := s.link n
  l.behind.foldl (fun s m => s.cxlIn n m) (s.setLink n { l with behind := [] })

end Sys2Proof.Machine
end

