-- ==== Sys2Proof/Machine/Bludric.lean ====
section
/-! DEFINITION. Flits received from a chiplet: CRC, sequence, acknowledgement and replay, credits, the slots of a Bludric flit
(09 R332-R338, R348). -/

namespace Sys2Proof.Machine

/-! ### Packets of a Bludric link -/

/-- The hub has freed units of a receive buffer; their credits go back with the next flits (09 R337). -/
def State.owe (s : State) (n vc units : Nat) : State :=
  let l := s.link n
  s.setLink n { l with owed := l.owed.set vc (l.owed.getD vc 0 + units) }

/-- Takes the requests that wait at a site port, in order, as far as it takes them. -/
def State.takeReqs (n : Nat) : List (BitVec 512 × List (BitVec 512)) → State → State
  | [], s => s
  | x :: t, s =>
    let p := sitePkt x.1 x.2
    if !s.linkUp n then s
    else if s.siteTakes n p.cmd p.tag then
      let s1 := s.setLink n { s.link n with waiting := t }
      State.takeReqs n t ((s1.owe n 0 (1 + x.2.length)).siteRequest n p)
    else s

/-- The requests that wait at a site port. -/
def State.siteWaiting (s : State) (n : Nat) : State := State.takeReqs n (s.link n).waiting s

/-- Units of the hub's REQ buffer in use: 512 of a site (09 R337). -/
def SLink.reqUnits (l : SLink) : Nat := (l.waiting.map (fun x => 1 + x.2.length)).sum

/-- The tag that a header unit carries (09 R348). -/
def reqTag (h : BitVec 512) : Option Nat := some (bits h.toNat 59 48)

/-- A whole packet from a chiplet (09 R337, R338, R348): requests go through the port's buffer, in order. One that finds no
room there has gone out without a credit, and counts as malformed (DESIGN CHOICE, log 100). -/
def State.pktIn (s : State) (n : Nat) (h : BitVec 512) (units : List (BitVec 512)) : State :=
  let p := sitePkt h units
  let vc := if p.cmd = 0x80 ∧ s.dirtyPkt n p then 3 else vcIn p.cmd
  let free (s : State) : State := s.owe n vc (1 + units.length)
  if !p.wellFormed then (free s).badPkt n (reqTag h)
  else if vc = 0 then
    if 512 < (s.link n).reqUnits + 1 + units.length then (free s).badPkt n (reqTag h)
    else (s.setLink n { s.link n with waiting := (s.link n).waiting ++ [(h, units)] }).siteWaiting n
  else if p.cmd = 0x80 then (free s).siteData n p
  else if p.cmd = 0x81 then (free s).siteResponse n p
  else if p.cmd = 0x41 then (free s).after (execSiteDrainDone n (free s))
  else (free s).siteSnoopMsg n p

/-- One slot of a flit, by its SLOT_MAP code (09 R335, R336): a header begins a packet, data units continue it without a
gap. -/
def State.slotIn (n : Nat) (x : Nat × BitVec 512) (s : State) : State :=
  let l := s.link n
  if !s.linkUp n then s
  else if x.1 = 2 then match l.hdr with
    | none => s.badPkt n none
    | some h =>
      if l.units.length + 1 = bits h.toNat 33 30 then
        (s.setLink n { l with hdr := none, units := [] }).pktIn n h (l.units ++ [x.2])
      else s.setLink n { l with units := l.units ++ [x.2] }
  else
    let s1 := match l.hdr with
      | none => s
      | some h => ((s.setLink n { l with hdr := none, units := [] }).owe n (vcIn (sitePkt h []).cmd)
        (1 + l.units.length)).badPkt n (reqTag h)
    if x.1 = 1 then
      if bits x.2.toNat 33 30 = 0 then s1.pktIn n x.2 []
      else s1.setLink n { s1.link n with hdr := some x.2, units := [] }
    else if x.1 = 3 then s1.badPkt n none
    else s1

/-! ### The stream -/

/-- SEQ of a flit, as it arrived. -/
def flitSeq : SiteFlit → Nat
  | .bludric b => leAt b 0 2
  | .cxl seq _ _ _ _ => seq % 65536

/-- Whether a flit passes the check of its CRC (09 R333, R335). -/
def flitGood : SiteFlit → Bool
  | .bludric b => b.length == 272 && leAt b 264 8 == crc64 (b.take 264)
  | .cxl _ _ ok _ _ => ok

/-- The chiplet has received every flit up to `g`: those leave the replay buffer. -/
def State.linkAck (s : State) (n g : Nat) : State :=
  let l := s.link n
  let k := (g + 65537 - l.acked) % 65536
  if k = 0 ∨ l.sent.length < k then s
  else s.setLink n { l with acked := (g + 1) % 65536, sent := l.sent.drop k, replays := 0 }

/-- Flits were replayed: by the hub, or by the chiplet as far as the hub sees it, the flit that failed (09 R373, R374). -/
def State.replayed (s : State) (n k : Nat) : State :=
  (s.count .SITE_REPLAYS_COUNT n 0 32 k).raiseLimited 10000 0x5030 sevCorrected 5 n [n]

/-- Sends the flits of the replay buffer again, on the modules that are active (09 R333). -/
def State.replayAll (s : State) (n : Nat) : State :=
  let (sent, s1) := (s.link n).sent.foldl (fun (a : List (Nat × FlitBody) × State) e =>
    let (k, s') := a.2.deal n (s.linkSlots n) e.2
    (a.1 ++ [(k, e.2)], s')) ([], s)
  s1.setLink n { s1.link n with sent := sent }

/-- A NAK: the flits after the last good one are replayed; the eighth replay in a row of one flit drops the link
(09 R333). -/
def State.linkNak (s : State) (n : Nat) : State :=
  let l := s.link n
  let k := l.sent.length
  if k = 0 then s
  else
    let times := if l.replayAt = l.acked then l.replays + 1 else 1
    let s2 := (s.replayed n k).setLink n { l with replayAt := l.acked, replays := times }
    if 8 ≤ times then s2.linkDown n 5 else s2.replayAll n

/-- A request of the hub that has not entered the site window by the teardown of its plot: ERR_SCRUB (09 R349). -/
def State.heldScrub (s : State) (n : Nat) (m : SiteMsg) : State :=
  match s.mesh.reqs.find? (fun r => reqToSite n r && r.tag == m.tag && r.id == m.id) with
  | some r => s.respond (r.answer stScrub [] 0)
  | none => s

/-- Messages that waited go out in order, as far as the link takes them (09 R337, R338). -/
def State.heldOut (s : State) (n : Nat) : State :=
  let l := s.link n
  l.held.foldl (fun s m => if (m.cmd = 1 ∨ m.cmd = 2) ∧ s.siteScrubs n then s.heldScrub n m else s.siteSend n m)
    (s.setLink n { l with held := [] })

/-- Credits come back. -/
def State.linkCredit (s : State) (n vc units : Nat) : State :=
  let l := s.link n
  s.setLink n { l with credits := l.credits.set vc (l.credits.getD vc 0 + units) }

/-- What a flit acknowledges and returns takes effect, and messages that waited for it leave. -/
def State.flitReturns (s : State) (n ack : Nat) (nak : Bool) (vc units : Nat) : State :=
  let s1 := s.linkAck n ack
  let s2 := if nak then s1.linkNak n else s1
  if s2.linkUp n then (s2.linkCredit n vc units).heldOut n else s2

/-- A flit in stream order is acknowledged, and its parts take effect. -/
def State.flitTake (s : State) (n : Nat) (f : SiteFlit) : State :=
  let l := s.link n
  let s0 := if l.rxBad then s.replayed n 1 else s
  let s1 := s0.setLink n { l with rxNext := (l.rxNext + 1) % 65536, rxBad := false, rxFails := 0, oweAck := true }
  match f with
  | .bludric b =>
    let flags := leAt b 5 1
    let s2 := s1.flitReturns n (leAt b 2 2) (bit flags 0) (bits flags 3 2) (leAt b 6 2)
    ((List.range 4).map (fun i => (leAt b 4 1 / 4 ^ i % 4, BitVec.ofNat 512 (leAt b (8 + 64 * i) 64)))).foldl
      (fun s x => State.slotIn n x s) s2
  | .cxl _ ack _ nak msgs => msgs.foldl (fun s m => s.cxlIn n m) (s1.flitReturns n ack nak 0 0)

/-- Flits that came ahead of the expected one follow it in stream order (09 R332). -/
def State.flitsAhead (n : Nat) : Nat → State → State
  | 0, s => s
  | k + 1, s =>
    let l := s.link n
    match l.ahead.find? (fun f => f.1 == l.rxNext) with
    | some f =>
      if s.linkUp n then State.flitsAhead n k ((s.setLink n { l with ahead := l.ahead.erase f }).flitTake n f.2) else s
    | none => s

/-- A flit whose CRC fails: it and the later ones are discarded, and a NAK names the last good one; a flit that fails
eight replays in a row drops the link (09 R333). Its SEQ is what the flit shows (log 100). -/
def State.flitBad (s : State) (n seq : Nat) : State :=
  let l := s.link n
  let again := l.rxBad && seq == l.rxNext
  if l.rxBad ∧ !again then s
  else
    let fails := if again then l.rxFails + 1 else 0
    let s0 := if again then s.replayed n 1 else s
    let s1 := s0.setLink n { l with rxBad := true, rxFails := fails, ahead := [], oweNak := true }
    if 8 ≤ fails then s1.linkDown n 5 else s1

/-- Acknowledgements, NAKs and credits that no other flit has carried leave in flits of their own (09 R333, R335, R337). -/
def State.linkControl (s : State) (n : Nat) : State :=
  let l := s.link n
  let bl := decide (s.f .SITE_STATUS_PROFILE_ACT n = 3)
  let due := if bl then (List.range 4).filter (fun v => decide (l.owed.getD v 0 ≠ 0)) else []
  if !s.linkUp n ∨ 1024 < l.sent.length + max due.length 1 ∨ (due = [] ∧ !l.oweAck ∧ !l.oweNak) then s
  else
    let s1 := s.setLink n { l with owed := [0, 0, 0, 0], oweNak := false }
    if !bl then s1.flitOut n (fun q a => .cxl q a l.oweNak none)
    else if due = [] then s1.flitOut n (fun q a => .bludric (flitBytes q a 0 (b2n l.oweNak) 0 []))
    else due.zipIdx.foldl (fun s x => s.flitOut n (fun q a =>
      .bludric (flitBytes q a 0 (b2n (l.oweNak && x.2 == 0) + 4 * x.1) (l.owed.getD x.1 0) []))) s1

/-- A flit of a site: checked, put in stream order, acknowledged and unpacked. -/
def State.flitIn (s : State) (n : Nat) (f : SiteFlit) : State :=
  let l := s.link n
  let seq := flitSeq f
  if !flitGood f then s.flitBad n seq
  else if seq = l.rxNext then State.flitsAhead n 1024 (s.flitTake n f)
  else if l.rxBad then s
  else if 1024 ≤ (seq + 65536 - l.rxNext) % 65536 then s.setLink n { l with oweAck := true }
  else if l.ahead.any (fun x => x.1 == seq) then s
  else s.setLink n { l with ahead := l.ahead ++ [(seq, f)] }

/-- Whether a flit is one of the link's profile. -/
def State.flitFits (s : State) (n : Nat) : SiteFlit → Bool
  | .bludric _ => s.f .SITE_STATUS_PROFILE_ACT n == 3
  | .cxl .. => s.f .SITE_STATUS_PROFILE_ACT n != 3

/-- BLUDRIC_FLIT (09 R333). -/
def execBludricFlit (n : Nat) (f : SiteFlit) (s : State) : Res :=
  .next (if 8 ≤ n ∨ !s.linkUp n ∨ !s.flitFits n f then s else (s.flitIn n f).linkControl n)

/-- What a site does of itself (08 R324; 09 R333, R337, R338, R368): SITEn_RST_N is released when it is due; evictions and requests that waited go on, messages,
acknowledgements and credits leave. -/
def State.siteTick (s : State) (n : Nat) : State :=
  if !s.linkUp n then s.siteReleaseDue n (fun t => decide (t ≤ s.now))
  else
    let s1 := ((s.evictsOut n).behindIn n).siteWaiting n
    if s1.linkUp n then (s1.heldOut n).linkControl n else s1

end Sys2Proof.Machine
end

