-- ==== Sys2Proof/Machine/Dispatch.lean ====
section
/-! DEFINITION. One arm per command: each calls its meaning. -/

namespace Sys2Proof.Machine

/-- The effect of a command on everything but the queue. -/
def exec (i : Instr) (s : State) : Host.Outcome State Fault Refusal :=
  match i with
  | .porstNLow ns => Sys2Proof.Machine.execPorstNLow ns s
  | .porstNRelease strapEth => Sys2Proof.Machine.execPorstNRelease strapEth s
  | .wholeReset => Sys2Proof.Machine.execWholeReset s
  | .glbResetReq m v => Sys2Proof.Machine.execGlbResetReq m v s
  | .umPublished => Sys2Proof.Machine.execUmPublished s
  | .registerWrite m addr len v => Sys2Proof.Machine.execRegisterWrite m addr len v s
  | .readClear m addr len => Sys2Proof.Machine.execReadClear m addr len s
  | .clkDomCfgWrite m d v => Sys2Proof.Machine.execClkDomCfgWrite m d v s
  | .pllLock d => Sys2Proof.Machine.execPllLock d s
  | .clkRelease m v => Sys2Proof.Machine.execClkRelease m v s
  | .startupTestDone d r => Sys2Proof.Machine.execStartupTestDone d r s
  | .clkRefLost => Sys2Proof.Machine.execClkRefLost s
  | .clkUnlock d => Sys2Proof.Machine.execClkUnlock d s
  | .ccSramCorr => Sys2Proof.Machine.execCcSramCorr s
  | .ccSramFatal => Sys2Proof.Machine.execCcSramFatal s
  | .ccWdtKick m v => Sys2Proof.Machine.execCcWdtKick m v s
  | .ccWatchdog => Sys2Proof.Machine.execCcWatchdog s
  | .ccReady m v => Sys2Proof.Machine.execCcReady m v s
  | .ccBootFail => Sys2Proof.Machine.execCcBootFail s
  | .trainDone failedChannels driftStacks => Sys2Proof.Machine.execTrainDone failedChannels driftStacks s
  | .recUpdated => Sys2Proof.Machine.execRecUpdated s
  | .memInitStart m v => Sys2Proof.Machine.execMemInitStart m v s
  | .memInitDone => Sys2Proof.Machine.execMemInitDone s
  | .engFault e cause frontEnd => Sys2Proof.Machine.execEngFault e cause frontEnd s
  | .engineFallow m v => Sys2Proof.Machine.execEngineFallow m v s
  | .engineWake m v => Sys2Proof.Machine.execEngineWake m v s
  | .ceDrainLimitExpiry e => Sys2Proof.Machine.execCeDrainLimitExpiry e s
  | .fenceComplete port => Sys2Proof.Machine.execFenceComplete port s
  | .wakeTestDone e r => Sys2Proof.Machine.execWakeTestDone e r s
  | .siteFallow m v => Sys2Proof.Machine.execSiteFallow m v s
  | .siteWake m v => Sys2Proof.Machine.execSiteWake m v s
  | .siteDrainDone n => Sys2Proof.Machine.execSiteDrainDone n s
  | .siteDrainLimitExpiry n => Sys2Proof.Machine.execSiteDrainLimitExpiry n s
  | .ceWqTail m e q v => Sys2Proof.Machine.execCeWqTail m e q v s
  | .ceCqHead m e q v => Sys2Proof.Machine.execCeCqHead m e q v s
  | .queueEnable m e q v => Sys2Proof.Machine.execQueueEnable m e q v s
  | .queueDisable m e q v => Sys2Proof.Machine.execQueueDisable m e q v s
  | .resume m e q v => Sys2Proof.Machine.execResume m e q v s
  | .ceLpsData m e w => Sys2Proof.Machine.execCeLpsData m e w s
  | .nop e q => Sys2Proof.Machine.execNop e q s
  | .wait e q => Sys2Proof.Machine.execWait e q s
  | .waitTimeout e q => Sys2Proof.Machine.execWaitTimeout e q s
  | .signal e q => Sys2Proof.Machine.execSignal e q s
  | .matmul e q cols tm => Sys2Proof.Machine.execMatmul e q cols tm s
  | .matmulAcc e q cols tm => Sys2Proof.Machine.execMatmulAcc e q cols tm s
  | .conv e q cols tm => Sys2Proof.Machine.execConv e q cols tm s
  | .lane e q tm => Sys2Proof.Machine.execLane e q tm s
  | .reduce e q tm => Sys2Proof.Machine.execReduce e q tm s
  | .copy e q site tm => Sys2Proof.Machine.execCopy e q site tm s
  | .convert e q site tm => Sys2Proof.Machine.execConvert e q site tm s
  | .transpose e q tm => Sys2Proof.Machine.execTranspose e q tm s
  | .gather e q tm => Sys2Proof.Machine.execGather e q tm s
  | .scatter e q tm => Sys2Proof.Machine.execScatter e q tm s
  | .prefetchLlc e q => Sys2Proof.Machine.execPrefetchLlc e q s
  | .writeback e q => Sys2Proof.Machine.execWriteback e q s
  | .workOrderComplete e q => Sys2Proof.Machine.execWorkOrderComplete e q s
  | .laneStepLimit e u => Sys2Proof.Machine.execLaneStepLimit e u s
  | .laneNop e u => Sys2Proof.Machine.execLaneNop e u s
  | .fadd e u => Sys2Proof.Machine.execFadd e u s
  | .fsub e u => Sys2Proof.Machine.execFsub e u s
  | .fmul e u => Sys2Proof.Machine.execFmul e u s
  | .ffma e u => Sys2Proof.Machine.execFfma e u s
  | .fmin e u => Sys2Proof.Machine.execFmin e u s
  | .fmax e u => Sys2Proof.Machine.execFmax e u s
  | .fcmp e u => Sys2Proof.Machine.execFcmp e u s
  | .hadd e u => Sys2Proof.Machine.execHadd e u s
  | .hmul e u => Sys2Proof.Machine.execHmul e u s
  | .hfma e u => Sys2Proof.Machine.execHfma e u s
  | .iadd e u => Sys2Proof.Machine.execIadd e u s
  | .isub e u => Sys2Proof.Machine.execIsub e u s
  | .imul e u => Sys2Proof.Machine.execImul e u s
  | .iadds e u => Sys2Proof.Machine.execIadds e u s
  | .isubs e u => Sys2Proof.Machine.execIsubs e u s
  | .and e u => Sys2Proof.Machine.execAnd e u s
  | .or e u => Sys2Proof.Machine.execOr e u s
  | .xor e u => Sys2Proof.Machine.execXor e u s
  | .shl e u => Sys2Proof.Machine.execShl e u s
  | .shr e u => Sys2Proof.Machine.execShr e u s
  | .sra e u => Sys2Proof.Machine.execSra e u s
  | .icmp e u => Sys2Proof.Machine.execIcmp e u s
  | .cvt e u => Sys2Proof.Machine.execCvt e u s
  | .rcp e u => Sys2Proof.Machine.execRcp e u s
  | .rsqrt e u => Sys2Proof.Machine.execRsqrt e u s
  | .sqrt e u => Sys2Proof.Machine.execSqrt e u s
  | .exp2 e u => Sys2Proof.Machine.execExp2 e u s
  | .log2 e u => Sys2Proof.Machine.execLog2 e u s
  | .movi e u => Sys2Proof.Machine.execMovi e u s
  | .movs e u => Sys2Proof.Machine.execMovs e u s
  | .laneid e u => Sys2Proof.Machine.execLaneid e u s
  | .sel e u => Sys2Proof.Machine.execSel e u s
  | .ld e u => Sys2Proof.Machine.execLd e u s
  | .st e u => Sys2Proof.Machine.execSt e u s
  | .ldx e u => Sys2Proof.Machine.execLdx e u s
  | .stx e u => Sys2Proof.Machine.execStx e u s
  | .red e u => Sys2Proof.Machine.execRed e u s
  | .sadd e u => Sys2Proof.Machine.execSadd e u s
  | .ssub e u => Sys2Proof.Machine.execSsub e u s
  | .smul e u => Sys2Proof.Machine.execSmul e u s
  | .sand e u => Sys2Proof.Machine.execSand e u s
  | .sor e u => Sys2Proof.Machine.execSor e u s
  | .sxor e u => Sys2Proof.Machine.execSxor e u s
  | .sshl e u => Sys2Proof.Machine.execSshl e u s
  | .sshr e u => Sys2Proof.Machine.execSshr e u s
  | .ssra e u => Sys2Proof.Machine.execSsra e u s
  | .saddi e u => Sys2Proof.Machine.execSaddi e u s
  | .sshli e u => Sys2Proof.Machine.execSshli e u s
  | .sshri e u => Sys2Proof.Machine.execSshri e u s
  | .slui e u => Sys2Proof.Machine.execSlui e u s
  | .scmp e u => Sys2Proof.Machine.execScmp e u s
  | .sfmin e u => Sys2Proof.Machine.execSfmin e u s
  | .sfmax e u => Sys2Proof.Machine.execSfmax e u s
  | .sfcmp e u => Sys2Proof.Machine.execSfcmp e u s
  | .sld e u => Sys2Proof.Machine.execSld e u s
  | .sst e u => Sys2Proof.Machine.execSst e u s
  | .sldm e u site => Sys2Proof.Machine.execSldm e u site s
  | .sstm e u => Sys2Proof.Machine.execSstm e u s
  | .scpyin e u site => Sys2Proof.Machine.execScpyin e u site s
  | .scpyout e u => Sys2Proof.Machine.execScpyout e u s
  | .sfence e u => Sys2Proof.Machine.execSfence e u s
  | .br e u => Sys2Proof.Machine.execBr e u s
  | .jmp e u => Sys2Proof.Machine.execJmp e u s
  | .brany e u => Sys2Proof.Machine.execBrany e u s
  | .brall e u => Sys2Proof.Machine.execBrall e u s
  | .endStream e u => Sys2Proof.Machine.execEndStream e u s
  | .tallySignal m t v => Sys2Proof.Machine.execTallySignal m t v s
  | .tallyValue m t v => Sys2Proof.Machine.execTallyValue m t v s
  | .read r errs => Sys2Proof.Machine.execRead r errs s
  | .write r data poison errs => Sys2Proof.Machine.execWrite r data poison errs s
  | .uncorrIntervalEnd n => Sys2Proof.Machine.execUncorrIntervalEnd n s
  | .combWindowClose n line => Sys2Proof.Machine.execCombWindowClose n line s
  | .trackerGrant n => Sys2Proof.Machine.execTrackerGrant n s
  | .refresh n ch bank => Sys2Proof.Machine.execRefresh n ch bank s
  | .memTempReading n q2 => Sys2Proof.Machine.execMemTempReading n q2 s
  | .patrolRead n line errs => Sys2Proof.Machine.execPatrolRead n line errs s
  | .postPackageRepair ch bank row errs => Sys2Proof.Machine.execPostPackageRepair ch bank row errs s
  | .memChFail ch cause => Sys2Proof.Machine.execMemChFail ch cause s
  | .memSiteFatal n => Sys2Proof.Machine.execMemSiteFatal n s
  | .meshLinkRetry plane link again => Sys2Proof.Machine.execMeshLinkRetry plane link again s
  | .meshPlaneFail plane => Sys2Proof.Machine.execMeshPlaneFail plane s
  | .meshRouterFatal planes packet => Sys2Proof.Machine.execMeshRouterFatal planes packet s
  | .meshTimeout port tag => Sys2Proof.Machine.execMeshTimeout port tag s
  | .dataResponse port tag site => Sys2Proof.Machine.execDataResponse port tag site s
  | .completionResponse port tag => Sys2Proof.Machine.execCompletionResponse port tag s
  | .urgencyAge port tag => Sys2Proof.Machine.execUrgencyAge port tag s
  | .qosWindowEnd => Sys2Proof.Machine.execQosWindowEnd s
  | .qosCommitGo m v => Sys2Proof.Machine.execQosCommitGo m v s
  | .rdShared a addr => Sys2Proof.Machine.execRdShared a addr s
  | .rdAny a addr => Sys2Proof.Machine.execRdAny a addr s
  | .rdOwn a addr => Sys2Proof.Machine.execRdOwn a addr s
  | .rdOwnNodata a addr => Sys2Proof.Machine.execRdOwnNodata a addr s
  | .rdCurr a addr => Sys2Proof.Machine.execRdCurr a addr s
  | .wrInv a addr data poison => Sys2Proof.Machine.execWrInv a addr data poison s
  | .evictClean a addr => Sys2Proof.Machine.execEvictClean a addr s
  | .evictDirty a addr data poison => Sys2Proof.Machine.execEvictDirty a addr data poison s
  | .grantAck a addr => Sys2Proof.Machine.execGrantAck a addr s
  | .rspI a line txn dirty => Sys2Proof.Machine.execRspI a line txn dirty s
  | .rspS a line txn dirty => Sys2Proof.Machine.execRspS a line txn dirty s
  | .rspE a line txn dirty => Sys2Proof.Machine.execRspE a line txn dirty s
  | .rspIWbp a line txn => Sys2Proof.Machine.execRspIWbp a line txn s
  | .rspLost a line txn => Sys2Proof.Machine.execRspLost a line txn s
  | .snpInv a line txn => Sys2Proof.Machine.execSnpInv a line txn s
  | .snpData a line txn => Sys2Proof.Machine.execSnpData a line txn s
  | .snpCur a line txn => Sys2Proof.Machine.execSnpCur a line txn s
  | .homeTransactionStart line => Sys2Proof.Machine.execHomeTransactionStart line s
  | .sfAllocRetry line => Sys2Proof.Machine.execSfAllocRetry line s
  | .snoopTimeout line => Sys2Proof.Machine.execSnoopTimeout line s
  | .cohRingReplay ring => Sys2Proof.Machine.execCohRingReplay ring s
  | .cohRingFatal ring => Sys2Proof.Machine.execCohRingFatal ring s
  | .cohSfFatal n uncorrectable => Sys2Proof.Machine.execCohSfFatal n uncorrectable s
  | .bludricFlit n f => Sys2Proof.Machine.execBludricFlit n f s
  | .creditStall n => Sys2Proof.Machine.execCreditStall n s
  | .siteTraining n p => Sys2Proof.Machine.execSiteTraining n p s
  | .siteLinkUp n rate trained => Sys2Proof.Machine.execSiteLinkUp n rate trained s
  | .resetNotice n => Sys2Proof.Machine.execResetNotice n s
  | .siteLinkDown n cause => Sys2Proof.Machine.execSiteLinkDown n cause s
  | .siteLaneRepair n k lane rx => Sys2Proof.Machine.execSiteLaneRepair n k lane rx s
  | .siteUmFail n k => Sys2Proof.Machine.execSiteUmFail n k s
  | .siteRetest m n v => Sys2Proof.Machine.execSiteRetest m n v s
  | .chipletReset m n v => Sys2Proof.Machine.execChipletReset m n v s
  | .chipletResetRelease n => Sys2Proof.Machine.execChipletResetRelease n s
  | .siteRetrain m n v => Sys2Proof.Machine.execSiteRetrain m n v s
  | .ethLinkUp mode lanes => Sys2Proof.Machine.execEthLinkUp mode lanes s
  | .ethLinkDown cause => Sys2Proof.Machine.execEthLinkDown cause s
  | .autonegTimeout => Sys2Proof.Machine.execAutonegTimeout s
  | .ethLaneFail l => Sys2Proof.Machine.execEthLaneFail l s
  | .ethRetrain m v => Sys2Proof.Machine.execEthRetrain m v s
  | .ethModeChange m v => Sys2Proof.Machine.execEthModeChange m v s
  | .frameReceive f => Sys2Proof.Machine.execFrameReceive f s
  | .arpRequest target srcMac srcIp => Sys2Proof.Machine.execArpRequest target srcMac srcIp s
  | .neighborSolicitation target dst srcMac srcIp => Sys2Proof.Machine.execNeighborSolicitation target dst srcMac srcIp s
  | .pfcFrame quanta => Sys2Proof.Machine.execPfcFrame quanta s
  | .pfcPauseExpiry p => Sys2Proof.Machine.execPfcPauseExpiry p s
  | .pfcXoffRepeat p => Sys2Proof.Machine.execPfcXoffRepeat p s
  | .ethPfcStorm p => Sys2Proof.Machine.execEthPfcStorm p s
  | .qpToInit m q v => Sys2Proof.Machine.execQpToInit m q v s
  | .qpToRtr m q v => Sys2Proof.Machine.execQpToRtr m q v s
  | .qpToRts m q v => Sys2Proof.Machine.execQpToRts m q v s
  | .qpToReset m q v => Sys2Proof.Machine.execQpToReset m q v s
  | .qpToError m q v => Sys2Proof.Machine.execQpToError m q v s
  | .ethQpSqTail m q v => Sys2Proof.Machine.execEthQpSqTail m q v s
  | .ethQpRqTail m q v => Sys2Proof.Machine.execEthQpRqTail m q v s
  | .ethQpCqHead m q v => Sys2Proof.Machine.execEthQpCqHead m q v s
  | .wrSend q => Sys2Proof.Machine.execWrSend q s
  | .wrSendImm q => Sys2Proof.Machine.execWrSendImm q s
  | .wrRdmaWrite q => Sys2Proof.Machine.execWrRdmaWrite q s
  | .wrRdmaWriteImm q => Sys2Proof.Machine.execWrRdmaWriteImm q s
  | .wrRdmaRead q => Sys2Proof.Machine.execWrRdmaRead q s
  | .sendPacket q b => Sys2Proof.Machine.execSendPacket q b s
  | .rdmaWritePacket q b => Sys2Proof.Machine.execRdmaWritePacket q b s
  | .rdmaReadRequest q b => Sys2Proof.Machine.execRdmaReadRequest q b s
  | .rdmaReadResponse q b => Sys2Proof.Machine.execRdmaReadResponse q b s
  | .acknowledge q psn a sack => Sys2Proof.Machine.execAcknowledge q psn a sack s
  | .cnp q => Sys2Proof.Machine.execCnp q s
  | .ackTimeout q => Sys2Proof.Machine.execAckTimeout q s
  | .risePeriod => Sys2Proof.Machine.execRisePeriod s
  | .idleReset q => Sys2Proof.Machine.execIdleReset q s
  | .ingestDatagram udpPort srcIp payload => Sys2Proof.Machine.execIngestDatagram udpPort srcIp payload s
  | .slotTimeout k => Sys2Proof.Machine.execSlotTimeout k s
  | .ingestEnable m k v => Sys2Proof.Machine.execIngestEnable m k v s
  | .ingestDisable m k v => Sys2Proof.Machine.execIngestDisable m k v s
  | .neighbourBind m x nbr v => Sys2Proof.Machine.execNeighbourBind m x nbr v s
  | .sheafStart m x v => Sys2Proof.Machine.execSheafStart m x v s
  | .sheafCancel m x v => Sys2Proof.Machine.execSheafCancel m x v s
  | .ready q imm => Sys2Proof.Machine.execReady q imm s
  | .sheafData q imm => Sys2Proof.Machine.execSheafData q imm s
  | .lag q imm => Sys2Proof.Machine.execLag q imm s
  | .abort q imm => Sys2Proof.Machine.execAbort q imm s
  | .progressDeadline x => Sys2Proof.Machine.execProgressDeadline x s
  | .lagRepeat x => Sys2Proof.Machine.execLagRepeat x s
  | .headlandDatagram d => Sys2Proof.Machine.execHeadlandDatagram d s
  | .discover d => Sys2Proof.Machine.execDiscover d s
  | .attest n => Sys2Proof.Machine.execAttest n s
  | .sessionOpen srcIp srcPort tag => Sys2Proof.Machine.execSessionOpen srcIp srcPort tag s
  | .sessionOpenPartsTimeout srcIp srcPort tag => Sys2Proof.Machine.execSessionOpenPartsTimeout srcIp srcPort tag s
  | .sessionClose n => Sys2Proof.Machine.execSessionClose n s
  | .sessionIdleTimeout n => Sys2Proof.Machine.execSessionIdleTimeout n s
  | .sessionUnconfirmedTimeout n => Sys2Proof.Machine.execSessionUnconfirmedTimeout n s
  | .regRead n => Sys2Proof.Machine.execRegRead n s
  | .regWrite n => Sys2Proof.Machine.execRegWrite n s
  | .regPoll n => Sys2Proof.Machine.execRegPoll n s
  | .regPollLimit n => Sys2Proof.Machine.execRegPollLimit n s
  | .memRead n => Sys2Proof.Machine.execMemRead n s
  | .memWrite n => Sys2Proof.Machine.execMemWrite n s
  | .fwLoad n => Sys2Proof.Machine.execFwLoad n s
  | .fwStartRun n => Sys2Proof.Machine.execFwStartRun n s
  | .fwStartVerify n => Sys2Proof.Machine.execFwStartVerify n s
  | .fwStartStage n => Sys2Proof.Machine.execFwStartStage n s
  | .fwStartClear n => Sys2Proof.Machine.execFwStartClear n s
  | .train n => Sys2Proof.Machine.execTrain n s
  | .recordReplay n => Sys2Proof.Machine.execRecordReplay n s
  | .plotCreate n => Sys2Proof.Machine.execPlotCreate n s
  | .plotTeardown n => Sys2Proof.Machine.execPlotTeardown n s
  | .plotScrubbed p => Sys2Proof.Machine.execPlotScrubbed p s
  | .qosCommit n => Sys2Proof.Machine.execQosCommit n s
  | .mboxPost n => Sys2Proof.Machine.execMboxPost n s
  | .mboxTake n => Sys2Proof.Machine.execMboxTake n s
  | .mboxAck n => Sys2Proof.Machine.execMboxAck n s
  | .doorbell m ch v => Sys2Proof.Machine.execDoorbell m ch v s
  | .take m ch v => Sys2Proof.Machine.execTake m ch v s
  | .ack m ch v => Sys2Proof.Machine.execAck m ch v s
  | .clear m ch v => Sys2Proof.Machine.execClear m ch v s
  | .hlMboxBindSrc m v => Sys2Proof.Machine.execHlMboxBindSrc m v s
  | .eventSubscribe n => Sys2Proof.Machine.execEventSubscribe n s
  | .eventSend n => Sys2Proof.Machine.execEventSend n s
  | .claim n => Sys2Proof.Machine.execClaim n s
  | .release n => Sys2Proof.Machine.execRelease n s
  | .heldClaim m k => Sys2Proof.Machine.execHeldClaim m k s
  | .heldRelease m k => Sys2Proof.Machine.execHeldRelease m k s
  | .lock n => Sys2Proof.Machine.execLock n s
  | .unlock n => Sys2Proof.Machine.execUnlock n s
  | .resetDevice n => Sys2Proof.Machine.execResetDevice n s
  | .debugRead n => Sys2Proof.Machine.execDebugRead n s
  | .debugWrite n => Sys2Proof.Machine.execDebugWrite n s
  | .debugHalt n => Sys2Proof.Machine.execDebugHalt n s
  | .debugResume n => Sys2Proof.Machine.execDebugResume n s
  | .debugStep n => Sys2Proof.Machine.execDebugStep n s
  | .secLcReq m v => Sys2Proof.Machine.execSecLcReq m v s
  | .ownerProgram m v => Sys2Proof.Machine.execOwnerProgram m v s
  | .ownerRevoke m v => Sys2Proof.Machine.execOwnerRevoke m v s
  | .fwMinSvnRaise m v => Sys2Proof.Machine.execFwMinSvnRaise m v s
  | .makeCommon m v => Sys2Proof.Machine.execMakeCommon m v s
  | .releaseCommon m v => Sys2Proof.Machine.execReleaseCommon m v s
  | .secRetireProg m v => Sys2Proof.Machine.execSecRetireProg m v s
  | .sbFatal cause => Sys2Proof.Machine.execSbFatal cause s
  | .pmbusPoll readings => Sys2Proof.Machine.execPmbusPoll readings s
  | .pmbAlert words => Sys2Proof.Machine.execPmbAlert words s
  | .pwrRailFault r statusWord => Sys2Proof.Machine.execPwrRailFault r statusWord s
  | .hubSensorReading z readings => Sys2Proof.Machine.execHubSensorReading z readings s
  | .governorTick est => Sys2Proof.Machine.execGovernorTick est s
  | .graceExpiry z => Sys2Proof.Machine.execGraceExpiry z s
  | .capRise z => Sys2Proof.Machine.execCapRise z s
  | .dvfsChangeDone e => Sys2Proof.Machine.execDvfsChangeDone e s
  | .sitePowerAverage n avgW peakW => Sys2Proof.Machine.execSitePowerAverage n avgW peakW s
  | .telSnap m v => Sys2Proof.Machine.execTelSnap m v s
  | .telCoOpen m v => Sys2Proof.Machine.execTelCoOpen m v s
  | .telCoClose m v => Sys2Proof.Machine.execTelCoClose m v s
  | .telCoRegion m nbr v => Sys2Proof.Machine.execTelCoRegion m nbr v s
  | .telExport m v => Sys2Proof.Machine.execTelExport m v s
  | .telExportDone => Sys2Proof.Machine.execTelExportDone s
  | .gleanSample k => Sys2Proof.Machine.execGleanSample k s
  | .gleanEpoch k => Sys2Proof.Machine.execGleanEpoch k s
  | .prbCfg m k v => Sys2Proof.Machine.execPrbCfg m k v s
  | .dbgData m w => Sys2Proof.Machine.execDbgData m w s
  | .atbCfg m j v => Sys2Proof.Machine.execAtbCfg m j v s
  | .extest dr => Sys2Proof.Machine.execExtest dr s
  | .samplePreload dr => Sys2Proof.Machine.execSamplePreload dr s
  | .idcode => Sys2Proof.Machine.execIdcode s
  | .clamp => Sys2Proof.Machine.execClamp s
  | .highz => Sys2Proof.Machine.execHighz s
  | .ijtag => Sys2Proof.Machine.execIjtag s
  | .bypass => Sys2Proof.Machine.execBypass s
  | .debugAccessInstrument dr => Sys2Proof.Machine.execDebugAccessInstrument dr s
  | .trstN => Sys2Proof.Machine.execTrstN s
  | .mgmtWriteIndex bytes => Sys2Proof.Machine.execMgmtWriteIndex bytes s
  | .mgmtRead n => Sys2Proof.Machine.execMgmtRead n s
  | .siteFail n cause => Sys2Proof.Machine.execSiteFail n cause s
  | .channelRetrain ch cleared => Sys2Proof.Machine.execChannelRetrain ch cleared s
  | .telCoState => Sys2Proof.Machine.execTelCoState s
  | .commonRequestDone => Sys2Proof.Machine.execCommonRequestDone s
  | .fuseBlowDone => Sys2Proof.Machine.execFuseBlowDone s
  | .snapCaptureDone => Sys2Proof.Machine.execSnapCaptureDone s
  | .testLogicResetExit => Sys2Proof.Machine.execTestLogicResetExit s
  | .atbNewConnection j => Sys2Proof.Machine.execAtbNewConnection j s
  | .trigOutPulseEnd => Sys2Proof.Machine.execTrigOutPulseEnd s

end Sys2Proof.Machine
end

