-- ==== Sys2Proof/Machine/Tick.lean ====
section
/-! DEFINITION. A microsecond in which no command arrives (DESIGN CHOICE, log 1): time and the cycle counters advance,
and what drains or refills with time does so. -/

namespace Sys2Proof.Machine

/-- The cycle counters of the running domains advance by their frequency in MHz (16 R577). -/
def State.tickDoms (s : State) : State :=
  (List.range 25).foldl (fun s d =>
    let v := s.dom d
    if v.running then s.setDom d { v with cycles := satAdd 64 v.cycles (s.f .CLK_DOM_STATUS_FREQ_ACT d) } else s) s

/-- The bucket of DISCOVER answers refills (12 R447): one answer is 1,000,000 units, and it holds 16. -/
def State.tickBucket (s : State) : State :=
  s.setHl { s.hl with bucket := min 16000000 (s.hl.bucket + s.f .HL_CFG_DISCOVER_RATE) }

/-- The channels carry out what waits for them, writes only in a drain (05 R193, R194). -/
def State.tickChans (s : State) : State := s.chansUntil (fun _ => false)

/-- One microsecond passes. -/
def State.tick (s : State) : State :=
  let s1 := ({ s with now := s.now + 1 }).tickDoms.tickBucket.bufferDrain.txGo
  let s2 := s1.lcTick.tickChans.reclaimsEnd.grantAcks.evictsIn.serveReady
  (List.range 8).foldl State.siteTick s2

end Sys2Proof.Machine
end

