-- ==== Sys2Proof/Machine/Step.lean ====
section
/-! DEFINITION. One step: the command at the front of the queue, or, with none waiting, a command of the hub that may go on
(log 21), or a microsecond (log 1). -/

namespace Sys2Proof.Machine

/-- A waiting command of a unit of the hub goes on (log 21). -/
def goOn (p : Parked) (s : State) : Host.Outcome State Fault Refusal :=
  match exec p.cmd (s.resuming p) with
  | .next t => .next t.parkDone
  | r => r

/-- One step of the block. -/
def step (s : State) : Host.Outcome State Fault Refusal :=
  match s.pending with
  | c :: rest => exec c { s with pending := rest }
  | [] => match s.resumable with
    | some p => goOn p s
    | none => .next s.tick

/-- A state with the command a word spells put at the front of its queue. -/
def State.withFetchWord (s : State) (nbits w : Nat) : State :=
  match decodeTableWord nbits w with
  | some c => { s with pending := c :: s.pending }
  | none => s

end Sys2Proof.Machine
end

