-- ==== Sys2Proof/Safety.lean ====
section
/-! DEFINITION. What claims are stated in: outcomes that go on, the canonical form of the stores, invariants, and the
conditions under which a command has its effect. -/

namespace Sys2Proof.Machine

/-- A step that ends in a next state. -/
def goesOn (o : Res) : Bool := match o with
  | .next _ => true
  | _ => false

/-- The canonical form of stacked memory and its poison marks: line and byte addresses strictly rising, no byte at zero,
no mark at false. -/
def Memory.wf (m : Mem) : Bool :=
  Tbl.wf natLt (fun _ => (0 : Byte)) m.cells && Tbl.wf natLt (fun _ => false) m.poison

/-- Memory and the register store are in canonical form. -/
def State.Canonical (s : State) : Prop := Memory.wf s.mem = true ∧ Tbl.wf fkLt fkReset s.flds = true

/-- DEGRADED is set only for a unit that is PRESENT (01 R30). -/
def State.DegOk (s : State) : Prop := ∀ c n, (s.unit c n).deg = true → (s.unit c n).st = some .present

/-- A write of an instance of a register that meets none of the refusals of 00 R629 orders 1 to 7: the address lies in
the control space and names the register, and the field is not fixed. `off` is the register's offset in the control space. -/
def State.lets (s : State) (m : Master) (r : Reg) (i j off v : Nat) : Prop :=
  regAddr r i j = some (ctlBase + off) ∧ ctlOff (ctlBase + off) = some off ∧ off % 8 = 0 ∧ locate off = some (r, i, j)
    ∧ isDebug m = false ∧ s.writeRefusal m r i j off v = none ∧ s.fixed r i j off v = false

/-- A master's access reaches the control space: the master is there and is let through, a plane is up and no window makes it
wait. `q` is its request and `s` the state once that has left the port (01 R47; 07 R263, R268, R281, R282). -/
def State.sends (s0 : State) (m : Master) (off len : Nat) (write : Bool) (q : UnitReq) (s : State) : Prop :=
  s0.masterLive m = true ∧ s0.ctlGate m write = none
    ∧ s0.unitIssue { id := meshId m, plot := s0.plotOfMaster (meshId m) } (ctlBase + off) len write = (q, s)
    ∧ s.windowed = false ∧ q.plane ≠ 4

/-- The end of a register access with a status and a word: its response reaches the port (07 R262) and its master (00 R629). -/
def State.told (s : State) (q : UnitReq) (m : Master) (st v : Nat) : State :=
  (s.unitDone q (if st = hOk then stOk else stTarget) []).accessEnd m st v

/-- The state after a register write with a status, and the end of the Headland where the write was a life-cycle transition
(13 R480). -/
def State.wrote (s : State) (q : UnitReq) (m : Master) (st : Nat) : State := (s.told q m st 0).lcSettle

/-- A command of a unit of the hub as it runs: it may wait where a home has something to wait for (log 21). -/
def State.arm (s : State) : State := { s with coh := { s.coh with canPark := !s.homesIdle } }

/-- No earlier command of a unit waits at a home, so the next one may run (08 R310, log 21). -/
def State.unheld (s : State) (key : ParkKey) : Prop := s.coh.resuming = none ∧ ∀ p, p ∈ s.coh.parked → p.key ≠ key.no

/-- What a command of a unit that may run comes to: state `t`, or, where an access meets a line that it must wait for, the
command waits and has had no effect yet (08 R310, R311; 05 R204; log 21). -/
def State.orPark (s : State) (c : Instr) (key : ParkKey) (t : State) : State :=
  if s.homesIdle ∨ t.coh.stall = [] then t.cohClear else (s.issuedOf t).park c key.no t.coh.stall t.coh.spent

/-- A command `c` of a unit completes with state `t` where no home has anything to wait for; where one has, it comes to `t` or
waits there, as command `p`. -/
def State.comes (s : State) (c p : Instr) (key : ParkKey) (t : State) : Prop :=
  (s.homesIdle = true → exec c s = .next t.cohClear) ∧ exec c s = .next (s.orPark p key t)

/-- As `comes`, where no earlier command of its unit waits at a home. -/
def State.comesTo (s : State) (c : Instr) (key : ParkKey) (t : State) : Prop := s.unheld key → s.comes c c key t

/-- A lane row finds its instruction: unit `u` of engine `e` runs stream `t`, which has not ended or used its step limit,
the engine executes, and the instruction at its PC is `i`, of the row's opcode and legal there (04 R158-R164). -/
def State.atLane (s : State) (e u opc : Nat) (t : Stream) (i : Ins) : Prop :=
  s.stream e u = some t ∧ t.ended = false ∧ t.spent = false ∧ s.laneRuns e u = true
    ∧ i = Ins.parse (NTbl.at 0 (s.eng e).lps t.pc) ∧ i.legal = true ∧ (t.scalar && i.vectorOnly) = false ∧ i.op = opc

/-- What a lane row outside tile memory and main memory leaves as it was: everything but its engine's runs and streams,
the count of lane instructions, and the counter of free values. -/
def State.laneLeaves (s s1 : State) (e : Nat) : Prop :=
  s1.mem = s.mem ∧ s1.mesh = s.mesh ∧ s1.coh = s.coh ∧ s1.hl = s.hl ∧ s1.units = s.units ∧ s1.doms = s.doms
    ∧ s1.sec = s.sec ∧ s1.links = s.links ∧ s1.eth = s.eth ∧ s1.waits = s.waits ∧ s1.out = s.out
    ∧ (∀ k, k ≠ e → s1.eng k = s.eng k) ∧ (s1.eng e).tile = (s.eng e).tile ∧ (s1.eng e).lps = (s.eng e).lps
    ∧ (s1.eng e).tpois = (s.eng e).tpois ∧ (s1.eng e).acc = (s.eng e).acc
    ∧ ∀ f i j, f ≠ .CE_LANE_ISSUE_COUNT → s1.f f i j = s.f f i j

/-- The stream after a lane row: one instruction executed, at the next PC. -/
def Stream.stepped (t t1 : Stream) : Prop := t1.pc = t.pc + 1 ∧ t1.steps = t.steps + 1

/-- No scalar unit serves a LANE order (03 R116). -/
def State.unitsIdle (s : State) (e : Nat) : Bool := (s.eng e).streams.all (fun x => match x.2 with
  | some t => t.ended
  | none => true)

/-- The state in which an order acts: a claim has taken the scalar units (03 R116). -/
def State.starts (s : State) (e q : Nat) (w : Wo) : State := if w.claims then s.claimTake e q else s

/-- The next order of a queue may start: the engine and the queue are open, the order has been fetched, waiting at no home,
is the one of the row and passes the checks of 04 R146, its turn has come, its resources are free and, where it claims the
scalar units, none serves a LANE order (03 R116, 04 R135-R142). -/
def State.mayStart (s : State) (e q opc : Nat) (w : Wo) (s1 : State) : Prop :=
  s.engRuns e = true ∧ s.queueOpen e q = true
    ∧ (∃ f, s.fetchOrder e q = (f, w, s1) ∧ f.status = stOk) ∧ s1.coh.stall = [] ∧ w.op = opc
    ∧ s.queueTurn e q w = true ∧ s.resFree e w = true ∧ s.outranked e q w = false ∧ (w.claims = true → s1.unitsIdle e = true)
    ∧ s1.woCheck e w = none

/-- A started order before its opcode acts. -/
def State.freshRun (s : State) (e q : Nat) (w : Wo) : Run :=
  { q := q, idx := s.qhead e q, op := w.op, order := w.raw, res := w.resources, done := true, start := (s.dom e).cycles }

/-- The command at NEXT of session `n` may execute: it carries the opcode and the payload, and nothing of 12 R449-R461
refuses it. -/
def State.commands (s : State) (n op : Nat) (b : Bytes) (c : HCmd) : Prop :=
  s.hlNext n = some c ∧ c.opcode = op ∧ c.payload = b ∧ s.hlRefusal n c = none

end Sys2Proof.Machine
end

