-- ==== Sys2Proof/WellFormed.lean ====
section
/-! DEFINITION. Which operands a command can carry: numbers of units, sessions, queues and lines that the module has,
fields that fit their widths. The meanings do not rest on it: a command that names what the module does not have leaves
the state as it is. -/

namespace Sys2Proof

/-- A session of the sixteen (12 R443), or an identity that fits the ten bits of 01 R47. -/
def wfMaster : Master → Bool
  | .session n => decide (n < 16)
  | .onModule id => decide (id < 1024)

/-- At most 64 arrays, and the ways of a slice (03 R122, 14 R519). -/
def wfFound (r : TestFound) : Bool := decide (r.cols.length ≤ 64) && decide (r.ways ≤ 16)

/-- A request's fields fit its header (07 R260), and it addresses 1 to 512 bytes. -/
def wfReq (r : MeshReq) : Bool :=
  decide (r.id < 1024) && decide (r.tag < 4096) && decide (r.addr < 2 ^ 52) && decide (0 < r.len) && decide (r.len ≤ 512)

/-- A CXL message's fields fit (09 R331, R343): an address of 52 bits, a line or a register access, a tag of 12 bits. -/
def wfCxl (m : CxlMsg) : Bool :=
  decide (m.addr < 2 ^ 52) && decide (m.len ≤ 4096) && decide (m.tag < 4096) && decide (m.mval < 4)

/-- A Bludric flit has 272 bytes (09 R335); the places a CXL flit names are of 16 bits (log 22). -/
def wfFlit : SiteFlit → Bool
  | .bludric b => decide (b.length = 272)
  | .cxl seq ack _ _ msgs => decide (seq < 65536) && decide (ack < 65536) && msgs.all wfCxl

/-- An error of tile memory names a byte of it, one of an accumulator a tile (03 R110). -/
def wfTm (l : List TmErr) : Bool := l.all (fun x => decide (x.addr < 0x3000000))

/-- A proposal speaks of four credits and six modules of 64 lanes (09 R337, R350). -/
def wfParam (p : SiteParam) : Bool :=
  decide (p.credits.length = 4) && decide (p.widths.length = 6) && p.widths.all (fun w => decide (w < 4))
    && decide (p.txLanes.length = 6) && decide (p.rxLanes.length = 6)
    && (p.txLanes ++ p.rxLanes ++ p.testTx ++ p.testRx).all (fun l => l.all (fun x => decide (x < 64)))
    && p.testWidths.all (fun w => decide (w < 4))

/-- Addresses are of 48 bits, and a frame has at least its header and check sequence (10 R376, R384). -/
def wfFrame (f : Frame) : Bool := decide (f.dstMac < 2 ^ 48) && decide (f.srcMac < 2 ^ 48) && decide (18 ≤ f.len)
  && decide (f.corr.length ≤ 8) && f.corr.all (fun n => decide (n < 2 ^ 32))

/-- A PSN has 24 bits, a key and a length 32, an address 64 (10 R391, R394). -/
def wfBth (b : Bth) : Bool :=
  decide (b.psn < 2 ^ 24) && decide (b.va < 2 ^ 64) && decide (b.rkey < 2 ^ 32) && decide (b.dmaLen < 2 ^ 32)

/-- Addresses and ports fit their headers (12 R443, R448). -/
def wfDatagram (d : Datagram) : Bool :=
  decide (d.srcIp < 2 ^ 128) && decide (d.dstIp < 2 ^ 128) && decide (d.srcPort < 65536) && decide (d.srcMac < 2 ^ 48)

/-- Dirty data is a whole line (08 R299). -/
def wfDirty : Option Bytes → Bool
  | some d => decide (d.length = 64)
  | none => true

/-- Whether a command's operands name what the module has. -/
def Instr.wf (i : Instr) : Bool :=
  match i with
  | .porstNLow _ => true
  | .porstNRelease strapEth => decide (strapEth < 8)
  | .wholeReset => true
  | .glbResetReq m _ => wfMaster m
  | .umPublished => true
  | .registerWrite m addr _ _ => wfMaster m && decide (addr < 2 ^ 52)
  | .readClear m addr _ => wfMaster m && decide (addr < 2 ^ 52)
  | .clkDomCfgWrite m d _ => wfMaster m && decide (d < 25)
  | .pllLock d => decide (d < 25)
  | .clkRelease m _ => wfMaster m
  | .startupTestDone d r => decide (d < 25) && wfFound r
  | .clkRefLost => true
  | .clkUnlock d => decide (d < 25)
  | .ccSramCorr => true
  | .ccSramFatal => true
  | .ccWdtKick m _ => wfMaster m
  | .ccWatchdog => true
  | .ccReady m _ => wfMaster m
  | .ccBootFail => true
  | .trainDone _ driftStacks => decide (driftStacks < 256)
  | .recUpdated => true
  | .memInitStart m _ => wfMaster m
  | .memInitDone => true
  | .engFault e cause _ => decide (e < 8) && decide (cause < 4)
  | .engineFallow m _ => wfMaster m
  | .engineWake m _ => wfMaster m
  | .ceDrainLimitExpiry e => decide (e < 8)
  | .fenceComplete port => decide (port < 30)
  | .wakeTestDone e r => decide (e < 8) && wfFound r
  | .siteFallow m _ => wfMaster m
  | .siteWake m _ => wfMaster m
  | .siteDrainDone n => decide (n < 8)
  | .siteDrainLimitExpiry n => decide (n < 8)
  | .ceWqTail m e q _ => wfMaster m && decide (e < 8) && decide (q < 16)
  | .ceCqHead m e q _ => wfMaster m && decide (e < 8) && decide (q < 16)
  | .queueEnable m e q _ => wfMaster m && decide (e < 8) && decide (q < 16)
  | .queueDisable m e q _ => wfMaster m && decide (e < 8) && decide (q < 16)
  | .resume m e q _ => wfMaster m && decide (e < 8) && decide (q < 16)
  | .ceLpsData m e _ => wfMaster m && decide (e < 8)
  | .nop e q => decide (e < 8) && decide (q < 16)
  | .wait e q => decide (e < 8) && decide (q < 16)
  | .waitTimeout e q => decide (e < 8) && decide (q < 16)
  | .signal e q => decide (e < 8) && decide (q < 16)
  | .matmul e q _ tm => decide (e < 8) && decide (q < 16) && wfTm tm
  | .matmulAcc e q _ tm => decide (e < 8) && decide (q < 16) && wfTm tm
  | .conv e q _ tm => decide (e < 8) && decide (q < 16) && wfTm tm
  | .lane e q tm => decide (e < 8) && decide (q < 16) && wfTm tm
  | .reduce e q tm => decide (e < 8) && decide (q < 16) && wfTm tm
  | .copy e q _ tm => decide (e < 8) && decide (q < 16) && wfTm tm
  | .convert e q _ tm => decide (e < 8) && decide (q < 16) && wfTm tm
  | .transpose e q tm => decide (e < 8) && decide (q < 16) && wfTm tm
  | .gather e q tm => decide (e < 8) && decide (q < 16) && wfTm tm
  | .scatter e q tm => decide (e < 8) && decide (q < 16) && wfTm tm
  | .prefetchLlc e q => decide (e < 8) && decide (q < 16)
  | .writeback e q => decide (e < 8) && decide (q < 16)
  | .workOrderComplete e q => decide (e < 8) && decide (q < 16)
  | .laneStepLimit e u => decide (e < 8) && decide (u < 64)
  | .laneNop e u => decide (e < 8) && decide (u < 64)
  | .fadd e u => decide (e < 8) && decide (u < 64)
  | .fsub e u => decide (e < 8) && decide (u < 64)
  | .fmul e u => decide (e < 8) && decide (u < 64)
  | .ffma e u => decide (e < 8) && decide (u < 64)
  | .fmin e u => decide (e < 8) && decide (u < 64)
  | .fmax e u => decide (e < 8) && decide (u < 64)
  | .fcmp e u => decide (e < 8) && decide (u < 64)
  | .hadd e u => decide (e < 8) && decide (u < 64)
  | .hmul e u => decide (e < 8) && decide (u < 64)
  | .hfma e u => decide (e < 8) && decide (u < 64)
  | .iadd e u => decide (e < 8) && decide (u < 64)
  | .isub e u => decide (e < 8) && decide (u < 64)
  | .imul e u => decide (e < 8) && decide (u < 64)
  | .iadds e u => decide (e < 8) && decide (u < 64)
  | .isubs e u => decide (e < 8) && decide (u < 64)
  | .and e u => decide (e < 8) && decide (u < 64)
  | .or e u => decide (e < 8) && decide (u < 64)
  | .xor e u => decide (e < 8) && decide (u < 64)
  | .shl e u => decide (e < 8) && decide (u < 64)
  | .shr e u => decide (e < 8) && decide (u < 64)
  | .sra e u => decide (e < 8) && decide (u < 64)
  | .icmp e u => decide (e < 8) && decide (u < 64)
  | .cvt e u => decide (e < 8) && decide (u < 64)
  | .rcp e u => decide (e < 8) && decide (u < 64)
  | .rsqrt e u => decide (e < 8) && decide (u < 64)
  | .sqrt e u => decide (e < 8) && decide (u < 64)
  | .exp2 e u => decide (e < 8) && decide (u < 64)
  | .log2 e u => decide (e < 8) && decide (u < 64)
  | .movi e u => decide (e < 8) && decide (u < 64)
  | .movs e u => decide (e < 8) && decide (u < 64)
  | .laneid e u => decide (e < 8) && decide (u < 64)
  | .sel e u => decide (e < 8) && decide (u < 64)
  | .ld e u => decide (e < 8) && decide (u < 64)
  | .st e u => decide (e < 8) && decide (u < 64)
  | .ldx e u => decide (e < 8) && decide (u < 64)
  | .stx e u => decide (e < 8) && decide (u < 64)
  | .red e u => decide (e < 8) && decide (u < 64)
  | .sadd e u => decide (e < 8) && decide (u < 64)
  | .ssub e u => decide (e < 8) && decide (u < 64)
  | .smul e u => decide (e < 8) && decide (u < 64)
  | .sand e u => decide (e < 8) && decide (u < 64)
  | .sor e u => decide (e < 8) && decide (u < 64)
  | .sxor e u => decide (e < 8) && decide (u < 64)
  | .sshl e u => decide (e < 8) && decide (u < 64)
  | .sshr e u => decide (e < 8) && decide (u < 64)
  | .ssra e u => decide (e < 8) && decide (u < 64)
  | .saddi e u => decide (e < 8) && decide (u < 64)
  | .sshli e u => decide (e < 8) && decide (u < 64)
  | .sshri e u => decide (e < 8) && decide (u < 64)
  | .slui e u => decide (e < 8) && decide (u < 64)
  | .scmp e u => decide (e < 8) && decide (u < 64)
  | .sfmin e u => decide (e < 8) && decide (u < 64)
  | .sfmax e u => decide (e < 8) && decide (u < 64)
  | .sfcmp e u => decide (e < 8) && decide (u < 64)
  | .sld e u => decide (e < 8) && decide (u < 64)
  | .sst e u => decide (e < 8) && decide (u < 64)
  | .sldm e u _ => decide (e < 8) && decide (u < 64)
  | .sstm e u => decide (e < 8) && decide (u < 64)
  | .scpyin e u _ => decide (e < 8) && decide (u < 64)
  | .scpyout e u => decide (e < 8) && decide (u < 64)
  | .sfence e u => decide (e < 8) && decide (u < 64)
  | .br e u => decide (e < 8) && decide (u < 64)
  | .jmp e u => decide (e < 8) && decide (u < 64)
  | .brany e u => decide (e < 8) && decide (u < 64)
  | .brall e u => decide (e < 8) && decide (u < 64)
  | .endStream e u => decide (e < 8) && decide (u < 64)
  | .tallySignal m t _ => wfMaster m && decide (t < 4096)
  | .tallyValue m t _ => wfMaster m && decide (t < 4096)
  | .read r _ => wfReq r
  | .write r _ _ _ => wfReq r
  | .uncorrIntervalEnd n => decide (n < 8)
  | .combWindowClose n line => decide (n < 8) && decide (line < 2 ^ 33)
  | .trackerGrant n => decide (n < 8)
  | .refresh n ch _ => decide (n < 8) && decide (ch < 32)
  | .memTempReading n _ => decide (n < 8)
  | .patrolRead n line _ => decide (n < 8) && decide (line < 2 ^ 33)
  | .postPackageRepair ch _ _ _ => decide (ch < 256)
  | .memChFail ch cause => decide (ch < 256) && decide (cause < 4)
  | .memSiteFatal n => decide (n < 8)
  | .meshLinkRetry plane link _ => decide (plane < 4) && decide (link < 65536)
  | .meshPlaneFail plane => decide (plane < 4)
  | .meshRouterFatal planes _ => decide (planes < 16)
  | .meshTimeout port tag => decide (port < 30) && decide (tag < 4096)
  | .dataResponse port tag _ => decide (port < 30) && decide (tag < 4096)
  | .completionResponse port tag => decide (port < 30) && decide (tag < 4096)
  | .urgencyAge port tag => decide (port < 30) && decide (tag < 4096)
  | .qosWindowEnd => true
  | .qosCommitGo m _ => wfMaster m
  | .rdShared a addr => decide (a < 9) && decide (addr < 2 ^ 52)
  | .rdAny a addr => decide (a < 9) && decide (addr < 2 ^ 52)
  | .rdOwn a addr => decide (a < 9) && decide (addr < 2 ^ 52)
  | .rdOwnNodata a addr => decide (a < 9) && decide (addr < 2 ^ 52)
  | .rdCurr a addr => decide (a < 9) && decide (addr < 2 ^ 52)
  | .wrInv a addr data _ => decide (a < 9) && decide (addr < 2 ^ 52) && decide (0 < data.length) && decide (addr % 64 + data.length ≤ 64)
  | .evictClean a addr => decide (a < 9) && decide (addr < 2 ^ 52)
  | .evictDirty a addr data _ => decide (a < 9) && decide (addr < 2 ^ 52) && decide (data.length = 64)
  | .grantAck a addr => decide (a < 9) && decide (addr < 2 ^ 52)
  | .rspI a line txn dirty => decide (a < 9) && decide (line < 2 ^ 33) && decide (txn < 4096) && wfDirty dirty
  | .rspS a line txn dirty => decide (a < 9) && decide (line < 2 ^ 33) && decide (txn < 4096) && wfDirty dirty
  | .rspE a line txn dirty => decide (a < 9) && decide (line < 2 ^ 33) && decide (txn < 4096) && wfDirty dirty
  | .rspIWbp a line txn => decide (a < 9) && decide (line < 2 ^ 33) && decide (txn < 4096)
  | .rspLost a line txn => decide (a < 9) && decide (line < 2 ^ 33) && decide (txn < 4096)
  | .snpInv a line txn => decide (a < 9) && decide (line < 2 ^ 33) && decide (txn < 4096)
  | .snpData a line txn => decide (a < 9) && decide (line < 2 ^ 33) && decide (txn < 4096)
  | .snpCur a line txn => decide (a < 9) && decide (line < 2 ^ 33) && decide (txn < 4096)
  | .homeTransactionStart line => decide (line < 2 ^ 33)
  | .sfAllocRetry line => decide (line < 2 ^ 33)
  | .snoopTimeout line => decide (line < 2 ^ 33)
  | .cohRingReplay ring => decide (ring < 2)
  | .cohRingFatal ring => decide (ring < 2)
  | .cohSfFatal n _ => decide (n < 8)
  | .bludricFlit n f => decide (n < 8) && wfFlit f
  | .creditStall n => decide (n < 8)
  | .siteTraining n p => decide (n < 8) && wfParam p
  | .siteLinkUp n rate trained => decide (n < 8) && decide (rate < 6) && decide (trained < 64)
  | .resetNotice n => decide (n < 8)
  | .siteLinkDown n cause => decide (n < 8) && decide (cause < 12)
  | .siteLaneRepair n k l _ => decide (n < 8) && decide (k < 6) && decide (l < 64)
  | .siteUmFail n k => decide (n < 8) && decide (k < 6)
  | .siteRetest m n _ => wfMaster m && decide (n < 8)
  | .chipletReset m n _ => wfMaster m && decide (n < 8)
  | .chipletResetRelease n => decide (n < 8)
  | .siteRetrain m n _ => wfMaster m && decide (n < 8)
  | .ethLinkUp mode lanes => decide (mode < 7) && decide (lanes < 256)
  | .ethLinkDown cause => decide (cause < 256)
  | .autonegTimeout => true
  | .ethLaneFail l => decide (l < 8)
  | .ethRetrain m _ => wfMaster m
  | .ethModeChange m _ => wfMaster m
  | .frameReceive f => wfFrame f
  | .arpRequest target srcMac srcIp => decide (target < 2 ^ 128) && decide (srcMac < 2 ^ 48) && decide (srcIp < 2 ^ 128)
  | .neighborSolicitation target dst srcMac srcIp => decide (target < 2 ^ 128) && decide (dst < 2 ^ 128) && decide (srcMac < 2 ^ 48) && decide (srcIp < 2 ^ 128)
  | .pfcFrame _ => true
  | .pfcPauseExpiry p => decide (p < 8)
  | .pfcXoffRepeat p => decide (p < 8)
  | .ethPfcStorm p => decide (p < 8)
  | .qpToInit m q _ => wfMaster m && decide (q < 8192)
  | .qpToRtr m q _ => wfMaster m && decide (q < 8192)
  | .qpToRts m q _ => wfMaster m && decide (q < 8192)
  | .qpToReset m q _ => wfMaster m && decide (q < 8192)
  | .qpToError m q _ => wfMaster m && decide (q < 8192)
  | .ethQpSqTail m q _ => wfMaster m && decide (q < 8192)
  | .ethQpRqTail m q _ => wfMaster m && decide (q < 8192)
  | .ethQpCqHead m q _ => wfMaster m && decide (q < 8192)
  | .wrSend q => decide (q < 8192)
  | .wrSendImm q => decide (q < 8192)
  | .wrRdmaWrite q => decide (q < 8192)
  | .wrRdmaWriteImm q => decide (q < 8192)
  | .wrRdmaRead q => decide (q < 8192)
  | .sendPacket q b => decide (q < 8192) && wfBth b
  | .rdmaWritePacket q b => decide (q < 8192) && wfBth b
  | .rdmaReadRequest q b => decide (q < 8192) && wfBth b
  | .rdmaReadResponse q b => decide (q < 8192) && wfBth b
  | .acknowledge q psn _ _ => decide (q < 8192) && decide (psn < 2 ^ 24)
  | .cnp q => decide (q < 8192)
  | .ackTimeout q => decide (q < 8192)
  | .risePeriod => true
  | .idleReset q => decide (q < 8192)
  | .ingestDatagram udpPort srcIp _ => decide (udpPort < 65536) && decide (srcIp < 2 ^ 128)
  | .slotTimeout k => decide (k < 64)
  | .ingestEnable m k _ => wfMaster m && decide (k < 64)
  | .ingestDisable m k _ => wfMaster m && decide (k < 64)
  | .neighbourBind m x i _ => wfMaster m && decide (x < 16) && decide (i < 9)
  | .sheafStart m x _ => wfMaster m && decide (x < 16)
  | .sheafCancel m x _ => wfMaster m && decide (x < 16)
  | .ready q _ => decide (q < 8192)
  | .sheafData q _ => decide (q < 8192)
  | .lag q _ => decide (q < 8192)
  | .abort q _ => decide (q < 8192)
  | .progressDeadline x => decide (x < 16)
  | .lagRepeat x => decide (x < 16)
  | .headlandDatagram d => wfDatagram d
  | .discover d => wfDatagram d
  | .attest n => decide (n < 16)
  | .sessionOpen srcIp srcPort tag => decide (srcIp < 2 ^ 128) && decide (srcPort < 65536) && decide (tag < 65536)
  | .sessionOpenPartsTimeout srcIp srcPort tag => decide (srcIp < 2 ^ 128) && decide (srcPort < 65536) && decide (tag < 65536)
  | .sessionClose n => decide (n < 16)
  | .sessionIdleTimeout n => decide (n < 16)
  | .sessionUnconfirmedTimeout n => decide (n < 16)
  | .regRead n => decide (n < 16)
  | .regWrite n => decide (n < 16)
  | .regPoll n => decide (n < 16)
  | .regPollLimit n => decide (n < 16)
  | .memRead n => decide (n < 16)
  | .memWrite n => decide (n < 16)
  | .fwLoad n => decide (n < 16)
  | .fwStartRun n => decide (n < 16)
  | .fwStartVerify n => decide (n < 16)
  | .fwStartStage n => decide (n < 16)
  | .fwStartClear n => decide (n < 16)
  | .train n => decide (n < 16)
  | .recordReplay n => decide (n < 16)
  | .plotCreate n => decide (n < 16)
  | .plotTeardown n => decide (n < 16)
  | .plotScrubbed p => decide (p < 8)
  | .qosCommit n => decide (n < 16)
  | .mboxPost n => decide (n < 16)
  | .mboxTake n => decide (n < 16)
  | .mboxAck n => decide (n < 16)
  | .doorbell m ch _ => wfMaster m && decide (ch < 64)
  | .take m ch _ => wfMaster m && decide (ch < 64)
  | .ack m ch _ => wfMaster m && decide (ch < 64)
  | .clear m ch _ => wfMaster m && decide (ch < 64)
  | .hlMboxBindSrc m _ => wfMaster m
  | .eventSubscribe n => decide (n < 16)
  | .eventSend n => decide (n < 16)
  | .claim n => decide (n < 16)
  | .release n => decide (n < 16)
  | .heldClaim m k => wfMaster m && decide (k < 16)
  | .heldRelease m k => wfMaster m && decide (k < 16)
  | .lock n => decide (n < 16)
  | .unlock n => decide (n < 16)
  | .resetDevice n => decide (n < 16)
  | .debugRead n => decide (n < 16)
  | .debugWrite n => decide (n < 16)
  | .debugHalt n => decide (n < 16)
  | .debugResume n => decide (n < 16)
  | .debugStep n => decide (n < 16)
  | .secLcReq m _ => wfMaster m
  | .ownerProgram m _ => wfMaster m
  | .ownerRevoke m _ => wfMaster m
  | .fwMinSvnRaise m _ => wfMaster m
  | .makeCommon m _ => wfMaster m
  | .releaseCommon m _ => wfMaster m
  | .secRetireProg m _ => wfMaster m
  | .sbFatal cause => decide (cause < 256)
  | .pmbusPoll _ => true
  | .pmbAlert _ => true
  | .pwrRailFault r statusWord => decide (r < 32) && decide (statusWord < 65536)
  | .hubSensorReading z l => decide (z < 8) && l.length == 12
  | .governorTick l => l.length == 25
  | .graceExpiry z => decide (z < 8)
  | .capRise z => decide (z < 8)
  | .dvfsChangeDone e => decide (e < 8)
  | .sitePowerAverage n _ _ => decide (n < 8)
  | .telSnap m _ => wfMaster m
  | .telCoOpen m _ => wfMaster m
  | .telCoClose m _ => wfMaster m
  | .telCoRegion m i _ => wfMaster m && decide (i < 4)
  | .telExport m _ => wfMaster m
  | .telExportDone => true
  | .gleanSample k => decide (k < 64)
  | .gleanEpoch k => decide (k < 64)
  | .prbCfg m k _ => wfMaster m && decide (k < 16)
  | .dbgData m _ => wfMaster m
  | .atbCfg m j _ => wfMaster m && decide (j < 2)
  | .extest _ => true
  | .samplePreload _ => true
  | .idcode => true
  | .clamp => true
  | .highz => true
  | .ijtag => true
  | .bypass => true
  | .debugAccessInstrument _ => true
  | .trstN => true
  | .mgmtWriteIndex _ => true
  | .mgmtRead _ => true
  | .siteFail n cause => decide (n < 8) && decide (cause < 256)
  | .channelRetrain ch _ => decide (ch < 256)
  | .telCoState => true
  | .commonRequestDone => true
  | .fuseBlowDone => true
  | .snapCaptureDone => true
  | .testLogicResetExit => true
  | .atbNewConnection j => decide (j < 2)
  | .trigOutPulseEnd => true

end Sys2Proof
end

