-- ==== Sys2Proof/Certificates/Slice0/Obligations.lean ====
section
/-! DEFINITION. The statements about the block. Rule numbers are those of spec/. -/

open Sys2Proof Sys2Proof.Machine

/-! ### The queue, the tick, reset, invariants -/

/-- The block takes the command at the front of its queue and runs it with the queue's rest (log 1); on an empty queue a
command of a unit of the hub that has waited at a home goes on, once what it waits for is there (log 21). -/
def Obligations.StepRunsFront : Prop :=
  (∀ (s : State) (c : Instr) (rest : List Instr), s.pending = c :: rest →
    Sys2Proof.Machine.step s = exec c { s with pending := rest })
  ∧ (∀ (s t : State) (p : Parked), s.pending = [] → s.resumable = some p → exec p.cmd (s.resuming p) = .next t →
    Sys2Proof.Machine.step s = .next t.parkDone)

/-- Nothing in the block waits for time to pass: no frame, no command of a channel, no transaction, no request, no reclaim of a
home, no eviction, no fuse blow, no reset of a chiplet to release, and no link that could send. -/
def Sys2Proof.Machine.State.quiet (s : State) : Prop :=
  s.eth.xoff = 0 ∧ s.eth.txq = [] ∧ (∀ x, x ∈ s.mem.sched → x.2.queue = []) ∧ s.coh.txns = [] ∧ s.coh.reclaim = []
    ∧ s.mesh.reqs = [] ∧ s.coh.evWait = [] ∧ s.lcJob = none ∧ ∀ n, n < 8 → s.linkUp n = false ∧ (s.link n).recalling = false
      ∧ (s.link n).releaseAt = none ∧ (s.link n).acks = []

/-- The model's choice (log 1): on an empty queue, with no command that could go on, the step is one microsecond: time moves
on, the receive buffer drains; where nothing in the block waits for time to pass, every running domain counts the cycles of
its frequency and the bucket of DISCOVER answers refills, and memory, units, engines, the fuses, the registers, the log and
the queue stay as they are. -/
def Obligations.IdleStepIsTick : Prop :=
  ∀ (s : State), s.pending = [] → s.resumable = none →
    ∃ t, Sys2Proof.Machine.step s = .next t ∧ t.now = s.now + 1 ∧ t.pending = []
    ∧ t.eth.occ = [] ∧ t.eth.xoff = 0
    ∧ (s.quiet →
      t.units = s.units ∧ t.aon = s.aon ∧ t.fuses = s.fuses ∧ t.mem.cells = s.mem.cells ∧ t.mem.poison = s.mem.poison
      ∧ t.engs = s.engs ∧ t.out = s.out ∧ t.flds = s.flds ∧ t.hl.bucket = min 16000000 (s.hl.bucket + s.f .HL_CFG_DISCOVER_RATE)
      ∧ ∀ d, d < 25 → (t.dom d).running = (s.dom d).running ∧ (t.dom d).cycles =
        if (s.dom d).running then satAdd 64 (s.dom d).cycles (s.f .CLK_DOM_STATUS_FREQ_ACT d) else (s.dom d).cycles)

/-- 00 R14: after reset each field of each register holds the reset value of its register's table; where the table gives
none, or HW, fuse or strap, the model's choice of logs 3 and 70. -/
def Obligations.ResetRegisters : Prop := ∀ (f : Fid) (i j : Nat), State.reset.f f i j = fieldReset f i j

/-- State.reset holds nothing in memory and no unit flagged: both invariants hold there. -/
def Obligations.ResetMeetsInvariants : Prop := State.reset.Canonical ∧ State.reset.DegOk ∧ State.reset.pending = []

/-- Every step keeps stacked memory and the register store in canonical form, from any state that has it. -/
def Obligations.StepKeepsCanonical : Prop :=
  ∀ (s t : State), s.Canonical → Sys2Proof.Machine.step s = .next t → t.Canonical

/-- 01 R30: DEGRADED reads 0 for a unit that is not PRESENT; every step keeps it so. -/
def Obligations.StepKeepsDegradedPresent : Prop :=
  ∀ (s t : State), s.DegOk → Sys2Proof.Machine.step s = .next t → t.DegOk

/-- Only the step takes commands off the queue: no command changes what waits behind it. -/
def Obligations.CommandsKeepQueue : Prop :=
  ∀ (c : Instr) (s t : State), exec c s = .next t → t.pending = s.pending

/-- Every command of the table has an effect: none ends in a fault or a refusal. -/
def Obligations.EveryCommandGoesOn : Prop := ∀ (c : Instr) (s : State), goesOn (exec c s) = true

/-! ### Lane programs (04 R158-R165, 02 R78-R90) -/

/-- Whether a lane acts: its predicate, or the negation of it (04 R162). -/
def Sys2Proof.Machine.Stream.acts (t : Stream) (i : Ins) (k : Nat) : Bool := (t.p i.pred).getD k false != (i.pneg == 1)

/-- A lane-class row completes: lane `k` of vd holds `f` of its operands where the lane acts and keeps its value where it
does not; the other lane registers, the predicates and the scalar registers are as before. -/
def Sys2Proof.Machine.laneWrites (row : Nat → Nat → Instr) (opc : Nat)
    (f : Stream → Ins → Nat → BitVec 32 → BitVec 32 → BitVec 32 → BitVec 32) : Prop :=
  ∀ (s : State) (e u : Nat) (t : Stream) (i : Ins), s.atLane e u opc t i →
    ∃ s1 t1, exec (row e u) s = .next s1 ∧ s1.stream e u = some t1 ∧ t.stepped t1 ∧ s.laneLeaves s1 e
      ∧ (∀ k, k < nLanes → (t1.v i.rd).getD k 0 = if t.acts i k then
          f t i k ((t.v i.ra).getD k 0) ((t.v i.rb).getD k 0) ((t.v i.rc).getD k 0) else (t.v i.rd).getD k 0)
      ∧ (∀ r, r ≠ i.rd → t1.v r = t.v r) ∧ t1.pred = t.pred ∧ t1.sreg = t.sreg

/-- The code of an FP32 result rounded to nearest even (02 R85). -/
def Sys2Proof.Machine.roundF32 (v : Fv) : BitVec 32 := BitVec.ofNat 32 (fp32.roundArith v).1

/-- The value of an FP32 code. -/
def Sys2Proof.Machine.valF32 (c : BitVec 32) : Fv := fp32.decode c.toNat

/-- Both halves of a lane as BF16: an operation on each, rounded (02 R85). -/
def Sys2Proof.Machine.halves (f : Fv → Fv → Fv → Fv) (a b c : BitVec 32) : BitVec 32 :=
  let half (x : BitVec 32) (h : Nat) : Fv := bf16.decode (x.toNat / 2 ^ h % 65536)
  let r (h : Nat) : Nat := (bf16.roundArith (f (half a h) (half b h) (half c h))).1
  BitVec.ofNat 32 (r 16 * 65536 + r 0)

/-- Saturation of an INT32 result (02 R88). -/
def Sys2Proof.Machine.sat32 (x : Int) : BitVec 32 := BitVec.ofInt 32 (max (-2147483648) (min 2147483647 x))

/-- 04 R163, 02 R85-R88: the arithmetic lane rows complete, each with its result in the lanes that act and nothing else
changed. IADD, ISUB and IMUL wrap, IADDS and ISUBS saturate, AND, OR and XOR are bitwise, shifts take their amount modulo 32;
the FP32 operations FADD, FSUB, FMUL and FFMA give the exact result rounded once, FMIN and FMAX one of the operands, and the
BF16 operations HADD, HMUL and HFMA do so in each half; the special functions RCP, RSQRT, SQRT, EXP2 and LOG2 round their
value, which lies within the manual's bound (log 11 for the choice within it). -/
def Obligations.LaneArithmeticResults : Prop :=
  laneWrites .iadd 0x10 (fun _ _ _ a b _ => a + b) ∧ laneWrites .isub 0x11 (fun _ _ _ a b _ => a - b)
    ∧ laneWrites .imul 0x12 (fun _ _ _ a b _ => a * b)
    ∧ laneWrites .iadds 0x13 (fun _ _ _ a b _ => sat32 (a.toInt + b.toInt))
    ∧ laneWrites .isubs 0x14 (fun _ _ _ a b _ => sat32 (a.toInt - b.toInt))
    ∧ laneWrites .and 0x15 (fun _ _ _ a b _ => a &&& b) ∧ laneWrites .or 0x16 (fun _ _ _ a b _ => a ||| b)
    ∧ laneWrites .xor 0x17 (fun _ _ _ a b _ => a ^^^ b)
    ∧ laneWrites .shl 0x18 (fun _ _ _ a b _ => a <<< (b.toNat % 32))
    ∧ laneWrites .shr 0x19 (fun _ _ _ a b _ => a >>> (b.toNat % 32))
    ∧ laneWrites .sra 0x1A (fun _ _ _ a b _ => a.sshiftRight (b.toNat % 32))
    ∧ laneWrites .fadd 0x01 (fun _ _ _ a b _ => roundF32 ((valF32 a).add (valF32 b)).1)
    ∧ laneWrites .fsub 0x02 (fun _ _ _ a b _ => roundF32 ((valF32 a).add (valF32 b).negate).1)
    ∧ laneWrites .fmul 0x03 (fun _ _ _ a b _ => roundF32 ((valF32 a).mul (valF32 b)).1)
    ∧ laneWrites .ffma 0x04 (fun _ _ _ a b c => roundF32 (((valF32 a).mul (valF32 b)).1.add (valF32 c)).1)
    ∧ laneWrites .fmin 0x05 (fun _ _ _ a b _ => roundF32 ((valF32 a).min2 (valF32 b)))
    ∧ laneWrites .fmax 0x06 (fun _ _ _ a b _ => roundF32 ((valF32 a).max2 (valF32 b)))
    ∧ laneWrites .hadd 0x08 (fun _ _ _ a b c => halves (fun x y _ => (x.add y).1) a b c)
    ∧ laneWrites .hmul 0x09 (fun _ _ _ a b c => halves (fun x y _ => (x.mul y).1) a b c)
    ∧ laneWrites .hfma 0x0A (fun _ _ _ a b c => halves (fun x y z => ((x.mul y).1.add z).1) a b c)
    ∧ laneWrites .rcp 0x21 (fun _ _ _ a _ _ => roundF32 (fRcp a.toNat).1)
    ∧ laneWrites .rsqrt 0x22 (fun _ _ _ a _ _ => roundF32 (fRsqrt a.toNat).1)
    ∧ laneWrites .sqrt 0x23 (fun _ _ _ a _ _ => roundF32 (fSqrt (valF32 a)).1)
    ∧ laneWrites .exp2 0x24 (fun _ _ _ a _ _ => roundF32 (fExp2 a.toNat).1)
    ∧ laneWrites .log2 0x25 (fun _ _ _ a _ _ => roundF32 (fLog2 a.toNat).1)

/-- 04 R163: MOVI places its immediate (sign-extended as an integer, shifted by 4 as FP32), MOVS the low half of a scalar
register, LANEID the lane's number; SEL takes one operand where the predicate is true and the other elsewhere, whatever
PNEG; CVT converts the low bits of its source to FMT in the low bits of vd (an element of a block-scaled format under a free
scale, log 96). -/
def Sys2Proof.Machine.laneMoveResults : Prop :=
  laneWrites .movi 0x28 (fun _ i _ _ _ _ => if i.fmt = 11 then BitVec.ofNat 32 (i.imm * 16) else BitVec.ofInt 32 i.simm)
    ∧ laneWrites .movs 0x29 (fun t i _ _ _ _ => BitVec.ofNat 32 (t.s i.ra))
    ∧ laneWrites .laneid 0x2A (fun _ _ k _ _ _ => BitVec.ofNat 32 k)
    ∧ (∀ (s : State) (e u : Nat) (t : Stream) (i : Ins), s.atLane e u 0x2B t i →
      ∃ s1 t1, exec (.sel e u) s = .next s1 ∧ s1.stream e u = some t1 ∧ t.stepped t1 ∧ s.laneLeaves s1 e
        ∧ (∀ k, k < nLanes → (t1.v i.rd).getD k 0 =
            if (t.p i.pred).getD k false then (t.v i.ra).getD k 0 else (t.v i.rb).getD k 0)
        ∧ (∀ r, r ≠ i.rd → t1.v r = t.v r) ∧ t1.pred = t.pred ∧ t1.sreg = t.sreg)
    ∧ (∀ (s : State) (e u : Nat) (t : Stream) (i : Ins), s.atLane e u 0x20 t i →
      ∃ s1 t1, exec (.cvt e u) s = .next s1 ∧ s1.stream e u = some t1 ∧ t.stepped t1 ∧ s.laneLeaves s1 e
        ∧ (∀ k, k < nLanes → if t.acts i k then ∃ from' to',
            let x := elemDecode i.imm (((t.v i.ra).getD k 0).toNat % 2 ^ fmtBits i.imm)
            let v := if fmtBlock i.imm then scaled x from' else x
            ((t1.v i.rd).getD k 0).toNat % 2 ^ fmtBits i.fmt
              = (if fmtBlock i.fmt then loneElem i.fmt to' v else elemConv i.fmt v).1 % 2 ^ fmtBits i.fmt
          else (t1.v i.rd).getD k 0 = (t.v i.rd).getD k 0)
        ∧ (∀ r, r ≠ i.rd → t1.v r = t.v r) ∧ t1.pred = t.pred ∧ t1.sreg = t.sreg)

/-- 04 R162: FCMP and ICMP write predicate pRD in the lanes that act and keep it in the others; p0 stays true in every
lane. -/
def Sys2Proof.Machine.laneCompareResults : Prop :=
  ∀ (s : State) (e u : Nat) (t : Stream) (i : Ins),
    (s.atLane e u 0x07 t i → ∃ s1 t1, exec (.fcmp e u) s = .next s1 ∧ s1.stream e u = some t1 ∧ t.stepped t1
      ∧ s.laneLeaves s1 e ∧ t1.vreg = t.vreg ∧ t1.sreg = t.sreg ∧ (∀ r, r ≠ i.rd → t1.p r = t.p r)
      ∧ ∀ k, k < nLanes → (t1.p i.rd).getD k false = if i.rd = 0 then true else if t.acts i k then
          condF i.fmt (valF32 ((t.v i.ra).getD k 0)) (valF32 ((t.v i.rb).getD k 0)) else (t.p i.rd).getD k false)
    ∧ (s.atLane e u 0x1B t i → ∃ s1 t1, exec (.icmp e u) s = .next s1 ∧ s1.stream e u = some t1 ∧ t.stepped t1
      ∧ s.laneLeaves s1 e ∧ t1.vreg = t.vreg ∧ t1.sreg = t.sreg ∧ (∀ r, r ≠ i.rd → t1.p r = t.p r)
      ∧ ∀ k, k < nLanes → (t1.p i.rd).getD k false = if i.rd = 0 then true else if t.acts i k then
          condI 32 i.fmt ((t.v i.ra).getD k 0).toNat ((t.v i.rb).getD k 0).toNat else (t.p i.rd).getD k false)

/-- A scalar-class row completes: sd holds `f`, the other registers are as before. -/
def Sys2Proof.Machine.scalarWrites (row : Nat → Nat → Instr) (opc : Nat) (f : Stream → Ins → BitVec 64) : Prop :=
  ∀ (s : State) (e u : Nat) (t : Stream) (i : Ins), s.atLane e u opc t i →
    ∃ s1 t1, exec (row e u) s = .next s1 ∧ s1.stream e u = some t1 ∧ t.stepped t1 ∧ s.laneLeaves s1 e
      ∧ t1.s i.rd = (f t i).toNat ∧ (∀ r, r ≠ i.rd → t1.s r = t.s r) ∧ t1.vreg = t.vreg ∧ t1.pred = t.pred

/-- A scalar register as a word. -/
def Sys2Proof.Machine.Stream.w (t : Stream) (r : Nat) : BitVec 64 := BitVec.ofNat 64 (t.s r)

/-- 04 R163, 02 R89: the scalar arithmetic of 64 bits wraps, and a left shift takes its amount modulo 64. -/
def Sys2Proof.Machine.scalarResults : Prop :=
  scalarWrites .sadd 0x40 (fun t i => t.w i.ra + t.w i.rb) ∧ scalarWrites .smul 0x42 (fun t i => t.w i.ra * t.w i.rb)
    ∧ scalarWrites .saddi 0x49 (fun t i => t.w i.ra + BitVec.ofInt 64 i.simm)
    ∧ scalarWrites .sand 0x43 (fun t i => t.w i.ra &&& t.w i.rb) ∧ scalarWrites .sor 0x44 (fun t i => t.w i.ra ||| t.w i.rb)
    ∧ scalarWrites .sxor 0x45 (fun t i => t.w i.ra ^^^ t.w i.rb)
    ∧ scalarWrites .sshl 0x46 (fun t i => t.w i.ra <<< (t.s i.rb % 64))
    ∧ scalarWrites .sshli 0x4A (fun t i => t.w i.ra <<< i.imm)
    ∧ scalarWrites .slui 0x4C (fun t i => (t.w i.ra <<< 28) ||| BitVec.ofNat 64 i.imm)

/-- 04 R162, R163: the lane rows that move (MOVI, MOVS, LANEID), convert (CVT), select (SEL) and compare (FCMP, ICMP)
complete with their results. -/
def Obligations.LaneMovesAndCompares : Prop := laneMoveResults ∧ laneCompareResults

/-- A scalar-class row completes: sd holds `f` modulo 2^64, the other registers are as before. -/
def Sys2Proof.Machine.scalarGives (row : Nat → Nat → Instr) (opc : Nat) (f : Stream → Ins → Nat) : Prop :=
  ∀ (s : State) (e u : Nat) (t : Stream) (i : Ins), s.atLane e u opc t i →
    ∃ s1 t1, exec (row e u) s = .next s1 ∧ s1.stream e u = some t1 ∧ t.stepped t1 ∧ s.laneLeaves s1 e
      ∧ t1.s i.rd = f t i % 2 ^ 64 ∧ (∀ r, r ≠ i.rd → t1.s r = t.s r) ∧ t1.vreg = t.vreg ∧ t1.pred = t.pred

/-- 04 R162, R163, 02 R89: subtraction wraps, right shifts take their amount modulo 64, SCMP gives 1 where the condition
holds and 0 elsewhere, SFCMP compares the low halves as FP32. -/
def Sys2Proof.Machine.scalarShiftAndCompareResults : Prop :=
  scalarGives .ssub 0x41 (fun t i => t.s i.ra + 2 ^ 64 - t.s i.rb)
    ∧ scalarGives .sshr 0x47 (fun t i => t.s i.ra / 2 ^ (t.s i.rb % 64))
    ∧ scalarGives .sshri 0x4B (fun t i => t.s i.ra / 2 ^ (i.imm % 64))
    ∧ scalarGives .ssra 0x48 (fun t i => ofInt 64 (asInt 64 (t.s i.ra) / ((2 ^ (t.s i.rb % 64) : Nat) : Int)))
    ∧ scalarGives .scmp 0x4D (fun t i => if condI 64 i.fmt (t.s i.ra) (t.s i.rb) then 1 else 0)
    ∧ scalarGives .sfcmp 0x50 (fun t i =>
        if condF i.fmt (fp32.decode (t.s i.ra % 2 ^ 32)) (fp32.decode (t.s i.rb % 2 ^ 32)) then 1 else 0)

/-- A row that puts a 32-bit result in the low half of sd; the upper half is free (log 17). -/
def Sys2Proof.Machine.scalarLow (row : Nat → Nat → Instr) (opc : Nat) (f : State → Stream → Ins → Nat) : Prop :=
  ∀ (s : State) (e u : Nat) (t : Stream) (i : Ins), s.atLane e u opc t i →
    ∃ s1 t1, exec (row e u) s = .next s1 ∧ s1.stream e u = some t1 ∧ t.stepped t1 ∧ s.laneLeaves s1 e
      ∧ t1.s i.rd % 2 ^ 32 = f s t i % 2 ^ 32 ∧ (∀ r, r ≠ i.rd → t1.s r = t.s r) ∧ t1.vreg = t.vreg ∧ t1.pred = t.pred

/-- The lanes of va that act, in lane order. -/
def Sys2Proof.Machine.Stream.actingA (t : Stream) (i : Ins) : List (BitVec 32) :=
  ((List.range nLanes).filter (t.acts i)).map (fun k => (t.v i.ra).getD k 0)

/-- 04 R163, 02 R86: SFMIN and SFMAX give one of their operands in the low half of sd; RED gives the maximum, the minimum
or the wrapping sum of the lanes that act, and for the FP32 sum what the accumulation of log 10 gives. -/
def Sys2Proof.Machine.scalarMinMaxAndReductionResults : Prop :=
  scalarLow .sfmin 0x4E (fun _ t i => (roundF32 ((fp32.decode (t.s i.ra % 2 ^ 32)).min2 (fp32.decode (t.s i.rb % 2 ^ 32)))).toNat)
    ∧ scalarLow .sfmax 0x4F (fun _ t i => (roundF32 ((fp32.decode (t.s i.ra % 2 ^ 32)).max2 (fp32.decode (t.s i.rb % 2 ^ 32)))).toNat)
    ∧ scalarLow .red 0x38 (fun s t i =>
        let l := t.actingA i
        match i.imm, l with
        | 0, _ => (fp32.roundArith (accumF s.freeCtr (l.map (fun c => (valF32 c, 0)))).1).1
        | 1, [] => Config.free s.freeCtr
        | 1, c :: r => (roundF32 ((r.map valF32).foldl Fv.max2 (valF32 c))).toNat
        | 2, [] => Config.free s.freeCtr
        | 2, c :: r => (roundF32 ((r.map valF32).foldl Fv.min2 (valF32 c))).toNat
        | _, _ => (l.foldl (· + ·) 0).toNat)

/-- 04 R162, R163, 02 R86, R89: the scalar rows and RED complete, each with its result in sd and every other register as
before. -/
def Obligations.ScalarAndReductionResults : Prop :=
  scalarResults ∧ scalarShiftAndCompareResults ∧ scalarMinMaxAndReductionResults

/-- A row that changes only where its stream goes on: the PC is `f`, one instruction counted, the registers as before. -/
def Sys2Proof.Machine.laneGoes (row : Nat → Nat → Instr) (opc : Nat) (f : Stream → Ins → Nat) (ends : Bool)
    (may : State → Nat → Nat → Prop := fun _ _ _ => True) : Prop :=
  ∀ (s : State) (e u : Nat) (t : Stream) (i : Ins), s.atLane e u opc t i → may s e u →
    ∃ s1 t1, exec (row e u) s = .next s1 ∧ s1.stream e u = some t1 ∧ s.laneLeaves s1 e
      ∧ t1.pc = f t i ∧ t1.steps = t.steps + 1 ∧ (ends = true → t1.ended = true)
      ∧ t1.sreg = t.sreg ∧ t1.vreg = t.vreg ∧ t1.pred = t.pred

/-- 04 R163: a branch jumps to IMM where its condition holds and else goes on; BRANY and BRALL ask the predicate in any or
in all lanes; NOP only goes on, and SFENCE does once no write of the unit into a site window awaits its response, and else
changes nothing; END ends the stream. -/
def Obligations.LaneControlFlow : Prop :=
  laneGoes .br 0x58 (fun t i => if condI 64 i.fmt (t.s i.ra) (t.s i.rb) then i.imm else t.pc + 1) false
    ∧ laneGoes .jmp 0x59 (fun _ i => i.imm) false
    ∧ laneGoes .brany 0x5A (fun t i => if (t.p i.pred).any id then i.imm else t.pc + 1) false
    ∧ laneGoes .brall 0x5B (fun t i => if (t.p i.pred).all id then i.imm else t.pc + 1) false
    ∧ laneGoes .laneNop 0x00 (fun t _ => t.pc + 1) false
    ∧ laneGoes .sfence 0x57 (fun t _ => t.pc + 1) false (fun s e u => s.unitWaits e u = false)
    ∧ (∀ (s : State) (e u : Nat), s.unitWaits e u = true → exec (.sfence e u) s = .next s)
    ∧ laneGoes .endStream 0x5F (fun t _ => t.pc + 1) true

/-- As `laneLeaves`, for rows that store to tile memory. -/
def Sys2Proof.Machine.State.laneKeeps (s s1 : State) (e : Nat) : Prop :=
  s1.mem = s.mem ∧ s1.mesh = s.mesh ∧ s1.coh = s.coh ∧ s1.hl = s.hl ∧ s1.units = s.units ∧ s1.doms = s.doms
    ∧ s1.sec = s.sec ∧ s1.links = s.links ∧ s1.eth = s.eth ∧ s1.waits = s.waits ∧ s1.out = s.out
    ∧ (∀ k, k ≠ e → s1.eng k = s.eng k) ∧ (s1.eng e).lps = (s.eng e).lps ∧ (s1.eng e).acc = (s.eng e).acc
    ∧ ∀ f i j, f ≠ .CE_LANE_ISSUE_COUNT → s1.f f i j = s.f f i j

/-- Nibble address of lane `k`'s element: contiguous from sa + IMM, or at sa + vb × w (04 R163). -/
def Sys2Proof.Machine.Stream.elemAt (t : Stream) (i : Ins) (indexed : Bool) (k : Nat) : Int :=
  nibAt i.fmt (t.laneBase i indexed) (if indexed then ((t.v i.rb).getD k 0).toInt else (k : Int))

/-- The elements that the acting lanes name lie in tile memory. -/
def Sys2Proof.Machine.Stream.inTile (t : Stream) (i : Ins) (indexed : Bool) : Prop :=
  ∀ k, k < nLanes → t.acts i k = true → nibOk i.fmt (t.elemAt i indexed k) = true

/-- No element that an acting lane reads touches a poisoned granule. -/
def Sys2Proof.Machine.State.tileClean (s : State) (e : Nat) (t : Stream) (i : Ins) (indexed : Bool) : Prop :=
  ∀ k, k < nLanes → t.acts i k = true →
    (s.eng e).tilePoison (nibBytes i.fmt (t.elemAt i indexed k)).1 (nibBytes i.fmt (t.elemAt i indexed k)).2 = none

/-- The elements that the acting lanes name, in lane order. -/
def Sys2Proof.Machine.Stream.elems (t : Stream) (i : Ins) (indexed : Bool) : List Int :=
  ((List.range nLanes).filter (t.acts i)).map (t.elemAt i indexed)

/-- A load completes: lane `k` of vd holds its element widened to 32 bits where it acts. `s0` is the state once the errors that lie
in what it reads have been met (03 R110): with none there, `s` itself. -/
def Sys2Proof.Machine.laneLoads (row : Nat → Nat → Instr) (opc : Nat) (indexed : Bool) : Prop :=
  ∀ (s : State) (e u : Nat) (t : Stream) (i : Ins), let s0 := s.tmMeets e i.fmt (t.elems i indexed)
    ((s.eng e).latent = [] → s0 = s)
    ∧ (s.atLane e u opc t i → t.inTile i indexed → s0.tileClean e t i indexed →
    ∃ s1 t1, exec (row e u) s = .next s1 ∧ s1.stream e u = some t1 ∧ t.stepped t1 ∧ s0.laneLeaves s1 e
      ∧ (∀ k, k < nLanes → (t1.v i.rd).getD k 0 = if t.acts i k then
          BitVec.ofNat 32 (widen i.fmt ((s0.eng e).nibCode i.fmt (t.elemAt i indexed k))).1 else (t.v i.rd).getD k 0)
      ∧ (∀ r, r ≠ i.rd → t1.v r = t.v r) ∧ t1.pred = t.pred ∧ t1.sreg = t.sreg)

/-- A store completes: the element of each acting lane that names it alone holds vd narrowed, and bytes that no acting
lane's element touches are as before. -/
def Sys2Proof.Machine.laneStores (row : Nat → Nat → Instr) (opc : Nat) (indexed : Bool) : Prop :=
  ∀ (s : State) (e u : Nat) (t : Stream) (i : Ins), s.atLane e u opc t i → t.inTile i indexed →
    ∃ s1 t1, exec (row e u) s = .next s1 ∧ s1.stream e u = some t1 ∧ t.stepped t1 ∧ s.laneKeeps s1 e
      ∧ (∀ k, k < nLanes → t.acts i k = true →
          (∀ j, j < nLanes → t.acts i j = true → t.elemAt i indexed j = t.elemAt i indexed k → j = k) →
          (s1.eng e).nibCode i.fmt (t.elemAt i indexed k)
            = (narrow i.fmt false ((t.v i.rd).getD k 0).toNat).1 % 2 ^ fmtBits i.fmt)
      ∧ (∀ b, (∀ k, k < nLanes → t.acts i k = true →
            ¬((nibBytes i.fmt (t.elemAt i indexed k)).1 ≤ b
              ∧ b < (nibBytes i.fmt (t.elemAt i indexed k)).1 + (nibBytes i.fmt (t.elemAt i indexed k)).2)) →
          NTbl.at 0 (s1.eng e).tile b = NTbl.at 0 (s.eng e).tile b)
      ∧ t1.vreg = t.vreg ∧ t1.pred = t.pred ∧ t1.sreg = t.sreg

/-- 04 R163: LD and LDX read tile memory in FMT and widen, ST and STX narrow and store. -/
def Obligations.LaneLoadsAndStores : Prop :=
  laneLoads .ld 0x30 false ∧ laneLoads .ldx 0x32 true ∧ laneStores .st 0x31 false ∧ laneStores .stx 0x33 true

/-- 04 R163, 03 R110: SLD and SST access 8 bytes of tile memory at sa + IMM; an access that leaves tile memory, or a load of a
poisoned granule, completes the order with ILLEGAL or POISON instead. A load meets the errors that lie there: a corrected one
is counted, an uncorrectable one poisons its granule. -/
def Sys2Proof.Machine.scalarTileAccess : Prop :=
  ∀ (s : State) (e u : Nat) (t : Stream) (i : Ins), let s0 := s.tmMeet e (t.addr i) 8
    ((s.eng e).latent = [] → s0 = s)
    ∧ (∀ x, (s.eng e).latent = [x] → x.acc = none → x.addr / 8 * 8 < t.addr i + 8 → t.addr i < x.addr / 8 * 8 + 8 →
      (x.bad = false → s0.f .CE_ERR_COUNT_CORR e = satAdd 32 (s.f .CE_ERR_COUNT_CORR e) 1 ∧ (s0.eng e).tpois = (s.eng e).tpois)
      ∧ (x.bad = true → NTbl.at false (s0.eng e).tpois (x.addr / 64) = true ∧ s0.hl.moduleSeq = s.hl.moduleSeq + 1))
    ∧ (s.atLane e u 0x51 t i → t.addr i + 8 ≤ tileSize → (s0.eng e).tilePoison (t.addr i) 8 = none →
      ∃ s1 t1, exec (.sld e u) s = .next s1 ∧ s1.stream e u = some t1 ∧ t.stepped t1 ∧ s0.laneLeaves s1 e
        ∧ t1.s i.rd = leNat ((s0.eng e).tileBytes (t.addr i) 8) ∧ (∀ r, r ≠ i.rd → t1.s r = t.s r)
        ∧ t1.vreg = t.vreg ∧ t1.pred = t.pred)
    ∧ (∀ p, s.atLane e u 0x51 t i → t.addr i + 8 ≤ tileSize → (s0.eng e).tilePoison (t.addr i) 8 = some p →
      exec (.sld e u) s = .next ((s0.count .CE_LANE_ISSUE_COUNT e 0 64 1).laneStop e t.q t.idx csPoison 0x0302 (2 ^ 62 + p)))
    ∧ (s.atLane e u 0x52 t i → t.addr i + 8 ≤ tileSize →
      ∃ s1 t1, exec (.sst e u) s = .next s1 ∧ s1.stream e u = some t1 ∧ t.stepped t1 ∧ s.laneKeeps s1 e
        ∧ (s1.eng e).tileBytes (t.addr i) 8 = leBytes 8 (t.s i.rd)
        ∧ (∀ b, b < t.addr i ∨ t.addr i + 8 ≤ b → NTbl.at 0 (s1.eng e).tile b = NTbl.at 0 (s.eng e).tile b)
        ∧ t1.vreg = t.vreg ∧ t1.pred = t.pred ∧ t1.sreg = t.sreg)
    ∧ (s.atLane e u 0x51 t i → tileSize < t.addr i + 8 →
      exec (.sld e u) s = .next (s.laneStop e t.q t.idx csIllegal 0x010C t.pc))
    ∧ (s.atLane e u 0x52 t i → tileSize < t.addr i + 8 →
      exec (.sst e u) s = .next (s.laneStop e t.q t.idx csIllegal 0x010C t.pc))

/-- How a scalar row's access ends: the instruction goes on as `t1` in state `t` where it was answered OK, and else the order
completes with the status and the address of the error (04 R178, R180). -/
def Sys2Proof.Machine.State.accessed (s1 : State) (e u : Nat) (t : Stream) (st a : Nat) (t1 : Stream) (s2 : State) : State :=
  if st = stOk then s2.laneAfter e u t.pc t1 0 0
  else (s1.count .CE_LANE_ISSUE_COUNT e 0 64 1).laneStop e t.q t.idx (meshCompletion st).1 (meshCompletion st).2 a

/-- 04 R163, R180: SLDM, SSTM, SCPYIN and SCPYOUT move 8 or IMM bytes between memory and a register or tile memory; what
the memory access itself does is that of the scalar unit's read or write at the address; which bytes are the order's own is
noted (02 R90). A row whose access must wait at its
home waits with it (log 21). -/
def Sys2Proof.Machine.scalarMemoryAccess : Prop :=
  ∀ (s s1 : State) (e u st a : Nat) (d : Bytes) (site : SiteAns) (t : Stream) (i : Ins), s.unheld (.stream e u) →
    let t1 : Stream := { t with pc := t.pc + 1 }
    (s.arm.atLane e u 0x53 t i → s.arm.scalarRead e (t.addr i) 8 site = (st, d, a, s1) →
      s.comes (.sldm e u site) (.sldm e u site) (.stream e u)
        ((s1.accessed e u t st a (t1.setS i.rd (leNat d) (!(s1.eng e).madeMem t1 (t.addr i) (d.take 4))) s1)))
    ∧ (s.arm.atLane e u 0x54 t i → s.arm.scalarWrite e u t1 (t.addr i) (leBytes 8 (t.s i.rd)) = (st, a, s1) →
      s.comes (.sstm e u) (.sstm e u) (.stream e u) (s1.accessed e u t st a t1
        (s1.markMem e t1 (t.addr i) (leBytes 8 (t.s i.rd)) (fun _ => !t.sStored i.rd))))
    ∧ (s.arm.atLane e u 0x55 t i → t.s i.rd + i.imm ≤ tileSize →
        s.arm.scalarRead e (t.s i.ra) i.imm site = (st, d, a, s1) →
      s.comes (.scpyin e u site) (.scpyin e u site) (.stream e u) (s1.accessed e u t st a t1
        (s1.setEng e ((d.zipIdx.filter (fun b => (s1.eng e).madeMem t1 (t.s i.ra + b.2) [b.1])).foldl
          (fun g b => g.mark t1 (2 ^ 62 + (t.s i.rd + b.2)) 1) ((s1.eng e).tileWrite (t.s i.rd) (slice d 0 i.imm) false)))))
    ∧ (let s0 := s.arm.tmMeet e (t.s i.rd) i.imm
       let g := s0.eng e
       s.arm.atLane e u 0x56 t i → t.s i.rd + i.imm ≤ tileSize → g.tilePoison (t.s i.rd) i.imm = none →
        s0.scalarWrite e u t1 (t.s i.ra) (g.tileBytes (t.s i.rd) i.imm) = (st, a, s1) →
      s.comes (.scpyout e u) (.scpyout e u) (.stream e u) (s1.accessed e u t st a t1
        (s1.markMem e t1 (t.s i.ra) (g.tileBytes (t.s i.rd) i.imm) (fun k => g.madeBy t1 (t.s i.rd + k) 1))))

/-- 04 R163, R180: the scalar rows that access tile memory and main memory. -/
def Obligations.ScalarAccesses : Prop := scalarTileAccess ∧ scalarMemoryAccess

/-- 04 R164: an instruction that is not legal, or a lane-class one in scalar mode, completes the order with ILLEGAL,
whichever row meets it. -/
def Sys2Proof.Machine.laneIllegal : Prop :=
  ∀ (s : State) (e u : Nat) (t : Stream), s.stream e u = some t → t.ended = false → t.spent = false → s.laneRuns e u = true →
    ((Ins.parse (NTbl.at 0 (s.eng e).lps t.pc)).legal = false
      ∨ (t.scalar = true ∧ (Ins.parse (NTbl.at 0 (s.eng e).lps t.pc)).vectorOnly = true)) →
    ∀ row : Nat → Nat → Instr, row ∈ ([.laneNop, .fadd, .iadd, .cvt, .ld, .st, .red, .sadd, .sld, .br, .jmp, .endStream]
      : List (Nat → Nat → Instr)) → exec (row e u) s = .next (s.laneStop e t.q t.idx csIllegal 0x010C t.pc)

/-- 04 R158, R164: LANE_STEP_LIMIT completes. Its own effect, for a stream that runs and has used its STEP_LIMIT, is to end every
stream of the order and to complete the order with TIMEOUT, 0x0403 (what AUX0 and AUX1 hold is free, log 18); every other engine,
the other orders, tile memory, memory and every register stay as they were. For a stream that has ended, or has steps left, and
where there is none, there is nothing to do. -/
def Sys2Proof.Machine.stepLimitCompletes : Prop :=
  (∀ (s : State) (e u : Nat) (t : Stream), s.stream e u = some t → t.ended = false → t.spent = true →
    ∃ s2, exec (.laneStepLimit e u) s = .next s2
      ∧ s2.stream e u = some { t with ended := true }
      ∧ (∀ v x, s2.stream e v = some x → x.q = t.q → x.idx = t.idx → x.ended = true)
      ∧ (∀ r, r ∈ (s2.eng e).runs → r.q = t.q → r.idx = t.idx → r.done = true ∧ r.finished = true ∧ r.status = csTimeout
        ∧ r.fault = 0x0403 ∧ r.res = [])
      ∧ (∀ r, ¬(r.q = t.q ∧ r.idx = t.idx) → (r ∈ (s2.eng e).runs ↔ r ∈ (s.eng e).runs))
      ∧ (∀ k, k ≠ e → s2.eng k = s.eng k) ∧ (s2.eng e).tile = (s.eng e).tile ∧ s2.mem = s.mem ∧ s2.flds = s.flds)
  ∧ (∀ (s : State) (e u : Nat), (∀ t, s.stream e u = some t → t.ended = true ∨ t.spent = false) →
    exec (.laneStepLimit e u) s = .next s)

/-- 04 R164: illegal lane instructions, and LANE_STEP_LIMIT. -/
def Obligations.LaneStops : Prop := laneIllegal ∧ stepLimitCompletes

/-! ### Accesses to registers (00 R11-R18, R629) -/

/-- A command that writes a register completes: `s` is the state in which the request has left its master's port, on a plane
that is up and in a window that takes it. Where the write meets none of the refusals of 00 R629 there, the register does what
leads from `s` to `t`, the response reaches the port and the master is told so. -/
def Sys2Proof.Machine.writeGives (c : Instr) (m : Master) (r : Reg) (i j v : Nat) (s t : State) : Prop :=
  ∀ (s0 : State) (off : Nat) (q : UnitReq), s0.sends m off 8 true q s → s.lets m r i j off v →
    exec c s0 = .next (t.wrote q m hOk)

/-- As `writeGives`, for a register whose write makes a unit of the hub access memory: `t` is what the write comes to, and
the command waits where such an access must wait at its home (08 R310, log 21). -/
def Sys2Proof.Machine.writeWaits (c : Instr) (m : Master) (r : Reg) (i j v : Nat) (s t : State) : Prop :=
  ∀ (s0 : State) (off : Nat) (q : UnitReq), s0.unheld (.ofMaster m) → s0.arm.sends m off 8 true q s → s.lets m r i j off v →
    s0.comes c (.registerWrite m (ctlBase + off) 8 (BitVec.ofNat 64 v)) (.ofMaster m) (t.wrote q m hOk)

/-- 00 R629: a write that a rule refuses changes no register: a controller is answered with the status of the first
refusal in the order of the rule, an on-module master with an error response. -/
def Sys2Proof.Machine.refusedWriteChangesNothing : Prop :=
  ∀ (s0 s : State) (m : Master) (q : UnitReq) (r : Reg) (i j off st : Nat) (v : Word), s0.unheld (.ofMaster m) →
    s0.arm.sends m off 8 true q s → isDebug m = false → off % 8 = 0 → ctlOff (ctlBase + off) = some off →
    locate off = some (r, i, j) → s.writeRefusal m r i j off v.toNat = some st →
    s0.comes (.registerWrite m (ctlBase + off) 8 v) (.registerWrite m (ctlBase + off) 8 v) (.ofMaster m) (s.wrote q m st)

/-- 00 R629, 01 R41: an access that is not one aligned 64-bit access, or that names no register, is refused with BAD_ARG and
changes nothing; one at an address without a target is counted at its master's port and flagged. -/
def Sys2Proof.Machine.malformedAccessRefused : Prop :=
  (∀ (s0 s : State) (m : Master) (q : UnitReq) (off len : Nat) (v : Word), isDebug m = false →
    ctlOff (ctlBase + off) = some off → (off % 8 ≠ 0 ∨ len ≠ 8 ∨ locate off = none) →
    (s0.arm.sends m off len true q s → s0.unheld (.ofMaster m) →
      s0.comes (.registerWrite m (ctlBase + off) len v) (.registerWrite m (ctlBase + off) len v) (.ofMaster m)
        (s.wrote q m hBadArg))
    ∧ (s0.sends m off len false q s → exec (.readClear m (ctlBase + off) len) s0 = .next (s.told q m hBadArg 0)))
  ∧ ∀ (s : State) (m : Master) (pa len : Nat), s.masterLive m = true → s.ctlGate m false = none → target pa = .unmapped →
    exec (.readClear m pa len) s
      = .next ((s.unmappedAt ((portOfId (meshId m)).getD 29) pa).accessEnd m hBadArg 0)

/-- 00 R629: a refused access answers its status and changes nothing. -/
def Obligations.RefusedAccessChangesNothing : Prop := refusedWriteChangesNothing ∧ malformedAccessRefused

/-- 00 R11: a write of a register for which no chapter gives an action sets its RW fields to what the word carries, clears
the RW1C bits written as one, and leaves RO, RC and WO fields as they were. -/
def Obligations.PlainWriteSetsFields : Prop :=
  ∀ (s : State) (r : Reg) (i j v : Nat) (f : FieldRow) (e : Nat), f ∈ (regRow r).fields → e < f.rep →
    let k := f.key (regRow r) i j e
    let new := (s.putFields r i j v).f k.f k.i k.j
    let old := s.f k.f k.i k.j
    match f.accAt i with
    | .rw => new = f.get v e
    | .rwl => new = f.get v e
    | .rw1c => new = old ^^^ (old &&& f.get v e)
    | _ => new = old

/-- REGISTER_WRITE and READ_CLEAR complete: a write that meets no refusal does what the register's chapter gives it, with
the status that it gives (00 R629 order 8), or waits where a unit's access must wait at a home (log 21), and a read answers what the register holds, with the read's own effect (00 R11, R12, R629); a debug access marks the plots it
touches first (13 R506). -/
def Obligations.RegisterAccessCompletes : Prop :=
  ∀ (s0 s s1 : State) (m : Master) (q : UnitReq) (r : Reg) (i j off x st : Nat) (v : Word),
    ctlOff (ctlBase + off) = some off → off % 8 = 0 →
    (s0.arm.sends m off 8 true q s → s0.unheld (.ofMaster m) → locate off = some (r, i, j) →
      (s.debugMark m off).writeRefusal m r i j off v.toNat = none → (s.debugMark m off).fixed r i j off v.toNat = false →
      (s.debugMark m off).regApply m r i j off v.toNat = (st, s1) →
      s0.comes (.registerWrite m (ctlBase + off) 8 v) (.registerWrite m (ctlBase + off) 8 v) (.ofMaster m) (s1.wrote q m st))
    ∧ (s0.sends m off 8 false q s → (s.debugMark m off).regRead m off 8 = (hOk, x, s1) →
      exec (.readClear m (ctlBase + off) 8) s0 = .next (s1.told q m hOk x))

/-- 00 R12: a read returns the RC fields of its register and leaves them at their reset value; fields that are none of
the register's RC fields, and the bytes of memory, keep their values. -/
def Obligations.ReadClears : Prop :=
  ∀ (s : State) (r : Reg) (i j : Nat),
    (∀ f, f ∈ (regRow r).fields → ∀ e, e < f.rep → f.acc = .rc →
      let k := f.key (regRow r) i j e
      (s.clearRc r i j).f k.f k.i k.j = fieldReset k.f k.i k.j)
    ∧ (∀ g a b, (∀ f, f ∈ (regRow r).fields → f.acc = .rc → f.fid ≠ g) → (s.clearRc r i j).f g a b = s.f g a b)
    ∧ (s.clearRc r i j).mem.cells = s.mem.cells ∧ (s.clearRc r i j).mem.poison = s.mem.poison

/-! ### Work orders (04) -/

/-- An order of an opcode starts: it joins the running orders with what its opcode computes, its writes that overlap its
inputs left open (04 R148), and HEAD moves past it; a claim has taken the scalar units (03 R116). It waits where an access of it must wait at a home (log 21). -/
def Sys2Proof.Machine.orderGives (c : Instr) (e q opc : Nat) (body : Body) (fin : State → State := id) : Prop :=
  ∀ (s : State) (w : Wo) (s1 : State), s.unheld (.queue e q) → s.arm.mayStart e q opc w s1 →
    let x := State.openOuts (body w (s.freshRun e q w) (s1.starts e q w)) w.inputs
    s.comes c c (.queue e q) (fin (x.2.startRun e x.1))

/-- 04 R140-R142, R150: each data-moving, LLC, lane and reduction order starts with the outcome of its opcode. -/
def Sys2Proof.Machine.movementOrdersStart : Prop :=
  ∀ (e q : Nat) (site : SiteAns) (tm : List TmErr),
    orderGives (.copy e q site tm) e q opCopy (withTm e tm (bodyCopy e site))
    ∧ orderGives (.convert e q site tm) e q opConvert (withTm e tm (bodyConvert e site))
    ∧ orderGives (.transpose e q tm) e q opTranspose (withTm e tm (bodyTranspose e))
    ∧ orderGives (.gather e q tm) e q opGather (withTm e tm (bodyGather e))
    ∧ orderGives (.scatter e q tm) e q opScatter (withTm e tm (bodyScatter e))
    ∧ orderGives (.prefetchLlc e q) e q opPrefetch (bodyPrefetch e)
    ∧ orderGives (.writeback e q) e q opWriteback (bodyWriteback e)
    ∧ orderGives (.reduce e q tm) e q opReduce (withTm e tm (bodyReduce e))
    ∧ orderGives (.lane e q tm) e q opLane (withLatent e tm (bodyLane e))

/-- 04 R142, R150, R153, 03 R103: matrix orders start on the arrays, and the residue failures met then take spare
columns. -/
def Sys2Proof.Machine.matrixOrdersStart : Prop :=
  ∀ (e q : Nat) (cols : List (Nat × Nat)) (tm : List TmErr),
    let body : Body := withTm e tm (bodyMatrix e ((tm.filter TmErr.bad).filterMap TmErr.acc))
    orderGives (.matmul e q cols tm) e q opMatmul body (fun s => s.residue e cols)
    ∧ orderGives (.matmulAcc e q cols tm) e q opMatmulAcc body (fun s => s.residue e cols)
    ∧ orderGives (.conv e q cols tm) e q opConv body (fun s => s.residue e cols)

/-- 04 R142, R169: NOP and SIGNAL start in the front end with nothing left to do; WAIT pends on its tally as the youngest
wait and is judged at once. -/
def Sys2Proof.Machine.frontEndOrdersStart : Prop :=
  ∀ (e q : Nat) (s : State) (w : Wo) (s1 : State), s.unheld (.queue e q) →
    (s.arm.mayStart e q opNop w s1 → s.comes (.nop e q) (.nop e q) (.queue e q)
      (s1.startRun e { s.freshRun e q w with finished := true }))
    ∧ (s.arm.mayStart e q opSignal w s1 → s.comes (.signal e q) (.signal e q) (.queue e q)
      (s1.startRun e { s.freshRun e q w with finished := true }))
    ∧ (s.arm.mayStart e q opWait w s1 →
      let t := w.tally (s1.plotOfEngine e)
      let p : TWait := { e := e, q := q, idx := s.qhead e q, tally := t, consume := bit (w.arg 90 1) 0, amount := w.arg 92 4 }
      s.comes (.wait e q) (.wait e q) (.queue e q) ((State.startRun { s1 with waits := s1.waits ++ [p] } e
        { s.freshRun e q w with done := false }).judge t))

/-- 04 R134-R142: the order at the front of a queue that passes its checks and finds its resources free starts, with the
outcome of its opcode. -/
def Obligations.OrdersStart : Prop := movementOrdersStart ∧ matrixOrdersStart ∧ frontEndOrdersStart

/-- 04 R146: an order that fails a check completes with ILLEGAL, its fault code and the offset of the field, whichever
row meets it where its own opcode is named. -/
def Obligations.RefusedOrdersAreIllegal : Prop :=
  ∀ (s : State) (e q : Nat) (w : Wo) (s1 : State) (f : RdRes) (fc off : Nat), s.unheld (.queue e q) →
    s.engRuns e = true → s.queueOpen e q = true → s.arm.fetchOrder e q = (f, w, s1) → f.status = stOk → s1.coh.stall = [] →
    s.queueTurn e q w = true → s.resFree e w = true → s.arm.outranked e q w = false →
    s1.woCheck e w = some (fc, off) → (w.op = opNop ∨ woOpcodes.contains w.op = false) →
    s.comes (.nop e q) (.nop e q) (.queue e q)
      (s1.startRun e ({ s.freshRun e q w with res := [], finished := true }.fail csIllegal fc off))

/-- 04 R173-R175: an order whose outcome stands makes its writes and frees its resources; the oldest order of its queue,
once its writes are made and answered, completes: a SIGNAL that succeeded adds to its tally, the record is written and the
next state of the queue decided. -/
def Obligations.OldestOrderCompletes : Prop :=
  ∀ (s : State) (e q : Nat), s.unheld (.queue e q) →
    (∀ r, (s.eng e).halted = false → (s.eng e).finishing q = some r →
      let s0 := s.arm.laneOutRead e r
      let x := State.performOuts e (s0.laneOut e r).outs (s0.laneOut e r) s0
      s.comes (.workOrderComplete e q) (.workOrderComplete e q) (.queue e q)
        ((x.2.updRun e r.q r.idx (fun _ => { x.1 with finished := true, res := [], outs := [] })).completeFirst e q))
    ∧ ((s.eng e).finishing q = none → s.comes (.workOrderComplete e q)
        (.workOrderComplete e q) (.queue e q) (s.arm.completeFirst e q))
    ∧ (∀ r, (s.eng e).first q = some r → r.done = true → r.finished = true → s.runWaits e q r.idx = false →
      let w := Wo.parse r.order
      s.completeFirst e q = ((if r.op = opSignal ∧ r.status = csOk then
        s.signalTally (w.tally (s.plotOfEngine e)) (w.arg 92 4) else s).finishRun e r).engineQuiet e)

/-- 04 R136, R174, R177: writing a completion record leaves CQ_TAIL one past the order's index; the record is 32 bytes with
the status, the phase, the flags, the index, and the order's opcode and user tag at their places. -/
def Obligations.RecordFollowsItsOrder : Prop :=
  (∀ (s : State) (e : Nat) (r : Run),
    (s.writeRecord e r).f .CE_WQ_STATUS_CQ_TAIL e r.q = (r.idx + 1) % 2 ^ 32)
  ∧ (∀ (r : Run) (e phase cycles : Nat), phase < 2 → r.order.length = 128 →
    let b := r.record e phase cycles
    b.length = 32 ∧ leAt b 0 1 = r.status % 256 ∧ bits (leAt b 1 1) 7 7 = phase ∧ bits (leAt b 1 1) 3 0 = r.flags % 16
      ∧ leAt b 4 4 = r.idx % 2 ^ 32 ∧ slice b 8 8 = slice r.order 8 8 ∧ slice b 25 1 = slice r.order 0 1)

/-- 04 R170: WAIT_TIMEOUT completes a WAIT that reaches its limit: with TIMEOUT, consuming nothing, and holding the tally's
value; a consuming WAIT behind it is judged. -/
def Sys2Proof.Machine.waitTimesOut : Prop :=
  ∀ (s : State) (e q : Nat) (w : TWait) (r : Run),
    s.waits.find? (fun w => w.e == e && w.q == q) = some w →
    (s.eng e).runs.find? (fun r => r.q == q && r.idx == w.idx) = some r → leAt r.order 96 4 ≠ 0 → (s.eng e).halted = false →
    ∃ t, exec (.waitTimeout e q) s = .next t
      ∧ t = (s.updRun e q w.idx (fun r => { r.fail csTimeout 0x0402 (s.tally w.tally) with finished := true })).dropWaits
        (fun x => decide (x = w))
      ∧ ¬ w ∈ t.waits
      ∧ ∀ r, r ∈ (t.eng e).runs → r.q = q → r.idx = w.idx → r.finished = true ∧ r.status = csTimeout ∧ r.fault = 0x0402

/-- 04 R151, R156: COPY moves bytes: where every row reads without an error and without poison, the order's writes are
the rows in order, each at its stride from ADDR_C, and nothing else. -/
def Obligations.CopyMovesRows : Prop :=
  ∀ (s s1 : State) (e : Nat) (site : SiteAns) (w : Wo) (r : Run) (rs : List RowRd),
    State.readRows e w.op w.a w.sta w.n w.m 0 site s = (rs, s1) → (∀ x, x ∈ rs → x.err = 0 ∧ x.bad = []) →
    (bodyCopy e site w r s).2 = s1 ∧ (bodyCopy e site w r s).1.status = r.status
      ∧ (bodyCopy e site w r s).1.outs.map (fun o => (o.addr, o.bytes, o.pois))
        = (List.range rs.length).map (fun j => (w.c + j * w.stc, (rs.getD j { data := [] }).data, false))

/-- 04 R167-R169: a tally's VALUE after a write, a SIGNAL that fits, and a SIGNAL that overflows, where no WAIT pends on
it: set, added, and saturated at 0xFFFFFFFF with its overflow bit. -/
def Sys2Proof.Machine.tallyArithmetic : Prop :=
  ∀ (s : State) (t a : Nat), (∀ w, w ∈ s.waits → w.tally ≠ t) →
    (s.setTally t a).tally t = a
    ∧ (s.signalTally t a).tally t = min (s.tally t + a) 0xFFFFFFFF
    ∧ (0xFFFFFFFF < s.tally t + a → bit ((s.signalTally t a).f .TALLY_OVF_OVF (t / 64)) (t % 64) = true)
    ∧ (s.tally t + a ≤ 0xFFFFFFFF → (s.signalTally t a).f .TALLY_OVF_OVF (t / 64) = s.f .TALLY_OVF_OVF (t / 64))

/-! ### Reset, clocks, the control complex, training (14, 05 R225) -/

/-- 14 R513-R515: what a whole reset keeps: the fuses, the cause and count, the straps, the staged digest and SVN;
units, memory, sessions, claims, plots, engines and every other register are as State.reset has them, the rails at the
voltage they are switched on with; the test and management ports keep their state (17 R622, R624). -/
def Obligations.WholeResetKeepsOnly : Prop :=
  ∀ (s : State) (c : Nat),
    let t := s.wholeReset c
    t.fuses = s.fuses ∧ t.f .GLB_RESET_CAUSE_CAUSE = c ∧ t.aon.cause = c
      ∧ t.f .GLB_RESET_CAUSE_COUNT = (if c = 0 then 0 else min 65535 (s.aon.count + 1))
      ∧ t.f .GLB_STRAP_ETH = s.aon.strapEth ∧ t.f .ETH_CFG_MODE = s.aon.strapEth ∧ t.f .ETH_STATUS_MODE_ACT = s.aon.strapEth
      ∧ (c = 0 → t.aon.digest = [] ∧ t.aon.svn = 0)
      ∧ (c ≠ 0 → s.boot.fwState ≠ 4 → t.aon.digest = s.aon.digest ∧ t.aon.svn = s.aon.svn)
      ∧ (c ≠ 0 → s.boot.fwState = 4 → t.aon.digest = s.boot.stagedDigest ∧ t.aon.svn = s.boot.stagedSvn)
      ∧ t.units = [] ∧ t.umReady = false ∧ t.doms = [] ∧ t.mem = {} ∧ t.hl = {} ∧ t.sec = {} ∧ t.boot = {} ∧ t.engs = []
      ∧ t.coh = {} ∧ t.links = [] ∧ t.eth = {} ∧ t.sheaf = [] ∧ t.pwr = { volts := t.pwr.volts } ∧ t.tel = {}
      ∧ t.jtag = s.jtag ∧ t.mgmtIndex = s.mgmtIndex ∧ t.pending = s.pending
      ∧ ∀ f i j, f ≠ .GLB_RESET_CAUSE_CAUSE → f ≠ .GLB_RESET_CAUSE_COUNT → f ≠ .GLB_STRAP_ETH → f ≠ .ETH_CFG_MODE →
        f ≠ .ETH_STATUS_MODE_ACT → t.f f i j = fieldReset f i j

/-- 14 R513, R514, R539, R540: the reset rows: PORST_N low for 1 µs or longer resets with cause 0; its release samples the
straps and brings the module up; a reset ordered before takes place with its cause, and bring-up follows; the unit map
is published once memory is initialised and training is over. -/
def Sys2Proof.Machine.resetRowsComplete : Prop :=
  ∀ (s : State),
    (∀ ns, 1000 ≤ ns → exec (.porstNLow ns) s = .next (s.blowLcCut.wholeReset 0))
    ∧ (∀ v, s.aon.porstLow = true → exec (.porstNRelease v) s
        = .next (State.applyStraps { s with aon := { s.aon with porstLow := false, refLost := false, strapEth := v % 8 } }).bringUp)
    ∧ (∀ t c, s.aon.due = some (t, c) → exec .wholeReset s = .next (s.blowLc.wholeReset c).bringUp)
    ∧ (s.umReady = false → s.f .MEM_INIT_STATE = 2 → s.f .GLB_TRAIN_STATUS_STATE = 3 →
        ∃ t, exec .umPublished s = .next t ∧ t.umReady = true ∧ 1 ≤ t.umGen ∧ t.f .HL_STATUS_STAGE = 3
          ∧ (s.coh.evWait = [] → (∀ n, n < 8 → bit s.coh.up n = false ∧ (s.link n).evicting = []) →
            t.mem.cells = s.mem.cells))

/-- 14 R516, R539: after bring-up the boot set runs (in TEST, PROVISION, FIELD and RETURN), locked and released at the
nominal frequencies; the port trains. -/
def Sys2Proof.Machine.bringUpStartsBootSet : Prop :=
  ∀ (s : State) (d : Nat), d ∈ [16, 21, 22, 23, 24] → (lcOfCode (majority s.fuses.lc)).1 ≠ lcScrap →
    (s.bringUp.dom d).running = true ∧ (s.bringUp.dom d).ever = true ∧ s.bringUp.f .CLK_DOM_STATUS_LOCKED d = 1
      ∧ s.bringUp.f .CLK_DOM_STATUS_RELEASED d = 1 ∧ s.bringUp.f .CLK_DOM_STATUS_FREQ_ACT d = s.f .CLK_DOM_CFG_FREQ_MHZ d
      ∧ (s.bringUp.f .ETH_STATUS_LINK = 1 ∨ s.bringUp.f .ETH_STATUS_LINK = 2)

/-- 14 R513-R516, R539, R540: the reset rows, and what bring-up leaves. -/
def Obligations.ResetAndBringUp : Prop := resetRowsComplete ∧ bringUpStartsBootSet

/-- 14 R513, R517, R518, R524, R529, 05 R225: the register rows of reset, clocks and the control complex. -/
def Obligations.ClockRegisterRows : Prop :=
  ∀ (s : State) (m : Master) (v : Word),
    let w := setBit v.toNat 0 true
    (s.aon.due = none → writeGives (.glbResetReq m v) m .GLB_RESET_REQ 0 0 w s
      { s with aon := { s.aon with due := some (s.now + 100, 2) } })
    ∧ (∀ x, s.aon.due = some x → writeGives (.glbResetReq m v) m .GLB_RESET_REQ 0 0 w s s)
    ∧ writeGives (.ccWdtKick m v) m .CC_WDT_KICK 0 0 w s { s with boot := { s.boot with kicked := s.now } }
    ∧ (s.boot.cores ≠ 0 → writeGives (.ccReady m v) m .CC_READY 0 0 w s
        (State.setF { s with boot := { s.boot with ready := true } } .HL_STATUS_STAGE 0 0 (max 1 s.stage)))
    ∧ (∀ d, isBoot d = false → (freqOk d (bits v.toNat 27 16) = true ∨ s.f .CLK_DOM_CFG_FREQ_MHZ d = bits v.toNat 27 16) →
        writeGives (.clkDomCfgWrite m d v) m .CLK_DOM_CFG d 0 v.toNat s
          (let s1 := (s.setF .CLK_DOM_CFG_FREQ_MHZ d 0 (bits v.toNat 27 16)).setF .CLK_DOM_CFG_PLL_EN d 0 (bits v.toNat 0 0)
           if bits v.toNat 0 0 = 0 ∧ (s.dom d).running = false then s1.setF .CLK_DOM_STATUS_LOCKED d 0 0 else s1))
    ∧ (∀ d, d = bits w 8 4 → isBoot d = false → s.boot.testing = none → s.f .CLK_DOM_STATUS_LOCKED d ≠ 0 →
        (d < 8 → (s.dom (8 + d)).ever = true) → (s.umReady = true → 8 ≤ d ∧ d < 17) →
        ((s.dom d).ever = true → writeGives (.clkRelease m v) m .CLK_RELEASE 0 0 w s (s.clkResult (bits w 15 12) 3 1))
        ∧ ((s.dom d).ever = false → writeGives (.clkRelease m v) m .CLK_RELEASE 0 0 w s
            (State.clkResult
              (let s0 := if d < 8 then (s.putStep d (s.stepTarget d)).stepVolt d (s.stepTarget d) else s
               let s1 := (s0.setDom d { running := true, cycles := 0, ever := true }).setF .CLK_DOM_STATUS_RELEASED d 0 1
               let s2 := if 8 ≤ d ∧ d < 16 then s1.memReleased (d - 8) else if 17 ≤ d ∧ d ≤ 20 then s1.siteqReleased d else s1
               { s2 with boot := { s2.boot with testing := some d, testSeq := bits w 15 12 } }) (bits w 15 12) 2 0)))
    ∧ (s.f .MEM_INIT_STATE = 0 → s.stacksTrained = true → ∃ t, writeGives (.memInitStart m v) m .MEM_INIT 0 0 w s t
        ∧ t.f .MEM_INIT_STATE = 1 ∧ t.mem.relocR = s.outChannels.length ∧ t.f .MEM_RELOC_MAPPED_OUT = s.outChannels.length
        ∧ t.f .MEM_RELOC_BASE = 512 - 2 * s.outChannels.length ∧ t.mem.cells = s.mem.cells)

/-- 14 R517, R519, R522: a PLL locks; a start-up test without a fault beyond the spares leaves its domain tested; a lost
reference stops every domain but AON; a PLL that unlocks is a hard fault of what it clocks. -/
def Obligations.ClockEvents : Prop :=
  ∀ (s : State) (d : Nat), 
    (isBoot d = false → d < 25 → s.f .CLK_DOM_CFG_PLL_EN d ≠ 0 → freqOk d (s.f .CLK_DOM_CFG_FREQ_MHZ d) = true →
      exec (.pllLock d) s = .next ((s.setF .CLK_DOM_STATUS_LOCKED d 0 1).setF .CLK_DOM_STATUS_FREQ_ACT d 0
        (s.f .CLK_DOM_CFG_FREQ_MHZ d)))
    ∧ (∀ r, isBoot d = false → d < 25 → s.f .CLK_DOM_STATUS_RELEASED d ≠ 0 → s.f .CLK_DOM_STATUS_TESTED d ≠ 1 →
        testBad d r = false → ∃ t, exec (.startupTestDone d r) s = .next t ∧ t.f .CLK_DOM_STATUS_TESTED d = 1
          ∧ t.f .CLK_DOM_STATUS_TEST_FAIL d = 0 ∧ t.units = s.units ∧ t.doms = s.doms
          ∧ (s.boot.testing = some d → t.boot.testing = none ∧ t.f .CLK_RELEASE_RESULT_PHASE = 3
            ∧ t.f .CLK_RELEASE_RESULT_CODE = 0 ∧ t.f .CLK_RELEASE_RESULT_SEQ = s.boot.testSeq))
    ∧ (∀ r, isBoot d = false → 17 ≤ d → d ≤ 20 → s.f .CLK_DOM_STATUS_RELEASED d ≠ 0 → s.f .CLK_DOM_STATUS_TESTED d ≠ 1 →
        testBad d r = true → s.boot.testing = none → exec (.startupTestDone d r) s = .next ((domSites d).foldl
          State.siteTrainFail ((s.setF .CLK_DOM_STATUS_TESTED d 0 1).setF .CLK_DOM_STATUS_TEST_FAIL d 0 1)))
    ∧ (s.aon.porstLow = false → s.aon.refLost = false → ∃ t, exec .clkRefLost s = .next t ∧ t.aon.refLost = true
        ∧ t.aon.alert = true ∧ (∀ k, k < 24 → (t.dom k).running = false) ∧ t.units = s.units)
    ∧ (d < 8 → (s.dom d).running = true → exec (.clkUnlock d) s
        = .next (((s.setF .CLK_DOM_STATUS_LOCKED d 0 0).raise 0x9080 sevUnitFatal 1 d [d]).engineFault d 2 true false))
    ∧ (17 ≤ d → d ≤ 20 → (s.dom d).running = true → exec (.clkUnlock d) s = .next ((domSites d).foldl
        (fun s n => s.siteFailed n 0 false)
        ((s.setF .CLK_DOM_STATUS_LOCKED d 0 0).raise 0x9080 sevUnitFatal 5 ((domSites d).headD 0) [d])))
    ∧ ((8 ≤ d ∧ d < 17 ∨ 20 < d ∧ d < 24) → (s.dom d).running = true → exec (.clkUnlock d) s
        = .next (((s.setF .CLK_DOM_STATUS_LOCKED d 0 0).raise 0x9080 sevModuleFatal 0 d [d]).domFault d))

/-- 14 R523, R524, R529: what the control complex's errors do: a corrected SRAM word is counted; an uncorrectable one, and
a watchdog without a kick, halt the four cores; firmware that never writes CC_READY is reported. -/
def Obligations.ControlComplexErrors : Prop :=
  ∀ (s : State),
    exec .ccSramCorr s = .next (((s.flag .CC_ERR_STATUS_SRAM_CORR).count .CC_SRAM_CORR_COUNT_COUNT 0 0 32 1).raise
      0x0028 sevCorrected 0 0 [])
    ∧ exec .ccSramFatal s = .next ((s.ccHalted.flag .CC_ERR_STATUS_SRAM_FATAL).raise 0x0030 sevModuleFatal 0 0 [])
    ∧ (s.boot.cores ≠ 0 → s.boot.ccHalt = 0 →
      exec .ccWatchdog s = .next ((s.ccHalted.flag .CC_ERR_STATUS_WDT).raise 0x0020 sevModuleFatal 0 0 []))
    ∧ (s.ccHalted.boot.cores = 0 ∧ s.ccHalted.boot.dead = true ∧ s.ccHalted.engs = s.engs ∧ s.ccHalted.mem = s.mem)
    ∧ (∀ f code, let t := (s.ccHalted.flag f).raise code sevModuleFatal 0 0 []
        t.boot.cores = 0 ∧ t.aon.alert = true ∧ t.hl.moduleSeq = s.hl.moduleSeq + 1 ∧ t.engs = s.engs ∧ t.units = s.units)
    ∧ (s.boot.cores ≠ 0 → s.boot.ready = false → exec .ccBootFail s
        = .next ((s.flag .CC_ERR_STATUS_BOOT_FAIL).raise 0x0038 sevModuleFatal 0 0 []))

/-- 14 R532-R538, 05 R218, R225: training of stacks without a failed channel ends in state 3 with its stacks done; the
record is rewritten with the next generation; memory initialisation ends with memory below the record region zero, or fails with more
than 128 channels mapped out. -/
def Obligations.TrainingAndMemoryInit : Prop :=
  ∀ (s : State),
    (∀ j, s.boot.job = some j → j.replay = false → ∃ t, exec (.trainDone [] 0) s = .next t ∧ t.boot.job = none
      ∧ t.boot.trained = s.boot.trained ||| j.stks ∧ t.f .GLB_TRAIN_STATUS_STATE = 3
      ∧ t.f .GLB_TRAIN_STATUS_STACK_DONE = s.f .GLB_TRAIN_STATUS_STACK_DONE ||| j.stks
      ∧ t.f .GLB_TRAIN_STATUS_STACK_FULL = s.f .GLB_TRAIN_STATUS_STACK_FULL ||| j.stks
      ∧ t.hl.moduleSeq = s.hl.moduleSeq + 1 ∧ t.units = s.units)
    ∧ (s.f .GLB_REC_STATUS_STALE ≠ 0 → s.f .GLB_REC_STATUS_VALID ≠ 0 → s.unheld (.master 0x61) →
      let gen := s.f .GLB_REC_STATUS_GEN + 1
      s.comes .recUpdated .recUpdated (.master 0x61)
        (((s.arm.setF .GLB_REC_STATUS_GEN 0 0 gen).setF .GLB_REC_STATUS_STALE 0 0 0).writeRecordRegion.raise
          0x0058 sevNone 0 0 [gen]))
    ∧ (s.f .MEM_INIT_STATE = 1 → s.mem.relocR ≤ 128 → s.sec.twins = [] → (∀ n, n < 8 → (s.unit .memSite n).st ≠ some .failed) →
        ∃ t, exec .memInitDone s = .next t ∧ t.f .MEM_INIT_STATE = 2 ∧ t.f .HL_STATUS_STAGE = 2 ∧ t.mem.inited = true
          ∧ (∀ n, n < 8 → t.f .MEM_STATUS_INIT_DONE n = 1) ∧ t.f .GLB_GRAN_COUNT_COUNT = 509 - 2 * s.mem.relocR
          ∧ ∀ a, a < recordBase → NTbl.at 0 t.mem.cells a = 0)
    ∧ (s.f .MEM_INIT_STATE = 1 → (128 < s.mem.relocR ∨ ∃ n, n < 8 ∧ (s.unit .memSite n).st = some .failed) →
        exec .memInitDone s = .next ((s.setF .MEM_INIT_STATE 0 0 3).raise 0x2060 sevModuleFatal 0 0 [s.mem.relocR]))

/-! ### Engines, queues and tallies (03, 04) -/

/-- 04 R131-R138, R166: the queue register rows: a TAIL that R133 accepts is the new TAIL, a CQ_HEAD likewise, and the current
value of either is accepted without effect; enabling a
disabled queue with good rings empties it and sets it RUNNING, disabling one with nothing running makes it DISABLED,
RESUME sets a halted one RUNNING, and what was read ahead in a queue is discarded; a word goes into the program store at INDEX, which moves on. -/
def Obligations.QueueRegisterRows : Prop :=
  ∀ (s : State) (m : Master) (e q : Nat) (v : Word),
    (bits v.toNat 31 0 = s.f .CE_WQ_TAIL_TAIL e q → writeGives (.ceWqTail m e q v) m .CE_WQ_TAIL e q v.toNat s s)
    ∧ (bits v.toNat 31 0 = s.f .CE_CQ_HEAD_HEAD e q → writeGives (.ceCqHead m e q v) m .CE_CQ_HEAD e q v.toNat s s)
    ∧ (s.tailOk e q (bits v.toNat 31 0) = true → bits v.toNat 31 0 ≠ s.f .CE_WQ_TAIL_TAIL e q →
        (s.pstate e ≠ 1 ∨ s.qstate e q = qDisabled ∨ s.qhead e q = bits v.toNat 31 0) →
      writeGives (.ceWqTail m e q v) m .CE_WQ_TAIL e q v.toNat s (s.setF .CE_WQ_TAIL_TAIL e q (bits v.toNat 31 0)))
    ∧ (s.tailOk e q (bits v.toNat 31 0) = true → bits v.toNat 31 0 ≠ s.f .CE_WQ_TAIL_TAIL e q → s.pstate e = 1 → s.qstate e q ≠ qDisabled →
        s.qhead e q ≠ bits v.toNat 31 0 →
      writeGives (.ceWqTail m e q v) m .CE_WQ_TAIL e q v.toNat s
        ((s.setF .CE_WQ_TAIL_TAIL e q (bits v.toNat 31 0)).setF .CE_STATUS_PSTATE e 0 0))
    ∧ (idxDist (s.f .CE_WQ_STATUS_CQ_TAIL e q) (bits v.toNat 31 0) ≤ 2 ^ s.f .CE_CQ_CFG_LOG2_SIZE e q →
        idxDist (bits v.toNat 31 0) (s.f .CE_CQ_HEAD_HEAD e q) < 2 ^ 31 → bits v.toNat 31 0 ≠ s.f .CE_CQ_HEAD_HEAD e q →
      writeGives (.ceCqHead m e q v) m .CE_CQ_HEAD e q v.toNat s (s.setF .CE_CQ_HEAD_HEAD e q (bits v.toNat 31 0)))
    ∧ (s.qstate e q = qDisabled →
        s.ringOk (s.plotOfEngine e) (s.f .CE_WQ_BASE_BASE e q * 4096) (2 ^ bits v.toNat 19 16 * 128) false = true →
        s.ringOk (s.plotOfEngine e) (s.f .CE_CQ_BASE_BASE e q * 4096) (2 ^ s.f .CE_CQ_CFG_LOG2_SIZE e q * 32) true = true →
      ∃ t, writeGives (.queueEnable m e q v) m .CE_WQ_CFG e q (setBit v.toNat 0 true) s t
        ∧ t.qstate e q = qRunning ∧ t.qhead e q = 0 ∧ t.f .CE_WQ_TAIL_TAIL e q = 0 ∧ t.f .CE_CQ_HEAD_HEAD e q = 0
        ∧ t.f .CE_WQ_STATUS_CQ_TAIL e q = 0 ∧ t.f .CE_WQ_CFG_ENABLE e q = 1 ∧ t.mem = s.mem
        ∧ t.eng e = { s.eng e with ahead := (s.eng e).ahead.filter (fun x => x.q != q) }
        ∧ (∀ k, k ≠ e → t.eng k = s.eng k)
        ∧ ∀ f k l, (k, l) ≠ (e, q) → t.f f k l = s.f f k l)
    ∧ ((s.qstate e q = qRunning ∨ s.qstate e q = qHalted) → bits v.toNat 19 16 = s.f .CE_WQ_CFG_LOG2_SIZE e q →
        (s.eng e).first q = none →
      ∃ t, writeGives (.queueDisable m e q v) m .CE_WQ_CFG e q (setBit v.toNat 0 false) s t
        ∧ t.qstate e q = qDisabled ∧ t.f .CE_WQ_CFG_ENABLE e q = 0 ∧ t.engs = s.engs ∧ t.mem = s.mem
        ∧ ∀ f k l, (k, l) ≠ (e, q) → t.f f k l = s.f f k l)
    ∧ ((s.qstate e q = qRunning ∨ s.qstate e q = qHalted) → bits v.toNat 19 16 = s.f .CE_WQ_CFG_LOG2_SIZE e q →
        (s.eng e).first q ≠ none →
      ∃ t, writeGives (.queueDisable m e q v) m .CE_WQ_CFG e q (setBit v.toNat 0 false) s t ∧ t.qstate e q = qStopping
        ∧ t.engs = s.engs)
    ∧ (s.qstate e q = qHalted → bits v.toNat 19 16 = s.f .CE_WQ_CFG_LOG2_SIZE e q → bits v.toNat 0 0 = 1 →
      writeGives (.resume m e q v) m .CE_WQ_CFG e q (setBit v.toNat 2 true) s
        (((s.setF .CE_WQ_CFG_PRIORITY e q (bits v.toNat 9 8)).dropAhead e q).setF .CE_WQ_STATUS_STATE e q qRunning))
    ∧ (s.laneBusy e = false → writeGives (.ceLpsData m e (some v)) m .CE_LPS_DATA e 0 v.toNat s
      ((s.setEng e { s.eng e with lps := NTbl.put 0 (s.eng e).lps (s.f .CE_LPS_INDEX_INDEX e) v.toNat }).setF
        .CE_LPS_INDEX_INDEX e 0 ((s.f .CE_LPS_INDEX_INDEX e + 1) % 1024)))
    ∧ (∀ off x s0 s1 r, regAddr .CE_LPS_DATA e 0 = some (ctlBase + off) → ctlOff (ctlBase + off) = some off →
        s0.sends m off 8 false r s → isDebug m = false → s.regRead m off 8 = (hOk, x, s1) →
        exec (.ceLpsData m e none) s0 = .next (s1.told r m hOk x))

/-- 04 R167-R169: the tally rows: a write sets the count, a signal adds to it, and the waits are judged again. -/
def Sys2Proof.Machine.tallyRegisterRows : Prop :=
  ∀ (s : State) (m : Master) (t : Nat) (v : Word),
    writeGives (.tallyValue m t v) m .TALLY_VALUE t 0 v.toNat s (s.setTally t (bits v.toNat 31 0))
    ∧ writeGives (.tallySignal m t v) m .TALLY_SIGNAL t 0 v.toNat s (s.signalTally t (bits v.toNat 31 0))

/-- 04 R169: judging the waits of a tally: a WAIT that does not consume is satisfied where the tally has reached its
amount; the oldest consuming one that is satisfied takes its amount off. -/
def Sys2Proof.Machine.waitsAreJudged : Prop :=
  ∀ (s : State) (w : TWait), s.waits = [w] →
    (s.tally w.tally < w.amount → s.judge w.tally = s)
    ∧ (w.amount ≤ s.tally w.tally → w.consume = false →
      (s.judge w.tally).waits = [] ∧ (s.judge w.tally).tally w.tally = s.tally w.tally)
    ∧ (w.amount ≤ s.tally w.tally → w.consume = true →
      (s.judge w.tally).waits = [] ∧ (s.judge w.tally).tally w.tally = s.tally w.tally - w.amount)

/-- 04 R167-R170: tallies: the two register rows, the arithmetic of VALUE, how a waiting order is judged, and its limit. -/
def Obligations.TalliesAndWaits : Prop := tallyRegisterRows ∧ tallyArithmetic ∧ waitsAreJudged ∧ waitTimesOut

/-- 03 R119-R122, 09 R363-R365: FALLOW and wake requests that are accepted, each reported with its SEQ: an engine begins to
drain, or to wake with its clock restored, a site to drain or to wake, its reset released once its reference clock has run for
100 µs; a request for a state already reached needs no action. -/
def Obligations.FallowRequestRows : Prop :=
  ∀ (s : State) (m : Master) (v : Word) (n : Nat), s.umReady = true →
    let w (a c : Nat) : Nat := putBits (putBits v.toNat 9 8 a) 4 4 c
    let q := bits v.toNat 15 12
    n = bits v.toNat 2 0 →
    (s.plotOfEngine n = none → s.pstate n ≠ 2 → s.pstate n ≠ 3 → s.pstate n ≠ 5 →
      ((s.unit .engine n).st = some .present →
        ((s.eng n).halted = false → writeGives (.engineFallow m v) m .PWR_FALLOW_REQ 0 0 (w 1 0) s
          (let s1 := (s.fallowResult q 1 0 (some (0, n))).setF .CE_STATUS_PSTATE n 0 2
           (if s1.f .CE_DRAIN_LIMIT_LIMIT_US n = 0 then s1.drainAbort n else s1).engineQuiet n))
        ∧ writeGives (.engineWake m v) m .PWR_FALLOW_REQ 0 0 (w 2 0) s (s.fallowResult q 5 1 none))
      ∧ ((s.unit .engine n).st = some .fallow → ((s.dom n).ever = true ∨
            (s.f .CLK_DOM_CFG_PLL_EN n ≠ 0 ∧ s.f .CLK_DOM_STATUS_LOCKED n ≠ 0)) →
        writeGives (.engineWake m v) m .PWR_FALLOW_REQ 0 0 (w 2 0) s
          (((s.fallowResult q 4 0 (some (0, n))).setF .CE_STATUS_PSTATE n 0 5).engineClock n))
      ∧ ((s.unit .engine n).st = some .fallow → (s.eng n).halted = false →
        writeGives (.engineFallow m v) m .PWR_FALLOW_REQ 0 0 (w 1 0) s (s.fallowResult q 5 1 none)))
    ∧ (s.plotOfSite n = none → s.siteBusy n = false →
      ((s.unit .site n).st = some .present →
        writeGives (.siteFallow m v) m .PWR_FALLOW_REQ 0 0 (w 1 1) s ((s.fallowResult q 1 0 (some (1, n))).siteDrainStart n)
        ∧ writeGives (.siteWake m v) m .PWR_FALLOW_REQ 0 0 (w 2 1) s (s.fallowResult q 5 1 none))
      ∧ ((s.unit .site n).st = some .fallow → s.f .SITE_CFG_FITTED n ≠ 0 → ((s.dom (siteDom n)).ever = true ∨
            (s.f .CLK_DOM_CFG_PLL_EN (siteDom n) ≠ 0 ∧ s.f .CLK_DOM_STATUS_LOCKED (siteDom n) ≠ 0)) →
        ∃ t, writeGives (.siteWake m v) m .PWR_FALLOW_REQ 0 0 (w 2 1) s t ∧ (t.link n).waking = true
          ∧ (t.link n).rails = true ∧ (t.link n).refclk = true ∧ t.f .SITE_STATUS_LINK n = 1
          ∧ (t.link n).rstLow = (s.link n).rstLow
          ∧ ((s.link n).hold = false → (t.link n).releaseAt = some (max ((t.link n).clkAt + 100) (s.link n).lowUntil))
          ∧ t.f .PWR_FALLOW_RESULT_PHASE = 4 ∧ t.f .PWR_FALLOW_RESULT_SEQ = q ∧ t.units = s.units))

/-- 03 R121, R122, 07 R273, 09 R364: how FALLOW and waking go on: the drain limit aborts what runs, a drained site fences
its port, the fence ends with the stub in place and the unit off, or the clock of one that failed stopped, and a wake-up test that finds no fault beyond the
spares makes the engine PRESENT. -/
def Obligations.FallowSequence : Prop :=
  ∀ (s : State) (n : Nat),
    (s.pstate n = 2 → exec (.ceDrainLimitExpiry n) s = .next (s.drainAbort n))
    ∧ (s.siteLinkState n = 6 → (s.link n).fencing = false → (s.link n).recalling = false →
        exec (.siteDrainDone n) s = .next (s.siteDrained n)
        ∧ exec (.siteDrainLimitExpiry n) s = .next (s.siteDrained n))
    ∧ ((s.qport n).fence = 1 → s.portBusy n = false → n < 8 → s.pstate n = 3 → 
        (s.unit .engine n).st = some .present → ∃ t, exec (.fenceComplete n) s = .next t ∧ (t.qport n).fence = 2
          ∧ (t.dom n).running = false ∧ t.pstate n = 4 ∧ (t.unit .engine n).st = some .fallow ∧ (t.eng n).tile = []
          ∧ (t.eng n).lps = [])
    ∧ ((s.qport n).fence = 1 → s.portBusy n = false → n < 8 → s.pstate n ≠ 3 → (s.unit .engine n).st = some .failed →
        exec (.fenceComplete n) s = .next (((s.setFence n 2).stopDom n).railsFollow s))
    ∧ ((s.qport n).fence = 1 → s.portBusy n = false → (n < 8 → s.pstate n ≠ 3 ∧ (s.unit .engine n).st ≠ some .failed) →
        (16 ≤ n → n < 24 → (s.link (n - 16)).fencing = false) →
        exec (.fenceComplete n) s = .next (s.setFence n 2))
    ∧ ((s.qport (16 + n)).fence = 1 → s.portBusy (16 + n) = false → n < 8 → (s.link n).fencing = true →
        exec (.fenceComplete (16 + n)) s = .next ((s.setFence (16 + n) 2).siteOff n))
    ∧ (∀ r, s.pstate n = 5 → n < 8 → engineBad r = false → (s.unit .engine n).st = some .fallow →
        ∃ t, exec (.wakeTestDone n r) s = .next t ∧ (t.unit .engine n).st = some .present ∧ t.pstate n = 1
          ∧ t.dom n = s.dom n ∧ (t.qport n).fence = 0 ∧ (t.eng n).runs = []
          ∧ (∀ q, q < 16 → t.qstate n q = qDisabled ∧ t.qhead n q = 0))

/-- 04 R181, R182, 03 R111, 07 R273: a hard fault of a PRESENT engine, in its front end or not: it is FAILED, its clock stopped
unless a request of its port still awaits a response, its contents gone, its waits withdrawn, CE_FAULT_Q holds TAIL of each queue, and NEXT as it stood where the front end's own fault
leaves no records, and its port is behind a fence; a fault of an engine that has failed is reported again (01 R631). -/
def Obligations.EngineFaults : Prop :=
  (∀ (s : State) (e cause : Nat) (front : Bool), (s.unit .engine e).st = some .failed →
    exec (.engFault e cause front) s = .next ((s.flag .CE_ERR_STATUS_HARD_FAULT e).raise 0x1020 sevUnitFatal 1 e
      [0, if cause = 1 then 1 else 2]))
  ∧ ∀ (s : State) (e cause : Nat) (front : Bool), e < 8 → (s.unit .engine e).st = some .present →
    ∃ t, exec (.engFault e cause front) s = .next t ∧ (t.unit .engine e).st = some .failed
      ∧ ((t.dom e).running = false ∨ t.portBusy e = true)
      ∧ t.pstate e = 4 ∧ (t.eng e).runs = [] ∧ (t.eng e).tile = [] ∧ (∀ w, w ∈ t.waits → w.e ≠ e)
      ∧ t.f .CE_ERR_STATUS_HARD_FAULT e = 1 ∧ ((t.qport e).fence = 1 ∨ (t.qport e).fence = 2)
      ∧ (∀ q, q < 16 → (front = true → t.f .CE_FAULT_Q_NEXT e q = s.f .CE_WQ_STATUS_CQ_TAIL e q)
        ∧ t.f .CE_FAULT_Q_TAIL e q = s.f .CE_WQ_TAIL_TAIL e q)

/-! ### The mesh (07) -/

/-- 07 R260, R281: a request that its port accepts and that may leave in this window is issued; one that must wait
for its window is held. A write to a register may make a unit access memory, and waits with that access (log 21). -/
def Obligations.MeshRequestRows : Prop :=
  ∀ (s s1 : State) (q : MeshReq) (r : Req) (data : Bytes) (poison : Nat) (errs : List LineErr),
    ((s.debugReq q.id q.addr q.len false).present? q false [] 0 errs = (s1, some r) →
      s1.plotCtlRefused q.id q.addr false = false →
      (s1.mayIssue r = true → exec (.read q errs) s = .next (s1.issue r))
      ∧ (s1.mayIssue r = false → exec (.read q errs) s = .next s1))
    ∧ ((s.debugReq q.id q.addr q.len true).present? q true data poison errs = (s1, some r) →
      s1.plotCtlRefused q.id q.addr true = false →
      (∀ o, target q.addr ≠ .ctl o) →
      (s1.mayIssue r = true → exec (.write q data poison errs) s = .next (s1.issue r))
      ∧ (s1.mayIssue r = false → exec (.write q data poison errs) s = .next s1))
    ∧ ((s.arm.debugReq q.id q.addr q.len true).present? q true data poison errs = (s1, some r) →
      s1.plotCtlRefused q.id q.addr true = false → (∃ o, target q.addr = .ctl o) →
      s.comesTo (.write q data poison errs) (.master q.id) (if s1.mayIssue r then s1.issue r else s1))

/-- 07 R262, R271: a response whose outcome stands reaches its initiator, once the channels of its lines have sent what it
waits for (05 R193): the request leaves the port's list, and a port other than a site's shows STATUS, data and poison; a late
one is discarded and counted. -/
def Obligations.MeshResponses : Prop :=
  ∀ (s : State) (port tag : Nat) (site : Bytes) (r : Req), s.req port tag = some r → r.phase = .issued → r.ans = true →
    r.gone = false →
    (r.write = false → exec (.dataResponse port tag site) s = .next ((s.chanFor port tag).respond r))
    ∧ (r.write = true → exec (.completionResponse port tag) s = .next ((s.chanFor port tag).respond r))
    ∧ (s.respond r).req port tag = none
    ∧ (r.late = false → r.dropped = false → r.run = none → ¬(16 ≤ port ∧ port < 24) →
        (s.respond r).out.getLast? = some (.response port tag r.status r.rdata r.rpoison))
    ∧ (r.late = true → (s.respond r).f .QOS_PORT_COUNT_LATE port = satAdd 16 (s.f .QOS_PORT_COUNT_LATE port) 1)

/-- 07 R267, R269-R271: a waiting packet's urgency rises by one, to 15, one of the mesh or an agent's that waits for a tracker; a
free tracker goes to the most urgent request that waits, one of the mesh or one of an agent; a request whose timer, as it was
set at issue, expires is answered ERR_TIMEOUT, counted, and stays until its late response, one of the mesh or of an agent. -/
def Obligations.MeshTimers : Prop :=
  ∀ (s : State) (port tag n : Nat) (r : Req),
    (s.req port tag = some r → r.phase ≠ .waitPort →
      exec (.urgencyAge port tag) s = .next (s.updReq port tag (fun r => { r with urg := min 15 (r.urg + 1) })))
    ∧ (s.req port tag = none →
      exec (.urgencyAge port tag) s = .next { s with coh := { s.coh with waiting := s.coh.waiting.map (fun h =>
        if h.inPort = port ∧ h.tag % 4096 = tag then { h with urg := min 15 (h.urg + 1) } else h) } })
    ∧ (s.req port tag = none → ∀ h, s.cohOut.find? (fun h => h.inPort == port && decide (h.tag % 4096 = tag)
        && decide (h.since + h.limit ≤ s.now)) = some h →
      let id := if h.agent < 8 then 0x100 + 0x40 * h.agent + h.tag / 4096 % 64 else h.tag / 4096 % 4
      exec (.meshTimeout port tag) s
        = .next (((s.hreqFails h stTimeout false).timedOut port id (h.line * 64) h.cls).idleClass port h.cls))
    ∧ (s.req port tag = some r → r.late = false → r.phase ≠ .waitPort → r.since + r.limit ≤ s.now →
      exec (.meshTimeout port tag) s = .next (
        let s2 := ((s.updReq port tag (fun r => { r with late := true })).timedOut port r.id r.pa r.cls).idleClass port r.cls
        match r.run with
        | some x => s2.runAnswer x r.pa stTimeout
        | none => if r.dropped then s2 else s2.reply port r.tag r.id r.pa r.len r.write stTimeout [] 0 r.arrUrg r.cls))
    ∧ (let t := s.timedOut port r.id r.pa r.cls
       t.f .QOS_PORT_COUNT_TIMEOUTS port = satAdd 32 (s.f .QOS_PORT_COUNT_TIMEOUTS port) 1 ∧ t.f .MESH_ERR_STATUS_TIMEOUT = 1
        ∧ t.mem = s.mem ∧ t.units = s.units)
    ∧ ((r.urg, r.port, Sum.inl r) ∈ s.waiters n → (∀ x, x ∈ s.waiters n → x ≠ (r.urg, r.port, Sum.inl r) → x.1 < r.urg) →
      exec (.trackerGrant n) s = .next ((((s.setMsite n { s.msite n with lastPort := r.port }).updReq r.port r.tag (fun x =>
        { x with phase := .issued, trk := true })).tracker n r.c0 true).atHome { r with phase := .issued }))
    ∧ (∀ (h : HReq), let w : Nat × Nat × (Req ⊕ HReq) := (h.urg, h.inPort, .inr h)
      w ∈ s.waiters n → (∀ x, x ∈ s.waiters n → x ≠ w → x.1 < h.urg) →
      let s1 := s.setMsite n { s.msite n with lastPort := h.inPort }
      exec (.trackerGrant n) s
        = .next (State.acceptHreq { s1 with coh := { s1.coh with waiting := s1.coh.waiting.erase h } } h).serveReady)

/-- 07 R284-R292: a commit whose settings fit is accepted and takes effect at its window boundary; the end of a window
judges the misses, puts in force what is due, starts new counts, and lets go on what its ceilings allow. -/
def Sys2Proof.Machine.regulatorRows : Prop :=
  ∀ (s : State) (m : Master) (v : Word),
    (s.mesh.pending = [] →
      (let qs := (List.range 30).map s.staged
       (∀ p, p < 30 → (s.staged p).malformed = false)
       ∧ (∀ n, n < 8 → 5 * load840 qs false n ≤ 4 * 840 * (s.msite n).cap)
       ∧ (∀ p, p < 30 → 5 * (s.staged p).guarSum ≤ 4 * s.portCap p)) →
      writeGives (.qosCommitGo m v) m .QOS_COMMIT 0 0 (setBit v.toNat 0 true) s
        (let s1 := s.commitResult (bits (setBit v.toNat 0 true) 15 12) 0 0 0 0 0
         { s1 with mesh := { s1.mesh with
           pending := [{ windows := 6, commit := some ((List.range 30).map s.staged) }] } }))
    ∧ exec .qosWindowEnd s = .next (
        let s2 := ((List.range 30).foldl State.portWindow ((List.range 30).foldl State.portMisses s)).pendingTick
        State.reissue s2.mesh.reqs [] s2)
    ∧ (s.mesh.reqs = [] → s.cohOut = [] → s.coh.parked = [] →
      (∀ p c, p < 30 → c < 8 → ((s.qport p).cls c).ceil = 0 ∨ (s.qport p).used c ≤ ((s.qport p).cls c).ceil * 1000) →
      ∃ t, exec .qosWindowEnd s = .next t ∧ t.mesh.reqs = [] ∧ t.mem = s.mem ∧ t.units = s.units
        ∧ ∀ p, p < 30 → (t.qport p).issued = [] ∧ (t.qport p).done = [] ∧ (t.qport p).busyAll = 0)

/-- 07 R285-R287: a commit that is refused changes nothing but QOS_COMMIT_RESULT: BUSY while one waits, BAD_ARG for a
guarantee without a site or above its ceiling, OVERCOMMIT where a site or a port is promised more than 80 percent. -/
def Sys2Proof.Machine.refusedCommitKeepsRegulators : Prop :=
  ∀ (s t : State) (seq st : Nat), s.qosCommit seq = (st, t) → st ≠ hOk →
    t.mesh = s.mesh ∧ t.mem = s.mem ∧ (st = hBusy ∨ st = hBadArg ∨ st = hOvercommit)
      ∧ t.f .QOS_COMMIT_RESULT_SEQ = seq ∧ t.f .QOS_COMMIT_RESULT_CODE ≠ 0
      ∧ (s.mesh.pending ≠ [] → st = hBusy ∧ t.f .QOS_COMMIT_RESULT_CODE = 3)

/-- 07 R284-R292: the regulators: commits, refused commits, and window ends. -/
def Obligations.Regulators : Prop := regulatorRows ∧ refusedCommitKeepsRegulators

/-- A flit's replay on a link of a plane is counted, flagged and reported; the link's count of failed replays is then `k`. -/
def Sys2Proof.Machine.State.linkRetried (s : State) (plane link k : Nat) : State :=
  let t := ((s.count .MESH_RETRY_COUNT_COUNT 0 0 32 1).flag .MESH_ERR_STATUS_LINK_RETRY).raiseLimited 10000 0x3008
    sevCorrected 4 plane [plane, link] .owner link
  { t with mesh := { t.mesh with linkFails := PTbl.put 0 t.mesh.linkFails plane link k } }

/-- 07 R261, R277-R279: a flit replayed on a link of a plane that is up is counted and flagged, and the third failed replay in
a row is a plane failure; a plane that fails is FAILED and its requests are answered ERR_PLANE, or with the last plane the
mesh is lost; a router fault stops the planes it affects, a reserved COMMAND discards its packet. -/
def Obligations.MeshFailures : Prop :=
  ∀ (s : State) (plane link : Nat), plane ∈ s.planesUp →
    exec (.meshLinkRetry plane link false) s = .next (s.linkRetried plane link 0)
    ∧ (let k := PTbl.at 0 s.mesh.linkFails plane link
       (k < 2 → exec (.meshLinkRetry plane link true) s = .next (s.linkRetried plane link (k + 1)))
       ∧ (2 ≤ k → exec (.meshLinkRetry plane link true) s = exec (.meshPlaneFail plane) (s.linkRetried plane link 0)))
    ∧ (s.planesUp ≠ [plane] → (s.unit .plane plane).st = some .present → ∃ t, exec (.meshPlaneFail plane) s = .next t
        ∧ (t.unit .plane plane).st = some .failed ∧ t.planesUp = s.planesUp.filter (fun p => decide (p ≠ plane))
        ∧ (∀ r, r ∈ t.mesh.reqs → r.plane = plane → r.phase = .issued → r.ans = true))
    ∧ (s.planesUp = [plane] → exec (.meshPlaneFail plane) s = exec (.meshRouterFatal (2 ^ plane) none) s)
    ∧ (∀ mask, ∃ t, exec (.meshRouterFatal mask none) s = .next t ∧ t.aon.alert = true
        ∧ t.planesUp = s.planesUp.filter (fun p => !bit mask p) ∧ t.units = s.units ∧ t.hl.moduleSeq = s.hl.moduleSeq + 1)
    ∧ (∀ mask port tag, ∃ t, exec (.meshRouterFatal mask (some (port, tag))) s = .next t ∧ t.aon.alert = true
        ∧ t.planesUp = s.planesUp ∧ t.hl.moduleSeq = s.hl.moduleSeq + 1
        ∧ ∀ r, r ∈ t.mesh.reqs → r.port = port → r.tag = tag → r.phase ≠ .waitPort → r.gone = true)

/-! ### Stacked memory (05, 06) -/

/-- 05 R199, R201, R209: bytes written inside a line whose storage is not lost (a whole line, or part of one that is not
poisoned), in a granule without a twin, are read back; every other byte reads as before; a whole line written clears its
poison and poisoned data sets it. -/
def Obligations.MemoryReadsBack : Prop :=
  ∀ (s : State) (pa : Nat) (b : Bytes), s.sec.twins = [] → s.lineLost (pa / 64) = false → b ≠ [] →
    pa % 64 + b.length ≤ 64 →
    ((b.length = 64 ∨ s.poisoned (pa / 64) = false) →
      (s.writeLine pa b false).memBytes pa b.length = b
      ∧ (∀ a, a < pa ∨ pa + b.length ≤ a → (s.writeLine pa b false).memByte a = s.memByte a)
      ∧ (b.length = 64 → (s.writeLine pa b false).poisoned (pa / 64) = false))
    ∧ (s.writeLine pa b true).poisoned (pa / 64) = true
    ∧ (∀ l, l ≠ pa / 64 → ∀ p, (s.writeLine pa b p).poisoned l = s.poisoned l)

/-- 05 R198, R199: a read of a line that shows no error returns it as it stands; one with more wrong symbols than the
code corrects is stored as poison, counted and returned as poison. -/
def Obligations.UncorrectableReadPoisons : Prop :=
  ∀ (s : State) (line : Nat) (e : LineErr), s.sec.twins = [] → NTbl.at none s.mem.llc line = none →
    s.poisoned line = false → e.line = line → (s.chan (s.storeChan (line * 64))).erased = [] →
    4 < (e.pins.eraseDups.filter (fun p => decide (p < 72))).length →
    (s.readLine line [e] srcDemand).1 = true ∧ (s.readLine line [e] srcDemand).2.poisoned line = true
      ∧ (s.readLine line [e] srcDemand).2.f .MEM_UNCORR_COUNT_COUNT (s.home (line * 64))
        = satAdd 32 (s.f .MEM_UNCORR_COUNT_COUNT (s.home (line * 64))) 1
      ∧ (s.readLine line [] srcDemand).1 = false

/-- 06 R227-R235: adding an element through an alias: FP32 and BF16 round the exact sum to nearest even, INT32 wraps, and
the saturating INT32 clamps. -/
def Obligations.AliasArithmetic : Prop :=
  ∀ (v x : Nat), v < 2 ^ 32 → x < 2 ^ 32 →
    (aliasAdd 1 v x).1 = (fp32.roundArith ((fp32.decode v).add (fp32.decode x)).1).1
    ∧ (aliasAdd 2 v x).1 = (bf16.roundArith ((bf16.decode v).add (bf16.decode x)).1).1
    ∧ (aliasAdd 3 v x).1 = (v + x) % 2 ^ 32
    ∧ BitVec.ofNat 32 (aliasAdd 4 v x).1 = sat32 ((BitVec.ofNat 32 v).toInt + (BitVec.ofNat 32 x).toInt)

/-- 05 R185, R200, R206, R208, R219, 06 R243: the memory sites' own events: an interval ends with its withheld report; a
combining window closes; a refreshed bank has no row open; a patrol read moves on to the next place, the first one of a pass
puts the period then set in force (05 R226), the last one ends it, and none is made while a plot is scrubbed in the site; an interface error is retried
twice before the channel fails; a site's logic fault stops it and Sheaf. -/
def Obligations.MemoryEvents : Prop :=
  ∀ (s : State) (n ch line : Nat),
    ((s.msite n).uncorrOpen = true → (s.msite n).chanLossDue = [] →
      exec (.uncorrIntervalEnd n) s = .next (s.setMsite n { s.msite n with uncorrOpen := false }))
    ∧ (∀ c r, c / 32 = n → (s.msite n).uncorrOpen = true → (s.msite n).chanLossDue = c :: r →
      ∃ t, exec (.uncorrIntervalEnd n) s = .next t ∧ (t.msite n).uncorrOpen = true ∧ (t.msite n).chanLossDue = r
        ∧ t.hl.moduleSeq = s.hl.moduleSeq + 1)
    ∧ (∀ e, s.home (line * 64) = n → NTbl.at none s.mem.comb line = some e →
      ∃ t, exec (.combWindowClose n line) s = .next t ∧ NTbl.at none t.mem.comb line = none
        ∧ (t.msite n).combInUse = (s.msite n).combInUse - 1 ∧ t.mem.cells = s.mem.cells)
    ∧ (∀ bank, let c := s.sched (32 * n + ch)
      exec (.refresh n ch bank) s = .next (s.setSched (32 * n + ch) { c with rows := NTbl.put none c.rows bank none }))
    ∧ (∀ errs, s.scrubsSite n = true → exec (.patrolRead n line errs) s = .next s)
    ∧ (∀ errs, s.f .MEM_SCRUB_CFG_ENABLE n ≠ 0 → s.scrubsSite n = false → line < 2 ^ 33 → s.bankBlocked line = false →
      lineGran line < s.relocBase →
      s.home (s.storePa (line * 64)) = n → s.sla (s.storePa (line * 64)) / 64 = s.patrolNext n patrolGap (s.msite n).patrolPos →
      let s0 := if (s.msite n).patrolPos = 0 then
        s.setMsite n { s.msite n with period := s.f .MEM_SCRUB_CFG_PERIOD_H n } else s
      let s1 := s0.patrolLine line errs
      let after := s1.patrolNext n patrolGap (s.sla (s.storePa (line * 64)) / 64 + 1)
      (after < 2 ^ 30 → exec (.patrolRead n line errs) s = .next ((s1.setMsite n { s1.msite n with patrolPos := after }).setF
        .MEM_SCRUB_STATUS_PROGRESS n 0 (after / 2 ^ 14)))
      ∧ (2 ^ 30 ≤ after → exec (.patrolRead n line errs) s = .next (((s1.setMsite n { s1.msite n with
          patrolPos := 0 }).setF .MEM_SCRUB_STATUS_PROGRESS n 0 0).count .MEM_SCRUB_STATUS_PASSES n 0 32 1)))
    ∧ (ch < 256 → (s.unit .channel ch).st = some .present → ∀ cause, ∃ t, exec (.memChFail ch cause) s = .next t
        ∧ (t.unit .channel ch).st = some .failed ∧ (t.chan ch).failed = true ∧ t.f .MEM_ERR_STATUS_CH_FAILED (ch / 32) = 1
        ∧ t.f .MEM_ERR_STATUS_UNCORR (ch / 32) = 1)
    ∧ (ch < 256 → (s.chan ch).failed = false →
        exec (.channelRetrain ch true) s = .next (s.setChan ch { s.chan ch with retrains := 0 })
        ∧ ((s.chan ch).retrains < 2 → exec (.channelRetrain ch false) s
            = .next (s.setChan ch { s.chan ch with retrains := (s.chan ch).retrains + 1 }))
        ∧ (2 ≤ (s.chan ch).retrains → exec (.channelRetrain ch false) s
            = .next ((s.setChan ch { s.chan ch with retrains := 0 }).channelFail ch 1)))
    ∧ (∃ t, exec (.memSiteFatal n) s = .next t ∧ (t.msite n).fatal = true ∧ t.msAlive n = false ∧ t.aon.alert = true
        ∧ ∀ x, x < 16 → t.f .SHEAF_CTX_STATUS_STATE x = 0)

/-- 05 R219-R221, R635: stack sensor readings, in quarters of a degree: above 85 °C the refresh rate doubles, below 83 °C it
returns, between them it stays; three failures in a row report the sensor lost and double it. -/
def Obligations.StackSensor : Prop :=
  ∀ (s : State) (n : Nat) (q : Int), n < 8 → (s.dom (8 + n)).running = true → (s.msite n).fatal = false →
    (∃ t, exec (.memTempReading n (some q)) s = .next t ∧ t.f .MEM_TEMP_TEMP_Q2 n = ofInt 12 q
      ∧ (t.msite n).tempFails = 0
      ∧ (340 < q → (t.msite n).refresh2x = true ∧ t.f .MEM_STATUS_REFRESH_2X n = 1)
      ∧ (q < 332 → (t.msite n).refresh2x = false ∧ t.f .MEM_STATUS_REFRESH_2X n = 0)
      ∧ (332 ≤ q → q ≤ 340 → (s.msite n).tempRead = true → (t.msite n).refresh2x = (s.msite n).refresh2x))
    ∧ ((s.msite n).tempFails < 2 → ∃ t, exec (.memTempReading n none) s = .next t
      ∧ (t.msite n).tempFails = (s.msite n).tempFails + 1 ∧ (t.msite n).refresh2x = (s.msite n).refresh2x)
    ∧ ((s.msite n).tempFails = 2 → (s.msite n).tempLost = false → ∃ t, exec (.memTempReading n none) s = .next t
      ∧ (t.msite n).tempLost = true ∧ (t.msite n).refresh2x = true ∧ t.f .MEM_STATUS_REFRESH_2X n = 1)

/-- 05 R203-R205: a row with four corrected reads is repaired while its bank has a spare row: its bank is blocked and none
of the bank's commands is left, and at the end the spare is used and recorded as wear, no error is noted of it, and the bank is free; a bank with none
left reports it once. -/
def Obligations.RowRepair : Prop :=
  ∀ (s : State) (ch bank row : Nat),
    ((s.chan ch).repair = some (bank, row) → ∀ errs, ∃ t, exec (.postPackageRepair ch bank row errs) s = .next t
      ∧ NTbl.at 0 (t.chan ch).spareUsed bank = NTbl.at 0 (s.chan ch).spareUsed bank + 1 ∧ (t.chan ch).repair = none
      ∧ PTbl.at [] t.mem.rowErr ch (rowKey bank row) = []
      ∧ t.f .MEM_ERR_STATUS_PPR_DONE (ch / 32) = 1 ∧ t.mem.cells = s.mem.cells ∧ t.hl.moduleSeq = s.hl.moduleSeq + 1)
    ∧ (4 ≤ (PTbl.at [] s.mem.rowErr ch (rowKey bank row)).length → (s.chan ch).failed = false → (s.chan ch).repair = none →
     (NTbl.at 0 (s.chan ch).spareUsed bank < 2 →
      (∀ errs, ∃ t, exec (.postPackageRepair ch bank row errs) s = .next t)
      ∧ ∃ t, exec (.postPackageRepair ch bank row []) s = .next t ∧ (t.chan ch).repair = some (bank, row)
        ∧ (t.chan ch).spareUsed = (s.chan ch).spareUsed ∧ (∀ x, x ∈ (t.sched ch).queue → (s.lineRow x.line).1 ≠ bank)
        ∧ PTbl.at [] t.mem.rowErr ch (rowKey bank row) = [] ∧ t.mem.cells = s.mem.cells ∧ t.hl = s.hl)
     ∧ (2 ≤ NTbl.at 0 (s.chan ch).spareUsed bank → NTbl.at false (s.chan ch).pprNone bank = false →
      ∀ errs, ∃ t, exec (.postPackageRepair ch bank row errs) s = .next t ∧ t.f .MEM_ERR_STATUS_PPR_NONE (ch / 32) = 1
        ∧ NTbl.at false (t.chan ch).pprNone bank = true ∧ t.hl.moduleSeq = s.hl.moduleSeq + 1))

/-! ### Coherence (08) -/

/-- A coherent request of code `cmd` leaves for the home of `line`: its agent is heard and may send it, its site has fewer than
2,048 outstanding, and its port's checks pass. -/
def Sys2Proof.Machine.State.meetsHome (s : State) (a cmd addr line : Nat) (write : Bool) : Prop :=
  s.agentHeard a = true ∧ (a < 8 → s.siteOut a < 2048) ∧ s.agentAddr a addr write = (stOk, some line)
    ∧ s.agentMay a cmd line = true

/-- A home can be reached and has a tracker for any request that arrives: a plane is up, the home is alive, a tracker is free for
any class, and nothing that waits for one could have it (05 R191; 07 R263, R269). -/
def Sys2Proof.Machine.State.homeOpen (s : State) (line : Nat) : Prop :=
  s.planesUp ≠ [] ∧ s.msAlive (s.homePa (line * 64)) = true ∧ s.trackerOpen (s.homePa (line * 64)) false = true

/-- The home of a line is open, no other request of the line stands there, no bank that serves it is under repair, and no other
memory site that it needs is dead. -/
def Sys2Proof.Machine.State.homeFree (s : State) (line : Nat) : Prop :=
  s.homeOpen line ∧ s.lineBusy line = false ∧ s.repairHeld line true = false ∧ s.farDead line [] true = false
    ∧ s.farDead line [] false = false

/-- The state of a line's transaction once its grant is on its way: the entry that its GRANT_ACK will leave. -/
def Sys2Proof.Machine.State.granting (s : State) (a cmd line : Nat) (owned : Bool) (holders : Nat) : Prop :=
  ∃ x e, s.htxn line = some x ∧ x.phase = .grant ∧ x.req.agent = a ∧ x.req.cmd = cmd ∧ x.final = some e
    ∧ e.owned = owned ∧ e.holders = holders

/-- A coherent request that reaches its home with a tracker for it is accepted there, and else waits. -/
def Sys2Proof.Machine.coherentRow (row : Instr) (s : State) (a cmd addr line : Nat) (write : Bool) (data : Bytes)
    (poison : Bool) : Prop :=
  s.meetsHome a cmd addr line write →
    let x := s.agentReq a cmd addr line data poison none
    (x.2.agentTracker x.1 = true → exec row s = .next (x.2.acceptHreq x.1))
    ∧ (x.2.agentTracker x.1 = false →
      exec row s = .next { x.2 with coh := { x.2.coh with waiting := x.2.coh.waiting ++ [x.1] } })

/-- 08 R310, R311; 05 R191: RD_SHARED, RD_ANY, RD_OWN, RD_OWN_NODATA, RD_CURR and WR_INV are accepted at the home of their
line or wait for a tracker there. For a line that no agent holds and nothing waits for, where the filter has a way:
RD_SHARED is granted S, RD_ANY E (an agent outside plots), RD_OWN and RD_OWN_NODATA E, to the requester alone, and the
filter changes only at the GRANT_ACK; RD_CURR is answered with the line and may combine (06 R241), WR_INV writes it, and neither
leaves a transaction. A request whose line is busy waits behind those that came before it. -/
def Obligations.CoherentRequests : Prop :=
  ∀ (s : State) (a addr line : Nat) (data : Bytes) (poison : Bool),
    (coherentRow (.rdShared a addr) s a 0x10 addr line false [] false
      ∧ coherentRow (.rdAny a addr) s a 0x11 addr line false [] false
      ∧ coherentRow (.rdOwn a addr) s a 0x12 addr line true [] false
      ∧ coherentRow (.rdOwnNodata a addr) s a 0x13 addr line true [] false
      ∧ coherentRow (.rdCurr a addr) s a 0x14 addr line false [] false
      ∧ coherentRow (.wrInv a addr data poison) s a 0x15 addr line true data poison)
    ∧ (s.homeFree line → s.sfEnt line = none → (s.sfWays line).length < 16 →
      (s.meetsHome a 0x10 addr line false →
        ∃ t, exec (.rdShared a addr) s = .next t ∧ t.granting a 0x10 line false (2 ^ a) ∧ t.coh.sf = s.coh.sf)
      ∧ (s.meetsHome a 0x11 addr line false → (a < 8 → s.plotOfSite a = none) →
        ∃ t, exec (.rdAny a addr) s = .next t ∧ t.granting a 0x11 line true (2 ^ a) ∧ t.coh.sf = s.coh.sf)
      ∧ (s.meetsHome a 0x12 addr line true →
        ∃ t, exec (.rdOwn a addr) s = .next t ∧ t.granting a 0x12 line true (2 ^ a) ∧ t.coh.sf = s.coh.sf)
      ∧ (s.meetsHome a 0x13 addr line true →
        ∃ t, exec (.rdOwnNodata a addr) s = .next t ∧ t.granting a 0x13 line true (2 ^ a) ∧ t.coh.sf = s.coh.sf))
    ∧ (s.homeFree line → s.sfEnt line = none →
      (s.meetsHome a 0x14 addr line false →
        let x := s.agentReq a 0x14 addr line [] false none
        exec (.rdCurr a addr) s = .next ((x.2.cohData x.1 0 true).cohTraceNow x.1))
      ∧ (s.meetsHome a 0x15 addr line true →
        let x := s.agentReq a 0x15 addr line data poison none
        let y := (x.2.combClose line).homeWrite (line * 64 + addr % 64) (data.take (64 - addr % 64)) poison x.1.cls
        y.1 = stOk ∧ exec (.wrInv a addr data poison) s = .next ((y.2.cohAnswer x.1 0x81 0 stOk []).cohTraceNow x.1)))
    ∧ (s.meetsHome a 0x10 addr line false → s.lineBusy line = true → s.homeOpen line →
      ∃ t r, exec (.rdShared a addr) s = .next t ∧ t.coh.queue = s.coh.queue ++ [r]
        ∧ r.cmd = 0x10 ∧ r.agent = a ∧ r.line = line ∧ t.coh.txns = s.coh.txns ∧ t.coh.sf = s.coh.sf)
    ∧ (∀ r, s.htxn line = none → s.coh.queue.find? (fun r => r.line == line) = some r →
      s.repairHeld line r.writes = false → s.fromOwner r = false →
      exec (.homeTransactionStart line) s
        = .next (State.startHreq { s with coh := { s.coh with queue := s.coh.queue.erase r } } r).serveReady)
    ∧ (∀ x, s.htxn line = some x → x.phase = .alloc →
      (∀ v, x.victim = some v → s.htxn v = none) →
      exec (.sfAllocRetry line) s
        = .next ((s.count .COH_ALLOC_RETRY_COUNT (s.home (line * 64)) 0 32 1).sfAlloc x).serveReady)

/-- A snooped agent's answer is awaited in the line's transaction. -/
def Sys2Proof.Machine.State.awaits (s : State) (a line txn : Nat) (x : HTxn) : Prop :=
  s.htxn line = some x ∧ x.phase = .snoop ∧ x.txn = txn ∧ x.pend.any (fun w => w.agent == a && w.resp.isNone) = true

/-- The line's transaction with an agent's answer taken in. -/
def Sys2Proof.Machine.HTxn.answered (x : HTxn) (a k : Nat) : HTxn :=
  { x with pend := x.pend.map (fun w => if w.agent = a then { w with resp := some k } else w) }

/-- 08 R299, R303, R313-R316: snoops go to CC, which answers by its copy, or out on a chiplet's link; an awaited response
is taken in, with its dirty data written first, and the transaction goes on once every answer is in; a response that
nothing awaits is a protocol error; after SNOOP_TIMEOUT the agents that have not completed are lost. -/
def Sys2Proof.Machine.snoopsAndResponses : Prop :=
  ∀ (s : State) (a line txn : Nat) (x : HTxn) (d : Option Bytes),
    (s.awaits a line txn x → bit s.coh.up a = true →
      let s1 := match d with
        | some b => if x.req.cmd = 0x201 then s else s.memWrite (line * 64) (slice b 0 64) 0
        | none => s
      exec (.rspI a line txn d) s = .next ((s1.putHtxn (x.answered a 0)).snoopCheck line).serveReady
      ∧ exec (.rspS a line txn d) s = .next ((s1.putHtxn (x.answered a 1)).snoopCheck line).serveReady
      ∧ exec (.rspE a line txn d) s = .next ((s1.putHtxn (x.answered a 2)).snoopCheck line).serveReady
      ∧ exec (.rspLost a line txn) s = .next (s.lostAt x a).2.serveReady)
    ∧ (s.awaits a line txn x → bit s.coh.up a = true → x.pend.any (fun w => w.wbp && !w.wb) = false →
      x.pend.any (fun w => w.agent == a && !w.wb) = true →
      exec (.rspIWbp a line txn) s = .next (State.snoopCheck (
        let s1 := s.putHtxn { x with pend := x.pend.map (fun w =>
          if w.agent = a then { w with resp := some 0, wbp := true } else w) }
        s1.count .COH_WBP_COUNT (s1.home (line * 64)) 0 32 1) line).serveReady)
    ∧ (s.htxn line = none → bit s.coh.up a = true →
      exec (.rspI a line txn d) s = .next (s.protoErr a line 0x38)
      ∧ exec (.rspS a line txn d) s = .next (s.protoErr a line 0x39)
      ∧ exec (.rspE a line txn d) s = .next (s.protoErr a line 0x3A)
      ∧ exec (.rspIWbp a line txn) s = .next (s.protoErr a line 0x3B)
      ∧ exec (.rspLost a line txn) s = .next (s.protoErr a line 0x3C))
    ∧ (∀ snp row, (snp, row) ∈ ([(0x30, .snpInv), (0x31, .snpData), (0x32, .snpCur)]
        : List (Nat × (Nat → Nat → Nat → Instr))) →
      (s.awaits 8 line txn x → s.boot.dead = false → ∀ code b c,
        ccAnswer (s.freeCtr + 1) snp (ccNow s.freeCtr (NTbl.at none s.coh.cc line)) = some (code, b, c) →
        exec (row 8 line txn) s
          = .next ((State.setCc { s with freeCtr := s.freeCtr + 66 } line c).emit (.snoop code 8 line txn b)))
      ∧ (a < 8 → s.awaits a line txn x →
        exec (row a line txn) s = .next (s.siteSend a { cmd := snp, len := 64, addr := s.agentLine a line,
                                                        info := txn + s.home (line * 64) * 2 ^ 16 })))
    ∧ (∀ w, bit s.coh.up a = true → s.htxn line = some x → x.phase = .snoop → x.pend = [w] → w.complete = false → w.agent = a → a < 8 →
      exec (.snoopTimeout line) s
        = .next (((s.flag .COH_ERR_STATUS_SNOOP_TIMEOUT).linkDown a 8).agentLost a).serveReady)

/-- 08 R310-R314, R324: a GRANT_ACK ends the transaction and leaves the entry it promised, and that of a site does not come
before its grant is on the link; an EVICT_CLEAN leaves its sender without the line; an owner's EVICT_DIRTY takes a place in the
home's writeback buffer, writes the line and gives it up, and with no place left it waits for one; messages a home does not
expect are protocol errors. -/
def Sys2Proof.Machine.grantsAndEvictions : Prop :=
  ∀ (s : State) (a addr line : Nat) (data : Bytes) (poison : Bool),
    (s.agentHeard a = true → s.lineAddr a addr false = (stOk, some line) →
      (∀ x, s.htxn line = some x → x.phase = .grant → x.req.agent = a →
        s.agentMay a 0x20 line = true ∧ (a < 8 → (s.link a).acks.contains line = true)) →
      let s0 := (s.agentPacket a 0x20 line 64 0 false false none).2
      let s1 := if a < 8 then s0.setLink a { s0.link a with acks := (s0.link a).acks.erase line } else s0
      exec (.grantAck a addr) s = .next (s1.grantAckAt a line).serveReady
      ∧ (∀ x e, s.htxn line = some x → x.phase = .grant → x.req.agent = a → x.final = some e →
        (s1.grantAckAt a line).htxn line = none
        ∧ (e.holders ≠ 0 → (s1.grantAckAt a line).sfEnt line = some { e with used := s.coh.stamp + 1 })
        ∧ (e.holders = 0 → (s1.grantAckAt a line).sfEnt line = none))
      ∧ (s.htxn line = none → s1.grantAckAt a line = s1.protoErr a line 0x20))
    ∧ (a < 8 → s.agentHeard a = true → s.lineAddr a addr false = (stOk, some line) → (s.link a).acks.contains line = false →
      ∀ x, s.htxn line = some x → x.phase = .grant → x.req.agent = a → exec (.grantAck a addr) s = .next s)
    ∧ (s.agentHeard a = true → s.agentAddr a addr false = (stOk, some line) → s.agentMay a 0x18 line = true →
      let x := s.agentPacket a 0x18 line 64 0 false false none
      let s1 := x.2.ccAsk a line 0x18
      exec (.evictClean a addr) s = .next (s1.evictCleanAt a line x.1) ∧ (s1.evictCleanAt a line x.1).holds a line = false)
    ∧ (s.agentHeard a = true → s.agentAddr a addr true = (stOk, some line) → s.agentMay a 0x19 line = true →
      let n := s.homePa (line * 64)
      let x := s.agentPacket a 0x19 line 64 1 true false none
      let s1 := x.2.ccAsk a line 0x19
      let s2 : State := { s1 with coh := { s1.coh with evicts := NTbl.put 0 s1.coh.evicts n (s1.evictLoad n + 1) } }
      let y := s2.homeWrite (line * 64) (slice data 0 64) poison
      (s.evictLoad n < 256 → s.coh.evWait = [] → s.htxn line = none →
        (∀ e, s.sfEnt line = some e → e.owned = true → bit e.holders a = true →
          exec (.evictDirty a addr data poison) s = .next ((y.2.dropHolder line a).evictAck a line x.1 false y.1))
        ∧ (s.sfEnt line = none → exec (.evictDirty a addr data poison) s = .next (s2.protoErr a line 0x19)))
      ∧ (256 ≤ s.evictLoad n → exec (.evictDirty a addr data poison) s = .next { s1 with coh := { s1.coh with
          evWait := s1.coh.evWait ++ [{ agent := a, line, data, poison, ref := x.1, quiet := false }] } }))

/-- 08 R300, R309: errors of the ring and of a snoop filter. -/
def Sys2Proof.Machine.coherenceErrors : Prop :=
  ∀ (s : State) (n : Nat),
    exec (.cohRingReplay n) s
        = .next ((s.flag .COH_ERR_STATUS_RING_REPLAY).raiseLimited 10000 0x4018 sevCorrected 0 n [n] .op)
    ∧ (∃ t, exec (.cohRingFatal n) s = .next t ∧ t.coh.ringDown = true ∧ t.aon.alert = true
        ∧ t.hl.moduleSeq = s.hl.moduleSeq + 1 ∧ t.coh.txns = s.coh.txns)
    ∧ (∃ t, exec (.cohSfFatal n true) s = .next t ∧ t.aon.alert = true ∧ t.hl.moduleSeq = s.hl.moduleSeq + 1
        ∧ t.coh = s.coh)
    ∧ (∃ t, exec (.cohSfFatal n false) s = .next t ∧ t.f .COH_ERR_STATUS_SF_CORR = 1
        ∧ t.f .COH_SF_CORR_COUNT_COUNT n = satAdd 32 (s.f .COH_SF_CORR_COUNT_COUNT n) 1 ∧ t.coh = s.coh)

/-- 08 R299-R318: what homes do with snoop responses, grants, evictions, silence and errors. -/
def Obligations.HomeMessages : Prop := snoopsAndResponses ∧ grantsAndEvictions ∧ coherenceErrors

/-! ### Chiplet sites (09) -/

/-- 09 R351-R356, R362, R374: training: an agreed parameter exchange sets the peer's credits and the profile and goes on to
the mainbands; one that does not agree is tried three times; the link comes up at the highest rate at which three modules train,
with its modules' widths, and a site that wakes is PRESENT with its port open; the three register rows of SITE_CTL; a chiplet
reset holds SITEn_RST_N low for 1 ms and ends in training. -/
def Sys2Proof.Machine.siteTraining : Prop :=
  ∀ (s : State) (n : Nat) (p : SiteParam) (m : Master) (v : Word),
    (n < 8 → s.siteTrains n = true → s.siteLinkState n ∈ [0, 2, 3] →
      (s.paramOk n p = true → ∃ t, exec (.siteTraining n p) s = .next t ∧ t.siteLinkState n = 4
        ∧ t.f .SITE_STATUS_PROFILE_ACT n = (if p.profile = 1 then 3 else if p.role = 1 then 2 else 1)
        ∧ (t.link n).attempts = 0 ∧ t.f .SITE_PEER_CREDITS_REQ n = p.credits.getD 0 0 % 65536
        ∧ (t.link n).credits = (List.range 4).map (fun i => p.credits.getD i 0 % 65536)
        ∧ (t.link n).plan = (List.range 6).map (s.planModule n p) ∧ t.units = s.units)
      ∧ (s.paramOk n p = false → (s.link n).attempts < 2 → ∃ t, exec (.siteTraining n p) s = .next t
        ∧ t.siteLinkState n = 3 ∧ (t.link n).attempts = (s.link n).attempts + 1 ∧ t.units = s.units)
      ∧ (s.paramOk n p = false → 2 ≤ (s.link n).attempts →
        exec (.siteTraining n p) s = .next (((s.sideInit n).paramOut n).siteTrainFail n)))
    ∧ (∀ x, (s.link n).releaseAt = some x → s.siteMayRelease n = true → (s.siteRelease n).siteTrains n = true →
      exec (.siteTraining n p) s = exec (.siteTraining n p) (s.siteRelease n))
    ∧ (∀ rate trained, n < 8 → s.siteTrains n = true → s.siteLinkState n = 4 → 1 ≤ rate → rate ≤ (s.link n).tryRate →
      (∀ k, k < 6 → bit trained k = true ∧ ((s.link n).plan.getD k {}).width ≠ 0) →
      ∃ t, exec (.siteLinkUp n rate trained) s = .next t ∧ t.siteLinkState n = 5 ∧ t.f .SITE_STATUS_RATE n = rate
        ∧ (∀ k, k < 6 → t.umWidth n k = ((s.link n).plan.getD k {}).width) ∧ bit t.coh.up n = true
        ∧ (t.link n).waking = false
        ∧ ((s.link n).waking = true → (s.unit .site n).st = some .fallow →
          (t.unit .site n).st = some .present ∧ (t.qport (16 + n)).fence = 0))
    ∧ (∀ rate trained, n < 8 → s.siteTrains n = true → s.siteLinkState n = 4 → 1 ≤ rate → rate ≤ (s.link n).tryRate →
      s.coh.reclaim = [] →
      ((List.range 6).filter (fun k => bit trained k && ((s.link n).plan.getD k {}).width != 0)).length < 3 →
      (rate = 1 → exec (.siteLinkUp n rate trained) s = .next (s.siteTrainFail n))
      ∧ (1 < rate → exec (.siteLinkUp n rate trained) s = .next (s.setLink n { s.link n with tryRate := rate - 1 })))
    ∧ (n < 8 → (s.link n).hold = true → s.siteMayRelease n = true →
      exec (.chipletResetRelease n) s = .next (s.siteRelease n)
      ∧ ((s.siteRelease n).link n).rstLow = false ∧ (s.siteRelease n).siteLinkState n = 2)
    ∧ (∀ w t, s.siteCtl n (bits w 13 8) (bits w 1 1) (bits w 0 0) = (hOk, t) →
      (w = v.toNat → writeGives (.siteRetest m n v) m .SITE_CTL n 0 w s t)
      ∧ (w = setBit v.toNat 1 true → writeGives (.chipletReset m n v) m .SITE_CTL n 0 w s t)
      ∧ (w = setBit v.toNat 0 true → writeGives (.siteRetrain m n v) m .SITE_CTL n 0 w s t))
    ∧ (∀ r, n < 8 → ((s.siteCtl n r 0 0).2.link n).retest = (s.link n).retest ||| r)
    ∧ (∀ r, n < 8 → s.linkUp n = false → s.siteRails n = true →
      let l := (s.siteCtl n r 1 0).2.link n
      (s.siteCtl n r 1 0).2.siteLinkState n = 1 ∧ l.rstLow = true ∧ l.hold = true ∧ l.releaseAt = none
        ∧ l.lowUntil = s.now + 1000)
    ∧ (∀ r, n < 8 → s.linkUp n = true →
      (s.siteCtl n r 0 1).2 = (s.setLink n { s.link n with retest := (s.link n).retest ||| r }).linkDown n 11)

/-- 09 R357-R362, R366: a drop shows its cause, takes the site's agent down and leaves no request of the hub waiting for
the chiplet; a lane that fails while the link is down enters the repair record; a module that cannot hold x32 is FAILED at
width 0; a failed site holds its chiplet in reset behind a fence; a further fault of a failed module or site is reported again
(01 R631). -/
def Sys2Proof.Machine.siteDropsAndFailures : Prop :=
  ∀ (s : State) (n cause : Nat), n < 8 →
    (s.siteLinkState n = 5 → 1 ≤ cause → cause ≤ 11 → dropCounts cause = false →
      ∃ t, exec (.siteLinkDown n cause) s = .next t ∧ t.siteLinkState n = 0 ∧ t.f .SITE_LAST_DOWN_CAUSE n = cause
        ∧ t.f .SITE_ERR_STATUS_LINK_DOWN n = 1 ∧ t.f .SITE_STATUS_RATE n = 0 ∧ t.f .SITE_STATUS_PROFILE_ACT n = 0
        ∧ bit t.coh.up n = false ∧ (∀ r, r ∈ t.mesh.reqs → reqToSite n r = false) ∧ t.units = s.units)
    ∧ (s.linkUp n = true → exec (.resetNotice n) s = .next (s.linkDown n 1))
    ∧ (∀ h, h ∈ (s.link n).held → (s.link n).credits.getD (vcOf h.cmd) 0 < h.units →
      exec (.creditStall n) s = .next (s.linkDown n 6))
    ∧ (∀ k lane, k < 6 → lane < 64 → s.linkUp n = false →
      exec (.siteLaneRepair n k lane false) s = .next (s.setRepair n k
        (fitWidth (s.repair n k).width (laneUnion (s.repair n k).tx [lane]) (s.repair n k).rx))
      ∧ exec (.siteLaneRepair n k lane true) s = .next (s.setRepair n k
        (fitWidth (s.repair n k).width (s.repair n k).tx (laneUnion (s.repair n k).rx [lane]))))
    ∧ (∀ k, k < 6 → (s.unit .ucie (umNo n k)).st = some .present →
      ∃ t, exec (.siteUmFail n k) s = .next t ∧ (t.unit .ucie (umNo n k)).st = some .failed ∧ t.umWidth n k = 0
        ∧ t.f .SITE_ERR_STATUS_UM_FAIL n = 1)
    ∧ (∀ k, k < 6 → (s.unit .ucie (umNo n k)).st = some .failed → exec (.siteUmFail n k) s
      = .next ((s.flag .SITE_ERR_STATUS_UM_FAIL n).raise 0x5018 sevUnitFatal 6 (umNo n k) [n, k]))
    ∧ ((s.unit .site n).st = some .failed → exec (.siteFail n cause) s
      = .next ((s.flag .SITE_ERR_STATUS_FAIL n).raise 0x5040 sevUnitFatal 5 n [cause]))
    ∧ ((s.unit .site n).st = some .present →
      ∃ t, exec (.siteFail n cause) s = .next t ∧ (t.unit .site n).st = some .failed ∧ t.siteLinkState n = 1
        ∧ (t.link n).rstLow = true ∧ ((t.qport (16 + n)).fence = 1 ∨ (t.qport (16 + n)).fence = 2) ∧ t.f .SITE_ERR_STATUS_FAIL n = 1
        ∧ bit t.coh.up n = false)

/-- 09 R332, R333, R335-R337: a good flit in stream order takes effect, on a Bludric or a CXL link; one without slots or
credits is acknowledged and RX moves on; a flit whose CRC fails draws a NAK of the last good one; a READ's header becomes a
request at the site's port, and its credit comes back. -/
def Sys2Proof.Machine.bludricFlits : Prop :=
  ∀ (s : State) (n : Nat), n < 8 → s.linkUp n = true →
    (∀ f, s.flitFits n f = true → flitGood f = true → flitSeq f = (s.link n).rxNext →
      exec (.bludricFlit n f) s = .next ((State.flitsAhead n 1024 (s.flitTake n f)).linkControl n))
    ∧ (∀ f, s.flitFits n f = true → flitGood f = false →
      exec (.bludricFlit n f) s = .next ((s.flitBad n (flitSeq f)).linkControl n))
    ∧ (∀ b, s.f .SITE_STATUS_PROFILE_ACT n = 3 → (s.link n).rxBad = false → (s.link n).owed = [0, 0, 0, 0] →
      (flitGood (.bludric b) = true → leAt b 0 2 = (s.link n).rxNext → leAt b 4 4 = 0 → (s.link n).held = [] →
        (s.link n).ahead = [] → (s.link n).hdr = none → (s.link n).sent = [] → (s.link n).oweNak = false →
        ∃ t k, exec (.bludricFlit n (.bludric b)) s = .next t ∧ (t.link n).rxNext = ((s.link n).rxNext + 1) % 65536
          ∧ t.out = s.out ++ [.flit n k (.bludric (flitBytes (s.link n).txSeq ((s.link n).rxNext % 65536) 0 0 0 []))]
          ∧ t.mem = s.mem ∧ t.mesh = s.mesh ∧ t.coh = s.coh ∧ t.units = s.units)
      ∧ (flitGood (.bludric b) = false → (s.link n).sent.length < 1024 →
        ∃ t k, exec (.bludricFlit n (.bludric b)) s = .next t ∧ (t.link n).rxBad = true ∧ (t.link n).ahead = []
          ∧ t.out = s.out ++ [.flit n k (.bludric (flitBytes (s.link n).txSeq (((s.link n).rxNext + 65535) % 65536) 0 1 0
            []))]
          ∧ t.mem = s.mem ∧ t.mesh = s.mesh))
    ∧ (∀ h, let p := sitePkt h []
      p.wellFormed = true → p.cmd = 0x01 → (s.link n).waiting = [] → s.siteTakes n p.cmd p.tag = true →
      let r : MeshReq := { id := 0x100 + 0x40 * n + p.sub, tag := p.tag, addr := p.addr, len := p.len }
      let s1 := (s.setLink n { s.link n with waiting := [(h, [])] }).setLink n { s.link n with waiting := [] }
      s.pktIn n h [] = (s1.owe n 0 1).request r false [] 0 [])

/-- 09 R332-R366: the chiplet sites: training, drops and failures, and flits. -/
def Obligations.SiteLinks : Prop := siteTraining ∧ siteDropsAndFailures ∧ bludricFlits

/-! ### The Ethernet port (10 R375-R390) -/

/-- 10 R377-R381: the link comes up in its mode on its lanes; a loss, or an ordered change, restarts training; a silent
partner makes the port try the chip-to-module mode and negotiate again in turn; a lane in use that fails moves the port to
the other half with FALLBACK and ends it without; ETH_CFG orders the change for 100 µs later. -/
def Sys2Proof.Machine.ethernetLink : Prop :=
  ∀ (s : State) (m : Master) (v : Word),
    (∀ mode, (s.f .ETH_STATUS_LINK = 1 ∨ s.f .ETH_STATUS_LINK = 2) → (s.dom 21).running = true →
      modeFits s.trainMode mode = true → (s.umReady = true → s.lanesOk (s.lanesOfMode mode) = true) →
      ∃ t, exec (.ethLinkUp mode (s.lanesOfMode mode)) s = .next t ∧ t.f .ETH_STATUS_LINK = 3
        ∧ t.f .ETH_STATUS_MODE_ACT = mode ∧ t.f .ETH_STATUS_LANES_USED = s.lanesOfMode mode
        ∧ t.mesh.ethCap = modeCap mode
        ∧ ∀ i, i < 8 → t.f .ETH_LANE_LOCK i = b2n (bit (s.lanesOfMode mode) i))
    ∧ (∀ cause, s.eth.fatal = false → (s.f .ETH_STATUS_LINK = 3 ∨ s.eth.dropDue.isSome = true) →
      ∃ t, exec (.ethLinkDown cause) s = .next t ∧ (t.f .ETH_STATUS_LINK = 1 ∨ t.f .ETH_STATUS_LINK = 2)
        ∧ t.eth.dropDue = none ∧ t.f .ETH_STATUS_LANES_USED = 0 ∧ t.f .ETH_STATUS_MODE_ACT = t.trainMode
        ∧ (∀ i, i < 8 → t.f .ETH_LANE_LOCK i = 0) ∧ t.units = s.units)
    ∧ (∀ c, s.trainMode = c → (c = 0 ∨ c = 7) →
      (s.f .ETH_STATUS_LINK = 1 → exec .autonegTimeout s
        = .next ((s.setF .ETH_STATUS_LINK 0 0 2).setF .ETH_STATUS_MODE_ACT 0 0 (if c = 0 then 3 else 6)))
      ∧ (s.f .ETH_STATUS_LINK = 2 → exec .autonegTimeout s
        = .next ((s.setF .ETH_STATUS_LINK 0 0 1).setF .ETH_STATUS_MODE_ACT 0 0 c)))
    ∧ (∀ l, l < 4 → s.f .ETH_STATUS_LINK = 3 → s.f .ETH_STATUS_LANES_USED = 0xFF → s.eth.dropDue = none →
      (s.unit .ethLane l).st = some .present → s.lanesOk 0xF0 = true → s.othersLock l = true →
      (s.f .ETH_CFG_FALLBACK = 1 → ∃ t, exec (.ethLaneFail l) s = .next t
        ∧ (t.unit .ethLane l).st = some .failed ∧ t.eth.half = 1 ∧ t.eth.fall = some (fallMode s.trainMode)
        ∧ t.f .ETH_ERR_STATUS_LANE_FAIL = 1 ∧ t.f .ETH_STATUS_MODE_ACT = fallMode s.trainMode)
      ∧ (s.f .ETH_CFG_FALLBACK = 0 → ∃ t, exec (.ethLaneFail l) s = .next t
        ∧ (t.unit .ethLane l).st = some .failed ∧ t.eth.fatal = true ∧ t.f .ETH_STATUS_LINK = 4
        ∧ t.f .ETH_ERR_STATUS_PORT_FATAL = 1 ∧ t.aon.alert = true))
    ∧ (let w := setBit v.toNat 15 true
       writeGives (.ethRetrain m v) m .ETH_CFG 0 0 w s (s.ethCfg w))
    ∧ writeGives (.ethModeChange m v) m .ETH_CFG 0 0 v.toNat s (s.ethCfg v.toNat)
    ∧ (∀ w, (s.ethCfg w).f .ETH_CFG_MODE = bits w 14 12
      ∧ ((bits w 15 15 = 1 ∨ bits w 14 12 ≠ s.f .ETH_CFG_MODE) → (s.ethCfg w).eth.dropDue = some (s.now + 100)))

/-- 10 R376-R389: the symbols that the FEC corrected are counted by lane, and a lane whose symbols of a millisecond exceed its
limit fails; each received frame meets the first row that
matches: dropped and counted, answered, taken as PFC, or
kept in the buffer; a pause starts where a lossless priority is named, ends when its quanta have passed, what waited for its
end then leaves in its turn, strict frames first, and it is reported once when it lasts too long. -/
def Sys2Proof.Machine.ethernetFrames : Prop :=
  ∀ (s : State) (f : Frame) (p : Nat) (quanta : List (Option Nat)), s.ethUp = true →
    (f.fecOk = false → exec (.frameReceive f) s = .next (((s.fecCorr f).ethCnt 0).ethCnt 14).fecLimit)
    ∧ (f.fecOk = true → f.fcsOk = false → exec (.frameReceive f) s = .next ((s.fecCorr f).ethCnt 0).fecLimit)
    ∧ (f.fecOk = true → f.fcsOk = true → 9216 < f.len → exec (.frameReceive f) s = .next ((s.fecCorr f).ethCnt 1).fecLimit)
    ∧ (f.fecOk = true → f.fcsOk = true → f.len ≤ 9216 → f.body = .pfc quanta →
      exec (.frameReceive f) s = .next ((s.fecCorr f).pfcIn quanta).fecLimit)
    ∧ (∀ c, s.judgeFrame f = .drop c → exec (.frameReceive f) s = .next ((s.fecCorr f).ethCnt c).fecLimit)
    ∧ (s.judgeFrame f = .take → exec (.frameReceive f) s = .next ((s.fecCorr f).bufferIn (s.framePrio f) f.len).2.fecLimit)
    ∧ ((∀ l, l < 8 → s.laneUsed l = true → s.corrRecent l ≤ s.f .ETH_LANE_LIMIT_SYMBOLS) → s.fecLimit = s)
    ∧ (∀ l, l < 8 → s.laneUsed l = true → s.f .ETH_LANE_LIMIT_SYMBOLS < s.corrRecent l →
      (∀ k, k < l → ¬(s.laneUsed k = true ∧ s.f .ETH_LANE_LIMIT_SYMBOLS < s.corrRecent k)) → s.fecLimit = s.laneFail l)
    ∧ (∀ target mac ip, s.own4.contains target = true →
      exec (.arpRequest target mac ip) s = .next (s.answerNd 0x0806 [mac, ip, target, s.fuses.mac]))
    ∧ (∀ target mac ip, s.own4.contains target = false → exec (.arpRequest target mac ip) s = .next (s.ethCnt 5))
    ∧ (∀ target dst mac ip, s.own6.contains target = true → (dst = target ∨ dst = solicited target) →
      exec (.neighborSolicitation target dst mac ip) s = .next (s.answerNd 0x86DD [mac, ip, target, s.fuses.mac]))
    ∧ (s.eth.arpCount = 0 → s.eth.txq = [] → s.paused (s.f .ETH_CFG_HL_PRIO) = none → ∀ k fs,
      (s.answerNd k fs).out = s.out ++ [.frame s.hlHdr k fs] ∧ (s.answerNd k fs).eth.arpCount = 1)
    ∧ (1000 ≤ s.eth.arpCount → s.now < s.eth.arpStart + 1000000 → ∀ k fs, s.answerNd k fs = s.ethCnt 12)
    ∧ exec (.pfcFrame quanta) s = .next (((quanta.take 8).zipIdx).foldl (fun s x => match x.1 with
        | some q => s.pfcClass x.2 q
        | none => s) (s.ethCnt 2)).txGo
    ∧ (s.lossless p = true → (s.pfcClass p 0).paused p = none
      ∧ ∀ q, q ≠ 0 → s.paused p = none → (s.pfcClass p q).paused p = some s.now)
    ∧ (s.lossless p = false → ∀ q, s.pfcClass p q = s)
    ∧ (p < 8 → exec (.pfcPauseExpiry p) s = .next (s.setPause p none).txGo
      ∧ let t := s.setPause p none
        t.paused p = none ∧ bit t.eth.storm p = false ∧ t.flds = s.flds ∧ t.out = s.out)
    ∧ (s.eth.txq = [] → s.txGo = s)
    ∧ (∀ x y, s.txPick = some x → y ∈ s.eth.txq → y.strict = true → s.txMay y = true → x.strict = true)
    ∧ (p < 8 → bit s.eth.xoff p = true → s.f .ETH_PFC_THRESH_XON_KIB p * 1024 < s.occ p →
      exec (.pfcXoffRepeat p) s = .next (s.emit (.pfc p 0xFFFF)))
    ∧ (p < 8 → (s.paused p).isSome = true → s.f .ETH_PFC_WD_MS ≠ 0 → bit s.eth.storm p = false →
      ∃ t, exec (.ethPfcStorm p) s = .next t ∧ bit t.eth.storm p = true ∧ t.f .ETH_ERR_STATUS_PFC_STORM = 1
        ∧ t.hl.moduleSeq = s.hl.moduleSeq + 1)

/-- 10 R375-R390: the Ethernet port. -/
def Obligations.EthernetPort : Prop := ethernetLink ∧ ethernetFrames

/-! ### Queue pairs and the transport (10 R390-R406) -/

/-- 10 R393, R398: the state changes of a queue pair that the state allows, and its doorbells: INIT from RESET, RTR from INIT
where the rings lie in memory, RTS from RTR at the maximal rate, RESET and ERROR from any other state; a doorbell's current value is accepted without effect. `t` is the state
before Sheaf judges its runs again (11 R436). A write that makes the queue pair access memory waits where that access does
(log 21). -/
def Obligations.QueuePairRows : Prop :=
  ∀ (s : State) (m : Master) (q : Nat) (v : Word),
    let w (x : Nat) : Nat := putBits v.toNat 2 0 x
    let same (x : Nat) : Prop := s.anyChange .ETH_QP_CTL q 0 (w x) [.ETH_QP_CTL_STATE] = false
    (s.qpState q = 0 → ∃ t : State, writeGives (.qpToInit m q v) m .ETH_QP_CTL q 0 (w 1) s t.sheafSettle ∧ t.qpState q = 1)
    ∧ (s.qpState q = 1 → s.qpRingsOk q = true →
      ∃ t : State, writeGives (.qpToRtr m q v) m .ETH_QP_CTL q 0 (w 2) s t.sheafSettle ∧ t.qpState q = 2)
    ∧ (s.qpState q = 2 → same 3 → ∃ t : State, writeGives (.qpToRts m q v) m .ETH_QP_CTL q 0 (w 3) s t.sheafSettle ∧ t.qpState q = 3
        ∧ t.f .ETH_QP_RATE_RATE_NOW q = s.f .ETH_QP_RATE_RATE_MAX q ∧ (t.qp q).target = s.f .ETH_QP_RATE_RATE_MAX q)
    ∧ (s.qpState q ≠ 0 → same 0 → ∃ t : State, writeGives (.qpToReset m q v) m .ETH_QP_CTL q 0 (w 0) s t.sheafSettle ∧ t.qpState q = 0
        ∧ t.qp q = {} ∧ t.f .ETH_QP_SQ_TAIL_TAIL q = 0 ∧ t.f .ETH_QP_RQ_TAIL_TAIL q = 0 ∧ t.f .ETH_QP_CQ_HEAD_HEAD q = 0
        ∧ t.f .ETH_QP_STATUS_CQ_TAIL q = 0 ∧ t.mem = s.mem)
    ∧ (s.qpState q ≠ 6 → same 6 → ∃ t : State, writeWaits (.qpToError m q v) m .ETH_QP_CTL q 0 (w 6) s t.sheafSettle ∧ t.qpState q = 6)
    ∧ (bits v.toNat 31 0 = s.f .ETH_QP_SQ_TAIL_TAIL q → writeWaits (.ethQpSqTail m q v) m .ETH_QP_SQ_TAIL q 0 v.toNat s s)
    ∧ (bits v.toNat 31 0 = s.f .ETH_QP_RQ_TAIL_TAIL q → writeWaits (.ethQpRqTail m q v) m .ETH_QP_RQ_TAIL q 0 v.toNat s s)
    ∧ (bits v.toNat 31 0 = s.f .ETH_QP_CQ_HEAD_HEAD q → writeWaits (.ethQpCqHead m q v) m .ETH_QP_CQ_HEAD q 0 v.toNat s s)
    ∧ (s.boundTo q = none → s.qpState q ≠ 6 → ∀ x, x = bits v.toNat 31 0 →
      (x ≠ s.f .ETH_QP_SQ_TAIL_TAIL q → idxDist x (s.qp q).sqHead ≤ 2 ^ s.f .ETH_QP_SQ_LOG2_SIZE q → idxDist x (s.f .ETH_QP_SQ_TAIL_TAIL q) < 2 ^ 31 →
        writeWaits (.ethQpSqTail m q v) m .ETH_QP_SQ_TAIL q 0 v.toNat s (s.setF .ETH_QP_SQ_TAIL_TAIL q 0 x))
      ∧ (x ≠ s.f .ETH_QP_RQ_TAIL_TAIL q → idxDist x (s.qp q).rqHead ≤ 2 ^ s.f .ETH_QP_RQ_LOG2_SIZE q → idxDist x (s.f .ETH_QP_RQ_TAIL_TAIL q) < 2 ^ 31 →
        writeWaits (.ethQpRqTail m q v) m .ETH_QP_RQ_TAIL q 0 v.toNat s (s.setF .ETH_QP_RQ_TAIL_TAIL q 0 x))
      ∧ (x ≠ s.f .ETH_QP_CQ_HEAD_HEAD q → idxDist (s.f .ETH_QP_STATUS_CQ_TAIL q) x ≤ 2 ^ s.f .ETH_QP_CQ_LOG2_SIZE q →
        idxDist x (s.f .ETH_QP_CQ_HEAD_HEAD q) < 2 ^ 31 →
        writeWaits (.ethQpCqHead m q v) m .ETH_QP_CQ_HEAD q 0 v.toNat s (s.setF .ETH_QP_CQ_HEAD_HEAD q 0 x)))

/-- The send work request at the head of a queue pair's ring: its words, and the state after reading them. -/
def Sys2Proof.Machine.State.wrAt (s : State) (q op : Nat) (b : Bytes) (s0 : State) : Prop :=
  s.wrReady q = true
    ∧ (∃ r, s.rd (s.qpSrc q) (s.sqSlot q (s.qp q).sqHead) 64 = (r, s0) ∧ r.status = 0 ∧ r.data = b)
    ∧ wrIllegal (s.plotOfQp q) b = false ∧ leAt b 0 1 = op
    ∧ (bit (leAt b 1 1) 0 = false ∨ (s.qp q).wqes.any Wqe.reading = false)

/-- The started work request that its words describe. -/
def Sys2Proof.Machine.State.wrOf (s : State) (q : Nat) (b : Bytes) : Wqe :=
  { idx := (s.qp q).sqHead, op := leAt b 0 1, flags := leAt b 1 1, tally := leAt b 2 2, len := leAt b 4 4,
    wrId := leAt b 8 8, laddr := leAt b 16 8, psn := s.f .ETH_QP_PSN_SQ_PSN q, count := 0 }

/-- The ring's head after taking a work request. -/
def Sys2Proof.Machine.State.wrTaken (s s0 : State) (q : Nat) : State :=
  s0.setQp q { s0.qp q with sqHead := ((s.qp q).sqHead + 1) % 2 ^ 32 }

/-- A SEND or WRITE work request starts: its data is read and its packets are sent, those before the first poisoned byte; one
whose reads meet a line that they must wait for waits (log 21). -/
def Sys2Proof.Machine.wrSends (row : Nat → Instr) (op : Nat) : Prop :=
  ∀ (s s0 s2 : State) (q : Nat) (b : Bytes) (d : RdRes), s.arm.wrAt q op b s0 →
    (s.wrTaken s0 q).rd (s.qpSrc q) (leAt b 16 8) (leAt b 4 4) = (d, s2) → d.status ≤ 1 →
    s.comesTo (row q) (.qp q)
      (s2.wrPackets q (s.wrOf q b) b d.data (goodBytes (leAt b 16 8) (leAt b 4 4) d.poison)).sheafSettle

/-- 10 R396, R399, R404: the work requests start: SEND and WRITE with their packets, READ with one request packet that
occupies the PSNs of its responses; an illegal one ends with ILLEGAL. -/
def Sys2Proof.Machine.workRequestsStart : Prop :=
  wrSends .wrSend 0 ∧ wrSends .wrSendImm 1 ∧ wrSends .wrRdmaWrite 2 ∧ wrSends .wrRdmaWriteImm 3
    ∧ ∀ (s s0 : State) (q : Nat) (b : Bytes),
      (s.arm.wrAt q 4 b s0 → ((s.qp q).wqes.filter Wqe.reading).length < 16 →
        s.comesTo (.wrRdmaRead q) (.qp q) ((s.wrTaken s0 q).wrReadReq q (s.wrOf q b) b).sheafSettle)
      ∧ (∀ r row, row ∈ ([.wrSend, .wrSendImm, .wrRdmaWrite, .wrRdmaWriteImm, .wrRdmaRead] : List (Nat → Instr)) →
        s.wrReady q = true → s.arm.rd (s.qpSrc q) (s.sqSlot q (s.qp q).sqHead) 64 = (r, s0) → r.status = 0 →
        wrIllegal (s.plotOfQp q) r.data = true →
        s.comesTo (row q) (.qp q) ((s.wrTaken s0 q).wrFail q (s.wrOf q r.data) qsIllegal).sheafSettle)

/-- 10 R390, R400-R402: what an inbound packet does by its PSN: the expected one is applied, and with it the packets placed
ahead whose turn has come; a later one leaves a gap that
one NAK names (a WRITE Only under SACK is placed), an earlier one is acknowledged again. -/
def Sys2Proof.Machine.packetsArrive : Prop :=
  ∀ (s s1 : State) (q : Nat) (b : Bth), s.arm.rxStart q b = (true, s1) →
    (s1.psnPlace q b.psn = .expected →
      (let s2 := s1.sendIn q b
       s.comesTo (.sendPacket q b) (.qp q)
         (if s2.f .ETH_QP_PSN_RQ_PSN q = s1.f .ETH_QP_PSN_RQ_PSN q then s2 else s2.thenAhead q).sheafSettle)
      ∧ s.comesTo (.rdmaWritePacket q b) (.qp q) (s1.writeIn q b).sheafSettle
      ∧ s.comesTo (.rdmaReadRequest q b) (.qp q)
        ((((s1.rqStep q (max 1 (ceilDiv b.dmaLen (s1.qpMtu q)))).msgDone q).readServe q b).thenAhead q).sheafSettle)
    ∧ (∀ k, s1.psnPlace q b.psn = .ahead k →
      s.comesTo (.sendPacket q b) (.qp q) (s1.gapNak q).sheafSettle
      ∧ s.comesTo (.rdmaReadRequest q b) (.qp q) (s1.gapNak q).sheafSettle
      ∧ (s1.f .ETH_QP_CTL_SACK q = 0 → s.comesTo (.rdmaWritePacket q b) (.qp q) (s1.gapNak q).sheafSettle)
      ∧ (s1.f .ETH_QP_CTL_SACK q = 1 → b.pos = .only → k ≤ 256 →
        s.comesTo (.rdmaWritePacket q b) (.qp q) (s1.writeAhead q b).sheafSettle))
    ∧ (s1.psnPlace q b.psn = .duplicate →
      s.comesTo (.sendPacket q b) (.qp q) (s1.ackNow q).sheafSettle
      ∧ s.comesTo (.rdmaWritePacket q b) (.qp q) (s1.ackNow q).sheafSettle
      ∧ s.comesTo (.rdmaReadRequest q b) (.qp q) (s1.readServe q b).sheafSettle)

/-- 10 R394, R395, R402: what one WRITE packet without immediate data does: inside its window its bytes are written and its
PSN is acknowledged, with those of the packets placed ahead whose turn has come; outside it, or beyond the longest message,
nothing is written and the queue pair enters ERROR. -/
def Sys2Proof.Machine.writePacket : Prop :=
  ∀ (s : State) (q : Nat) (b : Bth), b.pos = .only → b.imm = none → (s.qp q).rx = none → b.payload.length = b.dmaLen →
    b.payload.length ≤ s.qpMtu q → b.dmaLen ≤ msgMax → NTbl.at none (s.qp q).ahead b.psn = none →
    (∀ a s1, s.winOk q b.va b.rkey b.dmaLen true = true → s.wr (s.qpSrc q) b.va b.payload = (0, a, s1) →
      s.writeIn q b
        = ((s1.setQp q { s1.qp q with ahead := NTbl.put none (s1.qp q).ahead b.psn none }).rxDone q true none).thenAhead q)
    ∧ (s.winOk q b.va b.rkey b.dmaLen true = false →
      s.writeIn q b = ((s.sendAck q .nakAccess b.psn).qpErrorState q 3).qpFlush q)
    ∧ (∀ c : Bth, msgMax < c.dmaLen → (s.qp q).rx = none →
      s.writeIn q c = ((s.sendAck q .nakInvalid c.psn).qpErrorState q qsInvalid).qpFlush q)

/-- 10 R394, R395, R401-R403: responses: an Acknowledge ends what it covers and then resends, or ends the queue pair's
request, by its kind (one that bears a CE mark draws a CNP first); what a SACK block shows received is kept no longer; the next READ packet is placed; an expired timer
resends everything unacknowledged, or gives up. -/
def Sys2Proof.Machine.responsesArrive : Prop :=
  ∀ (s : State) (q psn : Nat) (sack : List Nat) (ce : Bool), s.qpActs q = true → s.qpState q = 3 →
    (let t := (s.arm.cnpFor q ce).ackTo q psn
     t.qpState q = 3 →
       (t.f .ETH_QP_CTL_SACK q = 0 → s.comesTo (.acknowledge q psn ⟨.ack, ce⟩ sack) (.qp q) t.sheafSettle)
       ∧ (t.f .ETH_QP_CTL_SACK q = 1 → s.comesTo (.acknowledge q psn ⟨.ack, ce⟩ sack) (.qp q) (t.sackIn q psn sack).sheafSettle))
    ∧ (∀ p, p ∈ ((s.sackIn q psn sack).qp q).unacked → sackHas psn sack p = false)
    ∧ (let t := (s.arm.cnpFor q ce).ackTo q (psnDist psn 1)
       t.qpState q = 3 →
         s.comesTo (.acknowledge q psn ⟨.nakSeq, ce⟩ sack) (.qp q) (t.retryAll q).sheafSettle
         ∧ s.comesTo (.acknowledge q psn ⟨.nakRnr, ce⟩ sack) (.qp q) (t.rnrRetry q).sheafSettle
         ∧ s.comesTo (.acknowledge q psn ⟨.nakAccess, ce⟩ sack) (.qp q) (t.failSend q qsAccess).sheafSettle
         ∧ s.comesTo (.acknowledge q psn ⟨.nakInvalid, ce⟩ sack) (.qp q) (t.failSend q qsInvalid).sheafSettle
         ∧ s.comesTo (.acknowledge q psn ⟨.nakOp, ce⟩ sack) (.qp q) (t.failSend q qsOp).sheafSettle)
    ∧ s.comesTo (.ackTimeout q) (.qp q) (s.arm.retryAll q).sheafSettle
    ∧ ((s.qp q).unacked ≠ [] → (s.qp q).retries < s.f .ETH_QP_CTL_RETRY_CNT q →
      s.retryAll q = (s.setQp q { s.qp q with
        retries := (s.qp q).retries + 1
        unacked := (s.qp q).unacked.map (fun p => { p with again := false }) }).pktResend q (s.qp q).unacked)
    ∧ ((s.qp q).unacked ≠ [] → s.f .ETH_QP_CTL_RETRY_CNT q ≤ (s.qp q).retries →
      s.retryAll q = s.failSend q qsRetry)
    ∧ (∀ b w, b.ecnCe = false → (s.qp q).wqes.find? Wqe.reading = some w → b.psn = psnAdd w.psn (w.got / s.qpMtu q) →
      b.payload.length = s.qpMtu q → w.got + b.payload.length ≤ w.len →
      (s.arm.ackTo q (psnDist w.psn 1)).qpState q = 3 →
      s.comesTo (.rdmaReadResponse q b) (.qp q) ((s.arm.ackTo q (psnDist w.psn 1)).readData q w b).sheafSettle)

/-- 10 R406: congestion control: a CNP cuts RATE_NOW, which the link's rate bounds (log 101), once in CUT_HOLD_US, to no less
than RATE_MIN; the end of a rise period raises a
queue pair that sent and saw no CNP towards its target; an idle one returns to RATE_MAX. -/
def Sys2Proof.Machine.congestion : Prop :=
  ∀ (s : State) (q : Nat), s.qpActs q = true → s.qpState q = 3 → s.f .ETH_CFG_CC_EN = 1 →
    ((s.qp q).lastCut = none → ∃ t, exec (.cnp q) s = .next t
      ∧ t.f .ETH_QP_RATE_RATE_NOW q = min (max (s.f .ETH_CC_CFG_RATE_MIN) (s.rateNow q
          * (256 - s.f .ETH_CC_CFG_CUT_NUM) / 256)) (s.f .ETH_QP_RATE_RATE_MAX q)
      ∧ (t.qp q).target = s.rateNow q ∧ (t.qp q).lastCut = some s.now
      ∧ t.f .ETH_QP_COUNT_CNP_RX q = satAdd 32 (s.f .ETH_QP_COUNT_CNP_RX q) 1)
    ∧ (∀ c, (s.qp q).lastCut = some c → s.now < c + s.f .ETH_CC_CFG_CUT_HOLD_US → ∃ t, exec (.cnp q) s = .next t
      ∧ t.f .ETH_QP_RATE_RATE_NOW q = s.f .ETH_QP_RATE_RATE_NOW q ∧ (t.qp q).cnpSeen = true)
    ∧ (s.eth.qps = [(q, s.qp q)] → (s.qp q).sentNow = true → (s.qp q).cnpSeen = false →
      (s.qp q).quiet < s.f .ETH_CC_CFG_RECOVER_STEPS → ∃ t, exec .risePeriod s = .next t
        ∧ t.f .ETH_QP_RATE_RATE_NOW q = min (s.f .ETH_QP_RATE_RATE_MAX q)
          ((s.rateNow q + (s.qp q).target) / 2)
        ∧ (t.qp q).quiet = (s.qp q).quiet + 1 ∧ (t.qp q).sentNow = false)
    ∧ (∃ t, exec (.idleReset q) s = .next t ∧ t.f .ETH_QP_RATE_RATE_NOW q = s.f .ETH_QP_RATE_RATE_MAX q
      ∧ (t.qp q).target = s.f .ETH_QP_RATE_RATE_MAX q ∧ (t.qp q).quiet = 0)

/-- 10 R390-R406: the transport's own commands. -/
def Obligations.Transport : Prop :=
  workRequestsStart ∧ packetsArrive ∧ writePacket ∧ responsesArrive ∧ congestion

/-! ### Ingest and Sheaf (10 R407-R412, 11) -/

/-- 10 R407-R412: a datagram goes as a row to its stream, numbered by its sequence number or in the order of arrival; a row
of the wrong length, a second one or a late one is counted and dropped; a slot closes after its time; a stream starts
empty and closes its slots when it is disabled; each waits where its writes must (log 21). -/
def Sys2Proof.Machine.ingestRows : Prop :=
  ∀ (s : State) (m : Master) (k port src : Nat) (payload : Bytes) (v : Word),
    (s.streamFor port src = some k → (s.dom 21).running = true → s.f .PWR_STATUS_STOP = 0 →
      s.scrubbing (s.plotOfStream k) = false →
      (s.f .ETH_ING_CFG_MODE k = 1 → s.comesTo (.ingestDatagram port src payload) (.ingest k)
        (s.arm.ingRow k ((s.ing k).accepted % 2 ^ 32) payload))
      ∧ (s.f .ETH_ING_CFG_MODE k = 0 → 8 ≤ payload.length → s.comesTo (.ingestDatagram port src payload) (.ingest k)
        (s.arm.ingRow k (beAt payload 0 4) (payload.drop 8)))
      ∧ (s.f .ETH_ING_CFG_MODE k = 0 → payload.length < 8 → s.comesTo (.ingestDatagram port src payload) (.ingest k)
        (s.arm.count .ETH_ING_DROPS_BADLEN k 0 16 1)))
    ∧ (∀ n, payload.length ≠ s.rowBytes k → s.ingRow k n payload = s.count .ETH_ING_DROPS_BADLEN k 0 16 1)
    ∧ (∀ n, payload.length = s.rowBytes k → (s.ing k).judge (n - n % s.ingRows k) (n % s.ingRows k) = .dup →
      s.ingRow k n payload = s.count .ETH_ING_DROPS_DUP k 0 16 1)
    ∧ (∀ n, payload.length = s.rowBytes k → (s.ing k).judge (n - n % s.ingRows k) (n % s.ingRows k) = .late →
      s.ingRow k n payload = s.count .ETH_ING_DROPS_LATE k 0 16 1)
    ∧ (∀ t r, t.rows.length + 1 ≠ s.ingRows k →
      (((s.rowIn k t r payload).ing k).accepted = (s.ing k).accepted + 1
        ∧ (s.rowIn k t r payload).f .ETH_ING_ROWS_COUNT k = satAdd 64 (s.f .ETH_ING_ROWS_COUNT k) 1
        ∧ (s.rowIn k t r payload).f .ETH_ING_STATUS_TAIL k = s.f .ETH_ING_STATUS_TAIL k))
    ∧ (∀ t l, (s.ing k).slots = t :: l → s.f .ETH_ING_ROWCFG_SLOT_US k ≠ 0 →
      s.comesTo (.slotTimeout k) (.ingest k) (s.arm.slotClose k t 2))
    ∧ (∀ t c, (s.slotClose k t c).f .ETH_ING_STATUS_TAIL k = (s.f .ETH_ING_STATUS_TAIL k + 1) % 2 ^ 32
      ∧ ∀ x, x ∈ ((s.slotClose k t c).ing k).slots → x.no ≠ t.no)
    ∧ (let w := setBit v.toNat 0 true
       let s1 := ingFields.foldl (fun s x => s.setF x.1 k 0 (bits w x.2.1 x.2.2)) s
       s.f .ETH_ING_CFG_ENABLE k = 0 →
       s1.ringOk (s.plotOfStream k) (s.f .ETH_ING_SLOT_BASE_BASE k * 4096) (s1.ingSlots k * s1.ingStride k) true = true →
       s1.ringOk (s.plotOfStream k) (s.f .ETH_ING_REC_BASE_BASE k * 4096) (s1.ingSlots k * 32) true = true →
       s1.portTaken k (bits w 63 48) = false →
       ∃ t, writeGives (.ingestEnable m k v) m .ETH_ING_CFG k 0 w s t ∧ t.f .ETH_ING_CFG_ENABLE k = 1
         ∧ t.f .ETH_ING_HEAD_HEAD k = 0 ∧ t.f .ETH_ING_STATUS_TAIL k = 0 ∧ t.f .ETH_ING_STATUS_OPENED k = 0 ∧ t.ing k = {}
         ∧ t.f .ETH_ING_CFG_UDP_PORT k = bits w 63 48)
    ∧ (let w := setBit v.toNat 0 false
       s.f .ETH_ING_CFG_ENABLE k = 1 → ingFields.all (fun x => s.f x.1 k == bits w x.2.1 x.2.2) = true →
       writeWaits (.ingestDisable m k v) m .ETH_ING_CFG k 0 w s
         (((s.ing k).slots.foldl (fun s t => s.slotClose k t 3) s).setF .ETH_ING_CFG_ENABLE k 0 0))

/-- 11 R418-R436, R441: Sheaf: a neighbour is bound to an IDLE context, START begins a run that its settings allow, CANCEL
fails it; READY, DATA, LAG and ABORT reach the context of their queue pair; a deadline fails the run with the neighbour awaited
longest; a failed run is ABORTING and its record leaves it IDLE; each waits where its accesses must (log 21). -/
def Sys2Proof.Machine.sheafRows : Prop :=
  ∀ (s : State) (m : Master) (x i q : Nat) (v : Word) (imm : BitVec 32),
    (let w := setBit v.toNat 24 true
     s.shState x = 0 → s.boundTo (bits w 12 0) = none → s.plotOfQp (bits w 12 0) = s.shPlot x →
     writeGives (.neighbourBind m x i v) m .SHEAF_CTX_NBR_QP x i w s
       (((s.setF .SHEAF_CTX_NBR_QP_RKEY x i (bits w 63 32)).setF .SHEAF_CTX_NBR_QP_VALID x i (bits w 24 24)).setF
         .SHEAF_CTX_NBR_QP_QP x i (bits w 12 0)))
    ∧ (let w := setBit v.toNat 0 true
       s.shState x = 0 → s.shStartOk x = true →
       writeWaits (.sheafStart m x v) m .SHEAF_CTX_CTL x 0 w s (s.shBegin x (bits w 7 4)))
    ∧ (∀ e, s.shState x = 0 → s.shStartOk x = false →
      s.shStart x e = (hBadArg, s.setF .SHEAF_CTX_STATUS_LAST_STATUS x 0 8))
    ∧ (let w := setBit (setBit v.toNat 1 true) 0 false
       s.shState x = 1 →
       writeWaits (.sheafCancel m x v) m .SHEAF_CTX_CTL x 0 w s ((s.shFail x 6 0).shCheck x))
    ∧ (∀ kind row, (kind, row) ∈ ([(0, .sheafData), (1, .ready), (2, .lag), (3, .abort)]
        : List (Nat × (Nat → BitVec 32 → Instr))) → bits imm.toNat 31 28 = kind → s.qpActs q = true →
      (s.boundTo q).isSome = true → s.comesTo (row q imm) (.qp q) (s.arm.sheafArrive q imm.toNat).sheafSettle)
    ∧ (∀ n, s.boundTo q = some (x, i) → bits n 31 28 ≠ 1 → s.shState x = 0 →
      s.sheafArrive q n = s.count .SHEAF_STRAY_COUNT 0 0 32 1)
    ∧ (∀ n, s.boundTo q = some (x, i) → bits n 31 28 = 3 → s.shState x = 1 → bits n 23 20 = s.f .SHEAF_CTX_STATUS_EPOCH x →
      s.sheafArrive q n = s.shFail x 1 (s.shRank x i) (some i))
    ∧ (∀ r, (s.shc x).run = some r → s.shState x = 1 →
      s.comesTo (.progressDeadline x) (.sheaf x) ((s.arm.shFail x 2 (s.shRank x (s.shLongest x r))).shCheck x))
    ∧ (s.halfHeld = true → s.comesTo (.lagRepeat x) (.sheaf x) (s.arm.shLagAll x).sheafSettle)
    ∧ (∀ r st peer, (s.shc x).run = some r → r.fail = none → (s.shFail x st peer).shState x = 2
      ∧ ((s.shFail x st peer).shc x).run = some { r with fail := some (st, peer) })
    ∧ (∀ r st peer, (s.shFinish x r st peer).shState x = 0 ∧ (s.shFinish x r st peer).f .SHEAF_CTX_STATUS_LAST_STATUS x = st
      ∧ ((s.shFinish x r st peer).shc x).run = none)
    ∧ (∀ r arg, (s.shc x).run = some r → r.fail = none → arg ≠ r.rxOf i % 2 ^ 20 →
      s.shData x i arg = s.shFail x 7 (s.shRank x i))

/-- 10 R407-R412, 11 R418-R441: ingest streams and Sheaf. -/
def Obligations.StreamsAndSheaf : Prop := ingestRows ∧ sheafRows

/-! ### Commands of sessions (12 R443-R475, 13, 14 R527-R534) -/

/-- A row executes a session's command: the state becomes `t`, and the reply carries a status and a payload (12 R451). -/
def Sys2Proof.Machine.commandGives (row : Nat → Instr) (op n : Nat) (s : State) (b : Bytes) (st : Nat) (reply : Bytes)
    (t : State) : Prop :=
  ∀ c, s.commands n op b c → exec (row n) s = .next (t.hlDone n c st reply)

/-- As `commandGives`, for a command that makes a unit of the hub access memory: `t` is what its accesses come to, and the
command waits where such an access must wait at its home (08 R310, log 21). -/
def Sys2Proof.Machine.commandWaits (row : Nat → Instr) (op n : Nat) (s : State) (b : Bytes) (st : Nat) (reply : Bytes)
    (t : State) : Prop :=
  ∀ c, s.commands n op b c → s.comesTo (row n) (.session n) (t.hlDone n c st reply)

/-- 12 R450: in every command of a tenant session PLOT equals the session's plot, in every command of an operator session
it is 0xFF; a command that breaks this is executed no further and is answered with BAD_AUTH, whichever its row, that of its MODE
or ACTION for FW_START and DEBUG_HALT; the rows that may wait at a home (log 21) are answered too where no earlier command
of the session waits. -/
def Obligations.CommandOfAnotherPlotIsBadAuth : Prop :=
  ∀ (s : State) (n : Nat) (c : HCmd), s.hlNext n = some c →
    c.plot ≠ (match (s.sess n).plot with
      | some p => p
      | none => 0xFF) →
    (∀ op row, (op, row) ∈
      ([(0x02, .attest), (0x04, .sessionClose), (0x10, .regRead), (0x12, .regPoll), (0x22, .train), (0x23, .recordReplay),
        (0x30, .plotCreate), (0x31, .plotTeardown), (0x32, .qosCommit), (0x40, .mboxPost), (0x41, .mboxTake), (0x42, .mboxAck),
        (0x48, .eventSubscribe), (0x50, .claim), (0x51, .release), (0x52, .lock), (0x53, .unlock), (0x60, .resetDevice)]
      : List (Nat × (Nat → Instr))) → c.opcode = op → exec (row n) s = .next (s.hlDone n c hBadAuth []))
    ∧ (∀ op row, (op, row) ∈ ([(0x18, .memRead), (0x19, .memWrite), (0x20, .fwLoad), (0x70, .debugRead), (0x71, .debugWrite)]
      : List (Nat × (Nat → Instr))) → c.opcode = op → s.comesTo (row n) (.session n) (s.arm.hlDone n c hBadAuth []))
    ∧ (c.opcode = 0x11 → s.comesTo (.regWrite n) (.session n) (s.arm.hlDone n c hBadAuth []).lcSettle)
    ∧ (∀ k row, (k, row) ∈ ([(0, .fwStartRun), (1, .fwStartVerify), (3, .fwStartClear)]
        : List (Nat × (Nat → Instr))) → c.opcode = 0x21 → beAt c.payload 4 1 = k →
      exec (row n) s = .next (s.hlDone n c hBadAuth []))
    ∧ (c.opcode = 0x21 → beAt c.payload 4 1 = 2 →
      s.comesTo (.fwStartStage n) (.session n) (s.arm.hlDone n c hBadAuth []))
    ∧ (∀ k row, (k, row) ∈ ([(0, .debugHalt), (1, .debugResume), (2, .debugStep)] : List (Nat × (Nat → Instr))) →
      c.opcode = 0x72 → c.payload.length = 5 → beAt c.payload 1 1 = 0 → beAt c.payload 4 1 = k →
      exec (row n) s = .next (s.hlDone n c hBadAuth []))

/-- 12 R443-R446, R451: what a reply does: it leaves with the command's tag, opcode and number, in the datagrams of its
parts under the session's key, NEXT moves on, and the command leaves the window. -/
def Sys2Proof.Machine.repliesLeave : Prop :=
  ∀ (s : State) (n st : Nat) (c : HCmd) (b : Bytes), n < 16 → (s.sess n).isOpen = true → (s.sess n).next < 0xFFFFFFFF →
    let t := s.hlReply n c st b
    let r := mkReply n (s.sess n).next c st b
    (t.sess n).next = (s.sess n).next + 1 ∧ NTbl.at none (t.sess n).window (s.sess n).next = none
      ∧ (t.sess n).polling = none
      ∧ (s.hlUp = true → s.eth.txq = [] → s.paused (s.f .ETH_CFG_HL_PRIO) = none →
        t.out = s.out ++ [.reply s.hlHdr r (r.datagrams (some (s.sess n).key))])
      ∧ t.mem = s.mem ∧ t.units = s.units ∧ (∀ k, k ≠ n → t.sess k = s.sess k)

/-- 12 R456-R459: commands of one register or one range of memory. -/
def Sys2Proof.Machine.sessionAccesses : Prop :=
  ∀ (s s1 : State) (n v : Nat) (b : Bytes),
    (b.length = 10 → beAt b 8 2 = 1 → s.askRead (.session n) (beAt b 0 8) 8 = (hOk, v, s1) →
      commandGives .regRead 0x10 n s b hOk (beBytes 8 v) s1)
    ∧ (b.length = 18 → beAt b 0 2 = 1 → s.arm.askWrite (.session n) (beAt b 2 8) 8 (beAt b 10 8) = (hOk, s1) → ∀ c,
      s.commands n 0x11 b c → s.comesTo (.regWrite n) (.session n) (s1.hlDone n c hOk (beBytes 2 1)).lcSettle)
    ∧ (pollForm b = true → s.askRead (.session n) (beAt b 0 8) 8 = (hOk, v, s1) →
      (pollMet (beAt b 24 1) v (beAt b 8 8) (beAt b 16 8) = true →
        commandGives .regPoll 0x12 n s b hOk (beBytes 8 v ++ beBytes 4 0) s1)
      ∧ (pollMet (beAt b 24 1) v (beAt b 8 8) (beAt b 16 8) = false → ∀ c, s.commands n 0x12 b c →
        exec (.regPoll n) s = .next (s1.setSess n { s1.sess n with polling := some s.now }))
      ∧ (pollMet (beAt b 24 1) v (beAt b 8 8) (beAt b 16 8) = false → ∀ c, s.hlPolling n = some c → c.payload = b →
        s.hlRefusal n c = none →
        exec (.regPollLimit n) s = .next (s1.hlDone n c hTimeout (beBytes 8 v ++ beBytes 4 (beAt b 28 4)))))
    ∧ (∀ r, b.length = 10 → 1 ≤ beAt b 8 2 → beAt b 8 2 ≤ 8192 → s.memRefusal n (beAt b 0 8) (beAt b 8 2) false = none →
      s.arm.rd { id := 0x60, plot := (s.sess n).plot } (beAt b 0 8) (beAt b 8 2) = (r, s1) →
      (r.status = stOk → commandWaits .memRead 0x18 n s b hOk r.data s1)
      ∧ (r.status = stPoison → commandWaits .memRead 0x18 n s b hAborted (beBytes 4 (r.addr - beAt b 0 8)) s1))
    ∧ (∀ a, 17 ≤ b.length → b.length ≤ 16 + 8176 → beAt b 8 8 = 0 →
      s.memRefusal n (beAt b 0 8) (b.length - 16) true = none →
      s.arm.wr { id := 0x60, plot := (s.sess n).plot } (beAt b 0 8) (b.drop 16) = (stOk, a, s1) →
      commandWaits .memWrite 0x19 n s b hOk [] s1)

/-- 14 R527, R532, R533: firmware and training: a chunk goes into the loading SRAM; an image that verifies starts, is
verified or is staged; the staged image is cleared; TRAIN begins a training and RECORD_REPLAY collects a record. -/
def Sys2Proof.Machine.firmwareAndTraining : Prop :=
  ∀ (s : State) (n : Nat) (b : Bytes),
    (let off := beAt b 0 4
     let chunk := b.drop 4
     5 ≤ b.length → chunk.length ≤ 8188 → off + chunk.length ≤ imageMax → s.fwOther n = false → s.boot.fwState < 3 →
     ∃ t, commandWaits .fwLoad 0x20 n s b hOk [] t ∧ t.boot.fwState = 1 ∧ t.boot.sram = putCells s.boot.sram off chunk
       ∧ (off = 0 → t.boot.holder = some n) ∧ t.mem = s.mem)
    ∧ (let len := beAt b 0 4
       let img := cellBytes s.boot.sram 0 len
       b.length = 8 → beAt b 5 3 = 0 → len ≤ imageMax → s.fwOther n = false →
       (beAt b 4 1 = 0 → (s.boot.fwState = 1 ∨ s.boot.fwState = 2) → s.imageOk img s.aon.digest = true →
         ∃ t, commandGives .fwStartRun 0x21 n s b hOk [] t ∧ t.boot.fwState = 3 ∧ t.boot.cores = 15
           ∧ t.boot.entry = leAt img 16 8 ∧ t.boot.runDigest = Config.sha256 img ∧ t.boot.runSvn = leAt img 8 4
           ∧ t.boot.holder = none ∧ t.aon.digest = [])
       ∧ (beAt b 4 1 = 1 → s.boot.fwState = 1 → s.imageOk img [] = true →
         ∃ t, commandGives .fwStartVerify 0x21 n s b hOk [] t ∧ t.boot.fwState = 2 ∧ t.boot.cores = s.boot.cores
           ∧ t.boot.holder = none)
       ∧ (beAt b 4 1 = 2 → s.boot.fwState = 3 → ∀ r s1, s.arm.rd sbSrc stagingBase len = (r, s1) → r.status = stOk →
         s1.imageOk r.data [] = true →
         ∃ t, commandWaits .fwStartStage 0x21 n s b hOk [] t ∧ t.boot.fwState = 4 ∧ t.boot.stagedDigest = Config.sha256 r.data
           ∧ t.boot.stagedSvn = leAt r.data 8 4)
       ∧ (beAt b 4 1 = 3 → ∃ t, commandGives .fwStartClear 0x21 n s b hOk [] t ∧ t.boot.stagedDigest = []
           ∧ t.aon.digest = [] ∧ t.boot.fwState = (if s.boot.fwState = 4 then 3 else s.boot.fwState)))
    ∧ (b.length = 3 → beAt b 0 2 < 256 → s.trainState ≠ 1 → s.trainState ≠ 2 →
      (s.trainState ≠ 3 ∨ beAt b 0 2 = 0 ∨ s.f .MEM_INIT_STATE = 0) → s.trainReady (beAt b 0 2) (beAt b 2 1) = true →
      commandGives .train 0x22 n s b hOk []
        (s.trainBegin { stks := beAt b 0 2, sites := beAt b 2 1, replay := false, wearOnly := false }))
    ∧ (let chunk := b.drop 8
       9 ≤ b.length → chunk.length ≤ 8184 → beAt b 0 4 + chunk.length ≤ 262144 → beAt b 4 1 = 0 → beAt b 5 3 = 0 →
       (s.trainState = 0 ∧ beAt b 0 4 = 0 ∨ s.trainState = 1 ∧ s.recOther n = false) →
       ∃ t, commandGives .recordReplay 0x23 n s b hOk [] t ∧ t.trainState = 1 ∧ t.boot.bufHolder = some n
         ∧ t.boot.buf = putCells s.boot.buf (beAt b 0 4) chunk)

/-- 13 R493-R510, 16 R593: plots, reports and debug: a plot is created as its descriptor says, torn down, and gone once
scrubbed; ATTEST signs a report; debug reads and writes are counted and DEBUG_HALT halts, resumes and steps an engine. -/
def Sys2Proof.Machine.plotsAndDebug : Prop :=
  ∀ (s s1 : State) (n : Nat) (b : Bytes),
    (∀ d, s.sec.commonJob = none → s.plotRefusal b = none → PlotDesc.parse b = some d → d.plot < 8 →
      commandGives .plotCreate 0x30 n s b hOk (beBytes 1 d.plot) (s.plotMake d.plot d)
      ∧ ((s.plotMake d.plot d).plot d.plot).active = true ∧ ((s.plotMake d.plot d).plot d.plot).engines = d.engines
      ∧ ((s.plotMake d.plot d).plot d.plot).map = d.map
      ∧ ((s.plotMake d.plot d).plot d.plot).generation = (s.plot d.plot).generation + 1)
    ∧ (b.length = 1 → beAt b 0 1 < 8 → (s.plot (beAt b 0 1)).active = true → (s.plot (beAt b 0 1)).teardown = none →
      commandGives .plotTeardown 0x31 n s b hOk [] (s.tearBegin (beAt b 0 1))
      ∧ ((s.tearBegin (beAt b 0 1)).plot (beAt b 0 1)).teardown.isSome = true)
    ∧ (∀ p t, (s.plot p).teardown = some t → s.tearFirst = some p → s.plotBusy p = false → s.recallOpen HReq.tears = false →
      exec (.plotScrubbed p) s = .next (s.tearEnd p t.began) ∧ ((s.tearEnd p t.began).plot p).active = false
        ∧ ((s.tearEnd p t.began).plot p).generation = (s.plot p).generation)
    ∧ (b.length = 32 → s.sec.lcState ≠ lcTest → ∀ c, s.commands n 0x02 b c → ∃ (t : State) (body : Bytes),
      exec (.attest n) s = .next (t.hlDone n c hOk (body ++ slice (Config.slhSign s.fuses.secret body) 0 17088))
        ∧ body = s.reportBody n b ∧ t.sec.reportSeq = s.sec.reportSeq + 1)
    ∧ (∀ st, b.length = 1 → beAt b 0 1 ≤ 15 → s.lockRefuses 0x04000100 (some n) = false →
      s.qosCommit (beAt b 0 1) = (st, s1) →
      commandGives .qosCommit 0x32 n s b st (beBytes 8 (s1.regWord .QOS_COMMIT_RESULT 0 0)) s1)
    ∧ (∀ st d, b.length = 10 → 8 ≤ beAt b 8 2 → beAt b 8 2 ≤ 8192 → s.arm.debugScrubs (beAt b 0 8) (beAt b 8 2) = false →
      s.arm.debugRead (beAt b 0 8) (beAt b 8 2) = (st, d, s1) →
      commandWaits .debugRead 0x70 n s b st d s1)
    ∧ (∀ st, 17 ≤ b.length → b.length ≤ 8192 → beAt b 8 8 = 0 → s.arm.debugScrubs (beAt b 0 8) (b.length - 16) = false →
      s.arm.debugWrite (beAt b 0 8) (b.drop 16) = (st, s1) →
      commandWaits .debugWrite 0x71 n s b st [] s1)
    ∧ (b.length = 5 → beAt b 0 1 = 1 → beAt b 1 1 = 0 → ∀ e, e = beAt b 2 2 → e < 8 → s.present .engine e = true → s.scrubbing (s.plotOfEngine e) = false →
      (s.pstate e = 0 ∨ s.pstate e = 1) →
      (beAt b 4 1 = 0 → (s.eng e).halted = false → ∃ t, commandGives .debugHalt 0x72 n s b hOk [] t
        ∧ (t.eng e).halted = true ∧ t.sec.debugUsed = true
        ∧ t.sec.debugCount = satAdd 32 s.sec.debugCount 1)
      ∧ (beAt b 4 1 = 1 → (s.eng e).halted = true → ∃ t, commandGives .debugResume 0x72 n s b hOk [] t
        ∧ (t.eng e).halted = false ∧ (t.eng e).runs = (s.eng e).runs)
      ∧ (beAt b 4 1 = 2 → (s.eng e).halted = true → ∃ t, commandGives .debugStep 0x72 n s b hOk [] t
        ∧ (t.eng e).halted = true ∧ (t.eng e).stepMask = 2 ^ 65 - 1))

/-- 12 R455-R460, 13, 14: the commands that a session sends. -/
def Obligations.SessionCommands : Prop :=
  repliesLeave ∧ sessionAccesses ∧ firmwareAndTraining ∧ plotsAndDebug

/-- 12 R463-R466: claims and locks: a free resource is claimed and its holder releases it; a block is locked and unlocked;
HELD in HL_CLAIM does the same for a master. -/
def Sys2Proof.Machine.claimsAndLocks : Prop :=
  ∀ (s : State) (n k : Nat) (b : Bytes) (m : Master),
    (b.length = 1 → beAt b 0 1 = k → k < 4 → s.isOperator n = true →
      (s.claimOf k = .free → s.lockAt 1 k = none →
        commandGives .claim 0x50 n s b hOk (beBytes 8 (Holder.session n).word) (s.setClaim k (.session n))
        ∧ (s.setClaim k (.session n)).claimOf k = .session n)
      ∧ (s.claimOf k = .session n → commandGives .release 0x51 n s b hOk [] (s.setClaim k .free)
        ∧ (s.setClaim k .free).claimOf k = .free)
      ∧ (∀ j, j ≠ n → s.claimOf k = .session j → s.lockAt 1 k = none → commandGives .claim 0x50 n s b hBusy [] s
        ∧ commandGives .release 0x51 n s b hOwned [] s))
    ∧ (∀ t i, lockForm b = true → beAt b 0 1 = 0 → beAt b 4 4 = t → s.targetScrubs 0 t = false → lockable 0 t = true →
      s.isOperator n = true → s.lockAt 0 t = none →
      (List.range 32).find? (fun i => decide (NTbl.at none s.hl.locks i = none)) = some i →
      commandGives .lock 0x52 n s b hOk (beBytes 1 0xFF) (s.setLock i (some { session := n, kind := 0, target := t })))
    ∧ (∀ t i l, lockForm b = true → beAt b 0 1 = 0 → beAt b 4 4 = t → s.targetScrubs 0 t = false → lockable 0 t = true →
      s.lockAt 0 t = some (i, l) → l.session = n → commandGives .unlock 0x53 n s b hOk [] (s.setLock i none))
    ∧ (∀ h, s.claimant k m = some h → s.claimOf k = .free → s.lockAt 1 k = none →
      writeGives (.heldClaim m k) m .HL_CLAIM k 0 (2 ^ 31) s (s.setClaim k h))
    ∧ (∀ h, s.claimant k m = some h → s.claimOf k = h → h ≠ .free →
      writeGives (.heldRelease m k) m .HL_CLAIM k 0 0 s (s.setClaim k .free))

/-- 12 R471-R474: mailboxes: the sender posts into an EMPTY channel, the receiver takes and acknowledges, the sender clears;
by commands of sessions and by HL_MBOX_CTL; the binding table is read from memory once. -/
def Sys2Proof.Machine.mailboxes : Prop :=
  ∀ (s : State) (n ch : Nat) (b : Bytes) (m : Master) (v : Word), ch < 64 →
    (beAt b 0 1 = ch → s.scrubbing (s.mb ch).bind.scopePlot = false →
      (beAt b 1 1 = 0 → beAt b 4 4 = 0 → b.length = 8 + beAt b 2 2 → 1 ≤ beAt b 2 2 → beAt b 2 2 ≤ 256 →
        s.mbSends ch (.session n) = true → (s.mb ch).st = .empty → ∃ t, commandGives .mboxPost 0x40 n s b hOk [] t
          ∧ (t.mb ch).st = .posted ∧ (t.mb ch).len = beAt b 2 2 ∧ (t.mb ch).session = some n
          ∧ slice (t.mb ch).slot 0 (beAt b 2 2) = b.drop 8)
      ∧ (b.length = 1 → s.mbReceives ch (.session n) = true → (s.mb ch).st = .posted →
        ∃ t, commandGives .mboxTake 0x41 n s b hOk (beBytes 8 (s.mb ch).word ++ slice (s.mb ch).slot 0 (s.mb ch).len) t
          ∧ (t.mb ch).st = .taken ∧ (t.mb ch).slot = (s.mb ch).slot)
      ∧ (b.length = 1 → s.mbReceives ch (.session n) = false → s.mbSends ch (.session n) = true →
        ((s.mb ch).st = .acked ∨ (s.mb ch).st = .aborted) →
        ∃ t, commandGives .mboxTake 0x41 n s b hOk (beBytes 8 (s.mb ch).word) t ∧ (t.mb ch).st = .empty)
      ∧ (b.length = 4 → beAt b 1 1 = 0 → s.mbReceives ch (.session n) = true →
        ((s.mb ch).st = .posted ∨ (s.mb ch).st = .taken) →
        ∃ t, commandGives .mboxAck 0x42 n s b hOk [] t ∧ (t.mb ch).st = .acked ∧ (t.mb ch).ackCode = beAt b 2 2))
    ∧ (let w := putBits v.toNat 2 0 1
       s.mbSends ch m = true → (s.mb ch).st = .empty → 1 ≤ bits w 40 32 → bits w 40 32 ≤ 256 →
       ∃ t, writeGives (.doorbell m ch v) m .HL_MBOX_CTL ch 0 w s t ∧ (t.mb ch).st = .posted
         ∧ (t.mb ch).len = bits w 40 32 ∧ (t.mb ch).posts = satAdd 32 (s.mb ch).posts 1)
    ∧ (s.mbReceives ch m = true → (s.mb ch).st = .posted →
       ∃ t, writeGives (.take m ch v) m .HL_MBOX_CTL ch 0 (putBits v.toNat 2 0 2) s t ∧ (t.mb ch).st = .taken)
    ∧ (let w := putBits v.toNat 2 0 3
       s.mbReceives ch m = true → ((s.mb ch).st = .posted ∨ (s.mb ch).st = .taken) →
       ∃ t, writeGives (.ack m ch v) m .HL_MBOX_CTL ch 0 w s t ∧ (t.mb ch).st = .acked ∧ (t.mb ch).ackCode = bits w 63 48)
    ∧ (s.mbSends ch m = true → ((s.mb ch).st = .acked ∨ (s.mb ch).st = .aborted) →
       ∃ t, writeGives (.clear m ch v) m .HL_MBOX_CTL ch 0 (putBits v.toNat 2 0 4) s t ∧ (t.mb ch).st = .empty)
    ∧ (∀ r s1, 2 ≤ s.stage → s.rwlLocked 0x07000800 = false →
       s.rd { id := 0x60, plot := none } (bits v.toNat 51 9 * 512) 512 = (r, s1) → r.status = stOk →
       ∃ t, writeWaits (.hlMboxBindSrc m v) m .HL_MBOX_BIND_SRC 0 0 v.toNat s t ∧ t.hl.bindLoaded = true
         ∧ t.hl.bindErr = false ∧ (t.mb ch).bind = bindOf (leAt r.data (8 * ch) 8)
         ∧ t.f .HL_MBOX_BIND_SRC_ADDR = bits v.toNat 51 9)

/-- 12 R445-R452, R467-R469, 13 R490-R492: sessions: DISCOVER is answered from its bucket; a malformed datagram is dropped
and counted, and one with a session's authentication enters its window; parts of an open are collected for 100 ms and
opened by the rows of 13 R491; sessions close on command, when idle and when unconfirmed; events leave in order, those resent by
their own numbers first, then those of the log, each with a new number (12 R469); and RESET_DEVICE
stops the Headland and orders a whole reset. -/
def Sys2Proof.Machine.sessionLife : Prop :=
  ∀ (s : State) (n : Nat) (d : Datagram) (b : Bytes),
    (s.hlHears = true →
      (dgDiscovers d = true → exec (.discover d) s = .next (s.discover d) ∧ exec (.headlandDatagram d) s = .next (s.discover d))
      ∧ (∀ p, s.replyPeer d = some p → 1000000 ≤ s.hl.bucket → (s.discover d).hl.bucket = s.hl.bucket - 1000000
          ∧ (s.eth.txq = [] → s.paused (s.f .ETH_CFG_HL_PRIO) = none →
            (s.discover d).out = s.out ++ [.discover s.hlHdr p (s.discoverReply d)]))
      ∧ (∀ p, s.replyPeer d = some p → s.hl.bucket < 1000000 →
          s.discover d = s.count .HL_CNT_DISCOVER_LIMITED_COUNT 0 0 32 1)
      ∧ (dgSized d = false → exec (.headlandDatagram d) s = .next s.hlDrop)
      ∧ (dgSized d = true → dgDiscovers d = false → s.sec.lcState ≠ lcScrap → d.dest = .unicast → dgOpcode d ≠ 0x03 →
          beAt d.bytes 0 1 = 1 → dgType d = 0 → dgParts d = 1 → dgSession d < 16 → (s.sess (dgSession d)).isOpen = true →
          (s.authOk d = true → exec (.headlandDatagram d) s = .next (s.hlAccept d))
          ∧ (s.authOk d = false → exec (.headlandDatagram d) s = .next s.hlDrop))
      ∧ (∀ a ip port tag, s.hl.asm.find? (fun a => a.isFor ip port tag && a.complete) = some a →
          exec (.sessionOpen ip port tag) s = .next ((s.setHl { s.hl with asm := s.hl.asm.erase a }).sessionOpen a)))
    ∧ (∀ ip port tag, exec (.sessionOpenPartsTimeout ip port tag) s
        = .next (s.setHl { s.hl with asm := s.hl.asm.filter (fun a => a.complete || !a.isFor ip port tag) }))
    ∧ (∀ a, openFormOk a.payload = true → s.credentialOk a.payload = true → s.openSigOk a.payload = true →
      s.sec.fatal = false → beAt a.payload 0 1 = 0 → s.unconfirmed.length < 4 → ∀ k,
      (List.range 16).find? s.numberFree = some k → s.openCount < 16 → s.sessionOpen a = s.openSession k a a.payload
        ∧ ((s.openSession k a a.payload).sess k).isOpen = true ∧ ((s.openSession k a a.payload).sess k).plot = none)
    ∧ (∀ c, s.commands n 0x04 b c → b.length = 1 → beAt b 0 1 = 0xFF → n < 16 →
      exec (.sessionClose n) s = .next ((s.hlReply n c hOk []).sessClose n 0))
    ∧ (∀ k, b.length = 1 → beAt b 0 1 = k → k < 16 → k ≠ n → (s.sess k).isOpen = true → s.isOperator n = true →
      commandGives .sessionClose 0x04 n s b hOk [] (s.sessClose k 1))
    ∧ (s.f .HL_CFG_IDLE_S ≠ 0 → exec (.sessionIdleTimeout n) s = .next (s.sessClose n 2))
    ∧ ((s.sess n).confirmed = false → exec (.sessionUnconfirmedTimeout n) s = .next (s.sessClose n 5))
    ∧ ((s.sess n).isOpen = true → n < 16 → ((s.sessClose n 2).sess n).isOpen = false
      ∧ ∀ k, k < 4 → (s.sessClose n 2).claimOf k ≠ .session n)
    ∧ (∀ c, s.commands n 0x48 b c → s.subCheck n b = hOk → ∃ t, exec (.eventSubscribe n) s = .next t
      ∧ t = (State.logReplay (State.replay ((s.setSess n { s.sess n with sub := some (subOf b) }).hlDone n c hOk
          (beBytes 4 (s.sess n).evSeq)) n (beAt b 8 4)) n (beAt b 16 8)))
    ∧ (∀ a r, (s.sess n).again = a :: r → s.hlUp = true → (s.sess n).isOpen = true → exec (.eventSend n) s
      = .next ((s.setSess n { s.sess n with again := r }).txStrict (.event s.hlHdr (s.sess n).peer n a.1 a.2.2
          ((s.sess n).eventPacket n a.1 a.2.1 a.2.2))))
    ∧ (∀ e r, (s.sess n).again = [] → (s.sess n).relog = e :: r → s.hlUp = true → (s.sess n).isOpen = true → ∃ t,
      exec (.eventSend n) s = .next t ∧ (t.sess n).relog = r ∧ (t.sess n).unsent = (s.sess n).unsent
      ∧ (t.sess n).evSeq = (s.sess n).evSeq + 1)
    ∧ (∀ e r, (s.sess n).again = [] → (s.sess n).relog = [] → (s.sess n).unsent = e :: r → s.hlUp = true →
      (s.sess n).isOpen = true → ∃ t, exec (.eventSend n) s = .next t
      ∧ (t.sess n).unsent = r ∧ (t.sess n).evSeq = (s.sess n).evSeq + 1 ∧ (t.sess n).lost = 0
      ∧ (s.eth.txq = [] → s.paused (s.f .ETH_CFG_HL_PRIO) = none → t.out = s.out ++ [.event s.hlHdr (s.sess n).peer n
          (s.sess n).evSeq e ((s.sess n).eventPacket n (s.sess n).evSeq (s.sess n).lost e)]))
    ∧ (∀ c, s.commands n 0x60 [] c → exec (.resetDevice n) s
        = .next (((s.hlReply n c hOk []).hlQuiesce none).scheduleReset 1))

/-- 12 R445-R475: sessions, claims, locks and mailboxes. -/
def Obligations.SessionsAndMailboxes : Prop := claimsAndLocks ∧ mailboxes ∧ sessionLife

/-! ### The security block (13) -/

/-- 13 R479, R480, R487-R489, R503: a request that its rules accept is taken up: a life-cycle transition is announced and orders
a whole reset, a fuse blow is queued, a common granule waits for Harrow. -/
def Sys2Proof.Machine.securityRequests : Prop :=
  ∀ (s : State) (m : Master) (v : Word), s.opSession m = true →
    (let w := setBit v.toNat 0 true
     s.sec.jobs.any SecJob.isLc = false →
     (bits w 10 8 = lcScrap → s.sec.lcState < lcScrap →
       writeWaits (.secLcReq m v) m .SEC_LC_REQ 0 0 w s (s.lcAccept lcScrap))
     ∧ (∀ s1 st, s.tearing = false → bits w 10 8 ≠ lcScrap → lcStage s.sec.lcState (bits w 10 8) = some st → st ≤ s.stage →
       (s.sec.lcState = lcProvision → bits w 10 8 = lcField → s.fuses.ownersLive ≠ 0) →
       s.lcAuthOk (bits w 51 12 * 4096) (bits w 10 8) = (true, s1) →
       writeWaits (.secLcReq m v) m .SEC_LC_REQ 0 0 w s (s1.lcAccept (bits w 10 8))))
    ∧ (∀ k, (s.lcAccept k).f .SEC_LC_RESULT_CODE = 1
        ∧ (s.aon.due = none → (s.lcAccept k).aon.due = some (s.now + 100, 3))
        ∧ (s.lcAccept k).sec.jobs = s.sec.jobs ++ [.lcBlow k])
    ∧ (s.sec.jobs.any SecJob.isOwner = false → (s.sec.lcState = lcProvision ∨ s.sec.lcState = lcField) →
      let w (a : Nat) : Nat := putBits v.toNat 9 8 a
      let slot := bits v.toNat 1 0
      let start (j : SecJob) : State := s.setSec { s.sec with jobs := s.sec.jobs ++ [j] }
      (bit s.fuses.ownerBlown slot = false → writeWaits (.ownerProgram m v) m .SEC_OWNER_PROG 0 0 (w 1) s
        (start (.ownerProgram slot ((List.range 4).flatMap (fun i => leBytes 8 (s.f .SEC_OWNER_HASH_HASH i))))))
      ∧ ((s.sec.lcState = lcProvision ∨ 1 < s.fuses.ownersLive) →
        writeWaits (.ownerRevoke m v) m .SEC_OWNER_PROG 0 0 (w 2) s (start (.ownerRevoke slot)))
      ∧ (s.fuses.minSvn < 64 → writeWaits (.fwMinSvnRaise m v) m .SEC_OWNER_PROG 0 0 (w 3) s (start .minSvn)))
    ∧ (let w := setBit v.toNat 63 true
       s.sec.jobs.any SecJob.isRetire = false → s.lcAnalysis = true → NTbl.at 0 s.fuses.retire (bits w 35 32) = 0 →
       retireValid (bits w 15 0) = true → writeGives (.secRetireProg m v) m .SEC_RETIRE_PROG 0 0 w s
         (s.setSec { s.sec with jobs := s.sec.jobs ++ [.retire (bits w 35 32) (bits w 15 0)] }))

/-- 13 R503: the two rows of SEC_COMMON_REQ. -/
def Sys2Proof.Machine.commonRequests : Prop :=
  ∀ (s : State) (m : Master) (v : Word), s.sec.commonJob = none → s.tearing = false → s.sec.fatal = false →
    let g := bits v.toNat 8 0
    let w (a : Nat) : Nat := putBits v.toNat 17 16 a
    s.granPlots g = 0 →
    (s.commonEligible 1 g = true → ∃ t, writeGives (.makeCommon m v) m .SEC_COMMON_REQ 0 0 (w 1) s t
      ∧ t.sec.commonJob = some (1, g) ∧ t.f .SEC_COMMON_RESULT_CODE = 1 ∧ t.f .SEC_COMMON_RESULT_GRAN = g)
    ∧ (s.commonEligible 2 g = true → ∃ t, writeGives (.releaseCommon m v) m .SEC_COMMON_REQ 0 0 (w 2) s t
      ∧ t.sec.commonJob = some (2, g) ∧ t.f .SEC_COMMON_RESULT_CODE = 1 ∧ t.f .SEC_COMMON_RESULT_GRAN = g)

/-- 13 R484, R487-R489, R503, R511: how requests end: the first blow that is not of the life cycle sets its fuses and result;
a granule becomes common, all zeros, unless SB can no longer make its key, or returns to the operator; SB_FATAL is a module-fatal error. -/
def Sys2Proof.Machine.securityEnds : Prop :=
  ∀ (s : State),
    (∀ i h r, s.sec.jobs = .ownerProgram i h :: r → ∃ t, exec .fuseBlowDone s = .next t ∧ t.sec.jobs = r
      ∧ bit t.fuses.ownerBlown i = true ∧ NTbl.at [] t.fuses.ownerHash i = h ∧ t.f .SEC_OWNER_RESULT_CODE = 1)
    ∧ (∀ i r, s.sec.jobs = .ownerRevoke i :: r → ∃ t, exec .fuseBlowDone s = .next t ∧ t.sec.jobs = r
      ∧ bit t.fuses.ownerRevoked i = true ∧ t.f .SEC_OWNER_RESULT_CODE = 1)
    ∧ (∀ r, s.sec.jobs = .minSvn :: r → s.fuses.minSvn < 64 → ∃ t, exec .fuseBlowDone s = .next t ∧ t.sec.jobs = r
      ∧ t.fuses.minSvn = s.fuses.minSvn + 1 ∧ t.f .SEC_OWNER_RESULT_CODE = 1)
    ∧ (∀ i x r, s.sec.jobs = .retire i x :: r → ∃ t, exec .fuseBlowDone s = .next t ∧ t.sec.jobs = r
      ∧ NTbl.at 0 t.fuses.retire i = x ∧ t.f .SEC_RETIRE_RESULT_CODE = 1)
    ∧ (∀ g, s.sec.commonJob = some (1, g) → s.sec.fatal = true → s.sec.commonInst = 0 → exec .commonRequestDone s
      = .next ((s.setSec { s.sec with commonJob := none }).setF .SEC_COMMON_RESULT_CODE 0 0 3))
    ∧ (∀ g, s.sec.commonJob = some (1, g) → (s.sec.fatal = false ∨ s.sec.commonInst ≠ 0) → ∃ t, exec .commonRequestDone s = .next t ∧ t.sec.commonJob = none
      ∧ g ∈ t.sec.common ∧ t.f .SEC_COMMON_RESULT_CODE = 2 ∧ (∀ a, a / 2 ^ 30 = g → NTbl.at 0 t.mem.cells a = 0)
      ∧ ∀ a, a / 2 ^ 30 ≠ g → NTbl.at 0 t.mem.cells a = NTbl.at 0 s.mem.cells a)
    ∧ (∀ g, s.sec.commonJob = some (2, g) → s.twinOf g = none → ∃ t, exec .commonRequestDone s = .next t
      ∧ t.sec.commonJob = none ∧ g ∉ t.sec.common ∧ t.f .SEC_COMMON_RESULT_CODE = 2
      ∧ ∀ a, a / 2 ^ 30 = g → NTbl.at 0 t.mem.cells a = 0)
    ∧ (∀ cause, ∃ t, exec (.sbFatal cause) s = .next t ∧ t.sec.fatal = true ∧ t.aon.alert = true
      ∧ t.hl.moduleSeq = s.hl.moduleSeq + 1 ∧ t.mem = s.mem)

/-- 13 R479-R511: the security block's requests and how they end. -/
def Obligations.SecurityBlock : Prop := securityRequests ∧ commonRequests ∧ securityEnds

/-! ### Rails, sensors and the governor (15) -/

/-- 15 R545-R549, R563-R565: rails: readings are published, a rail fault takes what it supplies out of service or stops the
module, and a site above its limits is reported. -/
def Sys2Proof.Machine.railRows : Prop :=
  ∀ (s : State) (x : RailReading) (r word n : Nat), s.aon.porstLow = false →
    (∀ l, exec (.pmbusPoll l) s = .next (l.foldl State.railRead s))
    ∧ (x.rail < 32 → s.railState x.rail = 1 → x.fails = 0 → ∃ t, exec (.pmbusPoll [x]) s = .next t
      ∧ t.f .PWR_RAIL_STATUS_VOUT_MV x.rail = min 65535 x.mv ∧ t.f .PWR_RAIL_STATUS_IOUT_DA x.rail = min 65535 x.da
      ∧ t.f .PWR_RAIL_STATUS_TEMP_C x.rail = min 255 x.tempC ∧ t.units = s.units ∧ t.hl = s.hl)
    ∧ (statusFault word = true → exec (.pmbAlert [(r, word)]) s = exec (.pwrRailFault r word) s)
    ∧ (statusFault word = false → exec (.pmbAlert [(r, word)]) s = .next s)
    ∧ (r < 8 → s.railState r = 1 → (s.unit .engine r).st = some .present → ∃ t, exec (.pwrRailFault r word) s = .next t
      ∧ (t.unit .engine r).st = some .failed ∧ t.f .PWR_ERR_STATUS_RAIL_FAULT = 1 ∧ t.railState r = 2)
    ∧ (8 ≤ r → r < 16 → s.railState r = 1 → s.stopped = false → ∃ t, exec (.pwrRailFault r word) s = .next t
      ∧ t.stopped = true ∧ t.f .PWR_STOP_INFO_CAUSE = 3 ∧ t.f .PWR_STOP_INFO_RAIL = r ∧ t.aon.alert = true
      ∧ (∀ e, e < 8 → (t.eng e).runs = []) ∧ ∀ e, e < 16 → (t.dom e).running = false)
    ∧ (16 ≤ r → r < 32 → s.railState r = 1 → (s.unit .site ((r - 16) / 2)).st = some .present →
      ∃ t, exec (.pwrRailFault r word) s = .next t ∧ (t.unit .site ((r - 16) / 2)).st = some .failed)
    ∧ (∀ avg peak, n < 8 → avg ≤ s.f .PWR_SITE_CFG_LIMIT_W n → peak ≤ 198 → avg < 65536 →
      ∃ t, exec (.sitePowerAverage n avg peak) s = .next t ∧ t.f .PWR_SITE_STATUS_AVG_W n = avg
        ∧ t.f .PWR_SITE_STATUS_PEAK_W n = max (s.f .PWR_SITE_STATUS_PEAK_W n) peak ∧ t.hl = s.hl)
    ∧ (∀ avg, n < 8 → s.f .PWR_SITE_CFG_LIMIT_W n < avg → ∃ t, exec (.sitePowerAverage n avg 198) s = .next t
        ∧ t.f .PWR_ERR_STATUS_SITE_OVER = 1)

/-- 15 R551-R561, R636: sensors and the governor: the hottest reading of a zone's hub sensors sets its zone's temperature and levels by their thresholds and
hysteresis; three failed ones are taken as HOT; a tick judges every zone, the power limit and the steps; caps rise one step
at a time; a change of step ends with its clock. -/
def Sys2Proof.Machine.governorRows : Prop :=
  ∀ (s : State) (z : Nat), z < 8 →
    (∀ l q, s.aon.porstLow = false → s.aon.refLost = false → hottest l = some q → ∃ t, exec (.hubSensorReading z l) s = .next t
      ∧ t.f .PWR_ZONE_STATUS_HUB_TEMP_Q2 z = ofInt 12 q ∧ t.f .PWR_ZONE_STATUS_SENSOR_LOST z = 0
      ∧ ((s.msite z).tempRead = true → t.level z false
        = levelOf (s.level z false) (asInt 12 (ofInt 12 q)) (s.warnQ false) (s.hotQ false) 440))
    ∧ (∀ l, s.aon.porstLow = false → s.aon.refLost = false → hottest l = none → (s.zone z).hubFails < 2 →
      exec (.hubSensorReading z l) s = .next (s.setZone z { s.zone z with hubFails := (s.zone z).hubFails + 1 }))
    ∧ (∀ l, s.aon.porstLow = false → s.aon.refLost = false → hottest l = none → (s.zone z).hubFails = 2 →
      s.f .PWR_ZONE_STATUS_SENSOR_LOST z = 0 → ∃ t, exec (.hubSensorReading z l) s = .next t ∧ t.f .PWR_ZONE_STATUS_SENSOR_LOST z = 1
        ∧ t.f .PWR_ERR_STATUS_TSENSE_LOST = 1)
    ∧ (∀ est, (s.dom 22).running = true → s.stopped = false →
      let s1 := (List.range 8).foldl State.tickZone s
      s1.stopped = false → exec (.governorTick est) s
        = .next ((List.range 8).foldl State.tickTime ((List.range 8).foldl State.tickStep (s1.tickPower est))))
    ∧ (∀ x, (s.zone z).grace = some x → ∃ t, exec (.graceExpiry z) s = .next t ∧ (t.zone z).grace = none
      ∧ t.hl.moduleSeq = s.hl.moduleSeq + 1 ∧ t.units = s.units ∧ t.mem = s.mem)
    ∧ ((s.dom 22).running = true → s.stopped = false → s.zoneKnown z = true →
      s.zoneTemp z true ≤ s.warnQ true - 12 → s.zoneTemp z false ≤ s.warnQ false - 12 → s.underLimit = false →
      exec (.capRise z) s = .next (s.setF .PWR_ZONE_STATUS_CAP_THERM z 0 (s.f .PWR_ZONE_STATUS_CAP_THERM z - 1)))
    ∧ ((s.dom 22).running = true → s.stopped = false → s.zoneKnown z = false → s.underLimit = true →
      exec (.capRise z) s = .next (s.setF .PWR_ZONE_STATUS_CAP_POWER z 0 (s.f .PWR_ZONE_STATUS_CAP_POWER z - 1)))
    ∧ (∀ k, (s.zone z).changing = some k → s.engClocked z = true → ∃ t, exec (.dvfsChangeDone z) s = .next t
      ∧ t.f .PWR_ZONE_STATUS_STEP z = k ∧ t.f .CLK_DOM_STATUS_FREQ_ACT z = 1000 - 100 * k ∧ (t.zone z).changing = none)

/-- 15: rails, sensors, the governor and the protective stop. -/
def Obligations.PowerAndThermal : Prop := railRows ∧ governorRows

/-! ### Telemetry, debug stores and the test bus (16) -/

/-- 16 R578-R583: captures, the carve-out and exports: a capture takes every domain's count, an OPEN, CLOSE or region write
acts as the state allows, and an export copies the carve-out's bytes to memory. -/
def Sys2Proof.Machine.carveOutRows : Prop :=
  ∀ (s : State) (m : Master) (i : Nat) (v : Word),
    (s.tel.snap = false → ∃ t, writeGives (.telSnap m v) m .TEL_SNAP_CTL 0 0 (setBit v.toNat 0 true) s t ∧ t.tel.snap = true
      ∧ t.f .TEL_SNAP_CTL_SNAP_SEQ = (s.f .TEL_SNAP_CTL_SNAP_SEQ + 1) % 2 ^ 32
      ∧ ∀ d, d < 25 → ∃ k, k < 5 ∧ t.f .TEL_SNAP_CYC_COUNT d = satAdd 64 (s.dom d).cycles k)
    ∧ (∃ t, exec .snapCaptureDone s = .next t ∧ t.tel.snap = false ∧ t.flds = s.flds)
    ∧ (s.coState = 0 → writeGives (.telCoOpen m v) m .TEL_CO_CTL 0 0 (putBits v.toNat 1 0 1) s
        ((s.setF .TEL_CO_CTL_STATE 0 0 1).setTel { s.tel with opening := true }))
    ∧ (s.coState = 2 → ∃ t, writeGives (.telCoClose m v) m .TEL_CO_CTL 0 0 (putBits v.toNat 1 0 2) s t ∧ t.coState = 1
      ∧ t.tel.opening = false ∧ ∀ j, j < 4 → t.f .TEL_CO_REGION_ENABLE j = 0)
    ∧ (s.coState = 1 → ∃ t, exec .telCoState s = .next t ∧ t.coState = (if s.tel.opening then 2 else 0) ∧ t.tel.co = []
      ∧ t.hl.moduleSeq = s.hl.moduleSeq + 1)
    ∧ (∀ t, s.anyChange .TEL_CO_REGION i 0 v.toNat = true → s.telRegion i v.toNat = (hOk, t) →
      writeGives (.telCoRegion m i v) m .TEL_CO_REGION i 0 v.toNat s t
      ∧ t.f .TEL_CO_REGION_ENABLE i = bits v.toNat 0 0 ∧ t.f .TEL_CO_REGION_BASE i = bits v.toNat 41 28
      ∧ t.f .TEL_CO_REGION_SIZE i = bits v.toNat 58 44 ∧ t.f .TEL_CO_REGION_USER i = bits v.toNat 5 4
      ∧ (bits v.toNat 0 0 = 1 → t.f .TEL_CO_REGSTAT_WR_PTR i = 0))
    ∧ (let w := setBit v.toNat 0 true
       let src := 64 * s.f .TEL_EXPORT_SRC_SRC
       let len := 64 * s.f .TEL_EXPORT_SRC_LENGTH_L
       s.tel.job = none → s.exportOk src len (64 * bits w 51 6) = true →
       ∃ t, writeGives (.telExport m v) m .TEL_EXPORT 0 0 w s t ∧ t.tel.job = some (src, len, 64 * bits w 51 6)
         ∧ t.f .TEL_EXPORT_RESULT_CODE = 1 ∧ t.f .TEL_EXPORT_DEST = bits w 51 6 ∧ t.mem = s.mem)
    ∧ (∀ src len dest st a s1, s.tel.job = some (src, len, dest) →
      (s.arm.setTel { s.tel with job := none }).wr { id := 0x60, plot := none } dest (cellBytes s.tel.co src len)
        = (st, a, s1) →
      let t := (s1.setF .TEL_EXPORT_RESULT_CODE 0 0 2).raise 0xA018 sevNone 0 0 [2] .op
      s.comesTo .telExportDone .dump t ∧ t.f .TEL_EXPORT_RESULT_CODE = 2 ∧ t.mem = s1.mem)

/-- 16 R584-R589, R594, R598: monitors, probes, debug stores and the analogue test bus. -/
def Sys2Proof.Machine.monitorsAndStores : Prop :=
  ∀ (s : State) (m : Master) (k : Nat) (v : Word),
    (∀ x, s.f .GLN_CFG_ENABLE k ≠ 0 → s.glnLevel (s.f .GLN_CFG_SRC_KIND k) (s.f .GLN_CFG_SRC_INDEX k) = some x →
      x < 2 ^ 32 → ∃ t, exec (.gleanSample k) s = .next t
        ∧ t.f .GLN_MINMAX_MIN k = min x (s.f .GLN_MINMAX_MIN k) ∧ t.f .GLN_MINMAX_MAX k = max x (s.f .GLN_MINMAX_MAX k)
        ∧ t.f .GLN_COUNT_COUNT k = satAdd 64 (s.f .GLN_COUNT_COUNT k) 1
        ∧ t.f .GLN_SUM_SUM k = satAdd 64 (s.f .GLN_SUM_SUM k) x ∧ t.mem = s.mem)
    ∧ (s.f .GLN_CFG_ENABLE k ≠ 0 → s.f .GLN_CFG_HIST_EN k ≠ 0 → ∃ t, exec (.gleanEpoch k) s = .next t
      ∧ (t.gln k).seq = ((s.gln k).seq + 1) % 2 ^ 32 ∧ (t.gln k).bins = [] ∧ (t.gln k).count = 0
      ∧ (t.gln k).start = (s.dom 24).cycles)
    ∧ (s.f .PRB_CFG_ENABLE k = 0 → bits v.toNat 0 0 = 1 → ∃ t, writeGives (.prbCfg m k v) m .PRB_CFG k 0 v.toNat s t
      ∧ t.f .PRB_CFG_ENABLE k = 1 ∧ t.f .PRB_PKTS_COUNT k = 0 ∧ t.f .PRB_BYTES_COUNT k = 0)
    ∧ (s.f .PRB_CFG_ENABLE k ≠ 0 → writeGives (.prbCfg m k v) m .PRB_CFG k 0 v.toNat s (s.putFields .PRB_CFG k 0 v.toNat))
    ∧ (∀ p, s.probeMatches k p = true → s.f .PRB_CFG_ACTIONS k = 1 →
      (s.probeHit k p).f .PRB_PKTS_COUNT k = satAdd 64 (s.f .PRB_PKTS_COUNT k) 1)
    ∧ (∀ d s0 s1 off q, regAddr .DBG_DATA 0 0 = some (ctlBase + off) → ctlOff (ctlBase + off) = some off →
      s0.sends m off 8 false q s → (s.debugMark m off).regRead m off 8 = (hOk, d, s1) →
      exec (.dbgData m none) s0 = .next (s1.told q m hOk d))
    ∧ (∀ s0 off q s1, regAddr .DBG_DATA 0 0 = some (ctlBase + off) → ctlOff (ctlBase + off) = some off →
      s0.sends m off 8 true q s → (s.debugMark m off).regWrite m off 8 v.toNat = (hOk, s1) →
      exec (.dbgData m (some v)) s0 = .next (s1.wrote q m hOk))
    ∧ (∀ x, s.f .DBG_SEL_STORE = 3 → 8 * s.f .DBG_OFFSET_OFFSET < 0x2000 → s.plotOfEngine (s.f .DBG_SEL_UNIT) = none →
      (s.dbgData none).1 = hOk ∧ (s.dbgData none).2.1 = NTbl.at 0 (s.eng (s.f .DBG_SEL_UNIT)).lps (s.f .DBG_OFFSET_OFFSET)
        ∧ (s.dbgData none).2.2.f .DBG_OFFSET_OFFSET = (s.f .DBG_OFFSET_OFFSET + 1) % 2 ^ 29
        ∧ (s.dbgData (some x)).1 = hOk
        ∧ NTbl.at 0 ((s.dbgData (some x)).2.2.eng (s.f .DBG_SEL_UNIT)).lps (s.f .DBG_OFFSET_OFFSET) = x)
    ∧ (bits v.toNat 1 0 ≠ 2 → (s.f .ATB_CFG_MODE k ≠ bits v.toNat 1 0 ∨ s.f .ATB_CFG_NODE k ≠ bits v.toNat 15 8) → k < 2 →
      ∃ t, writeGives (.atbCfg m k v) m .ATB_CFG k 0 v.toNat s t ∧ bit t.tel.atbWait k = true
        ∧ t.f .ATB_CFG_MODE k = bits v.toNat 1 0 ∧ t.f .ATB_CFG_NODE k = bits v.toNat 15 8
        ∧ t.out = s.out ++ [.pin (1 + k) 0])
    ∧ (bit s.tel.atbWait k = true → k < 2 → ∃ t, exec (.atbNewConnection k) s = .next t ∧ bit t.tel.atbWait k = false
      ∧ t.out = s.out ++ [.pin (1 + k) (s.atbPin k)])
    ∧ (s.tel.trigHigh = true → ∃ t, exec .trigOutPulseEnd s = .next t ∧ t.tel.trigHigh = false
      ∧ t.out = s.out ++ [.pin 0 0])

/-- 16 R578-R602: telemetry and debug stores. -/
def Obligations.TelemetryRows : Prop := carveOutRows ∧ monitorsAndStores

/-! ### The TAP and the management port (16 R596, R597, 17 R621-R624) -/

/-- 16 R596, R597, 17 R621-R624: each instruction that the state of the module lets act is selected, and BYPASS in its
place where it does not; IDCODE shifts 0x116085CF out, least significant byte first; the debug access instrument performs the access shifted in;
the management port keeps INDEX and answers with the register's eight bytes, and 0xFF from the tenth byte on. -/
def Obligations.TestAndManagementPorts : Prop :=
  ∀ (s : State),
    (s.jtag.reset = false →
      (∀ dr, s.sec.lcState ≠ lcScrap → ∃ t, exec (.samplePreload dr) s = .next t ∧ t.jtag.ir = irSample ∧ t.jtag.boundary = dr)
      ∧ (∀ dr, s.sec.lcState ≠ lcScrap → s.pinsFree = true →
        (∃ t, exec (.extest dr) s = .next t ∧ t.jtag.ir = irExtest ∧ t.jtag.boundary = dr)
        ∧ (∃ t, exec .clamp s = .next t ∧ t.jtag.ir = irClamp ∧ t.jtag.boundary = s.jtag.boundary)
        ∧ (∃ t, exec .highz s = .next t ∧ t.jtag.ir = irHighz ∧ t.jtag.boundary = s.jtag.boundary))
      ∧ (∀ dr, s.pinsFree = false →
        (∃ t, exec (.extest dr) s = .next t ∧ t.jtag.ir = irBypass ∧ t.jtag.boundary = s.jtag.boundary)
        ∧ (∃ t, exec .clamp s = .next t ∧ t.jtag.ir = irBypass) ∧ (∃ t, exec .highz s = .next t ∧ t.jtag.ir = irBypass))
      ∧ (s.sec.lcState ≠ lcScrap → ∃ t, exec .ijtag s = .next t ∧ t.jtag.ir = irIjtag ∧ t.mem = s.mem)
      ∧ (s.sec.lcState = lcScrap → ∃ t, exec .ijtag s = .next t ∧ t.jtag.ir = irBypass)
      ∧ (∃ t, exec .bypass s = .next t ∧ t.jtag.ir = irBypass ∧ t.out = s.out)
      ∧ (∃ t, exec .idcode s = .next t ∧ t.jtag.ir = irIdcode
        ∧ t.out = s.out ++ [.serial 1 [0xCF, 0x85, 0x60, 0x11]]))
    ∧ (∃ t, exec .trstN s = .next t ∧ t.jtag.reset = true ∧ t.jtag.ir = irIdcode ∧ t.sec = s.sec ∧ t.mem = s.mem)
    ∧ (∃ t, exec .testLogicResetExit s = .next t ∧ t.jtag.reset = false ∧ t.sec.jtagSeen = true ∧ t.mem = s.mem)
    ∧ (∀ dr : BitVec 128, s.jtag.reset = false → s.jtag.ir = irIjtag → s.sec.lcState ≠ lcScrap → s.jtag.left ≤ 1 →
      let s1 : State := { s.arm with jtag := { s.jtag with left := s.jtag.left - 1 } }
      let s2 := s1.emit (.serial 1 (leBytes 16 s.jtag.result))
      (bits dr.toNat 63 62 = 0 → s.comesTo (.debugAccessInstrument dr) (.master 0x70) s2)
      ∧ (bits dr.toNat 63 62 ≠ 0 → ∀ d r s3, s2.instrument (bits dr.toNat 63 62) (bits dr.toNat 51 3 * 8)
          (bits dr.toNat 127 64) = (d, r, s3) →
        s.comesTo (.debugAccessInstrument dr) (.master 0x70) { s3 with jtag := { s3.jtag with
          left := 2
          result := d * 2 ^ 64 + bits dr.toNat 63 62 * 2 ^ 62 + r * 2 ^ 59 + bits dr.toNat 51 3 * 8 } }))
    ∧ (∀ b r, exec (.mgmtWriteIndex (b :: r)) s = .next { s with mgmtIndex := b.toNat })
    ∧ (∃ t, exec (.mgmtRead 8) s = .next t ∧ t.out = s.out ++ [.serial 0 (leBytes 8 (s.mgmtWord s.mgmtIndex))]
      ∧ t.mem = s.mem ∧ t.flds = s.flds ∧ t.mgmtIndex = s.mgmtIndex)
    ∧ (∀ n, ∃ t b, exec (.mgmtRead n) s = .next t ∧ t.out = s.out ++ [.serial 0 b] ∧ b.length = n
      ∧ ∀ i, 9 ≤ i → i < n → b.getD i 0 = 0xFF)
end

