-- ==== Sys2Proof/Laws/Bits.lean ====
section
/-! SUPPORT. Laws of bit fields: what a field reads after it is put. -/

namespace Sys2Proof.Machine

/-- A field that was put reads what was put. -/
theorem bits_putBits (v hi lo x : Nat) (h : lo ≤ hi) : bits (putBits v hi lo x) hi lo = x % 2 ^ (hi + 1 - lo) := by
  obtain ⟨w, rfl⟩ := Nat.exists_eq_add_of_le h
  have e1 : lo + w + 1 - lo = w + 1 := by omega
  have e2 : lo + w + 1 = (w + 1) + lo := by omega
  unfold bits putBits
  rw [e1, e2, Nat.pow_add]
  have hp : 0 < 2 ^ lo := Nat.two_pow_pos lo
  have h1 : v % 2 ^ lo < 2 ^ lo := Nat.mod_lt _ hp
  have h2 : v / (2 ^ (w + 1) * 2 ^ lo) * (2 ^ (w + 1) * 2 ^ lo) + x % 2 ^ (w + 1) * 2 ^ lo + v % 2 ^ lo
      = v % 2 ^ lo + 2 ^ lo * (x % 2 ^ (w + 1) + 2 ^ (w + 1) * (v / (2 ^ (w + 1) * 2 ^ lo))) := by
    simp only [Nat.mul_add, Nat.mul_comm, Nat.add_comm, Nat.mul_assoc]
  rw [h2, Nat.add_mul_div_left _ _ hp, Nat.div_eq_of_lt h1, Nat.zero_add, Nat.add_mul_mod_self_left, Nat.mod_mod]

/-- A bit that was set reads as it was set. -/
theorem bit_setBit (v i : Nat) (b : Bool) : bit (setBit v i b) i = b := by
  have h := bits_putBits v i i (if b then 1 else 0) (Nat.le_refl i)
  have e : i + 1 - i = 1 := by omega
  unfold bits at h
  rw [e, Nat.pow_one] at h
  unfold bit setBit
  rw [h]
  cases b <;> rfl

/-- One-bit field of a word whose bit was set. -/
theorem bits_setBit (v i : Nat) (b : Bool) : bits (setBit v i b) i i = if b then 1 else 0 := by
  rw [setBit, bits_putBits v i i _ (Nat.le_refl i), show i + 1 - i = 1 by omega]
  cases b <;> rfl

end Sys2Proof.Machine
end

