-- ==== Sys2Proof/Laws/Tbl.lean ====
section
/-! SUPPORT. Laws of sparse tables: reading after writing, and that writing keeps the canonical form. -/

namespace Sys2Proof.Machine

variable {κ α : Type} [DecidableEq κ]

theorem Tbl.get_del_same (d : κ → α) (t : Tbl κ α) (k : κ) : Tbl.get d (Tbl.del t k) k = d k := by
  induction t with
  | nil => rfl
  | cons e t ih =>
    obtain ⟨k', v⟩ := e
    by_cases h : k' = k <;> simp [Tbl.del, Tbl.get, h, ih]

theorem Tbl.get_del_ne (d : κ → α) (t : Tbl κ α) {k k2 : κ} (hne : k2 ≠ k) :
    Tbl.get d (Tbl.del t k) k2 = Tbl.get d t k2 := by
  induction t with
  | nil => rfl
  | cons e t ih =>
    obtain ⟨k', v⟩ := e
    by_cases h : k' = k
    · subst h
      simp [Tbl.del, Tbl.get, ih, Ne.symm hne]
    · by_cases h2 : k' = k2
      · subst h2
        simp [Tbl.del, Tbl.get, h]
      · simp [Tbl.del, Tbl.get, h, h2, ih]

theorem Tbl.get_ins_same (lt : κ → κ → Bool) (d : κ → α) (t : Tbl κ α) (k : κ) (v : α) :
    Tbl.get d (Tbl.ins lt t k v) k = v := by
  induction t with
  | nil => simp [Tbl.ins, Tbl.get]
  | cons e t ih =>
    obtain ⟨k', v'⟩ := e
    by_cases h : k' = k
    · simp [Tbl.ins, Tbl.get, h]
    · by_cases h2 : lt k k' = true <;> simp [Tbl.ins, Tbl.get, h, h2, ih]

theorem Tbl.get_ins_ne (lt : κ → κ → Bool) (d : κ → α) (t : Tbl κ α) {k k2 : κ} (v : α) (hne : k2 ≠ k) :
    Tbl.get d (Tbl.ins lt t k v) k2 = Tbl.get d t k2 := by
  induction t with
  | nil => simp [Tbl.ins, Tbl.get, Ne.symm hne]
  | cons e t ih =>
    obtain ⟨k', v'⟩ := e
    by_cases h : k' = k
    · subst h
      simp [Tbl.ins, Tbl.get, Ne.symm hne]
    · by_cases h2 : lt k k' = true
      · simp [Tbl.ins, Tbl.get, h, h2, Ne.symm hne]
      · by_cases h3 : k' = k2
        · subst h3
          simp [Tbl.ins, Tbl.get, h, h2]
        · simp [Tbl.ins, Tbl.get, h, h2, h3, ih]

theorem Tbl.get_set_same [DecidableEq α] (lt : κ → κ → Bool) (d : κ → α) (t : Tbl κ α) (k : κ) (v : α) :
    Tbl.get d (Tbl.set lt d t k v) k = v := by
  unfold Tbl.set
  split
  · rename_i h
    rw [Tbl.get_del_same, h]
  · exact Tbl.get_ins_same lt d t k v

theorem Tbl.get_set_ne [DecidableEq α] (lt : κ → κ → Bool) (d : κ → α) (t : Tbl κ α) {k k2 : κ} (v : α) (hne : k2 ≠ k) :
    Tbl.get d (Tbl.set lt d t k v) k2 = Tbl.get d t k2 := by
  unfold Tbl.set
  split
  · exact Tbl.get_del_ne d t hne
  · exact Tbl.get_ins_ne lt d t v hne

/-! ### The canonical form -/

theorem Tbl.del_all (p : κ × α → Bool) (t : Tbl κ α) (k : κ) (h : t.all p = true) : (Tbl.del t k).all p = true := by
  induction t with
  | nil => rfl
  | cons e t ih =>
    obtain ⟨k', v⟩ := e
    simp only [List.all_cons, Bool.and_eq_true] at h
    by_cases hk : k' = k
    · simp [Tbl.del, hk, ih h.2]
    · simp [Tbl.del, hk, h.1, ih h.2]

theorem Tbl.wf_del [DecidableEq α] (lt : κ → κ → Bool) (d : κ → α) (t : Tbl κ α) (k : κ) (h : Tbl.wf lt d t = true) :
    Tbl.wf lt d (Tbl.del t k) = true := by
  induction t with
  | nil => rfl
  | cons e t ih =>
    obtain ⟨k', v⟩ := e
    simp only [Tbl.wf, Bool.and_eq_true] at h
    by_cases hk : k' = k
    · simp [Tbl.del, hk, ih h.2]
    · simp [Tbl.del, hk, Tbl.wf, h.1.1, Tbl.del_all _ t k h.1.2, ih h.2]

theorem Tbl.ins_all (lt : κ → κ → Bool) (p : κ × α → Bool) (t : Tbl κ α) (k : κ) (v : α) (h : t.all p = true)
    (hp : p (k, v) = true) : (Tbl.ins lt t k v).all p = true := by
  induction t with
  | nil => simp [Tbl.ins, hp]
  | cons e t ih =>
    obtain ⟨k', v'⟩ := e
    simp only [List.all_cons, Bool.and_eq_true] at h
    by_cases hk : k' = k
    · simp only [Tbl.ins, hk, if_true, List.all_cons, hp, h.2, Bool.and_self]
    · by_cases h2 : lt k k' = true
      · simp only [Tbl.ins, hk, h2, if_true, if_false, List.all_cons, hp, h.1, h.2, Bool.and_self]
      · simp only [Tbl.ins, hk, h2, if_false, List.all_cons, h.1, ih h.2, Bool.and_self, Bool.false_eq_true]

/-- What an order of keys must be for the canonical form. -/
structure KeyOrder (lt : κ → κ → Bool) : Prop where
  trans : ∀ a b c, lt a b = true → lt b c = true → lt a c = true
  total : ∀ a b, a ≠ b → lt a b = false → lt b a = true

theorem Tbl.wf_ins [DecidableEq α] {lt : κ → κ → Bool} (ho : KeyOrder lt) (d : κ → α) (t : Tbl κ α) (k : κ) (v : α) (hv : v ≠ d k)
    (h : Tbl.wf lt d t = true) : Tbl.wf lt d (Tbl.ins lt t k v) = true := by
  induction t with
  | nil => simp [Tbl.ins, Tbl.wf, hv]
  | cons e t ih =>
    obtain ⟨k', v'⟩ := e
    simp only [Tbl.wf, Bool.and_eq_true] at h
    by_cases hk : k' = k
    · subst hk
      simp only [Tbl.ins, if_true, Tbl.wf, Bool.and_eq_true]
      exact ⟨⟨by simpa using hv, h.1.2⟩, h.2⟩
    · by_cases h2 : lt k k' = true
      · simp only [Tbl.ins, hk, h2, if_true, if_false, Tbl.wf, List.all_cons, Bool.and_eq_true]
        refine ⟨⟨by simpa using hv, by trivial, ?_⟩, h.1, h.2⟩
        have h12 := List.all_eq_true.mp h.1.2
        exact List.all_eq_true.mpr (fun x hx => ho.trans _ _ _ h2 (h12 x hx))
      · simp only [Tbl.ins, hk, h2, if_false, Tbl.wf, Bool.and_eq_true, Bool.false_eq_true]
        exact ⟨⟨h.1.1, Tbl.ins_all lt _ t k v h.1.2 (ho.total _ _ (Ne.symm hk) (by simpa using h2))⟩, ih h.2⟩

theorem Tbl.wf_set [DecidableEq α] {lt : κ → κ → Bool} (ho : KeyOrder lt) (d : κ → α) (t : Tbl κ α) (k : κ) (v : α)
    (h : Tbl.wf lt d t = true) : Tbl.wf lt d (Tbl.set lt d t k v) = true := by
  unfold Tbl.set
  split
  · exact Tbl.wf_del lt d t k h
  · rename_i hv
    exact Tbl.wf_ins ho d t k v hv h

theorem natLt_order : KeyOrder natLt where
  trans a b c h1 h2 := by simp only [natLt, decide_eq_true_eq] at *; omega
  total a b h1 h2 := by simp only [natLt, decide_eq_true_eq, decide_eq_false_iff_not] at *; omega

theorem pairLt_order : KeyOrder pairLt where
  trans a b c h1 h2 := by
    simp only [pairLt, Bool.or_eq_true, Bool.and_eq_true, decide_eq_true_eq] at *
    omega
  total a b h1 h2 := by
    have : ¬ (a.1 = b.1 ∧ a.2 = b.2) := fun h => h1 (Prod.ext h.1 h.2)
    simp only [pairLt, Bool.or_eq_true, Bool.and_eq_true, decide_eq_true_eq, Bool.or_eq_false_iff,
      Bool.and_eq_false_iff, decide_eq_false_iff_not] at *
    omega

/-! ### Tables keyed by numbers and pairs -/

@[simp] theorem NTbl.at_put_same [DecidableEq α] (d : α) (t : NTbl α) (k : Nat) (v : α) : NTbl.at d (NTbl.put d t k v) k = v :=
  Tbl.get_set_same natLt _ t k v

theorem NTbl.at_put_ne [DecidableEq α] (d : α) (t : NTbl α) {k k2 : Nat} (v : α) (h : k2 ≠ k) :
    NTbl.at d (NTbl.put d t k v) k2 = NTbl.at d t k2 := Tbl.get_set_ne natLt _ t v h

theorem NTbl.wf_put [DecidableEq α] (d : α) (t : NTbl α) (k : Nat) (v : α) (h : Tbl.wf natLt (fun _ => d) t = true) :
    Tbl.wf natLt (fun _ => d) (NTbl.put d t k v) = true := Tbl.wf_set natLt_order _ t k v h

@[simp] theorem PTbl.at_put_same [DecidableEq α] (d : α) (t : PTbl α) (i j : Nat) (v : α) : PTbl.at d (PTbl.put d t i j v) i j = v :=
  Tbl.get_set_same pairLt _ t (i, j) v

theorem PTbl.at_put_ne [DecidableEq α] (d : α) (t : PTbl α) {i j i2 j2 : Nat} (v : α) (h : (i2, j2) ≠ (i, j)) :
    PTbl.at d (PTbl.put d t i j v) i2 j2 = PTbl.at d t i2 j2 := Tbl.get_set_ne pairLt _ t v h

theorem PTbl.wf_put [DecidableEq α] (d : α) (t : PTbl α) (i j : Nat) (v : α) (h : Tbl.wf pairLt (fun _ => d) t = true) :
    Tbl.wf pairLt (fun _ => d) (PTbl.put d t i j v) = true := Tbl.wf_set pairLt_order _ t (i, j) v h

end Sys2Proof.Machine
end

