-- ==== Sys2Proof/Laws/State.lean ====
section
/-! SUPPORT. One lemma for each component of the state and each update: what the update leaves as it was, and what a
read of the updated entry gives. -/

namespace Sys2Proof.Machine

/-! ### Register fields -/

theorem fid_idx {a b : Fid} (h : a.ctorIdx = b.ctorIdx) : a = b := by
  have := congrArg Fid.ofNat h
  simpa only [Fid.ofNat_ctorIdx] using this

theorem fkLt_order : KeyOrder fkLt where
  trans a b c h1 h2 := by
    simp only [fkLt, pairLt, Bool.or_eq_true, Bool.and_eq_true, decide_eq_true_eq] at *
    omega
  total a b h1 h2 := by
    have : ¬ (a.f.ctorIdx = b.f.ctorIdx ∧ a.i = b.i ∧ a.j = b.j) := by
      rintro ⟨h3, h4, h5⟩
      have h6 := fid_idx h3
      cases a
      cases b
      simp_all
    simp only [fkLt, pairLt, Bool.or_eq_true, Bool.and_eq_true, decide_eq_true_eq, Bool.or_eq_false_iff,
      Bool.and_eq_false_iff, decide_eq_false_iff_not] at *
    omega

@[simp] theorem State.f_setF_same (s : State) (f : Fid) (i j v : Nat) : (s.setF f i j v).f f i j = v :=
  Tbl.get_set_same fkLt fkReset s.flds ⟨f, i, j⟩ v

theorem State.f_setF_ne (s : State) {f f2 : Fid} {i j i2 j2 : Nat} (v : Nat) (h : (f2, i2, j2) ≠ (f, i, j)) :
    (s.setF f i j v).f f2 i2 j2 = s.f f2 i2 j2 :=
  Tbl.get_set_ne fkLt fkReset s.flds v (by
    intro h2
    injection h2 with h3 h4 h5
    exact h (by rw [h3, h4, h5]))

@[simp] theorem State.f_setF_fid (s : State) {f f2 : Fid} {i j i2 j2 : Nat} (v : Nat) (h : f2 ≠ f) :
    (s.setF f i j v).f f2 i2 j2 = s.f f2 i2 j2 := s.f_setF_ne v (by simp [h])

@[simp] theorem State.f_count_same (s : State) (f : Fid) (i j w x : Nat) :
    (s.count f i j w x).f f i j = satAdd w (s.f f i j) x := s.f_setF_same f i j _

@[simp] theorem State.f_count_fid (s : State) {f f2 : Fid} {i j i2 j2 w x : Nat} (h : f2 ≠ f) :
    (s.count f i j w x).f f2 i2 j2 = s.f f2 i2 j2 := s.f_setF_fid _ h

@[simp] theorem State.f_flag_same (s : State) (f : Fid) (i j : Nat) : (s.flag f i j).f f i j = 1 := s.f_setF_same f i j 1

@[simp] theorem State.f_flag_fid (s : State) {f f2 : Fid} {i j i2 j2 : Nat} (h : f2 ≠ f) :
    (s.flag f i j).f f2 i2 j2 = s.f f2 i2 j2 := s.f_setF_fid _ h

/-- The register store keeps its canonical form. -/
theorem State.flds_wf_setF (s : State) (f : Fid) (i j v : Nat) (h : Tbl.wf fkLt fkReset s.flds = true) :
    Tbl.wf fkLt fkReset (s.setF f i j v).flds = true := Tbl.wf_set fkLt_order fkReset s.flds ⟨f, i, j⟩ v h

/-! ### Reading an entry after writing it -/

@[simp] theorem State.link_setLink (s : State) (n : Nat) (v : SLink) : (s.setLink n v).link n = v := NTbl.at_put_same _ _ _ _
@[simp] theorem State.dom_setDom (s : State) (d : Nat) (v : Dom) : (s.setDom d v).dom d = v := NTbl.at_put_same _ _ _ _
@[simp] theorem State.eng_setEng (s : State) (e : Nat) (v : Eng) : (s.setEng e v).eng e = v := NTbl.at_put_same _ _ _ _
@[simp] theorem State.msite_setMsite (s : State) (n : Nat) (v : MSite) : (s.setMsite n v).msite n = v :=
  NTbl.at_put_same _ _ _ _
@[simp] theorem State.chan_setChan (s : State) (c : Nat) (v : Chan) : (s.setChan c v).chan c = v := NTbl.at_put_same _ _ _ _
@[simp] theorem State.sched_setSched (s : State) (c : Nat) (v : Sched) : (s.setSched c v).sched c = v := NTbl.at_put_same _ _ _ _
@[simp] theorem State.chan_setSched (s : State) (c k : Nat) (v : Sched) : (s.setSched c v).chan k = s.chan k := rfl
@[simp] theorem State.sched_setChan (s : State) (c k : Nat) (v : Chan) : (s.setChan c v).sched k = s.sched k := rfl
@[simp] theorem State.qport_setQport (s : State) (p : Nat) (v : QPort) : (s.setQport p v).qport p = v :=
  NTbl.at_put_same _ _ _ _
@[simp] theorem State.qp_setQp (s : State) (q : Nat) (v : Qp) : (s.setQp q v).qp q = v := NTbl.at_put_same _ _ _ _
@[simp] theorem State.shc_setShc (s : State) (x : Nat) (v : ShCtx) : (s.setShc x v).shc x = v := NTbl.at_put_same _ _ _ _
@[simp] theorem State.zone_setZone (s : State) (z : Nat) (v : Zone) : (s.setZone z v).zone z = v := NTbl.at_put_same _ _ _ _
@[simp] theorem State.plot_setPlot (s : State) (p : Nat) (v : Plot) : (s.setPlot p v).plot p = v := NTbl.at_put_same _ _ _ _
@[simp] theorem State.sess_setSess (s : State) (n : Nat) (v : Session) : (s.setSess n v).sess n = v :=
  NTbl.at_put_same _ _ _ _
@[simp] theorem State.stream_setStream (s : State) (e u : Nat) (t : Stream) : (s.setStream e u t).stream e u = some t := by
  simp [State.setStream, State.stream]

/-! ### What each update leaves -/

@[simp] theorem State.rwl_setF (s : State) (f : Fid) (i j v : Nat) : (s.setF f i j v).rwl = s.rwl := rfl
@[simp] theorem State.aon_setF (s : State) (f : Fid) (i j v : Nat) : (s.setF f i j v).aon = s.aon := rfl
@[simp] theorem State.fuses_setF (s : State) (f : Fid) (i j v : Nat) : (s.setF f i j v).fuses = s.fuses := rfl
@[simp] theorem State.units_setF (s : State) (f : Fid) (i j v : Nat) : (s.setF f i j v).units = s.units := rfl
@[simp] theorem State.umReady_setF (s : State) (f : Fid) (i j v : Nat) : (s.setF f i j v).umReady = s.umReady := rfl
@[simp] theorem State.umGen_setF (s : State) (f : Fid) (i j v : Nat) : (s.setF f i j v).umGen = s.umGen := rfl
@[simp] theorem State.doms_setF (s : State) (f : Fid) (i j v : Nat) : (s.setF f i j v).doms = s.doms := rfl
@[simp] theorem State.hl_setF (s : State) (f : Fid) (i j v : Nat) : (s.setF f i j v).hl = s.hl := rfl
@[simp] theorem State.mem_setF (s : State) (f : Fid) (i j v : Nat) : (s.setF f i j v).mem = s.mem := rfl
@[simp] theorem State.mesh_setF (s : State) (f : Fid) (i j v : Nat) : (s.setF f i j v).mesh = s.mesh := rfl
@[simp] theorem State.sec_setF (s : State) (f : Fid) (i j v : Nat) : (s.setF f i j v).sec = s.sec := rfl
@[simp] theorem State.boot_setF (s : State) (f : Fid) (i j v : Nat) : (s.setF f i j v).boot = s.boot := rfl
@[simp] theorem State.engs_setF (s : State) (f : Fid) (i j v : Nat) : (s.setF f i j v).engs = s.engs := rfl
@[simp] theorem State.waits_setF (s : State) (f : Fid) (i j v : Nat) : (s.setF f i j v).waits = s.waits := rfl
@[simp] theorem State.coh_setF (s : State) (f : Fid) (i j v : Nat) : (s.setF f i j v).coh = s.coh := rfl
@[simp] theorem State.links_setF (s : State) (f : Fid) (i j v : Nat) : (s.setF f i j v).links = s.links := rfl
@[simp] theorem State.eth_setF (s : State) (f : Fid) (i j v : Nat) : (s.setF f i j v).eth = s.eth := rfl
@[simp] theorem State.sheaf_setF (s : State) (f : Fid) (i j v : Nat) : (s.setF f i j v).sheaf = s.sheaf := rfl
@[simp] theorem State.pwr_setF (s : State) (f : Fid) (i j v : Nat) : (s.setF f i j v).pwr = s.pwr := rfl
@[simp] theorem State.tel_setF (s : State) (f : Fid) (i j v : Nat) : (s.setF f i j v).tel = s.tel := rfl
@[simp] theorem State.jtag_setF (s : State) (f : Fid) (i j v : Nat) : (s.setF f i j v).jtag = s.jtag := rfl
@[simp] theorem State.mgmtIndex_setF (s : State) (f : Fid) (i j v : Nat) : (s.setF f i j v).mgmtIndex = s.mgmtIndex := rfl
@[simp] theorem State.fallowUnit_setF (s : State) (f : Fid) (i j v : Nat) : (s.setF f i j v).fallowUnit = s.fallowUnit := rfl
@[simp] theorem State.out_setF (s : State) (f : Fid) (i j v : Nat) : (s.setF f i j v).out = s.out := rfl
@[simp] theorem State.now_setF (s : State) (f : Fid) (i j v : Nat) : (s.setF f i j v).now = s.now := rfl
@[simp] theorem State.freeCtr_setF (s : State) (f : Fid) (i j v : Nat) : (s.setF f i j v).freeCtr = s.freeCtr := rfl
@[simp] theorem State.pending_setF (s : State) (f : Fid) (i j v : Nat) : (s.setF f i j v).pending = s.pending := rfl

@[simp] theorem State.rwl_count (s : State) (f : Fid) (i j w x : Nat) : (s.count f i j w x).rwl = s.rwl := rfl
@[simp] theorem State.aon_count (s : State) (f : Fid) (i j w x : Nat) : (s.count f i j w x).aon = s.aon := rfl
@[simp] theorem State.fuses_count (s : State) (f : Fid) (i j w x : Nat) : (s.count f i j w x).fuses = s.fuses := rfl
@[simp] theorem State.units_count (s : State) (f : Fid) (i j w x : Nat) : (s.count f i j w x).units = s.units := rfl
@[simp] theorem State.umReady_count (s : State) (f : Fid) (i j w x : Nat) : (s.count f i j w x).umReady = s.umReady := rfl
@[simp] theorem State.umGen_count (s : State) (f : Fid) (i j w x : Nat) : (s.count f i j w x).umGen = s.umGen := rfl
@[simp] theorem State.doms_count (s : State) (f : Fid) (i j w x : Nat) : (s.count f i j w x).doms = s.doms := rfl
@[simp] theorem State.hl_count (s : State) (f : Fid) (i j w x : Nat) : (s.count f i j w x).hl = s.hl := rfl
@[simp] theorem State.mem_count (s : State) (f : Fid) (i j w x : Nat) : (s.count f i j w x).mem = s.mem := rfl
@[simp] theorem State.mesh_count (s : State) (f : Fid) (i j w x : Nat) : (s.count f i j w x).mesh = s.mesh := rfl
@[simp] theorem State.sec_count (s : State) (f : Fid) (i j w x : Nat) : (s.count f i j w x).sec = s.sec := rfl
@[simp] theorem State.boot_count (s : State) (f : Fid) (i j w x : Nat) : (s.count f i j w x).boot = s.boot := rfl
@[simp] theorem State.engs_count (s : State) (f : Fid) (i j w x : Nat) : (s.count f i j w x).engs = s.engs := rfl
@[simp] theorem State.waits_count (s : State) (f : Fid) (i j w x : Nat) : (s.count f i j w x).waits = s.waits := rfl
@[simp] theorem State.coh_count (s : State) (f : Fid) (i j w x : Nat) : (s.count f i j w x).coh = s.coh := rfl
@[simp] theorem State.links_count (s : State) (f : Fid) (i j w x : Nat) : (s.count f i j w x).links = s.links := rfl
@[simp] theorem State.eth_count (s : State) (f : Fid) (i j w x : Nat) : (s.count f i j w x).eth = s.eth := rfl
@[simp] theorem State.sheaf_count (s : State) (f : Fid) (i j w x : Nat) : (s.count f i j w x).sheaf = s.sheaf := rfl
@[simp] theorem State.pwr_count (s : State) (f : Fid) (i j w x : Nat) : (s.count f i j w x).pwr = s.pwr := rfl
@[simp] theorem State.tel_count (s : State) (f : Fid) (i j w x : Nat) : (s.count f i j w x).tel = s.tel := rfl
@[simp] theorem State.jtag_count (s : State) (f : Fid) (i j w x : Nat) : (s.count f i j w x).jtag = s.jtag := rfl
@[simp] theorem State.mgmtIndex_count (s : State) (f : Fid) (i j w x : Nat) : (s.count f i j w x).mgmtIndex = s.mgmtIndex := rfl
@[simp] theorem State.fallowUnit_count (s : State) (f : Fid) (i j w x : Nat) : (s.count f i j w x).fallowUnit = s.fallowUnit := rfl
@[simp] theorem State.out_count (s : State) (f : Fid) (i j w x : Nat) : (s.count f i j w x).out = s.out := rfl
@[simp] theorem State.now_count (s : State) (f : Fid) (i j w x : Nat) : (s.count f i j w x).now = s.now := rfl
@[simp] theorem State.freeCtr_count (s : State) (f : Fid) (i j w x : Nat) : (s.count f i j w x).freeCtr = s.freeCtr := rfl
@[simp] theorem State.pending_count (s : State) (f : Fid) (i j w x : Nat) : (s.count f i j w x).pending = s.pending := rfl

@[simp] theorem State.rwl_flag (s : State) (f : Fid) (i j : Nat) : (s.flag f i j).rwl = s.rwl := rfl
@[simp] theorem State.aon_flag (s : State) (f : Fid) (i j : Nat) : (s.flag f i j).aon = s.aon := rfl
@[simp] theorem State.fuses_flag (s : State) (f : Fid) (i j : Nat) : (s.flag f i j).fuses = s.fuses := rfl
@[simp] theorem State.units_flag (s : State) (f : Fid) (i j : Nat) : (s.flag f i j).units = s.units := rfl
@[simp] theorem State.umReady_flag (s : State) (f : Fid) (i j : Nat) : (s.flag f i j).umReady = s.umReady := rfl
@[simp] theorem State.umGen_flag (s : State) (f : Fid) (i j : Nat) : (s.flag f i j).umGen = s.umGen := rfl
@[simp] theorem State.doms_flag (s : State) (f : Fid) (i j : Nat) : (s.flag f i j).doms = s.doms := rfl
@[simp] theorem State.hl_flag (s : State) (f : Fid) (i j : Nat) : (s.flag f i j).hl = s.hl := rfl
@[simp] theorem State.mem_flag (s : State) (f : Fid) (i j : Nat) : (s.flag f i j).mem = s.mem := rfl
@[simp] theorem State.mesh_flag (s : State) (f : Fid) (i j : Nat) : (s.flag f i j).mesh = s.mesh := rfl
@[simp] theorem State.sec_flag (s : State) (f : Fid) (i j : Nat) : (s.flag f i j).sec = s.sec := rfl
@[simp] theorem State.boot_flag (s : State) (f : Fid) (i j : Nat) : (s.flag f i j).boot = s.boot := rfl
@[simp] theorem State.engs_flag (s : State) (f : Fid) (i j : Nat) : (s.flag f i j).engs = s.engs := rfl
@[simp] theorem State.waits_flag (s : State) (f : Fid) (i j : Nat) : (s.flag f i j).waits = s.waits := rfl
@[simp] theorem State.coh_flag (s : State) (f : Fid) (i j : Nat) : (s.flag f i j).coh = s.coh := rfl
@[simp] theorem State.links_flag (s : State) (f : Fid) (i j : Nat) : (s.flag f i j).links = s.links := rfl
@[simp] theorem State.eth_flag (s : State) (f : Fid) (i j : Nat) : (s.flag f i j).eth = s.eth := rfl
@[simp] theorem State.sheaf_flag (s : State) (f : Fid) (i j : Nat) : (s.flag f i j).sheaf = s.sheaf := rfl
@[simp] theorem State.pwr_flag (s : State) (f : Fid) (i j : Nat) : (s.flag f i j).pwr = s.pwr := rfl
@[simp] theorem State.tel_flag (s : State) (f : Fid) (i j : Nat) : (s.flag f i j).tel = s.tel := rfl
@[simp] theorem State.jtag_flag (s : State) (f : Fid) (i j : Nat) : (s.flag f i j).jtag = s.jtag := rfl
@[simp] theorem State.mgmtIndex_flag (s : State) (f : Fid) (i j : Nat) : (s.flag f i j).mgmtIndex = s.mgmtIndex := rfl
@[simp] theorem State.fallowUnit_flag (s : State) (f : Fid) (i j : Nat) : (s.flag f i j).fallowUnit = s.fallowUnit := rfl
@[simp] theorem State.out_flag (s : State) (f : Fid) (i j : Nat) : (s.flag f i j).out = s.out := rfl
@[simp] theorem State.now_flag (s : State) (f : Fid) (i j : Nat) : (s.flag f i j).now = s.now := rfl
@[simp] theorem State.freeCtr_flag (s : State) (f : Fid) (i j : Nat) : (s.flag f i j).freeCtr = s.freeCtr := rfl
@[simp] theorem State.pending_flag (s : State) (f : Fid) (i j : Nat) : (s.flag f i j).pending = s.pending := rfl

@[simp] theorem State.flds_emit (s : State) (o : Out) : (s.emit o).flds = s.flds := rfl
@[simp] theorem State.rwl_emit (s : State) (o : Out) : (s.emit o).rwl = s.rwl := rfl
@[simp] theorem State.aon_emit (s : State) (o : Out) : (s.emit o).aon = s.aon := rfl
@[simp] theorem State.fuses_emit (s : State) (o : Out) : (s.emit o).fuses = s.fuses := rfl
@[simp] theorem State.units_emit (s : State) (o : Out) : (s.emit o).units = s.units := rfl
@[simp] theorem State.umReady_emit (s : State) (o : Out) : (s.emit o).umReady = s.umReady := rfl
@[simp] theorem State.umGen_emit (s : State) (o : Out) : (s.emit o).umGen = s.umGen := rfl
@[simp] theorem State.doms_emit (s : State) (o : Out) : (s.emit o).doms = s.doms := rfl
@[simp] theorem State.hl_emit (s : State) (o : Out) : (s.emit o).hl = s.hl := rfl
@[simp] theorem State.mem_emit (s : State) (o : Out) : (s.emit o).mem = s.mem := rfl
@[simp] theorem State.mesh_emit (s : State) (o : Out) : (s.emit o).mesh = s.mesh := rfl
@[simp] theorem State.sec_emit (s : State) (o : Out) : (s.emit o).sec = s.sec := rfl
@[simp] theorem State.boot_emit (s : State) (o : Out) : (s.emit o).boot = s.boot := rfl
@[simp] theorem State.engs_emit (s : State) (o : Out) : (s.emit o).engs = s.engs := rfl
@[simp] theorem State.waits_emit (s : State) (o : Out) : (s.emit o).waits = s.waits := rfl
@[simp] theorem State.coh_emit (s : State) (o : Out) : (s.emit o).coh = s.coh := rfl
@[simp] theorem State.links_emit (s : State) (o : Out) : (s.emit o).links = s.links := rfl
@[simp] theorem State.eth_emit (s : State) (o : Out) : (s.emit o).eth = s.eth := rfl
@[simp] theorem State.sheaf_emit (s : State) (o : Out) : (s.emit o).sheaf = s.sheaf := rfl
@[simp] theorem State.pwr_emit (s : State) (o : Out) : (s.emit o).pwr = s.pwr := rfl
@[simp] theorem State.tel_emit (s : State) (o : Out) : (s.emit o).tel = s.tel := rfl
@[simp] theorem State.jtag_emit (s : State) (o : Out) : (s.emit o).jtag = s.jtag := rfl
@[simp] theorem State.mgmtIndex_emit (s : State) (o : Out) : (s.emit o).mgmtIndex = s.mgmtIndex := rfl
@[simp] theorem State.fallowUnit_emit (s : State) (o : Out) : (s.emit o).fallowUnit = s.fallowUnit := rfl
@[simp] theorem State.now_emit (s : State) (o : Out) : (s.emit o).now = s.now := rfl
@[simp] theorem State.freeCtr_emit (s : State) (o : Out) : (s.emit o).freeCtr = s.freeCtr := rfl
@[simp] theorem State.pending_emit (s : State) (o : Out) : (s.emit o).pending = s.pending := rfl
@[simp] theorem State.f_emit (s : State) (o : Out) (g : Fid) (i2 j2 : Nat) :
    (s.emit o).f g i2 j2 = s.f g i2 j2 := rfl

@[simp] theorem State.flds_rwlLock (s : State) (off : Nat) : (s.rwlLock off).flds = s.flds := rfl
@[simp] theorem State.aon_rwlLock (s : State) (off : Nat) : (s.rwlLock off).aon = s.aon := rfl
@[simp] theorem State.fuses_rwlLock (s : State) (off : Nat) : (s.rwlLock off).fuses = s.fuses := rfl
@[simp] theorem State.units_rwlLock (s : State) (off : Nat) : (s.rwlLock off).units = s.units := rfl
@[simp] theorem State.umReady_rwlLock (s : State) (off : Nat) : (s.rwlLock off).umReady = s.umReady := rfl
@[simp] theorem State.umGen_rwlLock (s : State) (off : Nat) : (s.rwlLock off).umGen = s.umGen := rfl
@[simp] theorem State.doms_rwlLock (s : State) (off : Nat) : (s.rwlLock off).doms = s.doms := rfl
@[simp] theorem State.hl_rwlLock (s : State) (off : Nat) : (s.rwlLock off).hl = s.hl := rfl
@[simp] theorem State.mem_rwlLock (s : State) (off : Nat) : (s.rwlLock off).mem = s.mem := rfl
@[simp] theorem State.mesh_rwlLock (s : State) (off : Nat) : (s.rwlLock off).mesh = s.mesh := rfl
@[simp] theorem State.sec_rwlLock (s : State) (off : Nat) : (s.rwlLock off).sec = s.sec := rfl
@[simp] theorem State.boot_rwlLock (s : State) (off : Nat) : (s.rwlLock off).boot = s.boot := rfl
@[simp] theorem State.engs_rwlLock (s : State) (off : Nat) : (s.rwlLock off).engs = s.engs := rfl
@[simp] theorem State.waits_rwlLock (s : State) (off : Nat) : (s.rwlLock off).waits = s.waits := rfl
@[simp] theorem State.coh_rwlLock (s : State) (off : Nat) : (s.rwlLock off).coh = s.coh := rfl
@[simp] theorem State.links_rwlLock (s : State) (off : Nat) : (s.rwlLock off).links = s.links := rfl
@[simp] theorem State.eth_rwlLock (s : State) (off : Nat) : (s.rwlLock off).eth = s.eth := rfl
@[simp] theorem State.sheaf_rwlLock (s : State) (off : Nat) : (s.rwlLock off).sheaf = s.sheaf := rfl
@[simp] theorem State.pwr_rwlLock (s : State) (off : Nat) : (s.rwlLock off).pwr = s.pwr := rfl
@[simp] theorem State.tel_rwlLock (s : State) (off : Nat) : (s.rwlLock off).tel = s.tel := rfl
@[simp] theorem State.jtag_rwlLock (s : State) (off : Nat) : (s.rwlLock off).jtag = s.jtag := rfl
@[simp] theorem State.mgmtIndex_rwlLock (s : State) (off : Nat) : (s.rwlLock off).mgmtIndex = s.mgmtIndex := rfl
@[simp] theorem State.fallowUnit_rwlLock (s : State) (off : Nat) : (s.rwlLock off).fallowUnit = s.fallowUnit := rfl
@[simp] theorem State.out_rwlLock (s : State) (off : Nat) : (s.rwlLock off).out = s.out := rfl
@[simp] theorem State.now_rwlLock (s : State) (off : Nat) : (s.rwlLock off).now = s.now := rfl
@[simp] theorem State.freeCtr_rwlLock (s : State) (off : Nat) : (s.rwlLock off).freeCtr = s.freeCtr := rfl
@[simp] theorem State.pending_rwlLock (s : State) (off : Nat) : (s.rwlLock off).pending = s.pending := rfl
@[simp] theorem State.f_rwlLock (s : State) (off : Nat) (g : Fid) (i2 j2 : Nat) :
    (s.rwlLock off).f g i2 j2 = s.f g i2 j2 := rfl

@[simp] theorem State.flds_setLink (s : State) (n : Nat) (v : SLink) : (s.setLink n v).flds = s.flds := rfl
@[simp] theorem State.rwl_setLink (s : State) (n : Nat) (v : SLink) : (s.setLink n v).rwl = s.rwl := rfl
@[simp] theorem State.aon_setLink (s : State) (n : Nat) (v : SLink) : (s.setLink n v).aon = s.aon := rfl
@[simp] theorem State.fuses_setLink (s : State) (n : Nat) (v : SLink) : (s.setLink n v).fuses = s.fuses := rfl
@[simp] theorem State.units_setLink (s : State) (n : Nat) (v : SLink) : (s.setLink n v).units = s.units := rfl
@[simp] theorem State.umReady_setLink (s : State) (n : Nat) (v : SLink) : (s.setLink n v).umReady = s.umReady := rfl
@[simp] theorem State.umGen_setLink (s : State) (n : Nat) (v : SLink) : (s.setLink n v).umGen = s.umGen := rfl
@[simp] theorem State.doms_setLink (s : State) (n : Nat) (v : SLink) : (s.setLink n v).doms = s.doms := rfl
@[simp] theorem State.hl_setLink (s : State) (n : Nat) (v : SLink) : (s.setLink n v).hl = s.hl := rfl
@[simp] theorem State.mem_setLink (s : State) (n : Nat) (v : SLink) : (s.setLink n v).mem = s.mem := rfl
@[simp] theorem State.mesh_setLink (s : State) (n : Nat) (v : SLink) : (s.setLink n v).mesh = s.mesh := rfl
@[simp] theorem State.sec_setLink (s : State) (n : Nat) (v : SLink) : (s.setLink n v).sec = s.sec := rfl
@[simp] theorem State.boot_setLink (s : State) (n : Nat) (v : SLink) : (s.setLink n v).boot = s.boot := rfl
@[simp] theorem State.engs_setLink (s : State) (n : Nat) (v : SLink) : (s.setLink n v).engs = s.engs := rfl
@[simp] theorem State.waits_setLink (s : State) (n : Nat) (v : SLink) : (s.setLink n v).waits = s.waits := rfl
@[simp] theorem State.coh_setLink (s : State) (n : Nat) (v : SLink) : (s.setLink n v).coh = s.coh := rfl
@[simp] theorem State.eth_setLink (s : State) (n : Nat) (v : SLink) : (s.setLink n v).eth = s.eth := rfl
@[simp] theorem State.sheaf_setLink (s : State) (n : Nat) (v : SLink) : (s.setLink n v).sheaf = s.sheaf := rfl
@[simp] theorem State.pwr_setLink (s : State) (n : Nat) (v : SLink) : (s.setLink n v).pwr = s.pwr := rfl
@[simp] theorem State.tel_setLink (s : State) (n : Nat) (v : SLink) : (s.setLink n v).tel = s.tel := rfl
@[simp] theorem State.jtag_setLink (s : State) (n : Nat) (v : SLink) : (s.setLink n v).jtag = s.jtag := rfl
@[simp] theorem State.mgmtIndex_setLink (s : State) (n : Nat) (v : SLink) : (s.setLink n v).mgmtIndex = s.mgmtIndex := rfl
@[simp] theorem State.fallowUnit_setLink (s : State) (n : Nat) (v : SLink) : (s.setLink n v).fallowUnit = s.fallowUnit := rfl
@[simp] theorem State.out_setLink (s : State) (n : Nat) (v : SLink) : (s.setLink n v).out = s.out := rfl
@[simp] theorem State.now_setLink (s : State) (n : Nat) (v : SLink) : (s.setLink n v).now = s.now := rfl
@[simp] theorem State.freeCtr_setLink (s : State) (n : Nat) (v : SLink) : (s.setLink n v).freeCtr = s.freeCtr := rfl
@[simp] theorem State.pending_setLink (s : State) (n : Nat) (v : SLink) : (s.setLink n v).pending = s.pending := rfl
@[simp] theorem State.f_setLink (s : State) (n : Nat) (v : SLink) (g : Fid) (i2 j2 : Nat) :
    (s.setLink n v).f g i2 j2 = s.f g i2 j2 := rfl

@[simp] theorem State.flds_setDom (s : State) (d : Nat) (v : Dom) : (s.setDom d v).flds = s.flds := rfl
@[simp] theorem State.rwl_setDom (s : State) (d : Nat) (v : Dom) : (s.setDom d v).rwl = s.rwl := rfl
@[simp] theorem State.aon_setDom (s : State) (d : Nat) (v : Dom) : (s.setDom d v).aon = s.aon := rfl
@[simp] theorem State.fuses_setDom (s : State) (d : Nat) (v : Dom) : (s.setDom d v).fuses = s.fuses := rfl
@[simp] theorem State.units_setDom (s : State) (d : Nat) (v : Dom) : (s.setDom d v).units = s.units := rfl
@[simp] theorem State.umReady_setDom (s : State) (d : Nat) (v : Dom) : (s.setDom d v).umReady = s.umReady := rfl
@[simp] theorem State.umGen_setDom (s : State) (d : Nat) (v : Dom) : (s.setDom d v).umGen = s.umGen := rfl
@[simp] theorem State.hl_setDom (s : State) (d : Nat) (v : Dom) : (s.setDom d v).hl = s.hl := rfl
@[simp] theorem State.mem_setDom (s : State) (d : Nat) (v : Dom) : (s.setDom d v).mem = s.mem := rfl
@[simp] theorem State.mesh_setDom (s : State) (d : Nat) (v : Dom) : (s.setDom d v).mesh = s.mesh := rfl
@[simp] theorem State.sec_setDom (s : State) (d : Nat) (v : Dom) : (s.setDom d v).sec = s.sec := rfl
@[simp] theorem State.boot_setDom (s : State) (d : Nat) (v : Dom) : (s.setDom d v).boot = s.boot := rfl
@[simp] theorem State.engs_setDom (s : State) (d : Nat) (v : Dom) : (s.setDom d v).engs = s.engs := rfl
@[simp] theorem State.waits_setDom (s : State) (d : Nat) (v : Dom) : (s.setDom d v).waits = s.waits := rfl
@[simp] theorem State.coh_setDom (s : State) (d : Nat) (v : Dom) : (s.setDom d v).coh = s.coh := rfl
@[simp] theorem State.links_setDom (s : State) (d : Nat) (v : Dom) : (s.setDom d v).links = s.links := rfl
@[simp] theorem State.eth_setDom (s : State) (d : Nat) (v : Dom) : (s.setDom d v).eth = s.eth := rfl
@[simp] theorem State.sheaf_setDom (s : State) (d : Nat) (v : Dom) : (s.setDom d v).sheaf = s.sheaf := rfl
@[simp] theorem State.pwr_setDom (s : State) (d : Nat) (v : Dom) : (s.setDom d v).pwr = s.pwr := rfl
@[simp] theorem State.tel_setDom (s : State) (d : Nat) (v : Dom) : (s.setDom d v).tel = s.tel := rfl
@[simp] theorem State.jtag_setDom (s : State) (d : Nat) (v : Dom) : (s.setDom d v).jtag = s.jtag := rfl
@[simp] theorem State.mgmtIndex_setDom (s : State) (d : Nat) (v : Dom) : (s.setDom d v).mgmtIndex = s.mgmtIndex := rfl
@[simp] theorem State.fallowUnit_setDom (s : State) (d : Nat) (v : Dom) : (s.setDom d v).fallowUnit = s.fallowUnit := rfl
@[simp] theorem State.out_setDom (s : State) (d : Nat) (v : Dom) : (s.setDom d v).out = s.out := rfl
@[simp] theorem State.now_setDom (s : State) (d : Nat) (v : Dom) : (s.setDom d v).now = s.now := rfl
@[simp] theorem State.freeCtr_setDom (s : State) (d : Nat) (v : Dom) : (s.setDom d v).freeCtr = s.freeCtr := rfl
@[simp] theorem State.pending_setDom (s : State) (d : Nat) (v : Dom) : (s.setDom d v).pending = s.pending := rfl
@[simp] theorem State.f_setDom (s : State) (d : Nat) (v : Dom) (g : Fid) (i2 j2 : Nat) :
    (s.setDom d v).f g i2 j2 = s.f g i2 j2 := rfl

@[simp] theorem State.flds_setEng (s : State) (e : Nat) (v : Eng) : (s.setEng e v).flds = s.flds := rfl
@[simp] theorem State.rwl_setEng (s : State) (e : Nat) (v : Eng) : (s.setEng e v).rwl = s.rwl := rfl
@[simp] theorem State.aon_setEng (s : State) (e : Nat) (v : Eng) : (s.setEng e v).aon = s.aon := rfl
@[simp] theorem State.fuses_setEng (s : State) (e : Nat) (v : Eng) : (s.setEng e v).fuses = s.fuses := rfl
@[simp] theorem State.units_setEng (s : State) (e : Nat) (v : Eng) : (s.setEng e v).units = s.units := rfl
@[simp] theorem State.umReady_setEng (s : State) (e : Nat) (v : Eng) : (s.setEng e v).umReady = s.umReady := rfl
@[simp] theorem State.umGen_setEng (s : State) (e : Nat) (v : Eng) : (s.setEng e v).umGen = s.umGen := rfl
@[simp] theorem State.doms_setEng (s : State) (e : Nat) (v : Eng) : (s.setEng e v).doms = s.doms := rfl
@[simp] theorem State.hl_setEng (s : State) (e : Nat) (v : Eng) : (s.setEng e v).hl = s.hl := rfl
@[simp] theorem State.mem_setEng (s : State) (e : Nat) (v : Eng) : (s.setEng e v).mem = s.mem := rfl
@[simp] theorem State.mesh_setEng (s : State) (e : Nat) (v : Eng) : (s.setEng e v).mesh = s.mesh := rfl
@[simp] theorem State.sec_setEng (s : State) (e : Nat) (v : Eng) : (s.setEng e v).sec = s.sec := rfl
@[simp] theorem State.boot_setEng (s : State) (e : Nat) (v : Eng) : (s.setEng e v).boot = s.boot := rfl
@[simp] theorem State.waits_setEng (s : State) (e : Nat) (v : Eng) : (s.setEng e v).waits = s.waits := rfl
@[simp] theorem State.coh_setEng (s : State) (e : Nat) (v : Eng) : (s.setEng e v).coh = s.coh := rfl
@[simp] theorem State.links_setEng (s : State) (e : Nat) (v : Eng) : (s.setEng e v).links = s.links := rfl
@[simp] theorem State.eth_setEng (s : State) (e : Nat) (v : Eng) : (s.setEng e v).eth = s.eth := rfl
@[simp] theorem State.sheaf_setEng (s : State) (e : Nat) (v : Eng) : (s.setEng e v).sheaf = s.sheaf := rfl
@[simp] theorem State.pwr_setEng (s : State) (e : Nat) (v : Eng) : (s.setEng e v).pwr = s.pwr := rfl
@[simp] theorem State.tel_setEng (s : State) (e : Nat) (v : Eng) : (s.setEng e v).tel = s.tel := rfl
@[simp] theorem State.jtag_setEng (s : State) (e : Nat) (v : Eng) : (s.setEng e v).jtag = s.jtag := rfl
@[simp] theorem State.mgmtIndex_setEng (s : State) (e : Nat) (v : Eng) : (s.setEng e v).mgmtIndex = s.mgmtIndex := rfl
@[simp] theorem State.fallowUnit_setEng (s : State) (e : Nat) (v : Eng) : (s.setEng e v).fallowUnit = s.fallowUnit := rfl
@[simp] theorem State.out_setEng (s : State) (e : Nat) (v : Eng) : (s.setEng e v).out = s.out := rfl
@[simp] theorem State.now_setEng (s : State) (e : Nat) (v : Eng) : (s.setEng e v).now = s.now := rfl
@[simp] theorem State.freeCtr_setEng (s : State) (e : Nat) (v : Eng) : (s.setEng e v).freeCtr = s.freeCtr := rfl
@[simp] theorem State.pending_setEng (s : State) (e : Nat) (v : Eng) : (s.setEng e v).pending = s.pending := rfl
@[simp] theorem State.f_setEng (s : State) (e : Nat) (v : Eng) (g : Fid) (i2 j2 : Nat) :
    (s.setEng e v).f g i2 j2 = s.f g i2 j2 := rfl

@[simp] theorem State.flds_updRun (s : State) (e q idx : Nat) (f : Run → Run) : (s.updRun e q idx f).flds = s.flds := rfl
@[simp] theorem State.rwl_updRun (s : State) (e q idx : Nat) (f : Run → Run) : (s.updRun e q idx f).rwl = s.rwl := rfl
@[simp] theorem State.aon_updRun (s : State) (e q idx : Nat) (f : Run → Run) : (s.updRun e q idx f).aon = s.aon := rfl
@[simp] theorem State.fuses_updRun (s : State) (e q idx : Nat) (f : Run → Run) : (s.updRun e q idx f).fuses = s.fuses := rfl
@[simp] theorem State.units_updRun (s : State) (e q idx : Nat) (f : Run → Run) : (s.updRun e q idx f).units = s.units := rfl
@[simp] theorem State.umReady_updRun (s : State) (e q idx : Nat) (f : Run → Run) : (s.updRun e q idx f).umReady = s.umReady := rfl
@[simp] theorem State.umGen_updRun (s : State) (e q idx : Nat) (f : Run → Run) : (s.updRun e q idx f).umGen = s.umGen := rfl
@[simp] theorem State.doms_updRun (s : State) (e q idx : Nat) (f : Run → Run) : (s.updRun e q idx f).doms = s.doms := rfl
@[simp] theorem State.hl_updRun (s : State) (e q idx : Nat) (f : Run → Run) : (s.updRun e q idx f).hl = s.hl := rfl
@[simp] theorem State.mem_updRun (s : State) (e q idx : Nat) (f : Run → Run) : (s.updRun e q idx f).mem = s.mem := rfl
@[simp] theorem State.mesh_updRun (s : State) (e q idx : Nat) (f : Run → Run) : (s.updRun e q idx f).mesh = s.mesh := rfl
@[simp] theorem State.sec_updRun (s : State) (e q idx : Nat) (f : Run → Run) : (s.updRun e q idx f).sec = s.sec := rfl
@[simp] theorem State.boot_updRun (s : State) (e q idx : Nat) (f : Run → Run) : (s.updRun e q idx f).boot = s.boot := rfl
@[simp] theorem State.waits_updRun (s : State) (e q idx : Nat) (f : Run → Run) : (s.updRun e q idx f).waits = s.waits := rfl
@[simp] theorem State.coh_updRun (s : State) (e q idx : Nat) (f : Run → Run) : (s.updRun e q idx f).coh = s.coh := rfl
@[simp] theorem State.links_updRun (s : State) (e q idx : Nat) (f : Run → Run) : (s.updRun e q idx f).links = s.links := rfl
@[simp] theorem State.eth_updRun (s : State) (e q idx : Nat) (f : Run → Run) : (s.updRun e q idx f).eth = s.eth := rfl
@[simp] theorem State.sheaf_updRun (s : State) (e q idx : Nat) (f : Run → Run) : (s.updRun e q idx f).sheaf = s.sheaf := rfl
@[simp] theorem State.pwr_updRun (s : State) (e q idx : Nat) (f : Run → Run) : (s.updRun e q idx f).pwr = s.pwr := rfl
@[simp] theorem State.tel_updRun (s : State) (e q idx : Nat) (f : Run → Run) : (s.updRun e q idx f).tel = s.tel := rfl
@[simp] theorem State.jtag_updRun (s : State) (e q idx : Nat) (f : Run → Run) : (s.updRun e q idx f).jtag = s.jtag := rfl
@[simp] theorem State.mgmtIndex_updRun (s : State) (e q idx : Nat) (f : Run → Run) : (s.updRun e q idx f).mgmtIndex = s.mgmtIndex := rfl
@[simp] theorem State.fallowUnit_updRun (s : State) (e q idx : Nat) (f : Run → Run) : (s.updRun e q idx f).fallowUnit = s.fallowUnit := rfl
@[simp] theorem State.out_updRun (s : State) (e q idx : Nat) (f : Run → Run) : (s.updRun e q idx f).out = s.out := rfl
@[simp] theorem State.now_updRun (s : State) (e q idx : Nat) (f : Run → Run) : (s.updRun e q idx f).now = s.now := rfl
@[simp] theorem State.freeCtr_updRun (s : State) (e q idx : Nat) (f : Run → Run) : (s.updRun e q idx f).freeCtr = s.freeCtr := rfl
@[simp] theorem State.pending_updRun (s : State) (e q idx : Nat) (f : Run → Run) : (s.updRun e q idx f).pending = s.pending := rfl
@[simp] theorem State.f_updRun (s : State) (e q idx : Nat) (f : Run → Run) (g : Fid) (i2 j2 : Nat) :
    (s.updRun e q idx f).f g i2 j2 = s.f g i2 j2 := rfl

@[simp] theorem State.flds_setStream (s : State) (e u : Nat) (t : Stream) : (s.setStream e u t).flds = s.flds := rfl
@[simp] theorem State.rwl_setStream (s : State) (e u : Nat) (t : Stream) : (s.setStream e u t).rwl = s.rwl := rfl
@[simp] theorem State.aon_setStream (s : State) (e u : Nat) (t : Stream) : (s.setStream e u t).aon = s.aon := rfl
@[simp] theorem State.fuses_setStream (s : State) (e u : Nat) (t : Stream) : (s.setStream e u t).fuses = s.fuses := rfl
@[simp] theorem State.units_setStream (s : State) (e u : Nat) (t : Stream) : (s.setStream e u t).units = s.units := rfl
@[simp] theorem State.umReady_setStream (s : State) (e u : Nat) (t : Stream) : (s.setStream e u t).umReady = s.umReady := rfl
@[simp] theorem State.umGen_setStream (s : State) (e u : Nat) (t : Stream) : (s.setStream e u t).umGen = s.umGen := rfl
@[simp] theorem State.doms_setStream (s : State) (e u : Nat) (t : Stream) : (s.setStream e u t).doms = s.doms := rfl
@[simp] theorem State.hl_setStream (s : State) (e u : Nat) (t : Stream) : (s.setStream e u t).hl = s.hl := rfl
@[simp] theorem State.mem_setStream (s : State) (e u : Nat) (t : Stream) : (s.setStream e u t).mem = s.mem := rfl
@[simp] theorem State.mesh_setStream (s : State) (e u : Nat) (t : Stream) : (s.setStream e u t).mesh = s.mesh := rfl
@[simp] theorem State.sec_setStream (s : State) (e u : Nat) (t : Stream) : (s.setStream e u t).sec = s.sec := rfl
@[simp] theorem State.boot_setStream (s : State) (e u : Nat) (t : Stream) : (s.setStream e u t).boot = s.boot := rfl
@[simp] theorem State.waits_setStream (s : State) (e u : Nat) (t : Stream) : (s.setStream e u t).waits = s.waits := rfl
@[simp] theorem State.coh_setStream (s : State) (e u : Nat) (t : Stream) : (s.setStream e u t).coh = s.coh := rfl
@[simp] theorem State.links_setStream (s : State) (e u : Nat) (t : Stream) : (s.setStream e u t).links = s.links := rfl
@[simp] theorem State.eth_setStream (s : State) (e u : Nat) (t : Stream) : (s.setStream e u t).eth = s.eth := rfl
@[simp] theorem State.sheaf_setStream (s : State) (e u : Nat) (t : Stream) : (s.setStream e u t).sheaf = s.sheaf := rfl
@[simp] theorem State.pwr_setStream (s : State) (e u : Nat) (t : Stream) : (s.setStream e u t).pwr = s.pwr := rfl
@[simp] theorem State.tel_setStream (s : State) (e u : Nat) (t : Stream) : (s.setStream e u t).tel = s.tel := rfl
@[simp] theorem State.jtag_setStream (s : State) (e u : Nat) (t : Stream) : (s.setStream e u t).jtag = s.jtag := rfl
@[simp] theorem State.mgmtIndex_setStream (s : State) (e u : Nat) (t : Stream) : (s.setStream e u t).mgmtIndex = s.mgmtIndex := rfl
@[simp] theorem State.fallowUnit_setStream (s : State) (e u : Nat) (t : Stream) : (s.setStream e u t).fallowUnit = s.fallowUnit := rfl
@[simp] theorem State.out_setStream (s : State) (e u : Nat) (t : Stream) : (s.setStream e u t).out = s.out := rfl
@[simp] theorem State.now_setStream (s : State) (e u : Nat) (t : Stream) : (s.setStream e u t).now = s.now := rfl
@[simp] theorem State.freeCtr_setStream (s : State) (e u : Nat) (t : Stream) : (s.setStream e u t).freeCtr = s.freeCtr := rfl
@[simp] theorem State.pending_setStream (s : State) (e u : Nat) (t : Stream) : (s.setStream e u t).pending = s.pending := rfl
@[simp] theorem State.f_setStream (s : State) (e u : Nat) (t : Stream) (g : Fid) (i2 j2 : Nat) :
    (s.setStream e u t).f g i2 j2 = s.f g i2 j2 := rfl

@[simp] theorem State.flds_setHl (s : State) (v : Hl) : (s.setHl v).flds = s.flds := rfl
@[simp] theorem State.rwl_setHl (s : State) (v : Hl) : (s.setHl v).rwl = s.rwl := rfl
@[simp] theorem State.aon_setHl (s : State) (v : Hl) : (s.setHl v).aon = s.aon := rfl
@[simp] theorem State.fuses_setHl (s : State) (v : Hl) : (s.setHl v).fuses = s.fuses := rfl
@[simp] theorem State.units_setHl (s : State) (v : Hl) : (s.setHl v).units = s.units := rfl
@[simp] theorem State.umReady_setHl (s : State) (v : Hl) : (s.setHl v).umReady = s.umReady := rfl
@[simp] theorem State.umGen_setHl (s : State) (v : Hl) : (s.setHl v).umGen = s.umGen := rfl
@[simp] theorem State.doms_setHl (s : State) (v : Hl) : (s.setHl v).doms = s.doms := rfl
@[simp] theorem State.mem_setHl (s : State) (v : Hl) : (s.setHl v).mem = s.mem := rfl
@[simp] theorem State.mesh_setHl (s : State) (v : Hl) : (s.setHl v).mesh = s.mesh := rfl
@[simp] theorem State.sec_setHl (s : State) (v : Hl) : (s.setHl v).sec = s.sec := rfl
@[simp] theorem State.boot_setHl (s : State) (v : Hl) : (s.setHl v).boot = s.boot := rfl
@[simp] theorem State.engs_setHl (s : State) (v : Hl) : (s.setHl v).engs = s.engs := rfl
@[simp] theorem State.waits_setHl (s : State) (v : Hl) : (s.setHl v).waits = s.waits := rfl
@[simp] theorem State.coh_setHl (s : State) (v : Hl) : (s.setHl v).coh = s.coh := rfl
@[simp] theorem State.links_setHl (s : State) (v : Hl) : (s.setHl v).links = s.links := rfl
@[simp] theorem State.eth_setHl (s : State) (v : Hl) : (s.setHl v).eth = s.eth := rfl
@[simp] theorem State.sheaf_setHl (s : State) (v : Hl) : (s.setHl v).sheaf = s.sheaf := rfl
@[simp] theorem State.pwr_setHl (s : State) (v : Hl) : (s.setHl v).pwr = s.pwr := rfl
@[simp] theorem State.tel_setHl (s : State) (v : Hl) : (s.setHl v).tel = s.tel := rfl
@[simp] theorem State.jtag_setHl (s : State) (v : Hl) : (s.setHl v).jtag = s.jtag := rfl
@[simp] theorem State.mgmtIndex_setHl (s : State) (v : Hl) : (s.setHl v).mgmtIndex = s.mgmtIndex := rfl
@[simp] theorem State.fallowUnit_setHl (s : State) (v : Hl) : (s.setHl v).fallowUnit = s.fallowUnit := rfl
@[simp] theorem State.out_setHl (s : State) (v : Hl) : (s.setHl v).out = s.out := rfl
@[simp] theorem State.now_setHl (s : State) (v : Hl) : (s.setHl v).now = s.now := rfl
@[simp] theorem State.freeCtr_setHl (s : State) (v : Hl) : (s.setHl v).freeCtr = s.freeCtr := rfl
@[simp] theorem State.pending_setHl (s : State) (v : Hl) : (s.setHl v).pending = s.pending := rfl
@[simp] theorem State.f_setHl (s : State) (v : Hl) (g : Fid) (i2 j2 : Nat) :
    (s.setHl v).f g i2 j2 = s.f g i2 j2 := rfl

@[simp] theorem State.flds_setSess (s : State) (n : Nat) (v : Session) : (s.setSess n v).flds = s.flds := rfl
@[simp] theorem State.rwl_setSess (s : State) (n : Nat) (v : Session) : (s.setSess n v).rwl = s.rwl := rfl
@[simp] theorem State.aon_setSess (s : State) (n : Nat) (v : Session) : (s.setSess n v).aon = s.aon := rfl
@[simp] theorem State.fuses_setSess (s : State) (n : Nat) (v : Session) : (s.setSess n v).fuses = s.fuses := rfl
@[simp] theorem State.units_setSess (s : State) (n : Nat) (v : Session) : (s.setSess n v).units = s.units := rfl
@[simp] theorem State.umReady_setSess (s : State) (n : Nat) (v : Session) : (s.setSess n v).umReady = s.umReady := rfl
@[simp] theorem State.umGen_setSess (s : State) (n : Nat) (v : Session) : (s.setSess n v).umGen = s.umGen := rfl
@[simp] theorem State.doms_setSess (s : State) (n : Nat) (v : Session) : (s.setSess n v).doms = s.doms := rfl
@[simp] theorem State.mem_setSess (s : State) (n : Nat) (v : Session) : (s.setSess n v).mem = s.mem := rfl
@[simp] theorem State.mesh_setSess (s : State) (n : Nat) (v : Session) : (s.setSess n v).mesh = s.mesh := rfl
@[simp] theorem State.sec_setSess (s : State) (n : Nat) (v : Session) : (s.setSess n v).sec = s.sec := rfl
@[simp] theorem State.boot_setSess (s : State) (n : Nat) (v : Session) : (s.setSess n v).boot = s.boot := rfl
@[simp] theorem State.engs_setSess (s : State) (n : Nat) (v : Session) : (s.setSess n v).engs = s.engs := rfl
@[simp] theorem State.waits_setSess (s : State) (n : Nat) (v : Session) : (s.setSess n v).waits = s.waits := rfl
@[simp] theorem State.coh_setSess (s : State) (n : Nat) (v : Session) : (s.setSess n v).coh = s.coh := rfl
@[simp] theorem State.links_setSess (s : State) (n : Nat) (v : Session) : (s.setSess n v).links = s.links := rfl
@[simp] theorem State.eth_setSess (s : State) (n : Nat) (v : Session) : (s.setSess n v).eth = s.eth := rfl
@[simp] theorem State.sheaf_setSess (s : State) (n : Nat) (v : Session) : (s.setSess n v).sheaf = s.sheaf := rfl
@[simp] theorem State.pwr_setSess (s : State) (n : Nat) (v : Session) : (s.setSess n v).pwr = s.pwr := rfl
@[simp] theorem State.tel_setSess (s : State) (n : Nat) (v : Session) : (s.setSess n v).tel = s.tel := rfl
@[simp] theorem State.jtag_setSess (s : State) (n : Nat) (v : Session) : (s.setSess n v).jtag = s.jtag := rfl
@[simp] theorem State.mgmtIndex_setSess (s : State) (n : Nat) (v : Session) : (s.setSess n v).mgmtIndex = s.mgmtIndex := rfl
@[simp] theorem State.fallowUnit_setSess (s : State) (n : Nat) (v : Session) : (s.setSess n v).fallowUnit = s.fallowUnit := rfl
@[simp] theorem State.out_setSess (s : State) (n : Nat) (v : Session) : (s.setSess n v).out = s.out := rfl
@[simp] theorem State.now_setSess (s : State) (n : Nat) (v : Session) : (s.setSess n v).now = s.now := rfl
@[simp] theorem State.freeCtr_setSess (s : State) (n : Nat) (v : Session) : (s.setSess n v).freeCtr = s.freeCtr := rfl
@[simp] theorem State.pending_setSess (s : State) (n : Nat) (v : Session) : (s.setSess n v).pending = s.pending := rfl
@[simp] theorem State.f_setSess (s : State) (n : Nat) (v : Session) (g : Fid) (i2 j2 : Nat) :
    (s.setSess n v).f g i2 j2 = s.f g i2 j2 := rfl

@[simp] theorem State.flds_setMb (s : State) (c : Nat) (v : Mbox) : (s.setMb c v).flds = s.flds := rfl
@[simp] theorem State.rwl_setMb (s : State) (c : Nat) (v : Mbox) : (s.setMb c v).rwl = s.rwl := rfl
@[simp] theorem State.aon_setMb (s : State) (c : Nat) (v : Mbox) : (s.setMb c v).aon = s.aon := rfl
@[simp] theorem State.fuses_setMb (s : State) (c : Nat) (v : Mbox) : (s.setMb c v).fuses = s.fuses := rfl
@[simp] theorem State.units_setMb (s : State) (c : Nat) (v : Mbox) : (s.setMb c v).units = s.units := rfl
@[simp] theorem State.umReady_setMb (s : State) (c : Nat) (v : Mbox) : (s.setMb c v).umReady = s.umReady := rfl
@[simp] theorem State.umGen_setMb (s : State) (c : Nat) (v : Mbox) : (s.setMb c v).umGen = s.umGen := rfl
@[simp] theorem State.doms_setMb (s : State) (c : Nat) (v : Mbox) : (s.setMb c v).doms = s.doms := rfl
@[simp] theorem State.mem_setMb (s : State) (c : Nat) (v : Mbox) : (s.setMb c v).mem = s.mem := rfl
@[simp] theorem State.mesh_setMb (s : State) (c : Nat) (v : Mbox) : (s.setMb c v).mesh = s.mesh := rfl
@[simp] theorem State.sec_setMb (s : State) (c : Nat) (v : Mbox) : (s.setMb c v).sec = s.sec := rfl
@[simp] theorem State.boot_setMb (s : State) (c : Nat) (v : Mbox) : (s.setMb c v).boot = s.boot := rfl
@[simp] theorem State.engs_setMb (s : State) (c : Nat) (v : Mbox) : (s.setMb c v).engs = s.engs := rfl
@[simp] theorem State.waits_setMb (s : State) (c : Nat) (v : Mbox) : (s.setMb c v).waits = s.waits := rfl
@[simp] theorem State.coh_setMb (s : State) (c : Nat) (v : Mbox) : (s.setMb c v).coh = s.coh := rfl
@[simp] theorem State.links_setMb (s : State) (c : Nat) (v : Mbox) : (s.setMb c v).links = s.links := rfl
@[simp] theorem State.eth_setMb (s : State) (c : Nat) (v : Mbox) : (s.setMb c v).eth = s.eth := rfl
@[simp] theorem State.sheaf_setMb (s : State) (c : Nat) (v : Mbox) : (s.setMb c v).sheaf = s.sheaf := rfl
@[simp] theorem State.pwr_setMb (s : State) (c : Nat) (v : Mbox) : (s.setMb c v).pwr = s.pwr := rfl
@[simp] theorem State.tel_setMb (s : State) (c : Nat) (v : Mbox) : (s.setMb c v).tel = s.tel := rfl
@[simp] theorem State.jtag_setMb (s : State) (c : Nat) (v : Mbox) : (s.setMb c v).jtag = s.jtag := rfl
@[simp] theorem State.mgmtIndex_setMb (s : State) (c : Nat) (v : Mbox) : (s.setMb c v).mgmtIndex = s.mgmtIndex := rfl
@[simp] theorem State.fallowUnit_setMb (s : State) (c : Nat) (v : Mbox) : (s.setMb c v).fallowUnit = s.fallowUnit := rfl
@[simp] theorem State.out_setMb (s : State) (c : Nat) (v : Mbox) : (s.setMb c v).out = s.out := rfl
@[simp] theorem State.now_setMb (s : State) (c : Nat) (v : Mbox) : (s.setMb c v).now = s.now := rfl
@[simp] theorem State.freeCtr_setMb (s : State) (c : Nat) (v : Mbox) : (s.setMb c v).freeCtr = s.freeCtr := rfl
@[simp] theorem State.pending_setMb (s : State) (c : Nat) (v : Mbox) : (s.setMb c v).pending = s.pending := rfl
@[simp] theorem State.f_setMb (s : State) (c : Nat) (v : Mbox) (g : Fid) (i2 j2 : Nat) :
    (s.setMb c v).f g i2 j2 = s.f g i2 j2 := rfl

@[simp] theorem State.flds_setMsite (s : State) (n : Nat) (v : MSite) : (s.setMsite n v).flds = s.flds := rfl
@[simp] theorem State.rwl_setMsite (s : State) (n : Nat) (v : MSite) : (s.setMsite n v).rwl = s.rwl := rfl
@[simp] theorem State.aon_setMsite (s : State) (n : Nat) (v : MSite) : (s.setMsite n v).aon = s.aon := rfl
@[simp] theorem State.fuses_setMsite (s : State) (n : Nat) (v : MSite) : (s.setMsite n v).fuses = s.fuses := rfl
@[simp] theorem State.units_setMsite (s : State) (n : Nat) (v : MSite) : (s.setMsite n v).units = s.units := rfl
@[simp] theorem State.umReady_setMsite (s : State) (n : Nat) (v : MSite) : (s.setMsite n v).umReady = s.umReady := rfl
@[simp] theorem State.umGen_setMsite (s : State) (n : Nat) (v : MSite) : (s.setMsite n v).umGen = s.umGen := rfl
@[simp] theorem State.doms_setMsite (s : State) (n : Nat) (v : MSite) : (s.setMsite n v).doms = s.doms := rfl
@[simp] theorem State.hl_setMsite (s : State) (n : Nat) (v : MSite) : (s.setMsite n v).hl = s.hl := rfl
@[simp] theorem State.mesh_setMsite (s : State) (n : Nat) (v : MSite) : (s.setMsite n v).mesh = s.mesh := rfl
@[simp] theorem State.sec_setMsite (s : State) (n : Nat) (v : MSite) : (s.setMsite n v).sec = s.sec := rfl
@[simp] theorem State.boot_setMsite (s : State) (n : Nat) (v : MSite) : (s.setMsite n v).boot = s.boot := rfl
@[simp] theorem State.engs_setMsite (s : State) (n : Nat) (v : MSite) : (s.setMsite n v).engs = s.engs := rfl
@[simp] theorem State.waits_setMsite (s : State) (n : Nat) (v : MSite) : (s.setMsite n v).waits = s.waits := rfl
@[simp] theorem State.coh_setMsite (s : State) (n : Nat) (v : MSite) : (s.setMsite n v).coh = s.coh := rfl
@[simp] theorem State.links_setMsite (s : State) (n : Nat) (v : MSite) : (s.setMsite n v).links = s.links := rfl
@[simp] theorem State.eth_setMsite (s : State) (n : Nat) (v : MSite) : (s.setMsite n v).eth = s.eth := rfl
@[simp] theorem State.sheaf_setMsite (s : State) (n : Nat) (v : MSite) : (s.setMsite n v).sheaf = s.sheaf := rfl
@[simp] theorem State.pwr_setMsite (s : State) (n : Nat) (v : MSite) : (s.setMsite n v).pwr = s.pwr := rfl
@[simp] theorem State.tel_setMsite (s : State) (n : Nat) (v : MSite) : (s.setMsite n v).tel = s.tel := rfl
@[simp] theorem State.jtag_setMsite (s : State) (n : Nat) (v : MSite) : (s.setMsite n v).jtag = s.jtag := rfl
@[simp] theorem State.mgmtIndex_setMsite (s : State) (n : Nat) (v : MSite) : (s.setMsite n v).mgmtIndex = s.mgmtIndex := rfl
@[simp] theorem State.fallowUnit_setMsite (s : State) (n : Nat) (v : MSite) : (s.setMsite n v).fallowUnit = s.fallowUnit := rfl
@[simp] theorem State.out_setMsite (s : State) (n : Nat) (v : MSite) : (s.setMsite n v).out = s.out := rfl
@[simp] theorem State.now_setMsite (s : State) (n : Nat) (v : MSite) : (s.setMsite n v).now = s.now := rfl
@[simp] theorem State.freeCtr_setMsite (s : State) (n : Nat) (v : MSite) : (s.setMsite n v).freeCtr = s.freeCtr := rfl
@[simp] theorem State.pending_setMsite (s : State) (n : Nat) (v : MSite) : (s.setMsite n v).pending = s.pending := rfl
@[simp] theorem State.f_setMsite (s : State) (n : Nat) (v : MSite) (g : Fid) (i2 j2 : Nat) :
    (s.setMsite n v).f g i2 j2 = s.f g i2 j2 := rfl

@[simp] theorem State.flds_setChan (s : State) (c : Nat) (v : Chan) : (s.setChan c v).flds = s.flds := rfl
@[simp] theorem State.rwl_setChan (s : State) (c : Nat) (v : Chan) : (s.setChan c v).rwl = s.rwl := rfl
@[simp] theorem State.aon_setChan (s : State) (c : Nat) (v : Chan) : (s.setChan c v).aon = s.aon := rfl
@[simp] theorem State.fuses_setChan (s : State) (c : Nat) (v : Chan) : (s.setChan c v).fuses = s.fuses := rfl
@[simp] theorem State.units_setChan (s : State) (c : Nat) (v : Chan) : (s.setChan c v).units = s.units := rfl
@[simp] theorem State.umReady_setChan (s : State) (c : Nat) (v : Chan) : (s.setChan c v).umReady = s.umReady := rfl
@[simp] theorem State.umGen_setChan (s : State) (c : Nat) (v : Chan) : (s.setChan c v).umGen = s.umGen := rfl
@[simp] theorem State.doms_setChan (s : State) (c : Nat) (v : Chan) : (s.setChan c v).doms = s.doms := rfl
@[simp] theorem State.hl_setChan (s : State) (c : Nat) (v : Chan) : (s.setChan c v).hl = s.hl := rfl
@[simp] theorem State.mesh_setChan (s : State) (c : Nat) (v : Chan) : (s.setChan c v).mesh = s.mesh := rfl
@[simp] theorem State.sec_setChan (s : State) (c : Nat) (v : Chan) : (s.setChan c v).sec = s.sec := rfl
@[simp] theorem State.boot_setChan (s : State) (c : Nat) (v : Chan) : (s.setChan c v).boot = s.boot := rfl
@[simp] theorem State.engs_setChan (s : State) (c : Nat) (v : Chan) : (s.setChan c v).engs = s.engs := rfl
@[simp] theorem State.waits_setChan (s : State) (c : Nat) (v : Chan) : (s.setChan c v).waits = s.waits := rfl
@[simp] theorem State.coh_setChan (s : State) (c : Nat) (v : Chan) : (s.setChan c v).coh = s.coh := rfl
@[simp] theorem State.links_setChan (s : State) (c : Nat) (v : Chan) : (s.setChan c v).links = s.links := rfl
@[simp] theorem State.eth_setChan (s : State) (c : Nat) (v : Chan) : (s.setChan c v).eth = s.eth := rfl
@[simp] theorem State.sheaf_setChan (s : State) (c : Nat) (v : Chan) : (s.setChan c v).sheaf = s.sheaf := rfl
@[simp] theorem State.pwr_setChan (s : State) (c : Nat) (v : Chan) : (s.setChan c v).pwr = s.pwr := rfl
@[simp] theorem State.tel_setChan (s : State) (c : Nat) (v : Chan) : (s.setChan c v).tel = s.tel := rfl
@[simp] theorem State.jtag_setChan (s : State) (c : Nat) (v : Chan) : (s.setChan c v).jtag = s.jtag := rfl
@[simp] theorem State.mgmtIndex_setChan (s : State) (c : Nat) (v : Chan) : (s.setChan c v).mgmtIndex = s.mgmtIndex := rfl
@[simp] theorem State.fallowUnit_setChan (s : State) (c : Nat) (v : Chan) : (s.setChan c v).fallowUnit = s.fallowUnit := rfl
@[simp] theorem State.out_setChan (s : State) (c : Nat) (v : Chan) : (s.setChan c v).out = s.out := rfl
@[simp] theorem State.now_setChan (s : State) (c : Nat) (v : Chan) : (s.setChan c v).now = s.now := rfl
@[simp] theorem State.freeCtr_setChan (s : State) (c : Nat) (v : Chan) : (s.setChan c v).freeCtr = s.freeCtr := rfl
@[simp] theorem State.pending_setChan (s : State) (c : Nat) (v : Chan) : (s.setChan c v).pending = s.pending := rfl
@[simp] theorem State.f_setChan (s : State) (c : Nat) (v : Chan) (g : Fid) (i2 j2 : Nat) :
    (s.setChan c v).f g i2 j2 = s.f g i2 j2 := rfl

/-! `setSched`. -/
@[simp] theorem State.flds_setSched (s : State) (c : Nat) (v : Sched) : (s.setSched c v).flds = s.flds := rfl
@[simp] theorem State.rwl_setSched (s : State) (c : Nat) (v : Sched) : (s.setSched c v).rwl = s.rwl := rfl
@[simp] theorem State.aon_setSched (s : State) (c : Nat) (v : Sched) : (s.setSched c v).aon = s.aon := rfl
@[simp] theorem State.fuses_setSched (s : State) (c : Nat) (v : Sched) : (s.setSched c v).fuses = s.fuses := rfl
@[simp] theorem State.units_setSched (s : State) (c : Nat) (v : Sched) : (s.setSched c v).units = s.units := rfl
@[simp] theorem State.umReady_setSched (s : State) (c : Nat) (v : Sched) : (s.setSched c v).umReady = s.umReady := rfl
@[simp] theorem State.umGen_setSched (s : State) (c : Nat) (v : Sched) : (s.setSched c v).umGen = s.umGen := rfl
@[simp] theorem State.doms_setSched (s : State) (c : Nat) (v : Sched) : (s.setSched c v).doms = s.doms := rfl
@[simp] theorem State.hl_setSched (s : State) (c : Nat) (v : Sched) : (s.setSched c v).hl = s.hl := rfl
@[simp] theorem State.mesh_setSched (s : State) (c : Nat) (v : Sched) : (s.setSched c v).mesh = s.mesh := rfl
@[simp] theorem State.sec_setSched (s : State) (c : Nat) (v : Sched) : (s.setSched c v).sec = s.sec := rfl
@[simp] theorem State.boot_setSched (s : State) (c : Nat) (v : Sched) : (s.setSched c v).boot = s.boot := rfl
@[simp] theorem State.engs_setSched (s : State) (c : Nat) (v : Sched) : (s.setSched c v).engs = s.engs := rfl
@[simp] theorem State.waits_setSched (s : State) (c : Nat) (v : Sched) : (s.setSched c v).waits = s.waits := rfl
@[simp] theorem State.coh_setSched (s : State) (c : Nat) (v : Sched) : (s.setSched c v).coh = s.coh := rfl
@[simp] theorem State.links_setSched (s : State) (c : Nat) (v : Sched) : (s.setSched c v).links = s.links := rfl
@[simp] theorem State.eth_setSched (s : State) (c : Nat) (v : Sched) : (s.setSched c v).eth = s.eth := rfl
@[simp] theorem State.sheaf_setSched (s : State) (c : Nat) (v : Sched) : (s.setSched c v).sheaf = s.sheaf := rfl
@[simp] theorem State.pwr_setSched (s : State) (c : Nat) (v : Sched) : (s.setSched c v).pwr = s.pwr := rfl
@[simp] theorem State.tel_setSched (s : State) (c : Nat) (v : Sched) : (s.setSched c v).tel = s.tel := rfl
@[simp] theorem State.jtag_setSched (s : State) (c : Nat) (v : Sched) : (s.setSched c v).jtag = s.jtag := rfl
@[simp] theorem State.mgmtIndex_setSched (s : State) (c : Nat) (v : Sched) : (s.setSched c v).mgmtIndex = s.mgmtIndex := rfl
@[simp] theorem State.fallowUnit_setSched (s : State) (c : Nat) (v : Sched) : (s.setSched c v).fallowUnit = s.fallowUnit := rfl
@[simp] theorem State.out_setSched (s : State) (c : Nat) (v : Sched) : (s.setSched c v).out = s.out := rfl
@[simp] theorem State.now_setSched (s : State) (c : Nat) (v : Sched) : (s.setSched c v).now = s.now := rfl
@[simp] theorem State.freeCtr_setSched (s : State) (c : Nat) (v : Sched) : (s.setSched c v).freeCtr = s.freeCtr := rfl
@[simp] theorem State.pending_setSched (s : State) (c : Nat) (v : Sched) : (s.setSched c v).pending = s.pending := rfl
@[simp] theorem State.f_setSched (s : State) (c : Nat) (v : Sched) (g : Fid) (i2 j2 : Nat) :
    (s.setSched c v).f g i2 j2 = s.f g i2 j2 := rfl

@[simp] theorem State.flds_setQport (s : State) (p : Nat) (v : QPort) : (s.setQport p v).flds = s.flds := rfl
@[simp] theorem State.rwl_setQport (s : State) (p : Nat) (v : QPort) : (s.setQport p v).rwl = s.rwl := rfl
@[simp] theorem State.aon_setQport (s : State) (p : Nat) (v : QPort) : (s.setQport p v).aon = s.aon := rfl
@[simp] theorem State.fuses_setQport (s : State) (p : Nat) (v : QPort) : (s.setQport p v).fuses = s.fuses := rfl
@[simp] theorem State.units_setQport (s : State) (p : Nat) (v : QPort) : (s.setQport p v).units = s.units := rfl
@[simp] theorem State.umReady_setQport (s : State) (p : Nat) (v : QPort) : (s.setQport p v).umReady = s.umReady := rfl
@[simp] theorem State.umGen_setQport (s : State) (p : Nat) (v : QPort) : (s.setQport p v).umGen = s.umGen := rfl
@[simp] theorem State.doms_setQport (s : State) (p : Nat) (v : QPort) : (s.setQport p v).doms = s.doms := rfl
@[simp] theorem State.hl_setQport (s : State) (p : Nat) (v : QPort) : (s.setQport p v).hl = s.hl := rfl
@[simp] theorem State.mem_setQport (s : State) (p : Nat) (v : QPort) : (s.setQport p v).mem = s.mem := rfl
@[simp] theorem State.sec_setQport (s : State) (p : Nat) (v : QPort) : (s.setQport p v).sec = s.sec := rfl
@[simp] theorem State.boot_setQport (s : State) (p : Nat) (v : QPort) : (s.setQport p v).boot = s.boot := rfl
@[simp] theorem State.engs_setQport (s : State) (p : Nat) (v : QPort) : (s.setQport p v).engs = s.engs := rfl
@[simp] theorem State.waits_setQport (s : State) (p : Nat) (v : QPort) : (s.setQport p v).waits = s.waits := rfl
@[simp] theorem State.coh_setQport (s : State) (p : Nat) (v : QPort) : (s.setQport p v).coh = s.coh := rfl
@[simp] theorem State.links_setQport (s : State) (p : Nat) (v : QPort) : (s.setQport p v).links = s.links := rfl
@[simp] theorem State.eth_setQport (s : State) (p : Nat) (v : QPort) : (s.setQport p v).eth = s.eth := rfl
@[simp] theorem State.sheaf_setQport (s : State) (p : Nat) (v : QPort) : (s.setQport p v).sheaf = s.sheaf := rfl
@[simp] theorem State.pwr_setQport (s : State) (p : Nat) (v : QPort) : (s.setQport p v).pwr = s.pwr := rfl
@[simp] theorem State.tel_setQport (s : State) (p : Nat) (v : QPort) : (s.setQport p v).tel = s.tel := rfl
@[simp] theorem State.jtag_setQport (s : State) (p : Nat) (v : QPort) : (s.setQport p v).jtag = s.jtag := rfl
@[simp] theorem State.mgmtIndex_setQport (s : State) (p : Nat) (v : QPort) : (s.setQport p v).mgmtIndex = s.mgmtIndex := rfl
@[simp] theorem State.fallowUnit_setQport (s : State) (p : Nat) (v : QPort) : (s.setQport p v).fallowUnit = s.fallowUnit := rfl
@[simp] theorem State.out_setQport (s : State) (p : Nat) (v : QPort) : (s.setQport p v).out = s.out := rfl
@[simp] theorem State.now_setQport (s : State) (p : Nat) (v : QPort) : (s.setQport p v).now = s.now := rfl
@[simp] theorem State.freeCtr_setQport (s : State) (p : Nat) (v : QPort) : (s.setQport p v).freeCtr = s.freeCtr := rfl
@[simp] theorem State.pending_setQport (s : State) (p : Nat) (v : QPort) : (s.setQport p v).pending = s.pending := rfl
@[simp] theorem State.f_setQport (s : State) (p : Nat) (v : QPort) (g : Fid) (i2 j2 : Nat) :
    (s.setQport p v).f g i2 j2 = s.f g i2 j2 := rfl

@[simp] theorem State.flds_setFence (s : State) (p v : Nat) : (s.setFence p v).flds = s.flds := rfl
@[simp] theorem State.rwl_setFence (s : State) (p v : Nat) : (s.setFence p v).rwl = s.rwl := rfl
@[simp] theorem State.aon_setFence (s : State) (p v : Nat) : (s.setFence p v).aon = s.aon := rfl
@[simp] theorem State.fuses_setFence (s : State) (p v : Nat) : (s.setFence p v).fuses = s.fuses := rfl
@[simp] theorem State.units_setFence (s : State) (p v : Nat) : (s.setFence p v).units = s.units := rfl
@[simp] theorem State.umReady_setFence (s : State) (p v : Nat) : (s.setFence p v).umReady = s.umReady := rfl
@[simp] theorem State.umGen_setFence (s : State) (p v : Nat) : (s.setFence p v).umGen = s.umGen := rfl
@[simp] theorem State.doms_setFence (s : State) (p v : Nat) : (s.setFence p v).doms = s.doms := rfl
@[simp] theorem State.hl_setFence (s : State) (p v : Nat) : (s.setFence p v).hl = s.hl := rfl
@[simp] theorem State.mem_setFence (s : State) (p v : Nat) : (s.setFence p v).mem = s.mem := rfl
@[simp] theorem State.sec_setFence (s : State) (p v : Nat) : (s.setFence p v).sec = s.sec := rfl
@[simp] theorem State.boot_setFence (s : State) (p v : Nat) : (s.setFence p v).boot = s.boot := rfl
@[simp] theorem State.engs_setFence (s : State) (p v : Nat) : (s.setFence p v).engs = s.engs := rfl
@[simp] theorem State.waits_setFence (s : State) (p v : Nat) : (s.setFence p v).waits = s.waits := rfl
@[simp] theorem State.coh_setFence (s : State) (p v : Nat) : (s.setFence p v).coh = s.coh := rfl
@[simp] theorem State.links_setFence (s : State) (p v : Nat) : (s.setFence p v).links = s.links := rfl
@[simp] theorem State.eth_setFence (s : State) (p v : Nat) : (s.setFence p v).eth = s.eth := rfl
@[simp] theorem State.sheaf_setFence (s : State) (p v : Nat) : (s.setFence p v).sheaf = s.sheaf := rfl
@[simp] theorem State.pwr_setFence (s : State) (p v : Nat) : (s.setFence p v).pwr = s.pwr := rfl
@[simp] theorem State.tel_setFence (s : State) (p v : Nat) : (s.setFence p v).tel = s.tel := rfl
@[simp] theorem State.jtag_setFence (s : State) (p v : Nat) : (s.setFence p v).jtag = s.jtag := rfl
@[simp] theorem State.mgmtIndex_setFence (s : State) (p v : Nat) : (s.setFence p v).mgmtIndex = s.mgmtIndex := rfl
@[simp] theorem State.fallowUnit_setFence (s : State) (p v : Nat) : (s.setFence p v).fallowUnit = s.fallowUnit := rfl
@[simp] theorem State.out_setFence (s : State) (p v : Nat) : (s.setFence p v).out = s.out := rfl
@[simp] theorem State.now_setFence (s : State) (p v : Nat) : (s.setFence p v).now = s.now := rfl
@[simp] theorem State.freeCtr_setFence (s : State) (p v : Nat) : (s.setFence p v).freeCtr = s.freeCtr := rfl
@[simp] theorem State.pending_setFence (s : State) (p v : Nat) : (s.setFence p v).pending = s.pending := rfl
@[simp] theorem State.f_setFence (s : State) (p v : Nat) (g : Fid) (i2 j2 : Nat) :
    (s.setFence p v).f g i2 j2 = s.f g i2 j2 := rfl

@[simp] theorem State.flds_updReq (s : State) (port tag : Nat) (f : Req → Req) : (s.updReq port tag f).flds = s.flds := rfl
@[simp] theorem State.rwl_updReq (s : State) (port tag : Nat) (f : Req → Req) : (s.updReq port tag f).rwl = s.rwl := rfl
@[simp] theorem State.aon_updReq (s : State) (port tag : Nat) (f : Req → Req) : (s.updReq port tag f).aon = s.aon := rfl
@[simp] theorem State.fuses_updReq (s : State) (port tag : Nat) (f : Req → Req) : (s.updReq port tag f).fuses = s.fuses := rfl
@[simp] theorem State.units_updReq (s : State) (port tag : Nat) (f : Req → Req) : (s.updReq port tag f).units = s.units := rfl
@[simp] theorem State.umReady_updReq (s : State) (port tag : Nat) (f : Req → Req) : (s.updReq port tag f).umReady = s.umReady := rfl
@[simp] theorem State.umGen_updReq (s : State) (port tag : Nat) (f : Req → Req) : (s.updReq port tag f).umGen = s.umGen := rfl
@[simp] theorem State.doms_updReq (s : State) (port tag : Nat) (f : Req → Req) : (s.updReq port tag f).doms = s.doms := rfl
@[simp] theorem State.hl_updReq (s : State) (port tag : Nat) (f : Req → Req) : (s.updReq port tag f).hl = s.hl := rfl
@[simp] theorem State.mem_updReq (s : State) (port tag : Nat) (f : Req → Req) : (s.updReq port tag f).mem = s.mem := rfl
@[simp] theorem State.sec_updReq (s : State) (port tag : Nat) (f : Req → Req) : (s.updReq port tag f).sec = s.sec := rfl
@[simp] theorem State.boot_updReq (s : State) (port tag : Nat) (f : Req → Req) : (s.updReq port tag f).boot = s.boot := rfl
@[simp] theorem State.engs_updReq (s : State) (port tag : Nat) (f : Req → Req) : (s.updReq port tag f).engs = s.engs := rfl
@[simp] theorem State.waits_updReq (s : State) (port tag : Nat) (f : Req → Req) : (s.updReq port tag f).waits = s.waits := rfl
@[simp] theorem State.coh_updReq (s : State) (port tag : Nat) (f : Req → Req) : (s.updReq port tag f).coh = s.coh := rfl
@[simp] theorem State.links_updReq (s : State) (port tag : Nat) (f : Req → Req) : (s.updReq port tag f).links = s.links := rfl
@[simp] theorem State.eth_updReq (s : State) (port tag : Nat) (f : Req → Req) : (s.updReq port tag f).eth = s.eth := rfl
@[simp] theorem State.sheaf_updReq (s : State) (port tag : Nat) (f : Req → Req) : (s.updReq port tag f).sheaf = s.sheaf := rfl
@[simp] theorem State.pwr_updReq (s : State) (port tag : Nat) (f : Req → Req) : (s.updReq port tag f).pwr = s.pwr := rfl
@[simp] theorem State.tel_updReq (s : State) (port tag : Nat) (f : Req → Req) : (s.updReq port tag f).tel = s.tel := rfl
@[simp] theorem State.jtag_updReq (s : State) (port tag : Nat) (f : Req → Req) : (s.updReq port tag f).jtag = s.jtag := rfl
@[simp] theorem State.mgmtIndex_updReq (s : State) (port tag : Nat) (f : Req → Req) : (s.updReq port tag f).mgmtIndex = s.mgmtIndex := rfl
@[simp] theorem State.fallowUnit_updReq (s : State) (port tag : Nat) (f : Req → Req) : (s.updReq port tag f).fallowUnit = s.fallowUnit := rfl
@[simp] theorem State.out_updReq (s : State) (port tag : Nat) (f : Req → Req) : (s.updReq port tag f).out = s.out := rfl
@[simp] theorem State.now_updReq (s : State) (port tag : Nat) (f : Req → Req) : (s.updReq port tag f).now = s.now := rfl
@[simp] theorem State.freeCtr_updReq (s : State) (port tag : Nat) (f : Req → Req) : (s.updReq port tag f).freeCtr = s.freeCtr := rfl
@[simp] theorem State.pending_updReq (s : State) (port tag : Nat) (f : Req → Req) : (s.updReq port tag f).pending = s.pending := rfl
@[simp] theorem State.f_updReq (s : State) (port tag : Nat) (f : Req → Req) (g : Fid) (i2 j2 : Nat) :
    (s.updReq port tag f).f g i2 j2 = s.f g i2 j2 := rfl

@[simp] theorem State.flds_dropReq (s : State) (port tag : Nat) : (s.dropReq port tag).flds = s.flds := rfl
@[simp] theorem State.rwl_dropReq (s : State) (port tag : Nat) : (s.dropReq port tag).rwl = s.rwl := rfl
@[simp] theorem State.aon_dropReq (s : State) (port tag : Nat) : (s.dropReq port tag).aon = s.aon := rfl
@[simp] theorem State.fuses_dropReq (s : State) (port tag : Nat) : (s.dropReq port tag).fuses = s.fuses := rfl
@[simp] theorem State.units_dropReq (s : State) (port tag : Nat) : (s.dropReq port tag).units = s.units := rfl
@[simp] theorem State.umReady_dropReq (s : State) (port tag : Nat) : (s.dropReq port tag).umReady = s.umReady := rfl
@[simp] theorem State.umGen_dropReq (s : State) (port tag : Nat) : (s.dropReq port tag).umGen = s.umGen := rfl
@[simp] theorem State.doms_dropReq (s : State) (port tag : Nat) : (s.dropReq port tag).doms = s.doms := rfl
@[simp] theorem State.hl_dropReq (s : State) (port tag : Nat) : (s.dropReq port tag).hl = s.hl := rfl
@[simp] theorem State.mem_dropReq (s : State) (port tag : Nat) : (s.dropReq port tag).mem = s.mem := rfl
@[simp] theorem State.sec_dropReq (s : State) (port tag : Nat) : (s.dropReq port tag).sec = s.sec := rfl
@[simp] theorem State.boot_dropReq (s : State) (port tag : Nat) : (s.dropReq port tag).boot = s.boot := rfl
@[simp] theorem State.engs_dropReq (s : State) (port tag : Nat) : (s.dropReq port tag).engs = s.engs := rfl
@[simp] theorem State.waits_dropReq (s : State) (port tag : Nat) : (s.dropReq port tag).waits = s.waits := rfl
@[simp] theorem State.coh_dropReq (s : State) (port tag : Nat) : (s.dropReq port tag).coh = s.coh := rfl
@[simp] theorem State.links_dropReq (s : State) (port tag : Nat) : (s.dropReq port tag).links = s.links := rfl
@[simp] theorem State.eth_dropReq (s : State) (port tag : Nat) : (s.dropReq port tag).eth = s.eth := rfl
@[simp] theorem State.sheaf_dropReq (s : State) (port tag : Nat) : (s.dropReq port tag).sheaf = s.sheaf := rfl
@[simp] theorem State.pwr_dropReq (s : State) (port tag : Nat) : (s.dropReq port tag).pwr = s.pwr := rfl
@[simp] theorem State.tel_dropReq (s : State) (port tag : Nat) : (s.dropReq port tag).tel = s.tel := rfl
@[simp] theorem State.jtag_dropReq (s : State) (port tag : Nat) : (s.dropReq port tag).jtag = s.jtag := rfl
@[simp] theorem State.mgmtIndex_dropReq (s : State) (port tag : Nat) : (s.dropReq port tag).mgmtIndex = s.mgmtIndex := rfl
@[simp] theorem State.fallowUnit_dropReq (s : State) (port tag : Nat) : (s.dropReq port tag).fallowUnit = s.fallowUnit := rfl
@[simp] theorem State.out_dropReq (s : State) (port tag : Nat) : (s.dropReq port tag).out = s.out := rfl
@[simp] theorem State.now_dropReq (s : State) (port tag : Nat) : (s.dropReq port tag).now = s.now := rfl
@[simp] theorem State.freeCtr_dropReq (s : State) (port tag : Nat) : (s.dropReq port tag).freeCtr = s.freeCtr := rfl
@[simp] theorem State.pending_dropReq (s : State) (port tag : Nat) : (s.dropReq port tag).pending = s.pending := rfl
@[simp] theorem State.f_dropReq (s : State) (port tag : Nat) (g : Fid) (i2 j2 : Nat) :
    (s.dropReq port tag).f g i2 j2 = s.f g i2 j2 := rfl

@[simp] theorem State.flds_setSec (s : State) (v : Sec) : (s.setSec v).flds = s.flds := rfl
@[simp] theorem State.rwl_setSec (s : State) (v : Sec) : (s.setSec v).rwl = s.rwl := rfl
@[simp] theorem State.aon_setSec (s : State) (v : Sec) : (s.setSec v).aon = s.aon := rfl
@[simp] theorem State.fuses_setSec (s : State) (v : Sec) : (s.setSec v).fuses = s.fuses := rfl
@[simp] theorem State.units_setSec (s : State) (v : Sec) : (s.setSec v).units = s.units := rfl
@[simp] theorem State.umReady_setSec (s : State) (v : Sec) : (s.setSec v).umReady = s.umReady := rfl
@[simp] theorem State.umGen_setSec (s : State) (v : Sec) : (s.setSec v).umGen = s.umGen := rfl
@[simp] theorem State.doms_setSec (s : State) (v : Sec) : (s.setSec v).doms = s.doms := rfl
@[simp] theorem State.hl_setSec (s : State) (v : Sec) : (s.setSec v).hl = s.hl := rfl
@[simp] theorem State.mem_setSec (s : State) (v : Sec) : (s.setSec v).mem = s.mem := rfl
@[simp] theorem State.mesh_setSec (s : State) (v : Sec) : (s.setSec v).mesh = s.mesh := rfl
@[simp] theorem State.boot_setSec (s : State) (v : Sec) : (s.setSec v).boot = s.boot := rfl
@[simp] theorem State.engs_setSec (s : State) (v : Sec) : (s.setSec v).engs = s.engs := rfl
@[simp] theorem State.waits_setSec (s : State) (v : Sec) : (s.setSec v).waits = s.waits := rfl
@[simp] theorem State.coh_setSec (s : State) (v : Sec) : (s.setSec v).coh = s.coh := rfl
@[simp] theorem State.links_setSec (s : State) (v : Sec) : (s.setSec v).links = s.links := rfl
@[simp] theorem State.eth_setSec (s : State) (v : Sec) : (s.setSec v).eth = s.eth := rfl
@[simp] theorem State.sheaf_setSec (s : State) (v : Sec) : (s.setSec v).sheaf = s.sheaf := rfl
@[simp] theorem State.pwr_setSec (s : State) (v : Sec) : (s.setSec v).pwr = s.pwr := rfl
@[simp] theorem State.tel_setSec (s : State) (v : Sec) : (s.setSec v).tel = s.tel := rfl
@[simp] theorem State.jtag_setSec (s : State) (v : Sec) : (s.setSec v).jtag = s.jtag := rfl
@[simp] theorem State.mgmtIndex_setSec (s : State) (v : Sec) : (s.setSec v).mgmtIndex = s.mgmtIndex := rfl
@[simp] theorem State.fallowUnit_setSec (s : State) (v : Sec) : (s.setSec v).fallowUnit = s.fallowUnit := rfl
@[simp] theorem State.out_setSec (s : State) (v : Sec) : (s.setSec v).out = s.out := rfl
@[simp] theorem State.now_setSec (s : State) (v : Sec) : (s.setSec v).now = s.now := rfl
@[simp] theorem State.freeCtr_setSec (s : State) (v : Sec) : (s.setSec v).freeCtr = s.freeCtr := rfl
@[simp] theorem State.pending_setSec (s : State) (v : Sec) : (s.setSec v).pending = s.pending := rfl
@[simp] theorem State.f_setSec (s : State) (v : Sec) (g : Fid) (i2 j2 : Nat) :
    (s.setSec v).f g i2 j2 = s.f g i2 j2 := rfl

@[simp] theorem State.flds_setPlot (s : State) (p : Nat) (v : Plot) : (s.setPlot p v).flds = s.flds := rfl
@[simp] theorem State.rwl_setPlot (s : State) (p : Nat) (v : Plot) : (s.setPlot p v).rwl = s.rwl := rfl
@[simp] theorem State.aon_setPlot (s : State) (p : Nat) (v : Plot) : (s.setPlot p v).aon = s.aon := rfl
@[simp] theorem State.fuses_setPlot (s : State) (p : Nat) (v : Plot) : (s.setPlot p v).fuses = s.fuses := rfl
@[simp] theorem State.units_setPlot (s : State) (p : Nat) (v : Plot) : (s.setPlot p v).units = s.units := rfl
@[simp] theorem State.umReady_setPlot (s : State) (p : Nat) (v : Plot) : (s.setPlot p v).umReady = s.umReady := rfl
@[simp] theorem State.umGen_setPlot (s : State) (p : Nat) (v : Plot) : (s.setPlot p v).umGen = s.umGen := rfl
@[simp] theorem State.doms_setPlot (s : State) (p : Nat) (v : Plot) : (s.setPlot p v).doms = s.doms := rfl
@[simp] theorem State.hl_setPlot (s : State) (p : Nat) (v : Plot) : (s.setPlot p v).hl = s.hl := rfl
@[simp] theorem State.mem_setPlot (s : State) (p : Nat) (v : Plot) : (s.setPlot p v).mem = s.mem := rfl
@[simp] theorem State.mesh_setPlot (s : State) (p : Nat) (v : Plot) : (s.setPlot p v).mesh = s.mesh := rfl
@[simp] theorem State.boot_setPlot (s : State) (p : Nat) (v : Plot) : (s.setPlot p v).boot = s.boot := rfl
@[simp] theorem State.engs_setPlot (s : State) (p : Nat) (v : Plot) : (s.setPlot p v).engs = s.engs := rfl
@[simp] theorem State.waits_setPlot (s : State) (p : Nat) (v : Plot) : (s.setPlot p v).waits = s.waits := rfl
@[simp] theorem State.coh_setPlot (s : State) (p : Nat) (v : Plot) : (s.setPlot p v).coh = s.coh := rfl
@[simp] theorem State.links_setPlot (s : State) (p : Nat) (v : Plot) : (s.setPlot p v).links = s.links := rfl
@[simp] theorem State.eth_setPlot (s : State) (p : Nat) (v : Plot) : (s.setPlot p v).eth = s.eth := rfl
@[simp] theorem State.sheaf_setPlot (s : State) (p : Nat) (v : Plot) : (s.setPlot p v).sheaf = s.sheaf := rfl
@[simp] theorem State.pwr_setPlot (s : State) (p : Nat) (v : Plot) : (s.setPlot p v).pwr = s.pwr := rfl
@[simp] theorem State.tel_setPlot (s : State) (p : Nat) (v : Plot) : (s.setPlot p v).tel = s.tel := rfl
@[simp] theorem State.jtag_setPlot (s : State) (p : Nat) (v : Plot) : (s.setPlot p v).jtag = s.jtag := rfl
@[simp] theorem State.mgmtIndex_setPlot (s : State) (p : Nat) (v : Plot) : (s.setPlot p v).mgmtIndex = s.mgmtIndex := rfl
@[simp] theorem State.fallowUnit_setPlot (s : State) (p : Nat) (v : Plot) : (s.setPlot p v).fallowUnit = s.fallowUnit := rfl
@[simp] theorem State.out_setPlot (s : State) (p : Nat) (v : Plot) : (s.setPlot p v).out = s.out := rfl
@[simp] theorem State.now_setPlot (s : State) (p : Nat) (v : Plot) : (s.setPlot p v).now = s.now := rfl
@[simp] theorem State.freeCtr_setPlot (s : State) (p : Nat) (v : Plot) : (s.setPlot p v).freeCtr = s.freeCtr := rfl
@[simp] theorem State.pending_setPlot (s : State) (p : Nat) (v : Plot) : (s.setPlot p v).pending = s.pending := rfl
@[simp] theorem State.f_setPlot (s : State) (p : Nat) (v : Plot) (g : Fid) (i2 j2 : Nat) :
    (s.setPlot p v).f g i2 j2 = s.f g i2 j2 := rfl

@[simp] theorem State.flds_setCc (s : State) (line : Nat) (v : Option CcLine) : (s.setCc line v).flds = s.flds := rfl
@[simp] theorem State.rwl_setCc (s : State) (line : Nat) (v : Option CcLine) : (s.setCc line v).rwl = s.rwl := rfl
@[simp] theorem State.aon_setCc (s : State) (line : Nat) (v : Option CcLine) : (s.setCc line v).aon = s.aon := rfl
@[simp] theorem State.fuses_setCc (s : State) (line : Nat) (v : Option CcLine) : (s.setCc line v).fuses = s.fuses := rfl
@[simp] theorem State.units_setCc (s : State) (line : Nat) (v : Option CcLine) : (s.setCc line v).units = s.units := rfl
@[simp] theorem State.umReady_setCc (s : State) (line : Nat) (v : Option CcLine) : (s.setCc line v).umReady = s.umReady := rfl
@[simp] theorem State.umGen_setCc (s : State) (line : Nat) (v : Option CcLine) : (s.setCc line v).umGen = s.umGen := rfl
@[simp] theorem State.doms_setCc (s : State) (line : Nat) (v : Option CcLine) : (s.setCc line v).doms = s.doms := rfl
@[simp] theorem State.hl_setCc (s : State) (line : Nat) (v : Option CcLine) : (s.setCc line v).hl = s.hl := rfl
@[simp] theorem State.mem_setCc (s : State) (line : Nat) (v : Option CcLine) : (s.setCc line v).mem = s.mem := rfl
@[simp] theorem State.mesh_setCc (s : State) (line : Nat) (v : Option CcLine) : (s.setCc line v).mesh = s.mesh := rfl
@[simp] theorem State.sec_setCc (s : State) (line : Nat) (v : Option CcLine) : (s.setCc line v).sec = s.sec := rfl
@[simp] theorem State.boot_setCc (s : State) (line : Nat) (v : Option CcLine) : (s.setCc line v).boot = s.boot := rfl
@[simp] theorem State.engs_setCc (s : State) (line : Nat) (v : Option CcLine) : (s.setCc line v).engs = s.engs := rfl
@[simp] theorem State.waits_setCc (s : State) (line : Nat) (v : Option CcLine) : (s.setCc line v).waits = s.waits := rfl
@[simp] theorem State.links_setCc (s : State) (line : Nat) (v : Option CcLine) : (s.setCc line v).links = s.links := rfl
@[simp] theorem State.eth_setCc (s : State) (line : Nat) (v : Option CcLine) : (s.setCc line v).eth = s.eth := rfl
@[simp] theorem State.sheaf_setCc (s : State) (line : Nat) (v : Option CcLine) : (s.setCc line v).sheaf = s.sheaf := rfl
@[simp] theorem State.pwr_setCc (s : State) (line : Nat) (v : Option CcLine) : (s.setCc line v).pwr = s.pwr := rfl
@[simp] theorem State.tel_setCc (s : State) (line : Nat) (v : Option CcLine) : (s.setCc line v).tel = s.tel := rfl
@[simp] theorem State.jtag_setCc (s : State) (line : Nat) (v : Option CcLine) : (s.setCc line v).jtag = s.jtag := rfl
@[simp] theorem State.mgmtIndex_setCc (s : State) (line : Nat) (v : Option CcLine) : (s.setCc line v).mgmtIndex = s.mgmtIndex := rfl
@[simp] theorem State.fallowUnit_setCc (s : State) (line : Nat) (v : Option CcLine) : (s.setCc line v).fallowUnit = s.fallowUnit := rfl
@[simp] theorem State.out_setCc (s : State) (line : Nat) (v : Option CcLine) : (s.setCc line v).out = s.out := rfl
@[simp] theorem State.now_setCc (s : State) (line : Nat) (v : Option CcLine) : (s.setCc line v).now = s.now := rfl
@[simp] theorem State.freeCtr_setCc (s : State) (line : Nat) (v : Option CcLine) : (s.setCc line v).freeCtr = s.freeCtr := rfl
@[simp] theorem State.pending_setCc (s : State) (line : Nat) (v : Option CcLine) : (s.setCc line v).pending = s.pending := rfl
@[simp] theorem State.f_setCc (s : State) (line : Nat) (v : Option CcLine) (g : Fid) (i2 j2 : Nat) :
    (s.setCc line v).f g i2 j2 = s.f g i2 j2 := rfl

@[simp] theorem State.flds_setQp (s : State) (q : Nat) (v : Qp) : (s.setQp q v).flds = s.flds := rfl
@[simp] theorem State.rwl_setQp (s : State) (q : Nat) (v : Qp) : (s.setQp q v).rwl = s.rwl := rfl
@[simp] theorem State.aon_setQp (s : State) (q : Nat) (v : Qp) : (s.setQp q v).aon = s.aon := rfl
@[simp] theorem State.fuses_setQp (s : State) (q : Nat) (v : Qp) : (s.setQp q v).fuses = s.fuses := rfl
@[simp] theorem State.units_setQp (s : State) (q : Nat) (v : Qp) : (s.setQp q v).units = s.units := rfl
@[simp] theorem State.umReady_setQp (s : State) (q : Nat) (v : Qp) : (s.setQp q v).umReady = s.umReady := rfl
@[simp] theorem State.umGen_setQp (s : State) (q : Nat) (v : Qp) : (s.setQp q v).umGen = s.umGen := rfl
@[simp] theorem State.doms_setQp (s : State) (q : Nat) (v : Qp) : (s.setQp q v).doms = s.doms := rfl
@[simp] theorem State.hl_setQp (s : State) (q : Nat) (v : Qp) : (s.setQp q v).hl = s.hl := rfl
@[simp] theorem State.mem_setQp (s : State) (q : Nat) (v : Qp) : (s.setQp q v).mem = s.mem := rfl
@[simp] theorem State.mesh_setQp (s : State) (q : Nat) (v : Qp) : (s.setQp q v).mesh = s.mesh := rfl
@[simp] theorem State.sec_setQp (s : State) (q : Nat) (v : Qp) : (s.setQp q v).sec = s.sec := rfl
@[simp] theorem State.boot_setQp (s : State) (q : Nat) (v : Qp) : (s.setQp q v).boot = s.boot := rfl
@[simp] theorem State.engs_setQp (s : State) (q : Nat) (v : Qp) : (s.setQp q v).engs = s.engs := rfl
@[simp] theorem State.waits_setQp (s : State) (q : Nat) (v : Qp) : (s.setQp q v).waits = s.waits := rfl
@[simp] theorem State.coh_setQp (s : State) (q : Nat) (v : Qp) : (s.setQp q v).coh = s.coh := rfl
@[simp] theorem State.links_setQp (s : State) (q : Nat) (v : Qp) : (s.setQp q v).links = s.links := rfl
@[simp] theorem State.sheaf_setQp (s : State) (q : Nat) (v : Qp) : (s.setQp q v).sheaf = s.sheaf := rfl
@[simp] theorem State.pwr_setQp (s : State) (q : Nat) (v : Qp) : (s.setQp q v).pwr = s.pwr := rfl
@[simp] theorem State.tel_setQp (s : State) (q : Nat) (v : Qp) : (s.setQp q v).tel = s.tel := rfl
@[simp] theorem State.jtag_setQp (s : State) (q : Nat) (v : Qp) : (s.setQp q v).jtag = s.jtag := rfl
@[simp] theorem State.mgmtIndex_setQp (s : State) (q : Nat) (v : Qp) : (s.setQp q v).mgmtIndex = s.mgmtIndex := rfl
@[simp] theorem State.fallowUnit_setQp (s : State) (q : Nat) (v : Qp) : (s.setQp q v).fallowUnit = s.fallowUnit := rfl
@[simp] theorem State.out_setQp (s : State) (q : Nat) (v : Qp) : (s.setQp q v).out = s.out := rfl
@[simp] theorem State.now_setQp (s : State) (q : Nat) (v : Qp) : (s.setQp q v).now = s.now := rfl
@[simp] theorem State.freeCtr_setQp (s : State) (q : Nat) (v : Qp) : (s.setQp q v).freeCtr = s.freeCtr := rfl
@[simp] theorem State.pending_setQp (s : State) (q : Nat) (v : Qp) : (s.setQp q v).pending = s.pending := rfl
@[simp] theorem State.f_setQp (s : State) (q : Nat) (v : Qp) (g : Fid) (i2 j2 : Nat) :
    (s.setQp q v).f g i2 j2 = s.f g i2 j2 := rfl

@[simp] theorem State.flds_setIng (s : State) (k : Nat) (v : Ing) : (s.setIng k v).flds = s.flds := rfl
@[simp] theorem State.rwl_setIng (s : State) (k : Nat) (v : Ing) : (s.setIng k v).rwl = s.rwl := rfl
@[simp] theorem State.aon_setIng (s : State) (k : Nat) (v : Ing) : (s.setIng k v).aon = s.aon := rfl
@[simp] theorem State.fuses_setIng (s : State) (k : Nat) (v : Ing) : (s.setIng k v).fuses = s.fuses := rfl
@[simp] theorem State.units_setIng (s : State) (k : Nat) (v : Ing) : (s.setIng k v).units = s.units := rfl
@[simp] theorem State.umReady_setIng (s : State) (k : Nat) (v : Ing) : (s.setIng k v).umReady = s.umReady := rfl
@[simp] theorem State.umGen_setIng (s : State) (k : Nat) (v : Ing) : (s.setIng k v).umGen = s.umGen := rfl
@[simp] theorem State.doms_setIng (s : State) (k : Nat) (v : Ing) : (s.setIng k v).doms = s.doms := rfl
@[simp] theorem State.hl_setIng (s : State) (k : Nat) (v : Ing) : (s.setIng k v).hl = s.hl := rfl
@[simp] theorem State.mem_setIng (s : State) (k : Nat) (v : Ing) : (s.setIng k v).mem = s.mem := rfl
@[simp] theorem State.mesh_setIng (s : State) (k : Nat) (v : Ing) : (s.setIng k v).mesh = s.mesh := rfl
@[simp] theorem State.sec_setIng (s : State) (k : Nat) (v : Ing) : (s.setIng k v).sec = s.sec := rfl
@[simp] theorem State.boot_setIng (s : State) (k : Nat) (v : Ing) : (s.setIng k v).boot = s.boot := rfl
@[simp] theorem State.engs_setIng (s : State) (k : Nat) (v : Ing) : (s.setIng k v).engs = s.engs := rfl
@[simp] theorem State.waits_setIng (s : State) (k : Nat) (v : Ing) : (s.setIng k v).waits = s.waits := rfl
@[simp] theorem State.coh_setIng (s : State) (k : Nat) (v : Ing) : (s.setIng k v).coh = s.coh := rfl
@[simp] theorem State.links_setIng (s : State) (k : Nat) (v : Ing) : (s.setIng k v).links = s.links := rfl
@[simp] theorem State.sheaf_setIng (s : State) (k : Nat) (v : Ing) : (s.setIng k v).sheaf = s.sheaf := rfl
@[simp] theorem State.pwr_setIng (s : State) (k : Nat) (v : Ing) : (s.setIng k v).pwr = s.pwr := rfl
@[simp] theorem State.tel_setIng (s : State) (k : Nat) (v : Ing) : (s.setIng k v).tel = s.tel := rfl
@[simp] theorem State.jtag_setIng (s : State) (k : Nat) (v : Ing) : (s.setIng k v).jtag = s.jtag := rfl
@[simp] theorem State.mgmtIndex_setIng (s : State) (k : Nat) (v : Ing) : (s.setIng k v).mgmtIndex = s.mgmtIndex := rfl
@[simp] theorem State.fallowUnit_setIng (s : State) (k : Nat) (v : Ing) : (s.setIng k v).fallowUnit = s.fallowUnit := rfl
@[simp] theorem State.out_setIng (s : State) (k : Nat) (v : Ing) : (s.setIng k v).out = s.out := rfl
@[simp] theorem State.now_setIng (s : State) (k : Nat) (v : Ing) : (s.setIng k v).now = s.now := rfl
@[simp] theorem State.freeCtr_setIng (s : State) (k : Nat) (v : Ing) : (s.setIng k v).freeCtr = s.freeCtr := rfl
@[simp] theorem State.pending_setIng (s : State) (k : Nat) (v : Ing) : (s.setIng k v).pending = s.pending := rfl
@[simp] theorem State.f_setIng (s : State) (k : Nat) (v : Ing) (g : Fid) (i2 j2 : Nat) :
    (s.setIng k v).f g i2 j2 = s.f g i2 j2 := rfl

@[simp] theorem State.flds_setShc (s : State) (x : Nat) (v : ShCtx) : (s.setShc x v).flds = s.flds := rfl
@[simp] theorem State.rwl_setShc (s : State) (x : Nat) (v : ShCtx) : (s.setShc x v).rwl = s.rwl := rfl
@[simp] theorem State.aon_setShc (s : State) (x : Nat) (v : ShCtx) : (s.setShc x v).aon = s.aon := rfl
@[simp] theorem State.fuses_setShc (s : State) (x : Nat) (v : ShCtx) : (s.setShc x v).fuses = s.fuses := rfl
@[simp] theorem State.units_setShc (s : State) (x : Nat) (v : ShCtx) : (s.setShc x v).units = s.units := rfl
@[simp] theorem State.umReady_setShc (s : State) (x : Nat) (v : ShCtx) : (s.setShc x v).umReady = s.umReady := rfl
@[simp] theorem State.umGen_setShc (s : State) (x : Nat) (v : ShCtx) : (s.setShc x v).umGen = s.umGen := rfl
@[simp] theorem State.doms_setShc (s : State) (x : Nat) (v : ShCtx) : (s.setShc x v).doms = s.doms := rfl
@[simp] theorem State.hl_setShc (s : State) (x : Nat) (v : ShCtx) : (s.setShc x v).hl = s.hl := rfl
@[simp] theorem State.mem_setShc (s : State) (x : Nat) (v : ShCtx) : (s.setShc x v).mem = s.mem := rfl
@[simp] theorem State.mesh_setShc (s : State) (x : Nat) (v : ShCtx) : (s.setShc x v).mesh = s.mesh := rfl
@[simp] theorem State.sec_setShc (s : State) (x : Nat) (v : ShCtx) : (s.setShc x v).sec = s.sec := rfl
@[simp] theorem State.boot_setShc (s : State) (x : Nat) (v : ShCtx) : (s.setShc x v).boot = s.boot := rfl
@[simp] theorem State.engs_setShc (s : State) (x : Nat) (v : ShCtx) : (s.setShc x v).engs = s.engs := rfl
@[simp] theorem State.waits_setShc (s : State) (x : Nat) (v : ShCtx) : (s.setShc x v).waits = s.waits := rfl
@[simp] theorem State.coh_setShc (s : State) (x : Nat) (v : ShCtx) : (s.setShc x v).coh = s.coh := rfl
@[simp] theorem State.links_setShc (s : State) (x : Nat) (v : ShCtx) : (s.setShc x v).links = s.links := rfl
@[simp] theorem State.eth_setShc (s : State) (x : Nat) (v : ShCtx) : (s.setShc x v).eth = s.eth := rfl
@[simp] theorem State.pwr_setShc (s : State) (x : Nat) (v : ShCtx) : (s.setShc x v).pwr = s.pwr := rfl
@[simp] theorem State.tel_setShc (s : State) (x : Nat) (v : ShCtx) : (s.setShc x v).tel = s.tel := rfl
@[simp] theorem State.jtag_setShc (s : State) (x : Nat) (v : ShCtx) : (s.setShc x v).jtag = s.jtag := rfl
@[simp] theorem State.mgmtIndex_setShc (s : State) (x : Nat) (v : ShCtx) : (s.setShc x v).mgmtIndex = s.mgmtIndex := rfl
@[simp] theorem State.fallowUnit_setShc (s : State) (x : Nat) (v : ShCtx) : (s.setShc x v).fallowUnit = s.fallowUnit := rfl
@[simp] theorem State.out_setShc (s : State) (x : Nat) (v : ShCtx) : (s.setShc x v).out = s.out := rfl
@[simp] theorem State.now_setShc (s : State) (x : Nat) (v : ShCtx) : (s.setShc x v).now = s.now := rfl
@[simp] theorem State.freeCtr_setShc (s : State) (x : Nat) (v : ShCtx) : (s.setShc x v).freeCtr = s.freeCtr := rfl
@[simp] theorem State.pending_setShc (s : State) (x : Nat) (v : ShCtx) : (s.setShc x v).pending = s.pending := rfl
@[simp] theorem State.f_setShc (s : State) (x : Nat) (v : ShCtx) (g : Fid) (i2 j2 : Nat) :
    (s.setShc x v).f g i2 j2 = s.f g i2 j2 := rfl

@[simp] theorem State.flds_setZone (s : State) (z : Nat) (v : Zone) : (s.setZone z v).flds = s.flds := rfl
@[simp] theorem State.rwl_setZone (s : State) (z : Nat) (v : Zone) : (s.setZone z v).rwl = s.rwl := rfl
@[simp] theorem State.aon_setZone (s : State) (z : Nat) (v : Zone) : (s.setZone z v).aon = s.aon := rfl
@[simp] theorem State.fuses_setZone (s : State) (z : Nat) (v : Zone) : (s.setZone z v).fuses = s.fuses := rfl
@[simp] theorem State.units_setZone (s : State) (z : Nat) (v : Zone) : (s.setZone z v).units = s.units := rfl
@[simp] theorem State.umReady_setZone (s : State) (z : Nat) (v : Zone) : (s.setZone z v).umReady = s.umReady := rfl
@[simp] theorem State.umGen_setZone (s : State) (z : Nat) (v : Zone) : (s.setZone z v).umGen = s.umGen := rfl
@[simp] theorem State.doms_setZone (s : State) (z : Nat) (v : Zone) : (s.setZone z v).doms = s.doms := rfl
@[simp] theorem State.hl_setZone (s : State) (z : Nat) (v : Zone) : (s.setZone z v).hl = s.hl := rfl
@[simp] theorem State.mem_setZone (s : State) (z : Nat) (v : Zone) : (s.setZone z v).mem = s.mem := rfl
@[simp] theorem State.mesh_setZone (s : State) (z : Nat) (v : Zone) : (s.setZone z v).mesh = s.mesh := rfl
@[simp] theorem State.sec_setZone (s : State) (z : Nat) (v : Zone) : (s.setZone z v).sec = s.sec := rfl
@[simp] theorem State.boot_setZone (s : State) (z : Nat) (v : Zone) : (s.setZone z v).boot = s.boot := rfl
@[simp] theorem State.engs_setZone (s : State) (z : Nat) (v : Zone) : (s.setZone z v).engs = s.engs := rfl
@[simp] theorem State.waits_setZone (s : State) (z : Nat) (v : Zone) : (s.setZone z v).waits = s.waits := rfl
@[simp] theorem State.coh_setZone (s : State) (z : Nat) (v : Zone) : (s.setZone z v).coh = s.coh := rfl
@[simp] theorem State.links_setZone (s : State) (z : Nat) (v : Zone) : (s.setZone z v).links = s.links := rfl
@[simp] theorem State.eth_setZone (s : State) (z : Nat) (v : Zone) : (s.setZone z v).eth = s.eth := rfl
@[simp] theorem State.sheaf_setZone (s : State) (z : Nat) (v : Zone) : (s.setZone z v).sheaf = s.sheaf := rfl
@[simp] theorem State.tel_setZone (s : State) (z : Nat) (v : Zone) : (s.setZone z v).tel = s.tel := rfl
@[simp] theorem State.jtag_setZone (s : State) (z : Nat) (v : Zone) : (s.setZone z v).jtag = s.jtag := rfl
@[simp] theorem State.mgmtIndex_setZone (s : State) (z : Nat) (v : Zone) : (s.setZone z v).mgmtIndex = s.mgmtIndex := rfl
@[simp] theorem State.fallowUnit_setZone (s : State) (z : Nat) (v : Zone) : (s.setZone z v).fallowUnit = s.fallowUnit := rfl
@[simp] theorem State.out_setZone (s : State) (z : Nat) (v : Zone) : (s.setZone z v).out = s.out := rfl
@[simp] theorem State.now_setZone (s : State) (z : Nat) (v : Zone) : (s.setZone z v).now = s.now := rfl
@[simp] theorem State.freeCtr_setZone (s : State) (z : Nat) (v : Zone) : (s.setZone z v).freeCtr = s.freeCtr := rfl
@[simp] theorem State.pending_setZone (s : State) (z : Nat) (v : Zone) : (s.setZone z v).pending = s.pending := rfl
@[simp] theorem State.f_setZone (s : State) (z : Nat) (v : Zone) (g : Fid) (i2 j2 : Nat) :
    (s.setZone z v).f g i2 j2 = s.f g i2 j2 := rfl

@[simp] theorem State.flds_setTel (s : State) (v : Tel) : (s.setTel v).flds = s.flds := rfl
@[simp] theorem State.rwl_setTel (s : State) (v : Tel) : (s.setTel v).rwl = s.rwl := rfl
@[simp] theorem State.aon_setTel (s : State) (v : Tel) : (s.setTel v).aon = s.aon := rfl
@[simp] theorem State.fuses_setTel (s : State) (v : Tel) : (s.setTel v).fuses = s.fuses := rfl
@[simp] theorem State.units_setTel (s : State) (v : Tel) : (s.setTel v).units = s.units := rfl
@[simp] theorem State.umReady_setTel (s : State) (v : Tel) : (s.setTel v).umReady = s.umReady := rfl
@[simp] theorem State.umGen_setTel (s : State) (v : Tel) : (s.setTel v).umGen = s.umGen := rfl
@[simp] theorem State.doms_setTel (s : State) (v : Tel) : (s.setTel v).doms = s.doms := rfl
@[simp] theorem State.hl_setTel (s : State) (v : Tel) : (s.setTel v).hl = s.hl := rfl
@[simp] theorem State.mem_setTel (s : State) (v : Tel) : (s.setTel v).mem = s.mem := rfl
@[simp] theorem State.mesh_setTel (s : State) (v : Tel) : (s.setTel v).mesh = s.mesh := rfl
@[simp] theorem State.sec_setTel (s : State) (v : Tel) : (s.setTel v).sec = s.sec := rfl
@[simp] theorem State.boot_setTel (s : State) (v : Tel) : (s.setTel v).boot = s.boot := rfl
@[simp] theorem State.engs_setTel (s : State) (v : Tel) : (s.setTel v).engs = s.engs := rfl
@[simp] theorem State.waits_setTel (s : State) (v : Tel) : (s.setTel v).waits = s.waits := rfl
@[simp] theorem State.coh_setTel (s : State) (v : Tel) : (s.setTel v).coh = s.coh := rfl
@[simp] theorem State.links_setTel (s : State) (v : Tel) : (s.setTel v).links = s.links := rfl
@[simp] theorem State.eth_setTel (s : State) (v : Tel) : (s.setTel v).eth = s.eth := rfl
@[simp] theorem State.sheaf_setTel (s : State) (v : Tel) : (s.setTel v).sheaf = s.sheaf := rfl
@[simp] theorem State.pwr_setTel (s : State) (v : Tel) : (s.setTel v).pwr = s.pwr := rfl
@[simp] theorem State.jtag_setTel (s : State) (v : Tel) : (s.setTel v).jtag = s.jtag := rfl
@[simp] theorem State.mgmtIndex_setTel (s : State) (v : Tel) : (s.setTel v).mgmtIndex = s.mgmtIndex := rfl
@[simp] theorem State.fallowUnit_setTel (s : State) (v : Tel) : (s.setTel v).fallowUnit = s.fallowUnit := rfl
@[simp] theorem State.out_setTel (s : State) (v : Tel) : (s.setTel v).out = s.out := rfl
@[simp] theorem State.now_setTel (s : State) (v : Tel) : (s.setTel v).now = s.now := rfl
@[simp] theorem State.freeCtr_setTel (s : State) (v : Tel) : (s.setTel v).freeCtr = s.freeCtr := rfl
@[simp] theorem State.pending_setTel (s : State) (v : Tel) : (s.setTel v).pending = s.pending := rfl
@[simp] theorem State.f_setTel (s : State) (v : Tel) (g : Fid) (i2 j2 : Nat) :
    (s.setTel v).f g i2 j2 = s.f g i2 j2 := rfl

end Sys2Proof.Machine
end

