-- ==== Sys2Proof/Laws/Events.lean ====
section
/-! SUPPORT. What raising an event, its rate limit, the wear record and a change of the unit map leave as it was, and what
they do. -/

namespace Sys2Proof.Machine

/-- A fold of updates that each leave a component leaves it. -/
theorem foldl_leaves {α β : Type} (p : State → β) (g : State → α → State) (l : List α) (h : ∀ s a, p (g s a) = p s) :
    ∀ s, p (l.foldl g s) = p s := by
  induction l with
  | nil => exact fun _ => rfl
  | cons a t ih => exact fun s => (ih (g s a)).trans (h s a)

/-- A fold of updates that each keep a property keeps it. -/
theorem foldl_keeps {α : Type} (P : State → Prop) (g : State → α → State) (l : List α) (h : ∀ s a, P s → P (g s a)) :
    ∀ s, P s → P (l.foldl g s) := by
  induction l with
  | nil => exact fun _ h1 => h1
  | cons a t ih => exact fun s h1 => ih (g s a) (h s a h1)

@[simp] theorem State.rwl_deliver (s : State) (e : Event) (n : Nat) : (State.deliver e s n).rwl = s.rwl := by
  unfold State.deliver
  dsimp only
  repeat (first | rfl | split)
@[simp] theorem State.aon_deliver (s : State) (e : Event) (n : Nat) : (State.deliver e s n).aon = s.aon := by
  unfold State.deliver
  dsimp only
  repeat (first | rfl | split)
@[simp] theorem State.fuses_deliver (s : State) (e : Event) (n : Nat) : (State.deliver e s n).fuses = s.fuses := by
  unfold State.deliver
  dsimp only
  repeat (first | rfl | split)
@[simp] theorem State.units_deliver (s : State) (e : Event) (n : Nat) : (State.deliver e s n).units = s.units := by
  unfold State.deliver
  dsimp only
  repeat (first | rfl | split)
@[simp] theorem State.umReady_deliver (s : State) (e : Event) (n : Nat) : (State.deliver e s n).umReady = s.umReady := by
  unfold State.deliver
  dsimp only
  repeat (first | rfl | split)
@[simp] theorem State.umGen_deliver (s : State) (e : Event) (n : Nat) : (State.deliver e s n).umGen = s.umGen := by
  unfold State.deliver
  dsimp only
  repeat (first | rfl | split)
@[simp] theorem State.doms_deliver (s : State) (e : Event) (n : Nat) : (State.deliver e s n).doms = s.doms := by
  unfold State.deliver
  dsimp only
  repeat (first | rfl | split)
@[simp] theorem State.mem_deliver (s : State) (e : Event) (n : Nat) : (State.deliver e s n).mem = s.mem := by
  unfold State.deliver
  dsimp only
  repeat (first | rfl | split)
@[simp] theorem State.mesh_deliver (s : State) (e : Event) (n : Nat) : (State.deliver e s n).mesh = s.mesh := by
  unfold State.deliver
  dsimp only
  repeat (first | rfl | split)
@[simp] theorem State.sec_deliver (s : State) (e : Event) (n : Nat) : (State.deliver e s n).sec = s.sec := by
  unfold State.deliver
  dsimp only
  repeat (first | rfl | split)
@[simp] theorem State.boot_deliver (s : State) (e : Event) (n : Nat) : (State.deliver e s n).boot = s.boot := by
  unfold State.deliver
  dsimp only
  repeat (first | rfl | split)
@[simp] theorem State.engs_deliver (s : State) (e : Event) (n : Nat) : (State.deliver e s n).engs = s.engs := by
  unfold State.deliver
  dsimp only
  repeat (first | rfl | split)
@[simp] theorem State.waits_deliver (s : State) (e : Event) (n : Nat) : (State.deliver e s n).waits = s.waits := by
  unfold State.deliver
  dsimp only
  repeat (first | rfl | split)
@[simp] theorem State.coh_deliver (s : State) (e : Event) (n : Nat) : (State.deliver e s n).coh = s.coh := by
  unfold State.deliver
  dsimp only
  repeat (first | rfl | split)
@[simp] theorem State.links_deliver (s : State) (e : Event) (n : Nat) : (State.deliver e s n).links = s.links := by
  unfold State.deliver
  dsimp only
  repeat (first | rfl | split)
@[simp] theorem State.eth_deliver (s : State) (e : Event) (n : Nat) : (State.deliver e s n).eth = s.eth := by
  unfold State.deliver
  dsimp only
  repeat (first | rfl | split)
@[simp] theorem State.sheaf_deliver (s : State) (e : Event) (n : Nat) : (State.deliver e s n).sheaf = s.sheaf := by
  unfold State.deliver
  dsimp only
  repeat (first | rfl | split)
@[simp] theorem State.pwr_deliver (s : State) (e : Event) (n : Nat) : (State.deliver e s n).pwr = s.pwr := by
  unfold State.deliver
  dsimp only
  repeat (first | rfl | split)
@[simp] theorem State.tel_deliver (s : State) (e : Event) (n : Nat) : (State.deliver e s n).tel = s.tel := by
  unfold State.deliver
  dsimp only
  repeat (first | rfl | split)
@[simp] theorem State.jtag_deliver (s : State) (e : Event) (n : Nat) : (State.deliver e s n).jtag = s.jtag := by
  unfold State.deliver
  dsimp only
  repeat (first | rfl | split)
@[simp] theorem State.mgmtIndex_deliver (s : State) (e : Event) (n : Nat) : (State.deliver e s n).mgmtIndex = s.mgmtIndex := by
  unfold State.deliver
  dsimp only
  repeat (first | rfl | split)
@[simp] theorem State.fallowUnit_deliver (s : State) (e : Event) (n : Nat) : (State.deliver e s n).fallowUnit = s.fallowUnit := by
  unfold State.deliver
  dsimp only
  repeat (first | rfl | split)
@[simp] theorem State.out_deliver (s : State) (e : Event) (n : Nat) : (State.deliver e s n).out = s.out := by
  unfold State.deliver
  dsimp only
  repeat (first | rfl | split)
@[simp] theorem State.now_deliver (s : State) (e : Event) (n : Nat) : (State.deliver e s n).now = s.now := by
  unfold State.deliver
  dsimp only
  repeat (first | rfl | split)
@[simp] theorem State.freeCtr_deliver (s : State) (e : Event) (n : Nat) : (State.deliver e s n).freeCtr = s.freeCtr := by
  unfold State.deliver
  dsimp only
  repeat (first | rfl | split)
@[simp] theorem State.pending_deliver (s : State) (e : Event) (n : Nat) : (State.deliver e s n).pending = s.pending := by
  unfold State.deliver
  dsimp only
  repeat (first | rfl | split)

@[simp] theorem State.rwl_fatal (s : State) (code d cyc : Nat) : (s.fatal code d cyc).rwl = s.rwl := by
  unfold State.fatal
  dsimp only
  repeat (first | rfl | split)
@[simp] theorem State.fuses_fatal (s : State) (code d cyc : Nat) : (s.fatal code d cyc).fuses = s.fuses := by
  unfold State.fatal
  dsimp only
  repeat (first | rfl | split)
@[simp] theorem State.units_fatal (s : State) (code d cyc : Nat) : (s.fatal code d cyc).units = s.units := by
  unfold State.fatal
  dsimp only
  repeat (first | rfl | split)
@[simp] theorem State.umReady_fatal (s : State) (code d cyc : Nat) : (s.fatal code d cyc).umReady = s.umReady := by
  unfold State.fatal
  dsimp only
  repeat (first | rfl | split)
@[simp] theorem State.umGen_fatal (s : State) (code d cyc : Nat) : (s.fatal code d cyc).umGen = s.umGen := by
  unfold State.fatal
  dsimp only
  repeat (first | rfl | split)
@[simp] theorem State.doms_fatal (s : State) (code d cyc : Nat) : (s.fatal code d cyc).doms = s.doms := by
  unfold State.fatal
  dsimp only
  repeat (first | rfl | split)
@[simp] theorem State.hl_fatal (s : State) (code d cyc : Nat) : (s.fatal code d cyc).hl = s.hl := by
  unfold State.fatal
  dsimp only
  repeat (first | rfl | split)
@[simp] theorem State.mem_fatal (s : State) (code d cyc : Nat) : (s.fatal code d cyc).mem = s.mem := by
  unfold State.fatal
  dsimp only
  repeat (first | rfl | split)
@[simp] theorem State.mesh_fatal (s : State) (code d cyc : Nat) : (s.fatal code d cyc).mesh = s.mesh := by
  unfold State.fatal
  dsimp only
  repeat (first | rfl | split)
@[simp] theorem State.sec_fatal (s : State) (code d cyc : Nat) : (s.fatal code d cyc).sec = s.sec := by
  unfold State.fatal
  dsimp only
  repeat (first | rfl | split)
@[simp] theorem State.boot_fatal (s : State) (code d cyc : Nat) : (s.fatal code d cyc).boot = s.boot := by
  unfold State.fatal
  dsimp only
  repeat (first | rfl | split)
@[simp] theorem State.engs_fatal (s : State) (code d cyc : Nat) : (s.fatal code d cyc).engs = s.engs := by
  unfold State.fatal
  dsimp only
  repeat (first | rfl | split)
@[simp] theorem State.waits_fatal (s : State) (code d cyc : Nat) : (s.fatal code d cyc).waits = s.waits := by
  unfold State.fatal
  dsimp only
  repeat (first | rfl | split)
@[simp] theorem State.coh_fatal (s : State) (code d cyc : Nat) : (s.fatal code d cyc).coh = s.coh := by
  unfold State.fatal
  dsimp only
  repeat (first | rfl | split)
@[simp] theorem State.links_fatal (s : State) (code d cyc : Nat) : (s.fatal code d cyc).links = s.links := by
  unfold State.fatal
  dsimp only
  repeat (first | rfl | split)
@[simp] theorem State.eth_fatal (s : State) (code d cyc : Nat) : (s.fatal code d cyc).eth = s.eth := by
  unfold State.fatal
  dsimp only
  repeat (first | rfl | split)
@[simp] theorem State.sheaf_fatal (s : State) (code d cyc : Nat) : (s.fatal code d cyc).sheaf = s.sheaf := by
  unfold State.fatal
  dsimp only
  repeat (first | rfl | split)
@[simp] theorem State.pwr_fatal (s : State) (code d cyc : Nat) : (s.fatal code d cyc).pwr = s.pwr := by
  unfold State.fatal
  dsimp only
  repeat (first | rfl | split)
@[simp] theorem State.tel_fatal (s : State) (code d cyc : Nat) : (s.fatal code d cyc).tel = s.tel := by
  unfold State.fatal
  dsimp only
  repeat (first | rfl | split)
@[simp] theorem State.jtag_fatal (s : State) (code d cyc : Nat) : (s.fatal code d cyc).jtag = s.jtag := by
  unfold State.fatal
  dsimp only
  repeat (first | rfl | split)
@[simp] theorem State.mgmtIndex_fatal (s : State) (code d cyc : Nat) : (s.fatal code d cyc).mgmtIndex = s.mgmtIndex := by
  unfold State.fatal
  dsimp only
  repeat (first | rfl | split)
@[simp] theorem State.fallowUnit_fatal (s : State) (code d cyc : Nat) : (s.fatal code d cyc).fallowUnit = s.fallowUnit := by
  unfold State.fatal
  dsimp only
  repeat (first | rfl | split)
@[simp] theorem State.out_fatal (s : State) (code d cyc : Nat) : (s.fatal code d cyc).out = s.out := by
  unfold State.fatal
  dsimp only
  repeat (first | rfl | split)
@[simp] theorem State.now_fatal (s : State) (code d cyc : Nat) : (s.fatal code d cyc).now = s.now := by
  unfold State.fatal
  dsimp only
  repeat (first | rfl | split)
@[simp] theorem State.freeCtr_fatal (s : State) (code d cyc : Nat) : (s.fatal code d cyc).freeCtr = s.freeCtr := by
  unfold State.fatal
  dsimp only
  repeat (first | rfl | split)
@[simp] theorem State.pending_fatal (s : State) (code d cyc : Nat) : (s.fatal code d cyc).pending = s.pending := by
  unfold State.fatal
  dsimp only
  repeat (first | rfl | split)

@[simp] theorem State.rwl_raise (s : State) (code sev ucls unit : Nat) (detail : List Nat) (sc : Scope) (plot : Option Nat) : (s.raise code sev ucls unit detail sc plot).rwl = s.rwl := by
  have h := fun (e : Event) => foldl_leaves State.rwl (State.deliver e) (List.range 16) (fun s n => s.rwl_deliver e n)
  unfold State.raise
  dsimp only
  split <;> simp [h]
@[simp] theorem State.fuses_raise (s : State) (code sev ucls unit : Nat) (detail : List Nat) (sc : Scope) (plot : Option Nat) : (s.raise code sev ucls unit detail sc plot).fuses = s.fuses := by
  have h := fun (e : Event) => foldl_leaves State.fuses (State.deliver e) (List.range 16) (fun s n => s.fuses_deliver e n)
  unfold State.raise
  dsimp only
  split <;> simp [h]
@[simp] theorem State.units_raise (s : State) (code sev ucls unit : Nat) (detail : List Nat) (sc : Scope) (plot : Option Nat) : (s.raise code sev ucls unit detail sc plot).units = s.units := by
  have h := fun (e : Event) => foldl_leaves State.units (State.deliver e) (List.range 16) (fun s n => s.units_deliver e n)
  unfold State.raise
  dsimp only
  split <;> simp [h]
@[simp] theorem State.umReady_raise (s : State) (code sev ucls unit : Nat) (detail : List Nat) (sc : Scope) (plot : Option Nat) : (s.raise code sev ucls unit detail sc plot).umReady = s.umReady := by
  have h := fun (e : Event) => foldl_leaves State.umReady (State.deliver e) (List.range 16) (fun s n => s.umReady_deliver e n)
  unfold State.raise
  dsimp only
  split <;> simp [h]
@[simp] theorem State.umGen_raise (s : State) (code sev ucls unit : Nat) (detail : List Nat) (sc : Scope) (plot : Option Nat) : (s.raise code sev ucls unit detail sc plot).umGen = s.umGen := by
  have h := fun (e : Event) => foldl_leaves State.umGen (State.deliver e) (List.range 16) (fun s n => s.umGen_deliver e n)
  unfold State.raise
  dsimp only
  split <;> simp [h]
@[simp] theorem State.doms_raise (s : State) (code sev ucls unit : Nat) (detail : List Nat) (sc : Scope) (plot : Option Nat) : (s.raise code sev ucls unit detail sc plot).doms = s.doms := by
  have h := fun (e : Event) => foldl_leaves State.doms (State.deliver e) (List.range 16) (fun s n => s.doms_deliver e n)
  unfold State.raise
  dsimp only
  split <;> simp [h]
@[simp] theorem State.mem_raise (s : State) (code sev ucls unit : Nat) (detail : List Nat) (sc : Scope) (plot : Option Nat) : (s.raise code sev ucls unit detail sc plot).mem = s.mem := by
  have h := fun (e : Event) => foldl_leaves State.mem (State.deliver e) (List.range 16) (fun s n => s.mem_deliver e n)
  unfold State.raise
  dsimp only
  split <;> simp [h]
@[simp] theorem State.mesh_raise (s : State) (code sev ucls unit : Nat) (detail : List Nat) (sc : Scope) (plot : Option Nat) : (s.raise code sev ucls unit detail sc plot).mesh = s.mesh := by
  have h := fun (e : Event) => foldl_leaves State.mesh (State.deliver e) (List.range 16) (fun s n => s.mesh_deliver e n)
  unfold State.raise
  dsimp only
  split <;> simp [h]
@[simp] theorem State.sec_raise (s : State) (code sev ucls unit : Nat) (detail : List Nat) (sc : Scope) (plot : Option Nat) : (s.raise code sev ucls unit detail sc plot).sec = s.sec := by
  have h := fun (e : Event) => foldl_leaves State.sec (State.deliver e) (List.range 16) (fun s n => s.sec_deliver e n)
  unfold State.raise
  dsimp only
  split <;> simp [h]
@[simp] theorem State.boot_raise (s : State) (code sev ucls unit : Nat) (detail : List Nat) (sc : Scope) (plot : Option Nat) : (s.raise code sev ucls unit detail sc plot).boot = s.boot := by
  have h := fun (e : Event) => foldl_leaves State.boot (State.deliver e) (List.range 16) (fun s n => s.boot_deliver e n)
  unfold State.raise
  dsimp only
  split <;> simp [h]
@[simp] theorem State.engs_raise (s : State) (code sev ucls unit : Nat) (detail : List Nat) (sc : Scope) (plot : Option Nat) : (s.raise code sev ucls unit detail sc plot).engs = s.engs := by
  have h := fun (e : Event) => foldl_leaves State.engs (State.deliver e) (List.range 16) (fun s n => s.engs_deliver e n)
  unfold State.raise
  dsimp only
  split <;> simp [h]
@[simp] theorem State.waits_raise (s : State) (code sev ucls unit : Nat) (detail : List Nat) (sc : Scope) (plot : Option Nat) : (s.raise code sev ucls unit detail sc plot).waits = s.waits := by
  have h := fun (e : Event) => foldl_leaves State.waits (State.deliver e) (List.range 16) (fun s n => s.waits_deliver e n)
  unfold State.raise
  dsimp only
  split <;> simp [h]
@[simp] theorem State.coh_raise (s : State) (code sev ucls unit : Nat) (detail : List Nat) (sc : Scope) (plot : Option Nat) : (s.raise code sev ucls unit detail sc plot).coh = s.coh := by
  have h := fun (e : Event) => foldl_leaves State.coh (State.deliver e) (List.range 16) (fun s n => s.coh_deliver e n)
  unfold State.raise
  dsimp only
  split <;> simp [h]
@[simp] theorem State.links_raise (s : State) (code sev ucls unit : Nat) (detail : List Nat) (sc : Scope) (plot : Option Nat) : (s.raise code sev ucls unit detail sc plot).links = s.links := by
  have h := fun (e : Event) => foldl_leaves State.links (State.deliver e) (List.range 16) (fun s n => s.links_deliver e n)
  unfold State.raise
  dsimp only
  split <;> simp [h]
@[simp] theorem State.eth_raise (s : State) (code sev ucls unit : Nat) (detail : List Nat) (sc : Scope) (plot : Option Nat) : (s.raise code sev ucls unit detail sc plot).eth = s.eth := by
  have h := fun (e : Event) => foldl_leaves State.eth (State.deliver e) (List.range 16) (fun s n => s.eth_deliver e n)
  unfold State.raise
  dsimp only
  split <;> simp [h]
@[simp] theorem State.sheaf_raise (s : State) (code sev ucls unit : Nat) (detail : List Nat) (sc : Scope) (plot : Option Nat) : (s.raise code sev ucls unit detail sc plot).sheaf = s.sheaf := by
  have h := fun (e : Event) => foldl_leaves State.sheaf (State.deliver e) (List.range 16) (fun s n => s.sheaf_deliver e n)
  unfold State.raise
  dsimp only
  split <;> simp [h]
@[simp] theorem State.pwr_raise (s : State) (code sev ucls unit : Nat) (detail : List Nat) (sc : Scope) (plot : Option Nat) : (s.raise code sev ucls unit detail sc plot).pwr = s.pwr := by
  have h := fun (e : Event) => foldl_leaves State.pwr (State.deliver e) (List.range 16) (fun s n => s.pwr_deliver e n)
  unfold State.raise
  dsimp only
  split <;> simp [h]
@[simp] theorem State.tel_raise (s : State) (code sev ucls unit : Nat) (detail : List Nat) (sc : Scope) (plot : Option Nat) : (s.raise code sev ucls unit detail sc plot).tel = s.tel := by
  have h := fun (e : Event) => foldl_leaves State.tel (State.deliver e) (List.range 16) (fun s n => s.tel_deliver e n)
  unfold State.raise
  dsimp only
  split <;> simp [h]
@[simp] theorem State.jtag_raise (s : State) (code sev ucls unit : Nat) (detail : List Nat) (sc : Scope) (plot : Option Nat) : (s.raise code sev ucls unit detail sc plot).jtag = s.jtag := by
  have h := fun (e : Event) => foldl_leaves State.jtag (State.deliver e) (List.range 16) (fun s n => s.jtag_deliver e n)
  unfold State.raise
  dsimp only
  split <;> simp [h]
@[simp] theorem State.mgmtIndex_raise (s : State) (code sev ucls unit : Nat) (detail : List Nat) (sc : Scope) (plot : Option Nat) : (s.raise code sev ucls unit detail sc plot).mgmtIndex = s.mgmtIndex := by
  have h := fun (e : Event) => foldl_leaves State.mgmtIndex (State.deliver e) (List.range 16) (fun s n => s.mgmtIndex_deliver e n)
  unfold State.raise
  dsimp only
  split <;> simp [h]
@[simp] theorem State.fallowUnit_raise (s : State) (code sev ucls unit : Nat) (detail : List Nat) (sc : Scope) (plot : Option Nat) : (s.raise code sev ucls unit detail sc plot).fallowUnit = s.fallowUnit := by
  have h := fun (e : Event) => foldl_leaves State.fallowUnit (State.deliver e) (List.range 16) (fun s n => s.fallowUnit_deliver e n)
  unfold State.raise
  dsimp only
  split <;> simp [h]
@[simp] theorem State.out_raise (s : State) (code sev ucls unit : Nat) (detail : List Nat) (sc : Scope) (plot : Option Nat) : (s.raise code sev ucls unit detail sc plot).out = s.out := by
  have h := fun (e : Event) => foldl_leaves State.out (State.deliver e) (List.range 16) (fun s n => s.out_deliver e n)
  unfold State.raise
  dsimp only
  split <;> simp [h]
@[simp] theorem State.now_raise (s : State) (code sev ucls unit : Nat) (detail : List Nat) (sc : Scope) (plot : Option Nat) : (s.raise code sev ucls unit detail sc plot).now = s.now := by
  have h := fun (e : Event) => foldl_leaves State.now (State.deliver e) (List.range 16) (fun s n => s.now_deliver e n)
  unfold State.raise
  dsimp only
  split <;> simp [h]
@[simp] theorem State.freeCtr_raise (s : State) (code sev ucls unit : Nat) (detail : List Nat) (sc : Scope) (plot : Option Nat) : (s.raise code sev ucls unit detail sc plot).freeCtr = s.freeCtr := by
  have h := fun (e : Event) => foldl_leaves State.freeCtr (State.deliver e) (List.range 16) (fun s n => s.freeCtr_deliver e n)
  unfold State.raise
  dsimp only
  split <;> simp [h]
@[simp] theorem State.pending_raise (s : State) (code sev ucls unit : Nat) (detail : List Nat) (sc : Scope) (plot : Option Nat) : (s.raise code sev ucls unit detail sc plot).pending = s.pending := by
  have h := fun (e : Event) => foldl_leaves State.pending (State.deliver e) (List.range 16) (fun s n => s.pending_deliver e n)
  unfold State.raise
  dsimp only
  split <;> simp [h]

@[simp] theorem State.flds_limit (s : State) (a b us : Nat) : ((s.limit a b us).2).flds = s.flds := by
  unfold State.limit
  dsimp only
  repeat (first | rfl | split)
@[simp] theorem State.rwl_limit (s : State) (a b us : Nat) : ((s.limit a b us).2).rwl = s.rwl := by
  unfold State.limit
  dsimp only
  repeat (first | rfl | split)
@[simp] theorem State.aon_limit (s : State) (a b us : Nat) : ((s.limit a b us).2).aon = s.aon := by
  unfold State.limit
  dsimp only
  repeat (first | rfl | split)
@[simp] theorem State.fuses_limit (s : State) (a b us : Nat) : ((s.limit a b us).2).fuses = s.fuses := by
  unfold State.limit
  dsimp only
  repeat (first | rfl | split)
@[simp] theorem State.units_limit (s : State) (a b us : Nat) : ((s.limit a b us).2).units = s.units := by
  unfold State.limit
  dsimp only
  repeat (first | rfl | split)
@[simp] theorem State.umReady_limit (s : State) (a b us : Nat) : ((s.limit a b us).2).umReady = s.umReady := by
  unfold State.limit
  dsimp only
  repeat (first | rfl | split)
@[simp] theorem State.umGen_limit (s : State) (a b us : Nat) : ((s.limit a b us).2).umGen = s.umGen := by
  unfold State.limit
  dsimp only
  repeat (first | rfl | split)
@[simp] theorem State.doms_limit (s : State) (a b us : Nat) : ((s.limit a b us).2).doms = s.doms := by
  unfold State.limit
  dsimp only
  repeat (first | rfl | split)
@[simp] theorem State.hl_limit (s : State) (a b us : Nat) : ((s.limit a b us).2).hl = s.hl := by
  unfold State.limit
  dsimp only
  repeat (first | rfl | split)
@[simp] theorem State.mem_limit (s : State) (a b us : Nat) : ((s.limit a b us).2).mem = s.mem := by
  unfold State.limit
  dsimp only
  repeat (first | rfl | split)
@[simp] theorem State.sec_limit (s : State) (a b us : Nat) : ((s.limit a b us).2).sec = s.sec := by
  unfold State.limit
  dsimp only
  repeat (first | rfl | split)
@[simp] theorem State.boot_limit (s : State) (a b us : Nat) : ((s.limit a b us).2).boot = s.boot := by
  unfold State.limit
  dsimp only
  repeat (first | rfl | split)
@[simp] theorem State.engs_limit (s : State) (a b us : Nat) : ((s.limit a b us).2).engs = s.engs := by
  unfold State.limit
  dsimp only
  repeat (first | rfl | split)
@[simp] theorem State.waits_limit (s : State) (a b us : Nat) : ((s.limit a b us).2).waits = s.waits := by
  unfold State.limit
  dsimp only
  repeat (first | rfl | split)
@[simp] theorem State.coh_limit (s : State) (a b us : Nat) : ((s.limit a b us).2).coh = s.coh := by
  unfold State.limit
  dsimp only
  repeat (first | rfl | split)
@[simp] theorem State.links_limit (s : State) (a b us : Nat) : ((s.limit a b us).2).links = s.links := by
  unfold State.limit
  dsimp only
  repeat (first | rfl | split)
@[simp] theorem State.eth_limit (s : State) (a b us : Nat) : ((s.limit a b us).2).eth = s.eth := by
  unfold State.limit
  dsimp only
  repeat (first | rfl | split)
@[simp] theorem State.sheaf_limit (s : State) (a b us : Nat) : ((s.limit a b us).2).sheaf = s.sheaf := by
  unfold State.limit
  dsimp only
  repeat (first | rfl | split)
@[simp] theorem State.pwr_limit (s : State) (a b us : Nat) : ((s.limit a b us).2).pwr = s.pwr := by
  unfold State.limit
  dsimp only
  repeat (first | rfl | split)
@[simp] theorem State.tel_limit (s : State) (a b us : Nat) : ((s.limit a b us).2).tel = s.tel := by
  unfold State.limit
  dsimp only
  repeat (first | rfl | split)
@[simp] theorem State.jtag_limit (s : State) (a b us : Nat) : ((s.limit a b us).2).jtag = s.jtag := by
  unfold State.limit
  dsimp only
  repeat (first | rfl | split)
@[simp] theorem State.mgmtIndex_limit (s : State) (a b us : Nat) : ((s.limit a b us).2).mgmtIndex = s.mgmtIndex := by
  unfold State.limit
  dsimp only
  repeat (first | rfl | split)
@[simp] theorem State.fallowUnit_limit (s : State) (a b us : Nat) : ((s.limit a b us).2).fallowUnit = s.fallowUnit := by
  unfold State.limit
  dsimp only
  repeat (first | rfl | split)
@[simp] theorem State.out_limit (s : State) (a b us : Nat) : ((s.limit a b us).2).out = s.out := by
  unfold State.limit
  dsimp only
  repeat (first | rfl | split)
@[simp] theorem State.now_limit (s : State) (a b us : Nat) : ((s.limit a b us).2).now = s.now := by
  unfold State.limit
  dsimp only
  repeat (first | rfl | split)
@[simp] theorem State.freeCtr_limit (s : State) (a b us : Nat) : ((s.limit a b us).2).freeCtr = s.freeCtr := by
  unfold State.limit
  dsimp only
  repeat (first | rfl | split)
@[simp] theorem State.pending_limit (s : State) (a b us : Nat) : ((s.limit a b us).2).pending = s.pending := by
  unfold State.limit
  dsimp only
  repeat (first | rfl | split)

@[simp] theorem State.rwl_raiseLimited (s : State) (us code sev ucls unit : Nat) (detail : List Nat) (sc : Scope) (key : Nat) : (s.raiseLimited us code sev ucls unit detail sc key).rwl = s.rwl := by
  unfold State.raiseLimited
  have h := s.rwl_limit code (unit + 65536 * key) us
  split <;> simp_all
@[simp] theorem State.fuses_raiseLimited (s : State) (us code sev ucls unit : Nat) (detail : List Nat) (sc : Scope) (key : Nat) : (s.raiseLimited us code sev ucls unit detail sc key).fuses = s.fuses := by
  unfold State.raiseLimited
  have h := s.fuses_limit code (unit + 65536 * key) us
  split <;> simp_all
@[simp] theorem State.units_raiseLimited (s : State) (us code sev ucls unit : Nat) (detail : List Nat) (sc : Scope) (key : Nat) : (s.raiseLimited us code sev ucls unit detail sc key).units = s.units := by
  unfold State.raiseLimited
  have h := s.units_limit code (unit + 65536 * key) us
  split <;> simp_all
@[simp] theorem State.umReady_raiseLimited (s : State) (us code sev ucls unit : Nat) (detail : List Nat) (sc : Scope) (key : Nat) : (s.raiseLimited us code sev ucls unit detail sc key).umReady = s.umReady := by
  unfold State.raiseLimited
  have h := s.umReady_limit code (unit + 65536 * key) us
  split <;> simp_all
@[simp] theorem State.umGen_raiseLimited (s : State) (us code sev ucls unit : Nat) (detail : List Nat) (sc : Scope) (key : Nat) : (s.raiseLimited us code sev ucls unit detail sc key).umGen = s.umGen := by
  unfold State.raiseLimited
  have h := s.umGen_limit code (unit + 65536 * key) us
  split <;> simp_all
@[simp] theorem State.doms_raiseLimited (s : State) (us code sev ucls unit : Nat) (detail : List Nat) (sc : Scope) (key : Nat) : (s.raiseLimited us code sev ucls unit detail sc key).doms = s.doms := by
  unfold State.raiseLimited
  have h := s.doms_limit code (unit + 65536 * key) us
  split <;> simp_all
@[simp] theorem State.mem_raiseLimited (s : State) (us code sev ucls unit : Nat) (detail : List Nat) (sc : Scope) (key : Nat) : (s.raiseLimited us code sev ucls unit detail sc key).mem = s.mem := by
  unfold State.raiseLimited
  have h := s.mem_limit code (unit + 65536 * key) us
  split <;> simp_all
@[simp] theorem State.sec_raiseLimited (s : State) (us code sev ucls unit : Nat) (detail : List Nat) (sc : Scope) (key : Nat) : (s.raiseLimited us code sev ucls unit detail sc key).sec = s.sec := by
  unfold State.raiseLimited
  have h := s.sec_limit code (unit + 65536 * key) us
  split <;> simp_all
@[simp] theorem State.boot_raiseLimited (s : State) (us code sev ucls unit : Nat) (detail : List Nat) (sc : Scope) (key : Nat) : (s.raiseLimited us code sev ucls unit detail sc key).boot = s.boot := by
  unfold State.raiseLimited
  have h := s.boot_limit code (unit + 65536 * key) us
  split <;> simp_all
@[simp] theorem State.engs_raiseLimited (s : State) (us code sev ucls unit : Nat) (detail : List Nat) (sc : Scope) (key : Nat) : (s.raiseLimited us code sev ucls unit detail sc key).engs = s.engs := by
  unfold State.raiseLimited
  have h := s.engs_limit code (unit + 65536 * key) us
  split <;> simp_all
@[simp] theorem State.waits_raiseLimited (s : State) (us code sev ucls unit : Nat) (detail : List Nat) (sc : Scope) (key : Nat) : (s.raiseLimited us code sev ucls unit detail sc key).waits = s.waits := by
  unfold State.raiseLimited
  have h := s.waits_limit code (unit + 65536 * key) us
  split <;> simp_all
@[simp] theorem State.coh_raiseLimited (s : State) (us code sev ucls unit : Nat) (detail : List Nat) (sc : Scope) (key : Nat) : (s.raiseLimited us code sev ucls unit detail sc key).coh = s.coh := by
  unfold State.raiseLimited
  have h := s.coh_limit code (unit + 65536 * key) us
  split <;> simp_all
@[simp] theorem State.links_raiseLimited (s : State) (us code sev ucls unit : Nat) (detail : List Nat) (sc : Scope) (key : Nat) : (s.raiseLimited us code sev ucls unit detail sc key).links = s.links := by
  unfold State.raiseLimited
  have h := s.links_limit code (unit + 65536 * key) us
  split <;> simp_all
@[simp] theorem State.eth_raiseLimited (s : State) (us code sev ucls unit : Nat) (detail : List Nat) (sc : Scope) (key : Nat) : (s.raiseLimited us code sev ucls unit detail sc key).eth = s.eth := by
  unfold State.raiseLimited
  have h := s.eth_limit code (unit + 65536 * key) us
  split <;> simp_all
@[simp] theorem State.sheaf_raiseLimited (s : State) (us code sev ucls unit : Nat) (detail : List Nat) (sc : Scope) (key : Nat) : (s.raiseLimited us code sev ucls unit detail sc key).sheaf = s.sheaf := by
  unfold State.raiseLimited
  have h := s.sheaf_limit code (unit + 65536 * key) us
  split <;> simp_all
@[simp] theorem State.pwr_raiseLimited (s : State) (us code sev ucls unit : Nat) (detail : List Nat) (sc : Scope) (key : Nat) : (s.raiseLimited us code sev ucls unit detail sc key).pwr = s.pwr := by
  unfold State.raiseLimited
  have h := s.pwr_limit code (unit + 65536 * key) us
  split <;> simp_all
@[simp] theorem State.tel_raiseLimited (s : State) (us code sev ucls unit : Nat) (detail : List Nat) (sc : Scope) (key : Nat) : (s.raiseLimited us code sev ucls unit detail sc key).tel = s.tel := by
  unfold State.raiseLimited
  have h := s.tel_limit code (unit + 65536 * key) us
  split <;> simp_all
@[simp] theorem State.jtag_raiseLimited (s : State) (us code sev ucls unit : Nat) (detail : List Nat) (sc : Scope) (key : Nat) : (s.raiseLimited us code sev ucls unit detail sc key).jtag = s.jtag := by
  unfold State.raiseLimited
  have h := s.jtag_limit code (unit + 65536 * key) us
  split <;> simp_all
@[simp] theorem State.mgmtIndex_raiseLimited (s : State) (us code sev ucls unit : Nat) (detail : List Nat) (sc : Scope) (key : Nat) : (s.raiseLimited us code sev ucls unit detail sc key).mgmtIndex = s.mgmtIndex := by
  unfold State.raiseLimited
  have h := s.mgmtIndex_limit code (unit + 65536 * key) us
  split <;> simp_all
@[simp] theorem State.fallowUnit_raiseLimited (s : State) (us code sev ucls unit : Nat) (detail : List Nat) (sc : Scope) (key : Nat) : (s.raiseLimited us code sev ucls unit detail sc key).fallowUnit = s.fallowUnit := by
  unfold State.raiseLimited
  have h := s.fallowUnit_limit code (unit + 65536 * key) us
  split <;> simp_all
@[simp] theorem State.out_raiseLimited (s : State) (us code sev ucls unit : Nat) (detail : List Nat) (sc : Scope) (key : Nat) : (s.raiseLimited us code sev ucls unit detail sc key).out = s.out := by
  unfold State.raiseLimited
  have h := s.out_limit code (unit + 65536 * key) us
  split <;> simp_all
@[simp] theorem State.now_raiseLimited (s : State) (us code sev ucls unit : Nat) (detail : List Nat) (sc : Scope) (key : Nat) : (s.raiseLimited us code sev ucls unit detail sc key).now = s.now := by
  unfold State.raiseLimited
  have h := s.now_limit code (unit + 65536 * key) us
  split <;> simp_all
@[simp] theorem State.freeCtr_raiseLimited (s : State) (us code sev ucls unit : Nat) (detail : List Nat) (sc : Scope) (key : Nat) : (s.raiseLimited us code sev ucls unit detail sc key).freeCtr = s.freeCtr := by
  unfold State.raiseLimited
  have h := s.freeCtr_limit code (unit + 65536 * key) us
  split <;> simp_all
@[simp] theorem State.pending_raiseLimited (s : State) (us code sev ucls unit : Nat) (detail : List Nat) (sc : Scope) (key : Nat) : (s.raiseLimited us code sev ucls unit detail sc key).pending = s.pending := by
  unfold State.raiseLimited
  have h := s.pending_limit code (unit + 65536 * key) us
  split <;> simp_all

@[simp] theorem State.rwl_wearAdd (s : State) (kind cls unit detail : Nat) : (s.wearAdd kind cls unit detail).rwl = s.rwl := by
  unfold State.wearAdd
  dsimp only
  repeat (first | rfl | split)
@[simp] theorem State.aon_wearAdd (s : State) (kind cls unit detail : Nat) : (s.wearAdd kind cls unit detail).aon = s.aon := by
  unfold State.wearAdd
  dsimp only
  repeat (first | rfl | split)
@[simp] theorem State.fuses_wearAdd (s : State) (kind cls unit detail : Nat) : (s.wearAdd kind cls unit detail).fuses = s.fuses := by
  unfold State.wearAdd
  dsimp only
  repeat (first | rfl | split)
@[simp] theorem State.units_wearAdd (s : State) (kind cls unit detail : Nat) : (s.wearAdd kind cls unit detail).units = s.units := by
  unfold State.wearAdd
  dsimp only
  repeat (first | rfl | split)
@[simp] theorem State.umReady_wearAdd (s : State) (kind cls unit detail : Nat) : (s.wearAdd kind cls unit detail).umReady = s.umReady := by
  unfold State.wearAdd
  dsimp only
  repeat (first | rfl | split)
@[simp] theorem State.umGen_wearAdd (s : State) (kind cls unit detail : Nat) : (s.wearAdd kind cls unit detail).umGen = s.umGen := by
  unfold State.wearAdd
  dsimp only
  repeat (first | rfl | split)
@[simp] theorem State.doms_wearAdd (s : State) (kind cls unit detail : Nat) : (s.wearAdd kind cls unit detail).doms = s.doms := by
  unfold State.wearAdd
  dsimp only
  repeat (first | rfl | split)
@[simp] theorem State.hl_wearAdd (s : State) (kind cls unit detail : Nat) : (s.wearAdd kind cls unit detail).hl = s.hl := by
  unfold State.wearAdd
  dsimp only
  repeat (first | rfl | split)
@[simp] theorem State.mem_wearAdd (s : State) (kind cls unit detail : Nat) : (s.wearAdd kind cls unit detail).mem = s.mem := by
  unfold State.wearAdd
  dsimp only
  repeat (first | rfl | split)
@[simp] theorem State.mesh_wearAdd (s : State) (kind cls unit detail : Nat) : (s.wearAdd kind cls unit detail).mesh = s.mesh := by
  unfold State.wearAdd
  dsimp only
  repeat (first | rfl | split)
@[simp] theorem State.sec_wearAdd (s : State) (kind cls unit detail : Nat) : (s.wearAdd kind cls unit detail).sec = s.sec := by
  unfold State.wearAdd
  dsimp only
  repeat (first | rfl | split)
@[simp] theorem State.engs_wearAdd (s : State) (kind cls unit detail : Nat) : (s.wearAdd kind cls unit detail).engs = s.engs := by
  unfold State.wearAdd
  dsimp only
  repeat (first | rfl | split)
@[simp] theorem State.waits_wearAdd (s : State) (kind cls unit detail : Nat) : (s.wearAdd kind cls unit detail).waits = s.waits := by
  unfold State.wearAdd
  dsimp only
  repeat (first | rfl | split)
@[simp] theorem State.coh_wearAdd (s : State) (kind cls unit detail : Nat) : (s.wearAdd kind cls unit detail).coh = s.coh := by
  unfold State.wearAdd
  dsimp only
  repeat (first | rfl | split)
@[simp] theorem State.links_wearAdd (s : State) (kind cls unit detail : Nat) : (s.wearAdd kind cls unit detail).links = s.links := by
  unfold State.wearAdd
  dsimp only
  repeat (first | rfl | split)
@[simp] theorem State.eth_wearAdd (s : State) (kind cls unit detail : Nat) : (s.wearAdd kind cls unit detail).eth = s.eth := by
  unfold State.wearAdd
  dsimp only
  repeat (first | rfl | split)
@[simp] theorem State.sheaf_wearAdd (s : State) (kind cls unit detail : Nat) : (s.wearAdd kind cls unit detail).sheaf = s.sheaf := by
  unfold State.wearAdd
  dsimp only
  repeat (first | rfl | split)
@[simp] theorem State.pwr_wearAdd (s : State) (kind cls unit detail : Nat) : (s.wearAdd kind cls unit detail).pwr = s.pwr := by
  unfold State.wearAdd
  dsimp only
  repeat (first | rfl | split)
@[simp] theorem State.tel_wearAdd (s : State) (kind cls unit detail : Nat) : (s.wearAdd kind cls unit detail).tel = s.tel := by
  unfold State.wearAdd
  dsimp only
  repeat (first | rfl | split)
@[simp] theorem State.jtag_wearAdd (s : State) (kind cls unit detail : Nat) : (s.wearAdd kind cls unit detail).jtag = s.jtag := by
  unfold State.wearAdd
  dsimp only
  repeat (first | rfl | split)
@[simp] theorem State.mgmtIndex_wearAdd (s : State) (kind cls unit detail : Nat) : (s.wearAdd kind cls unit detail).mgmtIndex = s.mgmtIndex := by
  unfold State.wearAdd
  dsimp only
  repeat (first | rfl | split)
@[simp] theorem State.fallowUnit_wearAdd (s : State) (kind cls unit detail : Nat) : (s.wearAdd kind cls unit detail).fallowUnit = s.fallowUnit := by
  unfold State.wearAdd
  dsimp only
  repeat (first | rfl | split)
@[simp] theorem State.out_wearAdd (s : State) (kind cls unit detail : Nat) : (s.wearAdd kind cls unit detail).out = s.out := by
  unfold State.wearAdd
  dsimp only
  repeat (first | rfl | split)
@[simp] theorem State.now_wearAdd (s : State) (kind cls unit detail : Nat) : (s.wearAdd kind cls unit detail).now = s.now := by
  unfold State.wearAdd
  dsimp only
  repeat (first | rfl | split)
@[simp] theorem State.freeCtr_wearAdd (s : State) (kind cls unit detail : Nat) : (s.wearAdd kind cls unit detail).freeCtr = s.freeCtr := by
  unfold State.wearAdd
  dsimp only
  repeat (first | rfl | split)
@[simp] theorem State.pending_wearAdd (s : State) (kind cls unit detail : Nat) : (s.wearAdd kind cls unit detail).pending = s.pending := by
  unfold State.wearAdd
  dsimp only
  repeat (first | rfl | split)

@[simp] theorem State.rwl_putUnit (s : State) (c : UCls) (n : Nat) (v : CUnit) : (s.putUnit c n v).rwl = s.rwl := by
  unfold State.putUnit
  dsimp only
  split <;> simp
@[simp] theorem State.fuses_putUnit (s : State) (c : UCls) (n : Nat) (v : CUnit) : (s.putUnit c n v).fuses = s.fuses := by
  unfold State.putUnit
  dsimp only
  split <;> simp
@[simp] theorem State.umReady_putUnit (s : State) (c : UCls) (n : Nat) (v : CUnit) : (s.putUnit c n v).umReady = s.umReady := by
  unfold State.putUnit
  dsimp only
  split <;> simp
@[simp] theorem State.doms_putUnit (s : State) (c : UCls) (n : Nat) (v : CUnit) : (s.putUnit c n v).doms = s.doms := by
  unfold State.putUnit
  dsimp only
  split <;> simp
@[simp] theorem State.mem_putUnit (s : State) (c : UCls) (n : Nat) (v : CUnit) : (s.putUnit c n v).mem = s.mem := by
  unfold State.putUnit
  dsimp only
  split <;> simp
@[simp] theorem State.mesh_putUnit (s : State) (c : UCls) (n : Nat) (v : CUnit) : (s.putUnit c n v).mesh = s.mesh := by
  unfold State.putUnit
  dsimp only
  split <;> simp
@[simp] theorem State.sec_putUnit (s : State) (c : UCls) (n : Nat) (v : CUnit) : (s.putUnit c n v).sec = s.sec := by
  unfold State.putUnit
  dsimp only
  split <;> simp
@[simp] theorem State.boot_putUnit (s : State) (c : UCls) (n : Nat) (v : CUnit) : (s.putUnit c n v).boot = s.boot := by
  unfold State.putUnit
  dsimp only
  split <;> simp
@[simp] theorem State.engs_putUnit (s : State) (c : UCls) (n : Nat) (v : CUnit) : (s.putUnit c n v).engs = s.engs := by
  unfold State.putUnit
  dsimp only
  split <;> simp
@[simp] theorem State.waits_putUnit (s : State) (c : UCls) (n : Nat) (v : CUnit) : (s.putUnit c n v).waits = s.waits := by
  unfold State.putUnit
  dsimp only
  split <;> simp
@[simp] theorem State.coh_putUnit (s : State) (c : UCls) (n : Nat) (v : CUnit) : (s.putUnit c n v).coh = s.coh := by
  unfold State.putUnit
  dsimp only
  split <;> simp
@[simp] theorem State.links_putUnit (s : State) (c : UCls) (n : Nat) (v : CUnit) : (s.putUnit c n v).links = s.links := by
  unfold State.putUnit
  dsimp only
  split <;> simp
@[simp] theorem State.eth_putUnit (s : State) (c : UCls) (n : Nat) (v : CUnit) : (s.putUnit c n v).eth = s.eth := by
  unfold State.putUnit
  dsimp only
  split <;> simp
@[simp] theorem State.sheaf_putUnit (s : State) (c : UCls) (n : Nat) (v : CUnit) : (s.putUnit c n v).sheaf = s.sheaf := by
  unfold State.putUnit
  dsimp only
  split <;> simp
@[simp] theorem State.pwr_putUnit (s : State) (c : UCls) (n : Nat) (v : CUnit) : (s.putUnit c n v).pwr = s.pwr := by
  unfold State.putUnit
  dsimp only
  split <;> simp
@[simp] theorem State.tel_putUnit (s : State) (c : UCls) (n : Nat) (v : CUnit) : (s.putUnit c n v).tel = s.tel := by
  unfold State.putUnit
  dsimp only
  split <;> simp
@[simp] theorem State.jtag_putUnit (s : State) (c : UCls) (n : Nat) (v : CUnit) : (s.putUnit c n v).jtag = s.jtag := by
  unfold State.putUnit
  dsimp only
  split <;> simp
@[simp] theorem State.mgmtIndex_putUnit (s : State) (c : UCls) (n : Nat) (v : CUnit) : (s.putUnit c n v).mgmtIndex = s.mgmtIndex := by
  unfold State.putUnit
  dsimp only
  split <;> simp
@[simp] theorem State.fallowUnit_putUnit (s : State) (c : UCls) (n : Nat) (v : CUnit) : (s.putUnit c n v).fallowUnit = s.fallowUnit := by
  unfold State.putUnit
  dsimp only
  split <;> simp
@[simp] theorem State.out_putUnit (s : State) (c : UCls) (n : Nat) (v : CUnit) : (s.putUnit c n v).out = s.out := by
  unfold State.putUnit
  dsimp only
  split <;> simp
@[simp] theorem State.now_putUnit (s : State) (c : UCls) (n : Nat) (v : CUnit) : (s.putUnit c n v).now = s.now := by
  unfold State.putUnit
  dsimp only
  split <;> simp
@[simp] theorem State.freeCtr_putUnit (s : State) (c : UCls) (n : Nat) (v : CUnit) : (s.putUnit c n v).freeCtr = s.freeCtr := by
  unfold State.putUnit
  dsimp only
  split <;> simp
@[simp] theorem State.pending_putUnit (s : State) (c : UCls) (n : Nat) (v : CUnit) : (s.putUnit c n v).pending = s.pending := by
  unfold State.putUnit
  dsimp only
  split <;> simp

@[simp] theorem State.rwl_setUnit (s : State) (c : UCls) (n : Nat) (st : UState) : (s.setUnit c n st).rwl = s.rwl := by
  unfold State.setUnit
  dsimp only
  split
  · split <;> simp
  · rfl
@[simp] theorem State.fuses_setUnit (s : State) (c : UCls) (n : Nat) (st : UState) : (s.setUnit c n st).fuses = s.fuses := by
  unfold State.setUnit
  dsimp only
  split
  · split <;> simp
  · rfl
@[simp] theorem State.umReady_setUnit (s : State) (c : UCls) (n : Nat) (st : UState) : (s.setUnit c n st).umReady = s.umReady := by
  unfold State.setUnit
  dsimp only
  split
  · split <;> simp
  · rfl
@[simp] theorem State.doms_setUnit (s : State) (c : UCls) (n : Nat) (st : UState) : (s.setUnit c n st).doms = s.doms := by
  unfold State.setUnit
  dsimp only
  split
  · split <;> simp
  · rfl
@[simp] theorem State.mem_setUnit (s : State) (c : UCls) (n : Nat) (st : UState) : (s.setUnit c n st).mem = s.mem := by
  unfold State.setUnit
  dsimp only
  split
  · split <;> simp
  · rfl
@[simp] theorem State.mesh_setUnit (s : State) (c : UCls) (n : Nat) (st : UState) : (s.setUnit c n st).mesh = s.mesh := by
  unfold State.setUnit
  dsimp only
  split
  · split <;> simp
  · rfl
@[simp] theorem State.sec_setUnit (s : State) (c : UCls) (n : Nat) (st : UState) : (s.setUnit c n st).sec = s.sec := by
  unfold State.setUnit
  dsimp only
  split
  · split <;> simp
  · rfl
@[simp] theorem State.engs_setUnit (s : State) (c : UCls) (n : Nat) (st : UState) : (s.setUnit c n st).engs = s.engs := by
  unfold State.setUnit
  dsimp only
  split
  · split <;> simp
  · rfl
@[simp] theorem State.waits_setUnit (s : State) (c : UCls) (n : Nat) (st : UState) : (s.setUnit c n st).waits = s.waits := by
  unfold State.setUnit
  dsimp only
  split
  · split <;> simp
  · rfl
@[simp] theorem State.coh_setUnit (s : State) (c : UCls) (n : Nat) (st : UState) : (s.setUnit c n st).coh = s.coh := by
  unfold State.setUnit
  dsimp only
  split
  · split <;> simp
  · rfl
@[simp] theorem State.links_setUnit (s : State) (c : UCls) (n : Nat) (st : UState) : (s.setUnit c n st).links = s.links := by
  unfold State.setUnit
  dsimp only
  split
  · split <;> simp
  · rfl
@[simp] theorem State.eth_setUnit (s : State) (c : UCls) (n : Nat) (st : UState) : (s.setUnit c n st).eth = s.eth := by
  unfold State.setUnit
  dsimp only
  split
  · split <;> simp
  · rfl
@[simp] theorem State.sheaf_setUnit (s : State) (c : UCls) (n : Nat) (st : UState) : (s.setUnit c n st).sheaf = s.sheaf := by
  unfold State.setUnit
  dsimp only
  split
  · split <;> simp
  · rfl
@[simp] theorem State.pwr_setUnit (s : State) (c : UCls) (n : Nat) (st : UState) : (s.setUnit c n st).pwr = s.pwr := by
  unfold State.setUnit
  dsimp only
  split
  · split <;> simp
  · rfl
@[simp] theorem State.tel_setUnit (s : State) (c : UCls) (n : Nat) (st : UState) : (s.setUnit c n st).tel = s.tel := by
  unfold State.setUnit
  dsimp only
  split
  · split <;> simp
  · rfl
@[simp] theorem State.jtag_setUnit (s : State) (c : UCls) (n : Nat) (st : UState) : (s.setUnit c n st).jtag = s.jtag := by
  unfold State.setUnit
  dsimp only
  split
  · split <;> simp
  · rfl
@[simp] theorem State.mgmtIndex_setUnit (s : State) (c : UCls) (n : Nat) (st : UState) : (s.setUnit c n st).mgmtIndex = s.mgmtIndex := by
  unfold State.setUnit
  dsimp only
  split
  · split <;> simp
  · rfl
@[simp] theorem State.fallowUnit_setUnit (s : State) (c : UCls) (n : Nat) (st : UState) : (s.setUnit c n st).fallowUnit = s.fallowUnit := by
  unfold State.setUnit
  dsimp only
  split
  · split <;> simp
  · rfl
@[simp] theorem State.out_setUnit (s : State) (c : UCls) (n : Nat) (st : UState) : (s.setUnit c n st).out = s.out := by
  unfold State.setUnit
  dsimp only
  split
  · split <;> simp
  · rfl
@[simp] theorem State.now_setUnit (s : State) (c : UCls) (n : Nat) (st : UState) : (s.setUnit c n st).now = s.now := by
  unfold State.setUnit
  dsimp only
  split
  · split <;> simp
  · rfl
@[simp] theorem State.freeCtr_setUnit (s : State) (c : UCls) (n : Nat) (st : UState) : (s.setUnit c n st).freeCtr = s.freeCtr := by
  unfold State.setUnit
  dsimp only
  split
  · split <;> simp
  · rfl
@[simp] theorem State.pending_setUnit (s : State) (c : UCls) (n : Nat) (st : UState) : (s.setUnit c n st).pending = s.pending := by
  unfold State.setUnit
  dsimp only
  split
  · split <;> simp
  · rfl

@[simp] theorem State.rwl_setDeg (s : State) (c : UCls) (n : Nat) (d : Bool) : (s.setDeg c n d).rwl = s.rwl := by
  unfold State.setDeg
  split <;> simp
@[simp] theorem State.fuses_setDeg (s : State) (c : UCls) (n : Nat) (d : Bool) : (s.setDeg c n d).fuses = s.fuses := by
  unfold State.setDeg
  split <;> simp
@[simp] theorem State.umReady_setDeg (s : State) (c : UCls) (n : Nat) (d : Bool) : (s.setDeg c n d).umReady = s.umReady := by
  unfold State.setDeg
  split <;> simp
@[simp] theorem State.doms_setDeg (s : State) (c : UCls) (n : Nat) (d : Bool) : (s.setDeg c n d).doms = s.doms := by
  unfold State.setDeg
  split <;> simp
@[simp] theorem State.mem_setDeg (s : State) (c : UCls) (n : Nat) (d : Bool) : (s.setDeg c n d).mem = s.mem := by
  unfold State.setDeg
  split <;> simp
@[simp] theorem State.mesh_setDeg (s : State) (c : UCls) (n : Nat) (d : Bool) : (s.setDeg c n d).mesh = s.mesh := by
  unfold State.setDeg
  split <;> simp
@[simp] theorem State.sec_setDeg (s : State) (c : UCls) (n : Nat) (d : Bool) : (s.setDeg c n d).sec = s.sec := by
  unfold State.setDeg
  split <;> simp
@[simp] theorem State.boot_setDeg (s : State) (c : UCls) (n : Nat) (d : Bool) : (s.setDeg c n d).boot = s.boot := by
  unfold State.setDeg
  split <;> simp
@[simp] theorem State.engs_setDeg (s : State) (c : UCls) (n : Nat) (d : Bool) : (s.setDeg c n d).engs = s.engs := by
  unfold State.setDeg
  split <;> simp
@[simp] theorem State.waits_setDeg (s : State) (c : UCls) (n : Nat) (d : Bool) : (s.setDeg c n d).waits = s.waits := by
  unfold State.setDeg
  split <;> simp
@[simp] theorem State.coh_setDeg (s : State) (c : UCls) (n : Nat) (d : Bool) : (s.setDeg c n d).coh = s.coh := by
  unfold State.setDeg
  split <;> simp
@[simp] theorem State.links_setDeg (s : State) (c : UCls) (n : Nat) (d : Bool) : (s.setDeg c n d).links = s.links := by
  unfold State.setDeg
  split <;> simp
@[simp] theorem State.eth_setDeg (s : State) (c : UCls) (n : Nat) (d : Bool) : (s.setDeg c n d).eth = s.eth := by
  unfold State.setDeg
  split <;> simp
@[simp] theorem State.sheaf_setDeg (s : State) (c : UCls) (n : Nat) (d : Bool) : (s.setDeg c n d).sheaf = s.sheaf := by
  unfold State.setDeg
  split <;> simp
@[simp] theorem State.pwr_setDeg (s : State) (c : UCls) (n : Nat) (d : Bool) : (s.setDeg c n d).pwr = s.pwr := by
  unfold State.setDeg
  split <;> simp
@[simp] theorem State.tel_setDeg (s : State) (c : UCls) (n : Nat) (d : Bool) : (s.setDeg c n d).tel = s.tel := by
  unfold State.setDeg
  split <;> simp
@[simp] theorem State.jtag_setDeg (s : State) (c : UCls) (n : Nat) (d : Bool) : (s.setDeg c n d).jtag = s.jtag := by
  unfold State.setDeg
  split <;> simp
@[simp] theorem State.mgmtIndex_setDeg (s : State) (c : UCls) (n : Nat) (d : Bool) : (s.setDeg c n d).mgmtIndex = s.mgmtIndex := by
  unfold State.setDeg
  split <;> simp
@[simp] theorem State.fallowUnit_setDeg (s : State) (c : UCls) (n : Nat) (d : Bool) : (s.setDeg c n d).fallowUnit = s.fallowUnit := by
  unfold State.setDeg
  split <;> simp
@[simp] theorem State.out_setDeg (s : State) (c : UCls) (n : Nat) (d : Bool) : (s.setDeg c n d).out = s.out := by
  unfold State.setDeg
  split <;> simp
@[simp] theorem State.now_setDeg (s : State) (c : UCls) (n : Nat) (d : Bool) : (s.setDeg c n d).now = s.now := by
  unfold State.setDeg
  split <;> simp
@[simp] theorem State.freeCtr_setDeg (s : State) (c : UCls) (n : Nat) (d : Bool) : (s.setDeg c n d).freeCtr = s.freeCtr := by
  unfold State.setDeg
  split <;> simp
@[simp] theorem State.pending_setDeg (s : State) (c : UCls) (n : Nat) (d : Bool) : (s.setDeg c n d).pending = s.pending := by
  unfold State.setDeg
  split <;> simp

/-! ### Register fields that events touch -/

/-- Fields that raising an event may change (12 R469, 16 R571). -/
def eventFid (f : Fid) : Bool :=
  match f with
  | .HL_ERR_STATUS_EVT_LOST | .TEL_FATAL_CODE | .TEL_FATAL_DOMAIN | .TEL_FATAL_CYC_CYCLES | .TEL_FATAL_COUNT => true
  | _ => false

theorem eventFid_ne {f g : Fid} (h : eventFid f = false) (hg : eventFid g = true) : f ≠ g := by
  intro h2
  rw [h2, hg] at h
  exact Bool.noConfusion h

/-- A register field reads the register store alone. -/
theorem State.f_of_flds {s t : State} (h : s.flds = t.flds) (f : Fid) (i j : Nat) : s.f f i j = t.f f i j := by
  unfold State.f
  rw [h]

theorem State.f_deliver (s : State) (e : Event) (n : Nat) (f : Fid) (i j : Nat) (h : eventFid f = false) :
    (State.deliver e s n).f f i j = s.f f i j := by
  unfold State.deliver
  dsimp only
  split
  · split
    · rfl
    · exact State.f_flag_fid _ (eventFid_ne h rfl)
  · rfl

theorem State.f_fatal (s : State) (code d cyc : Nat) (f : Fid) (i j : Nat) (h : eventFid f = false) :
    (s.fatal code d cyc).f f i j = s.f f i j := by
  have h1 : f ≠ .TEL_FATAL_CODE := eventFid_ne h rfl
  have h2 : f ≠ .TEL_FATAL_DOMAIN := eventFid_ne h rfl
  have h3 : f ≠ .TEL_FATAL_CYC_CYCLES := eventFid_ne h rfl
  have h4 : f ≠ .TEL_FATAL_COUNT := eventFid_ne h rfl
  unfold State.fatal
  dsimp only
  split
  · refine (State.f_of_flds (t := State.count _ .TEL_FATAL_COUNT 0 0 16 1) rfl f i j).trans ?_
    simp [h1, h2, h3, h4]
  · refine (State.f_of_flds (t := State.count _ .TEL_FATAL_COUNT 0 0 16 1) rfl f i j).trans ?_
    simp [h4]

/-- Raising an event leaves every other register field. -/
theorem State.f_raise (s : State) (code sev ucls unit : Nat) (detail : List Nat) (sc : Scope) (plot : Option Nat) (f : Fid)
    (i j : Nat) (h : eventFid f = false) : (s.raise code sev ucls unit detail sc plot).f f i j = s.f f i j := by
  have hd : ∀ (e : Event) (s1 : State), ((List.range 16).foldl (State.deliver e) s1).f f i j = s1.f f i j :=
    fun e => foldl_leaves (fun s => s.f f i j) (State.deliver e) (List.range 16) (fun s n => s.f_deliver e n f i j h)
  unfold State.raise
  dsimp only
  split
  · rw [State.f_fatal _ _ _ _ f i j h, hd]
    apply State.f_of_flds
    rfl
  · rw [hd]
    apply State.f_of_flds
    rfl

theorem State.f_raiseLimited (s : State) (us code sev ucls unit : Nat) (detail : List Nat) (sc : Scope) (key : Nat) (f : Fid)
    (i j : Nat) (h : eventFid f = false) :
    (s.raiseLimited us code sev ucls unit detail sc key).f f i j = s.f f i j := by
  have h1 : (s.limit code (unit + 65536 * key) us).2.f f i j = s.f f i j := by
    unfold State.limit
    dsimp only
    repeat (first | rfl | split)
  unfold State.raiseLimited
  split
  · rename_i w s1 h2
    rw [State.f_raise _ _ _ _ _ _ _ _ f i j h]
    rw [h2] at h1
    exact h1
  · rename_i s1 h2
    rw [h2] at h1
    exact h1

/-- An event carries the next MODULE_SEQ, and the module's log ends with it (12 R468, R470). -/
theorem deliver_log (e : Event) (s : State) (n : Nat) :
    (State.deliver e s n).hl.log = s.hl.log ∧ (State.deliver e s n).hl.moduleSeq = s.hl.moduleSeq := by
  unfold State.deliver
  dsimp only
  repeat (first | exact ⟨rfl, rfl⟩ | split)

theorem State.raise_seq (s : State) (code sev ucls unit : Nat) (detail : List Nat) (sc : Scope) (plot : Option Nat) :
    (s.raise code sev ucls unit detail sc plot).hl.moduleSeq = s.hl.moduleSeq + 1 := by
  have hd := fun (e : Event) => foldl_leaves (fun s => s.hl.moduleSeq) (State.deliver e) (List.range 16)
    (fun s n => (deliver_log e s n).2)
  unfold State.raise
  dsimp only
  split <;> simp [hd]

end Sys2Proof.Machine
end

