-- ==== Sys2Proof/Laws/Headland.lean ====
section
/-! SUPPORT. Laws of the Headland's commands: what the shared operation behind every session command's row does. -/

namespace Sys2Proof.Machine

/-- A command that nothing refuses is executed and answered. -/
theorem State.hlRun_executes {s : State} {n op : Nat} {b : Bytes} {c : HCmd} (h : s.commands n op b c)
    (f : HCmd → State → Nat × Bytes × State) :
    s.hlRun n op f = (f c s).2.2.hlDone n c (f c s).1 (f c s).2.1 := by
  obtain ⟨h1, h2, -, h4⟩ := h
  unfold State.hlRun
  rw [h1]
  dsimp only
  rw [if_neg (by simpa using h2), h4]

/-- The same where the effect is a status and a state. -/
theorem State.hlSimple_executes {s : State} {n op : Nat} {b : Bytes} {c : HCmd} (h : s.commands n op b c)
    (f : HCmd → State → WRes) : s.hlSimple n op f = (f c s).2.hlDone n c (f c s).1 [] :=
  State.hlRun_executes h _

/-- A refused command is answered with what refuses it, and nothing else happens. -/
theorem State.hlRun_refused {s : State} {n op st : Nat} {c : HCmd} (h1 : s.hlNext n = some c) (h2 : c.opcode = op)
    (h3 : s.hlRefusal n c = some st) (f : HCmd → State → Nat × Bytes × State) : s.hlRun n op f = s.hlDone n c st [] := by
  unfold State.hlRun
  rw [h1]
  dsimp only
  rw [if_neg (by simpa using h2), h3]

/-- Without a command of its opcode at NEXT a row does nothing. -/
theorem State.hlRun_idle {s : State} {n op : Nat} (h : ∀ c, s.hlNext n = some c → c.opcode ≠ op)
    (f : HCmd → State → Nat × Bytes × State) : s.hlRun n op f = s := by
  unfold State.hlRun
  split
  · rfl
  · rename_i c hc
    rw [if_pos (h c hc)]

/-- A session with a command at NEXT has no REG_POLL that waits. -/
theorem State.hlNext_notPolling {s : State} {n : Nat} {c : HCmd} (h : s.hlNext n = some c) : s.hlPolling n = none := by
  unfold State.hlNext at h
  unfold State.hlPolling
  dsimp only at h ⊢
  split at h
  · rename_i h1
    rw [if_neg]
    simp [h1.2.1]
  · cases h

end Sys2Proof.Machine
end

