-- ==== Sys2Proof/Laws/Lane.lean ====
section
/-! SUPPORT. Laws of lane programs: what a row whose instruction goes on leaves as it was, and the lane registers after
a write. -/

namespace Sys2Proof.Machine

/-! ### Streams of an engine -/

theorem NTbl.at_map {α : Type} (d : α) (f : α → α) (hf : f d = d) (t : NTbl α) (k : Nat) :
    NTbl.at d (t.map (fun x => (x.1, f x.2))) k = f (NTbl.at d t k) := by
  induction t with
  | nil => exact hf.symm
  | cons e t ih =>
    obtain ⟨k', v⟩ := e
    by_cases h : k' = k
    · simp [NTbl.at, Tbl.get, h]
    · simpa [NTbl.at, Tbl.get, h] using ih

/-- The end of an order's streams changes nothing of a stream but that it has ended. -/
theorem State.stream_laneStop (s : State) (e u q idx st fc a : Nat) {t : Stream} (h : s.stream e u = some t) :
    ∃ b, (s.laneStop e q idx st fc a).stream e u = some { t with ended := b } := by
  unfold State.laneStop State.stream Eng.endStreams
  dsimp only
  rw [State.eng_setEng]
  dsimp only
  rw [NTbl.at_map none (Option.map (fun t : Stream => if t.q = q ∧ t.idx = idx then { t with ended := true } else t)) rfl]
  have h2 : ∀ f, NTbl.at none ((s.updRun e q idx f).eng e).streams u = some t := fun f => by
    simpa [State.updRun, State.stream] using h
  rw [h2]
  simp only [Option.map_some]
  split
  · exact ⟨true, rfl⟩
  · exact ⟨t.ended, rfl⟩

/-! ### What a row leaves as it was -/

theorem State.laneLeaves_trans {s s1 s2 : State} {e : Nat} (h : s.laneLeaves s1 e) (h2 : s1.laneLeaves s2 e) :
    s.laneLeaves s2 e := by
  obtain ⟨a1, a2, a3, a4, a5, a6, a7, a8, a9, a10, a11, a12, a13, a14, a15, a16, a17⟩ := h
  obtain ⟨b1, b2, b3, b4, b5, b6, b7, b8, b9, b10, b11, b12, b13, b14, b15, b16, b17⟩ := h2
  exact ⟨b1.trans a1, b2.trans a2, b3.trans a3, b4.trans a4, b5.trans a5, b6.trans a6, b7.trans a7, b8.trans a8,
    b9.trans a9, b10.trans a10, b11.trans a11, fun k hk => (b12 k hk).trans (a12 k hk), b13.trans a13, b14.trans a14,
    b15.trans a15, b16.trans a16, fun f i j hf => (b17 f i j hf).trans (a17 f i j hf)⟩

theorem State.laneLeaves_refl (s : State) (e : Nat) : s.laneLeaves s e :=
  ⟨rfl, rfl, rfl, rfl, rfl, rfl, rfl, rfl, rfl, rfl, rfl, fun _ _ => rfl, rfl, rfl, rfl, rfl, fun _ _ _ _ => rfl⟩

/-- An engine put back with its tile, store and accumulators. -/
theorem State.laneLeaves_setEng (s : State) (e : Nat) (g : Eng) (h1 : g.tile = (s.eng e).tile) (h2 : g.lps = (s.eng e).lps)
    (h3 : g.tpois = (s.eng e).tpois) (h4 : g.acc = (s.eng e).acc) : s.laneLeaves (s.setEng e g) e := by
  refine ⟨rfl, rfl, rfl, rfl, rfl, rfl, rfl, rfl, rfl, rfl, rfl, fun k hk => NTbl.at_put_ne _ _ _ hk, ?_, ?_, ?_, ?_,
    fun _ _ _ _ => rfl⟩ <;> rw [State.eng_setEng] <;> assumption

theorem State.laneLeaves_setStream (s : State) (e u : Nat) (t : Stream) : s.laneLeaves (s.setStream e u t) e :=
  s.laneLeaves_setEng e _ rfl rfl rfl rfl

theorem State.laneLeaves_updRun (s : State) (e q idx : Nat) (f : Run → Run) : s.laneLeaves (s.updRun e q idx f) e :=
  s.laneLeaves_setEng e _ rfl rfl rfl rfl

theorem State.laneLeaves_issue (s : State) (e i j v : Nat) : s.laneLeaves (s.setF .CE_LANE_ISSUE_COUNT i j v) e :=
  ⟨rfl, rfl, rfl, rfl, rfl, rfl, rfl, rfl, rfl, rfl, rfl, fun _ _ => rfl, rfl, rfl, rfl, rfl,
    fun _ _ _ h => s.f_setF_fid v h⟩

theorem State.laneLeaves_laneStop (s : State) (e q idx st fc a : Nat) : s.laneLeaves (s.laneStop e q idx st fc a) e :=
  State.laneLeaves_trans (s.laneLeaves_updRun e q idx _) (State.laneLeaves_setEng _ e _ rfl rfl rfl rfl)

/-- A run's change leaves the streams. -/
@[simp] theorem State.stream_updRun (s : State) (e q idx : Nat) (f : Run → Run) (u : Nat) :
    (s.updRun e q idx f).stream e u = s.stream e u := by simp [State.updRun, State.stream]

/-- After an instruction the stream holds what the instruction gave it, with one more step; it may have ended. -/
theorem State.laneAfter_gives (s : State) (e u pc : Nat) (t : Stream) (fl nn : Nat) :
    s.laneLeaves (s.laneAfter e u pc t fl nn) e
      ∧ ∃ b, (s.laneAfter e u pc t fl nn).stream e u = some { t with steps := t.steps + 1, ended := b } := by
  have hs : ∀ s0 : State, ∃ b, ((s0.setStream e u { t with steps := t.steps + 1 }).count .CE_LANE_ISSUE_COUNT e 0 64 1).stream e u
      = some { t with steps := t.steps + 1, ended := b } := fun s0 => ⟨t.ended, s0.stream_setStream e u _⟩
  have hl : s.laneLeaves (((s.setEng e { s.eng e with stepMask := setBit (s.eng e).stepMask u false }).setStream e u
      { t with steps := t.steps + 1 }).count .CE_LANE_ISSUE_COUNT e 0 64 1) e :=
    State.laneLeaves_trans (State.laneLeaves_trans (s.laneLeaves_setEng e
      { s.eng e with stepMask := setBit (s.eng e).stepMask u false } rfl rfl rfl rfl)
      (State.laneLeaves_setStream _ e u _)) (State.laneLeaves_issue _ e e 0 _)
  have hs := hs (s.setEng e { s.eng e with stepMask := setBit (s.eng e).stepMask u false })
  unfold State.laneAfter
  dsimp only
  revert hs hl
  generalize ((s.setEng e { s.eng e with stepMask := setBit (s.eng e).stepMask u false }).setStream e u
      { t with steps := t.steps + 1 }).count .CE_LANE_ISSUE_COUNT e 0 64 1 = s1
  intro hl ⟨b, hs⟩
  generalize hg : s1.updRun e t.q t.idx (fun r => { r with flags := r.flags ||| fl, nans := r.nans + nn }) = s2
  have hl2 : s.laneLeaves s2 e := hg ▸ State.laneLeaves_trans hl (s1.laneLeaves_updRun e t.q t.idx _)
  have hs2 : s2.stream e u = some { t with steps := t.steps + 1, ended := b } := by rw [← hg, State.stream_updRun, hs]
  have hstop : ∀ q idx st fc a, s.laneLeaves (s2.laneStop e q idx st fc a) e
      ∧ ∃ b, (s2.laneStop e q idx st fc a).stream e u = some { t with steps := t.steps + 1, ended := b } := by
    intro q idx st fc a
    refine ⟨State.laneLeaves_trans hl2 (s2.laneLeaves_laneStop e q idx st fc a), ?_⟩
    obtain ⟨b2, h2⟩ := s2.stream_laneStop e u q idx st fc a hs2
    exact ⟨b2, h2⟩
  have hrun : ∀ f, s.laneLeaves (s2.updRun e t.q t.idx f) e
      ∧ ∃ b, (s2.updRun e t.q t.idx f).stream e u = some { t with steps := t.steps + 1, ended := b } :=
    fun f => ⟨State.laneLeaves_trans hl2 (s2.laneLeaves_updRun e t.q t.idx f), b, by rw [State.stream_updRun, hs2]⟩
  repeat' split
  all_goals first
    | exact hstop _ _ _ _ _
    | exact hrun _
    | exact ⟨hl2, b, hs2⟩

/-- A row at its instruction whose effect goes on ends in the stream's step. -/
theorem State.laneRow_next {s : State} {e u opc : Nat} {t : Stream} {i : Ins} (h : s.atLane e u opc t i) {f : LaneFn}
    {t1 : Stream} {fl nn : Nat} {s1 : State} (hf : f { t with pc := t.pc + 1 } i s = .next t1 fl nn s1) :
    s.laneRow e u opc f = s1.laneAfter e u t.pc t1 fl nn := by
  obtain ⟨h1, h2, h3, h4, rfl, h6, h7, h8⟩ := h
  have hr : (t.ended || t.spent || !s.laneRuns e u) = false := by simp [h2, h3, h4]
  have hi : (!(Ins.parse (NTbl.at 0 (s.eng e).lps t.pc)).legal
      || (t.scalar && (Ins.parse (NTbl.at 0 (s.eng e).lps t.pc)).vectorOnly)) = false := by simp [h6, h7]
  unfold State.laneRow
  rw [h1]
  dsimp only
  rw [hr, hi, if_neg Bool.false_ne_true, if_neg Bool.false_ne_true, if_neg (not_not_intro h8), hf]

/-! ### Lanes -/

theorem padLanes_length {α : Type} (d : α) (l : List α) : (padLanes d l).length = nLanes := by
  simp only [padLanes, List.length_append, List.length_take, List.length_replicate]
  omega

theorem padLanes_of_length {α : Type} (d : α) (l : List α) (h : l.length = nLanes) : padLanes d l = l := by
  rw [padLanes, List.take_of_length_le (by omega), h, Nat.sub_self]
  exact List.append_nil l

/-- Packing lanes loses nothing. -/
theorem padLanes_pack {α : Type} [DecidableEq α] (d : α) (l : List α) (h : l.length = nLanes) :
    padLanes d (packLanes d l) = l := by
  unfold packLanes
  split
  · rename_i h2
    have h3 : l = List.replicate nLanes d := by
      rw [List.eq_replicate_iff]
      exact ⟨h, fun b hb => by simpa using List.all_eq_true.mp h2 b hb⟩
    simp [padLanes, h3]
  · exact padLanes_of_length d l h

theorem Stream.v_length (t : Stream) (r : Nat) : (t.v r).length = nLanes := padLanes_length _ _

theorem Stream.vStored_length (t : Stream) (r : Nat) : (t.vStored r).length = nLanes := padLanes_length _ _

theorem Stream.p_length (t : Stream) (r : Nat) : (t.p r).length = nLanes := by
  unfold Stream.p
  split
  · exact List.length_replicate
  · exact padLanes_length _ _

/-- What lane `k` sees. -/
def Stream.input (t : Stream) (i : Ins) (k : Nat) : LaneIn :=
  { lane := k, act := (t.p i.pred).getD k false != (i.pneg == 1), prd := (t.p i.pred).getD k false,
    a := ((t.v i.ra).getD k 0).toNat, sa := (t.vStored i.ra).getD k false,
    b := ((t.v i.rb).getD k 0).toNat, sb := (t.vStored i.rb).getD k false,
    c := ((t.v i.rc).getD k 0).toNat, sc := (t.vStored i.rc).getD k false,
    d := ((t.v i.rd).getD k 0).toNat, sd := (t.vStored i.rd).getD k false }

theorem Stream.inputs_length (t : Stream) (i : Ins) : (t.inputs i).length = nLanes := by
  simp [Stream.inputs, Stream.active, Stream.lanesOf, Stream.v_length, Stream.vStored_length, Stream.p_length]

theorem Stream.inputs_at (t : Stream) (i : Ins) {k : Nat} (hk : k < nLanes) : (t.inputs i)[k]? = some (t.input i k) := by
  have hv : ∀ r, k < (t.v r).length := fun r => by rw [Stream.v_length]; exact hk
  have hs : ∀ r, k < (t.vStored r).length := fun r => by rw [Stream.vStored_length]; exact hk
  have hp : k < (t.p i.pred).length := by rw [Stream.p_length]; exact hk
  rw [List.getElem?_eq_getElem (by rw [Stream.inputs_length]; exact hk)]
  simp [Stream.inputs, Stream.active, Stream.lanesOf, Stream.input, hv, hs, hp]

/-- A register written in the lanes that act. -/
theorem Stream.vmap_v (t : Stream) (i : Ins) (f : LaneIn → LaneVal) {k : Nat} (hk : k < nLanes) :
    ((t.vmap i f).1.v i.rd).getD k 0 = if (t.input i k).act then BitVec.ofNat 32 (f (t.input i k)).1
      else (t.v i.rd).getD k 0 := by
  unfold Stream.vmap Stream.v
  dsimp only
  rw [NTbl.at_put_same, padLanes_pack _ _ (by simp [Stream.inputs_length])]
  rw [List.getD_eq_getElem?_getD, List.getElem?_map, List.getElem?_map, Stream.inputs_at t i hk]
  simp only [Option.map_some, Option.getD_some]
  split
  · rfl
  · simp [Stream.input, Stream.v]

theorem Stream.vmap_other (t : Stream) (i : Ins) (f : LaneIn → LaneVal) {r : Nat} (h : r ≠ i.rd) :
    (t.vmap i f).1.v r = t.v r := by
  unfold Stream.vmap Stream.v
  dsimp only
  rw [NTbl.at_put_ne _ _ _ h]

theorem Stream.p_put (t : Stream) (r : Nat) (l : List Bool) (h : r ≠ 0) (hl : l.length = nLanes) :
    ({ t with pred := NTbl.put [] t.pred r (packLanes false l) } : Stream).p r = l := by
  unfold Stream.p
  rw [if_neg h, NTbl.at_put_same, padLanes_pack _ _ hl]

theorem Stream.pmap_pred (t : Stream) (i : Ins) (f : LaneIn → Bool × Nat) (h : i.rd ≠ 0) :
    (t.pmap i f).1 = { t with pred := NTbl.put [] t.pred i.rd (packLanes false ((((t.inputs i).zip (t.p i.rd)).map
      (fun x => if x.1.act then f x.1 else (x.2, 0))).map Prod.fst)) } := by
  unfold Stream.pmap
  dsimp only
  rw [if_neg h]

theorem Stream.pmap_zero (t : Stream) (i : Ins) (f : LaneIn → Bool × Nat) (h : i.rd = 0) : (t.pmap i f).1 = t := by
  unfold Stream.pmap
  dsimp only
  rw [if_pos h]

/-- A predicate written in the lanes that act; p0 stays. -/
theorem Stream.pmap_p (t : Stream) (i : Ins) (f : LaneIn → Bool × Nat) {k : Nat} (hk : k < nLanes) :
    ((t.pmap i f).1.p i.rd).getD k false = if i.rd = 0 then true
      else if (t.input i k).act then (f (t.input i k)).1 else (t.p i.rd).getD k false := by
  by_cases h : i.rd = 0
  · rw [if_pos h, h]
    simp [Stream.p, hk]
  · have hz : ((t.inputs i).zip (t.p i.rd))[k]? = some (t.input i k, (t.p i.rd).getD k false) := by
      rw [List.getElem?_zip_eq_some]
      refine ⟨Stream.inputs_at t i hk, ?_⟩
      rw [List.getD_eq_getElem?_getD, List.getElem?_eq_getElem (by rw [Stream.p_length]; exact hk)]
      rfl
    rw [if_neg h, Stream.pmap_pred t i f h, Stream.p_put t i.rd _ h (by
      simp only [List.length_map, List.length_zip, Stream.inputs_length, Stream.p_length, Nat.min_self])]
    rw [List.getD_eq_getElem?_getD, List.getElem?_map, List.getElem?_map, hz]
    simp only [Option.map_some, Option.getD_some]
    split <;> rfl

theorem Stream.pmap_other (t : Stream) (i : Ins) (f : LaneIn → Bool × Nat) {r : Nat} (h : r ≠ i.rd) :
    (t.pmap i f).1.p r = t.p r := by
  by_cases h0 : i.rd = 0
  · rw [Stream.pmap_zero t i f h0]
  · rw [Stream.pmap_pred t i f h0]
    unfold Stream.p
    dsimp only
    rw [NTbl.at_put_ne _ _ _ h]

end Sys2Proof.Machine
end

