-- ==== Sys2Proof/Laws/Memory.lean ====
section
/-! SUPPORT. Laws of stacked memory: a byte read after bytes are written, and that the operations keep the canonical
form. -/

namespace Sys2Proof.Machine

theorem Mem.putBytes_poison (b : Bytes) : ∀ (m : Mem) (pa : Nat), (m.putBytes pa b).poison = m.poison := by
  induction b with
  | nil => exact fun _ _ => rfl
  | cons x t ih => exact fun m pa => ih (m.putByte pa x) (pa + 1)

/-- A byte outside the bytes written is as before. -/
theorem Mem.putBytes_other (b : Bytes) : ∀ (m : Mem) (pa a : Nat), a < pa ∨ pa + b.length ≤ a →
    NTbl.at 0 (m.putBytes pa b).cells a = NTbl.at 0 m.cells a := by
  induction b with
  | nil => exact fun _ _ _ _ => rfl
  | cons x t ih =>
    intro m pa a h
    simp only [List.length_cons] at h
    rw [Mem.putBytes, ih _ _ _ (by omega), Mem.putByte]
    exact NTbl.at_put_ne 0 m.cells x (by omega)

/-- A byte inside the bytes written is the one written. -/
theorem Mem.putBytes_same (b : Bytes) : ∀ (m : Mem) (pa i : Nat) (h : i < b.length),
    NTbl.at 0 (m.putBytes pa b).cells (pa + i) = b[i] := by
  induction b with
  | nil => exact fun _ _ _ h => absurd h (by simp)
  | cons x t ih =>
    intro m pa i h
    cases i with
    | zero =>
      rw [Mem.putBytes, Mem.putBytes_other t _ _ _ (by omega), Mem.putByte]
      exact NTbl.at_put_same 0 m.cells pa x
    | succ j =>
      rw [Mem.putBytes, show pa + (j + 1) = (pa + 1) + j by omega]
      exact ih _ _ j (by simpa using h)

/-! ### The canonical form -/

theorem Memory.wf_putBytes (b : Bytes) : ∀ (m : Mem) (pa : Nat), Memory.wf m = true → Memory.wf (m.putBytes pa b) = true := by
  induction b with
  | nil => exact fun _ _ h => h
  | cons x t ih =>
    intro m pa h
    refine ih _ _ ?_
    simp only [Memory.wf, Bool.and_eq_true] at h ⊢
    exact ⟨NTbl.wf_put 0 m.cells pa x h.1, h.2⟩

theorem Memory.wf_tag (m : Mem) (t : NTbl (Option Nat)) : Memory.wf { m with tag := t } = Memory.wf m := rfl

theorem Memory.wf_setPoison (s : State) (line : Nat) (p : Bool) (h : Memory.wf s.mem = true) :
    Memory.wf (s.setPoison line p).mem = true := by
  simp only [Memory.wf, Bool.and_eq_true] at h ⊢
  exact ⟨h.1, NTbl.wf_put false s.mem.poison line p h.2⟩

theorem Memory.wf_freshen (s : State) (line : Nat) (h : Memory.wf s.mem = true) :
    Memory.wf (s.freshen line).mem = true := by
  unfold State.freshen
  dsimp only
  generalize s.memBytes (line * 64) 64 = b
  split
  · exact h
  · rw [Memory.wf_tag]
    exact Memory.wf_putBytes b s.mem (line * 64) h

theorem Memory.wf_storeIn (s : State) (pa : Nat) (b : Bytes) (h : Memory.wf s.mem = true) :
    Memory.wf (s.storeIn pa b).mem = true := by
  unfold State.storeIn
  dsimp only
  split
  · exact Memory.wf_putBytes b { s.mem with tag := _ } pa h
  · exact Memory.wf_putBytes b _ pa (Memory.wf_freshen s (pa / 64) h)

theorem Tbl.wf_filter {κ α : Type} [DecidableEq κ] [DecidableEq α] (lt : κ → κ → Bool) (d : κ → α) (p : κ × α → Bool)
    (t : Tbl κ α) (h : Tbl.wf lt d t = true) : Tbl.wf lt d (t.filter p) = true := by
  induction t with
  | nil => rfl
  | cons e t ih =>
    obtain ⟨k, v⟩ := e
    simp only [Tbl.wf, Bool.and_eq_true] at h
    by_cases hp : p (k, v) = true
    · simp only [List.filter_cons, hp, if_true, Tbl.wf, Bool.and_eq_true]
      refine ⟨⟨h.1.1, ?_⟩, ih h.2⟩
      have h12 := List.all_eq_true.mp h.1.2
      exact List.all_eq_true.mpr (fun x hx => h12 x (List.mem_filter.mp hx).1)
    · simp only [List.filter_cons, hp, if_false, Bool.false_eq_true]
      exact ih h.2

theorem Memory.wf_combClose (s : State) (line : Nat) : Memory.wf (s.combClose line).mem = Memory.wf s.mem := by
  unfold State.combClose
  split <;> rfl

/-- A granule written as zeros keeps the form. -/
theorem Memory.wf_zeroGran (s : State) (g inst : Nat) (h : Memory.wf s.mem = true) :
    Memory.wf (s.zeroGran g inst).mem = true := by
  have h := (foldl_leaves (fun s => Memory.wf s.mem) State.combClose
    ((s.mem.comb.map Prod.fst).filter (fun l => decide (lineGran l = g))) Memory.wf_combClose s).trans h
  unfold State.zeroGran State.combCloseGran
  generalize List.foldl State.combClose s _ = s1 at h ⊢
  simp only [Memory.wf, Bool.and_eq_true] at h ⊢
  exact ⟨Tbl.wf_filter natLt _ _ _ h.1, Tbl.wf_filter natLt _ _ _ h.2⟩

/-! ### Operations that keep the form -/

@[simp] theorem Memory.wf_setMsite (s : State) (n : Nat) (v : MSite) :
    Memory.wf (s.setMsite n v).mem = Memory.wf s.mem := rfl
@[simp] theorem Memory.wf_setChan (s : State) (n : Nat) (v : Chan) :
    Memory.wf (s.setChan n v).mem = Memory.wf s.mem := rfl
@[simp] theorem Memory.wf_setSched (s : State) (n : Nat) (v : Sched) :
    Memory.wf (s.setSched n v).mem = Memory.wf s.mem := rfl
@[simp] theorem Memory.wf_setGkey (s : State) (g idx inst : Nat) :
    Memory.wf (s.setGkey g idx inst).mem = Memory.wf s.mem := rfl
@[simp] theorem Memory.wf_llcDrop (s : State) (line : Nat) :
    Memory.wf (s.llcDrop line).mem = Memory.wf s.mem := rfl
@[simp] theorem Memory.wf_chanPush (s : State) (line kind cls port tag : Nat) :
    Memory.wf (s.chanPush line kind cls port tag).mem = Memory.wf s.mem := by
  unfold State.chanPush
  dsimp only
  split <;> rfl
@[simp] theorem Memory.wf_llcEvict (s : State) (line : Nat) : Memory.wf (s.llcEvict line).mem = Memory.wf s.mem := by
  unfold State.llcEvict
  split <;> simp
@[simp] theorem Memory.wf_llcRoom (s : State) (line : Nat) : Memory.wf (s.llcRoom line).mem = Memory.wf s.mem := by
  unfold State.llcRoom State.freeBelow
  dsimp only
  repeat' split
  all_goals simp
/-- A line that comes into its slice leaves memory's bytes and marks as they were. -/
@[simp] theorem Memory.wf_llcPut (s : State) (line : Nat) (d : Bool) :
    Memory.wf (s.llcPut line d).mem = Memory.wf s.mem := by
  have h : Memory.wf (if (NTbl.at none s.mem.llc line).isSome then s else s.llcRoom line).mem = Memory.wf s.mem := by
    split <;> simp
  rw [← h]
  rfl

@[simp] theorem State.mem_sheafStop (s : State) : s.sheafStop.mem = s.mem :=
  foldl_leaves State.mem _ _ (fun s x => by
    dsimp only [State.sheafIdle]; split <;> rfl) s

@[simp] theorem State.mem_rescale (s : State) (qs : List QPort) : (s.rescale qs).mem = s.mem := by
  unfold State.rescale
  dsimp only
  refine (foldl_leaves State.mem _ _ (fun s x => by split <;> simp) _).trans ?_
  exact foldl_leaves State.mem _ _ (fun s x => by split <;> simp) _

@[simp] theorem State.mem_capChanged (s : State) : s.capChanged.mem = s.mem := by
  simpa only [State.capChanged] using State.mem_rescale s s.qports

@[simp] theorem Memory.wf_updateCap (s : State) (n : Nat) : Memory.wf (s.updateCap n).mem = Memory.wf s.mem := by
  unfold State.updateCap
  dsimp only
  split <;> simp

@[simp] theorem State.mem_degMem (s : State) (n : Nat) : (s.degMem n).mem = s.mem := by
  unfold State.degMem State.setDeg
  split <;> simp

@[simp] theorem Memory.wf_uncorrRaise (s : State) (n line chan src : Nat) (sc : Scope) :
    Memory.wf (s.uncorrRaise n line chan src sc).mem = Memory.wf s.mem := by
  simp [State.uncorrRaise]

@[simp] theorem Memory.wf_uncorrEvent (s : State) (n line src : Nat) (sc : Scope) :
    Memory.wf (s.uncorrEvent n line src sc).mem = Memory.wf s.mem := by
  unfold State.uncorrEvent
  dsimp only
  split <;> simp

@[simp] theorem Memory.wf_uncorr (s : State) (line src : Nat) : Memory.wf (s.uncorr line src).mem = Memory.wf s.mem := by
  simp [State.uncorr]

@[simp] theorem Memory.wf_channelFail (s : State) (c cause : Nat) :
    Memory.wf (s.channelFail c cause).mem = Memory.wf s.mem := by
  unfold State.channelFail
  split
  · simp
  · dsimp only
    have h : Memory.wf (((s.lostReads c).setChan c { s.chan c with failed := true, repair := none }).setSched c
        { s.sched c with queue := [], draining := false }).mem = Memory.wf s.mem := rfl
    rw [← h]
    generalize ((s.lostReads c).setChan c _).setSched c _ = s1
    split <;> simp [State.chanLossRaise]

@[simp] theorem Memory.wf_notePin (s : State) (c pin : Nat) : Memory.wf (s.notePin c pin).mem = Memory.wf s.mem := by
  unfold State.notePin
  dsimp only
  split
  · exact rfl
  · split
    · rw [State.mem_wearAdd, State.mem_raise, State.mem_flag, Memory.wf_setChan]
      exact rfl
    · rw [Memory.wf_channelFail]
      exact rfl

@[simp] theorem Memory.wf_noteRow (s : State) (c line : Nat) : Memory.wf (s.noteRow c line).mem = Memory.wf s.mem := rfl

/-! ### The channels' queues -/

@[simp] theorem Memory.wf_chanUntil (s : State) (k : Nat) (stop : Sched → Bool) :
    Memory.wf (s.chanUntil k stop).mem = Memory.wf s.mem := rfl
@[simp] theorem Memory.wf_chansUntil (s : State) (stop : Sched → Bool) :
    Memory.wf (s.chansUntil stop).mem = Memory.wf s.mem := rfl

@[simp] theorem Memory.wf_chanServe (s : State) (line kind cls port tag : Nat) :
    Memory.wf (s.chanServe line kind cls port tag).mem = Memory.wf s.mem := by
  unfold State.chanServe
  dsimp only
  split
  · rw [Memory.wf_chanUntil, Memory.wf_chanPush]
  · exact Memory.wf_chanPush s line kind cls port tag

/-- ECC reads keep the form. -/
@[simp] theorem Memory.wf_eccRead (s : State) (line : Nat) (pins : List Nat) :
    Memory.wf (s.eccRead line pins).2.mem = Memory.wf s.mem := by
  unfold State.eccRead
  dsimp only
  split
  · exact rfl
  · split
    · split <;> exact rfl
    · split
      · split
        · exact rfl
        · refine (foldl_leaves (fun s => Memory.wf s.mem) _ _ (fun s p => Memory.wf_notePin s _ p) _).trans ?_
          split <;> simp
      · exact rfl

@[simp] theorem Memory.wf_spareWay (s : State) (n way : Nat) : Memory.wf (s.spareWay n way).mem = Memory.wf s.mem := by
  unfold State.spareWay
  dsimp only
  split
  · rw [State.mem_raise]
    exact rfl
  · simp [State.memFatal]

@[simp] theorem Memory.wf_llcErr (s : State) (n : Nat) (e : LineErr) : Memory.wf (s.llcErr n e).mem = Memory.wf s.mem := by
  unfold State.llcErr
  split
  · simp
  · split
    · exact rfl
    · dsimp only
      split
      · simp
      · exact rfl

@[simp] theorem State.mem_twinRepaired (s : State) (line copy : Nat) : (s.twinRepaired line copy).mem = s.mem := by
  simp [State.twinRepaired]

theorem Memory.wf_poisonOut (s : State) (line src : Nat) (h : Memory.wf s.mem = true) :
    Memory.wf (s.poisonOut line src).mem = true := by
  simpa [State.poisonOut] using Memory.wf_setPoison s line true h

theorem Memory.wf_twinRead (s : State) (errs : List LineErr) (line tl src : Nat) (h : Memory.wf s.mem = true) :
    Memory.wf (s.twinRead errs line tl src).2.mem = true := by
  unfold State.twinRead
  dsimp only
  have h1 : Memory.wf (s.eccRead tl (((errOf errs tl).map (·.pins)).getD [])).2.mem = true := by simpa using h
  generalize s.eccRead tl (((errOf errs tl).map (·.pins)).getD []) = r at h1
  obtain ⟨o, s1⟩ := r
  dsimp only at h1 ⊢
  have h2 : Memory.wf (if o = EccOut.bad then s1.setPoison tl true else s1).mem = true := by
    split
    · exact Memory.wf_setPoison s1 tl true h1
    · exact h1
  have h3 : Memory.wf ((s1.setPoison line false).storeIn (line * 64) (s1.memBytes (tl * 64) 64)).mem = true :=
    Memory.wf_storeIn _ _ _ (Memory.wf_setPoison s1 line false h1)
  cases o <;> dsimp only
  all_goals first
    | exact Memory.wf_poisonOut _ _ _ h2
    | (split
       · simpa using h1
       · simpa using h3)

/-- A read of a line keeps the form. -/
theorem Memory.wf_readLine (s : State) (line : Nat) (errs : List LineErr) (src cls port tag : Nat)
    (h : Memory.wf s.mem = true) : Memory.wf (s.readLine line errs src cls port tag).2.mem = true := by
  unfold State.readLine
  dsimp only
  split
  · have h1 : Memory.wf (s.llcErr (s.home (line * 64)) ((errOf errs line).getD { line := line })).mem = true := by
      simpa using h
    generalize s.llcErr (s.home (line * 64)) ((errOf errs line).getD { line := line }) = s1 at h1
    repeat' split
    all_goals first
      | exact h1
      | exact Memory.wf_twinRead _ _ _ _ _ h1
      | exact Memory.wf_twinRead _ _ _ _ _ (Memory.wf_poisonOut _ _ _ h1)
      | exact Memory.wf_poisonOut _ _ _ h1
  · have h1 : Memory.wf ((s.chanServe line 0 cls port tag).eccRead line
        (((errOf errs line).map (·.pins)).getD [])).2.mem = true := by simpa using h
    generalize (s.chanServe line 0 cls port tag).eccRead line (((errOf errs line).map (·.pins)).getD []) = r at h1
    obtain ⟨o, s1⟩ := r
    dsimp only at h1 ⊢
    have h2 : Memory.wf (s1.llcPut line false).mem = true := by simpa using h1
    generalize s1.llcPut line false = s2 at h2
    repeat' split
    all_goals first
      | exact h2
      | exact Memory.wf_twinRead _ _ _ _ _ h2
      | exact Memory.wf_poisonOut _ _ _ h2

theorem Memory.wf_writeCopy (s : State) (pa : Nat) (b : Bytes) (pois : Bool) (errs : List LineErr) (src cls : Nat)
    (h : Memory.wf s.mem = true) : Memory.wf (s.writeCopy pa b pois errs src cls).mem = true := by
  unfold State.writeCopy
  dsimp only
  have h1 := Memory.wf_readLine s (pa / 64) errs src cls 31 0 h
  repeat' split
  all_goals first
    | exact h
    | exact Memory.wf_setPoison _ _ _ h
    | exact Memory.wf_storeIn _ _ _ (Memory.wf_setPoison _ _ _ h)
    | exact h1
    | exact Memory.wf_storeIn _ _ _ h1

/-- A write inside one line keeps the form. -/
theorem Memory.wf_writeLine (s : State) (pa : Nat) (b : Bytes) (pois : Bool) (errs : List LineErr) (cls : Nat)
    (h : Memory.wf s.mem = true) : Memory.wf (s.writeLine pa b pois errs cls).mem = true := by
  unfold State.writeLine
  dsimp only
  rw [Memory.wf_llcPut]
  have h1 := Memory.wf_writeCopy (s.combClose (pa / 64)) pa b pois errs srcMerge cls (by rw [Memory.wf_combClose]; exact h)
  split
  · exact Memory.wf_writeCopy _ _ _ _ _ _ _ h1
  · exact h1

/-- A write of any length keeps the form. -/
theorem Memory.wf_memWrite (s : State) (pa : Nat) (b : Bytes) (pois : Nat) (errs : List LineErr) (cls : Nat)
    (h : Memory.wf s.mem = true) : Memory.wf (s.memWrite pa b pois errs cls).mem = true :=
  foldl_keeps (fun s => Memory.wf s.mem = true) _ _ (fun s _ h => Memory.wf_writeLine s _ _ _ _ _ h) s h

/-- A read of any length keeps the form. -/
theorem Memory.wf_memRead (s : State) (pa n : Nat) (errs : List LineErr) (src cls port tag : Nat) (joined : List (Nat × Bool))
    (h : Memory.wf s.mem = true) : Memory.wf (s.memRead pa n errs src cls port tag joined).2.2.mem = true := by
  unfold State.memRead
  dsimp only
  suffices hl : ∀ (l : List Nat) (a : List Nat × State), Memory.wf a.2.mem = true → Memory.wf (l.foldl (fun a l =>
      let (p, s') := match joined.find? (fun j => j.1 == l) with
        | some j => (j.2, a.2)
        | none => a.2.readLine l errs src cls port tag
      (if p then a.1 ++ [l] else a.1, s')) a).2.mem = true from hl _ ([], s) h
  intro l
  induction l with
  | nil => exact fun _ h => h
  | cons x l ih =>
    intro a ha
    refine ih _ ?_
    dsimp only
    cases joined.find? (fun j => j.1 == x) with
    | some j => exact ha
    | none => exact Memory.wf_readLine a.2 x errs src cls port tag ha

/-- A granule returned to the operator, and one made common, keep the form. -/
theorem Memory.wf_toOperator (s : State) (g : Nat) (h : Memory.wf s.mem = true) : Memory.wf (s.toOperator g).mem = true :=
  Memory.wf_zeroGran _ _ _ h

theorem Memory.wf_makeCommon (s : State) (g : Nat) (h : Memory.wf s.mem = true) :
    Memory.wf (s.makeCommon g).mem = true := by
  unfold State.makeCommon
  dsimp only
  refine Memory.wf_zeroGran _ _ _ ?_
  rw [Memory.wf_setGkey]
  split <;> exact h

/-- A copy of a common granule to its twin keeps the form. -/
theorem Memory.wf_copyGran (s : State) (g t : Nat) (h : Memory.wf s.mem = true) : Memory.wf (s.copyGran g t).mem = true := by
  unfold State.copyGran
  dsimp only
  refine foldl_keeps (fun s => Memory.wf s.mem = true) _ _ (fun s _ h => Memory.wf_setPoison _ _ _ h) _ ?_
  refine foldl_keeps (fun s => Memory.wf s.mem = true) _ _ (fun s c h => ?_) _ (Memory.wf_zeroGran _ _ _ h)
  exact Memory.wf_putBytes [c.2] s.mem _ h

theorem reset_memory_wf : Memory.wf State.reset.mem = true := rfl

end Sys2Proof.Machine
end

