-- ==== Sys2Proof/Laws/Orders.lean ====
section
/-! SUPPORT. Laws of work orders: what the shared operation behind every order's row does. -/

namespace Sys2Proof.Machine

/-- Where no unit serves a LANE order, a claim waits for none (03 R116). -/
theorem State.claimWaits_idle {s : State} {e q : Nat} (h : s.unitsIdle e = true) : (s.claimTake e q).claimWaits e = false := by
  have hs : ((s.claimTake e q).eng e).streams = (s.eng e).streams.map (fun x => (x.1, x.2.map (fun t =>
      { t with held := !t.ended && ((decide ((s.eng e).claim = some (q, s.qhead e q)) && t.held)
        || decide (Config.free (s.freeCtr + x.1) % 2 = 1)) }))) := by
    simp [State.claimTake, State.eng, State.setEng]
  unfold State.claimWaits
  rw [hs, List.any_map, List.any_eq_false]
  intro x hx
  have h1 := List.all_eq_true.mp h x hx
  obtain ⟨u, o⟩ := x
  cases o with
  | none => simp
  | some t =>
    have ht : t.ended = true := h1
    simp [ht]

/-- What an order's opcode makes of it, its writes that overlap its inputs left open (04 R148). -/
theorem State.order_starts {e q opc : Nat} {w : Wo} {s s1 : State} (body : Body) (h : s.mayStart e q opc w s1) :
    s.order e q opc body
      = (State.openOuts (body w (s.freshRun e q w) (s1.starts e q w)) w.inputs).2.startRun e
          (State.openOuts (body w (s.freshRun e q w) (s1.starts e q w)) w.inputs).1 := by
  obtain ⟨h1, h2, ⟨f, h3, h4⟩, h5, h6, h7, h8, h9, h10, h11⟩ := h
  have hw : w = Wo.parse f.data := by
    have h := congrArg (fun x => x.2.1) h3
    have hf := congrArg (fun x => x.1) h3
    dsimp only at h hf
    simp only [State.fetchOrder] at h hf
    rw [← h, hf, if_pos h4]
  have hop : leAt w.raw 0 1 = opc := by rw [← h6, hw]; rfl
  have hraw : f.data = w.raw := by rw [hw]; rfl
  have hc : (w.claims && (if w.claims = true then s1.claimTake e q else s1).claimWaits e) = false := by
    cases h : w.claims with
    | false => rfl
    | true => simpa using State.claimWaits_idle (h10 h)
  unfold State.order
  rw [h1, h2, h3]
  simp only [h4, h5, h6, h7, h8, h9, h11, hc, stOk, State.freshRun, State.starts, hop, hraw]
  simp

/-- A row whose queue is closed does nothing. -/
theorem State.order_waits {e q opc : Nat} {s : State} (body : Body)
    (h : s.engRuns e = false ∨ s.queueOpen e q = false) : s.order e q opc body = s := by
  unfold State.order
  rw [if_pos]
  rcases h with h | h <;> simp [h]

/-- A row whose order's fetch waits at a home waits there. -/
theorem State.order_stalls {e q opc : Nat} {s : State} (body : Body) (h1 : s.engRuns e = true)
    (h2 : s.queueOpen e q = true) (h : (s.fetchOrder e q).2.2.coh.stall ≠ []) :
    s.order e q opc body = (s.fetchOrder e q).2.2 := by
  unfold State.order
  rw [h1, h2]
  simp [h]

/-- A started order joins the running orders of its engine; no other engine's change. -/
@[simp] theorem State.beginRun_mem (s : State) (e : Nat) (r : Run) : (s.beginRun e r).mem = s.mem := by
  unfold State.beginRun
  dsimp only
  repeat' split
  all_goals rfl

theorem State.beginRun_runs (s : State) (e : Nat) (r : Run) : ((s.beginRun e r).eng e).runs = (s.eng e).runs ++ [r] := by
  unfold State.beginRun
  dsimp only
  repeat' split
  all_goals simp [State.eng, State.setEng, State.setF]

theorem State.beginRun_other (s : State) (e k : Nat) (r : Run) (h : k ≠ e) : (s.beginRun e r).eng k = s.eng k := by
  unfold State.beginRun
  dsimp only
  repeat' split
  all_goals simp [State.eng, State.setEng, State.setF, NTbl.at_put_ne _ _ _ h]

end Sys2Proof.Machine
end

