-- ==== Sys2Proof/Laws/Regs.lean ====
section
/-! SUPPORT. Laws of register accesses: a write that meets no refusal ends in what its register's chapter gives it, a
refused or malformed one changes no register. -/

namespace Sys2Proof.Machine

/-- Where no probe matches a packet, meeting the probes changes nothing (16 R589). -/
theorem State.observe_unprobed {s : State} {p : Pkt} (h : ∀ k, k < 16 → s.probeMatches k p = false) : s.observe p = s := by
  have : ∀ l : List Nat, (∀ k, k ∈ l → k < 16) →
      l.foldl (fun s k => if s.probeMatches k p then s.probeHit k p else s) s = s := by
    intro l
    induction l with
    | nil => exact fun _ => rfl
    | cons k l ih =>
      intro hl
      rw [List.foldl_cons, h k (hl k (List.mem_cons_self ..))]
      exact ih (fun j hj => hl j (List.mem_cons_of_mem _ hj))
  exact this _ (fun k hk => List.mem_range.1 hk)

/-- A request that leaves its port unseen by a probe changes the port's window, what its command waits for and has sent, and
the counter of free values, and nothing else (07 R263, R281). -/
theorem State.unitIssue_unprobed {s : State} {src : Src} {pa len : Nat} {w : Bool} (h : ∀ k, k < 16 →
      s.probeMatches k (s.unitIssue src pa len w).1.pkt = false) :
    ∃ m c f, (s.unitIssue src pa len w).2 = { s with mesh := m, coh := c, freeCtr := f } := by
  have hq : ∀ (r : UnitReq) (t : State), (∀ k, k < 16 → s.probeMatches k r.pkt = false) → t.flds = s.flds →
      t.observe r.pkt = t := fun r t h hf => State.observe_unprobed (fun k hk => by
    have := h k hk
    simp only [State.probeMatches, State.f, hf] at this ⊢
    exact this)
  unfold State.unitIssue at h ⊢
  revert h
  simp only [State.freshTag, State.freeBelow, State.stallOn, State.useWindow, State.setQport]
  split
  · exact fun _ => ⟨_, _, _, rfl⟩
  · split
    · intro h
      rw [hq _ _ h ?_]
      · exact ⟨_, _, _, rfl⟩
      · rfl
    · split
      · exact fun _ => ⟨_, _, _, rfl⟩
      · intro h
        rw [hq _ _ h ?_]
        · exact ⟨_, _, _, rfl⟩
        · rfl

/-- A write that meets no refusal reaches its register. -/
theorem State.regWrite_lets {s : State} {m : Master} {r : Reg} {i j off v : Nat} (h : s.lets m r i j off v) :
    s.ctlWrite m (ctlBase + off) 8 v = s.regApply m r i j off v := by
  obtain ⟨-, h2, h3, h4, h7, h8, h9⟩ := h
  have hd : s.debugMark m off = s := by simp [State.debugMark, h7]
  have h5 : ¬(off % 8 ≠ 0 ∨ 8 ≠ 8) := by omega
  unfold State.ctlWrite
  rw [h2]
  dsimp only
  rw [hd]
  unfold State.regWrite
  rw [if_neg h5, h4]
  dsimp only
  rw [h8]
  dsimp only
  rw [h9, if_neg Bool.false_ne_true]

/-- An address of the control space is mapped. -/
theorem target_of_ctlOff {pa off : Nat} (h : ctlOff pa = some off) : target pa ≠ .unmapped := by
  intro hn
  simp [ctlOff, hn] at h

/-- A write that reaches the control space ends with what its register does. -/
theorem State.sendWrite_sends {s0 s t : State} {m : Master} {q : UnitReq} {off len v st : Nat}
    (h : s0.sends m off len true q s) (hc : ctlOff (ctlBase + off) = some off)
    (ht : s.ctlWrite m (ctlBase + off) len v = (st, t)) :
    s0.sendWrite m (ctlBase + off) len v = t.wrote q m st := by
  obtain ⟨h1, h2, h3, h4, h5⟩ := h
  have ha : s0.askWrite m (ctlBase + off) len v = (st, t.unitDone q (if st = hOk then stOk else stTarget) []) := by
    simp only [State.askWrite, State.ctlAccess, if_neg (target_of_ctlOff hc), h3, h4, if_neg h5, ht, Bool.false_eq_true,
      if_false]
  simp only [State.sendWrite, h1, h2, ha, Bool.not_true, Bool.false_eq_true, if_false]
  rfl

/-- A read that reaches the control space answers what its register gives. -/
theorem State.sendRead_sends {s0 s t : State} {m : Master} {q : UnitReq} {off len v st : Nat}
    (h : s0.sends m off len false q s) (hc : ctlOff (ctlBase + off) = some off)
    (ht : s.ctlRead m (ctlBase + off) len = (st, v, t)) :
    s0.sendRead m (ctlBase + off) len = t.told q m st v := by
  obtain ⟨h1, h2, h3, h4, h5⟩ := h
  have ha : s0.askRead m (ctlBase + off) len = (st, v, t.unitDone q (if st = hOk then stOk else stTarget) []) := by
    simp only [State.askRead, State.ctlAccess, if_neg (target_of_ctlOff hc), h3, h4, if_neg h5, ht, Bool.false_eq_true,
      if_false]
  simp only [State.sendRead, h1, h2, ha, Bool.not_true, Bool.false_eq_true, if_false]
  rfl

/-- A register command that meets no refusal ends in what its register's chapter gives it, and the master is told. -/
theorem State.regSend_lets {s0 s t : State} {m : Master} {q : UnitReq} {r : Reg} {i j off v st : Nat}
    (h : s0.sends m off 8 true q s) (hl : s.lets m r i j off v) (ht : s.regApply m r i j off v = (st, t)) :
    s0.regSend m r i j v = t.wrote q m st := by
  have h1 := State.sendWrite_sends h hl.2.1 ((State.regWrite_lets hl).trans ht)
  unfold State.regSend
  rw [hl.1]
  exact h1

/-- A refused write changes no register. -/
theorem State.regWrite_refused {s : State} {m : Master} {r : Reg} {i j off v st : Nat} (h3 : off % 8 = 0)
    (h4 : locate off = some (r, i, j)) (h8 : s.writeRefusal m r i j off v = some st) :
    s.regWrite m off 8 v = (st, s) := by
  have h5 : ¬(off % 8 ≠ 0 ∨ 8 ≠ 8) := by omega
  unfold State.regWrite
  rw [if_neg h5, h4]
  dsimp only
  rw [h8]

/-- The offset and the instance bounds of a register that a write reaches. -/
theorem State.lets_off {s : State} {m : Master} {r : Reg} {i j off v : Nat} (h : s.lets m r i j off v) :
    off = (regRow r).base + i * (regRow r).s1 + j * (regRow r).s2 ∧ i < (regRow r).n1 ∧ j < (regRow r).n2 := by
  have h1 := h.1
  unfold regAddr at h1
  dsimp only at h1
  split at h1
  · rename_i hb
    injection h1 with h2
    exact ⟨by omega, hb⟩
  · cases h1

/-- Which part of the control space takes a write: global, control complex, clock and power registers. -/
theorem State.regApply_write0 {s : State} {m : Master} {r : Reg} {i j off v : Nat}
    (h : off / 2 ^ 24 = 0 ∨ off / 2 ^ 24 = 9 ∨ off / 2 ^ 24 = 11) : s.regApply m r i j off v = s.write0 r i j v := by
  unfold State.regApply
  dsimp only
  rw [if_neg (by omega), if_pos (by omega)]

/-- Engine and memory registers. -/
theorem State.regApply_write1 {s : State} {m : Master} {r : Reg} {i j off v : Nat}
    (h : off / 2 ^ 24 = 1 ∨ off / 2 ^ 24 = 2) : s.regApply m r i j off v = s.write1 r i j v := by
  unfold State.regApply
  dsimp only
  rw [if_pos (by omega)]

/-- Site, mesh, Ethernet and Sheaf registers. -/
theorem State.regApply_write3 {s : State} {m : Master} {r : Reg} {i j off v : Nat}
    (h : off / 2 ^ 24 = 3 ∨ off / 2 ^ 24 = 6 ∨ (off / 2 ^ 24 = 4 ∧ off < 0x04800000)) :
    s.regApply m r i j off v = s.write3 r i j v := by
  unfold State.regApply
  dsimp only
  rw [if_neg (by omega), if_neg (by omega), if_pos (by omega)]

/-- Headland, tally, security and telemetry registers. -/
theorem State.regApply_write7 {s : State} {m : Master} {r : Reg} {i j off v : Nat}
    (h : off / 2 ^ 24 = 5 ∨ off / 2 ^ 24 = 7 ∨ off / 2 ^ 24 = 8 ∨ off / 2 ^ 24 = 10 ∨ 12 ≤ off / 2 ^ 24
      ∨ (off / 2 ^ 24 = 4 ∧ 0x04800000 ≤ off)) : s.regApply m r i j off v = s.write7 m r i j v := by
  unfold State.regApply
  dsimp only
  rw [if_neg (by omega), if_neg (by omega), if_neg (by omega)]

end Sys2Proof.Machine
end

