-- ==== Sys2Proof/Laws/Park.lean ====
section
/-! SUPPORT. Commands of the hub's own units that may wait at a home: what the shared operation behind them does, and what
arming and disarming a command leaves (log 21). -/

namespace Sys2Proof.Machine

/-- A command of a unit that may run comes to what its effect gives, or waits. -/
theorem parkIf_runs {c : Instr} {key : ParkKey} {f : State → Res} {s t : State} (h : s.unheld key) (hf : f s.arm = .next t) :
    parkIf c key.no f s = .next (s.orPark c key t) := by
  obtain ⟨h1, h2⟩ := h
  have h3 : s.coh.parked.any (fun p => p.key == key.no) = false := by simpa using h2
  unfold State.arm at hf
  unfold parkIf State.orPark
  rw [h1]
  dsimp only
  rw [h3, hf]
  simp

/-- A command behind an earlier one of its key waits with it. -/
theorem parkIf_behind {c : Instr} {key : ParkKey} {f : State → Res} {s : State} (h1 : s.coh.resuming = none) (p : Parked)
    (h2 : p ∈ s.coh.parked) (h3 : p.key = key.no) : parkIf c key.no f s = .next (s.park c key.no [] []) := by
  have h4 : s.coh.parked.any (fun p => p.key == key.no) = true := List.any_eq_true.mpr ⟨p, h2, by simp [h3]⟩
  unfold parkIf
  rw [h1]
  dsimp only
  rw [h4]
  rfl

/-- Where no home has anything to wait for, the command has its effect. -/
theorem State.orPark_idle {s t : State} {c : Instr} {key : ParkKey} (h : s.homesIdle = true) : s.orPark c key t = t.cohClear :=
  if_pos (Or.inl h)

/-- What a command that may wait comes to says both of what it completes with and of where it waits. -/
theorem State.comes_of {s t : State} {c p : Instr} {key : ParkKey} (h : exec c s = .next (s.orPark p key t)) :
    s.comes c p key t := ⟨fun hi => by rw [h, State.orPark_idle hi], h⟩

/-- What the row's meaning must give for its command to come to a state. -/
theorem State.comesTo_of {s t : State} {c : Instr} {key : ParkKey} {f : State → Res} (h : exec c s = parkIf c key.no f s)
    (hf : f s.arm = .next t) : s.comesTo c key t := fun hu => State.comes_of (by rw [h, parkIf_runs hu hf])

/-- Without a wait the command has its effect. -/
theorem State.orPark_done {s t : State} {c : Instr} {key : ParkKey} (h : t.coh.stall = []) : s.orPark c key t = t.cohClear :=
  if_pos (Or.inr h)

/-- With one it has none yet. -/
theorem State.orPark_waits {s t : State} {c : Instr} {key : ParkKey} (hi : s.homesIdle = false) (h : t.coh.stall ≠ []) :
    s.orPark c key t = (s.issuedOf t).park c key.no t.coh.stall t.coh.spent := if_neg (by simp [hi, h])

/-- A register command that may wait comes to what its register's chapter gives it, or waits. -/
theorem State.regWait_lets {s0 s t : State} {m : Master} {q : UnitReq} {r : Reg} {i j off v st : Nat}
    (hu : s0.unheld (.ofMaster m)) (h : s0.arm.sends m off 8 true q s) (hl : s.lets m r i j off v) (hv : v < 2 ^ 64)
    (ht : s.regApply m r i j off v = (st, t)) :
    s0.regWait m r i j v
      = .next (s0.orPark (.registerWrite m (ctlBase + off) 8 (BitVec.ofNat 64 v)) (.ofMaster m) (t.wrote q m st)) := by
  have h1 := State.regSend_lets h hl ht
  obtain ⟨ha, -⟩ := hl
  have hn : (BitVec.ofNat 64 v).toNat = v := by simpa using Nat.mod_eq_of_lt hv
  unfold State.regSend at h1
  rw [ha] at h1
  unfold State.regWait
  rw [ha]
  refine parkIf_runs hu ?_
  rw [hn]
  exact congrArg Host.Outcome.next h1

/-! ### What the marks of a waiting command leave -/

@[simp] theorem State.flds_arm (s : State) : s.arm.flds = s.flds := rfl
@[simp] theorem State.rwl_arm (s : State) : s.arm.rwl = s.rwl := rfl
@[simp] theorem State.aon_arm (s : State) : s.arm.aon = s.aon := rfl
@[simp] theorem State.fuses_arm (s : State) : s.arm.fuses = s.fuses := rfl
@[simp] theorem State.units_arm (s : State) : s.arm.units = s.units := rfl
@[simp] theorem State.umReady_arm (s : State) : s.arm.umReady = s.umReady := rfl
@[simp] theorem State.umGen_arm (s : State) : s.arm.umGen = s.umGen := rfl
@[simp] theorem State.doms_arm (s : State) : s.arm.doms = s.doms := rfl
@[simp] theorem State.hl_arm (s : State) : s.arm.hl = s.hl := rfl
@[simp] theorem State.mem_arm (s : State) : s.arm.mem = s.mem := rfl
@[simp] theorem State.mesh_arm (s : State) : s.arm.mesh = s.mesh := rfl
@[simp] theorem State.sec_arm (s : State) : s.arm.sec = s.sec := rfl
@[simp] theorem State.boot_arm (s : State) : s.arm.boot = s.boot := rfl
@[simp] theorem State.engs_arm (s : State) : s.arm.engs = s.engs := rfl
@[simp] theorem State.waits_arm (s : State) : s.arm.waits = s.waits := rfl
@[simp] theorem State.links_arm (s : State) : s.arm.links = s.links := rfl
@[simp] theorem State.eth_arm (s : State) : s.arm.eth = s.eth := rfl
@[simp] theorem State.sheaf_arm (s : State) : s.arm.sheaf = s.sheaf := rfl
@[simp] theorem State.pwr_arm (s : State) : s.arm.pwr = s.pwr := rfl
@[simp] theorem State.tel_arm (s : State) : s.arm.tel = s.tel := rfl
@[simp] theorem State.jtag_arm (s : State) : s.arm.jtag = s.jtag := rfl
@[simp] theorem State.mgmtIndex_arm (s : State) : s.arm.mgmtIndex = s.mgmtIndex := rfl
@[simp] theorem State.fallowUnit_arm (s : State) : s.arm.fallowUnit = s.fallowUnit := rfl
@[simp] theorem State.out_arm (s : State) : s.arm.out = s.out := rfl
@[simp] theorem State.now_arm (s : State) : s.arm.now = s.now := rfl
@[simp] theorem State.freeCtr_arm (s : State) : s.arm.freeCtr = s.freeCtr := rfl
@[simp] theorem State.pending_arm (s : State) : s.arm.pending = s.pending := rfl
@[simp] theorem State.f_arm (s : State) (f : Fid) (i j : Nat) : s.arm.f f i j = s.f f i j := rfl

@[simp] theorem State.flds_cohClear (s : State) : s.cohClear.flds = s.flds := rfl
@[simp] theorem State.rwl_cohClear (s : State) : s.cohClear.rwl = s.rwl := rfl
@[simp] theorem State.aon_cohClear (s : State) : s.cohClear.aon = s.aon := rfl
@[simp] theorem State.fuses_cohClear (s : State) : s.cohClear.fuses = s.fuses := rfl
@[simp] theorem State.units_cohClear (s : State) : s.cohClear.units = s.units := rfl
@[simp] theorem State.umReady_cohClear (s : State) : s.cohClear.umReady = s.umReady := rfl
@[simp] theorem State.umGen_cohClear (s : State) : s.cohClear.umGen = s.umGen := rfl
@[simp] theorem State.doms_cohClear (s : State) : s.cohClear.doms = s.doms := rfl
@[simp] theorem State.hl_cohClear (s : State) : s.cohClear.hl = s.hl := rfl
@[simp] theorem State.mem_cohClear (s : State) : s.cohClear.mem = s.mem := rfl
@[simp] theorem State.mesh_cohClear (s : State) : s.cohClear.mesh = s.mesh := rfl
@[simp] theorem State.sec_cohClear (s : State) : s.cohClear.sec = s.sec := rfl
@[simp] theorem State.boot_cohClear (s : State) : s.cohClear.boot = s.boot := rfl
@[simp] theorem State.engs_cohClear (s : State) : s.cohClear.engs = s.engs := rfl
@[simp] theorem State.waits_cohClear (s : State) : s.cohClear.waits = s.waits := rfl
@[simp] theorem State.links_cohClear (s : State) : s.cohClear.links = s.links := rfl
@[simp] theorem State.eth_cohClear (s : State) : s.cohClear.eth = s.eth := rfl
@[simp] theorem State.sheaf_cohClear (s : State) : s.cohClear.sheaf = s.sheaf := rfl
@[simp] theorem State.pwr_cohClear (s : State) : s.cohClear.pwr = s.pwr := rfl
@[simp] theorem State.tel_cohClear (s : State) : s.cohClear.tel = s.tel := rfl
@[simp] theorem State.jtag_cohClear (s : State) : s.cohClear.jtag = s.jtag := rfl
@[simp] theorem State.mgmtIndex_cohClear (s : State) : s.cohClear.mgmtIndex = s.mgmtIndex := rfl
@[simp] theorem State.fallowUnit_cohClear (s : State) : s.cohClear.fallowUnit = s.fallowUnit := rfl
@[simp] theorem State.out_cohClear (s : State) : s.cohClear.out = s.out := rfl
@[simp] theorem State.now_cohClear (s : State) : s.cohClear.now = s.now := rfl
@[simp] theorem State.freeCtr_cohClear (s : State) : s.cohClear.freeCtr = s.freeCtr := rfl
@[simp] theorem State.pending_cohClear (s : State) : s.cohClear.pending = s.pending := rfl
@[simp] theorem State.f_cohClear (s : State) (f : Fid) (i j : Nat) : s.cohClear.f f i j = s.f f i j := rfl

@[simp] theorem State.flds_stallOn (s : State) (l : List Want) : (s.stallOn l).flds = s.flds := rfl
@[simp] theorem State.rwl_stallOn (s : State) (l : List Want) : (s.stallOn l).rwl = s.rwl := rfl
@[simp] theorem State.aon_stallOn (s : State) (l : List Want) : (s.stallOn l).aon = s.aon := rfl
@[simp] theorem State.fuses_stallOn (s : State) (l : List Want) : (s.stallOn l).fuses = s.fuses := rfl
@[simp] theorem State.units_stallOn (s : State) (l : List Want) : (s.stallOn l).units = s.units := rfl
@[simp] theorem State.umReady_stallOn (s : State) (l : List Want) : (s.stallOn l).umReady = s.umReady := rfl
@[simp] theorem State.umGen_stallOn (s : State) (l : List Want) : (s.stallOn l).umGen = s.umGen := rfl
@[simp] theorem State.doms_stallOn (s : State) (l : List Want) : (s.stallOn l).doms = s.doms := rfl
@[simp] theorem State.hl_stallOn (s : State) (l : List Want) : (s.stallOn l).hl = s.hl := rfl
@[simp] theorem State.mem_stallOn (s : State) (l : List Want) : (s.stallOn l).mem = s.mem := rfl
@[simp] theorem State.mesh_stallOn (s : State) (l : List Want) : (s.stallOn l).mesh = s.mesh := rfl
@[simp] theorem State.sec_stallOn (s : State) (l : List Want) : (s.stallOn l).sec = s.sec := rfl
@[simp] theorem State.boot_stallOn (s : State) (l : List Want) : (s.stallOn l).boot = s.boot := rfl
@[simp] theorem State.engs_stallOn (s : State) (l : List Want) : (s.stallOn l).engs = s.engs := rfl
@[simp] theorem State.waits_stallOn (s : State) (l : List Want) : (s.stallOn l).waits = s.waits := rfl
@[simp] theorem State.links_stallOn (s : State) (l : List Want) : (s.stallOn l).links = s.links := rfl
@[simp] theorem State.eth_stallOn (s : State) (l : List Want) : (s.stallOn l).eth = s.eth := rfl
@[simp] theorem State.sheaf_stallOn (s : State) (l : List Want) : (s.stallOn l).sheaf = s.sheaf := rfl
@[simp] theorem State.pwr_stallOn (s : State) (l : List Want) : (s.stallOn l).pwr = s.pwr := rfl
@[simp] theorem State.tel_stallOn (s : State) (l : List Want) : (s.stallOn l).tel = s.tel := rfl
@[simp] theorem State.jtag_stallOn (s : State) (l : List Want) : (s.stallOn l).jtag = s.jtag := rfl
@[simp] theorem State.mgmtIndex_stallOn (s : State) (l : List Want) : (s.stallOn l).mgmtIndex = s.mgmtIndex := rfl
@[simp] theorem State.fallowUnit_stallOn (s : State) (l : List Want) : (s.stallOn l).fallowUnit = s.fallowUnit := rfl
@[simp] theorem State.out_stallOn (s : State) (l : List Want) : (s.stallOn l).out = s.out := rfl
@[simp] theorem State.now_stallOn (s : State) (l : List Want) : (s.stallOn l).now = s.now := rfl
@[simp] theorem State.freeCtr_stallOn (s : State) (l : List Want) : (s.stallOn l).freeCtr = s.freeCtr := rfl
@[simp] theorem State.pending_stallOn (s : State) (l : List Want) : (s.stallOn l).pending = s.pending := rfl
@[simp] theorem State.f_stallOn (s : State) (l : List Want) (f : Fid) (i j : Nat) : (s.stallOn l).f f i j = s.f f i j := rfl

@[simp] theorem State.stall_arm (s : State) : s.arm.coh.stall = s.coh.stall := rfl
@[simp] theorem State.stall_cohClear (s : State) : s.cohClear.coh.stall = [] := rfl
@[simp] theorem State.parked_arm (s : State) : s.arm.coh.parked = s.coh.parked := rfl
@[simp] theorem State.parked_cohClear (s : State) : s.cohClear.coh.parked = s.coh.parked := rfl
@[simp] theorem State.sf_arm (s : State) : s.arm.coh.sf = s.coh.sf := rfl
@[simp] theorem State.txns_arm (s : State) : s.arm.coh.txns = s.coh.txns := rfl

/-! ### Rails and reference clocks -/

@[simp] theorem State.flds_setRefclk (s : State) (n : Nat) (b : Bool) : (s.setRefclk n b).flds = s.flds := by
  unfold State.setRefclk
  split <;> rfl
@[simp] theorem State.rwl_setRefclk (s : State) (n : Nat) (b : Bool) : (s.setRefclk n b).rwl = s.rwl := by
  unfold State.setRefclk
  split <;> rfl
@[simp] theorem State.aon_setRefclk (s : State) (n : Nat) (b : Bool) : (s.setRefclk n b).aon = s.aon := by
  unfold State.setRefclk
  split <;> rfl
@[simp] theorem State.fuses_setRefclk (s : State) (n : Nat) (b : Bool) : (s.setRefclk n b).fuses = s.fuses := by
  unfold State.setRefclk
  split <;> rfl
@[simp] theorem State.units_setRefclk (s : State) (n : Nat) (b : Bool) : (s.setRefclk n b).units = s.units := by
  unfold State.setRefclk
  split <;> rfl
@[simp] theorem State.umReady_setRefclk (s : State) (n : Nat) (b : Bool) : (s.setRefclk n b).umReady = s.umReady := by
  unfold State.setRefclk
  split <;> rfl
@[simp] theorem State.umGen_setRefclk (s : State) (n : Nat) (b : Bool) : (s.setRefclk n b).umGen = s.umGen := by
  unfold State.setRefclk
  split <;> rfl
@[simp] theorem State.doms_setRefclk (s : State) (n : Nat) (b : Bool) : (s.setRefclk n b).doms = s.doms := by
  unfold State.setRefclk
  split <;> rfl
@[simp] theorem State.hl_setRefclk (s : State) (n : Nat) (b : Bool) : (s.setRefclk n b).hl = s.hl := by
  unfold State.setRefclk
  split <;> rfl
@[simp] theorem State.mem_setRefclk (s : State) (n : Nat) (b : Bool) : (s.setRefclk n b).mem = s.mem := by
  unfold State.setRefclk
  split <;> rfl
@[simp] theorem State.mesh_setRefclk (s : State) (n : Nat) (b : Bool) : (s.setRefclk n b).mesh = s.mesh := by
  unfold State.setRefclk
  split <;> rfl
@[simp] theorem State.sec_setRefclk (s : State) (n : Nat) (b : Bool) : (s.setRefclk n b).sec = s.sec := by
  unfold State.setRefclk
  split <;> rfl
@[simp] theorem State.boot_setRefclk (s : State) (n : Nat) (b : Bool) : (s.setRefclk n b).boot = s.boot := by
  unfold State.setRefclk
  split <;> rfl
@[simp] theorem State.engs_setRefclk (s : State) (n : Nat) (b : Bool) : (s.setRefclk n b).engs = s.engs := by
  unfold State.setRefclk
  split <;> rfl
@[simp] theorem State.waits_setRefclk (s : State) (n : Nat) (b : Bool) : (s.setRefclk n b).waits = s.waits := by
  unfold State.setRefclk
  split <;> rfl
@[simp] theorem State.coh_setRefclk (s : State) (n : Nat) (b : Bool) : (s.setRefclk n b).coh = s.coh := by
  unfold State.setRefclk
  split <;> rfl
@[simp] theorem State.eth_setRefclk (s : State) (n : Nat) (b : Bool) : (s.setRefclk n b).eth = s.eth := by
  unfold State.setRefclk
  split <;> rfl
@[simp] theorem State.sheaf_setRefclk (s : State) (n : Nat) (b : Bool) : (s.setRefclk n b).sheaf = s.sheaf := by
  unfold State.setRefclk
  split <;> rfl
@[simp] theorem State.pwr_setRefclk (s : State) (n : Nat) (b : Bool) : (s.setRefclk n b).pwr = s.pwr := by
  unfold State.setRefclk
  split <;> rfl
@[simp] theorem State.tel_setRefclk (s : State) (n : Nat) (b : Bool) : (s.setRefclk n b).tel = s.tel := by
  unfold State.setRefclk
  split <;> rfl
@[simp] theorem State.jtag_setRefclk (s : State) (n : Nat) (b : Bool) : (s.setRefclk n b).jtag = s.jtag := by
  unfold State.setRefclk
  split <;> rfl
@[simp] theorem State.mgmtIndex_setRefclk (s : State) (n : Nat) (b : Bool) : (s.setRefclk n b).mgmtIndex = s.mgmtIndex := by
  unfold State.setRefclk
  split <;> rfl
@[simp] theorem State.fallowUnit_setRefclk (s : State) (n : Nat) (b : Bool) : (s.setRefclk n b).fallowUnit = s.fallowUnit := by
  unfold State.setRefclk
  split <;> rfl
@[simp] theorem State.now_setRefclk (s : State) (n : Nat) (b : Bool) : (s.setRefclk n b).now = s.now := by
  unfold State.setRefclk
  split <;> rfl
@[simp] theorem State.freeCtr_setRefclk (s : State) (n : Nat) (b : Bool) : (s.setRefclk n b).freeCtr = s.freeCtr := by
  unfold State.setRefclk
  split <;> rfl
@[simp] theorem State.pending_setRefclk (s : State) (n : Nat) (b : Bool) : (s.setRefclk n b).pending = s.pending := by
  unfold State.setRefclk
  split <;> rfl

@[simp] theorem State.flds_setVolt (s : State) (r mv : Nat) : (s.setVolt r mv).flds = s.flds := rfl
@[simp] theorem State.rwl_setVolt (s : State) (r mv : Nat) : (s.setVolt r mv).rwl = s.rwl := rfl
@[simp] theorem State.aon_setVolt (s : State) (r mv : Nat) : (s.setVolt r mv).aon = s.aon := rfl
@[simp] theorem State.fuses_setVolt (s : State) (r mv : Nat) : (s.setVolt r mv).fuses = s.fuses := rfl
@[simp] theorem State.units_setVolt (s : State) (r mv : Nat) : (s.setVolt r mv).units = s.units := rfl
@[simp] theorem State.umReady_setVolt (s : State) (r mv : Nat) : (s.setVolt r mv).umReady = s.umReady := rfl
@[simp] theorem State.umGen_setVolt (s : State) (r mv : Nat) : (s.setVolt r mv).umGen = s.umGen := rfl
@[simp] theorem State.doms_setVolt (s : State) (r mv : Nat) : (s.setVolt r mv).doms = s.doms := rfl
@[simp] theorem State.hl_setVolt (s : State) (r mv : Nat) : (s.setVolt r mv).hl = s.hl := rfl
@[simp] theorem State.mem_setVolt (s : State) (r mv : Nat) : (s.setVolt r mv).mem = s.mem := rfl
@[simp] theorem State.mesh_setVolt (s : State) (r mv : Nat) : (s.setVolt r mv).mesh = s.mesh := rfl
@[simp] theorem State.sec_setVolt (s : State) (r mv : Nat) : (s.setVolt r mv).sec = s.sec := rfl
@[simp] theorem State.boot_setVolt (s : State) (r mv : Nat) : (s.setVolt r mv).boot = s.boot := rfl
@[simp] theorem State.engs_setVolt (s : State) (r mv : Nat) : (s.setVolt r mv).engs = s.engs := rfl
@[simp] theorem State.waits_setVolt (s : State) (r mv : Nat) : (s.setVolt r mv).waits = s.waits := rfl
@[simp] theorem State.coh_setVolt (s : State) (r mv : Nat) : (s.setVolt r mv).coh = s.coh := rfl
@[simp] theorem State.links_setVolt (s : State) (r mv : Nat) : (s.setVolt r mv).links = s.links := rfl
@[simp] theorem State.eth_setVolt (s : State) (r mv : Nat) : (s.setVolt r mv).eth = s.eth := rfl
@[simp] theorem State.sheaf_setVolt (s : State) (r mv : Nat) : (s.setVolt r mv).sheaf = s.sheaf := rfl
@[simp] theorem State.tel_setVolt (s : State) (r mv : Nat) : (s.setVolt r mv).tel = s.tel := rfl
@[simp] theorem State.jtag_setVolt (s : State) (r mv : Nat) : (s.setVolt r mv).jtag = s.jtag := rfl
@[simp] theorem State.mgmtIndex_setVolt (s : State) (r mv : Nat) : (s.setVolt r mv).mgmtIndex = s.mgmtIndex := rfl
@[simp] theorem State.fallowUnit_setVolt (s : State) (r mv : Nat) : (s.setVolt r mv).fallowUnit = s.fallowUnit := rfl
@[simp] theorem State.now_setVolt (s : State) (r mv : Nat) : (s.setVolt r mv).now = s.now := rfl
@[simp] theorem State.freeCtr_setVolt (s : State) (r mv : Nat) : (s.setVolt r mv).freeCtr = s.freeCtr := rfl
@[simp] theorem State.pending_setVolt (s : State) (r mv : Nat) : (s.setVolt r mv).pending = s.pending := rfl

end Sys2Proof.Machine
end

