-- ==== Sys2Proof/Tests/Slice0.lean ====
section
/-! SUPPORT. Tests: an ill-formed term for each check of WellFormed; for each statement a state and operands that meet its
hypotheses (wit_…), built from a module in service; and results worked out by hand from the rules or taken from the
manual's worked examples (test_…). -/

section Slice0Tests

set_option Elab.async false

open Sys2Proof

namespace Sys2Proof.Machine

/-! ### Ill-formed commands: each check of Instr.wf refuses a command that breaks it -/

/-- Structured operands that the checks accept, and one of each kind that they refuse. -/
def okFound : TestFound := { rows := 0, cols := [], ways := 0, beyond := false }
def badFound : TestFound := { okFound with ways := 17 }
def okReq : MeshReq := { id := 0, tag := 0, addr := 0, len := 64 }
def badReq : MeshReq := { okReq with id := 1024 }
def okFlit : SiteFlit := .bludric (List.replicate 272 0)
def badFlit : SiteFlit := .bludric []
def noAns : SiteAns := { data := [] }
def okTm : TmErr := { addr := 0, bad := true }
def badTm : TmErr := { okTm with addr := 0x3000000 }
def okParam : SiteParam :=
  { profile := 1, role := 0, version := 1, credits := [1, 1, 1, 1], widths := [3, 3, 3, 3, 3, 3],
    txLanes := [[], [], [], [], [], []], rxLanes := [[], [], [], [], [], []] }
def badParam : SiteParam := { okParam with credits := [] }
def okFrame : Frame := { fcsOk := true, fecOk := true, len := 64, dstMac := 0, srcMac := 0, vlan := none, body := .other }
def badFrame : Frame := { okFrame with len := 17 }
def okBth : Bth := { psn := 0, pos := .only, imm := none, va := 0, rkey := 0, dmaLen := 0, payload := [] }
def badBth : Bth := { okBth with psn := 2 ^ 24 }
def okDatagram : Datagram := { srcIp := 1, srcPort := 2, srcMac := 3, dstIp := 4, dest := .unicast, bytes := [] }
def badDatagram : Datagram := { okDatagram with srcPort := 65536 }

theorem test_wf_structures : wfFound okFound ∧ wfReq okReq ∧ wfFlit okFlit ∧ wfParam okParam ∧ wfFrame okFrame ∧ wfBth okBth
    ∧ wfDatagram okDatagram ∧ wfDirty none ∧ wfMaster (.onModule 1023) ∧ wfMaster (.onModule 1024) = false := by decide +kernel

theorem test_wf_found : wfFound { okFound with cols := List.replicate 65 0 } = false ∧ wfFound badFound = false := by
  decide +kernel

theorem test_wf_request : wfReq badReq = false ∧ wfReq { okReq with tag := 4096 } = false
    ∧ wfReq { okReq with addr := 2 ^ 52 } = false ∧ wfReq { okReq with len := 0 } = false
    ∧ wfReq { okReq with len := 513 } = false := by decide +kernel

theorem test_wf_flit : wfFlit badFlit = false ∧ wfFlit (.cxl 65536 0 true false []) = false
    ∧ wfFlit (.cxl 0 65536 true false []) = false ∧ wfFlit (.cxl 0 0 true false [{ op := .memRd }]) = true
    ∧ wfFlit (.cxl 0 0 true false [{ op := .memRd, addr := 2 ^ 52 }]) = false
    ∧ wfFlit (.cxl 0 0 true false [{ op := .memRd, len := 4097 }]) = false
    ∧ wfFlit (.cxl 0 0 true false [{ op := .memRd, tag := 4096 }]) = false
    ∧ wfFlit (.cxl 0 0 true false [{ op := .memRd, mval := 4 }]) = false := by decide +kernel

theorem test_wf_param : wfParam badParam = false ∧ wfParam { okParam with widths := [] } = false
    ∧ wfParam { okParam with widths := [4, 3, 3, 3, 3, 3] } = false ∧ wfParam { okParam with txLanes := [] } = false
    ∧ wfParam { okParam with rxLanes := [] } = false
    ∧ wfParam { okParam with rxLanes := [[64], [], [], [], [], []] } = false := by decide +kernel

theorem test_wf_frame : wfFrame { okFrame with dstMac := 2 ^ 48 } = false ∧ wfFrame { okFrame with srcMac := 2 ^ 48 } = false
    ∧ wfFrame badFrame = false := by decide +kernel

theorem test_wf_packet : wfBth badBth = false ∧ wfBth { okBth with va := 2 ^ 64 } = false
    ∧ wfBth { okBth with rkey := 2 ^ 32 } = false ∧ wfBth { okBth with dmaLen := 2 ^ 32 } = false := by decide +kernel

theorem test_wf_datagram : wfDatagram { okDatagram with srcIp := 2 ^ 128 } = false
    ∧ wfDatagram { okDatagram with dstIp := 2 ^ 128 } = false ∧ wfDatagram badDatagram = false
    ∧ wfDatagram { okDatagram with srcMac := 2 ^ 48 } = false := by decide +kernel

theorem test_wf_porstNRelease_to_siteDrainDone :
    (Instr.porstNRelease 8).wf = false
    ∧ (Instr.glbResetReq (.session 16) 0).wf = false
    ∧ (Instr.registerWrite (.session 16) 0 0 0).wf = false
    ∧ (Instr.registerWrite (.session 0) (2 ^ 52) 0 0).wf = false
    ∧ (Instr.readClear (.session 16) 0 0).wf = false
    ∧ (Instr.readClear (.session 0) (2 ^ 52) 0).wf = false
    ∧ (Instr.clkDomCfgWrite (.session 16) 0 0).wf = false
    ∧ (Instr.clkDomCfgWrite (.session 0) 25 0).wf = false
    ∧ (Instr.pllLock 25).wf = false
    ∧ (Instr.clkRelease (.session 16) 0).wf = false
    ∧ (Instr.startupTestDone 25 okFound).wf = false
    ∧ (Instr.startupTestDone 0 badFound).wf = false
    ∧ (Instr.clkUnlock 25).wf = false
    ∧ (Instr.ccWdtKick (.session 16) 0).wf = false
    ∧ (Instr.ccReady (.session 16) 0).wf = false
    ∧ (Instr.trainDone [] 256).wf = false
    ∧ (Instr.memInitStart (.session 16) 0).wf = false
    ∧ (Instr.engFault 8 0 false).wf = false
    ∧ (Instr.engFault 0 4 false).wf = false
    ∧ (Instr.engineFallow (.session 16) 0).wf = false
    ∧ (Instr.engineWake (.session 16) 0).wf = false
    ∧ (Instr.ceDrainLimitExpiry 8).wf = false
    ∧ (Instr.fenceComplete 30).wf = false
    ∧ (Instr.wakeTestDone 8 okFound).wf = false
    ∧ (Instr.wakeTestDone 0 badFound).wf = false
    ∧ (Instr.siteFallow (.session 16) 0).wf = false
    ∧ (Instr.siteWake (.session 16) 0).wf = false
    ∧ (Instr.siteDrainDone 8).wf = false := by
  decide +kernel

theorem test_wf_siteDrainLimitExpiry_to_matmul :
    (Instr.siteDrainLimitExpiry 8).wf = false
    ∧ (Instr.ceWqTail (.session 16) 0 0 0).wf = false
    ∧ (Instr.ceWqTail (.session 0) 8 0 0).wf = false
    ∧ (Instr.ceWqTail (.session 0) 0 16 0).wf = false
    ∧ (Instr.ceCqHead (.session 16) 0 0 0).wf = false
    ∧ (Instr.ceCqHead (.session 0) 8 0 0).wf = false
    ∧ (Instr.ceCqHead (.session 0) 0 16 0).wf = false
    ∧ (Instr.queueEnable (.session 16) 0 0 0).wf = false
    ∧ (Instr.queueEnable (.session 0) 8 0 0).wf = false
    ∧ (Instr.queueEnable (.session 0) 0 16 0).wf = false
    ∧ (Instr.queueDisable (.session 16) 0 0 0).wf = false
    ∧ (Instr.queueDisable (.session 0) 8 0 0).wf = false
    ∧ (Instr.queueDisable (.session 0) 0 16 0).wf = false
    ∧ (Instr.resume (.session 16) 0 0 0).wf = false
    ∧ (Instr.resume (.session 0) 8 0 0).wf = false
    ∧ (Instr.resume (.session 0) 0 16 0).wf = false
    ∧ (Instr.ceLpsData (.session 16) 0 none).wf = false
    ∧ (Instr.ceLpsData (.session 0) 8 none).wf = false
    ∧ (Instr.nop 8 0).wf = false
    ∧ (Instr.nop 0 16).wf = false
    ∧ (Instr.wait 8 0).wf = false
    ∧ (Instr.wait 0 16).wf = false
    ∧ (Instr.waitTimeout 8 0).wf = false
    ∧ (Instr.waitTimeout 0 16).wf = false
    ∧ (Instr.signal 8 0).wf = false
    ∧ (Instr.signal 0 16).wf = false
    ∧ (Instr.matmul 8 0 [] []).wf = false
    ∧ (Instr.matmul 0 16 [] []).wf = false
    ∧ (Instr.matmul 0 0 [] [badTm]).wf = false := by
  decide +kernel

theorem test_wf_matmulAcc_to_laneNop :
    (Instr.matmulAcc 8 0 [] []).wf = false
    ∧ (Instr.matmulAcc 0 16 [] []).wf = false
    ∧ (Instr.matmulAcc 0 0 [] [badTm]).wf = false
    ∧ (Instr.conv 8 0 [] []).wf = false
    ∧ (Instr.conv 0 16 [] []).wf = false
    ∧ (Instr.conv 0 0 [] [badTm]).wf = false
    ∧ (Instr.lane 8 0 []).wf = false
    ∧ (Instr.lane 0 16 []).wf = false
    ∧ (Instr.lane 0 0 [badTm]).wf = false
    ∧ (Instr.reduce 8 0 []).wf = false
    ∧ (Instr.reduce 0 16 []).wf = false
    ∧ (Instr.reduce 0 0 [badTm]).wf = false
    ∧ (Instr.copy 8 0 noAns []).wf = false
    ∧ (Instr.copy 0 16 noAns []).wf = false
    ∧ (Instr.copy 0 0 noAns [badTm]).wf = false
    ∧ (Instr.convert 8 0 noAns []).wf = false
    ∧ (Instr.convert 0 16 noAns []).wf = false
    ∧ (Instr.convert 0 0 noAns [badTm]).wf = false
    ∧ (Instr.transpose 8 0 []).wf = false
    ∧ (Instr.transpose 0 16 []).wf = false
    ∧ (Instr.transpose 0 0 [badTm]).wf = false
    ∧ (Instr.gather 8 0 []).wf = false
    ∧ (Instr.gather 0 16 []).wf = false
    ∧ (Instr.gather 0 0 [badTm]).wf = false
    ∧ (Instr.scatter 8 0 []).wf = false
    ∧ (Instr.scatter 0 16 []).wf = false
    ∧ (Instr.scatter 0 0 [badTm]).wf = false
    ∧ (Instr.prefetchLlc 8 0).wf = false
    ∧ (Instr.prefetchLlc 0 16).wf = false
    ∧ (Instr.writeback 8 0).wf = false
    ∧ (Instr.writeback 0 16).wf = false
    ∧ (Instr.workOrderComplete 8 0).wf = false
    ∧ (Instr.workOrderComplete 0 16).wf = false
    ∧ (Instr.laneStepLimit 8 0).wf = false
    ∧ (Instr.laneStepLimit 0 64).wf = false
    ∧ (Instr.laneNop 8 0).wf = false
    ∧ (Instr.laneNop 0 64).wf = false := by
  decide +kernel

theorem test_wf_fadd_to_iadds :
    (Instr.fadd 8 0).wf = false
    ∧ (Instr.fadd 0 64).wf = false
    ∧ (Instr.fsub 8 0).wf = false
    ∧ (Instr.fsub 0 64).wf = false
    ∧ (Instr.fmul 8 0).wf = false
    ∧ (Instr.fmul 0 64).wf = false
    ∧ (Instr.ffma 8 0).wf = false
    ∧ (Instr.ffma 0 64).wf = false
    ∧ (Instr.fmin 8 0).wf = false
    ∧ (Instr.fmin 0 64).wf = false
    ∧ (Instr.fmax 8 0).wf = false
    ∧ (Instr.fmax 0 64).wf = false
    ∧ (Instr.fcmp 8 0).wf = false
    ∧ (Instr.fcmp 0 64).wf = false
    ∧ (Instr.hadd 8 0).wf = false
    ∧ (Instr.hadd 0 64).wf = false
    ∧ (Instr.hmul 8 0).wf = false
    ∧ (Instr.hmul 0 64).wf = false
    ∧ (Instr.hfma 8 0).wf = false
    ∧ (Instr.hfma 0 64).wf = false
    ∧ (Instr.iadd 8 0).wf = false
    ∧ (Instr.iadd 0 64).wf = false
    ∧ (Instr.isub 8 0).wf = false
    ∧ (Instr.isub 0 64).wf = false
    ∧ (Instr.imul 8 0).wf = false
    ∧ (Instr.imul 0 64).wf = false
    ∧ (Instr.iadds 8 0).wf = false
    ∧ (Instr.iadds 0 64).wf = false := by
  decide +kernel

theorem test_wf_isubs_to_log2 :
    (Instr.isubs 8 0).wf = false
    ∧ (Instr.isubs 0 64).wf = false
    ∧ (Instr.and 8 0).wf = false
    ∧ (Instr.and 0 64).wf = false
    ∧ (Instr.or 8 0).wf = false
    ∧ (Instr.or 0 64).wf = false
    ∧ (Instr.xor 8 0).wf = false
    ∧ (Instr.xor 0 64).wf = false
    ∧ (Instr.shl 8 0).wf = false
    ∧ (Instr.shl 0 64).wf = false
    ∧ (Instr.shr 8 0).wf = false
    ∧ (Instr.shr 0 64).wf = false
    ∧ (Instr.sra 8 0).wf = false
    ∧ (Instr.sra 0 64).wf = false
    ∧ (Instr.icmp 8 0).wf = false
    ∧ (Instr.icmp 0 64).wf = false
    ∧ (Instr.cvt 8 0).wf = false
    ∧ (Instr.cvt 0 64).wf = false
    ∧ (Instr.rcp 8 0).wf = false
    ∧ (Instr.rcp 0 64).wf = false
    ∧ (Instr.rsqrt 8 0).wf = false
    ∧ (Instr.rsqrt 0 64).wf = false
    ∧ (Instr.sqrt 8 0).wf = false
    ∧ (Instr.sqrt 0 64).wf = false
    ∧ (Instr.exp2 8 0).wf = false
    ∧ (Instr.exp2 0 64).wf = false
    ∧ (Instr.log2 8 0).wf = false
    ∧ (Instr.log2 0 64).wf = false := by
  decide +kernel

theorem test_wf_movi_to_sor :
    (Instr.movi 8 0).wf = false
    ∧ (Instr.movi 0 64).wf = false
    ∧ (Instr.movs 8 0).wf = false
    ∧ (Instr.movs 0 64).wf = false
    ∧ (Instr.laneid 8 0).wf = false
    ∧ (Instr.laneid 0 64).wf = false
    ∧ (Instr.sel 8 0).wf = false
    ∧ (Instr.sel 0 64).wf = false
    ∧ (Instr.ld 8 0).wf = false
    ∧ (Instr.ld 0 64).wf = false
    ∧ (Instr.st 8 0).wf = false
    ∧ (Instr.st 0 64).wf = false
    ∧ (Instr.ldx 8 0).wf = false
    ∧ (Instr.ldx 0 64).wf = false
    ∧ (Instr.stx 8 0).wf = false
    ∧ (Instr.stx 0 64).wf = false
    ∧ (Instr.red 8 0).wf = false
    ∧ (Instr.red 0 64).wf = false
    ∧ (Instr.sadd 8 0).wf = false
    ∧ (Instr.sadd 0 64).wf = false
    ∧ (Instr.ssub 8 0).wf = false
    ∧ (Instr.ssub 0 64).wf = false
    ∧ (Instr.smul 8 0).wf = false
    ∧ (Instr.smul 0 64).wf = false
    ∧ (Instr.sand 8 0).wf = false
    ∧ (Instr.sand 0 64).wf = false
    ∧ (Instr.sor 8 0).wf = false
    ∧ (Instr.sor 0 64).wf = false := by
  decide +kernel

theorem test_wf_sxor_to_sst :
    (Instr.sxor 8 0).wf = false
    ∧ (Instr.sxor 0 64).wf = false
    ∧ (Instr.sshl 8 0).wf = false
    ∧ (Instr.sshl 0 64).wf = false
    ∧ (Instr.sshr 8 0).wf = false
    ∧ (Instr.sshr 0 64).wf = false
    ∧ (Instr.ssra 8 0).wf = false
    ∧ (Instr.ssra 0 64).wf = false
    ∧ (Instr.saddi 8 0).wf = false
    ∧ (Instr.saddi 0 64).wf = false
    ∧ (Instr.sshli 8 0).wf = false
    ∧ (Instr.sshli 0 64).wf = false
    ∧ (Instr.sshri 8 0).wf = false
    ∧ (Instr.sshri 0 64).wf = false
    ∧ (Instr.slui 8 0).wf = false
    ∧ (Instr.slui 0 64).wf = false
    ∧ (Instr.scmp 8 0).wf = false
    ∧ (Instr.scmp 0 64).wf = false
    ∧ (Instr.sfmin 8 0).wf = false
    ∧ (Instr.sfmin 0 64).wf = false
    ∧ (Instr.sfmax 8 0).wf = false
    ∧ (Instr.sfmax 0 64).wf = false
    ∧ (Instr.sfcmp 8 0).wf = false
    ∧ (Instr.sfcmp 0 64).wf = false
    ∧ (Instr.sld 8 0).wf = false
    ∧ (Instr.sld 0 64).wf = false
    ∧ (Instr.sst 8 0).wf = false
    ∧ (Instr.sst 0 64).wf = false := by
  decide +kernel

theorem test_wf_sldm_to_combWindowClose :
    (Instr.sldm 8 0 noAns).wf = false
    ∧ (Instr.sldm 0 64 noAns).wf = false
    ∧ (Instr.sstm 8 0).wf = false
    ∧ (Instr.sstm 0 64).wf = false
    ∧ (Instr.scpyin 8 0 noAns).wf = false
    ∧ (Instr.scpyin 0 64 noAns).wf = false
    ∧ (Instr.scpyout 8 0).wf = false
    ∧ (Instr.scpyout 0 64).wf = false
    ∧ (Instr.sfence 8 0).wf = false
    ∧ (Instr.sfence 0 64).wf = false
    ∧ (Instr.br 8 0).wf = false
    ∧ (Instr.br 0 64).wf = false
    ∧ (Instr.jmp 8 0).wf = false
    ∧ (Instr.jmp 0 64).wf = false
    ∧ (Instr.brany 8 0).wf = false
    ∧ (Instr.brany 0 64).wf = false
    ∧ (Instr.brall 8 0).wf = false
    ∧ (Instr.brall 0 64).wf = false
    ∧ (Instr.endStream 8 0).wf = false
    ∧ (Instr.endStream 0 64).wf = false
    ∧ (Instr.tallySignal (.session 16) 0 0).wf = false
    ∧ (Instr.tallySignal (.session 0) 4096 0).wf = false
    ∧ (Instr.tallyValue (.session 16) 0 0).wf = false
    ∧ (Instr.tallyValue (.session 0) 4096 0).wf = false
    ∧ (Instr.read badReq []).wf = false
    ∧ (Instr.write badReq [] 0 []).wf = false
    ∧ (Instr.uncorrIntervalEnd 8).wf = false
    ∧ (Instr.combWindowClose 8 0).wf = false := by
  decide +kernel

theorem test_wf_combWindowClose_to_rdOwn :
    (Instr.combWindowClose 0 (2 ^ 33)).wf = false
    ∧ (Instr.trackerGrant 8).wf = false
    ∧ (Instr.refresh 8 0 0).wf = false
    ∧ (Instr.refresh 0 32 0).wf = false
    ∧ (Instr.memTempReading 8 none).wf = false
    ∧ (Instr.patrolRead 8 0 []).wf = false
    ∧ (Instr.patrolRead 0 (2 ^ 33) []).wf = false
    ∧ (Instr.postPackageRepair 256 0 0 []).wf = false
    ∧ (Instr.memChFail 256 0).wf = false
    ∧ (Instr.memChFail 0 4).wf = false
    ∧ (Instr.memSiteFatal 8).wf = false
    ∧ (Instr.meshLinkRetry 4 0 false).wf = false
    ∧ (Instr.meshLinkRetry 0 65536 false).wf = false
    ∧ (Instr.meshPlaneFail 4).wf = false
    ∧ (Instr.meshTimeout 30 0).wf = false
    ∧ (Instr.meshTimeout 0 4096).wf = false
    ∧ (Instr.dataResponse 30 0 []).wf = false
    ∧ (Instr.dataResponse 0 4096 []).wf = false
    ∧ (Instr.completionResponse 30 0).wf = false
    ∧ (Instr.completionResponse 0 4096).wf = false
    ∧ (Instr.urgencyAge 30 0).wf = false
    ∧ (Instr.urgencyAge 0 4096).wf = false
    ∧ (Instr.qosCommitGo (.session 16) 0).wf = false
    ∧ (Instr.rdShared 9 0).wf = false
    ∧ (Instr.rdShared 0 (2 ^ 52)).wf = false
    ∧ (Instr.rdAny 9 0).wf = false
    ∧ (Instr.rdAny 0 (2 ^ 52)).wf = false
    ∧ (Instr.rdOwn 9 0).wf = false := by
  decide +kernel

theorem test_wf_rdOwn_to_rspE :
    (Instr.rdOwn 0 (2 ^ 52)).wf = false
    ∧ (Instr.rdOwnNodata 9 0).wf = false
    ∧ (Instr.rdOwnNodata 0 (2 ^ 52)).wf = false
    ∧ (Instr.rdCurr 9 0).wf = false
    ∧ (Instr.rdCurr 0 (2 ^ 52)).wf = false
    ∧ (Instr.wrInv 9 0 [0] false).wf = false
    ∧ (Instr.wrInv 0 (2 ^ 52) [0] false).wf = false
    ∧ (Instr.wrInv 0 0 [] false).wf = false
    ∧ (Instr.wrInv 0 63 [0, 0] false).wf = false
    ∧ (Instr.evictClean 9 0).wf = false
    ∧ (Instr.evictClean 0 (2 ^ 52)).wf = false
    ∧ (Instr.evictDirty 9 0 (List.replicate 64 0) false).wf = false
    ∧ (Instr.evictDirty 0 (2 ^ 52) (List.replicate 64 0) false).wf = false
    ∧ (Instr.evictDirty 0 0 [0] false).wf = false
    ∧ (Instr.grantAck 9 0).wf = false
    ∧ (Instr.grantAck 0 (2 ^ 52)).wf = false
    ∧ (Instr.rspI 9 0 0 none).wf = false
    ∧ (Instr.rspI 0 (2 ^ 33) 0 none).wf = false
    ∧ (Instr.rspI 0 0 4096 none).wf = false
    ∧ (Instr.rspI 0 0 0 (some [])).wf = false
    ∧ (Instr.rspS 9 0 0 none).wf = false
    ∧ (Instr.rspS 0 (2 ^ 33) 0 none).wf = false
    ∧ (Instr.rspS 0 0 4096 none).wf = false
    ∧ (Instr.rspS 0 0 0 (some [])).wf = false
    ∧ (Instr.rspE 9 0 0 none).wf = false
    ∧ (Instr.rspE 0 (2 ^ 33) 0 none).wf = false
    ∧ (Instr.rspE 0 0 4096 none).wf = false
    ∧ (Instr.rspE 0 0 0 (some [])).wf = false := by
  decide +kernel

theorem test_wf_rspIWbp_to_siteLinkUp :
    (Instr.rspIWbp 9 0 0).wf = false
    ∧ (Instr.rspIWbp 0 (2 ^ 33) 0).wf = false
    ∧ (Instr.rspIWbp 0 0 4096).wf = false
    ∧ (Instr.rspLost 9 0 0).wf = false
    ∧ (Instr.rspLost 0 (2 ^ 33) 0).wf = false
    ∧ (Instr.rspLost 0 0 4096).wf = false
    ∧ (Instr.snpInv 9 0 0).wf = false
    ∧ (Instr.snpInv 0 (2 ^ 33) 0).wf = false
    ∧ (Instr.snpInv 0 0 4096).wf = false
    ∧ (Instr.snpData 9 0 0).wf = false
    ∧ (Instr.snpData 0 (2 ^ 33) 0).wf = false
    ∧ (Instr.snpData 0 0 4096).wf = false
    ∧ (Instr.snpCur 9 0 0).wf = false
    ∧ (Instr.snpCur 0 (2 ^ 33) 0).wf = false
    ∧ (Instr.snpCur 0 0 4096).wf = false
    ∧ (Instr.homeTransactionStart (2 ^ 33)).wf = false
    ∧ (Instr.sfAllocRetry (2 ^ 33)).wf = false
    ∧ (Instr.snoopTimeout (2 ^ 33)).wf = false
    ∧ (Instr.cohRingReplay 2).wf = false
    ∧ (Instr.cohRingFatal 2).wf = false
    ∧ (Instr.cohSfFatal 8 false).wf = false
    ∧ (Instr.bludricFlit 8 okFlit).wf = false
    ∧ (Instr.bludricFlit 0 badFlit).wf = false
    ∧ (Instr.creditStall 8).wf = false
    ∧ (Instr.siteTraining 8 okParam).wf = false
    ∧ (Instr.siteTraining 0 badParam).wf = false
    ∧ (Instr.siteLinkUp 8 0 0).wf = false
    ∧ (Instr.siteLinkUp 0 6 0).wf = false := by
  decide +kernel

theorem test_wf_siteLinkUp_to_neighborSolicitation :
    (Instr.siteLinkUp 0 0 64).wf = false
    ∧ (Instr.resetNotice 8).wf = false
    ∧ (Instr.siteLinkDown 8 0).wf = false
    ∧ (Instr.siteLinkDown 0 12).wf = false
    ∧ (Instr.siteLaneRepair 8 0 0 false).wf = false
    ∧ (Instr.siteLaneRepair 0 6 0 false).wf = false
    ∧ (Instr.siteLaneRepair 0 0 64 false).wf = false
    ∧ (Instr.siteUmFail 8 0).wf = false
    ∧ (Instr.siteUmFail 0 6).wf = false
    ∧ (Instr.siteRetest (.session 16) 0 0).wf = false
    ∧ (Instr.siteRetest (.session 0) 8 0).wf = false
    ∧ (Instr.chipletReset (.session 16) 0 0).wf = false
    ∧ (Instr.chipletReset (.session 0) 8 0).wf = false
    ∧ (Instr.chipletResetRelease 8).wf = false
    ∧ (Instr.siteRetrain (.session 16) 0 0).wf = false
    ∧ (Instr.siteRetrain (.session 0) 8 0).wf = false
    ∧ (Instr.ethLinkUp 7 0).wf = false
    ∧ (Instr.ethLinkUp 0 256).wf = false
    ∧ (Instr.ethLinkDown 256).wf = false
    ∧ (Instr.ethLaneFail 8).wf = false
    ∧ (Instr.ethRetrain (.session 16) 0).wf = false
    ∧ (Instr.ethModeChange (.session 16) 0).wf = false
    ∧ (Instr.frameReceive badFrame).wf = false
    ∧ (Instr.arpRequest (2 ^ 128) 0 0).wf = false
    ∧ (Instr.arpRequest 0 (2 ^ 48) 0).wf = false
    ∧ (Instr.arpRequest 0 0 (2 ^ 128)).wf = false
    ∧ (Instr.neighborSolicitation (2 ^ 128) 0 0 0).wf = false
    ∧ (Instr.neighborSolicitation 0 (2 ^ 128) 0 0).wf = false := by
  decide +kernel

theorem test_wf_neighborSolicitation_to_sendPacket :
    (Instr.neighborSolicitation 0 0 (2 ^ 48) 0).wf = false
    ∧ (Instr.neighborSolicitation 0 0 0 (2 ^ 128)).wf = false
    ∧ (Instr.pfcPauseExpiry 8).wf = false
    ∧ (Instr.pfcXoffRepeat 8).wf = false
    ∧ (Instr.ethPfcStorm 8).wf = false
    ∧ (Instr.qpToInit (.session 16) 0 0).wf = false
    ∧ (Instr.qpToInit (.session 0) 8192 0).wf = false
    ∧ (Instr.qpToRtr (.session 16) 0 0).wf = false
    ∧ (Instr.qpToRtr (.session 0) 8192 0).wf = false
    ∧ (Instr.qpToRts (.session 16) 0 0).wf = false
    ∧ (Instr.qpToRts (.session 0) 8192 0).wf = false
    ∧ (Instr.qpToReset (.session 16) 0 0).wf = false
    ∧ (Instr.qpToReset (.session 0) 8192 0).wf = false
    ∧ (Instr.qpToError (.session 16) 0 0).wf = false
    ∧ (Instr.qpToError (.session 0) 8192 0).wf = false
    ∧ (Instr.ethQpSqTail (.session 16) 0 0).wf = false
    ∧ (Instr.ethQpSqTail (.session 0) 8192 0).wf = false
    ∧ (Instr.ethQpRqTail (.session 16) 0 0).wf = false
    ∧ (Instr.ethQpRqTail (.session 0) 8192 0).wf = false
    ∧ (Instr.ethQpCqHead (.session 16) 0 0).wf = false
    ∧ (Instr.ethQpCqHead (.session 0) 8192 0).wf = false
    ∧ (Instr.wrSend 8192).wf = false
    ∧ (Instr.wrSendImm 8192).wf = false
    ∧ (Instr.wrRdmaWrite 8192).wf = false
    ∧ (Instr.wrRdmaWriteImm 8192).wf = false
    ∧ (Instr.wrRdmaRead 8192).wf = false
    ∧ (Instr.sendPacket 8192 okBth).wf = false
    ∧ (Instr.sendPacket 0 badBth).wf = false := by
  decide +kernel

theorem test_wf_rdmaWritePacket_to_lag :
    (Instr.rdmaWritePacket 8192 okBth).wf = false
    ∧ (Instr.rdmaWritePacket 0 badBth).wf = false
    ∧ (Instr.rdmaReadRequest 8192 okBth).wf = false
    ∧ (Instr.rdmaReadRequest 0 badBth).wf = false
    ∧ (Instr.rdmaReadResponse 8192 okBth).wf = false
    ∧ (Instr.rdmaReadResponse 0 badBth).wf = false
    ∧ (Instr.acknowledge 8192 0 ⟨.ack, false⟩ []).wf = false
    ∧ (Instr.acknowledge 0 (2 ^ 24) ⟨.ack, false⟩ []).wf = false
    ∧ (Instr.cnp 8192).wf = false
    ∧ (Instr.ackTimeout 8192).wf = false
    ∧ (Instr.idleReset 8192).wf = false
    ∧ (Instr.ingestDatagram 65536 0 []).wf = false
    ∧ (Instr.ingestDatagram 0 (2 ^ 128) []).wf = false
    ∧ (Instr.slotTimeout 64).wf = false
    ∧ (Instr.ingestEnable (.session 16) 0 0).wf = false
    ∧ (Instr.ingestEnable (.session 0) 64 0).wf = false
    ∧ (Instr.ingestDisable (.session 16) 0 0).wf = false
    ∧ (Instr.ingestDisable (.session 0) 64 0).wf = false
    ∧ (Instr.neighbourBind (.session 16) 0 0 0).wf = false
    ∧ (Instr.neighbourBind (.session 0) 16 0 0).wf = false
    ∧ (Instr.neighbourBind (.session 0) 0 9 0).wf = false
    ∧ (Instr.sheafStart (.session 16) 0 0).wf = false
    ∧ (Instr.sheafStart (.session 0) 16 0).wf = false
    ∧ (Instr.sheafCancel (.session 16) 0 0).wf = false
    ∧ (Instr.sheafCancel (.session 0) 16 0).wf = false
    ∧ (Instr.ready 8192 0).wf = false
    ∧ (Instr.sheafData 8192 0).wf = false
    ∧ (Instr.lag 8192 0).wf = false := by
  decide +kernel

theorem test_wf_abort_to_recordReplay :
    (Instr.abort 8192 0).wf = false
    ∧ (Instr.progressDeadline 16).wf = false
    ∧ (Instr.lagRepeat 16).wf = false
    ∧ (Instr.headlandDatagram badDatagram).wf = false
    ∧ (Instr.discover badDatagram).wf = false
    ∧ (Instr.attest 16).wf = false
    ∧ (Instr.sessionOpen (2 ^ 128) 0 0).wf = false
    ∧ (Instr.sessionOpen 0 65536 0).wf = false
    ∧ (Instr.sessionOpen 0 0 65536).wf = false
    ∧ (Instr.sessionOpenPartsTimeout (2 ^ 128) 0 0).wf = false
    ∧ (Instr.sessionOpenPartsTimeout 0 65536 0).wf = false
    ∧ (Instr.sessionOpenPartsTimeout 0 0 65536).wf = false
    ∧ (Instr.sessionClose 16).wf = false
    ∧ (Instr.sessionIdleTimeout 16).wf = false
    ∧ (Instr.sessionUnconfirmedTimeout 16).wf = false
    ∧ (Instr.regRead 16).wf = false
    ∧ (Instr.regWrite 16).wf = false
    ∧ (Instr.regPoll 16).wf = false
    ∧ (Instr.regPollLimit 16).wf = false
    ∧ (Instr.memRead 16).wf = false
    ∧ (Instr.memWrite 16).wf = false
    ∧ (Instr.fwLoad 16).wf = false
    ∧ (Instr.fwStartRun 16).wf = false
    ∧ (Instr.fwStartVerify 16).wf = false
    ∧ (Instr.fwStartStage 16).wf = false
    ∧ (Instr.fwStartClear 16).wf = false
    ∧ (Instr.train 16).wf = false
    ∧ (Instr.recordReplay 16).wf = false := by
  decide +kernel

theorem test_wf_plotCreate_to_debugRead :
    (Instr.plotCreate 16).wf = false
    ∧ (Instr.plotTeardown 16).wf = false
    ∧ (Instr.plotScrubbed 8).wf = false
    ∧ (Instr.qosCommit 16).wf = false
    ∧ (Instr.mboxPost 16).wf = false
    ∧ (Instr.mboxTake 16).wf = false
    ∧ (Instr.mboxAck 16).wf = false
    ∧ (Instr.doorbell (.session 16) 0 0).wf = false
    ∧ (Instr.doorbell (.session 0) 64 0).wf = false
    ∧ (Instr.take (.session 16) 0 0).wf = false
    ∧ (Instr.take (.session 0) 64 0).wf = false
    ∧ (Instr.ack (.session 16) 0 0).wf = false
    ∧ (Instr.ack (.session 0) 64 0).wf = false
    ∧ (Instr.clear (.session 16) 0 0).wf = false
    ∧ (Instr.clear (.session 0) 64 0).wf = false
    ∧ (Instr.hlMboxBindSrc (.session 16) 0).wf = false
    ∧ (Instr.eventSubscribe 16).wf = false
    ∧ (Instr.eventSend 16).wf = false
    ∧ (Instr.claim 16).wf = false
    ∧ (Instr.release 16).wf = false
    ∧ (Instr.heldClaim (.session 16) 0).wf = false
    ∧ (Instr.heldClaim (.session 0) 16).wf = false
    ∧ (Instr.heldRelease (.session 16) 0).wf = false
    ∧ (Instr.heldRelease (.session 0) 16).wf = false
    ∧ (Instr.lock 16).wf = false
    ∧ (Instr.unlock 16).wf = false
    ∧ (Instr.resetDevice 16).wf = false
    ∧ (Instr.debugRead 16).wf = false := by
  decide +kernel

theorem test_wf_debugWrite_to_prbCfg :
    (Instr.debugWrite 16).wf = false
    ∧ (Instr.debugHalt 16).wf = false
    ∧ (Instr.debugResume 16).wf = false
    ∧ (Instr.debugStep 16).wf = false
    ∧ (Instr.secLcReq (.session 16) 0).wf = false
    ∧ (Instr.ownerProgram (.session 16) 0).wf = false
    ∧ (Instr.ownerRevoke (.session 16) 0).wf = false
    ∧ (Instr.fwMinSvnRaise (.session 16) 0).wf = false
    ∧ (Instr.makeCommon (.session 16) 0).wf = false
    ∧ (Instr.releaseCommon (.session 16) 0).wf = false
    ∧ (Instr.secRetireProg (.session 16) 0).wf = false
    ∧ (Instr.sbFatal 256).wf = false
    ∧ (Instr.pwrRailFault 32 0).wf = false
    ∧ (Instr.pwrRailFault 0 65536).wf = false
    ∧ (Instr.hubSensorReading 8 (List.replicate 12 none)).wf = false
    ∧ (Instr.hubSensorReading 0 []).wf = false
    ∧ (Instr.governorTick []).wf = false
    ∧ (Instr.graceExpiry 8).wf = false
    ∧ (Instr.capRise 8).wf = false
    ∧ (Instr.dvfsChangeDone 8).wf = false
    ∧ (Instr.sitePowerAverage 8 0 0).wf = false
    ∧ (Instr.telSnap (.session 16) 0).wf = false
    ∧ (Instr.telCoOpen (.session 16) 0).wf = false
    ∧ (Instr.telCoClose (.session 16) 0).wf = false
    ∧ (Instr.telCoRegion (.session 16) 0 0).wf = false
    ∧ (Instr.telCoRegion (.session 0) 4 0).wf = false
    ∧ (Instr.telExport (.session 16) 0).wf = false
    ∧ (Instr.gleanSample 64).wf = false
    ∧ (Instr.gleanEpoch 64).wf = false
    ∧ (Instr.prbCfg (.session 16) 0 0).wf = false := by
  decide +kernel

theorem test_wf_prbCfg_to_atbNewConnection :
    (Instr.prbCfg (.session 0) 16 0).wf = false
    ∧ (Instr.dbgData (.session 16) none).wf = false
    ∧ (Instr.atbCfg (.session 16) 0 0).wf = false
    ∧ (Instr.atbCfg (.session 0) 2 0).wf = false
    ∧ (Instr.siteFail 8 0).wf = false
    ∧ (Instr.siteFail 0 256).wf = false
    ∧ (Instr.channelRetrain 256 false).wf = false
    ∧ (Instr.atbNewConnection 2).wf = false
    ∧ (Instr.meshRouterFatal 16 none).wf = false := by
  decide +kernel

/-! ### Small states -/

/-- `n` units of a class, all PRESENT. -/
def testUnits (c n : Nat) : PTbl CUnit := (List.range n).map (fun k => ((c, k), { st := some .present }))

/-- The module in service in life-cycle state FIELD: every clock runs, every unit is PRESENT, memory is initialised, the
port's link is up, session 0 is an operator's. -/
def up : State :=
  let s : State := { State.reset with
    doms := (List.range 25).map (fun d => (d, { running := true, ever := true }))
    aon := { porstLow := false }
    fuses := { lc := [255, 255, 255] }
    sec := { lcState := lcField }
    units := testUnits 1 8 ++ testUnits 2 8 ++ testUnits 3 256 ++ testUnits 4 4 ++ testUnits 5 8 ++ testUnits 6 48 ++ testUnits 7 8
    umReady := true
    umGen := 1
    mem := { inited := true }
    boot := { fwState := 3, started := true, cores := 15, ready := true, trained := 255 }
    hl := { sessions := [(0, { isOpen := true, confirmed := true })] } }
  (((s.setF .HL_STATUS_STAGE 0 0 3).setF .ETH_STATUS_LINK 0 0 3).setF .MEM_INIT_STATE 0 0 2).setF .GLB_TRAIN_STATUS_STATE 0 0 3

/-- The outcome is a next state with a property. -/
def gives (o : Res) (p : State → Bool) : Bool := match o with
  | .next t => p t
  | _ => false

/-- A register write by a master reaches the control space unseen by a probe, and meets no refusal of 00 R629 at the
register's own address. -/
def letsB (s : State) (m : Master) (r : Reg) (i j v : Nat) : Bool :=
  match regAddr r i j with
  | some a =>
    let off := a - ctlBase
    let x := s.unitIssue { id := meshId m, plot := s.plotOfMaster (meshId m) } (ctlBase + off) 8 true
    decide (a = ctlBase + off) && ctlOff (ctlBase + off) == some off && off % 8 == 0 && locate off == some (r, i, j)
      && s.masterLive m && s.ctlGate m true == none && !x.2.windowed && x.1.plane != 4 && !isDebug m
      && x.2.writeRefusal m r i j off v == none && !x.2.fixed r i j off v
      && (List.range 16).all (fun k => !s.probeMatches k x.1.pkt)
  | none => false

/-- A read by a master reaches the control space. -/
def readB (s : State) (m : Master) (off : Nat) : Bool :=
  let x := s.unitIssue { id := meshId m, plot := s.plotOfMaster (meshId m) } (ctlBase + off) 8 false
  s.masterLive m && s.ctlGate m false == none && !x.2.windowed && x.1.plane != 4 && !isDebug m

/-- What `letsB` shows: the write reaches its register in a state that differs from the present one only in the port's window,
what the command waits for and the counter of free values, so that premises shown of the one hold of the other. -/
theorem lets_of_letsB {s0 : State} {m : Master} {r : Reg} {i j v : Nat} (h : letsB s0 m r i j v = true) :
    ∃ off q s, s0.sends m off 8 true q s ∧ s.lets m r i j off v
      ∧ ∃ me c f, s = { s0 with mesh := me, coh := c, freeCtr := f } := by
  unfold letsB at h
  split at h
  · rename_i a ha
    simp only [Bool.and_eq_true, decide_eq_true_eq, beq_iff_eq, Bool.not_eq_true', bne_iff_ne, List.all_eq_true,
      List.mem_range] at h
    obtain ⟨⟨⟨⟨⟨⟨⟨⟨⟨⟨⟨h1, h2⟩, h3⟩, h4⟩, h5⟩, h6⟩, h7⟩, h8⟩, h9⟩, h10⟩, h11⟩, h12⟩ := h
    exact ⟨a - ctlBase, _, _, ⟨h5, h6, rfl, h7, h8⟩, ⟨by rw [ha, ← h1], h2, h3, h4, h9, h10, h11⟩,
      State.unitIssue_unprobed h12⟩
  · cases h

/-! ### States that meet the hypotheses of the statements -/

theorem wit_step_front : ({ up with pending := [.ccSramCorr] } : State).pending = .ccSramCorr :: [] := rfl

/-- A command of a unit that waited at a home and may go on. -/
theorem wit_step_goes_on :
    let p : Parked := { cmd := .refresh 0 0 0, key := 0, no := 0 }
    let s : State := { up with coh := { up.coh with parked := [p] } }
    s.pending = [] ∧ s.resumable = some p ∧ goesOn (exec p.cmd (s.resuming p)) = true := by decide +kernel

/-- Nothing waits in the block in service, and no command of any unit waits at a home. -/
theorem wit_idle : up.pending = [] ∧ up.resumable = none ∧ up.quiet :=
  ⟨rfl, by decide +kernel, by decide +kernel, by decide +kernel, by decide +kernel, by decide +kernel, by decide +kernel,
    by decide +kernel, by decide +kernel, by decide +kernel, by decide +kernel⟩

theorem wit_unheld (key : ParkKey) : up.unheld key ∧ State.reset.unheld key :=
  ⟨⟨rfl, fun _ h => by cases h⟩, rfl, fun _ h => by cases h⟩

/-- In the states of the witnesses of commands that may wait nothing makes an access wait, so that those commands complete in
them; with a line held for another access, or before the memory sites run, they may wait (log 21). -/
theorem wit_homesIdle : up.homesIdle = true ∧ State.reset.homesIdle = false
    ∧ { up with coh := { up.coh with queue := [{ cmd := 0x101, agent := 9, line := 1, port := 64, tag := 0 }] } }.homesIdle = false := by
  decide +kernel

theorem wit_keeps_canonical : up.Canonical ∧ step up = .next up.tick :=
  ⟨by unfold State.Canonical; decide +kernel, rfl⟩

theorem wit_keeps_degraded : ({ State.reset with now := 1 } : State).DegOk ∧
    step { State.reset with now := 1 } = .next (State.tick { State.reset with now := 1 }) :=
  ⟨fun _ _ h => absurd h (by rw [show ∀ c n, ({ State.reset with now := 1 } : State).unit c n = {} from fun _ _ => rfl]; decide), rfl⟩

theorem wit_keeps_queue : goesOn (exec (.refresh 0 0 0) up) = true := rfl

/-- The word of a lane instruction (04 R161). -/
def testWord (op rd ra rb rc pred pneg fmt imm : Nat) : Nat :=
  ((((((((op * 32 + rd) * 32 + ra) * 32 + rb) * 32 + rc) * 8 + pred) * 2 + pneg) * 16 + fmt) * 2 ^ 28) + imm

/-- A stream on lane group 0; with predicate 1 only lane 0 acts. -/
def testStream (steps : Nat) : Stream :=
  { q := 0, idx := 0, no := 0, scalar := false, pc := 0, steps := steps, limit := 1, ended := false,
    sreg := [(1, 64), (2, 3)], snan := [], vreg := [(1, [5, 7])], vnan := [], pred := [(1, [true])] }

/-- A LANE order of queue 0 that runs. -/
def testRun : Run := { q := 0, idx := 0, op := opLane, order := List.replicate 128 0, res := [1], done := false }

/-- Lane group 0 of engine 0 runs a stream whose instruction is a given word. -/
def laneUp (w steps : Nat) : State :=
  { up with engs := [(0, { lps := [(0, w)], streams := [(1, some (testStream steps))], runs := [testRun] })] }

/-- Whether a lane row finds its instruction. -/
def laneB (s : State) (e u opc : Nat) : Bool :=
  match s.stream e u with
  | some t =>
    let i := Ins.parse (NTbl.at 0 (s.eng e).lps t.pc)
    !t.ended && !t.spent && s.laneRuns e u && i.legal && !(t.scalar && i.vectorOnly) && i.op == opc
  | none => false

/-- What `laneB` shows. -/
theorem atLane_of_laneB {s : State} {e u opc : Nat} (h : laneB s e u opc = true) : ∃ t i, s.atLane e u opc t i := by
  unfold laneB at h
  split at h
  · rename_i t ht
    simp only [Bool.and_eq_true, Bool.not_eq_true', beq_iff_eq] at h
    obtain ⟨⟨⟨⟨⟨h1, h2⟩, h3⟩, h4⟩, h5⟩, h6⟩ := h
    exact ⟨t, _, ht, h1, h2, h3, rfl, h4, h5, h6⟩
  · cases h

/-- Every lane opcode in a legal form. -/
def laneForms : List (Nat × Nat) :=
  [(0x00, testWord 0 0 0 0 0 0 0 0 0), (0x04, testWord 4 3 1 2 1 1 0 0 0), (0x07, testWord 7 7 1 2 0 1 0 3 0),
   (0x0A, testWord 0xA 3 1 2 1 1 1 0 0), (0x1B, testWord 0x1B 7 1 2 0 1 0 5 0), (0x20, testWord 0x20 3 1 0 0 1 0 9 11),
   (0x28, testWord 0x28 3 0 0 0 1 0 12 0xFFFFFFF), (0x29, testWord 0x29 3 1 0 0 1 0 0 0), (0x2A, testWord 0x2A 31 0 0 0 1 0 0 0),
   (0x2B, testWord 0x2B 3 1 2 0 1 0 0 0), (0x38, testWord 0x38 3 1 0 0 1 0 0 3),
   (0x4A, testWord 0x4A 3 1 0 0 0 0 0 63), (0x4B, testWord 0x4B 3 1 0 0 0 0 0 63), (0x4C, testWord 0x4C 3 1 0 0 0 0 0 1),
   (0x4D, testWord 0x4D 3 1 2 0 0 0 5 0), (0x50, testWord 0x50 3 1 2 0 0 0 3 0), (0x49, testWord 0x49 3 1 0 0 0 0 0 8),
   (0x53, testWord 0x53 3 1 0 0 0 0 0 8), (0x54, testWord 0x54 3 1 0 0 0 0 0 8),
   (0x57, testWord 0x57 0 0 0 0 0 0 0 0), (0x58, testWord 0x58 0 1 2 0 0 0 5 1023), (0x59, testWord 0x59 0 0 0 0 0 0 0 1023),
   (0x5A, testWord 0x5A 0 0 0 0 1 0 0 1023), (0x5B, testWord 0x5B 0 0 0 0 1 0 0 1023), (0x5F, testWord 0x5F 0 0 0 0 0 0 0 0)]
  ++ [0x01, 0x02, 0x03, 0x05, 0x06, 0x08, 0x09].map (fun o => (o, testWord o 3 1 2 0 1 0 0 0))
  ++ (List.range 11).map (fun k => (0x10 + k, testWord (0x10 + k) 3 1 2 0 1 0 0 0))
  ++ (List.range 5).map (fun k => (0x21 + k, testWord (0x21 + k) 3 1 0 0 1 0 0 0))
  ++ ((List.range 9).map (fun k => 0x40 + k) ++ [0x4E, 0x4F]).map (fun o => (o, testWord o 3 1 2 0 0 0 0 0))

theorem wit_lane_rows : laneForms.all (fun x => laneB (laneUp x.2 0) 0 1 x.1) = true := by decide +kernel

/-- Loads and stores of FP32 elements at address 64 in lane 0. -/
theorem wit_lane_loads : laneB (laneUp (testWord 0x30 3 1 0 0 1 0 11 0) 0) 0 1 0x30 = true
    ∧ laneB (laneUp (testWord 0x31 3 1 0 0 1 0 11 0) 0) 0 1 0x31 = true
    ∧ laneB (laneUp (testWord 0x32 3 1 2 0 1 0 11 0) 0) 0 1 0x32 = true
    ∧ laneB (laneUp (testWord 0x33 3 1 2 0 1 0 11 0) 0) 0 1 0x33 = true := by decide +kernel

/-- The stream and the instruction of such a state. -/
def testT (s : State) : Stream := (s.stream 0 1).getD (testStream 0)
def testI (s : State) : Ins := Ins.parse (NTbl.at 0 (s.eng 0).lps (testT s).pc)

/-- The four loads and stores name bytes of tile memory that carry no poison, whichever lanes act. -/
theorem wit_lane_in_tile (w : Nat) (hw : w ∈ [testWord 0x30 3 1 0 0 1 0 11 0, testWord 0x31 3 1 0 0 1 0 11 0]) :
    (testT (laneUp w 0)).inTile (testI (laneUp w 0)) false ∧ (laneUp w 0).tileClean 0 (testT (laneUp w 0)) (testI (laneUp w 0)) false := by
  have hb : (testT (laneUp w 0)).laneBase (testI (laneUp w 0)) false = 64 ∧ (testI (laneUp w 0)).fmt = 11
      ∧ ((laneUp w 0).eng 0).tpois = [] := by
    simp only [List.mem_cons, List.not_mem_nil, or_false] at hw
    rcases hw with rfl | rfl <;> decide +kernel
  refine ⟨fun k hk _ => ?_, fun k _ _ => ?_⟩
  · have h2 : nLanes = 4096 := rfl
    have h3 : tileSize = 0x3000000 := rfl
    simp only [nibOk, Stream.elemAt, nibAt, hb.1, hb.2.1, fmtBits, Bool.and_eq_true, decide_eq_true_eq]
    simp
    omega
  · unfold Eng.tilePoison
    rw [hb.2.2]
    simp [NTbl.at, Option.map_eq_none_iff]
    intro x _
    rfl

theorem wit_lane_stops : let s := laneUp (255 * 2 ^ 56) 0
    (Ins.parse (NTbl.at 0 (s.eng 0).lps 0)).legal = false ∧ s.laneRuns 0 1 = true ∧ (testStream 0).spent = false
    ∧ s.stream 0 1 = some (testStream 0) ∧ (testStream 1024).spent = true ∧ (testStream 1024).ended = false := by
  decide +kernel

/-- A stream that has used its step limit, one that has ended, and none. -/
theorem wit_step_limit : (laneUp 0 1024).stream 0 1 = some (testStream 1024) ∧ (testStream 1024).ended = false
    ∧ (testStream 1024).spent = true ∧ (laneUp 0 3).stream 0 1 = some (testStream 3) ∧ (testStream 3).spent = false
    ∧ up.stream 0 1 = none := by decide +kernel

/-- Its order completes with TIMEOUT, 0x0403 (04 R164). -/
theorem test_step_limit : gives (exec (.laneStepLimit 0 1) (laneUp 0 1024)) (fun t =>
    ((t.stream 0 1).map Stream.ended) == some true
      && (t.eng 0).runs.map (fun r => (r.status, r.fault, r.finished)) == [(csTimeout, 0x0403, true)]) = true := by decide +kernel

/-- A word of tile memory with an uncorrectable error that nothing has read yet (03 R110). -/
theorem wit_latent_error : let s : State := { laneUp 0 0 with engs := [(0, { latent := [{ addr := 8, bad := true }] })] }
    (s.eng 0).latent = [{ addr := 8, bad := true }] ∧ ((laneUp 0 0).eng 0).latent = []
    ∧ NTbl.at false ((s.tmMeet 0 8 8).eng 0).tpois 0 = true := by decide +kernel

/-- SLD at the last eight bytes of tile memory, and one byte beyond. -/
theorem wit_scalar_tile : (testStream 0).addr (Ins.parse (testWord 0x51 3 1 0 0 0 0 0 (0x3000000 - 72))) + 8 = tileSize
    ∧ tileSize < (testStream 0).addr (Ins.parse (testWord 0x51 3 1 0 0 0 0 0 (0x3000000 - 71))) + 8
    ∧ laneB (laneUp (testWord 0x51 3 1 0 0 0 0 0 (0x3000000 - 72)) 0) 0 1 0x51 = true
    ∧ laneB (laneUp (testWord 0x52 3 1 0 0 0 0 0 (0x3000000 - 71)) 0) 0 1 0x52 = true
    ∧ ((laneUp 0 0).eng 0).tilePoison (tileSize - 8) 8 = none := by decide +kernel

/-- Registers of a granule of the operator: a scalar unit reads and writes there. -/
theorem wit_scalar_memory : let s := laneUp (testWord 0x55 3 1 0 0 0 0 0 64) 0
    laneB s.arm 0 1 0x55 = true ∧ (testStream 0).s 3 + 64 ≤ tileSize ∧ (s.eng 0).tilePoison 0 64 = none
    ∧ (s.arm.scalarRead 0 64 64 noSite).1 = stOk
    ∧ (s.arm.scalarWrite 0 1 (testStream 0) 64 (List.replicate 8 0)).1 = stOk := by decide +kernel

/-- A unit with a write into a site window that awaits its response, and one with none. -/
theorem wit_sfence :
    let s := laneUp (testWord 0x57 0 0 0 0 0 0 0 0) 0
    let r : Req :=
      { port := 0, id := 0x23, tag := 0, plot := none, pa := 0x40 * 2 ^ 40, len := 8, write := true, data := [], poison := 0,
        cls := 4, urg := 4, plane := 0, home := none, errs := [], phase := .issued, since := 0,
        run := some { e := 0, q := 0, idx := 0, unit := 1 } }
    s.unitWaits 0 1 = false ∧ ({ s with mesh := { s.mesh with reqs := [r] } } : State).unitWaits 0 1 = true := by decide +kernel

/-! Registers. -/

/-- A write of a read-only register meets a refusal; reads and writes that are not 64-bit, not aligned or at no register
are malformed. -/
theorem wit_refused_write : up.masterLive (.session 0) = true ∧ up.ctlGate (.session 0) true = none
    ∧ ctlOff (ctlBase + 0x06100000) = some 0x06100000 ∧ locate 0x0B000008 = some (.CC_READY, 0, 0)
    ∧ up.writeRefusal (.session 0) .CC_READY 0 0 0x0B000008 1 ≠ none ∧ isDebug (.session 0) = false
    ∧ locate 0x0B000FF8 = none ∧ ctlOff (ctlBase + 0x0B000FF8) = some 0x0B000FF8 ∧ readB up (.session 0) 0x0B000FF8 = true
    ∧ target (2 ^ 46) = .unmapped := by decide +kernel

theorem wit_plain_write : (regRow .ETH_PFC).fields ≠ [] ∧ ∀ f, f ∈ (regRow .ETH_PFC).fields → 0 < f.rep := by decide +kernel

/-- A plain write and a read of a counter. -/
theorem wit_register_access : locate 0x06000088 = some (.ETH_PFC, 0, 0) ∧ letsB up (.onModule 0x61) .ETH_PFC 0 0 3 = true
    ∧ (up.regApply (.onModule 0x61) .ETH_PFC 0 0 0x06000088 3).1 = hOk
    ∧ (up.debugMark (.onModule 0x61) 0x06000088).writeRefusal (.onModule 0x61) .ETH_PFC 0 0 0x06000088 3 = none
    ∧ (up.debugMark (.onModule 0x61) 0x06000088).fixed .ETH_PFC 0 0 0x06000088 3 = false
    ∧ (up.regRead (.onModule 0x61) 0x06000088 8).1 = hOk ∧ up.ctlGate (.onModule 0x61) false = none := by decide +kernel

theorem wit_read_clears : (regRow .HL_CNT_DROP).fields.any (fun f => f.acc == .rc) = true := by decide +kernel

/-! Work orders. -/

/-- A work order with an opcode, in a ring of engine 0's queue 0 at granule 3, and a completion ring behind it. -/
def orderUp (b : Bytes) : State :=
  let base := 3 * 2 ^ 30
  let s := (((up.setF .CE_WQ_BASE_BASE 0 0 (base / 4096)).setF .CE_CQ_BASE_BASE 0 0 (base / 4096 + 1)).setF
    .CE_WQ_STATUS_STATE 0 0 qRunning).setF .CE_WQ_TAIL_TAIL 0 0 1
  ({ s with mem := { s.mem with cells := putCells [] base b } }.setF .CE_CQ_CFG_LOG2_SIZE 0 0 3).setF .CE_WQ_CFG_LOG2_SIZE 0 0 3

/-- The order's next step may be its start. -/
def startB (s : State) (e q opc : Nat) : Bool :=
  let w := (s.fetchOrder e q).2.1
  s.engRuns e && s.queueOpen e q && (s.fetchOrder e q).1.status == stOk && w.op == opc && s.queueTurn e q w && s.resFree e w
    && !s.outranked e q w && (s.fetchOrder e q).2.2.woCheck e w == none && (s.fetchOrder e q).2.2.coh.stall == []
    && (!w.claims || (s.fetchOrder e q).2.2.unitsIdle e)

/-- What `startB` shows. -/
theorem mayStart_of_startB {s : State} {e q opc : Nat} (h : startB s e q opc = true) : ∃ w s1, s.mayStart e q opc w s1 := by
  simp only [startB, Bool.and_eq_true, Bool.not_eq_true', beq_iff_eq] at h
  obtain ⟨⟨⟨⟨⟨⟨⟨⟨⟨h1, h2⟩, h3⟩, h4⟩, h5⟩, h6⟩, h7⟩, h8⟩, h9⟩, h10⟩ := h
  have h11 : (s.fetchOrder e q).2.1.claims = true → (s.fetchOrder e q).2.2.unitsIdle e = true := fun hc => by
    rw [hc] at h10
    simpa using h10
  exact ⟨_, _, h1, h2, ⟨_, rfl, h3⟩, h9, h4, h5, h6, h7, h11, h8⟩

/-- The 128 bytes of an order: opcode, flags and formats, then fields at their offsets (04 R146). -/
def orderBytes (op : Nat) (fs : List (Nat × Nat × Nat)) : Bytes :=
  fs.foldl (fun b f => b.take f.1 ++ leBytes f.2.1 f.2.2 ++ b.drop (f.1 + f.2.1)) (leBytes 1 op ++ List.replicate 127 0)

/-- One legal order of each opcode: matrix and reduction work on BF16 tiles of 32 × 32, moves within tile memory. -/
def orderForms : List (Nat × Bytes) :=
  let t (k : Nat) : Nat := 2 ^ 62 + k * 0x10000
  let abc : List (Nat × Nat × Nat) := [(16, 8, t 0), (24, 8, t 1), (32, 8, t 2)]
  let mnk : List (Nat × Nat × Nat) := [(64, 4, 32), (68, 4, 32), (72, 4, 32), (76, 4, 256), (80, 4, 256), (84, 4, 256)]
  let ac : List (Nat × Nat × Nat) := [(16, 8, t 0), (32, 8, t 2), (64, 4, 2), (68, 4, 64), (76, 4, 256), (84, 4, 256)]
  [(opNop, orderBytes opNop []),
   (opSignal, orderBytes opSignal [(88, 2, 4095), (92, 4, 1)]),
   (opWait, orderBytes opWait [(88, 2, 4095), (90, 1, 1), (92, 4, 1), (96, 4, 7)]),
   (opMatmul, orderBytes opMatmul ([(2, 1, 0x99), (3, 1, 11)] ++ abc ++ mnk)),
   (opMatmulAcc, orderBytes opMatmulAcc ([(2, 1, 0x99), (3, 1, 11)] ++ abc ++ mnk)),
   (opConv, orderBytes opConv ([(2, 1, 0x99), (3, 1, 11)] ++ abc ++ mnk
      ++ [(88, 1, 1), (92, 2, 8), (98, 2, 3), (104, 1, 1), (107, 1, 1)])),
   (opLane, orderBytes opLane (abc ++ [(90, 1, 1), (91, 1, 1)])),
   (opReduce, orderBytes opReduce ([(2, 1, 11), (3, 1, 11), (16, 8, t 0), (32, 8, t 2), (64, 4, 2), (68, 4, 64), (76, 4, 256), (89, 1, 1)])),
   (opCopy, orderBytes opCopy ac),
   (opConvert, orderBytes opConvert ([(2, 1, 11), (3, 1, 9)] ++ ac)),
   (opTranspose, orderBytes opTranspose ([(2, 1, 11), (3, 1, 11)] ++ ac)),
   (opGather, orderBytes opGather ([(2, 1, 0xC0), (24, 8, t 4)] ++ ac)),
   (opScatter, orderBytes opScatter ([(2, 1, 0xC0), (24, 8, t 4)] ++ ac)),
   (opPrefetch, orderBytes opPrefetch [(16, 8, 0), (64, 4, 2), (68, 4, 64), (76, 4, 64)]),
   (opWriteback, orderBytes opWriteback [(16, 8, 0), (64, 4, 2), (68, 4, 64), (76, 4, 64)])]

theorem wit_orders_start : orderForms.all (fun x => startB (orderUp x.2).arm 0 0 x.1) = true := by decide +kernel

/-- A NOP with a reserved byte set, and an order of a reserved opcode. -/
theorem wit_refused_orders : [orderBytes opNop [(4, 1, 1)], orderBytes 0x7F []].all (fun b =>
    let s := orderUp b
    let f := s.arm.fetchOrder 0 0
    s.engRuns 0 && s.queueOpen 0 0 && f.1.status == stOk && s.queueTurn 0 0 f.2.1 && s.resFree 0 f.2.1
      && !s.arm.outranked 0 0 f.2.1 && f.2.2.coh.stall == [] && (f.2.2.woCheck 0 f.2.1).isSome
      && (f.2.1.op == opNop || !woOpcodes.contains f.2.1.op)) = true := by decide +kernel

/-- A COPY whose writes are still to be made, and a SIGNAL at the front of its queue with nothing left to make. -/
theorem wit_oldest_completes :
    let o : OutWr := { addr := 2 ^ 62, bytes := [7] }
    let c : Run := { q := 0, idx := 0, op := opCopy, order := orderBytes opCopy [], res := [5], done := true, outs := [o] }
    let r : Run :=
      { q := 0, idx := 0, op := opSignal, order := orderBytes opSignal [(88, 2, 5), (92, 4, 3)], res := [], done := true, finished := true }
    let s (r : Run) : State := { up with engs := [(0, { runs := [r] })] }
    ((s c).eng 0).halted = false ∧ ((s c).eng 0).finishing 0 = some c ∧ ((s r).eng 0).finishing 0 = none
      ∧ ((s r).eng 0).first 0 = some r ∧ r.order.length = 128 ∧ (s r).runWaits 0 0 0 = false := by decide +kernel

/-- The SIGNAL adds 3 to operator tally 5 (04 R167). -/
theorem test_signal_adds :
    let r : Run :=
      { q := 0, idx := 0, op := opSignal, order := orderBytes opSignal [(88, 2, 5), (92, 4, 3)], res := [], done := true, finished := true }
    let s : State := (State.setF { up with engs := [(0, { runs := [r] })] } .CE_CQ_CFG_LOG2_SIZE 0 0 3).setF .CE_WQ_STATUS_STATE 0 0 qRunning
    gives (exec (.workOrderComplete 0 0) s) (fun t => t.tally 5 == 3 && t.f .CE_WQ_STATUS_CQ_TAIL 0 0 == 1 && (t.eng 0).runs.isEmpty)
      = true := by decide +kernel

/-- A WAIT with a limit that pends. -/
theorem wit_wait_times_out :
    let r : Run := { q := 0, idx := 0, op := opWait, order := orderBytes opWait [(88, 2, 5), (92, 4, 3), (96, 4, 7)], res := [], done := false }
    let w : TWait := { e := 0, q := 0, idx := 0, tally := 5, consume := false, amount := 3 }
    let s : State := { up with engs := [(0, { runs := [r] })], waits := [w] }
    s.waits.find? (fun w => w.e == 0 && w.q == 0) = some w
      ∧ (s.eng 0).runs.find? (fun r => r.q == 0 && r.idx == 0) = some r ∧ leAt r.order 96 4 ≠ 0 ∧ (s.eng 0).halted = false := by
  decide +kernel

/-- Two rows of tile memory, without an error and without poison. -/
theorem wit_copy_rows : (State.readRows 0 opCopy (2 ^ 62) 64 32 2 0 noSite up).1.all (fun x => x.err == 0 && x.bad.isEmpty) = true
    ∧ (State.readRows 0 opCopy (2 ^ 62) 64 32 2 0 noSite up).1.length = 2 := by decide +kernel

theorem wit_tallies : (∀ w, w ∈ up.waits → w.tally ≠ 5) ∧ 0xFFFFFFFF < (up.setTally 5 0xFFFFFFFF).tally 5 + 1
    ∧ up.tally 5 + 1 ≤ 0xFFFFFFFF := by decide +kernel

/-! Engines. -/

/-- Engine 0 with queue 0 in a state and a ring at granule 3. -/
def queueUp (st : Nat) : State :=
  ((((up.setF .CE_WQ_BASE_BASE 0 0 0xC0000).setF .CE_CQ_BASE_BASE 0 0 0xC0001).setF .CE_WQ_STATUS_STATE 0 0 st).setF
    .CE_CQ_CFG_LOG2_SIZE 0 0 3).setF .CE_WQ_CFG_LOG2_SIZE 0 0 3

theorem wit_queue_rows : let r := queueUp qRunning
    let i := r.setF .CE_STATUS_PSTATE 0 0 1
    let d := queueUp qDisabled
    let h := queueUp qHalted
    let b : State := { r with engs := [(0, { runs := [testRun] })] }
    r.tailOk 0 0 8 = true ∧ r.pstate 0 ≠ 1 ∧ letsB r (.onModule 0x61) .CE_WQ_TAIL 0 0 8 = true
    ∧ i.tailOk 0 0 1 = true ∧ i.pstate 0 = 1 ∧ i.qhead 0 0 ≠ 1 ∧ letsB i (.onModule 0x61) .CE_WQ_TAIL 0 0 1 = true
    ∧ (let s := r.setF .CE_WQ_STATUS_CQ_TAIL 0 0 8
       idxDist 8 8 ≤ 2 ^ s.f .CE_CQ_CFG_LOG2_SIZE 0 0 ∧ idxDist 8 (s.f .CE_CQ_HEAD_HEAD 0 0) < 2 ^ 31
         ∧ letsB s (.onModule 0x61) .CE_CQ_HEAD 0 0 8 = true)
    ∧ d.qstate 0 0 = qDisabled ∧ d.ringOk (d.plotOfEngine 0) (0xC0000 * 4096) 1024 false = true
    ∧ d.ringOk (d.plotOfEngine 0) (0xC0001 * 4096) 256 true = true ∧ letsB d (.onModule 0x61) .CE_WQ_CFG 0 0 0x30001 = true
    ∧ (r.eng 0).first 0 = none ∧ (b.eng 0).first 0 ≠ none ∧ letsB r (.onModule 0x61) .CE_WQ_CFG 0 0 0x30000 = true
    ∧ letsB b (.onModule 0x61) .CE_WQ_CFG 0 0 0x30000 = true
    ∧ h.qstate 0 0 = qHalted ∧ letsB h (.onModule 0x61) .CE_WQ_CFG 0 0 0x30005 = true
    ∧ r.laneBusy 0 = false ∧ letsB r (.onModule 0x61) .CE_LPS_DATA 0 0 5 = true
    ∧ regAddr .CE_LPS_DATA 0 0 = some (ctlBase + 0x1002008) ∧ (r.regRead (.onModule 0x61) 0x1002008 8).1 = hOk
    ∧ ctlOff (ctlBase + 0x1002008) = some 0x1002008 ∧ readB r (.onModule 0x61) 0x1002008 = true := by decide +kernel

/-- A disabled queue whose ring has been made smaller than what it holds. -/
def lowered : State :=
  (((queueUp qDisabled).setF .CE_WQ_TAIL_TAIL 0 0 40).setF .CE_WQ_HEAD_HEAD 0 0 10).setF .CE_WQ_CFG_LOG2_SIZE 0 0 4

/-- Its TAIL and CQ_HEAD, as they are, are accepted (00 R18, 04 R133). -/
theorem wit_current_values : let s := lowered
    s.f .CE_WQ_TAIL_TAIL 0 0 = 40 ∧ s.tailOk 0 0 40 = false ∧ letsB s (.onModule 0x61) .CE_WQ_TAIL 0 0 40 = true
    ∧ s.f .CE_CQ_HEAD_HEAD 0 0 = 0 ∧ letsB s (.onModule 0x61) .CE_CQ_HEAD 0 0 0 = true := by decide +kernel

theorem test_current_tail : let s := lowered
    gives (exec (.ceWqTail (.onModule 0x61) 0 0 40) s) (fun t => t.f .CE_WQ_TAIL_TAIL 0 0 == 40
      && t.f .CE_WQ_STATUS_DB_ERR 0 0 == 0) = true := by decide +kernel

theorem wit_tally_rows : letsB up (.onModule 0x61) .TALLY_VALUE 4095 0 7 = true ∧ letsB up (.onModule 0x61) .TALLY_SIGNAL 0 0 1 = true := by
  decide +kernel

/-- A wait that its tally satisfies, and one it does not. -/
theorem wit_waits : let w (c : Bool) : TWait := { e := 0, q := 0, idx := 0, tally := 5, consume := c, amount := 3 }
    let s (v : Nat) (c : Bool) : State := { up.setTally 5 v with waits := [w c] }
    (s 2 true).tally 5 < 3 ∧ 3 ≤ (s 3 false).tally 5 ∧ (s 3 true).waits = [w true] := by decide +kernel

theorem wit_fallow_rows : let f := (up.setUnit .engine 0 .fallow)
    let g := (up.setUnit .site 0 .fallow)
    up.umReady = true ∧ up.plotOfEngine 0 = none ∧ up.pstate 0 ≠ 2 ∧ up.pstate 0 ≠ 3 ∧ up.pstate 0 ≠ 5 ∧ (up.eng 0).halted = false
    ∧ (up.unit .engine 0).st = some .present ∧ letsB up (.onModule 0x61) .PWR_FALLOW_REQ 0 0 0x1100 = true
    ∧ letsB up (.onModule 0x61) .PWR_FALLOW_REQ 0 0 0x1200 = true ∧ (f.dom 0).ever = true
    ∧ letsB f (.onModule 0x61) .PWR_FALLOW_REQ 0 0 0x1200 = true ∧ letsB f (.onModule 0x61) .PWR_FALLOW_REQ 0 0 0x1100 = true
    ∧ up.plotOfSite 0 = none ∧ up.siteBusy 0 = false ∧ letsB up (.onModule 0x61) .PWR_FALLOW_REQ 0 0 0x1110 = true
    ∧ letsB up (.onModule 0x61) .PWR_FALLOW_REQ 0 0 0x1210 = true
    ∧ (let t := g.setF .SITE_CFG_FITTED 0 0 1
       t.plotOfSite 0 = none ∧ t.siteBusy 0 = false ∧ (t.dom (siteDom 0)).ever = true
         ∧ letsB t (.onModule 0x61) .PWR_FALLOW_REQ 0 0 0x1210 = true) := by decide +kernel

theorem wit_fallow_sequence :
    (up.setF .CE_STATUS_PSTATE 0 0 2).pstate 0 = 2
    ∧ (let s := up.setF .SITE_STATUS_LINK 0 0 6
       s.siteLinkState 0 = 6 ∧ (s.link 0).fencing = false ∧ (s.link 0).recalling = false)
    ∧ (let s := (up.setFence 0 1).setF .CE_STATUS_PSTATE 0 0 3
       (s.qport 0).fence = 1 ∧ s.portBusy 0 = false ∧ s.pstate 0 = 3 ∧ (s.unit .engine 0).st = some .present)
    ∧ (let s := up.setFence 20 1
       (s.qport 20).fence = 1 ∧ s.portBusy 20 = false ∧ (s.link 4).fencing = false)
    ∧ (let s := (up.setFence 0 1).setUnit .engine 0 .failed
       (s.qport 0).fence = 1 ∧ s.portBusy 0 = false ∧ s.pstate 0 ≠ 3 ∧ (s.unit .engine 0).st = some .failed)
    ∧ (let s := ({ up with links := [(0, { fencing := true })] } : State).setFence 16 1
       (s.qport 16).fence = 1 ∧ s.portBusy 16 = false ∧ (s.link 0).fencing = true)
    ∧ (let s := (up.setUnit .engine 0 .fallow).setF .CE_STATUS_PSTATE 0 0 5
       s.pstate 0 = 5 ∧ (s.unit .engine 0).st = some .fallow ∧ engineBad ({ rows := 0, cols := [], ways := 0, beyond := false } : TestFound) = false) := by decide +kernel

theorem wit_engine_faults : (up.unit .engine 7).st = some .present
    ∧ ((up.setUnit .engine 7 .failed).unit .engine 7).st = some .failed := by decide +kernel

/-- A further fault of an engine that has failed is reported again (01 R631). -/
theorem test_engine_fails_again : gives (exec (.engFault 7 0 false) (up.setUnit .engine 7 .failed)) (fun t =>
    t.hl.moduleSeq == (up.setUnit .engine 7 .failed).hl.moduleSeq + 1 && t.f .CE_ERR_STATUS_HARD_FAULT 7 0 == 1) = true := by decide +kernel

/-! The mesh. -/

/-- A read of a line of granule 3 by engine 0 of the operator's side, and one more of the same class that waits. -/
def meshQ (tag : Nat) : MeshReq := { id := 0x20, tag := tag, addr := 3 * 2 ^ 30, len := 64 }
def meshUp (n : Nat) : State :=
  (List.range n).foldl (fun s k => ((s.debugReq 0x20 0 64 false).present? (meshQ k) false [] 0 []).1) up

/-- A request that may leave at once, one behind a waiting one of its class, a write, and a request of no window. -/
theorem wit_mesh_requests :
    let p := up.present? (meshQ 0) false [] 0 []
    let p2 := (meshUp 1).present? (meshQ 1) false [] 0 []
    let w := up.present? (meshQ 0) true (List.replicate 64 7) 0 []
    let w2 := (meshUp 1).present? (meshQ 1) true (List.replicate 64 7) 0 []
    [p, p2, w, w2].map (fun x => x.2.isSome && !x.1.plotCtlRefused 0x20 (3 * 2 ^ 30) false && !x.1.plotCtlRefused 0x20 (3 * 2 ^ 30) true)
      = [true, true, true, true]
    ∧ [p, p2, w, w2].map (fun x => (x.2.map (fun r => x.1.mayIssue r)).getD false) = [true, false, true, false]
    ∧ (∀ o, target (meshQ 0).addr ≠ .ctl o) :=
  ⟨by decide +kernel, by decide +kernel, fun o h => by
    have e : target (meshQ 0).addr = .mem (3 * 2 ^ 30) := by decide +kernel
    rw [e] at h
    cases h⟩

/-- A write of ETH_PFC by SB, which may make no unit access memory, and still waits with the others (log 21). -/
theorem wit_mesh_ctl_write : let q : MeshReq := { id := 0x61, tag := 1, addr := ctlBase + 0x06000088, len := 8 }
    let x := (up.arm.debugReq q.id q.addr q.len true).present? q true (leBytes 8 3) 0 []
    x.2.isSome = true ∧ x.1.plotCtlRefused q.id q.addr true = false ∧ target q.addr = .ctl 0x06000088 := by decide +kernel

/-- A request of engine 0 whose answer stands, late or not, and one that waits for a tracker. -/
def reqOf (ph : ReqPhase) (ans late : Bool) : Req :=
  { port := 0, id := 0x20, tag := 0, plot := none, pa := 3 * 2 ^ 30, len := 64, write := false, data := [], poison := 0, cls := 4,
    urg := 4, plane := 4, home := some 0, errs := [], phase := ph, since := 0, ans := ans, late := late }
def reqUp (r : Req) : State := { up with mesh := { up.mesh with reqs := [r] } }

theorem wit_mesh_responses : (reqUp (reqOf .issued true false)).req 0 0 = some (reqOf .issued true false)
    ∧ (reqUp (reqOf .issued true true)).req 0 0 = some (reqOf .issued true true) ∧ (reqOf .issued true false).write = false
    ∧ (reqUp { reqOf .issued true false with write := true }).req 0 0 = some { reqOf .issued true false with write := true } := by
  decide +kernel

/-- A request that waits for a tracker, also as the only one that does, one whose timer has expired, and an agent's request that
waits for a tracker and whose timer has expired. -/
theorem wit_mesh_timers : let r := reqOf .waitTracker false false
    let h : HReq := { cmd := 0x10, agent := 0, line := 0, urg := 5, tag := 7, port := 16, mport := 16 }
    let a : State := { up with coh := { up.coh with waiting := [h] } }
    (reqUp r).req 0 0 = some r ∧ r.phase ≠ .waitPort ∧ r.since + r.limit ≤ up.now
    ∧ (reqUp r).waiters 0 = [(r.urg, r.port, Sum.inl r)] ∧ a.waiters 0 = [(h.urg, h.inPort, Sum.inr h)]
    ∧ a.req h.inPort 7 = none ∧ a.cohOut.find? (fun h' => h'.inPort == h.inPort && decide (h'.tag % 4096 = 7)
      && decide (h'.since + h'.limit ≤ a.now)) = some h := by
  decide +kernel

/-- A commit that fits, with port 0's class 0 guaranteed one unit at site 0; and the three refusals. -/
theorem wit_regulators : let g (n : Nat) := (((up.setMsite 0 { up.msite 0 with cap := 2048 }).setF .QOS_CLASS_CFG_SITE_MASK 0 0 1).setF
      .QOS_CLASS_CFG_GUAR_GBPS 0 0 n)
    let b : State := { up with mesh := { up.mesh with pending := [{ windows := 1, commit := none }] } }
    let m := (g 1).setF .QOS_CLASS_CFG_SITE_MASK 0 0 0
    (g 1).mesh.pending = [] ∧ (∀ p : Nat, p < 30 → ((g 1).staged p).malformed = false)
    ∧ (∀ n : Nat, n < 8 → 5 * load840 ((List.range 30).map (g 1).staged) false n ≤ 4 * 840 * ((g 1).msite n).cap)
    ∧ (∀ p : Nat, p < 30 → 5 * ((g 1).staged p).guarSum ≤ 4 * (g 1).portCap p)
    ∧ letsB (g 1) (.onModule 0x61) .QOS_COMMIT 0 0 1 = true
    ∧ (b.qosCommit 1).1 = hBusy ∧ (m.qosCommit 1).1 = hBadArg ∧ ((g 4000).qosCommit 1).1 = hOvercommit ∧ up.mesh.reqs = []
    ∧ up.cohOut = [] ∧ up.coh.parked = [] ∧ ∀ p : Nat, p < 30 → ∀ c : Nat, c < 8 → ((up.qport p).cls c).ceil = 0 := by
  decide +kernel

theorem wit_mesh_failures : up.planesUp = [0, 1, 2, 3] ∧ (up.unit .plane 0).st = some .present
    ∧ PTbl.at 0 up.mesh.linkFails 0 7 < 2
    ∧ 2 ≤ PTbl.at 0 ({ up with mesh := { up.mesh with linkFails := [((0, 7), 2)] } } : State).mesh.linkFails 0 7
    ∧ (((up.setUnit .plane 0 .failed).setUnit .plane 1 .failed).setUnit .plane 2 .failed).planesUp = [3] := by decide +kernel

/-! Stacked memory. -/

theorem wit_memory_reads_back : up.sec.twins = [] ∧ up.lineLost 0 = false ∧ up.poisoned 0 = false := by decide +kernel

theorem wit_uncorrectable : NTbl.at none up.mem.llc 0 = none ∧ (up.chan (up.storeChan 0)).erased = []
    ∧ 4 < (([0, 1, 2, 3, 4] : List Nat).eraseDups.filter (fun p => decide (p < 72))).length := by decide +kernel

theorem wit_memory_events :
    let o (d : List Nat) : State := up.setMsite 0 { up.msite 0 with uncorrOpen := true, chanLossDue := d }
    ((o []).msite 0).uncorrOpen = true ∧ ((o []).msite 0).chanLossDue = [] ∧ ((o [3]).msite 0).chanLossDue = [3]
    ∧ NTbl.at none ({ up with mem := { up.mem with comb := [(0, some { attached := 1, cls := 0 })] } } : State).mem.comb 0 ≠ none
    ∧ up.home 0 = 0 ∧ (up.unit .channel 255).st = some .present
    ∧ (up.chan 0).failed = false ∧ (up.chan 0).retrains < 2
    ∧ 2 ≤ ((up.setChan 0 { up.chan 0 with retrains := 2 }).chan 0).retrains := by decide +kernel

/-- The first and the last place of a patrol pass on memory site 0, and a plot whose scrub holds the patrol up. -/
theorem wit_patrol : let s (pos : Nat) : State := (up.setF .MEM_SCRUB_CFG_ENABLE 0 0 1).setMsite 0 { up.msite 0 with patrolPos := pos }
    let last := ((2 ^ 39 - 2 ^ 15) + 0xFC0) / 64
    let m : PMapEnt := { common := false, twin := false, write := true, twinGran := 0, gran := 8 }
    let p : Plot := { active := true, teardown := some { began := 0, order := 0 }, map := [(0, some m)] }
    (s 0).f .MEM_SCRUB_CFG_ENABLE 0 ≠ 0 ∧ (s 0).scrubsSite 0 = false ∧ (s 0).bankBlocked 0 = false
    ∧ lineGran 0 < (s 0).relocBase ∧ lineGran last < up.relocBase ∧ ((s 0).msite 0).patrolPos = 0
    ∧ (s 0).home ((s 0).storePa 0) = 0 ∧ (s 0).sla ((s 0).storePa 0) / 64 = (s 0).patrolNext 0 patrolGap ((s 0).msite 0).patrolPos
    ∧ (s 0).patrolNext 0 patrolGap 1 < 2 ^ 30
    ∧ last < 2 ^ 33 ∧ up.home (up.storePa (last * 64)) = 0 ∧ up.sla (up.storePa (last * 64)) / 64 = 2 ^ 30 - 1
    ∧ (s (2 ^ 30 - 1)).patrolNext 0 patrolGap ((s (2 ^ 30 - 1)).msite 0).patrolPos = 2 ^ 30 - 1
    ∧ (s 0).patrolNext 0 patrolGap (2 ^ 30) = 2 ^ 30
    ∧ ({ up with sec := { up.sec with plots := [(0, p)] } } : State).scrubsSite 0 = true := by decide +kernel

/-- Readings at the two thresholds (05 R219). -/
theorem test_refresh_rate : let hot := up.setMsite 0 { up.msite 0 with refresh2x := true, tempRead := true }
    [(340 : Int), 341, 331, 332].map (fun q => (gives (exec (.memTempReading 0 (some q)) up) (fun t => (t.msite 0).refresh2x),
      gives (exec (.memTempReading 0 (some q)) hot) (fun t => (t.msite 0).refresh2x)))
      = [(false, true), (true, true), (false, false), (false, true)] := by decide +kernel

theorem wit_stack_sensor : (up.dom 8).running = true ∧ (up.msite 0).fatal = false ∧ (up.msite 0).tempFails < 2
    ∧ (up.msite 0).tempLost = false ∧ ((up.setMsite 0 { up.msite 0 with tempFails := 2 }).msite 0).tempFails = 2 := by decide +kernel

/-- A row with four corrected reads, in a bank with a spare row left and in one with none; a repair that has begun. -/
theorem wit_row_repair : let s : State := { up with mem := { up.mem with rowErr := [((0, rowKey 1 9), [1, 2, 3, 4])] } }
    let n := s.setChan 0 { s.chan 0 with spareUsed := [(1, 2)] }
    4 ≤ (PTbl.at [] s.mem.rowErr 0 (rowKey 1 9)).length ∧ (s.chan 0).failed = false ∧ NTbl.at 0 (s.chan 0).spareUsed 1 < 2
    ∧ 4 ≤ (PTbl.at [] n.mem.rowErr 0 (rowKey 1 9)).length ∧ (n.chan 0).failed = false ∧ 2 ≤ NTbl.at 0 (n.chan 0).spareUsed 1
    ∧ NTbl.at false (n.chan 0).pprNone 1 = false ∧ (s.chan 0).repair = none ∧ (n.chan 0).repair = none
    ∧ ((s.setChan 0 { s.chan 0 with repair := some (1, 9) }).chan 0).repair = some (1, 9) := by decide +kernel

/-! Coherence. -/

/-- All nine agents are up; line 7 has a transaction or an entry where one is given. -/
def cohUp (t : List HTxn) (e : List (Nat × Option SfEnt)) : State :=
  { up with coh := { up.coh with up := 511, txns := t, sf := e } }

/-- A transaction of line 7 at its snoop of the named agents, and one at its grant to agent 0. -/
def snooping (l : List Nat) : HTxn :=
  { line := 7, txn := 5, req := { cmd := 0x12, agent := 1, line := 7 }, phase := .snoop, pend := l.map (fun a => { agent := a }) }
def grants : HTxn :=
  { line := 7, txn := 5, req := { cmd := 0x12, agent := 0, line := 7 }, phase := .grant,
    final := some { owned := true, holders := 1, used := 0 } }

/-- Requests of the chiplet at site 0 leave for the home of line 7, those of CC too (RD_OWN_NODATA only with its copy in S); a
tracker is free for them, or every one is taken; the line is free, or has a transaction. -/
theorem wit_coherent_requests : let s := cohUp [] []
    let cc : State := { s with coh := { s.coh with cc := [(7, some .s)] } }
    let full := s.setMsite (s.homePa (7 * 64)) { s.msite (s.homePa (7 * 64)) with trackers := 2048 }
    ([(0x10, false), (0x11, false), (0x12, true), (0x13, true), (0x14, false), (0x15, true)].all (fun x =>
      let reach (s : State) (a : Nat) : Bool := s.agentHeard a && (decide (8 ≤ a) || decide (s.siteOut a < 2048))
        && s.agentAddr a (7 * 64) x.2 == (stOk, some 7) && s.agentMay a x.1 7
      reach s 0 && reach full 0 && reach (cohUp [grants] []) 0 && reach (if x.1 = 0x13 then cc else s) 8) = true)
    ∧ s.homeFree 7 ∧ s.sfEnt 7 = none ∧ (s.sfWays 7).length < 16 ∧ s.plotOfSite 0 = none
    ∧ (cohUp [grants] []).lineBusy 7 = true ∧ (cohUp [grants] []).homeOpen 7
    ∧ (let x := s.agentReq 0 0x10 (7 * 64) 7 [] false none
       x.2.agentTracker x.1 = true)
    ∧ (let x := full.agentReq 0 0x10 (7 * 64) 7 [] false none
       x.2.agentTracker x.1 = false) := by
  unfold State.homeFree State.homeOpen
  decide +kernel

/-- A request that waits and starts, and a transaction that waits for a filter way. -/
theorem wit_home_starts :
    let s : State := { up with coh := { up.coh with up := 511, queue := [{ cmd := 0x10, agent := 0, line := 7 }] } }
    let w : HTxn := { snooping [] with phase := .alloc }
    s.htxn 7 = none ∧ (∀ w : Bool, s.repairHeld 7 w = false) ∧ s.coh.queue.find? (fun r => r.line == 7) = some { cmd := 0x10, agent := 0, line := 7 }
    ∧ s.fromOwner { cmd := 0x10, agent := 0, line := 7 } = false ∧ (cohUp [w] []).htxn 7 = some w
    ∧ w.victim = none := by decide +kernel

/-- RD_SHARED of an unheld line by the chiplet at site 0: the home grants S to it alone (08 R310). -/
theorem test_rd_shared : gives (exec (.rdShared 0 (7 * 64)) (cohUp [] [])) (fun t => match t.htxn 7 with
    | some x => x.final == some { owned := false, holders := 1, used := 0 }
    | none => false) = true := by decide +kernel

theorem wit_snoops : let s := cohUp [snooping [0]] []
    let c := cohUp [snooping [8]] []
    s.htxn 7 = some (snooping [0]) ∧ (snooping [0]).phase = .snoop ∧ (snooping [0]).txn = 5
    ∧ (snooping [0]).pend.any (fun w => w.agent == 0 && w.resp.isNone) = true ∧ (snooping [0]).pend.all (fun w => !w.complete) = true
    ∧ bit s.coh.up 0 = true ∧ (snooping [0]).pend.any (fun w => w.wbp && !w.wb) = false
    ∧ (snooping [0]).pend.any (fun w => w.agent == 0 && !w.wb) = true ∧ (cohUp [] []).htxn 7 = none
    ∧ c.htxn 7 = some (snooping [8]) ∧ c.boot.dead = false ∧ (snooping [8]).pend.any (fun w => w.agent == 8 && w.resp.isNone) = true
    ∧ [0x30, 0x31, 0x32].all (fun p => (ccAnswer 1 p (ccNow 0 none)).isSome && (ccAnswer 1 p (some .m)).isSome) = true
    ∧ (snooping [0]).pend = [{ agent := 0 }] := by decide +kernel

theorem wit_grants_and_evictions :
    let l : State := { cohUp [grants] [] with links := [(0, { acks := [7] })] }
    let full : State := State.setF { cohUp [] [] with coh := { (cohUp [] []).coh with
      evicts := [((cohUp [] []).homePa (7 * 64), 256)] } } .MEM_GROUP_EFFECTIVE_LOCAL 0 0 0
    (l.agentHeard 0 = true ∧ l.lineAddr 0 (7 * 64) false = (stOk, some 7) ∧ l.agentMay 0 0x20 7 = true
      ∧ (l.link 0).acks.contains 7 = true ∧ l.htxn 7 = some grants)
    ∧ ((cohUp [grants] []).lineAddr 0 (7 * 64) false = (stOk, some 7) ∧ ((cohUp [grants] []).link 0).acks.contains 7 = false)
    ∧ ((cohUp [] []).evictLoad ((cohUp [] []).homePa (7 * 64)) < 256 ∧ (cohUp [] []).coh.evWait = [])
    ∧ (256 ≤ full.evictLoad (full.homePa (7 * 64)) ∧ full.agentHeard 0 = true
      ∧ full.agentAddr 0 (7 * 64) true = (stOk, some 7) ∧ full.agentMay 0 0x19 7 = true)
    ∧ (cohUp [] []).agentHeard 0 = true ∧ (∀ w : Bool, (cohUp [] []).agentAddr 0 (7 * 64) w = (stOk, some 7))
    ∧ (cohUp [] []).agentMay 0 0x18 7 = true ∧ (cohUp [] []).agentMay 0 0x19 7 = true
    ∧ (cohUp [grants] []).htxn 7 = some grants ∧ grants.phase = .grant ∧ grants.final = some { owned := true, holders := 1, used := 0 }
    ∧ (cohUp [] [(7, some { owned := true, holders := 1, used := 0 })]).sfEnt 7 = some { owned := true, holders := 1, used := 0 }
    ∧ (cohUp [] []).sfEnt 7 = none := by decide +kernel

/-- An owner's dirty eviction leaves no entry (08 R312). -/
theorem test_evict_dirty : gives (exec (.evictDirty 0 (7 * 64) (List.replicate 64 9) false)
      (cohUp [] [(7, some { owned := true, holders := 1, used := 0 })]))
    (fun t => (t.sfEnt 7).isNone && t.memBytes (7 * 64) 2 == [9, 9]) = true := by decide +kernel

/-! Chiplet sites. -/

/-- Site 0 is fitted, its chiplet out of reset, with the link in a state and the profile Bludric. -/
def siteUp (st : Nat) (l : SLink) : State :=
  (((({ up with links := [(0, l)] } : State).setF .SITE_CFG_FITTED 0 0 1).setF .SITE_STATUS_LINK 0 0 st).setF
    .SITE_CFG_PROFILE 0 0 1).setF .SITE_STATUS_PROFILE_ACT 0 0 3

/-- The parameters a chiplet proposes: all modules at width code 3. -/
def paramOf (version : Nat) : SiteParam :=
  { profile := 1, role := 0, version, credits := [1, 2, 3, 4], widths := List.replicate 6 3,
    txLanes := List.replicate 6 [], rxLanes := List.replicate 6 [] }

theorem wit_site_training : let l : SLink := { rstLow := false, rails := true, refclk := true }
    let plan : SLink := { l with plan := List.replicate 6 {} }
    let due : SLink := { l with rstLow := true, releaseAt := some 0 }
    let held : SLink := { l with rstLow := true, hold := true }
    (siteUp 2 l).siteTrains 0 = true ∧ (siteUp 2 l).siteLinkState 0 ∈ [0, 2, 3] ∧ (siteUp 2 l).paramOk 0 (paramOf 1) = true
    ∧ (siteUp 2 l).paramOk 0 (paramOf 2) = false ∧ ((siteUp 2 { l with attempts := 1 }).link 0).attempts < 2
    ∧ 2 ≤ ((siteUp 2 { l with attempts := 2 }).link 0).attempts
    ∧ (siteUp 4 plan).siteTrains 0 = true ∧ (siteUp 4 plan).siteLinkState 0 = 4
    ∧ (∀ k : Nat, k < 6 → bit 63 k = true ∧ (((siteUp 4 plan).link 0).plan.getD k {}).width ≠ 0)
    ∧ (((siteUp 4 plan).link 0).tryRate = 5 ∧ (siteUp 4 plan).coh.reclaim = []
      ∧ ((List.range 6).filter (fun k => bit 3 k && (((siteUp 4 plan).link 0).plan.getD k {}).width != 0)).length < 3)
    ∧ (((siteUp 1 due).link 0).releaseAt = some 0 ∧ (siteUp 1 due).siteMayRelease 0 = true
      ∧ ((siteUp 1 due).siteRelease 0).siteTrains 0 = true)
    ∧ (((siteUp 1 held).link 0).hold = true ∧ (siteUp 1 held).siteMayRelease 0 = true)
    ∧ (siteUp 0 l).siteRails 0 = true
    ∧ letsB (siteUp 0 l) (.onModule 0x61) .SITE_CTL 0 0 0x3F00 = true ∧ letsB (siteUp 0 l) (.onModule 0x61) .SITE_CTL 0 0 2 = true
    ∧ letsB (siteUp 0 l) (.onModule 0x61) .SITE_CTL 0 0 1 = true ∧ ((siteUp 0 l).siteCtl 0 0x3F 0 0).1 = hOk
    ∧ (siteUp 0 l).linkUp 0 = false ∧ ((siteUp 0 l).unit .site 0).st ≠ some .failed ∧ (siteUp 5 l).linkUp 0 = true := by
  decide +kernel

theorem wit_site_drops : let l : SLink := { rstLow := false }
    let h : SLink := { l with held := [{ cmd := 0x01, len := 64 }] }
    (siteUp 5 l).siteLinkState 0 = 5 ∧ dropCounts 1 = false ∧ dropCounts 11 = false ∧ (siteUp 5 l).linkUp 0 = true
    ∧ ((siteUp 5 h).link 0).held ≠ [] ∧ ((siteUp 5 h).link 0).credits.getD (vcOf 0x01) 0 < ({ cmd := 0x01, len := 64 } : SiteMsg).units ∧ (siteUp 0 l).linkUp 0 = false
    ∧ ((siteUp 0 l).unit .ucie (umNo 0 5)).st = some .present ∧ ((siteUp 0 l).unit .site 0).st = some .present
    ∧ (((siteUp 0 l).setUnit .ucie (umNo 0 5) .failed).unit .ucie (umNo 0 5)).st = some .failed
    ∧ (((siteUp 0 l).setUnit .site 0 .failed).unit .site 0).st = some .failed := by decide +kernel

/-- A further failure of a module that is FAILED, and of a site that is, is reported again (01 R631). -/
theorem test_site_fails_again : gives (exec (.siteUmFail 0 5) ((siteUp 0 {}).setUnit .ucie (umNo 0 5) .failed)) (fun t =>
      t.hl.moduleSeq == ((siteUp 0 {}).setUnit .ucie (umNo 0 5) .failed).hl.moduleSeq + 1) = true
    ∧ gives (exec (.siteFail 0 1) ((siteUp 0 {}).setUnit .site 0 .failed)) (fun t =>
      t.hl.moduleSeq == ((siteUp 0 {}).setUnit .site 0 .failed).hl.moduleSeq + 1) = true := by
  decide +kernel

/-- The header of a READ of one line of granule 0, at tag 3 (09 R337). -/
def readHeader : BitVec 512 := BitVec.ofNat 512 (0x01 * 2 ^ 8 + 64 * 2 ^ 34 + 3 * 2 ^ 48)

/-- The CRC of zeros is zero. -/
theorem test_crc_of_zeros (n : Nat) : crc64 (List.replicate n 0) = 0 := by
  have h : (List.range 8).foldl (fun c _ => crc64Bit c) (0 ^^^ (0 : Byte).toNat * 2 ^ 56) = 0 := by decide +kernel
  unfold crc64
  induction n with
  | zero => rfl
  | succ n ih => rw [List.replicate_succ, List.foldl_cons, h, ih]

/-- A flit of zeros is good, one whose last byte is changed is not; a CXL flit says itself. -/
theorem wit_flit_crc : flitGood (.bludric (List.replicate 272 0)) = true
    ∧ flitGood (.bludric (List.replicate 271 0 ++ [1])) = false := by
  have e : ∀ b : Bytes, flitGood (.bludric b) = (b.length == 272 && leAt b 264 8 == crc64 (b.take 264)) := fun _ => rfl
  have h1 : (List.replicate 272 (0 : Byte)).take 264 = List.replicate 264 0 := by decide +kernel
  have h2 : (List.replicate 271 (0 : Byte) ++ [1]).take 264 = List.replicate 264 0 := by decide +kernel
  rw [e, e, h1, h2, test_crc_of_zeros]
  decide +kernel

theorem wit_flits : let c := (siteUp 5 { rstLow := false }).setF .SITE_STATUS_PROFILE_ACT 0 0 1
    leAt (List.replicate 272 (0 : Byte)) 0 2 = 0 ∧ leAt (List.replicate 272 (0 : Byte)) 4 4 = 0
    ∧ flitSeq (.bludric (List.replicate 272 0)) = 0 ∧ (siteUp 5 {}).flitFits 0 (.bludric (List.replicate 272 0)) = true
    ∧ c.linkUp 0 = true ∧ c.flitFits 0 (.cxl 0 0 true false []) = true ∧ flitGood (.cxl 0 0 true false []) = true
    ∧ flitGood (.cxl 0 0 false false []) = false := by decide +kernel

theorem wit_bludric_flits : let s := siteUp 5 { rstLow := false }
    (s.link 0).owed = [0, 0, 0, 0] ∧ (s.link 0).sent = [] ∧ (s.link 0).oweNak = false ∧ s.linkUp 0 = true ∧ s.f .SITE_STATUS_PROFILE_ACT 0 = 3 ∧ (s.link 0).rxNext = 0 ∧ (s.link 0).rxBad = false
    ∧ (s.link 0).held = [] ∧ (s.link 0).ahead = [] ∧ (s.link 0).hdr = none ∧ (sitePkt readHeader []).wellFormed = true
    ∧ (sitePkt readHeader []).cmd = 0x01 ∧ (s.link 0).waiting = [] ∧ s.siteTakes 0 (sitePkt readHeader []).cmd (sitePkt readHeader []).tag = true := by
  decide +kernel

/-! The Ethernet port. -/

theorem wit_ethernet_link : let d := up.setF .ETH_STATUS_LINK 0 0 1
    (d.f .ETH_STATUS_LINK = 1 ∧ (d.dom 21).running = true ∧ modeFits d.trainMode 1 = true ∧ d.lanesOk (d.lanesOfMode 1) = true
      ∧ d.trainMode = 0)
    ∧ (up.setF .ETH_STATUS_LINK 0 0 2).f .ETH_STATUS_LINK = 2 ∧ (up.setF .ETH_CFG_MODE 0 0 7).trainMode = 7
    ∧ up.eth.fatal = false ∧ up.f .ETH_STATUS_LINK = 3
    ∧ (let f := up.setF .ETH_STATUS_LANES_USED 0 0 0xFF
       f.f .ETH_STATUS_LANES_USED = 0xFF ∧ f.eth.dropDue = none ∧ (f.unit .ethLane 3).st = some .present ∧ f.lanesOk 0xF0 = true
         ∧ (f.setF .ETH_LANE_LOCK 5 0 1).othersLock 3 = true ∧ (f.setF .ETH_CFG_FALLBACK 0 0 1).f .ETH_CFG_FALLBACK = 1 ∧ (f.setF .ETH_CFG_FALLBACK 0 0 0).f .ETH_CFG_FALLBACK = 0)
    ∧ letsB up (.onModule 0x61) .ETH_CFG 0 0 0x8000 = true ∧ letsB up (.onModule 0x61) .ETH_CFG 0 0 0x1000 = true := by decide +kernel

/-- A frame with a body. -/
def frameOf (b : FrameBody) : Frame :=
  { fcsOk := true, fecOk := true, len := 100, dstMac := 2 ^ 48 - 1, srcMac := 5, vlan := none, body := b }

/-- A frame for an address of another is dropped at row 6, one that no row passes at row 5, a Headland datagram is taken. -/
theorem wit_frames : up.ethUp = true ∧ up.judgeFrame (frameOf .other) = .drop 5
    ∧ up.judgeFrame (frameOf (.otherIp false 1 2 true)) = .drop 6
    ∧ up.judgeFrame (frameOf (.udp false 1 broadcast4 9 20054 0 false true true true true true 0 0 0 [])) = .take := by decide +kernel

theorem wit_frame_answers : let s := (up.setF .ETH_IPV4_ADDR_ADDR 0 0 0x0A000001).setF .ETH_IPV4_ADDR_VALID 0 0 1
    s.own4.contains (ip4 0x0A000001) = true ∧ s.own4.contains (ip4 7) = false ∧ s.own6.contains (linkLocal s.fuses.mac) = true
    ∧ up.eth.arpCount = 0 ∧ up.eth.txq = [] ∧ up.paused (up.f .ETH_CFG_HL_PRIO) = none := by decide +kernel

/-- A data packet and an acknowledgement that wait for the end of a pause: the acknowledgement leaves first (10 R389). -/
theorem wit_tx_pick : let d : TxItem := { h := { prio := 3, pcp := none, dscp := 0, ect := false }, out := .pfc 0 0 }
    let a : TxItem := { d with strict := true }
    let s : State := { up with eth := { up.eth with txq := [d, a] } }
    s.txPick = some a ∧ s.txMay a = true ∧ a ∈ s.eth.txq := by decide +kernel

theorem wit_pfc : let l := up.setF .ETH_PFC_LOSSLESS 0 0 8
    let x : State := (State.setF { l with eth := { l.eth with xoff := 8, occ := [(3, 200000)], pauseSince := [(3, some 0)] } }
      .ETH_PFC_THRESH_XON_KIB 3 0 1).setF .ETH_PFC_WD_MS 0 0 5
    l.lossless 3 = true ∧ l.paused 3 = none ∧ up.lossless 3 = false ∧ bit x.eth.xoff 3 = true
    ∧ x.f .ETH_PFC_THRESH_XON_KIB 3 * 1024 < x.occ 3 ∧ (x.paused 3).isSome = true ∧ x.f .ETH_PFC_WD_MS ≠ 0
    ∧ bit x.eth.storm 3 = false := by decide +kernel

/-- Lane 2 is in use and has had more symbols corrected in this millisecond than its limit; lane 1 has not. -/
theorem wit_fec_limit : let s : State := (State.setF { up with eth := { up.eth with corr := [(1, [(0, 3)]), (2, [(0, 4), (0, 5)])] } }
      .ETH_STATUS_LANES_USED 0 0 0xFF).setF .ETH_LANE_LIMIT_SYMBOLS 0 0 8
    s.laneUsed 2 = true ∧ s.f .ETH_LANE_LIMIT_SYMBOLS 0 0 < s.corrRecent 2
    ∧ (∀ k : Nat, k < 2 → ¬(s.laneUsed k = true ∧ s.f .ETH_LANE_LIMIT_SYMBOLS 0 0 < s.corrRecent k))
    ∧ (∀ l : Nat, l < 8 → up.laneUsed l = true → up.corrRecent l ≤ up.f .ETH_LANE_LIMIT_SYMBOLS 0 0) := by decide +kernel

/-- The answers of ARP and NDP of this second are used up. -/
theorem wit_arp_limit : let s : State := { up with eth := { up.eth with arpCount := 1000 } }
    1000 ≤ s.eth.arpCount ∧ s.now < s.eth.arpStart + 1000000 := by decide +kernel

/-! Queue pairs. -/

/-- Queue pair 3 of the operator in a state, with its rings at granule 3. -/
def qpUp (st : Nat) : State :=
  (((((up.setF .ETH_QP_CTL_STATE 3 0 st).setF .ETH_QP_SQ_BASE 3 0 0xC0000).setF .ETH_QP_RQ_BASE 3 0 0xC0001).setF
    .ETH_QP_CQ_BASE 3 0 0xC0002).setF .ETH_QP_CQ_LOG2_SIZE 3 0 4).setF .ETH_QP_SQ_LOG2_SIZE 3 0 4

theorem wit_queue_pair_rows :
    [(0, 1), (1, 2), (2, 3), (3, 0), (3, 6)].all (fun x =>
      let s := qpUp x.1
      let w := putBits (s.regWord .ETH_QP_CTL 3 0) 2 0 x.2
      s.qpState 3 == x.1 && letsB s (.onModule 0x61) .ETH_QP_CTL 3 0 w && letsB s.arm (.onModule 0x61) .ETH_QP_CTL 3 0 w && !s.anyChange .ETH_QP_CTL 3 0 w [.ETH_QP_CTL_STATE]) = true
    ∧ (qpUp 1).qpRingsOk 3 = true ∧ (qpUp 3).boundTo 3 = none ∧ letsB (qpUp 3).arm (.onModule 0x61) .ETH_QP_SQ_TAIL 3 0 1 = true
    ∧ letsB (qpUp 3).arm (.onModule 0x61) .ETH_QP_RQ_TAIL 3 0 1 = true ∧ idxDist 1 ((qpUp 3).qp 3).sqHead ≤ 2 ^ (qpUp 3).f .ETH_QP_SQ_LOG2_SIZE 3
    ∧ (let c := (qpUp 3).setF .ETH_QP_STATUS_CQ_TAIL 3 0 2
       letsB c.arm (.onModule 0x61) .ETH_QP_CQ_HEAD 3 0 2 = true ∧ idxDist 2 2 ≤ 2 ^ c.f .ETH_QP_CQ_LOG2_SIZE 3)
    ∧ ([.ETH_QP_SQ_TAIL, .ETH_QP_RQ_TAIL, .ETH_QP_CQ_HEAD] : List Reg).all (fun r => letsB (qpUp 6).arm (.onModule 0x61) r 3 0 0)
      = true := by decide +kernel

/-- A send work request of an opcode at the head of queue pair 3's ring: 8 bytes at granule 4, to address 64. -/
def wrUp (op rsv : Nat) : State :=
  let b := leBytes 1 op ++ [0] ++ leBytes 2 0 ++ leBytes 4 8 ++ leBytes 8 77 ++ leBytes 8 (4 * 2 ^ 30)
    ++ (if op < 2 then leBytes 8 0 else leBytes 8 64) ++ List.replicate 8 0 ++ leBytes 8 rsv ++ List.replicate 16 0
  let s := (qpUp 3).setF .ETH_QP_SQ_TAIL_TAIL 3 0 1
  { s with mem := { s.mem with cells := putCells [] (3 * 2 ^ 30) b } }

/-- The work request's row finds it. -/
def wrB (op : Nat) : Bool :=
  let s := (wrUp op 0).arm
  let r := s.rd (s.qpSrc 3) (s.sqSlot 3 (s.qp 3).sqHead) 64
  s.wrReady 3 && r.1.status == 0 && !wrIllegal (s.plotOfQp 3) r.1.data && leAt r.1.data 0 1 == op
    && !bit (leAt r.1.data 1 1) 0
    && (op == 4 || decide (((s.wrTaken r.2 3).rd (s.qpSrc 3) (leAt r.1.data 16 8) (leAt r.1.data 4 4)).1.status ≤ 1))

theorem wit_work_requests : (List.range 5).map wrB = [true, true, true, true, true] := by decide +kernel

theorem wit_work_request_illegal : let s := (wrUp 0 1).arm
    let r := s.rd (s.qpSrc 3) (s.sqSlot 3 (s.qp 3).sqHead) 64
    s.wrReady 3 = true ∧ r.1.status = 0 ∧ wrIllegal (s.plotOfQp 3) r.1.data = true := by decide +kernel

/-- A WRITE Only of four bytes to address 64 under window 0's key with TAG 1, at a PSN. -/
def bthOf (psn : Nat) (rkey : Nat) : Bth :=
  { psn := psn, pos := .only, imm := none, va := 64, rkey := rkey, dmaLen := 4, payload := [1, 2, 3, 4] }

theorem wit_packets : let s := (qpUp 3).arm
    (s.rxStart 3 (bthOf 0 1024)).1 = true ∧ (s.rxStart 3 (bthOf 0 1024)).2.psnPlace 3 0 = .expected ∧ s.psnPlace 3 2 = .ahead 2
    ∧ s.psnPlace 3 (2 ^ 24 - 1) = .duplicate ∧ s.f .ETH_QP_CTL_SACK 3 = 0
    ∧ (s.setF .ETH_QP_CTL_SACK 3 0 1).f .ETH_QP_CTL_SACK 3 = 1 := by decide +kernel

theorem wit_write_packet :
    let s := (((((qpUp 3).setF .ETH_WIN_CTL_VALID 0 0 1).setF .ETH_WIN_CTL_TAG 0 0 1).setF .ETH_WIN_CTL_WRITE 0 0 1).setF
      .ETH_WIN_RANGE_LIMIT 0 0 9).setF .ETH_QP_CTL_PMTU 3 0 3
    (s.qp 3).rx = none ∧ (bthOf 0 1024).payload.length ≤ s.qpMtu 3 ∧ NTbl.at none (s.qp 3).ahead 0 = none
    ∧ s.winOk 3 64 1024 4 true = true ∧ (s.wr (s.qpSrc 3) 64 [1, 2, 3, 4]).1 = 0 ∧ s.winOk 3 64 2048 4 true = false
    ∧ msgMax < ({ bthOf 0 1024 with dmaLen := 2 ^ 31 + 1 } : Bth).dmaLen := by decide +kernel

/-- A packet of a queue pair as it was sent. -/
def unackedOf (psn kind : Nat) : SentPkt := { psn := psn, kind := kind, fields := [64, 1024, 8192], payload := [] }

/-- A queue pair with one packet not acknowledged and a READ whose response is awaited. -/
def sentUp (sack retries : Nat) : State :=
  (State.setQp ((qpUp 3).setF .ETH_QP_CTL_SACK 3 0 sack) 3
    { sqHead := 1, unacked := [unackedOf 5 0x0C], retries := retries,
      wqes := [{ idx := 0, op := 4, flags := 0, tally := 0, len := 8192, wrId := 1, laddr := 4 * 2 ^ 30, psn := 5, count := 2 }] }).setF
    .ETH_QP_CTL_RETRY_CNT 3 0 1

theorem wit_responses : let s := (sentUp 0 0).arm
    let b : Bth := { bthOf 5 0 with payload := List.replicate (s.qpMtu 3) 9 }
    s.qpActs 3 = true ∧ s.qpState 3 = 3 ∧ (s.ackTo 3 4).qpState 3 = 3 ∧ (s.ackTo 3 4).f .ETH_QP_CTL_SACK 3 = 0
    ∧ (let t := (sentUp 1 0).arm.ackTo 3 4
       t.qpState 3 = 3 ∧ t.f .ETH_QP_CTL_SACK 3 = 1)
    ∧ (s.ackTo 3 (psnDist 5 1)).qpState 3 = 3 ∧ (s.qp 3).unacked ≠ [] ∧ (s.qp 3).retries < s.f .ETH_QP_CTL_RETRY_CNT 3
    ∧ (sentUp 0 1).f .ETH_QP_CTL_RETRY_CNT 3 ≤ ((sentUp 0 1).qp 3).retries
    ∧ ((s.qp 3).wqes.find? Wqe.reading).map (fun w => (psnAdd w.psn (w.got / s.qpMtu 3), decide (w.got + b.payload.length ≤ w.len)))
      = some (5, true) := by decide +kernel

theorem wit_congestion : let s := (qpUp 3).setF .ETH_CFG_CC_EN 0 0 1
    let c := (s.setQp 3 { lastCut := some 0 }).setF .ETH_CC_CFG_CUT_HOLD_US 0 0 50
    let r := s.setQp 3 { sentNow := true }
    s.qpActs 3 = true ∧ s.qpState 3 = 3 ∧ s.f .ETH_CFG_CC_EN = 1 ∧ (s.qp 3).lastCut = none ∧ (c.qp 3).lastCut = some 0
    ∧ c.now < 0 + c.f .ETH_CC_CFG_CUT_HOLD_US ∧ r.eth.qps = [(3, r.qp 3)] ∧ (r.qp 3).sentNow = true ∧ (r.qp 3).cnpSeen = false
    ∧ (r.qp 3).quiet < r.f .ETH_CC_CFG_RECOVER_STEPS ∧ r.f .ETH_CFG_CC_EN = 1 := by decide +kernel

/-- PSNs 6, 7 and 8 have arrived, 5 has not (10 R402). -/
theorem test_sack : [5, 6, 8, 9].map (fun n => (sackHas 4 [0, 1, 2] (unackedOf n 0x2B), sackMisses 4 [0, 1, 2] (unackedOf n 0x2B)))
    = [(false, true), (true, false), (true, false), (false, false)] := by decide +kernel

/-! Ingest and Sheaf. -/

/-- Stream 2 of the operator in a mode: rows of 64 bytes in slots of 4 rows at granule 3, UDP port 9000. -/
def ingUp (mode : Nat) : State :=
  ((((((((up.setF .ETH_ING_CFG_ENABLE 2 0 1).setF .ETH_ING_CFG_UDP_PORT 2 0 9000).setF .ETH_ING_CFG_MODE 2 0 mode).setF
    .ETH_ING_ROWCFG_ROW_BYTES 2 0 64).setF .ETH_ING_CFG_LOG2_ROWS 2 0 2).setF .ETH_ING_SLOT_BASE_BASE 2 0 0xC0000).setF
    .ETH_ING_REC_BASE_BASE 2 0 0xC0100).setF .ETH_ING_CFG_LOG2_SLOTS 2 0 3).setF .ETH_ING_ROWCFG_SLOT_US 2 0 10

/-- A slot that opened with sequence number 8 and holds its second row. -/
def slotOf : IngSlot := { first := 8, no := 0, rows := [1], c0 := 0, c1 := 0 }

theorem wit_ingest : let s := ingUp 1
    let o : State := { s with eth := { s.eth with streams := [(2, { slots := [slotOf], accepted := 1, last := some 8 })] } }
    let d := s.setF .ETH_ING_CFG_ENABLE 2 0 0
    let v := 9000 * 2 ^ 48 + 3 * 2 ^ 16 + 2 * 2 ^ 8 + 2
    s.streamFor 9000 1 = some 2 ∧ (s.dom 21).running = true ∧ s.f .PWR_STATUS_STOP = 0 ∧ s.scrubbing (s.plotOfStream 2) = false
    ∧ s.f .ETH_ING_CFG_MODE 2 = 1 ∧ (ingUp 0).f .ETH_ING_CFG_MODE 2 = 0 ∧ (ingUp 0).streamFor 9000 1 = some 2 ∧ s.rowBytes 2 = 64
    ∧ (o.ing 2).judge (9 - 9 % o.ingRows 2) (9 % o.ingRows 2) = .dup ∧ (o.ing 2).judge (4 - 4 % o.ingRows 2) (4 % o.ingRows 2) = .late
    ∧ slotOf.rows.length + 1 ≠ s.ingRows 2 ∧ (o.ing 2).slots = [slotOf] ∧ o.f .ETH_ING_ROWCFG_SLOT_US 2 ≠ 0
    ∧ d.f .ETH_ING_CFG_ENABLE 2 = 0 ∧ letsB d (.onModule 0x61) .ETH_ING_CFG 2 0 (v + 1) = true ∧ d.portTaken 2 9000 = false
    ∧ (let s1 := ingFields.foldl (fun s x => s.setF x.1 2 0 (bits (v + 1) x.2.1 x.2.2)) d
       s1.ringOk none (0xC0000 * 4096) (s1.ingSlots 2 * s1.ingStride 2) true = true
         ∧ s1.ringOk none (0xC0100 * 4096) (s1.ingSlots 2 * 32) true = true ∧ s1.portTaken 2 9000 = false)
    ∧ ingFields.all (fun x => s.f x.1 2 == bits v x.2.1 x.2.2) = true ∧ letsB s.arm (.onModule 0x61) .ETH_ING_CFG 2 0 v = true := by
  decide +kernel

/-- A row in MODE 1 is the next of the stream: it is stored in slot 0 (10 R409). -/
theorem test_ingest_row : gives (exec (.ingestDatagram 9000 1 (List.replicate 64 7)) (ingUp 1))
    (fun t => t.memBytes (3 * 2 ^ 30) 2 == [7, 7] && t.f .ETH_ING_ROWS_COUNT 2 0 == 1 && (t.ing 2).accepted == 1) = true := by
  decide +kernel

/-- Context 1: rank 0 of a ring of two, all-reduce in FP32 of 4 KiB at granule 3, both entries on queue pairs in RTS. -/
def sheafUp (st : Nat) (c : ShCtx) : State :=
  [(Fid.SHEAF_CTX_OP_KIND, 0, 1), (.SHEAF_CTX_OP_ALIAS, 0, 1), (.SHEAF_CTX_RANK_SIZE, 0, 2), (.SHEAF_CTX_BUF_ADDR, 0, 0xC00000),
   (.SHEAF_CTX_LEN_BYTES, 0, 4096), (.SHEAF_CTX_SEG_SEG_BYTES, 0, 4096), (.SHEAF_CTX_TIMEOUT_PROGRESS_MS, 0, 5),
   (.SHEAF_CTX_NBR_QP_VALID, 0, 1), (.SHEAF_CTX_NBR_QP_QP, 0, 3), (.SHEAF_CTX_NBR_QP_VALID, 1, 1), (.SHEAF_CTX_NBR_QP_QP, 1, 4),
   (.SHEAF_CTX_STATUS_STATE, 0, st), (.SHEAF_CTX_STATUS_EPOCH, 0, 6)].foldl (fun s x => s.setF x.1 1 x.2.1 x.2.2)
    ({ ((up.setF .ETH_QP_CTL_STATE 3 0 3).setF .ETH_QP_CTL_STATE 4 0 3) with sheaf := [(1, c)] } : State)

/-- A run that has not failed. -/
def runOf : ShRun := { start := 0, cyc := 0, due := 5000 }

theorem wit_sheaf : let s := sheafUp 0 {}
    let r := sheafUp 1 { run := some runOf }
    let h := r.setMsite 0 { r.msite 0 with halfIssue := true }
    s.shState 1 = 0 ∧ s.boundTo 5 = none ∧ s.plotOfQp 5 = s.shPlot 1
    ∧ letsB s (.onModule 0x61) .SHEAF_CTX_NBR_QP 1 2 (2 ^ 24 + 5) = true ∧ s.shStartOk 1 = true
    ∧ letsB s.arm (.onModule 0x61) .SHEAF_CTX_CTL 1 0 0x71 = true ∧ (s.setF .SHEAF_CTX_RANK_SIZE 1 0 0).shStartOk 1 = false
    ∧ r.shState 1 = 1 ∧ letsB r.arm (.onModule 0x61) .SHEAF_CTX_CTL 1 0 2 = true ∧ r.qpActs 3 = true ∧ r.boundTo 3 = some (1, 0)
    ∧ r.boundTo 4 = some (1, 1) ∧ bits 0x11600000 31 28 = 1 ∧ bits 0x31600000 31 28 = 3
    ∧ bits 0x31600000 23 20 = r.f .SHEAF_CTX_STATUS_EPOCH 1 ∧ (r.shc 1).run = some runOf ∧ runOf.fail = none ∧ h.halfHeld = true
    ∧ 7 ≠ runOf.rxOf 0 % 2 ^ 20 := by decide +kernel

/-! Commands of sessions. -/

/-- Session 0's next command, of an opcode, with a payload and a PLOT byte. -/
def cmdAs (plot op : Nat) (b : Bytes) (s : State) : State :=
  s.setSess 0 { s.sess 0 with window := [((s.sess 0).next, some { opcode := op, tag := 9, plot := plot, payload := b, peer := {} })] }

/-- The same by the operator. -/
def cmdUp (op : Nat) (b : Bytes) (s : State) : State := cmdAs 0xFF op b s

/-- Session 0's next command executes. -/
def commandB (s : State) (op : Nat) (b : Bytes) : Bool :=
  match s.hlNext 0 with
  | some c => c.opcode == op && c.payload == b && s.hlRefusal 0 c == none
  | none => false

/-- What `commandB` shows. -/
theorem commands_of_commandB {s : State} {op : Nat} {b : Bytes} (h : commandB s op b = true) : ∃ c, s.commands 0 op b c := by
  unfold commandB at h
  split at h
  · rename_i c hc
    simp only [Bool.and_eq_true, beq_iff_eq] at h
    exact ⟨c, hc, h.1.1, h.1.2, h.2⟩
  · cases h

theorem wit_bad_auth : (cmdAs 3 0x10 [] up).hlNext 0 = some { opcode := 0x10, tag := 9, plot := 3, payload := [], peer := {} }
    ∧ 3 ≠ (match (up.sess 0).plot with
      | some p => p
      | none => 0xFF)
    ∧ ((cmdAs 3 0x21 [0, 0, 0, 0, 2] up).hlNext 0).map (fun c => beAt c.payload 4 1) = some 2
    ∧ ((cmdAs 3 0x72 [1, 0, 0, 0, 2] up).hlNext 0).map (fun c => beAt c.payload 4 1) = some 2
    ∧ up.sec.jobs.any SecJob.isLc = false := by decide +kernel

theorem wit_replies : up.eth.txq = [] ∧ up.paused (up.f .ETH_CFG_HL_PRIO) = none ∧ (up.sess 0).isOpen = true ∧ up.hlUp = true ∧ (up.sess 0).next < 0xFFFFFFFF := by decide +kernel

/-- Register access: a read, a write, a poll that is met and one that is not, and a poll that goes on. -/
theorem wit_session_registers : let a := beBytes 8 (ctlBase + 0x06000088)
    let r := a ++ beBytes 2 1
    let w := beBytes 2 1 ++ a ++ beBytes 8 3
    let p (v : Nat) : Bytes := a ++ beBytes 8 0xFF ++ beBytes 8 v ++ [0, 0, 0, 0] ++ beBytes 4 10
    let polls := (cmdUp 0x12 (p 77) up).setSess 0 { (cmdUp 0x12 (p 77) up).sess 0 with polling := some 0 }
    commandB (cmdUp 0x10 r up) 0x10 r = true ∧ r.length = 10 ∧ beAt r 8 2 = 1
    ∧ ((cmdUp 0x10 r up).askRead (.session 0) (beAt r 0 8) 8).1 = hOk
    ∧ commandB (cmdUp 0x11 w up) 0x11 w = true ∧ w.length = 18 ∧ beAt w 0 2 = 1
    ∧ ((cmdUp 0x11 w up).arm.askWrite (.session 0) (beAt w 2 8) 8 (beAt w 10 8)).1 = hOk
    ∧ commandB (cmdUp 0x12 (p 0) up) 0x12 (p 0) = true ∧ pollForm (p 0) = true
    ∧ ([0, 77] : List Nat).map (fun v => pollMet 0 ((cmdUp 0x12 (p v) up).askRead (.session 0) (beAt (p v) 0 8) 8).2.1 0xFF v)
      = [true, false]
    ∧ (polls.hlPolling 0).map (fun c => (decide (c.payload = p 77), polls.hlRefusal 0 c)) = some (true, none)
    ∧ (polls.askRead (.session 0) (beAt (p 77) 0 8) 8).1 = hOk := by decide +kernel

/-- Memory access at granule 3: a read, one that meets poison, a write. -/
theorem wit_session_memory : let r := beBytes 8 (3 * 2 ^ 30) ++ beBytes 2 8192
    let w := beBytes 8 (3 * 2 ^ 30) ++ beBytes 8 0 ++ [5]
    let bad : State := { up with mem := { up.mem with poison := [(3 * 2 ^ 24, true)] } }
    commandB (cmdUp 0x18 r up) 0x18 r = true ∧ up.memRefusal 0 (beAt r 0 8) (beAt r 8 2) false = none
    ∧ ((cmdUp 0x18 (beBytes 8 (3 * 2 ^ 30) ++ beBytes 2 8) up).arm.rd { id := 0x60, plot := none } (3 * 2 ^ 30) 8).1.status = stOk
    ∧ ((cmdUp 0x18 (beBytes 8 (3 * 2 ^ 30) ++ beBytes 2 8) bad).arm.rd { id := 0x60, plot := none } (3 * 2 ^ 30) 8).1.status = stPoison
    ∧ commandB (cmdUp 0x19 w up) 0x19 w = true ∧ 17 ≤ w.length ∧ beAt w 8 8 = 0
    ∧ up.memRefusal 0 (beAt w 0 8) 1 true = none ∧ ((cmdUp 0x19 w up).arm.wr { id := 0x60, plot := none } (beAt w 0 8) (w.drop 16)).1 = stOk := by
  decide +kernel

/-- The module with firmware in a state. -/
def fwUp (st : Nat) : State := { up with boot := { up.boot with fwState := st, cores := 0 } }

theorem wit_firmware_load : let b := beBytes 4 0 ++ [1, 2, 3]
    let v := beBytes 4 64 ++ [3, 0, 0, 0]
    commandB (cmdUp 0x20 b (fwUp 1)) 0x20 b = true ∧ 5 ≤ b.length ∧ (fwUp 1).fwOther 0 = false ∧ (fwUp 1).boot.fwState < 3
    ∧ [0, 1, 2, 3].all (fun k => commandB (cmdUp 0x21 (beBytes 4 64 ++ [k, 0, 0, 0]) (fwUp 1)) 0x21 (beBytes 4 64 ++ [k, 0, 0, 0]))
      = true ∧ v.length = 8 ∧ beAt v 5 3 = 0 ∧ beAt v 4 1 = 3 ∧ (fwUp 3).fwOther 0 = false := by decide +kernel

theorem wit_train : let b (st : Nat) : Bytes := beBytes 2 st ++ [1]
    let s := (up.setF .SITE_CFG_FITTED 0 0 1).setF .MEM_INIT_STATE 0 0 0
    commandB (cmdUp 0x22 (b 255) s) 0x22 (b 255) = true ∧ s.trainState = 3 ∧ s.f .MEM_INIT_STATE = 0 ∧ s.trainReady 255 1 = true
    ∧ (up.setF .SITE_CFG_FITTED 0 0 1).trainReady 0 1 = true := by decide +kernel

theorem wit_record_replay : let b := beBytes 4 0 ++ [0, 0, 0, 0] ++ [7]
    let s := up.setF .GLB_TRAIN_STATUS_STATE 0 0 0
    let t : State := State.setF { up with boot := { up.boot with bufHolder := some 0 } } .GLB_TRAIN_STATUS_STATE 0 0 1
    commandB (cmdUp 0x23 b s) 0x23 b = true ∧ 9 ≤ b.length ∧ s.trainState = 0 ∧ beAt b 0 4 = 0 ∧ t.trainState = 1
    ∧ t.recOther 0 = false := by decide +kernel

/-- A descriptor of plot 2: engine 1, one private granule, 3, writable. -/
def descOf : Bytes :=
  [2, 2, 0, 0] ++ beBytes 2 1 ++ beBytes 2 1 ++ List.replicate 8 0 ++ List.replicate 32 7 ++ List.replicate 16 0
    ++ beBytes 4 (2 ^ 31 + 2 ^ 28 + 3)

theorem wit_plot_create : let s := cmdUp 0x30 descOf (up.setF .GLB_GRAN_AVAIL_AVAIL 0 0 (2 ^ 64 - 8))
    commandB s 0x30 descOf = true ∧ s.sec.commonJob = none ∧ s.plotRefusal descOf = none
    ∧ (PlotDesc.parse descOf).map PlotDesc.plot = some 2 := by decide +kernel

/-- Plot 2 exists, and is being torn down. -/
def plotUp (t : Option Teardown) : State :=
  up.setPlot 2 { active := true, engines := 2, map := [(0, some { common := false, twin := false, write := true, twinGran := 0, gran := 3 })],
                 generation := 1, teardown := t }

theorem wit_plot_teardown : commandB (cmdUp 0x31 [2] (plotUp none)) 0x31 [2] = true ∧ ((plotUp none).plot 2).active = true
    ∧ ((plotUp none).plot 2).teardown = none ∧ ((plotUp (some { began := 0, order := 0 })).plot 2).teardown = some { began := 0, order := 0 }
    ∧ (let s := plotUp (some { began := 0, order := 0 })
       s.tearFirst = some 2 ∧ s.plotBusy 2 = false ∧ s.recallOpen HReq.tears = false) := by decide +kernel

/-- ATTEST, QOS_COMMIT, DEBUG_READ, DEBUG_WRITE and the three actions of DEBUG_HALT. -/
theorem wit_reports_and_debug : let n := List.replicate 32 (1 : Byte)
    let r := beBytes 8 (ctlBase + 0x06000088) ++ beBytes 2 8
    let w := beBytes 8 (3 * 2 ^ 30) ++ beBytes 8 0 ++ [5]
    let h (k : Byte) : Bytes := [1, 0, 0, 1, k]
    let halted : State := { up with engs := [(1, { halted := true })] }
    commandB (cmdUp 0x02 n up) 0x02 n = true ∧ up.sec.lcState ≠ lcTest
    ∧ commandB (cmdUp 0x32 [3] up) 0x32 [3] = true ∧ (cmdUp 0x32 [3] up).lockRefuses 0x04000100 (some 0) = false
    ∧ commandB (cmdUp 0x70 r up) 0x70 r = true ∧ commandB (cmdUp 0x71 w up) 0x71 w = true
    ∧ [0, 1, 2].all (fun k => commandB (cmdUp 0x72 (h k) up) 0x72 (h k)) = true
    ∧ up.present .engine 1 = true ∧ (up.pstate 1 = 0 ∨ up.pstate 1 = 1) ∧ (up.eng 1).halted = false
    ∧ (halted.eng 1).halted = true ∧ up.scrubbing (up.plotOfEngine 1) = false
    ∧ up.arm.debugScrubs (beAt r 0 8) (beAt r 8 2) = false ∧ up.arm.debugScrubs (beAt w 0 8) (w.length - 16) = false := by
  decide +kernel

/-- As many bytes as asked for. -/
theorem cellBytes_length (c : Cells) : ∀ n a, (cellBytes c a n).length = n
  | 0, _ => rfl
  | n + 1, a => by rw [cellBytes, List.length_cons, cellBytes_length c n]

/-- A firmware image without a body, under ROM key 0, in the loading SRAM. -/
def imageUp : State :=
  { fwUp 1 with boot := { (fwUp 1).boot with sram := putCells [] 0 (leBytes 4 0x4F484657 ++ leBytes 2 1) } }

/-- The image's bytes: its header, zeros, and a signature of zeros. -/
def imageOf : Bytes := cellBytes imageUp.boot.sram 0 17152

/-- Whether a signature verifies and whether a key hashes to a value of the ROM is opaque: given both, the image loads. -/
theorem wit_image (h1 : Config.sha256 (slice imageOf 24 32) = Config.romHash 0)
    (h2 : Config.slhVerify (slice imageOf 24 32) (slice imageOf 0 64) (slice imageOf 64 17088) = true) :
    imageUp.imageOk imageOf [] = true := by
  have hl : imageOf.length = 17152 := cellBytes_length _ _ _
  have h : leAt imageOf 0 4 = 0x4F484657 ∧ leAt imageOf 4 2 = 1 ∧ leAt imageOf 6 1 = 0 ∧ leAt imageOf 8 4 = 0
      ∧ leAt imageOf 12 4 = 0 := by decide +kernel
  have h3 : imageUp.fuses.minSvn = 0 ∧ imageUp.fuses.fwkRevoked = 0 := by decide +kernel
  simp [State.imageOk, hl, h, h1, h2, h3, bit]

/-- A running module with the image's bytes in the staging region, its lines in the LLC. -/
def stageUp : State :=
  { fwUp 3 with mem := { (fwUp 3).mem with
      cells := putCells [] stagingBase (leBytes 4 0x4F484657 ++ leBytes 2 1)
      llc := (List.range 268).map (fun k => (stagingBase / 64 + k, some { dirty := false })) } }

/-- SB's read of it. -/
def stageRead : RdRes × State := stageUp.arm.rd sbSrc stagingBase 17152

theorem stageRead_header : stageRead.1.status = stOk ∧ stageRead.1.data.length = 17152 ∧ leAt stageRead.1.data 0 4 = 0x4F484657
    ∧ leAt stageRead.1.data 4 2 = 1 ∧ leAt stageRead.1.data 6 1 = 0 ∧ leAt stageRead.1.data 8 4 = 0
    ∧ leAt stageRead.1.data 12 4 = 0 ∧ stageRead.2.fuses.minSvn = 0 ∧ stageRead.2.fuses.fwkRevoked = 0 := by decide +kernel

/-- The staged image verifies where its key and its signature do. -/
theorem wit_stage (h1 : Config.sha256 (slice stageRead.1.data 24 32) = Config.romHash 0)
    (h2 : Config.slhVerify (slice stageRead.1.data 24 32) (slice stageRead.1.data 0 64) (slice stageRead.1.data 64 17088) = true) :
    stageRead.1.status = stOk ∧ stageRead.2.imageOk stageRead.1.data [] = true := by
  obtain ⟨hz, hl, ha, hb, hc, hd, he, hf, hg⟩ := stageRead_header
  generalize stageRead = x at *
  refine ⟨hz, ?_⟩
  simp only [State.imageOk, hl, ha, hb, hc, hd, he, h1, h2, hf, hg]
  simp [bit]

/-! Claims, locks and mailboxes. -/

/-- Resource 2 held by session `n`, and a lock of block `t` by it. -/
def heldUp (h : Holder) (l : NTbl (Option LockEnt)) : State := { up with hl := { up.hl with claims := [(2, h)], locks := l } }

theorem wit_claims : let s := cmdUp 0x50 [2] up
    let c : Bytes := [0, 0, 0, 0, 6, 0, 0, 0]
    let l : NTbl (Option LockEnt) := [(4, some { session := 0, kind := 0, target := 0x06000000 })]
    commandB s 0x50 [2] = true ∧ s.isOperator 0 = true ∧ s.claimOf 2 = .free ∧ s.lockAt 1 2 = none
    ∧ commandB (cmdUp 0x51 [2] (heldUp (.session 0) [])) 0x51 [2] = true ∧ (heldUp (.session 0) []).claimOf 2 = .session 0
    ∧ commandB (cmdUp 0x50 [2] (heldUp (.session 5) [])) 0x50 [2] = true ∧ (heldUp (.session 5) []).claimOf 2 = .session 5
    ∧ commandB (cmdUp 0x51 [2] (heldUp (.session 5) [])) 0x51 [2] = true
    ∧ commandB (cmdUp 0x52 c up) 0x52 c = true ∧ lockForm c = true ∧ beAt c 0 1 = 0 ∧ beAt c 4 4 = 0x06000000
    ∧ up.targetScrubs 0 0x06000000 = false ∧ lockable 0 0x06000000 = true ∧ up.lockAt 0 0x06000000 = none
    ∧ (List.range 32).find? (fun i => decide (NTbl.at none up.hl.locks i = none)) = some 0
    ∧ commandB (cmdUp 0x53 c (heldUp .free l)) 0x53 c = true
    ∧ (heldUp .free l).lockAt 0 0x06000000 = some (4, { session := 0, kind := 0, target := 0x06000000 })
    ∧ up.claimant 2 (.session 0) = some (.session 0) ∧ letsB up (.session 0) .HL_CLAIM 2 0 (2 ^ 31) = true
    ∧ (heldUp (.session 0) []).claimant 2 (.session 0) = some (.session 0)
    ∧ letsB (heldUp (.session 0) []) (.session 0) .HL_CLAIM 2 0 0 = true := by decide +kernel

/-- Channel 5, from the sessions outside plots to the on-module master 0x50, or back, in a state. -/
def mbUp (toSession : Bool) (st : MbState) : State :=
  up.setMb 5 { bind := { valid := true, receiver := if toSession then 0x60 else 0x50, sender := if toSession then 0x50 else 0x60 },
               st := st, slot := [7], len := 1 }

theorem wit_mailboxes : let m : Master := .onModule 0x50
    let p : Bytes := [5, 0] ++ beBytes 2 1 ++ beBytes 4 0 ++ [9]
    let a : Bytes := [5, 0] ++ beBytes 2 77
    (up.scrubbing (up.mb 5).bind.scopePlot = false ∧ beAt p 0 1 = 5 ∧ p.length = 8 + beAt p 2 2)
    ∧ commandB (cmdUp 0x40 p (mbUp false .empty)) 0x40 p = true ∧ (mbUp false .empty).mbSends 5 (.session 0) = true
    ∧ commandB (cmdUp 0x41 [5] (mbUp true .posted)) 0x41 [5] = true ∧ (mbUp true .posted).mbReceives 5 (.session 0) = true
    ∧ commandB (cmdUp 0x41 [5] (mbUp false .acked)) 0x41 [5] = true ∧ (mbUp false .acked).mbReceives 5 (.session 0) = false
    ∧ (mbUp false .acked).mbSends 5 (.session 0) = true ∧ ((mbUp false .aborted).mb 5).st = .aborted
    ∧ commandB (cmdUp 0x42 a (mbUp true .posted)) 0x42 a = true ∧ a.length = 4
    ∧ (mbUp true .empty).mbSends 5 m = true ∧ letsB (mbUp true .empty) m .HL_MBOX_CTL 5 0 (256 * 2 ^ 32 + 1) = true
    ∧ letsB (mbUp true .empty) m .HL_MBOX_CTL 5 0 (2 ^ 32 + 1) = true
    ∧ (mbUp false .posted).mbReceives 5 m = true ∧ letsB (mbUp false .posted) m .HL_MBOX_CTL 5 0 2 = true
    ∧ letsB (mbUp false .taken) m .HL_MBOX_CTL 5 0 (2 ^ 48 + 3) = true ∧ (mbUp true .acked).mbSends 5 m = true
    ∧ letsB (mbUp true .acked) m .HL_MBOX_CTL 5 0 4 = true ∧ letsB (mbUp true .aborted) m .HL_MBOX_CTL 5 0 4 = true
    ∧ 2 ≤ up.stage ∧ up.rwlLocked 0x07000800 = false
    ∧ (up.arm.rd { id := 0x60, plot := none } (3 * 2 ^ 30) 512).1.status = stOk := by decide +kernel

theorem wit_mailbox_table : letsB up.arm (.onModule 0x61) .HL_MBOX_BIND_SRC 0 0 (3 * 2 ^ 30) = true := by decide +kernel

/-! Sessions. -/

/-- A datagram to the module, of the bytes of its header up to the tag and a payload, with the tag that the session's key
gives. -/
def dgOf (h tag : Bytes) : Datagram :=
  { srcIp := 1, srcPort := 2, srcMac := 3, dstIp := 4, dest := .unicast, bytes := h ++ tag }

theorem wit_discover : let d := dgOf ([1, 1, 0, 7] ++ List.replicate 12 0) (List.replicate 16 0)
    let s : State := { up with hl := { up.hl with bucket := 999999 } }
    up.hlHears = true ∧ dgDiscovers d = true ∧ up.replyPeer d = some { ip := 1, port := 2, mac := 3, own := 4 }
    ∧ 1000000 ≤ up.hl.bucket ∧ s.hl.bucket < 1000000 ∧ dgSized (dgOf [1, 1, 0, 7] []) = false
    ∧ dgSized d = true := by decide +kernel

/-- The first 16 bytes of a command RELEASE of session 0, and those that authenticate them. -/
def cmdHeader : Bytes := [1, 0x51, 0, 9, 0, 0xFF, 0, 0, 0, 0, 0, 0, 0, 0, 0, 1]
def cmdTag : Bytes := authTag (up.sess 0).key 0 0 0 0 cmdHeader

theorem cmdTag_length : cmdTag.length = 16 := by simp [cmdTag, authTag, slice] <;> omega

theorem wit_authenticated : let d := dgOf cmdHeader cmdTag
    dgSized d = true ∧ dgDiscovers d = false ∧ up.sec.lcState ≠ lcScrap ∧ dgOpcode d ≠ 0x03 ∧ beAt d.bytes 0 1 = 1 ∧ dgType d = 0
    ∧ dgParts d = 1 ∧ dgSession d < 16 ∧ (up.sess (dgSession d)).isOpen = true ∧ up.authOk d = true := by
  have h : ∀ o n, o + n ≤ 16 → slice (cmdHeader ++ cmdTag) o n = slice cmdHeader o n := by
    intro o n hn
    have h1 : (cmdHeader ++ cmdTag).drop o = cmdHeader.drop o ++ cmdTag :=
      List.drop_append_of_le_length (by simp [cmdHeader]; omega)
    have h2 : (cmdHeader.drop o ++ cmdTag).take n = (cmdHeader.drop o).take n :=
      List.take_append_of_le_length (by simp [cmdHeader]; omega)
    simp [slice, h1, h2]
  have hs : slice (cmdHeader ++ cmdTag) 16 16 = cmdTag := by
    have h1 : (cmdHeader ++ cmdTag).drop 16 = cmdTag := by
      rw [show (16 : Nat) = cmdHeader.length from rfl, List.drop_left]
    simp [slice, h1, List.take_of_length_le, cmdTag_length]
  have hl : (cmdHeader ++ cmdTag).length = 32 := by simp [cmdTag_length, cmdHeader]
  have hp : (cmdHeader ++ cmdTag).drop 32 = [] := List.drop_eq_nil_of_le (by omega)
  have hb : ∀ o n, o + n ≤ 16 → beAt (cmdHeader ++ cmdTag) o n = beAt cmdHeader o n := by
    intro o n hn; simp [beAt, h o n hn]
  have hx : (up.sess 0).isOpen = true ∧ up.sec.lcState ≠ lcScrap := by decide +kernel
  have hv : beAt cmdHeader 0 1 = 1 ∧ beAt cmdHeader 1 1 = 0x51 ∧ beAt cmdHeader 4 1 = 0 ∧ beAt cmdHeader 6 1 = 0
      ∧ beAt cmdHeader 8 4 = 0 ∧ beAt cmdHeader 12 2 = 0 ∧ beAt cmdHeader 14 1 = 0 ∧ beAt cmdHeader 15 1 = 1
      ∧ slice cmdHeader 0 16 = cmdHeader := by decide +kernel
  obtain ⟨v0, v1, v4, v6, v8, v12, v14, v15, v16⟩ := hv
  simp [dgOf, dgSized, dgDiscovers, dgOpcode, dgType, dgParts, dgSession, dgPart, dgSeq, dgLength, dgPayload, State.authOk, hl, hb,
    hs, h, hp, hx, v0, v1, v4, v6, v8, v12, v14, v15, v16]
  simpa using (show cmdTag = authTag (up.sess 0).key 0 0 0 0 cmdHeader from rfl)

/-- Of two datagrams with the same header and different tags one is not authentic. -/
theorem wit_not_authenticated : ∃ d : Datagram, dgSized d = true ∧ dgDiscovers d = false ∧ dgOpcode d ≠ 0x03
    ∧ beAt d.bytes 0 1 = 1 ∧ dgType d = 0 ∧ dgParts d = 1 ∧ dgSession d = 0 ∧ up.authOk d = false := by
  by_cases h : up.authOk (dgOf cmdHeader (List.replicate 16 0)) = true
  · refine ⟨dgOf cmdHeader (List.replicate 16 1), by decide, by decide, by decide, by decide, by decide, by decide, by decide, ?_⟩
    have e : slice (dgOf cmdHeader (List.replicate 16 0)).bytes 16 16 = authTag (up.sess 0).key 0 0 0 0 cmdHeader :=
      eq_of_beq h
    have n : slice (dgOf cmdHeader (List.replicate 16 1)).bytes 16 16 ≠ slice (dgOf cmdHeader (List.replicate 16 0)).bytes 16 16 := by
      decide
    rw [e] at n
    exact beq_eq_false_iff_ne.mpr n
  · exact ⟨dgOf cmdHeader (List.replicate 16 0), by decide, by decide, by decide, by decide, by decide, by decide, by decide,
      by simpa using h⟩

/-! The life of sessions. -/

/-- An operator's open with owner key 0. -/
def openOf : Bytes := [0, 0xFF, 0, 0, 0, 0, 0, 0] ++ List.replicate 18336 0
def openAsm : OpenAsm := { peer := { ip := 1, port := 2, mac := 3, own := 4 }, tag := 7, parts := 1, got := [(0, some openOf)] }

/-- The module whose owner key 0 is the one of the open. -/
def ownerUp : State :=
  { up with fuses := { up.fuses with ownerBlown := 1, ownerHash := [(0, Config.sha256 (slice openOf 40 32))] }
            hl := { up.hl with asm := [openAsm] } }

/-- Whether a signature verifies, and whether an ML-KEM key passes its check, is opaque: given both, the session opens. -/
theorem wit_open (h1 : Config.slhVerify (slice openOf 40 32) (slice openOf 0 1256 ++ beBytes 8 ownerUp.fuses.serial)
      (slice openOf 1256 17088) = true) (h2 : Config.mlkemCheck (slice openOf 72 1184) = true) :
    openFormOk openAsm.payload = true ∧ ownerUp.credentialOk openAsm.payload = true ∧ ownerUp.openSigOk openAsm.payload = true
    ∧ ownerUp.sec.fatal = false ∧ beAt openAsm.payload 0 1 = 0 ∧ ownerUp.unconfirmed.length < 4
    ∧ (List.range 16).find? ownerUp.numberFree = some 1 ∧ ownerUp.openCount < 16
    ∧ ownerUp.hl.asm.find? (fun a => a.isFor 1 2 7 && a.complete) = some openAsm := by
  have hg : NTbl.at none openAsm.got 0 = some openOf := rfl
  have hp : openAsm.payload = openOf := by
    rw [OpenAsm.payload, show openAsm.parts = 1 from rfl]
    simp [List.range_succ, hg]
  have hc : beAt openOf 0 1 = 0 ∧ beAt openOf 1 1 = 0xFF ∧ beAt openOf 2 1 = 0 ∧ beAt openOf 3 5 = 0
      ∧ ownerUp.sec.lcState = lcField ∧ bit ownerUp.fuses.ownerBlown 0 = true ∧ bit ownerUp.fuses.ownerRevoked 0 = false := by
    decide +kernel
  obtain ⟨c0, c1, c2, c3, c4, c5, c6⟩ := hc
  have hl : openOf.length = 18344 := by simp only [openOf, List.length_append, List.length_replicate]; rfl
  have hs : NTbl.at [] ownerUp.fuses.ownerHash 0 = Config.sha256 (slice openOf 40 32) := rfl
  rw [hp]
  refine ⟨?_, ?_, ?_, by decide +kernel, c0, by decide +kernel, by decide +kernel, by decide +kernel, ?_⟩
  · simp [openFormOk, hl, c0, c1, c2, c3]
  · simp [State.credentialOk, c0, c2, c4, c5, c6, hs]
  · simp [State.openSigOk, h1, h2]
  · have h : (openAsm.isFor 1 2 7 && openAsm.complete) = true := by
      rw [OpenAsm.complete, show openAsm.parts = 1 from rfl]
      simp [OpenAsm.isFor, openAsm, NTbl.at, List.range_succ]
      rfl
    exact List.find?_cons_of_pos h

/-- A subscription of ranges 0 and 1, any plot, the operator's scope, from severity CORRECTED on. -/
theorem wit_session_life : let sub := beBytes 2 3 ++ [0xFF, 1, 0] ++ List.replicate 19 0
    let e : Event := { code := 0x30, sev := 0 }
    let two : State := up.setSess 3 { up.sess 0 with }
    let ev : State := up.setSess 0 { up.sess 0 with unsent := [e] }
    let old : State := up.setSess 0 { up.sess 0 with unsent := [e], relog := [e] }
    let gone : State := up.setSess 0 { up.sess 0 with unsent := [e], relog := [e], again := [(1, 0, e)] }
    commandB (cmdUp 0x04 [0xFF] up) 0x04 [0xFF] = true ∧ commandB (cmdUp 0x04 [3] two) 0x04 [3] = true ∧ (two.sess 3).isOpen = true
    ∧ two.isOperator 0 = true ∧ up.f .HL_CFG_IDLE_S ≠ 0 ∧ ((up.setSess 0 { up.sess 0 with confirmed := false }).sess 0).confirmed = false
    ∧ (up.sess 0).isOpen = true ∧ commandB (cmdUp 0x48 sub up) 0x48 sub = true ∧ up.subCheck 0 sub = hOk
    ∧ (ev.sess 0).unsent = [e] ∧ (ev.sess 0).relog = [] ∧ (ev.sess 0).again = [] ∧ ev.hlUp = true
    ∧ (old.sess 0).relog = [e] ∧ (old.sess 0).again = [] ∧ (gone.sess 0).again = [(1, 0, e)]
    ∧ commandB (cmdUp 0x60 [] up) 0x60 [] = true := by decide +kernel

/-! The security block. -/

theorem wit_security_requests : let m : Master := .session 0
    let p : State := { up with sec := { up.sec with lcState := lcProvision } }
    let two : State := { up with fuses := { up.fuses with ownerBlown := 3 } }
    up.opSession m = true ∧ up.sec.jobs.any SecJob.isLc = false ∧ up.sec.lcState < lcScrap
    ∧ letsB up.arm m .SEC_LC_REQ 0 0 0x401 = true ∧ up.tearing = false ∧ lcStage up.sec.lcState lcReturn ≠ none
    ∧ ((lcStage up.sec.lcState lcReturn).map (fun st => decide (st ≤ up.stage))) = some true
    ∧ letsB up.arm m .SEC_LC_REQ 0 0 0x301 = true ∧ up.aon.due = none
    ∧ p.sec.jobs.any SecJob.isOwner = false ∧ bit p.fuses.ownerBlown 0 = false ∧ letsB p.arm m .SEC_OWNER_PROG 0 0 0x100 = true
    ∧ letsB p.arm m .SEC_OWNER_PROG 0 0 0x200 = true ∧ 1 < two.fuses.ownersLive ∧ letsB two.arm m .SEC_OWNER_PROG 0 0 0x200 = true
    ∧ p.fuses.minSvn < 64 ∧ letsB p.arm m .SEC_OWNER_PROG 0 0 0x300 = true
    ∧ (let r : State := { up with sec := { up.sec with lcState := lcReturn } }
       r.sec.jobs.any SecJob.isRetire = false ∧ r.lcAnalysis = true ∧ NTbl.at 0 r.fuses.retire 0 = 0 ∧ retireValid 0x1000 = true
         ∧ letsB r m .SEC_RETIRE_PROG 0 0 (2 ^ 63 + 0x1000) = true) := by decide +kernel

theorem wit_common_requests : let s := up.setF .GLB_GRAN_AVAIL_AVAIL 0 0 (2 ^ 64 - 8)
    let c : State := { s with sec := { s.sec with common := [3] } }
    s.sec.commonJob = none ∧ s.tearing = false ∧ s.sec.fatal = false ∧ s.granPlots 3 = 0 ∧ s.commonEligible 1 3 = true
    ∧ letsB s (.session 0) .SEC_COMMON_REQ 0 0 0x10003 = true ∧ c.granPlots 3 = 0 ∧ c.commonEligible 2 3 = true
    ∧ letsB c (.session 0) .SEC_COMMON_REQ 0 0 0x20003 = true := by decide +kernel

theorem wit_security_ends : let j (l : List SecJob) : State := { up with sec := { up.sec with jobs := l } }
    let c (k : Nat) : State := { up with sec := { up.sec with commonJob := some (k, 3), common := [3] } }
    let f : State := { c 1 with sec := { (c 1).sec with fatal := true } }
    (f.sec.fatal = true ∧ f.sec.commonInst = 0 ∧ (c 1).sec.fatal = false) ∧ (j [.minSvn]).sec.jobs = [.minSvn] ∧ (j [.minSvn]).fuses.minSvn < 64
    ∧ (j [.retire 1 5]).sec.jobs = .retire 1 5 :: [] ∧ (j [.ownerRevoke 1]).sec.jobs = .ownerRevoke 1 :: []
    ∧ (c 1).sec.commonJob = some (1, 3) ∧ (c 2).sec.commonJob = some (2, 3) ∧ (c 2).twinOf 3 = none := by decide +kernel

/-! Power and temperature. -/

/-- Every rail is in regulation. -/
def railUp : State := (List.range 32).foldl (fun s r => s.setF .PWR_RAIL_STATUS_STATE r 0 1)
  { up with links := (List.range 8).map (fun n => (n, { rails := true })) }

theorem wit_rails : let x : RailReading := { rail := 31, fails := 0, mv := 800, da := 100, tempC := 50 }
    railUp.aon.porstLow = false ∧ x.rail < 32 ∧ railUp.railState 31 = 1 ∧ railUp.railState 0 = 1 ∧ railUp.railState 15 = 1
    ∧ railUp.railState 16 = 1 ∧ statusFault 0x8000 = true ∧ statusFault 0x0040 = false ∧ statusFault 0 = false
    ∧ (railUp.unit .engine 7).st = some .present ∧ railUp.stopped = false ∧ (railUp.unit .site 7).st = some .present
    ∧ (railUp.setF .PWR_SITE_CFG_LIMIT_W 7 0 100).f .PWR_SITE_CFG_LIMIT_W 7 = 100 := by decide +kernel

/-- Zone 3 with both temperatures in quarters of a degree, and caps in force. -/
def zoneUp (z : Zone) (q : Nat) : State :=
  ((((({ up with pwr := { up.pwr with zones := [(3, z)] } } : State).setMsite 3 { up.msite 3 with tempRead := true }).setF
    .PWR_ZONE_STATUS_HUB_TEMP_Q2 3 0 q).setF .MEM_TEMP_TEMP_Q2 3 0 q).setF .PWR_ZONE_STATUS_CAP_THERM 3 0 2)

theorem wit_governor : let k : Zone := { hubKnown := true }
    up.aon.porstLow = false ∧ up.aon.refLost = false ∧ hottest [some 300, none, some 320] = some 320
    ∧ hottest [none, none] = none ∧ (up.zone 3).hubFails < 2
    ∧ ((zoneUp { hubFails := 2 } 0).zone 3).hubFails = 2 ∧ up.f .PWR_ZONE_STATUS_SENSOR_LOST 3 = 0
    ∧ (up.dom 22).running = true ∧ up.stopped = false ∧ ((List.range 8).foldl State.tickZone up).stopped = false
    ∧ ((zoneUp { grace := some 0 } 0).zone 3).grace = some 0
    ∧ (zoneUp k 200).zoneKnown 3 = true ∧ (zoneUp k 200).zoneTemp 3 true ≤ (zoneUp k 200).warnQ true - 12
    ∧ (zoneUp k 200).zoneTemp 3 false ≤ (zoneUp k 200).warnQ false - 12 ∧ (zoneUp k 200).underLimit = false
    ∧ up.zoneKnown 3 = false
    ∧ ((zoneUp { changing := some 4 } 0).zone 3).changing = some 4 ∧ (zoneUp { changing := some 4 } 0).engClocked 3 = true := by
  decide +kernel

/-- What authorises a transition: the record in memory names this module and the new state, and the life-cycle key's
signature on it verifies (which signatures verify is opaque). -/
theorem wit_lc_auth (s : State) (a k : Nat) (h1 : (s.rd sbSrc a 17104).1.status = stOk)
    (h2 : slice (s.rd sbSrc a 17104).1.data 0 16 = beBytes 8 s.fuses.serial ++ beBytes 1 k ++ beBytes 7 0)
    (h3 : Config.slhVerify Config.lifeCycleKey (slice (s.rd sbSrc a 17104).1.data 0 16)
      (slice (s.rd sbSrc a 17104).1.data 16 17088) = true) : (s.lcAuthOk a k).1 = true := by
  rw [h2] at h3
  simp [State.lcAuthOk, h1, h2, h3, -List.append_assoc]

/-! Telemetry, debug stores and the test ports. -/

/-- Session 0 holds every claim, and the carve-out is in a state. -/
def coUp (st : Nat) : State :=
  State.setF { up with hl := { up.hl with claims := (List.range 4).map (fun k => (k, .session 0)) } } .TEL_CO_CTL_STATE 0 0 st

theorem wit_carve_out : let o := coUp 2
    let v := 2 ^ 44 + 1
    let e := ((o.setF .TEL_EXPORT_SRC_LENGTH_L 0 0 1).setF .GLB_GRAN_AVAIL_AVAIL 0 0 (2 ^ 64 - 8))
    let j : State := { o with tel := { o.tel with job := some (0, 64, 3 * 2 ^ 30) } }
    up.tel.snap = false ∧ letsB up (.onModule 0x61) .TEL_SNAP_CTL 0 0 1 = true ∧ (coUp 0).coState = 0
    ∧ letsB (coUp 0) (.session 0) .TEL_CO_CTL 0 0 1 = true ∧ o.coState = 2 ∧ letsB o (.session 0) .TEL_CO_CTL 0 0 2 = true
    ∧ (coUp 1).coState = 1 ∧ o.anyChange .TEL_CO_REGION 3 0 v = true ∧ (o.telRegion 3 v).1 = hOk
    ∧ letsB o (.session 0) .TEL_CO_REGION 3 0 v = true ∧ e.tel.job = none ∧ e.exportOk 0 64 (3 * 2 ^ 30) = true
    ∧ letsB e (.session 0) .TEL_EXPORT 0 0 (3 * 2 ^ 30 + 1) = true ∧ j.tel.job = some (0, 64, 3 * 2 ^ 30) := by decide +kernel

theorem wit_monitors : let g := (up.setF .GLN_CFG_ENABLE 3 0 1).setF .GLN_CFG_SRC_KIND 3 0 6
    let p := up.setF .PRB_CFG_ENABLE 3 0 1
    let k : Pkt := { port := 0, rsp := false, id := 0, plot := none, cls := 0, cmd := 1, addr := 0, len := 64 }
    let h := (((((p.setF .PRB_CFG_ACTIONS 3 0 1).setF .PRB_MATCH_CLASS_MASK 3 0 255).setF .PRB_ADDR_HI_LINE 3 0 9).setF
      .PRB_MATCH_ID_MASK 3 0 0).setF .PRB_MATCH_PLOT_MASK 3 0 0).setF .PRB_MATCH_CMD_MASK 3 0 0
    g.f .GLN_CFG_ENABLE 3 ≠ 0 ∧ g.glnLevel (g.f .GLN_CFG_SRC_KIND 3) (g.f .GLN_CFG_SRC_INDEX 3) = some 0
    ∧ (g.setF .GLN_CFG_HIST_EN 3 0 1).f .GLN_CFG_HIST_EN 3 ≠ 0 ∧ up.f .PRB_CFG_ENABLE 3 = 0
    ∧ letsB up (.onModule 0x61) .PRB_CFG 3 0 1 = true ∧ p.f .PRB_CFG_ENABLE 3 ≠ 0 ∧ letsB p (.onModule 0x61) .PRB_CFG 3 0 0 = true
    ∧ h.probeMatches 3 k = true ∧ h.f .PRB_CFG_ACTIONS 3 = 1 := by decide +kernel

/-- The debug window stands on the last word of engine 0's program store. -/
def dbgUp : State :=
  (State.setF { up with sec := { up.sec with lcState := lcReturn } } .DBG_SEL_STORE 0 0 3).setF .DBG_OFFSET_OFFSET 0 0 0x3FF

theorem wit_debug_stores : let s := dbgUp
    s.f .DBG_SEL_STORE 0 0 = 3 ∧ 8 * s.f .DBG_OFFSET_OFFSET 0 0 < 0x2000 ∧ s.plotOfEngine (s.f .DBG_SEL_UNIT 0 0) = none
    ∧ (let off := ((regAddr .DBG_DATA 0 0).getD 0) - ctlBase
       let x (w : Bool) := s.unitIssue { id := 0x70, plot := s.plotOfMaster 0x70 } (ctlBase + off) 8 w
       regAddr .DBG_DATA 0 0 = some (ctlBase + off) ∧ ctlOff (ctlBase + off) = some off
       ∧ s.masterLive (.onModule 0x70) = true ∧ s.ctlGate (.onModule 0x70) false = none ∧ s.ctlGate (.onModule 0x70) true = none
       ∧ (∀ w : Bool, (x w).2.windowed = false ∧ (x w).1.plane ≠ 4)
       ∧ ((s.debugMark (.onModule 0x70) off).regRead (.onModule 0x70) off 8).1 = hOk
       ∧ ((s.debugMark (.onModule 0x70) off).regWrite (.onModule 0x70) off 8 5).1 = hOk) := by decide +kernel

theorem wit_test_bus : let c : State := { coUp 0 with sec := { up.sec with lcState := lcReturn } }
    let w : State := { c with tel := { c.tel with atbWait := 2, trigHigh := true } }
    c.f .ATB_CFG_MODE 1 ≠ 1 ∧ letsB c (.session 0) .ATB_CFG 1 0 0x101 = true ∧ bit w.tel.atbWait 1 = true
    ∧ w.tel.trigHigh = true := by decide +kernel

theorem wit_test_ports : let a : State := { up with jtag := { up.jtag with reset := false } }
    let r : State := { a with sec := { a.sec with lcState := lcReturn } }
    let j : State := { r with jtag := { r.jtag with ir := irIjtag } }
    a.jtag.reset = false ∧ a.sec.lcState ≠ lcScrap ∧ a.pinsFree = false ∧ r.pinsFree = true ∧ j.jtag.ir = irIjtag
    ∧ j.jtag.left ≤ 1 ∧ bits (2 ^ 62) 63 62 ≠ 0 := by decide +kernel

/-! Reset, clocks, training. -/

theorem wit_reset_rows : let p : State := { up with aon := { up.aon with porstLow := true } }
    let d : State := { up with aon := { up.aon with due := some (5, 2) } }
    let u : State := { up with umReady := false }
    p.aon.porstLow = true ∧ d.aon.due = some (5, 2) ∧ u.umReady = false ∧ u.f .MEM_INIT_STATE = 2
    ∧ u.f .GLB_TRAIN_STATUS_STATE = 3 ∧ u.coh.evWait = []
    ∧ (∀ n : Nat, n < 8 → bit u.coh.up n = false ∧ (u.link n).evicting = []) ∧ (lcOfCode (majority up.fuses.lc)).1 ≠ lcScrap := by decide +kernel

theorem wit_clock_rows : let m : Master := .onModule 0x61
    let b : State := { up with umReady := false, doms := up.doms.filter (fun d => d.1 != 8) }
    let r := b.setF .CLK_DOM_STATUS_LOCKED 8 0 1
    let n := ((b.setF .MEM_INIT_STATE 0 0 0).setF .GLB_TRAIN_STATUS_STATE 0 0 3)
    up.aon.due = none ∧ letsB up m .GLB_RESET_REQ 0 0 1 = true ∧ letsB up (.onModule 0) .CC_WDT_KICK 0 0 1 = true ∧ up.boot.cores ≠ 0
    ∧ letsB up (.onModule 0) .CC_READY 0 0 1 = true
    ∧ isBoot 3 = false ∧ freqOk 3 1000 = true ∧ letsB up m .CLK_DOM_CFG 3 0 (1000 * 2 ^ 16 + 1) = true
    ∧ b.boot.testing = none ∧ r.f .CLK_DOM_STATUS_LOCKED 8 ≠ 0 ∧ (r.dom 8).ever = false ∧ letsB r m .CLK_RELEASE 0 0 0x7081 = true
    ∧ (let e := up.setF .CLK_DOM_STATUS_LOCKED 8 0 1
       e.f .CLK_DOM_STATUS_LOCKED 8 ≠ 0 ∧ (e.dom 8).ever = true ∧ letsB e m .CLK_RELEASE 0 0 0x7081 = true)
    ∧ n.f .MEM_INIT_STATE = 0 ∧ n.stacksTrained = true ∧ letsB n m .MEM_INIT 0 0 1 = true := by decide +kernel

theorem wit_clock_events : let s := ((up.setF .CLK_DOM_CFG_PLL_EN 3 0 1).setF .CLK_DOM_CFG_FREQ_MHZ 3 0 1000)
    let t := up.setF .CLK_DOM_STATUS_RELEASED 3 0 1
    let q := up.setF .CLK_DOM_STATUS_RELEASED 17 0 1
    s.f .CLK_DOM_CFG_PLL_EN 3 ≠ 0 ∧ freqOk 3 (s.f .CLK_DOM_CFG_FREQ_MHZ 3) = true ∧ t.f .CLK_DOM_STATUS_RELEASED 3 ≠ 0
    ∧ t.f .CLK_DOM_STATUS_TESTED 3 ≠ 1 ∧ testBad 3 { rows := 0, cols := [], ways := 0, beyond := false } = false
    ∧ q.f .CLK_DOM_STATUS_RELEASED 17 ≠ 0 ∧ q.f .CLK_DOM_STATUS_TESTED 17 ≠ 1
    ∧ testBad 17 { rows := 0, cols := [], ways := 0, beyond := true } = true ∧ q.boot.testing = none
    ∧ up.aon.porstLow = false ∧ up.aon.refLost = false ∧ (up.dom 7).running = true ∧ (up.dom 20).running = true
    ∧ (up.dom 23).running = true := by decide +kernel

theorem wit_control_complex : up.boot.cores ≠ 0 ∧ up.boot.ccHalt = 0
    ∧ ({ up with boot := { up.boot with ready := false } } : State).boot.ready = false := by decide +kernel

/-- Stacks in training, and memory whose initialisation runs, with few or too many channels mapped out. -/
theorem wit_training : let j : TrainJob := { stks := 255, sites := 0, replay := false, wearOnly := false }
    let t : State := { up with boot := { up.boot with job := some j } }
    let r := (up.setF .GLB_REC_STATUS_STALE 0 0 1).setF .GLB_REC_STATUS_VALID 0 0 1
    let i := up.setF .MEM_INIT_STATE 0 0 1
    let n : State := { i with mem := { i.mem with relocR := 129 } }
    t.boot.job = some j ∧ r.f .GLB_REC_STATUS_STALE ≠ 0 ∧ r.f .GLB_REC_STATUS_VALID ≠ 0 ∧ i.f .MEM_INIT_STATE = 1
    ∧ i.mem.relocR ≤ 128 ∧ i.sec.twins = [] ∧ (∀ k : Nat, k < 8 → (i.unit .memSite k).st ≠ some .failed) ∧ n.f .MEM_INIT_STATE = 1
    ∧ 128 < n.mem.relocR := by decide +kernel

/-! ### Results worked out by hand from the rules -/

/-- A stream's state after a lane row. -/
def after (c : Instr) (s : State) (p : Stream → Bool) : Bool := gives (exec c s) (fun t => ((t.stream 0 1).map p).getD false)

/-- 04 R163: 64 + 3; 5 + 0 in lane 0 only, the others keep their value. -/
theorem test_sadd : after (.sadd 0 1) (laneUp (testWord 0x40 3 1 2 0 0 0 0 0) 0) (fun t => t.s 3 == 67 && t.pc == 1) = true := by
  decide +kernel

theorem test_iadd : after (.iadd 0 1) (laneUp (testWord 0x10 1 1 1 0 1 0 0 0) 0)
    (fun t => (t.v 1).getD 0 0 == 10 && (t.v 1).getD 1 0 == 7) = true := by decide +kernel

/-- The example of FIPS 180-4: SHA-256 of "abc". -/
theorem test_sha256 : (Config.sha256 [0x61, 0x62, 0x63]).take 8 = [0xBA, 0x78, 0x16, 0xBF, 0x8F, 0x01, 0xCF, 0xEA] := by
  decide +kernel

/-- 02 R88: saturation at both ends. -/
theorem test_saturates : sat32 (2147483647 + 1) = 0x7FFFFFFF#32 ∧ sat32 (-2147483648 - 1) = 0x80000000#32 := by decide +kernel

/-- 02 R85: 1 + 2 = 3, and 1 + 2^-24 is a tie that rounds to the even 1. -/
theorem test_fadd : roundF32 ((valF32 0x3F800000#32).add (valF32 0x40000000#32)).1 = 0x40400000#32
    ∧ roundF32 ((valF32 0x3F800000#32).add (valF32 0x33800000#32)).1 = 0x3F800000#32 := by decide +kernel

/-- 06 R233: the INT32 alias wraps, the saturating one clamps. -/
theorem test_alias : (aliasAdd 3 0x7FFFFFFF 1).1 = 0x80000000 ∧ (aliasAdd 4 0x7FFFFFFF 1).1 = 0x7FFFFFFF := by decide +kernel

/-- A branch on GEU, 64 ≥ 3, goes to its target; one on LTU goes to the next instruction (04 R162, R163). -/
theorem test_branch : after (.br 0 1) (laneUp (testWord 0x58 0 1 2 0 0 0 5 9) 0) (fun t => t.pc == 9) = true
    ∧ after (.br 0 1) (laneUp (testWord 0x58 0 1 2 0 0 0 4 9) 0) (fun t => t.pc == 1) = true := by decide +kernel

/-- The control register of the last queue pair (10 R414). -/
theorem test_register_address : regAddr .ETH_QP_CTL 8191 0 = some (ctlBase + 0x06100000 + 0x80 * 8191)
    ∧ locate (0x06100000 + 0x80 * 8191) = some (.ETH_QP_CTL, 8191, 0) ∧ locate (0x06100000 + 0x80 * 8191 + 4) = none := by
  decide +kernel

/-- The IDCODE leaves the TAP least significant byte first (17 R621). -/
theorem test_idcode : gives (exec .idcode { up with jtag := { up.jtag with reset := false } })
    (fun t => t.out == [.serial 1 [0xCF, 0x85, 0x60, 0x11]]) = true := by decide +kernel

/-- A tick: time moves on, and engine 0's domain counts the cycles of its frequency. -/
theorem test_tick : gives (step (up.setF .CLK_DOM_STATUS_FREQ_ACT 0 0 1000)) (fun t => t.now == 1 && (t.dom 0).cycles == 1000) = true := by
  decide +kernel

/-- A reset by PORST_N leaves the boot set stopped and the cause 0 (14 R513). -/
theorem test_porst : gives (exec (.porstNLow 1000) up) (fun t => t.f .GLB_RESET_CAUSE_CAUSE 0 0 == 0 && t.doms.isEmpty && t.units.isEmpty)
    = true := by decide +kernel

/-- SEC_DEBUG: DEBUG_HALT halts engine 1 (16 R593). -/
theorem test_debug_halt : gives (exec (.debugHalt 0) (cmdUp 0x72 [1, 0, 0, 1, 0] up))
    (fun t => (t.eng 1).halted && t.sec.debugUsed) = true := by decide +kernel

/-- A claimed resource is held by the session that claimed it, and the reply is OK (12 R463). -/
theorem test_claim : gives (exec (.claim 0) (cmdUp 0x50 [2] up)) (fun t => t.claimOf 2 == .session 0 && (match t.out with
    | [.reply _ r _] => r.status == hOk && r.opcode == 0x50
    | _ => false)) = true := by decide +kernel

/-- An engine's rail fault takes it out of service (15 R549). -/
theorem test_rail_fault : gives (exec (.pwrRailFault 2 0x8000) railUp) (fun t => (t.unit .engine 2).st == some .failed
    && (t.unit .engine 3).st == some .present) = true := by decide +kernel

/-- An uncorrectable SRAM error halts the four cores and draws the line (14 R523). -/
theorem test_sram_fatal : gives (exec .ccSramFatal up) (fun t => t.boot.cores == 0 && t.aon.alert) = true := by decide +kernel

/-- A mesh read of a line of memory is answered with its bytes (07 R262). -/
theorem test_mesh_read : gives (exec (.read (meshQ 0) []) up) (fun t => match t.req 0 0 with
    | some r => r.ans && r.status == stOk && r.rdata.length == 64
    | none => false) = true := by decide +kernel

/-- The manual's example "Ties to even" (02): FP32 to BF16 and to E4M3. -/
theorem test_example_ties : [(9, 0x3F808000), (9, 0x3F818000), (5, 0x41380000), (5, 0x3B400000), (5, 0x3A800000)].map
    (fun x => (elemConv x.1 (elemDecode 11 x.2)).1) = [0x3F80, 0x3F82, 0x54, 0x02, 0x00] := by decide +kernel

/-- The manual's example "Saturation and its threshold" (02), the inputs as FP32: 460, 464, 470, 500 and -500 to E4M3, 70000
to E5M2, 127.5 and -128.5 to INT8, 7.5 and -8.5 to INT4. -/
theorem test_example_saturation : [(5, 0x43E60000), (5, 0x43E80000), (5, 0x43EB0000), (5, 0x43FA0000), (5, 0xC3FA0000),
      (6, 0x4788B800), (3, 0x42FF0000), (3, 0xC3008000), (0, 0x40F00000), (0, 0xC1080000)].map
    (fun x => (elemConv x.1 (elemDecode 11 x.2)).1 % 2 ^ fmtBits x.1)
      = [0x7E, 0x7E, 0x7E, 0x7E, 0xFE, 0x7B, 0x7F, 0x80, 0x7, 0x8] := by decide +kernel

/-- The manual's example "Infinity and NaN through CONVERT" (02). -/
theorem test_example_special : [(6, 0x7F800000), (10, 0x7F800000), (9, 0x7F800000), (5, 0xFF800000), (3, 0x7F800000), (9, 0xFFC12345),
      (3, 0x7F800001)].map (fun x => (elemConv x.1 (elemDecode 11 x.2)).1)
      = [0x7C, 0x7C00, 0x7F80, 0x7F, 0x7F, 0x7FC0, 0x00] := by decide +kernel

/-- Plot 2 whose map's entry 5 names granule 137, writable. -/
def exampleUp : State :=
  let e : PMapEnt := { common := false, twin := false, write := true, twinGran := 0, gran := 137 }
  up.setPlot 2 { active := true, map := [(5, some e)] }

/-- The manual's example of plot P2 (01): its own address and its FP32 reduce alias. -/
theorem test_example_plot_address : exampleUp.translate (some 2) 0x14A000040 false = some 0x224A000040
    ∧ exampleUp.translate (some 2) 0x100014A000040 true = some 0x100224A000040 := by decide +kernel

/-- The manual's example of where that address lives (05): site and channel, hashed and site-local. -/
theorem test_example_channel : let l := up.setF .MEM_GROUP_EFFECTIVE_LOCAL 0 0 (2 ^ 17)
    (up.home 0x224A000040, up.chanOf 0x224A000040) = (1, 32) ∧ (up.home 0x224A005140, up.chanOf 0x224A005140) = (4, 129)
    ∧ (l.home 0x224A000040, l.chanOf 0x224A000040) = (1, 48) := by decide +kernel

end Sys2Proof.Machine

end Slice0Tests
end

section
/-! What the rows of a session's commands do with a command that 12 R449-R461 refuse: it is answered with what refuses it,
and nothing else happens. The statement about PLOT (12 R450) is the refusal with BAD_AUTH. -/

namespace Sys2Proof.Machine

/-! ### The refusal with BAD_AUTH -/

theorem Session.plotByte_tenant {x : Session} {p : Nat} (h : x.plot = some p) : x.plotByte = p := by
  rw [Session.plotByte, h, Option.getD_some]

theorem Session.plotByte_operator {x : Session} (h : x.plot = none) : x.plotByte = 0xFF := by
  rw [Session.plotByte, h, Option.getD_none]

/-- PLOT is judged before anything else (12 R450). -/
theorem State.hlRefusal_of_plot_ne {s : State} {n : Nat} {c : HCmd} (h : c.plot ≠ (s.sess n).plotByte) :
    s.hlRefusal n c = some hBadAuth := if_pos h

/-- The command at NEXT of session `n` carries the opcode, and 12 R449-R461 refuse it with a status. -/
structure State.Refuses (s : State) (n op st : Nat) (c : HCmd) : Prop where
  atNext : s.hlNext n = some c
  opcode : c.opcode = op
  refusal : s.hlRefusal n c = some st

/-- Arming a command changes neither what is at NEXT nor what refuses it. -/
theorem State.Refuses.arm {s : State} {n op st : Nat} {c : HCmd} (h : s.Refuses n op st c) : s.arm.Refuses n op st c :=
  ⟨h.atNext, h.opcode, h.refusal⟩

theorem State.Refuses.hlRun_eq {s : State} {n op st : Nat} {c : HCmd} (h : s.Refuses n op st c)
    (f : HCmd → State → Nat × Bytes × State) : s.hlRun n op f = s.hlDone n c st [] :=
  State.hlRun_refused h.atNext h.opcode h.refusal f

theorem State.Refuses.hlSimple_eq {s : State} {n op st : Nat} {c : HCmd} (h : s.Refuses n op st c)
    (f : HCmd → State → WRes) : s.hlSimple n op f = s.hlDone n c st [] := h.hlRun_eq _

theorem State.Refuses.pollStep_eq {s : State} {n op st : Nat} {c : HCmd} (h : s.Refuses n op st c) (since : Nat)
    (last : Bool) : s.pollStep n c since last = s.hlDone n c st [] := by
  rw [State.pollStep, h.refusal]

/-- FW_START is refused in the row of its MODE (14 R532). -/
theorem State.Refuses.fwStartRow_eq {s : State} {n st mode : Nat} {c : HCmd} (h : s.Refuses n 0x21 st c)
    (hm : beAt c.payload 4 1 = mode) : s.fwStartRow n mode = s.hlDone n c st [] := by
  rw [State.fwStartRow, h.atNext]
  dsimp only
  rw [if_pos (Or.inl hm), h.hlSimple_eq]

/-- A well-formed DEBUG_HALT is refused in the row of its ACTION (16 R593). -/
theorem State.Refuses.haltRow_eq {s : State} {n st action : Nat} {c : HCmd} (h : s.Refuses n 0x72 st c)
    (hl : c.payload.length = 5) (hz : beAt c.payload 1 1 = 0) (ha : beAt c.payload 4 1 = action) (h2 : action ≤ 2) :
    s.haltRow n action = s.hlDone n c st [] := by
  rw [State.haltRow, h.atNext]
  dsimp only
  rw [if_pos (Or.inl ⟨by simp [hl, hz, ha, h2], ha⟩), h.hlSimple_eq]

/-! ### Rows that answer at once -/

/-- A row answers a refused command of its opcode at once. -/
def AnswersRefusal (op : Nat) (row : Nat → Instr) : Prop :=
  ∀ (s : State) (n st : Nat) (c : HCmd), s.Refuses n op st c → exec (row n) s = .next (s.hlDone n c st [])

/-- A row whose whole meaning is to run the command of its opcode at NEXT. -/
def RunsAtNext (op : Nat) (row : Nat → Instr) : Prop :=
  ∀ (s : State) (n : Nat), ∃ f, exec (row n) s = .next (s.hlRun n op f)

theorem RunsAtNext.answersRefusal {op : Nat} {row : Nat → Instr} (h : RunsAtNext op row) : AnswersRefusal op row := by
  intro s n st c hr
  obtain ⟨f, hf⟩ := h s n
  rw [hf, hr.hlRun_eq]

theorem attest_runsAtNext : RunsAtNext 0x02 .attest := fun _ _ => ⟨_, rfl⟩
theorem regRead_runsAtNext : RunsAtNext 0x10 .regRead := fun _ _ => ⟨_, rfl⟩
theorem train_runsAtNext : RunsAtNext 0x22 .train := fun _ _ => ⟨_, rfl⟩
theorem recordReplay_runsAtNext : RunsAtNext 0x23 .recordReplay := fun _ _ => ⟨_, rfl⟩
theorem plotTeardown_runsAtNext : RunsAtNext 0x31 .plotTeardown := fun _ _ => ⟨_, rfl⟩
theorem qosCommit_runsAtNext : RunsAtNext 0x32 .qosCommit := fun _ _ => ⟨_, rfl⟩
theorem mboxPost_runsAtNext : RunsAtNext 0x40 .mboxPost := fun _ _ => ⟨_, rfl⟩
theorem mboxTake_runsAtNext : RunsAtNext 0x41 .mboxTake := fun _ _ => ⟨_, rfl⟩
theorem mboxAck_runsAtNext : RunsAtNext 0x42 .mboxAck := fun _ _ => ⟨_, rfl⟩
theorem claim_runsAtNext : RunsAtNext 0x50 .claim := fun _ _ => ⟨_, rfl⟩
theorem release_runsAtNext : RunsAtNext 0x51 .release := fun _ _ => ⟨_, rfl⟩
theorem lock_runsAtNext : RunsAtNext 0x52 .lock := fun _ _ => ⟨_, rfl⟩
theorem unlock_runsAtNext : RunsAtNext 0x53 .unlock := fun _ _ => ⟨_, rfl⟩

/-- SESSION_CLOSE closes the session before its answer only where nothing refuses it. -/
theorem sessionClose_answersRefusal : AnswersRefusal 0x04 .sessionClose := by
  intro s n st c hr
  change execSessionClose n s = _
  rw [execSessionClose, hr.atNext]
  dsimp only
  rw [if_neg (by simp [hr.refusal]), hr.hlSimple_eq]

/-- A command at NEXT is a REG_POLL's first read: none waits (12 R458). -/
theorem regPoll_answersRefusal : AnswersRefusal 0x12 .regPoll := by
  intro s n st c hr
  change execRegPoll n s = _
  rw [execRegPoll, State.hlNext_notPolling hr.atNext, hr.atNext]
  dsimp only
  rw [if_pos hr.opcode, hr.pollStep_eq]

/-- A refused PLOT_CREATE does not wait for the requests for common granules (13 R503). -/
theorem plotCreate_answersRefusal : AnswersRefusal 0x30 .plotCreate := by
  intro s n st c hr
  change execPlotCreate n s = _
  rw [execPlotCreate, hr.atNext]
  dsimp only
  rw [if_neg (by simp [hr.refusal]), hr.hlRun_eq]

theorem eventSubscribe_answersRefusal : AnswersRefusal 0x48 .eventSubscribe := by
  intro s n st c hr
  change execEventSubscribe n s = _
  rw [execEventSubscribe, hr.atNext]
  dsimp only
  rw [if_neg (by simp [hr.refusal]), hr.hlSimple_eq]

/-- A refused RESET_DEVICE resets nothing. -/
theorem resetDevice_answersRefusal : AnswersRefusal 0x60 .resetDevice := by
  intro s n st c hr
  change execResetDevice n s = _
  rw [execResetDevice, hr.atNext]
  dsimp only
  rw [if_pos (by simp [hr.refusal]), hr.hlSimple_eq]

/-! ### Rows that may wait at a home -/

/-- A row comes to the answer of a refused command of its opcode, or waits behind an earlier one of its session (log 21). -/
def ComesToRefusal (op : Nat) (row : Nat → Instr) : Prop :=
  ∀ (s : State) (n st : Nat) (c : HCmd), s.Refuses n op st c →
    s.comesTo (row n) (.session n) (s.arm.hlDone n c st [])

/-- A row that runs the command of its opcode at NEXT as a command of a unit of the hub. -/
def RunsOrParks (op : Nat) (row : Nat → Instr) : Prop :=
  ∀ (s : State) (n : Nat), ∃ f,
    exec (row n) s = parkIf (row n) (ParkKey.session n).no (fun s => .next (s.hlRun n op f)) s

theorem RunsOrParks.comesToRefusal {op : Nat} {row : Nat → Instr} (h : RunsOrParks op row) : ComesToRefusal op row := by
  intro s n st c hr
  obtain ⟨f, hf⟩ := h s n
  exact State.comesTo_of hf (by rw [hr.arm.hlRun_eq])

theorem memRead_runsOrParks : RunsOrParks 0x18 .memRead := fun _ _ => ⟨_, rfl⟩
theorem memWrite_runsOrParks : RunsOrParks 0x19 .memWrite := fun _ _ => ⟨_, rfl⟩
theorem fwLoad_runsOrParks : RunsOrParks 0x20 .fwLoad := fun _ _ => ⟨_, rfl⟩
theorem debugRead_runsOrParks : RunsOrParks 0x70 .debugRead := fun _ _ => ⟨_, rfl⟩
theorem debugWrite_runsOrParks : RunsOrParks 0x71 .debugWrite := fun _ _ => ⟨_, rfl⟩

/-- REG_WRITE ends in the Headland's stop where a life-cycle request is in progress, refused or not (13 R480). -/
theorem regWrite_comesTo_refusal {s : State} {n st : Nat} {c : HCmd} (hr : s.Refuses n 0x11 st c) :
    s.comesTo (.regWrite n) (.session n) (s.arm.hlDone n c st []).lcSettle :=
  State.comesTo_of (f := fun s => .next (s.hlRun n 0x11 (fun c s => s.hlRegWrite n c.payload)).lcSettle) rfl
    (by rw [hr.arm.hlRun_eq])

theorem fwStartStage_comesTo_refusal {s : State} {n st : Nat} {c : HCmd} (hr : s.Refuses n 0x21 st c)
    (hm : beAt c.payload 4 1 = 2) : s.comesTo (.fwStartStage n) (.session n) (s.arm.hlDone n c st []) :=
  State.comesTo_of (f := fun s => .next (s.fwStartRow n 2)) rfl (by rw [hr.arm.fwStartRow_eq hm])

/-! ### Rows of one MODE or ACTION -/

/-- The rows of FW_START that act at once, each with its MODE. -/
theorem fwStart_answers_refusal {s : State} {n st k : Nat} {c : HCmd} {row : Nat → Instr} (hr : s.Refuses n 0x21 st c)
    (hk : (k, row) ∈ ([(0, .fwStartRun), (1, .fwStartVerify), (3, .fwStartClear)] : List (Nat × (Nat → Instr))))
    (hm : beAt c.payload 4 1 = k) : exec (row n) s = .next (s.hlDone n c st []) := by
  have hrow : exec (row n) s = .next (s.fwStartRow n k) := by
    simp only [List.mem_cons, Prod.mk.injEq, List.not_mem_nil, or_false] at hk
    obtain ⟨rfl, rfl⟩ | ⟨rfl, rfl⟩ | ⟨rfl, rfl⟩ := hk <;> rfl
  rw [hrow, hr.fwStartRow_eq hm]

/-- The rows of DEBUG_HALT, each with its ACTION. -/
theorem debugHalt_answers_refusal {s : State} {n st k : Nat} {c : HCmd} {row : Nat → Instr} (hr : s.Refuses n 0x72 st c)
    (hk : (k, row) ∈ ([(0, .debugHalt), (1, .debugResume), (2, .debugStep)] : List (Nat × (Nat → Instr))))
    (hl : c.payload.length = 5) (hz : beAt c.payload 1 1 = 0) (ha : beAt c.payload 4 1 = k) :
    exec (row n) s = .next (s.hlDone n c st []) := by
  have ⟨hle, hrow⟩ : k ≤ 2 ∧ exec (row n) s = .next (s.haltRow n k) := by
    simp only [List.mem_cons, Prod.mk.injEq, List.not_mem_nil, or_false] at hk
    obtain ⟨rfl, rfl⟩ | ⟨rfl, rfl⟩ | ⟨rfl, rfl⟩ := hk <;> exact ⟨by decide, rfl⟩
  rw [hrow, hr.haltRow_eq hl hz ha hle]

/-! ### The statement -/

/-- The rows of one opcode each that act at once. -/
theorem rowsAtOnce_answerRefusal : ∀ r ∈
    ([(0x02, .attest), (0x04, .sessionClose), (0x10, .regRead), (0x12, .regPoll), (0x22, .train), (0x23, .recordReplay),
      (0x30, .plotCreate), (0x31, .plotTeardown), (0x32, .qosCommit), (0x40, .mboxPost), (0x41, .mboxTake), (0x42, .mboxAck),
      (0x48, .eventSubscribe), (0x50, .claim), (0x51, .release), (0x52, .lock), (0x53, .unlock), (0x60, .resetDevice)]
    : List (Nat × (Nat → Instr))), AnswersRefusal r.1 r.2 := by
  simp only [List.forall_mem_cons]
  exact ⟨attest_runsAtNext.answersRefusal, sessionClose_answersRefusal, regRead_runsAtNext.answersRefusal,
    regPoll_answersRefusal, train_runsAtNext.answersRefusal, recordReplay_runsAtNext.answersRefusal,
    plotCreate_answersRefusal, plotTeardown_runsAtNext.answersRefusal, qosCommit_runsAtNext.answersRefusal,
    mboxPost_runsAtNext.answersRefusal, mboxTake_runsAtNext.answersRefusal, mboxAck_runsAtNext.answersRefusal,
    eventSubscribe_answersRefusal, claim_runsAtNext.answersRefusal, release_runsAtNext.answersRefusal,
    lock_runsAtNext.answersRefusal, unlock_runsAtNext.answersRefusal, resetDevice_answersRefusal, List.forall_mem_nil _⟩

/-- The rows of one opcode each whose accesses may wait at a home, other than REG_WRITE's. -/
theorem rowsThatWait_comeToRefusal : ∀ r ∈
    ([(0x18, .memRead), (0x19, .memWrite), (0x20, .fwLoad), (0x70, .debugRead), (0x71, .debugWrite)]
    : List (Nat × (Nat → Instr))), ComesToRefusal r.1 r.2 := by
  simp only [List.forall_mem_cons]
  exact ⟨memRead_runsOrParks.comesToRefusal, memWrite_runsOrParks.comesToRefusal, fwLoad_runsOrParks.comesToRefusal,
    debugRead_runsOrParks.comesToRefusal, debugWrite_runsOrParks.comesToRefusal, List.forall_mem_nil _⟩

/-- Settles O54: a command of another plot is refused with BAD_AUTH, and every row answers a refused command. -/
theorem commandOfAnotherPlotIsBadAuth : Obligations.CommandOfAnotherPlotIsBadAuth := by
  intro s n c hnext hplot
  have hne : c.plot ≠ (s.sess n).plotByte := by
    split at hplot
    · next p hp => rwa [Session.plotByte_tenant hp]
    · next hp => rwa [Session.plotByte_operator hp]
  have hrefuses (op : Nat) (hop : c.opcode = op) : s.Refuses n op hBadAuth c :=
    ⟨hnext, hop, State.hlRefusal_of_plot_ne hne⟩
  refine ⟨fun op row hrow hop => ?_, fun op row hrow hop => ?_, fun hop => ?_, fun k row hrow hop hmode => ?_,
    fun hop hmode => ?_, fun k row hrow hop hlen hzero haction => ?_⟩
  · exact rowsAtOnce_answerRefusal (op, row) hrow s n hBadAuth c (hrefuses op hop)
  · exact rowsThatWait_comeToRefusal (op, row) hrow s n hBadAuth c (hrefuses op hop)
  · exact regWrite_comesTo_refusal (hrefuses 0x11 hop)
  · exact fwStart_answers_refusal (hrefuses 0x21 hop) hrow hmode
  · exact fwStartStage_comesTo_refusal (hrefuses 0x21 hop) hmode
  · exact debugHalt_answers_refusal (hrefuses 0x72 hop) hrow hlen hzero haction

end Sys2Proof.Machine
end

section
/-! What the errors of the control complex do (14 R523, R524, R529). Their rows halt the cores, flag the error and raise an
event of severity MODULE_FATAL, which counts in MODULE_SEQ and asserts the board alert (16 R571). -/

namespace Sys2Proof.Machine

@[simp] theorem State.alert_fatal (s : State) (code d cyc : Nat) : (s.fatal code d cyc).aon.alert = true := rfl

/-- The board alert follows every event of severity MODULE_FATAL (16 R571). -/
theorem State.alert_raise_moduleFatal (s : State) (code ucls unit : Nat) (detail : List Nat) (sc : Scope)
    (plot : Option Nat) : (s.raise code sevModuleFatal ucls unit detail sc plot).aon.alert = true := by
  unfold State.raise
  dsimp only
  rw [if_pos (show sevModuleFatal = 4 from rfl), State.alert_fatal]

/-- A watchdog that advances, its cores released and none of them halted by debug, halts them when it expires
(14 R524; 16 R595). -/
theorem execCcWatchdog_expired {s : State} (hcores : s.boot.cores ≠ 0) (hdebug : s.boot.ccHalt = 0) :
    execCcWatchdog s = .next ((s.ccHalted.flag .CC_ERR_STATUS_WDT).raise 0x0020 sevModuleFatal 0 0 []) :=
  if_neg (by simp [hcores, hdebug])

/-- Released firmware that has not written CC_READY when CC_BOOT_LIMIT passes is reported, and its cores go on (14 R529). -/
theorem execCcBootFail_notReady {s : State} (hcores : s.boot.cores ≠ 0) (hready : s.boot.ready = false) :
    execCcBootFail s = .next ((s.flag .CC_ERR_STATUS_BOOT_FAIL).raise 0x0038 sevModuleFatal 0 0 []) :=
  if_neg (by simp [hcores, hready])

/-- The four cores halted, an error flagged and a MODULE_FATAL event raised: the engines and units stay as they were. -/
theorem State.ccHalted_flag_raise_moduleFatal (s : State) (f : Fid) (code : Nat) :
    let t := (s.ccHalted.flag f).raise code sevModuleFatal 0 0 []
    t.boot.cores = 0 ∧ t.aon.alert = true ∧ t.hl.moduleSeq = s.hl.moduleSeq + 1 ∧ t.engs = s.engs ∧ t.units = s.units := by
  refine ⟨?cores, State.alert_raise_moduleFatal .., ?seq, ?engs, ?units⟩
  case cores => rw [State.boot_raise, State.boot_flag, State.ccHalted]
  case seq => rw [State.raise_seq, State.hl_flag, State.ccHalted]
  case engs => rw [State.engs_raise, State.engs_flag, State.ccHalted]
  case units => rw [State.units_raise, State.units_flag, State.ccHalted]

/-- Settles O29: the rows of the control complex's errors, case by case, and what halting its cores leaves as it was. -/
theorem controlComplexErrors : Obligations.ControlComplexErrors := by
  intro s
  refine ⟨?sramCorr, ?sramFatal, ?watchdog, ?halted, ?fatal, ?bootFail⟩
  case sramCorr => rfl
  case sramFatal => rfl
  case watchdog => exact execCcWatchdog_expired
  case halted => exact ⟨rfl, rfl, rfl, rfl⟩
  case fatal => exact s.ccHalted_flag_raise_moduleFatal
  case bootFail => exact execCcBootFail_notReady

end Sys2Proof.Machine
end

section
/-! What every command and every tick keeps: the commands that wait, the canonical form of the stores, and DEGRADED clear for
units that are not PRESENT. There is one lemma for each update of the model, in the order of the model's files; a command
goes on, and its next state has evolved by such updates. -/

namespace Sys2Proof.Machine

/-- Nothing stands in the Ethernet port's receive buffer. -/
def State.Drained (s : State) : Prop := s.eth.occ = [] ∧ s.eth.xoff = 0

/-- What every command and every tick keeps: the queue, the canonical form of the stores, and DEGRADED clear outside PRESENT. -/
structure State.Keeps (s t : State) : Prop where
  pending : t.pending = s.pending
  canonical : s.Canonical → t.Canonical
  degOk : s.DegOk → t.DegOk

/-- What every update of the model but a received frame's and the tick's keeps: time and an empty receive buffer besides. -/
structure State.Evolves (s t : State) : Prop extends State.Keeps s t where
  now : t.now = s.now
  drained : s.Drained → t.Drained

/-- A command goes on, with a state that has evolved. -/
def State.Leads (s : State) (r : Res) : Prop := ∃ t, r = .next t ∧ s.Evolves t

/-- The state in which a lane instruction ends. -/
def LaneEnd.state : LaneEnd → State
  | .next _ _ _ s => s
  | .stop _ _ _ s => s

namespace State.Evolves

variable {s t u : State}

theorem refl (s : State) : s.Evolves s := ⟨⟨rfl, id, id⟩, rfl, id⟩

theorem trans (h : s.Evolves t) (k : t.Evolves u) : s.Evolves u :=
  ⟨⟨k.pending.trans h.pending, k.canonical ∘ h.canonical, k.degOk ∘ h.degOk⟩, k.now.trans h.now, k.drained ∘ h.drained⟩

/-- An update that leaves the queue, the stores, the unit map and time as they are. -/
theorem congr (h : s.Evolves t) (hp : u.pending = t.pending) (hf : u.flds = t.flds) (hu : u.units = t.units)
    (hc : u.mem.cells = t.mem.cells) (hm : u.mem.poison = t.mem.poison) (hn : u.now = t.now) (he : t.Drained → u.Drained) : s.Evolves u := by
  refine h.trans ⟨⟨hp, ?_, ?_⟩, hn, he⟩
  · rintro ⟨h1, h2⟩
    exact ⟨by simpa only [Memory.wf, hc, hm] using h1, by rwa [hf]⟩
  · intro h c n
    simpa only [State.unit, hu] using h c n

/-- An update of components other than the queue, the stores, memory, the unit map, the Ethernet port and time. -/
theorem rest (h : s.Evolves t) {rwl aon fuses umReady umGen doms hl mesh sec boot engs waits coh links sheaf pwr tel jtag
    mgmtIndex fallowUnit out freeCtr} :
    s.Evolves ⟨t.flds, rwl, aon, fuses, t.units, umReady, umGen, doms, hl, t.mem, mesh, sec, boot, engs, waits, coh, links, t.eth,
      sheaf, pwr, tel, jtag, mgmtIndex, fallowUnit, out, t.now, freeCtr, t.pending⟩ := h.congr rfl rfl rfl rfl rfl rfl id

/-- As `rest`, where memory changes beside its bytes and marks. -/
theorem restMem (h : s.Evolves t) {rwl aon fuses umReady umGen doms hl mesh sec boot engs waits coh links sheaf pwr tel jtag
    mgmtIndex fallowUnit out freeCtr tag base inited gkey ginst keyCtr llc comb pinErr rowErr chans sched sites wayErr
    waysSpared relocR mapped} :
    s.Evolves ⟨t.flds, rwl, aon, fuses, t.units, umReady, umGen, doms, hl, ⟨t.mem.cells, t.mem.poison, tag, base, inited,
      gkey, ginst, keyCtr, llc, comb, pinErr, rowErr, chans, sched, sites, wayErr, waysSpared, relocR, mapped⟩, mesh, sec,
      boot, engs, waits, coh, links, t.eth, sheaf, pwr, tel, jtag, mgmtIndex, fallowUnit, out, t.now, freeCtr, t.pending⟩ :=
  h.congr rfl rfl rfl rfl rfl rfl id

/-- As `rest`, where the Ethernet port changes beside its receive buffer. -/
theorem restEth (h : s.Evolves t) {pauseSince storm arpStart arpCount half fall dropDue fatal txq linkAt turn turnLeft corr qps
    streams} :
    s.Evolves { t with eth := ⟨pauseSince, storm, t.eth.xoff, t.eth.occ, arpStart, arpCount, half, fall, dropDue, fatal, txq,
      linkAt, turn, turnLeft, corr, qps, streams⟩ } := h.congr rfl rfl rfl rfl rfl rfl id

theorem ite {c : Prop} [Decidable c] (h : s.Evolves t) (k : s.Evolves u) : s.Evolves (if c then t else u) := by
  split <;> assumption

theorem ite_fst {α : Type} {c : Prop} [Decidable c] {x y : State × α} (h : s.Evolves x.1) (k : s.Evolves y.1) :
    s.Evolves (if c then x else y).1 := by
  split <;> assumption

theorem ite_snd {α : Type} {c : Prop} [Decidable c] {x y : α × State} (h : s.Evolves x.2) (k : s.Evolves y.2) :
    s.Evolves (if c then x else y).2 := by
  split <;> assumption

theorem ite_snd_snd {α β : Type} {c : Prop} [Decidable c] {x y : α × β × State} (h : s.Evolves x.2.2)
    (k : s.Evolves y.2.2) : s.Evolves (if c then x else y).2.2 := by
  split <;> assumption

theorem mk_fst {α : Type} {a : α} (h : s.Evolves t) : s.Evolves (t, a).1 := h

theorem mk_snd {α : Type} {a : α} (h : s.Evolves t) : s.Evolves (a, t).2 := h

theorem mk_snd_snd {α β : Type} {a : α} {b : β} (h : s.Evolves t) : s.Evolves (a, b, t).2.2 := h

theorem foldl {α : Type} {l : List α} {f : State → α → State} (h : s.Evolves t)
    (hf : ∀ t a, s.Evolves t → s.Evolves (f t a)) : s.Evolves (l.foldl f t) :=
  foldl_keeps (fun t => s.Evolves t) f l hf t h

theorem foldl_snd {α β : Type} {l : List α} {f : β × State → α → β × State} {x : β × State} (h : s.Evolves x.2)
    (hf : ∀ x a, s.Evolves x.2 → s.Evolves (f x a).2) : s.Evolves (l.foldl f x).2 := by
  induction l generalizing x with
  | nil => exact h
  | cons a l ih => exact ih (hf x a h)

/-! ### The updates that touch a store, the unit map or memory's bytes -/

theorem setF (h : s.Evolves t) {f : Fid} {i j v : Nat} : s.Evolves (t.setF f i j v) :=
  h.trans ⟨⟨rfl, fun hc => ⟨hc.1, t.flds_wf_setF f i j v hc.2⟩, id⟩, rfl, id⟩

/-- An update of memory that keeps its canonical form. -/
theorem mem (h : s.Evolves t) {m : Mem} (hm : Memory.wf t.mem = true → Memory.wf m = true) : s.Evolves { t with mem := m } :=
  h.trans ⟨⟨rfl, fun hc => ⟨hm hc.1, hc.2⟩, id⟩, rfl, id⟩

theorem setPoison (h : s.Evolves t) {line : Nat} {p : Bool} : s.Evolves (t.setPoison line p) :=
  h.trans ⟨⟨rfl, fun hc => ⟨Memory.wf_setPoison t line p hc.1, hc.2⟩, id⟩, rfl, id⟩

end State.Evolves

namespace State.Keeps

variable {s t u : State}

theorem trans (h : s.Keeps t) (k : t.Keeps u) : s.Keeps u :=
  ⟨k.pending.trans h.pending, k.canonical ∘ h.canonical, k.degOk ∘ h.degOk⟩

theorem eth (h : s.Keeps t) {e : Eth} : s.Keeps { t with eth := e } := ⟨h.pending, h.canonical, h.degOk⟩

end State.Keeps

namespace State.Leads

variable {s t : State} {r q : Res}

theorem next (h : s.Evolves t) : s.Leads (.next t) := ⟨t, rfl, h⟩

theorem ite {c : Prop} [Decidable c] (h : s.Leads r) (k : s.Leads q) : s.Leads (if c then r else q) := by
  split <;> assumption

end State.Leads

variable {s t u : State}

/-! ### The updates of Ops -/

theorem State.Evolves.count {f : Fid} {i j w x : Nat} (h : s.Evolves t) : s.Evolves (t.count f i j w x) := by
  unfold State.count
  exact h.setF

theorem State.Evolves.flag {f : Fid} {i j : Nat} (h : s.Evolves t) : s.Evolves (t.flag f i j) := by
  unfold State.flag
  exact h.setF

theorem State.Evolves.emit {o : Out} (h : s.Evolves t) : s.Evolves (t.emit o) := by
  unfold State.emit
  exact h.rest

theorem State.Evolves.setLink {n : Nat} {v : SLink} (h : s.Evolves t) : s.Evolves (t.setLink n v) := by
  unfold State.setLink
  exact h.rest

theorem State.Evolves.setRefclk {n : Nat} {b : Bool} (h : s.Evolves t) : s.Evolves (t.setRefclk n b) := by
  unfold State.setRefclk
  exact .ite h h.setLink.emit

theorem State.Evolves.deal {n : Nat} {mods : List Nat} {b : FlitBody} (h : s.Evolves t) : s.Evolves (t.deal n mods b).2 := by
  unfold State.deal
  exact h.setLink.emit

theorem State.Evolves.flitOut {n : Nat} {body : Nat → Nat → FlitBody} (h : s.Evolves t) : s.Evolves (t.flitOut n body) := by
  unfold State.flitOut
  dsimp only
  exact h.deal.setLink

theorem State.Evolves.place {n : Nat} {m : SiteMsg} (h : s.Evolves t) : s.Evolves (t.place n m) := by
  unfold State.place
  dsimp only
  split
  · exact .setLink (.ite (.foldl h.setLink fun _ _ h => h.flitOut) h.flitOut)
  · exact .ite (.foldl h.setLink fun _ _ h => h.flitOut) h.flitOut

theorem State.Evolves.siteSend {n : Nat} {m0 : SiteMsg} (h : s.Evolves t) : s.Evolves (t.siteSend n m0) := by
  unfold State.siteSend
  exact .ite h (.ite h.setLink h.place)

theorem State.Evolves.freeBelow {n : Nat} (h : s.Evolves t) : s.Evolves (t.freeBelow n).2 := by
  unfold State.freeBelow
  exact .mk_snd h.rest

theorem State.Evolves.overAll {α : Type} {l : List α} {g : α → State → State} (h : s.Evolves t)
    (hg : ∀ a t, s.Evolves t → s.Evolves (g a t)) : s.Evolves (overAll l g t) :=
  h.foldl fun t a h => hg a t h

theorem State.Evolves.rwlLock {off : Nat} (h : s.Evolves t) : s.Evolves (t.rwlLock off) := by
  unfold State.rwlLock
  exact h.rest

theorem State.Evolves.setDom {d : Nat} {v : Dom} (h : s.Evolves t) : s.Evolves (t.setDom d v) := by
  unfold State.setDom
  exact h.rest

theorem State.Evolves.setPlot {p : Nat} {v : Plot} (h : s.Evolves t) : s.Evolves (t.setPlot p v) := by
  unfold State.setPlot
  exact h.rest

theorem State.Evolves.setSess {n : Nat} {v : Session} (h : s.Evolves t) : s.Evolves (t.setSess n v) := by
  unfold State.setSess
  exact h.rest

theorem State.Evolves.deliver {e : Event} {n : Nat} (h : s.Evolves t) : s.Evolves (State.deliver e t n) := by
  unfold State.deliver
  exact .ite (.ite h.setSess h.setSess.flag) h

theorem State.Evolves.fatal {code d cyc : Nat} (h : s.Evolves t) : s.Evolves (t.fatal code d cyc) := by
  unfold State.fatal
  exact .rest (.count (.ite h.setF.setF.setF h))

theorem State.Evolves.raise {code sev ucls unit : Nat} {detail : List Nat} {sc : Scope} {plot : Option Nat}
    (h : s.Evolves t) : s.Evolves (t.raise code sev ucls unit detail sc plot) := by
  unfold State.raise
  dsimp only
  exact .ite (.fatal (.foldl h.rest fun _ _ h => h.deliver)) (.foldl h.rest fun _ _ h => h.deliver)

theorem State.Evolves.limit {a b us : Nat} (h : s.Evolves t) : s.Evolves (t.limit a b us).2 := by
  unfold State.limit
  dsimp only
  split
  · exact .ite_snd h.rest h.rest
  · exact .mk_snd h.rest

theorem State.Evolves.raiseLimited {us code sev ucls unit : Nat} {detail : List Nat} {sc : Scope} {key : Nat}
    (h : s.Evolves t) : s.Evolves (t.raiseLimited us code sev ucls unit detail sc key) := by
  unfold State.raiseLimited
  have hl : s.Evolves (t.limit code (unit + 65536 * key) us).2 := h.limit
  split
  next he => exact (he ▸ hl : s.Evolves (_, _).2).raise
  next he => exact (he ▸ hl : s.Evolves (_, _).2)

theorem State.Evolves.wearAdd {kind cls unit detail : Nat} (h : s.Evolves t) : s.Evolves (t.wearAdd kind cls unit detail) := by
  unfold State.wearAdd
  exact .ite h (.ite h.flag h.rest.flag)

theorem State.Evolves.putUnit {c : UCls} {n : Nat} {v : CUnit} (h : s.Evolves t)
    (hv : t.DegOk → v.deg = true → v.st = some .present) : s.Evolves (t.putUnit c n v) := by
  have hu : s.Evolves { t with units := PTbl.put {} t.units c.code n v } := by
    refine h.trans ⟨⟨rfl, id, fun hd c' n' => ?_⟩, rfl, id⟩
    unfold State.unit
    by_cases hk : (c'.code, n') = (c.code, n)
    · rw [Prod.mk.injEq] at hk
      rw [hk.1, hk.2, PTbl.at_put_same]
      exact hv hd
    · rw [PTbl.at_put_ne _ _ _ hk]
      exact hd c' n'
  unfold State.putUnit
  exact .ite hu.rest.raise hu

theorem State.Evolves.setUnit {c : UCls} {n : Nat} {st : UState} (h : s.Evolves t) : s.Evolves (t.setUnit c n st) := by
  have hp : s.Evolves (t.putUnit c n { st := some st, deg := (t.unit c n).deg && decide (st = .present) }) := by
    refine h.putUnit fun _ hd => ?_
    simp only [Bool.and_eq_true, decide_eq_true_eq] at hd
    rw [hd.2]
  unfold State.setUnit
  exact .ite (.ite hp.wearAdd hp) h

theorem State.Evolves.setDeg {c : UCls} {n : Nat} {d : Bool} (h : s.Evolves t) : s.Evolves (t.setDeg c n d) := by
  unfold State.setDeg
  split
  next hp => exact h.putUnit fun _ _ => by simpa [State.present] using hp
  · exact h

/-! ### The updates of QosCore -/

theorem State.Evolves.setMsite {n : Nat} {v : MSite} (h : s.Evolves t) : s.Evolves (t.setMsite n v) := by
  unfold State.setMsite
  exact h.restMem

theorem State.Evolves.setQport {p : Nat} {v : QPort} (h : s.Evolves t) : s.Evolves (t.setQport p v) := by
  unfold State.setQport
  exact h.rest

theorem State.Evolves.rescale {qs : List QPort} (h : s.Evolves t) : s.Evolves (t.rescale qs) := by
  unfold State.rescale
  exact .foldl (.foldl h fun _ _ h => .ite h h.setF.raise) fun _ _ h => .ite h h.setF.raise

theorem State.Evolves.applyEff {sites ports : List Nat} (h : s.Evolves t) : s.Evolves (t.applyEff sites ports) := by
  unfold State.applyEff
  exact .foldl h fun _ _ h => .ite h h.setQport

theorem State.Evolves.capChanged (h : s.Evolves t) : s.Evolves t.capChanged := by
  unfold State.capChanged
  exact h.rescale.rest

theorem State.Evolves.sheafIdle {x : Nat} (h : s.Evolves t) : s.Evolves (t.sheafIdle x) := by
  unfold State.sheafIdle
  exact h.rest.setF.setF.setF

theorem State.Evolves.sheafStop (h : s.Evolves t) : s.Evolves t.sheafStop := by
  unfold State.sheafStop
  exact .foldl h fun _ _ h => .ite h h.sheafIdle

/-! ### The updates of MemCore -/

theorem State.Evolves.setChan {c : Nat} {v : Chan} (h : s.Evolves t) : s.Evolves (t.setChan c v) := by
  unfold State.setChan
  exact h.restMem

theorem State.Evolves.setSched {k : Nat} {v : Sched} (h : s.Evolves t) : s.Evolves (t.setSched k v) := by
  unfold State.setSched
  exact h.restMem

theorem State.Evolves.chanPush {line kind cls : Nat} {port : Nat} {tag : Nat}
    (h : s.Evolves t) : s.Evolves (t.chanPush line kind cls port tag) := by
  unfold State.chanPush
  exact .ite h h.setSched

theorem State.Evolves.chanUntil {k : Nat} {stop : Sched → Bool} (h : s.Evolves t) : s.Evolves (t.chanUntil k stop) := by
  unfold State.chanUntil
  exact h.setSched

theorem State.Evolves.chansUntil {stop : Sched → Bool} (h : s.Evolves t) : s.Evolves (t.chansUntil stop) := by
  unfold State.chansUntil
  exact h.restMem

theorem State.Evolves.chanServe {line kind cls port tag : Nat}
    (h : s.Evolves t) : s.Evolves (t.chanServe line kind cls port tag) := by
  unfold State.chanServe
  exact .ite h.chanPush.chanUntil h.chanPush

theorem State.Evolves.chanFor {port tag : Nat} (h : s.Evolves t) : s.Evolves (t.chanFor port tag) := by
  unfold State.chanFor
  exact h.chansUntil

theorem State.Evolves.freshen {line : Nat} (h : s.Evolves t) : s.Evolves (t.freshen line) := by
  unfold State.freshen
  exact .ite h (h.mem (Memory.wf_putBytes _ _ _)).restMem

theorem State.Evolves.storeIn {pa : Nat} {b : Bytes} (h : s.Evolves t) : s.Evolves (t.storeIn pa b) := by
  have hp : ∀ {x : State}, s.Evolves x → s.Evolves { x with mem := x.mem.putBytes pa b } := fun h => h.mem
    (Memory.wf_putBytes b _ pa)
  unfold State.storeIn
  exact hp (.ite h.restMem h.freshen)

theorem State.Evolves.uncorrRaise {n line chan src : Nat} {sc : Scope}
    (h : s.Evolves t) : s.Evolves (t.uncorrRaise n line chan src sc) := by
  unfold State.uncorrRaise
  exact h.setMsite.raise

theorem State.Evolves.uncorrEvent {n line src : Nat} {sc : Scope} (h : s.Evolves t) : s.Evolves (t.uncorrEvent n line src sc) := by
  unfold State.uncorrEvent
  exact .ite h.setMsite h.uncorrRaise

theorem State.Evolves.uncorr {line src : Nat} (h : s.Evolves t) : s.Evolves (t.uncorr line src) := by
  unfold State.uncorr
  exact h.count.flag.setF.setF.uncorrEvent

theorem State.Evolves.updateCap {n : Nat} (h : s.Evolves t) : s.Evolves (t.updateCap n) := by
  unfold State.updateCap
  exact .ite h h.setMsite.raise.capChanged

theorem State.Evolves.degMem {n : Nat} (h : s.Evolves t) : s.Evolves (t.degMem n) := by
  unfold State.degMem
  exact h.setDeg

theorem State.Evolves.chanLossRaise {c : Nat} (h : s.Evolves t) : s.Evolves (t.chanLossRaise c) := by
  unfold State.chanLossRaise
  exact h.uncorrRaise

theorem State.Evolves.lostReads {c : Nat} (h : s.Evolves t) : s.Evolves (t.lostReads c) := by
  unfold State.lostReads
  exact h.rest

theorem State.Evolves.channelFail {c cause : Nat} (h : s.Evolves t) : s.Evolves (t.channelFail c cause) := by
  unfold State.channelFail
  exact .ite h.raise (.ite h.lostReads.setChan.setSched.setUnit.degMem.flag.flag.raise.updateCap.setMsite
    h.lostReads.setChan.setSched.setUnit.degMem.flag.flag.raise.updateCap.chanLossRaise)

theorem State.Evolves.notePin {c pin : Nat} (h : s.Evolves t) : s.Evolves (t.notePin c pin) := by
  unfold State.notePin
  exact .ite h.restMem (.ite h.restMem.setChan.flag.raise.wearAdd h.restMem.channelFail)

theorem State.Evolves.noteRow {c line : Nat} (h : s.Evolves t) : s.Evolves (t.noteRow c line) := by
  unfold State.noteRow
  exact h.restMem

theorem State.Evolves.eccRead {line : Nat} {pins : List Nat} (h : s.Evolves t) : s.Evolves (t.eccRead line pins).2 := by
  unfold State.eccRead
  exact .ite_snd h (.ite_snd (.ite_snd h h) (.ite_snd (.ite_snd h
    (.foldl (.ite h.count.flag h.count.flag.noteRow.chanPush) fun _ _ h => h.notePin)) h))

theorem State.Evolves.memFatal {n : Nat} (h : s.Evolves t) : s.Evolves (t.memFatal n) := by
  unfold State.memFatal
  exact h.setMsite.raise.sheafStop

theorem State.Evolves.spareWay {n way : Nat} (h : s.Evolves t) : s.Evolves (t.spareWay n way) := by
  unfold State.spareWay
  exact .ite h.restMem.raise h.memFatal

theorem State.Evolves.llcErr {n : Nat} {e : LineErr} (h : s.Evolves t) : s.Evolves (t.llcErr n e) := by
  unfold State.llcErr
  exact .ite h.spareWay (.ite h (.ite h.spareWay h.restMem))

theorem State.Evolves.llcDrop {line : Nat} (h : s.Evolves t) : s.Evolves (t.llcDrop line) := by
  unfold State.llcDrop
  exact h.restMem

theorem State.Evolves.llcClean {line cls : Nat} (h : s.Evolves t) : s.Evolves (t.llcClean line cls) := by
  unfold State.llcClean
  exact .ite h h.chanPush.chanUntil.restMem

theorem State.Evolves.llcEvict {line : Nat} (h : s.Evolves t) : s.Evolves (t.llcEvict line) := by
  unfold State.llcEvict
  exact .llcDrop (.ite h.chanPush h)

theorem State.Evolves.llcRoom {line : Nat} (h : s.Evolves t) : s.Evolves (t.llcRoom line) := by
  unfold State.llcRoom
  dsimp only
  split
  · exact h
  · split
    · exact h.freeBelow.llcEvict
    · exact h.freeBelow

theorem State.Evolves.llcPut {line : Nat} {dirty : Bool} (h : s.Evolves t) : s.Evolves (t.llcPut line dirty) := by
  unfold State.llcPut
  exact .restMem (.ite h h.llcRoom)

theorem State.Evolves.twinRepaired {line copy : Nat} (h : s.Evolves t) : s.Evolves (t.twinRepaired line copy) := by
  unfold State.twinRepaired
  exact h.count.raiseLimited

theorem State.Evolves.poisonOut {line src : Nat} (h : s.Evolves t) : s.Evolves (t.poisonOut line src) := by
  unfold State.poisonOut
  exact h.setPoison.chanPush.uncorr

theorem State.Evolves.twinRead {errs : List LineErr} {line tl src : Nat}
    (h : s.Evolves t) : s.Evolves (t.twinRead errs line tl src).2 := by
  unfold State.twinRead
  dsimp only
  split
  · exact .ite_snd h.eccRead.count h.eccRead.setPoison.storeIn.twinRepaired
  · exact .ite_snd h.eccRead.count h.eccRead.setPoison.storeIn.twinRepaired
  · exact .mk_snd (.poisonOut (.ite h.eccRead.setPoison h.eccRead))
  · exact .mk_snd (.poisonOut (.ite h.eccRead.setPoison h.eccRead))

theorem State.Evolves.readLine {line : Nat} {errs : List LineErr} {src : Nat} {cls : Nat} {port : Nat} {tag : Nat}
    (h : s.Evolves t) : s.Evolves (t.readLine line errs src cls port tag).2 := by
  unfold State.readLine
  dsimp only
  split
  · split
    · exact .mk_snd h.llcErr
    · split
      · exact .twinRead (.ite h.llcErr.poisonOut h.llcErr)
      · exact .mk_snd (.ite h.llcErr.poisonOut h.llcErr)
  · split
    · exact .mk_snd h.chanServe.eccRead.llcPut
    · exact .mk_snd h.chanServe.eccRead.llcPut
    · split
      · exact h.chanServe.eccRead.llcPut.twinRead
      · exact .mk_snd (.ite h.chanServe.eccRead.llcPut.poisonOut h.chanServe.eccRead.llcPut)
    · split
      · exact h.chanServe.eccRead.llcPut.twinRead
      · exact .mk_snd (.ite h.chanServe.eccRead.llcPut.poisonOut h.chanServe.eccRead.llcPut)

theorem State.Evolves.memRead {pa n : Nat} {errs : List LineErr} {src : Nat} {cls : Nat} {port : Nat} {tag : Nat} {joined : List (Nat × Bool)}
    (h : s.Evolves t) : s.Evolves (t.memRead pa n errs src cls port tag joined).2.2 := by
  unfold State.memRead
  dsimp only
  refine .foldl_snd h fun t a h => ?_
  split
  · exact h
  · exact h.readLine

theorem State.Evolves.combClose {line : Nat} (h : s.Evolves t) : s.Evolves (t.combClose line) := by
  unfold State.combClose
  split
  · exact h.restMem.setMsite
  · exact h

theorem State.Evolves.writeCopy {pa : Nat} {b : Bytes} {pois : Bool} {errs : List LineErr} {src : Nat} {cls : Nat}
    (h : s.Evolves t) : s.Evolves (t.writeCopy pa b pois errs src cls) := by
  unfold State.writeCopy
  dsimp only
  exact .ite h (.ite (.ite h.setPoison h.setPoison.storeIn) (.ite h.setPoison (.ite h.readLine h.readLine.storeIn)))

theorem State.Evolves.writeLine {pa : Nat} {b : Bytes} {pois : Bool} {errs : List LineErr} {cls : Nat}
    (h : s.Evolves t) : s.Evolves (t.writeLine pa b pois errs cls) := by
  unfold State.writeLine
  dsimp only
  refine .llcPut ?_
  split
  · exact h.combClose.writeCopy.writeCopy
  · exact h.combClose.writeCopy

theorem State.Evolves.memWrite {pa : Nat} {b : Bytes} {pois : Nat} {errs : List LineErr} {cls : Nat}
    (h : s.Evolves t) : s.Evolves (t.memWrite pa b pois errs cls) := by
  unfold State.memWrite
  exact .foldl h fun _ _ h => h.writeLine

theorem State.Evolves.combCloseGran {g : Nat} (h : s.Evolves t) : s.Evolves (t.combCloseGran g) := by
  unfold State.combCloseGran
  exact .foldl h fun _ _ h => h.combClose

theorem State.Evolves.zeroGran {g inst : Nat} (h : s.Evolves t) : s.Evolves (t.zeroGran g inst) := by
  have hc := (State.Evolves.refl t).combCloseGran (g := g)
  exact h.trans ⟨⟨hc.pending, fun h => ⟨Memory.wf_zeroGran t g inst h.1, (hc.canonical h).2⟩, hc.degOk⟩, hc.now, hc.drained⟩

theorem State.Evolves.setGkey {g idx inst : Nat} (h : s.Evolves t) : s.Evolves (t.setGkey g idx inst) := by
  unfold State.setGkey
  exact h.restMem

/-! ### The updates of CohBase -/

theorem State.Evolves.setSf {line : Nat} {v : Option SfEnt} (h : s.Evolves t) : s.Evolves (t.setSf line v) := by
  unfold State.setSf
  exact h.rest

theorem State.Evolves.setCc {line : Nat} {v : Option CcLine} (h : s.Evolves t) : s.Evolves (t.setCc line v) := by
  unfold State.setCc
  exact h.rest

theorem State.Evolves.tracker {n : Nat} {c0 take : Bool} (h : s.Evolves t) : s.Evolves (t.tracker n c0 take) := by
  unfold State.tracker
  exact h.setMsite

theorem State.Evolves.sendSnoop {code line txn targets : Nat}
    (h : s.Evolves t) : s.Evolves (t.sendSnoop code line txn targets) := by
  unfold State.sendSnoop
  exact .foldl h.count fun _ _ h => h.emit

theorem State.Evolves.recallRead {line : Nat} (h : s.Evolves t) : s.Evolves (t.recallRead line) := by
  unfold State.recallRead
  split
  · exact .ite h (.ite (.ite (.memWrite (.rest (.foldl h.sendSnoop fun _ _ h => h.siteSend)))
      (.rest (.foldl h.sendSnoop fun _ _ h => h.siteSend))) (.setCc
      (.setSf (.ite (.memWrite (.rest (.foldl h.sendSnoop fun _ _ h => h.siteSend)))
      (.rest (.foldl h.sendSnoop fun _ _ h => h.siteSend))))))
  · exact h

theorem State.Evolves.promote {line cls : Nat} (h : s.Evolves t) : s.Evolves (t.promote line cls) := by
  unfold State.promote
  exact .ite h.setSched h

theorem State.Evolves.combRead {line cls : Nat} {errs : List LineErr}
    (h : s.Evolves t) : s.Evolves (t.combRead line cls errs).2 := by
  unfold State.combRead
  dsimp only
  split
  · exact h
  · split
    · exact .mk_snd h.restMem.promote.count
    · exact .ite_snd h (.ite_snd h.count h.restMem.setMsite.count)

theorem State.Evolves.combLines {pa n cls : Nat} {skip : List Nat} {errs : List LineErr}
    (h : s.Evolves t) : s.Evolves (t.combLines pa n cls skip errs).2 := by
  unfold State.combLines
  dsimp only
  exact .foldl_snd h fun _ _ h => h.combRead

theorem State.Evolves.combDone {pa n : Nat} {joined : List (Nat × Bool)} {bad : List Nat}
    (h : s.Evolves t) : s.Evolves (t.combDone pa n joined bad) := by
  unfold State.combDone
  refine .foldl h fun t a h => ?_
  split
  · exact h.restMem
  · exact h

theorem State.Evolves.combMemRead {pa n : Nat} {errs : List LineErr} {cls : Nat} {skip : List Nat} {port tag : Nat}
    (h : s.Evolves t) : s.Evolves (t.combMemRead pa n errs cls skip port tag).2.2 := by
  unfold State.combMemRead
  dsimp only
  exact h.combLines.memRead.combDone

/-! ### The updates of TelCore -/

theorem State.Evolves.touch {p addr : Nat} (h : s.Evolves t) : s.Evolves (t.touch p addr) := by
  unfold State.touch
  exact .ite h h.setPlot.raise

theorem State.Evolves.touchAll {mask addr : Nat} (h : s.Evolves t) : s.Evolves (t.touchAll mask addr) := by
  unfold State.touchAll
  exact .foldl h fun _ _ h => h.touch

theorem State.Evolves.setTel {v : Tel} (h : s.Evolves t) : s.Evolves (t.setTel v) := by
  unfold State.setTel
  exact h.rest

theorem State.Evolves.coClose (h : s.Evolves t) : s.Evolves t.coClose := by
  unfold State.coClose
  exact .ite h (.setTel (.setF (.foldl h fun _ _ h => h.setF)))

theorem State.Evolves.coOpen (h : s.Evolves t) : s.Evolves t.coOpen := by
  unfold State.coOpen
  exact h.setF.setTel

theorem State.Evolves.coPut {i off : Nat} {b : Bytes} (h : s.Evolves t) : s.Evolves (t.coPut i off b) := by
  unfold State.coPut
  exact h.setTel.setF

theorem State.Evolves.coStop {i : Nat} (h : s.Evolves t) : s.Evolves (t.coStop i) := by
  unfold State.coStop
  exact h.setTel.raise

theorem State.Evolves.coTake {off len : Nat} (h : s.Evolves t) (hu : t.coTake off len = some u) : s.Evolves u := by
  have ht : ∀ {c : Prop} [Decidable c] {x : Tel}, (if c then some (t.setTel x) else none) = some u → s.Evolves u := by
    intro c _ x hu
    split at hu
    · cases hu
      exact h.setTel
    · cases hu
  exact ht hu

theorem State.Evolves.coStore {i off : Nat} {b : Bytes} (h : s.Evolves t) : s.Evolves (t.coStore i off b) := by
  unfold State.coStore
  split
  next hu => exact (h.coTake hu).coPut
  · exact h.count.raiseLimited

theorem State.Evolves.coWrite {user : Nat} {b : Bytes} (h : s.Evolves t) : s.Evolves (t.coWrite user b) := by
  unfold State.coWrite
  split
  · exact h
  · exact .ite h.coStore (.ite h.flag.coStop (.ite h.flag.coStore h))

theorem State.Evolves.setHl {v : Hl} (h : s.Evolves t) : s.Evolves (t.setHl v) := by
  unfold State.setHl
  exact h.rest

theorem State.Evolves.setClaim {k : Nat} {z2 : Holder} (h : s.Evolves t) : s.Evolves (t.setClaim k z2) := by
  unfold State.setClaim
  exact .ite h.setHl.coClose h.setHl

theorem State.Evolves.header {p : Pkt} (h : s.Evolves t) : s.Evolves (t.header p).2 := by
  unfold State.header
  dsimp only
  exact h.freeBelow

theorem State.Evolves.trcEnd (h : s.Evolves t) : s.Evolves t.trcEnd := by
  unfold State.trcEnd
  dsimp only
  split
  · exact h.setTel.coStop
  · exact h.setTel

theorem State.Evolves.probeTrace {k : Nat} {p : Pkt} (h : s.Evolves t) : s.Evolves (t.probeTrace k p) := by
  unfold State.probeTrace
  dsimp only
  split
  · exact h
  · split
    · exact .ite h.touchAll.header.setTel.coWrite.trcEnd h.touchAll.header.setTel.coWrite.setTel
    · exact h.touchAll.header.setTel.coWrite

theorem State.Evolves.probeTrigger {k : Nat} (h : s.Evolves t) : s.Evolves (t.probeTrigger k) := by
  unfold State.probeTrigger
  exact .ite (.ite h h.setTel.emit) (.ite h (.ite h.trcEnd h.setTel))

theorem State.Evolves.probeHit {k : Nat} {p : Pkt} (h : s.Evolves t) : s.Evolves (t.probeHit k p) := by
  unfold State.probeHit
  exact .ite (.probeTrigger (.ite (.probeTrace (.ite h.count.count h)) (.ite h.count.count h)))
    (.ite (.probeTrace (.ite h.count.count h)) (.ite h.count.count h))

theorem State.Evolves.observe {p : Pkt} (h : s.Evolves t) : s.Evolves (t.observe p) := by
  unfold State.observe
  exact .foldl h fun _ _ h => .ite h.probeHit h

theorem State.Evolves.cohTrace {z2 : HTxn} (h : s.Evolves t) : s.Evolves (t.cohTrace z2) := by
  unfold State.cohTrace
  exact .ite h.touchAll.coWrite h

theorem State.Evolves.setGln {m : Nat} {v : Gln} (h : s.Evolves t) : s.Evolves (t.setGln m v) := by
  unfold State.setGln
  exact h.setTel

theorem State.Evolves.glnSample {m v0 : Nat} (h : s.Evolves t) : s.Evolves (t.glnSample m v0) := by
  unfold State.glnSample
  exact h.setF.setF.count.count.setGln

theorem State.Evolves.glnLatency {port cls : Nat} {write : Bool} {status since : Nat}
    (h : s.Evolves t) : s.Evolves (t.glnLatency port cls write status since) := by
  unfold State.glnLatency
  exact .ite h (.foldl h fun _ _ h => .ite (.ite h.setGln.glnSample h.setGln) h)

/-! ### The updates of Access -/

theorem State.Evolves.redFlags {n g fl nans : Nat} (h : s.Evolves t) : s.Evolves (t.redFlags n g fl nans) := by
  unfold State.redFlags
  exact .ite h.setF.count.raise h.setF.count

theorem State.Evolves.reduceLine {k pa : Nat} {b : Bytes} {pois : Bool} {errs : List LineErr} {cls : Nat}
    (h : s.Evolves t) : s.Evolves (t.reduceLine k pa b pois errs cls) := by
  unfold State.reduceLine
  dsimp only
  exact .ite h.combClose.count (.ite h.combClose.setPoison.llcPut.count
    (.ite h.combClose.readLine.count h.combClose.readLine.storeIn.llcPut.redFlags.count))

theorem State.Evolves.freshTag {port : Nat} (h : s.Evolves t) : s.Evolves (t.freshTag port).2 := by
  unfold State.freshTag
  dsimp only
  exact h.freeBelow

theorem State.Evolves.stallOn {l : List Want} (h : s.Evolves t) : s.Evolves (t.stallOn l) := by
  unfold State.stallOn
  exact h.rest

theorem State.Evolves.useWindow {r : UnitReq} (h : s.Evolves t) : s.Evolves (t.useWindow r) := by
  unfold State.useWindow
  exact h.setQport.rest

theorem State.Evolves.unitIssue {src : Src} {pa len : Nat} {write : Bool}
    (h : s.Evolves t) : s.Evolves (t.unitIssue src pa len write).2 := by
  unfold State.unitIssue
  dsimp only
  split
  · exact .mk_snd h.freshTag
  · split
    · exact .mk_snd h.freshTag.rest.observe
    · split
      · exact .mk_snd h.freshTag.stallOn
      · exact .mk_snd h.freshTag.useWindow.observe

theorem State.Evolves.timedOut {port id pa cls : Nat} (h : s.Evolves t) : s.Evolves (t.timedOut port id pa cls) := by
  unfold State.timedOut
  exact h.count.flag.raiseLimited

theorem State.Evolves.unitDone {r : UnitReq} {st : Nat} {bad : List Nat} {own : Bool} {since : Option Nat}
    (h : s.Evolves t) : s.Evolves (t.unitDone r st bad own since) := by
  unfold State.unitDone
  exact .ite h.timedOut h.observe.glnLatency.setQport

theorem State.Evolves.farTimeout {pa : Nat} {write : Bool} (h : s.Evolves t) : s.Evolves (t.farTimeout pa write) := by
  unfold State.farTimeout
  exact h.timedOut

theorem State.Evolves.farAsk {n line : Nat} {write : Bool} (h : s.Evolves t) : s.Evolves (t.farAsk n line write) := by
  unfold State.farAsk
  dsimp only
  exact h.freshTag.setQport.observe.unitDone

theorem State.Evolves.farAsks {pa n : Nat} {errs : List LineErr} {write : Bool}
    (h : s.Evolves t) : s.Evolves (t.farAsks pa n errs write) := by
  unfold State.farAsks
  exact .foldl h fun _ _ h => h.farAsk

theorem State.Evolves.pageRead {pa n : Nat} {errs : List LineErr} {cls : Nat} {skip : List Nat} {port : Nat} {tag : Nat}
    (h : s.Evolves t) : s.Evolves (t.pageRead pa n errs cls skip port tag).2.2.2 := by
  unfold State.pageRead
  dsimp only
  split
  · exact h
  · split
    · exact h
    · split
      · exact h.farTimeout
      · exact h.farAsks.combMemRead

theorem State.Evolves.pageWrite {k pa : Nat} {b : Bytes} {pois : Nat} {errs : List LineErr} {cls : Nat}
    (h : s.Evolves t) : s.Evolves (t.pageWrite k pa b pois errs cls).2 := by
  unfold State.pageWrite
  exact .ite_snd h (.ite_snd (.ite h h.count) (.ite_snd h.farTimeout
    (.ite_snd h.farAsks.memWrite (.foldl h.farAsks fun _ _ h => h.reduceLine))))

theorem State.Evolves.siteAsk {n id tag urg cls pa len : Nat} {data : Option Bytes} {poison : Nat}
    (h : s.Evolves t) : s.Evolves (t.siteAsk n id tag urg cls pa len data poison) := by
  unfold State.siteAsk
  exact h.siteSend

theorem State.Evolves.unmappedAt {port a : Nat} (h : s.Evolves t) : s.Evolves (t.unmappedAt port a) := by
  unfold State.unmappedAt
  exact .ite h.flag.count h

theorem State.Evolves.postWrite {r : UnitReq} {pa : Nat} {b : Bytes} {p : Nat}
    (h : s.Evolves t) : s.Evolves (t.postWrite r pa b p) := by
  unfold State.postWrite
  exact .ite h.rest (.rest (.tracker (.foldl h.rest fun _ _ h => h.combClose)))

theorem State.Evolves.unitMemRead {r : UnitReq} {pa : Nat} {errs : List LineErr}
    (h : s.Evolves t) : s.Evolves (t.unitMemRead r pa errs).2.2.2 := by
  unfold State.unitMemRead
  dsimp only
  split
  · exact h
  · split
    · exact h
    · split
      · exact h.stallOn
      · split
        · exact h
        · split
          · exact .pageRead (.foldl h fun _ _ h => h.recallRead)
          · exact .foldl_snd h fun _ _ h => h.pageRead

theorem State.Evolves.unitMemWrite {r : UnitReq} {k pa : Nat} {b : Bytes} {p : Nat}
    (h : s.Evolves t) : s.Evolves (t.unitMemWrite r k pa b p).2 := by
  unfold State.unitMemWrite
  dsimp only
  split
  · exact h
  · exact .ite_snd h (.ite_snd h.stallOn (.ite_snd h (.ite_snd h.postWrite h.rest.pageWrite)))

theorem State.Evolves.unitMemDone {r : UnitReq} {e : UnitEnd} {bad : List Nat}
    (h : s.Evolves t) : s.Evolves (t.unitMemDone r e bad) := by
  unfold State.unitMemDone
  split
  · exact h.unitDone
  · exact h.unitDone
  · exact h

theorem State.Evolves.freeFill {b : Bytes} {k : Nat} (h : s.Evolves t) : s.Evolves (t.freeFill b k).2 := by
  unfold State.freeFill
  exact h.rest

theorem State.Evolves.unitRead1 {src : Src} {a k : Nat} {errs : List LineErr} {site : SiteAns}
    (h : s.Evolves t) : s.Evolves (t.unitRead1 src a k errs site).2 := by
  unfold State.unitRead1
  dsimp only
  split
  · exact .mk_snd h.unmappedAt
  · split
    · exact .mk_snd h.unitIssue.unitMemRead.unitMemDone
    · exact .mk_snd h.unitIssue.unitMemRead.unitMemDone
    · split
      · exact .mk_snd h.unitIssue
      · split
        · exact .mk_snd h.unitIssue.unitDone
        · split
          · exact .mk_snd h.unitIssue.unitDone
          · exact .mk_snd h.unitIssue.freeFill.siteAsk.unitDone
    · split
      · exact h
      · exact .mk_snd h.unitIssue.unitDone

theorem State.Evolves.unitRead {errs : List LineErr} {src : Src} {a a1 a2 : Nat} {a3 : SiteAns}
    (h : s.Evolves t) : s.Evolves (State.unitRead errs src a a1 a2 a3 t).2 := by
  induction a generalizing a1 a2 a3 t with
  | zero => exact h
  | succ n ih =>
    unfold State.unitRead
    dsimp only
    exact .ite_snd h (ih h.unitRead1)

theorem State.Evolves.rd {src : Src} {a n : Nat} {site : SiteAns}
    (h : s.Evolves t) : s.Evolves (t.rd src a n site).2 := by
  unfold State.rd
  exact h.unitRead

theorem State.Evolves.unitWrite1 {src : Src} {pois : Bool} {run : Option RunRef} {a : Nat} {b : Bytes}
    (h : s.Evolves t) : s.Evolves (t.unitWrite1 src pois run a b).2 := by
  unfold State.unitWrite1
  dsimp only
  split
  · exact .mk_snd h.unmappedAt
  · split
    · exact .mk_snd h.unitIssue.unitMemWrite.unitMemDone
    · exact .mk_snd h.unitIssue.unitMemWrite.unitMemDone
    · split
      · exact .mk_snd h.unitIssue
      · split
        · exact .mk_snd h.unitIssue.rest
        · split
          · exact .mk_snd h.unitIssue.unitDone
          · exact .mk_snd h.unitIssue.rest.siteAsk
    · split
      · exact h
      · exact .mk_snd h.unitIssue.unitDone

theorem State.Evolves.unitWrite {src : Src} {pois : Bool} {run : Option RunRef} {a a1 : Nat} {a2 : Bytes}
    (h : s.Evolves t) : s.Evolves (State.unitWrite src pois run a a1 a2 t).2.2 := by
  induction a generalizing a1 a2 t with
  | zero => exact h
  | succ n ih =>
    cases a2 with
    | nil => exact h
    | cons x l =>
      unfold State.unitWrite
      dsimp only
      exact .ite_snd_snd (ih h.unitWrite1) h.unitWrite1

theorem State.Evolves.wr {src : Src} {a : Nat} {b : Bytes} {pois : Bool} {run : Option RunRef}
    (h : s.Evolves t) : s.Evolves (t.wr src a b pois run).2.2 := by
  unfold State.wr
  exact h.unitWrite

/-! ### The updates of RecordCore -/

theorem State.Evolves.writeRecordRegion (h : s.Evolves t) : s.Evolves t.writeRecordRegion := by
  unfold State.writeRecordRegion
  exact h.wr

/-! ### The updates of Memory -/

theorem State.Evolves.memInitStart (h : s.Evolves t) : s.Evolves t.memInitStart.2 := by
  unfold State.memInitStart
  exact .ite_snd h h.rwlLock.setF.setF.setF.setF.restMem

theorem State.Evolves.setAvail (h : s.Evolves t) : s.Evolves t.setAvail := by
  unfold State.setAvail
  exact .setF (.foldl h fun _ _ h => h.setF)

theorem State.Leads.execMemInitDone (h : s.Evolves t) : s.Leads (execMemInitDone t) := by
  unfold Machine.execMemInitDone
  dsimp only
  have he : s.Evolves { t with mem := { t.mem with cells := [], poison := [], tag := [], base := [], llc := [], comb := [], inited := true } } :=
    h.trans ⟨⟨rfl, fun hc => ⟨rfl, hc.2⟩, id⟩, rfl, id⟩
  exact .ite (.next h) (.ite (.next h.setF.raise) (.next (.setF
    (.writeRecordRegion (.setF (.setAvail (.setF (.foldl he fun _ _ h => h.setF.setMsite))))))))

theorem State.Leads.execUncorrIntervalEnd {n : Nat} (h : s.Evolves t) : s.Leads (execUncorrIntervalEnd n t) := by
  unfold Machine.execUncorrIntervalEnd
  dsimp only
  split
  · exact .next h
  · split
    · exact .next h.setMsite
    · exact .next h.setMsite.chanLossRaise

theorem State.Leads.execCombWindowClose {n line : Nat} (h : s.Evolves t) : s.Leads (execCombWindowClose n line t) := by
  unfold Machine.execCombWindowClose
  exact .ite (.next h.combClose) (.next h)

theorem State.Leads.execRefresh {n ch bank : Nat} (h : s.Evolves t) : s.Leads (execRefresh n ch bank t) := by
  unfold Machine.execRefresh
  exact .next h.setSched

theorem State.Evolves.stackReading {n : Nat} {q : Option ℤ} (h : s.Evolves t) : s.Evolves (t.stackReading n q) := by
  unfold State.stackReading
  dsimp only
  split
  · exact .updateCap (.setF (.setMsite (.ite h.setF.setF h.setF)))
  · exact .ite (.updateCap (.ite (.setF (.setF (.setMsite (.ite h.setF h))))
      (.raise (.setF (.setF (.setMsite (.ite h.setF h))))))) h.setMsite

theorem State.Evolves.patrolLine {line : Nat} {errs : List LineErr} (h : s.Evolves t) : s.Evolves (t.patrolLine line errs) := by
  unfold State.patrolLine
  dsimp only
  split
  · exact h.chanServe.eccRead
  · split
    · exact h.chanServe.eccRead.farAsk.twinRead
    · split
      · exact .ite h.chanServe.eccRead.farAsk.eccRead.setPoison.storeIn.twinRepaired
          h.chanServe.eccRead.farAsk.eccRead.setPoison.setPoison.uncorr
      · exact h.chanServe.eccRead.poisonOut

theorem State.Leads.execPatrolRead {n line : Nat} {errs : List LineErr}
    (h : s.Evolves t) : s.Leads (execPatrolRead n line errs t) := by
  unfold Machine.execPatrolRead
  exact .ite (.next h) (.ite (.next (.count (.setF (.setMsite (.patrolLine (.ite h.setMsite h))))))
    (.next (.setF (.setMsite (.patrolLine (.ite h.setMsite h))))))

theorem State.Evolves.repairStart {ch bank row : Nat} {errs : List LineErr}
    (h : s.Evolves t) : s.Evolves (t.repairStart ch bank row errs) := by
  unfold State.repairStart
  dsimp only
  exact .foldl h.chanUntil.setSched.setChan fun _ _ h => .ite h.eccRead.poisonOut h.eccRead

theorem State.Evolves.repairEnd {ch bank row : Nat} (h : s.Evolves t) : s.Evolves (t.repairEnd ch bank row) := by
  unfold State.repairEnd
  exact h.restMem.setChan.setSched.flag.wearAdd.raise

theorem State.Leads.execPostPackageRepair {ch bank row : Nat} {errs : List LineErr}
    (h : s.Evolves t) : s.Leads (execPostPackageRepair ch bank row errs t) := by
  unfold Machine.execPostPackageRepair
  exact .ite (.next h.repairEnd) (.ite (.next h) (.ite (.ite (.next h.restMem) (.next h.restMem.setChan.flag.raise))
    (.next h.restMem.repairStart)))

theorem State.Leads.execMemChFail {ch cause : Nat} (h : s.Evolves t) : s.Leads (execMemChFail ch cause t) := by
  unfold Machine.execMemChFail
  exact .ite (.next h.channelFail) (.next h)

theorem State.Leads.execChannelRetrain {ch : Nat} {cleared : Bool}
    (h : s.Evolves t) : s.Leads (execChannelRetrain ch cleared t) := by
  unfold Machine.execChannelRetrain
  exact .ite (.next h) (.ite (.next h.setChan) (.ite (.next h.setChan.channelFail) (.next h.setChan)))

theorem State.Leads.execMemSiteFatal {n : Nat} (h : s.Evolves t) : s.Leads (execMemSiteFatal n t) := by
  unfold Machine.execMemSiteFatal
  exact .next h.memFatal

/-! ### The updates of Park -/

theorem State.Evolves.putHtxn {z2 : HTxn} (h : s.Evolves t) : s.Evolves (t.putHtxn z2) := by
  unfold State.putHtxn
  exact .ite h.rest h.rest

theorem State.Evolves.dropHtxn {line : Nat} (h : s.Evolves t) : s.Evolves (t.dropHtxn line) := by
  unfold State.dropHtxn
  dsimp only
  refine .rest ?_
  split
  · exact h.cohTrace
  · exact h

theorem State.Evolves.askHome {no : Nat} {w : Want} (h : s.Evolves t) : s.Evolves (t.askHome no w) := by
  unfold State.askHome
  exact .ite h (.ite (.rest (.ite h.combClose h)) h.rest)

theorem State.Evolves.cohClear (h : s.Evolves t) : s.Evolves t.cohClear := by
  unfold State.cohClear
  exact h.rest

theorem State.Evolves.issuedOf {z2 : State} (h : s.Evolves t) : s.Evolves (t.issuedOf z2) := by
  unfold State.issuedOf
  exact h.rest

theorem State.Evolves.park {c : Instr} {key : Nat} {want : List Want} {spent : PTbl Nat}
    (h : s.Evolves t) : s.Evolves (t.park c key want spent) := by
  unfold State.park
  exact .foldl h.rest fun _ _ h => h.askHome

theorem State.Evolves.parkFree {no : Nat} (h : s.Evolves t) : s.Evolves (t.parkFree no) := by
  unfold State.parkFree
  exact .rest (.foldl h fun _ _ h => h.dropHtxn)

theorem State.Evolves.parkAgain {no : Nat} {more : List Want} {spent : PTbl Nat}
    (h : s.Evolves t) : s.Evolves (t.parkAgain no more spent) := by
  unfold State.parkAgain
  exact .cohClear (.foldl h.parkFree.rest fun _ _ h => h.askHome)

theorem State.Evolves.parkEnd {no : Nat} (h : s.Evolves t) : s.Evolves (t.parkEnd no) := by
  unfold State.parkEnd
  exact h.parkFree.rest.cohClear

theorem State.Leads.parkIf {c : Instr} {key : Nat} {f : State → Res} (h : s.Evolves t)
    (hf : ∀ t, s.Evolves t → s.Leads (f t)) : s.Leads (parkIf c key f t) := by
  unfold Machine.parkIf
  split
  · obtain ⟨u, hu, hn⟩ := hf _ (h.rest (coh := { t.coh with canPark := true }))
    rw [hu]
    exact .next (.ite hn.parkEnd h.issuedOf.parkAgain)
  · split
    · exact .next h.park
    · obtain ⟨u, hu, hn⟩ := hf _ (h.rest (coh := { t.coh with canPark := !t.homesIdle }))
      rw [hu]
      exact .next (.ite hn.cohClear h.issuedOf.park)

theorem State.Evolves.resuming {p : Parked} (h : s.Evolves t) : s.Evolves (t.resuming p) := by
  unfold State.resuming
  exact h.rest

theorem State.Evolves.parkDone (h : s.Evolves t) : s.Evolves t.parkDone := by
  unfold State.parkDone
  split
  · exact h.parkEnd
  · exact h

/-! ### The updates of Qos -/

theorem State.Evolves.commitResult {seq code isPort loc load limit : Nat}
    (h : s.Evolves t) : s.Evolves (t.commitResult seq code isPort loc load limit) := by
  unfold State.commitResult
  exact h.setF.setF.setF.setF.setF.setF

theorem State.Evolves.qosCommit {seq : Nat} (h : s.Evolves t) : s.Evolves (t.qosCommit seq).2 := by
  unfold State.qosCommit
  dsimp only
  split
  · exact .mk_snd h.commitResult
  · split
    · exact .mk_snd h.commitResult
    · split
      · exact .mk_snd h.commitResult
      · split
        · exact .mk_snd h.commitResult
        · exact .mk_snd h.commitResult.rest

theorem State.Evolves.commitNow {qs : List QPort} (h : s.Evolves t) : s.Evolves (t.commitNow qs) := by
  unfold State.commitNow
  exact .rest (.applyEff (.foldl h.rescale fun _ _ h => h.setQport))

theorem State.Evolves.pendingTick (h : s.Evolves t) : s.Evolves t.pendingTick := by
  unfold State.pendingTick
  dsimp only
  refine .foldl h.rest fun t a h => ?_
  split
  · exact h.commitNow
  · exact h.applyEff

/-! ### The updates of MboxCore -/

theorem State.Evolves.setMb {c : Nat} {v : Mbox} (h : s.Evolves t) : s.Evolves (t.setMb c v) := by
  unfold State.setMb
  exact h.rest

theorem State.Evolves.mbNote {c : Nat} (h : s.Evolves t) : s.Evolves (t.mbNote c) := by
  unfold State.mbNote
  exact .ite (.emit (.ite (.emit (.ite h.raise h)) (.ite h.raise h))) (.ite (.emit (.ite h.raise h)) (.ite h.raise h))

theorem State.Evolves.mbReset {z2 : MbBind → Bool} (h : s.Evolves t) : s.Evolves (t.mbReset z2) := by
  unfold State.mbReset
  exact .foldl h fun _ _ h => .ite h.setMb.mbNote h

theorem State.Evolves.setFence {p v : Nat} (h : s.Evolves t) : s.Evolves (t.setFence p v) := by
  unfold State.setFence
  exact h.setQport

theorem State.Evolves.beginFence {p : Nat} (h : s.Evolves t) : s.Evolves (t.beginFence p) := by
  unfold State.beginFence
  exact .ite h.rest h.rest.setFence

/-! ### The updates of EngCore -/

theorem State.Evolves.setEng {e : Nat} {v : Eng} (h : s.Evolves t) : s.Evolves (t.setEng e v) := by
  unfold State.setEng
  exact h.rest

theorem State.Evolves.tmError {e : Nat} {x : TmErr} (h : s.Evolves t) : s.Evolves (State.tmError e t x) := by
  unfold State.tmError
  exact .ite h.count.flag (.raise (.flag (.ite h h.setEng)))

theorem State.Evolves.tmMeet {e a n : Nat} (h : s.Evolves t) : s.Evolves (t.tmMeet e a n) := by
  unfold State.tmMeet
  exact .ite (.foldl h.setEng fun _ _ h => h.tmError) h

theorem State.Evolves.updRun {e q idx : Nat} {f : Run → Run} (h : s.Evolves t) : s.Evolves (t.updRun e q idx f) := by
  unfold State.updRun
  exact h.setEng

theorem State.Evolves.waitDone {w : TWait} {v : Nat} (h : s.Evolves t) : s.Evolves (t.waitDone w v) := by
  unfold State.waitDone
  exact h.rest.updRun

theorem State.Evolves.judgeConsuming {z1 : Nat} {a : List TWait} (h : s.Evolves t) : s.Evolves (State.judgeConsuming z1 a t) := by
  induction a generalizing t with
  | nil => exact h
  | cons x l ih =>
    unfold State.judgeConsuming
    exact .ite (ih h.waitDone.setF) h

theorem State.Evolves.judge {z2 : Nat} (h : s.Evolves t) : s.Evolves (t.judge z2) := by
  unfold State.judge
  exact .judgeConsuming (.foldl h fun _ _ h => h.waitDone)

theorem State.Evolves.dropWaits {p : TWait → Bool} (h : s.Evolves t) : s.Evolves (t.dropWaits p) := by
  unfold State.dropWaits
  exact .foldl h.rest fun _ _ h => h.judge

theorem State.Evolves.setTally {z2 v : Nat} (h : s.Evolves t) : s.Evolves (t.setTally z2 v) := by
  unfold State.setTally
  exact h.setF.judge

theorem State.Evolves.signalTally {z2 amount : Nat} (h : s.Evolves t) : s.Evolves (t.signalTally z2 amount) := by
  unfold State.signalTally
  exact .judge (.ite h.setF.setF.raise h.setF)

theorem State.Evolves.performOuts {e : Nat} {a : List OutWr} {a1 : Run}
    (h : s.Evolves t) : s.Evolves (State.performOuts e a a1 t).2 := by
  induction a generalizing a1 t with
  | nil => exact h
  | cons x l ih =>
    unfold State.performOuts
    dsimp only
    exact .ite_snd (ih h.setEng) (.ite_snd (ih h.wr) h.wr)

theorem State.Evolves.writeRecord {e : Nat} {r : Run} (h : s.Evolves t) : s.Evolves (t.writeRecord e r) := by
  unfold State.writeRecord
  dsimp only
  exact h.wr.setF

theorem State.Evolves.settleQueue {e q : Nat} (h : s.Evolves t) : s.Evolves (t.settleQueue e q) := by
  unfold State.settleQueue
  exact .ite h.setF.setF h

theorem State.Evolves.finishRun {e : Nat} {r0 : Run} (h : s.Evolves t) : s.Evolves (t.finishRun e r0) := by
  unfold State.finishRun
  exact .settleQueue (.ite (.raise (.setF (.ite h.writeRecord.setEng.raise h.writeRecord.setEng)))
    (.ite h.writeRecord.setEng.raise h.writeRecord.setEng))

theorem State.Evolves.fallowReport {cls unit phase code : Nat}
    (h : s.Evolves t) : s.Evolves (t.fallowReport cls unit phase code) := by
  unfold State.fallowReport
  exact .ite h.setF.setF h

theorem State.Evolves.pmbus {r cmd value : Nat} (h : s.Evolves t) : s.Evolves (t.pmbus r cmd value) := by
  unfold State.pmbus
  exact h.emit

theorem State.Evolves.setVolt {r mv : Nat} (h : s.Evolves t) : s.Evolves (t.setVolt r mv) := by
  unfold State.setVolt
  exact h.rest.pmbus

theorem State.Evolves.stepVolt {e k : Nat} (h : s.Evolves t) : s.Evolves (t.stepVolt e k) := by
  unfold State.stepVolt
  exact h.setVolt

theorem State.Evolves.railUp {r : Nat} (h : s.Evolves t) : s.Evolves (t.railUp r) := by
  unfold State.railUp
  exact .pmbus (.ite h.stepVolt (.ite h.setVolt h))

theorem State.Evolves.railsFollow {old : State} (h : s.Evolves t) : s.Evolves (t.railsFollow old) := by
  unfold State.railsFollow
  exact .foldl (.foldl h fun _ _ h => h.railUp) fun _ _ h => h.pmbus

theorem State.Evolves.stopDom {d : Nat} (h : s.Evolves t) : s.Evolves (t.stopDom d) := by
  unfold State.stopDom
  exact h.setDom.setF

theorem State.Evolves.lostOrder {e : Nat} {r : Run} (h : s.Evolves t) : s.Evolves (t.lostOrder e r).2 := by
  unfold State.lostOrder
  dsimp only
  exact .ite h.rest.performOuts.signalTally h.rest.performOuts

theorem State.Evolves.faultRecords {e : Nat} {records : Bool} (h : s.Evolves t) : s.Evolves (t.faultRecords e records) := by
  unfold State.faultRecords
  dsimp only
  exact .foldl h fun _ _ h => .ite (.ite h.lostOrder.writeRecord.raise h.lostOrder.writeRecord) h.lostOrder

theorem State.Evolves.faultQueues {e : Nat} (h : s.Evolves t) : s.Evolves (t.faultQueues e).2 := by
  unfold State.faultQueues
  exact .foldl_snd h fun _ _ h => h.setF.setF

theorem State.Evolves.engineFault {e cause : Nat} {frontEnd report : Bool}
    (h : s.Evolves t) : s.Evolves (t.engineFault e cause frontEnd report) := by
  unfold State.engineFault
  dsimp only
  exact .ite h (.ite (.ite h.flag.raise h) (.railsFollow (.ite
    (.mbReset (.fallowReport (.setF (.setUnit (.ite (.raise (.flag
    (.beginFence (.dropWaits (.setEng (.ite_snd h.faultRecords h.faultRecords.faultQueues))))))
    (.flag (.beginFence (.dropWaits (.setEng (.ite_snd h.faultRecords h.faultRecords.faultQueues))))))))))
    (.stopDom (.setFence (.mbReset (.fallowReport (.setF (.setUnit
    (.ite (.raise (.flag (.beginFence (.dropWaits (.setEng (.ite_snd h.faultRecords h.faultRecords.faultQueues))))))
    (.flag (.beginFence (.dropWaits (.setEng (.ite_snd h.faultRecords h.faultRecords.faultQueues)))))))))))))))

theorem State.Evolves.putStep {e k : Nat} (h : s.Evolves t) : s.Evolves (t.putStep e k) := by
  unfold State.putStep
  exact h.setF.setF

/-! ### The updates of WorkOrders -/

theorem State.Evolves.readSlot {e q i : Nat} (h : s.Evolves t) : s.Evolves (t.readSlot e q i).2 := by
  unfold State.readSlot
  exact h.rd

theorem State.Evolves.fetchOrder {e q : Nat} (h : s.Evolves t) : s.Evolves (t.fetchOrder e q).2.2 := by
  unfold State.fetchOrder
  dsimp only
  split
  · exact h
  · exact h.readSlot

theorem State.Evolves.readAhead {e q i : Nat} (h : s.Evolves t) : s.Evolves (State.readAhead e q t i) := by
  unfold State.readAhead
  dsimp only
  exact .ite h (.ite h h.readSlot.setEng)

theorem State.Evolves.dropAhead {e q : Nat} (h : s.Evolves t) : s.Evolves (t.dropAhead e q) := by
  unfold State.dropAhead
  exact h.setEng

theorem State.Evolves.claimTake {e q : Nat} (h : s.Evolves t) : s.Evolves (t.claimTake e q) := by
  unfold State.claimTake
  exact h.setEng.rest

theorem State.Evolves.beginRun {e : Nat} {r : Run} (h : s.Evolves t) : s.Evolves (t.beginRun e r) := by
  unfold State.beginRun
  exact .ite h.setEng.setF.setF h.setEng.setF

theorem State.Evolves.startRun {e : Nat} {r : Run} (h : s.Evolves t) : s.Evolves (t.startRun e r) := by
  unfold State.startRun
  exact .foldl h.beginRun fun _ _ h => h.readAhead

theorem State.Evolves.openOuts {x : Run × State} {ins : List Rows} (h : s.Evolves x.2) : s.Evolves (State.openOuts x ins).2 := by
  unfold State.openOuts
  exact .ite_snd h h.rest

theorem State.Evolves.order {e q opc : Nat} {body : Body} (h : s.Evolves t)
    (hb : ∀ w r t, s.Evolves t → s.Evolves (body w r t).2) : s.Evolves (t.order e q opc body) := by
  unfold State.order
  dsimp only
  refine .ite h (.ite h.fetchOrder (.ite h (.ite h (.ite h.fetchOrder.rest.startRun ?_))))
  split
  · exact h.fetchOrder.startRun
  · have hc : ∀ {c : Bool} {x : State}, s.Evolves x → s.Evolves (if c = true then x.claimTake e q else x) := fun h => .ite
      h.claimTake h
    exact .ite (hc h.fetchOrder).setEng (.startRun (.openOuts (hb _ _ _ (hc h.fetchOrder))))

theorem State.Evolves.withTm {e : Nat} {tm : List TmErr} {body : Body} {w : Wo} {r : Run} (h : s.Evolves t)
    (hb : ∀ w r t, s.Evolves t → s.Evolves (body w r t).2) : s.Evolves (withTm e tm body w r t).2 :=
  hb _ _ _ (.foldl h fun _ _ h => h.tmError)

theorem State.Evolves.withLatent {e : Nat} {tm : List TmErr} {body : Body} {w : Wo} {r : Run} (h : s.Evolves t)
    (hb : ∀ w r t, s.Evolves t → s.Evolves (body w r t).2) : s.Evolves (withLatent e tm body w r t).2 :=
  hb _ _ _ h.setEng

theorem State.Evolves.readRow {e op fld off n : Nat} {site : SiteAns}
    (h : s.Evolves t) : s.Evolves (t.readRow e op fld off n site).2 := by
  unfold State.readRow
  dsimp only
  exact .ite_snd h.tmMeet h.rd

theorem State.Evolves.readRows {e op fld stride len a a1 : Nat} {a2 : SiteAns}
    (h : s.Evolves t) : s.Evolves (State.readRows e op fld stride len a a1 a2 t).2 := by
  induction a generalizing a1 a2 t with
  | zero => exact h
  | succ n ih =>
    unfold State.readRows
    dsimp only
    exact ih h.readRow

theorem State.Evolves.bodyNop {w : Wo} {r : Run} (h : s.Evolves t) : s.Evolves (bodyNop w r t).2 := by
  unfold Machine.bodyNop
  exact h

theorem State.Evolves.bodyWait {e : Nat} {w : Wo} {r : Run} (h : s.Evolves t) : s.Evolves (bodyWait e w r t).2 := by
  unfold Machine.bodyWait
  exact .mk_snd h.rest

theorem State.Evolves.bodyCopy {e : Nat} {site : SiteAns} {w : Wo} {r : Run}
    (h : s.Evolves t) : s.Evolves (bodyCopy e site w r t).2 := by
  unfold Machine.bodyCopy
  dsimp only
  split
  · exact .mk_snd h.readRows.rest
  · split <;> exact .mk_snd h.readRows

theorem State.Evolves.bodyConvert {e : Nat} {site : SiteAns} {w : Wo} {r : Run}
    (h : s.Evolves t) : s.Evolves (bodyConvert e site w r t).2 := by
  unfold Machine.bodyConvert
  dsimp only
  refine .rest ?_
  split
  · exact h.readRows.readRows
  · exact h.readRows

theorem State.Evolves.bodyTranspose {e : Nat} {w : Wo} {r : Run} (h : s.Evolves t) : s.Evolves (bodyTranspose e w r t).2 := by
  unfold Machine.bodyTranspose
  dsimp only
  split
  · exact .mk_snd h.readRows
  · split <;> exact .mk_snd h.readRows

theorem State.Evolves.gatherRows {e : Nat} {w : Wo} {bPois : Nat} {a : List (IdxKind × Nat)} {a1 : Run}
    (h : s.Evolves t) : s.Evolves (gatherRows e w bPois a a1 t).2 := by
  induction a generalizing a1 t with
  | nil => exact h
  | cons x l ih =>
    unfold Machine.gatherRows
    dsimp only
    split
    · exact ih h
    · exact ih h
    · split
      · exact h
      · exact .ite_snd h.readRow.rest (ih (.ite h.readRow h.readRow.rest))

theorem State.Evolves.bodyGather {e : Nat} {w : Wo} {r : Run} (h : s.Evolves t) : s.Evolves (bodyGather e w r t).2 := by
  unfold Machine.bodyGather
  dsimp only
  exact .ite_snd h.readRow (.ite_snd h.readRow.gatherRows.openOuts h.readRow.gatherRows)

theorem State.Evolves.bodyScatter {e : Nat} {w : Wo} {r : Run} (h : s.Evolves t) : s.Evolves (bodyScatter e w r t).2 := by
  unfold Machine.bodyScatter
  dsimp only
  split
  · exact .mk_snd h.readRow
  · split <;> exact .mk_snd h.readRow.readRows.rest

theorem State.Evolves.cacheLine {wb : Bool} {cls line : Nat} (h : s.Evolves t) : s.Evolves (t.cacheLine wb cls line) := by
  unfold State.cacheLine
  exact .ite h.llcClean (.ite h h.readLine)

theorem State.Evolves.cacheReq {src : Src} {wb : Bool} {a k : Nat} (h : s.Evolves t) : s.Evolves (t.cacheReq src wb a k).2 := by
  unfold State.cacheReq
  dsimp only
  split
  · exact h
  · split
    · exact .mk_snd h.unitIssue.unitMemDone
    · split
      · exact .mk_snd h.unitIssue
      · split
        · exact .mk_snd h.unitIssue.stallOn
        · split
          · exact .mk_snd h.unitIssue.unitMemDone
          · split
            · exact .mk_snd h.unitIssue.unitMemDone
            · split
              · exact .mk_snd h.unitIssue.farTimeout.unitMemDone
              · exact .mk_snd (.unitMemDone (.foldl h.unitIssue fun _ _ h => h.cacheLine))

theorem State.Evolves.cacheRow {src : Src} {wb : Bool} {a a1 a2 : Nat}
    (h : s.Evolves t) : s.Evolves (State.cacheRow src wb a a1 a2 t).2 := by
  induction a generalizing a1 a2 t with
  | zero => exact h
  | succ n ih =>
    unfold State.cacheRow
    dsimp only
    exact .ite_snd h (.ite_snd (ih h.cacheReq) h.cacheReq)

theorem State.Evolves.cacheBody {wb : Bool} {e : Nat} {w : Wo} {r : Run}
    (h : s.Evolves t) : s.Evolves (cacheBody wb e w r t).2 := by
  unfold Machine.cacheBody
  dsimp only
  split
  · exact h.unmappedAt
  · refine .foldl_snd h fun x i h => ?_
    split
    · exact h
    · exact h.cacheRow

theorem State.Evolves.bodyPrefetch {e : Nat} {w : Wo} {r : Run} (h : s.Evolves t) : s.Evolves (bodyPrefetch e w r t).2 := by
  unfold Machine.bodyPrefetch
  exact h.cacheBody

theorem State.Evolves.bodyWriteback {e : Nat} {w : Wo} {r : Run} (h : s.Evolves t) : s.Evolves (bodyWriteback e w r t).2 := by
  unfold Machine.bodyWriteback
  exact h.cacheBody

theorem State.Evolves.bodyReduce {e : Nat} {w : Wo} {r : Run} (h : s.Evolves t) : s.Evolves (bodyReduce e w r t).2 := by
  unfold Machine.bodyReduce
  dsimp only
  split
  · exact .mk_snd h.readRows
  · exact .mk_snd h.readRows.rest

/-! ### The updates of Matrix -/

theorem State.Evolves.matRead {e : Nat} {w : Wo} (h : s.Evolves t) : s.Evolves (t.matRead e w).2 := by
  unfold State.matRead
  dsimp only
  exact .ite_snd (.readRows (.ite_snd (.readRows (.readRows (.ite_snd h.readRows.readRows h.readRows)))
    (.readRows (.ite_snd h.readRows.readRows h.readRows)))) (.ite_snd
    (.readRows (.readRows (.ite_snd h.readRows.readRows h.readRows))) (.readRows (.ite_snd h.readRows.readRows h.readRows)))

theorem State.Evolves.arraysBusy {e : Nat} {w : Wo} {tiles : List Nat} (h : s.Evolves t) : s.Evolves (t.arraysBusy e w tiles) := by
  unfold State.arraysBusy
  exact .rest (.count (.foldl h fun _ _ h => h.count))

theorem State.Evolves.bodyMatrix {e : Nat} {acc : List Nat} {w : Wo} {r : Run}
    (h : s.Evolves t) : s.Evolves (bodyMatrix e acc w r t).2 := by
  unfold Machine.bodyMatrix
  dsimp only
  split <;> exact .mk_snd h.matRead.rest.setEng.arraysBusy

theorem State.Evolves.residue {e : Nat} {a : List (Nat × Nat)} (h : s.Evolves t) : s.Evolves (t.residue e a) := by
  induction a generalizing t with
  | nil => exact h
  | cons x l ih =>
    unfold State.residue
    exact .ite (ih h.setF.flag.raise) h.engineFault

theorem State.Evolves.matrixOrder {e q opc : Nat} {cols : List (Nat × Nat)} {tm : List TmErr}
    (h : s.Evolves t) : s.Evolves (t.matrixOrder e q opc cols tm) := by
  unfold State.matrixOrder
  exact .ite (.order h (fun _ _ _ h => .withTm h (fun _ _ _ h => h.bodyMatrix)))
    (.residue (.order h (fun _ _ _ h => .withTm h (fun _ _ _ h => h.bodyMatrix))))

theorem State.Leads.orderRow {c : Instr} {e q : Nat} {f : State → State} (h : s.Evolves t)
    (hf : ∀ t, s.Evolves t → s.Evolves (f t)) : s.Leads (orderRow c e q f t) :=
  .parkIf h fun t h => .next (hf t h)

theorem State.Leads.execMatmul {e q : Nat} {cols : List (Nat × Nat)} {tm : List TmErr}
    (h : s.Evolves t) : s.Leads (execMatmul e q cols tm t) := by
  unfold Machine.execMatmul
  exact .orderRow h (fun _ h => h.matrixOrder)

theorem State.Leads.execMatmulAcc {e q : Nat} {cols : List (Nat × Nat)} {tm : List TmErr}
    (h : s.Evolves t) : s.Leads (execMatmulAcc e q cols tm t) := by
  unfold Machine.execMatmulAcc
  exact .orderRow h (fun _ h => h.matrixOrder)

theorem State.Leads.execConv {e q : Nat} {cols : List (Nat × Nat)} {tm : List TmErr}
    (h : s.Evolves t) : s.Leads (execConv e q cols tm t) := by
  unfold Machine.execConv
  exact .orderRow h (fun _ h => h.matrixOrder)

theorem State.Leads.execNop {e q : Nat} (h : s.Evolves t) : s.Leads (execNop e q t) := by
  unfold Machine.execNop
  exact .orderRow h (fun _ h => .order h (fun _ _ _ h => h.bodyNop))

theorem State.Leads.execWait {e q : Nat} (h : s.Evolves t) : s.Leads (execWait e q t) := by
  unfold Machine.execWait
  dsimp only
  refine .orderRow h fun t h => ?_
  split
  · exact .judge (.order h (fun _ _ _ h => h.bodyWait))
  · exact .order h (fun _ _ _ h => h.bodyWait)

theorem State.Leads.execSignal {e q : Nat} (h : s.Evolves t) : s.Leads (execSignal e q t) := by
  unfold Machine.execSignal
  exact .orderRow h (fun _ h => .order h (fun _ _ _ h => h.bodyNop))

theorem State.Leads.execReduce {e q : Nat} {tm : List TmErr} (h : s.Evolves t) : s.Leads (execReduce e q tm t) := by
  unfold Machine.execReduce
  exact .orderRow h (fun _ h => .order h (fun _ _ _ h => .withTm h (fun _ _ _ h => h.bodyReduce)))

theorem State.Leads.execCopy {e q : Nat} {site : SiteAns} {tm : List TmErr}
    (h : s.Evolves t) : s.Leads (execCopy e q site tm t) := by
  unfold Machine.execCopy
  exact .orderRow h (fun _ h => .order h (fun _ _ _ h => .withTm h (fun _ _ _ h => h.bodyCopy)))

theorem State.Leads.execConvert {e q : Nat} {site : SiteAns} {tm : List TmErr}
    (h : s.Evolves t) : s.Leads (execConvert e q site tm t) := by
  unfold Machine.execConvert
  exact .orderRow h (fun _ h => .order h (fun _ _ _ h => .withTm h (fun _ _ _ h => h.bodyConvert)))

theorem State.Leads.execTranspose {e q : Nat} {tm : List TmErr} (h : s.Evolves t) : s.Leads (execTranspose e q tm t) := by
  unfold Machine.execTranspose
  exact .orderRow h (fun _ h => .order h (fun _ _ _ h => .withTm h (fun _ _ _ h => h.bodyTranspose)))

theorem State.Leads.execGather {e q : Nat} {tm : List TmErr} (h : s.Evolves t) : s.Leads (execGather e q tm t) := by
  unfold Machine.execGather
  exact .orderRow h (fun _ h => .order h (fun _ _ _ h => .withTm h (fun _ _ _ h => h.bodyGather)))

theorem State.Leads.execScatter {e q : Nat} {tm : List TmErr} (h : s.Evolves t) : s.Leads (execScatter e q tm t) := by
  unfold Machine.execScatter
  exact .orderRow h (fun _ h => .order h (fun _ _ _ h => .withTm h (fun _ _ _ h => h.bodyScatter)))

theorem State.Leads.execPrefetchLlc {e q : Nat} (h : s.Evolves t) : s.Leads (execPrefetchLlc e q t) := by
  unfold Machine.execPrefetchLlc
  exact .orderRow h (fun _ h => .order h (fun _ _ _ h => h.bodyPrefetch))

theorem State.Leads.execWriteback {e q : Nat} (h : s.Evolves t) : s.Leads (execWriteback e q t) := by
  unfold Machine.execWriteback
  exact .orderRow h (fun _ h => .order h (fun _ _ _ h => h.bodyWriteback))

theorem State.Leads.execWaitTimeout {e q : Nat} (h : s.Evolves t) : s.Leads (execWaitTimeout e q t) := by
  unfold Machine.execWaitTimeout
  split
  · split
    · exact .ite (.next h) (.next h.updRun.dropWaits)
    · exact .next h
  · exact .next h

theorem State.Evolves.laneOutRead {e : Nat} {r : Run} (h : s.Evolves t) : s.Evolves (t.laneOutRead e r) := by
  unfold State.laneOutRead
  exact .ite h.tmMeet h

theorem State.Evolves.engineQuiet {e : Nat} (h : s.Evolves t) : s.Evolves (t.engineQuiet e) := by
  unfold State.engineQuiet
  exact .ite h (.ite h.beginFence.setF.fallowReport (.ite h.setF h))

theorem State.Evolves.performRun {e : Nat} {r : Run} (h : s.Evolves t) : s.Evolves (t.performRun e r) := by
  unfold State.performRun
  dsimp only
  exact h.laneOutRead.performOuts.updRun

theorem State.Evolves.completeFirst {e q : Nat} (h : s.Evolves t) : s.Evolves (t.completeFirst e q) := by
  unfold State.completeFirst
  split
  · exact h
  · exact .ite h (.engineQuiet (.finishRun (.ite h.signalTally h)))

theorem State.Leads.execWorkOrderComplete {e q : Nat} (h : s.Evolves t) : s.Leads (execWorkOrderComplete e q t) := by
  unfold Machine.execWorkOrderComplete
  dsimp only
  refine .parkIf h fun t h => ?_
  split
  · exact .ite (.next h.completeFirst) (.next (.completeFirst (.performRun (.ite h.setEng h))))
  · exact .next h.completeFirst

/-! ### The updates of Lane -/

theorem State.Evolves.setStream {e u1 : Nat} {z2 : Stream} (h : s.Evolves t) : s.Evolves (t.setStream e u1 z2) := by
  unfold State.setStream
  exact h.setEng

theorem State.Evolves.laneStop {e q idx status fault addr : Nat}
    (h : s.Evolves t) : s.Evolves (t.laneStop e q idx status fault addr) := by
  unfold State.laneStop
  exact h.updRun.setEng

theorem State.Evolves.laneAfter {e u1 pc : Nat} {z2 : Stream} {fl nans : Nat}
    (h : s.Evolves t) : s.Evolves (t.laneAfter e u1 pc z2 fl nans) := by
  unfold State.laneAfter
  exact .ite h.setEng.setStream.count.updRun.laneStop (.ite h.setEng.setStream.count.updRun.laneStop
    (.ite h.setEng.setStream.count.updRun.updRun h.setEng.setStream.count.updRun))

theorem State.Evolves.laneRow {e u opc : Nat} {f : LaneFn} (h : s.Evolves t)
    (hf : ∀ x i t, s.Evolves t → s.Evolves (f x i t).state) : s.Evolves (t.laneRow e u opc f) := by
  unfold State.laneRow
  split
  · exact h
  next x _ =>
    refine .ite h (.ite h.laneStop (.ite h ?_))
    have hl := hf { x with pc := x.pc + 1 } (Ins.parse (NTbl.at 0 (t.eng e).lps x.pc)) t h
    generalize f _ _ _ = l at hl
    cases l with
    | next => exact hl.laneAfter
    | stop => exact .ite hl.laneStop hl.count.laneStop

theorem State.Evolves.fnV {f : LaneIn → LaneVal} {x : Stream} {i : Ins} (h : s.Evolves t) : s.Evolves (fnV f x i t).state := by
  unfold Machine.fnV
  split <;> exact h

theorem State.Evolves.fnP {f : Ins → LaneIn → Bool × Nat} {x : Stream} {i : Ins}
    (h : s.Evolves t) : s.Evolves (fnP f x i t).state := by
  unfold Machine.fnP
  split <;> exact h

theorem State.Evolves.fnS {f : Stream → Ins → Nat} {x : Stream} {i : Ins} (h : s.Evolves t) : s.Evolves (fnS f x i t).state := by
  unfold Machine.fnS
  exact h

theorem State.Evolves.bodyLane {e : Nat} {w : Wo} {r : Run} (h : s.Evolves t) : s.Evolves (bodyLane e w r t).2 := by
  unfold Machine.bodyLane
  exact h.setEng

theorem State.Leads.execLane {e q : Nat} {tm : List TmErr} (h : s.Evolves t) : s.Leads (execLane e q tm t) := by
  unfold Machine.execLane
  exact .orderRow h (fun _ h => .order h (fun _ _ _ h => .withLatent h (fun _ _ _ h => h.bodyLane)))

theorem State.Leads.execLaneStepLimit {e u1 : Nat} (h : s.Evolves t) : s.Leads (execLaneStepLimit e u1 t) := by
  unfold Machine.execLaneStepLimit
  split
  · exact .ite (.next h) (.next h.rest.laneStop)
  · exact .next h

theorem State.Leads.execLaneNop {e u1 : Nat} (h : s.Evolves t) : s.Leads (execLaneNop e u1 t) := by
  unfold Machine.execLaneNop
  exact .next (.laneRow h (fun _ _ _ h => h))

theorem State.Leads.execFadd {e u1 : Nat} (h : s.Evolves t) : s.Leads (execFadd e u1 t) := by
  unfold Machine.execFadd
  exact .next (.laneRow h (fun _ _ _ h => h.fnV))

theorem State.Leads.execFsub {e u1 : Nat} (h : s.Evolves t) : s.Leads (execFsub e u1 t) := by
  unfold Machine.execFsub
  exact .next (.laneRow h (fun _ _ _ h => h.fnV))

theorem State.Leads.execFmul {e u1 : Nat} (h : s.Evolves t) : s.Leads (execFmul e u1 t) := by
  unfold Machine.execFmul
  exact .next (.laneRow h (fun _ _ _ h => h.fnV))

theorem State.Leads.execFfma {e u1 : Nat} (h : s.Evolves t) : s.Leads (execFfma e u1 t) := by
  unfold Machine.execFfma
  exact .next (.laneRow h (fun _ _ _ h => h.fnV))

theorem State.Leads.execFmin {e u1 : Nat} (h : s.Evolves t) : s.Leads (execFmin e u1 t) := by
  unfold Machine.execFmin
  exact .next (.laneRow h (fun _ _ _ h => h.fnV))

theorem State.Leads.execFmax {e u1 : Nat} (h : s.Evolves t) : s.Leads (execFmax e u1 t) := by
  unfold Machine.execFmax
  exact .next (.laneRow h (fun _ _ _ h => h.fnV))

theorem State.Leads.execFcmp {e u1 : Nat} (h : s.Evolves t) : s.Leads (execFcmp e u1 t) := by
  unfold Machine.execFcmp
  exact .next (.laneRow h (fun _ _ _ h => h.fnP))

theorem State.Leads.execHadd {e u1 : Nat} (h : s.Evolves t) : s.Leads (execHadd e u1 t) := by
  unfold Machine.execHadd
  exact .next (.laneRow h (fun _ _ _ h => h.fnV))

theorem State.Leads.execHmul {e u1 : Nat} (h : s.Evolves t) : s.Leads (execHmul e u1 t) := by
  unfold Machine.execHmul
  exact .next (.laneRow h (fun _ _ _ h => h.fnV))

theorem State.Leads.execHfma {e u1 : Nat} (h : s.Evolves t) : s.Leads (execHfma e u1 t) := by
  unfold Machine.execHfma
  exact .next (.laneRow h (fun _ _ _ h => h.fnV))

theorem State.Leads.execIadd {e u1 : Nat} (h : s.Evolves t) : s.Leads (execIadd e u1 t) := by
  unfold Machine.execIadd
  exact .next (.laneRow h (fun _ _ _ h => h.fnV))

theorem State.Leads.execIsub {e u1 : Nat} (h : s.Evolves t) : s.Leads (execIsub e u1 t) := by
  unfold Machine.execIsub
  exact .next (.laneRow h (fun _ _ _ h => h.fnV))

theorem State.Leads.execImul {e u1 : Nat} (h : s.Evolves t) : s.Leads (execImul e u1 t) := by
  unfold Machine.execImul
  exact .next (.laneRow h (fun _ _ _ h => h.fnV))

theorem State.Leads.execIadds {e u1 : Nat} (h : s.Evolves t) : s.Leads (execIadds e u1 t) := by
  unfold Machine.execIadds
  exact .next (.laneRow h (fun _ _ _ h => h.fnV))

theorem State.Leads.execIsubs {e u1 : Nat} (h : s.Evolves t) : s.Leads (execIsubs e u1 t) := by
  unfold Machine.execIsubs
  exact .next (.laneRow h (fun _ _ _ h => h.fnV))

theorem State.Leads.execAnd {e u1 : Nat} (h : s.Evolves t) : s.Leads (execAnd e u1 t) := by
  unfold Machine.execAnd
  exact .next (.laneRow h (fun _ _ _ h => h.fnV))

theorem State.Leads.execOr {e u1 : Nat} (h : s.Evolves t) : s.Leads (execOr e u1 t) := by
  unfold Machine.execOr
  exact .next (.laneRow h (fun _ _ _ h => h.fnV))

theorem State.Leads.execXor {e u1 : Nat} (h : s.Evolves t) : s.Leads (execXor e u1 t) := by
  unfold Machine.execXor
  exact .next (.laneRow h (fun _ _ _ h => h.fnV))

theorem State.Leads.execShl {e u1 : Nat} (h : s.Evolves t) : s.Leads (execShl e u1 t) := by
  unfold Machine.execShl
  exact .next (.laneRow h (fun _ _ _ h => h.fnV))

theorem State.Leads.execShr {e u1 : Nat} (h : s.Evolves t) : s.Leads (execShr e u1 t) := by
  unfold Machine.execShr
  exact .next (.laneRow h (fun _ _ _ h => h.fnV))

theorem State.Leads.execSra {e u1 : Nat} (h : s.Evolves t) : s.Leads (execSra e u1 t) := by
  unfold Machine.execSra
  exact .next (.laneRow h (fun _ _ _ h => h.fnV))

theorem State.Leads.execIcmp {e u1 : Nat} (h : s.Evolves t) : s.Leads (execIcmp e u1 t) := by
  unfold Machine.execIcmp
  exact .next (.laneRow h (fun _ _ _ h => h.fnP))

theorem State.Leads.execCvt {e u1 : Nat} (h : s.Evolves t) : s.Leads (execCvt e u1 t) := by
  unfold Machine.execCvt
  refine .next ?_
  refine .laneRow h fun t i s h => ?_
  split <;> exact h.rest

theorem State.Leads.execRcp {e u1 : Nat} (h : s.Evolves t) : s.Leads (execRcp e u1 t) := by
  unfold Machine.execRcp
  exact .next (.laneRow h (fun _ _ _ h => h.fnV))

theorem State.Leads.execRsqrt {e u1 : Nat} (h : s.Evolves t) : s.Leads (execRsqrt e u1 t) := by
  unfold Machine.execRsqrt
  exact .next (.laneRow h (fun _ _ _ h => h.fnV))

theorem State.Leads.execSqrt {e u1 : Nat} (h : s.Evolves t) : s.Leads (execSqrt e u1 t) := by
  unfold Machine.execSqrt
  exact .next (.laneRow h (fun _ _ _ h => h.fnV))

theorem State.Leads.execExp2 {e u1 : Nat} (h : s.Evolves t) : s.Leads (execExp2 e u1 t) := by
  unfold Machine.execExp2
  exact .next (.laneRow h (fun _ _ _ h => h.fnV))

theorem State.Leads.execLog2 {e u1 : Nat} (h : s.Evolves t) : s.Leads (execLog2 e u1 t) := by
  unfold Machine.execLog2
  exact .next (.laneRow h (fun _ _ _ h => h.fnV))

theorem State.Leads.execMovi {e u1 : Nat} (h : s.Evolves t) : s.Leads (execMovi e u1 t) := by
  unfold Machine.execMovi
  exact .next (.laneRow h (fun _ _ _ h => h.fnV))

theorem State.Leads.execMovs {e u1 : Nat} (h : s.Evolves t) : s.Leads (execMovs e u1 t) := by
  unfold Machine.execMovs
  exact .next (.laneRow h (fun _ _ _ h => h.fnV))

theorem State.Leads.execLaneid {e u1 : Nat} (h : s.Evolves t) : s.Leads (execLaneid e u1 t) := by
  unfold Machine.execLaneid
  exact .next (.laneRow h (fun _ _ _ h => h.fnV))

theorem State.Leads.execSel {e u1 : Nat} (h : s.Evolves t) : s.Leads (execSel e u1 t) := by
  unfold Machine.execSel
  dsimp only
  exact .next (.laneRow h (fun _ _ _ h => h))

theorem State.Evolves.tmMeets {e f : Nat} {as : List ℤ} (h : s.Evolves t) : s.Evolves (t.tmMeets e f as) := by
  unfold State.tmMeets
  split
  · exact h
  · refine .foldl h fun t a h => ?_
    split <;> exact h.tmMeet

theorem State.Evolves.fnLd {e : Nat} {indexed : Bool} {x : Stream} {i : Ins}
    (h : s.Evolves t) : s.Evolves (fnLd e indexed x i t).state := by
  unfold Machine.fnLd
  dsimp only
  split
  · exact h
  · split
    · exact h.tmMeets
    · exact h.tmMeets.fnV

theorem State.Evolves.fnSt {e : Nat} {indexed : Bool} {x : Stream} {i : Ins}
    (h : s.Evolves t) : s.Evolves (fnSt e indexed x i t).state := by
  unfold Machine.fnSt
  dsimp only
  split
  · exact h
  · split
    · exact h.rest.setEng
    · exact h.setEng

theorem State.Leads.execLd {e u1 : Nat} (h : s.Evolves t) : s.Leads (execLd e u1 t) := by
  unfold Machine.execLd
  exact .next (.laneRow h (fun _ _ _ h => h.fnLd))

theorem State.Leads.execSt {e u1 : Nat} (h : s.Evolves t) : s.Leads (execSt e u1 t) := by
  unfold Machine.execSt
  exact .next (.laneRow h (fun _ _ _ h => h.fnSt))

theorem State.Leads.execLdx {e u1 : Nat} (h : s.Evolves t) : s.Leads (execLdx e u1 t) := by
  unfold Machine.execLdx
  exact .next (.laneRow h (fun _ _ _ h => h.fnLd))

theorem State.Leads.execStx {e u1 : Nat} (h : s.Evolves t) : s.Leads (execStx e u1 t) := by
  unfold Machine.execStx
  exact .next (.laneRow h (fun _ _ _ h => h.fnSt))

theorem State.Leads.execRed {e u1 : Nat} (h : s.Evolves t) : s.Leads (execRed e u1 t) := by
  unfold Machine.execRed
  refine .next ?_
  refine .laneRow h fun t i s h => ?_
  split <;> exact h.rest

theorem State.Leads.execSadd {e u1 : Nat} (h : s.Evolves t) : s.Leads (execSadd e u1 t) := by
  unfold Machine.execSadd
  exact .next (.laneRow h (fun _ _ _ h => h.fnS))

theorem State.Leads.execSsub {e u1 : Nat} (h : s.Evolves t) : s.Leads (execSsub e u1 t) := by
  unfold Machine.execSsub
  exact .next (.laneRow h (fun _ _ _ h => h.fnS))

theorem State.Leads.execSmul {e u1 : Nat} (h : s.Evolves t) : s.Leads (execSmul e u1 t) := by
  unfold Machine.execSmul
  exact .next (.laneRow h (fun _ _ _ h => h.fnS))

theorem State.Leads.execSand {e u1 : Nat} (h : s.Evolves t) : s.Leads (execSand e u1 t) := by
  unfold Machine.execSand
  exact .next (.laneRow h (fun _ _ _ h => h.fnS))

theorem State.Leads.execSor {e u1 : Nat} (h : s.Evolves t) : s.Leads (execSor e u1 t) := by
  unfold Machine.execSor
  exact .next (.laneRow h (fun _ _ _ h => h.fnS))

theorem State.Leads.execSxor {e u1 : Nat} (h : s.Evolves t) : s.Leads (execSxor e u1 t) := by
  unfold Machine.execSxor
  exact .next (.laneRow h (fun _ _ _ h => h.fnS))

theorem State.Leads.execSshl {e u1 : Nat} (h : s.Evolves t) : s.Leads (execSshl e u1 t) := by
  unfold Machine.execSshl
  exact .next (.laneRow h (fun _ _ _ h => h.fnS))

theorem State.Leads.execSshr {e u1 : Nat} (h : s.Evolves t) : s.Leads (execSshr e u1 t) := by
  unfold Machine.execSshr
  exact .next (.laneRow h (fun _ _ _ h => h.fnS))

theorem State.Leads.execSsra {e u1 : Nat} (h : s.Evolves t) : s.Leads (execSsra e u1 t) := by
  unfold Machine.execSsra
  exact .next (.laneRow h (fun _ _ _ h => h.fnS))

theorem State.Leads.execSaddi {e u1 : Nat} (h : s.Evolves t) : s.Leads (execSaddi e u1 t) := by
  unfold Machine.execSaddi
  exact .next (.laneRow h (fun _ _ _ h => h.fnS))

theorem State.Leads.execSshli {e u1 : Nat} (h : s.Evolves t) : s.Leads (execSshli e u1 t) := by
  unfold Machine.execSshli
  exact .next (.laneRow h (fun _ _ _ h => h.fnS))

theorem State.Leads.execSshri {e u1 : Nat} (h : s.Evolves t) : s.Leads (execSshri e u1 t) := by
  unfold Machine.execSshri
  exact .next (.laneRow h (fun _ _ _ h => h.fnS))

theorem State.Leads.execSlui {e u1 : Nat} (h : s.Evolves t) : s.Leads (execSlui e u1 t) := by
  unfold Machine.execSlui
  exact .next (.laneRow h (fun _ _ _ h => h.fnS))

theorem State.Leads.execScmp {e u1 : Nat} (h : s.Evolves t) : s.Leads (execScmp e u1 t) := by
  unfold Machine.execScmp
  exact .next (.laneRow h (fun _ _ _ h => h.fnS))

theorem State.Leads.execSfmin {e u1 : Nat} (h : s.Evolves t) : s.Leads (execSfmin e u1 t) := by
  unfold Machine.execSfmin
  refine .next ?_
  refine .laneRow h fun t i s h => ?_
  split <;> exact h.rest

theorem State.Leads.execSfmax {e u1 : Nat} (h : s.Evolves t) : s.Leads (execSfmax e u1 t) := by
  unfold Machine.execSfmax
  refine .next ?_
  refine .laneRow h fun t i s h => ?_
  split <;> exact h.rest

theorem State.Leads.execSfcmp {e u1 : Nat} (h : s.Evolves t) : s.Leads (execSfcmp e u1 t) := by
  unfold Machine.execSfcmp
  refine .next ?_
  refine .laneRow h fun t i s h => ?_
  split <;> exact h

theorem State.Leads.execSld {e u1 : Nat} (h : s.Evolves t) : s.Leads (execSld e u1 t) := by
  unfold Machine.execSld
  dsimp only
  refine .next ?_
  refine .laneRow h fun t i s h => ?_
  split
  · exact h
  · split <;> exact h.tmMeet

theorem State.Leads.execSst {e u1 : Nat} (h : s.Evolves t) : s.Leads (execSst e u1 t) := by
  unfold Machine.execSst
  dsimp only
  refine .next ?_
  refine .laneRow h fun t i s h => ?_
  split
  · exact h
  · exact h.setEng

theorem State.Leads.execSfence {e u1 : Nat} (h : s.Evolves t) : s.Leads (execSfence e u1 t) := by
  unfold Machine.execSfence
  exact .next (.ite h (.laneRow h (fun _ _ _ h => h)))

theorem State.Leads.execBr {e u1 : Nat} (h : s.Evolves t) : s.Leads (execBr e u1 t) := by
  unfold Machine.execBr
  exact .next (.laneRow h (fun _ _ _ h => h))

theorem State.Leads.execJmp {e u1 : Nat} (h : s.Evolves t) : s.Leads (execJmp e u1 t) := by
  unfold Machine.execJmp
  exact .next (.laneRow h (fun _ _ _ h => h))

theorem State.Leads.execBrany {e u1 : Nat} (h : s.Evolves t) : s.Leads (execBrany e u1 t) := by
  unfold Machine.execBrany
  exact .next (.laneRow h (fun _ _ _ h => h))

theorem State.Leads.execBrall {e u1 : Nat} (h : s.Evolves t) : s.Leads (execBrall e u1 t) := by
  unfold Machine.execBrall
  exact .next (.laneRow h (fun _ _ _ h => h))

theorem State.Leads.execEndStream {e u1 : Nat} (h : s.Evolves t) : s.Leads (execEndStream e u1 t) := by
  unfold Machine.execEndStream
  exact .next (.laneRow h (fun _ _ _ h => h))

/-! ### The updates of Queues -/

theorem State.Evolves.wqTail {e q z2 : Nat} (h : s.Evolves t) : s.Evolves (t.wqTail e q z2).2 := by
  unfold State.wqTail
  exact .ite_snd h (.ite_snd h.flag (.ite h.setF.setF h.setF))

theorem State.Evolves.cqHead {e q z2 : Nat} (h : s.Evolves t) : s.Evolves (t.cqHead e q z2).2 := by
  unfold State.cqHead
  exact .ite_snd h (.ite_snd h.setF h.flag)

theorem State.Evolves.ringField {fid : Fid} {e q v : Nat} (h : s.Evolves t) : s.Evolves (t.ringField fid e q v).2 := by
  unfold State.ringField
  exact .ite_snd h (.ite_snd h h.setF)

theorem State.Evolves.queueEnable {e q lg prio : Nat} (h : s.Evolves t) : s.Evolves (t.queueEnable e q lg prio).2 := by
  unfold State.queueEnable
  exact .ite_snd h.setF.setF.setF.dropAhead.setF.setF.setF.setF.setF h.flag

theorem State.Evolves.queueDisable {e q prio : Nat} (h : s.Evolves t) : s.Evolves (t.queueDisable e q prio).2 := by
  unfold State.queueDisable
  exact h.setF.setF.setF.settleQueue

theorem State.Evolves.wqCfg {e q lg prio resume en : Nat} (h : s.Evolves t) : s.Evolves (t.wqCfg e q lg prio resume en).2 := by
  unfold State.wqCfg
  exact .ite_snd h (.ite_snd (.ite_snd h.queueEnable h.setF.setF)
    (.ite_snd (.ite_snd h h.setF) (.ite_snd h.queueDisable (.ite h.setF.dropAhead.setF h.setF))))

theorem State.Evolves.lpsNext {e : Nat} (h : s.Evolves t) : s.Evolves (t.lpsNext e) := by
  unfold State.lpsNext
  exact h.setF

theorem State.Evolves.lpsIndex {e v : Nat} (h : s.Evolves t) : s.Evolves (t.lpsIndex e v).2 := by
  unfold State.lpsIndex
  exact .ite_snd h h.setF

theorem State.Evolves.lpsWrite {e v : Nat} (h : s.Evolves t) : s.Evolves (t.lpsWrite e v).2 := by
  unfold State.lpsWrite
  exact .ite_snd h h.setEng.lpsNext

theorem State.Evolves.lpsRead {e : Nat} (h : s.Evolves t) : s.Evolves (t.lpsRead e).2 := by
  unfold State.lpsRead
  exact .mk_snd h.lpsNext

theorem State.Evolves.tallyWrite {z2 v : Nat} (h : s.Evolves t) : s.Evolves (t.tallyWrite z2 v).2 := by
  unfold State.tallyWrite
  exact .mk_snd h.setTally

theorem State.Evolves.tallyAdd {z2 v : Nat} (h : s.Evolves t) : s.Evolves (t.tallyAdd z2 v).2 := by
  unfold State.tallyAdd
  exact .mk_snd h.signalTally

/-! ### The updates of Engine -/

theorem State.Evolves.fallowResult {seq phase code : Nat} {unit : Option (Nat × Nat)}
    (h : s.Evolves t) : s.Evolves (t.fallowResult seq phase code unit) := by
  unfold State.fallowResult
  exact h.setF.setF.setF.rest

theorem State.Evolves.drainAbort {e : Nat} (h : s.Evolves t) : s.Evolves (t.drainAbort e) := by
  unfold State.drainAbort
  exact h.setEng.rest.dropWaits

theorem State.Evolves.engineClock {e : Nat} (h : s.Evolves t) : s.Evolves (t.engineClock e) := by
  unfold State.engineClock
  exact .foldl (.foldl (.setF (.setDom (.putStep (.ite h.setF.railUp h.setF)))) fun _ _ h => h.setF) fun _ _ h => h.setF

theorem State.Evolves.engFallow {seq action e : Nat} (h : s.Evolves t) : s.Evolves (t.engFallow seq action e).2 := by
  unfold State.engFallow
  exact .ite_snd h.fallowResult (.ite_snd h.fallowResult (.ite_snd h.fallowResult
    (.ite_snd h.fallowResult (.ite_snd h.fallowResult (.ite_snd
    (.engineQuiet (.ite h.fallowResult.setF.drainAbort h.fallowResult.setF))
    (.ite_snd h.fallowResult h.fallowResult.setF.engineClock))))))

theorem State.Leads.execCeDrainLimitExpiry {e : Nat} (h : s.Evolves t) : s.Leads (execCeDrainLimitExpiry e t) := by
  unfold Machine.execCeDrainLimitExpiry
  exact .next (.ite h.drainAbort h)

theorem State.Evolves.engineOff {e : Nat} (h : s.Evolves t) : s.Evolves (t.engineOff e) := by
  unfold State.engineOff
  exact h.fallowReport.setEng.stopDom.setF.setUnit.mbReset.fallowReport.railsFollow

theorem State.Evolves.queuesClear {e : Nat} (h : s.Evolves t) : s.Evolves (t.queuesClear e) := by
  unfold State.queuesClear
  exact .foldl h fun _ _ h => .foldl h fun _ _ h => h.setF

theorem State.Evolves.sparesUsed {e : Nat} {r : TestFound} (h : s.Evolves t) : s.Evolves (t.sparesUsed e r) := by
  unfold State.sparesUsed
  exact .foldl h.setF fun _ _ h => h.setF

theorem State.Leads.execWakeTestDone {e : Nat} {r : TestFound} (h : s.Evolves t) : s.Leads (execWakeTestDone e r t) := by
  unfold Machine.execWakeTestDone
  exact .ite (.next h) (.ite (.next (.engineFault (.ite h.sparesUsed.setF.setF h.sparesUsed)))
    (.next (.fallowReport (.setUnit (.setF (.setFence (.queuesClear (.setEng (.ite h.sparesUsed.setF.setF h.sparesUsed)))))))))

theorem State.Leads.execEngFault {e cause : Nat} {frontEnd : Bool}
    (h : s.Evolves t) : s.Leads (execEngFault e cause frontEnd t) := by
  unfold Machine.execEngFault
  exact .ite (.next h.engineFault) (.next h)

/-! ### The updates of CohCore -/

theorem State.Evolves.agentPacket {a cmd line len units : Nat} {write req : Bool} {ref : Option Nat}
    (h : s.Evolves t) : s.Evolves (t.agentPacket a cmd line len units write req ref).2 := by
  unfold State.agentPacket
  dsimp only
  refine .observe ?_
  split
  · refine .setQport ?_
    split
    · exact h
    · exact .mk_snd h.freeBelow
  · split
    · exact h
    · exact .mk_snd h.freeBelow

theorem State.Evolves.cohRefuse {a addr st : Nat} {read : Bool} {ref : Nat}
    (h : s.Evolves t) : s.Evolves (t.cohRefuse a addr st read ref) := by
  unfold State.cohRefuse
  exact .ite h.siteSend h.emit

theorem State.Evolves.cohSend {a code grant line status : Nat} {data : Bytes} {ref : Nat} {quiet : Bool} {head : Option (Nat × Nat)}
    (h : s.Evolves t) : s.Evolves (t.cohSend a code grant line status data ref quiet head) := by
  unfold State.cohSend
  exact .ite h.observe (.ite h.observe.siteSend h.observe.emit)

theorem State.Evolves.cohAnswer {r : HReq} {code grant status : Nat} {data : Bytes}
    (h : s.Evolves t) : s.Evolves (t.cohAnswer r code grant status data) := by
  unfold State.cohAnswer
  exact .ite h (.ite h.count h.setQport.glnLatency.cohSend)

theorem State.Evolves.cohData {r : HReq} {grant : Nat} {comb : Bool}
    (h : s.Evolves t) : s.Evolves (t.cohData r grant comb) := by
  unfold State.cohData
  dsimp only
  exact .ite h.farTimeout.cohAnswer (.cohAnswer (.ite_snd_snd h.farAsks.combMemRead h.farAsks.memRead))

theorem State.Evolves.homeWrite {pa : Nat} {b : Bytes} {poison : Bool} {cls : Nat}
    (h : s.Evolves t) : s.Evolves (t.homeWrite pa b poison cls).2 := by
  unfold State.homeWrite
  exact .ite_snd h.farTimeout h.farAsks.memWrite

theorem State.Evolves.writeInv {r : HReq} (h : s.Evolves t) : s.Evolves (t.writeInv r) := by
  unfold State.writeInv
  dsimp only
  exact h.homeWrite.cohAnswer

theorem State.Evolves.openHtxn {r : HReq} {phase : HPhase} (h : s.Evolves t) : s.Evolves (t.openHtxn r phase).2 := by
  unfold State.openHtxn
  exact h.rest.putHtxn

theorem State.Evolves.snoopFor {z2 : HTxn} {code targets : Nat} (h : s.Evolves t) : s.Evolves (t.snoopFor z2 code targets) := by
  unfold State.snoopFor
  exact h.sendSnoop.putHtxn

theorem State.Evolves.reclaimMore {a : Nat} (h : s.Evolves t) : s.Evolves (t.reclaimMore a) := by
  unfold State.reclaimMore
  exact .ite h.rest h.count

theorem State.Evolves.poisonLine {line : Nat} (h : s.Evolves t) : s.Evolves (t.poisonLine line) := by
  unfold State.poisonLine
  exact h.memWrite

theorem State.Evolves.dropHolder {line a : Nat} (h : s.Evolves t) : s.Evolves (t.dropHolder line a) := by
  unfold State.dropHolder
  exact h.setSf

theorem State.Evolves.unhold {a line : Nat} (h : s.Evolves t) : s.Evolves (t.unhold a line) := by
  unfold State.unhold
  dsimp only
  split
  · exact h.dropHolder.putHtxn
  · exact h.dropHolder

theorem State.Evolves.evictTake {a line : Nat} {data : Bytes} {poison : Bool} {x : Nat × State}
    (h : s.Evolves t) (hu : t.evictTake a line data poison = some x) : s.Evolves x.2 := by
  have some_ite : ∀ {c : Prop} [Decidable c] {st : Nat} {v : State}, s.Evolves v →
      (if c then some (st, v) else none) = some x → s.Evolves x.2 := by
    intro c _ st v h hu
    split at hu
    · cases hu
      exact h
    · cases hu
  unfold State.evictTake at hu
  dsimp only at hu
  split at hu
  · exact some_ite h.homeWrite.dropHolder hu
  · split at hu
    · exact some_ite h.homeWrite.unhold hu
    · split at hu
      · exact some_ite h.homeWrite.dropHolder hu
      · exact some_ite h.homeWrite.dropHolder.putHtxn hu

theorem State.Evolves.evictsKept {n : Nat} (h : s.Evolves t) : s.Evolves (t.evictsKept n) := by
  have take : ∀ {x : State} {line : Nat} {d : Bytes} {p : Bool}, s.Evolves x → s.Evolves
    (((x.evictTake n line d p).map Prod.snd).getD x) := by
    intro x line d p h
    cases hx : x.evictTake n line d p with
    | none => exact h
    | some y => exact h.evictTake hx
  unfold State.evictsKept
  dsimp only
  refine .foldl (.foldl h.rest fun _ _ h => take h) fun x e h => ?_
  split
  · exact take h
  · exact h

theorem State.Evolves.grantLost {z2 : HTxn} (h : s.Evolves t) : s.Evolves (t.grantLost z2).2 := by
  unfold State.grantLost
  exact .dropHtxn (.setSf (.ite h.poisonLine h))

theorem State.Evolves.sendGrant {z2 : HTxn} {g : Nat} {data : Bool} {holders : Nat}
    (h : s.Evolves t) : s.Evolves (t.sendGrant z2 g data holders) := by
  unfold State.sendGrant
  dsimp only
  exact .ite (.dropHtxn (.ite (.cohData (.ite h.combClose h)) (.cohAnswer (.ite h.combClose h))))
    (.ite (.putHtxn (.ite (.cohData (.ite h.combClose h)) (.cohAnswer (.ite h.combClose h))))
    (.ite (.reclaimMore (.grantLost (.putHtxn (.ite (.cohData (.ite h.combClose h)) (.cohAnswer (.ite h.combClose h))))))
    (.grantLost (.putHtxn (.ite (.cohData (.ite h.combClose h)) (.cohAnswer (.ite h.combClose h)))))))

theorem State.Evolves.sfAlloc {z2 : HTxn} (h : s.Evolves t) : s.Evolves (t.sfAlloc z2) := by
  unfold State.sfAlloc
  dsimp only
  split
  · exact h.sendGrant
  · split
    · exact h.putHtxn
    · exact h.putHtxn.count.openHtxn.snoopFor

theorem State.Evolves.cohTraceNow {r : HReq} (h : s.Evolves t) : s.Evolves (t.cohTraceNow r) := by
  unfold State.cohTraceNow
  dsimp only
  exact h.freeBelow.cohTrace

theorem State.Evolves.startI {r : HReq} (h : s.Evolves t) : s.Evolves (t.startI r) := by
  unfold State.startI
  dsimp only
  exact .ite h.openHtxn (.ite h.cohData.cohTraceNow (.ite h.writeInv.cohTraceNow (.ite h h.openHtxn.sfAlloc)))

theorem State.Evolves.startHreq {r : HReq} (h : s.Evolves t) : s.Evolves (t.startHreq r) := by
  unfold State.startHreq
  dsimp only
  split
  · exact h.startI
  · exact .ite h.cohData.cohTraceNow (.ite h (.ite (.ite h.openHtxn.snoopFor h.openHtxn.putHtxn)
      (.ite h.openHtxn.snoopFor (.ite (.ite h.openHtxn.snoopFor h.openHtxn.sendGrant)
      (.ite h.openHtxn.sendGrant (.ite h.openHtxn.snoopFor (.ite h.openHtxn.snoopFor h.openHtxn.snoopFor)))))))

theorem State.Evolves.askLine {r : HReq} (h : s.Evolves t) : s.Evolves (t.askLine r) := by
  unfold State.askLine
  exact .ite h.rest h.startHreq

theorem State.Evolves.wakeAlloc {line : Nat} (h : s.Evolves t) : s.Evolves (t.wakeAlloc line) := by
  unfold State.wakeAlloc
  split
  · exact h.sfAlloc
  · exact h

theorem State.Evolves.snoopsIn {z2 : HTxn} (h : s.Evolves t) : s.Evolves (t.snoopsIn z2) := by
  unfold State.snoopsIn
  exact .ite h.setSf.putHtxn.sfAlloc (.ite h.setSf.sendGrant (.ite h.setSf.sendGrant
    (.ite h.setSf.cohData.dropHtxn (.ite h.setSf.setSf.writeInv.dropHtxn
    (.ite h.setSf.dropHtxn (.ite h.setSf.putHtxn (.ite h.setSf.dropHtxn.wakeAlloc h.setSf.setSf.dropHtxn.wakeAlloc)))))))

theorem State.Evolves.snoopCheck {line : Nat} (h : s.Evolves t) : s.Evolves (t.snoopCheck line) := by
  unfold State.snoopCheck
  split
  · exact .ite h.snoopsIn h
  · exact h

theorem State.Evolves.lostAt {z2 : HTxn} {a : Nat} (h : s.Evolves t) : s.Evolves (t.lostAt z2 a).2 := by
  unfold State.lostAt
  exact .ite_snd (.snoopCheck (.putHtxn (.dropHolder (.ite h.poisonLine h)))) (.ite_snd h.grantLost h)

theorem State.Evolves.reclaimLines {a : Nat} {a1 : List Nat} (h : s.Evolves t) : s.Evolves (State.reclaimLines a a1 t).2.2 := by
  induction a1 generalizing t with
  | nil => exact h
  | cons x l ih =>
    unfold State.reclaimLines
    dsimp only
    split
    · exact .ite_snd_snd (.ite_snd_snd (ih (.ite h.setSf.poisonLine h.dropHolder))
        (ih (.ite h.setSf.poisonLine h.dropHolder))) (ih h)
    · exact ih h

theorem State.Evolves.grantApply {a : Nat} {z2 : HTxn} (h : s.Evolves t) : s.Evolves (t.grantApply a z2) := by
  unfold State.grantApply
  exact .ite h.rest.setSf.dropHtxn.setCc h.rest.setSf.dropHtxn

theorem State.Evolves.siteGrantAck {a line : Nat} (h : s.Evolves t) : s.Evolves (t.siteGrantAck a line) := by
  unfold State.siteGrantAck
  dsimp only
  split
  · exact .ite h.setLink.agentPacket.grantApply h.setLink
  · exact h.setLink

theorem State.Evolves.grantAcks (h : s.Evolves t) : s.Evolves t.grantAcks := by
  unfold State.grantAcks
  exact .foldl h fun _ _ h => .foldl h fun _ _ h => h.siteGrantAck

theorem State.Evolves.agentUp {a : Nat} {b : Bool} (h : s.Evolves t) : s.Evolves (t.agentUp a b) := by
  unfold State.agentUp
  exact h.rest.setF

theorem State.Evolves.finalDrop {a : Nat} (h : s.Evolves t) : s.Evolves (t.finalDrop a) := by
  unfold State.finalDrop
  exact h.rest

theorem State.Evolves.agentLost {a : Nat} (h : s.Evolves t) : s.Evolves (t.agentLost a) := by
  unfold State.agentLost
  dsimp only
  split
  · exact h
  · refine .rest ?_
    refine .finalDrop ?_
    refine .reclaimLines ?_
    refine .foldl_snd h.rest.agentUp.setF fun t a h => ?_
    split
    · exact .mk_snd h.lostAt
    · exact h

theorem State.Evolves.reclaimEnd {r : Nat × Nat × Nat} (h : s.Evolves t) : s.Evolves (t.reclaimEnd r) := by
  unfold State.reclaimEnd
  split <;> exact h.rest.count.count.flag.setF.raise

theorem State.Evolves.reclaimsEnd (h : s.Evolves t) : s.Evolves t.reclaimsEnd := by
  unfold State.reclaimsEnd
  exact .foldl h fun _ _ h => h.reclaimEnd

theorem State.Evolves.ccFatal (h : s.Evolves t) : s.Evolves t.ccFatal := by
  unfold State.ccFatal
  exact h.raise

theorem State.Evolves.recallAll {cmd a : Nat} {pick : Nat → SfEnt → Bool}
    (h : s.Evolves t) : s.Evolves (t.recallAll cmd a pick) := by
  unfold State.recallAll
  refine .foldl h fun t a h => ?_
  split
  · exact .ite h.askLine h
  · exact h

/-! ### The updates of SiteCore -/

theorem State.Evolves.siteCapSet {n : Nat} (h : s.Evolves t) : s.Evolves (t.siteCapSet n) := by
  unfold State.siteCapSet
  exact .ite h h.rest.capChanged

theorem State.Evolves.siteDegSet {n : Nat} (h : s.Evolves t) : s.Evolves (t.siteDegSet n) := by
  unfold State.siteDegSet
  exact h.setDeg

theorem State.Evolves.side {n code : Nat} {fields : List Nat} (h : s.Evolves t) : s.Evolves (t.side n code fields) := by
  unfold State.side
  split
  · exact h.emit
  · exact h

theorem State.Evolves.sideInit {n : Nat} (h : s.Evolves t) : s.Evolves (t.sideInit n) := by
  unfold State.sideInit
  exact h.setLink

theorem State.Evolves.setLive {n k : Nat} {r : UmRepair} (h : s.Evolves t) : s.Evolves (t.setLive n k r) := by
  unfold State.setLive
  exact h.setLink

theorem State.Evolves.setRepair {n k : Nat} {r : UmRepair} (h : s.Evolves t) : s.Evolves (t.setRepair n k r) := by
  unfold State.setRepair
  exact .ite h.rest h.rest.rest.flag

theorem State.Evolves.setWidth {n k w : Nat} (h : s.Evolves t) : s.Evolves (t.setWidth n k w) := by
  unfold State.setWidth
  exact h.setF.setDeg

theorem State.Evolves.linkCut {n : Nat} (h : s.Evolves t) : s.Evolves (t.linkCut n).2 := by
  unfold State.linkCut
  exact h.evictsKept.rest.setLink.setF.setF

theorem State.Evolves.badPkt {n : Nat} {tag : Option Nat} (h : s.Evolves t) : s.Evolves (t.badPkt n tag) := by
  unfold State.badPkt
  dsimp only
  split
  · exact h.count.flag.raiseLimited.siteSend
  · exact h.count.flag.raiseLimited

theorem State.Evolves.siteFence {n : Nat} (h : s.Evolves t) : s.Evolves (t.siteFence n) := by
  unfold State.siteFence
  exact h.setLink.beginFence

theorem State.Evolves.siteFailed {n cause : Nat} {report : Bool}
    (h : s.Evolves t) : s.Evolves (t.siteFailed n cause report) := by
  unfold State.siteFailed
  dsimp only
  exact .ite h (.ite (.ite h.flag.raise h) (.railsFollow (.siteCapSet
    (.mbReset (.fallowReport (.ite (.raise (.flag (.setLink (.setRefclk
    (.beginFence (.setUnit (.setF (.agentLost (.ite h.linkCut
    (.ite h.linkCut.flag.count.setF.raise h.linkCut.flag.count))))))))))
    (.flag (.setLink (.setRefclk (.beginFence (.setUnit (.setF
    (.agentLost (.ite h.linkCut (.ite h.linkCut.flag.count.setF.raise h.linkCut.flag.count)))))))))))))))

theorem State.Evolves.siteRecall {n : Nat} (h : s.Evolves t) : s.Evolves (t.siteRecall n) := by
  unfold State.siteRecall
  exact h.setLink.recallAll

theorem State.Evolves.siteRecalled {n : Nat} (h : s.Evolves t) : s.Evolves (t.siteRecalled n) := by
  unfold State.siteRecalled
  exact .ite h (.ite h.siteRecall (.fallowReport (.siteFence (.ite h.setLink.agentUp h.setLink))))

theorem State.Evolves.siteDrained {n : Nat} (h : s.Evolves t) : s.Evolves (t.siteDrained n) := by
  unfold State.siteDrained
  exact h.siteRecall.siteRecalled

theorem State.Evolves.linkDown {n cause : Nat} (h : s.Evolves t) : s.Evolves (t.linkDown n cause) := by
  unfold State.linkDown
  dsimp only
  exact .ite h (.ite (.siteFailed (.setLink (.siteCapSet (.mbReset
    (.raise (.ite h.linkCut.setF.agentLost.flag.setF.count.flag h.linkCut.setF.agentLost.flag.setF.count))))))
    (.ite (.siteDrained (.setLink (.siteCapSet (.mbReset (.raise
    (.ite h.linkCut.setF.agentLost.flag.setF.count.flag h.linkCut.setF.agentLost.flag.setF.count))))))
    (.setLink (.siteCapSet (.mbReset (.raise (.ite h.linkCut.setF.agentLost.flag.setF.count.flag
    h.linkCut.setF.agentLost.flag.setF.count)))))))

theorem State.Evolves.sitePower {n : Nat} (h : s.Evolves t) : s.Evolves (t.sitePower n) := by
  unfold State.sitePower
  exact h.setLink.setF

theorem State.Evolves.siteRelease {n : Nat} (h : s.Evolves t) : s.Evolves (t.siteRelease n) := by
  unfold State.siteRelease
  exact h.setLink.setF

theorem State.Evolves.siteReleaseDue {n : Nat} {due : Nat → Bool} (h : s.Evolves t) : s.Evolves (t.siteReleaseDue n due) := by
  unfold State.siteReleaseDue
  split
  · exact .ite h.siteRelease h
  · exact h

theorem State.Evolves.siteOff {n : Nat} (h : s.Evolves t) : s.Evolves (t.siteOff n) := by
  unfold State.siteOff
  exact h.setRefclk.fallowReport.setF.setLink.setF.setF.setUnit.mbReset.siteCapSet.fallowReport.railsFollow

theorem State.Evolves.replayOn {n k : Nat} (h : s.Evolves t) : s.Evolves (t.replayOn n k) := by
  unfold State.replayOn
  dsimp only
  exact .ite h (.ite (.raiseLimited (.setLink (.foldl_snd h fun _ _ h => .ite_snd h.deal.count h)))
    (.setLink (.foldl_snd h fun _ _ h => .ite_snd h.deal.count h)))

theorem State.Evolves.umFail {n k : Nat} (h : s.Evolves t) : s.Evolves (t.umFail n k) := by
  unfold State.umFail
  exact .ite h (.ite h.flag.raise (.ite h.replayOn.setLink.setWidth.setUnit.flag.raise.linkDown.siteFailed
    h.replayOn.setLink.setWidth.setUnit.flag.raise.siteCapSet.siteDegSet))

theorem State.Evolves.laneRepair {n k lane : Nat} {rx : Bool} (h : s.Evolves t) : s.Evolves (t.laneRepair n k lane rx) := by
  unfold State.laneRepair
  exact .ite h.setRepair (.ite h (.ite h.setRepair.umFail (.ite h.setRepair.replayOn.setLive.flag.raise
    h.setRepair.replayOn.setLive.setWidth.flag.siteCapSet.raise.siteDegSet)))

/-! ### The updates of MeshServe -/

theorem State.Evolves.updReq {port tag : Nat} {f : Req → Req} (h : s.Evolves t) : s.Evolves (t.updReq port tag f) := by
  unfold State.updReq
  exact h.rest

theorem State.Evolves.dropReq {port tag : Nat} (h : s.Evolves t) : s.Evolves (t.dropReq port tag) := by
  unfold State.dropReq
  exact h.rest

theorem State.Evolves.serveMem {r : Req} (h : s.Evolves t) : s.Evolves (t.serveMem r) := by
  unfold State.serveMem
  dsimp only
  split
  · exact h
  · exact .ite h.pageWrite.updReq h.pageRead.updReq

theorem State.Evolves.serveHeld {r : Req} (h : s.Evolves t) : s.Evolves (t.serveHeld r) := by
  unfold State.serveHeld
  split
  · exact h
  · exact .ite (.foldl h.serveMem fun _ _ h => h.dropHtxn) h

theorem State.Evolves.readParked {z2 : HTxn} (h : s.Evolves t) : s.Evolves (t.readParked z2) := by
  unfold State.readParked
  dsimp only
  exact .ite h.pageRead.rest.dropHtxn h

theorem State.Evolves.serveReady (h : s.Evolves t) : s.Evolves t.serveReady := by
  unfold State.serveReady
  exact .foldl (.foldl (.foldl h fun _ _ h => h.serveHeld) fun _ _ h => h.readParked) fun _ _ h => h.siteRecalled

theorem State.Evolves.atHome {r : Req} (h : s.Evolves t) : s.Evolves (t.atHome r) := by
  unfold State.atHome
  split
  · exact h
  · exact .ite h.serveMem (.ite (.serveMem (.ite (.foldl h fun _ _ h => h.combClose) h))
      (.serveHeld (.foldl (.updReq (.ite (.foldl h fun _ _ h => h.combClose) h)) fun _ _ h => h.askLine)))

theorem State.Evolves.atMemory {n : Nat} {r : Req} (h : s.Evolves t) : s.Evolves (t.atMemory n r) := by
  unfold State.atMemory
  exact .ite h (.ite h.tracker.updReq.atHome h.updReq)

theorem State.Evolves.atSite {n : Nat} {r : Req} (h : s.Evolves t) : s.Evolves (t.atSite n r) := by
  unfold State.atSite
  split
  · exact h.updReq
  · exact h.siteAsk

theorem State.Evolves.issueReq {r : Req} (h : s.Evolves t) : s.Evolves (t.issueReq r) := by
  unfold State.issueReq
  dsimp only
  split
  · exact h.setQport.updReq
  · split
    · split
      · exact h.setQport.updReq.observe.atMemory
      · exact h.setQport.updReq.observe
    · split
      · exact h.setQport.updReq.observe.atMemory
      · exact h.setQport.updReq.observe
    · exact h.setQport.updReq.observe.atSite
    · exact h.setQport.updReq.observe

theorem State.Evolves.reply {port tag id addr len : Nat} {write : Bool} {st : Nat} {data : Bytes} {poison : Nat} {urg cls : Nat}
    (h : s.Evolves t) : s.Evolves (t.reply port tag id addr len write st data poison urg cls) := by
  unfold State.reply
  dsimp only
  exact .ite h.siteSend h.emit

theorem State.Evolves.refuseReq {r : MeshReq} {port : Nat} {write : Bool} {st : Nat}
    (h : s.Evolves t) : s.Evolves (t.refuseReq r port write st) := by
  unfold State.refuseReq
  exact h.reply

theorem State.Evolves.present? {m : MeshReq} {write : Bool} {data : Bytes} {poison : Nat} {errs : List LineErr}
    (h : s.Evolves t) : s.Evolves (t.present? m write data poison errs).1 := by
  unfold State.present?
  dsimp only
  split
  · exact h
  · refine .ite_fst (.mk_fst h.badPkt) (.ite_fst (.mk_fst h) (.ite_fst (.mk_fst h.refuseReq)
      (.ite_fst (.mk_fst h.unmappedAt.refuseReq) ?_)))
    split
    · exact .mk_fst h.refuseReq
    · exact .ite_fst (.mk_fst h.refuseReq) (.mk_fst h.rest)

theorem State.Evolves.idleClass {port c : Nat} (h : s.Evolves t) : s.Evolves (t.idleClass port c) := by
  unfold State.idleClass
  exact .ite h h.setQport

theorem State.Evolves.runAnswer {x : RunRef} {pa st : Nat} (h : s.Evolves t) : s.Evolves (t.runAnswer x pa st) := by
  unfold State.runAnswer
  split
  · exact h
  · split <;> exact .ite h.laneStop h.updRun

theorem State.Evolves.respond {r : Req} (h : s.Evolves t) : s.Evolves (t.respond r) := by
  unfold State.respond
  dsimp only
  split
  · refine .count ?_
    refine .observe ?_
    refine .dropReq ?_
    split
    · exact .ite h.tracker h
    · exact h
  · split
    · refine .runAnswer ?_
      refine .glnLatency ?_
      refine .idleClass ?_
      refine .setQport ?_
      refine .observe ?_
      refine .dropReq ?_
      split
      · exact .ite h.tracker h
      · exact h
    · split
      · refine .glnLatency ?_
        refine .idleClass ?_
        refine .setQport ?_
        refine .observe ?_
        refine .dropReq ?_
        split
        · exact .ite h.tracker h
        · exact h
      · refine .reply ?_
        refine .glnLatency ?_
        refine .idleClass ?_
        refine .setQport ?_
        refine .observe ?_
        refine .dropReq ?_
        split
        · exact .ite h.tracker h
        · exact h

theorem State.Evolves.response {port tag : Nat} {write : Bool} {site : Bytes}
    (h : s.Evolves t) : s.Evolves (t.response port tag write site) := by
  unfold State.response
  split
  · exact h
  · split
    · exact h
    · split
      · exact h.chanFor.respond
      · split
        · exact .ite h.respond h
        · exact h

theorem State.Evolves.updHreqs {f : HReq → HReq} (h : s.Evolves t) : s.Evolves (t.updHreqs f) := by
  unfold State.updHreqs
  exact h.rest

theorem State.Evolves.hreqFails {r : HReq} {st : Nat} {lost : Bool} (h : s.Evolves t) : s.Evolves (t.hreqFails r st lost) := by
  unfold State.hreqFails
  exact h.updHreqs.cohRefuse

theorem State.Evolves.hreqTimeout {port tag : Nat} (h : s.Evolves t) : s.Evolves (t.hreqTimeout port tag) := by
  unfold State.hreqTimeout
  split
  · exact h.hreqFails.timedOut.idleClass
  · exact h

theorem State.Leads.execMeshTimeout {port tag : Nat} (h : s.Evolves t) : s.Leads (execMeshTimeout port tag t) := by
  unfold Machine.execMeshTimeout
  dsimp only
  split
  · exact .next h.hreqTimeout
  · split
    · exact .next h
    · refine .next ?_
      split
      · exact h.updReq.timedOut.idleClass.runAnswer
      · exact .ite h.updReq.timedOut.idleClass h.updReq.timedOut.idleClass.reply

theorem State.Leads.execDataResponse {port tag : Nat} {site : Bytes}
    (h : s.Evolves t) : s.Leads (execDataResponse port tag site t) := by
  unfold Machine.execDataResponse
  exact .next h.response

theorem State.Leads.execCompletionResponse {port tag : Nat} (h : s.Evolves t) : s.Leads (execCompletionResponse port tag t) := by
  unfold Machine.execCompletionResponse
  exact .next h.response

theorem State.Leads.execUrgencyAge {port tag : Nat} (h : s.Evolves t) : s.Leads (execUrgencyAge port tag t) := by
  unfold Machine.execUrgencyAge
  split
  · exact .next (.ite h h.updReq)
  · exact .next h.rest

theorem State.Evolves.protoErr {a line msg : Nat} (h : s.Evolves t) : s.Evolves (t.protoErr a line msg) := by
  unfold State.protoErr
  exact .ite h.setF.setF.setF.setF.flag.raise.linkDown.agentLost.serveReady h.setF.setF.setF.setF.flag.ccFatal

theorem State.Evolves.acceptHreq {r : HReq} (h : s.Evolves t) : s.Evolves (t.acceptHreq r) := by
  unfold State.acceptHreq
  exact .ite h.protoErr (.askLine (.ite h.combClose h))

theorem State.Leads.execTrackerGrant {n : Nat} (h : s.Evolves t) : s.Leads (execTrackerGrant n t) := by
  unfold Machine.execTrackerGrant
  dsimp only
  split
  · exact .next h.setMsite.updReq.tracker.atHome
  · exact .next h.setMsite.rest.acceptHreq.serveReady
  · exact .next h

theorem State.Evolves.portMisses {p : Nat} (h : s.Evolves t) : s.Evolves (t.portMisses p) := by
  unfold State.portMisses
  exact .foldl h fun _ _ h => .ite (.raiseLimited (.ite h.count.count.setF.emit h.count.count.setF)) h

theorem State.Evolves.portWindow {p : Nat} (h : s.Evolves t) : s.Evolves (t.portWindow p) := by
  unfold State.portWindow
  exact h.setQport

/-! ### The updates of Coherence -/

theorem State.Evolves.refuseCount {a addr st : Nat} (h : s.Evolves t) : s.Evolves (t.refuseCount a addr st) := by
  unfold State.refuseCount
  dsimp only
  split
  · exact h.unmappedAt
  · split
    · split
      · exact h.count
      · exact h
    · exact h

theorem State.Evolves.ccAsk {a line cmd : Nat} (h : s.Evolves t) : s.Evolves (t.ccAsk a line cmd) := by
  unfold State.ccAsk
  exact .ite h (.ite h.setCc (.ite h.setCc (.ite h.setCc (.ite h.setCc (.ite h.setCc (.ite h.setCc h))))))

theorem State.Evolves.agentReq {a cmd addr line : Nat} {data : Bytes} {poison : Bool} {ref : Option Nat}
    (h : s.Evolves t) : s.Evolves (t.agentReq a cmd addr line data poison ref).2 := by
  unfold State.agentReq
  dsimp only
  exact h.agentPacket.ccAsk

theorem State.Evolves.cohReq {a cmd addr : Nat} {data : Bytes} {poison : Bool} {ref : Option Nat}
    (h : s.Evolves t) : s.Evolves (t.cohReq a cmd addr data poison ref) := by
  unfold State.cohReq
  dsimp only
  split
  · exact h
  · split
    · exact h.refuseCount.cohRefuse
    · exact .ite h (.ite h.agentReq.acceptHreq h.agentReq.rest)

theorem State.Leads.execRdShared {a addr : Nat} (h : s.Evolves t) : s.Leads (execRdShared a addr t) := by
  unfold Machine.execRdShared
  exact .next h.cohReq

theorem State.Leads.execRdAny {a addr : Nat} (h : s.Evolves t) : s.Leads (execRdAny a addr t) := by
  unfold Machine.execRdAny
  exact .next h.cohReq

theorem State.Leads.execRdOwn {a addr : Nat} (h : s.Evolves t) : s.Leads (execRdOwn a addr t) := by
  unfold Machine.execRdOwn
  exact .next h.cohReq

theorem State.Leads.execRdOwnNodata {a addr : Nat} (h : s.Evolves t) : s.Leads (execRdOwnNodata a addr t) := by
  unfold Machine.execRdOwnNodata
  exact .next h.cohReq

theorem State.Leads.execRdCurr {a addr : Nat} (h : s.Evolves t) : s.Leads (execRdCurr a addr t) := by
  unfold Machine.execRdCurr
  exact .next h.cohReq

theorem State.Leads.execWrInv {a addr : Nat} {data : Bytes} {poison : Bool}
    (h : s.Evolves t) : s.Leads (execWrInv a addr data poison t) := by
  unfold Machine.execWrInv
  exact .next h.cohReq

theorem State.Leads.execHomeTransactionStart {line : Nat} (h : s.Evolves t) : s.Leads (execHomeTransactionStart line t) := by
  unfold Machine.execHomeTransactionStart
  split
  · exact .next h
  · split
    · exact .ite (.next h) (.ite (.next h.rest.protoErr) (.next h.rest.startHreq.serveReady))
    · exact .next h

theorem State.Leads.execSfAllocRetry {line : Nat} (h : s.Evolves t) : s.Leads (execSfAllocRetry line t) := by
  unfold Machine.execSfAllocRetry
  split
  · exact .ite (.next h) (.next h.count.sfAlloc.serveReady)
  · exact .next h

theorem State.Evolves.evictAck {a line ref : Nat} {quiet : Bool} {st : Nat}
    (h : s.Evolves t) : s.Evolves (t.evictAck a line ref quiet st) := by
  unfold State.evictAck
  exact .ite h.cohSend.setCc h.cohSend

theorem State.Evolves.staleEvict {line : Nat} (h : s.Evolves t) : s.Evolves (t.staleEvict line) := by
  unfold State.staleEvict
  exact h.count

theorem State.Evolves.evictCleanAt {a line ref : Nat} (h : s.Evolves t) : s.Evolves (t.evictCleanAt a line ref) := by
  unfold State.evictCleanAt
  exact .evictAck (.ite h.unhold h.staleEvict)

theorem State.Evolves.evictDirtyAt {a line : Nat} {data : Bytes} {poison : Bool} {ref : Nat} {quiet : Bool}
    (h : s.Evolves t) : s.Evolves (t.evictDirtyAt a line data poison ref quiet) := by
  unfold State.evictDirtyAt
  split
  · exact h.protoErr
  next st s1 hu =>
    have ha : s.Evolves (s1.evictAck a line ref quiet st) := (h.evictTake hu).evictAck
    split
    · exact .ite ha.snoopCheck.serveReady ha
    · exact ha

theorem State.Evolves.evictBuf {w : EvWait} (h : s.Evolves t) : s.Evolves (t.evictBuf w) := by
  unfold State.evictBuf
  exact .ite h.rest h.rest.evictDirtyAt

theorem State.Evolves.evictsIn (h : s.Evolves t) : s.Evolves t.evictsIn := by
  unfold State.evictsIn
  exact .foldl h.rest fun _ _ h => h.evictBuf

theorem State.Evolves.evictClean {a addr : Nat} {ref : Option Nat} (h : s.Evolves t) : s.Evolves (t.evictClean a addr ref) := by
  unfold State.evictClean
  dsimp only
  split
  · exact h
  · split
    · exact h.refuseCount.cohRefuse
    · exact .ite h h.agentPacket.ccAsk.evictCleanAt

theorem State.Evolves.evictDirty {a addr : Nat} {data : Bytes} {poison : Bool} {ref : Option Nat} {quiet : Bool}
    (h : s.Evolves t) : s.Evolves (t.evictDirty a addr data poison ref quiet) := by
  unfold State.evictDirty
  dsimp only
  split
  · exact h
  · split
    · exact .ite h.refuseCount h.refuseCount.cohRefuse
    · exact .ite h h.agentPacket.ccAsk.evictBuf

theorem State.Leads.execEvictClean {a addr : Nat} (h : s.Evolves t) : s.Leads (execEvictClean a addr t) := by
  unfold Machine.execEvictClean
  exact .next h.evictClean

theorem State.Leads.execEvictDirty {a addr : Nat} {data : Bytes} {poison : Bool}
    (h : s.Evolves t) : s.Leads (execEvictDirty a addr data poison t) := by
  unfold Machine.execEvictDirty
  exact .next h.evictDirty

theorem State.Evolves.grantAckAt {a line : Nat} (h : s.Evolves t) : s.Evolves (t.grantAckAt a line) := by
  unfold State.grantAckAt
  split
  · exact .ite h.grantApply h.protoErr
  · exact h.protoErr

theorem State.Leads.execGrantAck {a addr : Nat} (h : s.Evolves t) : s.Leads (execGrantAck a addr t) := by
  unfold Machine.execGrantAck
  dsimp only
  split
  · exact .next h
  · split
    · exact .next h.refuseCount.cohRefuse
    · exact .ite (.next h) (.ite (.next h) (.next (.serveReady (.grantAckAt (.ite h.agentPacket.setLink h.agentPacket)))))

theorem State.Evolves.snoopResp {a line txn k msg : Nat} {dirty : Option Bytes} {bad : Bool}
    (h : s.Evolves t) : s.Evolves (t.snoopResp a line txn k msg dirty bad) := by
  unfold State.snoopResp
  dsimp only
  split
  · exact h
  · split
    · split
      · refine .serveReady ?_
        refine .snoopCheck ?_
        refine .putHtxn ?_
        split
        · exact .ite h h.memWrite
        · exact h
      · exact h.protoErr
    · exact h.protoErr

theorem State.Leads.execRspI {a line txn : Nat} {dirty : Option Bytes}
    (h : s.Evolves t) : s.Leads (execRspI a line txn dirty t) := by
  unfold Machine.execRspI
  exact .next h.snoopResp

theorem State.Leads.execRspS {a line txn : Nat} {dirty : Option Bytes}
    (h : s.Evolves t) : s.Leads (execRspS a line txn dirty t) := by
  unfold Machine.execRspS
  exact .next h.snoopResp

theorem State.Leads.execRspE {a line txn : Nat} {dirty : Option Bytes}
    (h : s.Evolves t) : s.Leads (execRspE a line txn dirty t) := by
  unfold Machine.execRspE
  exact .next h.snoopResp

theorem State.Leads.execRspIWbp {a line txn : Nat} (h : s.Evolves t) : s.Leads (execRspIWbp a line txn t) := by
  unfold Machine.execRspIWbp
  split
  · exact .next h
  · split
    · exact .ite (.next (.serveReady (.snoopCheck (.ite h.putHtxn.count h.putHtxn)))) (.next h.protoErr)
    · exact .next h.protoErr

theorem State.Leads.execRspLost {a line txn : Nat} (h : s.Evolves t) : s.Leads (execRspLost a line txn t) := by
  unfold Machine.execRspLost
  split
  · exact .next h
  · split
    · exact .ite (.next h.lostAt.serveReady) (.next h.protoErr)
    · exact .next h.protoErr

theorem State.Leads.execSnoopTimeout {line : Nat} (h : s.Evolves t) : s.Leads (execSnoopTimeout line t) := by
  unfold Machine.execSnoopTimeout
  dsimp only
  split
  · exact .next h
  · split
    · split
      · exact .next h
      · refine .next ?_
        refine .serveReady ?_
        refine .foldl h.flag fun t a h => ?_
        split
        · exact h.linkDown.agentLost
        · split
          · split
            · exact h.lostAt
            · exact h
          · split
            · exact h.ccFatal.lostAt
            · exact h
    · split
      · split
        · exact .next h
        · refine .next ?_
          refine .serveReady ?_
          refine .foldl h.flag fun t a h => ?_
          split
          · exact h.linkDown.agentLost
          · split
            · split
              · exact h.lostAt
              · exact h
            · split
              · exact h.ccFatal.lostAt
              · exact h
      · split
        · exact .next h
        · refine .next ?_
          refine .serveReady ?_
          refine .foldl h.flag fun t a h => ?_
          split
          · exact h.linkDown.agentLost
          · split
            · split
              · exact h.lostAt
              · exact h
            · split
              · exact h.ccFatal.lostAt
              · exact h

theorem State.Evolves.snoopAt {a line txn snp : Nat} (h : s.Evolves t) : s.Evolves (t.snoopAt a line txn snp) := by
  unfold State.snoopAt
  split
  · split
    · split
      · exact h.rest.setCc.emit
      · exact h
    · exact .ite h.siteSend h
  · exact h

theorem State.Leads.execSnpInv {a line txn : Nat} (h : s.Evolves t) : s.Leads (execSnpInv a line txn t) := by
  unfold Machine.execSnpInv
  exact .next h.snoopAt

theorem State.Leads.execSnpData {a line txn : Nat} (h : s.Evolves t) : s.Leads (execSnpData a line txn t) := by
  unfold Machine.execSnpData
  exact .next h.snoopAt

theorem State.Leads.execSnpCur {a line txn : Nat} (h : s.Evolves t) : s.Leads (execSnpCur a line txn t) := by
  unfold Machine.execSnpCur
  exact .next h.snoopAt

theorem State.Leads.execCohRingReplay {ring : Nat} (h : s.Evolves t) : s.Leads (execCohRingReplay ring t) := by
  unfold Machine.execCohRingReplay
  exact .next h.flag.raiseLimited

theorem State.Leads.execCohRingFatal {ring : Nat} (h : s.Evolves t) : s.Leads (execCohRingFatal ring t) := by
  unfold Machine.execCohRingFatal
  exact .next h.rest.raise

theorem State.Leads.execCohSfFatal {n : Nat} {uncorrectable : Bool}
    (h : s.Evolves t) : s.Leads (execCohSfFatal n uncorrectable t) := by
  unfold Machine.execCohSfFatal
  exact .ite (.next h.raise) (.next h.flag.count.raise)

theorem State.Evolves.dropPlane {plane : Nat} (h : s.Evolves t) : s.Evolves (t.dropPlane plane) := by
  unfold State.dropPlane
  exact .rest (.foldl h.rest fun _ _ h => h.hreqFails)

theorem State.Evolves.routerFatal {mask : Nat} (h : s.Evolves t) : s.Evolves (t.routerFatal mask) := by
  unfold State.routerFatal
  exact h.rest.raise

theorem State.Evolves.planeFail {plane : Nat} (h : s.Evolves t) : s.Evolves (t.planeFail plane) := by
  unfold State.planeFail
  exact .ite h.raise (.ite h (.ite h.routerFatal h.dropPlane.setUnit.flag.raise.capChanged))

theorem State.Leads.execMeshLinkRetry {plane link : Nat} {again : Bool}
    (h : s.Evolves t) : s.Leads (execMeshLinkRetry plane link again t) := by
  unfold Machine.execMeshLinkRetry
  exact .ite (.next h) (.next (.ite h.count.flag.raiseLimited.rest.planeFail h.count.flag.raiseLimited.rest))

theorem State.Leads.execMeshPlaneFail {plane : Nat} (h : s.Evolves t) : s.Leads (execMeshPlaneFail plane t) := by
  unfold Machine.execMeshPlaneFail
  exact .next h.planeFail

theorem State.Evolves.losePacket {port tag : Nat} (h : s.Evolves t) : s.Evolves (t.losePacket port tag) := by
  unfold State.losePacket
  exact h.rest.updHreqs

theorem State.Leads.execMeshRouterFatal {planes : Nat} {packet : Option (Nat × Nat)}
    (h : s.Evolves t) : s.Leads (execMeshRouterFatal planes packet t) := by
  unfold Machine.execMeshRouterFatal
  refine .next ?_
  split
  · exact h.routerFatal
  · exact h.losePacket.routerFatal

/-! ### The updates of Sites -/

theorem State.Evolves.wakeDom {d : Nat} (h : s.Evolves t) : s.Evolves (t.wakeDom d) := by
  unfold State.wakeDom
  exact .ite h h.setDom.setF

theorem State.Evolves.siteDrainStart {n : Nat} (h : s.Evolves t) : s.Evolves (t.siteDrainStart n) := by
  unfold State.siteDrainStart
  exact .ite h.siteDrained (.setF (.ite h.siteSend h.side))

theorem State.Evolves.siteFallow {seq action n : Nat} (h : s.Evolves t) : s.Evolves (t.siteFallow seq action n).2 := by
  unfold State.siteFallow
  exact .ite_snd h.fallowResult (.ite_snd h.fallowResult (.ite_snd h.fallowResult
    (.ite_snd h.fallowResult (.ite_snd h.fallowResult (.ite_snd h.fallowResult.siteDrainStart
    (.ite_snd h.fallowResult h.fallowResult.wakeDom.setRefclk.setLink.sitePower.railsFollow))))))

theorem State.Evolves.fallowReq {seq action cls unit : Nat} (h : s.Evolves t) : s.Evolves (t.fallowReq seq action cls unit).2 := by
  unfold State.fallowReq
  exact .ite_snd h.engFallow h.siteFallow

theorem State.Leads.execSiteDrainDone {n : Nat} (h : s.Evolves t) : s.Leads (execSiteDrainDone n t) := by
  unfold Machine.execSiteDrainDone
  exact .next (.ite h.siteDrained h)

theorem State.Leads.execSiteDrainLimitExpiry {n : Nat} (h : s.Evolves t) : s.Leads (execSiteDrainLimitExpiry n t) := by
  unfold Machine.execSiteDrainLimitExpiry
  exact .next (.ite h.siteDrained h)

theorem State.Leads.execFenceComplete {port : Nat} (h : s.Evolves t) : s.Leads (execFenceComplete port t) := by
  unfold Machine.execFenceComplete
  exact .ite (.next h) (.ite (.next (.ite h.setFence.engineOff (.ite h.setFence.stopDom.railsFollow h.setFence)))
    (.ite (.next (.ite h.setFence.siteOff h.setFence)) (.next h.setFence)))

theorem State.Evolves.siteTrainFail {n : Nat} (h : s.Evolves t) : s.Evolves (t.siteTrainFail n) := by
  unfold State.siteTrainFail
  dsimp only
  exact h.freeBelow.siteFailed

theorem State.Evolves.paramOut {n : Nat} (h : s.Evolves t) : s.Evolves (t.paramOut n) := by
  unfold State.paramOut
  exact h.side.side

theorem State.Leads.execSiteTraining {n : Nat} {p : SiteParam} (h : s.Evolves t) : s.Leads (execSiteTraining n p t) := by
  unfold Machine.execSiteTraining
  exact .ite (.next h) (.ite (.ite (.next h.siteReleaseDue.sideInit.paramOut.siteTrainFail)
    (.next h.siteReleaseDue.sideInit.paramOut.setLink.setF)) (.next
    (.setF (.setF (.setLink (.foldl h.siteReleaseDue.sideInit.paramOut.setF.setF.setF.setF fun _ _ h => .ite h.setRepair h))))))

theorem State.Evolves.umIn {n k : Nat} {r : UmRepair} (h : s.Evolves t) : s.Evolves (t.umIn n k r) := by
  unfold State.umIn
  exact .ite h.setWidth.setLive.flag.raise h.setWidth.setLive

theorem State.Leads.execSiteLinkUp {n rate trained : Nat} (h : s.Evolves t) : s.Leads (execSiteLinkUp n rate trained t) := by
  unfold Machine.execSiteLinkUp
  exact .ite (.next h) (.ite (.next (.ite (.siteTrainFail (.foldl h fun _ _ h => h.reclaimEnd))
    (.setLink (.foldl h fun _ _ h => h.reclaimEnd)))) (.next (.ite
    (.fallowReport (.raise (.siteDegSet (.siteCapSet (.ite (.setFence
    (.setUnit (.agentUp (.setLink (.setF (.foldl (.setF (.foldl h fun _ _ h => h.reclaimEnd)) fun _ _ h => .ite h.umIn
    (.ite h h.umFail))))))) (.agentUp (.setLink (.setF (.foldl (.setF (.foldl h fun _ _ h => h.reclaimEnd)) fun _ _ h =>
    .ite h.umIn (.ite h h.umFail)))))))))) (.raise (.siteDegSet
    (.siteCapSet (.ite (.setFence (.setUnit (.agentUp (.setLink
    (.setF (.foldl (.setF (.foldl h fun _ _ h => h.reclaimEnd)) fun _ _ h => .ite h.umIn (.ite h h.umFail)))))))
    (.agentUp (.setLink (.setF (.foldl (.setF (.foldl h fun _ _ h => h.reclaimEnd)) fun _ _ h => .ite h.umIn
    (.ite h h.umFail))))))))))))

theorem State.Leads.execResetNotice {n : Nat} (h : s.Evolves t) : s.Leads (execResetNotice n t) := by
  unfold Machine.execResetNotice
  exact .next h.linkDown

theorem State.Leads.execSiteLinkDown {n cause : Nat} (h : s.Evolves t) : s.Leads (execSiteLinkDown n cause t) := by
  unfold Machine.execSiteLinkDown
  exact .next (.ite h h.linkDown)

theorem State.Leads.execCreditStall {n : Nat} (h : s.Evolves t) : s.Leads (execCreditStall n t) := by
  unfold Machine.execCreditStall
  exact .next (.ite h.linkDown h)

theorem State.Leads.execSiteLaneRepair {n k lane : Nat} {rx : Bool}
    (h : s.Evolves t) : s.Leads (execSiteLaneRepair n k lane rx t) := by
  unfold Machine.execSiteLaneRepair
  exact .next (.ite h.laneRepair h)

theorem State.Leads.execSiteUmFail {n k : Nat} (h : s.Evolves t) : s.Leads (execSiteUmFail n k t) := by
  unfold Machine.execSiteUmFail
  exact .next (.ite h.umFail h)

theorem State.Leads.execSiteFail {n cause : Nat} (h : s.Evolves t) : s.Leads (execSiteFail n cause t) := by
  unfold Machine.execSiteFail
  exact .next (.ite h h.siteFailed)

theorem State.Evolves.chipletReset {n : Nat} (h : s.Evolves t) : s.Evolves (t.chipletReset n) := by
  unfold State.chipletReset
  exact .ite h.linkDown h.linkDown.setLink.setF

theorem State.Evolves.siteRetrain {n : Nat} (h : s.Evolves t) : s.Evolves (t.siteRetrain n) := by
  unfold State.siteRetrain
  exact .ite h.linkDown (.ite h.setLink.setF h)

theorem State.Evolves.siteCtl {n retest reset retrain : Nat}
    (h : s.Evolves t) : s.Evolves (t.siteCtl n retest reset retrain).2 := by
  unfold State.siteCtl
  exact .ite (.siteRetrain (.ite h.setLink.chipletReset h.setLink)) (.ite h.setLink.chipletReset h.setLink)

theorem State.Leads.execChipletResetRelease {n : Nat} (h : s.Evolves t) : s.Leads (execChipletResetRelease n t) := by
  unfold Machine.execChipletResetRelease
  exact .next (.ite h.siteRelease h)

/-! ### The updates of Boot -/

theorem State.Evolves.voteLc (h : s.Evolves t) : s.Evolves t.voteLc := by
  unfold State.voteLc
  dsimp only
  exact .ite h.rest h.rest

theorem State.Evolves.deriveId (h : s.Evolves t) : s.Evolves t.deriveId := by
  unfold State.deriveId
  exact .ite h.rest h

theorem State.Evolves.retire {c : UCls} {n : Nat} (h : s.Evolves t) : s.Evolves (t.retire c n) := by
  unfold State.retire
  exact .ite (h.putUnit (v := { st := some .retired }) fun _ hd => absurd hd Bool.false_ne_true).railsFollow h

theorem State.Evolves.retireFuses (h : s.Evolves t) : s.Evolves t.retireFuses := by
  unfold State.retireFuses
  dsimp only
  split
  · refine .foldl h fun t a h => ?_
    split
    · exact .ite h.retire h
    · exact h
  · exact h

theorem State.Evolves.bootDom {d : Nat} (h : s.Evolves t) : s.Evolves (t.bootDom d) := by
  unfold State.bootDom
  exact h.setDom.setF.setF.setF

theorem State.Evolves.applyStraps (h : s.Evolves t) : s.Evolves t.applyStraps := by
  unfold State.applyStraps
  exact h.setF.setF.setF.rest

theorem State.Evolves.ethTrain (h : s.Evolves t) : s.Evolves t.ethTrain := by
  unfold State.ethTrain
  exact h.setF

theorem State.Evolves.bringUp (h : s.Evolves t) : s.Evolves t.bringUp := by
  unfold State.bringUp
  exact .ethTrain (.ite (.foldl h.voteLc.deriveId.retireFuses fun _ _ h => h.bootDom)
    (.agentUp (.foldl h.voteLc.deriveId.retireFuses fun _ _ h => h.bootDom)))

theorem State.Evolves.wholeReset {cause : Nat} (h : s.Evolves t) : s.Evolves (t.wholeReset cause) := by
  have hr : ∀ {u : State}, u.pending = t.pending → u.flds = [] → u.units = [] → u.mem = {} → u.now = t.now → u.Drained →
      s.Evolves u := fun hp hf hu hm hn hd =>
    h.trans ⟨⟨hp, fun _ => ⟨hm ▸ rfl, hf ▸ rfl⟩, fun _ c n hd => by
      rw [State.unit, hu] at hd
      cases hd⟩, hn, fun _ => hd⟩
  unfold State.wholeReset
  dsimp only
  refine .railsFollow (.foldl (.applyStraps (.setF (.setF ?_))) fun _ _ h => h.emit)
  exact hr rfl rfl rfl rfl rfl ⟨rfl, rfl⟩

theorem State.Evolves.blowCopy {k mask : Nat} (h : s.Evolves t) : s.Evolves (t.blowCopy k mask) := by
  unfold State.blowCopy
  exact h.rest

theorem State.Evolves.blowSecret {b : Bytes} (h : s.Evolves t) : s.Evolves (t.blowSecret b) := by
  unfold State.blowSecret
  exact h.rest

theorem State.Evolves.blowLcStep {z2 : Nat} (h : s.Evolves t) : s.Evolves (t.blowLcStep z2) := by
  unfold State.blowLcStep
  exact .rest (.ite h.blowCopy (.ite h.rest.blowSecret (.ite h.rest h)))

theorem State.Evolves.blowLc (h : s.Evolves t) : s.Evolves t.blowLc := by
  unfold State.blowLc
  split
  · exact .foldl h fun _ _ h => h.blowLcStep
  · exact h

theorem State.Evolves.lcTick (h : s.Evolves t) : s.Evolves t.lcTick := by
  unfold State.lcTick
  split
  · exact h
  · split
    · exact h.blowLcStep
    · exact h

theorem State.Evolves.blowLcCut (h : s.Evolves t) : s.Evolves t.blowLcCut := by
  unfold State.blowLcCut
  split
  · exact h
  · exact .rest (.ite h.rest.blowCopy (.ite h.rest.blowSecret h.rest))

theorem State.Leads.execPorstNLow {ns : Nat} (h : s.Evolves t) : s.Leads (execPorstNLow ns t) := by
  unfold Machine.execPorstNLow
  exact .next (.ite h h.blowLcCut.wholeReset)

theorem State.Leads.execPorstNRelease {strapEth : Nat} (h : s.Evolves t) : s.Leads (execPorstNRelease strapEth t) := by
  unfold Machine.execPorstNRelease
  exact .ite (.next h) (.next h.rest.applyStraps.bringUp)

theorem State.Leads.execWholeReset (h : s.Evolves t) : s.Leads (execWholeReset t) := by
  unfold Machine.execWholeReset
  split
  · exact .next h.blowLc.wholeReset.bringUp
  · exact .next h

theorem State.Evolves.scheduleReset {cause : Nat} (h : s.Evolves t) : s.Evolves (t.scheduleReset cause) := by
  unfold State.scheduleReset
  split
  · exact h
  · exact h.rest

theorem State.Evolves.glbResetReq {go : Nat} (h : s.Evolves t) : s.Evolves (t.glbResetReq go).2 := by
  unfold State.glbResetReq
  exact .mk_snd (.ite h.scheduleReset h)

theorem State.Evolves.clkDomCfg {d freq en : Nat} (h : s.Evolves t) : s.Evolves (t.clkDomCfg d freq en).2 := by
  unfold State.clkDomCfg
  exact .ite_snd h (.ite_snd h (.ite h.setF.setF.setF h.setF.setF))

theorem State.Leads.execPllLock {d : Nat} (h : s.Evolves t) : s.Leads (execPllLock d t) := by
  unfold Machine.execPllLock
  exact .ite (.next h) (.next h.setF.setF)

theorem State.Evolves.clkResult {seq phase code : Nat} (h : s.Evolves t) : s.Evolves (t.clkResult seq phase code) := by
  unfold State.clkResult
  exact h.setF.setF.setF

theorem State.Evolves.memReleased {n : Nat} (h : s.Evolves t) : s.Evolves (t.memReleased n) := by
  unfold State.memReleased
  exact h.setMsite.setF.emit

theorem State.Evolves.siteqReleased {d : Nat} (h : s.Evolves t) : s.Evolves (t.siteqReleased d) := by
  unfold State.siteqReleased
  exact .foldl h fun _ _ h => .ite h h.setRefclk

theorem State.Evolves.clkRelease {seq d : Nat} (h : s.Evolves t) : s.Evolves (t.clkRelease seq d).2 := by
  unfold State.clkRelease
  exact .ite_snd h.clkResult (.ite_snd h (.ite_snd h.clkResult
    (.ite_snd h.clkResult (.ite_snd h.clkResult (.ite_snd h.clkResult
    (.clkResult (.rest (.ite (.memReleased (.setF (.setDom (.ite h.putStep.stepVolt h))))
    (.ite (.siteqReleased (.setF (.setDom (.ite h.putStep.stepVolt h)))) (.setF (.setDom (.ite h.putStep.stepVolt h))))))))))))

theorem State.Evolves.testFailed {d : Nat} (h : s.Evolves t) : s.Evolves (t.testFailed d) := by
  unfold State.testFailed
  exact .ite h.engineFault (.ite h.setUnit (.foldl h fun _ _ h => h.siteTrainFail))

theorem State.Leads.execStartupTestDone {d : Nat} {r : TestFound} (h : s.Evolves t) : s.Leads (execStartupTestDone d r t) := by
  unfold Machine.execStartupTestDone
  exact .ite (.next h) (.next (.ite (.testFailed (.ite (.clkResult
    (.rest (.ite (.restMem (.ite h.setF.setF.sparesUsed h.setF.setF)) (.ite h.setF.setF.sparesUsed h.setF.setF))))
    (.ite (.restMem (.ite h.setF.setF.sparesUsed h.setF.setF)) (.ite h.setF.setF.sparesUsed h.setF.setF))))
    (.ite (.clkResult (.rest (.ite (.restMem (.ite h.setF.setF.sparesUsed h.setF.setF))
    (.ite h.setF.setF.sparesUsed h.setF.setF)))) (.ite (.restMem (.ite h.setF.setF.sparesUsed h.setF.setF))
    (.ite h.setF.setF.sparesUsed h.setF.setF)))))

theorem State.Evolves.stopDoms {l : List Nat} (h : s.Evolves t) : s.Evolves (t.stopDoms l) := by
  unfold State.stopDoms
  exact .foldl h fun _ _ h => .ite h.setDom.emit h.setDom

theorem State.Leads.execClkRefLost (h : s.Evolves t) : s.Leads (execClkRefLost t) := by
  unfold Machine.execClkRefLost
  exact .ite (.next h) (.next (.rest (.foldl h.blowLcCut.raise.stopDoms.sheafStop fun _ _ h => h.setRefclk)))

theorem State.Evolves.domFault {d : Nat} (h : s.Evolves t) : s.Evolves (t.domFault d) := by
  unfold State.domFault
  exact .ite (.sheafStop (.ite h.stopDoms.rest h.stopDoms)) (.ite h.stopDoms.rest h.stopDoms)

theorem State.Leads.execClkUnlock {d : Nat} (h : s.Evolves t) : s.Leads (execClkUnlock d t) := by
  unfold Machine.execClkUnlock
  exact .ite (.next h) (.ite (.next h.setF.raise.engineFault)
    (.ite (.next (.foldl h.setF.raise fun _ _ h => h.siteFailed)) (.next h.setF.raise.domFault)))

theorem State.Evolves.ccHalted (h : s.Evolves t) : s.Evolves t.ccHalted := by
  unfold State.ccHalted
  exact h.rest

theorem State.Leads.execCcSramCorr (h : s.Evolves t) : s.Leads (execCcSramCorr t) := by
  unfold Machine.execCcSramCorr
  exact .next h.flag.count.raise

theorem State.Leads.execCcSramFatal (h : s.Evolves t) : s.Leads (execCcSramFatal t) := by
  unfold Machine.execCcSramFatal
  exact .next h.ccHalted.flag.raise

theorem State.Evolves.ccKick {v : Nat} (h : s.Evolves t) : s.Evolves (t.ccKick v).2 := by
  unfold State.ccKick
  exact .mk_snd (.ite h.rest h)

theorem State.Leads.execCcWatchdog (h : s.Evolves t) : s.Leads (execCcWatchdog t) := by
  unfold Machine.execCcWatchdog
  exact .ite (.next h) (.next h.ccHalted.flag.raise)

theorem State.Evolves.ccReady {v : Nat} (h : s.Evolves t) : s.Evolves (t.ccReady v).2 := by
  unfold State.ccReady
  exact .ite_snd h.rest.setF h

theorem State.Leads.execCcBootFail (h : s.Evolves t) : s.Leads (execCcBootFail t) := by
  unfold Machine.execCcBootFail
  exact .ite (.next h) (.next h.flag.raise)

theorem State.Evolves.setFw {st : Nat} {digest : Option Bytes} (h : s.Evolves t) : s.Evolves (t.setFw st digest) := by
  unfold State.setFw
  exact .ite h h.rest.raise

theorem State.Evolves.fwLoad {n off : Nat} {chunk : Bytes} (h : s.Evolves t) : s.Evolves (t.fwLoad n off chunk).2 := by
  unfold State.fwLoad
  dsimp only
  exact .ite_snd h (.ite_snd h (.ite_snd h (.ite_snd h.rest.setFw h.rest.wr.rest.setFw)))

theorem State.Evolves.fwStart {n len mode : Nat} (h : s.Evolves t) : s.Evolves (t.fwStart n len mode).2 := by
  unfold State.fwStart
  dsimp only
  exact .ite_snd h (.ite_snd (.ite h.rest h) (.ite_snd (.ite_snd (.ite h.rest h)
    (.ite_snd (.setFw (.rest (.ite h.rest h))) (.setFw (.ite h.rest h))))
    (.ite_snd (.ite_snd (.ite h.rest h) (.ite_snd (.setFw (.ite h.rest h)) (.ite h.rest h)))
    (.ite_snd (.ite_snd (.ite h.rest h) (.ite_snd (.setFw (.rest (.ite h.rd.rest h.rd))) (.ite h.rd.rest h.rd)))
    (.ite h.rest.setFw h.rest)))))

theorem State.Evolves.siteStart {n : Nat} (h : s.Evolves t) : s.Evolves (t.siteStart n) := by
  unfold State.siteStart
  exact .ite h.siteRetrain (.ite h (.ite h.sitePower.railsFollow h.setLink.setF.railsFollow))

theorem State.Evolves.trainBegin {j : TrainJob} (h : s.Evolves t) : s.Evolves (t.trainBegin j) := by
  unfold State.trainBegin
  exact .foldl h.rest.setF fun _ _ h => h.siteStart

theorem State.Evolves.train {n stks sites : Nat} (h : s.Evolves t) : s.Evolves (t.train n stks sites).2 := by
  unfold State.train
  exact .ite_snd h (.ite_snd h (.ite_snd h (.ite_snd h h.trainBegin)))

theorem State.Evolves.wearApply {w : Wear} (h : s.Evolves t) : s.Evolves (t.wearApply w) := by
  unfold State.wearApply
  split
  · split
    · exact .ite h.retire h
    · exact h
  · exact .ite h.setChan (.ite h.setChan h)

theorem State.Evolves.trainEvent {result : Nat} (h : s.Evolves t) : s.Evolves (t.trainEvent result) := by
  unfold State.trainEvent
  exact h.setF.raise

theorem State.Evolves.replayLast {wearOnly : Bool} (h : s.Evolves t) : s.Evolves (t.replayLast wearOnly) := by
  unfold State.replayLast
  exact .ite h.rest.setF.trainEvent (.trainBegin (.foldl h.rest fun _ _ h => h.wearApply))

theorem State.Evolves.recordReplay {n off flags : Nat} {chunk : Bytes}
    (h : s.Evolves t) : s.Evolves (t.recordReplay n off flags chunk).2 := by
  unfold State.recordReplay
  exact .ite_snd h (.ite_snd h (.ite_snd h (.ite_snd h (.ite h.rest.setF.replayLast h.rest.setF))))

theorem State.Evolves.orF {f : Fid} {i j m : Nat} (h : s.Evolves t) : s.Evolves (t.orF f i j m) := by
  unfold State.orF
  exact h.setF

theorem State.Leads.execTrainDone {failedChannels : List Nat} {driftStacks : Nat}
    (h : s.Evolves t) : s.Leads (execTrainDone failedChannels driftStacks t) := by
  unfold Machine.execTrainDone
  split
  · exact .next h
  · exact .next (.trainEvent (.setF (.rest (.orF (.orF (.orF (.foldl (.ite (.foldl h fun _ _ h => h.raise) h) fun _ _ h =>
      h.channelFail)))))))

theorem State.Leads.execRecUpdated (h : s.Evolves t) : s.Leads (execRecUpdated t) := by
  unfold Machine.execRecUpdated
  exact .parkIf h (fun _ h => .ite (.next h) (.next h.setF.setF.writeRecordRegion.raise))

/-! ### The updates of EthTx -/

theorem State.Evolves.setQp {q : Nat} {v : Qp} (h : s.Evolves t) : s.Evolves (t.setQp q v) := by
  unfold State.setQp
  exact h.restEth

theorem State.Evolves.paceQp {q bytes : Nat} (h : s.Evolves t) : s.Evolves (t.paceQp q bytes) := by
  unfold State.paceQp
  exact h.setQp

theorem State.Evolves.txPut {x : TxItem} (h : s.Evolves t) : s.Evolves (t.txPut x) := by
  have he : s.Evolves { t with eth := if x.strict then
      { t.eth with linkAt := max t.eth.linkAt (t.now * 1000000) + x.bytes * 1000 / t.mesh.ethCap }
    else { t.eth with
      linkAt := max t.eth.linkAt (t.now * 1000000) + x.bytes * 1000 / t.mesh.ethCap
      turn := x.h.prio
      turnLeft := (if t.eth.turn = x.h.prio ∧ 0 < t.eth.turnLeft then t.eth.turnLeft
        else t.f .ETH_TX_WEIGHT_WEIGHT 0 x.h.prio * 4096) - x.bytes } } := by
    split <;> exact h.restEth
  unfold State.txPut
  dsimp only
  refine .emit ?_
  split
  · exact he.paceQp
  · exact he

theorem State.Evolves.txRun {a : Nat} (h : s.Evolves t) : s.Evolves (State.txRun a t) := by
  induction a generalizing t with
  | zero => exact h
  | succ n ih =>
    unfold State.txRun
    split
    · exact ih h.restEth.txPut
    · exact h

theorem State.Evolves.txGo (h : s.Evolves t) : s.Evolves t.txGo := by
  unfold State.txGo
  exact h.txRun

theorem State.Evolves.tx {x : TxItem} (h : s.Evolves t) : s.Evolves (t.tx x) := by
  unfold State.tx
  exact .ite h (.ite h.txPut h.restEth.txGo)

theorem State.Evolves.txStrict {o : Out} (h : s.Evolves t) : s.Evolves (t.txStrict o) := by
  unfold State.txStrict
  exact h.tx

theorem State.Evolves.txDrop {q : Nat} (h : s.Evolves t) : s.Evolves (t.txDrop q) := by
  unfold State.txDrop
  exact h.restEth

/-! ### The updates of EthLink -/

theorem State.Evolves.ethRestart (h : s.Evolves t) : s.Evolves t.ethRestart := by
  unfold State.ethRestart
  exact h.setF.setF.ethTrain

theorem State.Leads.execEthLinkUp {mode lanes : Nat} (h : s.Evolves t) : s.Leads (execEthLinkUp mode lanes t) := by
  unfold Machine.execEthLinkUp
  exact .ite (.next h) (.next (.raise (.ite (.foldl h.setF.setF.setF fun _ _ h => h.setF)
    (.capChanged (.rest (.foldl h.setF.setF.setF fun _ _ h => h.setF))))))

theorem State.Evolves.ethDrop {cause : Nat} (h : s.Evolves t) : s.Evolves (t.ethDrop cause) := by
  have hd : s.Evolves { t with eth := { t.eth with
      fall := if t.eth.dropDue.isSome then none else t.eth.fall, dropDue := none, pauseSince := [], storm := 0, xoff := 0,
      txq := [], corr := [] } } := h.congr rfl rfl rfl rfl rfl rfl fun hd => ⟨hd.1, rfl⟩
  unfold State.ethDrop
  exact .ethRestart (.ite (.raise (.flag (.foldl hd fun _ _ h => h.setF))) (.foldl hd fun _ _ h => h.setF))

theorem State.Leads.execEthLinkDown {cause : Nat} (h : s.Evolves t) : s.Leads (execEthLinkDown cause t) := by
  unfold Machine.execEthLinkDown
  exact .ite (.next h) (.next (.ite h.ethDrop h))

theorem State.Leads.execAutonegTimeout (h : s.Evolves t) : s.Leads (execAutonegTimeout t) := by
  unfold Machine.execAutonegTimeout
  exact .ite (.next h) (.ite (.next h.setF.setF) (.ite (.next h.setF.setF) (.next h)))

theorem State.Evolves.ethPortFatal (h : s.Evolves t) : s.Evolves t.ethPortFatal := by
  unfold State.ethPortFatal
  exact h.restEth.setF.flag.raise.sheafStop

theorem State.Evolves.ethFallback {used : Nat} (h : s.Evolves t) : s.Evolves (t.ethFallback used) := by
  unfold State.ethFallback
  dsimp only
  split
  · exact .ite h.ethPortFatal h.restEth.ethRestart
  · exact h.ethPortFatal

theorem State.Evolves.laneFail {l : Nat} (h : s.Evolves t) : s.Evolves (t.laneFail l) := by
  unfold State.laneFail
  dsimp only
  exact h.setUnit.flag.raise.freeBelow.ethDrop.ethFallback

theorem State.Leads.execEthLaneFail {l : Nat} (h : s.Evolves t) : s.Leads (execEthLaneFail l t) := by
  unfold Machine.execEthLaneFail
  exact .next (.ite h.laneFail h)

theorem State.Evolves.ethCfgMode {mode retrain : Nat} (h : s.Evolves t) : s.Evolves (t.ethCfgMode mode retrain) := by
  unfold State.ethCfgMode
  exact .ite h.setF.restEth h.setF

theorem State.Evolves.ethCnt {c : Nat} (h : s.Evolves t) : s.Evolves (t.ethCnt c) := by
  unfold State.ethCnt
  exact h.count

theorem State.Evolves.answerNd {kind : Nat} {fields : List Nat} (h : s.Evolves t) : s.Evolves (t.answerNd kind fields) := by
  unfold State.answerNd
  exact .ite h.ethCnt h.restEth.txStrict

theorem State.Evolves.arpIn {target srcMac srcIp : Nat} (h : s.Evolves t) : s.Evolves (t.arpIn target srcMac srcIp) := by
  unfold State.arpIn
  exact .ite h.answerNd h.ethCnt

theorem State.Evolves.ndIn {target dst srcMac srcIp : Nat} (h : s.Evolves t) : s.Evolves (t.ndIn target dst srcMac srcIp) := by
  unfold State.ndIn
  exact .ite h.answerNd h.ethCnt

theorem State.Leads.execArpRequest {target srcMac srcIp : Nat}
    (h : s.Evolves t) : s.Leads (execArpRequest target srcMac srcIp t) := by
  unfold Machine.execArpRequest
  exact .next (.ite h.arpIn h)

theorem State.Leads.execNeighborSolicitation {target dst srcMac srcIp : Nat}
    (h : s.Evolves t) : s.Leads (execNeighborSolicitation target dst srcMac srcIp t) := by
  unfold Machine.execNeighborSolicitation
  exact .next (.ite h.ndIn h)

theorem State.Evolves.setPause {p : Nat} {v : Option Nat} (h : s.Evolves t) : s.Evolves (t.setPause p v) := by
  unfold State.setPause
  exact h.restEth

theorem State.Evolves.pfcClass {p q : Nat} (h : s.Evolves t) : s.Evolves (t.pfcClass p q) := by
  unfold State.pfcClass
  exact .ite h (.ite h.setPause (.ite h h.setPause))

theorem State.Evolves.pfcIn {quanta : List (Option Nat)} (h : s.Evolves t) : s.Evolves (t.pfcIn quanta) := by
  unfold State.pfcIn
  refine .txGo ?_
  refine .foldl h.ethCnt fun t a h => ?_
  split
  · exact h.pfcClass
  · exact h

theorem State.Leads.execPfcFrame {quanta : List (Option Nat)} (h : s.Evolves t) : s.Leads (execPfcFrame quanta t) := by
  unfold Machine.execPfcFrame
  exact .next (.ite h.pfcIn h)

theorem State.Leads.execPfcPauseExpiry {p : Nat} (h : s.Evolves t) : s.Leads (execPfcPauseExpiry p t) := by
  unfold Machine.execPfcPauseExpiry
  exact .next (.ite h.setPause.txGo h)

theorem State.Evolves.sendPfc {p quanta : Nat} (h : s.Evolves t) : s.Evolves (t.sendPfc p quanta) := by
  unfold State.sendPfc
  exact h.emit

theorem State.Leads.execPfcXoffRepeat {p : Nat} (h : s.Evolves t) : s.Leads (execPfcXoffRepeat p t) := by
  unfold Machine.execPfcXoffRepeat
  exact .next (.ite h.sendPfc h)

theorem State.Leads.execEthPfcStorm {p : Nat} (h : s.Evolves t) : s.Leads (execEthPfcStorm p t) := by
  unfold Machine.execEthPfcStorm
  exact .ite (.next h) (.next h.restEth.flag.raise)

theorem State.Evolves.fecCorr {f : Frame} (h : s.Evolves t) : s.Evolves (t.fecCorr f) := by
  unfold State.fecCorr
  exact .foldl h fun _ _ h => .ite h h.restEth.count

theorem State.Evolves.fecLimit (h : s.Evolves t) : s.Evolves t.fecLimit := by
  unfold State.fecLimit
  split
  · exact h.laneFail
  · exact h

/-! ### The updates of QpCore -/

theorem State.Evolves.pktOut {q : Nat} {p : SentPkt} (h : s.Evolves t) : s.Evolves (t.pktOut q p) := by
  unfold State.pktOut
  exact .ite h.tx h

theorem State.Evolves.pktSend {q : Nat} {ps : List SentPkt} (h : s.Evolves t) : s.Evolves (t.pktSend q ps) := by
  unfold State.pktSend
  exact .setF (.setQp (.foldl h fun _ _ h => h.pktOut))

theorem State.Evolves.pktResend {q : Nat} {ps : List SentPkt} (h : s.Evolves t) : s.Evolves (t.pktResend q ps) := by
  unfold State.pktResend
  exact .count (.foldl h fun _ _ h => h.pktOut)

theorem State.Evolves.qpRecord {q st : Nat} {recv : Bool} {bytes wrId : Nat} {imm : Option Nat} {idx : Nat}
    (h : s.Evolves t) : s.Evolves (t.qpRecord q st recv bytes wrId imm idx) := by
  unfold State.qpRecord
  dsimp only
  exact .ite h.wr.setF h.wr.setF.setF.setF.flag.raiseLimited

theorem State.Evolves.qpErrorState {q st : Nat} (h : s.Evolves t) : s.Evolves (t.qpErrorState q st) := by
  unfold State.qpErrorState
  exact h.setF.setF.flag.raiseLimited

theorem State.Evolves.sendRecord {q : Nat} {w : Wqe} {st : Nat} (h : s.Evolves t) : s.Evolves (t.sendRecord q w st) := by
  unfold State.sendRecord
  exact .ite h.qpRecord.signalTally h.qpRecord

theorem State.Evolves.recvRecord {q st bytes wrId : Nat} {imm : Option Nat} {idx : Nat}
    (h : s.Evolves t) : s.Evolves (t.recvRecord q st bytes wrId imm idx) := by
  unfold State.recvRecord
  exact .ite h.qpRecord.signalTally h.qpRecord

theorem State.Evolves.flushOne {q : Nat} (h : s.Evolves t) (hu : t.flushOne q = some u) : s.Evolves u := by
  have some_of : ∀ {v : State}, s.Evolves v → some v = some u → s.Evolves u := by
    rintro _ h ⟨⟩
    exact h
  unfold State.flushOne at hu
  dsimp only at hu
  split at hu
  · split at hu
    · exact some_of h.setQp hu
    · split at hu
      · exact some_of h.setQp.sendRecord hu
      · exact nomatch hu
  · split at hu
    · exact nomatch hu
    · split at hu
      · exact some_of h.rd.setQp.sendRecord hu
      · split at hu
        · split at hu
          · exact some_of h.setQp.recvRecord hu
          · exact some_of h.setQp hu
        · split at hu
          · exact nomatch hu
          · exact some_of h.rd.setQp.recvRecord hu

theorem State.Evolves.flushLoop {q a : Nat} (h : s.Evolves t) : s.Evolves (State.flushLoop q a t) := by
  induction a generalizing t with
  | zero => exact h
  | succ n ih =>
    unfold State.flushLoop
    split
    next hu => exact ih (h.flushOne hu)
    · exact h

theorem State.Evolves.qpFlush {q : Nat} (h : s.Evolves t) : s.Evolves (t.qpFlush q) := by
  unfold State.qpFlush
  exact .ite h.setQp.flushLoop h

theorem State.Evolves.retireLoop {q a : Nat} (h : s.Evolves t) : s.Evolves (State.retireLoop q a t) := by
  induction a generalizing t with
  | zero => exact h
  | succ n ih =>
    unfold State.retireLoop
    dsimp only
    split
    · split
      · exact .ite (ih h.setQp) (.ite (ih h.setQp.qpErrorState) (.ite (ih h.setQp.sendRecord) h.setQp.sendRecord))
      · exact h
    · exact h

theorem State.Evolves.qpRetire {q : Nat} (h : s.Evolves t) : s.Evolves (t.qpRetire q) := by
  unfold State.qpRetire
  exact h.retireLoop.qpFlush

theorem State.Evolves.failSend {q st : Nat} (h : s.Evolves t) : s.Evolves (t.failSend q st) := by
  unfold State.failSend
  exact h.setQp.qpRetire

theorem State.Evolves.ackTo {q psn : Nat} (h : s.Evolves t) : s.Evolves (t.ackTo q psn) := by
  unfold State.ackTo
  exact h.setQp.qpRetire

theorem State.Evolves.qpReset {q : Nat} (h : s.Evolves t) : s.Evolves (t.qpReset q) := by
  unfold State.qpReset
  exact .foldl h.txDrop.setQp.setF fun _ _ h => h.setF

theorem State.Evolves.qpToState {q st : Nat} (h : s.Evolves t) : s.Evolves (t.qpToState q st).2 := by
  unfold State.qpToState
  exact .ite_snd h (.ite_snd h.qpReset (.ite_snd h.setF.qpFlush
    (.ite_snd h.setF (.ite_snd (.ite_snd h.setF h.flag) (.ite_snd h.setF.setF.setQp h)))))

theorem State.Evolves.qpTail {fid : Fid} {q head lg v : Nat} (h : s.Evolves t) : s.Evolves (t.qpTail fid q head lg v).2 := by
  unfold State.qpTail
  exact .ite_snd h (.ite_snd h.flag (.ite_snd h.setF.qpFlush h.flag))

theorem State.Evolves.qpSqTail {q v : Nat} (h : s.Evolves t) : s.Evolves (t.qpSqTail q v).2 := by
  unfold State.qpSqTail
  exact h.qpTail

theorem State.Evolves.qpRqTail {q v : Nat} (h : s.Evolves t) : s.Evolves (t.qpRqTail q v).2 := by
  unfold State.qpRqTail
  exact h.qpTail

theorem State.Evolves.qpCqHead {q z2 : Nat} (h : s.Evolves t) : s.Evolves (t.qpCqHead q z2).2 := by
  unfold State.qpCqHead
  exact .ite_snd h (.ite_snd h.setF.qpFlush h.flag)

theorem State.Evolves.qpRateMax {q v : Nat} (h : s.Evolves t) : s.Evolves (t.qpRateMax q v).2 := by
  unfold State.qpRateMax
  exact h.setF.setF

/-! ### The updates of SheafCore -/

theorem State.Evolves.setShc {x : Nat} {v : ShCtx} (h : s.Evolves t) : s.Evolves (t.setShc x v) := by
  unfold State.setShc
  exact h.rest

theorem State.Evolves.shSend {x i imm va : Nat} {data : Bytes} {isData : Bool} {good : Option Nat}
    (h : s.Evolves t) : s.Evolves (t.shSend x i imm va data isData good) := by
  unfold State.shSend
  dsimp only
  split
  · exact h
  · split
    · exact h.pktSend
    · exact h.setQp.pktSend

theorem State.Evolves.shNote {x i kind arg : Nat} (h : s.Evolves t) : s.Evolves (t.shNote x i kind arg) := by
  unfold State.shNote
  exact h.shSend

theorem State.Evolves.setRun {x : Nat} {r : ShRun} (h : s.Evolves t) : s.Evolves (t.setRun x r) := by
  unfold State.setRun
  exact h.setShc.setF.setF

theorem State.Evolves.shFinish {x : Nat} {r : ShRun} {st peer : Nat} (h : s.Evolves t) : s.Evolves (t.shFinish x r st peer) := by
  unfold State.shFinish
  dsimp only
  exact .ite h.wr.sheafIdle.setF.signalTally h.wr.sheafIdle.setF.signalTally.flag.raise

theorem State.Evolves.shFail {x st peer : Nat} {but : Option Nat}
    (h : s.Evolves t) : s.Evolves (t.shFail x st peer but) := by
  unfold State.shFail
  split
  · exact h
  · exact .ite h (.foldl h.setRun.setF fun _ _ h => h.shNote)

theorem State.Evolves.shCheck {x : Nat} (h : s.Evolves t) : s.Evolves (t.shCheck x) := by
  unfold State.shCheck
  dsimp only
  split
  · exact h
  · split
    · split
      · split
        · exact .ite h h.shFinish
        · exact h
      · exact h
    · split
      · split
        · split
          · exact .ite h.shFail h.shFail.shFinish
          · exact h.shFail
        · exact h.shFail
      · exact .ite h.shFinish h

theorem State.Evolves.shAcked {m : Nat × Nat × Bool} (h : s.Evolves t) : s.Evolves (t.shAcked m) := by
  unfold State.shAcked
  split
  · exact .ite h.setRun h
  · exact h

theorem State.Evolves.sheafSettle (h : s.Evolves t) : s.Evolves t.sheafSettle := by
  unfold State.sheafSettle
  exact .foldl (.foldl h fun _ _ h => .ite h (.foldl h.setQp fun _ _ h => h.shAcked)) fun _ _ h => h.shCheck

theorem State.Evolves.shRead {x a n : Nat} (h : s.Evolves t) : s.Evolves (t.shRead x a n).2 := by
  unfold State.shRead
  dsimp only
  exact .ite_snd h.rd.rd h.rd

theorem State.Evolves.shSegment {x i m : Nat} (h : s.Evolves t) : s.Evolves (t.shSegment x i m).2 := by
  unfold State.shSegment
  dsimp only
  split
  · exact .mk_snd h.shRead.shFail
  · split
    · exact .mk_snd h.shRead.shSend.qpErrorState.qpFlush.shFail
    · exact .mk_snd (.ite h.shRead.shSend.setF h.shRead.shSend)

theorem State.Evolves.shPumpTo {x i a : Nat} (h : s.Evolves t) : s.Evolves (State.shPumpTo x i a t) := by
  induction a generalizing t with
  | zero => exact h
  | succ n ih =>
    unfold State.shPumpTo
    dsimp only
    split
    · exact h
    · split
      · exact h
      · split
        · split
          · exact ih h.shSegment.setRun
          · exact h.shSegment
        · exact h.shSegment

theorem State.Evolves.shPump {x : Nat} (h : s.Evolves t) : s.Evolves (t.shPump x) := by
  unfold State.shPump
  exact .foldl h fun _ _ h => h.shPumpTo

theorem State.Evolves.shStray (h : s.Evolves t) : s.Evolves t.shStray := by
  unfold State.shStray
  exact h.count

theorem State.Evolves.shPhase {x : Nat} {r : ShRun} (h : s.Evolves t) : s.Evolves (t.shPhase x r) := by
  unfold State.shPhase
  exact .ite h.setF h

theorem State.Evolves.shReady {x i : Nat} (h : s.Evolves t) : s.Evolves (t.shReady x i) := by
  unfold State.shReady
  split
  · exact .ite h (.ite h.shFail (.ite h h.setShc.setRun.shPhase))
  · exact h

theorem State.Evolves.shLagEvent {x dir d : Nat} (h : s.Evolves t) : s.Evolves (t.shLagEvent x dir d) := by
  unfold State.shLagEvent
  have hl : s.Evolves (t.limit 0x6808 x 10000).2 := h.limit
  split
  next he => exact (he ▸ hl : s.Evolves (_, _).2).raise
  next he => exact (he ▸ hl : s.Evolves (_, _).2)

theorem State.Evolves.shLagTo {x i d : Nat} (h : s.Evolves t) : s.Evolves (t.shLagTo x i d) := by
  unfold State.shLagTo
  dsimp only
  split
  · exact h.shNote.flag.shLagEvent.setRun
  · exact h.shNote.flag.shLagEvent

theorem State.Evolves.shLagAll {x : Nat} (h : s.Evolves t) : s.Evolves (t.shLagAll x) := by
  unfold State.shLagAll
  exact .ite (.foldl h fun _ _ h => h.shLagTo) h

theorem State.Evolves.lagBegin (h : s.Evolves t) : s.Evolves t.lagBegin := by
  unfold State.lagBegin
  exact .foldl h fun _ _ h => h.shLagAll

theorem State.Evolves.shLag {x i d : Nat} (h : s.Evolves t) : s.Evolves (t.shLag x i d) := by
  unfold State.shLag
  split
  · exact h
  · exact .ite h.setRun.flag.shLagEvent (.foldl h.setRun.flag.shLagEvent fun _ _ h => h.shLagTo)

theorem State.Evolves.shData {x i arg : Nat} (h : s.Evolves t) : s.Evolves (t.shData x i arg) := by
  unfold State.shData
  split
  · exact h
  · exact .ite h.shFail (.shPump (.ite h.setRun.setF h.setRun))

theorem State.Evolves.sheafArrive {q imm : Nat} (h : s.Evolves t) : s.Evolves (t.sheafArrive q imm) := by
  unfold State.sheafArrive
  split
  · exact h
  · exact .ite h.shStray (.ite h.setShc.shReady.shPump (.ite h.shStray (.ite h (.ite h.shData (.ite h.shLag h.shFail)))))

/-! ### The updates of Transport -/

theorem State.Evolves.wrPackets {q : Nat} {w : Wqe} {b data : Bytes} {good : Nat}
    (h : s.Evolves t) : s.Evolves (t.wrPackets q w b data good) := by
  unfold State.wrPackets
  exact h.setQp.pktSend.qpRetire

theorem State.Evolves.wrReadReq {q : Nat} {w : Wqe} {b : Bytes} (h : s.Evolves t) : s.Evolves (t.wrReadReq q w b) := by
  unfold State.wrReadReq
  exact h.setQp.pktSend.setF

theorem State.Evolves.wrFail {q : Nat} {w : Wqe} {st : Nat} (h : s.Evolves t) : s.Evolves (t.wrFail q w st) := by
  unfold State.wrFail
  exact h.setQp.qpRetire

theorem State.Evolves.wrStart {q op : Nat} (h : s.Evolves t) : s.Evolves (t.wrStart q op) := by
  unfold State.wrStart
  dsimp only
  exact .ite h (.ite h (.ite h.rd.setQp.wrFail (.ite h.rd.setQp.wrFail
    (.ite h.rd.setQp.wrReadReq (.ite h.rd.setQp.rd.wrFail h.rd.setQp.rd.wrPackets)))))

theorem State.Leads.execWrSend {q : Nat} (h : s.Evolves t) : s.Leads (execWrSend q t) := by
  unfold Machine.execWrSend
  exact .parkIf h (fun _ h => .next h.wrStart.sheafSettle)

theorem State.Leads.execWrSendImm {q : Nat} (h : s.Evolves t) : s.Leads (execWrSendImm q t) := by
  unfold Machine.execWrSendImm
  exact .parkIf h (fun _ h => .next h.wrStart.sheafSettle)

theorem State.Leads.execWrRdmaWrite {q : Nat} (h : s.Evolves t) : s.Leads (execWrRdmaWrite q t) := by
  unfold Machine.execWrRdmaWrite
  exact .parkIf h (fun _ h => .next h.wrStart.sheafSettle)

theorem State.Leads.execWrRdmaWriteImm {q : Nat} (h : s.Evolves t) : s.Leads (execWrRdmaWriteImm q t) := by
  unfold Machine.execWrRdmaWriteImm
  exact .parkIf h (fun _ h => .next h.wrStart.sheafSettle)

theorem State.Leads.execWrRdmaRead {q : Nat} (h : s.Evolves t) : s.Leads (execWrRdmaRead q t) := by
  unfold Machine.execWrRdmaRead
  exact .parkIf h (fun _ h => .next h.wrStart.sheafSettle)

theorem State.Evolves.sendAck {q : Nat} {k : AckKind} {psn : Nat} (h : s.Evolves t) : s.Evolves (t.sendAck q k psn) := by
  unfold State.sendAck
  exact h.pktOut

theorem State.Evolves.ackNow {q : Nat} (h : s.Evolves t) : s.Evolves (t.ackNow q) := by
  unfold State.ackNow
  exact h.setQp.sendAck

theorem State.Evolves.nakError {q : Nat} {k : AckKind} {psn : Nat} (h : s.Evolves t) : s.Evolves (t.nakError q k psn) := by
  unfold State.nakError
  exact h.sendAck.qpErrorState.qpFlush

theorem State.Evolves.cnpFor {q : Nat} {ce : Bool} (h : s.Evolves t) : s.Evolves (t.cnpFor q ce) := by
  unfold State.cnpFor
  exact .ite h h.setQp.pktOut

theorem State.Evolves.takeRecv {q : Nat} (h : s.Evolves t) : s.Evolves (t.takeRecv q).2.2.2 := by
  unfold State.takeRecv
  dsimp only
  exact h.rd.setQp

theorem State.Evolves.rqStep {q n : Nat} (h : s.Evolves t) : s.Evolves (t.rqStep q n) := by
  unfold State.rqStep
  exact h.setF.setQp

theorem State.Evolves.msgDone {q : Nat} (h : s.Evolves t) : s.Evolves (t.msgDone q) := by
  unfold State.msgDone
  exact h.setQp

theorem State.Evolves.immIn {q bytes imm : Nat} (h : s.Evolves t) : s.Evolves (t.immIn q bytes imm) := by
  unfold State.immIn
  dsimp only
  exact .ite h.sheafArrive (.ite h.takeRecv.recvRecord h.takeRecv.recvRecord.sendAck.qpFlush)

theorem State.Evolves.drainAhead {q a : Nat} (h : s.Evolves t) : s.Evolves (State.drainAhead q a t) := by
  induction a generalizing t with
  | zero => exact h
  | succ n ih =>
    unfold State.drainAhead
    dsimp only
    split
    · exact h
    · split
      · exact ih h.setQp.rqStep.msgDone
      · exact .ite (.ite h.setQp.rqStep.msgDone.immIn (ih h.setQp.rqStep.msgDone.immIn)) h.sendAck

theorem State.Evolves.thenAhead {q : Nat} (h : s.Evolves t) : s.Evolves (t.thenAhead q) := by
  unfold State.thenAhead
  exact .ite h (.ite h.drainAhead h.drainAhead.ackNow)

theorem State.Evolves.gapNak {q : Nat} (h : s.Evolves t) : s.Evolves (t.gapNak q) := by
  unfold State.gapNak
  exact .ite h h.setQp.sendAck

theorem State.Evolves.rxDone {q : Nat} {ends : Bool} {rx : Option RxMsg} (h : s.Evolves t) : s.Evolves (t.rxDone q ends rx) := by
  unfold State.rxDone
  exact .ite h.setQp.rqStep.ackNow h.setQp.rqStep

theorem State.Evolves.writeIn {q : Nat} {b : Bth} (h : s.Evolves t) : s.Evolves (t.writeIn q b) := by
  unfold State.writeIn
  dsimp only
  split
  · exact h.nakError
  · split
    · exact h.nakError
    · split
      · split
        · exact h.sendAck
        · split
          · split
            · exact h.nakError
            · refine .thenAhead ?_
              split
              · exact h.setQp.rxDone.immIn
              · exact h.setQp.rxDone
          · split
            · exact h.wr.nakError
            · refine .thenAhead ?_
              split
              · exact h.wr.setQp.rxDone.immIn
              · exact h.wr.setQp.rxDone
      · split
        · exact h.sendAck
        · split
          · split
            · exact h.nakError
            · refine .thenAhead ?_
              split
              · exact h.setQp.rxDone.immIn
              · exact h.setQp.rxDone
          · split
            · exact h.wr.nakError
            · refine .thenAhead ?_
              split
              · exact h.wr.setQp.rxDone.immIn
              · exact h.wr.setQp.rxDone

theorem State.Evolves.writeAhead {q : Nat} {b : Bth} (h : s.Evolves t) : s.Evolves (t.writeAhead q b) := by
  unfold State.writeAhead
  dsimp only
  exact .ite h.sendAck (.ite h.nakError (.ite h.nakError (.ite h.wr.nakError h.wr.setQp.sendAck)))

theorem State.Evolves.sendInto {q : Nat} {b : Bth} {m : RxMsg} (h : s.Evolves t) : s.Evolves (t.sendInto q b m) := by
  unfold State.sendInto
  dsimp only
  exact .ite h.nakError (.ite h.setQp.recvRecord.qpFlush (.ite h.wr.setQp.recvRecord.qpFlush
    (.ite h.wr.setQp.rqStep.recvRecord.ackNow h.wr.rxDone)))

theorem State.Evolves.sendIn {q : Nat} {b : Bth} (h : s.Evolves t) : s.Evolves (t.sendIn q b) := by
  unfold State.sendIn
  dsimp only
  split
  · exact h.nakError
  · split
    · exact h.sendInto
    · exact .ite h.sendAck (.ite h.takeRecv.recvRecord.qpFlush h.takeRecv.sendInto)

theorem State.Evolves.rxStart {q : Nat} {b : Bth} (h : s.Evolves t) : s.Evolves (t.rxStart q b).2 := by
  unfold State.rxStart
  exact .ite_snd h (.ite_snd h.cnpFor.nakError h.cnpFor)

theorem State.Leads.execSendPacket {q : Nat} {b : Bth} (h : s.Evolves t) : s.Leads (execSendPacket q b t) := by
  unfold Machine.execSendPacket
  refine .parkIf h fun t h => ?_
  have h := h.rxStart (q := q) (b := b)
  generalize t.rxStart q b = y at h
  obtain ⟨go, s1⟩ := y
  refine .ite (.next h.sheafSettle) ?_
  generalize s1.psnPlace q b.psn = place
  cases place with
  | expected => exact .next (.sheafSettle (.ite h.sendIn h.sendIn.thenAhead))
  | ahead => exact .next h.gapNak.sheafSettle
  | duplicate => exact .next h.ackNow.sheafSettle

theorem State.Leads.execRdmaWritePacket {q : Nat} {b : Bth} (h : s.Evolves t) : s.Leads (execRdmaWritePacket q b t) := by
  unfold Machine.execRdmaWritePacket
  refine .parkIf h fun t h => ?_
  have h := h.rxStart (q := q) (b := b)
  generalize t.rxStart q b = y at h
  obtain ⟨go, s1⟩ := y
  refine .ite (.next h.sheafSettle) ?_
  generalize s1.psnPlace q b.psn = place
  cases place with
  | expected => exact .next h.writeIn.sheafSettle
  | ahead => exact .ite (.next h.writeAhead.sheafSettle) (.next h.gapNak.sheafSettle)
  | duplicate => exact .next h.ackNow.sheafSettle

theorem State.Evolves.readServe {q : Nat} {b : Bth} (h : s.Evolves t) : s.Evolves (t.readServe q b) := by
  unfold State.readServe
  dsimp only
  exact .ite h.nakError (.ite h.nakError (.ite h.rd.nakError (.ite (.foldl h.rd fun _ _ h => h.pktOut)
    (.nakError (.foldl h.rd fun _ _ h => h.pktOut)))))

theorem State.Leads.execRdmaReadRequest {q : Nat} {b : Bth} (h : s.Evolves t) : s.Leads (execRdmaReadRequest q b t) := by
  unfold Machine.execRdmaReadRequest
  refine .parkIf h fun t h => ?_
  have h := h.rxStart (q := q) (b := b)
  generalize t.rxStart q b = y at h
  obtain ⟨go, s1⟩ := y
  refine .ite (.next h.sheafSettle) ?_
  generalize s1.psnPlace q b.psn = place
  cases place with
  | expected => exact .next h.rqStep.msgDone.readServe.thenAhead.sheafSettle
  | ahead => exact .next h.gapNak.sheafSettle
  | duplicate => exact .next h.readServe.sheafSettle

theorem State.Evolves.readData {q : Nat} {w : Wqe} {b : Bth} (h : s.Evolves t) : s.Evolves (t.readData q w b) := by
  unfold State.readData
  dsimp only
  exact .ite h.wr.failSend h.wr.setQp.qpRetire

theorem State.Leads.execRdmaReadResponse {q : Nat} {b : Bth} (h : s.Evolves t) : s.Leads (execRdmaReadResponse q b t) := by
  unfold Machine.execRdmaReadResponse
  dsimp only
  refine .parkIf h fun t h => ?_
  split
  · exact .next h
  · split
    · exact .next h.cnpFor
    · exact .ite (.next h.cnpFor) (.next (.sheafSettle (.ite h.cnpFor.ackTo.readData h.cnpFor.ackTo)))

theorem State.Evolves.retryAll {q : Nat} (h : s.Evolves t) : s.Evolves (t.retryAll q) := by
  unfold State.retryAll
  exact .ite h (.ite h.failSend h.setQp.pktResend)

theorem State.Evolves.rnrRetry {q : Nat} (h : s.Evolves t) : s.Evolves (t.rnrRetry q) := by
  unfold State.rnrRetry
  exact .ite h.failSend h.setQp.pktResend

theorem State.Evolves.sackIn {q psn : Nat} {sack : List Nat} (h : s.Evolves t) : s.Evolves (t.sackIn q psn sack) := by
  unfold State.sackIn
  exact .ite h.setQp h.setQp.pktResend

theorem State.Leads.execAcknowledge {q psn : Nat} {a : Ack} {sack : List Nat}
    (h : s.Evolves t) : s.Leads (execAcknowledge q psn a sack t) := by
  unfold Machine.execAcknowledge
  dsimp only
  refine .parkIf h fun t h => ?_
  split
  · exact .next h
  · split
    · split
      · exact .next h.cnpFor.ackTo.sheafSettle
      · refine .next ?_
        refine .sheafSettle ?_
        split
        · exact .ite h.cnpFor.ackTo.sackIn h.cnpFor.ackTo
        · exact h.cnpFor.ackTo.retryAll
        · exact h.cnpFor.ackTo.rnrRetry
        · exact h.cnpFor.ackTo.failSend
        · exact h.cnpFor.ackTo.failSend
        · exact h.cnpFor.ackTo.failSend
    · split
      · exact .next h.cnpFor.ackTo.sheafSettle
      · refine .next ?_
        refine .sheafSettle ?_
        split
        · exact .ite h.cnpFor.ackTo.sackIn h.cnpFor.ackTo
        · exact h.cnpFor.ackTo.retryAll
        · exact h.cnpFor.ackTo.rnrRetry
        · exact h.cnpFor.ackTo.failSend
        · exact h.cnpFor.ackTo.failSend
        · exact h.cnpFor.ackTo.failSend

theorem State.Leads.execAckTimeout {q : Nat} (h : s.Evolves t) : s.Leads (execAckTimeout q t) := by
  unfold Machine.execAckTimeout
  exact .parkIf h (fun _ h => .ite (.next h) (.next h.retryAll.sheafSettle))

theorem State.Leads.execCnp {q : Nat} (h : s.Evolves t) : s.Leads (execCnp q t) := by
  unfold Machine.execCnp
  exact .ite (.next h) (.ite (.next h.count.setQp) (.next h.count.setQp.setF))

theorem State.Evolves.rise {q : Nat} (h : s.Evolves t) : s.Evolves (t.rise q) := by
  unfold State.rise
  exact .ite h h.setQp.setF

theorem State.Leads.execRisePeriod (h : s.Evolves t) : s.Leads (execRisePeriod t) := by
  unfold Machine.execRisePeriod
  exact .ite (.next h) (.next (.foldl h fun _ _ h => .setQp (.ite h.rise h)))

theorem State.Leads.execIdleReset {q : Nat} (h : s.Evolves t) : s.Leads (execIdleReset q t) := by
  unfold Machine.execIdleReset
  exact .ite (.next h) (.next h.setQp.setF)

/-! ### The updates of Ingest -/

theorem State.Evolves.setIng {k : Nat} {v : Ing} (h : s.Evolves t) : s.Evolves (t.setIng k v) := by
  unfold State.setIng
  exact h.restEth

theorem State.Evolves.slotClose {k : Nat} {z2 : IngSlot} {cause : Nat} (h : s.Evolves t) : s.Evolves (t.slotClose k z2 cause) := by
  unfold State.slotClose
  dsimp only
  exact .signalTally (.setF (.setIng (.wr (.ite h (.foldl h fun _ _ h => h.wr)))))

theorem State.Evolves.rowIn {k : Nat} {z2 : IngSlot} {r : Nat} {row : Bytes}
    (h : s.Evolves t) : s.Evolves (t.rowIn k z2 r row) := by
  unfold State.rowIn
  dsimp only
  exact .ite h.wr.setIng.count.slotClose h.wr.setIng.count

theorem State.Evolves.rowFresh {k first r : Nat} {row : Bytes} (h : s.Evolves t) : s.Evolves (t.rowFresh k first r row) := by
  unfold State.rowFresh
  dsimp only
  split
  · exact .ite h.slotClose.setIng.setF.rowIn h.slotClose.count.raiseLimited
  · exact .ite h.setIng.setF.rowIn h.count.raiseLimited

theorem State.Evolves.ingRow {k seq : Nat} {row : Bytes} (h : s.Evolves t) : s.Evolves (t.ingRow k seq row) := by
  unfold State.ingRow
  dsimp only
  split
  · exact h.count
  · split
    · exact h.rowIn
    · exact h.count
    · exact h.count
    · exact h.rowFresh

theorem State.Leads.execIngestDatagram {port src : Nat} {payload : Bytes}
    (h : s.Evolves t) : s.Leads (execIngestDatagram port src payload t) := by
  unfold Machine.execIngestDatagram
  split
  · exact .next h
  · exact .parkIf h (fun _ h => .ite (.next h) (.ite (.next h.ingRow) (.ite (.next h.count) (.next h.ingRow))))

theorem State.Leads.execSlotTimeout {k : Nat} (h : s.Evolves t) : s.Leads (execSlotTimeout k t) := by
  unfold Machine.execSlotTimeout
  refine .parkIf h fun t h => ?_
  split
  · exact .next (.ite h h.slotClose)
  · exact .next h

theorem State.Evolves.ingEnable {k : Nat} (h : s.Evolves t) : s.Evolves (t.ingEnable k).2 := by
  unfold State.ingEnable
  exact .ite_snd h (.ite_snd h h.setF.setF.setF.setIng.setF)

theorem State.Evolves.ingDisable {k : Nat} (h : s.Evolves t) : s.Evolves (t.ingDisable k) := by
  unfold State.ingDisable
  exact .setF (.foldl h fun _ _ h => h.slotClose)

theorem State.Evolves.ingCfg {k v : Nat} (h : s.Evolves t) : s.Evolves (t.ingCfg k v).2 := by
  unfold State.ingCfg
  dsimp only
  exact .ite_snd (.ite_snd h (.ite h h.ingDisable)) (.ite_snd (.ite (.ingEnable (.foldl h fun _ _ h => h.setF)) h)
    (.foldl h fun _ _ h => h.setF))

/-! ### The updates of SheafRun -/

theorem State.Evolves.lagFresh {x : Nat} (h : s.Evolves t) : s.Evolves (t.lagFresh x) := by
  unfold State.lagFresh
  exact h.rest

theorem State.Evolves.shBegin {x epoch : Nat} (h : s.Evolves t) : s.Evolves (t.shBegin x epoch) := by
  unfold State.shBegin
  exact .shCheck (.shPump (.ite (.shLagAll (.foldl (.foldl h.setF.setF.setF.setF.setRun.lagFresh.shPhase fun _ _ h => .ite
    h.shNote h) fun _ _ h => h.shReady)) (.foldl (.foldl h.setF.setF.setF.setF.setRun.lagFresh.shPhase fun _ _ h => .ite
    h.shNote h) fun _ _ h => h.shReady)))

theorem State.Evolves.shStart {x epoch : Nat} (h : s.Evolves t) : s.Evolves (t.shStart x epoch).2 := by
  unfold State.shStart
  split
  · exact h
  · split
    · exact .mk_snd h.setF
    · exact .mk_snd h.shBegin

theorem State.Evolves.shCtl {x v : Nat} (h : s.Evolves t) : s.Evolves (t.shCtl x v).2 := by
  unfold State.shCtl
  exact .ite_snd h.shStart (.ite_snd h.shFail.shCheck h)

theorem State.Evolves.shNbrQp {x i v : Nat} (h : s.Evolves t) : s.Evolves (t.shNbrQp x i v).2 := by
  unfold State.shNbrQp
  exact .ite_snd h (.ite_snd h (.ite h.setF.setF.setF h.setF.setF.setF.setShc))

theorem State.Evolves.shRelease {x : Nat} (h : s.Evolves t) : s.Evolves (t.shRelease x) := by
  unfold State.shRelease
  exact .foldl (.setF (.setF (.setShc (.ite h h.sheafIdle)))) fun _ _ h => h.setF

theorem State.Evolves.shMessage {kind q : Nat} {imm : BitVec 32} (h : s.Evolves t) : s.Evolves (t.shMessage kind q imm) := by
  unfold State.shMessage
  exact .ite h.sheafArrive.sheafSettle h

theorem State.Leads.execReady {q : Nat} {imm : BitVec 32} (h : s.Evolves t) : s.Leads (execReady q imm t) := by
  unfold Machine.execReady
  exact .parkIf h (fun _ h => .next h.shMessage)

theorem State.Leads.execSheafData {q : Nat} {imm : BitVec 32} (h : s.Evolves t) : s.Leads (execSheafData q imm t) := by
  unfold Machine.execSheafData
  exact .parkIf h (fun _ h => .next h.shMessage)

theorem State.Leads.execLag {q : Nat} {imm : BitVec 32} (h : s.Evolves t) : s.Leads (execLag q imm t) := by
  unfold Machine.execLag
  exact .parkIf h (fun _ h => .next h.shMessage)

theorem State.Leads.execAbort {q : Nat} {imm : BitVec 32} (h : s.Evolves t) : s.Leads (execAbort q imm t) := by
  unfold Machine.execAbort
  exact .parkIf h (fun _ h => .next h.shMessage)

theorem State.Leads.execProgressDeadline {x : Nat} (h : s.Evolves t) : s.Leads (execProgressDeadline x t) := by
  unfold Machine.execProgressDeadline
  refine .parkIf h fun t h => ?_
  split
  · exact .next h
  · exact .ite (.next h) (.next h.shFail.shCheck)

theorem State.Leads.execLagRepeat {x : Nat} (h : s.Evolves t) : s.Leads (execLagRepeat x t) := by
  unfold Machine.execLagRepeat
  exact .parkIf h (fun _ h => .next (.ite h.shLagAll.sheafSettle h))

/-! ### The updates of Publish -/

theorem State.Evolves.publishClass {c : UCls} {st : Nat → UState} (h : s.Evolves t) : s.Evolves (t.publishClass c st) := by
  unfold State.publishClass
  refine .foldl h fun t n h => ?_
  dsimp only
  split
  next hn => exact h.putUnit fun hd hg => absurd ((hd c n hg).symm.trans hn) nofun
  · exact h

theorem State.Evolves.publishEngine {e : Nat} (h : s.Evolves t) : s.Evolves (t.publishEngine e) := by
  unfold State.publishEngine
  exact .ite h.setF.setFence h.stopDom.setF.setFence.railsFollow

theorem State.Evolves.publishSite {n : Nat} (h : s.Evolves t) : s.Evolves (t.publishSite n) := by
  unfold State.publishSite
  exact .ite h.siteDegSet (.ite h.setRefclk.linkCut.agentLost.setLink.setF.siteCapSet.siteDegSet.setFence.railsFollow
    h.setFence)

theorem State.Evolves.publishMem {n : Nat} (h : s.Evolves t) : s.Evolves (t.publishMem n) := by
  unfold State.publishMem
  exact h.updateCap.degMem

theorem State.Evolves.publishLanes (h : s.Evolves t) : s.Evolves t.publishLanes := by
  unfold State.publishLanes
  dsimp only
  exact .ite h.freeBelow.ethDrop.ethFallback h

theorem State.Leads.execUmPublished (h : s.Evolves t) : s.Leads (execUmPublished t) := by
  unfold Machine.execUmPublished
  refine .ite (.next h) (.next (.publishLanes ?_))
  have hc : s.Evolves (((((((t.publishClass .engine t.engineState).publishClass .site t.siteState).publishClass .memSite
      (fun _ => .present)).publishClass .channel (fun _ => .present)).publishClass .plane (fun _ => .present)).publishClass
      .ucie (fun _ => .present)).publishClass .ethLane (fun _ => .present)) :=
    h.publishClass.publishClass.publishClass.publishClass.publishClass.publishClass.publishClass
  have hu := State.Evolves.foldl (l := List.range 8) (f := fun t n => ((t.publishEngine n).publishSite n).publishMem n)
    (State.Evolves.foldl (l := List.range 48) (f := fun x k =>
      x.setDeg .ucie k (x.umWidth (k / 6) (k % 6) == 1 || x.umWidth (k / 6) (k % 6) == 2)) hc fun _ _ h => h.setDeg)
    fun _ _ h => h.publishEngine.publishSite.publishMem
  refine .ite (.raise (.capChanged (.raise (.ite (.setF (.rest ?_)) (.rest ?_)))))
    (.capChanged (.raise (.ite (.setF (.rest ?_)) (.rest ?_))))
  all_goals exact hu

/-! ### The updates of HlCore -/

theorem State.Evolves.setLock {i : Nat} {l : Option LockEnt} (h : s.Evolves t) : s.Evolves (t.setLock i l) := by
  unfold State.setLock
  exact h.setHl

theorem State.Evolves.claim {k : Nat} {z2 : Holder} (h : s.Evolves t) : s.Evolves (t.claim k z2).2 := by
  unfold State.claim
  exact .ite_snd h (.ite_snd h (.ite_snd h.setClaim h))

theorem State.Evolves.unclaim {k : Nat} {z2 : Holder} (h : s.Evolves t) : s.Evolves (t.unclaim k z2).2 := by
  unfold State.unclaim
  exact .ite_snd h.setClaim (.ite_snd h h)

theorem State.Evolves.lockClaim {n k : Nat} (h : s.Evolves t) : s.Evolves (t.lockClaim n k) := by
  unfold State.lockClaim
  split
  · exact .ite h h.raise.setClaim
  · exact h.raise.setClaim
  · exact h.setClaim

theorem State.Evolves.lock {n kind target : Nat} (h : s.Evolves t) : s.Evolves (t.lock n kind target).2.2 := by
  unfold State.lock
  dsimp only
  split
  · exact h
  · split
    · exact h
    · split
      · exact .ite_snd_snd (.ite h.lockClaim h) (.ite_snd_snd h (.ite h.setLock.raise.lockClaim h.setLock.raise))
      · split
        · exact .ite h.setLock.lockClaim h.setLock
        · exact h

theorem State.Evolves.unlock {n kind target : Nat} (h : s.Evolves t) : s.Evolves (t.unlock n kind target).2 := by
  unfold State.unlock
  split
  · exact h
  · split
    · exact h
    · exact .ite_snd h.setLock h

theorem State.Evolves.giveUp {n : Nat} (h : s.Evolves t) : s.Evolves (t.giveUp n) := by
  unfold State.giveUp
  exact .ite (.setF (.rest (.ite (.rest (.setHl (.foldl h fun _ _ h => .ite h.setClaim h)))
    (.setHl (.foldl h fun _ _ h => .ite h.setClaim h))))) (.ite (.rest (.setHl (.foldl h fun _ _ h => .ite h.setClaim h)))
    (.setHl (.foldl h fun _ _ h => .ite h.setClaim h)))

theorem State.Evolves.sessClose {n cause : Nat} (h : s.Evolves t) : s.Evolves (t.sessClose n cause) := by
  unfold State.sessClose
  exact .ite h h.raise.giveUp.setSess.rest

theorem State.Evolves.closeWhere {cause : Nat} {z2 : Nat → Bool} (h : s.Evolves t) : s.Evolves (t.closeWhere cause z2) := by
  unfold State.closeWhere
  exact .foldl h fun _ _ h => .ite h.sessClose h

theorem State.Evolves.hlEmit {o : TxHdr → Out} (h : s.Evolves t) : s.Evolves (t.hlEmit o) := by
  unfold State.hlEmit
  exact .ite h.txStrict h

theorem State.Evolves.hlSend {r : HReply} (h : s.Evolves t) : s.Evolves (t.hlSend r) := by
  unfold State.hlSend
  exact h.hlEmit

theorem State.Evolves.hlReply {n : Nat} {c : HCmd} {status : Nat} {payload : Bytes}
    (h : s.Evolves t) : s.Evolves (t.hlReply n c status payload) := by
  unfold State.hlReply
  exact .ite h (.ite h.setSess.hlSend.sessClose h.setSess.hlSend)

theorem State.Evolves.abortWindow {n : Nat} {but : Option Nat} (h : s.Evolves t) : s.Evolves (t.abortWindow n but) := by
  unfold State.abortWindow
  dsimp only
  split
  · refine .setSess ?_
    refine .foldl h fun t a h => ?_
    split
    · exact .ite h h.hlSend
    · exact h
  · refine .foldl h fun t a h => ?_
    split
    · exact .ite h h.hlSend
    · exact h

theorem State.Evolves.hlQuiesce {n : Option Nat} (h : s.Evolves t) : s.Evolves (t.hlQuiesce n) := by
  unfold State.hlQuiesce
  exact .setHl (.foldl h fun _ _ h => h.abortWindow)

theorem State.Evolves.hlSkip {n a : Nat} (h : s.Evolves t) : s.Evolves (State.hlSkip n a t) := by
  induction a generalizing t with
  | zero => exact h
  | succ k ih =>
    unfold State.hlSkip
    split
    · exact .ite (ih h.hlReply) h
    · exact h

theorem State.Evolves.hlDone {n : Nat} {c : HCmd} {status : Nat} {payload : Bytes}
    (h : s.Evolves t) : s.Evolves (t.hlDone n c status payload) := by
  unfold State.hlDone
  exact h.hlReply.hlSkip

theorem State.Evolves.hlRun {n op : Nat} {f : HCmd → State → Nat × Bytes × State} (h : s.Evolves t)
    (hf : ∀ c t, s.Evolves t → s.Evolves (f c t).2.2) : s.Evolves (t.hlRun n op f) := by
  unfold State.hlRun
  split
  · exact h
  · refine .ite h ?_
    split
    · exact h.hlDone
    · exact (hf _ _ h).hlDone

theorem State.Evolves.hlSimple {n op : Nat} {f : HCmd → State → WRes} (h : s.Evolves t)
    (hf : ∀ c t, s.Evolves t → s.Evolves (f c t).2) : s.Evolves (t.hlSimple n op f) :=
  h.hlRun fun c t h => hf c t h

/-! ### The updates of Security -/

theorem State.Evolves.setSec {v : Sec} (h : s.Evolves t) : s.Evolves (t.setSec v) := by
  unfold State.setSec
  exact h.rest

theorem State.Evolves.draw {n : Nat} (h : s.Evolves t) : s.Evolves (t.draw n).2 := by
  unfold State.draw
  exact .mk_snd h.rest

theorem State.Evolves.lcAuthOk {addr target : Nat} (h : s.Evolves t) : s.Evolves (t.lcAuthOk addr target).2 := by
  unfold State.lcAuthOk
  dsimp only
  exact h.rd

theorem State.Evolves.killKeys (h : s.Evolves t) : s.Evolves t.killKeys := by
  unfold State.killKeys
  exact .restMem (.foldl h fun _ _ h => h.setGkey)

theorem State.Evolves.lcAccept {target : Nat} (h : s.Evolves t) : s.Evolves (t.lcAccept target) := by
  unfold State.lcAccept
  exact .scheduleReset (.ite h.setF.raise.setSec.killKeys h.setF.raise.setSec)

theorem State.Evolves.lcReq {m : Master} {v : Nat} (h : s.Evolves t) : s.Evolves (t.lcReq m v).2 := by
  unfold State.lcReq
  dsimp only
  split
  · exact h
  · split
    · exact h
    · split
      · exact .mk_snd h.setF
      · split
        · exact .mk_snd h.setF
        · exact .ite_snd h.setF (.ite_snd h.setF (.ite_snd h.lcAccept (.ite_snd h.lcAuthOk.lcAccept h.lcAuthOk.setF)))

theorem State.Evolves.killSessionKeys (h : s.Evolves t) : s.Evolves t.killSessionKeys := by
  unfold State.killSessionKeys
  exact .foldl h fun _ _ h => h.setSess

theorem State.Evolves.lcSettle (h : s.Evolves t) : s.Evolves t.lcSettle := by
  unfold State.lcSettle
  exact .ite (.ite h.hlQuiesce.killSessionKeys h.hlQuiesce) h

theorem State.Evolves.ownerProg {m : Master} {v : Nat} (h : s.Evolves t) : s.Evolves (t.ownerProg m v).2 := by
  unfold State.ownerProg
  dsimp only
  split
  · exact h
  · split
    · exact h
    · split
      · exact .mk_snd h.setF
      · split
        · exact .ite_snd h.setF h.setSec
        · exact .ite_snd h.setF h.setSec
        · exact .ite_snd h.setF h.setSec
        · exact h

theorem State.Evolves.retireProg {m : Master} {v : Nat} (h : s.Evolves t) : s.Evolves (t.retireProg m v).2 := by
  unfold State.retireProg
  exact .ite_snd h (.ite_snd h (.ite_snd h (.ite_snd (.mk_snd h.setF)
    (.ite_snd (.mk_snd h.setF) (.ite_snd (.mk_snd h.setF) h.setSec)))))

theorem State.Evolves.blow {j : SecJob} (h : s.Evolves t) : s.Evolves (t.blow j) := by
  unfold State.blow
  dsimp only
  split
  · exact h.rest.setF
  · exact h.rest.setF.closeWhere
  · exact h.rest.setF
  · exact h.rest.setF
  · exact h

theorem State.Leads.execFuseBlowDone (h : s.Evolves t) : s.Leads (execFuseBlowDone t) := by
  unfold Machine.execFuseBlowDone
  split
  · exact .next h.setSec.blow
  · exact .next h

theorem State.Evolves.commonReq {v : Nat} (h : s.Evolves t) : s.Evolves (t.commonReq v).2 := by
  unfold State.commonReq
  dsimp only
  exact .ite_snd h (.ite_snd h.setF.setF (.ite_snd h.setF.setF (.ite_snd h.setF.setF h.setF.setF.setSec)))

theorem State.Evolves.makeCommon {g : Nat} (h : s.Evolves t) : s.Evolves (t.makeCommon g) := by
  unfold State.makeCommon
  exact .setSec (.zeroGran (.setGkey (.ite h.restMem h)))

theorem State.Evolves.toOperator {g : Nat} (h : s.Evolves t) : s.Evolves (t.toOperator g) := by
  unfold State.toOperator
  exact h.setGkey.zeroGran

theorem State.Evolves.releaseCommon {g : Nat} (h : s.Evolves t) : s.Evolves (t.releaseCommon g) := by
  unfold State.releaseCommon
  dsimp only
  refine .setSec ?_
  split
  · exact h.toOperator.toOperator
  · exact h.toOperator

theorem State.Leads.execCommonRequestDone (h : s.Evolves t) : s.Leads (execCommonRequestDone t) := by
  unfold Machine.execCommonRequestDone
  split
  · exact .next (.ite h.setSec.setF (.ite h.setSec.setF.makeCommon h.setSec.setF.releaseCommon))
  · exact .next h

theorem State.Leads.execSbFatal {cause : Nat} (h : s.Evolves t) : s.Leads (execSbFatal cause t) := by
  unfold Machine.execSbFatal
  exact .next h.setSec.raise

theorem State.Evolves.debugCount (h : s.Evolves t) : s.Evolves t.debugCount := by
  unfold State.debugCount
  exact h.setSec

/-! ### The updates of Plots -/

theorem State.Evolves.copyGran {g z2 : Nat} (h : s.Evolves t) : s.Evolves (t.copyGran g z2) := by
  unfold State.copyGran
  dsimp only
  exact .foldl (.foldl h.setGkey.zeroGran fun _ c h => h.mem (Memory.wf_putBytes [c.2] _ _)) fun _ _ h => h.setPoison

theorem State.Evolves.pair {x : Nat × Nat} (h : s.Evolves t) : s.Evolves (t.pair x) := by
  unfold State.pair
  exact h.copyGran.setSec

theorem State.Evolves.talliesClear {p : Nat} (h : s.Evolves t) : s.Evolves (t.talliesClear p) := by
  unfold State.talliesClear
  exact .setF (.foldl (.dropWaits (.foldl h fun _ _ h => h.updRun)) fun _ _ h => h.setF)

theorem State.Evolves.redClear {p : Nat} (h : s.Evolves t) : s.Evolves (t.redClear p) := by
  unfold State.redClear
  exact .foldl h fun _ _ h => h.setF.setF

theorem State.Evolves.plotMake {p : Nat} {d : PlotDesc} (h : s.Evolves t) : s.Evolves (t.plotMake p d) := by
  unfold State.plotMake
  exact .raise (.redClear (.talliesClear (.setPlot (.foldl (.foldl h.restMem fun _ _ h => h.setGkey) fun _ _ h => h.pair))))

theorem State.Evolves.plotCreate {b : Bytes} (h : s.Evolves t) : s.Evolves (t.plotCreate b).2.2 := by
  unfold State.plotCreate
  split
  · exact .mk_snd_snd h.plotMake
  · exact h

theorem State.Leads.execPlotCreate {n : Nat} (h : s.Evolves t) : s.Leads (execPlotCreate n t) := by
  unfold Machine.execPlotCreate
  exact .next (.ite h (.hlRun h (fun _ _ h => h.plotCreate)))

theorem State.Evolves.windowsClear {p : Nat} (h : s.Evolves t) : s.Evolves (t.windowsClear p) := by
  unfold State.windowsClear
  exact .foldl h fun _ _ h => .foldl h fun _ _ h => h.setF

theorem State.Evolves.engAbandon {e : Nat} (h : s.Evolves t) : s.Evolves (t.engAbandon e) := by
  unfold State.engAbandon
  exact h.setEng.dropWaits

theorem State.Evolves.tearRecall {p : Nat} (h : s.Evolves t) : s.Evolves (t.tearRecall p) := by
  unfold State.tearRecall
  exact .foldl h fun _ _ h => h.askLine

theorem State.Evolves.tearBegin {p : Nat} (h : s.Evolves t) : s.Evolves (t.tearBegin p) := by
  unfold State.tearBegin
  exact .ite (.tearRecall (.mbReset (.foldl (.windowsClear (.foldl
    (.foldl (.foldl h.setPlot fun _ _ h => h.engAbandon) fun _ _ h => .ite h.shRelease h) fun _ _ h => h.qpReset))
    fun _ _ h => h.setIng.setF))) (.mbReset (.foldl (.windowsClear
    (.foldl (.foldl (.foldl h.setPlot fun _ _ h => h.engAbandon) fun _ _ h => .ite h.shRelease h) fun _ _ h => h.qpReset))
    fun _ _ h => h.setIng.setF))

theorem State.Evolves.plotTeardown {b : Bytes} (h : s.Evolves t) : s.Evolves (t.plotTeardown b).2 := by
  unfold State.plotTeardown
  dsimp only
  split
  · exact h
  · split
    · exact h
    · exact .mk_snd h.tearBegin

theorem State.Leads.execPlotTeardown {n : Nat} (h : s.Evolves t) : s.Leads (execPlotTeardown n t) := by
  unfold Machine.execPlotTeardown
  exact .next (.hlSimple h (fun _ _ h => h.plotTeardown))

theorem State.Evolves.engScrub {e : Nat} (h : s.Evolves t) : s.Evolves (t.engScrub e) := by
  unfold State.engScrub
  exact .foldl h.setEng fun _ _ h => .foldl h fun _ _ h => h.setF

theorem State.Evolves.tearEnd {p began : Nat} (h : s.Evolves t) : s.Evolves (t.tearEnd p began) := by
  unfold State.tearEnd
  dsimp only
  split
  · exact .tearRecall (.closeWhere (.raise (.setPlot (.redClear
      (.talliesClear (.foldl (.foldl h fun _ _ h => h.toOperator) fun _ _ h => h.engScrub))))))
  · exact .closeWhere (.raise (.setPlot (.redClear (.talliesClear
      (.foldl (.foldl h fun _ _ h => h.toOperator) fun _ _ h => h.engScrub)))))

theorem State.Leads.execPlotScrubbed {p : Nat} (h : s.Evolves t) : s.Leads (execPlotScrubbed p t) := by
  unfold Machine.execPlotScrubbed
  split
  · exact .next (.ite h h.tearEnd)
  · exact .next h

/-! ### The updates of Headland -/

theorem State.Evolves.discover {d : Datagram} (h : s.Evolves t) : s.Evolves (t.discover d) := by
  unfold State.discover
  split
  · exact .ite h.count h
  · exact .ite h.count h.setHl.hlEmit

theorem State.Leads.execDiscover {d : Datagram} (h : s.Evolves t) : s.Leads (execDiscover d t) := by
  unfold Machine.execDiscover
  exact .next (.ite h.discover h)

theorem State.Evolves.hlDrop (h : s.Evolves t) : s.Evolves t.hlDrop := by
  unfold State.hlDrop
  exact h.count.flag

theorem State.Evolves.openPart {d : Datagram} (h : s.Evolves t) : s.Evolves (t.openPart d) := by
  unfold State.openPart
  dsimp only
  split
  · exact h.hlDrop
  · split
    · exact .ite h.hlDrop h.setHl
    · exact h.setHl

theorem State.Evolves.hlAccept {d : Datagram} (h : s.Evolves t) : s.Evolves (t.hlAccept d) := by
  unfold State.hlAccept
  dsimp only
  split
  · exact .ite h.hlDrop h.setSess.hlSkip
  · split
    · exact h.count.hlSend
    · exact h.hlDrop

theorem State.Evolves.hlDatagram {d : Datagram} (h : s.Evolves t) : s.Evolves (t.hlDatagram d) := by
  unfold State.hlDatagram
  exact .ite h.hlDrop (.ite h.discover (.ite h.hlDrop (.ite h.hlDrop
    (.ite h.openPart (.ite h.hlDrop (.ite h.hlDrop h.hlAccept))))))

theorem State.Leads.execHeadlandDatagram {d : Datagram} (h : s.Evolves t) : s.Leads (execHeadlandDatagram d t) := by
  unfold Machine.execHeadlandDatagram
  exact .next (.ite h.hlDatagram h)

theorem State.Leads.execSessionOpenPartsTimeout {srcIp srcPort tag : Nat}
    (h : s.Evolves t) : s.Leads (execSessionOpenPartsTimeout srcIp srcPort tag t) := by
  unfold Machine.execSessionOpenPartsTimeout
  exact .next h.setHl

theorem State.Evolves.closeOldest (h : s.Evolves t) : s.Evolves t.closeOldest := by
  unfold State.closeOldest
  dsimp only
  split
  · exact h
  · split
    · exact h.sessClose
    · exact h

theorem State.Evolves.openSession {n : Nat} {a : OpenAsm} {b : Bytes} (h : s.Evolves t) : s.Evolves (t.openSession n a b) := by
  unfold State.openSession
  dsimp only
  exact h.draw.setHl.setSess.setSec.raise.hlSend

theorem State.Evolves.openRefuse {a : OpenAsm} {st : Nat} (h : s.Evolves t) : s.Evolves (t.openRefuse a st) := by
  unfold State.openRefuse
  exact h.hlSend

theorem State.Evolves.sessionOpen {a : OpenAsm} (h : s.Evolves t) : s.Evolves (t.sessionOpen a) := by
  unfold State.sessionOpen
  dsimp only
  split
  · exact h.count.hlDrop
  · split
    · exact h.openRefuse
    · split
      · exact h.openRefuse
      · split
        · exact h.openRefuse
        · split
          · exact h.closeOldest.openSession
          · exact h.closeOldest.openRefuse

theorem State.Leads.execSessionOpen {srcIp srcPort tag : Nat}
    (h : s.Evolves t) : s.Leads (execSessionOpen srcIp srcPort tag t) := by
  unfold Machine.execSessionOpen
  split
  · exact .next (.ite h.setHl.sessionOpen h)
  · exact .next h

theorem State.Leads.execSessionClose {n : Nat} (h : s.Evolves t) : s.Leads (execSessionClose n t) := by
  unfold Machine.execSessionClose
  refine .next ?_
  split
  · split <;> exact .ite h.hlReply.sessClose (.hlSimple h (fun _ _ h => .ite h.sessClose h))
  · exact h

theorem State.Leads.execSessionIdleTimeout {n : Nat} (h : s.Evolves t) : s.Leads (execSessionIdleTimeout n t) := by
  unfold Machine.execSessionIdleTimeout
  exact .next (.ite h h.sessClose)

theorem State.Leads.execSessionUnconfirmedTimeout {n : Nat} (h : s.Evolves t) : s.Leads (execSessionUnconfirmedTimeout n t) := by
  unfold Machine.execSessionUnconfirmedTimeout
  exact .next (.ite h h.sessClose)

theorem State.Evolves.replay {n fromSeq : Nat} (h : s.Evolves t) : s.Evolves (t.replay n fromSeq) := by
  unfold State.replay
  exact .ite h h.setSess

theorem State.Evolves.logReplay {n fromSeq : Nat} (h : s.Evolves t) : s.Evolves (t.logReplay n fromSeq) := by
  unfold State.logReplay
  dsimp only
  split
  · exact .ite h h.setSess
  · exact h

theorem State.Leads.execEventSubscribe {n : Nat} (h : s.Evolves t) : s.Leads (execEventSubscribe n t) := by
  unfold Machine.execEventSubscribe
  refine .next ?_
  split
  · exact .ite h.setSess.hlDone.replay.logReplay (.hlSimple h (fun _ _ h => h))
  · exact h

theorem State.Leads.execEventSend {n : Nat} (h : s.Evolves t) : s.Leads (execEventSend n t) := by
  unfold Machine.execEventSend
  dsimp only
  refine .next ?_
  split
  · exact h
  · split
    · exact h.setSess.txStrict
    · exact h.setSess.txStrict
    · exact h.setSess.txStrict
    · exact h

theorem State.Leads.execAttest {n : Nat} (h : s.Evolves t) : s.Leads (execAttest n t) := by
  unfold Machine.execAttest
  exact .next (.hlRun h (fun _ _ h => .ite_snd_snd h (.ite_snd_snd h h.setSec)))

/-! ### The updates of Mailbox -/

theorem State.Evolves.mbBind {v : Nat} (h : s.Evolves t) : s.Evolves (t.mbBind v).2 := by
  unfold State.mbBind
  dsimp only
  exact .ite_snd h (.ite_snd h (.rwlLock (.setHl (.setF (.foldl h.rd fun _ _ h => h.setMb)))))

theorem State.Evolves.mbMove {c : Nat} {v : Mbox} (h : s.Evolves t) : s.Evolves (t.mbMove c v).2 := by
  unfold State.mbMove
  exact .mk_snd h.setMb.mbNote

theorem State.Evolves.mbPost {c len : Nat} {m : Master} (h : s.Evolves t) : s.Evolves (t.mbPost c len m).2 := by
  unfold State.mbPost
  exact .ite_snd h (.ite_snd h (.ite_snd h h.mbMove))

theorem State.Evolves.mbTake {c : Nat} {m : Master} (h : s.Evolves t) : s.Evolves (t.mbTake c m).2 := by
  unfold State.mbTake
  exact .ite_snd h (.ite_snd h h.mbMove)

theorem State.Evolves.mbAck {c code : Nat} {m : Master} (h : s.Evolves t) : s.Evolves (t.mbAck c code m).2 := by
  unfold State.mbAck
  exact .ite_snd h (.ite_snd h h.mbMove)

theorem State.Evolves.mbClear {c : Nat} {m : Master} (h : s.Evolves t) : s.Evolves (t.mbClear c m).2 := by
  unfold State.mbClear
  exact .ite_snd h (.ite_snd h h.mbMove)

theorem State.Evolves.mbCtl {c v : Nat} {m : Master} (h : s.Evolves t) : s.Evolves (t.mbCtl c v m).2 := by
  unfold State.mbCtl
  split
  · exact h.mbPost
  · exact h.mbTake
  · exact h.mbAck
  · exact h.mbClear
  · exact h

theorem State.Evolves.mbSlot {c w v : Nat} {m : Master} (h : s.Evolves t) : s.Evolves (t.mbSlot c w v m).2 := by
  unfold State.mbSlot
  exact .ite_snd h (.ite_snd h h.setMb)

theorem State.Evolves.hlPost {n : Nat} {b : Bytes} (h : s.Evolves t) : s.Evolves (t.hlPost n b).2 := by
  unfold State.hlPost
  dsimp only
  split
  · exact h
  · split
    · exact h
    · exact .ite_snd h.mbPost.setMb h

theorem State.Leads.execMboxPost {n : Nat} (h : s.Evolves t) : s.Leads (execMboxPost n t) := by
  unfold Machine.execMboxPost
  exact .next (.hlSimple h (fun _ _ h => h.hlPost))

theorem State.Evolves.hlTake {n : Nat} {b : Bytes} (h : s.Evolves t) : s.Evolves (t.hlTake n b).2.2 := by
  unfold State.hlTake
  dsimp only
  split
  · exact h
  · split
    · exact h
    · exact .ite_snd_snd h (.ite_snd h.mbTake h.mbClear)

theorem State.Leads.execMboxTake {n : Nat} (h : s.Evolves t) : s.Leads (execMboxTake n t) := by
  unfold Machine.execMboxTake
  exact .next (.hlRun h (fun _ _ h => h.hlTake))

theorem State.Evolves.hlAck {n : Nat} {b : Bytes} (h : s.Evolves t) : s.Evolves (t.hlAck n b).2 := by
  unfold State.hlAck
  dsimp only
  split
  · exact h
  · split
    · exact h
    · exact h.mbAck

theorem State.Leads.execMboxAck {n : Nat} (h : s.Evolves t) : s.Leads (execMboxAck n t) := by
  unfold Machine.execMboxAck
  exact .next (.hlSimple h (fun _ _ h => h.hlAck))

theorem State.Evolves.heldWrite {k v : Nat} {m : Master} (h : s.Evolves t) : s.Evolves (t.heldWrite k v m).2 := by
  unfold State.heldWrite
  split
  · exact .ite_snd h.claim h.unclaim
  · exact h

theorem State.Evolves.hlClaim {n : Nat} {b : Bytes} (h : s.Evolves t) : s.Evolves (t.hlClaim n b).2.2 := by
  unfold State.hlClaim
  dsimp only
  split
  · exact h
  · split
    · exact h
    · exact h.claim

theorem State.Leads.execClaim {n : Nat} (h : s.Evolves t) : s.Leads (execClaim n t) := by
  unfold Machine.execClaim
  exact .next (.hlRun h (fun _ _ h => h.hlClaim))

theorem State.Evolves.hlRelease {n : Nat} {b : Bytes} (h : s.Evolves t) : s.Evolves (t.hlRelease n b).2 := by
  unfold State.hlRelease
  dsimp only
  split
  · exact h
  · split
    · exact h
    · exact h.unclaim

theorem State.Leads.execRelease {n : Nat} (h : s.Evolves t) : s.Leads (execRelease n t) := by
  unfold Machine.execRelease
  exact .next (.hlSimple h (fun _ _ h => h.hlRelease))

theorem State.Leads.execLock {n : Nat} (h : s.Evolves t) : s.Leads (execLock n t) := by
  unfold Machine.execLock
  dsimp only
  exact .next (.hlRun h (fun _ _ h => .ite_snd_snd h (.ite_snd_snd h h.lock)))

theorem State.Leads.execUnlock {n : Nat} (h : s.Evolves t) : s.Leads (execUnlock n t) := by
  unfold Machine.execUnlock
  exact .next (.hlSimple h (fun _ _ h => .ite_snd h (.ite_snd h h.unlock)))

theorem State.Leads.execFwLoad {n : Nat} (h : s.Evolves t) : s.Leads (execFwLoad n t) := by
  unfold Machine.execFwLoad
  exact .parkIf h (fun _ h => .next (.hlSimple h (fun _ _ h => .ite_snd h h.fwLoad)))

theorem State.Evolves.fwStartRow {n mode : Nat} (h : s.Evolves t) : s.Evolves (t.fwStartRow n mode) := by
  unfold State.fwStartRow
  split
  · exact .ite (.hlSimple h (fun _ _ h => .ite_snd h h.fwStart)) h
  · exact h

theorem State.Leads.execFwStartRun {n : Nat} (h : s.Evolves t) : s.Leads (execFwStartRun n t) := by
  unfold Machine.execFwStartRun
  exact .next h.fwStartRow

theorem State.Leads.execFwStartVerify {n : Nat} (h : s.Evolves t) : s.Leads (execFwStartVerify n t) := by
  unfold Machine.execFwStartVerify
  exact .next h.fwStartRow

theorem State.Leads.execFwStartStage {n : Nat} (h : s.Evolves t) : s.Leads (execFwStartStage n t) := by
  unfold Machine.execFwStartStage
  exact .parkIf h (fun _ h => .next h.fwStartRow)

theorem State.Leads.execFwStartClear {n : Nat} (h : s.Evolves t) : s.Leads (execFwStartClear n t) := by
  unfold Machine.execFwStartClear
  exact .next h.fwStartRow

theorem State.Leads.execTrain {n : Nat} (h : s.Evolves t) : s.Leads (execTrain n t) := by
  unfold Machine.execTrain
  exact .next (.hlSimple h (fun _ _ h => .ite_snd h h.train))

theorem State.Leads.execRecordReplay {n : Nat} (h : s.Evolves t) : s.Leads (execRecordReplay n t) := by
  unfold Machine.execRecordReplay
  exact .next (.hlSimple h (fun _ _ h => .ite_snd h h.recordReplay))

theorem State.Leads.execResetDevice {n : Nat} (h : s.Evolves t) : s.Leads (execResetDevice n t) := by
  unfold Machine.execResetDevice
  refine .next ?_
  split
  · exact .ite (.hlSimple h (fun _ _ h => h)) h.hlReply.hlQuiesce.scheduleReset
  · exact h

/-! ### The updates of Power -/

theorem State.Evolves.setZone {z : Nat} {v : Zone} (h : s.Evolves t) : s.Evolves (t.setZone z v) := by
  unfold State.setZone
  exact h.rest

theorem State.Evolves.halfOn {z cause : Nat} (h : s.Evolves t) : s.Evolves (t.halfOn z cause) := by
  unfold State.halfOn
  exact .ite h (.ite h.setMsite.updateCap.raise.flag.lagBegin h.setMsite.updateCap.raise.flag)

theorem State.Evolves.halfOff {z : Nat} (h : s.Evolves t) : s.Evolves (t.halfOff z) := by
  unfold State.halfOff
  exact .ite h.setMsite.updateCap.raise h

theorem State.Evolves.graceEnd {z cause : Nat} (h : s.Evolves t) : s.Evolves (t.graceEnd z cause) := by
  unfold State.graceEnd
  exact .ite h.setZone.raise h

theorem State.Evolves.graceStart {z : Nat} (h : s.Evolves t) : s.Evolves (t.graceStart z) := by
  unfold State.graceStart
  exact .ite (.ite h.setZone.raise.graceEnd h.setZone.raise) h

theorem State.Evolves.putLevel {z : Nat} {stk : Bool} {new : Nat} (h : s.Evolves t) : s.Evolves (t.putLevel z stk new) := by
  unfold State.putLevel
  exact .ite h (.ite h.setF.raiseLimited (.ite h.setF.raiseLimited.graceStart
    (.ite h.setF.raiseLimited.graceEnd (.ite h.setF.raiseLimited.graceEnd h.setF.raiseLimited))))

theorem State.Evolves.zoneLevels {z : Nat} (h : s.Evolves t) : s.Evolves (t.zoneLevels z) := by
  unfold State.zoneLevels
  exact .ite h h.putLevel.putLevel

theorem State.Evolves.siteStop {n : Nat} (h : s.Evolves t) : s.Evolves (t.siteStop n) := by
  unfold State.siteStop
  exact h.linkCut.setF.setLink.mbReset.siteCapSet

theorem State.Evolves.engStop {e : Nat} (h : s.Evolves t) : s.Evolves (t.engStop e) := by
  unfold State.engStop
  exact h.setEng.dropWaits

theorem State.Evolves.protStop {cause zone sensor temp rail : Nat}
    (h : s.Evolves t) : s.Evolves (t.protStop cause zone sensor temp rail) := by
  unfold State.protStop
  exact .ite h (.railsFollow (.raise (.ccHalted (.stopDoms (.sheafStop
    (.foldl (.foldl h.setF.flag.setF.setF.setF.setF fun _ _ h => h.engStop) fun _ _ h => h.siteStop))))))

theorem State.Evolves.coolNow {z : Nat} (h : s.Evolves t) : s.Evolves (t.coolNow z) := by
  unfold State.coolNow
  exact .ite h.setF (.ite h.setF.putStep.stepVolt.setZone h.setF.setF.setZone)

theorem State.Evolves.heat {z : Nat} (h : s.Evolves t) : s.Evolves (t.heat z) := by
  unfold State.heat
  exact .ite h (.ite h.protStop (.ite h.protStop (.ite h.coolNow.halfOn h)))

theorem State.Evolves.zoneRead {z : Nat} (h : s.Evolves t) : s.Evolves (t.zoneRead z) := by
  unfold State.zoneRead
  exact h.zoneLevels.heat

theorem State.Leads.execMemTempReading {n : Nat} {q2 : Option ℤ} (h : s.Evolves t) : s.Leads (execMemTempReading n q2 t) := by
  unfold Machine.execMemTempReading
  dsimp only
  refine .next ?_
  split
  · exact h
  · refine .zoneRead ?_
    split
    · exact .ite h.stackReading.setF.setZone h.stackReading
    · exact h.stackReading

theorem State.Leads.execHubSensorReading {z : Nat} {readings : List (Option ℤ)}
    (h : s.Evolves t) : s.Leads (execHubSensorReading z readings t) := by
  unfold Machine.execHubSensorReading
  dsimp only
  refine .next ?_
  split
  · exact h
  · split
    · exact .zoneRead (.ite h.setZone.setF.setF.setF h.setZone.setF.setF)
    · exact .ite h.setZone.setF.setF.flag.raise.zoneRead h.setZone

theorem State.Evolves.tickZone {z : Nat} (h : s.Evolves t) : s.Evolves (t.tickZone z) := by
  unfold State.tickZone
  exact .ite (.ite h.setF h) (.ite (.zoneRead (.ite h.setF h))
    (.ite (.halfOff (.ite (.setF (.ite (.halfOn (.ite (.zoneRead (.ite h.setF h)) (.graceEnd (.zoneRead (.ite h.setF h)))))
    (.ite (.zoneRead (.ite h.setF h)) (.graceEnd (.zoneRead (.ite h.setF h))))))
    (.ite (.halfOn (.ite (.zoneRead (.ite h.setF h)) (.graceEnd (.zoneRead (.ite h.setF h)))))
    (.ite (.zoneRead (.ite h.setF h)) (.graceEnd (.zoneRead (.ite h.setF h)))))))
    (.ite (.setF (.ite (.halfOn (.ite (.zoneRead (.ite h.setF h)) (.graceEnd (.zoneRead (.ite h.setF h)))))
    (.ite (.zoneRead (.ite h.setF h)) (.graceEnd (.zoneRead (.ite h.setF h))))))
    (.ite (.halfOn (.ite (.zoneRead (.ite h.setF h)) (.graceEnd (.zoneRead (.ite h.setF h)))))
    (.ite (.zoneRead (.ite h.setF h)) (.graceEnd (.zoneRead (.ite h.setF h))))))))

theorem State.Evolves.putEstimates {est : List Nat} (h : s.Evolves t) : s.Evolves (t.putEstimates est) := by
  unfold State.putEstimates
  exact .foldl h fun _ _ h => h.setF.setF.setF

theorem State.Evolves.tickPower {est : List Nat} (h : s.Evolves t) : s.Evolves (t.tickPower est) := by
  unfold State.tickPower
  exact .ite h.putEstimates.rest.setF (.ite (.flag (.raiseLimited (.foldl h.putEstimates.rest.setF fun _ _ h => h.setF)))
    (.foldl h.putEstimates.rest.setF fun _ _ h => h.setF))

theorem State.Evolves.tickStep {e : Nat} (h : s.Evolves t) : s.Evolves (t.tickStep e) := by
  unfold State.tickStep
  exact .ite h (.ite h.setF.setZone (.ite h (.setZone (.ite h.putStep.stepVolt h.stepVolt))))

theorem State.Evolves.tickTime {z : Nat} (h : s.Evolves t) : s.Evolves (t.tickTime z) := by
  unfold State.tickTime
  exact .ite (.count (.ite h.count h)) (.ite h.count h)

theorem State.Leads.execGovernorTick {est : List Nat} (h : s.Evolves t) : s.Leads (execGovernorTick est t) := by
  unfold Machine.execGovernorTick
  exact .next (.ite h (.ite (.foldl h fun _ _ h => h.tickZone)
    (.foldl (.foldl (.tickPower (.foldl h fun _ _ h => h.tickZone)) fun _ _ h => h.tickStep) fun _ _ h => h.tickTime)))

theorem State.Leads.execGraceExpiry {z : Nat} (h : s.Evolves t) : s.Leads (execGraceExpiry z t) := by
  unfold Machine.execGraceExpiry
  exact .next h.graceEnd

theorem State.Leads.execCapRise {z : Nat} (h : s.Evolves t) : s.Leads (execCapRise z t) := by
  unfold Machine.execCapRise
  exact .next (.ite h (.ite (.setF (.ite h.setF h)) (.ite h.setF h)))

theorem State.Leads.execDvfsChangeDone {e : Nat} (h : s.Evolves t) : s.Leads (execDvfsChangeDone e t) := by
  unfold Machine.execDvfsChangeDone
  split
  · exact .next (.ite h.setZone.putStep h.setZone)
  · exact .next h

theorem State.Evolves.railFaulted {r word : Nat} (h : s.Evolves t) : s.Evolves (t.railFaulted r word) := by
  unfold State.railFaulted
  exact .ite h (.ite h.rest.flag.raise.engineFault (.ite h.rest.flag.raise.protStop h.rest.flag.raise.siteFailed))

theorem State.Leads.execPwrRailFault {r statusWord : Nat} (h : s.Evolves t) : s.Leads (execPwrRailFault r statusWord t) := by
  unfold Machine.execPwrRailFault
  exact .next h.railFaulted

theorem State.Evolves.railRead {x : RailReading} (h : s.Evolves t) : s.Evolves (t.railRead x) := by
  unfold State.railRead
  dsimp only
  exact .ite h (.ite h.freeBelow.railFaulted (.ite h.setF.setF.setF h.setF.setF.setF.raiseLimited.flag))

theorem State.Leads.execPmbusPoll {readings : List RailReading} (h : s.Evolves t) : s.Leads (execPmbusPoll readings t) := by
  unfold Machine.execPmbusPoll
  exact .next (.ite h (.foldl h fun _ _ h => h.railRead))

theorem State.Leads.execPmbAlert {words : List (Nat × Nat)} (h : s.Evolves t) : s.Leads (execPmbAlert words t) := by
  unfold Machine.execPmbAlert
  exact .next (.ite h (.foldl h fun _ _ h => .ite h.railFaulted h))

theorem State.Leads.execSitePowerAverage {n avgW peakW : Nat}
    (h : s.Evolves t) : s.Leads (execSitePowerAverage n avgW peakW t) := by
  unfold Machine.execSitePowerAverage
  dsimp only
  exact .next (.ite h (.ite (.railFaulted (.freeBelow (.ite h.setF.setF.raiseLimited.flag h.setF.setF)))
    (.ite h.setF.setF.raiseLimited.flag h.setF.setF)))

/-! ### The updates of Telemetry -/

theorem State.Evolves.telSnap {v : Nat} (h : s.Evolves t) : s.Evolves (t.telSnap v).2 := by
  unfold State.telSnap
  dsimp only
  exact .ite_snd h (.setTel (.setF (.foldl h fun _ _ h => h.freeBelow.setF)))

theorem State.Leads.execSnapCaptureDone (h : s.Evolves t) : s.Leads (execSnapCaptureDone t) := by
  unfold Machine.execSnapCaptureDone
  exact .next h.setTel

theorem State.Evolves.telCo {v : Nat} (h : s.Evolves t) : s.Evolves (t.telCo v).2 := by
  unfold State.telCo
  exact .ite_snd h (.ite_snd h (.ite_snd h.coOpen (.ite_snd h.coClose h)))

theorem State.Evolves.waysLeave (h : s.Evolves t) : s.Evolves t.waysLeave := by
  unfold State.waysLeave
  exact .foldl h.rest fun _ _ h => h.llcDrop

theorem State.Leads.execTelCoState (h : s.Evolves t) : s.Leads (execTelCoState t) := by
  unfold Machine.execTelCoState
  exact .ite (.next h) (.next (.raise (.setF (.setTel (.ite h.waysLeave h)))))

theorem State.Evolves.telRegion {i v : Nat} (h : s.Evolves t) : s.Evolves (t.telRegion i v).2 := by
  unfold State.telRegion
  exact .ite_snd h (.ite_snd (.setTel (.foldl (.foldl h fun _ _ h => h.setF) fun _ _ h => h.setF))
    (.foldl h fun _ _ h => h.setF))

theorem State.Evolves.telExport {v : Nat} (h : s.Evolves t) : s.Evolves (t.telExport v).2 := by
  unfold State.telExport
  exact .ite_snd h.setF (.ite_snd h (.ite_snd h.setF.setF.setTel h.setF))

theorem State.Leads.execTelExportDone (h : s.Evolves t) : s.Leads (execTelExportDone t) := by
  unfold Machine.execTelExportDone
  dsimp only
  refine .parkIf h fun t h => ?_
  refine .next ?_
  split
  · exact h.setTel.wr.setF.raise
  · exact h

theorem State.Leads.execGleanSample {m : Nat} (h : s.Evolves t) : s.Leads (execGleanSample m t) := by
  unfold Machine.execGleanSample
  split
  · exact .next h
  · split
    · exact .next h.glnSample
    · exact .next h

theorem State.Leads.execGleanEpoch {m : Nat} (h : s.Evolves t) : s.Leads (execGleanEpoch m t) := by
  unfold Machine.execGleanEpoch
  exact .ite (.next h) (.next h.coWrite.setGln)

theorem State.Evolves.glnStart {m : Nat} (h : s.Evolves t) : s.Evolves (t.glnStart m) := by
  unfold State.glnStart
  exact h.setF.setF.setGln

theorem State.Evolves.prbStart {k : Nat} (h : s.Evolves t) : s.Evolves (t.prbStart k) := by
  unfold State.prbStart
  exact h.setF.setF

theorem State.Leads.execTrigOutPulseEnd (h : s.Evolves t) : s.Leads (execTrigOutPulseEnd t) := by
  unfold Machine.execTrigOutPulseEnd
  exact .next (.ite h.setTel.emit h)

theorem State.Evolves.dbgRead {store array unit off : Nat} (h : s.Evolves t) : s.Evolves (t.dbgRead store array unit off).2 := by
  unfold State.dbgRead
  dsimp only
  split
  · exact .mk_snd h.tmMeet
  · exact .ite_snd h h.freeBelow
  · split
    · exact h
    · exact .mk_snd h.freeBelow
  · exact h
  · exact h
  · exact .mk_snd h.freeBelow

theorem State.Evolves.dbgWay {way unit off : Nat} {b : Bytes} (h : s.Evolves t) : s.Evolves (t.dbgWay way unit off b) := by
  unfold State.dbgWay
  dsimp only
  split
  · exact h.freeBelow.setTel
  · split
    · exact h.freeBelow.storeIn
    · exact h.freeBelow

theorem State.Evolves.dbgWrite {store array way unit off v : Nat}
    (h : s.Evolves t) : s.Evolves (t.dbgWrite store array way unit off v) := by
  unfold State.dbgWrite
  dsimp only
  split
  · exact h.setEng
  · exact h.setEng
  · exact h.setStream
  · exact h.setEng
  · exact h.dbgWay
  · exact h.rest
  · exact h

theorem State.Evolves.dbgData {w : Option Nat} (h : s.Evolves t) : s.Evolves (t.dbgData w).2.2 := by
  unfold State.dbgData
  dsimp only
  refine .ite_snd_snd h.touchAll (.mk_snd_snd (.setF ?_))
  split
  · exact h.touchAll.dbgWrite
  · exact h.touchAll.dbgRead

theorem State.Evolves.haltEngine {action e : Nat} (h : s.Evolves t) : s.Evolves (t.haltEngine action e).2 := by
  unfold State.haltEngine
  dsimp only
  split
  · exact .mk_snd h.touchAll
  · split
    · exact .mk_snd h.touchAll
    · split
      · exact .mk_snd (.ite h.touchAll h.touchAll.setEng.raise)
      · exact .mk_snd (.ite h.touchAll.setEng.raise h.touchAll)
      · exact .mk_snd (.ite h.touchAll.setEng.raise h.touchAll)

theorem State.Evolves.haltCore {action c : Nat} (h : s.Evolves t) : s.Evolves (t.haltCore action c).2 := by
  unfold State.haltCore
  dsimp only
  split
  · exact .mk_snd (.ite h h.rest.raise)
  · exact .mk_snd (.ite h.rest.raise h)
  · exact .mk_snd (.ite h.raise h)

theorem State.Evolves.debugHalt {cls unit action : Nat} (h : s.Evolves t) : s.Evolves (t.debugHalt cls unit action).2 := by
  unfold State.debugHalt
  exact .ite_snd h (.ite_snd h.haltEngine (.ite_snd h.haltCore h))

theorem State.Evolves.atbCfg {j v : Nat} (h : s.Evolves t) : s.Evolves (t.atbCfg j v).2 := by
  unfold State.atbCfg
  exact .ite_snd h (.ite_snd h (.ite_snd (.emit (.setTel (.foldl h fun _ _ h => h.setF)))
    (.ite_snd (.emit (.foldl h fun _ _ h => h.setF)) (.foldl h fun _ _ h => h.setF))))

theorem State.Leads.execAtbNewConnection {j : Nat} (h : s.Evolves t) : s.Leads (execAtbNewConnection j t) := by
  unfold Machine.execAtbNewConnection
  exact .next (.ite h.setTel.emit h)

/-! ### The updates of RegRead -/

theorem State.Evolves.clearRc {r : Reg} {i j : Nat} (h : s.Evolves t) : s.Evolves (t.clearRc r i j) := by
  unfold State.clearRc
  exact .foldl (.ite h.setMsite (.ite h.rest h)) fun _ _ h => .ite (.foldl h fun _ _ h => h.setF) h

theorem State.Evolves.regRead {m : Master} {off len : Nat} (h : s.Evolves t) : s.Evolves (t.regRead m off len).2.2 := by
  unfold State.regRead
  dsimp only
  split
  · exact h
  · split
    · exact h
    · split
      · exact h
      · exact .ite_snd_snd h.lpsRead (.ite_snd_snd h.dbgData (.ite h h.clearRc))

/-! ### The updates of RegWrite -/

theorem State.Evolves.putFields {r : Reg} {i j v : Nat} {but : List Fid}
    (h : s.Evolves t) : s.Evolves (t.putFields r i j v but) := by
  unfold State.putFields
  dsimp only
  refine .foldl h fun t a h => ?_
  split
  · exact h
  · refine .foldl h fun t a h => ?_
    split
    · exact h.setF
    · exact h.setF
    · exact h.setF
    · exact h

theorem State.Evolves.ccEnChanged (h : s.Evolves t) : s.Evolves t.ccEnChanged := by
  unfold State.ccEnChanged
  exact .ite h (.foldl h fun _ _ h => .ite h.setF h)

theorem State.Evolves.ethCfg {v : Nat} (h : s.Evolves t) : s.Evolves (t.ethCfg v) := by
  unfold State.ethCfg
  exact .ethCfgMode (.ite h.putFields.ccEnChanged h.putFields)

theorem State.Evolves.qpCtl {q v : Nat} (h : s.Evolves t) : s.Evolves (t.qpCtl q v).2 := by
  unfold State.qpCtl
  dsimp only
  exact .ite_snd h (.ite_snd (.ite h.putFields.qpToState h.putFields.qpToState.sheafSettle) (.ite h.flag h))

theorem State.Evolves.putUnless {busy : Bool} {r : Reg} {i j v : Nat}
    (h : s.Evolves t) : s.Evolves (t.putUnless busy r i j v).2 := by
  unfold State.putUnless
  exact .ite_snd h h.putFields

theorem State.Evolves.putIdle {r : Reg} {x j v : Nat} (h : s.Evolves t) : s.Evolves (t.putIdle r x j v).2 := by
  unfold State.putIdle
  exact h.putUnless

theorem State.Evolves.glnCfg {m v : Nat} (h : s.Evolves t) : s.Evolves (t.glnCfg m v).2 := by
  unfold State.glnCfg
  exact .ite_snd h (.ite h.putFields.glnStart h.putFields)

theorem State.Evolves.prbCfgWrite {k v : Nat} (h : s.Evolves t) : s.Evolves (t.prbCfgWrite k v).2 := by
  unfold State.prbCfgWrite
  exact .ite h.putFields.prbStart h.putFields

theorem State.Evolves.write0 {r : Reg} {i j v : Nat} (h : s.Evolves t) : s.Evolves (t.write0 r i j v).2 := by
  unfold State.write0
  split
  · exact h.glbResetReq
  · exact h.ccReady
  · exact h.ccKick
  · exact h.clkDomCfg
  · exact .ite_snd h.clkRelease h
  · exact .ite_snd h h.fallowReq
  · exact h.putUnless
  · exact .mk_snd h.putFields

theorem State.Evolves.write1 {r : Reg} {i j v : Nat} (h : s.Evolves t) : s.Evolves (t.write1 r i j v).2 := by
  unfold State.write1
  split
  · exact h.ringField
  · exact h.ringField
  · exact h.ringField
  · exact h.wqCfg
  · exact h.wqTail
  · exact h.cqHead
  · exact h.lpsIndex
  · exact h.lpsWrite
  · exact .mk_snd h.putFields.rwlLock
  · exact .ite_snd h.memInitStart h
  · exact .mk_snd h.putFields

theorem State.Evolves.write3 {r : Reg} {i j v : Nat} (h : s.Evolves t) : s.Evolves (t.write3 r i j v).2 := by
  unfold State.write3
  split
  · exact h.siteCtl
  · exact .ite_snd h.qosCommit h
  · exact .mk_snd h.ethCfg
  · exact h.qpCtl
  · exact h.putUnless
  · exact h.putUnless
  · exact h.putUnless
  · exact h.putUnless
  · exact h.putUnless
  · exact h.putUnless
  · exact h.putUnless
  · exact h.putUnless
  · exact h.qpSqTail
  · exact h.qpRqTail
  · exact h.qpCqHead
  · exact h.qpRateMax
  · exact h.ingCfg
  · exact h.putUnless
  · exact h.putUnless
  · exact h.putUnless
  · exact h.putUnless
  · exact h.putUnless
  · exact h.putIdle
  · exact h.putIdle
  · exact h.putIdle
  · exact h.putIdle
  · exact h.putIdle
  · exact h.putIdle
  · exact h.putIdle
  · exact h.putIdle
  · exact h.shCtl
  · exact .ite_snd h.shNbrQp h
  · exact h.putIdle
  · exact .mk_snd h.putFields

theorem State.Evolves.write7 {m : Master} {r : Reg} {i j v : Nat} (h : s.Evolves t) : s.Evolves (t.write7 m r i j v).2 := by
  unfold State.write7
  dsimp only
  split
  · exact h.tallyWrite
  · exact h.tallyAdd
  · exact h.heldWrite
  · exact h.mbBind
  · exact h.mbSlot
  · exact .ite_snd h h.mbCtl
  · exact .ite_snd h.lcReq h
  · exact .ite_snd h h.ownerProg
  · exact .ite_snd h h.commonReq
  · exact .ite_snd h.retireProg h
  · exact .ite_snd h h.putFields
  · exact h.telSnap
  · exact h.telCo
  · exact .ite_snd h.telRegion h
  · exact h.telExport
  · exact .mk_snd h.dbgData
  · exact h.atbCfg
  · exact h.glnCfg
  · exact h.prbCfgWrite
  · exact .mk_snd h.putFields

theorem State.Evolves.regApply {m : Master} {r : Reg} {i j off v : Nat}
    (h : s.Evolves t) : s.Evolves (t.regApply m r i j off v).2 := by
  unfold State.regApply
  exact .ite_snd h.write1 (.ite_snd h.write0 (.ite_snd h.write3 h.write7))

theorem State.Evolves.regWrite {m : Master} {off len v : Nat} (h : s.Evolves t) : s.Evolves (t.regWrite m off len v).2 := by
  unfold State.regWrite
  split
  · exact h
  · split
    · exact h
    · split
      · exact h
      · exact .ite_snd h h.regApply

theorem State.Evolves.debugMark {m : Master} {off : Nat} (h : s.Evolves t) : s.Evolves (t.debugMark m off) := by
  unfold State.debugMark
  exact .ite h.touchAll h

theorem State.Evolves.ctlWrite {m : Master} {pa len v : Nat} (h : s.Evolves t) : s.Evolves (t.ctlWrite m pa len v).2 := by
  unfold State.ctlWrite
  split
  · exact h
  · exact h.debugMark.regWrite

theorem State.Evolves.ctlRead {m : Master} {pa len : Nat} (h : s.Evolves t) : s.Evolves (t.ctlRead m pa len).2.2 := by
  unfold State.ctlRead
  split
  · exact h
  · exact h.debugMark.regRead

theorem State.Evolves.ctlAccess {m : Master} {pa len : Nat} {write : Bool} {f : State → Nat × Nat × State} (h : s.Evolves t)
    (hf : ∀ t, s.Evolves t → s.Evolves (f t).2.2) : s.Evolves (t.ctlAccess m pa len write f).2.2 := by
  unfold State.ctlAccess
  dsimp only
  split
  · exact .mk_snd_snd h.unmappedAt
  · split
    · exact .mk_snd_snd h.unitIssue
    · split
      · exact .mk_snd_snd h.unitIssue.unitDone
      · exact .mk_snd_snd (hf _ h.unitIssue).unitDone

theorem State.Evolves.askWrite {m : Master} {pa len v : Nat} (h : s.Evolves t) : s.Evolves (t.askWrite m pa len v).2 := by
  unfold State.askWrite
  dsimp only
  exact .ctlAccess h (fun _ h => h.ctlWrite)

theorem State.Evolves.askRead {m : Master} {pa len : Nat} (h : s.Evolves t) : s.Evolves (t.askRead m pa len).2.2 := by
  unfold State.askRead
  exact .ctlAccess h (fun _ h => h.ctlRead)

/-! ### The updates of RegRows -/

theorem State.Evolves.accessEnd {m : Master} {st v : Nat} (h : s.Evolves t) : s.Evolves (t.accessEnd m st v) := by
  unfold State.accessEnd
  split <;> exact h.emit

theorem State.Evolves.sendWrite {m : Master} {pa len v : Nat} (h : s.Evolves t) : s.Evolves (t.sendWrite m pa len v) := by
  unfold State.sendWrite
  dsimp only
  split
  · exact h
  · refine .lcSettle ?_
    refine .accessEnd ?_
    split
    · exact h
    · exact h.askWrite

theorem State.Evolves.sendRead {m : Master} {pa len : Nat} (h : s.Evolves t) : s.Evolves (t.sendRead m pa len) := by
  unfold State.sendRead
  dsimp only
  split
  · exact h
  · refine .accessEnd ?_
    split
    · exact h
    · exact h.askRead

theorem State.Evolves.regSend {m : Master} {r : Reg} {i j v : Nat} (h : s.Evolves t) : s.Evolves (t.regSend m r i j v) := by
  unfold State.regSend
  split
  · exact h.sendWrite
  · exact h

theorem State.Leads.execRegisterWrite {m : Master} {addr len : Nat} {v : Word}
    (h : s.Evolves t) : s.Leads (execRegisterWrite m addr len v t) := by
  unfold Machine.execRegisterWrite
  exact .parkIf h (fun _ h => .next h.sendWrite)

theorem State.Leads.regWait {m : Master} {r : Reg} {i j v : Nat} (h : s.Evolves t) : s.Leads (t.regWait m r i j v) := by
  unfold State.regWait
  split
  · exact .execRegisterWrite h
  · exact .next h

theorem State.Leads.execReadClear {m : Master} {addr len : Nat} (h : s.Evolves t) : s.Leads (execReadClear m addr len t) := by
  unfold Machine.execReadClear
  exact .next h.sendRead

theorem State.Leads.execCeLpsData {m : Master} {e : Nat} {w : Option Word}
    (h : s.Evolves t) : s.Leads (execCeLpsData m e w t) := by
  unfold Machine.execCeLpsData
  refine .next ?_
  split
  · exact h.sendWrite
  · exact h.sendRead
  · exact h

theorem State.Leads.execDbgData {m : Master} {w : Option Word} (h : s.Evolves t) : s.Leads (execDbgData m w t) := by
  unfold Machine.execDbgData
  refine .next ?_
  split
  · exact h.sendWrite
  · exact h.sendRead
  · exact h

theorem State.Leads.execHeldClaim {m : Master} {k : Nat} (h : s.Evolves t) : s.Leads (execHeldClaim m k t) := by
  unfold Machine.execHeldClaim
  exact .next h.regSend

theorem State.Leads.execHeldRelease {m : Master} {k : Nat} (h : s.Evolves t) : s.Leads (execHeldRelease m k t) := by
  unfold Machine.execHeldRelease
  exact .next h.regSend

theorem State.Leads.execGlbResetReq {m : Master} {v : Word} (h : s.Evolves t) : s.Leads (execGlbResetReq m v t) := by
  unfold Machine.execGlbResetReq
  exact .next h.regSend

theorem State.Leads.execClkDomCfgWrite {m : Master} {d : Nat} {v : Word}
    (h : s.Evolves t) : s.Leads (execClkDomCfgWrite m d v t) := by
  unfold Machine.execClkDomCfgWrite
  exact .next h.regSend

theorem State.Leads.execClkRelease {m : Master} {v : Word} (h : s.Evolves t) : s.Leads (execClkRelease m v t) := by
  unfold Machine.execClkRelease
  exact .next h.regSend

theorem State.Leads.execCcWdtKick {m : Master} {v : Word} (h : s.Evolves t) : s.Leads (execCcWdtKick m v t) := by
  unfold Machine.execCcWdtKick
  exact .next h.regSend

theorem State.Leads.execCcReady {m : Master} {v : Word} (h : s.Evolves t) : s.Leads (execCcReady m v t) := by
  unfold Machine.execCcReady
  exact .next h.regSend

theorem State.Leads.execMemInitStart {m : Master} {v : Word} (h : s.Evolves t) : s.Leads (execMemInitStart m v t) := by
  unfold Machine.execMemInitStart
  exact .next h.regSend

theorem State.Leads.execEngineFallow {m : Master} {v : Word} (h : s.Evolves t) : s.Leads (execEngineFallow m v t) := by
  unfold Machine.execEngineFallow
  exact .next h.regSend

theorem State.Leads.execEngineWake {m : Master} {v : Word} (h : s.Evolves t) : s.Leads (execEngineWake m v t) := by
  unfold Machine.execEngineWake
  exact .next h.regSend

theorem State.Leads.execSiteFallow {m : Master} {v : Word} (h : s.Evolves t) : s.Leads (execSiteFallow m v t) := by
  unfold Machine.execSiteFallow
  exact .next h.regSend

theorem State.Leads.execSiteWake {m : Master} {v : Word} (h : s.Evolves t) : s.Leads (execSiteWake m v t) := by
  unfold Machine.execSiteWake
  exact .next h.regSend

theorem State.Leads.execCeWqTail {m : Master} {e q : Nat} {v : Word} (h : s.Evolves t) : s.Leads (execCeWqTail m e q v t) := by
  unfold Machine.execCeWqTail
  exact .next h.regSend

theorem State.Leads.execCeCqHead {m : Master} {e q : Nat} {v : Word} (h : s.Evolves t) : s.Leads (execCeCqHead m e q v t) := by
  unfold Machine.execCeCqHead
  exact .next h.regSend

theorem State.Leads.execQueueEnable {m : Master} {e q : Nat} {v : Word}
    (h : s.Evolves t) : s.Leads (execQueueEnable m e q v t) := by
  unfold Machine.execQueueEnable
  exact .next h.regSend

theorem State.Leads.execQueueDisable {m : Master} {e q : Nat} {v : Word}
    (h : s.Evolves t) : s.Leads (execQueueDisable m e q v t) := by
  unfold Machine.execQueueDisable
  exact .next h.regSend

theorem State.Leads.execResume {m : Master} {e q : Nat} {v : Word} (h : s.Evolves t) : s.Leads (execResume m e q v t) := by
  unfold Machine.execResume
  exact .next h.regSend

theorem State.Leads.execTallySignal {m : Master} {z1 : Nat} {v : Word} (h : s.Evolves t) : s.Leads (execTallySignal m z1 v t) := by
  unfold Machine.execTallySignal
  exact .next h.regSend

theorem State.Leads.execTallyValue {m : Master} {z1 : Nat} {v : Word} (h : s.Evolves t) : s.Leads (execTallyValue m z1 v t) := by
  unfold Machine.execTallyValue
  exact .next h.regSend

theorem State.Leads.execQosCommitGo {m : Master} {v : Word} (h : s.Evolves t) : s.Leads (execQosCommitGo m v t) := by
  unfold Machine.execQosCommitGo
  exact .next h.regSend

theorem State.Leads.execSiteRetest {m : Master} {n : Nat} {v : Word} (h : s.Evolves t) : s.Leads (execSiteRetest m n v t) := by
  unfold Machine.execSiteRetest
  exact .next h.regSend

theorem State.Leads.execChipletReset {m : Master} {n : Nat} {v : Word} (h : s.Evolves t) : s.Leads (execChipletReset m n v t) := by
  unfold Machine.execChipletReset
  exact .next h.regSend

theorem State.Leads.execSiteRetrain {m : Master} {n : Nat} {v : Word} (h : s.Evolves t) : s.Leads (execSiteRetrain m n v t) := by
  unfold Machine.execSiteRetrain
  exact .next h.regSend

theorem State.Leads.execEthRetrain {m : Master} {v : Word} (h : s.Evolves t) : s.Leads (execEthRetrain m v t) := by
  unfold Machine.execEthRetrain
  exact .next h.regSend

theorem State.Leads.execEthModeChange {m : Master} {v : Word} (h : s.Evolves t) : s.Leads (execEthModeChange m v t) := by
  unfold Machine.execEthModeChange
  exact .next h.regSend

theorem State.Leads.execQpToInit {m : Master} {q : Nat} {v : Word} (h : s.Evolves t) : s.Leads (execQpToInit m q v t) := by
  unfold Machine.execQpToInit
  exact .next h.regSend

theorem State.Leads.execQpToRtr {m : Master} {q : Nat} {v : Word} (h : s.Evolves t) : s.Leads (execQpToRtr m q v t) := by
  unfold Machine.execQpToRtr
  exact .next h.regSend

theorem State.Leads.execQpToRts {m : Master} {q : Nat} {v : Word} (h : s.Evolves t) : s.Leads (execQpToRts m q v t) := by
  unfold Machine.execQpToRts
  exact .next h.regSend

theorem State.Leads.execQpToReset {m : Master} {q : Nat} {v : Word} (h : s.Evolves t) : s.Leads (execQpToReset m q v t) := by
  unfold Machine.execQpToReset
  exact .next h.regSend

theorem State.Leads.execQpToError {m : Master} {q : Nat} {v : Word} (h : s.Evolves t) : s.Leads (execQpToError m q v t) := by
  unfold Machine.execQpToError
  exact .regWait h

theorem State.Leads.execEthQpSqTail {m : Master} {q : Nat} {v : Word} (h : s.Evolves t) : s.Leads (execEthQpSqTail m q v t) := by
  unfold Machine.execEthQpSqTail
  exact .regWait h

theorem State.Leads.execEthQpRqTail {m : Master} {q : Nat} {v : Word} (h : s.Evolves t) : s.Leads (execEthQpRqTail m q v t) := by
  unfold Machine.execEthQpRqTail
  exact .regWait h

theorem State.Leads.execEthQpCqHead {m : Master} {q : Nat} {v : Word} (h : s.Evolves t) : s.Leads (execEthQpCqHead m q v t) := by
  unfold Machine.execEthQpCqHead
  exact .regWait h

theorem State.Leads.execIngestEnable {m : Master} {k : Nat} {v : Word} (h : s.Evolves t) : s.Leads (execIngestEnable m k v t) := by
  unfold Machine.execIngestEnable
  exact .next h.regSend

theorem State.Leads.execIngestDisable {m : Master} {k : Nat} {v : Word}
    (h : s.Evolves t) : s.Leads (execIngestDisable m k v t) := by
  unfold Machine.execIngestDisable
  exact .regWait h

theorem State.Leads.execNeighbourBind {m : Master} {x i : Nat} {v : Word}
    (h : s.Evolves t) : s.Leads (execNeighbourBind m x i v t) := by
  unfold Machine.execNeighbourBind
  exact .next h.regSend

theorem State.Leads.execSheafStart {m : Master} {x : Nat} {v : Word} (h : s.Evolves t) : s.Leads (execSheafStart m x v t) := by
  unfold Machine.execSheafStart
  exact .regWait h

theorem State.Leads.execSheafCancel {m : Master} {x : Nat} {v : Word} (h : s.Evolves t) : s.Leads (execSheafCancel m x v t) := by
  unfold Machine.execSheafCancel
  exact .regWait h

theorem State.Leads.execDoorbell {m : Master} {ch : Nat} {v : Word} (h : s.Evolves t) : s.Leads (execDoorbell m ch v t) := by
  unfold Machine.execDoorbell
  exact .next h.regSend

theorem State.Leads.execTake {m : Master} {ch : Nat} {v : Word} (h : s.Evolves t) : s.Leads (execTake m ch v t) := by
  unfold Machine.execTake
  exact .next h.regSend

theorem State.Leads.execAck {m : Master} {ch : Nat} {v : Word} (h : s.Evolves t) : s.Leads (execAck m ch v t) := by
  unfold Machine.execAck
  exact .next h.regSend

theorem State.Leads.execClear {m : Master} {ch : Nat} {v : Word} (h : s.Evolves t) : s.Leads (execClear m ch v t) := by
  unfold Machine.execClear
  exact .next h.regSend

theorem State.Leads.execHlMboxBindSrc {m : Master} {v : Word} (h : s.Evolves t) : s.Leads (execHlMboxBindSrc m v t) := by
  unfold Machine.execHlMboxBindSrc
  exact .regWait h

theorem State.Leads.execSecLcReq {m : Master} {v : Word} (h : s.Evolves t) : s.Leads (execSecLcReq m v t) := by
  unfold Machine.execSecLcReq
  exact .regWait h

theorem State.Leads.execOwnerProgram {m : Master} {v : Word} (h : s.Evolves t) : s.Leads (execOwnerProgram m v t) := by
  unfold Machine.execOwnerProgram
  exact .regWait h

theorem State.Leads.execOwnerRevoke {m : Master} {v : Word} (h : s.Evolves t) : s.Leads (execOwnerRevoke m v t) := by
  unfold Machine.execOwnerRevoke
  exact .regWait h

theorem State.Leads.execFwMinSvnRaise {m : Master} {v : Word} (h : s.Evolves t) : s.Leads (execFwMinSvnRaise m v t) := by
  unfold Machine.execFwMinSvnRaise
  exact .regWait h

theorem State.Leads.execMakeCommon {m : Master} {v : Word} (h : s.Evolves t) : s.Leads (execMakeCommon m v t) := by
  unfold Machine.execMakeCommon
  exact .next h.regSend

theorem State.Leads.execReleaseCommon {m : Master} {v : Word} (h : s.Evolves t) : s.Leads (execReleaseCommon m v t) := by
  unfold Machine.execReleaseCommon
  exact .next h.regSend

theorem State.Leads.execSecRetireProg {m : Master} {v : Word} (h : s.Evolves t) : s.Leads (execSecRetireProg m v t) := by
  unfold Machine.execSecRetireProg
  exact .next h.regSend

theorem State.Leads.execTelSnap {m : Master} {v : Word} (h : s.Evolves t) : s.Leads (execTelSnap m v t) := by
  unfold Machine.execTelSnap
  exact .next h.regSend

theorem State.Leads.execTelCoOpen {m : Master} {v : Word} (h : s.Evolves t) : s.Leads (execTelCoOpen m v t) := by
  unfold Machine.execTelCoOpen
  exact .next h.regSend

theorem State.Leads.execTelCoClose {m : Master} {v : Word} (h : s.Evolves t) : s.Leads (execTelCoClose m v t) := by
  unfold Machine.execTelCoClose
  exact .next h.regSend

theorem State.Leads.execTelCoRegion {m : Master} {i : Nat} {v : Word} (h : s.Evolves t) : s.Leads (execTelCoRegion m i v t) := by
  unfold Machine.execTelCoRegion
  exact .next h.regSend

theorem State.Leads.execTelExport {m : Master} {v : Word} (h : s.Evolves t) : s.Leads (execTelExport m v t) := by
  unfold Machine.execTelExport
  exact .next h.regSend

theorem State.Leads.execPrbCfg {m : Master} {k : Nat} {v : Word} (h : s.Evolves t) : s.Leads (execPrbCfg m k v t) := by
  unfold Machine.execPrbCfg
  exact .next h.regSend

theorem State.Leads.execAtbCfg {m : Master} {j : Nat} {v : Word} (h : s.Evolves t) : s.Leads (execAtbCfg m j v t) := by
  unfold Machine.execAtbCfg
  exact .next h.regSend

/-! ### The updates of MeshReq -/

theorem State.Evolves.serveCtl {r : Req} (h : s.Evolves t) : s.Evolves (t.serveCtl r) := by
  unfold State.serveCtl
  dsimp only
  exact .ite h.updReq (.ite (.updReq (.ite_snd h h.ctlWrite)) h.ctlRead.updReq)

theorem State.Evolves.issue {r : Req} (h : s.Evolves t) : s.Evolves (t.issue r) := by
  unfold State.issue
  dsimp only
  split
  · exact .ite h.issueReq h.issueReq.serveCtl
  · exact h.issueReq

theorem State.Evolves.debugReq {id addr len : Nat} {write : Bool}
    (h : s.Evolves t) : s.Evolves (t.debugReq id addr len write) := by
  unfold State.debugReq
  dsimp only
  split
  · split
    · exact h.debugCount.touchAll
    · exact h.debugCount
  · exact h

theorem State.Evolves.request {q : MeshReq} {write : Bool} {data : Bytes} {poison : Nat} {errs : List LineErr}
    (h : s.Evolves t) : s.Evolves (t.request q write data poison errs) := by
  unfold State.request
  have hp : s.Evolves ((t.debugReq q.id q.addr q.len write).present? q write data poison errs).1 := h.debugReq.present?
  split
  next he => exact (he ▸ hp : s.Evolves (_, _).1)
  next he =>
    have hp : s.Evolves (_, _).1 := he ▸ hp
    exact .ite hp.dropReq.refuseReq (.ite hp.issue hp)

theorem State.Leads.execRead {r : MeshReq} {errs : List LineErr} (h : s.Evolves t) : s.Leads (execRead r errs t) := by
  unfold Machine.execRead
  exact .next h.request

theorem State.Leads.execWrite {r : MeshReq} {data : Bytes} {poison : Nat} {errs : List LineErr}
    (h : s.Evolves t) : s.Leads (execWrite r data poison errs t) := by
  unfold Machine.execWrite
  split
  · exact .parkIf h (fun _ h => .next h.request)
  · exact .next h.request

theorem State.Evolves.reissue {a : List Req} {a1 : List (Nat × Nat)} (h : s.Evolves t) : s.Evolves (State.reissue a a1 t) := by
  induction a generalizing a1 t with
  | nil => exact h
  | cons x l ih =>
    unfold State.reissue
    exact .ite (ih h) (.ite (ih h.issue) (ih h))

theorem State.Leads.execQosWindowEnd (h : s.Evolves t) : s.Leads (execQosWindowEnd t) := by
  unfold Machine.execQosWindowEnd
  exact .next (.reissue (.pendingTick (.foldl (.foldl h fun _ _ h => h.portMisses) fun _ _ h => h.portWindow)))

/-! ### The updates of LaneMem -/

theorem State.Leads.laneMemRow {c : Instr} {e u opc : Nat} {f : LaneFn} (h : s.Evolves t)
    (hf : ∀ x i t, s.Evolves t → s.Evolves (f x i t).state) : s.Leads (laneMemRow c e u opc f t) :=
  .parkIf h fun _ h => .next (h.laneRow hf)

theorem State.Evolves.scalarRead {e a n : Nat} {site : SiteAns} (h : s.Evolves t) : s.Evolves (t.scalarRead e a n site).2.2.2 := by
  unfold State.scalarRead
  dsimp only
  split
  · split
    · exact h
    · exact h.askRead
  · exact h.rd

theorem State.Evolves.scalarWrite {e u1 : Nat} {z2 : Stream} {a : Nat} {b : Bytes}
    (h : s.Evolves t) : s.Evolves (t.scalarWrite e u1 z2 a b).2.2 := by
  unfold State.scalarWrite
  dsimp only
  split
  · exact .ite_snd_snd h h.askWrite
  · exact h.wr

theorem State.Evolves.laneFailEnd {st a : Nat} (h : s.Evolves t) : s.Evolves (Machine.laneFail st a t).state := by
  unfold Machine.laneFail
  split <;> exact h

theorem State.Evolves.markMem {e : Nat} {z2 : Stream} {a : Nat} {b : Bytes} {own : Nat → Bool}
    (h : s.Evolves t) : s.Evolves (t.markMem e z2 a b own) := by
  unfold State.markMem
  exact .ite h h.setEng

theorem State.Leads.execSldm {e u1 : Nat} {site : SiteAns} (h : s.Evolves t) : s.Leads (execSldm e u1 site t) := by
  unfold Machine.execSldm
  dsimp only
  refine .laneMemRow h fun t i s h => ?_
  split
  · exact h.scalarRead
  · exact h.scalarRead.laneFailEnd

theorem State.Leads.execSstm {e u1 : Nat} (h : s.Evolves t) : s.Leads (execSstm e u1 t) := by
  unfold Machine.execSstm
  dsimp only
  refine .laneMemRow h fun t i s h => ?_
  split
  · exact h.scalarWrite.markMem
  · exact h.scalarWrite.laneFailEnd

theorem State.Leads.execScpyin {e u1 : Nat} {site : SiteAns} (h : s.Evolves t) : s.Leads (execScpyin e u1 site t) := by
  unfold Machine.execScpyin
  dsimp only
  refine .laneMemRow h fun t i s h => ?_
  split
  · exact h
  · split
    · exact h.scalarRead.setEng
    · exact h.scalarRead.laneFailEnd

theorem State.Leads.execScpyout {e u1 : Nat} (h : s.Evolves t) : s.Leads (execScpyout e u1 t) := by
  unfold Machine.execScpyout
  dsimp only
  refine .laneMemRow h fun t i s h => ?_
  split
  · exact h
  · split
    · exact h.tmMeet
    · split
      · exact h.tmMeet.scalarWrite.markMem
      · exact h.tmMeet.scalarWrite.laneFailEnd

/-! ### The updates of RegHl -/

theorem State.Evolves.readRegs {m : Master} {a a1 : Nat} (h : s.Evolves t) : s.Evolves (State.readRegs m a a1 t).2.2 := by
  induction a generalizing a1 t with
  | zero => exact h
  | succ n ih =>
    unfold State.readRegs
    dsimp only
    exact .ite_snd_snd (ih h.askRead) h.askRead

theorem State.Evolves.hlRegRead {n : Nat} {b : Bytes} (h : s.Evolves t) : s.Evolves (t.hlRegRead n b).2.2 := by
  unfold State.hlRegRead
  dsimp only
  exact .ite_snd_snd h h.readRegs

theorem State.Leads.execRegRead {n : Nat} (h : s.Evolves t) : s.Leads (execRegRead n t) := by
  unfold Machine.execRegRead
  exact .next (.hlRun h (fun _ _ h => h.hlRegRead))

theorem State.Evolves.writePairs {m : Master} {b : Bytes} {count a : Nat}
    (h : s.Evolves t) : s.Evolves (State.writePairs m b count a t).2.2 := by
  induction a generalizing t with
  | zero => exact h
  | succ k ih =>
    unfold State.writePairs
    dsimp only
    exact .ite_snd_snd (ih h.askWrite) h.askWrite

theorem State.Evolves.hlRegWrite {n : Nat} {b : Bytes} (h : s.Evolves t) : s.Evolves (t.hlRegWrite n b).2.2 := by
  unfold State.hlRegWrite
  dsimp only
  exact .ite_snd_snd h h.writePairs

theorem State.Leads.execRegWrite {n : Nat} (h : s.Evolves t) : s.Leads (execRegWrite n t) := by
  unfold Machine.execRegWrite
  exact .parkIf h (fun _ h => .next (.lcSettle (.hlRun h (fun _ _ h => h.hlRegWrite))))

theorem State.Evolves.pollOnce {n since : Nat} {last : Bool} {b : Bytes}
    (h : s.Evolves t) : s.Evolves (t.pollOnce n since last b).2 := by
  unfold State.pollOnce
  dsimp only
  exact .ite_snd h.askRead (.ite_snd h.askRead (.ite_snd h.askRead h.askRead))

theorem State.Evolves.pollStep {n : Nat} {c : HCmd} {since : Nat} {last : Bool}
    (h : s.Evolves t) : s.Evolves (t.pollStep n c since last) := by
  unfold State.pollStep
  split
  · exact h.hlDone
  · refine .ite h.hlDone ?_
    have hp : s.Evolves (t.pollOnce n since last c.payload).2 := h.pollOnce
    split
    next he => exact (he ▸ hp : s.Evolves (_, _).2).hlDone
    next he => exact (he ▸ hp : s.Evolves (_, _).2).setSess

theorem State.Leads.execRegPoll {n : Nat} (h : s.Evolves t) : s.Leads (execRegPoll n t) := by
  unfold Machine.execRegPoll
  refine .next ?_
  split
  · exact h.pollStep
  · split
    · exact .ite h.pollStep h
    · exact h

theorem State.Leads.execRegPollLimit {n : Nat} (h : s.Evolves t) : s.Leads (execRegPollLimit n t) := by
  unfold Machine.execRegPollLimit
  refine .next ?_
  split
  · exact h.pollStep
  · exact h

theorem State.Evolves.hlMemRead {n : Nat} {b : Bytes} (h : s.Evolves t) : s.Evolves (t.hlMemRead n b).2.2 := by
  unfold State.hlMemRead
  dsimp only
  split
  · exact h
  · split
    · exact h
    · exact .ite_snd_snd h.rd (.ite_snd_snd h.rd h.rd)

theorem State.Leads.execMemRead {n : Nat} (h : s.Evolves t) : s.Leads (execMemRead n t) := by
  unfold Machine.execMemRead
  exact .parkIf h (fun _ h => .next (.hlRun h (fun _ _ h => h.hlMemRead)))

theorem State.Evolves.hlMemWrite {n : Nat} {b : Bytes} (h : s.Evolves t) : s.Evolves (t.hlMemWrite n b).2 := by
  unfold State.hlMemWrite
  dsimp only
  split
  · exact h
  · split
    · exact h
    · exact .mk_snd h.wr

theorem State.Leads.execMemWrite {n : Nat} (h : s.Evolves t) : s.Leads (execMemWrite n t) := by
  unfold Machine.execMemWrite
  exact .parkIf h (fun _ h => .next (.hlSimple h (fun _ _ h => h.hlMemWrite)))

theorem State.Evolves.hlQosCommit {n : Nat} {b : Bytes} (h : s.Evolves t) : s.Evolves (t.hlQosCommit n b).2.2 := by
  unfold State.hlQosCommit
  dsimp only
  exact .ite_snd_snd h (.ite_snd_snd h h.qosCommit)

theorem State.Leads.execQosCommit {n : Nat} (h : s.Evolves t) : s.Leads (execQosCommit n t) := by
  unfold Machine.execQosCommit
  exact .next (.hlRun h (fun _ _ h => h.hlQosCommit))

theorem State.Evolves.debugMem {a n : Nat} {write : Bool} (h : s.Evolves t) : s.Evolves (t.debugMem a n write) := by
  unfold State.debugMem
  split
  · exact h.touchAll
  · exact h

theorem State.Evolves.debugRead {a n : Nat} (h : s.Evolves t) : s.Evolves (t.debugRead a n).2.2 := by
  unfold State.debugRead
  dsimp only
  split
  · exact .ite_snd_snd h h.debugCount.readRegs
  · exact .ite_snd_snd h.unmappedAt (.ite_snd_snd h.debugCount.debugMem.rd
      (.ite_snd_snd h.debugCount.debugMem.rd h.debugCount.debugMem.rd))

theorem State.Evolves.writeRegs {m : Master} {a a1 : Nat} {a2 : Bytes}
    (h : s.Evolves t) : s.Evolves (State.writeRegs m a a1 a2 t).2 := by
  induction a generalizing a1 a2 t with
  | zero => exact h
  | succ k ih =>
    unfold State.writeRegs
    dsimp only
    exact .ite_snd (ih h.askWrite) h.askWrite

theorem State.Evolves.debugWrite {a : Nat} {d : Bytes} (h : s.Evolves t) : s.Evolves (t.debugWrite a d).2 := by
  unfold State.debugWrite
  dsimp only
  split
  · exact .ite_snd h h.debugCount.writeRegs
  · exact .ite_snd h.unmappedAt h.debugCount.debugMem.wr

theorem State.Leads.execDebugRead {n : Nat} (h : s.Evolves t) : s.Leads (execDebugRead n t) := by
  unfold Machine.execDebugRead
  exact .parkIf h (fun _ h => .next (.hlRun h (fun _ _ h => .ite_snd_snd h (.ite_snd_snd h h.debugRead))))

theorem State.Leads.execDebugWrite {n : Nat} (h : s.Evolves t) : s.Leads (execDebugWrite n t) := by
  unfold Machine.execDebugWrite
  exact .parkIf h (fun _ h => .next (.hlSimple h (fun _ _ h => .ite_snd h (.ite_snd h h.debugWrite))))

theorem State.Evolves.haltRow {n action : Nat} (h : s.Evolves t) : s.Evolves (t.haltRow n action) := by
  unfold State.haltRow
  split
  · exact .ite (.hlSimple h (fun _ _ h => .ite_snd h (.ite_snd h h.debugCount.debugHalt))) h
  · exact h

theorem State.Leads.execDebugHalt {n : Nat} (h : s.Evolves t) : s.Leads (execDebugHalt n t) := by
  unfold Machine.execDebugHalt
  exact .next h.haltRow

theorem State.Leads.execDebugResume {n : Nat} (h : s.Evolves t) : s.Leads (execDebugResume n t) := by
  unfold Machine.execDebugResume
  exact .next h.haltRow

theorem State.Leads.execDebugStep {n : Nat} (h : s.Evolves t) : s.Leads (execDebugStep n t) := by
  unfold Machine.execDebugStep
  exact .next h.haltRow

/-! ### The updates of Jtag -/

theorem State.Evolves.loadIr {code : Nat} (h : s.Evolves t) : s.Evolves (t.loadIr code) := by
  unfold State.loadIr
  exact .ite h h.rest

theorem State.Evolves.loadBoundary {code dr : Nat} (h : s.Evolves t) : s.Evolves (t.loadBoundary code dr) := by
  unfold State.loadBoundary
  exact .ite h.loadIr.rest h.loadIr

theorem State.Leads.execExtest {dr : Nat} (h : s.Evolves t) : s.Leads (execExtest dr t) := by
  unfold Machine.execExtest
  exact .next h.loadBoundary

theorem State.Leads.execSamplePreload {dr : Nat} (h : s.Evolves t) : s.Leads (execSamplePreload dr t) := by
  unfold Machine.execSamplePreload
  exact .next h.loadBoundary

theorem State.Leads.execIdcode (h : s.Evolves t) : s.Leads (execIdcode t) := by
  unfold Machine.execIdcode
  exact .next (.ite h h.loadIr.emit)

theorem State.Leads.execClamp (h : s.Evolves t) : s.Leads (execClamp t) := by
  unfold Machine.execClamp
  exact .next h.loadIr

theorem State.Leads.execHighz (h : s.Evolves t) : s.Leads (execHighz t) := by
  unfold Machine.execHighz
  exact .next h.loadIr

theorem State.Leads.execIjtag (h : s.Evolves t) : s.Leads (execIjtag t) := by
  unfold Machine.execIjtag
  exact .next h.loadIr

theorem State.Leads.execBypass (h : s.Evolves t) : s.Leads (execBypass t) := by
  unfold Machine.execBypass
  exact .next h.loadIr

theorem State.Leads.execTrstN (h : s.Evolves t) : s.Leads (execTrstN t) := by
  unfold Machine.execTrstN
  exact .next h.rest

theorem State.Leads.execTestLogicResetExit (h : s.Evolves t) : s.Leads (execTestLogicResetExit t) := by
  unfold Machine.execTestLogicResetExit
  exact .next h.rest.setSec

theorem State.Evolves.instrument {op a data : Nat} (h : s.Evolves t) : s.Evolves (t.instrument op a data).2.2 := by
  unfold State.instrument
  dsimp only
  split
  · split
    · exact h.debugCount.askRead
    · exact h.debugCount.debugMem.rd
  · split
    · split
      · exact h.debugCount.askWrite
      · exact h.debugCount.debugMem.wr
    · exact h

theorem State.Evolves.instrCapture (h : s.Evolves t) : s.Evolves t.instrCapture.2 := by
  unfold State.instrCapture
  dsimp only
  exact .ite_snd h.rest h.rest.freeBelow

theorem State.Leads.execDebugAccessInstrument {dr : BitVec 128} (h : s.Evolves t) : s.Leads (execDebugAccessInstrument dr t) := by
  unfold Machine.execDebugAccessInstrument
  dsimp only
  exact .parkIf h (fun _ h => .ite (.next h) (.ite (.next h.instrCapture.emit) (.next h.instrCapture.emit.instrument.rest)))

theorem State.Leads.execMgmtWriteIndex {bytes : Bytes} (h : s.Evolves t) : s.Leads (execMgmtWriteIndex bytes t) := by
  unfold Machine.execMgmtWriteIndex
  refine .next ?_
  split
  · exact h
  · exact h.rest

theorem State.Leads.execMgmtRead {n : Nat} (h : s.Evolves t) : s.Leads (execMgmtRead n t) := by
  unfold Machine.execMgmtRead
  exact .next h.emit

/-! ### The updates of SitePkt -/

theorem State.Evolves.after {r : Res} (_ : s.Evolves t) (hr : s.Leads r) : s.Evolves (t.after r) := by
  obtain ⟨u, rfl, hu⟩ := hr
  exact hu

theorem State.Evolves.siteResponse {n : Nat} {p : SitePkt} (h : s.Evolves t) : s.Evolves (t.siteResponse n p) := by
  unfold State.siteResponse
  split
  · exact h.count
  · exact .ite h.badPkt (.ite h.badPkt (.ite h.respond (.ite h.respond h.respond)))

theorem State.Evolves.siteSnoopRsp {n cmd txn home : Nat} {dirty : Option (Bool × Bytes)}
    (h : s.Evolves t) : s.Evolves (t.siteSnoopRsp n cmd txn home dirty) := by
  unfold State.siteSnoopRsp
  dsimp only
  split
  · exact .ite (h.after (.execRspIWbp h)) h.snoopResp
  · exact .ite h h.freeBelow.protoErr

theorem State.Evolves.siteSnoopMsg {n : Nat} {p : SitePkt} (h : s.Evolves t) : s.Evolves (t.siteSnoopMsg n p) := by
  unfold State.siteSnoopMsg
  dsimp only
  split
  · exact h.siteSnoopRsp
  · split
    · exact h.setLink.siteSnoopRsp
    · exact h.setLink

theorem State.Evolves.siteData {n : Nat} {p : SitePkt} (h : s.Evolves t) : s.Evolves (t.siteData n p) := by
  unfold State.siteData
  dsimp only
  split
  · exact .ite h.badPkt h.setLink.siteSnoopRsp
  · exact .ite h.siteResponse h.setLink

theorem State.Evolves.siteRequest {n : Nat} {p : SitePkt} (h : s.Evolves t) : s.Evolves (t.siteRequest n p) := by
  unfold State.siteRequest
  exact .ite h.request (.ite h.request (.ite h.evictClean (.ite h.evictDirty (.ite (h.after (.execGrantAck h)) h.cohReq))))

/-! ### The updates of Cxl -/

theorem State.Evolves.cxlBad {n : Nat} {m : CxlMsg} (h : s.Evolves t) : s.Evolves (t.cxlBad n m) := by
  unfold State.cxlBad
  exact .ite h.badPkt.siteSend (.ite h.badPkt.cohRefuse h.badPkt)

theorem State.Evolves.cxlWriteBack {n : Nat} {m : CxlMsg} (h : s.Evolves t) : s.Evolves (t.cxlWriteBack n m) := by
  unfold State.cxlWriteBack
  dsimp only
  split
  · exact h.setLink.siteSend
  · split
    · exact h.setLink.siteSend
    · exact h.setLink

theorem State.Evolves.cxlRequest {n code : Nat} {m : CxlMsg} (h : s.Evolves t) : s.Evolves (t.cxlRequest n code m) := by
  unfold State.cxlRequest
  exact .ite h.request (.ite h.request (.ite h.evictClean (.ite h.cxlWriteBack h.cohReq)))

theorem State.Evolves.cxlSnoopRsp {n k : Nat} {dirty : Bool} {m : CxlMsg}
    (h : s.Evolves t) : s.Evolves (t.cxlSnoopRsp n k dirty m) := by
  unfold State.cxlSnoopRsp
  split
  · exact h.badPkt
  · split
    · exact .ite h.protoErr h
    · exact .ite (h.after (.execRspIWbp h)) h.setLink.snoopResp

theorem State.Evolves.cxlCpl {n : Nat} {m : CxlMsg} (h : s.Evolves t) : s.Evolves (t.cxlCpl n m) := by
  unfold State.cxlCpl
  split
  · exact h.count
  · exact .ite h.respond h.respond

theorem State.Evolves.cxlIn {n : Nat} {m : CxlMsg} (h : s.Evolves t) : s.Evolves (t.cxlIn n m) := by
  unfold State.cxlIn
  split
  · exact h
  · split
    · exact h.cxlBad
    · split
      · exact h.siteSend
      · split
        · exact h
        · split
          · exact h.cxlCpl
          · split
            · exact h.siteSend
            · split
              · exact h.setLink
              · split
                · exact h.cxlSnoopRsp
                · split
                  · exact h.cxlBad
                  · exact .ite h.setLink h.cxlRequest

theorem State.Evolves.evictsOut {n : Nat} (h : s.Evolves t) : s.Evolves (t.evictsOut n) := by
  unfold State.evictsOut
  exact .ite h (.foldl h.setLink fun _ _ h => h.evictDirty)

theorem State.Evolves.behindIn {n : Nat} (h : s.Evolves t) : s.Evolves (t.behindIn n) := by
  unfold State.behindIn
  exact .foldl h.setLink fun _ _ h => h.cxlIn

/-! ### The updates of Bludric -/

theorem State.Evolves.owe {n vc units : Nat} (h : s.Evolves t) : s.Evolves (t.owe n vc units) := by
  unfold State.owe
  exact h.setLink

theorem State.Evolves.takeReqs {n : Nat} {a : List (BitVec 512 × List (BitVec 512))}
    (h : s.Evolves t) : s.Evolves (State.takeReqs n a t) := by
  induction a generalizing t with
  | nil => exact h
  | cons x l ih =>
    unfold State.takeReqs
    dsimp only
    exact .ite h (.ite (ih h.setLink.owe.siteRequest) h)

theorem State.Evolves.siteWaiting {n : Nat} (h : s.Evolves t) : s.Evolves (t.siteWaiting n) := by
  unfold State.siteWaiting
  exact h.takeReqs

theorem State.Evolves.pktIn {n : Nat} {z2 : BitVec 512} {units : List (BitVec 512)}
    (h : s.Evolves t) : s.Evolves (t.pktIn n z2 units) := by
  unfold State.pktIn
  exact .ite h.owe.badPkt (.ite (.ite h.owe.badPkt h.setLink.siteWaiting) (.ite h.owe.siteData (.ite h.owe.siteResponse
    (.ite (h.owe.after (.execSiteDrainDone h.owe)) h.owe.siteSnoopMsg))))

theorem State.Evolves.slotIn {n : Nat} {x : Nat × BitVec 512} (h : s.Evolves t) : s.Evolves (State.slotIn n x t) := by
  unfold State.slotIn
  dsimp only
  split
  · exact h
  · split
    · split
      · exact h.badPkt
      · exact .ite h.setLink.pktIn h.setLink
    · split
      · split
        · refine .pktIn ?_
          split
          · exact h
          · exact h.setLink.owe.badPkt
        · refine .setLink ?_
          split
          · exact h
          · exact h.setLink.owe.badPkt
      · split
        · refine .badPkt ?_
          split
          · exact h
          · exact h.setLink.owe.badPkt
        · split
          · exact h
          · exact h.setLink.owe.badPkt

theorem State.Evolves.linkAck {n g : Nat} (h : s.Evolves t) : s.Evolves (t.linkAck n g) := by
  unfold State.linkAck
  exact .ite h h.setLink

theorem State.Evolves.replayed {n k : Nat} (h : s.Evolves t) : s.Evolves (t.replayed n k) := by
  unfold State.replayed
  exact h.count.raiseLimited

theorem State.Evolves.replayAll {n : Nat} (h : s.Evolves t) : s.Evolves (t.replayAll n) := by
  unfold State.replayAll
  dsimp only
  exact .setLink (.foldl_snd h fun _ _ h => h.deal)

theorem State.Evolves.linkNak {n : Nat} (h : s.Evolves t) : s.Evolves (t.linkNak n) := by
  unfold State.linkNak
  exact .ite h (.ite h.replayed.setLink.linkDown h.replayed.setLink.replayAll)

theorem State.Evolves.heldScrub {n : Nat} {m : SiteMsg} (h : s.Evolves t) : s.Evolves (t.heldScrub n m) := by
  unfold State.heldScrub
  split
  · exact h.respond
  · exact h

theorem State.Evolves.heldOut {n : Nat} (h : s.Evolves t) : s.Evolves (t.heldOut n) := by
  unfold State.heldOut
  exact .foldl h.setLink fun _ _ h => .ite h.heldScrub h.siteSend

theorem State.Evolves.linkCredit {n vc units : Nat} (h : s.Evolves t) : s.Evolves (t.linkCredit n vc units) := by
  unfold State.linkCredit
  exact h.setLink

theorem State.Evolves.flitReturns {n ack : Nat} {nak : Bool} {vc units : Nat}
    (h : s.Evolves t) : s.Evolves (t.flitReturns n ack nak vc units) := by
  unfold State.flitReturns
  exact .ite (.heldOut (.linkCredit (.ite h.linkAck.linkNak h.linkAck))) (.ite h.linkAck.linkNak h.linkAck)

theorem State.Evolves.flitTake {n : Nat} {f : SiteFlit} (h : s.Evolves t) : s.Evolves (t.flitTake n f) := by
  unfold State.flitTake
  dsimp only
  split
  · exact .foldl (.flitReturns (.setLink (.ite h.replayed h))) fun _ _ h => h.slotIn
  · exact .foldl (.flitReturns (.setLink (.ite h.replayed h))) fun _ _ h => h.cxlIn

theorem State.Evolves.flitsAhead {n a : Nat} (h : s.Evolves t) : s.Evolves (State.flitsAhead n a t) := by
  induction a generalizing t with
  | zero => exact h
  | succ k ih =>
    unfold State.flitsAhead
    dsimp only
    split
    · exact .ite (ih h.setLink.flitTake) h
    · exact h

theorem State.Evolves.flitBad {n seq : Nat} (h : s.Evolves t) : s.Evolves (t.flitBad n seq) := by
  unfold State.flitBad
  exact .ite h (.ite (.linkDown (.setLink (.ite h.replayed h))) (.setLink (.ite h.replayed h)))

theorem State.Evolves.linkControl {n : Nat} (h : s.Evolves t) : s.Evolves (t.linkControl n) := by
  unfold State.linkControl
  exact .ite h (.ite h.setLink.flitOut (.ite h.setLink.flitOut (.foldl h.setLink fun _ _ h => h.flitOut)))

theorem State.Evolves.flitIn {n : Nat} {f : SiteFlit} (h : s.Evolves t) : s.Evolves (t.flitIn n f) := by
  unfold State.flitIn
  exact .ite h.flitBad (.ite h.flitTake.flitsAhead (.ite h (.ite h.setLink (.ite h h.setLink))))

theorem State.Leads.execBludricFlit {n : Nat} {f : SiteFlit} (h : s.Evolves t) : s.Leads (execBludricFlit n f t) := by
  unfold Machine.execBludricFlit
  exact .next (.ite h h.flitIn.linkControl)

theorem State.Evolves.siteTick {n : Nat} (h : s.Evolves t) : s.Evolves (t.siteTick n) := by
  unfold State.siteTick
  exact .ite h.siteReleaseDue (.ite h.evictsOut.behindIn.siteWaiting.heldOut.linkControl h.evictsOut.behindIn.siteWaiting)

/-! ### The updates of Tick -/

theorem State.Evolves.tickDoms (h : s.Evolves t) : s.Evolves t.tickDoms := by
  unfold State.tickDoms
  exact .foldl h fun _ _ h => .ite h.setDom h

theorem State.Evolves.tickBucket (h : s.Evolves t) : s.Evolves t.tickBucket := by
  unfold State.tickBucket
  exact h.setHl

theorem State.Evolves.tickChans (h : s.Evolves t) : s.Evolves t.tickChans := by
  unfold State.tickChans
  exact h.chansUntil

/-- Every command but the receipt of a frame evolves the state. -/
theorem State.Leads.exec {i : Instr} (h : s.Evolves t) (hf : ∀ f, i ≠ .frameReceive f) : s.Leads (exec i t) := by
  unfold Machine.exec
  split
  · exact .execPorstNLow h
  · exact .execPorstNRelease h
  · exact .execWholeReset h
  · exact .execGlbResetReq h
  · exact .execUmPublished h
  · exact .execRegisterWrite h
  · exact .execReadClear h
  · exact .execClkDomCfgWrite h
  · exact .execPllLock h
  · exact .execClkRelease h
  · exact .execStartupTestDone h
  · exact .execClkRefLost h
  · exact .execClkUnlock h
  · exact .execCcSramCorr h
  · exact .execCcSramFatal h
  · exact .execCcWdtKick h
  · exact .execCcWatchdog h
  · exact .execCcReady h
  · exact .execCcBootFail h
  · exact .execTrainDone h
  · exact .execRecUpdated h
  · exact .execMemInitStart h
  · exact .execMemInitDone h
  · exact .execEngFault h
  · exact .execEngineFallow h
  · exact .execEngineWake h
  · exact .execCeDrainLimitExpiry h
  · exact .execFenceComplete h
  · exact .execWakeTestDone h
  · exact .execSiteFallow h
  · exact .execSiteWake h
  · exact .execSiteDrainDone h
  · exact .execSiteDrainLimitExpiry h
  · exact .execCeWqTail h
  · exact .execCeCqHead h
  · exact .execQueueEnable h
  · exact .execQueueDisable h
  · exact .execResume h
  · exact .execCeLpsData h
  · exact .execNop h
  · exact .execWait h
  · exact .execWaitTimeout h
  · exact .execSignal h
  · exact .execMatmul h
  · exact .execMatmulAcc h
  · exact .execConv h
  · exact .execLane h
  · exact .execReduce h
  · exact .execCopy h
  · exact .execConvert h
  · exact .execTranspose h
  · exact .execGather h
  · exact .execScatter h
  · exact .execPrefetchLlc h
  · exact .execWriteback h
  · exact .execWorkOrderComplete h
  · exact .execLaneStepLimit h
  · exact .execLaneNop h
  · exact .execFadd h
  · exact .execFsub h
  · exact .execFmul h
  · exact .execFfma h
  · exact .execFmin h
  · exact .execFmax h
  · exact .execFcmp h
  · exact .execHadd h
  · exact .execHmul h
  · exact .execHfma h
  · exact .execIadd h
  · exact .execIsub h
  · exact .execImul h
  · exact .execIadds h
  · exact .execIsubs h
  · exact .execAnd h
  · exact .execOr h
  · exact .execXor h
  · exact .execShl h
  · exact .execShr h
  · exact .execSra h
  · exact .execIcmp h
  · exact .execCvt h
  · exact .execRcp h
  · exact .execRsqrt h
  · exact .execSqrt h
  · exact .execExp2 h
  · exact .execLog2 h
  · exact .execMovi h
  · exact .execMovs h
  · exact .execLaneid h
  · exact .execSel h
  · exact .execLd h
  · exact .execSt h
  · exact .execLdx h
  · exact .execStx h
  · exact .execRed h
  · exact .execSadd h
  · exact .execSsub h
  · exact .execSmul h
  · exact .execSand h
  · exact .execSor h
  · exact .execSxor h
  · exact .execSshl h
  · exact .execSshr h
  · exact .execSsra h
  · exact .execSaddi h
  · exact .execSshli h
  · exact .execSshri h
  · exact .execSlui h
  · exact .execScmp h
  · exact .execSfmin h
  · exact .execSfmax h
  · exact .execSfcmp h
  · exact .execSld h
  · exact .execSst h
  · exact .execSldm h
  · exact .execSstm h
  · exact .execScpyin h
  · exact .execScpyout h
  · exact .execSfence h
  · exact .execBr h
  · exact .execJmp h
  · exact .execBrany h
  · exact .execBrall h
  · exact .execEndStream h
  · exact .execTallySignal h
  · exact .execTallyValue h
  · exact .execRead h
  · exact .execWrite h
  · exact .execUncorrIntervalEnd h
  · exact .execCombWindowClose h
  · exact .execTrackerGrant h
  · exact .execRefresh h
  · exact .execMemTempReading h
  · exact .execPatrolRead h
  · exact .execPostPackageRepair h
  · exact .execMemChFail h
  · exact .execMemSiteFatal h
  · exact .execMeshLinkRetry h
  · exact .execMeshPlaneFail h
  · exact .execMeshRouterFatal h
  · exact .execMeshTimeout h
  · exact .execDataResponse h
  · exact .execCompletionResponse h
  · exact .execUrgencyAge h
  · exact .execQosWindowEnd h
  · exact .execQosCommitGo h
  · exact .execRdShared h
  · exact .execRdAny h
  · exact .execRdOwn h
  · exact .execRdOwnNodata h
  · exact .execRdCurr h
  · exact .execWrInv h
  · exact .execEvictClean h
  · exact .execEvictDirty h
  · exact .execGrantAck h
  · exact .execRspI h
  · exact .execRspS h
  · exact .execRspE h
  · exact .execRspIWbp h
  · exact .execRspLost h
  · exact .execSnpInv h
  · exact .execSnpData h
  · exact .execSnpCur h
  · exact .execHomeTransactionStart h
  · exact .execSfAllocRetry h
  · exact .execSnoopTimeout h
  · exact .execCohRingReplay h
  · exact .execCohRingFatal h
  · exact .execCohSfFatal h
  · exact .execBludricFlit h
  · exact .execCreditStall h
  · exact .execSiteTraining h
  · exact .execSiteLinkUp h
  · exact .execResetNotice h
  · exact .execSiteLinkDown h
  · exact .execSiteLaneRepair h
  · exact .execSiteUmFail h
  · exact .execSiteRetest h
  · exact .execChipletReset h
  · exact .execChipletResetRelease h
  · exact .execSiteRetrain h
  · exact .execEthLinkUp h
  · exact .execEthLinkDown h
  · exact .execAutonegTimeout h
  · exact .execEthLaneFail h
  · exact .execEthRetrain h
  · exact .execEthModeChange h
  · exact absurd rfl (hf _)
  · exact .execArpRequest h
  · exact .execNeighborSolicitation h
  · exact .execPfcFrame h
  · exact .execPfcPauseExpiry h
  · exact .execPfcXoffRepeat h
  · exact .execEthPfcStorm h
  · exact .execQpToInit h
  · exact .execQpToRtr h
  · exact .execQpToRts h
  · exact .execQpToReset h
  · exact .execQpToError h
  · exact .execEthQpSqTail h
  · exact .execEthQpRqTail h
  · exact .execEthQpCqHead h
  · exact .execWrSend h
  · exact .execWrSendImm h
  · exact .execWrRdmaWrite h
  · exact .execWrRdmaWriteImm h
  · exact .execWrRdmaRead h
  · exact .execSendPacket h
  · exact .execRdmaWritePacket h
  · exact .execRdmaReadRequest h
  · exact .execRdmaReadResponse h
  · exact .execAcknowledge h
  · exact .execCnp h
  · exact .execAckTimeout h
  · exact .execRisePeriod h
  · exact .execIdleReset h
  · exact .execIngestDatagram h
  · exact .execSlotTimeout h
  · exact .execIngestEnable h
  · exact .execIngestDisable h
  · exact .execNeighbourBind h
  · exact .execSheafStart h
  · exact .execSheafCancel h
  · exact .execReady h
  · exact .execSheafData h
  · exact .execLag h
  · exact .execAbort h
  · exact .execProgressDeadline h
  · exact .execLagRepeat h
  · exact .execHeadlandDatagram h
  · exact .execDiscover h
  · exact .execAttest h
  · exact .execSessionOpen h
  · exact .execSessionOpenPartsTimeout h
  · exact .execSessionClose h
  · exact .execSessionIdleTimeout h
  · exact .execSessionUnconfirmedTimeout h
  · exact .execRegRead h
  · exact .execRegWrite h
  · exact .execRegPoll h
  · exact .execRegPollLimit h
  · exact .execMemRead h
  · exact .execMemWrite h
  · exact .execFwLoad h
  · exact .execFwStartRun h
  · exact .execFwStartVerify h
  · exact .execFwStartStage h
  · exact .execFwStartClear h
  · exact .execTrain h
  · exact .execRecordReplay h
  · exact .execPlotCreate h
  · exact .execPlotTeardown h
  · exact .execPlotScrubbed h
  · exact .execQosCommit h
  · exact .execMboxPost h
  · exact .execMboxTake h
  · exact .execMboxAck h
  · exact .execDoorbell h
  · exact .execTake h
  · exact .execAck h
  · exact .execClear h
  · exact .execHlMboxBindSrc h
  · exact .execEventSubscribe h
  · exact .execEventSend h
  · exact .execClaim h
  · exact .execRelease h
  · exact .execHeldClaim h
  · exact .execHeldRelease h
  · exact .execLock h
  · exact .execUnlock h
  · exact .execResetDevice h
  · exact .execDebugRead h
  · exact .execDebugWrite h
  · exact .execDebugHalt h
  · exact .execDebugResume h
  · exact .execDebugStep h
  · exact .execSecLcReq h
  · exact .execOwnerProgram h
  · exact .execOwnerRevoke h
  · exact .execFwMinSvnRaise h
  · exact .execMakeCommon h
  · exact .execReleaseCommon h
  · exact .execSecRetireProg h
  · exact .execSbFatal h
  · exact .execPmbusPoll h
  · exact .execPmbAlert h
  · exact .execPwrRailFault h
  · exact .execHubSensorReading h
  · exact .execGovernorTick h
  · exact .execGraceExpiry h
  · exact .execCapRise h
  · exact .execDvfsChangeDone h
  · exact .execSitePowerAverage h
  · exact .execTelSnap h
  · exact .execTelCoOpen h
  · exact .execTelCoClose h
  · exact .execTelCoRegion h
  · exact .execTelExport h
  · exact .execTelExportDone h
  · exact .execGleanSample h
  · exact .execGleanEpoch h
  · exact .execPrbCfg h
  · exact .execDbgData h
  · exact .execAtbCfg h
  · exact .execExtest h
  · exact .execSamplePreload h
  · exact .execIdcode h
  · exact .execClamp h
  · exact .execHighz h
  · exact .execIjtag h
  · exact .execBypass h
  · exact .execDebugAccessInstrument h
  · exact .execTrstN h
  · exact .execMgmtWriteIndex h
  · exact .execMgmtRead h
  · exact .execSiteFail h
  · exact .execChannelRetrain h
  · exact .execTelCoState h
  · exact .execCommonRequestDone h
  · exact .execFuseBlowDone h
  · exact .execSnapCaptureDone h
  · exact .execTestLogicResetExit h
  · exact .execAtbNewConnection h
  · exact .execTrigOutPulseEnd h

/-! ### A received frame, the tick, the step -/

theorem State.Keeps.bufferIn (s : State) (p len : Nat) : s.Keeps (s.bufferIn p len).2 := by
  have he : ∀ e, s.Keeps { s with eth := e } := fun e => (State.Evolves.refl s).toKeeps.eth
  unfold State.bufferIn
  dsimp only
  split
  · split
    · exact (State.Evolves.refl s).ethCnt.toKeeps
    · dsimp only
      split
      · exact (he _).eth.trans (State.Evolves.refl _).sendPfc.toKeeps
      · exact he _
  · split
    · exact (State.Evolves.refl s).toKeeps
    · exact he _

theorem State.Keeps.bufferDrain (s : State) : s.Keeps s.bufferDrain :=
  (State.Evolves.foldl (.refl s) fun _ _ h => h.sendPfc).toKeeps.eth

theorem State.bufferDrain_drained (s : State) : s.bufferDrain.Drained := ⟨rfl, rfl⟩

theorem State.bufferDrain_now (s : State) : s.bufferDrain.now = s.now :=
  (State.Evolves.foldl (f := fun s p => s.sendPfc p 0) (.refl s) fun _ _ h => h.sendPfc).now

/-- A received frame goes on; the buffer may fill. -/
theorem execFrameReceive_keeps (f : Frame) (s : State) : ∃ t, execFrameReceive f s = .next t ∧ s.Keeps t := by
  have h := (State.Evolves.refl s).fecCorr (f := f)
  unfold execFrameReceive
  dsimp only
  split
  · exact ⟨_, rfl, (State.Evolves.refl s).toKeeps⟩
  · split
    · exact ⟨_, rfl, h.ethCnt.fecLimit.toKeeps⟩
    · exact ⟨_, rfl, h.ethCnt.ethCnt.fecLimit.toKeeps⟩
    · exact ⟨_, rfl, h.pfcIn.fecLimit.toKeeps⟩
    · exact ⟨_, rfl, h.answerNd.fecLimit.toKeeps⟩
    · exact ⟨_, rfl, h.answerNd.fecLimit.toKeeps⟩
    · exact ⟨_, rfl, (h.toKeeps.trans (.bufferIn _ _ _)).trans (State.Evolves.refl _).fecLimit.toKeeps⟩

theorem exec_keeps (c : Instr) (s : State) : ∃ t, exec c s = .next t ∧ s.Keeps t := by
  by_cases hf : ∀ f, c ≠ .frameReceive f
  · obtain ⟨t, ht, hs⟩ := State.Leads.exec (.refl s) hf
    exact ⟨t, ht, hs.toKeeps⟩
  · push Not at hf
    obtain ⟨f, rfl⟩ := hf
    exact execFrameReceive_keeps f s

/-- The state of a tick once the receive buffer has emptied. -/
def State.tickDrained (s : State) : State := ({ s with now := s.now + 1 }).tickDoms.tickBucket.bufferDrain

/-- The rest of a tick evolves the state. -/
theorem State.tickDrained_evolves (s : State) : s.tickDrained.Evolves s.tick := by
  unfold State.tick
  exact .foldl (.serveReady (.evictsIn (.grantAcks (.reclaimsEnd (.tickChans (.lcTick (.txGo (.refl _)))))))) fun _ _ h => h.siteTick

theorem State.tick_keeps (s : State) : s.Keeps s.tick := by
  have h0 : s.Keeps { s with now := s.now + 1 } := ⟨rfl, id, id⟩
  exact ((h0.trans (State.Evolves.refl _).tickDoms.tickBucket.toKeeps).trans (.bufferDrain _)).trans s.tickDrained_evolves.toKeeps

theorem State.tick_now (s : State) : s.tick.now = s.now + 1 :=
  s.tickDrained_evolves.now.trans ((State.bufferDrain_now _).trans (State.Evolves.refl _).tickDoms.tickBucket.now)

theorem State.tick_drained (s : State) : s.tick.Drained := s.tickDrained_evolves.drained (State.bufferDrain_drained _)

/-- A step keeps both invariants: it is a command at the front of the queue, one that waited, or a tick. -/
theorem step_keeps {s t : State} (h : step s = .next t) : (s.Canonical → t.Canonical) ∧ (s.DegOk → t.DegOk) := by
  unfold step at h
  split at h
  next c rest _ =>
    obtain ⟨u, hu, hk⟩ := exec_keeps c { s with pending := rest }
    rw [hu] at h
    cases h
    exact ⟨hk.canonical, hk.degOk⟩
  · split at h
    next p _ =>
      obtain ⟨u, hu, hk⟩ := exec_keeps p.cmd (s.resuming p)
      unfold goOn at h
      rw [hu] at h
      cases h
      have he := (State.Evolves.refl s).resuming (p := p) |>.toKeeps.trans (hk.trans (State.Evolves.refl u).parkDone.toKeeps)
      exact ⟨he.canonical, he.degOk⟩
    · obtain rfl := Host.Outcome.next.inj h
      exact ⟨s.tick_keeps.canonical, s.tick_keeps.degOk⟩

/-! ### The statements about every command and every step -/

/-- Settles O5: the stores keep their form in every update. -/
theorem stepKeepsCanonical : Obligations.StepKeepsCanonical := fun _ _ hs h => (step_keeps h).1 hs

/-- Settles O6: only the update of a unit writes DEGRADED, and only of one that is PRESENT. -/
theorem stepKeepsDegradedPresent : Obligations.StepKeepsDegradedPresent := fun _ _ hs h => (step_keeps h).2 hs

/-- Settles O7: no update of a command touches the queue. -/
theorem commandsKeepQueue : Obligations.CommandsKeepQueue := by
  intro c s t h
  obtain ⟨u, hu, hk⟩ := exec_keeps c s
  rw [hu] at h
  cases h
  exact hk.pending

/-- Settles O8: each command's own function goes on. -/
theorem everyCommandGoesOn : Obligations.EveryCommandGoesOn := by
  intro c s
  obtain ⟨t, ht, -⟩ := exec_keeps c s
  rw [ht]
  rfl

/-- Settles O1: the two branches of the step. -/
theorem stepRunsFront : Obligations.StepRunsFront := by
  constructor
  · intro s c rest h
    unfold step
    rw [h]
  · intro s t p h hp he
    unfold step goOn
    rw [h]
    dsimp only
    rw [hp]
    dsimp only
    rw [he]

/-- Settles O3: the store of the reset state is empty, and reads its default. -/
theorem resetRegisters : Obligations.ResetRegisters := fun _ _ _ => rfl

/-- Settles O4: the reset state holds empty stores and an empty queue. -/
theorem resetMeetsInvariants : Obligations.ResetMeetsInvariants :=
  ⟨⟨reset_memory_wf, rfl⟩, fun _ _ h => absurd h Bool.false_ne_true, rfl⟩

end Sys2Proof.Machine
end

section
/-! The idle step: the tick, and what it does where nothing in the block waits for time to pass. -/

namespace Sys2Proof.Machine

/-! ### The clock domains -/

/-- A running domain counts the cycles of its frequency. -/
def State.countCycles (s : State) (d : Nat) : State :=
  if (s.dom d).running then
    s.setDom d { s.dom d with cycles := satAdd 64 (s.dom d).cycles (s.f .CLK_DOM_STATUS_FREQ_ACT d) }
  else s

/-- A domain after the cycles of a microsecond at frequency `f`. -/
def Dom.counted (v : Dom) (f : Nat) : Dom := { v with cycles := if v.running then satAdd 64 v.cycles f else v.cycles }

theorem State.tickDoms_eq (s : State) : s.tickDoms = (List.range 25).foldl State.countCycles s := rfl

theorem State.countCycles_rest (s : State) (d : Nat) : ∃ ds, s.countCycles d = { s with doms := ds } := by
  unfold State.countCycles
  split
  · exact ⟨_, rfl⟩
  · exact ⟨s.doms, rfl⟩

theorem State.dom_countCycles_same (s : State) (d : Nat) :
    (s.countCycles d).dom d = (s.dom d).counted (s.f .CLK_DOM_STATUS_FREQ_ACT d) := by
  unfold State.countCycles Dom.counted
  split
  · exact s.dom_setDom d _
  · rfl

theorem State.dom_countCycles_ne (s : State) {d k : Nat} (h : d ≠ k) : (s.countCycles k).dom d = s.dom d := by
  unfold State.countCycles
  split
  · exact NTbl.at_put_ne _ _ _ h
  · rfl

theorem State.f_countCycles (s : State) (d : Nat) (f : Fid) (i j : Nat) : (s.countCycles d).f f i j = s.f f i j := by
  unfold State.countCycles
  split <;> rfl

theorem State.foldl_countCycles_rest (l : List Nat) (s : State) : ∃ ds, l.foldl State.countCycles s = { s with doms := ds } := by
  induction l generalizing s with
  | nil => exact ⟨s.doms, rfl⟩
  | cons k l ih =>
    obtain ⟨a, ha⟩ := s.countCycles_rest k
    obtain ⟨b, hb⟩ := ih { s with doms := a }
    exact ⟨b, by rw [List.foldl_cons, ha, hb]⟩

theorem State.dom_foldl_countCycles_of_notMem (l : List Nat) (s : State) {d : Nat} (h : d ∉ l) :
    (l.foldl State.countCycles s).dom d = s.dom d := by
  induction l generalizing s with
  | nil => rfl
  | cons k l ih =>
    rw [List.mem_cons, not_or] at h
    exact (ih _ h.2).trans (s.dom_countCycles_ne h.1)

theorem State.dom_foldl_countCycles (l : List Nat) (s : State) {d : Nat} (hd : d ∈ l) (hl : l.Nodup) :
    (l.foldl State.countCycles s).dom d = (s.dom d).counted (s.f .CLK_DOM_STATUS_FREQ_ACT d) := by
  induction l generalizing s with
  | nil => cases hd
  | cons k l ih =>
    rw [List.nodup_cons] at hl
    rw [List.foldl_cons]
    by_cases hk : d = k
    · rw [hk, State.dom_foldl_countCycles_of_notMem l _ hl.1, State.dom_countCycles_same]
    · rw [ih _ ((List.mem_cons.mp hd).resolve_left hk) hl.2, s.dom_countCycles_ne hk, s.f_countCycles]

theorem State.dom_tickDoms (s : State) {d : Nat} (h : d < 25) :
    s.tickDoms.dom d = (s.dom d).counted (s.f .CLK_DOM_STATUS_FREQ_ACT d) :=
  State.dom_foldl_countCycles _ s (List.mem_range.mpr h) List.nodup_range

/-! ### A quiet tick -/

/-- Where no priority is paused, the start of the tick is time, the counters, the bucket and the receive buffer. -/
theorem State.tickDrained_of_quiet (s : State) (h : s.eth.xoff = 0) : ∃ ds, s.tickDrained = { s with
    now := s.now + 1, doms := ds, eth := { s.eth with occ := [], xoff := 0 }
    hl := { s.hl with bucket := min 16000000 (s.hl.bucket + s.f .HL_CFG_DISCOVER_RATE) } }
    ∧ ∀ d, d < 25 → NTbl.at {} ds d = (s.dom d).counted (s.f .CLK_DOM_STATUS_FREQ_ACT d) := by
  obtain ⟨ds, hds⟩ := State.foldl_countCycles_rest (List.range 25) { s with now := s.now + 1 }
  refine ⟨ds, ?_, fun d hd => ?_⟩
  · unfold State.tickDrained State.bufferDrain
    rw [State.tickDoms_eq, hds]
    show State.mk .. = _
    simp only [State.tickBucket, State.setHl, h]
    rfl
  · have := ({ s with now := s.now + 1 } : State).dom_tickDoms hd
    rw [State.tickDoms_eq, hds] at this
    exact this

theorem foldl_fixed_of_mem {α : Type} {g : State → α → State} {l : List α} {s : State} (h : ∀ a ∈ l, g s a = s) :
    l.foldl g s = s := by
  induction l with
  | nil => rfl
  | cons a l ih =>
    rw [List.foldl_cons, h a List.mem_cons_self]
    exact ih fun b hb => h b (List.mem_cons_of_mem a hb)

theorem State.txGo_of_empty {s : State} (h : s.eth.txq = []) : s.txGo = s := by
  rw [State.txGo, h]
  rfl

theorem State.lcTick_of_none {s : State} (h : s.lcJob = none) : s.lcTick = s := by
  rw [State.lcTick, h]
  split <;> rfl

theorem State.reclaimsEnd_of_empty {s : State} (h : s.coh.reclaim = []) : s.reclaimsEnd = s := by
  rw [State.reclaimsEnd, h]
  rfl

theorem State.grantAcks_of_empty {s : State} (h : ∀ n < 8, (s.link n).acks = []) : s.grantAcks = s :=
  foldl_fixed_of_mem fun n hn => by
    rw [h n (List.mem_range.mp hn)]
    rfl

/-- The state without evictions that wait or have been taken. -/
def State.clearEvicts (s : State) : State := { s with coh := { s.coh with evicts := [], evWait := [] } }

theorem State.evictsIn_of_empty {s : State} (h : s.coh.evWait = []) : s.evictsIn = s.clearEvicts := by
  rw [State.evictsIn, h]
  rfl

theorem State.serveReady_of_empty {s : State} (hr : s.mesh.reqs = []) (ht : s.coh.txns = [])
    (hl : ∀ n < 8, (s.link n).recalling = false) : s.serveReady = s := by
  unfold State.serveReady
  rw [hr, List.foldl_nil]
  dsimp only
  rw [ht, List.foldl_nil]
  refine foldl_fixed_of_mem fun n hn => ?_
  rw [State.siteRecalled, if_pos (Or.inl (by rw [hl n (List.mem_range.mp hn)]; rfl))]

theorem State.siteTick_of_down {s : State} {n : Nat} (hu : s.linkUp n = false) (hr : (s.link n).releaseAt = none) :
    s.siteTick n = s := by
  rw [State.siteTick, hu, State.siteReleaseDue, hr]
  rfl

/-- The rest of a tick where nothing waits: the channels' schedules and the lists of evictions are swept. -/
theorem State.tick_rest_of_quiet {t : State} (htx : t.eth.txq = []) (hlc : t.lcJob = none) (hrec : t.coh.reclaim = [])
    (hev : t.coh.evWait = []) (hreqs : t.mesh.reqs = []) (htxns : t.coh.txns = [])
    (hlink : ∀ n, n < 8 → t.linkUp n = false ∧ (t.link n).recalling = false ∧ (t.link n).releaseAt = none ∧ (t.link n).acks = []) :
    (List.range 8).foldl State.siteTick t.txGo.lcTick.tickChans.reclaimsEnd.grantAcks.evictsIn.serveReady =
      t.tickChans.clearEvicts := by
  rw [State.txGo_of_empty htx, State.lcTick_of_none hlc, State.reclaimsEnd_of_empty (s := t.tickChans) hrec,
    State.grantAcks_of_empty (s := t.tickChans) fun n hn => (hlink n hn).2.2.2, State.evictsIn_of_empty (s := t.tickChans) hev,
    State.serveReady_of_empty (s := t.tickChans.clearEvicts) hreqs htxns
      fun n hn => (hlink n hn).2.1]
  refine foldl_fixed_of_mem fun n hn => ?_
  have hn := List.mem_range.mp hn
  exact State.siteTick_of_down (s := t.tickChans.clearEvicts)
    (hlink n hn).1 (hlink n hn).2.2.1

theorem State.tick_of_quiet (s : State) (h : s.quiet) : s.tick = s.tickDrained.tickChans.clearEvicts := by
  obtain ⟨hx, htx, -, htxns, hrec, hreqs, hev, hlc, hlink⟩ := h
  obtain ⟨ds, hd, -⟩ := s.tickDrained_of_quiet hx
  have key : s.tick = (List.range 8).foldl State.siteTick
    s.tickDrained.txGo.lcTick.tickChans.reclaimsEnd.grantAcks.evictsIn.serveReady := rfl
  rw [key, hd]
  exact State.tick_rest_of_quiet htx hlc hrec hev hreqs htxns hlink

/-- Settles O2: the step is the tick; a quiet one changes time, counters, the bucket, the buffer, schedules and evictions only. -/
theorem idleStepIsTick : Obligations.IdleStepIsTick := by
  intro s hp hr
  refine ⟨s.tick, by rw [step, hp]; dsimp only; rw [hr], s.tick_now, s.tick_keeps.pending.trans hp, s.tick_drained.1,
    s.tick_drained.2, fun hq => ?_⟩
  obtain ⟨ds, hd, hds⟩ := s.tickDrained_of_quiet hq.1
  rw [s.tick_of_quiet hq, hd]
  refine ⟨rfl, rfl, rfl, rfl, rfl, rfl, rfl, rfl, rfl, fun d hlt => ?_⟩
  show (NTbl.at {} ds d).running = _ ∧ (NTbl.at {} ds d).cycles = _
  rw [hds d hlt]
  exact ⟨rfl, rfl⟩

end Sys2Proof.Machine
end

section
/-! Lane rows: what a row's instruction leaves in the registers of its stream, by the kind of the instruction, and the results
of the arithmetic rows (04 R163, 02 R85-R88). -/

namespace Sys2Proof.Machine

/-! ### Two's complement -/

theorem asInt_toNat {w : Nat} (x : BitVec w) : asInt w x.toNat = x.toInt := by
  rw [asInt, Nat.mod_eq_of_lt x.isLt, BitVec.toInt_eq_toNat_cond]
  cases w with
  | zero => simp [BitVec.of_length_zero]
  | succ n =>
    rw [Nat.add_sub_cancel, Nat.pow_succ]
    split <;> split <;> omega

theorem ofNat_ofInt (w : Nat) (i : Int) : BitVec.ofNat w (ofInt w i) = BitVec.ofInt w i := by
  apply BitVec.eq_of_toNat_eq
  rw [BitVec.toNat_ofInt, BitVec.toNat_ofNat, ofInt]
  refine Nat.mod_eq_of_lt ?_
  have h : (0 : Int) < (2 ^ w : Nat) := by exact_mod_cast Nat.two_pow_pos w
  have := Int.emod_lt_of_pos i h
  have := Int.emod_nonneg i (Int.ne_of_gt h)
  omega

theorem ofNat_sub_wrap {w : Nat} (a b : BitVec w) : BitVec.ofNat w (a.toNat + 2 ^ w - b.toNat) = a - b := by
  apply BitVec.eq_of_toNat_eq
  rw [BitVec.toNat_sub, BitVec.toNat_ofNat, Nat.add_comm (2 ^ w - b.toNat), Nat.add_sub_assoc (Nat.le_of_lt b.isLt)]

theorem ofNat_shiftLeft {w : Nat} (a : BitVec w) (n : Nat) : BitVec.ofNat w (a.toNat * 2 ^ n) = a <<< n := by
  apply BitVec.eq_of_toNat_eq
  rw [BitVec.toNat_shiftLeft, BitVec.toNat_ofNat, Nat.shiftLeft_eq]

theorem ofNat_shiftRight {w : Nat} (a : BitVec w) (n : Nat) : BitVec.ofNat w (a.toNat / 2 ^ n) = a >>> n := by
  apply BitVec.eq_of_toNat_eq
  rw [BitVec.toNat_ushiftRight, BitVec.toNat_ofNat, Nat.shiftRight_eq_div_pow]
  exact Nat.mod_eq_of_lt (Nat.lt_of_le_of_lt (Nat.div_le_self _ _) a.isLt)

theorem ofNat_sraN {w : Nat} (a : BitVec w) (n : Nat) : BitVec.ofNat w (sraN w a.toNat n) = a.sshiftRight n := by
  rw [sraN, ofNat_ofInt, asInt_toNat, BitVec.sshiftRight_eq, Int.shiftRight_eq_div_pow]

theorem ofNat_clampInt (i : Int) : BitVec.ofNat 32 (ofInt 32 (clampInt 32 i).1) = sat32 i := by
  rw [ofNat_ofInt, sat32]
  unfold clampInt
  dsimp only
  split
  · congr 1; omega
  · split <;> (congr 1; omega)

/-! ### Rows whose instruction goes on -/

/-- A row at its instruction, whose function goes on with stream `t2` and a state that has kept what lane rows keep: the stream
ends as `t2`, one instruction further. -/
theorem State.atLane_next {s : State} {e u opc : Nat} {t : Stream} {i : Ins} (h : s.atLane e u opc t i) {f : LaneFn}
    {t2 : Stream} {fl nn : Nat} {s2 : State} (hf : f { t with pc := t.pc + 1 } i s = .next t2 fl nn s2) (hs : s.laneLeaves s2 e) :
    ∃ b, (s.laneRow e u opc f).stream e u = some { t2 with steps := t2.steps + 1, ended := b }
      ∧ s.laneLeaves (s.laneRow e u opc f) e := by
  obtain ⟨hl, b, hb⟩ := s2.laneAfter_gives e u t.pc t2 fl nn
  rw [State.laneRow_next h hf]
  exact ⟨b, hb, State.laneLeaves_trans hs hl⟩

/-- A row of the lane class that computes its lanes by `g` writes `f`, where the two agree on every lane. -/
theorem laneWrites_of_fnV {row : Nat → Nat → Instr} {opc : Nat}
    {f : Stream → Ins → Nat → BitVec 32 → BitVec 32 → BitVec 32 → BitVec 32} (g : Stream → Ins → LaneIn → LaneVal)
    (hrow : ∀ e u s, exec (row e u) s = .next (s.laneRow e u opc fun t i s => fnV (g t i) t i s))
    (hg : ∀ t i k, k < nLanes → BitVec.ofNat 32 (g { t with pc := t.pc + 1 } i (t.input i k)).1
      = f t i k ((t.v i.ra).getD k 0) ((t.v i.rb).getD k 0) ((t.v i.rc).getD k 0)) :
    laneWrites row opc f := by
  intro s e u t i h
  let x : Stream := { t with pc := t.pc + 1 }
  obtain ⟨b, hb, hl⟩ := State.atLane_next h (f := fun t i s => fnV (g t i) t i s) (t2 := (x.vmap i (g x i)).1)
    (fl := (x.vmap i (g x i)).2) (nn := 0) rfl (s.laneLeaves_refl e)
  refine ⟨_, _, hrow e u s, hb, ⟨rfl, rfl⟩, hl, fun k hk => ?_, fun r hr => x.vmap_other i (g x i) hr, rfl, rfl⟩
  exact (x.vmap_v i (g x i) hk).trans (by rw [← hg t i k hk]; rfl)

/-- As above, for a function of the lane's operands alone. -/
theorem laneWrites_of_lane {row : Nat → Nat → Instr} {opc : Nat}
    {f : Stream → Ins → Nat → BitVec 32 → BitVec 32 → BitVec 32 → BitVec 32} (g : LaneIn → LaneVal)
    (hrow : ∀ e u s, exec (row e u) s = .next (s.laneRow e u opc (fnV g)))
    (hg : ∀ t i k, BitVec.ofNat 32 (g (t.input i k)).1
      = f t i k ((t.v i.ra).getD k 0) ((t.v i.rb).getD k 0) ((t.v i.rc).getD k 0)) :
    laneWrites row opc f := laneWrites_of_fnV (fun _ _ => g) hrow fun t i k _ => hg t i k

/-- A wrapping integer row. -/
theorem laneWrites_of_laneI {row : Nat → Nat → Instr} {opc : Nat} {f : BitVec 32 → BitVec 32 → BitVec 32} (g : Nat → Nat → Nat)
    (hrow : ∀ e u s, exec (row e u) s = .next (s.laneRow e u opc (fnV (laneI g))))
    (hg : ∀ a b : BitVec 32, BitVec.ofNat 32 (g a.toNat b.toNat) = f a b) : laneWrites row opc (fun _ _ _ a b _ => f a b) :=
  laneWrites_of_lane (laneI g) hrow fun t i k => by
    rw [laneI, ← hg]
    exact BitVec.eq_of_toNat_eq (by simp only [BitVec.toNat_ofNat, Nat.mod_mod]; rfl)

/-- A saturating integer row. -/
theorem laneWrites_of_laneSat {row : Nat → Nat → Instr} {opc : Nat} (g : Int → Int → Int)
    (hrow : ∀ e u s, exec (row e u) s = .next (s.laneRow e u opc (fnV (laneSat g)))) :
    laneWrites row opc (fun _ _ _ a b _ => sat32 (g a.toInt b.toInt)) :=
  laneWrites_of_lane (laneSat g) hrow fun t i k => by
    rw [laneSat, ← ofNat_clampInt, ← asInt_toNat, ← asInt_toNat]
    rfl

/-- Settles O9: each row computes its lanes by one function of the operands. -/
theorem laneArithmeticResults : Obligations.LaneArithmeticResults := by
  refine ⟨?_, ?_, ?_, ?_, ?_, ?_, ?_, ?_, ?_, ?_, ?_, ?_, ?_, ?_, ?_, ?_, ?_, ?_, ?_, ?_, ?_, ?_, ?_, ?_, ?_⟩
  · exact laneWrites_of_laneI _ (fun _ _ _ => rfl) fun a b => BitVec.eq_of_toNat_eq (by simp)
  · exact laneWrites_of_laneI _ (fun _ _ _ => rfl) ofNat_sub_wrap
  · exact laneWrites_of_laneI _ (fun _ _ _ => rfl) fun a b => BitVec.eq_of_toNat_eq (by simp)
  · exact laneWrites_of_laneSat _ fun _ _ _ => rfl
  · exact laneWrites_of_laneSat _ fun _ _ _ => rfl
  · exact laneWrites_of_laneI _ (fun _ _ _ => rfl) fun a b => by rw [← BitVec.toNat_and, BitVec.ofNat_toNat, BitVec.setWidth_eq]
  · exact laneWrites_of_laneI _ (fun _ _ _ => rfl) fun a b => by rw [← BitVec.toNat_or, BitVec.ofNat_toNat, BitVec.setWidth_eq]
  · exact laneWrites_of_laneI _ (fun _ _ _ => rfl) fun a b => by rw [← BitVec.toNat_xor, BitVec.ofNat_toNat, BitVec.setWidth_eq]
  · exact laneWrites_of_laneI _ (fun _ _ _ => rfl) fun a b => ofNat_shiftLeft a _
  · exact laneWrites_of_laneI _ (fun _ _ _ => rfl) fun a b => ofNat_shiftRight a _
  · exact laneWrites_of_laneI _ (fun _ _ _ => rfl) fun a b => ofNat_sraN a _
  all_goals exact laneWrites_of_lane _ (fun _ _ _ => rfl) fun _ _ _ => rfl

/-! ### Moves, selections, conversions, compares -/

/-- A register written in every lane. -/
theorem Stream.v_put_map (t : Stream) (i : Ins) (g : LaneIn → BitVec 32) {vnan : NTbl (List Bool)} {k : Nat} (hk : k < nLanes) :
    (({ t with vreg := NTbl.put [] t.vreg i.rd (packLanes 0 ((t.inputs i).map g)), vnan := vnan } : Stream).v i.rd).getD k 0
      = g (t.input i k) := by
  unfold Stream.v
  rw [NTbl.at_put_same, padLanes_pack _ _ (by rw [List.length_map, Stream.inputs_length]), List.getD_eq_getElem?_getD,
    List.getElem?_map, Stream.inputs_at t i hk]
  rfl

/-- The command of a row at its instruction, whose function goes on with stream `t2` and a state that has kept what lane rows
keep, completes with the stream as `t2`, one instruction further. -/
theorem State.atLane_exec {c : Instr} {s : State} {e u opc : Nat} {t : Stream} {i : Ins} {f : LaneFn}
    (hrow : exec c s = .next (s.laneRow e u opc f)) (h : s.atLane e u opc t i)
    {t2 : Stream} {fl nn : Nat} {s2 : State} (hf : f { t with pc := t.pc + 1 } i s = .next t2 fl nn s2) (hs : s.laneLeaves s2 e) :
    ∃ s1 b, exec c s = .next s1 ∧ s1.stream e u = some { t2 with steps := t2.steps + 1, ended := b } ∧ s.laneLeaves s1 e := by
  obtain ⟨b, hb, hl⟩ := State.atLane_next h hf hs
  exact ⟨_, b, hrow, hb, hl⟩

/-- Only the counter of free values differs. -/
theorem State.laneLeaves_freeCtr (s : State) (e k : Nat) : s.laneLeaves { s with freeCtr := k } e :=
  ⟨rfl, rfl, rfl, rfl, rfl, rfl, rfl, rfl, rfl, rfl, rfl, fun _ _ => rfl, rfl, rfl, rfl, rfl, fun _ _ _ _ => rfl⟩

theorem ofNat_ite_fst (c : Prop) [Decidable c] (a b : BitVec 32) (x y : Bool) :
    BitVec.ofNat 32 (if c then (a.toNat, x) else (b.toNat, y)).1 = if c then a else b := by
  split <;> simp

/-- SEL takes one operand or the other by the predicate. -/
theorem exec_sel_result {s : State} {e u : Nat} {t : Stream} {i : Ins} (h : s.atLane e u 0x2B t i) :
    ∃ s1 t1, exec (.sel e u) s = .next s1 ∧ s1.stream e u = some t1 ∧ t.stepped t1 ∧ s.laneLeaves s1 e
      ∧ (∀ k, k < nLanes → (t1.v i.rd).getD k 0 =
          if (t.p i.pred).getD k false then (t.v i.ra).getD k 0 else (t.v i.rb).getD k 0)
      ∧ (∀ r, r ≠ i.rd → t1.v r = t.v r) ∧ t1.pred = t.pred ∧ t1.sreg = t.sreg := by
  obtain ⟨s1, b, he, hb, hl⟩ := State.atLane_exec (c := .sel e u) rfl h rfl (s.laneLeaves_refl e)
  refine ⟨s1, _, he, hb, ⟨rfl, rfl⟩, hl, fun k hk => ?_, fun r hr => ?_, rfl, rfl⟩
  · have hv := t.v_put_map i (fun x => BitVec.ofNat 32 (if x.prd then (x.a, x.sa) else (x.b, x.sb)).1)
      (vnan := NTbl.put [] t.vnan i.rd (packLanes false
        (((t.inputs i).map fun x => if x.prd then (x.a, x.sa) else (x.b, x.sb)).map Prod.snd))) hk
    refine Eq.trans ?_ (hv.trans ?_)
    · simp only [Stream.v, List.map_map]
      rfl
    · exact ofNat_ite_fst _ _ _ _ _
  · unfold Stream.v
    exact congrArg _ (NTbl.at_put_ne _ _ _ hr)

theorem fmtBits_le (f : Nat) : fmtBits f ≤ 32 := by
  unfold fmtBits
  repeat' split
  all_goals omega

/-- A result with free bits above its width. -/
theorem ofNat_free_top (c x : Nat) {w : Nat} (hw : w ≤ 32) : (BitVec.ofNat 32 (c + x * 2 ^ w)).toNat % 2 ^ w = c % 2 ^ w := by
  rw [BitVec.toNat_ofNat, Nat.mod_mod_of_dvd _ (Nat.pow_dvd_pow 2 hw), Nat.add_mul_mod_self_right]

/-- CVT converts in the lanes that act, an element of a block-scaled format under some scale. -/
theorem exec_cvt_result {s : State} {e u : Nat} {t : Stream} {i : Ins} (h : s.atLane e u 0x20 t i) :
    ∃ s1 t1, exec (.cvt e u) s = .next s1 ∧ s1.stream e u = some t1 ∧ t.stepped t1 ∧ s.laneLeaves s1 e
      ∧ (∀ k, k < nLanes → if t.acts i k then ∃ from' to',
          let x := elemDecode i.imm (((t.v i.ra).getD k 0).toNat % 2 ^ fmtBits i.imm)
          let v := if fmtBlock i.imm then scaled x from' else x
          ((t1.v i.rd).getD k 0).toNat % 2 ^ fmtBits i.fmt
            = (if fmtBlock i.fmt then loneElem i.fmt to' v else elemConv i.fmt v).1 % 2 ^ fmtBits i.fmt
        else (t1.v i.rd).getD k 0 = (t.v i.rd).getD k 0)
      ∧ (∀ r, r ≠ i.rd → t1.v r = t.v r) ∧ t1.pred = t.pred ∧ t1.sreg = t.sreg := by
  obtain ⟨s1, b, he, hb, hl⟩ := State.atLane_exec (c := .cvt e u) rfl h rfl (s.laneLeaves_freeCtr e _)
  let x : Stream := { t with pc := t.pc + 1 }
  refine ⟨s1, _, he, hb, ⟨rfl, rfl⟩, hl, fun k hk => ?_, fun r hr => x.vmap_other i _ hr, rfl, rfl⟩
  have hv := x.vmap_v i (laneCvt i s.freeCtr) hk
  split
  next ha =>
    refine ⟨Config.free (s.freeCtr + nLanes + k) % 256, Config.free (s.freeCtr + 2 * nLanes + k) % 255, ?_⟩
    rw [if_pos (show (x.input i k).act = true from ha)] at hv
    refine (congrArg (fun y => BitVec.toNat y % 2 ^ fmtBits i.fmt) hv).trans ?_
    exact ofNat_free_top _ _ (fmtBits_le i.fmt)
  next ha =>
    rw [if_neg (show ¬ (x.input i k).act = true from ha)] at hv
    exact hv

/-- A compare row writes its predicate in the lanes that act. -/
theorem exec_compare_result {c : Instr} {s : State} {e u opc : Nat} {t : Stream} {i : Ins} (g : Ins → LaneIn → Bool × Nat)
    (hrow : exec c s = .next (s.laneRow e u opc (fnP g))) (h : s.atLane e u opc t i) :
    ∃ s1 t1, exec c s = .next s1 ∧ s1.stream e u = some t1 ∧ t.stepped t1
      ∧ s.laneLeaves s1 e ∧ t1.vreg = t.vreg ∧ t1.sreg = t.sreg ∧ (∀ r, r ≠ i.rd → t1.p r = t.p r)
      ∧ ∀ k, k < nLanes → (t1.p i.rd).getD k false = if i.rd = 0 then true else if t.acts i k then
          (g i (t.input i k)).1 else (t.p i.rd).getD k false := by
  obtain ⟨s1, b, he, hb, hl⟩ := State.atLane_exec hrow h rfl (s.laneLeaves_refl e)
  let x : Stream := { t with pc := t.pc + 1 }
  have hrest : (x.pmap i (g i)).1.pc = x.pc ∧ (x.pmap i (g i)).1.steps = x.steps ∧ (x.pmap i (g i)).1.vreg = x.vreg
      ∧ (x.pmap i (g i)).1.sreg = x.sreg := by
    unfold Stream.pmap
    dsimp only
    split <;> exact ⟨rfl, rfl, rfl, rfl⟩
  obtain ⟨hpc, hsteps, hv, hsr⟩ := hrest
  exact ⟨s1, _, he, hb, ⟨hpc, congrArg (· + 1) hsteps⟩, hl, hv, hsr, fun r hr => x.pmap_other i _ hr,
    fun k hk => x.pmap_p i _ hk⟩

/-- Settles O10. -/
theorem laneMovesAndCompares : Obligations.LaneMovesAndCompares := by
  refine ⟨⟨?_, ?_, ?_, ?_, ?_⟩, ?_⟩
  · refine laneWrites_of_fnV (fun _ i _ => (if i.fmt = 11 then i.imm * 16 else ofInt 32 i.simm, 0, false)) (fun _ _ _ => rfl)
      fun t i k _ => ?_
    dsimp only
    split
    · rfl
    · exact ofNat_ofInt 32 i.simm
  · exact laneWrites_of_fnV (fun t i _ => (t.s i.ra % 2 ^ 32, 0, t.sStored i.ra)) (fun _ _ _ => rfl) fun t i k _ =>
      BitVec.eq_of_toNat_eq (by simp only [BitVec.toNat_ofNat, Nat.mod_mod]; rfl)
  · exact laneWrites_of_lane (fun x => (x.lane, 0, false)) (fun _ _ _ => rfl) fun _ _ _ => rfl
  · exact fun s e u t i h => exec_sel_result h
  · exact fun s e u t i h => exec_cvt_result h
  · intro s e u t i
    exact ⟨fun h => exec_compare_result (fun i x => (condF i.fmt (fp32.decode x.a) (fp32.decode x.b),
        nanFrom fp32 x.sa x.a ||| nanFrom fp32 x.sb x.b)) rfl h,
      fun h => exec_compare_result (fun i x => (condI 32 i.fmt x.a x.b, 0)) rfl h⟩

/-! ### Rows that only move on in their stream -/

/-- A row that changes its stream's place only. -/
theorem laneGoes_of_fn {row : Nat → Nat → Instr} {opc : Nat} {f : Stream → Ins → Nat}
    {may : State → Nat → Nat → Prop} (g : Stream → Ins → Stream)
    (hrow : ∀ e u s, may s e u → exec (row e u) s = .next (s.laneRow e u opc fun t i s => .next (g t i) 0 0 s))
    (hg : ∀ t i, let x := g { t with pc := t.pc + 1 } i
      x.pc = f t i ∧ x.steps = t.steps ∧ x.sreg = t.sreg ∧ x.vreg = t.vreg ∧ x.pred = t.pred) :
    laneGoes row opc f false may := by
  intro s e u t i h hm
  obtain ⟨s1, b, he, hb, hl⟩ := State.atLane_exec (hrow e u s hm) h rfl (s.laneLeaves_refl e)
  obtain ⟨hpc, hsteps, hsr, hv, hp⟩ := hg t i
  exact ⟨s1, _, he, hb, hl, hpc, congrArg (· + 1) hsteps, nofun, hsr, hv, hp⟩

/-- A branch: to IMM where its condition holds, else on. -/
theorem laneGoes_of_branch {row : Nat → Nat → Instr} {opc : Nat} (c : Stream → Ins → Bool)
    (hrow : ∀ e u s, exec (row e u) s = .next (s.laneRow e u opc fun t i s => .next (if c t i then { t with pc := i.imm } else t) 0 0 s))
    (hc : ∀ (t : Stream) i pc, c { t with pc := pc } i = c t i) :
    laneGoes row opc (fun t i => if c t i then i.imm else t.pc + 1) false := by
  refine laneGoes_of_fn (fun t i => if c t i then { t with pc := i.imm } else t) (fun e u s _ => hrow e u s) fun t i => ?_
  dsimp only
  rw [hc t i]
  split <;> exact ⟨rfl, rfl, rfl, rfl, rfl⟩

/-- A stream that has ended is not changed by the end of its order. -/
theorem State.stream_laneStop_ended (s : State) (e u q idx st fc a : Nat) {t : Stream} (h : s.stream e u = some t)
    (ht : t.ended = true) : (s.laneStop e q idx st fc a).stream e u = some t := by
  have hm := NTbl.at_map none (Option.map (fun t : Stream => if t.q = q ∧ t.idx = idx then { t with ended := true } else t)) rfl
    ((s.updRun e q idx (fun r => { r.fail st fc a with finished := true, res := [] })).eng e).streams u
  have hs : (if t.q = q ∧ t.idx = idx then { t with ended := true } else t) = t := by
    rw [← ht, ite_self]
  rw [show NTbl.at none ((s.updRun e q idx _).eng e).streams u = some t from (s.stream_updRun e q idx _ u).trans h,
    Option.map_some, hs] at hm
  unfold State.laneStop State.stream Eng.endStreams
  dsimp only
  rw [State.eng_setEng]
  exact hm

/-- A stream that ends has ended after its instruction. -/
theorem State.stream_laneAfter_ended (s : State) (e u pc : Nat) {t : Stream} (fl nn : Nat) (ht : t.ended = true) :
    (s.laneAfter e u pc t fl nn).stream e u = some { t with steps := t.steps + 1 } := by
  have hs : ∀ f, ((((s.setEng e { s.eng e with stepMask := setBit (s.eng e).stepMask u false }).setStream e u
      { t with steps := t.steps + 1 }).count .CE_LANE_ISSUE_COUNT e 0 64 1).updRun e t.q t.idx f).stream e u
      = some { t with steps := t.steps + 1 } := fun f =>
    (State.stream_updRun ..).trans (State.stream_setStream _ e u _)
  unfold State.laneAfter
  dsimp only
  have hs := hs fun r => { r with flags := r.flags ||| fl, nans := r.nans + nn }
  revert hs
  generalize State.updRun _ _ _ _ _ = s2
  intro hs
  have hite : ∀ {c : Prop} [Decidable c] {x y : State} {r : Option Stream}, x.stream e u = r → y.stream e u = r →
      (if c then x else y).stream e u = r := fun hx hy => by split <;> assumption
  exact hite (s2.stream_laneStop_ended _ _ _ _ _ _ _ hs ht) (hite (s2.stream_laneStop_ended _ _ _ _ _ _ _ hs ht)
    (hite ((s2.stream_updRun ..).trans hs) hs))

/-- Settles O12. -/
theorem laneControlFlow : Obligations.LaneControlFlow := by
  refine ⟨?_, ?_, ?_, ?_, ?_, ?_, ?_, ?_⟩
  · exact laneGoes_of_branch (fun t i => condI 64 i.fmt (t.s i.ra) (t.s i.rb)) (fun _ _ _ => rfl) fun _ _ _ => rfl
  · exact laneGoes_of_fn (fun t i => { t with pc := i.imm }) (fun _ _ _ _ => rfl) fun _ _ => ⟨rfl, rfl, rfl, rfl, rfl⟩
  · exact laneGoes_of_branch (fun t i => (t.p i.pred).any id) (fun _ _ _ => rfl) fun _ _ _ => rfl
  · exact laneGoes_of_branch (fun t i => (t.p i.pred).all id) (fun _ _ _ => rfl) fun _ _ _ => rfl
  · exact laneGoes_of_fn (fun t _ => t) (fun _ _ _ _ => rfl) fun _ _ => ⟨rfl, rfl, rfl, rfl, rfl⟩
  · refine laneGoes_of_fn (fun t _ => t) (fun e u s hm => ?_) fun _ _ => ⟨rfl, rfl, rfl, rfl, rfl⟩
    show execSfence e u s = _
    rw [execSfence, hm]
    rfl
  · intro s e u hw
    show execSfence e u s = _
    rw [execSfence, hw]
    rfl
  · intro s e u t i h _
    have hr := State.laneRow_next h (f := fun t _ s => .next { t with ended := true } 0 0 s) rfl
    obtain ⟨hl, -⟩ := s.laneAfter_gives e u t.pc { t with pc := t.pc + 1, ended := true } 0 0
    exact ⟨_, _, congrArg Host.Outcome.next hr, s.stream_laneAfter_ended e u t.pc 0 0 rfl, hl, rfl, rfl, fun _ => rfl, rfl, rfl, rfl⟩

end Sys2Proof.Machine
end

section
/-! The scalar rows and RED: what they leave in sd (04 R163, 02 R86, R89). -/

namespace Sys2Proof.Machine

/-! ### Rows that write a scalar register -/

theorem Stream.setS_s_same (t : Stream) (r v : Nat) (st : Bool) : (t.setS r v st).s r = v % 2 ^ 64 := NTbl.at_put_same ..

theorem Stream.setS_s_ne (t : Stream) {r k : Nat} (v : Nat) (st : Bool) (h : k ≠ r) : (t.setS r v st).s k = t.s k :=
  NTbl.at_put_ne _ _ _ h

/-- The command of a row that writes value `v` of its stream in sd. -/
theorem exec_setS_result {c : Instr} {s : State} {e u opc : Nat} {t : Stream} {i : Ins} {f : LaneFn} {v fl nn k : Nat} {st : Bool}
    (hrow : exec c s = .next (s.laneRow e u opc f)) (h : s.atLane e u opc t i)
    (hf : f { t with pc := t.pc + 1 } i s = .next (({ t with pc := t.pc + 1 } : Stream).setS i.rd v st) fl nn { s with freeCtr := k }) :
    ∃ s1 t1, exec c s = .next s1 ∧ s1.stream e u = some t1 ∧ t.stepped t1 ∧ s.laneLeaves s1 e
      ∧ t1.s i.rd = v % 2 ^ 64 ∧ (∀ r, r ≠ i.rd → t1.s r = t.s r) ∧ t1.vreg = t.vreg ∧ t1.pred = t.pred := by
  obtain ⟨s1, b, he, hb, hl⟩ := State.atLane_exec hrow h hf (s.laneLeaves_freeCtr e k)
  exact ⟨s1, _, he, hb, ⟨rfl, rfl⟩, hl, Stream.setS_s_same _ _ v st, fun r hr => Stream.setS_s_ne _ v st hr, rfl, rfl⟩

theorem scalarGives_of_fnS {row : Nat → Nat → Instr} {opc : Nat} {f : Stream → Ins → Nat} (g : Stream → Ins → Nat)
    (hrow : ∀ e u s, exec (row e u) s = .next (s.laneRow e u opc (fnS g)))
    (hg : ∀ t i, g { t with pc := t.pc + 1 } i % 2 ^ 64 = f t i % 2 ^ 64) : scalarGives row opc f := by
  intro s e u t i h
  obtain ⟨s1, t1, he, ht, hstep, hl, hv, hrest⟩ := exec_setS_result (k := s.freeCtr) (hrow e u s) h rfl
  exact ⟨s1, t1, he, ht, hstep, hl, hv.trans (hg t i), hrest⟩

theorem scalarWrites_of_fnS {row : Nat → Nat → Instr} {opc : Nat} {f : Stream → Ins → BitVec 64} (g : Stream → Ins → Nat)
    (hrow : ∀ e u s, exec (row e u) s = .next (s.laneRow e u opc (fnS g)))
    (hg : ∀ t i, i.legal = true → i.op = opc → BitVec.ofNat 64 (g { t with pc := t.pc + 1 } i) = f t i) :
    scalarWrites row opc f := by
  intro s e u t i h
  obtain ⟨s1, t1, he, ht, hstep, hl, hv, hrest⟩ := exec_setS_result (k := s.freeCtr) (hrow e u s) h rfl
  obtain ⟨-, -, -, -, -, hlegal, -, hop⟩ := h
  exact ⟨s1, t1, he, ht, hstep, hl, hv.trans (by rw [← hg t i hlegal hop, BitVec.toNat_ofNat]), hrest⟩

/-- A 32-bit result with a free upper half. -/
theorem scalarLow_of_fn {row : Nat → Nat → Instr} {opc : Nat} {f : State → Stream → Ins → Nat} (fn : LaneFn)
    (hrow : ∀ e u s, exec (row e u) s = .next (s.laneRow e u opc fn))
    (hfn : ∀ t i s, ∃ c fl nn k m, fn { t with pc := t.pc + 1 } i s
      = .next (({ t with pc := t.pc + 1 } : Stream).setS i.rd (withFreeTop m c)) fl nn { s with freeCtr := k }
      ∧ c % 2 ^ 32 = f s t i % 2 ^ 32) : scalarLow row opc f := by
  intro s e u t i h
  obtain ⟨c, fl, nn, k, m, hf, hc⟩ := hfn t i s
  obtain ⟨s1, t1, he, ht, hstep, hl, hv, hrest⟩ := exec_setS_result (hrow e u s) h hf
  refine ⟨s1, t1, he, ht, hstep, hl, ?_, hrest⟩
  rw [hv, withFreeTop, Nat.mod_mod_of_dvd _ (Nat.pow_dvd_pow 2 (by decide : 32 ≤ 64)), Nat.add_mul_mod_self_right, Nat.mod_mod, hc]

/-! ### 64-bit arithmetic -/

theorem imm_lt_of_legal_shift {i : Ins} (hl : i.legal = true) (ho : i.op = 0x4A) : i.imm < 64 := by
  unfold Ins.legal at hl
  simp [ho] at hl
  exact hl.2

theorem ofNat_mul_two_pow {w : Nat} (a n : Nat) : BitVec.ofNat w (a * 2 ^ n) = BitVec.ofNat w a <<< n := by
  apply BitVec.eq_of_toNat_eq
  rw [BitVec.toNat_shiftLeft, BitVec.toNat_ofNat, BitVec.toNat_ofNat, Nat.shiftLeft_eq, Nat.mod_mul_mod]

theorem ofNat_mod_two_pow {w : Nat} (a : Nat) : BitVec.ofNat w (a % 2 ^ w) = BitVec.ofNat w a :=
  BitVec.eq_of_toNat_eq (by rw [BitVec.toNat_ofNat, BitVec.toNat_ofNat, Nat.mod_mod])

theorem scalarResults_hold : scalarResults := by
  refine ⟨?_, ?_, ?_, ?_, ?_, ?_, ?_, ?_, ?_⟩
  · exact scalarWrites_of_fnS _ (fun _ _ _ => rfl) fun t i _ _ => BitVec.ofNat_add ..
  · exact scalarWrites_of_fnS _ (fun _ _ _ => rfl) fun t i _ _ => BitVec.ofNat_mul ..
  · refine scalarWrites_of_fnS _ (fun _ _ _ => rfl) fun t i _ _ => ?_
    rw [ofNat_ofInt, BitVec.ofInt_add]
    rfl
  · exact scalarWrites_of_fnS _ (fun _ _ _ => rfl) fun t i _ _ => BitVec.ofNat_and ..
  · exact scalarWrites_of_fnS _ (fun _ _ _ => rfl) fun t i _ _ => BitVec.ofNat_or ..
  · exact scalarWrites_of_fnS _ (fun _ _ _ => rfl) fun t i _ _ => BitVec.ofNat_xor ..
  · exact scalarWrites_of_fnS _ (fun _ _ _ => rfl) fun t i _ _ => ofNat_mul_two_pow _ _
  · refine scalarWrites_of_fnS _ (fun _ _ _ => rfl) fun t i hl ho => ?_
    rw [Nat.mod_eq_of_lt (imm_lt_of_legal_shift hl ho)]
    exact ofNat_mul_two_pow _ _
  · refine scalarWrites_of_fnS _ (fun _ _ _ => rfl) fun t i _ _ => ?_
    rw [BitVec.ofNat_or, ofNat_mod_two_pow]
    exact congrArg (· ||| _) (ofNat_mul_two_pow _ _)

/-! ### Reduction -/

theorem Stream.inputs_eq (t : Stream) (i : Ins) : t.inputs i = (List.range nLanes).map (t.input i) := by
  refine List.ext_getElem? fun k => ?_
  by_cases hk : k < nLanes
  · rw [Stream.inputs_at t i hk, List.getElem?_map, List.getElem?_range hk]
    rfl
  · rw [List.getElem?_eq_none (by rw [Stream.inputs_length]; omega), List.getElem?_eq_none (by simp; omega)]

theorem scalarShiftAndCompareResults_hold : scalarShiftAndCompareResults := by
  refine ⟨?_, ?_, ?_, ?_, ?_, ?_⟩
  · exact scalarGives_of_fnS _ (fun _ _ _ => rfl) fun _ _ => rfl
  · exact scalarGives_of_fnS _ (fun _ _ _ => rfl) fun _ _ => rfl
  · exact scalarGives_of_fnS _ (fun _ _ _ => rfl) fun _ _ => rfl
  · exact scalarGives_of_fnS _ (fun _ _ _ => rfl) fun _ _ => rfl
  · exact scalarGives_of_fnS _ (fun _ _ _ => rfl) fun _ _ => rfl
  · intro s e u t i h
    exact exec_setS_result (k := s.freeCtr) (v := b2n (condF i.fmt (scalarF t i).1 (scalarF t i).2.1)) rfl h rfl

/-- The operands of the lanes that act. -/
theorem Stream.acting_a (t : Stream) (i : Ins) {α : Type} (g : LaneIn → α) (h : BitVec 32 → α)
    (hg : ∀ k, g (t.input i k) = h ((t.v i.ra).getD k 0)) :
    ((t.inputs i).filter LaneIn.act).map g = (t.actingA i).map h := by
  rw [Stream.inputs_eq, List.filter_map, List.map_map, Stream.actingA, List.map_map]
  exact List.map_congr_left fun k _ => hg k

/-- The wrapping sum of 32-bit words. -/
theorem ofInt_sum_asInt (l : List (BitVec 32)) (a : BitVec 32) :
    BitVec.ofInt 32 (a.toInt + (l.map fun c => asInt 32 c.toNat).sum) = l.foldl (· + ·) a := by
  induction l generalizing a with
  | nil => simp
  | cons c l ih =>
    rw [List.foldl_cons, ← ih (a + c), List.map_cons, List.sum_cons, asInt_toNat, ← Int.add_assoc, BitVec.ofInt_add,
      BitVec.ofInt_add (a + c).toInt, BitVec.ofInt_add, BitVec.ofInt_toInt, BitVec.ofInt_toInt, BitVec.ofInt_toInt]

/-- What RED leaves in the low half of sd. -/
theorem redResult_eq (t : Stream) (i : Ins) (k : Nat) :
    (redResult i.imm k ((t.inputs i).filter LaneIn.act)).1 % 2 ^ 32 = (let l := t.actingA i
        match i.imm, l with
        | 0, _ => (fp32.roundArith (accumF k (l.map (fun c => (valF32 c, 0)))).1).1
        | 1, [] => Config.free k
        | 1, c :: r => (roundF32 ((r.map valF32).foldl Fv.max2 (valF32 c))).toNat
        | 2, [] => Config.free k
        | 2, c :: r => (roundF32 ((r.map valF32).foldl Fv.min2 (valF32 c))).toNat
        | _, _ => (l.foldl (· + ·) 0).toNat) % 2 ^ 32 := by
  have hv := t.acting_a i (fun x => fp32.decode x.a) valF32 fun k => rfl
  have hs := t.acting_a i (fun x => asInt 32 x.a) (fun c => asInt 32 c.toNat) fun k => rfl
  unfold redResult
  rw [hv, hs]
  dsimp only
  generalize t.actingA i = l
  have hsum : ofInt 32 (l.map fun c => asInt 32 c.toNat).sum % 2 ^ 32 = (l.foldl (· + ·) 0).toNat % 2 ^ 32 := by
    rw [← ofInt_sum_asInt l 0, ← ofNat_ofInt, BitVec.toNat_ofNat, Nat.mod_mod,
      show (0 : BitVec 32).toInt = 0 from rfl, Int.zero_add]
  match i.imm with
  | 0 => rw [List.map_map]; rfl
  | 1 => cases l with
    | nil => rfl
    | cons c r => exact (Nat.mod_mod _ _).symm
  | 2 => cases l with
    | nil => rfl
    | cons c r => exact (Nat.mod_mod _ _).symm
  | _ + 3 => exact hsum

theorem scalarMinMaxAndReductionResults_hold : scalarMinMaxAndReductionResults := by
  refine ⟨?_, ?_, ?_⟩
  · exact scalarLow_of_fn _ (fun _ _ _ => rfl) fun t i s => ⟨_, _, _, _, _, rfl, (Nat.mod_mod _ _).symm⟩
  · exact scalarLow_of_fn _ (fun _ _ _ => rfl) fun t i s => ⟨_, _, _, _, _, rfl, (Nat.mod_mod _ _).symm⟩
  · exact scalarLow_of_fn _ (fun _ _ _ => rfl) fun t i s => ⟨_, _, _, _, _, rfl, redResult_eq _ i s.freeCtr⟩

/-- Settles O11. -/
theorem scalarAndReductionResults : Obligations.ScalarAndReductionResults :=
  ⟨scalarResults_hold, scalarShiftAndCompareResults_hold, scalarMinMaxAndReductionResults_hold⟩

end Sys2Proof.Machine
end

section
/-! Tile memory by nibbles: what a write of elements leaves in each nibble, and what an element reads there (04 R163, 02 R56). -/

namespace Sys2Proof.Machine

/-! ### Base-16 digits -/

/-- Digit `j` of a number in base 16. -/
def hexDigit (v j : Nat) : Nat := v / 16 ^ j % 16

theorem hexDigit_succ (v j : Nat) : hexDigit v (j + 1) = hexDigit (v / 16) j := by
  rw [hexDigit, hexDigit, Nat.div_div_eq_div_mul, Nat.pow_succ, Nat.mul_comm]

theorem hexDigit_mod (v : Nat) {j w : Nat} (h : j < w) : hexDigit (v % 16 ^ w) j = hexDigit v j := by
  induction w generalizing v j with
  | zero => omega
  | succ w ih =>
    cases j with
    | zero => simp only [hexDigit, Nat.pow_zero, Nat.div_one, Nat.mod_mod_of_dvd _ (Nat.dvd_of_pow_dvd (Nat.le_add_left 1 w) (dvd_refl _))]
    | succ j =>
      rw [hexDigit_succ, hexDigit_succ, Nat.pow_succ, Nat.mul_comm, Nat.mod_mul_right_div_self, ih _ (by omega)]

theorem eq_of_hexDigit {w x y : Nat} (hx : x < 16 ^ w) (hy : y < 16 ^ w) (h : ∀ j, j < w → hexDigit x j = hexDigit y j) :
    x = y := by
  induction w generalizing x y with
  | zero => rw [Nat.pow_zero] at hx hy; omega
  | succ w ih =>
    have h0 : x % 16 = y % 16 := by simpa [hexDigit] using h 0 (by omega)
    rw [Nat.pow_succ] at hx hy
    have h1 : x / 16 = y / 16 := ih (by omega) (by omega) fun j hj => by
      simpa only [hexDigit_succ] using h (j + 1) (by omega)
    omega

/-- Digits of a byte and of what follows it. -/
theorem hexDigit_byte_add (b v j : Nat) (hb : b < 256) :
    hexDigit (b + 256 * v) j = if j < 2 then hexDigit b j else hexDigit v (j - 2) := by
  match j with
  | 0 =>
    rw [if_pos (by omega)]
    simp only [hexDigit]
    omega
  | 1 =>
    rw [if_pos (by omega)]
    simp only [hexDigit]
    omega
  | j + 2 =>
    rw [hexDigit_succ, hexDigit_succ, Nat.div_div_eq_div_mul, if_neg (by omega), show (b + 256 * v) / (16 * 16) = v by omega,
      Nat.add_sub_cancel]

/-! ### Nibbles of bytes -/

/-- Nibble `y` of a byte string. -/
def bytesNib (b : Bytes) (y : Nat) : Nat := hexDigit (b.getD (y / 2) 0).toNat (y % 2)

theorem bytesNib_cons (x : Byte) (b : Bytes) (y : Nat) :
    bytesNib (x :: b) y = if y < 2 then hexDigit x.toNat y else bytesNib b (y - 2) := by
  unfold bytesNib
  split
  · rw [show y / 2 = 0 by omega, Nat.mod_eq_of_lt (by omega)]
    rfl
  · obtain ⟨z, rfl⟩ : ∃ z, y = z + 2 := ⟨y - 2, by omega⟩
    rw [show (z + 2) / 2 = z / 2 + 1 by omega, Nat.add_sub_cancel, Nat.add_mod_right]
    rfl

theorem hexDigit_leNat (b : Bytes) (j : Nat) : hexDigit (leNat b) j = bytesNib b j := by
  induction b generalizing j with
  | nil => simp [leNat, hexDigit, bytesNib]
  | cons x b ih => rw [leNat, hexDigit_byte_add _ _ _ x.isLt, bytesNib_cons, ih]

theorem leNat_lt (b : Bytes) : leNat b < 16 ^ (2 * b.length) := by
  induction b with
  | nil => decide
  | cons x b ih =>
    rw [leNat, List.length_cons, show 2 * (b.length + 1) = 2 * b.length + 2 by omega, Nat.pow_add]
    have := x.isLt
    omega

theorem leBytes_length (n v : Nat) : (leBytes n v).length = n := by
  induction n generalizing v with
  | zero => rfl
  | succ n ih => rw [leBytes, List.length_cons, ih]

theorem bytesNib_leBytes {n y : Nat} (v : Nat) (h : y < 2 * n) : bytesNib (leBytes n v) y = hexDigit v y := by
  induction n generalizing v y with
  | zero => omega
  | succ n ih =>
    rw [leBytes, bytesNib_cons, BitVec.toNat_ofNat]
    split
    next hy => exact hexDigit_mod v (w := 2) hy
    next hy =>
      obtain ⟨z, rfl⟩ : ∃ z, y = z + 2 := ⟨y - 2, by omega⟩
      rw [Nat.add_sub_cancel, ih _ (by omega), hexDigit_succ, hexDigit_succ, Nat.div_div_eq_div_mul]

theorem bytesNib_append (a b : Bytes) (y : Nat) :
    bytesNib (a ++ b) y = if y < 2 * a.length then bytesNib a y else bytesNib b (y - 2 * a.length) := by
  unfold bytesNib
  split
  · rw [List.getD_append _ _ _ _ (by omega)]
  · rw [List.getD_append_right _ _ _ _ (by omega), show (y - 2 * a.length) / 2 = y / 2 - a.length by omega,
      show (y - 2 * a.length) % 2 = y % 2 by omega]

/-! ### Packed elements -/

/-- Nibbles of an element of a format. -/
def fmtNibs (f : Nat) : Nat := fmtBits f / 4

theorem fmtBits_cases (f : Nat) : fmtBits f = 4 ∨ fmtBits f = 8 ∨ fmtBits f = 16 ∨ fmtBits f = 32 := by
  unfold fmtBits
  repeat' split
  all_goals simp

theorem fmtNibs_pos (f : Nat) : 0 < fmtNibs f := by
  unfold fmtNibs
  rcases fmtBits_cases f with h | h | h | h <;> rw [h] <;> decide

theorem sixteen_pow_fmtNibs (f : Nat) : 16 ^ fmtNibs f = 2 ^ fmtBits f := by
  unfold fmtNibs
  rcases fmtBits_cases f with h | h | h | h <;> rw [h] <;> decide

theorem packElems_of_four {f : Nat} (h : fmtBits f = 4) (cs : List Nat) : packElems f cs =
    (List.range ((cs.length + 1) / 2)).map (fun j => BitVec.ofNat 8 (cs.getD (2 * j) 0 % 16 + 16 * (cs.getD (2 * j + 1) 0 % 16))) :=
  if_pos h

theorem packElems_of_bytes {f : Nat} (h : fmtBits f ≠ 4) (cs : List Nat) :
    packElems f cs = (cs.map (leBytes (fmtBits f / 8))).flatten := if_neg h

theorem bytesNib_packElems_four {f : Nat} (h : fmtBits f = 4) (cs : List Nat) {y : Nat} (hy : y < cs.length) :
    bytesNib (packElems f cs) y = cs.getD y 0 % 16 := by
  rw [packElems_of_four h, bytesNib, List.getD_eq_getElem?_getD, List.getElem?_map, List.getElem?_range (by omega),
    Option.map_some, Option.getD_some, BitVec.toNat_ofNat]
  obtain hp | hp : y % 2 = 0 ∨ y % 2 = 1 := by omega
  · rw [hp, show 2 * (y / 2) = y by omega, hexDigit, Nat.pow_zero, Nat.div_one]
    omega
  · rw [hp, show 2 * (y / 2) + 1 = y by omega, hexDigit, Nat.pow_one]
    omega

theorem bytesNib_flatten_leBytes (n : Nat) (cs : List Nat) {y : Nat} (hy : y < 2 * n * cs.length) :
    bytesNib (cs.map (leBytes n)).flatten y = hexDigit (cs.getD (y / (2 * n)) 0) (y % (2 * n)) := by
  induction cs generalizing y with
  | nil => simp at hy
  | cons c cs ih =>
    have hn : 0 < 2 * n := Nat.pos_of_ne_zero fun h => by simp [h] at hy
    rw [List.map_cons, List.flatten_cons, bytesNib_append, leBytes_length]
    split
    next h => rw [bytesNib_leBytes c h, Nat.div_eq_of_lt h, Nat.mod_eq_of_lt h]; rfl
    next h =>
      obtain ⟨z, rfl⟩ : ∃ z, y = z + 2 * n := ⟨y - 2 * n, by omega⟩
      rw [List.length_cons, Nat.mul_succ] at hy
      rw [Nat.add_sub_cancel, ih (by omega), Nat.add_div_right _ hn, Nat.add_mod_right]
      rfl

theorem length_flatten_leBytes (n : Nat) (cs : List Nat) : (cs.map (leBytes n)).flatten.length = n * cs.length := by
  induction cs with
  | nil => rfl
  | cons c cs ih => rw [List.map_cons, List.flatten_cons, List.length_append, leBytes_length, ih, List.length_cons, Nat.mul_succ,
      Nat.add_comm]

/-! ### Nibbles of tile memory -/

/-- Nibble `x` of tile memory. -/
def Eng.nib (g : Eng) (x : Nat) : Nat := hexDigit (NTbl.at 0 g.tile (x / 2)).toNat (x % 2)

theorem Eng.putTile_at (g : Eng) (a : Nat) (b : Bytes) (k : Nat) :
    NTbl.at 0 (g.putTile a b).tile k = if a ≤ k ∧ k < a + b.length then b.getD (k - a) 0 else NTbl.at 0 g.tile k := by
  induction b generalizing g a with
  | nil =>
    rw [if_neg (by rw [List.length_nil]; omega)]
    rfl
  | cons x b ih =>
    rw [Eng.putTile, ih]
    dsimp only
    obtain hk | hk | hk : k = a ∨ (a < k ∧ k < a + (b.length + 1)) ∨ (k < a ∨ a + (b.length + 1) ≤ k) := by omega
    · rw [if_neg (by omega), if_pos (by simp; omega), hk, NTbl.at_put_same, Nat.sub_self]
      rfl
    · rw [if_pos (by omega), if_pos (by simp; omega), show k - a = (k - (a + 1)) + 1 by omega]
      rfl
    · rw [if_neg (by omega), if_neg (by simp; omega), NTbl.at_put_ne _ _ _ (by omega)]

theorem Eng.tileWrite_at (g : Eng) (a : Nat) (b : Bytes) (p : Bool) (k : Nat) :
    NTbl.at 0 (g.tileWrite a b p).tile k = if a ≤ k ∧ k < a + b.length then b.getD (k - a) 0 else NTbl.at 0 g.tile k :=
  Eng.putTile_at _ a b k

theorem Eng.nib_tileWrite (g : Eng) (a : Nat) (b : Bytes) (p : Bool) (x : Nat) :
    (g.tileWrite a b p).nib x = if 2 * a ≤ x ∧ x < 2 * a + 2 * b.length then bytesNib b (x - 2 * a) else g.nib x := by
  unfold Eng.nib bytesNib
  rw [Eng.tileWrite_at]
  by_cases h : a ≤ x / 2 ∧ x / 2 < a + b.length
  · rw [if_pos h, if_pos (by omega), show (x - 2 * a) / 2 = x / 2 - a by omega, show (x - 2 * a) % 2 = x % 2 by omega]
  · rw [if_neg h, if_neg (by omega)]

theorem Eng.tileBytes_length (g : Eng) (a n : Nat) : (g.tileBytes a n).length = n := by
  induction n generalizing a with
  | zero => rfl
  | succ n ih => rw [Eng.tileBytes, List.length_cons, ih]

theorem Eng.getD_tileBytes (g : Eng) (a : Nat) {n k : Nat} (h : k < n) : (g.tileBytes a n).getD k 0 = NTbl.at 0 g.tile (a + k) := by
  induction n generalizing a k with
  | zero => omega
  | succ n ih =>
    cases k with
    | zero => rfl
    | succ k => rw [Eng.tileBytes, List.getD_cons_succ, ih _ (by omega), Nat.add_right_comm, Nat.add_assoc]

theorem Eng.bytesNib_tileBytes (g : Eng) (a : Nat) {n y : Nat} (h : y < 2 * n) : bytesNib (g.tileBytes a n) y = g.nib (2 * a + y) := by
  unfold bytesNib Eng.nib
  rw [Eng.getD_tileBytes _ _ (by omega), show (2 * a + y) / 2 = a + y / 2 by omega, show (2 * a + y) % 2 = y % 2 by omega]

theorem Eng.at_eq_of_nib {g g' : Eng} {b : Nat} (h0 : g.nib (2 * b) = g'.nib (2 * b)) (h1 : g.nib (2 * b + 1) = g'.nib (2 * b + 1)) :
    NTbl.at 0 g.tile b = NTbl.at 0 g'.tile b := by
  unfold Eng.nib at h0 h1
  rw [show 2 * b / 2 = b by omega, show 2 * b % 2 = 0 by omega] at h0
  rw [show (2 * b + 1) / 2 = b by omega, show (2 * b + 1) % 2 = 1 by omega] at h1
  refine BitVec.eq_of_toNat_eq (eq_of_hexDigit (w := 2) (BitVec.isLt _) (BitVec.isLt _) fun j hj => ?_)
  obtain rfl | rfl : j = 0 ∨ j = 1 := by omega
  · exact h0
  · exact h1

/-- An element read at a nibble address: its digits are the nibbles there. -/
theorem Eng.nibCode_eq {g : Eng} {f a c : Nat} (ha : fmtBits f ≠ 4 → a % 2 = 0)
    (h : ∀ j, j < fmtNibs f → g.nib (a + j) = hexDigit c j) : g.nibCode f (a : Int) = c % 2 ^ fmtBits f := by
  have hp : 0 < 16 ^ fmtNibs f := Nat.pow_pos (by decide)
  rw [← sixteen_pow_fmtNibs]
  unfold Eng.nibCode nibBytes
  dsimp only [Int.toNat_natCast]
  by_cases hf : fmtBits f = 4
  · have hw : fmtNibs f = 1 := by rw [fmtNibs, hf]
    have h0 : g.nib a = c % 16 := by simpa [hw, hexDigit] using h 0 (by omega)
    rw [if_pos hf, hf, hw, Nat.pow_one, ← h0]
    unfold Eng.nib Eng.tileBytes Eng.tileBytes leNat leNat
    obtain hp | hp : a % 2 = 0 ∨ a % 2 = 1 := by omega
    · simp [hp, hexDigit]
    · simp [hp, hexDigit]
  · have ha := ha hf
    have hw : 2 * ((fmtBits f + 7) / 8) = fmtNibs f := by
      unfold fmtNibs
      have := fmtBits_cases f
      omega
    rw [if_neg hf]
    refine eq_of_hexDigit (w := fmtNibs f) ?_ (Nat.mod_lt _ hp) fun j hj => ?_
    · have := leNat_lt (g.tileBytes (a / 2) ((fmtBits f + 7) / 8))
      rwa [Eng.tileBytes_length, hw] at this
    · rw [hexDigit_leNat, Eng.bytesNib_tileBytes _ _ (by omega), hexDigit_mod _ hj, ← h j hj, show 2 * (a / 2) = a by omega]

/-! ### Writes of elements -/

/-- Nibble `x` lies in the `n` elements from nibble address `a`. -/
def inElems (f a n x : Nat) : Prop := a ≤ x ∧ x < a + n * fmtNibs f

theorem two_mul_bytes {f : Nat} (h : fmtBits f ≠ 4) : 2 * (fmtBits f / 8) = fmtNibs f := by
  unfold fmtNibs
  have := fmtBits_cases f
  omega

theorem Eng.hexDigit_byte (g : Eng) (b j : Nat) (hj : j < 2) : hexDigit (leNat (g.tileBytes b 1)) j = g.nib (2 * b + j) := by
  rw [hexDigit_leNat, Eng.bytesNib_tileBytes _ _ (by omega)]

/-- The 4-bit codes of a segment with the half bytes kept at its edges. -/
def Eng.withEdges (g : Eng) (a : Nat) (cs : List Nat) : List Nat :=
  let lo := if a % 2 = 1 then [leNat (g.tileBytes (a / 2) 1) % 16] else []
  let all := lo ++ cs
  all ++ if all.length % 2 = 1 then [leNat (g.tileBytes ((a + cs.length) / 2) 1) / 16] else []

theorem Eng.putSegment_four (g : Eng) {f : Nat} (hf : fmtBits f = 4) (a : Nat) (cs : List Nat) :
    g.putSegment f (a : Int) cs = g.tileWrite (a / 2) (packElems f (g.withEdges a cs)) false := by
  unfold Eng.putSegment Eng.withEdges
  rw [if_pos hf]
  rfl

theorem Eng.length_withEdges (g : Eng) (a : Nat) (cs : List Nat) :
    (g.withEdges a cs).length = 2 * ((a % 2 + cs.length + 1) / 2) := by
  unfold Eng.withEdges
  obtain ha | ha : a % 2 = 0 ∨ a % 2 = 1 := by omega
  · rw [ha]
    simp only [Nat.zero_ne_one, if_false, List.nil_append, List.length_append]
    split <;> simp <;> omega
  · rw [ha]
    simp only [if_true, List.cons_append, List.nil_append, List.length_append, List.length_cons]
    split <;> simp <;> omega

theorem Eng.length_packElems_edges (g : Eng) {f : Nat} (hf : fmtBits f = 4) (a : Nat) (cs : List Nat) :
    (packElems f (g.withEdges a cs)).length = (a % 2 + cs.length + 1) / 2 := by
  rw [packElems_of_four hf, List.length_map, List.length_range, Eng.length_withEdges]
  omega

/-- The codes with their edges: the segment's, and beside it what is there. -/
theorem Eng.getD_withEdges (g : Eng) (a : Nat) (cs : List Nat) {y : Nat} (hy : y < 2 * ((a % 2 + cs.length + 1) / 2)) :
    (g.withEdges a cs).getD y 0 % 16 =
      if a % 2 ≤ y ∧ y < a % 2 + cs.length then cs.getD (y - a % 2) 0 % 16 else g.nib (2 * (a / 2) + y) := by
  have h0 : ∀ b, leNat (g.tileBytes b 1) % 16 = g.nib (2 * b) := fun b => by simpa [hexDigit] using g.hexDigit_byte b 0 (by omega)
  have h1 : ∀ b, leNat (g.tileBytes b 1) / 16 % 16 = g.nib (2 * b + 1) := fun b => by simpa [hexDigit] using g.hexDigit_byte b 1 (by omega)
  have hlast : ∀ (l : List Nat), y < l.length + 1 → ¬ y < l.length → ∀ b, (l ++ [leNat (g.tileBytes b 1) / 16]).getD y 0 % 16
      = g.nib (2 * b + 1) := fun l hy hn b => by
    rw [List.getD_append_right _ _ _ _ (by omega), show y - l.length = 0 by omega, ← h1]
    rfl
  unfold Eng.withEdges
  obtain ha | ha : a % 2 = 0 ∨ a % 2 = 1 := by omega
  · rw [ha] at hy ⊢
    simp only [Nat.zero_ne_one, if_false, List.nil_append]
    by_cases hc : y < cs.length
    · rw [List.getD_append _ _ _ _ hc, if_pos (by omega), Nat.sub_zero]
    · rw [if_pos (by omega), if_neg (by omega), hlast cs (by omega) hc, show 2 * ((a + cs.length) / 2) + 1 = 2 * (a / 2) + y by omega]
  · rw [ha] at hy ⊢
    simp only [if_true, List.cons_append, List.nil_append, List.length_cons]
    cases y with
    | zero => rw [List.getD_cons_zero, Nat.mod_mod, h0, Nat.add_zero, if_neg (by omega)]
    | succ y =>
      rw [List.getD_cons_succ, Nat.add_sub_cancel]
      by_cases hc : y < cs.length
      · rw [List.getD_append _ _ _ _ hc, if_pos (by omega)]
      · rw [if_pos (show (cs.length + 1) % 2 = 1 by omega), if_neg (show ¬(1 ≤ y + 1 ∧ y + 1 < 1 + cs.length) by omega),
          List.getD_append_right _ _ _ _ (by omega), show y - cs.length = 0 by omega, List.getD_cons_zero, h1,
          show 2 * ((a + cs.length) / 2) + 1 = 2 * (a / 2) + (y + 1) by omega]

theorem Eng.bytesNib_edges (g : Eng) {f : Nat} (hf : fmtBits f = 4) (a : Nat) (cs : List Nat) {x : Nat}
    (hx : 2 * (a / 2) ≤ x ∧ x < 2 * (a / 2) + 2 * ((a % 2 + cs.length + 1) / 2)) :
    bytesNib (packElems f (g.withEdges a cs)) (x - 2 * (a / 2)) =
      if a ≤ x ∧ x < a + cs.length then cs.getD (x - a) 0 % 16 else g.nib x := by
  rw [bytesNib_packElems_four hf _ (by rw [Eng.length_withEdges]; omega), g.getD_withEdges a cs (by omega),
    show x - 2 * (a / 2) - a % 2 = x - a by omega, show 2 * (a / 2) + (x - 2 * (a / 2)) = x by omega]
  by_cases h : a ≤ x ∧ x < a + cs.length
  · rw [if_pos h, if_pos (by omega)]
  · rw [if_neg h, if_neg (by omega)]

/-- A segment of elements is written, and no nibble beside it. -/
theorem Eng.nib_putSegment (g : Eng) {f a : Nat} (ha : fmtBits f ≠ 4 → a % 2 = 0) (cs : List Nat) (x : Nat) :
    (inElems f a cs.length x → (g.putSegment f (a : Int) cs).nib x
      = hexDigit (cs.getD ((x - a) / fmtNibs f) 0) ((x - a) % fmtNibs f))
    ∧ (¬ inElems f a cs.length x → (g.putSegment f (a : Int) cs).nib x = g.nib x) := by
  by_cases hf : fmtBits f = 4
  · have hw : fmtNibs f = 1 := by rw [fmtNibs, hf]
    rw [g.putSegment_four hf, inElems, hw, Nat.mul_one, Nat.div_one, Nat.mod_one, Eng.nib_tileWrite, g.length_packElems_edges hf]
    refine ⟨fun h => ?_, fun h => ?_⟩
    · rw [if_pos (by omega), g.bytesNib_edges hf a cs (by omega), if_pos h, hexDigit, Nat.pow_zero, Nat.div_one]
    · split
      next hx => rw [g.bytesNib_edges hf a cs (by omega), if_neg h]
      · rfl
  · unfold Eng.putSegment inElems
    dsimp only [Int.toNat_natCast]
    have ha := ha hf
    rw [if_neg hf, Eng.nib_tileWrite, packElems_of_bytes hf, length_flatten_leBytes, show 2 * (a / 2) = a by omega]
    have hl : 2 * (fmtBits f / 8 * cs.length) = cs.length * fmtNibs f := by
      rw [← Nat.mul_assoc, two_mul_bytes hf, Nat.mul_comm]
    rw [hl]
    refine ⟨fun h => ?_, fun h => if_neg h⟩
    rw [if_pos h, bytesNib_flatten_leBytes _ _ (by rw [Nat.mul_assoc, hl]; omega), two_mul_bytes hf]

/-- An element is written at a nibble address, and no nibble beside it. -/
theorem Eng.nib_nibPut (g : Eng) {f a : Nat} (ha : fmtBits f ≠ 4 → a % 2 = 0) (c x : Nat) :
    (inElems f a 1 x → (g.tileWrite (a / 2) (g.nibPut f (a : Int) c) false).nib x = hexDigit c (x - a))
    ∧ (¬ inElems f a 1 x → (g.tileWrite (a / 2) (g.nibPut f (a : Int) c) false).nib x = g.nib x) := by
  unfold Eng.nibPut inElems nibBytes
  dsimp only [Int.toNat_natCast]
  rw [Nat.one_mul, Eng.nib_tileWrite]
  by_cases hf : fmtBits f = 4
  · have hw : fmtNibs f = 1 := by rw [fmtNibs, hf]
    rw [if_pos hf, hw, leBytes_length]
    have h0 : leNat (g.tileBytes (a / 2) 1) % 16 = g.nib (2 * (a / 2)) := by simpa [hexDigit] using g.hexDigit_byte (a / 2) 0 (by omega)
    have h1 : leNat (g.tileBytes (a / 2) 1) / 16 % 16 = g.nib (2 * (a / 2) + 1) := by
      simpa [hexDigit] using g.hexDigit_byte (a / 2) 1 (by omega)
    refine ⟨fun h => ?_, fun h => ?_⟩
    · obtain rfl : x = a := by omega
      rw [if_pos (by omega), bytesNib_leBytes _ (by omega), Nat.sub_self]
      obtain hp | hp : x % 2 = 0 ∨ x % 2 = 1 := by omega
      · rw [if_pos hp, show x - 2 * (x / 2) = 0 by omega, hexDigit, hexDigit, Nat.pow_zero, Nat.div_one, Nat.div_one]
        omega
      · rw [if_neg (by omega), show x - 2 * (x / 2) = 1 by omega, hexDigit, hexDigit, Nat.pow_zero, Nat.pow_one, Nat.div_one]
        omega
    · split
      next hx =>
        rw [bytesNib_leBytes _ (by omega)]
        obtain hp | hp : a % 2 = 0 ∨ a % 2 = 1 := by omega
        · rw [if_pos hp, show x - 2 * (a / 2) = 1 by omega, hexDigit, Nat.pow_one, show x = 2 * (a / 2) + 1 by omega, ← h1]
          omega
        · rw [if_neg (by omega), show x - 2 * (a / 2) = 0 by omega, hexDigit, Nat.pow_zero, Nat.div_one,
            show x = 2 * (a / 2) by omega, ← h0]
          omega
      · rfl
  · have ha := ha hf
    have hw : 2 * ((fmtBits f + 7) / 8) = fmtNibs f := by
      unfold fmtNibs
      have := fmtBits_cases f
      omega
    rw [if_neg hf, leBytes_length, show 2 * (a / 2) = a by omega, hw]
    refine ⟨fun h => ?_, fun h => if_neg h⟩
    rw [if_pos h, bytesNib_leBytes _ (by omega)]

end Sys2Proof.Machine
end

section
/-! Lane loads and stores (04 R163). -/

namespace Sys2Proof.Machine

/-! ### Writes of elements, by nibbles -/

/-- The nibbles after elements `x.2` of format `f` are written from nibble address `x.1` on. -/
def nibWrite (f : Nat) (N : Nat → Nat) (x : Int × List Nat) (n : Nat) : Nat :=
  if x.1.toNat ≤ n ∧ n < x.1.toNat + x.2.length * fmtNibs f then
    hexDigit (x.2.getD ((n - x.1.toNat) / fmtNibs f) 0) ((n - x.1.toNat) % fmtNibs f)
  else N n

/-- A nibble address at which an element of the format may lie. -/
def nibPlace (f : Nat) (a : Int) : Prop := 0 ≤ a ∧ (fmtBits f ≠ 4 → a % 2 = 0)

theorem Eng.nib_putSegment_eq (g : Eng) {f : Nat} {x : Int × List Nat} (h : nibPlace f x.1) :
    (g.putSegment f x.1 x.2).nib = nibWrite f g.nib x := by
  obtain ⟨a, cs⟩ := x
  obtain ⟨h0, h2⟩ := h
  obtain ⟨n, rfl⟩ := Int.eq_ofNat_of_zero_le h0
  funext y
  obtain ⟨hin, hout⟩ := g.nib_putSegment (f := f) (a := n) (fun hf => by have := h2 hf; omega) cs y
  unfold nibWrite
  dsimp only [Int.toNat_natCast]
  split
  next h => exact hin h
  next h => exact hout h

theorem Eng.nib_nibPut_eq (g : Eng) {f : Nat} {a : Int} (h : nibPlace f a) (c : Nat) :
    (g.tileWrite (a.toNat / 2) (g.nibPut f a c) false).nib = nibWrite f g.nib (a, [c]) := by
  obtain ⟨h0, h2⟩ := h
  obtain ⟨n, rfl⟩ := Int.eq_ofNat_of_zero_le h0
  funext y
  obtain ⟨hin, hout⟩ := g.nib_nibPut (f := f) (a := n) (fun hf => by have := h2 hf; omega) c y
  unfold nibWrite
  dsimp only [Int.toNat_natCast, List.length_cons, List.length_nil, Nat.zero_add]
  split
  next h =>
    refine (hin h).trans ?_
    rw [Nat.one_mul] at h
    rw [Nat.div_eq_of_lt (by omega), Nat.mod_eq_of_lt (by omega)]
    rfl
  next h => exact hout h

/-- Elements written in a row are the first one, then the others. -/
theorem nibWrite_cons (f : Nat) (N : Nat → Nat) {a b : Int} (ha : 0 ≤ a) (hb : b = a + (fmtNibs f : Int)) (c : Nat) (cs : List Nat) :
    nibWrite f N (a, c :: cs) = nibWrite f (nibWrite f N (a, [c])) (b, cs) := by
  have hw := fmtNibs_pos f
  have hb : b.toNat = a.toNat + fmtNibs f := by omega
  funext n
  unfold nibWrite
  dsimp only [List.length_cons, List.length_nil]
  rw [hb]
  have h1w : (0 + 1) * fmtNibs f = fmtNibs f := by rw [Nat.zero_add, Nat.one_mul]
  have hsw : (cs.length + 1) * fmtNibs f = fmtNibs f + cs.length * fmtNibs f := by rw [Nat.add_mul, Nat.one_mul, Nat.add_comm]
  by_cases h1 : a.toNat ≤ n ∧ n < a.toNat + fmtNibs f
  · rw [if_pos (by omega), if_neg (by omega), if_pos (by omega), Nat.div_eq_of_lt (by omega)]
    rfl
  · by_cases h2 : a.toNat + fmtNibs f ≤ n ∧ n < a.toNat + fmtNibs f + cs.length * fmtNibs f
    · obtain ⟨m, rfl⟩ : ∃ m, n = m + (a.toNat + fmtNibs f) := ⟨n - (a.toNat + fmtNibs f), by omega⟩
      rw [if_pos (by omega), if_pos h2, Nat.add_sub_cancel, show m + (a.toNat + fmtNibs f) - a.toNat = m + fmtNibs f by omega,
        Nat.add_div_right _ hw, Nat.add_mod_right]
      rfl
    · rw [if_neg (by omega), if_neg h2, if_neg (by omega)]

/-- A nibble that some of the writes cover, each with the same digit, holds that digit; one that none covers is as before. -/
theorem foldl_nibWrite_at (f : Nat) (l : List (Int × Nat)) (N : Nat → Nat) (n : Nat) :
    (∀ v, (∃ x ∈ l, x.1.toNat ≤ n ∧ n < x.1.toNat + fmtNibs f) →
      (∀ x ∈ l, x.1.toNat ≤ n ∧ n < x.1.toNat + fmtNibs f → hexDigit x.2 (n - x.1.toNat) = v) →
      (l.map fun x => (x.1, [x.2])).foldl (nibWrite f) N n = v)
    ∧ ((∀ x ∈ l, ¬(x.1.toNat ≤ n ∧ n < x.1.toNat + fmtNibs f)) → (l.map fun x => (x.1, [x.2])).foldl (nibWrite f) N n = N n) := by
  induction l generalizing N with
  | nil => exact ⟨fun v ⟨_, hx, _⟩ => (List.not_mem_nil hx).elim, fun _ => rfl⟩
  | cons y l ih =>
    rw [List.map_cons, List.foldl_cons]
    have hy : nibWrite f N (y.1, [y.2]) n = if y.1.toNat ≤ n ∧ n < y.1.toNat + fmtNibs f then hexDigit y.2 (n - y.1.toNat) else N n := by
      unfold nibWrite
      dsimp only [List.length_cons, List.length_nil]
      have h1w : (0 + 1) * fmtNibs f = fmtNibs f := by rw [Nat.zero_add, Nat.one_mul]
      simp only [h1w]
      split
      · rw [Nat.div_eq_of_lt (by omega), Nat.mod_eq_of_lt (by omega)]
        rfl
      · rfl
    obtain ⟨hin, hout⟩ := ih (nibWrite f N (y.1, [y.2]))
    refine ⟨fun v hex hv => ?_, fun hno => ?_⟩
    · by_cases hl : ∃ x ∈ l, x.1.toNat ≤ n ∧ n < x.1.toNat + fmtNibs f
      · exact hin v hl fun x hx => hv x (List.mem_cons_of_mem y hx)
      · rw [hout fun x hx h => hl ⟨x, hx, h⟩, hy]
        obtain ⟨x, hx, hc⟩ := hex
        rcases List.mem_cons.mp hx with rfl | hx
        · rw [if_pos hc]
          exact hv x List.mem_cons_self hc
        · exact absurd ⟨x, hx, hc⟩ hl
    · rw [hout fun x hx => hno x (List.mem_cons_of_mem y hx), hy, if_neg (hno y List.mem_cons_self)]

/-! ### Segments -/

theorem segments_of_inactive {x : Bool × Int × Nat} (t : List (Bool × Int × Nat)) (h : x.1 = false) :
    segments (x :: t) = segments t := by
  obtain ⟨b, a, c⟩ := x
  cases h
  rfl

/-- The first segment starts at the first lane where that is active; it joins the next lane's where that is active too. -/
theorem segments_of_active {y : Bool × Int × Nat} (t : List (Bool × Int × Nat)) (hy : y.1 = true) :
    segments (y :: t) = (y.2.1, [y.2.2]) :: segments t
    ∨ ∃ b t' x rest, t = b :: t' ∧ b.1 = true ∧ segments t = x :: rest ∧ segments (y :: t) = (y.2.1, y.2.2 :: x.2) :: rest := by
  obtain ⟨y1, a, c⟩ := y
  cases hy
  cases t with
  | nil => exact .inl rfl
  | cons b t =>
    obtain ⟨b1, b2, b3⟩ := b
    cases b1 with
    | false => exact .inl rfl
    | true =>
      cases hs : segments ((true, b2, b3) :: t) with
      | nil =>
        left
        rw [segments.eq_def]
        dsimp only
        rw [hs]
      | cons x rest =>
        refine .inr ⟨_, _, x, rest, rfl, rfl, rfl, ?_⟩
        obtain ⟨x1, x2⟩ := x
        rw [segments.eq_def]
        dsimp only
        rw [hs]

theorem segments_head {y : Bool × Int × Nat} (t : List (Bool × Int × Nat)) (hy : y.1 = true) {x : Int × List Nat}
    {rest : List (Int × List Nat)} (h : segments (y :: t) = x :: rest) : x.1 = y.2.1 := by
  rcases segments_of_active t hy with h1 | ⟨b, t', x', rest', rfl, -, -, h1⟩ <;>
  · rw [h1] at h
    cases h
    rfl

/-- A segment starts at an active lane. -/
theorem segments_place (L : List (Bool × Int × Nat)) (P : Int → Prop) (h : ∀ y ∈ L, y.1 = true → P y.2.1) :
    ∀ x ∈ segments L, P x.1 := by
  induction L with
  | nil => exact fun x hx => (List.not_mem_nil hx).elim
  | cons y t ih =>
    have ih := ih fun z hz => h z (List.mem_cons_of_mem y hz)
    cases hy : y.1 with
    | false =>
      rw [segments_of_inactive t hy]
      exact ih
    | true =>
      intro x hx
      rcases segments_of_active t hy with h1 | ⟨b, t', x', rest, -, -, hs, h1⟩
      · rw [h1] at hx
        rcases List.mem_cons.mp hx with rfl | hx
        · exact h y List.mem_cons_self hy
        · exact ih x hx
      · rw [h1] at hx
        rcases List.mem_cons.mp hx with rfl | hx
        · exact h y List.mem_cons_self hy
        · exact ih x (hs ▸ List.mem_cons_of_mem x' hx)

/-- Writing the segments of lanes that lie next to each other writes the elements of the active ones. -/
theorem foldl_nibWrite_segments (f : Nat) (L : List (Bool × Int × Nat)) (N : Nat → Nat)
    (hc : L.IsChain fun y b => b.2.1 = y.2.1 + (fmtNibs f : Int)) (h0 : ∀ y ∈ L, y.1 = true → 0 ≤ y.2.1) :
    (segments L).foldl (nibWrite f) N = ((L.filter (·.1)).map fun y => (y.2.1, [y.2.2])).foldl (nibWrite f) N := by
  induction L generalizing N with
  | nil => rfl
  | cons y t ih =>
    have ih := fun N => ih N hc.tail fun z hz => h0 z (List.mem_cons_of_mem y hz)
    cases hy : y.1 with
    | false =>
      rw [segments_of_inactive t hy, List.filter_cons_of_neg (by rw [hy]; exact Bool.false_ne_true)]
      exact ih N
    | true =>
      rw [List.filter_cons_of_pos hy, List.map_cons, List.foldl_cons, ← ih]
      rcases segments_of_active t hy with h1 | ⟨b, t', x, rest, rfl, hb, hs, h1⟩
      · rw [h1, List.foldl_cons]
      · have hx : x.1 = y.2.1 + (fmtNibs f : Int) := (segments_head t' hb hs).trans hc.rel
        rw [h1, hs, List.foldl_cons, List.foldl_cons, nibWrite_cons f N (h0 y List.mem_cons_self hy) hx]

end Sys2Proof.Machine
end

section
/-! The rows of lane loads and stores (04 R163). -/

namespace Sys2Proof.Machine

/-! ### The elements of the lanes -/

theorem Stream.laneNib_input (t : Stream) (i : Ins) (indexed : Bool) (k : Nat) :
    laneNib t i indexed (t.input i k) = t.elemAt i indexed k := by
  unfold laneNib Stream.elemAt
  rw [show (t.input i k).b = ((t.v i.rb).getD k 0).toNat from rfl, asInt_toNat]
  rfl

theorem Stream.elems_eq (t : Stream) (i : Ins) (indexed : Bool) :
    ((t.inputs i).filter LaneIn.act).map (laneNib t i indexed) = t.elems i indexed := by
  rw [Stream.inputs_eq, List.filter_map, List.map_map, Stream.elems]
  exact List.map_congr_left fun k _ => t.laneNib_input i indexed k

theorem Stream.mem_elems {t : Stream} {i : Ins} {indexed : Bool} {a : Int} :
    a ∈ t.elems i indexed ↔ ∃ k, k < nLanes ∧ t.acts i k = true ∧ t.elemAt i indexed k = a := by
  simp only [Stream.elems, List.mem_map, List.mem_filter, List.mem_range]
  exact ⟨fun ⟨k, ⟨h1, h2⟩, h3⟩ => ⟨k, h1, h2, h3⟩, fun ⟨k, h1, h2, h3⟩ => ⟨k, ⟨h1, h2⟩, h3⟩⟩

theorem Stream.elems_all {t : Stream} {i : Ins} {indexed : Bool} (h : t.inTile i indexed) :
    (t.elems i indexed).all (nibOk i.fmt) = true := by
  rw [List.all_eq_true]
  intro a ha
  obtain ⟨k, hk, hact, rfl⟩ := Stream.mem_elems.mp ha
  exact h k hk hact

/-- The command of a row at its instruction, whose function goes on with stream `t2` in state `s2`. -/
theorem State.atLane_runs {c : Instr} {s : State} {e u opc : Nat} {t : Stream} {i : Ins} {f : LaneFn}
    (hrow : exec c s = .next (s.laneRow e u opc f)) (h : s.atLane e u opc t i)
    {t2 : Stream} {fl nn : Nat} {s2 : State} (hf : f { t with pc := t.pc + 1 } i s = .next t2 fl nn s2) :
    ∃ s1 b, exec c s = .next s1 ∧ s1.stream e u = some { t2 with steps := t2.steps + 1, ended := b } ∧ s2.laneLeaves s1 e := by
  obtain ⟨hl, b, hb⟩ := s2.laneAfter_gives e u t.pc t2 fl nn
  exact ⟨_, b, hrow.trans (congrArg Host.Outcome.next (State.laneRow_next h hf)), hb, hl⟩

/-! ### Loads -/

theorem State.tmMeets_of_clean (s : State) (e f : Nat) (as : List Int) (h : (s.eng e).latent = []) : s.tmMeets e f as = s := if_pos h

/-- A load whose elements lie in tile memory and touch no poison. -/
theorem fnLd_next {s : State} {e : Nat} {t : Stream} {i : Ins} {indexed : Bool} (hin : t.inTile i indexed)
    (hclean : (s.tmMeets e i.fmt (t.elems i indexed)).tileClean e t i indexed) :
    ∃ g : LaneIn → LaneVal, ∃ fl, fnLd e indexed t i s = .next (t.vmap i g).1 fl 0 (s.tmMeets e i.fmt (t.elems i indexed))
      ∧ ∀ x, (g x).1 = (widen i.fmt (((s.tmMeets e i.fmt (t.elems i indexed)).eng e).nibCode i.fmt (laneNib t i indexed x))).1 := by
  unfold fnLd
  dsimp only
  rw [t.elems_eq, Stream.elems_all hin]
  have hp : ((s.tmMeets e i.fmt (t.elems i indexed)).eng e).lanePoison i.fmt (t.elems i indexed) = none := by
    unfold Eng.lanePoison
    rw [List.findSome?_eq_none_iff]
    intro a ha
    obtain ⟨k, hk, hact, rfl⟩ := Stream.mem_elems.mp ha
    exact hclean k hk hact
  rw [hp]
  refine ⟨_, _, rfl, fun x => ?_⟩
  split <;> rfl

theorem laneLoads_of_fnLd {row : Nat → Nat → Instr} {opc : Nat} {indexed : Bool}
    (hrow : ∀ e u s, exec (row e u) s = .next (s.laneRow e u opc (fnLd e indexed))) : laneLoads row opc indexed := by
  intro s e u t i
  refine ⟨State.tmMeets_of_clean s e _ _, fun h hin hclean => ?_⟩
  let x : Stream := { t with pc := t.pc + 1 }
  obtain ⟨g, fl, hf, hg⟩ := fnLd_next (t := x) (indexed := indexed) hin hclean
  obtain ⟨s1, b, he, hb, hl⟩ := State.atLane_runs (hrow e u s) h hf
  refine ⟨s1, _, he, hb, ⟨rfl, rfl⟩, hl, fun k hk => ?_, fun r hr => x.vmap_other i g hr, rfl, rfl⟩
  refine (x.vmap_v i g hk).trans ?_
  rw [hg, Stream.laneNib_input]
  rfl

/-! ### What writes of tile memory leave -/

/-- An engine's program store and accumulators, which no store to tile memory changes. -/
def Eng.besides (g : Eng) : NTbl Nat × PTbl Byte := (g.lps, g.acc)

theorem Eng.putTile_besides (g : Eng) (a : Nat) (b : Bytes) : (g.putTile a b).besides = g.besides := by
  induction b generalizing g a with
  | nil => rfl
  | cons x b ih => exact ih _ _

theorem Eng.tileWrite_besides (g : Eng) (a : Nat) (b : Bytes) (p : Bool) : (g.tileWrite a b p).besides = g.besides :=
  (Eng.putTile_besides { g.unmake (2 ^ 62 + a) b.length with
    latent := g.latent.filter fun x => decide (x.addr / 8 * 8 < a ∨ a + b.length < x.addr / 8 * 8 + 8) } a b).trans rfl

theorem Eng.putSegment_besides (g : Eng) (f : Nat) (a : Int) (cs : List Nat) : (g.putSegment f a cs).besides = g.besides := by
  unfold Eng.putSegment
  dsimp only
  split <;> exact Eng.tileWrite_besides ..

theorem Eng.markElems_besides (g : Eng) (t : Stream) (f : Nat) (a : Int) (n : Nat) : (g.markElems t f a n).besides = g.besides := by
  unfold Eng.markElems
  dsimp only
  split <;> rfl

theorem Eng.markElems_nib (g : Eng) (t : Stream) (f : Nat) (a : Int) (n : Nat) : (g.markElems t f a n).nib = g.nib := by
  unfold Eng.markElems
  dsimp only
  split <;> rfl

/-- A property of an engine that no update of a list changes. -/
theorem Eng.foldl_leaves {α β : Type} (p : Eng → β) (g : Eng → α → Eng) (l : List α) (h : ∀ s a, p (g s a) = p s) (s : Eng) :
    p (l.foldl g s) = p s := by
  induction l generalizing s with
  | nil => rfl
  | cons a t ih => exact (ih (g s a)).trans (h s a)

/-- Updates that each write one element, or none. -/
theorem Eng.nib_foldl {α : Type} (f : Nat) (step : Eng → α → Eng) (keep : α → Bool) (w : α → Int × Nat) (l : List α) (g : Eng)
    (h : ∀ g, ∀ x ∈ l, (step g x).nib = if keep x then nibWrite f g.nib ((w x).1, [(w x).2]) else g.nib) :
    (l.foldl step g).nib = (((l.filter keep).map w).map fun x => (x.1, [x.2])).foldl (nibWrite f) g.nib := by
  induction l generalizing g with
  | nil => rfl
  | cons x l ih =>
    rw [List.foldl_cons, ih _ fun g y hy => h g y (List.mem_cons_of_mem x hy), h g x List.mem_cons_self]
    cases hk : keep x with
    | true =>
      rw [List.filter_cons_of_pos hk, List.map_cons, List.map_cons, List.foldl_cons]
      rfl
    | false =>
      rw [List.filter_cons_of_neg (by rw [hk]; exact Bool.false_ne_true)]
      rfl

/-- An engine put back with its program store and accumulators. -/
theorem State.laneKeeps_setEng {s s1 : State} {e k : Nat} {g : Eng} (hg : g.besides = (s.eng e).besides)
    (h : State.laneLeaves ({ s with freeCtr := k }.setEng e g) s1 e) : s.laneKeeps s1 e ∧ (s1.eng e).tile = g.tile := by
  obtain ⟨h1, h2, h3, h4, h5, h6, h7, h8, h9, h10, h11, h12, h13, h14, -, h16, h17⟩ := h
  rw [State.eng_setEng] at h13 h14 h16
  obtain ⟨hlps, hacc⟩ := Prod.mk.inj hg
  exact ⟨⟨h1, h2, h3, h4, h5, h6, h7, h8, h9, h10, h11, fun j hj => (h12 j hj).trans (NTbl.at_put_ne _ _ _ hj), h14.trans hlps,
    h16.trans hacc, h17⟩, h13⟩

/-! ### Elements of the lanes in nibbles -/

theorem fmtBits_eq (f : Nat) : fmtBits f = 4 * fmtNibs f := by
  unfold fmtNibs
  have := fmtBits_cases f
  omega

/-- The place of a lane's element, in elements from the base. -/
def Stream.elemIdx (t : Stream) (i : Ins) (indexed : Bool) (k : Nat) : Int := if indexed then ((t.v i.rb).getD k 0).toInt else (k : Int)

theorem Stream.elemAt_eq (t : Stream) (i : Ins) (indexed : Bool) (k : Nat) :
    t.elemAt i indexed k = 2 * (t.laneBase i indexed : Int) + t.elemIdx i indexed k * (fmtNibs i.fmt : Int) := rfl

theorem Stream.nibPlace_elemAt {t : Stream} {i : Ins} {indexed : Bool} {k : Nat} (h : nibOk i.fmt (t.elemAt i indexed k) = true) :
    nibPlace i.fmt (t.elemAt i indexed k) := by
  unfold nibOk at h
  simp only [Bool.and_eq_true, decide_eq_true_eq] at h
  refine ⟨h.1, fun hf => ?_⟩
  have hw : ∃ m : Nat, fmtNibs i.fmt = 2 * m := by
    refine ⟨fmtBits i.fmt / 8, ?_⟩
    have := two_mul_bytes hf
    omega
  obtain ⟨m, hm⟩ := hw
  rw [Stream.elemAt_eq, hm]
  push_cast
  rw [Int.mul_left_comm, ← Int.mul_add]
  exact Int.mul_emod_right 2 _

/-- Two elements of the lanes that share a nibble are one. -/
theorem Stream.elemAt_eq_of_share {t : Stream} {i : Ins} {indexed : Bool} {j k : Nat} {n : Int}
    (hj : t.elemAt i indexed j ≤ n ∧ n < t.elemAt i indexed j + fmtNibs i.fmt)
    (hk : t.elemAt i indexed k ≤ n ∧ n < t.elemAt i indexed k + fmtNibs i.fmt) : t.elemAt i indexed j = t.elemAt i indexed k := by
  have hw : (0 : Int) < fmtNibs i.fmt := by exact_mod_cast fmtNibs_pos i.fmt
  rw [Stream.elemAt_eq] at hj hk ⊢
  rw [Stream.elemAt_eq]
  generalize t.elemIdx i indexed j = a at hj ⊢
  generalize t.elemIdx i indexed k = b at hk ⊢
  have hab : a = b := by
    rcases Int.lt_trichotomy a b with h | h | h
    · nlinarith
    · exact h
    · nlinarith
  rw [hab]

/-- What a store of elements leaves: `W` are its writes, each of an acting lane's value at its element; every acting lane whose
element no other names is among them. -/
theorem store_result {t : Stream} {i : Ins} {indexed : Bool} {g g1 : Eng} {code : Nat → Nat} {W : List Nat}
    (hin : t.inTile i indexed) (hlanes : ∀ k ∈ W, k < nLanes ∧ t.acts i k = true)
    (hall : ∀ k, k < nLanes → t.acts i k = true →
      (∀ j, j < nLanes → t.acts i j = true → t.elemAt i indexed j = t.elemAt i indexed k → j = k) → k ∈ W)
    (hnib : g1.nib = ((W.map fun k => (t.elemAt i indexed k, code k)).map fun x => (x.1, [x.2])).foldl (nibWrite i.fmt) g.nib) :
    (∀ k, k < nLanes → t.acts i k = true →
        (∀ j, j < nLanes → t.acts i j = true → t.elemAt i indexed j = t.elemAt i indexed k → j = k) →
        g1.nibCode i.fmt (t.elemAt i indexed k) = code k % 2 ^ fmtBits i.fmt)
    ∧ (∀ b, (∀ k, k < nLanes → t.acts i k = true →
          ¬((nibBytes i.fmt (t.elemAt i indexed k)).1 ≤ b
            ∧ b < (nibBytes i.fmt (t.elemAt i indexed k)).1 + (nibBytes i.fmt (t.elemAt i indexed k)).2)) →
        NTbl.at 0 g1.tile b = NTbl.at 0 g.tile b) := by
  have hplace : ∀ k, k < nLanes → t.acts i k = true → nibPlace i.fmt (t.elemAt i indexed k) := fun k hk ha =>
    Stream.nibPlace_elemAt (hin k hk ha)
  have hpos : ∀ k, k < nLanes → t.acts i k = true → ((t.elemAt i indexed k).toNat : Int) = t.elemAt i indexed k := fun k hk ha =>
    Int.toNat_of_nonneg (hplace k hk ha).1
  constructor
  · intro k hk ha huniq
    have hp := hpos k hk ha
    obtain ⟨h0, h2⟩ := hplace k hk ha
    rw [← hp]
    refine Eng.nibCode_eq (fun hf => by have := h2 hf; omega) fun d hd => ?_
    rw [hnib]
    refine (foldl_nibWrite_at _ _ _ _).1 _ ⟨_, List.mem_map.mpr ⟨k, hall k hk ha huniq, rfl⟩, ?_⟩ fun x hx hc => ?_
    · dsimp only
      omega
    · obtain ⟨j, hj, rfl⟩ := List.mem_map.mp hx
      obtain ⟨hjl, hja⟩ := hlanes j hj
      have hpj := hpos j hjl hja
      have hs : t.elemAt i indexed j = t.elemAt i indexed k := by
        refine Stream.elemAt_eq_of_share (n := ((t.elemAt i indexed k).toNat + d : Nat)) ?_ ?_
        · dsimp only at hc
          omega
        · omega
      obtain rfl := huniq j hjl hja hs
      dsimp only
      rw [Nat.add_sub_cancel_left]
  · intro b hb
    have hun : ∀ n, n / 2 = b → g1.nib n = g.nib n := by
      intro n hn
      rw [hnib]
      refine (foldl_nibWrite_at _ _ _ _).2 fun x hx hc => ?_
      obtain ⟨j, hj, rfl⟩ := List.mem_map.mp hx
      obtain ⟨hjl, hja⟩ := hlanes j hj
      obtain ⟨h0, h2⟩ := hplace j hjl hja
      refine hb j hjl hja ?_
      dsimp only [nibBytes] at hc ⊢
      have hbits := fmtBits_eq i.fmt
      have hcase := fmtBits_cases i.fmt
      by_cases hf : fmtBits i.fmt = 4
      · omega
      · have := h2 hf
        omega
    exact Eng.at_eq_of_nib (hun _ (by omega)) (hun _ (by omega))

end Sys2Proof.Machine
end

section
/-! The rows of lane stores (04 R163). -/

namespace Sys2Proof.Machine

/-- The code a lane stores. -/
def Stream.storeCode (t : Stream) (i : Ins) (k : Nat) : Nat := (narrow i.fmt false ((t.v i.rd).getD k 0).toNat).1

theorem narrow_code (f : Nat) (b : Bool) (c : Nat) : (narrow f b c).1 = (narrow f false c).1 := by
  unfold narrow
  repeat' split
  all_goals rfl

/-- What the lanes hand to a store: each lane and its code, flags and whether it writes a NaN. -/
theorem Stream.store_out (t : Stream) (i : Ins) : (t.inputs i).map (fun x => (x, narrow i.fmt x.sd x.d)) =
    (List.range nLanes).map fun k => (t.input i k, narrow i.fmt (t.input i k).sd (t.input i k).d) := by
  rw [Stream.inputs_eq, List.map_map]
  rfl

theorem Stream.storeCode_eq (t : Stream) (i : Ins) (k : Nat) : (narrow i.fmt (t.input i k).sd (t.input i k).d).1 = t.storeCode i k :=
  narrow_code ..

/-! ### ST: contiguous elements -/

/-- The engine after ST: the segments of active lanes, those whose value did not come from storage noted as the order's own. -/
def Eng.stored (g : Eng) (t : Stream) (i : Ins) : Eng :=
  let out := (t.inputs i).map fun x => (x, narrow i.fmt x.sd x.d)
  let segs (p : LaneIn → Bool) := segments (out.map fun x => (p x.1, laneNib t i false x.1, x.2.1))
  (segs fun x => x.act && !x.sd).foldl (fun g x => g.markElems t i.fmt x.1 x.2.length)
    ((segs LaneIn.act).foldl (fun g x => g.putSegment i.fmt x.1 x.2) g)

theorem Eng.stored_besides (g : Eng) (t : Stream) (i : Ins) : (g.stored t i).besides = g.besides :=
  (Eng.foldl_leaves Eng.besides _ _ (fun _ _ => Eng.markElems_besides ..) _).trans
    (Eng.foldl_leaves Eng.besides _ _ (fun _ _ => Eng.putSegment_besides ..) _)

theorem Eng.foldl_putSegment_nib (f : Nat) (l : List (Int × List Nat)) (g : Eng) (h : ∀ x ∈ l, nibPlace f x.1) :
    (l.foldl (fun g x => g.putSegment f x.1 x.2) g).nib = l.foldl (nibWrite f) g.nib := by
  induction l generalizing g with
  | nil => rfl
  | cons x l ih =>
    rw [List.foldl_cons, ih _ fun y hy => h y (List.mem_cons_of_mem x hy), g.nib_putSegment_eq (h x List.mem_cons_self)]
    rfl

theorem Eng.stored_nib (g : Eng) {t : Stream} {i : Ins} (hin : t.inTile i false) : (g.stored t i).nib =
    (((List.range nLanes).filter (t.acts i)).map (fun k => (t.elemAt i false k, t.storeCode i k)) |>.map
      fun x => (x.1, [x.2])).foldl (nibWrite i.fmt) g.nib := by
  unfold Eng.stored
  dsimp only
  rw [Eng.foldl_leaves Eng.nib _ _ fun _ _ => Eng.markElems_nib .., Stream.store_out, List.map_map]
  have hL : ((fun x : LaneIn × Nat × Nat × Bool => (x.1.act, laneNib t i false x.1, x.2.1)) ∘ fun k =>
      (t.input i k, narrow i.fmt (t.input i k).sd (t.input i k).d)) = fun k => (t.acts i k, t.elemAt i false k, t.storeCode i k) := by
    funext k
    dsimp only [Function.comp]
    rw [Stream.laneNib_input, Stream.storeCode_eq]
    rfl
  rw [hL]
  have hplace : ∀ y ∈ (List.range nLanes).map (fun k => (t.acts i k, t.elemAt i false k, t.storeCode i k)), y.1 = true →
      nibPlace i.fmt y.2.1 := by
    intro y hy ha
    obtain ⟨k, hk, rfl⟩ := List.mem_map.mp hy
    exact Stream.nibPlace_elemAt (hin k (List.mem_range.mp hk) ha)
  rw [Eng.foldl_putSegment_nib _ _ _ (segments_place _ _ hplace), foldl_nibWrite_segments _ _ _ ?_ fun y hy ha => (hplace y hy ha).1,
    List.filter_map, List.map_map, List.map_map]
  · rfl
  · rw [List.isChain_map, List.isChain_range]
    intro k _
    dsimp only
    rw [Stream.elemAt_eq, Stream.elemAt_eq]
    unfold Stream.elemIdx
    simp only [Bool.false_eq_true, if_false]
    push_cast
    ring

theorem laneStores_of_fnSt {row : Nat → Nat → Instr} {opc : Nat}
    (hrow : ∀ e u s, exec (row e u) s = .next (s.laneRow e u opc (fnSt e false))) : laneStores row opc false := by
  intro s e u t i h hin
  let x : Stream := { t with pc := t.pc + 1 }
  have hf : ∃ fl nn, fnSt e false x i s = .next x fl nn (({ s with freeCtr := s.freeCtr } : State).setEng e ((s.eng e).stored x i)) := by
    unfold fnSt
    dsimp only
    rw [x.elems_eq, Stream.elems_all (t := x) (i := i) (indexed := false) hin]
    exact ⟨_, _, rfl⟩
  obtain ⟨fl, nn, hf⟩ := hf
  obtain ⟨s1, b, he, hb, hl⟩ := State.atLane_runs (hrow e u s) h hf
  obtain ⟨hk, ht⟩ := State.laneKeeps_setEng (k := s.freeCtr) (Eng.stored_besides (s.eng e) x i) hl
  have hnib := Eng.stored_nib (s.eng e) (t := x) (i := i) hin
  rw [show ((s.eng e).stored x i).nib = (s1.eng e).nib by unfold Eng.nib; rw [ht]] at hnib
  obtain ⟨hcode, hframe⟩ := store_result (t := x) (i := i) hin
    (fun k hk => ⟨List.mem_range.mp (List.mem_filter.mp hk).1, (List.mem_filter.mp hk).2⟩)
    (fun k hk ha _ => List.mem_filter.mpr ⟨List.mem_range.mpr hk, ha⟩) hnib
  exact ⟨s1, _, he, hb, ⟨rfl, rfl⟩, hk, hcode, hframe, rfl, rfl, rfl⟩

/-! ### STX: elements at their lanes' offsets -/

/-- Whether lane `k`'s store stays. -/
def Stream.stxKeeps (t : Stream) (i : Ins) (c k : Nat) : Bool := Machine.stxKeeps c ((t.inputs i).filter LaneIn.act) (t.input i k)

/-- The store of a lane whose element no other acting lane names stays. -/
theorem Stream.stxKeeps_of_unique {t : Stream} {i : Ins} {c k : Nat} (hk : k < nLanes) (ha : t.acts i k = true)
    (h : ∀ j, j < nLanes → t.acts i j = true → t.elemAt i true j = t.elemAt i true k → j = k) : t.stxKeeps i c k = true := by
  have hsame : ∀ y ∈ ((t.inputs i).filter LaneIn.act).filter (fun y => y.b == (t.input i k).b), y = t.input i k := by
    intro y hy
    obtain ⟨hy, hb⟩ := List.mem_filter.mp hy
    obtain ⟨hy, hact⟩ := List.mem_filter.mp hy
    rw [Stream.inputs_eq] at hy
    obtain ⟨j, hj, rfl⟩ := List.mem_map.mp hy
    refine congrArg _ (h j (List.mem_range.mp hj) hact ?_)
    have hb : (t.v i.rb).getD j 0 = (t.v i.rb).getD k 0 := BitVec.eq_of_toNat_eq (eq_of_beq hb)
    unfold Stream.elemAt
    rw [hb, if_pos rfl, if_pos rfl]
  have hmem : t.input i k ∈ ((t.inputs i).filter LaneIn.act).filter (fun y => y.b == (t.input i k).b) := by
    refine List.mem_filter.mpr ⟨List.mem_filter.mpr ⟨?_, ha⟩, beq_self_eq_true _⟩
    rw [Stream.inputs_eq]
    exact List.mem_map_of_mem (List.mem_range.mpr hk)
  unfold Stream.stxKeeps Machine.stxKeeps
  dsimp only
  generalize ((t.inputs i).filter LaneIn.act).filter (fun y => y.b == (t.input i k).b) = same at hsame hmem
  have hlt : Config.free (c + (t.input i k).b) % same.length < same.length := Nat.mod_lt _ (List.length_pos_of_mem hmem)
  rw [List.getElem?_eq_getElem hlt, Option.map_some, hsame _ (List.getElem_mem hlt)]
  exact beq_self_eq_true _

/-- The engine after STX. -/
def Eng.storedAt (g : Eng) (t : Stream) (i : Ins) (c : Nat) : Eng :=
  (((t.inputs i).map fun x => (x, narrow i.fmt x.sd x.d)).filter (fun x => x.1.act)).foldl (fun g x =>
    if Machine.stxKeeps c ((t.inputs i).filter LaneIn.act) x.1 then
      let a := laneNib t i true x.1
      let g2 := g.tileWrite (a.toNat / 2) (g.nibPut i.fmt a x.2.1) false
      if x.1.sd then g2 else g2.markElems t i.fmt a 1
    else g) g

theorem Eng.storedAt_besides (g : Eng) (t : Stream) (i : Ins) (c : Nat) : (g.storedAt t i c).besides = g.besides := by
  refine Eng.foldl_leaves Eng.besides _ _ (fun g x => ?_) g
  dsimp only
  split
  · split
    · exact Eng.tileWrite_besides ..
    · exact (Eng.markElems_besides ..).trans (Eng.tileWrite_besides ..)
  · rfl

theorem Eng.storedAt_nib (g : Eng) {t : Stream} {i : Ins} (c : Nat) (hin : t.inTile i true) : (g.storedAt t i c).nib =
    ((((List.range nLanes).filter (t.acts i)).filter (t.stxKeeps i c)).map (fun k => (t.elemAt i true k, t.storeCode i k)) |>.map
      fun x => (x.1, [x.2])).foldl (nibWrite i.fmt) g.nib := by
  unfold Eng.storedAt
  rw [Stream.store_out, List.filter_map, List.foldl_map,
    Eng.nib_foldl i.fmt _ (t.stxKeeps i c) (fun k => (t.elemAt i true k, t.storeCode i k))]
  · rfl
  · intro g k hk
    obtain ⟨hk, ha⟩ := List.mem_filter.mp hk
    have hp := Stream.nibPlace_elemAt (hin k (List.mem_range.mp hk) ha)
    dsimp only
    rw [Stream.laneNib_input, Stream.storeCode_eq]
    have hw := g.nib_nibPut_eq hp (t.storeCode i k)
    by_cases hkeep : t.stxKeeps i c k = true
    · rw [if_pos hkeep, if_pos (show Machine.stxKeeps c _ _ = true from hkeep)]
      split
      · exact hw
      · rw [Eng.markElems_nib]
        exact hw
    · rw [if_neg hkeep, if_neg (show ¬ Machine.stxKeeps c _ _ = true from hkeep)]

theorem laneStores_of_fnStx {row : Nat → Nat → Instr} {opc : Nat}
    (hrow : ∀ e u s, exec (row e u) s = .next (s.laneRow e u opc (fnSt e true))) : laneStores row opc true := by
  intro s e u t i h hin
  let x : Stream := { t with pc := t.pc + 1 }
  have hf : ∃ fl nn, fnSt e true x i s = .next x fl nn (({ s with freeCtr := s.freeCtr + 2 ^ 32 } : State).setEng e
      ((s.eng e).storedAt x i s.freeCtr)) := by
    unfold fnSt
    dsimp only
    rw [x.elems_eq, Stream.elems_all (t := x) (i := i) (indexed := true) hin]
    exact ⟨_, _, rfl⟩
  obtain ⟨fl, nn, hf⟩ := hf
  obtain ⟨s1, b, he, hb, hl⟩ := State.atLane_runs (hrow e u s) h hf
  obtain ⟨hk, ht⟩ := State.laneKeeps_setEng (Eng.storedAt_besides (s.eng e) x i s.freeCtr) hl
  have hnib := Eng.storedAt_nib (s.eng e) (t := x) (i := i) s.freeCtr hin
  rw [show ((s.eng e).storedAt x i s.freeCtr).nib = (s1.eng e).nib by unfold Eng.nib; rw [ht]] at hnib
  obtain ⟨hcode, hframe⟩ := store_result (t := x) (i := i) hin
    (fun k hk => by
      obtain ⟨hk, -⟩ := List.mem_filter.mp hk
      exact ⟨List.mem_range.mp (List.mem_filter.mp hk).1, (List.mem_filter.mp hk).2⟩)
    (fun k hk ha hu => List.mem_filter.mpr ⟨List.mem_filter.mpr ⟨List.mem_range.mpr hk, ha⟩, Stream.stxKeeps_of_unique hk ha hu⟩) hnib
  exact ⟨s1, _, he, hb, ⟨rfl, rfl⟩, hk, hcode, hframe, rfl, rfl, rfl⟩

/-- Settles O13: a load widens the elements of tile memory, a store writes the nibbles of each lane's element. -/
theorem laneLoadsAndStores : Obligations.LaneLoadsAndStores :=
  ⟨laneLoads_of_fnLd fun _ _ _ => rfl, laneLoads_of_fnLd fun _ _ _ => rfl, laneStores_of_fnSt fun _ _ _ => rfl,
    laneStores_of_fnStx fun _ _ _ => rfl⟩

end Sys2Proof.Machine
end

section
/-! Scalar accesses of tile memory and main memory (04 R163, R178, R180; 03 R110). -/

namespace Sys2Proof.Machine

/-! ### Rows that end their order -/

/-- How a row at its instruction ends where its function stops the order. -/
theorem State.laneRow_stop {s : State} {e u opc : Nat} {t : Stream} {i : Ins} (h : s.atLane e u opc t i) {f : LaneFn}
    {st fc a : Nat} {s1 : State} (hf : f { t with pc := t.pc + 1 } i s = .stop st fc a s1) :
    s.laneRow e u opc f = if fc = 0x010C then s1.laneStop e t.q t.idx st fc t.pc
      else (s1.count .CE_LANE_ISSUE_COUNT e 0 64 1).laneStop e t.q t.idx st fc a := by
  obtain ⟨h1, h2, h3, h4, rfl, h6, h7, h8⟩ := h
  have hr : (t.ended || t.spent || !s.laneRuns e u) = false := by simp [h2, h3, h4]
  have hi : (!(Ins.parse (NTbl.at 0 (s.eng e).lps t.pc)).legal
      || (t.scalar && (Ins.parse (NTbl.at 0 (s.eng e).lps t.pc)).vectorOnly)) = false := by simp [h6, h7]
  unfold State.laneRow
  rw [h1]
  dsimp only
  rw [hr, hi, if_neg Bool.false_ne_true, if_neg Bool.false_ne_true, if_neg (not_not_intro h8), hf]

/-! ### Errors that an access meets in tile memory -/

theorem State.tmMeet_of_clean {s : State} {e a n : Nat} (h : (s.eng e).latent = []) : s.tmMeet e a n = s := by
  unfold State.tmMeet
  dsimp only
  rw [h, List.any_nil, if_neg Bool.false_ne_true]

theorem State.tmMeet_of_one {s : State} {e a n : Nat} {x : TmErr} (h : (s.eng e).latent = [x]) (hn : n ≠ 0)
    (h1 : x.addr / 8 * 8 < a + n) (h2 : a < x.addr / 8 * 8 + 8) :
    s.tmMeet e a n = State.tmError e (s.setEng e { s.eng e with latent := [] }) x := by
  unfold State.tmMeet
  dsimp only
  rw [h]
  simp [hn, h1, h2]

theorem State.tmError_corrected (s : State) (e : Nat) {x : TmErr} (h : x.bad = false) :
    (State.tmError e s x).f .CE_ERR_COUNT_CORR e = satAdd 32 (s.f .CE_ERR_COUNT_CORR e) 1
      ∧ ((State.tmError e s x).eng e).tpois = (s.eng e).tpois := by
  unfold State.tmError
  rw [h, Bool.not_false, if_pos rfl]
  refine ⟨?_, rfl⟩
  rw [State.f_flag_fid _ (by decide), State.f_count_same]

theorem State.tmError_poisons (s : State) (e : Nat) {x : TmErr} (h : x.bad = true) (hx : x.acc = none) :
    NTbl.at false ((State.tmError e s x).eng e).tpois (x.addr / 64) = true
      ∧ (State.tmError e s x).hl.moduleSeq = s.hl.moduleSeq + 1 := by
  unfold State.tmError
  rw [h, hx, Bool.not_true, if_neg Bool.false_ne_true]
  dsimp only [Option.isSome_none]
  rw [if_neg Bool.false_ne_true]
  refine ⟨?_, State.raise_seq ..⟩
  unfold State.eng
  rw [State.engs_raise, State.flag, State.engs_setF]
  refine (congrArg (fun g : Eng => NTbl.at false g.tpois (x.addr / 64)) (State.eng_setEng s e _)).trans ?_
  exact NTbl.at_put_same false _ _ true

/-! ### SLD and SST -/

theorem leNat_tileBytes_lt (g : Eng) (a n : Nat) : leNat (g.tileBytes a n) < 16 ^ (2 * n) := by
  have h := leNat_lt (g.tileBytes a n)
  rwa [Eng.tileBytes_length] at h

/-- Bytes written to tile memory are read back. -/
theorem Eng.tileBytes_of_at {g : Eng} {a : Nat} {b : Bytes} (h : ∀ k, k < b.length → NTbl.at 0 g.tile (a + k) = b.getD k 0) :
    g.tileBytes a b.length = b := by
  refine List.ext_getElem (Eng.tileBytes_length ..) fun k hk hk2 => ?_
  have hg := Eng.getD_tileBytes g a hk2
  rw [h k hk2] at hg
  simpa [List.getD_eq_getElem?_getD, hk, hk2] using hg

/-- SST's engine: the bytes of sd, noted as the order's own where they were computed. -/
def Eng.scalarStored (g : Eng) (t : Stream) (i : Ins) : Eng :=
  let g1 := g.tileWrite (t.addr i) (leBytes 8 (t.s i.rd)) false
  if t.sStored i.rd then g1 else g1.mark t (2 ^ 62 + t.addr i) 8

theorem Eng.scalarStored_besides (g : Eng) (t : Stream) (i : Ins) : (g.scalarStored t i).besides = g.besides := by
  unfold Eng.scalarStored
  dsimp only
  split <;> exact g.tileWrite_besides _ _ false

theorem Eng.scalarStored_at (g : Eng) (t : Stream) (i : Ins) (k : Nat) : NTbl.at 0 (g.scalarStored t i).tile k =
    if t.addr i ≤ k ∧ k < t.addr i + 8 then (leBytes 8 (t.s i.rd)).getD (k - t.addr i) 0 else NTbl.at 0 g.tile k := by
  unfold Eng.scalarStored
  dsimp only
  split <;> exact g.tileWrite_at _ _ false k

theorem Eng.scalarStored_reads {g g1 : Eng} {t : Stream} {i : Ins} (h : g1.tile = (g.scalarStored t i).tile) :
    g1.tileBytes (t.addr i) 8 = leBytes 8 (t.s i.rd) := by
  refine Eng.tileBytes_of_at (b := leBytes 8 (t.s i.rd)) fun k hk => ?_
  have hk : k < 8 := hk
  rw [h, Eng.scalarStored_at, if_pos ⟨Nat.le_add_right .., Nat.add_lt_add_left hk _⟩, Nat.add_sub_cancel_left]

/-- A row that sets sd in a state that its access has changed. -/
theorem exec_setS_after {c : Instr} {s s2 : State} {e u opc : Nat} {t : Stream} {i : Ins} {f : LaneFn} {v fl nn : Nat} {st : Bool}
    (hrow : exec c s = .next (s.laneRow e u opc f)) (h : s.atLane e u opc t i) (hv : v < 2 ^ 64)
    (hf : f { t with pc := t.pc + 1 } i s = .next (({ t with pc := t.pc + 1 } : Stream).setS i.rd v st) fl nn s2) :
    ∃ s1 t1, exec c s = .next s1 ∧ s1.stream e u = some t1 ∧ t.stepped t1 ∧ s2.laneLeaves s1 e
      ∧ t1.s i.rd = v ∧ (∀ r, r ≠ i.rd → t1.s r = t.s r) ∧ t1.vreg = t.vreg ∧ t1.pred = t.pred := by
  obtain ⟨s1, b, he, hb, hl⟩ := State.atLane_runs hrow h hf
  exact ⟨s1, _, he, hb, ⟨rfl, rfl⟩, hl, (Stream.setS_s_same _ _ v st).trans (Nat.mod_eq_of_lt hv),
    fun r hr => Stream.setS_s_ne _ v st hr, rfl, rfl⟩

theorem exec_sld_result {s : State} {e u : Nat} {t : Stream} {i : Ins} (h : s.atLane e u 0x51 t i) (ha : t.addr i + 8 ≤ tileSize)
    (hp : ((s.tmMeet e (t.addr i) 8).eng e).tilePoison (t.addr i) 8 = none) :
    ∃ s1 t1, exec (.sld e u) s = .next s1 ∧ s1.stream e u = some t1 ∧ t.stepped t1 ∧ (s.tmMeet e (t.addr i) 8).laneLeaves s1 e
      ∧ t1.s i.rd = leNat (((s.tmMeet e (t.addr i) 8).eng e).tileBytes (t.addr i) 8) ∧ (∀ r, r ≠ i.rd → t1.s r = t.s r)
      ∧ t1.vreg = t.vreg ∧ t1.pred = t.pred := by
  have hr : ∃ f, exec (.sld e u) s = .next (s.laneRow e u 0x51 f) ∧ f { t with pc := t.pc + 1 } i s = .next
      (({ t with pc := t.pc + 1 } : Stream).setS i.rd (leNat (((s.tmMeet e (t.addr i) 8).eng e).tileBytes (t.addr i) 8))
      (!((s.tmMeet e (t.addr i) 8).eng e).madeBy { t with pc := t.pc + 1 } (t.addr i) 4)) 0 0 (s.tmMeet e (t.addr i) 8) := by
    refine ⟨_, rfl, ?_⟩
    have hx : ({ t with pc := t.pc + 1 } : Stream).addr i = t.addr i := rfl
    dsimp only
    rw [hx, if_neg (Nat.not_lt.mpr ha), hp]
  obtain ⟨f, hrow, hf⟩ := hr
  exact exec_setS_after hrow h (leNat_tileBytes_lt ..) hf

theorem exec_sst_result {s : State} {e u : Nat} {t : Stream} {i : Ins} (h : s.atLane e u 0x52 t i) (ha : t.addr i + 8 ≤ tileSize) :
    ∃ s1 t1, exec (.sst e u) s = .next s1 ∧ s1.stream e u = some t1 ∧ t.stepped t1 ∧ s.laneKeeps s1 e
      ∧ (s1.eng e).tileBytes (t.addr i) 8 = leBytes 8 (t.s i.rd)
      ∧ (∀ b, b < t.addr i ∨ t.addr i + 8 ≤ b → NTbl.at 0 (s1.eng e).tile b = NTbl.at 0 (s.eng e).tile b)
      ∧ t1.vreg = t.vreg ∧ t1.pred = t.pred ∧ t1.sreg = t.sreg := by
  have hr : ∃ f, exec (.sst e u) s = .next (s.laneRow e u 0x52 f) ∧ f { t with pc := t.pc + 1 } i s = .next
      { t with pc := t.pc + 1 } 0 0 (({ s with freeCtr := s.freeCtr } : State).setEng e
        ((s.eng e).scalarStored { t with pc := t.pc + 1 } i)) := by
    refine ⟨_, rfl, ?_⟩
    have hx : ({ t with pc := t.pc + 1 } : Stream).addr i = t.addr i := rfl
    dsimp only
    rw [hx, if_neg (Nat.not_lt.mpr ha)]
    rfl
  obtain ⟨f, hrow, hf⟩ := hr
  obtain ⟨s1, b, he, hb, hl⟩ := State.atLane_runs hrow h hf
  obtain ⟨hk, ht⟩ := State.laneKeeps_setEng (Eng.scalarStored_besides (s.eng e) _ i) hl
  refine ⟨s1, _, he, hb, ⟨rfl, rfl⟩, hk, Eng.scalarStored_reads ht, fun k hk => ?_, rfl, rfl, rfl⟩
  rw [ht]
  exact (Eng.scalarStored_at ..).trans (if_neg fun hc => by
    have hx : ({ t with pc := t.pc + 1 } : Stream).addr i = t.addr i := rfl
    rw [hx] at hc
    omega)

/-- Outside tile memory. -/
theorem State.laneRow_outside {s : State} {e u opc : Nat} {t : Stream} {i : Ins} (h : s.atLane e u opc t i) {f : LaneFn} {a : Nat}
    (hf : f { t with pc := t.pc + 1 } i s = .stop csIllegal 0x010C a s) :
    s.laneRow e u opc f = s.laneStop e t.q t.idx csIllegal 0x010C t.pc := by
  rw [State.laneRow_stop h hf, if_pos rfl]

theorem exec_sld_poisoned {s : State} {e u p : Nat} {t : Stream} {i : Ins} (h : s.atLane e u 0x51 t i)
    (ha : t.addr i + 8 ≤ tileSize) (hp : ((s.tmMeet e (t.addr i) 8).eng e).tilePoison (t.addr i) 8 = some p) :
    exec (.sld e u) s = .next (((s.tmMeet e (t.addr i) 8).count .CE_LANE_ISSUE_COUNT e 0 64 1).laneStop e t.q t.idx
      csPoison 0x0302 (2 ^ 62 + p)) := by
  have hr : ∃ f, exec (.sld e u) s = .next (s.laneRow e u 0x51 f) ∧ f { t with pc := t.pc + 1 } i s
      = .stop csPoison 0x0302 (2 ^ 62 + p) (s.tmMeet e (t.addr i) 8) := by
    refine ⟨_, rfl, ?_⟩
    have hx : ({ t with pc := t.pc + 1 } : Stream).addr i = t.addr i := rfl
    dsimp only
    rw [hx, if_neg (Nat.not_lt.mpr ha), hp]
  obtain ⟨f, hrow, hf⟩ := hr
  rw [hrow, State.laneRow_stop h hf, if_neg (by decide)]

theorem scalarTileAccess_holds : scalarTileAccess := by
  intro s e u t i
  refine ⟨State.tmMeet_of_clean, fun x hx hacc h1 h2 => ?_, fun h ha hp => exec_sld_result h ha hp,
    fun p h ha hp => exec_sld_poisoned h ha hp, fun h ha => exec_sst_result h ha, fun h ha => ?_, fun h ha => ?_⟩
  · rw [State.tmMeet_of_one hx (by decide) h1 h2]
    refine ⟨fun hb => ?_, fun hb => State.tmError_poisons _ e hb hacc⟩
    obtain ⟨hc, hp⟩ := State.tmError_corrected (s.setEng e { s.eng e with latent := [] }) e hb
    rw [State.f_setEng] at hc
    rw [State.eng_setEng] at hp
    exact ⟨hc, hp⟩
  · exact congrArg Host.Outcome.next (State.laneRow_outside h (if_pos ha))
  · exact congrArg Host.Outcome.next (State.laneRow_outside h (if_pos ha))

/-! ### Rows of main memory -/

theorem meshCompletion_fault (st : Nat) : (meshCompletion st).2 ≠ 0x010C := by
  unfold meshCompletion
  split <;> decide

theorem laneFail_eq (st a : Nat) (s : State) : laneFail st a s = .stop (meshCompletion st).1 (meshCompletion st).2 a s := rfl

/-- A row at its instruction whose access is answered with a status: the instruction goes on, or the order ends. -/
theorem State.laneRow_accessed {s : State} {e u opc : Nat} {t : Stream} {i : Ins} (h : s.atLane e u opc t i) {f : LaneFn}
    {st a : Nat} {t1 : Stream} {s1 s2 : State}
    (hf : f { t with pc := t.pc + 1 } i s = if st = stOk then .next t1 0 0 s2 else Machine.laneFail st a s1) :
    s.laneRow e u opc f = s1.accessed e u t st a t1 s2 := by
  unfold State.accessed
  by_cases hst : st = stOk
  · rw [if_pos hst] at hf ⊢
    exact State.laneRow_next h hf
  · rw [if_neg hst] at hf ⊢
    rw [State.laneRow_stop h (hf.trans (laneFail_eq ..)), if_neg (meshCompletion_fault st)]

/-- The command of a row that may wait, at its instruction. -/
theorem State.laneMem_comes {c : Instr} {s : State} {e u opc : Nat} {f : LaneFn} {t : Stream} {i : Ins} {st a : Nat} {t1 : Stream}
    {s1 s2 : State} (hu : s.unheld (.stream e u)) (hrow : exec c s = laneMemRow c e u opc f s) (h : s.arm.atLane e u opc t i)
    (hf : f { t with pc := t.pc + 1 } i s.arm = if st = stOk then .next t1 0 0 s2 else Machine.laneFail st a s1) :
    s.comes c c (.stream e u) (s1.accessed e u t st a t1 s2) :=
  State.comes_of (hrow.trans (parkIf_runs hu (congrArg Host.Outcome.next (State.laneRow_accessed h hf))))

theorem scalarMemoryAccess_holds : scalarMemoryAccess := by
  intro s s1 e u st a d site t i hu
  have hx : ({ t with pc := t.pc + 1 } : Stream).addr i = t.addr i := rfl
  have hsx : ∀ r, ({ t with pc := t.pc + 1 } : Stream).s r = t.s r := fun _ => rfl
  refine ⟨fun h hr => ?_, fun h hr => ?_, fun h ht hr => ?_, fun h ht hp hr => ?_⟩
  · refine State.laneMem_comes hu rfl h ?_
    dsimp only
    rw [hx, hr]
  · refine State.laneMem_comes hu rfl h ?_
    dsimp only
    rw [hx, hsx, hr]
    rfl
  · refine State.laneMem_comes hu rfl h ?_
    dsimp only
    rw [hsx, hsx, if_neg (Nat.not_lt.mpr ht), hr]
  · refine State.laneMem_comes hu rfl h ?_
    dsimp only
    rw [hsx, hsx, if_neg (Nat.not_lt.mpr ht), hp]
    dsimp only
    rw [hr]

/-- Settles O14. -/
theorem scalarAccesses : Obligations.ScalarAccesses := ⟨scalarTileAccess_holds, scalarMemoryAccess_holds⟩

end Sys2Proof.Machine
end

section
/-! Illegal lane instructions and used-up step limits end their order (04 R158, R164). -/

namespace Sys2Proof.Machine

/-- A row that meets an instruction that is not legal ends the order, whatever the row. -/
theorem State.laneRow_illegal {s : State} {e u : Nat} {t : Stream} (h : s.stream e u = some t) (he : t.ended = false)
    (hs : t.spent = false) (hr : s.laneRuns e u = true)
    (hi : (Ins.parse (NTbl.at 0 (s.eng e).lps t.pc)).legal = false
      ∨ (t.scalar = true ∧ (Ins.parse (NTbl.at 0 (s.eng e).lps t.pc)).vectorOnly = true)) (opc : Nat) (f : LaneFn) :
    s.laneRow e u opc f = s.laneStop e t.q t.idx csIllegal 0x010C t.pc := by
  have hrun : (t.ended || t.spent || !s.laneRuns e u) = false := by simp [he, hs, hr]
  have hill : (!(Ins.parse (NTbl.at 0 (s.eng e).lps t.pc)).legal
      || (t.scalar && (Ins.parse (NTbl.at 0 (s.eng e).lps t.pc)).vectorOnly)) = true := by
    obtain hi | ⟨h1, h2⟩ := hi
    · simp [hi]
    · simp [h1, h2]
  unfold State.laneRow
  rw [h]
  dsimp only
  rw [hrun, hill, if_neg Bool.false_ne_true, if_pos rfl]

theorem laneIllegal_holds : laneIllegal := by
  intro s e u t h he hs hr hi row hrow
  have hf := State.laneRow_illegal h he hs hr hi
  simp only [List.mem_cons, List.not_mem_nil, or_false] at hrow
  obtain rfl | rfl | rfl | rfl | rfl | rfl | rfl | rfl | rfl | rfl | rfl | rfl := hrow
  all_goals exact congrArg Host.Outcome.next (hf _ _)

/-! ### The end of an order's streams and runs -/

/-- A stream at the end of order (`q`, `idx`). -/
def Stream.stopped (q idx : Nat) (t : Stream) : Stream := if t.q = q ∧ t.idx = idx then { t with ended := true } else t

theorem Stream.stopped_ended {q idx : Nat} {t : Stream} (hq : (t.stopped q idx).q = q) (hi : (t.stopped q idx).idx = idx) :
    (t.stopped q idx).ended = true := by
  unfold Stream.stopped at hq hi ⊢
  by_cases hc : t.q = q ∧ t.idx = idx
  · rw [if_pos hc]
  · rw [if_neg hc] at hq hi
    exact absurd ⟨hq, hi⟩ hc

theorem State.stream_laneStop_eq (s : State) (e q idx st fc a v : Nat) :
    (s.laneStop e q idx st fc a).stream e v = (s.stream e v).map (Stream.stopped q idx) := by
  unfold State.laneStop State.stream Eng.endStreams
  dsimp only
  rw [State.eng_setEng]
  refine (NTbl.at_map none (Option.map (Stream.stopped q idx)) rfl _ v).trans ?_
  unfold State.updRun
  rw [State.eng_setEng]

theorem State.runs_laneStop (s : State) (e q idx st fc a : Nat) : ((s.laneStop e q idx st fc a).eng e).runs =
    (s.eng e).runs.map fun r => if r.q = q ∧ r.idx = idx then { r.fail st fc a with finished := true, res := [] } else r := by
  unfold State.laneStop State.updRun Eng.endStreams
  dsimp only
  rw [State.eng_setEng, State.eng_setEng]

/-- The runs of the order are ended with its status. -/
theorem State.runs_laneStop_own {s : State} {e q idx st fc a : Nat} {r : Run} (h : r ∈ ((s.laneStop e q idx st fc a).eng e).runs)
    (hq : r.q = q) (hi : r.idx = idx) : r.done = true ∧ r.finished = true ∧ r.status = st ∧ r.fault = fc ∧ r.res = [] := by
  rw [State.runs_laneStop] at h
  obtain ⟨x, -, rfl⟩ := List.mem_map.mp h
  by_cases hc : x.q = q ∧ x.idx = idx
  · rw [if_pos hc]
    exact ⟨rfl, rfl, rfl, rfl, rfl⟩
  · rw [if_neg hc] at hq hi
    exact absurd ⟨hq, hi⟩ hc

/-- The other runs stay. -/
theorem State.runs_laneStop_other {s : State} {e q idx st fc a : Nat} {r : Run} (hr : ¬(r.q = q ∧ r.idx = idx)) :
    r ∈ ((s.laneStop e q idx st fc a).eng e).runs ↔ r ∈ (s.eng e).runs := by
  rw [State.runs_laneStop, List.mem_map]
  constructor
  · rintro ⟨x, hx, rfl⟩
    by_cases hc : x.q = q ∧ x.idx = idx
    · rw [if_pos hc] at hr
      exact absurd hc hr
    · rwa [if_neg hc]
  · exact fun h => ⟨r, h, if_neg hr⟩

/-- LANE_STEP_LIMIT at a stream that has used its limit. -/
theorem exec_laneStepLimit_spent {s : State} {e u : Nat} {t : Stream} (h : s.stream e u = some t) (he : t.ended = false)
    (hs : t.spent = true) : exec (.laneStepLimit e u) s
      = .next (({ s with freeCtr := s.freeCtr + 1 } : State).laneStop e t.q t.idx csTimeout 0x0403 (Config.free s.freeCtr)) := by
  refine (show exec (.laneStepLimit e u) s = execLaneStepLimit e u s from rfl).trans ?_
  unfold execLaneStepLimit
  rw [h]
  dsimp only
  rw [he, hs]
  rfl

theorem stepLimitCompletes_holds : stepLimitCompletes := by
  refine ⟨fun s e u t h he hs => ⟨_, exec_laneStepLimit_spent h he hs, ?_⟩, fun s e u h => ?_⟩
  · let s1 : State := { s with freeCtr := s.freeCtr + 1 }
    have hl : s1.laneLeaves (s1.laneStop e t.q t.idx csTimeout 0x0403 (Config.free s.freeCtr)) e := State.laneLeaves_laneStop ..
    obtain ⟨hmem, -, -, -, -, -, -, -, -, -, -, hother, htile, -⟩ := hl
    refine ⟨?_, fun v x hx hq hi => ?_, fun r hr hq hi => State.runs_laneStop_own hr hq hi,
      fun r hr => State.runs_laneStop_other hr, hother, htile, hmem, rfl⟩
    · rw [State.stream_laneStop_eq, show s1.stream e u = some t from h, Option.map_some, Stream.stopped, if_pos ⟨rfl, rfl⟩]
    · rw [State.stream_laneStop_eq, Option.map_eq_some_iff] at hx
      obtain ⟨y, -, rfl⟩ := hx
      exact Stream.stopped_ended hq hi
  · refine (show exec (.laneStepLimit e u) s = execLaneStepLimit e u s from rfl).trans ?_
    unfold execLaneStepLimit
    split
    next t ht =>
      refine if_pos ?_
      obtain h1 | h1 := h t ht <;> simp [h1]
    next => rfl

/-- Settles O15. -/
theorem laneStops : Obligations.LaneStops := ⟨laneIllegal_holds, stepLimitCompletes_holds⟩

end Sys2Proof.Machine
end

section
/-! Accesses to registers: refused ones, plain writes, and what an access that meets no refusal does (00 R11-R18, R629). -/

namespace Sys2Proof.Machine

theorem State.debugMark_of_not {s : State} {m : Master} (h : isDebug m = false) (off : Nat) : s.debugMark m off = s := by
  simp [State.debugMark, h]

theorem State.ctlWrite_eq {s : State} {m : Master} {off len v : Nat} (h : ctlOff (ctlBase + off) = some off) :
    s.ctlWrite m (ctlBase + off) len v = (s.debugMark m off).regWrite m off len v := by
  unfold State.ctlWrite
  rw [h]

theorem State.ctlRead_eq {s : State} {m : Master} {off len : Nat} (h : ctlOff (ctlBase + off) = some off) :
    s.ctlRead m (ctlBase + off) len = (s.debugMark m off).regRead m off len := by
  unfold State.ctlRead
  rw [h]

/-- REGISTER_WRITE comes to what the write of the control space gives. -/
theorem registerWrite_comes {s0 s t : State} {m : Master} {q : UnitReq} {off len st : Nat} {v : Word}
    (hu : s0.unheld (.ofMaster m)) (h : s0.arm.sends m off len true q s) (hc : ctlOff (ctlBase + off) = some off)
    (ht : (s.debugMark m off).regWrite m off len v.toNat = (st, t)) :
    s0.comes (.registerWrite m (ctlBase + off) len v) (.registerWrite m (ctlBase + off) len v) (.ofMaster m) (t.wrote q m st) :=
  State.comesTo_of (f := fun s => .next (s.sendWrite m (ctlBase + off) len v.toNat)) rfl (congrArg Host.Outcome.next (State.sendWrite_sends h hc ((State.ctlWrite_eq hc).trans ht))) hu

/-- READ_CLEAR answers what the read of the control space gives. -/
theorem readClear_sends {s0 s t : State} {m : Master} {q : UnitReq} {off len st v : Nat}
    (h : s0.sends m off len false q s) (hc : ctlOff (ctlBase + off) = some off)
    (ht : (s.debugMark m off).regRead m off len = (st, v, t)) :
    exec (.readClear m (ctlBase + off) len) s0 = .next (t.told q m st v) :=
  congrArg Host.Outcome.next (State.sendRead_sends h hc ((State.ctlRead_eq hc).trans ht))

theorem State.regWrite_malformed {s : State} {m : Master} {off len v : Nat} (h : off % 8 ≠ 0 ∨ len ≠ 8 ∨ locate off = none) :
    s.regWrite m off len v = (hBadArg, s) := by
  unfold State.regWrite
  split
  next => rfl
  next hn =>
    rw [show locate off = none by tauto]

theorem State.regRead_malformed {s : State} {m : Master} {off len : Nat} (h : off % 8 ≠ 0 ∨ len ≠ 8 ∨ locate off = none) :
    s.regRead m off len = (hBadArg, 0, s) := by
  unfold State.regRead
  split
  next => rfl
  next hn =>
    rw [show locate off = none by tauto]

theorem State.sendRead_unmapped {s : State} {m : Master} {pa : Nat} (len : Nat) (h1 : s.masterLive m = true)
    (h2 : s.ctlGate m false = none) (h3 : target pa = .unmapped) :
    s.sendRead m pa len = (s.unmappedAt ((portOfId (meshId m)).getD 29) pa).accessEnd m hBadArg 0 := by
  simp only [State.sendRead, h1, h2, State.askRead, State.ctlAccess, if_pos h3, Bool.not_true, Bool.false_eq_true, if_false]

/-- Settles O16. -/
theorem refusedAccessChangesNothing : Obligations.RefusedAccessChangesNothing := by
  refine ⟨fun s0 s m q r i j off st v hu hs hd ho hc hl hr => ?_, fun s0 s m q off len v hd hc hbad => ⟨fun hs hu => ?_, fun hs => ?_⟩,
    fun s m pa len h1 h2 h3 => congrArg Host.Outcome.next (State.sendRead_unmapped len h1 h2 h3)⟩
  · refine registerWrite_comes hu hs hc ?_
    rw [State.debugMark_of_not hd, State.regWrite_refused ho hl hr]
  · refine registerWrite_comes hu hs hc ?_
    rw [State.debugMark_of_not hd, State.regWrite_malformed hbad]
  · refine readClear_sends hs hc ?_
    rw [State.debugMark_of_not hd, State.regRead_malformed hbad]

theorem State.regWrite_applies {s s1 : State} {m : Master} {r : Reg} {i j off v st : Nat} (ho : off % 8 = 0)
    (hl : locate off = some (r, i, j)) (hr : s.writeRefusal m r i j off v = none) (hf : s.fixed r i j off v = false)
    (ha : s.regApply m r i j off v = (st, s1)) : s.regWrite m off 8 v = (st, s1) := by
  unfold State.regWrite
  rw [if_neg (by omega), hl]
  dsimp only
  rw [hr]
  dsimp only
  rw [hf, if_neg Bool.false_ne_true, ha]

/-- Settles O18. -/
theorem registerAccessCompletes : Obligations.RegisterAccessCompletes := by
  intro s0 s s1 m q r i j off x st v hc ho
  exact ⟨fun hs hu hl hr hf ha => registerWrite_comes hu hs hc (State.regWrite_applies ho hl hr hf ha),
    fun hs hr => readClear_sends hs hc hr⟩

/-! ### Plain writes -/

/-- No two fields of a register share a place. -/
theorem regRow_fids (r : Reg) : ((regRow r).fields.map FieldRow.fid).Nodup := by
  cases r <;> decide

/-- No two elements of a field share a place. -/
theorem FieldRow.key_inj (f : FieldRow) (r : RegRow) (i j : Nat) {e e2 : Nat} (h : e < f.rep) (h2 : e2 < f.rep)
    (hk : f.key r i j e = f.key r i j e2) : e = e2 := by
  have hj := congrArg FKey.j hk
  unfold FieldRow.key at hj
  dsimp only at hj
  by_cases h1 : 1 < r.n2
  · by_cases h3 : 1 < f.rep
    · rw [if_pos h1, if_pos h1, if_pos h3, if_pos h3] at hj
      omega
    · omega
  · rwa [if_neg h1, if_neg h1] at hj

/-- What a write of `x` makes of an element of a field. -/
def accWrite (a : Acc) (old x : Nat) : Nat :=
  match a with
  | .rw => x
  | .rwl => x
  | .rw1c => old ^^^ (old &&& x)
  | _ => old

/-- Element `x.1` of a field written with `x.2`. -/
def State.putElem (row : RegRow) (f : FieldRow) (i j : Nat) (s : State) (x : Nat × Nat) : State :=
  let k := f.key row i j x.1
  match f.accAt i with
  | .rw => s.setF k.f k.i k.j x.2
  | .rwl => s.setF k.f k.i k.j x.2
  | .rw1c => s.setF k.f k.i k.j (s.f k.f k.i k.j ^^^ (s.f k.f k.i k.j &&& x.2))
  | _ => s

/-- A field's value in the register store. -/
def State.at (s : State) (k : FKey) : Nat := s.f k.f k.i k.j

theorem State.putElem_same (row : RegRow) (f : FieldRow) (i j : Nat) (s : State) (x : Nat × Nat) :
    (State.putElem row f i j s x).at (f.key row i j x.1) = accWrite (f.accAt i) (s.at (f.key row i j x.1)) x.2 := by
  unfold State.putElem State.at accWrite
  cases f.accAt i
  case rw | rwl | rw1c => exact State.f_setF_same ..
  all_goals rfl

theorem State.putElem_other (row : RegRow) (f : FieldRow) (i j : Nat) (s : State) (x : Nat × Nat) {k : FKey}
    (h : k ≠ f.key row i j x.1) : (State.putElem row f i j s x).at k = s.at k := by
  have hne : (k.f, k.i, k.j) ≠ ((f.key row i j x.1).f, (f.key row i j x.1).i, (f.key row i j x.1).j) := by
    intro he
    simp only [Prod.mk.injEq] at he
    obtain ⟨h1, h2, h3⟩ := he
    exact h (by cases k; cases hk : f.key row i j x.1; simp_all)
  unfold State.putElem State.at
  cases f.accAt i
  case rw | rwl | rw1c => exact State.f_setF_ne _ _ hne
  all_goals rfl

/-- Updates that each leave what `p` reads. -/
theorem foldl_mem {α β : Type} (p : State → β) (g : State → α → State) (l : List α) (h : ∀ x ∈ l, ∀ s, p (g s x) = p s) (s : State) :
    p (l.foldl g s) = p s := by
  induction l generalizing s with
  | nil => rfl
  | cons x l ih => exact (ih (fun y hy => h y (List.mem_cons_of_mem _ hy)) _).trans (h x List.mem_cons_self s)

/-- Updates of which one alone touches what `p` reads. -/
theorem foldl_one {α β : Type} {p : State → β} {g : State → α → State} {l : List α} {x : α} (c : β → β) (hx : x ∈ l) (hl : l.Nodup)
    (hother : ∀ y ∈ l, y ≠ x → ∀ s, p (g s y) = p s) (hsame : ∀ s, p (g s x) = c (p s)) (s : State) :
    p (l.foldl g s) = c (p s) := by
  induction l generalizing s with
  | nil => exact absurd hx List.not_mem_nil
  | cons y l ih =>
    obtain ⟨hy, hl⟩ := List.nodup_cons.mp hl
    rw [List.foldl_cons]
    obtain rfl | hx := List.mem_cons.mp hx
    · rw [← hsame]
      exact foldl_mem p g l (fun z hz => hother z (List.mem_cons_of_mem _ hz) (fun h => hy (h ▸ hz))) _
    · rw [ih hx hl (fun z hz => hother z (List.mem_cons_of_mem _ hz)), hother y List.mem_cons_self fun h => hy (h ▸ hx)]

/-- A field's elements written. -/
theorem State.foldl_putElem_at (row : RegRow) {f : FieldRow} (i j v : Nat) {e : Nat} (h : e < f.rep) (s : State) :
    ((f.elems v).foldl (State.putElem row f i j) s).at (f.key row i j e)
      = accWrite (f.accAt i) (s.at (f.key row i j e)) (f.get v e) := by
  refine foldl_one (p := fun s => s.at (f.key row i j e)) (x := (e, f.get v e)) (fun old => accWrite (f.accAt i) old (f.get v e))
    (List.mem_map.mpr ⟨e, List.mem_range.mpr h, rfl⟩)
    (List.nodup_range.map fun a b hab => congrArg Prod.fst hab) (fun y hy hne s => ?_) (fun s => State.putElem_same ..) s
  obtain ⟨e2, h2, rfl⟩ := List.mem_map.mp hy
  refine State.putElem_other _ _ _ _ _ _ fun hk => hne ?_
  rw [f.key_inj row i j h (List.mem_range.mp h2) hk]

theorem State.putFields_at {s : State} {r : Reg} {i j v : Nat} {f : FieldRow} {e : Nat} (hf : f ∈ (regRow r).fields) (h : e < f.rep) :
    (s.putFields r i j v).at (f.key (regRow r) i j e)
      = accWrite (f.accAt i) (s.at (f.key (regRow r) i j e)) (f.get v e) := by
  have hd := regRow_fids r
  refine foldl_one (p := fun s => s.at (f.key (regRow r) i j e)) (fun old => accWrite (f.accAt i) old (f.get v e))
    hf hd.of_map (fun y hy hne s => ?_) (fun s => State.foldl_putElem_at (regRow r) i j v h s) s
  refine foldl_leaves (fun s => s.at (f.key (regRow r) i j e)) (State.putElem (regRow r) y i j) _
    (fun s x => State.putElem_other _ _ _ _ _ _ fun hk => hne ?_) s
  exact List.inj_on_of_nodup_map hd hy hf (congrArg FKey.f hk).symm

/-- Settles O17: no two fields, and no two elements of a field, share a place, so each is written by its own access type. -/
theorem plainWriteSetsFields : Obligations.PlainWriteSetsFields := by
  intro s r i j v f e hf he
  have h := State.putFields_at (s := s) (i := i) (j := j) (v := v) hf he
  unfold State.at at h
  dsimp only
  rw [h]
  cases f.accAt i <;> rfl

end Sys2Proof.Machine
end

section
/-! What the memory accesses of the module's units leave as it was: engines, waits, clocks, the Ethernet port, power, the test port and the
queue of commands, and every register field that no access writes. -/

/- The many short proofs are checked one after the other, so that they do not take the check's memory all at once. -/
set_option Elab.async false

namespace Sys2Proof.Machine

/-- Register fields that an access may write: counts, error flags and what events, captures and Sheaf's stop set. -/
def accessFid (f : Fid) : Bool :=
  match f with
  | .COH_SNOOPS_COUNT | .GLB_REC_STATUS_STALE | .GLB_REC_STATUS_WEAR_FULL | .GLN_COUNT_COUNT | .GLN_MINMAX_MAX |
    .GLN_MINMAX_MIN | .GLN_SUM_SUM | .HL_ERR_STATUS_EVT_LOST | .MEM_COMB_ATTACHED_COUNT | .MEM_COMB_FULL_COUNT |
    .MEM_COMB_OPENED_COUNT | .MEM_CORR_COUNT_COUNT | .MEM_ERR_ADDR_CHAN | .MEM_ERR_ADDR_LINE | .MEM_ERR_STATUS_CH_FAILED |
    .MEM_ERR_STATUS_CORR | .MEM_ERR_STATUS_PIN_ERASED | .MEM_ERR_STATUS_UNCORR | .MEM_RED_FLAGS_FLAGS |
    .MEM_RED_FLAGS_NAN_COUNT | .MEM_RED_POISONED_COUNT | .MEM_RED_REFUSED_COUNT | .MEM_RED_WRITES_COUNT |
    .MEM_TWIN_REPAIR_COUNT_COUNT | .MEM_TWIN_SERVED_COUNT | .MEM_UNCORR_COUNT_COUNT | .MESH_ERR_STATUS_TIMEOUT |
    .MESH_ERR_STATUS_UNMAPPED | .PRB_BYTES_COUNT | .PRB_PKTS_COUNT | .QOS_PORT_COUNT_TIMEOUTS | .QOS_PORT_COUNT_UNMAPPED |
    .QOS_PORT_STATUS_SCALE | .QOS_SITE_LOAD_SCALE | .SHEAF_CTX_STATUS_PHASE | .SHEAF_CTX_STATUS_STATE | .SHEAF_STATUS_ACTIVE
    | .TEL_CO_REGSTAT_DROPPED | .TEL_CO_REGSTAT_FULL | .TEL_CO_REGSTAT_WRAPPED | .TEL_CO_REGSTAT_WR_PTR | .TEL_FATAL_CODE |
    .TEL_FATAL_COUNT | .TEL_FATAL_CYC_CYCLES | .TEL_FATAL_DOMAIN => true
  | _ => false

/-- The classes of units whose entries an access may change. -/
def accessUnit (c : UCls) : Bool := decide (c = .channel) || decide (c = .memSite)

/-- What a memory site knows of its stack's temperature (05 R219-R221). -/
def MSite.therm (m : MSite) : Nat × Bool × Bool × Bool × Bool := (m.tempFails, m.tempRead, m.tempLost, m.refresh2x, m.maxSeen)

/-- What training and the reset of a site's chiplet go by (09 R351-R356, R362). -/
def SLink.control (l : SLink) : List Nat × Option Nat × List UmRepair × List UmRepair × List Nat × Bool × Bool × Bool × Bool :=
  ([l.attempts, l.tryRate, l.sideUp, l.retest, l.clkAt, l.lowUntil], l.releaseAt, l.plan, l.live, l.drops, l.waking, l.rstLow, l.refclk, l.hold)

/-- A plot but for the mark of a debug access (13 R506). -/
def Plot.core (x : Plot) : Plot := { x with touch := false }

/-- State `t` comes from `s` by accesses; where no granule has a twin, none of them stores below `lo`. -/
structure State.Accesses (s : State) (lo : Nat) (t : State) : Prop where
  rwl : t.rwl = s.rwl
  fuses : t.fuses = s.fuses
  umReady : t.umReady = s.umReady
  doms : t.doms = s.doms
  engs : t.engs = s.engs
  waits : t.waits = s.waits
  eth : t.eth = s.eth
  pwr : t.pwr = s.pwr
  jtag : t.jtag = s.jtag
  mgmtIndex : t.mgmtIndex = s.mgmtIndex
  fallowUnit : t.fallowUnit = s.fallowUnit
  now : t.now = s.now
  pending : t.pending = s.pending
  twins : t.sec.twins = s.sec.twins
  inited : t.mem.inited = s.mem.inited
  low : s.sec.twins = [] → ∀ a, a < lo → NTbl.at 0 t.mem.cells a = NTbl.at 0 s.mem.cells a
  fld : ∀ f i j, accessFid f = false → t.f f i j = s.f f i j
  unit : ∀ c n, accessUnit c = false → t.unit c n = s.unit c n
  therm : ∀ n, (t.msite n).therm = (s.msite n).therm
  control : ∀ n, (t.link n).control = (s.link n).control
  up : t.coh.up = s.coh.up
  plot : ∀ n, (t.plot n).core = (s.plot n).core

namespace State.Accesses

variable {s t u : State} {lo : Nat}

theorem refl (s : State) : s.Accesses lo s :=
  ⟨rfl, rfl, rfl, rfl, rfl, rfl, rfl, rfl, rfl, rfl, rfl, rfl, rfl, rfl, rfl, fun _ _ _ => rfl, fun _ _ _ _ => rfl, fun _ _ _ => rfl, fun _ => rfl, fun _ => rfl, rfl,
    fun _ => rfl⟩

theorem trans (h : s.Accesses lo t) (k : t.Accesses lo u) : s.Accesses lo u where
  rwl := k.rwl.trans h.rwl
  fuses := k.fuses.trans h.fuses
  umReady := k.umReady.trans h.umReady
  doms := k.doms.trans h.doms
  engs := k.engs.trans h.engs
  waits := k.waits.trans h.waits
  eth := k.eth.trans h.eth
  pwr := k.pwr.trans h.pwr
  jtag := k.jtag.trans h.jtag
  mgmtIndex := k.mgmtIndex.trans h.mgmtIndex
  fallowUnit := k.fallowUnit.trans h.fallowUnit
  now := k.now.trans h.now
  pending := k.pending.trans h.pending
  twins := k.twins.trans h.twins
  inited := k.inited.trans h.inited
  low := fun ht a ha => (k.low (h.twins.trans ht) a ha).trans (h.low ht a ha)
  fld := fun f i j hf => (k.fld f i j hf).trans (h.fld f i j hf)
  unit := fun c n hc => (k.unit c n hc).trans (h.unit c n hc)
  therm := fun n => (k.therm n).trans (h.therm n)
  control := fun n => (k.control n).trans (h.control n)
  up := k.up.trans h.up
  plot := fun n => (k.plot n).trans (h.plot n)

/-- Nothing lies below address 0. -/
theorem zero (h : s.Accesses lo t) : s.Accesses 0 t :=
  { h with low := fun _ _ ha => absurd ha (Nat.not_lt_zero _) }

/-- Where a granule has a twin, it does not matter where an access stores. -/
theorem twinned (h : s.Accesses lo t) (k : t.Accesses 0 u) (ht : t.sec.twins ≠ []) : s.Accesses lo u :=
  h.trans { k with low := fun ht2 => absurd ht2 ht }

/-- An update of components that accesses may change, not of stored bytes. -/
theorem rest (h : s.Accesses lo t) {aon units umGen hl mem mesh sec boot coh links sheaf tel out freeCtr}
    (hs : sec.twins = t.sec.twins := by rfl) (hm : mem.cells = t.mem.cells := by rfl)
    (hi : mem.inited = t.mem.inited := by rfl)
    (hu : ∀ c n, accessUnit c = false → PTbl.at {} units c.code n = t.unit c n := by exact fun _ _ _ => rfl)
    (ht : ∀ n, (NTbl.at {} mem.sites n).therm = (t.msite n).therm := by exact fun _ => rfl)
    (hk : ∀ n, (NTbl.at {} links n).control = (t.link n).control := by exact fun _ => rfl) (hup : coh.up = t.coh.up := by rfl)
    (hpl : ∀ n, (NTbl.at {} sec.plots n).core = (t.plot n).core := by exact fun _ => rfl) :
    s.Accesses lo ⟨t.flds, t.rwl, aon, t.fuses, units, t.umReady, umGen, t.doms, hl, mem, mesh, sec, boot, t.engs, t.waits, coh, links,
      t.eth, sheaf, t.pwr, tel, t.jtag, t.mgmtIndex, t.fallowUnit, out, t.now, freeCtr, t.pending⟩ :=
  h.trans ⟨rfl, rfl, rfl, rfl, rfl, rfl, rfl, rfl, rfl, rfl, rfl, rfl, rfl, hs, hi, fun _ a _ => congrArg (NTbl.at 0 · a) hm, fun _ _ _ _ => rfl,
    hu, ht, hk, hup, hpl⟩

/-- An update of memory that stores nothing below `lo`. -/
theorem store (h : s.Accesses lo t) {m : Mem} (hm : ∀ a, a < lo → NTbl.at 0 m.cells a = NTbl.at 0 t.mem.cells a)
    (hi : m.inited = t.mem.inited) (ht : m.sites = t.mem.sites) :
    s.Accesses lo { t with mem := m } :=
  h.trans ⟨rfl, rfl, rfl, rfl, rfl, rfl, rfl, rfl, rfl, rfl, rfl, rfl, rfl, rfl, hi, fun _ a ha => hm a ha, fun _ _ _ _ => rfl,
    fun _ _ _ => rfl, fun n => congrArg (fun x => (NTbl.at {} x n).therm) ht, fun _ => rfl, rfl, fun _ => rfl⟩

theorem setF (h : s.Accesses lo t) {f : Fid} {i j v : Nat} (hf : accessFid f = true := by rfl) : s.Accesses lo (t.setF f i j v) :=
  h.trans ⟨rfl, rfl, rfl, rfl, rfl, rfl, rfl, rfl, rfl, rfl, rfl, rfl, rfl, rfl, rfl, fun _ _ _ => rfl,
    fun g _ _ hg => t.f_setF_fid v fun he => by rw [he, hf] at hg; exact Bool.noConfusion hg, fun _ _ _ => rfl, fun _ => rfl,
    fun _ => rfl, rfl, fun _ => rfl⟩

theorem setPoison (h : s.Accesses lo t) {line : Nat} {p : Bool} : s.Accesses lo (t.setPoison line p) := h.rest

theorem ite {c : Prop} [Decidable c] (h : s.Accesses lo t) (k : s.Accesses lo u) : s.Accesses lo (if c then t else u) := by
  split <;> assumption

theorem ite_fst {α : Type} {c : Prop} [Decidable c] {x y : State × α} (h : s.Accesses lo x.1) (k : s.Accesses lo y.1) :
    s.Accesses lo (if c then x else y).1 := by
  split <;> assumption

theorem ite_snd {α : Type} {c : Prop} [Decidable c] {x y : α × State} (h : s.Accesses lo x.2) (k : s.Accesses lo y.2) :
    s.Accesses lo (if c then x else y).2 := by
  split <;> assumption

theorem ite_snd_snd {α β : Type} {c : Prop} [Decidable c] {x y : α × β × State} (h : s.Accesses lo x.2.2)
    (k : s.Accesses lo y.2.2) : s.Accesses lo (if c then x else y).2.2 := by
  split <;> assumption

theorem mk_fst {α : Type} {a : α} (h : s.Accesses lo t) : s.Accesses lo (t, a).1 := h

theorem mk_snd {α : Type} {a : α} (h : s.Accesses lo t) : s.Accesses lo (a, t).2 := h

theorem mk_snd_snd {α β : Type} {a : α} {b : β} (h : s.Accesses lo t) : s.Accesses lo (a, b, t).2.2 := h

theorem foldl {α : Type} {l : List α} {f : State → α → State} (h : s.Accesses lo t)
    (hf : ∀ t a, s.Accesses lo t → s.Accesses lo (f t a)) : s.Accesses lo (l.foldl f t) :=
  foldl_keeps (fun t => s.Accesses lo t) f l hf t h

theorem foldl_snd {α β : Type} {l : List α} {f : β × State → α → β × State} {x : β × State} (h : s.Accesses lo x.2)
    (hf : ∀ x a, s.Accesses lo x.2 → s.Accesses lo (f x a).2) : s.Accesses lo (l.foldl f x).2 := by
  induction l generalizing x with
  | nil => exact h
  | cons a l ih => exact ih (hf x a h)

end State.Accesses

variable {s t u : State} {lo : Nat}

theorem State.Accesses.count {f : Fid} {i j w x : Nat} (h : s.Accesses lo t) (hf : accessFid f = true := by rfl) :
    s.Accesses lo (t.count f i j w x) := h.setF hf

theorem State.Accesses.flag {f : Fid} {i j : Nat} (h : s.Accesses lo t) (hf : accessFid f = true := by rfl) : s.Accesses lo (t.flag f i j) := h.setF hf

theorem State.Accesses.emit {o : Out} (h : s.Accesses lo t) : s.Accesses lo (t.emit o) := by
  unfold State.emit
  exact h.rest

theorem State.Accesses.setLink {n : Nat} {v : SLink} (h : s.Accesses lo t) (hv : v.control = (t.link n).control := by rfl) :
    s.Accesses lo (t.setLink n v) := by
  have hk : ∀ k, (NTbl.at {} (NTbl.put {} t.links n v) k).control = (t.link k).control := fun k => by
    by_cases hn : k = n
    · rw [hn, NTbl.at_put_same, hv]
    · rw [NTbl.at_put_ne _ _ _ hn]
      rfl
  unfold State.setLink
  exact h.rest (hk := hk)

theorem State.Accesses.deal {n : Nat} {mods : List Nat} {b : FlitBody} (h : s.Accesses lo t) : s.Accesses lo (t.deal n mods b).2 := by
  unfold State.deal
  exact h.setLink.emit

theorem State.Accesses.flitOut {n : Nat} {body : Nat → Nat → FlitBody} (h : s.Accesses lo t) : s.Accesses lo (t.flitOut n body) := by
  unfold State.flitOut
  dsimp only
  exact h.deal.setLink

theorem State.Accesses.place {n : Nat} {m : SiteMsg} (h : s.Accesses lo t) : s.Accesses lo (t.place n m) := by
  unfold State.place
  dsimp only
  split
  · exact .setLink (.ite (.foldl h.setLink fun _ _ h => h.flitOut) h.flitOut)
  · exact .ite (.foldl h.setLink fun _ _ h => h.flitOut) h.flitOut

theorem State.Accesses.siteSend {n : Nat} {m0 : SiteMsg} (h : s.Accesses lo t) : s.Accesses lo (t.siteSend n m0) := by
  unfold State.siteSend
  exact .ite h (.ite h.setLink h.place)

theorem State.Accesses.freeBelow {n : Nat} (h : s.Accesses lo t) : s.Accesses lo (t.freeBelow n).2 := by
  unfold State.freeBelow
  exact .mk_snd h.rest

theorem State.Accesses.setPlot {p : Nat} {v : Plot} (h : s.Accesses lo t) (hv : v.core = (t.plot p).core := by rfl) :
    s.Accesses lo (t.setPlot p v) := by
  have hp : ∀ k, (NTbl.at {} (NTbl.put {} t.sec.plots p v) k).core = (t.plot k).core := fun k => by
    by_cases hn : k = p
    · rw [hn, NTbl.at_put_same, hv]
    · rw [NTbl.at_put_ne _ _ _ hn]
      rfl
  unfold State.setPlot
  exact h.rest (hpl := hp)

theorem State.Accesses.setSess {n : Nat} {v : Session} (h : s.Accesses lo t) : s.Accesses lo (t.setSess n v) := by
  unfold State.setSess
  exact h.rest

theorem State.Accesses.deliver {e : Event} {n : Nat} (h : s.Accesses lo t) : s.Accesses lo (State.deliver e t n) := by
  unfold State.deliver
  exact .ite (.ite h.setSess h.setSess.flag) h

theorem State.Accesses.fatal {code d cyc : Nat} (h : s.Accesses lo t) : s.Accesses lo (t.fatal code d cyc) := by
  unfold State.fatal
  exact .rest (.count (.ite h.setF.setF.setF h))

theorem State.Accesses.raise {code sev ucls unit : Nat} {detail : List Nat} {sc : Scope} {plot : Option Nat}
    (h : s.Accesses lo t) : s.Accesses lo (t.raise code sev ucls unit detail sc plot) := by
  unfold State.raise
  dsimp only
  exact .ite (.fatal (.foldl h.rest fun _ _ h => h.deliver)) (.foldl h.rest fun _ _ h => h.deliver)

theorem State.Accesses.limit {a b us : Nat} (h : s.Accesses lo t) : s.Accesses lo (t.limit a b us).2 := by
  unfold State.limit
  dsimp only
  split
  · exact .ite_snd h.rest h.rest
  · exact .mk_snd h.rest

theorem State.Accesses.raiseLimited {us code sev ucls unit : Nat} {detail : List Nat} {sc : Scope} {key : Nat}
    (h : s.Accesses lo t) : s.Accesses lo (t.raiseLimited us code sev ucls unit detail sc key) := by
  unfold State.raiseLimited
  have hl : s.Accesses lo (t.limit code (unit + 65536 * key) us).2 := h.limit
  split
  next he => exact (he ▸ hl : s.Accesses lo (_, _).2).raise
  next he => exact (he ▸ hl : s.Accesses lo (_, _).2)

theorem State.Accesses.wearAdd {kind cls unit detail : Nat} (h : s.Accesses lo t) : s.Accesses lo (t.wearAdd kind cls unit detail) := by
  unfold State.wearAdd
  exact .ite h (.ite h.flag h.rest.flag)

/-- The entries of one class do not hold those of another. -/
theorem UCls.code_ne {c d : UCls} (hc : accessUnit c = true) (hd : accessUnit d = false) : d.code ≠ c.code := by
  cases c <;> cases d <;> simp_all [accessUnit, UCls.code]

theorem State.Accesses.putUnit {c : UCls} {n : Nat} {v : CUnit} (h : s.Accesses lo t) (hc : accessUnit c = true := by rfl) :
    s.Accesses lo (t.putUnit c n v) := by
  have hp : ∀ d k, accessUnit d = false → PTbl.at {} (PTbl.put {} t.units c.code n v) d.code k = t.unit d k := fun d k hd =>
    PTbl.at_put_ne _ _ _ fun he => UCls.code_ne hc hd (Prod.mk.inj he).1
  unfold State.putUnit
  exact .ite (h.rest (hu := hp)).raise (h.rest (hu := hp))

theorem State.Accesses.setUnit {c : UCls} {n : Nat} {st : UState} (h : s.Accesses lo t) (hc : accessUnit c = true := by rfl) :
    s.Accesses lo (t.setUnit c n st) := by
  unfold State.setUnit
  exact .ite (.ite (h.putUnit hc).wearAdd (h.putUnit hc)) h

theorem State.Accesses.setDeg {c : UCls} {n : Nat} {d : Bool} (h : s.Accesses lo t) (hc : accessUnit c = true := by rfl) :
    s.Accesses lo (t.setDeg c n d) := by
  unfold State.setDeg
  exact .ite (h.putUnit hc) h

theorem State.Accesses.setMsite {n : Nat} {v : MSite} (h : s.Accesses lo t) (hv : v.therm = (t.msite n).therm := by rfl) :
    s.Accesses lo (t.setMsite n v) := by
  have ht : ∀ k, (NTbl.at {} (NTbl.put {} t.mem.sites n v) k).therm = (t.msite k).therm := fun k => by
    by_cases hn : k = n
    · rw [hn, NTbl.at_put_same, hv]
    · rw [NTbl.at_put_ne _ _ _ hn]
      rfl
  unfold State.setMsite
  exact h.rest (ht := ht)

theorem State.Accesses.setQport {p : Nat} {v : QPort} (h : s.Accesses lo t) : s.Accesses lo (t.setQport p v) := by
  unfold State.setQport
  exact h.rest

theorem State.Accesses.rescale {qs : List QPort} (h : s.Accesses lo t) : s.Accesses lo (t.rescale qs) := by
  unfold State.rescale
  exact .foldl (.foldl h fun _ _ h => .ite h h.setF.raise) fun _ _ h => .ite h h.setF.raise

theorem State.Accesses.capChanged (h : s.Accesses lo t) : s.Accesses lo t.capChanged := by
  unfold State.capChanged
  exact h.rescale.rest

theorem State.Accesses.sheafIdle {x : Nat} (h : s.Accesses lo t) : s.Accesses lo (t.sheafIdle x) := by
  unfold State.sheafIdle
  exact h.rest.setF.setF.setF

theorem State.Accesses.sheafStop (h : s.Accesses lo t) : s.Accesses lo t.sheafStop := by
  unfold State.sheafStop
  exact .foldl h fun _ _ h => .ite h h.sheafIdle

theorem State.Accesses.setChan {c : Nat} {v : Chan} (h : s.Accesses lo t) : s.Accesses lo (t.setChan c v) := by
  unfold State.setChan
  exact h.rest

theorem State.Accesses.setSched {k : Nat} {v : Sched} (h : s.Accesses lo t) : s.Accesses lo (t.setSched k v) := by
  unfold State.setSched
  exact h.rest

theorem State.Accesses.chanPush {line kind cls : Nat} {port : Nat} {tag : Nat}
    (h : s.Accesses lo t) : s.Accesses lo (t.chanPush line kind cls port tag) := by
  unfold State.chanPush
  exact .ite h h.setSched

theorem State.Accesses.chanUntil {k : Nat} {stop : Sched → Bool} (h : s.Accesses lo t) : s.Accesses lo (t.chanUntil k stop) := by
  unfold State.chanUntil
  exact h.setSched

theorem State.Accesses.chanServe {line kind cls port tag : Nat}
    (h : s.Accesses lo t) : s.Accesses lo (t.chanServe line kind cls port tag) := by
  unfold State.chanServe
  exact .ite h.chanPush.chanUntil h.chanPush

theorem Mem.at_putBytes_below (m : Mem) (pa : Nat) (b : Bytes) {a : Nat} (h : a < pa) :
    NTbl.at 0 (m.putBytes pa b).cells a = NTbl.at 0 m.cells a := by
  induction b generalizing m pa with
  | nil => rfl
  | cons x b ih => exact (ih _ (pa + 1) (by omega)).trans (NTbl.at_put_ne _ _ _ (by omega))

theorem Mem.inited_putBytes (m : Mem) (pa : Nat) (b : Bytes) : (m.putBytes pa b).inited = m.inited := by
  induction b generalizing m pa with
  | nil => rfl
  | cons x b ih => exact ih _ (pa + 1)

theorem Mem.sites_putBytes (m : Mem) (pa : Nat) (b : Bytes) : (m.putBytes pa b).sites = m.sites := by
  induction b generalizing m pa with
  | nil => rfl
  | cons x b ih => exact ih _ (pa + 1)

theorem State.Accesses.freshen {line : Nat} (h : s.Accesses lo t) (hl : lo ≤ line * 64) : s.Accesses lo (t.freshen line) := by
  have hc := fun a (ha : a < line * 64) => Mem.at_putBytes_below t.mem (line * 64) (t.memBytes (line * 64) 64) ha
  have hi := Mem.inited_putBytes t.mem (line * 64) (t.memBytes (line * 64) 64)
  have hs := Mem.sites_putBytes t.mem (line * 64) (t.memBytes (line * 64) 64)
  unfold State.freshen
  dsimp only
  generalize t.mem.putBytes (line * 64) (t.memBytes (line * 64) 64) = m at hc hi hs
  exact .ite h (h.store (fun a ha => hc a (by omega)) hi hs)

theorem State.Accesses.storeIn {pa : Nat} {b : Bytes} (h : s.Accesses lo t) (hl : lo ≤ pa / 64 * 64) : s.Accesses lo (t.storeIn pa b) := by
  have hs : ∀ {v : State}, s.Accesses lo v → s.Accesses lo { v with mem := v.mem.putBytes pa b } := fun hv =>
    hv.store (fun a ha => Mem.at_putBytes_below _ _ _ (by omega)) (Mem.inited_putBytes ..) (Mem.sites_putBytes ..)
  unfold State.storeIn
  exact hs (.ite h.rest (h.freshen hl))

theorem State.Accesses.uncorrRaise {n line chan src : Nat} {sc : Scope}
    (h : s.Accesses lo t) : s.Accesses lo (t.uncorrRaise n line chan src sc) := by
  unfold State.uncorrRaise
  exact h.setMsite.raise

theorem State.Accesses.uncorrEvent {n line src : Nat} {sc : Scope} (h : s.Accesses lo t) : s.Accesses lo (t.uncorrEvent n line src sc) := by
  unfold State.uncorrEvent
  exact .ite h.setMsite h.uncorrRaise

theorem State.Accesses.uncorr {line src : Nat} (h : s.Accesses lo t) : s.Accesses lo (t.uncorr line src) := by
  unfold State.uncorr
  exact h.count.flag.setF.setF.uncorrEvent

theorem State.Accesses.updateCap {n : Nat} (h : s.Accesses lo t) : s.Accesses lo (t.updateCap n) := by
  unfold State.updateCap
  exact .ite h h.setMsite.raise.capChanged

theorem State.Accesses.degMem {n : Nat} (h : s.Accesses lo t) : s.Accesses lo (t.degMem n) := by
  unfold State.degMem
  exact h.setDeg

theorem State.Accesses.chanLossRaise {c : Nat} (h : s.Accesses lo t) : s.Accesses lo (t.chanLossRaise c) := by
  unfold State.chanLossRaise
  exact h.uncorrRaise

theorem State.Accesses.lostReads {c : Nat} (h : s.Accesses lo t) : s.Accesses lo (t.lostReads c) := by
  unfold State.lostReads
  exact h.rest

theorem State.Accesses.channelFail {c cause : Nat} (h : s.Accesses lo t) : s.Accesses lo (t.channelFail c cause) := by
  have hl : ∀ {u : State}, s.Accesses lo u → s.Accesses lo (if (u.msite (c / 32)).uncorrOpen then
      u.setMsite (c / 32) { u.msite (c / 32) with chanLossDue := (u.msite (c / 32)).chanLossDue ++ [c] } else u.chanLossRaise c) :=
    fun h => .ite h.setMsite h.chanLossRaise
  unfold State.channelFail
  exact .ite h.raise (hl h.lostReads.setChan.setSched.setUnit.degMem.flag.flag.raise.updateCap)

theorem State.Accesses.notePin {c pin : Nat} (h : s.Accesses lo t) : s.Accesses lo (t.notePin c pin) := by
  unfold State.notePin
  exact .ite h.rest (.ite h.rest.setChan.flag.raise.wearAdd h.rest.channelFail)

theorem State.Accesses.noteRow {c line : Nat} (h : s.Accesses lo t) : s.Accesses lo (t.noteRow c line) := by
  unfold State.noteRow
  exact h.rest

theorem State.Accesses.eccRead {line : Nat} {pins : List Nat} (h : s.Accesses lo t) : s.Accesses lo (t.eccRead line pins).2 := by
  unfold State.eccRead
  exact .ite_snd h (.ite_snd (.ite_snd h h) (.ite_snd (.ite_snd h
    (.foldl (.ite h.count.flag h.count.flag.noteRow.chanPush) fun _ _ h => h.notePin)) h))

theorem State.Accesses.memFatal {n : Nat} (h : s.Accesses lo t) : s.Accesses lo (t.memFatal n) := by
  unfold State.memFatal
  exact h.setMsite.raise.sheafStop

theorem State.Accesses.spareWay {n way : Nat} (h : s.Accesses lo t) : s.Accesses lo (t.spareWay n way) := by
  unfold State.spareWay
  exact .ite h.rest.raise h.memFatal

theorem State.Accesses.llcErr {n : Nat} {e : LineErr} (h : s.Accesses lo t) : s.Accesses lo (t.llcErr n e) := by
  unfold State.llcErr
  exact .ite h.spareWay (.ite h (.ite h.spareWay h.rest))

theorem State.Accesses.llcDrop {line : Nat} (h : s.Accesses lo t) : s.Accesses lo (t.llcDrop line) := by
  unfold State.llcDrop
  exact h.rest

theorem State.Accesses.llcEvict {line : Nat} (h : s.Accesses lo t) : s.Accesses lo (t.llcEvict line) := by
  unfold State.llcEvict
  exact .llcDrop (.ite h.chanPush h)

theorem State.Accesses.llcRoom {line : Nat} (h : s.Accesses lo t) : s.Accesses lo (t.llcRoom line) := by
  unfold State.llcRoom
  dsimp only
  split
  · exact h
  · split
    · exact h.freeBelow.llcEvict
    · exact h.freeBelow

theorem State.Accesses.llcPut {line : Nat} {dirty : Bool} (h : s.Accesses lo t) : s.Accesses lo (t.llcPut line dirty) := by
  unfold State.llcPut
  exact .rest (.ite h h.llcRoom)

theorem State.Accesses.twinRepaired {line copy : Nat} (h : s.Accesses lo t) : s.Accesses lo (t.twinRepaired line copy) := by
  unfold State.twinRepaired
  exact h.count.raiseLimited

theorem State.Accesses.poisonOut {line src : Nat} (h : s.Accesses lo t) : s.Accesses lo (t.poisonOut line src) := by
  unfold State.poisonOut
  exact h.setPoison.chanPush.uncorr

/-- A line with a twin lies in a granule that has one. -/
theorem State.twins_of_twinLine {line tl : Nat} (h : t.twinLine line = some tl) : t.sec.twins ≠ [] := by
  intro hn
  have hnone : NTbl.at none [] (lineGran line) = (none : Option Nat) := rfl
  rw [State.twinLine, State.twinOf, hn, hnone] at h
  cases h

theorem State.Accesses.twinRead {errs : List LineErr} {line tl src : Nat}
    (h : s.Accesses 0 t) : s.Accesses 0 (t.twinRead errs line tl src).2 := by
  unfold State.twinRead
  dsimp only
  split
  · exact .ite_snd h.eccRead.count (h.eccRead.setPoison.storeIn (Nat.zero_le _)).twinRepaired
  · exact .ite_snd h.eccRead.count (h.eccRead.setPoison.storeIn (Nat.zero_le _)).twinRepaired
  · exact .mk_snd (.poisonOut (.ite h.eccRead.setPoison h.eccRead))
  · exact .mk_snd (.poisonOut (.ite h.eccRead.setPoison h.eccRead))

theorem State.Accesses.readLine {line : Nat} {errs : List LineErr} {src : Nat} {cls : Nat} {port : Nat} {tag : Nat}
    (h : s.Accesses lo t) : s.Accesses lo (t.readLine line errs src cls port tag).2 := by
  have htw : ∀ {v : State} {tl : Nat}, s.Accesses lo v → v.twinLine line = some tl → s.Accesses lo (v.twinRead errs line tl src).2 :=
    fun hv ht => hv.twinned (State.Accesses.twinRead (.refl _)) (State.twins_of_twinLine ht)
  unfold State.readLine
  dsimp only
  split
  · split
    · exact .mk_snd h.llcErr
    · split
      next ht => exact htw (.ite h.llcErr.poisonOut h.llcErr) ht
      · exact .mk_snd (.ite h.llcErr.poisonOut h.llcErr)
  · split
    · exact .mk_snd h.chanServe.eccRead.llcPut
    · exact .mk_snd h.chanServe.eccRead.llcPut
    · split
      next ht => exact htw h.chanServe.eccRead.llcPut ht
      · exact .mk_snd (.ite h.chanServe.eccRead.llcPut.poisonOut h.chanServe.eccRead.llcPut)
    · split
      next ht => exact htw h.chanServe.eccRead.llcPut ht
      · exact .mk_snd (.ite h.chanServe.eccRead.llcPut.poisonOut h.chanServe.eccRead.llcPut)

theorem State.Accesses.memRead {pa n : Nat} {errs : List LineErr} {src : Nat} {cls : Nat} {port : Nat} {tag : Nat} {joined : List (Nat × Bool)}
    (h : s.Accesses lo t) : s.Accesses lo (t.memRead pa n errs src cls port tag joined).2.2 := by
  unfold State.memRead
  dsimp only
  refine .foldl_snd h fun t a h => ?_
  split
  · exact h
  · exact h.readLine

theorem State.Accesses.combClose {line : Nat} (h : s.Accesses lo t) : s.Accesses lo (t.combClose line) := by
  unfold State.combClose
  split
  · exact h.rest.setMsite
  · exact h

theorem State.Accesses.writeCopy {pa : Nat} {b : Bytes} {pois : Bool} {errs : List LineErr} {src : Nat} {cls : Nat}
    (h : s.Accesses lo t) (hl : lo ≤ pa / 64 * 64) : s.Accesses lo (t.writeCopy pa b pois errs src cls) := by
  unfold State.writeCopy
  dsimp only
  exact .ite h (.ite (.ite h.setPoison (h.setPoison.storeIn hl)) (.ite h.setPoison (.ite h.readLine (h.readLine.storeIn hl))))

theorem State.Accesses.writeLine {pa : Nat} {b : Bytes} {pois : Bool} {errs : List LineErr} {cls : Nat}
    (h : s.Accesses lo t) (hl : lo ≤ pa / 64 * 64) : s.Accesses lo (t.writeLine pa b pois errs cls) := by
  have hc := (h.combClose (line := pa / 64)).writeCopy (b := b) (pois := pois) (errs := errs) (src := srcMerge) (cls := cls) hl
  unfold State.writeLine
  dsimp only
  refine .llcPut ?_
  split
  next ht => exact hc.twinned (State.Accesses.writeCopy (.refl _) (Nat.zero_le _)) (State.twins_of_twinLine ht)
  · exact hc

/-- The pieces of a write lie in its first line or after it. -/
theorem splitLines_line {n pa : Nat} {b : Bytes} {x : Nat × Bytes} (h : x ∈ splitLines n pa b) : pa / 64 * 64 ≤ x.1 / 64 * 64 := by
  induction n generalizing pa b with
  | zero => simp [splitLines] at h
  | succ n ih =>
    cases b with
    | nil => simp [splitLines] at h
    | cons y b =>
      rw [splitLines] at h
      obtain rfl | h := List.mem_cons.mp h
      · exact Nat.le_refl _
      · have := ih h
        omega
      · simp

theorem State.Accesses.memWrite {pa : Nat} {b : Bytes} {pois : Nat} {errs : List LineErr} {cls : Nat}
    (h : s.Accesses lo t) (hl : lo ≤ pa / 64 * 64) : s.Accesses lo (t.memWrite pa b pois errs cls) := by
  unfold State.memWrite
  refine List.foldlRecOn (motive := fun t => s.Accesses lo t) _ _ h fun t ht x hx => ht.writeLine ?_
  exact hl.trans (splitLines_line (List.fst_mem_of_mem_zipIdx hx))

theorem State.Accesses.setSf {line : Nat} {v : Option SfEnt} (h : s.Accesses lo t) : s.Accesses lo (t.setSf line v) := by
  unfold State.setSf
  exact h.rest

theorem State.Accesses.setCc {line : Nat} {v : Option CcLine} (h : s.Accesses lo t) : s.Accesses lo (t.setCc line v) := by
  unfold State.setCc
  exact h.rest

theorem State.Accesses.tracker {n : Nat} {c0 take : Bool} (h : s.Accesses lo t) : s.Accesses lo (t.tracker n c0 take) := by
  unfold State.tracker
  exact h.setMsite

theorem State.Accesses.sendSnoop {code line txn targets : Nat}
    (h : s.Accesses lo t) : s.Accesses lo (t.sendSnoop code line txn targets) := by
  unfold State.sendSnoop
  exact .foldl h.count fun _ _ h => h.emit

theorem State.Accesses.recallRead {line : Nat} (h : s.Accesses 0 t) : s.Accesses 0 (t.recallRead line) := by
  unfold State.recallRead
  split
  · exact .ite h (.ite (.ite (.memWrite (.rest (.foldl h.sendSnoop fun _ _ h => h.siteSend)) (Nat.zero_le _))
      (.rest (.foldl h.sendSnoop fun _ _ h => h.siteSend))) (.setCc
      (.setSf (.ite (.memWrite (.rest (.foldl h.sendSnoop fun _ _ h => h.siteSend)) (Nat.zero_le _))
      (.rest (.foldl h.sendSnoop fun _ _ h => h.siteSend))))))
  · exact h

theorem State.Accesses.promote {line cls : Nat} (h : s.Accesses lo t) : s.Accesses lo (t.promote line cls) := by
  unfold State.promote
  exact .ite h.setSched h

theorem State.Accesses.combRead {line cls : Nat} {errs : List LineErr}
    (h : s.Accesses lo t) : s.Accesses lo (t.combRead line cls errs).2 := by
  unfold State.combRead
  dsimp only
  split
  · exact h
  · split
    · exact .mk_snd h.rest.promote.count
    · exact .ite_snd h (.ite_snd h.count h.rest.setMsite.count)

theorem State.Accesses.combLines {pa n cls : Nat} {skip : List Nat} {errs : List LineErr}
    (h : s.Accesses lo t) : s.Accesses lo (t.combLines pa n cls skip errs).2 := by
  unfold State.combLines
  dsimp only
  exact .foldl_snd h fun _ _ h => h.combRead

theorem State.Accesses.combDone {pa n : Nat} {joined : List (Nat × Bool)} {bad : List Nat}
    (h : s.Accesses lo t) : s.Accesses lo (t.combDone pa n joined bad) := by
  unfold State.combDone
  refine .foldl h fun t a h => ?_
  split
  · exact h.rest
  · exact h

theorem State.Accesses.combMemRead {pa n : Nat} {errs : List LineErr} {cls : Nat} {skip : List Nat} {port tag : Nat}
    (h : s.Accesses lo t) : s.Accesses lo (t.combMemRead pa n errs cls skip port tag).2.2 := by
  unfold State.combMemRead
  dsimp only
  exact h.combLines.memRead.combDone

theorem State.Accesses.touch {p addr : Nat} (h : s.Accesses lo t) : s.Accesses lo (t.touch p addr) := by
  unfold State.touch
  exact .ite h h.setPlot.raise

theorem State.Accesses.touchAll {mask addr : Nat} (h : s.Accesses lo t) : s.Accesses lo (t.touchAll mask addr) := by
  unfold State.touchAll
  exact .foldl h fun _ _ h => h.touch

theorem State.Accesses.setTel {v : Tel} (h : s.Accesses lo t) : s.Accesses lo (t.setTel v) := by
  unfold State.setTel
  exact h.rest

theorem State.Accesses.coPut {i off : Nat} {b : Bytes} (h : s.Accesses lo t) : s.Accesses lo (t.coPut i off b) := by
  unfold State.coPut
  exact h.setTel.setF

theorem State.Accesses.coStop {i : Nat} (h : s.Accesses lo t) : s.Accesses lo (t.coStop i) := by
  unfold State.coStop
  exact h.setTel.raise

theorem State.Accesses.coTake {off len : Nat} (h : s.Accesses lo t) (hu : t.coTake off len = some u) : s.Accesses lo u := by
  have ht : ∀ {c : Prop} [Decidable c] {x : Tel}, (if c then some (t.setTel x) else none) = some u → s.Accesses lo u := by
    intro c _ x hu
    split at hu
    · cases hu
      exact h.setTel
    · cases hu
  exact ht hu

theorem State.Accesses.coStore {i off : Nat} {b : Bytes} (h : s.Accesses lo t) : s.Accesses lo (t.coStore i off b) := by
  unfold State.coStore
  split
  next hu => exact (h.coTake hu).coPut
  · exact h.count.raiseLimited

theorem State.Accesses.coWrite {user : Nat} {b : Bytes} (h : s.Accesses lo t) : s.Accesses lo (t.coWrite user b) := by
  unfold State.coWrite
  split
  · exact h
  · exact .ite h.coStore (.ite h.flag.coStop (.ite h.flag.coStore h))

theorem State.Accesses.header {p : Pkt} (h : s.Accesses lo t) : s.Accesses lo (t.header p).2 := by
  unfold State.header
  dsimp only
  exact h.freeBelow

theorem State.Accesses.trcEnd (h : s.Accesses lo t) : s.Accesses lo t.trcEnd := by
  unfold State.trcEnd
  dsimp only
  split
  · exact h.setTel.coStop
  · exact h.setTel

theorem State.Accesses.probeTrace {k : Nat} {p : Pkt} (h : s.Accesses lo t) : s.Accesses lo (t.probeTrace k p) := by
  unfold State.probeTrace
  dsimp only
  split
  · exact h
  · split
    · exact .ite h.touchAll.header.setTel.coWrite.trcEnd h.touchAll.header.setTel.coWrite.setTel
    · exact h.touchAll.header.setTel.coWrite

theorem State.Accesses.probeTrigger {k : Nat} (h : s.Accesses lo t) : s.Accesses lo (t.probeTrigger k) := by
  unfold State.probeTrigger
  exact .ite (.ite h h.setTel.emit) (.ite h (.ite h.trcEnd h.setTel))

theorem State.Accesses.probeHit {k : Nat} {p : Pkt} (h : s.Accesses lo t) : s.Accesses lo (t.probeHit k p) := by
  unfold State.probeHit
  exact .ite (.probeTrigger (.ite (.probeTrace (.ite h.count.count h)) (.ite h.count.count h)))
    (.ite (.probeTrace (.ite h.count.count h)) (.ite h.count.count h))

theorem State.Accesses.observe {p : Pkt} (h : s.Accesses lo t) : s.Accesses lo (t.observe p) := by
  unfold State.observe
  exact .foldl h fun _ _ h => .ite h.probeHit h

theorem State.Accesses.setGln {m : Nat} {v : Gln} (h : s.Accesses lo t) : s.Accesses lo (t.setGln m v) := by
  unfold State.setGln
  exact h.setTel

theorem State.Accesses.glnSample {m v0 : Nat} (h : s.Accesses lo t) : s.Accesses lo (t.glnSample m v0) := by
  unfold State.glnSample
  exact h.setF.setF.count.count.setGln

theorem State.Accesses.glnLatency {port cls : Nat} {write : Bool} {status since : Nat}
    (h : s.Accesses lo t) : s.Accesses lo (t.glnLatency port cls write status since) := by
  unfold State.glnLatency
  exact .ite h (.foldl h fun _ _ h => .ite (.ite h.setGln.glnSample h.setGln) h)

theorem State.Accesses.redFlags {n g fl nans : Nat} (h : s.Accesses lo t) : s.Accesses lo (t.redFlags n g fl nans) := by
  unfold State.redFlags
  exact .ite h.setF.count.raise h.setF.count

theorem State.Accesses.reduceLine {k pa : Nat} {b : Bytes} {pois : Bool} {errs : List LineErr} {cls : Nat}
    (h : s.Accesses lo t) (hl : lo ≤ pa / 64 * 64) : s.Accesses lo (t.reduceLine k pa b pois errs cls) := by
  unfold State.reduceLine
  dsimp only
  exact .ite h.combClose.count (.ite h.combClose.setPoison.llcPut.count
    (.ite h.combClose.readLine.count (h.combClose.readLine.storeIn hl).llcPut.redFlags.count))

theorem State.Accesses.freshTag {port : Nat} (h : s.Accesses lo t) : s.Accesses lo (t.freshTag port).2 := by
  unfold State.freshTag
  dsimp only
  exact h.freeBelow

theorem State.Accesses.stallOn {l : List Want} (h : s.Accesses lo t) : s.Accesses lo (t.stallOn l) := by
  unfold State.stallOn
  exact h.rest

theorem State.Accesses.useWindow {r : UnitReq} (h : s.Accesses lo t) : s.Accesses lo (t.useWindow r) := by
  unfold State.useWindow
  exact h.setQport.rest

theorem State.Accesses.unitIssue {src : Src} {pa len : Nat} {write : Bool}
    (h : s.Accesses lo t) : s.Accesses lo (t.unitIssue src pa len write).2 := by
  unfold State.unitIssue
  dsimp only
  split
  · exact .mk_snd h.freshTag
  · split
    · exact .mk_snd h.freshTag.rest.observe
    · split
      · exact .mk_snd h.freshTag.stallOn
      · exact .mk_snd h.freshTag.useWindow.observe

theorem State.Accesses.timedOut {port id pa cls : Nat} (h : s.Accesses lo t) : s.Accesses lo (t.timedOut port id pa cls) := by
  unfold State.timedOut
  exact h.count.flag.raiseLimited

theorem State.Accesses.unitDone {r : UnitReq} {st : Nat} {bad : List Nat} {own : Bool} {since : Option Nat}
    (h : s.Accesses lo t) : s.Accesses lo (t.unitDone r st bad own since) := by
  unfold State.unitDone
  exact .ite h.timedOut h.observe.glnLatency.setQport

theorem State.Accesses.farTimeout {pa : Nat} {write : Bool} (h : s.Accesses lo t) : s.Accesses lo (t.farTimeout pa write) := by
  unfold State.farTimeout
  exact h.timedOut

theorem State.Accesses.farAsk {n line : Nat} {write : Bool} (h : s.Accesses lo t) : s.Accesses lo (t.farAsk n line write) := by
  unfold State.farAsk
  dsimp only
  exact h.freshTag.setQport.observe.unitDone

theorem State.Accesses.farAsks {pa n : Nat} {errs : List LineErr} {write : Bool}
    (h : s.Accesses lo t) : s.Accesses lo (t.farAsks pa n errs write) := by
  unfold State.farAsks
  exact .foldl h fun _ _ h => h.farAsk

theorem State.Accesses.pageRead {pa n : Nat} {errs : List LineErr} {cls : Nat} {skip : List Nat} {port : Nat} {tag : Nat}
    (h : s.Accesses lo t) : s.Accesses lo (t.pageRead pa n errs cls skip port tag).2.2.2 := by
  unfold State.pageRead
  dsimp only
  split
  · exact h
  · split
    · exact h
    · split
      · exact h.farTimeout
      · exact h.farAsks.combMemRead

theorem State.Accesses.pageWrite {k pa : Nat} {b : Bytes} {pois : Nat} {errs : List LineErr} {cls : Nat}
    (h : s.Accesses lo t) (hl : lo ≤ pa / 64 * 64) : s.Accesses lo (t.pageWrite k pa b pois errs cls).2 := by
  have hr := List.foldlRecOn (motive := fun t => s.Accesses lo t) ((splitLines (b.length / 64 + 2) pa b).zipIdx)
    (fun s x => s.reduceLine k x.1.1 x.1.2 (bit pois x.2) errs cls) (h.farAsks (pa := pa) (n := b.length) (errs := errs) (write := true))
    fun t ht x hx => ht.reduceLine (hl.trans (splitLines_line (List.fst_mem_of_mem_zipIdx hx)))
  unfold State.pageWrite
  exact .ite_snd h (.ite_snd (.ite h h.count) (.ite_snd h.farTimeout (.ite_snd (h.farAsks.memWrite hl) hr)))

theorem State.Accesses.siteAsk {n id tag urg cls pa len : Nat} {data : Option Bytes} {poison : Nat}
    (h : s.Accesses lo t) : s.Accesses lo (t.siteAsk n id tag urg cls pa len data poison) := by
  unfold State.siteAsk
  exact h.siteSend

theorem State.Accesses.unmappedAt {port a : Nat} (h : s.Accesses lo t) : s.Accesses lo (t.unmappedAt port a) := by
  unfold State.unmappedAt
  exact .ite h.flag.count h

theorem State.Accesses.postWrite {r : UnitReq} {pa : Nat} {b : Bytes} {p : Nat}
    (h : s.Accesses lo t) : s.Accesses lo (t.postWrite r pa b p) := by
  unfold State.postWrite
  exact .ite h.rest (.rest (.tracker (.foldl h.rest fun _ _ h => h.combClose)))

theorem State.Accesses.unitMemRead {r : UnitReq} {pa : Nat} {errs : List LineErr}
    (h : s.Accesses 0 t) : s.Accesses 0 (t.unitMemRead r pa errs).2.2.2 := by
  unfold State.unitMemRead
  dsimp only
  split
  · exact h
  · split
    · exact h
    · split
      · exact h.stallOn
      · split
        · exact h
        · split
          · exact .pageRead (.foldl h fun _ _ h => h.recallRead)
          · exact .foldl_snd h fun _ _ h => h.pageRead

theorem State.Accesses.unitMemWrite {r : UnitReq} {k pa : Nat} {b : Bytes} {p : Nat}
    (h : s.Accesses lo t) (hl : lo ≤ pa / 64 * 64) : s.Accesses lo (t.unitMemWrite r k pa b p).2 := by
  unfold State.unitMemWrite
  dsimp only
  split
  · exact h
  · exact .ite_snd h (.ite_snd h.stallOn (.ite_snd h (.ite_snd h.postWrite (h.rest.pageWrite hl))))

theorem State.Accesses.unitMemDone {r : UnitReq} {e : UnitEnd} {bad : List Nat}
    (h : s.Accesses lo t) : s.Accesses lo (t.unitMemDone r e bad) := by
  unfold State.unitMemDone
  split
  · exact h.unitDone
  · exact h.unitDone
  · exact h

theorem State.Accesses.freeFill {b : Bytes} {k : Nat} (h : s.Accesses lo t) : s.Accesses lo (t.freeFill b k).2 := by
  unfold State.freeFill
  exact h.rest

theorem State.Accesses.unitRead1 {src : Src} {a k : Nat} {errs : List LineErr} {site : SiteAns}
    (h : s.Accesses 0 t) : s.Accesses 0 (t.unitRead1 src a k errs site).2 := by
  unfold State.unitRead1
  dsimp only
  split
  · exact .mk_snd h.unmappedAt
  · split
    · exact .mk_snd h.unitIssue.unitMemRead.unitMemDone
    · exact .mk_snd h.unitIssue.unitMemRead.unitMemDone
    · split
      · exact .mk_snd h.unitIssue
      · split
        · exact .mk_snd h.unitIssue.unitDone
        · split
          · exact .mk_snd h.unitIssue.unitDone
          · exact .mk_snd h.unitIssue.freeFill.siteAsk.unitDone
    · split
      · exact h
      · exact .mk_snd h.unitIssue.unitDone

theorem State.Accesses.unitRead {errs : List LineErr} {src : Src} {a a1 a2 : Nat} {a3 : SiteAns}
    (h : s.Accesses 0 t) : s.Accesses 0 (State.unitRead errs src a a1 a2 a3 t).2 := by
  induction a generalizing a1 a2 a3 t with
  | zero => exact h
  | succ n ih =>
    unfold State.unitRead
    dsimp only
    exact .ite_snd h (ih h.unitRead1)

theorem State.Accesses.rd {src : Src} {a n : Nat} {site : SiteAns}
    (h : s.Accesses 0 t) : s.Accesses 0 (t.rd src a n site).2 := by
  unfold State.rd
  exact h.unitRead

/-- A write starts at or above address `lo` of stacked memory, without address translation, or `lo` is 0. -/
def writesFrom (lo : Nat) (src : Src) (a n : Nat) : Prop := lo = 0 ∨ (src.plot = none ∧ lo ≤ a / 64 * 64 ∧ a + n ≤ memSize)

theorem writesFrom_off {src : Src} {a n pa off : Nat} (h : writesFrom lo src a n) (hn : n ≠ 0) (ht : t.translate src.plot a true = some pa)
    (hp : target pa = .mem off ∨ ∃ i, target pa = .red i off) : lo ≤ off / 64 * 64 := by
  obtain rfl | ⟨hplot, hl, hm⟩ := h
  · exact Nat.zero_le _
  have ha : a < 2 ^ 39 := by
    unfold memSize at hm
    omega
  have hta : target a = .mem a := by
    unfold target memSize
    have h0 : a / 2 ^ 48 = 0 := Nat.div_eq_of_lt (by omega)
    have h1 : a % 2 ^ 48 = a := Nat.mod_eq_of_lt (by omega)
    simp only [h0, h1]
    rw [if_neg (by omega), if_pos trivial, if_pos ha]
  rw [hplot] at ht
  simp only [State.translate, hta, Option.some.injEq] at ht
  subst ht
  rw [hta] at hp
  obtain hp | ⟨i, hp⟩ := hp
  · cases hp
    exact hl
  · cases hp

theorem State.Accesses.unitWrite1 {src : Src} {pois : Bool} {run : Option RunRef} {a : Nat} {b : Bytes}
    (h : s.Accesses lo t) (hw : writesFrom lo src a b.length) (hb : b.length ≠ 0) : s.Accesses lo (t.unitWrite1 src pois run a b).2 := by
  unfold State.unitWrite1
  dsimp only
  split
  · exact .mk_snd h.unmappedAt
  next ht =>
    split
    next hp => exact .mk_snd (h.unitIssue.unitMemWrite (writesFrom_off hw hb ht (.inl hp))).unitMemDone
    next hp => exact .mk_snd (h.unitIssue.unitMemWrite (writesFrom_off hw hb ht (.inr ⟨_, hp⟩))).unitMemDone
    · split
      · exact .mk_snd h.unitIssue
      · split
        · exact .mk_snd h.unitIssue.rest
        · split
          · exact .mk_snd h.unitIssue.unitDone
          · exact .mk_snd h.unitIssue.rest.siteAsk
    · split
      · exact h
      · exact .mk_snd h.unitIssue.unitDone

theorem reqLen_pos (a : Nat) {n : Nat} (h : n ≠ 0) : reqLen a n ≠ 0 := by
  unfold reqLen
  omega

theorem State.Accesses.unitWrite {src : Src} {pois : Bool} {run : Option RunRef} {fuel a : Nat} {b : Bytes}
    (h : s.Accesses lo t) (hw : writesFrom lo src a b.length) : s.Accesses lo (State.unitWrite src pois run fuel a b t).2.2 := by
  induction fuel generalizing a b t with
  | zero => exact h
  | succ n ih =>
    cases b with
    | nil => exact h
    | cons x l =>
      have hk := reqLen_pos a (n := (x :: l).length) (by simp)
      have hw1 : writesFrom lo src a ((x :: l).take (reqLen a (x :: l).length)).length := by
        obtain hw | ⟨h1, h2, h3⟩ := hw
        · exact .inl hw
        · exact .inr ⟨h1, h2, le_trans (Nat.add_le_add_left (by rw [List.length_take]; exact Nat.min_le_right _ _) _) h3⟩
      have hw2 : writesFrom lo src (a + reqLen a (x :: l).length) ((x :: l).drop (reqLen a (x :: l).length)).length := by
        have hle : reqLen a (x :: l).length ≤ (x :: l).length := Nat.min_le_left _ _
        rw [List.length_drop]
        obtain hw | ⟨h1, h2, h3⟩ := hw
        · exact .inl hw
        · exact .inr ⟨h1, by omega, by omega⟩
      have h1 := h.unitWrite1 (pois := pois) (run := run) hw1 (by rw [List.length_take]; simp; omega)
      unfold State.unitWrite
      dsimp only
      exact .ite_snd_snd (ih h1 hw2) h1

theorem State.Accesses.wr {src : Src} {a : Nat} {b : Bytes} {pois : Bool} {run : Option RunRef}
    (h : s.Accesses lo t) (hw : writesFrom lo src a b.length := by exact .inl rfl) : s.Accesses lo (t.wr src a b pois run).2.2 := by
  unfold State.wr
  exact h.unitWrite hw

theorem State.Accesses.resuming {p : Parked} (h : s.Accesses lo t) : s.Accesses lo (t.resuming p) := by
  unfold State.resuming
  exact h.rest

end Sys2Proof.Machine
end

section
/-! How a work order starts (04 R134-R142, R169). -/

namespace Sys2Proof.Machine

variable {s t : State}

/-! ### What reading orders ahead leaves -/

theorem State.Accesses.readSlot {e q i : Nat} (h : s.Accesses 0 t) : s.Accesses 0 (t.readSlot e q i).2 := by
  unfold State.readSlot
  exact h.rd

/-- Reading an order ahead is a read of its slot, noted in the engine, or nothing. -/
theorem State.readAhead_cases (e q : Nat) (s : State) (i : Nat) :
    State.readAhead e q s i = s ∨ ∃ k g, State.readAhead e q s i = (s.readSlot e q k).2.setEng e g := by
  unfold State.readAhead
  dsimp only
  split
  · exact .inl rfl
  · split
    · exact .inl rfl
    · exact .inr ⟨_, _, rfl⟩

theorem State.readAhead_waits (e q : Nat) (s : State) (i : Nat) : (State.readAhead e q s i).waits = s.waits := by
  obtain h | ⟨k, g, h⟩ := State.readAhead_cases e q s i
  · rw [h]
  · rw [h, State.waits_setEng]
    exact (State.Accesses.refl s (lo := 0)).readSlot.waits

theorem State.readAhead_f (e q : Nat) (s : State) (i : Nat) {f : Fid} (hf : accessFid f = false) (a b : Nat) :
    (State.readAhead e q s i).f f a b = s.f f a b := by
  obtain h | ⟨k, g, h⟩ := State.readAhead_cases e q s i
  · rw [h]
  · rw [h, State.f_setEng]
    exact (State.Accesses.refl s (lo := 0)).readSlot.fld f a b hf

theorem State.beginRun_waits (s : State) (e : Nat) (r : Run) : (s.beginRun e r).waits = s.waits := by
  unfold State.beginRun
  dsimp only
  rw [apply_ite State.waits, State.waits_setF, State.waits_setF, State.waits_setEng, ite_self]

theorem State.beginRun_qhead (s : State) (e : Nat) (r : Run) : (s.beginRun e r).qhead e r.q = (r.idx + 1) % 2 ^ 32 := by
  unfold State.beginRun State.qhead
  dsimp only
  generalize State.setEng s e _ = s1
  split
  · exact (State.f_setF_fid _ 0 (by decide)).trans (State.f_setF_same ..)
  · rw [State.f_setF_same]

theorem State.startRun_waits (s : State) (e : Nat) (r : Run) : (s.startRun e r).waits = s.waits :=
  (foldl_leaves State.waits _ _ (State.readAhead_waits e r.q) _).trans (s.beginRun_waits e r)

/-- HEAD moves past an order that starts. -/
theorem State.startRun_qhead (s : State) (e : Nat) (r : Run) : (s.startRun e r).qhead e r.q = (r.idx + 1) % 2 ^ 32 :=
  (foldl_leaves (fun s => s.qhead e r.q) _ _ (fun s i => State.readAhead_f e r.q s i rfl e r.q) _).trans (s.beginRun_qhead e r)

/-! ### An order's place -/

/-- Queue and index of an order. -/
def Run.place (r : Run) : Nat × Nat := (r.q, r.idx)

theorem Run.place_gather (r : Run) (l : List (Nat × Piece)) : (r.gather l).place = r.place := rfl

theorem Run.place_settle (r : Run) (grp k : Nat) (stop : Option Run) (ps : List (Option Piece))
    (h : ∀ x, stop = some x → x.place = r.place) : (r.settle grp k stop ps).1.place = r.place := by
  unfold Run.settle
  dsimp only
  generalize (if r.flagBit 1 = true then trapPiece grp k ps else none) = trap
  cases trap <;> cases stop
  case none.none | some.none => rfl
  case none.some x => exact h x rfl
  case some.some i x =>
    dsimp only
    generalize (if r.flagBit 1 = true then trapLimit grp ps else ps.length) = lim
    split
    · exact h x rfl
    · rfl

theorem bodyMatrix_place (e : Nat) (acc : List Nat) (w : Wo) (r : Run) (s : State) : (bodyMatrix e acc w r s).1.place = r.place := by
  unfold bodyMatrix
  dsimp only
  split <;> refine Run.place_settle _ _ _ _ _ fun x hx => ?_
  all_goals
    obtain ⟨t, -, rfl⟩ := Option.map_eq_some_iff.mp hx
    split <;> rfl

theorem openOuts_place (x : Run × State) (ins : List Rows) : (State.openOuts x ins).1.place = x.1.place := by
  unfold State.openOuts
  dsimp only
  split <;> rfl

/-! ### Rows of orders -/

/-- What an order comes to as it starts with the outcome of its opcode. -/
def State.begun (s1 : State) (e q : Nat) (body : Body) (w : Wo) (r : Run) : State :=
  let x := State.openOuts (body w r (s1.starts e q w)) w.inputs
  x.2.startRun e x.1

/-- A row of an order that may run comes to what the order comes to. -/
theorem orderRow_comes {c : Instr} {e q : Nat} {f : State → State} {s t : State} (hu : s.unheld (.queue e q))
    (hrow : exec c s = orderRow c e q f s) (hf : f s.arm = t) : s.comes c c (.queue e q) t :=
  State.comes_of (hrow.trans (parkIf_runs hu (congrArg Host.Outcome.next hf)))

theorem State.order_begun {s s1 : State} {e q opc : Nat} {w : Wo} (body : Body) (h : s.arm.mayStart e q opc w s1) :
    s.arm.order e q opc body = s1.begun e q body w (s.freshRun e q w) :=
  State.order_starts body h

/-- A row that starts its order comes to what the order's opcode gives. -/
theorem orderGives_of_order {c : Instr} {e q opc : Nat} {body : Body}
    (hrow : ∀ s, exec c s = orderRow c e q (fun s => s.order e q opc body) s) : orderGives c e q opc body :=
  fun s _ _ hu h => (congrArg (s.comes c c (.queue e q)) (id_eq _)).mpr (orderRow_comes hu (hrow s) (State.order_begun body h))

theorem movementOrdersStart_holds : movementOrdersStart := by
  intro e q site tm
  refine ⟨?_, ?_, ?_, ?_, ?_, ?_, ?_, ?_, ?_⟩
  all_goals exact orderGives_of_order fun _ => rfl

theorem succ_mod_ne (n : Nat) : (n + 1) % 2 ^ 32 ≠ n := by omega

/-- The matrix order has started, so its residue failures are handled. -/
theorem State.matrixOrder_starts {s s1 : State} {e q opc : Nat} {cols : List (Nat × Nat)} {tm : List TmErr} {w : Wo}
    (h : s.mayStart e q opc w s1) :
    let x := State.openOuts (withTm e tm (bodyMatrix e ((tm.filter TmErr.bad).filterMap TmErr.acc)) w (s.freshRun e q w)
      (s1.starts e q w)) w.inputs
    s.matrixOrder e q opc cols tm = (x.2.startRun e x.1).residue e cols := by
  intro x
  have hp : x.1.place = (q, s.qhead e q) := (openOuts_place _ _).trans (bodyMatrix_place _ _ _ _ _)
  obtain ⟨hq, hi⟩ := Prod.mk.inj hp
  have hh := State.startRun_qhead x.2 e x.1
  rw [hq, hi] at hh
  unfold State.matrixOrder
  dsimp only
  rw [State.order_starts _ h]
  exact if_neg (by rw [show (State.startRun _ e _).qhead e q = _ from hh]; exact succ_mod_ne _)

theorem orderGives_of_matrix {c : Instr} {e q opc : Nat} {cols : List (Nat × Nat)} {tm : List TmErr}
    (hrow : ∀ s, exec c s = orderRow c e q (fun s => s.matrixOrder e q opc cols tm) s) :
    orderGives c e q opc (withTm e tm (bodyMatrix e ((tm.filter TmErr.bad).filterMap TmErr.acc))) (fun s => s.residue e cols) :=
  fun s _ _ hu h => orderRow_comes hu (hrow s) (State.matrixOrder_starts h)

theorem matrixOrdersStart_holds : matrixOrdersStart := by
  intro e q cols tm
  exact ⟨orderGives_of_matrix fun _ => rfl, orderGives_of_matrix fun _ => rfl, orderGives_of_matrix fun _ => rfl⟩

/-! ### The front end's orders -/

/-- An order of the front end claims no scalar unit and uses no resource. -/
theorem Wo.frontEnd_free {w : Wo} (h : w.op = opNop ∨ w.op = opWait ∨ w.op = opSignal) : w.claims = false ∧ w.resources = [] := by
  have hc : w.claims = false := by
    unfold Wo.claims Wo.indexed
    obtain h | h | h := h <;> rw [h] <;> rfl
  refine ⟨hc, ?_⟩
  unfold Wo.resources Wo.matrix Wo.frontEnd
  obtain h | h | h := h <;> rw [h] <;> rfl

theorem openOuts_none {r : Run} {s : State} (ins : List Rows) (h : r.outs = []) : State.openOuts (r, s) ins = (r, s) := by
  unfold State.openOuts
  dsimp only
  rw [h]
  rfl

theorem State.frontEnd_starts {s s1 : State} {e q opc : Nat} {w : Wo} (body : Body) (h : s.mayStart e q opc w s1)
    (hop : opc = opNop ∨ opc = opWait ∨ opc = opSignal) (hb : ∀ r s, (body w r s).1.outs = r.outs) :
    s.order e q opc body = (body w (s.freshRun e q w) s1).2.startRun e (body w (s.freshRun e q w) s1).1 := by
  have hw : w.op = opc := by
    obtain ⟨-, -, -, -, hw, -⟩ := h
    exact hw
  obtain ⟨hc, -⟩ := Wo.frontEnd_free (hw.symm ▸ hop)
  have hs : s1.starts e q w = s1 := by
    unfold State.starts
    rw [hc]
    rfl
  rw [State.order_starts body h, hs, openOuts_none w.inputs ((hb _ _).trans rfl)]

theorem frontEndOrdersStart_holds : frontEndOrdersStart := by
  intro e q s w s1 hu
  refine ⟨fun h => ?_, fun h => ?_, fun h => ?_⟩
  · exact orderRow_comes (f := fun s => s.order e q _ bodyNop) hu rfl (State.frontEnd_starts bodyNop h (.inl rfl) fun _ _ => rfl)
  · exact orderRow_comes (f := fun s => s.order e q _ bodyNop) hu rfl (State.frontEnd_starts bodyNop h (.inr (.inr rfl)) fun _ _ => rfl)
  · refine orderRow_comes (f := fun s => match (s.order e q opWait (bodyWait e)).waits.getLast? with
      | some w => (s.order e q opWait (bodyWait e)).judge w.tally
      | none => s.order e q opWait (bodyWait e)) hu rfl ?_
    dsimp only
    rw [State.frontEnd_starts (bodyWait e) h (.inr (.inl rfl)) fun _ _ => rfl, State.startRun_waits]
    unfold bodyWait
    dsimp only
    rw [List.getLast?_concat]
    rfl

/-- Settles O20. -/
theorem ordersStart : Obligations.OrdersStart := ⟨movementOrdersStart_holds, matrixOrdersStart_holds, frontEndOrdersStart_holds⟩

end Sys2Proof.Machine
end

section
/-! How a work order completes: its writes, its record, and what COPY moves (04 R130, R136, R151, R173-R177). -/

namespace Sys2Proof.Machine

/-! ### Completing an order -/

/-- What WORK_ORDER_COMPLETE does once no earlier command of its queue waits. -/
def finishOrder (e q : Nat) (s : State) : Res :=
  let g := s.eng e
  match g.finishing q with
  | some r =>
    if !g.lets r then .next (s.completeFirst e q)
    else
      let s1 := if g.halted && r.res.any (fun x => decide (x ≤ 4)) && r.op != opLane then
          s.setEng e { g with stepMask := setBit g.stepMask 64 false } else s
      .next ((s1.performRun e r).completeFirst e q)
  | none => .next (s.completeFirst e q)

theorem execWorkOrderComplete_eq (e q : Nat) (s : State) :
    exec (.workOrderComplete e q) s = parkIf (.workOrderComplete e q) (ParkKey.queue e q).no (finishOrder e q) s := rfl

/-- The next order of a queue whose outcome stands makes its writes, and the oldest one completes. -/
theorem execWorkOrderComplete_finishing {s : State} {e q : Nat} {r : Run} (hu : s.unheld (.queue e q))
    (hh : (s.eng e).halted = false) (hr : (s.eng e).finishing q = some r) :
    s.comes (.workOrderComplete e q) (.workOrderComplete e q) (.queue e q) ((s.arm.performRun e r).completeFirst e q) := by
  refine State.comesTo_of (execWorkOrderComplete_eq e q s) ?_ hu
  have hg : s.arm.eng e = s.eng e := rfl
  unfold finishOrder
  have hl : (s.eng e).lets r = true := by
    unfold Eng.lets
    rw [hh]
    rfl
  dsimp only
  rw [hg, hr]
  dsimp only
  rw [hl, hh]
  rfl

theorem execWorkOrderComplete_idle {s : State} {e q : Nat} (hu : s.unheld (.queue e q)) (hr : (s.eng e).finishing q = none) :
    s.comes (.workOrderComplete e q) (.workOrderComplete e q) (.queue e q) (s.arm.completeFirst e q) := by
  refine State.comesTo_of (execWorkOrderComplete_eq e q s) ?_ hu
  have hg : s.arm.eng e = s.eng e := rfl
  unfold finishOrder
  dsimp only
  rw [hg, hr]

theorem State.completeFirst_of_finished {s : State} {e q : Nat} {r : Run} (hr : (s.eng e).first q = some r) (hd : r.done = true)
    (hf : r.finished = true) (hw : s.runWaits e q r.idx = false) :
    let w := Wo.parse r.order
    s.completeFirst e q = ((if r.op = opSignal ∧ r.status = csOk then
      s.signalTally (w.tally (s.plotOfEngine e)) (w.arg 92 4) else s).finishRun e r).engineQuiet e := by
  unfold State.completeFirst
  rw [hr]
  dsimp only
  rw [hd, hf, hw]
  rfl

/-- Settles O22. -/
theorem oldestOrderCompletes : Obligations.OldestOrderCompletes := fun _ _ _ hu =>
  ⟨fun _ hh hr => execWorkOrderComplete_finishing hu hh hr, fun hr => execWorkOrderComplete_idle hu hr,
    fun _ hr hd hf hw => State.completeFirst_of_finished hr hd hf hw⟩

/-! ### Slices of byte strings -/

theorem slice_length (b : Bytes) (o n : Nat) : (slice b o n).length = n := by
  unfold slice
  simp only [List.length_append, List.length_replicate, List.length_take, List.length_drop]
  omega

theorem slice_append_right (a b : Bytes) (o n : Nat) : slice (a ++ b) (a.length + o) n = slice b o n := by
  unfold slice
  rw [List.drop_length_add_append]

theorem slice_append_left {a : Bytes} (b : Bytes) {n : Nat} (h : a.length = n) : slice (a ++ b) 0 n = a := by
  subst h
  unfold slice
  simp

theorem leNat_leBytes (n v : Nat) : leNat (leBytes n v) = v % 256 ^ n := by
  induction n generalizing v with
  | zero => simp [leBytes, leNat, Nat.mod_one]
  | succ n ih =>
    calc leNat (leBytes (n + 1) v) = v % 256 + 256 * (v / 256 % 256 ^ n) := by rw [leBytes, leNat, ih, BitVec.toNat_ofNat]
      _ = v % (256 * 256 ^ n) := Nat.mod_mul.symm
      _ = v % 256 ^ (n + 1) := by rw [Nat.pow_succ']

/-- A field of a byte string after a prefix of known length. -/
theorem leAt_field {a b : Bytes} {o n v : Nat} (h : a.length = o) : leAt (a ++ (leBytes n v ++ b)) o n = v % 256 ^ n := by
  subst h
  unfold leAt
  rw [← Nat.add_zero a.length, slice_append_right, slice_append_left _ (leBytes_length n v), leNat_leBytes]

theorem slice_field {a b c : Bytes} {o n : Nat} (h : a.length = o) (hb : b.length = n) : slice (a ++ (b ++ c)) o n = b := by
  subst h
  rw [← Nat.add_zero a.length, slice_append_right, slice_append_left _ hb]

/-! ### The completion record -/

/-- The record's bytes up to its index. -/
def Run.recordHead (r : Run) (phase : Nat) : Bytes :=
  leBytes 1 r.status ++ (leBytes 1 (r.flags % 16 + 128 * phase) ++ leBytes 2 (min r.nans 65535))

/-- The record's bytes between the order's tag and its opcode. -/
def Run.recordAux (r : Run) (e : Nat) : Bytes := leBytes 4 r.aux0 ++ (leBytes 4 r.aux1 ++ leBytes 1 (r.q + 16 * e))

def Run.recordEnd (r : Run) (cycles : Nat) : Bytes := leBytes 2 r.fault ++ leBytes 4 (min cycles 0xFFFFFFFF)

theorem Run.record_eq (r : Run) (e phase cycles : Nat) : r.record e phase cycles =
    r.recordHead phase ++ (leBytes 4 r.idx ++ (slice r.order 8 8 ++ (r.recordAux e ++ (slice r.order 0 1 ++ r.recordEnd cycles)))) := by
  simp only [Run.record, Run.recordHead, Run.recordAux, Run.recordEnd, List.append_assoc]

theorem Run.recordHead_length (r : Run) (phase : Nat) : (r.recordHead phase).length = 4 := by
  simp only [Run.recordHead, List.length_append, leBytes_length]

theorem Run.recordAux_length (r : Run) (e : Nat) : (r.recordAux e).length = 9 := by
  simp only [Run.recordAux, List.length_append, leBytes_length]

theorem Run.recordEnd_length (r : Run) (cycles : Nat) : (r.recordEnd cycles).length = 6 := by
  simp only [Run.recordEnd, List.length_append, leBytes_length]

/-- The byte that holds a record's flags and phase. -/
theorem Run.record_flags (r : Run) (e cycles : Nat) {phase : Nat} (h : phase < 2) :
    leAt (r.record e phase cycles) 1 1 = r.flags % 16 + 128 * phase := by
  rw [Run.record_eq, Run.recordHead, List.append_assoc, List.append_assoc, leAt_field (leBytes_length 1 r.status)]
  omega

theorem Run.record_layout (r : Run) (e cycles : Nat) {phase : Nat} (h : phase < 2) :
    let b := r.record e phase cycles
    b.length = 32 ∧ leAt b 0 1 = r.status % 256 ∧ bits (leAt b 1 1) 7 7 = phase ∧ bits (leAt b 1 1) 3 0 = r.flags % 16
      ∧ leAt b 4 4 = r.idx % 2 ^ 32 ∧ slice b 8 8 = slice r.order 8 8 ∧ slice b 25 1 = slice r.order 0 1 := by
  intro b
  have hflags : leAt b 1 1 = r.flags % 16 + 128 * phase := r.record_flags e cycles h
  refine ⟨?_, ?_, ?_, ?_, ?_, ?_, ?_⟩
  · rw [show b = _ from r.record_eq e phase cycles]
    simp only [List.length_append, leBytes_length, slice_length, Run.recordHead_length, Run.recordAux_length, Run.recordEnd_length]
  · rw [show b = _ from r.record_eq e phase cycles, Run.recordHead, List.append_assoc]
    exact leAt_field (a := []) rfl
  · rw [hflags]
    unfold bits
    omega
  · rw [hflags]
    unfold bits
    omega
  · rw [show b = _ from r.record_eq e phase cycles, leAt_field (r.recordHead_length phase)]
    rfl
  · rw [show b = _ from r.record_eq e phase cycles, ← List.append_assoc]
    exact slice_field (by simp only [List.length_append, leBytes_length, Run.recordHead_length]) (slice_length ..)
  · rw [show b = _ from r.record_eq e phase cycles, ← List.append_assoc, ← List.append_assoc, ← List.append_assoc]
    exact slice_field (by simp only [List.length_append, leBytes_length, slice_length, Run.recordHead_length, Run.recordAux_length])
      (slice_length ..)

/-- Settles O23. -/
theorem recordFollowsItsOrder : Obligations.RecordFollowsItsOrder :=
  ⟨fun _ _ _ => State.f_setF_same .., fun r e _ cycles h _ => r.record_layout e cycles h⟩

/-! ### COPY -/

/-- A clean row is written as it was read. -/
theorem rowOuts_clean (fld off : Nat) (b : Bytes) (bad : Nat → Bool) :
    rowOuts fld off b bad false = [{ addr := fld + off, bytes := b }] := rfl

theorem firstErr_clean {rs : List RowRd} (h : ∀ x ∈ rs, x.err = 0 ∧ x.bad = []) : firstErr rs = none := by
  unfold firstErr
  rw [List.find?_eq_none.mpr fun x hx => by simp [(h x hx).1]]
  rfl

theorem firstPoison_clean {rs : List RowRd} (h : ∀ x ∈ rs, x.err = 0 ∧ x.bad = []) : firstPoison rs = none := by
  unfold firstPoison
  rw [List.find?_eq_none.mpr fun x hx => by simp [(h x hx).2]]
  rfl

/-- The write of row `j` of a copy. -/
def Wo.copyOut (w : Wo) (x : RowRd × Nat) : OutWr := { addr := w.c + x.2 * w.stc, bytes := x.1.data, piece := x.2 }

/-- The writes of a copy whose rows are clean. -/
theorem copy_outs_clean (w : Wo) {rs : List RowRd} (h : ∀ x ∈ rs, x.err = 0 ∧ x.bad = []) :
    ((rs.zipIdx.filter (fun x => decide (x.1.err = 0))).map (fun x => ofPiece x.2 (rowOuts w.c (x.2 * w.stc) x.1.data
      (x.1.badAt (addrOf w.a + x.2 * w.sta)) (decide (x.1.bad ≠ []))))).flatten = rs.zipIdx.map w.copyOut := by
  have hx : ∀ x ∈ rs.zipIdx, x.1.err = 0 ∧ x.1.bad = [] := fun x hx => h _ (List.fst_mem_of_mem_zipIdx hx)
  rw [List.filter_eq_self.mpr fun x hm => decide_eq_true (hx x hm).1, List.map_congr_left (g := fun x => [w.copyOut x]) fun x hm => ?_,
    ← List.flatMap_def, ← List.map_eq_flatMap]
  rw [decide_eq_false fun hb => hb (hx x hm).2, rowOuts_clean]
  rfl

theorem copyOut_places (w : Wo) (rs : List RowRd) : (rs.zipIdx.map w.copyOut).map (fun o => (o.addr, o.bytes, o.pois))
    = (List.range rs.length).map (fun j => (w.c + j * w.stc, (rs.getD j { data := [] }).data, false)) := by
  refine List.ext_getElem (by simp) fun j h1 h2 => ?_
  have hj : j < rs.length := by simpa using h2
  simp [Wo.copyOut, hj]

/-- Settles O24. -/
theorem copyMovesRows : Obligations.CopyMovesRows := by
  intro s s1 e site w r rs hr h
  have hb : bodyCopy e site w r s = ({ r with outs := rs.zipIdx.map w.copyOut }, s1) := by
    unfold bodyCopy
    rw [hr]
    dsimp only
    rw [firstErr_clean h, firstPoison_clean h, copy_outs_clean w h]
  rw [hb]
  exact ⟨rfl, rfl, copyOut_places w rs⟩

end Sys2Proof.Machine
end

section
/-! What reports, unit states and rails leave as they were: shells of the state with the parts they change left out. -/

namespace Sys2Proof.Machine

/-! ### Another entry of a table -/

theorem State.link_setLink_ne (s : State) {n k : Nat} (v : SLink) (h : k ≠ n) : (s.setLink n v).link k = s.link k :=
  NTbl.at_put_ne _ _ _ h

theorem State.dom_setDom_ne (s : State) {n k : Nat} (v : Dom) (h : k ≠ n) : (s.setDom n v).dom k = s.dom k :=
  NTbl.at_put_ne _ _ _ h

theorem State.eng_setEng_ne (s : State) {n k : Nat} (v : Eng) (h : k ≠ n) : (s.setEng n v).eng k = s.eng k :=
  NTbl.at_put_ne _ _ _ h

theorem State.msite_setMsite_ne (s : State) {n k : Nat} (v : MSite) (h : k ≠ n) : (s.setMsite n v).msite k = s.msite k :=
  NTbl.at_put_ne _ _ _ h

theorem State.qport_setQport_ne (s : State) {n k : Nat} (v : QPort) (h : k ≠ n) : (s.setQport n v).qport k = s.qport k :=
  NTbl.at_put_ne _ _ _ h

theorem State.qp_setQp_ne (s : State) {n k : Nat} (v : Qp) (h : k ≠ n) : (s.setQp n v).qp k = s.qp k :=
  NTbl.at_put_ne _ _ _ h

/-! ### Reports -/

/-- The state without what a report changes: the log, the sessions, the alert and the register fields. -/
def State.sansEvents (s : State) : State := { s with flds := [], hl := {}, aon := {} }

/-- The state without what a change of a unit's state changes besides. -/
def State.sansUnits (s : State) : State := { s with flds := [], hl := {}, aon := {}, units := [], umGen := 0 }

/-- The state without what a change of capacity changes: reports and the mesh's plans. -/
def State.sansPlans (s : State) : State := { s with flds := [], hl := {}, aon := {}, units := [], umGen := 0, mesh := {} }

/-- The state without the pins and the voltages of the rails. -/
def State.sansRails (s : State) : State := { s with out := [], pwr := { s.pwr with volts := [] } }

theorem State.sansEvents_deliver (s : State) (e : Event) (n : Nat) : (State.deliver e s n).sansEvents = s.sansEvents := by
  unfold State.deliver
  dsimp only
  split
  · split <;> rfl
  · rfl

theorem State.sansEvents_fatal (s : State) (code d cyc : Nat) : (s.fatal code d cyc).sansEvents = s.sansEvents := by
  unfold State.fatal
  dsimp only
  split <;> rfl

theorem State.sansEvents_raise (s : State) (code sev ucls unit : Nat) (detail : List Nat) (sc : Scope) (plot : Option Nat) :
    (s.raise code sev ucls unit detail sc plot).sansEvents = s.sansEvents := by
  have hd := fun (e : Event) (t : State) => foldl_leaves State.sansEvents (State.deliver e) (List.range 16)
    (fun s n => s.sansEvents_deliver e n) t
  unfold State.raise
  dsimp only
  split
  · rw [State.sansEvents_fatal, hd]
    unfold State.sansEvents
    rfl
  · rw [hd]
    unfold State.sansEvents
    rfl

theorem State.sansUnits_of_sansEvents {s t : State} (h : s.sansEvents = t.sansEvents) : s.sansUnits = t.sansUnits := by
  change s.sansEvents.sansUnits = t.sansEvents.sansUnits
  rw [h]

theorem State.sansPlans_of_sansUnits {s t : State} (h : s.sansUnits = t.sansUnits) : s.sansPlans = t.sansPlans := by
  change s.sansUnits.sansPlans = t.sansUnits.sansPlans
  rw [h]

theorem State.sansPlans_of_sansEvents {s t : State} (h : s.sansEvents = t.sansEvents) : s.sansPlans = t.sansPlans :=
  State.sansPlans_of_sansUnits (State.sansUnits_of_sansEvents h)

/-! Parts that a shell keeps. -/

theorem State.units_of_sansEvents {s t : State} (h : s.sansEvents = t.sansEvents) : s.units = t.units := (congrArg State.units h :)

theorem State.umGen_of_sansEvents {s t : State} (h : s.sansEvents = t.sansEvents) : s.umGen = t.umGen := (congrArg State.umGen h :)

theorem State.umReady_of_sansEvents {s t : State} (h : s.sansEvents = t.sansEvents) : s.umReady = t.umReady := (congrArg State.umReady h :)

theorem State.coh_of_sansEvents {s t : State} (h : s.sansEvents = t.sansEvents) : s.coh = t.coh := (congrArg State.coh h :)

theorem State.links_of_sansEvents {s t : State} (h : s.sansEvents = t.sansEvents) : s.links = t.links := (congrArg State.links h :)

theorem State.mem_of_sansEvents {s t : State} (h : s.sansEvents = t.sansEvents) : s.mem = t.mem := (congrArg State.mem h :)

theorem State.sec_of_sansEvents {s t : State} (h : s.sansEvents = t.sansEvents) : s.sec = t.sec := (congrArg State.sec h :)

theorem State.umReady_of_sansPlans {s t : State} (h : s.sansPlans = t.sansPlans) : s.umReady = t.umReady := (congrArg State.umReady h :)

theorem State.coh_of_sansPlans {s t : State} (h : s.sansPlans = t.sansPlans) : s.coh = t.coh := (congrArg State.coh h :)

theorem State.links_of_sansPlans {s t : State} (h : s.sansPlans = t.sansPlans) : s.links = t.links := (congrArg State.links h :)

theorem State.mem_of_sansPlans {s t : State} (h : s.sansPlans = t.sansPlans) : s.mem = t.mem := (congrArg State.mem h :)

theorem State.sec_of_sansPlans {s t : State} (h : s.sansPlans = t.sansPlans) : s.sec = t.sec := (congrArg State.sec h :)

/-! ### Units and capacities -/

theorem State.sansUnits_putUnit (s : State) (c : UCls) (n : Nat) (v : CUnit) : (s.putUnit c n v).sansUnits = s.sansUnits := by
  unfold State.putUnit
  dsimp only
  split
  · rw [State.sansUnits_of_sansEvents (State.sansEvents_raise ..)]
    rfl
  · rfl

theorem State.f_putUnit (s : State) (c : UCls) (n : Nat) (v : CUnit) (f : Fid) (i j : Nat) (h : eventFid f = false) :
    (s.putUnit c n v).f f i j = s.f f i j := by
  unfold State.putUnit
  dsimp only
  split
  · exact State.f_raise _ _ _ _ _ _ _ _ f i j h
  · rfl

theorem State.sansUnits_setDeg (s : State) (c : UCls) (n : Nat) (d : Bool) : (s.setDeg c n d).sansUnits = s.sansUnits := by
  unfold State.setDeg
  split
  · exact State.sansUnits_putUnit ..
  · rfl

theorem State.f_setDeg (s : State) (c : UCls) (n : Nat) (d : Bool) (f : Fid) (i j : Nat) (h : eventFid f = false) :
    (s.setDeg c n d).f f i j = s.f f i j := by
  unfold State.setDeg
  split
  · exact State.f_putUnit _ _ _ _ f i j h
  · rfl

theorem State.sansUnits_publishClass (s : State) (c : UCls) (g : Nat → UState) : (s.publishClass c g).sansUnits = s.sansUnits :=
  foldl_leaves State.sansUnits _ _ (fun s n => by
    dsimp only
    split
    · exact State.sansUnits_putUnit ..
    · rfl) s

theorem State.f_publishClass (s : State) (c : UCls) (g : Nat → UState) (f : Fid) (i j : Nat) (h : eventFid f = false) :
    (s.publishClass c g).f f i j = s.f f i j :=
  foldl_leaves (fun s => s.f f i j) _ _ (fun s n => by
    dsimp only
    split
    · exact State.f_putUnit _ _ _ _ f i j h
    · rfl) s

theorem State.sansEvents_rescale (s : State) (qs : List QPort) : (s.rescale qs).sansEvents = s.sansEvents := by
  unfold State.rescale
  refine (foldl_leaves State.sansEvents _ _ (fun s n => ?_) _).trans (foldl_leaves State.sansEvents _ _ (fun s n => ?_) _)
  · dsimp only
    split
    · rfl
    · exact State.sansEvents_raise ..
  · dsimp only
    split
    · rfl
    · exact State.sansEvents_raise ..

/-- A field that no report and no scale factor touches. -/
def scaleFid (f : Fid) : Bool := eventFid f || decide (f = .QOS_SITE_LOAD_SCALE) || decide (f = .QOS_PORT_STATUS_SCALE)

theorem scaleFid_event {f : Fid} (h : scaleFid f = false) : eventFid f = false := by
  unfold scaleFid at h
  simp only [Bool.or_eq_false_iff] at h
  exact h.1.1

theorem State.f_rescale (s : State) (qs : List QPort) (f : Fid) (i j : Nat) (h : scaleFid f = false) :
    (s.rescale qs).f f i j = s.f f i j := by
  have he := scaleFid_event h
  unfold scaleFid at h
  simp only [Bool.or_eq_false_iff, decide_eq_false_iff_not] at h
  unfold State.rescale
  refine (foldl_leaves (fun s => s.f f i j) _ _ (fun s n => ?_) _).trans (foldl_leaves (fun s => s.f f i j) _ _ (fun s n => ?_) _)
  · dsimp only
    split
    · rfl
    · rw [State.f_raise _ _ _ _ _ _ _ _ f i j he, State.f_setF_fid _ _ h.2]
  · dsimp only
    split
    · rfl
    · rw [State.f_raise _ _ _ _ _ _ _ _ f i j he, State.f_setF_fid _ _ h.1.2]

/-- A capacity that changed alters the scale factors and the plans that wait. -/
theorem State.capChanged_eq (s : State) : ∃ (t : State) (m : Mesh), s.capChanged = { t with mesh := m } ∧ t.sansEvents = s.sansEvents
    ∧ ∀ f i j, scaleFid f = false → t.f f i j = s.f f i j := by
  have he := s.sansEvents_rescale s.qports
  have hf := s.f_rescale s.qports
  unfold State.capChanged
  generalize s.rescale s.qports = t at he hf
  exact ⟨t, _, rfl, he, hf⟩

theorem State.sansPlans_capChanged (s : State) : s.capChanged.sansPlans = s.sansPlans := by
  obtain ⟨t, m, hm, he, -⟩ := s.capChanged_eq
  rw [hm, ← State.sansPlans_of_sansEvents he]
  rfl

theorem State.units_capChanged (s : State) : s.capChanged.units = s.units := by
  obtain ⟨t, m, hm, he, -⟩ := s.capChanged_eq
  have hu := State.units_of_sansEvents he
  rw [hm]
  exact hu

theorem State.umReady_capChanged (s : State) : s.capChanged.umReady = s.umReady :=
  State.umReady_of_sansPlans s.sansPlans_capChanged

theorem State.coh_capChanged (s : State) : s.capChanged.coh = s.coh :=
  State.coh_of_sansPlans s.sansPlans_capChanged

theorem State.links_capChanged (s : State) : s.capChanged.links = s.links :=
  State.links_of_sansPlans s.sansPlans_capChanged

theorem State.umGen_capChanged (s : State) : s.capChanged.umGen = s.umGen := by
  obtain ⟨t, m, hm, he, -⟩ := s.capChanged_eq
  have hu := State.umGen_of_sansEvents he
  rw [hm]
  exact hu

theorem State.f_capChanged (s : State) (f : Fid) (i j : Nat) (h : scaleFid f = false) : s.capChanged.f f i j = s.f f i j := by
  obtain ⟨t, m, hm, -, hf⟩ := s.capChanged_eq
  rw [hm]
  exact hf f i j h

/-! ### Rails -/

theorem State.sansRails_pmbus (s : State) (r cmd v : Nat) : (s.pmbus r cmd v).sansRails = s.sansRails := rfl

theorem State.sansRails_setVolt (s : State) (r mv : Nat) : (s.setVolt r mv).sansRails = s.sansRails := rfl

theorem State.sansRails_railUp (s : State) (r : Nat) : (s.railUp r).sansRails = s.sansRails := by
  unfold State.railUp
  dsimp only
  split
  · rfl
  · split <;> rfl

theorem State.sansRails_railsFollow (s old : State) : (s.railsFollow old).sansRails = s.sansRails :=
  (foldl_leaves State.sansRails _ _ (fun s r => s.sansRails_pmbus r 1 0) _).trans
    (foldl_leaves State.sansRails _ _ (fun s r => s.sansRails_railUp r) _)

theorem State.flds_of_sansRails {s t : State} (h : s.sansRails = t.sansRails) : s.flds = t.flds := (congrArg State.flds h :)

theorem State.sec_of_sansRails {s t : State} (h : s.sansRails = t.sansRails) : s.sec = t.sec := (congrArg State.sec h :)

theorem State.mem_of_sansRails {s t : State} (h : s.sansRails = t.sansRails) : s.mem = t.mem := (congrArg State.mem h :)

theorem State.coh_of_sansRails {s t : State} (h : s.sansRails = t.sansRails) : s.coh = t.coh := (congrArg State.coh h :)

theorem State.links_of_sansRails {s t : State} (h : s.sansRails = t.sansRails) : s.links = t.links := (congrArg State.links h :)

theorem State.f_railsFollow (s old : State) (f : Fid) (i j : Nat) : (s.railsFollow old).f f i j = s.f f i j :=
  State.f_of_flds (State.flds_of_sansRails (s.sansRails_railsFollow old)) f i j

end Sys2Proof.Machine
end

section
/-! Whole resets, bring-up, and the unit map's publication (14 R513-R516, R537-R540). -/

namespace Sys2Proof.Machine

/-! ### What a whole reset keeps -/

/-- What a whole reset carries over in the domain that is always on. -/
def State.aonKept (s : State) (c : Nat) : Aon :=
  let staged := c ≠ 0 ∧ s.boot.fwState = 4
  { cause := c, count := if c = 0 then 0 else min 65535 (s.aon.count + 1), porstLow := decide (c = 0)
    strapEth := s.aon.strapEth, refLost := decide (c = 0) && s.aon.refLost
    digest := if c = 0 then [] else if staged then s.boot.stagedDigest else s.aon.digest
    svn := if c = 0 then 0 else if staged then s.boot.stagedSvn else s.aon.svn }

/-- The state that a whole reset leaves, before the straps show and the rails follow. -/
def State.cleared (s : State) (c : Nat) : State :=
  let r : State := { State.reset with
    aon := s.aonKept c, fuses := s.fuses, out := s.out, now := s.now, freeCtr := s.freeCtr, pending := s.pending,
    jtag := s.jtag, mgmtIndex := s.mgmtIndex }
  (r.setF .GLB_RESET_CAUSE_CAUSE 0 0 c).setF .GLB_RESET_CAUSE_COUNT 0 0 (s.aonKept c).count

theorem State.sansRails_wholeReset (s : State) (c : Nat) :
    (s.wholeReset c).sansRails = (s.cleared c).applyStraps.sansRails :=
  (State.sansRails_railsFollow _ _).trans (foldl_leaves State.sansRails (fun s k => s.emit (.pin k 0)) _ (fun _ _ => rfl) _)

theorem State.f_wholeReset (s : State) (c : Nat) (f : Fid) (i j : Nat) :
    (s.wholeReset c).f f i j = (s.cleared c).applyStraps.f f i j :=
  State.f_of_flds (State.flds_of_sansRails (s.sansRails_wholeReset c)) f i j

/-- The fields that straps set. -/
theorem State.f_applyStraps (s : State) (f : Fid) (i j : Nat) (h1 : f ≠ .GLB_STRAP_ETH) (h2 : f ≠ .ETH_CFG_MODE)
    (h3 : f ≠ .ETH_STATUS_MODE_ACT) : s.applyStraps.f f i j = s.f f i j := by
  show State.f (State.setF (State.setF (State.setF s _ _ _ _) _ _ _ _) _ _ _ _) f i j = _
  rw [State.f_setF_fid _ _ h3, State.f_setF_fid _ _ h2, State.f_setF_fid _ _ h1]

theorem State.f_applyStraps_strap (s : State) : s.applyStraps.f .GLB_STRAP_ETH = s.aon.strapEth
    ∧ s.applyStraps.f .ETH_CFG_MODE = s.aon.strapEth ∧ s.applyStraps.f .ETH_STATUS_MODE_ACT = s.aon.strapEth := by
  refine ⟨?_, ?_, State.f_setF_same ..⟩
  · show State.f (State.setF (State.setF (State.setF s _ _ _ _) _ _ _ _) _ _ _ _) .GLB_STRAP_ETH 0 0 = _
    rw [State.f_setF_fid _ _ (by decide), State.f_setF_fid _ _ (by decide), State.f_setF_same]
  · show State.f (State.setF (State.setF (State.setF s _ _ _ _) _ _ _ _) _ _ _ _) .ETH_CFG_MODE 0 0 = _
    rw [State.f_setF_fid _ _ (by decide), State.f_setF_same]

/-- The fields that a whole reset sets before the straps show. -/
theorem State.f_cleared (s : State) (c : Nat) (f : Fid) (i j : Nat) (h1 : f ≠ .GLB_RESET_CAUSE_CAUSE)
    (h2 : f ≠ .GLB_RESET_CAUSE_COUNT) : (s.cleared c).f f i j = fieldReset f i j := by
  show State.f (State.setF (State.setF _ _ _ _ _) _ _ _ _) f i j = _
  rw [State.f_setF_fid _ _ h2, State.f_setF_fid _ _ h1]
  rfl

theorem State.f_cleared_cause (s : State) (c : Nat) : (s.cleared c).f .GLB_RESET_CAUSE_CAUSE = c
    ∧ (s.cleared c).f .GLB_RESET_CAUSE_COUNT = (s.aonKept c).count := by
  refine ⟨?_, State.f_setF_same ..⟩
  show State.f (State.setF (State.setF _ _ _ _ _) _ _ _ _) .GLB_RESET_CAUSE_CAUSE 0 0 = _
  rw [State.f_setF_fid _ _ (by decide), State.f_setF_same]

/-- What of the staged image a whole reset takes over. -/
theorem State.aonKept_image (s : State) (c : Nat) :
    (c = 0 → (s.aonKept c).digest = [] ∧ (s.aonKept c).svn = 0)
    ∧ (c ≠ 0 → s.boot.fwState ≠ 4 → (s.aonKept c).digest = s.aon.digest ∧ (s.aonKept c).svn = s.aon.svn)
    ∧ (c ≠ 0 → s.boot.fwState = 4 → (s.aonKept c).digest = s.boot.stagedDigest ∧ (s.aonKept c).svn = s.boot.stagedSvn) := by
  unfold State.aonKept
  refine ⟨fun h => ?_, fun h h4 => ?_, fun h h4 => ?_⟩
  · simp [h]
  · simp [h, h4]
  · simp [h, h4]

/-- Settles O25. -/
theorem wholeResetKeepsOnly : Obligations.WholeResetKeepsOnly := by
  intro s c t
  have h : t.sansRails = (s.cleared c).applyStraps.sansRails := s.sansRails_wholeReset c
  have hk : ∀ {α : Type} (p : State → α), p t.sansRails = p (s.cleared c).applyStraps.sansRails := fun p => congrArg p h
  have hf : ∀ f i j, t.f f i j = (s.cleared c).applyStraps.f f i j := s.f_wholeReset c
  have haon : t.aon = s.aonKept c := hk State.aon
  obtain ⟨hstrap, hcfg, hact⟩ := (s.cleared c).f_applyStraps_strap
  obtain ⟨hcause, hcount⟩ := s.f_cleared_cause c
  obtain ⟨h0, h1, h4⟩ := s.aonKept_image c
  refine ⟨hk State.fuses, ?_, haon ▸ rfl, ?_, ?_, ?_, ?_, haon ▸ h0, haon ▸ h1, haon ▸ h4, hk State.units,
    hk State.umReady, hk State.doms, hk State.mem, hk State.hl, hk State.sec,
    hk State.boot, hk State.engs, hk State.coh, hk State.links, hk State.eth,
    hk State.sheaf, ?_, hk State.tel, hk State.jtag, hk State.mgmtIndex,
    hk State.pending, fun f i j hc hn hs he hm => ?_⟩
  · rw [hf, State.f_applyStraps _ _ _ _ (by decide) (by decide) (by decide), hcause]
  · rw [hf, State.f_applyStraps _ _ _ _ (by decide) (by decide) (by decide), hcount]
    rfl
  · rw [hf, hstrap]
    rfl
  · rw [hf, hcfg]
    rfl
  · rw [hf, hact]
    rfl
  · have hp : { t.pwr with volts := [] } = ({} : Pwr) := hk State.pwr
    exact congrArg (fun p : Pwr => { p with volts := t.pwr.volts }) hp
  · rw [hf, State.f_applyStraps _ _ _ _ hs he hm, State.f_cleared _ _ _ _ _ hc hn]

/-! ### Bring-up -/

theorem State.sec_deriveId (s : State) : s.deriveId.sec.lcState = s.sec.lcState := by
  unfold State.deriveId
  split <;> rfl

theorem State.f_deriveId (s : State) (f : Fid) (i j : Nat) : s.deriveId.f f i j = s.f f i j := by
  unfold State.deriveId
  split <;> rfl

theorem State.lcState_voteLc (s : State) : s.voteLc.sec.lcState = (lcOfCode (majority s.fuses.lc)).1 := by
  unfold State.voteLc
  dsimp only
  split <;> rfl

theorem State.f_voteLc (s : State) (f : Fid) (i j : Nat) : s.voteLc.f f i j = s.f f i j := by
  unfold State.voteLc
  dsimp only
  split <;> rfl

theorem State.f_retire (s : State) (c : UCls) (n : Nat) (f : Fid) (i j : Nat) (h : eventFid f = false) :
    (s.retire c n).f f i j = s.f f i j := by
  unfold State.retire
  dsimp only
  split
  · rw [State.f_railsFollow, State.f_putUnit _ _ _ _ f i j h]
  · rfl

theorem State.sec_retire (s : State) (c : UCls) (n : Nat) : (s.retire c n).sec = s.sec := by
  unfold State.retire
  dsimp only
  split
  · exact (State.sec_of_sansRails (State.sansRails_railsFollow ..)).trans (State.sec_putUnit ..)
  · rfl

theorem State.f_retireFuses (s : State) (f : Fid) (i j : Nat) (h : eventFid f = false) : s.retireFuses.f f i j = s.f f i j := by
  unfold State.retireFuses
  split
  · refine foldl_leaves (fun s => s.f f i j) _ _ (fun s n => ?_) s
    dsimp only
    split
    · split
      · exact s.f_retire _ _ f i j h
      · rfl
    · rfl
  · rfl

theorem State.sec_retireFuses (s : State) : s.retireFuses.sec = s.sec := by
  unfold State.retireFuses
  split
  · refine foldl_leaves State.sec _ _ (fun s n => ?_) s
    dsimp only
    split
    · split
      · exact s.sec_retire _ _
      · rfl
    · rfl
  · rfl

/-- What bring-up has done before the boot set starts. -/
def State.booting (s : State) : State := (s.voteLc.deriveId).retireFuses

theorem State.lcState_booting (s : State) : s.booting.sec.lcState = (lcOfCode (majority s.fuses.lc)).1 := by
  rw [State.booting, State.sec_retireFuses, State.sec_deriveId, State.lcState_voteLc]

theorem State.f_booting (s : State) (f : Fid) (i j : Nat) (h : eventFid f = false) : s.booting.f f i j = s.f f i j := by
  rw [State.booting, State.f_retireFuses _ _ _ _ h, State.f_deriveId, State.f_voteLc]

/-- What shows whether a domain has started: its own state, and its lock, release, frequency and ordered frequency. -/
def State.bootView (d : Nat) (s : State) : Dom × Nat × Nat × Nat × Nat :=
  (s.dom d, s.f .CLK_DOM_STATUS_LOCKED d, s.f .CLK_DOM_STATUS_RELEASED d, s.f .CLK_DOM_STATUS_FREQ_ACT d, s.f .CLK_DOM_CFG_FREQ_MHZ d)

/-- A domain that has started with the boot set, at its ordered frequency. -/
def bootedView (x : Dom × Nat × Nat × Nat × Nat) : Dom × Nat × Nat × Nat × Nat :=
  ({ running := true, cycles := 0, ever := true }, 1, 1, x.2.2.2.2, x.2.2.2.2)

theorem State.f_bootDom (s : State) (k : Nat) (f : Fid) (i j : Nat) : (s.bootDom k).f f i j =
    ((((s.setDom k { running := true, cycles := 0, ever := true }).setF .CLK_DOM_STATUS_LOCKED k 0 1).setF
      .CLK_DOM_STATUS_RELEASED k 0 1).setF .CLK_DOM_STATUS_FREQ_ACT k 0 (s.f .CLK_DOM_CFG_FREQ_MHZ k)).f f i j := rfl

theorem State.doms_bootDom (s : State) (k : Nat) :
    (s.bootDom k).doms = (s.setDom k { running := true, cycles := 0, ever := true }).doms := rfl

theorem State.bootView_bootDom (s : State) (d : Nat) : (s.bootDom d).bootView d = bootedView (s.bootView d) := by
  have hd : (s.bootDom d).dom d = { running := true, cycles := 0, ever := true } := by
    unfold State.dom
    rw [s.doms_bootDom]
    exact s.dom_setDom d _
  simp [State.bootView, bootedView, hd, State.f_bootDom]

theorem State.bootView_bootDom_ne (s : State) {d k : Nat} (h : k ≠ d) : (s.bootDom k).bootView d = s.bootView d := by
  have hd : (s.bootDom k).dom d = s.dom d := by
    unfold State.dom
    rw [s.doms_bootDom]
    show NTbl.at {} (NTbl.put {} s.doms k { running := true, cycles := 0, ever := true }) d = _
    exact NTbl.at_put_ne {} s.doms _ (Ne.symm h)
  have hf : ∀ f, (s.bootDom k).f f d = s.f f d := fun f => by
    have hk : ∀ g : Fid, (f, d, 0) ≠ (g, k, 0) := fun g hg => h (congrArg (fun x => x.2.1) hg).symm
    rw [s.f_bootDom, State.f_setF_ne _ _ (hk _), State.f_setF_ne _ _ (hk _), State.f_setF_ne _ _ (hk _)]
    rfl
  simp only [State.bootView, hd, hf]

theorem State.bootView_foldl (s : State) {l : List Nat} {d : Nat} (hd : d ∈ l) (hl : l.Nodup) :
    (l.foldl State.bootDom s).bootView d = bootedView (s.bootView d) :=
  foldl_one bootedView hd hl (fun _ _ hk s => s.bootView_bootDom_ne hk) (fun s => s.bootView_bootDom d) s

theorem State.lcState_foldl_bootDom (l : List Nat) (s : State) : (l.foldl State.bootDom s).sec = s.sec :=
  foldl_leaves State.sec State.bootDom _ (fun _ _ => rfl) s

/-- Outside SCRAP, bring-up starts the boot set, CC's agent and the training of the port. -/
theorem State.bringUp_eq {s : State} (h : (lcOfCode (majority s.fuses.lc)).1 ≠ lcScrap) :
    s.bringUp = (([16, 21, 22, 23, 24].foldl State.bootDom s.booting).agentUp 8 true).ethTrain := by
  have hb : s.booting.sec.lcState ≠ lcScrap := s.lcState_booting ▸ h
  have hset : s.booting.bootSet = [16, 21, 22, 23, 24] := if_neg hb
  show State.ethTrain (if (s.booting.bootSet.foldl State.bootDom s.booting).sec.lcState = lcScrap then _ else _) = _
  rw [State.lcState_foldl_bootDom, if_neg hb]
  exact congrArg (fun l => ((l.foldl State.bootDom s.booting).agentUp 8 true).ethTrain) hset

theorem State.bootView_agentUp_ethTrain (s : State) (d : Nat) : (s.agentUp 8 true).ethTrain.bootView d = s.bootView d := by
  have hf : ∀ f, f ≠ .ETH_STATUS_LINK → f ≠ .COH_AGENT_STATUS_STATE → (s.agentUp 8 true).ethTrain.f f d = s.f f d := fun f h1 h2 =>
    (State.f_setF_fid _ _ h1).trans (State.f_setF_fid _ _ h2)
  simp [State.bootView, hf]
  rfl

theorem State.link_ethTrain (s : State) : s.ethTrain.f .ETH_STATUS_LINK = 1 ∨ s.ethTrain.f .ETH_STATUS_LINK = 2 := by
  unfold State.ethTrain
  simp only [State.f_setF_same]
  split
  · exact .inl rfl
  · exact .inr rfl

theorem bringUpStartsBootSet_holds : bringUpStartsBootSet := by
  intro s d hd hlc
  have hv : s.bringUp.bootView d = bootedView (s.booting.bootView d) := by
    rw [State.bringUp_eq hlc, State.bootView_agentUp_ethTrain, State.bootView_foldl _ hd (by decide)]
  have hcfg : s.booting.f .CLK_DOM_CFG_FREQ_MHZ d = s.f .CLK_DOM_CFG_FREQ_MHZ d := s.f_booting _ d 0 rfl
  simp only [State.bootView, bootedView, hcfg, Prod.mk.injEq] at hv
  obtain ⟨hdom, hlock, hrel, hact, -⟩ := hv
  refine ⟨by rw [hdom], by rw [hdom], hlock, hrel, hact, ?_⟩
  rw [State.bringUp_eq hlc]
  exact State.link_ethTrain _

/-! ### The unit map -/

/-- The units' states as the map first shows them. -/
def State.classesPublished (s : State) : State :=
  let s3 := ((((((s.publishClass .engine s.engineState).publishClass .site s.siteState).publishClass .memSite (fun _ => .present)).publishClass
    .channel (fun _ => .present)).publishClass .plane (fun _ => .present)).publishClass .ucie (fun _ => .present)).publishClass
    .ethLane (fun _ => .present)
  (List.range 48).foldl (fun s k => s.setDeg .ucie k (s.umWidth (k / 6) (k % 6) == 1 || s.umWidth (k / 6) (k % 6) == 2)) s3

def State.portsPublished (s : State) : State :=
  (List.range 8).foldl (fun s n => ((s.publishEngine n).publishSite n).publishMem n) s

/-- Copies of the life cycle's code that disagree are reported. -/
def State.voteReported (s : State) : State := if s.sec.voteSplit then s.raise 0x8001 sevCorrected 0 0 s.fuses.lc else s

/-- The reports that come with the map, and what it does to the Ethernet port. -/
def State.mapReported (s : State) : State := (s.raise 0x0068 sevNone 0 0 [1]).capChanged.voteReported.publishLanes

/-- The map is ready, in its first generation, and the module in stage 3. -/
def State.mapReady (s : State) : State := ({ s with umReady := true, umGen := 1 }).setF .HL_STATUS_STAGE 0 0 3

theorem State.mem_mapReady (s : State) : s.mapReady.mem = s.mem := rfl

theorem execUmPublished_eq {s : State} (hu : s.umReady = false) (hm : s.f .MEM_INIT_STATE = 2) (ht : s.f .GLB_TRAIN_STATUS_STATE = 3) :
    exec .umPublished s = .next s.classesPublished.portsPublished.mapReady.mapReported := by
  have hc : ¬(s.umReady ∨ (s.f .MEM_INIT_STATE ≠ 2 ∧ (s.f .MEM_INIT_STATE = 0 ∨ !s.memSiteFailed)) ∨ s.trainState ≠ 3) := by
    simp [hu, hm, State.trainState, ht]
  show execUmPublished s = _
  unfold execUmPublished
  rw [if_neg hc]
  dsimp only
  rw [if_pos hm]
  unfold State.mapReported State.voteReported State.mapReady State.portsPublished State.classesPublished
  dsimp only

/-- The state without what the Ethernet port's link changes. -/
def State.sansPort (s : State) : State := { s with flds := [], hl := {}, aon := {}, eth := {}, sheaf := [], freeCtr := 0 }

theorem State.sansPort_of_sansEvents {s t : State} (h : s.sansEvents = t.sansEvents) : s.sansPort = t.sansPort := by
  change s.sansEvents.sansPort = t.sansEvents.sansPort
  rw [h]

theorem State.umReady_of_sansPort {s t : State} (h : s.sansPort = t.sansPort) : s.umReady = t.umReady := (congrArg State.umReady h :)

theorem State.umGen_of_sansPort {s t : State} (h : s.sansPort = t.sansPort) : s.umGen = t.umGen := (congrArg State.umGen h :)

theorem State.mem_of_sansPort {s t : State} (h : s.sansPort = t.sansPort) : s.mem = t.mem := (congrArg State.mem h :)

theorem State.sansPort_raise (s : State) (code sev ucls unit : Nat) (detail : List Nat) (sc : Scope) (plot : Option Nat) :
    (s.raise code sev ucls unit detail sc plot).sansPort = s.sansPort :=
  State.sansPort_of_sansEvents (State.sansEvents_raise ..)

theorem State.sansPort_sheafStop (s : State) : s.sheafStop.sansPort = s.sansPort :=
  foldl_leaves State.sansPort _ _ (fun s x => by
    split <;> rfl) s

theorem State.sansPort_ethPortFatal (s : State) : s.ethPortFatal.sansPort = s.sansPort := by
  unfold State.ethPortFatal
  rw [State.sansPort_sheafStop, State.sansPort_raise]
  rfl

theorem State.sansPort_ethRestart (s : State) : s.ethRestart.sansPort = s.sansPort := rfl

theorem State.sansPort_ethFallback (s : State) (used : Nat) : (s.ethFallback used).sansPort = s.sansPort := by
  unfold State.ethFallback
  dsimp only
  split
  · split
    · exact s.sansPort_ethPortFatal
    · exact State.sansPort_ethRestart _
  · exact s.sansPort_ethPortFatal

/-- The lanes of a port whose link drops are no longer locked. -/
theorem State.sansPort_lanesUnlocked (s : State) :
    ((List.range 8).foldl (fun s i => s.setF .ETH_LANE_LOCK i 0 0) s).sansPort = s.sansPort :=
  foldl_leaves State.sansPort (fun s i => s.setF .ETH_LANE_LOCK i 0 0) _ (fun _ _ => rfl) s

theorem State.sansPort_flag (s : State) (f : Fid) (i j : Nat) : (s.flag f i j).sansPort = s.sansPort := rfl

theorem State.sansPort_ethDrop (s : State) (c : Nat) : (s.ethDrop c).sansPort = s.sansPort := by
  have h : ∀ e : Eth, ((List.range 8).foldl (fun (s : State) i => s.setF .ETH_LANE_LOCK i 0 0) { s with eth := e }).sansPort = s.sansPort :=
    fun e => State.sansPort_lanesUnlocked { s with eth := e }
  unfold State.ethDrop
  rw [State.sansPort_ethRestart]
  split
  · rw [State.sansPort_raise, State.sansPort_flag, h]
  · rw [h]

/-- The port goes to its fallback with the map, or stays. -/
theorem State.publishLanes_cases (s : State) :
    s.publishLanes = s ∨ ∃ c k used, s.publishLanes = (({ s with freeCtr := k }).ethDrop c).ethFallback used := by
  unfold State.publishLanes
  dsimp only
  split
  · exact .inr ⟨_, _, _, rfl⟩
  · exact .inl rfl

theorem State.sansPort_publishLanes (s : State) : s.publishLanes.sansPort = s.sansPort := by
  obtain h | ⟨c, k, used, h⟩ := s.publishLanes_cases
  · rw [h]
  · rw [h, State.sansPort_ethFallback, State.sansPort_ethDrop]
    rfl

/-- The fields that a change of the Ethernet port's link touches. -/
def portFid (f : Fid) : Bool :=
  eventFid f || match f with
  | .ETH_ERR_STATUS_LINK_DOWN | .ETH_ERR_STATUS_PORT_FATAL | .ETH_LANE_LOCK | .ETH_STATUS_LANES_USED | .ETH_STATUS_LINK
  | .ETH_STATUS_MODE_ACT | .SHEAF_CTX_STATUS_PHASE | .SHEAF_CTX_STATUS_STATE | .SHEAF_STATUS_ACTIVE => true
  | _ => false

theorem portFid_event {f : Fid} (h : portFid f = false) : eventFid f = false := (Bool.or_eq_false_iff.mp h).1

theorem portFid_ne {f g : Fid} (h : portFid f = false) (hg : portFid g = true) : f ≠ g := fun hfg => by
  rw [hfg, hg] at h
  cases h

theorem State.f_sheafStop (s : State) {f : Fid} (h : portFid f = false) (i j : Nat) : s.sheafStop.f f i j = s.f f i j :=
  foldl_leaves (fun s => s.f f i j) _ _ (fun s x => by
    split
    · rfl
    · unfold State.sheafIdle
      rw [State.f_setF_fid _ _ (portFid_ne h rfl), State.f_setF_fid _ _ (portFid_ne h rfl), State.f_setF_fid _ _ (portFid_ne h rfl)]
      rfl) s

theorem State.f_ethPortFatal (s : State) {f : Fid} (h : portFid f = false) (i j : Nat) : s.ethPortFatal.f f i j = s.f f i j := by
  unfold State.ethPortFatal
  rw [State.f_sheafStop _ h, State.f_raise _ _ _ _ _ _ _ _ f i j (portFid_event h), State.f_flag_fid _ (portFid_ne h rfl),
    State.f_setF_fid _ _ (portFid_ne h rfl)]
  rfl

theorem State.f_ethRestart (s : State) {f : Fid} (h : portFid f = false) (i j : Nat) : s.ethRestart.f f i j = s.f f i j := by
  unfold State.ethRestart State.ethTrain
  rw [State.f_setF_fid _ _ (portFid_ne h rfl), State.f_setF_fid _ _ (portFid_ne h rfl), State.f_setF_fid _ _ (portFid_ne h rfl)]

theorem State.f_ethFallback (s : State) (used : Nat) {f : Fid} (h : portFid f = false) (i j : Nat) :
    (s.ethFallback used).f f i j = s.f f i j := by
  unfold State.ethFallback
  dsimp only
  split
  · split
    · exact s.f_ethPortFatal h i j
    · exact State.f_ethRestart _ h i j
  · exact s.f_ethPortFatal h i j

theorem State.f_ethDrop (s : State) (c : Nat) {f : Fid} (h : portFid f = false) (i j : Nat) : (s.ethDrop c).f f i j = s.f f i j := by
  have hl : ∀ e : Eth, ((List.range 8).foldl (fun (s : State) i => s.setF .ETH_LANE_LOCK i 0 0) { s with eth := e }).f f i j = s.f f i j :=
    fun e => foldl_leaves (fun s => s.f f i j) (fun (s : State) i => s.setF .ETH_LANE_LOCK i 0 0) _
      (fun _ _ => State.f_setF_fid _ _ (portFid_ne h rfl)) { s with eth := e }
  unfold State.ethDrop
  rw [State.f_ethRestart _ h]
  split
  · rw [State.f_raise _ _ _ _ _ _ _ _ f i j (portFid_event h), State.f_flag_fid _ (portFid_ne h rfl), hl]
  · rw [hl]

theorem State.f_publishLanes (s : State) {f : Fid} (h : portFid f = false) (i j : Nat) : s.publishLanes.f f i j = s.f f i j := by
  obtain hp | ⟨c, k, used, hp⟩ := s.publishLanes_cases
  · rw [hp]
  · rw [hp, State.f_ethFallback _ _ h, State.f_ethDrop _ _ h]
    rfl

theorem State.sansEvents_voteReported (s : State) : s.voteReported.sansEvents = s.sansEvents := by
  unfold State.voteReported
  split
  · exact State.sansEvents_raise ..
  · rfl

theorem State.f_voteReported (s : State) (f : Fid) (i j : Nat) (h : eventFid f = false) : s.voteReported.f f i j = s.f f i j := by
  unfold State.voteReported
  split
  · exact State.f_raise _ _ _ _ _ _ _ _ f i j h
  · rfl

/-- What the reports of the map leave as it was. -/
theorem State.mapReported_leaves (s : State) : s.mapReported.umReady = s.umReady ∧ s.mapReported.umGen = s.umGen
    ∧ s.mapReported.mem = s.mem ∧ s.mapReported.f .HL_STATUS_STAGE = s.f .HL_STATUS_STAGE := by
  have hp : s.mapReported.sansPort = (s.raise 0x0068 sevNone 0 0 [1]).capChanged.sansPort := by
    unfold State.mapReported
    rw [State.sansPort_publishLanes, State.sansPort_of_sansEvents (State.sansEvents_voteReported _)]
  refine ⟨?_, ?_, ?_, ?_⟩
  · rw [State.umReady_of_sansPort hp, State.umReady_capChanged, State.umReady_raise]
  · rw [State.umGen_of_sansPort hp, State.umGen_capChanged, State.umGen_raise]
  · rw [State.mem_of_sansPort hp, State.mem_capChanged, State.mem_raise]
  · unfold State.mapReported
    rw [State.f_publishLanes _ (by decide), State.f_voteReported _ _ _ _ rfl, State.f_capChanged _ _ _ _ (by decide),
      State.f_raise _ _ _ _ _ _ _ _ _ _ _ rfl]

/-! ### Publication leaves memory where no site holds anything -/

/-- What publishing a site could touch of memory: its cells, the homes, and the lines that the links give back. -/
def State.siteView (s : State) : Cells × Coh × (Nat → List CxlEvict) := (s.mem.cells, s.coh, fun n => (s.link n).evicting)

/-- No chiplet holds a line or has one to give back. -/
def State.sitesGone (s : State) : Prop := s.coh.evWait = [] ∧ ∀ n, n < 8 → bit s.coh.up n = false ∧ (s.link n).evicting = []

theorem State.siteView_of_parts {s t : State} (hm : t.mem.cells = s.mem.cells) (hc : t.coh = s.coh) (hl : t.links = s.links) :
    t.siteView = s.siteView := by
  unfold State.siteView State.link
  rw [hm, hc, hl]

theorem State.cells_of_siteView {s t : State} (h : t.siteView = s.siteView) : t.mem.cells = s.mem.cells := (congrArg Prod.fst h :)

theorem State.sitesGone_of_view {s t : State} (h : t.siteView = s.siteView) (hs : s.sitesGone) : t.sitesGone := by
  simp only [State.siteView, Prod.mk.injEq] at h
  obtain ⟨-, hc, hl⟩ := h
  have hl : ∀ n, (t.link n).evicting = (s.link n).evicting := congrFun hl
  unfold State.sitesGone
  simp only [hc, hl]
  exact hs

theorem State.siteView_setLink {s : State} {n : Nat} {v : SLink} (h : v.evicting = (s.link n).evicting) :
    (s.setLink n v).siteView = s.siteView := by
  have hl : ∀ k, ((s.setLink n v).link k).evicting = (s.link k).evicting := fun k => by
    by_cases hk : k = n
    · rw [hk, State.link_setLink, h]
    · rw [State.link_setLink_ne _ _ hk]
  unfold State.siteView
  simp only [hl]
  rfl

theorem State.siteView_sansPlans {s t : State} (h : t.sansPlans = s.sansPlans) : t.siteView = s.siteView :=
  State.siteView_of_parts (congrArg Mem.cells (State.mem_of_sansPlans h)) (State.coh_of_sansPlans h) (State.links_of_sansPlans h)

theorem State.siteView_setDeg (s : State) (c : UCls) (n : Nat) (d : Bool) : (s.setDeg c n d).siteView = s.siteView :=
  State.siteView_sansPlans (State.sansPlans_of_sansUnits (s.sansUnits_setDeg c n d))

theorem State.siteView_capChanged (s : State) : s.capChanged.siteView = s.siteView := State.siteView_sansPlans s.sansPlans_capChanged

theorem State.siteView_raise (s : State) (code sev ucls unit : Nat) (detail : List Nat) (sc : Scope) (plot : Option Nat) :
    (s.raise code sev ucls unit detail sc plot).siteView = s.siteView :=
  State.siteView_sansPlans (State.sansPlans_of_sansEvents (State.sansEvents_raise ..))

theorem State.siteView_railsFollow (s old : State) : (s.railsFollow old).siteView = s.siteView :=
  have h := s.sansRails_railsFollow old
  State.siteView_of_parts (congrArg Mem.cells (State.mem_of_sansRails h)) (State.coh_of_sansRails h) (State.links_of_sansRails h)

theorem State.siteView_setF (s : State) (f : Fid) (i j v : Nat) : (s.setF f i j v).siteView = s.siteView := rfl

theorem State.siteView_setFence (s : State) (p v : Nat) : (s.setFence p v).siteView = s.siteView := rfl

theorem State.siteView_setRefclk (s : State) (n : Nat) (b : Bool) : (s.setRefclk n b).siteView = s.siteView := by
  unfold State.setRefclk
  split
  · rfl
  · exact State.siteView_setLink (s := s) rfl

theorem State.siteView_updateCap (s : State) (n : Nat) : (s.updateCap n).siteView = s.siteView := by
  unfold State.updateCap
  dsimp only
  split
  · rfl
  · rw [State.siteView_capChanged, State.siteView_raise]
    rfl

theorem State.siteView_publishMem (s : State) (n : Nat) : (s.publishMem n).siteView = s.siteView :=
  (State.siteView_setDeg ..).trans (s.siteView_updateCap n)

theorem State.siteView_publishEngine (s : State) (e : Nat) : (s.publishEngine e).siteView = s.siteView := by
  unfold State.publishEngine
  split
  · rfl
  · exact State.siteView_railsFollow ..

theorem State.siteView_siteCapSet (s : State) (n : Nat) : (s.siteCapSet n).siteView = s.siteView := by
  unfold State.siteCapSet
  dsimp only
  split
  · rfl
  · exact State.siteView_capChanged _

theorem State.coh_evictsKept {s : State} (n : Nat) (hw : s.coh.evWait = []) (he : (s.link n).evicting = []) :
    s.evictsKept n = s := by
  have hs : { s with coh := { s.coh with evWait := [] } } = s := by rw [← hw]
  unfold State.evictsKept
  simp only [hw, List.filter_nil, List.foldl_nil]
  rw [hs, he]
  rfl

/-- A link that is cut has no line to give back. -/
theorem State.siteView_linkCut {s : State} (n : Nat) (hw : s.coh.evWait = []) (he : (s.link n).evicting = []) :
    (s.linkCut n).2.siteView = s.siteView := by
  unfold State.linkCut
  rw [State.coh_evictsKept n hw he]
  dsimp only
  rw [State.siteView_setF, State.siteView_setF, State.siteView_setLink he.symm]
  rfl

theorem State.agentLost_down {s : State} {a : Nat} (h : bit s.coh.up a = false) : s.agentLost a = s := by
  unfold State.agentLost
  simp [h]

theorem State.siteView_publishSite {s : State} {n : Nat} (hn : n < 8) (h : s.sitesGone) : (s.publishSite n).siteView = s.siteView := by
  unfold State.publishSite
  split
  · exact State.siteView_setDeg ..
  split
  · have hr := s.siteView_setRefclk n false
    obtain ⟨hw, hl⟩ := State.sitesGone_of_view hr h
    have hc := (State.siteView_linkCut n hw (hl n hn).2).trans hr
    obtain ⟨-, hl2⟩ := State.sitesGone_of_view hc h
    dsimp only
    rw [State.agentLost_down (hl2 n hn).1, State.siteView_railsFollow, State.siteView_setFence]
    unfold State.siteDegSet
    rw [State.siteView_setDeg, State.siteView_siteCapSet, State.siteView_setF, State.siteView_setLink (hl2 n hn).2.symm, hc]
  · rfl

/-- The ports of the units become as the map shows them, one number after the other. -/
theorem State.siteView_portsPublished {s : State} (h : s.sitesGone) : s.portsPublished.siteView = s.siteView := by
  have hstep : ∀ n ∈ List.range 8, ∀ t : State, t.siteView = s.siteView →
      (((t.publishEngine n).publishSite n).publishMem n).siteView = s.siteView := fun n hn t ht => by
    have he := (t.siteView_publishEngine n).trans ht
    rw [State.siteView_publishMem, State.siteView_publishSite (List.mem_range.mp hn) (State.sitesGone_of_view he h), he]
  exact List.foldlRecOn (motive := fun t : State => t.siteView = s.siteView) _ _ rfl fun t ht n hn => hstep n hn t ht

theorem State.siteView_classesPublished (s : State) : s.classesPublished.siteView = s.siteView := by
  have hc : ∀ (t : State) c g, (t.publishClass c g).siteView = t.siteView := fun t c g =>
    State.siteView_sansPlans (State.sansPlans_of_sansUnits (t.sansUnits_publishClass c g))
  unfold State.classesPublished
  refine (foldl_leaves State.siteView _ _ (fun t k => t.siteView_setDeg ..) _).trans ?_
  simp only [hc]

theorem unitMapPublished {s : State} (hu : s.umReady = false) (hm : s.f .MEM_INIT_STATE = 2) (ht : s.f .GLB_TRAIN_STATUS_STATE = 3) :
    ∃ t, exec .umPublished s = .next t ∧ t.umReady = true ∧ 1 ≤ t.umGen ∧ t.f .HL_STATUS_STAGE = 3
      ∧ (s.sitesGone → t.mem.cells = s.mem.cells) := by
  obtain ⟨hr, hg, hmem, hst⟩ := s.classesPublished.portsPublished.mapReady.mapReported_leaves
  refine ⟨_, execUmPublished_eq hu hm ht, hr, le_of_eq hg.symm, hst.trans (State.f_setF_same ..), fun h => ?_⟩
  have hc := s.siteView_classesPublished
  have hp := State.siteView_portsPublished (State.sitesGone_of_view hc h)
  rw [hmem, State.mem_mapReady]
  exact State.cells_of_siteView (hp.trans hc)

theorem resetRowsComplete_holds : resetRowsComplete := by
  intro s
  refine ⟨fun ns h => congrArg Host.Outcome.next (if_neg (Nat.not_lt.mpr h)), fun v h => ?_, fun t c h => ?_, fun hu hm ht => ?_⟩
  · show execPorstNRelease v s = _
    unfold execPorstNRelease
    rw [h]
    rfl
  · show execWholeReset s = _
    unfold execWholeReset
    rw [h]
  · obtain ⟨t, he, hr, hg, hst, hc⟩ := unitMapPublished hu hm ht
    exact ⟨t, he, hr, hg, hst, fun h1 h2 => hc ⟨h1, h2⟩⟩

/-- Settles O26. -/
theorem resetAndBringUp : Obligations.ResetAndBringUp := ⟨resetRowsComplete_holds, bringUpStartsBootSet_holds⟩

end Sys2Proof.Machine
end

section
/-! What a register's block does with a write that meets no refusal (00 R11, R629), and the rows of clocks and the control
complex (14 R513-R524). -/

namespace Sys2Proof.Machine

/-! ### Rows that write a register -/

/-- The last offset of a register's instances. -/
def Reg.last (r : Reg) : Nat := (regRow r).base + ((regRow r).n1 - 1) * (regRow r).s1 + ((regRow r).n2 - 1) * (regRow r).s2

/-- All instances of a register lie in one block of the control space. -/
theorem Reg.last_block (r : Reg) : r.last / 2 ^ 24 = (regRow r).base / 2 ^ 24
    ∧ decide (r.last < 0x04800000) = decide ((regRow r).base < 0x04800000) := by
  cases r <;> decide

/-- What a register's block does with a write. -/
def State.blockWrite (s : State) (m : Master) (r : Reg) (i j v : Nat) : WRes :=
  s.regApply m r i j (regRow r).base v

theorem State.regApply_of_lets {s : State} {m : Master} {r : Reg} {i j off v : Nat} (h : s.lets m r i j off v) :
    s.regApply m r i j off v = s.blockWrite m r i j v := by
  obtain ⟨hoff, hi, hj⟩ := State.lets_off h
  obtain ⟨hblock, hhalf⟩ := r.last_block
  have hlo : (regRow r).base ≤ off := by rw [hoff, Nat.add_assoc]; exact Nat.le_add_right _ _
  have hhi : off ≤ r.last := by
    rw [hoff]
    exact Nat.add_le_add (Nat.add_le_add_left (Nat.mul_le_mul_right _ (Nat.le_sub_one_of_lt hi)) _)
      (Nat.mul_le_mul_right _ (Nat.le_sub_one_of_lt hj))
  have hb : off / 2 ^ 24 = (regRow r).base / 2 ^ 24 :=
    Nat.le_antisymm ((Nat.div_le_div_right hhi).trans (le_of_eq hblock)) (Nat.div_le_div_right hlo)
  have hh : off < 0x04800000 ↔ (regRow r).base < 0x04800000 :=
    ⟨fun h => lt_of_le_of_lt hlo h, fun h => lt_of_le_of_lt hhi ((decide_eq_decide.mp hhalf).mpr h)⟩
  unfold State.blockWrite State.regApply
  dsimp only
  rw [hb]
  simp only [hh]

theorem State.blockWrite_write0 {s : State} {m : Master} {r : Reg} {i j v : Nat}
    (h : (regRow r).base / 2 ^ 24 = 0 ∨ (regRow r).base / 2 ^ 24 = 9 ∨ (regRow r).base / 2 ^ 24 = 11) :
    s.blockWrite m r i j v = s.write0 r i j v := State.regApply_write0 h

theorem State.blockWrite_write1 {s : State} {m : Master} {r : Reg} {i j v : Nat}
    (h : (regRow r).base / 2 ^ 24 = 1 ∨ (regRow r).base / 2 ^ 24 = 2) : s.blockWrite m r i j v = s.write1 r i j v :=
  State.regApply_write1 h

theorem State.blockWrite_write3 {s : State} {m : Master} {r : Reg} {i j v : Nat}
    (h : (regRow r).base / 2 ^ 24 = 3 ∨ (regRow r).base / 2 ^ 24 = 6 ∨ ((regRow r).base / 2 ^ 24 = 4 ∧ (regRow r).base < 0x04800000)) :
    s.blockWrite m r i j v = s.write3 r i j v := State.regApply_write3 h

theorem State.blockWrite_write7 {s : State} {m : Master} {r : Reg} {i j v : Nat}
    (h : (regRow r).base / 2 ^ 24 = 5 ∨ (regRow r).base / 2 ^ 24 = 7 ∨ (regRow r).base / 2 ^ 24 = 8 ∨ (regRow r).base / 2 ^ 24 = 10
      ∨ 12 ≤ (regRow r).base / 2 ^ 24 ∨ ((regRow r).base / 2 ^ 24 = 4 ∧ 0x04800000 ≤ (regRow r).base)) :
    s.blockWrite m r i j v = s.write7 m r i j v := State.regApply_write7 h

/-- A row that writes a register gives what the register's block gives it. -/
theorem writeGives_of {c : Instr} {m : Master} {r : Reg} {i j v : Nat} {s t : State}
    (hrow : ∀ s0, exec c s0 = .next (s0.regSend m r i j v)) (h : s.blockWrite m r i j v = (hOk, t)) : writeGives c m r i j v s t :=
  fun s0 _ _ hs hl => (hrow s0).trans (congrArg Host.Outcome.next (State.regSend_lets hs hl ((State.regApply_of_lets hl).trans h)))

/-- The same where the write makes a unit access memory. -/
theorem writeWaits_of {c : Instr} {m : Master} {r : Reg} {i j v : Nat} {s t : State} (hv : v < 2 ^ 64)
    (hrow : ∀ s0, exec c s0 = s0.regWait m r i j v) (h : s.blockWrite m r i j v = (hOk, t)) : writeWaits c m r i j v s t :=
  fun s0 _ _ hu hs hl => State.comes_of ((hrow s0).trans (State.regWait_lets hu hs hl hv ((State.regApply_of_lets hl).trans h)))

/-! ### The rows of clocks and the control complex -/

theorem bits_setBit_zero (v : Nat) : bits (setBit v 0 true) 0 0 = 1 := bits_setBit v 0 true

theorem State.ccReady_done {s : State} (h : s.boot.cores ≠ 0) : s.ccReady 1
    = (hOk, State.setF { s with boot := { s.boot with ready := true } } .HL_STATUS_STAGE 0 0 (max 1 s.stage)) := by
  unfold State.ccReady
  rw [if_pos ⟨rfl, h⟩]

theorem State.glbResetReq_free {s : State} (h : s.aon.due = none) :
    s.glbResetReq 1 = (hOk, { s with aon := { s.aon with due := some (s.now + 100, 2) } }) := by
  unfold State.glbResetReq State.scheduleReset
  rw [h]
  rfl

theorem State.glbResetReq_due {s : State} {x : Nat × Nat} (h : s.aon.due = some x) : s.glbResetReq 1 = (hOk, s) := by
  unfold State.glbResetReq State.scheduleReset
  rw [h]
  rfl

theorem State.clkDomCfg_done {s : State} {d freq en : Nat} (hb : isBoot d = false)
    (hf : freqOk d freq = true ∨ s.f .CLK_DOM_CFG_FREQ_MHZ d = freq) : s.clkDomCfg d freq en =
      (hOk, let s1 := (s.setF .CLK_DOM_CFG_FREQ_MHZ d 0 freq).setF .CLK_DOM_CFG_PLL_EN d 0 en
        if en = 0 ∧ (s.dom d).running = false then s1.setF .CLK_DOM_STATUS_LOCKED d 0 0 else s1) := by
  have hc : ¬(s.f .CLK_DOM_CFG_FREQ_MHZ d ≠ freq ∧ !freqOk d freq) := by
    rintro ⟨h1, h2⟩
    obtain h | h := hf
    · simp [h] at h2
    · exact h1 h
  unfold State.clkDomCfg
  rw [hb, if_neg Bool.false_ne_true, if_neg hc]
  simp only [Bool.not_eq_true']

/-- The checks of a release that passes them. -/
theorem State.clkRelease_passes {s : State} {seq d : Nat} (ht : s.boot.testing = none) (hb : isBoot d = false)
    (hl : s.f .CLK_DOM_STATUS_LOCKED d ≠ 0) (hm : d < 8 → (s.dom (8 + d)).ever = true) (hu : s.umReady = true → 8 ≤ d ∧ d < 17) :
    s.clkRelease seq d = if (s.dom d).ever then (hOk, s.clkResult seq 3 1) else
      let s0 := if d < 8 then (s.putStep d (s.stepTarget d)).stepVolt d (s.stepTarget d) else s
      let s1 := (s0.setDom d { running := true, cycles := 0, ever := true }).setF .CLK_DOM_STATUS_RELEASED d 0 1
      let s2 := if 8 ≤ d ∧ d < 16 then s1.memReleased (d - 8) else if 17 ≤ d ∧ d ≤ 20 then s1.siteqReleased d else s1
      (hOk, { s2 with boot := { s2.boot with testing := some d, testSeq := seq } }.clkResult seq 2 0) := by
  have h1 : ¬(d < 8 ∧ !(s.dom (8 + d)).ever) := fun h => by simp [hm h.1] at h
  have h2 : ¬(s.umReady ∧ (d < 8 ∨ 17 ≤ d)) := fun h => by
    have := hu h.1
    omega
  unfold State.clkRelease
  rw [ht, hb, Option.isSome_none, if_neg Bool.false_ne_true, if_neg Bool.false_ne_true, if_neg hl, if_neg h1, if_neg h2]

/-- Memory initialisation begins where every stack is trained. -/
theorem State.memInitStart_begins {s : State} (h0 : s.f .MEM_INIT_STATE = 0) (ht : s.stacksTrained = true) :
    ∃ t, s.memInitStart = (hOk, t) ∧ t.f .MEM_INIT_STATE = 1 ∧ t.mem.relocR = s.outChannels.length
      ∧ t.f .MEM_RELOC_MAPPED_OUT = s.outChannels.length ∧ t.f .MEM_RELOC_BASE = 512 - 2 * s.outChannels.length
      ∧ t.mem.cells = s.mem.cells := by
  have hc : ¬(s.f .MEM_INIT_STATE ≠ 0 ∨ !s.stacksTrained) := by simp [h0, ht]
  have hf : ∀ (t : State) m f, f ≠ .MEM_GROUP_EFFECTIVE_LOCAL → ∀ v, State.f { t.setF .MEM_GROUP_EFFECTIVE_LOCAL 0 0 v with mem := m } f 0 0 = t.f f :=
    fun t m f h v => State.f_setF_fid _ _ h
  unfold State.memInitStart
  rw [if_neg hc]
  refine ⟨_, rfl, ?_, rfl, ?_, ?_, rfl⟩
  · rw [hf _ _ _ (by decide), State.f_setF_fid _ _ (by decide), State.f_setF_fid _ _ (by decide), State.f_setF_same]
  · rw [hf _ _ _ (by decide), State.f_setF_fid _ _ (by decide), State.f_setF_same]
  · rw [hf _ _ _ (by decide), State.f_setF_same]

/-- Settles O27. -/
theorem clockRegisterRows : Obligations.ClockRegisterRows := by
  intro s m v w
  have hgo : bits w 0 0 = 1 := bits_setBit_zero _
  have hbit : bit w 0 = true := bit_setBit _ _ _
  refine ⟨fun h => ?_, fun x h => ?_, ?_, fun h => ?_, fun d hb hf => ?_, fun d hd hb ht hl hm hu => ⟨fun he => ?_, fun he => ?_⟩, fun h0 ht => ?_⟩
  · refine writeGives_of (fun _ => rfl) (Eq.trans ?_ (State.glbResetReq_free h))
    exact congrArg s.glbResetReq hgo
  · refine writeGives_of (fun _ => rfl) (Eq.trans ?_ (State.glbResetReq_due h))
    exact congrArg s.glbResetReq hgo
  · refine writeGives_of (fun _ => rfl) (Eq.trans (congrArg s.ccKick hgo) rfl)
  · exact writeGives_of (fun _ => rfl) ((congrArg s.ccReady hgo).trans (State.ccReady_done h))
  · exact writeGives_of (fun _ => rfl) (State.clkDomCfg_done hb hf)
  · refine writeGives_of (fun _ => rfl) (Eq.trans (if_pos hbit) ?_)
    rw [← hd, State.clkRelease_passes ht hb hl hm hu, he]
    rfl
  · refine writeGives_of (fun _ => rfl) (Eq.trans (if_pos hbit) ?_)
    rw [← hd, State.clkRelease_passes ht hb hl hm hu, he]
    rfl
  · obtain ⟨t, h, hrest⟩ := State.memInitStart_begins h0 ht
    exact ⟨t, writeGives_of (fun _ => rfl) (Eq.trans (if_pos hbit) h), hrest⟩

/-! ### Events of clocks -/

theorem execPllLock_locks {s : State} {d : Nat} (hb : isBoot d = false) (hd : d < 25) (hp : s.f .CLK_DOM_CFG_PLL_EN d ≠ 0)
    (hf : freqOk d (s.f .CLK_DOM_CFG_FREQ_MHZ d) = true) : exec (.pllLock d) s
      = .next ((s.setF .CLK_DOM_STATUS_LOCKED d 0 1).setF .CLK_DOM_STATUS_FREQ_ACT d 0 (s.f .CLK_DOM_CFG_FREQ_MHZ d)) := by
  have hc : ¬(isBoot d ∨ 25 ≤ d ∨ s.f .CLK_DOM_CFG_PLL_EN d = 0 ∨ !freqOk d (s.f .CLK_DOM_CFG_FREQ_MHZ d)) := by
    simp [hb, hp, hf]
    omega
  exact if_neg hc

/-- A start-up test's result shows. -/
def State.testShown (s : State) (d : Nat) (bad : Bool) : State :=
  (s.setF .CLK_DOM_STATUS_TESTED d 0 1).setF .CLK_DOM_STATUS_TEST_FAIL d 0 (b2n bad)

/-- The spare parts that a start-up test takes: of an engine, or the cache ways of a memory site. -/
def State.sparesTaken (s : State) (d : Nat) (r : TestFound) : State :=
  let s2 := if d < 8 then s.sparesUsed d r else s
  if 8 ≤ d ∧ d < 16 then { s2 with mem := { s2.mem with waysSpared := NTbl.put 0 s2.mem.waysSpared (d - 8) (min 2 r.ways) } } else s2

/-- The end of the release that awaits a start-up test. -/
def State.testEnds (s : State) (d : Nat) (bad : Bool) : State :=
  if s.boot.testing = some d then
    { s with boot := { s.boot with testing := none } }.clkResult s.boot.testSeq 3 (if bad then 5 else 0)
  else s

theorem execStartupTestDone_tests {s : State} {d : Nat} (r : TestFound) (hb : isBoot d = false) (hd : d < 25)
    (hr : s.f .CLK_DOM_STATUS_RELEASED d ≠ 0) (ht : s.f .CLK_DOM_STATUS_TESTED d ≠ 1) : exec (.startupTestDone d r) s
      = .next (let t := ((s.testShown d (testBad d r)).sparesTaken d r).testEnds d (testBad d r)
        if testBad d r then t.testFailed d else t) := by
  have hc : ¬(isBoot d ∨ 25 ≤ d ∨ s.f .CLK_DOM_STATUS_RELEASED d = 0 ∨ s.f .CLK_DOM_STATUS_TESTED d = 1) := by
    simp [hb, hr, ht]
    omega
  exact if_neg hc

/-- The fields that spare parts show in. -/
def spareFid : Fid → Bool
  | .CE_SPARE_USE_TA_COLS | .CE_SPARE_USE_TM_ROWS_MAX => true
  | _ => false

theorem State.f_sparesUsed (s : State) (e : Nat) (r : TestFound) {f : Fid} (h : spareFid f = false) (i j : Nat) :
    (s.sparesUsed e r).f f i j = s.f f i j := by
  have h1 : f ≠ .CE_SPARE_USE_TA_COLS := fun hf => by rw [hf] at h; cases h
  have h2 : f ≠ .CE_SPARE_USE_TM_ROWS_MAX := fun hf => by rw [hf] at h; cases h
  exact (foldl_leaves (fun s => s.f f i j) (fun (s : State) g => s.setF .CE_SPARE_USE_TA_COLS e g (r.cols.getD g 0)) _
    (fun _ _ => State.f_setF_fid _ _ h1) _).trans (State.f_setF_fid _ _ h2)

/-- The state without its fields. -/
def State.sansFields (s : State) : State := { s with flds := [] }

theorem State.sansFields_sparesUsed (s : State) (e : Nat) (r : TestFound) : (s.sparesUsed e r).sansFields = s.sansFields :=
  foldl_leaves State.sansFields (fun (s : State) g => s.setF .CE_SPARE_USE_TA_COLS e g (r.cols.getD g 0)) _ (fun _ _ => rfl) _

theorem State.f_sparesTaken (s : State) (d : Nat) (r : TestFound) {f : Fid} (h : spareFid f = false) (i j : Nat) :
    (s.sparesTaken d r).f f i j = s.f f i j := by
  have h2 : (if d < 8 then s.sparesUsed d r else s).f f i j = s.f f i j := by
    split
    · exact s.f_sparesUsed d r h i j
    · rfl
  unfold State.sparesTaken
  dsimp only
  split <;> exact h2

/-- The state without its fields and memory. -/
def State.sansMem (s : State) : State := { s with flds := [], mem := {} }

theorem State.sansMem_of_sansFields {s t : State} (h : s.sansFields = t.sansFields) : s.sansMem = t.sansMem := by
  change s.sansFields.sansMem = t.sansFields.sansMem
  rw [h]

theorem State.sansMem_sparesTaken (s : State) (d : Nat) (r : TestFound) : (s.sparesTaken d r).sansMem = s.sansMem := by
  have h2 : (if d < 8 then s.sparesUsed d r else s).sansMem = s.sansMem := by
    split
    · exact State.sansMem_of_sansFields (s.sansFields_sparesUsed d r)
    · rfl
  unfold State.sparesTaken
  dsimp only
  split <;> exact h2

theorem State.units_of_sansMem {s t : State} (h : s.sansMem = t.sansMem) : s.units = t.units := (congrArg State.units h :)

theorem State.doms_of_sansMem {s t : State} (h : s.sansMem = t.sansMem) : s.doms = t.doms := (congrArg State.doms h :)

theorem State.boot_of_sansMem {s t : State} (h : s.sansMem = t.sansMem) : s.boot = t.boot := (congrArg State.boot h :)

theorem State.testEnds_awaited {s : State} {d : Nat} (bad : Bool) (h : s.boot.testing = some d) : s.testEnds d bad =
    { s with boot := { s.boot with testing := none } }.clkResult s.boot.testSeq 3 (if bad then 5 else 0) := if_pos h

theorem State.testEnds_other {s : State} {d : Nat} (bad : Bool) (h : s.boot.testing ≠ some d) : s.testEnds d bad = s := if_neg h

theorem State.f_clkResult (s : State) (q p c : Nat) {f : Fid} (i j : Nat) (h1 : f ≠ .CLK_RELEASE_RESULT_SEQ)
    (h2 : f ≠ .CLK_RELEASE_RESULT_PHASE) (h3 : f ≠ .CLK_RELEASE_RESULT_CODE) : (s.clkResult q p c).f f i j = s.f f i j := by
  unfold State.clkResult
  rw [State.f_setF_fid _ _ h3, State.f_setF_fid _ _ h2, State.f_setF_fid _ _ h1]

theorem State.f_clkResult_shown (s : State) (q p c : Nat) : (s.clkResult q p c).f .CLK_RELEASE_RESULT_SEQ = q
    ∧ (s.clkResult q p c).f .CLK_RELEASE_RESULT_PHASE = p ∧ (s.clkResult q p c).f .CLK_RELEASE_RESULT_CODE = c := by
  unfold State.clkResult
  refine ⟨?_, ?_, State.f_setF_same ..⟩
  · rw [State.f_setF_fid _ _ (by decide), State.f_setF_fid _ _ (by decide), State.f_setF_same]
  · rw [State.f_setF_fid _ _ (by decide), State.f_setF_same]

theorem State.f_testEnds (s : State) (d : Nat) (bad : Bool) {f : Fid} (i j : Nat) (h1 : f ≠ .CLK_RELEASE_RESULT_SEQ)
    (h2 : f ≠ .CLK_RELEASE_RESULT_PHASE) (h3 : f ≠ .CLK_RELEASE_RESULT_CODE) : (s.testEnds d bad).f f i j = s.f f i j := by
  unfold State.testEnds
  split
  · exact State.f_clkResult _ _ _ _ i j h1 h2 h3
  · rfl

theorem State.units_testEnds (s : State) (d : Nat) (bad : Bool) : (s.testEnds d bad).units = s.units := by
  unfold State.testEnds
  split <;> rfl

theorem State.doms_testEnds (s : State) (d : Nat) (bad : Bool) : (s.testEnds d bad).doms = s.doms := by
  unfold State.testEnds
  split <;> rfl

/-- A start-up test without a fault beyond the spares. -/
theorem startupTest_good {s : State} {d : Nat} {r : TestFound} (hb : isBoot d = false) (hd : d < 25)
    (hr : s.f .CLK_DOM_STATUS_RELEASED d ≠ 0) (ht : s.f .CLK_DOM_STATUS_TESTED d ≠ 1) (hg : testBad d r = false) :
    ∃ t, exec (.startupTestDone d r) s = .next t ∧ t.f .CLK_DOM_STATUS_TESTED d = 1
      ∧ t.f .CLK_DOM_STATUS_TEST_FAIL d = 0 ∧ t.units = s.units ∧ t.doms = s.doms
      ∧ (s.boot.testing = some d → t.boot.testing = none ∧ t.f .CLK_RELEASE_RESULT_PHASE = 3
        ∧ t.f .CLK_RELEASE_RESULT_CODE = 0 ∧ t.f .CLK_RELEASE_RESULT_SEQ = s.boot.testSeq) := by
  have he := execStartupTestDone_tests r hb hd hr ht
  rw [hg] at he
  have hm : ((s.testShown d false).sparesTaken d r).sansMem = s.sansMem := State.sansMem_sparesTaken ..
  refine ⟨_, he, ?_, ?_, ?_, ?_, fun h => ?_⟩
  · refine (State.f_testEnds _ _ _ _ _ (by decide) (by decide) (by decide)).trans ((State.f_sparesTaken _ _ _ rfl _ _).trans ?_)
    exact (State.f_setF_fid _ _ (by decide)).trans (State.f_setF_same ..)
  · refine (State.f_testEnds _ _ _ _ _ (by decide) (by decide) (by decide)).trans ((State.f_sparesTaken _ _ _ rfl _ _).trans ?_)
    exact State.f_setF_same ..
  · exact (State.units_testEnds ..).trans (State.units_of_sansMem hm)
  · exact (State.doms_testEnds ..).trans (State.doms_of_sansMem hm)
  · have hboot := State.boot_of_sansMem hm
    have ha : ((s.testShown d false).sparesTaken d r).boot.testing = some d := by rw [hboot]; exact h
    show (State.testEnds _ d false).boot.testing = _ ∧ _
    rw [State.testEnds_awaited false ha]
    obtain ⟨hq, hp, hc⟩ := State.f_clkResult_shown { (s.testShown d false).sparesTaken d r with boot := { ((s.testShown d false).sparesTaken d r).boot with testing := none } }
      ((s.testShown d false).sparesTaken d r).boot.testSeq 3 0
    exact ⟨rfl, hp, hc, hq.trans (congrArg Boot.testSeq hboot)⟩

/-- A start-up test of a site domain that fails. -/
theorem startupTest_siteqFails {s : State} {d : Nat} {r : TestFound} (hb : isBoot d = false) (h17 : 17 ≤ d) (h20 : d ≤ 20)
    (hr : s.f .CLK_DOM_STATUS_RELEASED d ≠ 0) (ht : s.f .CLK_DOM_STATUS_TESTED d ≠ 1) (hg : testBad d r = true)
    (hn : s.boot.testing = none) : exec (.startupTestDone d r) s = .next ((domSites d).foldl
      State.siteTrainFail ((s.setF .CLK_DOM_STATUS_TESTED d 0 1).setF .CLK_DOM_STATUS_TEST_FAIL d 0 1)) := by
  have he := execStartupTestDone_tests r hb (by omega) hr ht
  rw [hg] at he
  have hs : (s.testShown d true).sparesTaken d r = s.testShown d true := by
    unfold State.sparesTaken
    rw [if_neg (by omega : ¬d < 8), if_neg (by omega)]
  have ha : (s.testShown d true).boot.testing ≠ some d := by
    show s.boot.testing ≠ some d
    rw [hn]
    simp
  rw [he, hs, State.testEnds_other true ha]
  refine congrArg Host.Outcome.next ((if_pos rfl).trans ?_)
  unfold State.testFailed
  rw [if_neg (by omega), if_neg (by omega)]
  rfl

/-- A life-cycle transition that is cut short leaves everything but fuses, security block and free choices. -/
theorem State.blowLcCut_cases (s : State) : ∃ f v k, s.blowLcCut = { s with fuses := f, sec := v, freeCtr := k } := by
  unfold State.blowLcCut
  split
  · exact ⟨s.fuses, s.sec, s.freeCtr, rfl⟩
  · dsimp only
    split
    · exact ⟨_, _, _, rfl⟩
    · split <;> exact ⟨_, _, _, rfl⟩

/-- One domain stops. -/
def State.stopOne (s : State) (d : Nat) : State :=
  let s1 := s.setDom d { s.dom d with running := false }
  if 8 ≤ d ∧ d < 16 ∧ (s.dom d).running then s1.emit (.pin (32 + (d - 8)) 0) else s1

theorem State.stopDoms_eq (s : State) (l : List Nat) : s.stopDoms l = l.foldl State.stopOne s := rfl

theorem State.doms_stopOne (s : State) (d : Nat) : (s.stopOne d).doms = (s.setDom d { s.dom d with running := false }).doms := by
  unfold State.stopOne
  dsimp only
  split <;> rfl

/-- The state without its domains and pins. -/
def State.sansDoms (s : State) : State := { s with doms := [], out := [] }

theorem State.sansDoms_stopOne (s : State) (d : Nat) : (s.stopOne d).sansDoms = s.sansDoms := by
  unfold State.stopOne
  dsimp only
  split <;> rfl

theorem State.sansDoms_stopDoms (s : State) (l : List Nat) : (s.stopDoms l).sansDoms = s.sansDoms :=
  foldl_leaves State.sansDoms State.stopOne l State.sansDoms_stopOne s

theorem State.running_stopOne (s : State) (d k : Nat) :
    ((s.stopOne d).dom k).running = ((s.dom k).running && decide (k ≠ d)) := by
  have h : (s.stopOne d).dom k = (s.setDom d { s.dom d with running := false }).dom k := by
    unfold State.dom
    rw [s.doms_stopOne]
    rfl
  rw [h]
  by_cases hk : k = d
  · subst hk
    rw [State.dom_setDom]
    simp
  · rw [State.dom_setDom_ne _ _ hk]
    simp [hk]

theorem State.running_stopDoms (s : State) (l : List Nat) (k : Nat) :
    ((s.stopDoms l).dom k).running = ((s.dom k).running && decide (k ∉ l)) := by
  rw [State.stopDoms_eq]
  induction l generalizing s with
  | nil => simp
  | cons d l ih =>
    rw [List.foldl_cons, ih, State.running_stopOne, Bool.and_assoc]
    congr 1
    simp [List.mem_cons, not_or]

theorem State.setRefclk_eq (s : State) (n : Nat) (b : Bool) : ∃ l o, s.setRefclk n b = { s with links := l, out := o } := by
  unfold State.setRefclk
  split
  · exact ⟨s.links, s.out, rfl⟩
  · exact ⟨_, _, rfl⟩

/-- The state without its links and pins. -/
def State.sansLinks (s : State) : State := { s with links := [], out := [] }

theorem State.sansLinks_setRefclk (s : State) (n : Nat) (b : Bool) : (s.setRefclk n b).sansLinks = s.sansLinks := by
  obtain ⟨l, o, h⟩ := s.setRefclk_eq n b
  rw [h]
  rfl

theorem State.aon_of_sansLinks {s t : State} (h : s.sansLinks = t.sansLinks) : s.aon = t.aon := (congrArg State.aon h :)

theorem State.doms_of_sansLinks {s t : State} (h : s.sansLinks = t.sansLinks) : s.doms = t.doms := (congrArg State.doms h :)

theorem State.units_of_sansLinks {s t : State} (h : s.sansLinks = t.sansLinks) : s.units = t.units := (congrArg State.units h :)

theorem State.aon_of_sansDoms {s t : State} (h : s.sansDoms = t.sansDoms) : s.aon = t.aon := (congrArg State.aon h :)

theorem State.units_of_sansDoms {s t : State} (h : s.sansDoms = t.sansDoms) : s.units = t.units := (congrArg State.units h :)

theorem State.aon_sheafStop (s : State) : s.sheafStop.aon = s.aon :=
  foldl_leaves State.aon _ _ (fun s x => by split <;> rfl) s

theorem State.doms_sheafStop (s : State) : s.sheafStop.doms = s.doms :=
  foldl_leaves State.doms _ _ (fun s x => by split <;> rfl) s

theorem State.units_sheafStop (s : State) : s.sheafStop.units = s.units :=
  foldl_leaves State.units _ _ (fun s x => by split <;> rfl) s

/-- What a lost reference stops, before it shows in the domain that is always on. -/
def State.refStopped (s : State) : State :=
  (List.range 8).foldl (fun s n => s.setRefclk n false)
    (((s.blowLcCut.raise 0x9088 sevModuleFatal 0 0 []).stopDoms (List.range 24)).sheafStop)

/-- The loss of the reference shows in the domain that is always on, and no plane of the mesh moves. -/
def State.refShown (s : State) : State :=
  { s with aon := { s.aon with refLost := true, due := none }, mesh := { s.mesh with stopped := 15 } }

theorem execClkRefLost_stops {s : State} (hp : s.aon.porstLow = false) (hr : s.aon.refLost = false) :
    exec .clkRefLost s = .next s.refStopped.refShown := by
  have hc : ¬(s.aon.porstLow ∨ s.aon.refLost) := by simp [hp, hr]
  show execClkRefLost s = _
  unfold execClkRefLost
  rw [if_neg hc]
  unfold State.refStopped State.refShown
  dsimp only

/-- What shows of it besides is as it was. -/
theorem State.refShown_keeps (s : State) : s.refShown.aon.refLost = true ∧ s.refShown.aon.alert = s.aon.alert
    ∧ (∀ k, s.refShown.dom k = s.dom k) ∧ s.refShown.units = s.units := ⟨rfl, rfl, fun _ => rfl, rfl⟩

theorem State.refStopped_stops (s : State) : s.refStopped.aon.alert = true ∧ (∀ k, k < 24 → (s.refStopped.dom k).running = false)
    ∧ s.refStopped.units = s.units := by
  have hl := foldl_leaves State.sansLinks (fun (s : State) n => s.setRefclk n false) (List.range 8) (fun s n => s.sansLinks_setRefclk n false)
    (((s.blowLcCut.raise 0x9088 sevModuleFatal 0 0 []).stopDoms (List.range 24)).sheafStop)
  have hd := State.sansDoms_stopDoms (s.blowLcCut.raise 0x9088 sevModuleFatal 0 0 []) (List.range 24)
  obtain ⟨f, v, k, hcut⟩ := s.blowLcCut_cases
  refine ⟨?_, fun k hk => ?_, ?_⟩
  · unfold State.refStopped
    rw [State.aon_of_sansLinks hl, State.aon_sheafStop, State.aon_of_sansDoms hd]
    exact State.alert_raise_moduleFatal ..
  · have hdoms : s.refStopped.doms = ((s.blowLcCut.raise 0x9088 sevModuleFatal 0 0 []).stopDoms (List.range 24)).doms := by
      unfold State.refStopped
      rw [State.doms_of_sansLinks hl, State.doms_sheafStop]
    have hrun := State.running_stopDoms (s.blowLcCut.raise 0x9088 sevModuleFatal 0 0 []) (List.range 24) k
    unfold State.dom at hrun ⊢
    rw [hdoms, hrun, decide_eq_false (by simpa using hk), Bool.and_false]
  · unfold State.refStopped
    rw [State.units_of_sansLinks hl, State.units_sheafStop, State.units_of_sansDoms hd, State.units_raise, hcut]

theorem execClkUnlock_runs {s : State} {d : Nat} (hd : d < 24) (hr : (s.dom d).running = true) : exec (.clkUnlock d) s =
    (let s1 := s.setF .CLK_DOM_STATUS_LOCKED d 0 0
     if d < 8 then .next ((s1.raise 0x9080 sevUnitFatal 1 d [d]).engineFault d 2 true false)
     else if 17 ≤ d ∧ d ≤ 20 then
       .next ((domSites d).foldl (fun s n => s.siteFailed n 0 false) (s1.raise 0x9080 sevUnitFatal 5 ((domSites d).headD 0) [d]))
     else .next ((s1.raise 0x9080 sevModuleFatal 0 d [d]).domFault d)) := by
  have hc : ¬(24 ≤ d ∨ !(s.dom d).running) := by
    simp [hr]
    omega
  exact if_neg hc

/-- Settles O28. -/
theorem clockEvents : Obligations.ClockEvents := by
  intro s d
  refine ⟨execPllLock_locks, fun r => startupTest_good, fun r => startupTest_siteqFails, fun hp hr => ?_, fun hd hr => ?_,
    fun h17 h20 hr => ?_, fun hd hr => ?_⟩
  · obtain ⟨ha, hd, hu⟩ := s.refStopped_stops
    obtain ⟨hlost, halert, hdom, hunits⟩ := s.refStopped.refShown_keeps
    exact ⟨_, execClkRefLost_stops hp hr, hlost, halert.trans ha, fun k hk => (congrArg Dom.running (hdom k)).trans (hd k hk),
      hunits.trans hu⟩
  · exact (execClkUnlock_runs (by omega) hr).trans (if_pos hd)
  · exact (execClkUnlock_runs (by omega) hr).trans ((if_neg (by omega)).trans (if_pos ⟨h17, h20⟩))
  · exact (execClkUnlock_runs (by omega) hr).trans ((if_neg (by omega)).trans (if_neg (by omega)))

end Sys2Proof.Machine
end

section
/-! Training, the training record, and the end of memory initialisation (14 R532-R540; 05 R218, R225). -/

namespace Sys2Proof.Machine

/-! ### The end of training -/

/-- What shows of a training that ends without a failed channel. -/
def State.trainShown (s : State) (j : TrainJob) : State :=
  let s1 := ((s.orF .GLB_TRAIN_STATUS_STACK_DONE 0 0 j.stks).orF .GLB_TRAIN_STATUS_STACK_FULL 0 0 j.stks).orF
    .GLB_TRAIN_STATUS_SITE_DONE 0 0 (maskOf ((maskList 8 j.sites).filter s.linkUp))
  ({ s1 with boot := { s1.boot with job := none, trained := s1.boot.trained ||| j.stks } }).setF .GLB_TRAIN_STATUS_STATE 0 0 3

theorem execTrainDone_clean {s : State} {j : TrainJob} (hj : s.boot.job = some j) (hr : j.replay = false) :
    ∃ result, exec (.trainDone [] 0) s = .next ((s.trainShown j).trainEvent result) := by
  have hc : ¬(j.replay = true ∧ (!j.wearOnly) = true) := fun h => by simp [hr] at h
  show ∃ result, execTrainDone [] 0 s = _
  unfold execTrainDone
  rw [hj]
  dsimp only
  rw [if_neg hc, if_neg hc]
  exact ⟨_, rfl⟩

theorem State.f_trainEvent (s : State) (result : Nat) (f : Fid) (i j : Nat) (h : eventFid f = false) (hr : f ≠ .GLB_TRAIN_STATUS_RESULT) :
    (s.trainEvent result).f f i j = s.f f i j := by
  unfold State.trainEvent
  rw [State.f_raise _ _ _ _ _ _ _ _ f i j h, State.f_setF_fid _ _ hr]

theorem State.trainEvent_keeps (s : State) (result : Nat) : (s.trainEvent result).boot = s.boot ∧ (s.trainEvent result).units = s.units
    ∧ (s.trainEvent result).hl.moduleSeq = s.hl.moduleSeq + 1 := by
  unfold State.trainEvent
  rw [State.boot_raise, State.units_raise, State.raise_seq]
  exact ⟨rfl, rfl, rfl⟩

theorem State.f_trainShown (s : State) (j : TrainJob) : (s.trainShown j).f .GLB_TRAIN_STATUS_STATE = 3
    ∧ (s.trainShown j).f .GLB_TRAIN_STATUS_STACK_DONE = s.f .GLB_TRAIN_STATUS_STACK_DONE ||| j.stks
    ∧ (s.trainShown j).f .GLB_TRAIN_STATUS_STACK_FULL = s.f .GLB_TRAIN_STATUS_STACK_FULL ||| j.stks := by
  have hf : ∀ f, f ≠ .GLB_TRAIN_STATUS_STATE → (s.trainShown j).f f =
      (((s.orF .GLB_TRAIN_STATUS_STACK_DONE 0 0 j.stks).orF .GLB_TRAIN_STATUS_STACK_FULL 0 0 j.stks).orF
        .GLB_TRAIN_STATUS_SITE_DONE 0 0 (maskOf ((maskList 8 j.sites).filter s.linkUp))).f f := fun f h => State.f_setF_fid _ _ h
  refine ⟨State.f_setF_same .., ?_, ?_⟩
  · rw [hf _ (by decide)]
    unfold State.orF
    rw [State.f_setF_fid _ _ (by decide), State.f_setF_fid _ _ (by decide), State.f_setF_same]
  · rw [hf _ (by decide)]
    unfold State.orF
    rw [State.f_setF_fid _ _ (by decide), State.f_setF_same, State.f_setF_fid _ _ (by decide)]

theorem trainingEnds {s : State} {j : TrainJob} (hj : s.boot.job = some j) (hr : j.replay = false) :
    ∃ t, exec (.trainDone [] 0) s = .next t ∧ t.boot.job = none
      ∧ t.boot.trained = s.boot.trained ||| j.stks ∧ t.f .GLB_TRAIN_STATUS_STATE = 3
      ∧ t.f .GLB_TRAIN_STATUS_STACK_DONE = s.f .GLB_TRAIN_STATUS_STACK_DONE ||| j.stks
      ∧ t.f .GLB_TRAIN_STATUS_STACK_FULL = s.f .GLB_TRAIN_STATUS_STACK_FULL ||| j.stks
      ∧ t.hl.moduleSeq = s.hl.moduleSeq + 1 ∧ t.units = s.units := by
  obtain ⟨result, he⟩ := execTrainDone_clean hj hr
  obtain ⟨hboot, hunits, hseq⟩ := (s.trainShown j).trainEvent_keeps result
  obtain ⟨hst, hdone, hfull⟩ := s.f_trainShown j
  have hf := fun f => (s.trainShown j).f_trainEvent result f 0 0
  refine ⟨_, he, by rw [hboot]; rfl, by rw [hboot]; rfl, ?_, ?_, ?_, hseq, hunits⟩
  · rw [hf _ rfl (by decide), hst]
  · rw [hf _ rfl (by decide), hdone]
  · rw [hf _ rfl (by decide), hfull]

/-! ### The training record -/

/-- What REC_UPDATED does once no earlier command of SB waits. -/
def rewriteRecord (s : State) : Res :=
  if s.f .GLB_REC_STATUS_STALE = 0 ∨ s.f .GLB_REC_STATUS_VALID = 0 then .next s
  else
    let gen := s.f .GLB_REC_STATUS_GEN + 1
    .next ((((s.setF .GLB_REC_STATUS_GEN 0 0 gen).setF .GLB_REC_STATUS_STALE 0 0 0).writeRecordRegion).raise 0x0058 sevNone 0 0 [gen])

theorem execRecUpdated_eq (s : State) : exec .recUpdated s = parkIf .recUpdated (ParkKey.master 0x61).no rewriteRecord s := rfl

theorem recordRewritten {s : State} (hs : s.f .GLB_REC_STATUS_STALE ≠ 0) (hv : s.f .GLB_REC_STATUS_VALID ≠ 0)
    (hu : s.unheld (.master 0x61)) : s.comes .recUpdated .recUpdated (.master 0x61)
      (((s.arm.setF .GLB_REC_STATUS_GEN 0 0 (s.f .GLB_REC_STATUS_GEN + 1)).setF .GLB_REC_STATUS_STALE 0 0 0).writeRecordRegion.raise
        0x0058 sevNone 0 0 [s.f .GLB_REC_STATUS_GEN + 1]) := by
  have hc : ¬(s.arm.f .GLB_REC_STATUS_STALE = 0 ∨ s.arm.f .GLB_REC_STATUS_VALID = 0) := by
    rw [State.f_arm, State.f_arm]
    exact not_or_intro hs hv
  refine State.comesTo_of (execRecUpdated_eq s) ((if_neg hc).trans ?_) hu
  rw [State.f_arm]

theorem trainBytes_length (c gen : Nat) : (trainBytes c gen).length = 256 := by
  simp [trainBytes]

theorem State.record_length (s : State) : s.record.length = recordLen := by
  have hb : s.recordBytes.length = 100352 := by
    simp only [State.recordBytes, List.length_append, slice_length, List.length_flatMap, trainBytes_length, List.map_const',
      List.sum_replicate, List.length_range, smul_eq_mul]
  unfold State.record
  dsimp only
  rw [List.length_append, hb]
  split
  · rw [List.length_replicate]
    rfl
  · rw [slice_length]
    rfl

/-- Writing the record leaves what lies below its region. -/
theorem State.writeRecordRegion_accesses (s : State) : s.Accesses recordBase s.writeRecordRegion :=
  (State.Accesses.refl s).wr (.inr ⟨rfl, by decide, by rw [s.record_length]; decide⟩)

/-! ### The end of memory initialisation -/

/-- A site shows that its memory is zero. -/
def State.siteCleared (s : State) (n : Nat) : State := (s.setF .MEM_STATUS_INIT_DONE n 0 1).setMsite n { s.msite n with combInUse := 0 }

/-- Memory is zero, and shows so in each site. -/
def State.memCleared (s : State) : State :=
  let s1 := { s with mem := { s.mem with cells := [], poison := [], tag := [], base := [], llc := [], comb := [], inited := true } }
  (List.range 8).foldl State.siteCleared s1

/-- The record region and the number of usable granules show. -/
def State.memOpened (s : State) : State := ((s.setF .MEM_INIT_STATE 0 0 2).setAvail).setF .GLB_REC_STATUS_VALID 0 0 1

theorem execMemInitDone_good {s : State} (h1 : s.f .MEM_INIT_STATE = 1) (hr : s.mem.relocR ≤ 128)
    (hn : ∀ n, n < 8 → (s.unit .memSite n).st ≠ some .failed) : exec .memInitDone s
      = .next (s.memCleared.memOpened.writeRecordRegion.setF .HL_STATUS_STAGE 0 0 2) := by
  have hc : ¬(128 < s.mem.relocR ∨ (List.range 8).any (fun n => decide ((s.unit .memSite n).st = some .failed))) := by
    rintro (h | h)
    · omega
    · obtain ⟨n, hm, hf⟩ := List.any_eq_true.mp h
      exact hn n (List.mem_range.mp hm) (of_decide_eq_true hf)
  exact (if_neg (not_not.mpr h1)).trans (if_neg hc)

theorem execMemInitDone_bad {s : State} (h1 : s.f .MEM_INIT_STATE = 1)
    (hb : 128 < s.mem.relocR ∨ ∃ n, n < 8 ∧ (s.unit .memSite n).st = some .failed) : exec .memInitDone s
      = .next ((s.setF .MEM_INIT_STATE 0 0 3).raise 0x2060 sevModuleFatal 0 0 [s.mem.relocR]) := by
  have hc : 128 < s.mem.relocR ∨ (List.range 8).any (fun n => decide ((s.unit .memSite n).st = some .failed)) := by
    refine hb.imp id fun ⟨n, hn, hf⟩ => List.any_eq_true.mpr ⟨n, List.mem_range.mpr hn, decide_eq_true hf⟩
  exact (if_neg (not_not.mpr h1)).trans (if_pos hc)

theorem State.f_siteCleared (s : State) (k : Nat) (f : Fid) (i j : Nat) :
    (s.siteCleared k).f f i j = (s.setF .MEM_STATUS_INIT_DONE k 0 1).f f i j := rfl

theorem State.memCleared_done (s : State) {n : Nat} (h : n < 8) : s.memCleared.f .MEM_STATUS_INIT_DONE n = 1 := by
  unfold State.memCleared
  refine foldl_one (p := fun s : State => s.f .MEM_STATUS_INIT_DONE n) (g := State.siteCleared) (l := List.range 8) (x := n) (fun _ => 1)
    (List.mem_range.mpr h) List.nodup_range (fun k _ hk s => ?_) (fun s => ?_) _
  · have hne : (Fid.MEM_STATUS_INIT_DONE, n, 0) ≠ (Fid.MEM_STATUS_INIT_DONE, k, 0) := fun he => hk (congrArg (fun x => x.2.1) he).symm
    exact (s.f_siteCleared k _ n 0).trans (s.f_setF_ne 1 hne)
  · exact (s.f_siteCleared n _ n 0).trans (s.f_setF_same _ n 0 1)

theorem State.memCleared_mem (s : State) : s.memCleared.mem.cells = [] ∧ s.memCleared.mem.inited = true
    ∧ s.memCleared.mem.relocR = s.mem.relocR ∧ s.memCleared.sec = s.sec := by
  have h := foldl_leaves (fun s : State => (s.mem.cells, s.mem.inited, s.mem.relocR, s.sec)) State.siteCleared (List.range 8) (fun _ _ => rfl)
    { s with mem := { s.mem with cells := [], poison := [], tag := [], base := [], llc := [], comb := [], inited := true } }
  simp only [Prod.mk.injEq] at h
  exact h

theorem State.f_setAvail (s : State) {f : Fid} (h1 : f ≠ .GLB_GRAN_AVAIL_AVAIL) (h2 : f ≠ .GLB_GRAN_COUNT_COUNT) (i j : Nat) :
    s.setAvail.f f i j = s.f f i j :=
  (State.f_setF_fid _ _ h2).trans (foldl_leaves (fun s : State => s.f f i j) _ _ (fun _ _ => State.f_setF_fid _ _ h1) s)

theorem State.f_setAvail_count (s : State) : s.setAvail.f .GLB_GRAN_COUNT_COUNT = 509 - 2 * s.mem.relocR := State.f_setF_same ..

theorem State.sansFields_setF (s : State) (f : Fid) (i j v : Nat) : (s.setF f i j v).sansFields = s.sansFields := rfl

theorem State.sansFields_setAvail (s : State) : s.setAvail.sansFields = s.sansFields := by
  unfold State.setAvail
  rw [State.sansFields_setF]
  exact foldl_leaves State.sansFields _ _ (fun _ _ => State.sansFields_setF ..) s

theorem State.mem_of_sansFields {s t : State} (h : s.sansFields = t.sansFields) : s.mem = t.mem := (congrArg State.mem h :)

theorem State.sec_of_sansFields {s t : State} (h : s.sansFields = t.sansFields) : s.sec = t.sec := (congrArg State.sec h :)

theorem State.memOpened_mem (s : State) : s.memOpened.mem = s.mem ∧ s.memOpened.sec = s.sec :=
  ⟨(State.mem_setF ..).trans ((State.mem_of_sansFields (State.sansFields_setAvail _)).trans (State.mem_setF ..)),
    (State.sec_setF ..).trans ((State.sec_of_sansFields (State.sansFields_setAvail _)).trans (State.sec_setF ..))⟩

theorem State.f_memOpened (s : State) : s.memOpened.f .MEM_INIT_STATE = 2 ∧ s.memOpened.f .GLB_GRAN_COUNT_COUNT = 509 - 2 * s.mem.relocR
    ∧ ∀ n, s.memOpened.f .MEM_STATUS_INIT_DONE n = s.f .MEM_STATUS_INIT_DONE n := by
  refine ⟨?_, ?_, fun n => ?_⟩
  · unfold State.memOpened
    rw [State.f_setF_fid _ _ (by decide), State.f_setAvail _ (by decide) (by decide), State.f_setF_same]
  · unfold State.memOpened
    rw [State.f_setF_fid _ _ (by decide), State.f_setAvail_count, State.mem_setF]
  · unfold State.memOpened
    rw [State.f_setF_fid _ _ (by decide), State.f_setAvail _ (by decide) (by decide), State.f_setF_fid _ _ (by decide)]

/-- Settles O30. -/
theorem trainingAndMemoryInit : Obligations.TrainingAndMemoryInit := by
  intro s
  refine ⟨fun j => trainingEnds, recordRewritten, fun h1 hr ht hn => ?_, execMemInitDone_bad⟩
  obtain ⟨hcells, hinit, hreloc, hsec⟩ := s.memCleared_mem
  obtain ⟨hmem, hsec2⟩ := s.memCleared.memOpened_mem
  obtain ⟨hstate, hcount, hdone⟩ := s.memCleared.f_memOpened
  have hw := s.memCleared.memOpened.writeRecordRegion_accesses
  have hf : ∀ f i, f ≠ .HL_STATUS_STAGE → accessFid f = false → (s.memCleared.memOpened.writeRecordRegion.setF .HL_STATUS_STAGE 0 0 2).f f i
      = s.memCleared.memOpened.f f i := fun f i h1 h2 => (State.f_setF_fid _ _ h1).trans (hw.fld f i 0 h2)
  refine ⟨_, execMemInitDone_good h1 hr hn, ?_, State.f_setF_same .., ?_, fun n hn => ?_, ?_, fun a ha => ?_⟩
  · rw [hf _ _ (by decide) rfl, hstate]
  · rw [State.mem_setF, hw.inited, hmem, hinit]
  · rw [hf _ _ (by decide) rfl, hdone, s.memCleared_done hn]
  · rw [hf _ _ (by decide) rfl, hcount, hreloc]
  · rw [State.mem_setF, hw.low (by rw [hsec2, hsec]; exact ht) a ha, hmem, hcells]
    rfl

end Sys2Proof.Machine
end

section
/-! Fields of a word beside one that was put, and the queue registers of an engine (04 R131-R138, R166). -/

namespace Sys2Proof.Machine

/-! ### Fields beside one that was put -/

theorem putBits_mod {v hi lo x : Nat} (h : lo ≤ hi) : putBits v hi lo x % 2 ^ lo = v % 2 ^ lo := by
  obtain ⟨w, rfl⟩ := Nat.exists_eq_add_of_le h
  unfold putBits
  rw [show lo + w + 1 = (w + 1) + lo by omega, Nat.pow_add, ← Nat.mul_assoc, ← Nat.add_mul, Nat.mul_add_mod_self_right, Nat.mod_mod]

theorem putBits_div {v hi lo x : Nat} (h : lo ≤ hi) : putBits v hi lo x / 2 ^ (hi + 1) = v / 2 ^ (hi + 1) := by
  have hx : x % 2 ^ (hi + 1 - lo) * 2 ^ lo + v % 2 ^ lo < 2 ^ (hi + 1) := by
    have h1 : x % 2 ^ (hi + 1 - lo) + 1 ≤ 2 ^ (hi + 1 - lo) := Nat.mod_lt _ (Nat.two_pow_pos _)
    have h2 : v % 2 ^ lo < 2 ^ lo := Nat.mod_lt _ (Nat.two_pow_pos _)
    have h3 : (x % 2 ^ (hi + 1 - lo) + 1) * 2 ^ lo ≤ 2 ^ (hi + 1 - lo) * 2 ^ lo := Nat.mul_le_mul_right _ h1
    rw [← Nat.pow_add, show hi + 1 - lo + lo = hi + 1 by omega, Nat.add_mul] at h3
    omega
  unfold putBits
  rw [Nat.add_assoc, Nat.add_comm, Nat.add_mul_div_right _ _ (Nat.two_pow_pos _), Nat.div_eq_of_lt hx, Nat.zero_add]

theorem bits_mod {v hi lo k : Nat} (h : hi + 1 ≤ k) : bits (v % 2 ^ k) hi lo = bits v hi lo := by
  unfold bits
  by_cases hl : lo ≤ hi + 1
  · obtain ⟨w, hw⟩ := Nat.exists_eq_add_of_le hl
    obtain ⟨u, rfl⟩ := Nat.exists_eq_add_of_le h
    rw [hw, show lo + w - lo = w by omega, Nat.add_assoc, Nat.pow_add 2 lo, Nat.mod_mul_right_div_self, Nat.pow_add,
      Nat.mod_mul_right_mod]
  · rw [show hi + 1 - lo = 0 by omega]
    simp [Nat.mod_one]

theorem bits_div {v hi lo k : Nat} (h : k ≤ lo) : bits v hi lo = v / 2 ^ k / 2 ^ (lo - k) % 2 ^ (hi + 1 - lo) := by
  unfold bits
  rw [Nat.div_div_eq_div_mul, ← Nat.pow_add, show k + (lo - k) = lo by omega]

/-- A field below the one that was put. -/
theorem bits_putBits_below {v hi lo hi2 lo2 x : Nat} (h : lo ≤ hi) (hb : hi2 < lo) : bits (putBits v hi lo x) hi2 lo2 = bits v hi2 lo2 := by
  rw [← bits_mod (v := putBits v hi lo x) (k := lo) hb, putBits_mod h, bits_mod hb]

/-- A field above the one that was put. -/
theorem bits_putBits_above {v hi lo hi2 lo2 x : Nat} (h : lo ≤ hi) (hb : hi < lo2) : bits (putBits v hi lo x) hi2 lo2 = bits v hi2 lo2 := by
  rw [bits_div (k := hi + 1) hb, putBits_div h, ← bits_div (k := hi + 1) hb]

theorem bits_setBit_ne {v i hi lo : Nat} (b : Bool) (h : hi < i ∨ i < lo) : bits (setBit v i b) hi lo = bits v hi lo := by
  unfold setBit
  obtain h | h := h
  · exact bits_putBits_below (Nat.le_refl i) h
  · exact bits_putBits_above (Nat.le_refl i) h

/-! ### The queue registers -/

theorem State.wqTail_same {s : State} {e q t : Nat} (h : t = s.f .CE_WQ_TAIL_TAIL e q) : s.wqTail e q t = (hOk, s) := if_pos h

theorem State.wqTail_moves {s : State} {e q t : Nat} (ho : s.tailOk e q t = true) (hn : t ≠ s.f .CE_WQ_TAIL_TAIL e q) :
    s.wqTail e q t = (hOk, if s.pstate e = 1 ∧ s.qstate e q ≠ qDisabled ∧ s.qhead e q ≠ t then
      (s.setF .CE_WQ_TAIL_TAIL e q t).setF .CE_STATUS_PSTATE e 0 0 else s.setF .CE_WQ_TAIL_TAIL e q t) := by
  have hp : (s.setF .CE_WQ_TAIL_TAIL e q t).pstate e = s.pstate e := State.f_setF_fid _ _ (by decide)
  have hq : (s.setF .CE_WQ_TAIL_TAIL e q t).qstate e q = s.qstate e q := State.f_setF_fid _ _ (by decide)
  have hh : (s.setF .CE_WQ_TAIL_TAIL e q t).qhead e q = s.qhead e q := State.f_setF_fid _ _ (by decide)
  unfold State.wqTail
  dsimp only
  rw [if_neg hn, ho, Bool.not_true, if_neg Bool.false_ne_true, hp, hq, hh]

theorem State.cqHead_same {s : State} {e q h : Nat} (hs : h = s.f .CE_CQ_HEAD_HEAD e q) : s.cqHead e q h = (hOk, s) := if_pos hs

theorem State.cqHead_moves {s : State} {e q h : Nat}
    (h1 : idxDist (s.f .CE_WQ_STATUS_CQ_TAIL e q) h ≤ 2 ^ s.f .CE_CQ_CFG_LOG2_SIZE e q)
    (h2 : idxDist h (s.f .CE_CQ_HEAD_HEAD e q) < 2 ^ 31) (hn : h ≠ s.f .CE_CQ_HEAD_HEAD e q) :
    s.cqHead e q h = (hOk, s.setF .CE_CQ_HEAD_HEAD e q h) := (if_neg hn).trans (if_pos ⟨h1, h2⟩)

/-- A queue that is enabled: its configuration is set and it is empty. -/
def State.queueEmptied (s : State) (e q lg prio : Nat) : State :=
  let s1 := ((s.setF .CE_WQ_CFG_LOG2_SIZE e q lg).setF .CE_WQ_CFG_PRIORITY e q prio).setF .CE_WQ_CFG_ENABLE e q 1
  let s2 := (((s1.dropAhead e q).setF .CE_WQ_HEAD_HEAD e q 0).setF .CE_WQ_TAIL_TAIL e q 0).setF .CE_CQ_HEAD_HEAD e q 0
  (s2.setF .CE_WQ_STATUS_CQ_TAIL e q 0).setF .CE_WQ_STATUS_STATE e q qRunning

theorem State.wqCfg_enables {s : State} {e q lg prio resume : Nat} (hd : s.qstate e q = qDisabled)
    (hw : s.ringOk (s.plotOfEngine e) (s.f .CE_WQ_BASE_BASE e q * 4096) (2 ^ lg * 128) false = true)
    (hc : s.ringOk (s.plotOfEngine e) (s.f .CE_CQ_BASE_BASE e q * 4096) (2 ^ s.f .CE_CQ_CFG_LOG2_SIZE e q * 32) true = true) :
    s.wqCfg e q lg prio resume 1 = (hOk, s.queueEmptied e q lg prio) := by
  unfold State.wqCfg
  dsimp only
  rw [if_neg (fun h => h.1 hd), if_pos hd, if_pos rfl]
  unfold State.queueEnable
  dsimp only
  rw [hw, hc, Bool.and_self, if_pos rfl]
  rfl

theorem State.f_dropAhead (s : State) (e q : Nat) (f : Fid) (i j : Nat) : (s.dropAhead e q).f f i j = s.f f i j := rfl

/-- The fields of a queue that is enabled. -/
theorem State.f_queueEmptied (s : State) (e q lg prio : Nat) : let t := s.queueEmptied e q lg prio
    t.qstate e q = qRunning ∧ t.qhead e q = 0 ∧ t.f .CE_WQ_TAIL_TAIL e q = 0 ∧ t.f .CE_CQ_HEAD_HEAD e q = 0
      ∧ t.f .CE_WQ_STATUS_CQ_TAIL e q = 0 ∧ t.f .CE_WQ_CFG_ENABLE e q = 1 := by
  simp [State.queueEmptied, State.qstate, State.qhead, State.f_dropAhead]

theorem State.f_queueEmptied_other (s : State) {e q k l : Nat} (lg prio : Nat) (f : Fid) (h : (k, l) ≠ (e, q)) :
    (s.queueEmptied e q lg prio).f f k l = s.f f k l := by
  have hne : ∀ g : Fid, (f, k, l) ≠ (g, e, q) := fun g hg => h (congrArg Prod.snd hg)
  unfold State.queueEmptied
  simp only [State.f_setF_ne _ _ (hne _), State.f_dropAhead]

theorem State.queueEmptied_keeps (s : State) (e q lg prio : Nat) : (s.queueEmptied e q lg prio).mem = s.mem
    ∧ (s.queueEmptied e q lg prio).eng e = { s.eng e with ahead := (s.eng e).ahead.filter (fun x => x.q != q) }
    ∧ ∀ k, k ≠ e → (s.queueEmptied e q lg prio).eng k = s.eng k := by
  have he : ∀ k, (s.queueEmptied e q lg prio).eng k = (s.setEng e { s.eng e with ahead := (s.eng e).ahead.filter (fun x => x.q != q) }).eng k :=
    fun _ => rfl
  refine ⟨rfl, ?_, fun k hk => ?_⟩
  · rw [he, State.eng_setEng]
  · rw [he, State.eng_setEng_ne _ _ hk]

/-- A queue that is being disabled. -/
def State.queueStopping (s : State) (e q prio : Nat) : State :=
  ((s.setF .CE_WQ_CFG_PRIORITY e q prio).setF .CE_WQ_CFG_ENABLE e q 0).setF .CE_WQ_STATUS_STATE e q qStopping

theorem State.wqCfg_disables {s : State} {e q lg prio resume : Nat} (hs : s.qstate e q = qRunning ∨ s.qstate e q = qHalted)
    (hl : lg = s.f .CE_WQ_CFG_LOG2_SIZE e q) : s.wqCfg e q lg prio resume 0 = (hOk, (s.queueStopping e q prio).settleQueue e q) := by
  have h0 : s.qstate e q ≠ qDisabled := by
    obtain h | h := hs <;> rw [h] <;> decide
  have h3 : s.qstate e q ≠ qStopping := by
    obtain h | h := hs <;> rw [h] <;> decide
  unfold State.wqCfg
  dsimp only
  rw [if_neg (fun h => h.2 hl), if_neg h0, if_neg h3, if_pos rfl]
  rfl

theorem State.qstate_queueStopping (s : State) (e q prio : Nat) : (s.queueStopping e q prio).qstate e q = qStopping := State.f_setF_same ..

theorem State.settleQueue_idle {s : State} {e q : Nat} (hs : s.qstate e q = qStopping) (hf : (s.eng e).first q = none) :
    s.settleQueue e q = (s.setF .CE_WQ_STATUS_STATE e q qDisabled).setF .CE_WQ_CFG_ENABLE e q 0 := if_pos ⟨hs, by rw [hf]; rfl⟩

theorem State.settleQueue_busy {s : State} {e q : Nat} (hf : (s.eng e).first q ≠ none) : s.settleQueue e q = s := by
  have hn : ((s.eng e).first q).isNone = false := by
    cases h : (s.eng e).first q
    · exact absurd h hf
    · rfl
  exact if_neg fun h => by rw [hn] at h; exact Bool.false_ne_true h.2

theorem State.f_queueStopping_other (s : State) {e q k l : Nat} (prio : Nat) (f : Fid) (h : (k, l) ≠ (e, q)) :
    (s.queueStopping e q prio).f f k l = s.f f k l := by
  have hne : ∀ g : Fid, (f, k, l) ≠ (g, e, q) := fun g hg => h (congrArg Prod.snd hg)
  unfold State.queueStopping
  simp only [State.f_setF_ne _ _ (hne _)]

theorem State.wqCfg_resumes {s : State} {e q lg prio : Nat} (hs : s.qstate e q = qHalted) (hl : lg = s.f .CE_WQ_CFG_LOG2_SIZE e q) :
    s.wqCfg e q lg prio 1 1
      = (hOk, ((s.setF .CE_WQ_CFG_PRIORITY e q prio).dropAhead e q).setF .CE_WQ_STATUS_STATE e q qRunning) := by
  unfold State.wqCfg
  dsimp only
  rw [if_neg (fun h => h.2 hl), hs, if_neg (by decide), if_neg (by decide), if_neg (by decide), if_pos ⟨rfl, rfl⟩]

/-- A disabled queue with nothing running. -/
theorem queueDisabled {s : State} {m : Master} {e q : Nat} {v : Word} (hs : s.qstate e q = qRunning ∨ s.qstate e q = qHalted)
    (hl : bits v.toNat 19 16 = s.f .CE_WQ_CFG_LOG2_SIZE e q) :
    writeGives (.queueDisable m e q v) m .CE_WQ_CFG e q (setBit v.toNat 0 false) s
      ((s.queueStopping e q (bits v.toNat 9 8)).settleQueue e q) := by
  refine writeGives_of (fun _ => rfl) ?_
  have h19 : bits (setBit v.toNat 0 false) 19 16 = bits v.toNat 19 16 := bits_setBit_ne _ (by omega)
  have h9 : bits (setBit v.toNat 0 false) 9 8 = bits v.toNat 9 8 := bits_setBit_ne _ (by omega)
  have h0 : bits (setBit v.toNat 0 false) 0 0 = 0 := bits_setBit _ _ _
  show s.wqCfg e q (bits (setBit v.toNat 0 false) 19 16) (bits (setBit v.toNat 0 false) 9 8) _ (bits (setBit v.toNat 0 false) 0 0) = _
  rw [h19, h9, h0, State.wqCfg_disables hs hl]

theorem execCeLpsData_write (m : Master) (e : Nat) (v : Word) (s : State) :
    exec (.ceLpsData m e (some v)) s = .next (s.regSend m .CE_LPS_DATA e 0 v.toNat) := by
  show execCeLpsData m e (some v) s = _
  unfold execCeLpsData State.regSend
  cases regAddr .CE_LPS_DATA e 0 <;> rfl

theorem execCeLpsData_read {s0 s s1 : State} {m : Master} {e off x : Nat} {r : UnitReq} (ha : regAddr .CE_LPS_DATA e 0 = some (ctlBase + off))
    (hc : ctlOff (ctlBase + off) = some off) (hs : s0.sends m off 8 false r s) (hd : isDebug m = false) (hr : s.regRead m off 8 = (hOk, x, s1)) :
    exec (.ceLpsData m e none) s0 = .next (s1.told r m hOk x) := by
  have hread : s.ctlRead m (ctlBase + off) 8 = (hOk, x, s1) := by
    rw [State.ctlRead_eq hc, State.debugMark_of_not hd, hr]
  show execCeLpsData m e none s0 = _
  unfold execCeLpsData
  rw [ha]
  exact congrArg Host.Outcome.next (State.sendRead_sends hs hc hread)

theorem State.lpsWrite_stores {s : State} {e v : Nat} (h : s.laneBusy e = false) : s.lpsWrite e v = (hOk,
    (s.setEng e { s.eng e with lps := NTbl.put 0 (s.eng e).lps (s.f .CE_LPS_INDEX_INDEX e) v }).setF .CE_LPS_INDEX_INDEX e 0
      ((s.f .CE_LPS_INDEX_INDEX e + 1) % 1024)) := by
  unfold State.lpsWrite
  rw [h, if_neg Bool.false_ne_true]
  rfl

/-- Settles O31. -/
theorem queueRegisterRows : Obligations.QueueRegisterRows := by
  intro s m e q v
  refine ⟨fun h => ?_, fun h => ?_, fun ho hn hw => ?_, fun ho hn hp hq hh => ?_, fun h1 h2 hn => ?_, fun hd hw hc => ?_, fun hs hl hf => ?_,
    fun hs hl hf => ?_, fun hs hl he => ?_, fun h => ?_, fun off x s0 s1 r ha hc hs hd hr => execCeLpsData_read ha hc hs hd hr⟩
  · exact writeGives_of (fun _ => rfl) ((State.blockWrite_write1 (by decide)).trans (State.wqTail_same h))
  · exact writeGives_of (fun _ => rfl) ((State.blockWrite_write1 (by decide)).trans (State.cqHead_same h))
  · refine writeGives_of (fun _ => rfl) ((State.blockWrite_write1 (by decide)).trans ((State.wqTail_moves ho hn).trans ?_))
    rw [if_neg (by rintro ⟨h1, h2, h3⟩; exact hw.elim (· h1) (·.elim h2 h3))]
  · refine writeGives_of (fun _ => rfl) ((State.blockWrite_write1 (by decide)).trans ((State.wqTail_moves ho hn).trans ?_))
    rw [if_pos ⟨hp, hq, hh⟩]
  · exact writeGives_of (fun _ => rfl) ((State.blockWrite_write1 (by decide)).trans (State.cqHead_moves h1 h2 hn))
  · have h19 : bits (setBit v.toNat 0 true) 19 16 = bits v.toNat 19 16 := bits_setBit_ne _ (by omega)
    have h0 : bits (setBit v.toNat 0 true) 0 0 = 1 := bits_setBit_zero _
    obtain ⟨hst, hhead, htail, hcq, hcqt, hen⟩ := s.f_queueEmptied e q (bits v.toNat 19 16) (bits (setBit v.toNat 0 true) 9 8)
    obtain ⟨hmem, heng, hother⟩ := s.queueEmptied_keeps e q (bits v.toNat 19 16) (bits (setBit v.toNat 0 true) 9 8)
    refine ⟨_, writeGives_of (fun _ => rfl) ?_, hst, hhead, htail, hcq, hcqt, hen, hmem, heng, hother,
      fun f k l h => s.f_queueEmptied_other _ _ f h⟩
    show s.wqCfg e q (bits (setBit v.toNat 0 true) 19 16) _ _ (bits (setBit v.toNat 0 true) 0 0) = _
    rw [h19, h0, State.wqCfg_enables hd hw hc]
  · have hsettle := State.settleQueue_idle (s.qstate_queueStopping e q (bits v.toNat 9 8)) hf
    refine ⟨_, queueDisabled hs hl, ?_, ?_, ?_, ?_, fun f k l h => ?_⟩
    all_goals rw [hsettle]
    · exact (State.f_setF_fid _ _ (by decide)).trans (State.f_setF_same ..)
    · exact State.f_setF_same ..
    · rfl
    · rfl
    · have hne : ∀ g : Fid, (f, k, l) ≠ (g, e, q) := fun g hg => h (congrArg Prod.snd hg)
      rw [State.f_setF_ne _ _ (hne _), State.f_setF_ne _ _ (hne _), s.f_queueStopping_other _ f h]
  · have hsettle : (s.queueStopping e q (bits v.toNat 9 8)).settleQueue e q = s.queueStopping e q (bits v.toNat 9 8) :=
      State.settleQueue_busy hf
    refine ⟨_, queueDisabled hs hl, ?_, ?_⟩
    all_goals rw [hsettle]
    · exact s.qstate_queueStopping e q _
    · rfl
  · have h19 : bits (setBit v.toNat 2 true) 19 16 = bits v.toNat 19 16 := bits_setBit_ne _ (by omega)
    have h9 : bits (setBit v.toNat 2 true) 9 8 = bits v.toNat 9 8 := bits_setBit_ne _ (by omega)
    have h2 : bits (setBit v.toNat 2 true) 2 2 = 1 := bits_setBit _ _ _
    have h0 : bits (setBit v.toNat 2 true) 0 0 = 1 := (bits_setBit_ne _ (by omega)).trans he
    refine writeGives_of (fun _ => rfl) ?_
    show s.wqCfg e q (bits (setBit v.toNat 2 true) 19 16) (bits (setBit v.toNat 2 true) 9 8) (bits (setBit v.toNat 2 true) 2 2)
      (bits (setBit v.toNat 2 true) 0 0) = _
    rw [h19, h9, h2, h0, State.wqCfg_resumes hs hl]
  · exact writeGives_of (execCeLpsData_write m e v) ((State.blockWrite_write1 (by decide)).trans (State.lpsWrite_stores h))

end Sys2Proof.Machine
end

section
/-! Tallies: their register rows, the arithmetic of VALUE, how waits are judged, and their limit (04 R167-R170). -/

namespace Sys2Proof.Machine

theorem State.judgeConsuming_nil (t : Nat) (s : State) : State.judgeConsuming t [] s = s := rfl

/-- A tally on which no WAIT pends has none to judge. -/
theorem State.judge_free {s : State} {t : Nat} (h : ∀ w, w ∈ s.waits → w.tally ≠ t) : s.judge t = s := by
  have hn : ∀ p : TWait → Prop, [DecidablePred p] → s.waits.filter (fun w => decide (w.tally = t ∧ p w)) = [] := fun p _ =>
    List.filter_eq_nil_iff.mpr fun w hw => by simp [h w hw]
  unfold State.judge
  dsimp only
  rw [hn (fun w => w.consume = false ∧ w.amount ≤ s.tally t), List.foldl_nil, hn (fun w => w.consume = true)]
  rfl

/-- A SIGNAL before the waits are judged. -/
def State.signalled (s : State) (t amount : Nat) : State :=
  let s1 := s.setF .TALLY_VALUE_VALUE t 0 (min (s.tally t + amount) 0xFFFFFFFF)
  if 0xFFFFFFFF < s.tally t + amount then
    (s1.setF .TALLY_OVF_OVF (t / 64) 0 (setBit (s1.f .TALLY_OVF_OVF (t / 64)) (t % 64) true)).raise 0x7080 sevNone 13 t
      [t] (match s1.plotOfTally t with
        | some p => .plots (2 ^ p)
        | none => .op)
  else s1

theorem State.signalTally_eq (s : State) (t amount : Nat) : s.signalTally t amount = (s.signalled t amount).judge t := rfl

theorem State.waits_signalled (s : State) (t amount : Nat) : (s.signalled t amount).waits = s.waits := by
  unfold State.signalled
  dsimp only
  split
  · rw [State.waits_raise]
    rfl
  · rfl

theorem State.tally_signalled (s : State) (t amount : Nat) : (s.signalled t amount).tally t = min (s.tally t + amount) 0xFFFFFFFF := by
  unfold State.signalled State.tally
  dsimp only
  split
  · rw [State.f_raise _ _ _ _ _ _ _ _ _ _ _ rfl, State.f_setF_fid _ _ (by decide), State.f_setF_same]
  · rw [State.f_setF_same]

theorem State.ovf_signalled_over {s : State} {t amount : Nat} (h : 0xFFFFFFFF < s.tally t + amount) :
    bit ((s.signalled t amount).f .TALLY_OVF_OVF (t / 64)) (t % 64) = true := by
  unfold State.signalled
  dsimp only
  rw [if_pos h, State.f_raise _ _ _ _ _ _ _ _ _ _ _ rfl, State.f_setF_same, bit_setBit]

theorem State.ovf_signalled_fits {s : State} {t amount : Nat} (h : s.tally t + amount ≤ 0xFFFFFFFF) :
    (s.signalled t amount).f .TALLY_OVF_OVF (t / 64) = s.f .TALLY_OVF_OVF (t / 64) := by
  unfold State.signalled
  dsimp only
  rw [if_neg (Nat.not_lt.mpr h), State.f_setF_fid _ _ (by decide)]

theorem tallyArithmetic_holds : tallyArithmetic := by
  intro s t a h
  have hset : s.setTally t a = s.setF .TALLY_VALUE_VALUE t 0 a := State.judge_free h
  have hsig : s.signalTally t a = s.signalled t a := by
    rw [s.signalTally_eq]
    exact State.judge_free (by rw [s.waits_signalled]; exact h)
  rw [hset, hsig]
  exact ⟨State.f_setF_same .., s.tally_signalled t a, State.ovf_signalled_over, State.ovf_signalled_fits⟩

theorem tallyRegisterRows_holds : tallyRegisterRows := fun _ _ _ _ =>
  ⟨writeGives_of (fun _ => rfl) (State.blockWrite_write7 (by decide)), writeGives_of (fun _ => rfl) (State.blockWrite_write7 (by decide))⟩

/-! ### Judging the waits -/

theorem State.waits_waitDone (s : State) (w : TWait) (v : Nat) : (s.waitDone w v).waits = s.waits.filter (fun x => decide (x ≠ w)) := rfl

theorem State.tally_waitDone (s : State) (w : TWait) (v t : Nat) : (s.waitDone w v).tally t = s.tally t := rfl

theorem waitsAreJudged_holds : waitsAreJudged := by
  intro s w hs
  have hone : ∀ p : TWait → Bool, s.waits.filter p = if p w then [w] else [] := fun p => by rw [hs, List.filter_singleton, cond_eq_ite]
  have hgone : ∀ v, (s.waitDone w v).waits = [] := fun v => by rw [State.waits_waitDone, hone]; simp
  refine ⟨fun hlt => ?_, fun hle hc => ?_, fun hle hc => ?_⟩
  · have hn : decide (w.tally = w.tally ∧ w.consume = false ∧ w.amount ≤ s.tally w.tally) = false :=
      decide_eq_false fun h => Nat.not_le.mpr hlt h.2.2
    unfold State.judge
    dsimp only
    rw [hone, hn, if_neg Bool.false_ne_true, List.foldl_nil, hone]
    split
    · exact if_neg (Nat.not_le.mpr hlt)
    · rfl
  · have hy : decide (w.tally = w.tally ∧ w.consume = false ∧ w.amount ≤ s.tally w.tally) = true := decide_eq_true ⟨rfl, hc, hle⟩
    have hj : s.judge w.tally = s.waitDone w (s.tally w.tally) := by
      unfold State.judge
      dsimp only
      rw [hone, hy, if_pos rfl, List.foldl_cons, List.foldl_nil, hgone]
      rfl
    rw [hj]
    exact ⟨hgone _, State.tally_waitDone ..⟩
  · have hn : decide (w.tally = w.tally ∧ w.consume = false ∧ w.amount ≤ s.tally w.tally) = false :=
      decide_eq_false fun h => by simp [hc] at h
    have hj : s.judge w.tally = (s.waitDone w (s.tally w.tally)).setF .TALLY_VALUE_VALUE w.tally 0 (s.tally w.tally - w.amount) := by
      unfold State.judge
      dsimp only
      rw [hone, hn, if_neg Bool.false_ne_true, List.foldl_nil, hone, decide_eq_true (And.intro rfl hc), if_pos rfl]
      exact if_pos hle
    rw [hj]
    exact ⟨hgone (s.tally w.tally), State.f_setF_same ..⟩

/-! ### The limit of a wait -/

/-- Every order at a place has failed with TIMEOUT. -/
def State.timedOutAt (s : State) (e q idx : Nat) : Prop :=
  ∀ r, r ∈ (s.eng e).runs → r.q = q → r.idx = idx → r.finished = true ∧ r.status = csTimeout ∧ r.fault = 0x0402

/-- What judging waits keeps of an order that timed out and of a WAIT that is gone. -/
structure State.KeepsTimeout (w : TWait) (e q idx : Nat) (s : State) : Prop where
  gone : w ∉ s.waits
  failed : s.timedOutAt e q idx

theorem State.KeepsTimeout.waitDone {s : State} {w : TWait} {e q idx : Nat} (h : s.KeepsTimeout w e q idx) (x : TWait) (v : Nat) :
    (s.waitDone x v).KeepsTimeout w e q idx := by
  refine ⟨fun hw => h.gone (List.mem_of_mem_filter hw), fun r hr hq hi => ?_⟩
  by_cases he : e = x.e
  · subst he
    have hruns : ((s.waitDone x v).eng x.e).runs = (s.eng x.e).runs.map (fun r => if r.q = x.q ∧ r.idx = x.idx then
        { r with done := true, finished := true, aux0 := v } else r) := congrArg Eng.runs (State.eng_setEng ..)
    rw [hruns] at hr
    obtain ⟨r0, hr0, rfl⟩ := List.mem_map.mp hr
    split at hq
    · next hp =>
      rw [if_pos hp] at hi ⊢
      obtain ⟨-, hst, hfc⟩ := h.failed r0 hr0 hq hi
      exact ⟨rfl, hst, hfc⟩
    · next hp =>
      rw [if_neg hp] at hi ⊢
      exact h.failed r0 hr0 hq hi
  · have hsame : (s.waitDone x v).eng e = s.eng e := State.eng_setEng_ne _ _ he
    rw [hsame] at hr
    exact h.failed r hr hq hi

theorem State.KeepsTimeout.judgeConsuming {s : State} {w : TWait} {e q idx : Nat} (h : s.KeepsTimeout w e q idx) (t : Nat) (l : List TWait) :
    (State.judgeConsuming t l s).KeepsTimeout w e q idx := by
  induction l generalizing s with
  | nil => exact h
  | cons x l ih =>
    unfold State.judgeConsuming
    split
    · have hd := h.waitDone x (s.tally t)
      exact ih ⟨hd.gone, hd.failed⟩
    · exact h

theorem State.KeepsTimeout.judge {s : State} {w : TWait} {e q idx : Nat} (h : s.KeepsTimeout w e q idx) (t : Nat) :
    (s.judge t).KeepsTimeout w e q idx :=
  (foldl_keeps (State.KeepsTimeout w e q idx) (fun (s1 : State) w => s1.waitDone w (s.tally t)) _ (fun _ x hx => hx.waitDone x _) s h).judgeConsuming t _

theorem State.timedOutAt_updRun (s : State) (e q idx a : Nat) :
    (s.updRun e q idx (fun r => { r.fail csTimeout 0x0402 a with finished := true })).timedOutAt e q idx := by
  intro r hr hq hi
  have hruns : ((s.updRun e q idx (fun r => { r.fail csTimeout 0x0402 a with finished := true })).eng e).runs =
      (s.eng e).runs.map (fun r => if r.q = q ∧ r.idx = idx then { r.fail csTimeout 0x0402 a with finished := true } else r) :=
    congrArg Eng.runs (State.eng_setEng ..)
  rw [hruns] at hr
  obtain ⟨r0, -, rfl⟩ := List.mem_map.mp hr
  split at hq
  · next hp =>
    rw [if_pos hp]
    exact ⟨rfl, rfl, rfl⟩
  · next hp =>
    rw [if_neg hp] at hi
    exact absurd ⟨hq, hi⟩ hp

theorem waitTimesOut_holds : waitTimesOut := by
  intro s e q w r hw hr hlim hh
  have hc : ¬(leAt r.order 96 4 = 0 ∨ (s.eng e).halted) := by
    rw [hh]
    exact not_or_intro hlim Bool.false_ne_true
  have hexec : exec (.waitTimeout e q) s = .next ((s.updRun e q w.idx (fun r => { r.fail csTimeout 0x0402 (s.tally w.tally) with
      finished := true })).dropWaits (fun x => decide (x = w))) := by
    show execWaitTimeout e q s = _
    unfold execWaitTimeout
    rw [hw]
    dsimp only
    rw [hr]
    dsimp only
    rw [if_neg hc]
  refine ⟨_, hexec, rfl, ?_⟩
  generalize hs1 : s.updRun e q w.idx (fun r => { r.fail csTimeout 0x0402 (s.tally w.tally) with finished := true }) = s1
  have hk : State.KeepsTimeout w e q w.idx { s1 with waits := s1.waits.filter (fun x => !decide (x = w)) } := by
    refine ⟨fun hm => by simp at hm, ?_⟩
    rw [← hs1]
    exact s.timedOutAt_updRun e q w.idx _
  have hd : (s1.dropWaits (fun x => decide (x = w))).KeepsTimeout w e q w.idx :=
    foldl_keeps (State.KeepsTimeout w e q w.idx) State.judge _ (fun _ t ht => ht.judge t) _ hk
  exact ⟨hd.gone, hd.failed⟩

/-- Settles O32. -/
theorem talliesAndWaits : Obligations.TalliesAndWaits :=
  ⟨tallyRegisterRows_holds, tallyArithmetic_holds, waitsAreJudged_holds, waitTimesOut_holds⟩

end Sys2Proof.Machine
end

section
/-! FALLOW and wake requests of engines and sites, and how they go on (03 R119-R122; 09 R363-R365). -/

namespace Sys2Proof.Machine

/-! ### Requests -/

/-- The word of a request with its ACTION and CLASS put. -/
def fallowWord (v a c : Nat) : Nat := putBits (putBits v 9 8 a) 4 4 c

theorem fallowWord_fields (v : Nat) {a c : Nat} (ha : a < 4) (hc : c < 2) : bits (fallowWord v a c) 9 8 = a
    ∧ bits (fallowWord v a c) 4 4 = c ∧ bits (fallowWord v a c) 15 12 = bits v 15 12 ∧ bits (fallowWord v a c) 2 0 = bits v 2 0 := by
  unfold fallowWord
  refine ⟨?_, ?_, ?_, ?_⟩
  · rw [bits_putBits_above (by omega) (by omega), bits_putBits _ _ _ _ (by omega)]
    exact Nat.mod_eq_of_lt ha
  · rw [bits_putBits _ _ _ _ (by omega)]
    exact Nat.mod_eq_of_lt hc
  · rw [bits_putBits_above (by omega) (by omega), bits_putBits_above (by omega) (by omega)]
  · rw [bits_putBits_below (by omega) (by omega), bits_putBits_below (by omega) (by omega)]

/-- A request of an ACTION and CLASS is judged as 03 R119 says. -/
theorem fallowGives {x : Instr} {s t : State} {m : Master} {v a c : Nat} (ha : a < 4) (ha0 : a ≠ 0) (hc : c < 2)
    (hrow : ∀ s0, exec x s0 = .next (s0.regSend m .PWR_FALLOW_REQ 0 0 (fallowWord v a c)))
    (h : s.fallowReq (bits v 15 12) a c (bits v 2 0) = (hOk, t)) : writeGives x m .PWR_FALLOW_REQ 0 0 (fallowWord v a c) s t := by
  obtain ⟨h9, h4, h15, h2⟩ := fallowWord_fields v ha hc
  refine writeGives_of hrow ((State.blockWrite_write0 (by decide)).trans ?_)
  refine Eq.trans (if_neg (by rw [h9]; exact ha0)) ?_
  rw [h9, h4, h15, h2, h]

/-- The checks of an engine's request that passes them. -/
theorem State.engFallow_passes {s : State} {seq action e : Nat} (hu : s.umReady = true) (hp : s.plotOfEngine e = none)
    (h2 : s.pstate e ≠ 2) (h3 : s.pstate e ≠ 3) (h5 : s.pstate e ≠ 5) (hh : action = 1 → (s.eng e).halted = false)
    (hst : (s.unit .engine e).st = some .present ∨ (s.unit .engine e).st = some .fallow) : s.engFallow seq action e =
      if (action = 1 ∧ (s.unit .engine e).st = some .fallow) ∨ (action = 2 ∧ (s.unit .engine e).st = some .present) then
        (hOk, s.fallowResult seq 5 1 none)
      else if action = 1 then
        (hOk, (let s1 := (s.fallowResult seq 1 0 (some (0, e))).setF .CE_STATUS_PSTATE e 0 2
          (if s1.f .CE_DRAIN_LIMIT_LIMIT_US e = 0 then s1.drainAbort e else s1).engineQuiet e))
      else if !(s.dom e).ever && (s.f .CLK_DOM_CFG_PLL_EN e = 0 || s.f .CLK_DOM_STATUS_LOCKED e = 0) then
        (hNotReady, s.fallowResult seq 0 6 none)
      else (hOk, ((s.fallowResult seq 4 0 (some (0, e))).setF .CE_STATUS_PSTATE e 0 5).engineClock e) := by
  have hbusy : ¬(s.pstate e = 2 ∨ s.pstate e = 3 ∨ s.pstate e = 5 ∨ (action = 1 ∧ (s.eng e).halted = true)) := by
    rintro (h | h | h | ⟨h, h'⟩)
    · exact h2 h
    · exact h3 h
    · exact h5 h
    · rw [hh h] at h'
      cases h'
  have hgood : ¬((s.unit .engine e).st = some .failed ∨ (s.unit .engine e).st = some .retired) := by
    obtain h | h := hst <;> rw [h] <;> decide
  unfold State.engFallow
  dsimp only
  rw [hu, hp, Option.isSome_none, if_neg hbusy, if_neg hgood, Bool.not_true, if_neg Bool.false_ne_true, if_neg Bool.false_ne_true]

/-- The checks of a site's request that passes them. -/
theorem State.siteFallow_passes {s : State} {seq action n : Nat} (hu : s.umReady = true) (hp : s.plotOfSite n = none)
    (hb : s.siteBusy n = false) (hst : (s.unit .site n).st = some .present ∨ (s.unit .site n).st = some .fallow) :
    s.siteFallow seq action n =
      if (action = 1 ∧ (s.unit .site n).st = some .fallow) ∨ (action = 2 ∧ (s.unit .site n).st = some .present) then
        (hOk, s.fallowResult seq 5 1 none)
      else if action = 1 then (hOk, (s.fallowResult seq 1 0 (some (1, n))).siteDrainStart n)
      else if s.f .SITE_CFG_FITTED n = 0 ∨ (!(s.dom (siteDom n)).ever ∧ (s.f .CLK_DOM_CFG_PLL_EN (siteDom n) = 0 ∨ s.f .CLK_DOM_STATUS_LOCKED (siteDom n) = 0)) then
        (hNotReady, s.fallowResult seq 0 6 none)
      else
        let s1 := ((s.fallowResult seq 4 0 (some (1, n))).wakeDom (siteDom n)).setRefclk n true
        (hOk, ((s1.setLink n { s1.link n with waking := true }).sitePower n).railsFollow s) := by
  have hgood : ¬((s.unit .site n).st = some .failed ∨ (s.unit .site n).st = some .retired) := by
    obtain h | h := hst <;> rw [h] <;> decide
  unfold State.siteFallow
  dsimp only
  rw [hu, hp, hb, Option.isSome_none, if_neg hgood, Bool.not_true, if_neg Bool.false_ne_true, if_neg Bool.false_ne_true,
    if_neg Bool.false_ne_true]

/-! ### A site that is woken -/

theorem State.links_wakeDom (s : State) (d : Nat) : (s.wakeDom d).links = s.links := by
  unfold State.wakeDom
  split <;> rfl

theorem State.units_wakeDom (s : State) (d : Nat) : (s.wakeDom d).units = s.units := by
  unfold State.wakeDom
  split <;> rfl

theorem State.f_wakeDom (s : State) (d : Nat) {f : Fid} (h : f ≠ .CLK_DOM_STATUS_RELEASED) (i j : Nat) : (s.wakeDom d).f f i j = s.f f i j := by
  unfold State.wakeDom
  split
  · rfl
  · rw [State.f_setF_fid _ _ h]
    rfl

/-- A site's reference clock is switched on or off; the rest of its link stays. -/
theorem State.link_setRefclk (s : State) (n : Nat) (b : Bool) : ∃ c, (s.setRefclk n b).link n = { s.link n with refclk := b, clkAt := c } := by
  unfold State.setRefclk
  split
  · next h => exact ⟨(s.link n).clkAt, by rw [← h]⟩
  · exact ⟨_, (s.link_setLink n _ :)⟩

/-- The state of a site that is on its way up, before the rails follow. -/
def State.siteWoken (s : State) (n q : Nat) : State :=
  let s1 := ((s.fallowResult q 4 0 (some (1, n))).wakeDom (siteDom n)).setRefclk n true
  (s1.setLink n { s1.link n with waking := true }).sitePower n

/-- The link of a site that is on its way up. -/
theorem State.link_siteWoken (s : State) (n q : Nat) : ∃ c, (s.siteWoken n q).link n = { s.link n with
    refclk := true, clkAt := c, waking := true, rails := true, attempts := 0
    releaseAt := if (s.link n).hold then none else some (max (c + 100) (s.link n).lowUntil) } := by
  obtain ⟨c, hc⟩ := State.link_setRefclk ((s.fallowResult q 4 0 (some (1, n))).wakeDom (siteDom n)) n true
  have h0 : ((s.fallowResult q 4 0 (some (1, n))).wakeDom (siteDom n)).link n = s.link n := by
    unfold State.link
    rw [State.links_wakeDom]
    rfl
  rw [h0] at hc
  have hl : ∀ (t : State) v, (t.setF .SITE_STATUS_LINK n 0 v).link n = t.link n := fun _ _ => rfl
  refine ⟨c, ?_⟩
  unfold State.siteWoken State.sitePower
  dsimp only
  rw [hl, State.link_setLink, State.link_setLink, hc]

theorem State.units_siteWoken (s : State) (n q : Nat) : (s.siteWoken n q).units = s.units := by
  have hr := State.units_of_sansLinks (State.sansLinks_setRefclk ((s.fallowResult q 4 0 (some (1, n))).wakeDom (siteDom n)) n true)
  rw [State.units_wakeDom] at hr
  exact hr

theorem State.f_siteWoken (s : State) (n q : Nat) {f : Fid} (h1 : f ≠ .SITE_STATUS_LINK) (h2 : f ≠ .CLK_DOM_STATUS_RELEASED) (i j : Nat) :
    (s.siteWoken n q).f f i j = (s.fallowResult q 4 0 (some (1, n))).f f i j := by
  unfold State.siteWoken State.sitePower
  dsimp only
  rw [State.f_setF_fid _ _ h1, State.f_setLink, State.f_setLink, State.f_of_flds (State.flds_setRefclk ..), State.f_wakeDom _ _ h2]

theorem State.f_fallowResult (s : State) (q p c : Nat) (u : Option (Nat × Nat)) : (s.fallowResult q p c u).f .PWR_FALLOW_RESULT_SEQ = q
    ∧ (s.fallowResult q p c u).f .PWR_FALLOW_RESULT_PHASE = p := by
  have hf : ∀ f, (s.fallowResult q p c u).f f =
    (((s.setF .PWR_FALLOW_RESULT_SEQ 0 0 q).setF .PWR_FALLOW_RESULT_PHASE 0 0 p).setF .PWR_FALLOW_RESULT_CODE 0 0 c).f f := fun _ => rfl
  refine ⟨?_, ?_⟩
  · rw [hf, State.f_setF_fid _ _ (by decide), State.f_setF_fid _ _ (by decide), State.f_setF_same]
  · rw [hf, State.f_setF_fid _ _ (by decide), State.f_setF_same]

theorem State.link_railsFollow (s old : State) (n : Nat) : (s.railsFollow old).link n = s.link n := by
  unfold State.link
  rw [State.links_of_sansRails (s.sansRails_railsFollow old)]

theorem State.units_of_sansRails {s t : State} (h : s.sansRails = t.sansRails) : s.units = t.units := (congrArg State.units h :)

/-- Settles O33. -/
theorem fallowRequestRows : Obligations.FallowRequestRows := by
  intro s m v n hu w q hn
  have hgive : ∀ {x : Instr} {t : State} {a c : Nat}, a < 4 → a ≠ 0 → c < 2 →
      (∀ s0, exec x s0 = .next (s0.regSend m .PWR_FALLOW_REQ 0 0 (fallowWord v.toNat a c))) →
      s.fallowReq q a c n = (hOk, t) → writeGives x m .PWR_FALLOW_REQ 0 0 (w a c) s t := fun ha h0 hc hrow h =>
    fallowGives ha h0 hc hrow (by rw [← hn]; exact h)
  refine ⟨fun hp h2 h3 h5 => ⟨fun hst => ⟨fun hh => ?_, ?_⟩, fun hst hclk => ?_, fun hst hh => ?_⟩,
    fun hp hb => ⟨fun hst => ⟨?_, ?_⟩, fun hst hfit hclk => ?_⟩⟩
  · refine hgive (by decide) (by decide) (by decide) (fun _ => rfl) ((if_pos rfl).trans ?_)
    rw [State.engFallow_passes hu hp h2 h3 h5 (fun _ => hh) (.inl hst), if_neg (by simp [hst]), if_pos rfl]
  · refine hgive (by decide) (by decide) (by decide) (fun _ => rfl) ((if_pos rfl).trans ?_)
    rw [State.engFallow_passes hu hp h2 h3 h5 (fun h => absurd h (by decide)) (.inl hst), if_pos (.inr ⟨rfl, hst⟩)]
  · refine hgive (by decide) (by decide) (by decide) (fun _ => rfl) ((if_pos rfl).trans ?_)
    have hready : ¬((!(s.dom n).ever && (s.f .CLK_DOM_CFG_PLL_EN n = 0 || s.f .CLK_DOM_STATUS_LOCKED n = 0)) = true) := by
      obtain h | ⟨h, h'⟩ := hclk
      · simp [h]
      · simp [h, h']
    rw [State.engFallow_passes hu hp h2 h3 h5 (fun h => absurd h (by decide)) (.inr hst), if_neg (by simp [hst]), if_neg (by decide),
      if_neg hready]
  · refine hgive (by decide) (by decide) (by decide) (fun _ => rfl) ((if_pos rfl).trans ?_)
    rw [State.engFallow_passes hu hp h2 h3 h5 (fun _ => hh) (.inr hst), if_pos (.inl ⟨rfl, hst⟩)]
  · refine hgive (by decide) (by decide) (by decide) (fun _ => rfl) ((if_neg (by decide)).trans ?_)
    rw [State.siteFallow_passes hu hp hb (.inl hst), if_neg (by simp [hst]), if_pos rfl]
  · refine hgive (by decide) (by decide) (by decide) (fun _ => rfl) ((if_neg (by decide)).trans ?_)
    rw [State.siteFallow_passes hu hp hb (.inl hst), if_pos (.inr ⟨rfl, hst⟩)]
  · have hready : ¬(s.f .SITE_CFG_FITTED n = 0 ∨ (!(s.dom (siteDom n)).ever ∧ (s.f .CLK_DOM_CFG_PLL_EN (siteDom n) = 0 ∨ s.f .CLK_DOM_STATUS_LOCKED (siteDom n) = 0))) := by
      rintro (h | ⟨h, h'⟩)
      · exact hfit h
      · obtain hc | ⟨hc, hc'⟩ := hclk
        · simp [hc] at h
        · exact h'.elim hc hc'
    have hgo : s.siteFallow q 2 n = (hOk, (s.siteWoken n q).railsFollow s) := by
      rw [State.siteFallow_passes hu hp hb (.inr hst), if_neg (by simp [hst]), if_neg (by decide), if_neg hready]
      rfl
    obtain ⟨c, hlink⟩ := s.link_siteWoken n q
    obtain ⟨hseq, hphase⟩ := s.f_fallowResult q 4 0 (some (1, n))
    refine ⟨_, hgive (by decide) (by decide) (by decide) (fun _ => rfl) ((if_neg (by decide)).trans hgo), ?_, ?_, ?_, ?_, ?_, fun hh => ?_, ?_, ?_, ?_⟩
    · rw [State.link_railsFollow, hlink]
    · rw [State.link_railsFollow, hlink]
    · rw [State.link_railsFollow, hlink]
    · rw [State.f_railsFollow]
      exact State.f_setF_same ..
    · rw [State.link_railsFollow, hlink]
    · rw [State.link_railsFollow, hlink, hh]
      rfl
    · rw [State.f_railsFollow, s.f_siteWoken n q (by decide) (by decide), hphase]
    · rw [State.f_railsFollow, s.f_siteWoken n q (by decide) (by decide), hseq]
    · rw [State.units_of_sansRails (State.sansRails_railsFollow ..), s.units_siteWoken]

end Sys2Proof.Machine
end

section
/-! How FALLOW and waking go on to their end (03 R121, R122; 07 R273; 09 R364). -/

namespace Sys2Proof.Machine

/-! ### What a unit's state and a mailbox's reset leave -/

/-- The state without what a change of a unit's state or of a mailbox changes: reports, pins, the unit map and the wear record. -/
def State.sansMap (s : State) : State := { s with flds := [], hl := {}, aon := {}, out := [], boot := {}, units := [], umGen := 0 }

/-- The fields that a change of a unit's state may change. -/
def mapFid (f : Fid) : Bool :=
  eventFid f || decide (f = .GLB_REC_STATUS_WEAR_FULL) || decide (f = .GLB_REC_STATUS_STALE)

theorem mapFid_event {f : Fid} (h : mapFid f = false) : eventFid f = false :=
  (Bool.or_eq_false_iff.mp (Bool.or_eq_false_iff.mp h).1).1

theorem State.sansMap_of_sansEvents {s t : State} (h : s.sansEvents = t.sansEvents) : s.sansMap = t.sansMap := by
  change s.sansEvents.sansMap = t.sansEvents.sansMap
  rw [h]

theorem State.sansMap_of_sansUnits {s t : State} (h : s.sansUnits = t.sansUnits) : s.sansMap = t.sansMap := by
  change s.sansUnits.sansMap = t.sansUnits.sansMap
  rw [h]

theorem State.mesh_of_sansMap {s t : State} (h : s.sansMap = t.sansMap) : s.mesh = t.mesh := (congrArg State.mesh h :)

theorem State.doms_of_sansMap {s t : State} (h : s.sansMap = t.sansMap) : s.doms = t.doms := (congrArg State.doms h :)

theorem State.engs_of_sansMap {s t : State} (h : s.sansMap = t.sansMap) : s.engs = t.engs := (congrArg State.engs h :)

theorem State.sansMap_wearAdd (s : State) (kind cls unit detail : Nat) : (s.wearAdd kind cls unit detail).sansMap = s.sansMap := by
  unfold State.wearAdd
  split
  · rfl
  · split <;> rfl

theorem State.f_wearAdd (s : State) (kind cls unit detail : Nat) {f : Fid} (h : mapFid f = false) (i j : Nat) :
    (s.wearAdd kind cls unit detail).f f i j = s.f f i j := by
  unfold mapFid at h
  simp only [Bool.or_eq_false_iff, decide_eq_false_iff_not] at h
  obtain ⟨⟨-, hw⟩, hs⟩ := h
  unfold State.wearAdd
  split
  · rfl
  · split
    · exact State.f_flag_fid _ hw
    · exact State.f_flag_fid _ hs

theorem State.sansMap_setUnit (s : State) (c : UCls) (n : Nat) (st : UState) : (s.setUnit c n st).sansMap = s.sansMap := by
  have hp := State.sansMap_of_sansUnits (s.sansUnits_putUnit c n { st := some st, deg := (s.unit c n).deg && decide (st = .present) })
  unfold State.setUnit
  dsimp only
  split
  · split
    · exact (State.sansMap_wearAdd ..).trans hp
    · exact hp
  · rfl

theorem State.f_setUnit (s : State) (c : UCls) (n : Nat) (st : UState) {f : Fid} (h : mapFid f = false) (i j : Nat) :
    (s.setUnit c n st).f f i j = s.f f i j := by
  have hp := s.f_putUnit c n { st := some st, deg := (s.unit c n).deg && decide (st = .present) } f i j (mapFid_event h)
  unfold State.setUnit
  dsimp only
  split
  · split
    · exact (State.f_wearAdd _ _ _ _ _ h i j).trans hp
    · exact hp
  · rfl

theorem State.unit_putUnit (s : State) (c : UCls) (n : Nat) (v : CUnit) : (s.putUnit c n v).unit c n = v := by
  have h : (s.putUnit c n v).units = PTbl.put {} s.units c.code n v := by
    unfold State.putUnit
    dsimp only
    split
    · exact State.units_raise ..
    · rfl
  unfold State.unit
  rw [h, PTbl.at_put_same]

theorem State.unit_setUnit {s : State} {c : UCls} {n : Nat} {st : UState} (h : umAllowed c (s.unit c n).st st = true) :
    ((s.setUnit c n st).unit c n).st = some st := by
  have hp : ∀ d, (s.putUnit c n { st := some st, deg := d }).unit c n = { st := some st, deg := d } :=
    fun d => s.unit_putUnit c n _
  unfold State.setUnit
  dsimp only
  rw [if_pos h]
  split
  · unfold State.unit
    rw [State.units_wearAdd]
    exact congrArg CUnit.st (hp _)
  · rw [hp]

/-- `t` is `s` but for reports, mailboxes and pins: the unit map, and every field that no report shows, are as before. -/
structure State.Reported (s t : State) : Prop where
  rest : t.sansMap = s.sansMap
  units : t.units = s.units
  boot : t.boot = s.boot
  f : ∀ g, eventFid g = false → ∀ i j, t.f g i j = s.f g i j

theorem State.Reported.refl (s : State) : s.Reported s := ⟨rfl, rfl, rfl, fun _ _ _ _ => rfl⟩

theorem State.Reported.raise {s t : State} (h : s.Reported t) (code sev ucls unit : Nat) (detail : List Nat) (sc : Scope) (plot : Option Nat) :
    s.Reported (t.raise code sev ucls unit detail sc plot) :=
  ⟨(State.sansMap_of_sansEvents (t.sansEvents_raise ..)).trans h.rest, (t.units_raise ..).trans h.units, (t.boot_raise ..).trans h.boot,
    fun g hg i j => (t.f_raise _ _ _ _ _ _ _ g i j hg).trans (h.f g hg i j)⟩

theorem State.Reported.emit {s t : State} (h : s.Reported t) (o : Out) : s.Reported (t.emit o) := ⟨h.rest, h.units, h.boot, h.f⟩

theorem State.Reported.setMb {s t : State} (h : s.Reported t) (c : Nat) (v : Mbox) : s.Reported (t.setMb c v) :=
  ⟨h.rest, h.units, h.boot, h.f⟩

theorem State.Reported.ite {s t u : State} {p : Prop} [Decidable p] (ht : s.Reported t) (hu : s.Reported u) :
    s.Reported (if p then t else u) := by
  split
  · exact ht
  · exact hu

theorem State.Reported.mbNote {s t : State} (h : s.Reported t) (c : Nat) : s.Reported (t.mbNote c) := by
  unfold State.mbNote
  dsimp only
  have h1 := State.Reported.ite (p := ((t.mb c).st = .posted ∨ (t.mb c).st = .acked ∨ (t.mb c).st = .aborted)
    ∧ ((t.mb c).bind.sender = 0x60 ∨ (t.mb c).bind.receiver = 0x60))
    (h.raise 0x7020 sevNone 11 c [c, (t.mb c).st.code] (t.mb c).bind.scope none) h
  have h2 := fun p [Decidable p] => State.Reported.ite (p := p) (h1.emit (.interrupt (t.mb c).bind.receiver c)) h1
  exact State.Reported.ite ((h2 _).emit _) (h2 _)

theorem State.Reported.foldl {α : Type} {s : State} {g : State → α → State} (hg : ∀ t a, s.Reported t → s.Reported (g t a)) :
    ∀ (l : List α) (t : State), s.Reported t → s.Reported (l.foldl g t)
  | [], _, ht => ht
  | a :: l, t, ht => State.Reported.foldl hg l (g t a) (hg t a ht)

theorem State.Reported.mbReset {s t : State} (h : s.Reported t) (p : MbBind → Bool) : s.Reported (t.mbReset p) :=
  State.Reported.foldl (fun _ c ht => State.Reported.ite ((ht.setMb c _).mbNote c) ht) _ t h

/-! ### An engine that goes off, and one that wakes -/

theorem State.sansMap_fallowReport (s : State) (cls unit phase code : Nat) : (s.fallowReport cls unit phase code).sansMap = s.sansMap := by
  unfold State.fallowReport
  split <;> rfl

theorem State.units_fallowReport (s : State) (cls unit phase code : Nat) : (s.fallowReport cls unit phase code).units = s.units := by
  unfold State.fallowReport
  split <;> rfl

theorem State.f_fallowReport (s : State) (cls unit phase code : Nat) {f : Fid} (hp : f ≠ .PWR_FALLOW_RESULT_PHASE)
    (hc : f ≠ .PWR_FALLOW_RESULT_CODE) (i j : Nat) : (s.fallowReport cls unit phase code).f f i j = s.f f i j := by
  unfold State.fallowReport
  split
  · rw [State.f_setF_fid _ _ hc, State.f_setF_fid _ _ hp]
  · rfl

theorem State.mesh_of_sansRails {s t : State} (h : s.sansRails = t.sansRails) : s.mesh = t.mesh := (congrArg State.mesh h :)

theorem State.doms_of_sansRails {s t : State} (h : s.sansRails = t.sansRails) : s.doms = t.doms := (congrArg State.doms h :)

theorem State.engs_of_sansRails {s t : State} (h : s.sansRails = t.sansRails) : s.engs = t.engs := (congrArg State.engs h :)

/-- The state as an engine's clock stops, before its unit's state changes. -/
def State.engineStopped (s : State) (e : Nat) : State :=
  (((s.fallowReport 0 e 3 0).setEng e (s.eng e).cleared).stopDom e).setF .CE_STATUS_PSTATE e 0 4

/-- The unit FALLOW, its mailboxes reset and its request reported. -/
def State.engineMapped (s : State) (e : Nat) : State :=
  ((s.setUnit .engine e .fallow).mbReset (fun b => isEngineId e b.receiver)).fallowReport 0 e 5 0

theorem State.engineOff_eq (s : State) (e : Nat) : s.engineOff e = ((s.engineStopped e).engineMapped e).railsFollow s := rfl

theorem State.sansMap_engineMapped (s : State) (e : Nat) : (s.engineMapped e).sansMap = s.sansMap :=
  (State.sansMap_fallowReport ..).trans ((((State.Reported.refl _).mbReset _).rest).trans (s.sansMap_setUnit .engine e .fallow))

theorem State.unit_engineMapped {s : State} {e : Nat} (h : (s.unit .engine e).st = some .present) :
    ((s.engineMapped e).unit .engine e).st = some .fallow := by
  have hu : (s.engineMapped e).units = (s.setUnit .engine e .fallow).units :=
    (State.units_fallowReport ..).trans ((State.Reported.refl _).mbReset _).units
  have hs : ((s.setUnit .engine e .fallow).unit .engine e).st = some .fallow := State.unit_setUnit (by rw [h]; rfl)
  unfold State.unit at hs ⊢
  rw [hu]
  exact hs

theorem State.pstate_engineMapped (s : State) (e : Nat) : (s.engineMapped e).pstate e = s.pstate e :=
  (State.f_fallowReport _ _ _ _ _ (by decide) (by decide) e 0).trans
    ((((State.Reported.refl _).mbReset _).f .CE_STATUS_PSTATE rfl e 0).trans (s.f_setUnit .engine e .fallow rfl e 0))

theorem State.engineStopped_stops (s : State) (e : Nat) : (s.engineStopped e).mesh = s.mesh
    ∧ ((s.engineStopped e).dom e).running = false ∧ (s.engineStopped e).pstate e = 4
    ∧ (s.engineStopped e).eng e = (s.eng e).cleared ∧ (s.engineStopped e).units = s.units := by
  refine ⟨?_, ?_, State.f_setF_same .., ?_, State.units_fallowReport ..⟩
  · have hm := State.mesh_of_sansMap (s.sansMap_fallowReport 0 e 3 0)
    exact hm
  · exact congrArg Dom.running (NTbl.at_put_same ..)
  · exact NTbl.at_put_same ..

theorem State.engineOff_takes {s : State} {e : Nat} (h : (s.unit .engine e).st = some .present) :
    (s.engineOff e).mesh = s.mesh ∧ ((s.engineOff e).dom e).running = false ∧ (s.engineOff e).pstate e = 4
      ∧ ((s.engineOff e).unit .engine e).st = some .fallow ∧ (s.engineOff e).eng e = (s.eng e).cleared := by
  rw [State.engineOff_eq]
  obtain ⟨hm, hd, hp, he, hu⟩ := s.engineStopped_stops e
  have hk := (s.engineStopped e).sansMap_engineMapped e
  have hr := State.sansRails_railsFollow ((s.engineStopped e).engineMapped e) s
  refine ⟨?_, ?_, ?_, ?_, ?_⟩
  · exact (State.mesh_of_sansRails hr).trans ((State.mesh_of_sansMap hk).trans hm)
  · unfold State.dom at hd ⊢
    rw [State.doms_of_sansRails hr, State.doms_of_sansMap hk]
    exact hd
  · exact (State.f_railsFollow ..).trans ((State.pstate_engineMapped ..).trans hp)
  · have hf := State.unit_engineMapped (s := s.engineStopped e) (e := e) (by unfold State.unit at h ⊢; rw [hu]; exact h)
    unfold State.unit at hf ⊢
    rw [State.units_of_sansRails hr]
    exact hf
  · unfold State.eng at he ⊢
    rw [State.engs_of_sansRails hr, State.engs_of_sansMap hk]
    exact he

/-- One queue of a woken engine emptied. -/
def State.queueClear (s : State) (e q : Nat) : State :=
  (((((s.setF .CE_WQ_CFG_ENABLE e q 0).setF .CE_WQ_STATUS_STATE e q 0).setF .CE_WQ_HEAD_HEAD e q 0).setF .CE_WQ_TAIL_TAIL e q 0).setF
    .CE_CQ_HEAD_HEAD e q 0).setF .CE_WQ_STATUS_CQ_TAIL e q 0

theorem State.queuesClear_eq (s : State) (e : Nat) : s.queuesClear e = (List.range 16).foldl (fun s q => s.queueClear e q) s := rfl

theorem State.queueClear_reads (s : State) (e q : Nat) :
    ((s.queueClear e q).qstate e q, (s.queueClear e q).qhead e q) = (0, 0) := by
  unfold State.queueClear State.qstate State.qhead
  simp

theorem State.queueClear_other (s : State) {e q k : Nat} (h : k ≠ q) :
    ((s.queueClear e k).qstate e q, (s.queueClear e k).qhead e q) = (s.qstate e q, s.qhead e q) := by
  have hn : ∀ (t : State) (f g : Fid), (t.setF f e k 0).f g e q = t.f g e q :=
    fun t f g => t.f_setF_ne 0 (by simpa using fun _ => h.symm)
  simp only [State.queueClear, State.qstate, State.qhead, hn]

theorem State.queuesClear_reads (s : State) (e : Nat) {q : Nat} (hq : q < 16) :
    (s.queuesClear e).qstate e q = 0 ∧ (s.queuesClear e).qhead e q = 0 := by
  have h := foldl_one (p := fun s => (s.qstate e q, s.qhead e q)) (g := fun s q => s.queueClear e q) (fun _ => (0, 0))
    (List.mem_range.mpr hq) List.nodup_range (fun k _ hk s => s.queueClear_other hk) (fun s => s.queueClear_reads e q) s
  rw [State.queuesClear_eq]
  exact Prod.mk.inj h

theorem State.sansFields_queuesClear (s : State) (e : Nat) : (s.queuesClear e).sansFields = s.sansFields :=
  foldl_leaves State.sansFields (fun s q => State.queueClear s e q) _ (fun _ _ => rfl) _

theorem State.mesh_of_sansFields {s t : State} (h : s.sansFields = t.sansFields) : s.mesh = t.mesh := (congrArg State.mesh h :)

theorem State.doms_of_sansFields {s t : State} (h : s.sansFields = t.sansFields) : s.doms = t.doms := (congrArg State.doms h :)

theorem State.engs_of_sansFields {s t : State} (h : s.sansFields = t.sansFields) : s.engs = t.engs := (congrArg State.engs h :)

theorem State.units_of_sansFields {s t : State} (h : s.sansFields = t.sansFields) : s.units = t.units := (congrArg State.units h :)

/-- The result of a test that found no fault beyond the spares, shown. -/
def State.wakeShown (s : State) (e : Nat) (r : TestFound) : State :=
  if s.f .CLK_DOM_STATUS_TESTED e = 0 then
    ((s.sparesUsed e r).setF .CLK_DOM_STATUS_TESTED e 0 1).setF .CLK_DOM_STATUS_TEST_FAIL e 0 0
  else s.sparesUsed e r

/-- The engine emptied and its port open. -/
def State.wakeEmptied (s : State) (e : Nat) : State :=
  ((s.setEng e { faultOwner := (s.eng e).faultOwner }).queuesClear e).setFence e 0

/-- The engine PRESENT and its request reported. -/
def State.wakeMapped (s : State) (e : Nat) : State :=
  ((s.setF .CE_STATUS_PSTATE e 0 1).setUnit .engine e .present).fallowReport 0 e 5 0

theorem execWakeTestDone_good {s : State} {n : Nat} {r : TestFound} (hp : s.pstate n = 5) (hg : engineBad r = false) :
    exec (.wakeTestDone n r) s = .next (((s.wakeShown n r).wakeEmptied n).wakeMapped n) := by
  change execWakeTestDone n r s = _
  unfold execWakeTestDone State.wakeShown
  rw [if_neg (not_not_intro hp), hg]
  simp only [decide_eq_true_eq]
  rfl

theorem State.sansFields_wakeShown (s : State) (e : Nat) (r : TestFound) : (s.wakeShown e r).sansFields = s.sansFields := by
  unfold State.wakeShown
  split
  · rw [State.sansFields_setF, State.sansFields_setF, State.sansFields_sparesUsed]
  · exact s.sansFields_sparesUsed e r

theorem State.wakeEmptied_reads (s : State) (e : Nat) : (s.wakeEmptied e).doms = s.doms ∧ (s.wakeEmptied e).units = s.units
    ∧ ((s.wakeEmptied e).qport e).fence = 0 ∧ ((s.wakeEmptied e).eng e).runs = []
    ∧ ∀ q, q < 16 → (s.wakeEmptied e).qstate e q = 0 ∧ (s.wakeEmptied e).qhead e q = 0 := by
  have hf := (s.setEng e { faultOwner := (s.eng e).faultOwner }).sansFields_queuesClear e
  have he := State.engs_of_sansFields hf
  have hq := fun q (hq : q < 16) => (s.setEng e { faultOwner := (s.eng e).faultOwner }).queuesClear_reads e hq
  have hd := State.doms_of_sansFields hf
  have hu := State.units_of_sansFields hf
  unfold State.wakeEmptied
  refine ⟨(State.doms_setFence ..).trans hd, (State.units_setFence ..).trans hu, ?_, ?_, fun q hl => ?_⟩
  · unfold State.setFence
    rw [State.qport_setQport]
  · have hs : ((s.setEng e { faultOwner := (s.eng e).faultOwner }).eng e).runs = [] := by rw [State.eng_setEng]
    have hn := State.engs_setFence ((s.setEng e { faultOwner := (s.eng e).faultOwner }).queuesClear e) e 0
    exact (congrArg (fun l => (NTbl.at {} l e).runs) (hn.trans he)).trans hs
  · unfold State.qstate State.qhead at hq ⊢
    rw [State.f_setFence, State.f_setFence]
    exact hq q hl

theorem State.sansMap_wakeMapped (s : State) (e : Nat) : (s.wakeMapped e).sansMap = s.sansMap :=
  (State.sansMap_fallowReport ..).trans (State.sansMap_setUnit ..)

theorem State.f_wakeMapped (s : State) (e : Nat) {f : Fid} (h : mapFid f = false) (hp : f ≠ .CE_STATUS_PSTATE)
    (h1 : f ≠ .PWR_FALLOW_RESULT_PHASE) (h2 : f ≠ .PWR_FALLOW_RESULT_CODE) (i j : Nat) : (s.wakeMapped e).f f i j = s.f f i j :=
  (State.f_fallowReport _ _ _ _ _ h1 h2 i j).trans ((State.f_setUnit _ _ _ _ h i j).trans (State.f_setF_fid _ _ hp))

theorem State.wakeMapped_present {s : State} {e : Nat} (h : (s.unit .engine e).st = some .fallow) :
    ((s.wakeMapped e).unit .engine e).st = some .present ∧ (s.wakeMapped e).pstate e = 1 := by
  refine ⟨?_, ?_⟩
  · have hs : (((s.setF .CE_STATUS_PSTATE e 0 1).setUnit .engine e .present).unit .engine e).st = some .present :=
      State.unit_setUnit (by change umAllowed _ (s.unit .engine e).st _ = _; rw [h]; rfl)
    unfold State.unit at hs ⊢
    unfold State.wakeMapped
    rw [State.units_fallowReport]
    exact hs
  · exact (State.f_fallowReport _ _ _ _ _ (by decide) (by decide) e 0).trans
      ((State.f_setUnit _ _ _ _ rfl e 0).trans (State.f_setF_same ..))

theorem engineWakes {s : State} {n : Nat} {r : TestFound} (hp : s.pstate n = 5) (hg : engineBad r = false)
    (hu : (s.unit .engine n).st = some .fallow) : ∃ t, exec (.wakeTestDone n r) s = .next t
      ∧ (t.unit .engine n).st = some .present ∧ t.pstate n = 1 ∧ t.dom n = s.dom n ∧ (t.qport n).fence = 0 ∧ (t.eng n).runs = []
      ∧ (∀ q, q < 16 → t.qstate n q = qDisabled ∧ t.qhead n q = 0) := by
  have h0 := s.sansFields_wakeShown n r
  obtain ⟨hd, hu1, hf, hr, hq⟩ := (s.wakeShown n r).wakeEmptied_reads n
  have h2 := ((s.wakeShown n r).wakeEmptied n).sansMap_wakeMapped n
  have hb : (((s.wakeShown n r).wakeEmptied n).unit .engine n).st = some .fallow := by
    unfold State.unit at hu ⊢
    rw [hu1, State.units_of_sansFields h0]
    exact hu
  obtain ⟨hpre, hps⟩ := State.wakeMapped_present hb
  refine ⟨_, execWakeTestDone_good hp hg, hpre, hps, ?_, ?_, ?_, fun q hl => ?_⟩
  · unfold State.dom
    rw [State.doms_of_sansMap h2, hd, State.doms_of_sansFields h0]
  · unfold State.qport at hf ⊢
    rw [State.mesh_of_sansMap h2]
    exact hf
  · unfold State.eng at hr ⊢
    rw [State.engs_of_sansMap h2]
    exact hr
  · obtain ⟨hs, hh⟩ := hq q hl
    exact ⟨(State.f_wakeMapped _ n rfl (by decide) (by decide) (by decide) n q).trans hs,
      (State.f_wakeMapped _ n rfl (by decide) (by decide) (by decide) n q).trans hh⟩

/-! ### The fence -/

theorem execFenceComplete_engine {s : State} {n : Nat} (hf : (s.qport n).fence = 1) (hb : s.portBusy n = false) (hn : n < 8) :
    exec (.fenceComplete n) s = .next (if s.pstate n = 3 then (s.setFence n 2).engineOff n
      else if (s.unit .engine n).st = some .failed then ((s.setFence n 2).stopDom n).railsFollow s else s.setFence n 2) := by
  change execFenceComplete n s = _
  unfold execFenceComplete
  rw [if_neg (by simp [hf, hb])]
  exact if_pos hn

theorem execFenceComplete_other {s : State} {n : Nat} (hf : (s.qport n).fence = 1) (hb : s.portBusy n = false) (hn : ¬n < 8) :
    exec (.fenceComplete n) s = if 16 ≤ n ∧ n < 24 then
      .next (if (s.link (n - 16)).fencing then (s.setFence n 2).siteOff (n - 16) else s.setFence n 2)
      else .next (s.setFence n 2) := by
  change execFenceComplete n s = _
  unfold execFenceComplete
  rw [if_neg (by simp [hf, hb])]
  exact if_neg hn

theorem engineGoesOff {s : State} {n : Nat} (hf : (s.qport n).fence = 1) (hb : s.portBusy n = false) (hn : n < 8)
    (hp : s.pstate n = 3) (hu : (s.unit .engine n).st = some .present) : ∃ t, exec (.fenceComplete n) s = .next t
      ∧ (t.qport n).fence = 2 ∧ (t.dom n).running = false ∧ t.pstate n = 4 ∧ (t.unit .engine n).st = some .fallow
      ∧ (t.eng n).tile = [] ∧ (t.eng n).lps = [] := by
  obtain ⟨hm, hd, hps, hun, he⟩ := State.engineOff_takes (s := s.setFence n 2) (e := n) hu
  have hx : exec (.fenceComplete n) s = .next ((s.setFence n 2).engineOff n) := by
    rw [execFenceComplete_engine hf hb hn, if_pos hp]
  refine ⟨_, hx, ?_, hd, hps, hun, ?_, ?_⟩
  · have h2 : ((s.setFence n 2).qport n).fence = 2 := by unfold State.setFence; rw [State.qport_setQport]
    unfold State.qport at h2 ⊢
    rw [hm]
    exact h2
  · rw [he]
    rfl
  · rw [he]
    rfl

theorem fenceOnlyMoves {s : State} {n : Nat} (hf : (s.qport n).fence = 1) (hb : s.portBusy n = false)
    (he : n < 8 → s.pstate n ≠ 3 ∧ (s.unit .engine n).st ≠ some .failed)
    (hl : 16 ≤ n → n < 24 → (s.link (n - 16)).fencing = false) : exec (.fenceComplete n) s = .next (s.setFence n 2) := by
  by_cases hn : n < 8
  · rw [execFenceComplete_engine hf hb hn, if_neg (he hn).1, if_neg (he hn).2]
  · rw [execFenceComplete_other hf hb hn]
    by_cases h16 : 16 ≤ n ∧ n < 24
    · rw [if_pos h16, hl h16.1 h16.2]
      rfl
    · exact if_neg h16

/-- Settles O34: each row's guard decides its case; what a change of the unit map leaves (`sansMap`) carries the rest over. -/
theorem fallowSequence : Obligations.FallowSequence := by
  intro s n
  refine ⟨fun hp => congrArg Host.Outcome.next (if_pos hp), fun h6 hf hr => ?_, engineGoesOff, fun hf hb hn hp hu => ?_, fenceOnlyMoves,
    fun hf hb hn hl => ?_, fun r hp _ hg hu => engineWakes hp hg hu⟩
  · have hc : s.siteLinkState n = 6 ∧ !(s.link n).fencing ∧ !(s.link n).recalling := by simp [h6, hf, hr]
    exact ⟨congrArg Host.Outcome.next (if_pos hc), congrArg Host.Outcome.next (if_pos hc)⟩
  · rw [execFenceComplete_engine hf hb hn, if_neg hp, if_pos hu]
  · rw [execFenceComplete_other hf hb (by omega), if_pos (by omega), Nat.add_sub_cancel_left, if_pos hl]

end Sys2Proof.Machine
end

section
/-! A hard fault of an engine: what takes it out of service (04 R181, R182; 03 R111; 07 R273). -/

namespace Sys2Proof.Machine

/-! ### The orders that a fault ends -/

/-- Register fields that the end of a lost order may write: those of accesses, of tallies, and CQ_TAIL where records are written. -/
def lostFid (records : Bool) (f : Fid) : Bool :=
  accessFid f || decide (f = .TALLY_VALUE_VALUE) || decide (f = .TALLY_OVF_OVF) || (records && decide (f = .CE_WQ_STATUS_CQ_TAIL))

theorem lostFid_access {r : Bool} {f : Fid} (h : lostFid r f = false) : accessFid f = false :=
  (Bool.or_eq_false_iff.mp (Bool.or_eq_false_iff.mp (Bool.or_eq_false_iff.mp h).1).1).1

theorem lostFid_ne {r : Bool} {f g : Fid} (h : lostFid r f = false) (hg : lostFid r g = true) : f ≠ g := fun he => by
  rw [he, hg] at h
  exact Bool.noConfusion h

/-- `t` comes from `s` as orders of an engine are lost: the engines' entries of the unit map and the other fields are as before. -/
structure State.Loses (s : State) (r : Bool) (t : State) : Prop where
  unit : ∀ e, t.unit .engine e = s.unit .engine e
  f : ∀ g, lostFid r g = false → ∀ i j, t.f g i j = s.f g i j

variable {s t u : State} {r : Bool}

theorem State.Loses.refl (s : State) : s.Loses r s := ⟨fun _ => rfl, fun _ _ _ _ => rfl⟩

theorem State.Loses.trans (h : s.Loses r t) (k : t.Loses r u) : s.Loses r u :=
  ⟨fun e => (k.unit e).trans (h.unit e), fun g hg i j => (k.f g hg i j).trans (h.f g hg i j)⟩

theorem State.Loses.of_accesses {lo : Nat} (h : s.Accesses lo t) : s.Loses r t :=
  ⟨fun e => h.unit .engine e rfl, fun g hg i j => h.fld g i j (lostFid_access hg)⟩

theorem State.Loses.setF (h : s.Loses r t) {f : Fid} {i j v : Nat} (hf : lostFid r f = true) : s.Loses r (t.setF f i j v) :=
  ⟨h.unit, fun _ hg i j => (t.f_setF_fid v (lostFid_ne hg hf)).trans (h.f _ hg i j)⟩

theorem State.Loses.raise (h : s.Loses r t) {code sev ucls unit : Nat} {detail : List Nat} {sc : Scope} {plot : Option Nat} :
    s.Loses r (t.raise code sev ucls unit detail sc plot) :=
  h.trans (.of_accesses (State.Accesses.raise (.refl (lo := 0) t)))

theorem State.Loses.waitDone (h : s.Loses r t) (w : TWait) (v : Nat) : s.Loses r (t.waitDone w v) := ⟨h.unit, h.f⟩

theorem State.Loses.judgeConsuming (h : s.Loses r t) (k : Nat) (l : List TWait) : s.Loses r (State.judgeConsuming k l t) := by
  induction l generalizing t with
  | nil => exact h
  | cons x l ih =>
    unfold State.judgeConsuming
    split
    · exact ih ((h.waitDone x _).setF (by cases r <;> rfl))
    · exact h

theorem State.Loses.judge (h : s.Loses r t) (k : Nat) : s.Loses r (t.judge k) :=
  (foldl_keeps (fun u => s.Loses r u) (fun (u : State) w => u.waitDone w (t.tally k)) _ (fun _ w hu => hu.waitDone w _) t h).judgeConsuming k _

theorem State.Loses.signalTally (h : s.Loses r t) (k amount : Nat) : s.Loses r (t.signalTally k amount) := by
  have h1 : s.Loses r (t.setF .TALLY_VALUE_VALUE k 0 (min (t.tally k + amount) 0xFFFFFFFF)) := h.setF (by cases r <;> rfl)
  rw [State.signalTally_eq]
  refine State.Loses.judge ?_ k
  unfold State.signalled
  dsimp only
  split
  · exact (h1.setF (by cases r <;> rfl)).raise
  · exact h1

theorem State.Loses.performOuts (e : Nat) (l : List OutWr) (x : Run) (h : s.Loses r t) : s.Loses r (State.performOuts e l x t).2 := by
  induction l generalizing t x with
  | nil => exact h
  | cons o l ih =>
    unfold State.performOuts
    dsimp only
    split
    · exact ih _ ⟨h.unit, h.f⟩
    · have hw := h.trans (.of_accesses (State.Accesses.wr (src := t.engSrc e (opMaster x.op)) (a := o.addr) (b := o.bytes) (pois := o.pois)
        (run := some { e := e, q := x.q, idx := x.idx }) (.refl (lo := 0) t)))
      split
      · exact ih _ hw
      · exact hw

theorem State.Loses.writeRecord (h : s.Loses true t) (e : Nat) (x : Run) : s.Loses true (t.writeRecord e x) := by
  unfold State.writeRecord
  dsimp only
  exact (h.trans (.of_accesses (State.Accesses.wr (.refl (lo := 0) t)))).setF (f := .CE_WQ_STATUS_CQ_TAIL) rfl

theorem State.Loses.lostOrder (h : s.Loses r t) (e : Nat) (x : Run) : s.Loses r (t.lostOrder e x).2 := by
  unfold State.lostOrder
  dsimp only
  have hp := State.Loses.performOuts (r := r) (s := s) e
    (((x.outs ++ (t.eng e).laneCopy x).zipIdx.filter (fun o => decide (Config.free (t.freeCtr + 3 + o.2) % 2 = 1))).map Prod.fst) x
    (t := { t with freeCtr := t.freeCtr + 4 + x.outs.length }) ⟨h.unit, h.f⟩
  split
  · exact hp.signalTally _ _
  · exact hp

/-- What becomes of one order of an engine as it fails. -/
def State.orderLost (e : Nat) (records : Bool) (s : State) (x : Run) : State :=
  let (r, s1) := s.lostOrder e x
  if records then
    let s2 := s1.writeRecord e (r.fail csEngineFault 0x0601 0)
    if r.flags % 16 ≠ 0 then s2.raise 0x1040 sevNone 1 e [e, r.q, r.idx, r.flags % 16, min 65535 r.nans] (s2.engScope e)
    else s2
  else s1

theorem State.Loses.orderLost (h : s.Loses r t) (e : Nat) (x : Run) : s.Loses r (State.orderLost e r t x) := by
  have hl := h.lostOrder e x
  unfold State.orderLost
  dsimp only
  cases r with
  | false => exact hl
  | true =>
    rw [if_pos rfl]
    split
    · exact (hl.writeRecord e _).raise
    · exact hl.writeRecord e _

theorem State.faultRecords_loses (s : State) (e : Nat) (records : Bool) : s.Loses records (s.faultRecords e records) :=
  foldl_keeps (fun u => s.Loses records u) (State.orderLost e records) _ (fun _ x hu => hu.orderLost e x) s (.refl s)

/-! ### The queues' indices, saved -/

/-- One queue's indices saved in CE_FAULT_Q. -/
def State.queueSaved (s : State) (e q : Nat) : State :=
  (s.setF .CE_FAULT_Q_NEXT e q (s.f .CE_WQ_STATUS_CQ_TAIL e q)).setF .CE_FAULT_Q_TAIL e q (s.f .CE_WQ_TAIL_TAIL e q)

theorem State.faultQueues_eq (s : State) (e : Nat) : (s.faultQueues e).2 = (List.range 16).foldl (fun s q => s.queueSaved e q) s := by
  have h : ∀ (l : List Nat) (a : Nat × State), (l.foldl (fun (a : Nat × State) q =>
      let next := a.2.f .CE_WQ_STATUS_CQ_TAIL e q
      let tail := a.2.f .CE_WQ_TAIL_TAIL e q
      (if next ≠ tail then setBit a.1 q true else a.1,
        (a.2.setF .CE_FAULT_Q_NEXT e q next).setF .CE_FAULT_Q_TAIL e q tail)) a).2 = l.foldl (fun s q => s.queueSaved e q) a.2 := by
    intro l
    induction l with
    | nil => exact fun _ => rfl
    | cons q l ih => exact fun a => ih _
  exact h _ _

/-- What a queue's indices read, and what is saved of them. -/
def State.queueView (e q : Nat) (s : State) : (Nat × Nat) × (Nat × Nat) :=
  ((s.f .CE_WQ_STATUS_CQ_TAIL e q, s.f .CE_WQ_TAIL_TAIL e q), (s.f .CE_FAULT_Q_NEXT e q, s.f .CE_FAULT_Q_TAIL e q))

theorem State.queueView_queueSaved (s : State) (e q : Nat) :
    (s.queueSaved e q).queueView e q = ((s.queueView e q).1, (s.queueView e q).1) := by
  unfold State.queueView State.queueSaved
  simp

theorem State.queueView_queueSaved_ne (s : State) {e q k : Nat} (h : k ≠ q) : (s.queueSaved e k).queueView e q = s.queueView e q := by
  have hn : ∀ (t : State) (f g : Fid) (v : Nat), (t.setF f e k v).f g e q = t.f g e q :=
    fun t f g v => t.f_setF_ne v (by simpa using fun _ => h.symm)
  simp only [State.queueView, State.queueSaved, hn]

theorem State.queueView_faultQueues (s : State) (e : Nat) {q : Nat} (hq : q < 16) :
    State.queueView e q (s.faultQueues e).2 = ((s.queueView e q).1, (s.queueView e q).1) := by
  rw [State.faultQueues_eq]
  exact foldl_one (p := State.queueView e q) (g := fun s q => s.queueSaved e q) (fun v => (v.1, v.1)) (List.mem_range.mpr hq)
    List.nodup_range (fun k _ hk s => s.queueView_queueSaved_ne hk) (fun s => s.queueView_queueSaved e q) s

theorem State.units_faultQueues (s : State) (e : Nat) : (s.faultQueues e).2.units = s.units := by
  rw [State.faultQueues_eq]
  exact foldl_leaves State.units (fun s q => State.queueSaved s e q) _ (fun _ _ => rfl) _

/-! ### An engine whose contents are gone -/

/-- The engine holds nothing, nothing of it waits, and the indices of its queues are saved as `v` gives them. -/
structure State.Lost (e : Nat) (v : Nat → Nat × Nat) (s : State) : Prop where
  runs : (s.eng e).runs = []
  tile : (s.eng e).tile = []
  waits : ∀ w, w ∈ s.waits → w.e ≠ e
  saved : ∀ q, q < 16 → (s.queueView e q).2 = v q

theorem State.Lost.of_same {e : Nat} {v : Nat → Nat × Nat} {s t : State} (h : s.Lost e v) (he : t.engs = s.engs) (hw : t.waits = s.waits)
    (hf : ∀ q, (t.queueView e q).2 = (s.queueView e q).2) : t.Lost e v := by
  obtain ⟨hr, ht, hs, hv⟩ := h
  refine ⟨?_, ?_, hw ▸ hs, fun q hq => (hf q).trans (hv q hq)⟩
  · unfold State.eng at hr ⊢
    rw [he]
    exact hr
  · unfold State.eng at ht ⊢
    rw [he]
    exact ht

theorem State.Lost.waitDone {e : Nat} {v : Nat → Nat × Nat} {s : State} (h : s.Lost e v) (w : TWait) (x : Nat) : (s.waitDone w x).Lost e v := by
  obtain ⟨hr, ht, hs, hv⟩ := h
  by_cases he : e = w.e
  · have hg : (s.waitDone w x).eng e = { s.eng e with runs := (s.eng e).runs.map (fun r => if r.q = w.q ∧ r.idx = w.idx then
        { r with done := true, finished := true, aux0 := x } else r) } := by
      subst he
      exact State.eng_setEng ..
    refine ⟨?_, ?_, fun y hy => hs y (List.mem_of_mem_filter hy), hv⟩
    · rw [hg, hr]
      rfl
    · rw [hg]
      exact ht
  · have hg : (s.waitDone w x).eng e = s.eng e := State.eng_setEng_ne _ _ he
    exact ⟨by rw [hg]; exact hr, by rw [hg]; exact ht, fun y hy => hs y (List.mem_of_mem_filter hy), hv⟩

theorem State.Lost.judgeConsuming {e : Nat} {v : Nat → Nat × Nat} {s : State} (h : s.Lost e v) (k : Nat) (l : List TWait) :
    (State.judgeConsuming k l s).Lost e v := by
  induction l generalizing s with
  | nil => exact h
  | cons x l ih =>
    unfold State.judgeConsuming
    split
    · refine ih ((h.waitDone x (s.tally k)).of_same rfl rfl fun q => ?_)
      unfold State.queueView
      rw [State.f_setF_fid _ _ (by decide), State.f_setF_fid _ _ (by decide), State.f_setF_fid _ _ (by decide),
        State.f_setF_fid _ _ (by decide)]
    · exact h

theorem State.Lost.judge {e : Nat} {v : Nat → Nat × Nat} {s : State} (h : s.Lost e v) (k : Nat) : (s.judge k).Lost e v :=
  (foldl_keeps (State.Lost e v) (fun (u : State) w => u.waitDone w (s.tally k)) _ (fun _ w hu => hu.waitDone w _) s h).judgeConsuming k _

/-- The engine's contents and waits gone. -/
def State.engineEmptied (s : State) (e : Nat) (owner : Option Nat) : State :=
  (s.setEng e { (s.eng e).cleared with faultOwner := owner }).dropWaits (fun w => w.e == e)

theorem State.engineEmptied_lost (s : State) (e : Nat) (owner : Option Nat) :
    (s.engineEmptied e owner).Lost e (fun q => (s.queueView e q).2) := by
  have hg : ∀ W, State.eng { s.setEng e { (s.eng e).cleared with faultOwner := owner } with waits := W } e
      = { (s.eng e).cleared with faultOwner := owner } := fun _ => NTbl.at_put_same ..
  refine foldl_keeps (State.Lost e _) State.judge _ (fun _ k hu => hu.judge k) _ ⟨?_, ?_, fun w hw => ?_, fun _ _ => rfl⟩
  · rw [hg]
    rfl
  · rw [hg]
    rfl
  · have := (List.mem_filter.mp hw).2
    simpa using this

theorem State.engineEmptied_loses (s : State) (e : Nat) (owner : Option Nat) : s.Loses false (s.engineEmptied e owner) :=
  foldl_keeps (fun u => s.Loses false u) State.judge _ (fun _ k hu => hu.judge k) _ ⟨fun _ => rfl, fun _ _ _ _ => rfl⟩

/-! ### The fault, step by step -/

/-- The orders lost and the queues' indices saved. -/
def State.faultStart (s : State) (e : Nat) (front : Bool) : State := ((s.faultRecords e (!front)).faultQueues e).2

/-- The port behind a fence, the fault shown and reported. -/
def State.faultFenced (s : State) (e mask cause : Nat) : State :=
  ((s.beginFence e).flag .CE_ERR_STATUS_HARD_FAULT e).raise 0x1020 sevUnitFatal 1 e [mask, cause]

/-- The unit FAILED, a FALLOW request of it ended and its mailboxes reset. -/
def State.faultMapped (s : State) (e : Nat) : State :=
  (((s.setUnit .engine e .failed).setF .CE_STATUS_PSTATE e 0 4).fallowReport 0 e 5 5).mbReset (fun b => isEngineId e b.receiver)

/-- The clock stopped unless a request of the port awaits its response. -/
def State.faultStopped (s : State) (e : Nat) : State := if s.portBusy e then s else (s.setFence e 2).stopDom e

theorem engFault_present {s : State} {e cause : Nat} {front : Bool} (h : (s.unit .engine e).st = some .present) :
    exec (.engFault e cause front) s = .next ((((((s.faultStart e front).engineEmptied e (s.plotOfEngine e)).faultFenced e
      ((s.faultRecords e (!front)).faultQueues e).1 (if cause = 1 then 1 else 2)).faultMapped e).faultStopped e).railsFollow s) := by
  have hp : s.present .engine e = true := by simp [State.present, h]
  have hc : (if cause = 1 then 1 else 2) ≠ 3 := by split <;> decide
  have hx : exec (.engFault e cause front) s = .next (s.engineFault e (if cause = 1 then 1 else 2) front true) := by
    change execEngFault e cause front s = _
    unfold execEngFault
    rw [hp]
    rfl
  rw [hx]
  generalize (if cause = 1 then 1 else 2) = c at hc
  unfold State.engineFault
  dsimp only
  rw [h, if_neg (by decide), if_neg (by decide), if_neg hc]
  rfl

/-- What the steps after the saved indices leave of them. -/
def queueFid (f : Fid) : Bool :=
  decide (f = .CE_WQ_STATUS_CQ_TAIL) || decide (f = .CE_WQ_TAIL_TAIL) || decide (f = .CE_FAULT_Q_NEXT) || decide (f = .CE_FAULT_Q_TAIL)

theorem State.queueView_of_f {s t : State} (h : ∀ f, queueFid f = true → ∀ i j, t.f f i j = s.f f i j) (e q : Nat) :
    t.queueView e q = s.queueView e q := by
  unfold State.queueView
  rw [h .CE_WQ_STATUS_CQ_TAIL rfl, h .CE_WQ_TAIL_TAIL rfl, h .CE_FAULT_Q_NEXT rfl, h .CE_FAULT_Q_TAIL rfl]

theorem queueFid_ne {f g : Fid} (h : queueFid f = true) (hg : queueFid g = false) : f ≠ g := fun he => by
  rw [he, hg] at h
  exact Bool.noConfusion h

theorem mapFid_of_queueFid {f : Fid} (h : queueFid f = true) : mapFid f = false := by
  unfold queueFid at h
  simp only [Bool.or_eq_true, decide_eq_true_eq] at h
  obtain ((rfl | rfl) | rfl) | rfl := h <;> rfl

theorem State.beginFence_fence (s : State) (e : Nat) : (((s.beginFence e).qport e).fence = 1 ∨ ((s.beginFence e).qport e).fence = 2)
    ∧ (s.beginFence e).units = s.units := by
  unfold State.beginFence
  dsimp only
  split
  · next h => exact ⟨.inr h, rfl⟩
  · refine ⟨.inl ?_, rfl⟩
    unfold State.setFence
    rw [State.qport_setQport]

theorem State.f_beginFence (s : State) (e : Nat) (f : Fid) (i j : Nat) : (s.beginFence e).f f i j = s.f f i j := by
  unfold State.beginFence
  dsimp only
  split <;> rfl

theorem State.beginFence_keeps (s : State) (e : Nat) : (s.beginFence e).engs = s.engs ∧ (s.beginFence e).waits = s.waits := by
  unfold State.beginFence
  dsimp only
  split <;> exact ⟨rfl, rfl⟩

/-- An engine behind its fence, with its fault shown. -/
structure State.Fenced (e : Nat) (v : Nat → Nat × Nat) (s : State) : Prop where
  lost : s.Lost e v
  fence : (s.qport e).fence = 1 ∨ (s.qport e).fence = 2
  shown : s.f .CE_ERR_STATUS_HARD_FAULT e = 1

theorem State.waits_of_sansMap {s t : State} (h : s.sansMap = t.sansMap) : s.waits = t.waits := (congrArg State.waits h :)

theorem State.faultFenced_fenced {e : Nat} {v : Nat → Nat × Nat} {s : State} (h : s.Lost e v) (mask cause : Nat) :
    (s.faultFenced e mask cause).Fenced e v ∧ (s.faultFenced e mask cause).units = s.units := by
  obtain ⟨hf, hu⟩ := s.beginFence_fence e
  obtain ⟨he, hw⟩ := s.beginFence_keeps e
  have hm : (s.faultFenced e mask cause).mesh = (s.beginFence e).mesh := State.mesh_raise ..
  refine ⟨⟨h.of_same ((State.engs_raise ..).trans he) ((State.waits_raise ..).trans hw) fun q => ?_, ?_, ?_⟩, (State.units_raise ..).trans hu⟩
  · refine congrArg Prod.snd (State.queueView_of_f (fun f hq i j => ?_) e q)
    exact (State.f_raise _ _ _ _ _ _ _ _ _ _ _ (mapFid_event (mapFid_of_queueFid hq))).trans
      ((State.f_flag_fid _ (queueFid_ne hq rfl)).trans (s.f_beginFence e f i j))
  · unfold State.qport at hf ⊢
    rw [hm]
    exact hf
  · exact (State.f_raise _ _ _ _ _ _ _ _ _ _ _ rfl).trans (State.f_flag_same ..)

theorem State.sansMap_setF (s : State) (f : Fid) (i j v : Nat) : (s.setF f i j v).sansMap = s.sansMap := rfl

theorem State.sansMap_faultMapped (s : State) (e : Nat) : (s.faultMapped e).sansMap = s.sansMap :=
  (((State.Reported.refl _).mbReset _).rest).trans ((State.sansMap_fallowReport ..).trans
    ((State.sansMap_setF ..).trans (s.sansMap_setUnit .engine e .failed)))

theorem State.f_faultMapped (s : State) (e : Nat) {f : Fid} (h : mapFid f = false) (hp : f ≠ .CE_STATUS_PSTATE)
    (h1 : f ≠ .PWR_FALLOW_RESULT_PHASE) (h2 : f ≠ .PWR_FALLOW_RESULT_CODE) (i j : Nat) : (s.faultMapped e).f f i j = s.f f i j :=
  (((State.Reported.refl _).mbReset _).f f (mapFid_event h) i j).trans ((State.f_fallowReport _ _ _ _ _ h1 h2 i j).trans
    ((State.f_setF_fid _ _ hp).trans (State.f_setUnit _ _ _ _ h i j)))

theorem State.faultMapped_failed {s : State} {e : Nat} (h : (s.unit .engine e).st = some .present) :
    ((s.faultMapped e).unit .engine e).st = some .failed ∧ (s.faultMapped e).pstate e = 4 := by
  have hs : ((s.setUnit .engine e .failed).unit .engine e).st = some .failed := State.unit_setUnit (by rw [h]; rfl)
  refine ⟨?_, ?_⟩
  · have hu : (s.faultMapped e).units = (s.setUnit .engine e .failed).units :=
      (((State.Reported.refl _).mbReset _).units).trans ((State.units_fallowReport ..).trans (State.units_setF ..))
    unfold State.unit at hs ⊢
    rw [hu]
    exact hs
  · exact (((State.Reported.refl _).mbReset _).f .CE_STATUS_PSTATE rfl e 0).trans
      ((State.f_fallowReport _ _ _ _ _ (by decide) (by decide) e 0).trans (State.f_setF_same ..))

theorem State.Fenced.faultMapped {e : Nat} {v : Nat → Nat × Nat} {s : State} (h : s.Fenced e v) : (s.faultMapped e).Fenced e v := by
  have hk := s.sansMap_faultMapped e
  refine ⟨h.lost.of_same (State.engs_of_sansMap hk) (State.waits_of_sansMap hk) fun q => ?_, ?_, ?_⟩
  · exact congrArg Prod.snd (State.queueView_of_f (fun f hq i j => s.f_faultMapped e (mapFid_of_queueFid hq) (queueFid_ne hq rfl)
      (queueFid_ne hq rfl) (queueFid_ne hq rfl) i j) e q)
  · have hf := h.fence
    unfold State.qport at hf ⊢
    rw [State.mesh_of_sansMap hk]
    exact hf
  · exact (s.f_faultMapped e rfl (by decide) (by decide) (by decide) e 0).trans h.shown

theorem State.Fenced.faultStopped {e : Nat} {v : Nat → Nat × Nat} {s : State} (h : s.Fenced e v) : (s.faultStopped e).Fenced e v := by
  unfold State.faultStopped
  split
  · exact h
  · refine ⟨h.lost.of_same rfl rfl fun q => ?_, .inr ?_, ?_⟩
    · exact congrArg Prod.snd (State.queueView_of_f (fun f hq i j => State.f_setF_fid _ _ (queueFid_ne hq rfl)) e q)
    · exact congrArg QPort.fence (NTbl.at_put_same ..)
    · exact (State.f_setF_fid _ _ (by decide)).trans h.shown

theorem State.faultStopped_keeps (s : State) (e : Nat) : (s.faultStopped e).units = s.units ∧ (s.faultStopped e).pstate e = s.pstate e
    ∧ (((s.faultStopped e).dom e).running = false ∨ (s.faultStopped e).portBusy e = true) := by
  unfold State.faultStopped
  split
  · next h => exact ⟨rfl, rfl, .inr h⟩
  · exact ⟨rfl, State.f_setF_fid _ _ (by decide), .inl (congrArg Dom.running (NTbl.at_put_same ..))⟩

theorem State.waits_of_sansRails {s t : State} (h : s.sansRails = t.sansRails) : s.waits = t.waits := (congrArg State.waits h :)

theorem State.portBusy_of_sansRails {s t : State} (h : s.sansRails = t.sansRails) (e : Nat) : s.portBusy e = t.portBusy e :=
  (congrArg (fun s => State.portBusy s e) h :)

theorem State.Fenced.railsFollow {e : Nat} {v : Nat → Nat × Nat} {s : State} (h : s.Fenced e v) (old : State) :
    (s.railsFollow old).Fenced e v := by
  have hk := s.sansRails_railsFollow old
  refine ⟨h.lost.of_same (State.engs_of_sansRails hk) (State.waits_of_sansRails hk) fun q => ?_, ?_, ?_⟩
  · exact congrArg Prod.snd (State.queueView_of_f (fun f _ i j => s.f_railsFollow old f i j) e q)
  · have hf := h.fence
    unfold State.qport at hf ⊢
    rw [State.mesh_of_sansRails hk]
    exact hf
  · exact (s.f_railsFollow old _ e 0).trans h.shown

/-- What is saved of the queues' indices as an engine fails. -/
theorem State.queueView_faultStart (s : State) (e : Nat) (front : Bool) {q : Nat} (hq : q < 16) :
    ((s.faultStart e front).queueView e q).2 = (State.queueView e q (s.faultRecords e (!front))).1 :=
  congrArg Prod.snd (State.queueView_faultQueues (s.faultRecords e (!front)) e hq)

theorem engineFails {s : State} {e cause : Nat} {front : Bool} (h : (s.unit .engine e).st = some .present) :
    ∃ t, exec (.engFault e cause front) s = .next t ∧ (t.unit .engine e).st = some .failed
      ∧ ((t.dom e).running = false ∨ t.portBusy e = true) ∧ t.pstate e = 4
      ∧ t.Fenced e (fun q => ((s.faultStart e front).queueView e q).2) := by
  have hr := s.faultRecords_loses e (!front)
  have hq : (s.faultStart e front).units = (s.faultRecords e (!front)).units := State.units_faultQueues ..
  have hm := (s.faultStart e front).engineEmptied_loses e (s.plotOfEngine e)
  have hl := (s.faultStart e front).engineEmptied_lost e (s.plotOfEngine e)
  have hu0 : (((s.faultStart e front).engineEmptied e (s.plotOfEngine e)).unit .engine e).st = some .present := by
    have hu1 : (s.faultStart e front).unit .engine e = (s.faultRecords e (!front)).unit .engine e := by
      unfold State.unit
      rw [hq]
    rw [hm.unit, hu1, hr.unit]
    exact h
  refine ⟨_, engFault_present h, ?_⟩
  generalize (s.faultStart e front).engineEmptied e (s.plotOfEngine e) = t at hu0 hl
  generalize ((s.faultRecords e (!front)).faultQueues e).1 = mask
  generalize (if cause = 1 then 1 else 2) = c
  obtain ⟨hf, hu⟩ := State.faultFenced_fenced hl mask c
  obtain ⟨hst, hps⟩ := State.faultMapped_failed (s := t.faultFenced e mask c) (e := e) (by
    unfold State.unit at hu0 ⊢
    rw [hu]
    exact hu0)
  have hv := hf.faultMapped.faultStopped
  generalize (t.faultFenced e mask c).faultMapped e = t1 at hst hps hv
  obtain ⟨hku, hkp, hkd⟩ := t1.faultStopped_keeps e
  have hk := (t1.faultStopped e).sansRails_railsFollow s
  refine ⟨?_, ?_, (State.f_railsFollow ..).trans (hkp.trans hps), hv.railsFollow s⟩
  · unfold State.unit at hst ⊢
    rw [State.units_of_sansRails hk, hku]
    exact hst
  · rw [State.portBusy_of_sansRails hk]
    unfold State.dom at hkd ⊢
    rw [State.doms_of_sansRails hk]
    exact hkd

/-- Settles O35: the records, the tallies' waits and the mailboxes that follow the fault leave the unit map's entry and the saved indices. -/
theorem engineFaults : Obligations.EngineFaults := by
  refine ⟨fun s e cause front h => ?_, fun s e cause front _ h => ?_⟩
  · change execEngFault e cause front s = _
    have hp : s.present .engine e = false := by simp [State.present, h]
    unfold execEngFault State.engineFault
    rw [hp, h]
    rfl
  · obtain ⟨t, hx, hu, hd, hp, ⟨hr, ht, hw, hs⟩, hf, hsh⟩ := engineFails (cause := cause) (front := front) h
    refine ⟨t, hx, hu, hd, hp, hr, ht, hw, hsh, hf, fun q hq => ?_⟩
    have hv := (hs q hq).trans (s.queueView_faultStart e front hq)
    have hl := s.faultRecords_loses e (!front)
    refine ⟨fun hfr => ?_, (congrArg Prod.snd hv).trans (hl.f _ (by cases front <;> rfl) e q)⟩
    subst hfr
    exact (congrArg Prod.fst hv).trans (hl.f _ rfl e q)

end Sys2Proof.Machine
end

section
-- One proof after the other: many waiting at once would hold too much memory when the text is checked as one.
set_option Elab.async false
/-! What updates leave as it was. The state is cut into parts; `s.Leaves P t` says that `t` differs from `s` in the parts of `P` only. Each
operation of the model has one lemma, for the shortest list of parts that it may change. -/

namespace Sys2Proof.Machine

/-- The parts of the state. Memory, the mesh, the security block, coherence and the Ethernet port are cut further, where operations
change one table of them only. -/
inductive Part where
  | fld (f : Fid) | cls (c : UCls)
  | rwl | aon | fuses | units | umReady | umGen | doms | hl
  | cells | chans | sched | sites | therm | mem
  | reqs | ports | limits | mesh
  | plots | plot | sec | boot | engs | waits
  | txns | sf | up | coh | links | control
  | qps | streams | eth | sheaf | pwr | tel | jtag | mgmtIndex | fallowUnit | out | now | freeCtr | pending

/-- A number for each part. -/
def Part.code : Part → Nat
  | .fld f => 100 + f.ctorIdx
  | .cls c => 50 + c.ctorIdx
  | p => p.ctorIdx

/-- Whether a list of parts names a part. -/
def Part.inList (p : Part) (P : List Part) : Bool := P.any (fun q => Nat.beq p.code q.code)

/-- Whether every part of one list is named by another. -/
def subParts (P Q : List Part) : Bool := P.all (fun p => p.inList Q)

/-- What a part of the state holds. -/
def Part.Val : Part → Type
  | .fld _ => Nat → Nat → Nat
  | .cls _ => Nat → CUnit
  | .rwl => NTbl Bool
  | .aon => Aon
  | .fuses => Fuses
  | .units => PTbl CUnit
  | .umReady => Bool
  | .doms => NTbl Dom
  | .hl => Hl
  | .cells => Cells
  | .chans => NTbl Chan
  | .sched => NTbl Sched
  | .sites => NTbl MSite
  | .therm => Nat → Nat × Bool × Bool × Bool × Bool
  | .mem => Mem
  | .reqs => List Req
  | .ports => NTbl QPort
  | .limits => PTbl Limiter
  | .mesh => Mesh
  | .plots => NTbl Plot
  | .plot => Nat → Plot
  | .sec => Sec
  | .boot => Boot
  | .engs => NTbl Eng
  | .waits => List TWait
  | .txns => List HTxn
  | .sf => NTbl (Option SfEnt)
  | .coh => Coh
  | .links => NTbl SLink
  | .control => Nat → List Nat × Option Nat × List UmRepair × List UmRepair × List Nat × Bool × Bool × Bool × Bool
  | .qps => NTbl Qp
  | .streams => NTbl Ing
  | .eth => Eth
  | .sheaf => NTbl ShCtx
  | .pwr => Pwr
  | .tel => Tel
  | .jtag => Jtag
  | .fallowUnit => Option (Nat × Nat)
  | .out => List Out
  | .pending => List Instr
  | .umGen | .mgmtIndex | .now | .freeCtr | .up => Nat

/-- A part as a state has it. -/
def Part.read (s : State) : (p : Part) → p.Val
  | .fld f => fun i j => s.f f i j
  | .cls c => s.unit c
  | .rwl => s.rwl
  | .aon => s.aon
  | .fuses => s.fuses
  | .units => s.units
  | .umReady => s.umReady
  | .umGen => s.umGen
  | .doms => s.doms
  | .hl => s.hl
  | .cells => s.mem.cells
  | .chans => s.mem.chans
  | .sched => s.mem.sched
  | .sites => s.mem.sites
  | .therm => fun n => (s.msite n).therm
  | .mem => { s.mem with cells := [], chans := [], sched := [], sites := [] }
  | .reqs => s.mesh.reqs
  | .ports => s.mesh.ports
  | .limits => s.mesh.limits
  | .mesh => { s.mesh with reqs := [], ports := [], limits := [] }
  | .plots => s.sec.plots
  | .plot => fun n => (s.plot n).core
  | .sec => { s.sec with plots := [] }
  | .boot => s.boot
  | .engs => s.engs
  | .waits => s.waits
  | .txns => s.coh.txns
  | .sf => s.coh.sf
  | .up => s.coh.up
  | .coh => { s.coh with txns := [], sf := [] }
  | .links => s.links
  | .control => fun n => (s.link n).control
  | .qps => s.eth.qps
  | .streams => s.eth.streams
  | .eth => { s.eth with qps := [], streams := [] }
  | .sheaf => s.sheaf
  | .pwr => s.pwr
  | .tel => s.tel
  | .jtag => s.jtag
  | .mgmtIndex => s.mgmtIndex
  | .fallowUnit => s.fallowUnit
  | .out => s.out
  | .now => s.now
  | .freeCtr => s.freeCtr
  | .pending => s.pending

/-- `t` differs from `s` in the parts of `P` only. -/
def State.Leaves (s : State) (P : List Part) (t : State) : Prop := ∀ p : Part, p.inList P = false → p.read t = p.read s

namespace State.Leaves

variable {s t u : State} {P Q : List Part}

theorem refl (s : State) : s.Leaves P s := fun _ _ => rfl

theorem trans (h : s.Leaves P t) (k : t.Leaves P u) : s.Leaves P u := fun p hp => (k p hp).trans (h p hp)

theorem mono (h : s.Leaves P t) (hs : subParts P Q = true) : s.Leaves Q t := fun p hp => h p (by
  rw [Part.inList, List.any_eq_false] at hp ⊢
  intro q hq he
  obtain ⟨r, hr, hc⟩ := List.any_eq_true.mp (List.all_eq_true.mp hs q hq)
  rw [← Nat.eq_of_beq_eq_true he] at hc
  exact hp r hr hc)

/-- One more operation, whose own parts are among those that may change. -/
theorem step (h : s.Leaves P t) (k : t.Leaves Q u) (hs : subParts Q P = true) : s.Leaves P u := h.trans (k.mono hs)

theorem ite {c : Prop} [Decidable c] (h : s.Leaves P t) (k : s.Leaves P u) : s.Leaves P (if c then t else u) := by
  split <;> assumption

theorem foldl {α : Type} {l : List α} {g : State → α → State} (h : s.Leaves P t) (hg : ∀ t a, s.Leaves P t → s.Leaves P (g t a)) :
    s.Leaves P (l.foldl g t) :=
  foldl_keeps (fun t => s.Leaves P t) g l hg t h

/-- An update of one part that may change. -/
theorem upd (h : s.Leaves P t) (q : Part) (hp : q.inList P = true) (hs : ∀ p, p ≠ q → p.read u = p.read t) : s.Leaves P u :=
  h.trans fun p hq => hs p fun he => by
    rw [he, hp] at hq
    exact Bool.noConfusion hq

/-! ### Reading -/

theorem f (h : s.Leaves P t) (g : Fid) (i j : Nat) (hp : (Part.fld g).inList P = false := by rfl) : t.f g i j = s.f g i j :=
  congrFun (congrFun (h (.fld g) hp) i) j

theorem unit (h : s.Leaves P t) (c : UCls) (n : Nat) (hp : (Part.cls c).inList P = false := by rfl) : t.unit c n = s.unit c n :=
  congrFun (h (.cls c) hp) n

theorem units (h : s.Leaves P t) (hp : Part.units.inList P = false := by rfl) : t.units = s.units := h .units hp

theorem doms (h : s.Leaves P t) (hp : Part.doms.inList P = false := by rfl) : t.doms = s.doms := h .doms hp

theorem hl (h : s.Leaves P t) (hp : Part.hl.inList P = false := by rfl) : t.hl = s.hl := h .hl hp

theorem engs (h : s.Leaves P t) (hp : Part.engs.inList P = false := by rfl) : t.engs = s.engs := h .engs hp

theorem waits (h : s.Leaves P t) (hp : Part.waits.inList P = false := by rfl) : t.waits = s.waits := h .waits hp

theorem reqs (h : s.Leaves P t) (hp : Part.reqs.inList P = false := by rfl) : t.mesh.reqs = s.mesh.reqs := h .reqs hp

theorem ports (h : s.Leaves P t) (hp : Part.ports.inList P = false := by rfl) : t.mesh.ports = s.mesh.ports := h .ports hp

theorem cells (h : s.Leaves P t) (hp : Part.cells.inList P = false := by rfl) : t.mem.cells = s.mem.cells := h .cells hp

theorem out (h : s.Leaves P t) (hp : Part.out.inList P = false := by rfl) : t.out = s.out := h .out hp

theorem links (h : s.Leaves P t) (hp : Part.links.inList P = false := by rfl) : t.links = s.links := h .links hp

theorem therm (h : s.Leaves P t) (n : Nat) (hp : Part.therm.inList P = false := by rfl) : (t.msite n).therm = (s.msite n).therm :=
  congrFun (h .therm hp) n

theorem control (h : s.Leaves P t) (n : Nat) (hp : Part.control.inList P = false := by rfl) : (t.link n).control = (s.link n).control :=
  congrFun (h .control hp) n

theorem plot (h : s.Leaves P t) (n : Nat) (hp : Part.plot.inList P = false := by rfl) : (t.plot n).core = (s.plot n).core :=
  congrFun (h .plot hp) n

theorem up (h : s.Leaves P t) (hp : Part.up.inList P = false := by rfl) : t.coh.up = s.coh.up := h .up hp

theorem aon (h : s.Leaves P t) (hp : Part.aon.inList P = false := by rfl) : t.aon = s.aon := h .aon hp

theorem mem (h : s.Leaves P t) (h1 : Part.cells.inList P = false := by rfl) (h2 : Part.chans.inList P = false := by rfl)
    (h3 : Part.sched.inList P = false := by rfl) (h4 : Part.sites.inList P = false := by rfl) (h5 : Part.mem.inList P = false := by rfl) :
    t.mem = s.mem := by
  have hc : t.mem.cells = s.mem.cells := h .cells h1
  have hn : t.mem.chans = s.mem.chans := h .chans h2
  have hd : t.mem.sched = s.mem.sched := h .sched h3
  have hs : t.mem.sites = s.mem.sites := h .sites h4
  have hr := congrArg (fun m : Mem => { m with cells := t.mem.cells, chans := t.mem.chans, sched := t.mem.sched, sites := t.mem.sites })
    (h Part.mem h5)
  refine hr.trans ?_
  rw [hc, hn, hd, hs]
  rfl

theorem mesh (h : s.Leaves P t) (h1 : Part.reqs.inList P = false := by rfl) (h2 : Part.ports.inList P = false := by rfl)
    (h3 : Part.limits.inList P = false := by rfl) (h4 : Part.mesh.inList P = false := by rfl) : t.mesh = s.mesh := by
  have hq : t.mesh.reqs = s.mesh.reqs := h .reqs h1
  have hp : t.mesh.ports = s.mesh.ports := h .ports h2
  have hl : t.mesh.limits = s.mesh.limits := h .limits h3
  refine (congrArg (fun m : Mesh => { m with reqs := t.mesh.reqs, ports := t.mesh.ports, limits := t.mesh.limits }) (h Part.mesh h4)).trans ?_
  rw [hq, hp, hl]
  rfl

theorem coh (h : s.Leaves P t) (h1 : Part.txns.inList P = false := by rfl) (h2 : Part.sf.inList P = false := by rfl)
    (h3 : Part.coh.inList P = false := by rfl) : t.coh = s.coh := by
  have ht : t.coh.txns = s.coh.txns := h .txns h1
  have hf : t.coh.sf = s.coh.sf := h .sf h2
  refine (congrArg (fun m : Coh => { m with txns := t.coh.txns, sf := t.coh.sf }) (h Part.coh h3)).trans ?_
  rw [ht, hf]
  rfl

/-! ### One part changed -/

theorem setF (h : s.Leaves P t) {f : Fid} {i j v : Nat} (hp : (Part.fld f).inList P = true := by rfl) : s.Leaves P (t.setF f i j v) :=
  h.upd (.fld f) hp fun p hn => by
    cases p
    case fld g => exact funext fun i => funext fun j => t.f_setF_fid v fun he => hn (congrArg Part.fld he)
    all_goals rfl

theorem aonSet (h : s.Leaves P t) {v} (hp : Part.aon.inList P = true := by rfl) : s.Leaves P { t with aon := v } :=
  h.upd .aon hp fun p hn => by
    cases p
    case aon => exact absurd rfl hn
    all_goals rfl

theorem hlSet (h : s.Leaves P t) {v} (hp : Part.hl.inList P = true := by rfl) : s.Leaves P { t with hl := v } :=
  h.upd .hl hp fun p hn => by
    cases p
    case hl => exact absurd rfl hn
    all_goals rfl

theorem domsSet (h : s.Leaves P t) {v} (hp : Part.doms.inList P = true := by rfl) : s.Leaves P { t with doms := v } :=
  h.upd .doms hp fun p hn => by
    cases p
    case doms => exact absurd rfl hn
    all_goals rfl

theorem bootSet (h : s.Leaves P t) {v} (hp : Part.boot.inList P = true := by rfl) : s.Leaves P { t with boot := v } :=
  h.upd .boot hp fun p hn => by
    cases p
    case boot => exact absurd rfl hn
    all_goals rfl

theorem engsSet (h : s.Leaves P t) {v} (hp : Part.engs.inList P = true := by rfl) : s.Leaves P { t with engs := v } :=
  h.upd .engs hp fun p hn => by
    cases p
    case engs => exact absurd rfl hn
    all_goals rfl

theorem waitsSet (h : s.Leaves P t) {v} (hp : Part.waits.inList P = true := by rfl) : s.Leaves P { t with waits := v } :=
  h.upd .waits hp fun p hn => by
    cases p
    case waits => exact absurd rfl hn
    all_goals rfl

theorem linksSet (h : s.Leaves P t) {v} (hv : ∀ n, (NTbl.at {} v n).control = (t.link n).control)
    (hp : Part.links.inList P = true := by rfl) : s.Leaves P { t with links := v } :=
  h.upd .links hp fun p hn => by
    cases p
    case links => exact absurd rfl hn
    case control => exact funext hv
    all_goals rfl

theorem sheafSet (h : s.Leaves P t) {v} (hp : Part.sheaf.inList P = true := by rfl) : s.Leaves P { t with sheaf := v } :=
  h.upd .sheaf hp fun p hn => by
    cases p
    case sheaf => exact absurd rfl hn
    all_goals rfl

theorem pwrSet (h : s.Leaves P t) {v} (hp : Part.pwr.inList P = true := by rfl) : s.Leaves P { t with pwr := v } :=
  h.upd .pwr hp fun p hn => by
    cases p
    case pwr => exact absurd rfl hn
    all_goals rfl

theorem telSet (h : s.Leaves P t) {v} (hp : Part.tel.inList P = true := by rfl) : s.Leaves P { t with tel := v } :=
  h.upd .tel hp fun p hn => by
    cases p
    case tel => exact absurd rfl hn
    all_goals rfl

theorem jtagSet (h : s.Leaves P t) {v} (hp : Part.jtag.inList P = true := by rfl) : s.Leaves P { t with jtag := v } :=
  h.upd .jtag hp fun p hn => by
    cases p
    case jtag => exact absurd rfl hn
    all_goals rfl

theorem outSet (h : s.Leaves P t) {v} (hp : Part.out.inList P = true := by rfl) : s.Leaves P { t with out := v } :=
  h.upd .out hp fun p hn => by
    cases p
    case out => exact absurd rfl hn
    all_goals rfl

theorem umGenSet (h : s.Leaves P t) {v} (hp : Part.umGen.inList P = true := by rfl) : s.Leaves P { t with umGen := v } :=
  h.upd .umGen hp fun p hn => by
    cases p
    case umGen => exact absurd rfl hn
    all_goals rfl

theorem umReadySet (h : s.Leaves P t) {v} (hp : Part.umReady.inList P = true := by rfl) : s.Leaves P { t with umReady := v } :=
  h.upd .umReady hp fun p hn => by
    cases p
    case umReady => exact absurd rfl hn
    all_goals rfl

theorem fusesSet (h : s.Leaves P t) {v} (hp : Part.fuses.inList P = true := by rfl) : s.Leaves P { t with fuses := v } :=
  h.upd .fuses hp fun p hn => by
    cases p
    case fuses => exact absurd rfl hn
    all_goals rfl

theorem nowSet (h : s.Leaves P t) {v} (hp : Part.now.inList P = true := by rfl) : s.Leaves P { t with now := v } :=
  h.upd .now hp fun p hn => by
    cases p
    case now => exact absurd rfl hn
    all_goals rfl

theorem freeCtrSet (h : s.Leaves P t) {v} (hp : Part.freeCtr.inList P = true := by rfl) : s.Leaves P { t with freeCtr := v } :=
  h.upd .freeCtr hp fun p hn => by
    cases p
    case freeCtr => exact absurd rfl hn
    all_goals rfl

theorem fallowUnitSet (h : s.Leaves P t) {v} (hp : Part.fallowUnit.inList P = true := by rfl) : s.Leaves P { t with fallowUnit := v } :=
  h.upd .fallowUnit hp fun p hn => by
    cases p
    case fallowUnit => exact absurd rfl hn
    all_goals rfl

theorem rwlSet (h : s.Leaves P t) {v} (hp : Part.rwl.inList P = true := by rfl) : s.Leaves P { t with rwl := v } :=
  h.upd .rwl hp fun p hn => by
    cases p
    case rwl => exact absurd rfl hn
    all_goals rfl

theorem mgmtIndexSet (h : s.Leaves P t) {v} (hp : Part.mgmtIndex.inList P = true := by rfl) : s.Leaves P { t with mgmtIndex := v } :=
  h.upd .mgmtIndex hp fun p hn => by
    cases p
    case mgmtIndex => exact absurd rfl hn
    all_goals rfl

theorem reqsSet (h : s.Leaves P t) {v} (hp : Part.reqs.inList P = true := by rfl) :
    s.Leaves P { t with mesh := { t.mesh with reqs := v } } :=
  h.upd .reqs hp fun p hn => by
    cases p
    case reqs => exact absurd rfl hn
    all_goals rfl

theorem portsSet (h : s.Leaves P t) {v} (hp : Part.ports.inList P = true := by rfl) :
    s.Leaves P { t with mesh := { t.mesh with ports := v } } :=
  h.upd .ports hp fun p hn => by
    cases p
    case ports => exact absurd rfl hn
    all_goals rfl

theorem limitsSet (h : s.Leaves P t) {v} (hp : Part.limits.inList P = true := by rfl) :
    s.Leaves P { t with mesh := { t.mesh with limits := v } } :=
  h.upd .limits hp fun p hn => by
    cases p
    case limits => exact absurd rfl hn
    all_goals rfl

theorem plotsSet (h : s.Leaves P t) {v} (hv : ∀ n, (NTbl.at {} v n).core = (t.plot n).core) (hp : Part.plots.inList P = true := by rfl) :
    s.Leaves P { t with sec := { t.sec with plots := v } } :=
  h.upd .plots hp fun p hn => by
    cases p
    case plots => exact absurd rfl hn
    case plot => exact funext hv
    all_goals rfl

theorem txnsSet (h : s.Leaves P t) {v} (hp : Part.txns.inList P = true := by rfl) :
    s.Leaves P { t with coh := { t.coh with txns := v } } :=
  h.upd .txns hp fun p hn => by
    cases p
    case txns => exact absurd rfl hn
    all_goals rfl

theorem sfSet (h : s.Leaves P t) {v} (hp : Part.sf.inList P = true := by rfl) :
    s.Leaves P { t with coh := { t.coh with sf := v } } :=
  h.upd .sf hp fun p hn => by
    cases p
    case sf => exact absurd rfl hn
    all_goals rfl

theorem cellsSet (h : s.Leaves P t) {v} (hp : Part.cells.inList P = true := by rfl) :
    s.Leaves P { t with mem := { t.mem with cells := v } } :=
  h.upd .cells hp fun p hn => by
    cases p
    case cells => exact absurd rfl hn
    all_goals rfl

theorem chansSet (h : s.Leaves P t) {v} (hp : Part.chans.inList P = true := by rfl) :
    s.Leaves P { t with mem := { t.mem with chans := v } } :=
  h.upd .chans hp fun p hn => by
    cases p
    case chans => exact absurd rfl hn
    all_goals rfl

theorem schedSet (h : s.Leaves P t) {v} (hp : Part.sched.inList P = true := by rfl) :
    s.Leaves P { t with mem := { t.mem with sched := v } } :=
  h.upd .sched hp fun p hn => by
    cases p
    case sched => exact absurd rfl hn
    all_goals rfl

theorem sitesSet (h : s.Leaves P t) {v} (hv : ∀ n, (NTbl.at {} v n).therm = (t.msite n).therm)
    (hp : Part.sites.inList P = true := by rfl) : s.Leaves P { t with mem := { t.mem with sites := v } } :=
  h.upd .sites hp fun p hn => by
    cases p
    case sites => exact absurd rfl hn
    case therm => exact funext hv
    all_goals rfl

theorem qpsSet (h : s.Leaves P t) {v} (hp : Part.qps.inList P = true := by rfl) :
    s.Leaves P { t with eth := { t.eth with qps := v } } :=
  h.upd .qps hp fun p hn => by
    cases p
    case qps => exact absurd rfl hn
    all_goals rfl

theorem streamsSet (h : s.Leaves P t) {v} (hp : Part.streams.inList P = true := by rfl) :
    s.Leaves P { t with eth := { t.eth with streams := v } } :=
  h.upd .streams hp fun p hn => by
    cases p
    case streams => exact absurd rfl hn
    all_goals rfl

end State.Leaves

variable {s t u : State} {P : List Part}

/-- What one entry of a table keeps, the table keeps of every entry. -/
theorem NTbl.at_put_view {α β : Type} [DecidableEq α] {d : α} {T : NTbl α} {n : Nat} {v : α} (g : α → β)
    (hv : g v = g (NTbl.at d T n)) (k : Nat) : g (NTbl.at d (NTbl.put d T n v) k) = g (NTbl.at d T k) := by
  by_cases hk : k = n
  · rw [hk, NTbl.at_put_same, hv]
  · rw [NTbl.at_put_ne _ _ _ hk]

/-! ### Fields, pins, links and other single updates -/

namespace State.Leaves

theorem count (h : s.Leaves P t) {f : Fid} {i j w x : Nat} (hp : (Part.fld f).inList P = true := by rfl) : s.Leaves P (t.count f i j w x) :=
  h.setF hp

theorem flag (h : s.Leaves P t) {f : Fid} {i j : Nat} (hp : (Part.fld f).inList P = true := by rfl) : s.Leaves P (t.flag f i j) := h.setF hp

theorem emit (h : s.Leaves P t) {o : Out} (hp : Part.out.inList P = true := by rfl) : s.Leaves P (t.emit o) := h.outSet hp

theorem setLink (h : s.Leaves P t) {n : Nat} {v : SLink} (hp : Part.links.inList P = true := by rfl)
    (hv : v.control = (t.link n).control := by rfl) : s.Leaves P (t.setLink n v) :=
  h.linksSet (NTbl.at_put_view SLink.control hv) hp

/-- An update of what a site's training goes by. -/
theorem setControl (h : s.Leaves P t) {n : Nat} {v : SLink} (hp : Part.links.inList P = true := by rfl)
    (hc : Part.control.inList P = true := by rfl) : s.Leaves P (t.setLink n v) :=
  h.trans fun p hq => by
    cases p
    case links => exact Bool.noConfusion (hp.symm.trans hq)
    case control => exact Bool.noConfusion (hc.symm.trans hq)
    all_goals rfl

theorem setTel (h : s.Leaves P t) {v : Tel} (hp : Part.tel.inList P = true := by rfl) : s.Leaves P (t.setTel v) := h.telSet hp

theorem setGln (h : s.Leaves P t) {m : Nat} {v : Gln} (hp : Part.tel.inList P = true := by rfl) : s.Leaves P (t.setGln m v) := h.telSet hp

theorem setQport (h : s.Leaves P t) {p : Nat} {v : QPort} (hp : Part.ports.inList P = true := by rfl) : s.Leaves P (t.setQport p v) := h.portsSet hp

theorem setFence (h : s.Leaves P t) {p v : Nat} (hp : Part.ports.inList P = true := by rfl) : s.Leaves P (t.setFence p v) := h.portsSet hp

theorem setMsite (h : s.Leaves P t) {n : Nat} {v : MSite} (hp : Part.sites.inList P = true := by rfl)
    (hv : v.therm = (t.msite n).therm := by rfl) : s.Leaves P (t.setMsite n v) :=
  h.sitesSet (NTbl.at_put_view MSite.therm hv) hp

/-- An update of what a site knows of its stack's temperature. -/
theorem setTherm (h : s.Leaves P t) {n : Nat} {v : MSite} (hp : Part.sites.inList P = true := by rfl)
    (hc : Part.therm.inList P = true := by rfl) : s.Leaves P (t.setMsite n v) :=
  h.trans fun p hq => by
    cases p
    case sites => exact Bool.noConfusion (hp.symm.trans hq)
    case therm => exact Bool.noConfusion (hc.symm.trans hq)
    all_goals rfl

theorem setEng (h : s.Leaves P t) {e : Nat} {v : Eng} (hp : Part.engs.inList P = true := by rfl) : s.Leaves P (t.setEng e v) := h.engsSet hp

theorem updRun (h : s.Leaves P t) {e q idx : Nat} {g : Run → Run} (hp : Part.engs.inList P = true := by rfl) : s.Leaves P (t.updRun e q idx g) :=
  h.engsSet hp

/-! ### Events (12 R467, 16 R601) -/

end State.Leaves

/-- What an event may change: the log, the sessions, the alert and the fields that show them. -/
def raiseParts : List Part :=
  [.aon, .hl, .fld .TEL_FATAL_CODE, .fld .TEL_FATAL_COUNT, .fld .TEL_FATAL_CYC_CYCLES, .fld .TEL_FATAL_DOMAIN, .fld .HL_ERR_STATUS_EVT_LOST]

theorem State.Leaves.deliver {e : Event} {n : Nat} (h : s.Leaves raiseParts t) : s.Leaves raiseParts (State.deliver e t n) := by
  have hs : ∀ x, s.Leaves raiseParts (t.setSess n x) := fun _ => h.hlSet
  unfold State.deliver
  exact .ite (.ite (hs _) (hs _).flag) h

theorem State.Leaves.fatal {code d cyc : Nat} (h : s.Leaves raiseParts t) : s.Leaves raiseParts (t.fatal code d cyc) := by
  unfold State.fatal
  exact .aonSet (.count (.ite h.setF.setF.setF h))

theorem State.Leaves.raise {code sev ucls unit : Nat} {detail : List Nat} {sc : Scope} {plot : Option Nat} (h : s.Leaves P t)
    (hp : subParts raiseParts P = true := by rfl) : s.Leaves P (t.raise code sev ucls unit detail sc plot) := by
  refine h.step (Q := raiseParts) ?_ hp
  replace h := State.Leaves.refl (P := raiseParts) t
  unfold State.raise
  dsimp only
  exact .ite (.fatal (.foldl h.hlSet fun _ _ h => h.deliver)) (.foldl h.hlSet fun _ _ h => h.deliver)

/-- What an event that is limited in time may change. -/
def limitedParts : List Part := .limits :: raiseParts

theorem State.Leaves.limit {a b us : Nat} (h : s.Leaves limitedParts t) : s.Leaves limitedParts (t.limit a b us).2 := by
  unfold State.limit
  dsimp only
  split
  · split
    · exact h.limitsSet
    · exact h.limitsSet
  · exact h.limitsSet

theorem State.Leaves.raiseLimited {us code sev ucls unit : Nat} {detail : List Nat} {sc : Scope} {key : Nat} (h : s.Leaves P t)
    (hp : subParts limitedParts P = true := by rfl) : s.Leaves P (t.raiseLimited us code sev ucls unit detail sc key) := by
  refine h.step (Q := limitedParts) ?_ hp
  have hl := State.Leaves.limit (a := code) (b := unit + 65536 * key) (us := us) (.refl t)
  unfold State.raiseLimited
  split
  · next he =>
    rw [he] at hl
    exact hl.raise
  · next he =>
    rw [he] at hl
    exact hl

/-! ### Probes and monitors (16 R579-R592) -/

/-- What the probes may change as they meet a packet, and the latency monitors as they meet a response. -/
def recordParts : List Part :=
  limitedParts ++ ([.plots, .tel, .freeCtr, .out, .fld .TEL_CO_REGSTAT_WR_PTR, .fld .TEL_CO_REGSTAT_FULL, .fld .TEL_CO_REGSTAT_WRAPPED,
    .fld .TEL_CO_REGSTAT_DROPPED, .fld .PRB_PKTS_COUNT, .fld .PRB_BYTES_COUNT, .fld .GLN_MINMAX_MIN, .fld .GLN_MINMAX_MAX,
    .fld .GLN_COUNT_COUNT, .fld .GLN_SUM_SUM] : List Part)

theorem State.Leaves.touch {p addr : Nat} (h : s.Leaves recordParts t) : s.Leaves recordParts (t.touch p addr) := by
  have hs : s.Leaves recordParts (t.setPlot p { t.plot p with touch := true }) :=
    h.plotsSet (NTbl.at_put_view Plot.core (show { t.plot p with touch := true }.core = (t.plot p).core from rfl))
  unfold State.touch
  exact .ite h hs.raise

theorem State.Leaves.touchAll {mask addr : Nat} (h : s.Leaves recordParts t) : s.Leaves recordParts (t.touchAll mask addr) := by
  unfold State.touchAll
  exact .foldl h fun _ _ h => h.touch

theorem State.Leaves.coPut {i off : Nat} {b : Bytes} (h : s.Leaves recordParts t) : s.Leaves recordParts (t.coPut i off b) := by
  unfold State.coPut
  exact h.setTel.setF

theorem State.Leaves.coStop {i : Nat} (h : s.Leaves recordParts t) : s.Leaves recordParts (t.coStop i) := by
  unfold State.coStop
  exact h.setTel.raise

theorem State.Leaves.coTake {off len : Nat} (h : s.Leaves recordParts t) (hu : t.coTake off len = some u) : s.Leaves recordParts u := by
  have ht : ∀ {c : Prop} [Decidable c] {x : Tel}, (if c then some (t.setTel x) else none) = some u → s.Leaves recordParts u := by
    intro c _ x hu
    split at hu
    · cases hu
      exact h.setTel
    · cases hu
  exact ht hu

theorem State.Leaves.coStore {i off : Nat} {b : Bytes} (h : s.Leaves recordParts t) : s.Leaves recordParts (t.coStore i off b) := by
  unfold State.coStore
  split
  · next hu => exact (h.coTake hu).coPut
  · exact h.count.raiseLimited

theorem State.Leaves.coWrite {user : Nat} {b : Bytes} (h : s.Leaves recordParts t) : s.Leaves recordParts (t.coWrite user b) := by
  unfold State.coWrite
  split
  · exact h
  · exact .ite h.coStore (.ite h.flag.coStop (.ite h.flag.coStore h))

theorem State.Leaves.trcEnd (h : s.Leaves recordParts t) : s.Leaves recordParts t.trcEnd := by
  unfold State.trcEnd
  dsimp only
  split
  · exact h.setTel.coStop
  · exact h.setTel

theorem State.Leaves.probeTrace {k : Nat} {p : Pkt} (h : s.Leaves recordParts t) : s.Leaves recordParts (t.probeTrace k p) := by
  have hh : s.Leaves recordParts ((t.touchAll (plotMask p.plot) p.addr).header p).2 := h.touchAll.freeCtrSet
  unfold State.probeTrace
  dsimp only
  split
  · exact h
  · split
    · exact .ite hh.setTel.coWrite.trcEnd hh.setTel.coWrite.setTel
    · exact hh.setTel.coWrite

theorem State.Leaves.probeTrigger {k : Nat} (h : s.Leaves recordParts t) : s.Leaves recordParts (t.probeTrigger k) := by
  unfold State.probeTrigger
  exact .ite (.ite h h.setTel.emit) (.ite h (.ite h.trcEnd h.setTel))

theorem State.Leaves.probeHit {k : Nat} {p : Pkt} (h : s.Leaves recordParts t) : s.Leaves recordParts (t.probeHit k p) := by
  have hn : s.Leaves recordParts ((t.count .PRB_PKTS_COUNT k 0 64 1).count .PRB_BYTES_COUNT k 0 64 (if p.units = 0 then 0 else p.len)) :=
    h.count.count
  have hc := State.Leaves.ite (c := bit (t.f .PRB_CFG_ACTIONS k) 0 = true) hn h
  unfold State.probeHit
  exact .ite (.probeTrigger (.ite hc.probeTrace hc)) (.ite hc.probeTrace hc)

theorem State.Leaves.observe {p : Pkt} (h : s.Leaves P t) (hp : subParts recordParts P = true := by rfl) : s.Leaves P (t.observe p) := by
  refine h.step (Q := recordParts) ?_ hp
  unfold State.observe
  exact .foldl (.refl t) fun _ _ h => .ite h.probeHit h

theorem State.Leaves.glnLatency {port cls : Nat} {write : Bool} {status since : Nat} (h : s.Leaves P t)
    (hp : subParts recordParts P = true := by rfl) : s.Leaves P (t.glnLatency port cls write status since) := by
  have hs : ∀ {t u : State} {m v : Nat}, t.Leaves recordParts u → t.Leaves recordParts (u.glnSample m v) := fun h => by
    unfold State.glnSample
    exact h.setF.setF.count.count.setGln
  refine h.step (Q := recordParts) ?_ hp
  unfold State.glnLatency
  exact .ite (.refl t) (.foldl (.refl t) fun _ _ h => .ite (.ite (hs h.setGln) h.setGln) h)


end Sys2Proof.Machine
end

section
-- One proof after the other: many waiting at once would hold too much memory when the text is checked as one.
set_option Elab.async false
/-! Requests at mesh ports: issued or held, answered, aged, timed out and granted trackers (07 R260-R271, R281). -/

namespace Sys2Proof.Machine

/-! ### Requests (07 R260, R281) -/

theorem State.request_accepted {s s1 : State} {q : MeshReq} {write : Bool} {data : Bytes} {poison : Nat} {errs : List LineErr} {r : Req}
    (h : (s.debugReq q.id q.addr q.len write).present? q write data poison errs = (s1, some r))
    (hp : s1.plotCtlRefused q.id q.addr write = false) :
    s.request q write data poison errs = if s1.mayIssue r then s1.issue r else s1 := by
  unfold State.request
  rw [h]
  dsimp only
  rw [hp]
  rfl

theorem execWrite_ctl {q : MeshReq} {data : Bytes} {poison : Nat} {errs : List LineErr} {o : Nat} (h : target q.addr = .ctl o) (s : State) :
    exec (.write q data poison errs) s = parkIf (.write q data poison errs) (ParkKey.master q.id).no
      (fun s => .next (s.request q true data poison errs)) s := by
  change execWrite q data poison errs s = _
  unfold execWrite
  rw [h]

theorem execWrite_other {q : MeshReq} {data : Bytes} {poison : Nat} {errs : List LineErr} (h : ∀ o, target q.addr ≠ .ctl o) (s : State) :
    exec (.write q data poison errs) s = .next (s.request q true data poison errs) := by
  change execWrite q data poison errs s = _
  unfold execWrite
  split
  · next o ho => exact absurd ho (h o)
  · rfl

/-- Settles O36. -/
theorem meshRequestRows : Obligations.MeshRequestRows := by
  intro s s1 q r data poison errs
  refine ⟨fun hp hr => ?_, fun hp hr hc => ?_, fun hp hr ⟨o, ho⟩ hu => ?_⟩
  · have hx : exec (.read q errs) s = .next (if s1.mayIssue r then s1.issue r else s1) :=
      congrArg Host.Outcome.next (State.request_accepted hp hr)
    exact ⟨fun hm => by rw [hx, if_pos hm], fun hm => by rw [hx, hm]; rfl⟩
  · have hx : exec (.write q data poison errs) s = .next (if s1.mayIssue r then s1.issue r else s1) :=
      (execWrite_other hc s).trans (congrArg Host.Outcome.next (State.request_accepted hp hr))
    exact ⟨fun hm => by rw [hx, if_pos hm], fun hm => by rw [hx, hm]; rfl⟩
  · exact State.comesTo_of (execWrite_ctl ho s) (congrArg Host.Outcome.next (State.request_accepted hp hr)) hu

/-! ### Responses (07 R262) -/

theorem State.response_issued {s : State} {port tag : Nat} {r : Req} {write : Bool} {site : Bytes} (h : s.req port tag = some r)
    (hw : r.write = write) (hp : r.phase = .issued) (ha : r.ans = true) (hg : r.gone = false) :
    s.response port tag write site = (s.chanFor port tag).respond r := by
  unfold State.response
  rw [h]
  dsimp only
  rw [if_neg (by simp [hw, hp, hg]), if_pos ha]

/-- The response taken from its port's list, its tracker free and the probes past. -/
def State.respTaken (s : State) (r : Req) : State :=
  State.observe (State.dropReq (match r.home with
    | some n => if r.trk then s.tracker n r.c0 false else s
    | none => s) r.port r.tag) r.rspPkt

/-- The response counted at its port. -/
def State.respCounted (s : State) (r : Req) : State :=
  let q := s.qport r.port
  ((s.setQport r.port { q with done := NTbl.put 0 q.done r.cls (NTbl.at 0 q.done r.cls + r.len) }).idleClass r.port r.cls).glnLatency
    r.port r.cls r.write r.status r.since

theorem State.respond_eq (s : State) (r : Req) : s.respond r = if r.late then (s.respTaken r).count .QOS_PORT_COUNT_LATE r.port 0 16 1
    else match r.run with
      | some x => ((s.respTaken r).respCounted r).runAnswer x r.pa r.status
      | none => if r.dropped then (s.respTaken r).respCounted r else ((s.respTaken r).respCounted r).reply r.port r.tag r.id r.pa r.len
        r.write r.status r.rdata r.rpoison r.arrUrg r.cls := rfl

/-- What answering may change besides the list of requests. -/
def answerParts : List Part := recordParts ++ ([.sites, .ports, .engs, .links, .fld .QOS_PORT_COUNT_LATE] : List Part)

theorem State.respTaken_leaves (s : State) (r : Req) : (s.dropReq r.port r.tag).Leaves (.sites :: recordParts) (s.respTaken r) := by
  have hd : ∀ n c b, (s.dropReq r.port r.tag).Leaves (.sites :: recordParts) ((s.tracker n c b).dropReq r.port r.tag) :=
    fun n c b => State.Leaves.setMsite (.refl (s.dropReq r.port r.tag))
  unfold State.respTaken
  refine State.Leaves.observe ?_
  split
  · split
    · exact hd _ _ _
    · exact .refl _
  · exact .refl _

theorem State.Leaves.idleClass {s t : State} {P : List Part} (h : s.Leaves P t) {port c : Nat} (hp : Part.ports.inList P = true := by rfl) :
    s.Leaves P (t.idleClass port c) := by
  unfold State.idleClass
  exact .ite h (h.setQport hp)

theorem State.Leaves.respCounted {s t : State} (h : s.Leaves answerParts t) (r : Req) : s.Leaves answerParts (t.respCounted r) := by
  unfold State.respCounted
  exact h.setQport.idleClass.glnLatency

theorem State.Leaves.runAnswer {s t : State} (h : s.Leaves answerParts t) (x : RunRef) (pa st : Nat) :
    s.Leaves answerParts (t.runAnswer x pa st) := by
  unfold State.runAnswer
  dsimp only
  exact .ite h (.ite h.updRun.setEng h.updRun)

/-- What a message to a chiplet may change. -/
def sendParts : List Part := [.links, .out]

theorem State.Leaves.flitOut {s t : State} (h : s.Leaves sendParts t) {n : Nat} {body : Nat → Nat → FlitBody} :
    s.Leaves sendParts (t.flitOut n body) := by
  have hd : ∀ mods b, s.Leaves sendParts (t.deal n mods b).2 := fun _ _ => h.setLink.emit
  unfold State.flitOut
  exact (hd _ _).setLink

theorem State.Leaves.place {s t : State} (h : s.Leaves sendParts t) {n : Nat} {m : SiteMsg} : s.Leaves sendParts (t.place n m) := by
  unfold State.place
  dsimp only
  have hp := State.Leaves.ite (c := t.f .SITE_STATUS_PROFILE_ACT n = 3) (State.Leaves.foldl (l := List.range m.flits)
    (g := fun s i => s.flitOut n (fun q a => .bludric (flitBytes q a (m.slotMap i) 0 0 ((leBytes 64 m.header ++ m.data).drop (256 * i)))))
    (h.setLink (n := n) (v := { t.link n with
      credits := (t.link n).credits.set (vcOf m.cmd) ((t.link n).credits.getD (vcOf m.cmd) 0 - m.units) }))
    fun _ _ h => h.flitOut) (h.flitOut (n := n) (body := fun q a => .cxl q a false (some (m.cxl (t.f .SITE_STATUS_PROFILE_ACT n == 2), m))))
  split
  · exact hp.setLink
  · exact hp

theorem State.Leaves.siteSend {s t : State} {P : List Part} (h : s.Leaves P t) {n : Nat} {m : SiteMsg}
    (hp : subParts sendParts P = true := by rfl) : s.Leaves P (t.siteSend n m) := by
  refine h.step (Q := sendParts) ?_ hp
  replace h := State.Leaves.refl (P := sendParts) t
  unfold State.siteSend
  exact .ite h (.ite h.setLink h.place)

theorem State.Leaves.reply {s t : State} {P : List Part} (h : s.Leaves P t) {port tag id addr len : Nat} {write : Bool} {st : Nat}
    {data : Bytes} {poison urg cls : Nat} (hp : subParts sendParts P = true := by rfl) :
    s.Leaves P (t.reply port tag id addr len write st data poison urg cls) := by
  refine h.step (Q := sendParts) ?_ hp
  unfold State.reply
  exact .ite (State.Leaves.siteSend (.refl t)) (State.Leaves.emit (.refl t))

theorem State.respond_leaves (s : State) (r : Req) : (s.dropReq r.port r.tag).Leaves answerParts (s.respond r) := by
  have h := (s.respTaken_leaves r).mono (Q := answerParts) rfl
  rw [State.respond_eq]
  refine .ite h.count ?_
  split
  · exact (h.respCounted r).runAnswer _ _ _
  · exact .ite (h.respCounted r) (h.respCounted r).reply

theorem State.req_respond {s : State} {port tag : Nat} {r : Req} (h : s.req port tag = some r) : (s.respond r).req port tag = none := by
  obtain ⟨hp, ht⟩ : r.port = port ∧ r.tag = tag := by simpa using List.find?_some h
  subst hp ht
  unfold State.req
  rw [(s.respond_leaves r).reqs]
  refine List.find?_eq_none.mpr fun x hx => ?_
  have := (List.mem_filter.mp hx).2
  simpa [imp_iff_not_or] using this

theorem State.out_reply {s : State} {port tag id addr len : Nat} {write : Bool} {st : Nat} {data : Bytes} {poison urg cls : Nat}
    (h : ¬(16 ≤ port ∧ port < 24)) :
    (s.reply port tag id addr len write st data poison urg cls).out = s.out ++ [.response port tag st data poison] := by
  unfold State.reply
  rw [if_neg h]
  rfl

/-- Settles O37. -/
theorem meshResponses : Obligations.MeshResponses := by
  intro s port tag site r h hp ha hg
  obtain ⟨hport, htag⟩ : r.port = port ∧ r.tag = tag := by simpa using List.find?_some h
  refine ⟨fun hw => congrArg Host.Outcome.next (State.response_issued h hw hp ha hg),
    fun hw => congrArg Host.Outcome.next (State.response_issued h hw hp ha hg), State.req_respond h, fun hl hd hr hs => ?_, fun hl => ?_⟩
  · subst hport htag
    rw [State.respond_eq, hl, hr, hd, if_neg Bool.false_ne_true]
    dsimp only
    rw [if_neg Bool.false_ne_true, State.out_reply hs, List.getLast?_append]
    rfl
  · have hf : (s.respTaken r).f .QOS_PORT_COUNT_LATE port = s.f .QOS_PORT_COUNT_LATE port :=
      (State.respTaken_leaves s r).f _ _ _
    rw [State.respond_eq, hl, if_pos rfl, hport]
    exact (State.f_count_same ..).trans (by rw [hf])

/-! ### Timeouts and ageing (07 R267, R271) -/

theorem State.timedOut_counts (s : State) (port id pa cls : Nat) : let t := s.timedOut port id pa cls
    t.f .QOS_PORT_COUNT_TIMEOUTS port = satAdd 32 (s.f .QOS_PORT_COUNT_TIMEOUTS port) 1 ∧ t.f .MESH_ERR_STATUS_TIMEOUT = 1
      ∧ t.mem = s.mem ∧ t.units = s.units := by
  have h : ((s.count .QOS_PORT_COUNT_TIMEOUTS port 0 32 1).flag .MESH_ERR_STATUS_TIMEOUT).Leaves limitedParts (s.timedOut port id pa cls) :=
    State.Leaves.raiseLimited (.refl _)
  refine ⟨(h.f _ _ _).trans ?_, (h.f _ _ _).trans (State.f_flag_same ..), h.mem, h.units⟩
  exact (State.f_flag_fid _ (by decide)).trans (State.f_count_same ..)

theorem execMeshTimeout_expires {s : State} {port tag : Nat} {r : Req} (h : s.req port tag = some r) (hl : r.late = false)
    (hp : r.phase ≠ .waitPort) (ht : r.since + r.limit ≤ s.now) : exec (.meshTimeout port tag) s = .next (
      let s2 := ((s.updReq port tag (fun r => { r with late := true })).timedOut port r.id r.pa r.cls).idleClass port r.cls
      match r.run with
      | some x => s2.runAnswer x r.pa stTimeout
      | none => if r.dropped then s2 else s2.reply port r.tag r.id r.pa r.len r.write stTimeout [] 0 r.arrUrg r.cls) := by
  change execMeshTimeout port tag s = _
  unfold execMeshTimeout
  rw [h]
  dsimp only
  exact if_neg (by simp [hl, hp]; omega)

/-! ### Trackers (07 R269, R270) -/

/-- Which of two waiting requests a tracker goes to: the more urgent one, else the one whose port's turn comes first. -/
def betterWaiter (turn : Nat → Nat) (a : Option (Nat × Nat × (Req ⊕ HReq))) (x : Nat × Nat × (Req ⊕ HReq)) :
    Option (Nat × Nat × (Req ⊕ HReq)) :=
  match a with
  | none => some x
  | some b => if b.1 < x.1 ∨ (b.1 = x.1 ∧ turn x.2.1 < turn b.2.1) then some x else a

/-- The one request that is more urgent than every other is the best of all. -/
theorem foldl_betterWaiter {turn : Nat → Nat} {w : Nat × Nat × (Req ⊕ HReq)} (l : List (Nat × Nat × (Req ⊕ HReq)))
    (a : Option (Nat × Nat × (Req ⊕ HReq))) (hm : ∀ x, x ∈ l → x ≠ w → x.1 < w.1) (ha : ∀ b, a = some b → b ≠ w → b.1 < w.1)
    (hw : w ∈ l ∨ a = some w) : l.foldl (betterWaiter turn) a = some w := by
  induction l generalizing a with
  | nil => exact hw.resolve_left List.not_mem_nil
  | cons x l ih =>
    have hx := hm x List.mem_cons_self
    refine ih _ (fun y hy => hm y (List.mem_cons_of_mem _ hy)) (fun b hb hn => ?_) ?_
    · cases a with
      | none => exact (Option.some.inj hb) ▸ hx ((Option.some.inj hb) ▸ hn)
      | some c =>
        unfold betterWaiter at hb
        dsimp only at hb
        split at hb
        · exact (Option.some.inj hb) ▸ hx ((Option.some.inj hb) ▸ hn)
        · exact ha b hb hn
    · by_cases hxw : x = w
      · right
        cases a with
        | none => exact congrArg some hxw
        | some c =>
          unfold betterWaiter
          dsimp only
          split
          · exact congrArg some hxw
          · next hc =>
            by_cases hcw : c = w
            · exact congrArg some hcw
            · exact absurd (.inl (hxw ▸ ha c rfl hcw)) hc
      · rcases hw with hw | hw
        · exact .inl ((List.mem_cons.mp hw).resolve_left (Ne.symm hxw))
        · right
          have hlt := hx hxw
          rw [hw]
          unfold betterWaiter
          exact if_neg (by omega)

theorem execTrackerGrant_best {s : State} {n : Nat} {w : Nat × Nat × (Req ⊕ HReq)} (hw : w ∈ s.waiters n)
    (hm : ∀ x, x ∈ s.waiters n → x ≠ w → x.1 < w.1) : exec (.trackerGrant n) s = (match some w with
      | some (_, p, .inl r) => .next ((((s.setMsite n { s.msite n with lastPort := p }).updReq r.port r.tag (fun x =>
          { x with phase := .issued, trk := true })).tracker n r.c0 true).atHome { r with phase := .issued })
      | some (_, p, .inr r) =>
        let s1 := s.setMsite n { s.msite n with lastPort := p }
        .next ({ s1 with coh := { s1.coh with waiting := s1.coh.waiting.erase r } }.acceptHreq r).serveReady
      | none => .next s) := by
  have hf := foldl_betterWaiter (turn := fun p => (p + 29 - (s.msite n).lastPort) % 30) (s.waiters n) none hm (fun _ hb => nomatch hb) (.inl hw)
  rw [← hf]
  rfl

/-- Settles O38. -/
theorem meshTimers : Obligations.MeshTimers := by
  intro s port tag n r
  refine ⟨fun h hp => ?_, fun h => ?_, fun h x hx => ?_, fun h hl hp ht => execMeshTimeout_expires h hl hp ht,
    s.timedOut_counts port r.id r.pa r.cls, fun hw hm => execTrackerGrant_best hw hm, fun h hw hm => execTrackerGrant_best hw hm⟩
  · change execUrgencyAge port tag s = _
    unfold execUrgencyAge
    rw [h]
    dsimp only
    rw [if_neg hp]
  · change execUrgencyAge port tag s = _
    unfold execUrgencyAge
    rw [h]
  · change execMeshTimeout port tag s = _
    unfold execMeshTimeout State.hreqTimeout
    rw [h]
    dsimp only
    rw [hx]

end Sys2Proof.Machine
end

section
-- One proof after the other: many waiting at once would hold too much memory when the text is checked as one.
set_option Elab.async false
/-! The regulators: commits, refused commits, and window ends (07 R280-R293). -/

namespace Sys2Proof.Machine

/-! ### Commits (07 R284-R287, R293) -/

theorem State.staged_at (s : State) {p : Nat} (hp : p < 30) : ((List.range 30).map s.staged).getD p {} = s.staged p := by
  simp [List.getD, hp]

/-- What fits is scheduled for the sixth window end. -/
theorem State.qosCommit_fits {s : State} (seq : Nat) (hp : s.mesh.pending = []) (hm : ∀ p, p < 30 → (s.staged p).malformed = false)
    (hs : ∀ n, n < 8 → 5 * load840 ((List.range 30).map s.staged) false n ≤ 4 * 840 * (s.msite n).cap)
    (hg : ∀ p, p < 30 → 5 * (s.staged p).guarSum ≤ 4 * s.portCap p) :
    s.qosCommit seq = (hOk, let s1 := s.commitResult seq 0 0 0 0 0
      { s1 with mesh := { s1.mesh with pending := [{ windows := 6, commit := some ((List.range 30).map s.staged) }] } }) := by
  have h1 : (List.range 30).find? (fun p => (((List.range 30).map s.staged).getD p {}).malformed) = none :=
    List.find?_eq_none.mpr fun p hp => by
      rw [s.staged_at (List.mem_range.mp hp), hm p (List.mem_range.mp hp)]
      exact Bool.false_ne_true
  have h2 : (List.range 8).find? (fun n => decide (4 * 840 * (s.msite n).cap < 5 * load840 ((List.range 30).map s.staged) false n)) = none :=
    List.find?_eq_none.mpr fun n hn => by
      have := hs n (List.mem_range.mp hn)
      simp only [decide_eq_true_eq]
      omega
  have h3 : (List.range 30).find? (fun p => decide (4 * s.portCap p < 5 * (((List.range 30).map s.staged).getD p {}).guarSum)) = none :=
    List.find?_eq_none.mpr fun p hp => by
      have := hg p (List.mem_range.mp hp)
      rw [s.staged_at (List.mem_range.mp hp)]
      simp only [decide_eq_true_eq]
      omega
  have hpend : (s.commitResult seq 0 0 0 0 0).mesh.pending = [] := hp
  unfold State.qosCommit
  dsimp only
  rw [if_neg (not_not_intro hp), h1, h2, h3, hpend]
  rfl

theorem State.commitResult_shows (s : State) (seq code isPort loc load limit : Nat) : let t := s.commitResult seq code isPort loc load limit
    t.mesh = s.mesh ∧ t.mem = s.mem ∧ t.f .QOS_COMMIT_RESULT_SEQ = seq ∧ t.f .QOS_COMMIT_RESULT_CODE = code := by
  refine ⟨rfl, rfl, ?_, ?_⟩ <;> simp [State.commitResult]

theorem refusedCommitKeepsRegulators_holds : refusedCommitKeepsRegulators := by
  intro s t seq st h hok
  unfold State.qosCommit at h
  dsimp only at h
  split at h
  · obtain ⟨rfl, rfl⟩ := Prod.mk.inj h
    obtain ⟨hmesh, hmem, hseq, hcode⟩ := s.commitResult_shows seq 3 0 0 0 0
    exact ⟨hmesh, hmem, .inl rfl, hseq, by rw [hcode]; decide, fun _ => ⟨rfl, hcode⟩⟩
  next hp =>
  split at h
  · next p _ =>
    obtain ⟨rfl, rfl⟩ := Prod.mk.inj h
    obtain ⟨hmesh, hmem, hseq, hcode⟩ := s.commitResult_shows seq 2 1 p 0 0
    exact ⟨hmesh, hmem, .inr (.inl rfl), hseq, by rw [hcode]; decide, fun hn => absurd hn hp⟩
  split at h
  · next n _ =>
    obtain ⟨rfl, rfl⟩ := Prod.mk.inj h
    obtain ⟨hmesh, hmem, hseq, hcode⟩ := s.commitResult_shows seq 1 0 n (load840 ((List.range 30).map s.staged) false n / 840) (4 * (s.msite n).cap / 5)
    exact ⟨hmesh, hmem, .inr (.inr rfl), hseq, by rw [hcode]; decide, fun hn => absurd hn hp⟩
  split at h
  · next p _ =>
    obtain ⟨rfl, rfl⟩ := Prod.mk.inj h
    obtain ⟨hmesh, hmem, hseq, hcode⟩ := s.commitResult_shows seq 1 1 p (((List.range 30).map s.staged).getD p {}).guarSum (4 * s.portCap p / 5)
    exact ⟨hmesh, hmem, .inr (.inr rfl), hseq, by rw [hcode]; decide, fun hn => absurd hn hp⟩
  · exact absurd (Prod.mk.inj h).1.symm hok

/-! ### Window ends (07 R280-R289) -/

/-- What the judging of the misses may change. -/
def missParts : List Part :=
  limitedParts ++ ([.out, .fld .QOS_MISS_COUNT, .fld .QOS_CLASS_MISS_COUNT, .fld .QOS_MISS_STATUS_CLASS] : List Part)

theorem State.Leaves.portMisses {s t : State} (h : s.Leaves missParts t) (p : Nat) : s.Leaves missParts (t.portMisses p) := by
  unfold State.portMisses
  refine .foldl h fun u c h => ?_
  dsimp only
  split
  · exact (State.Leaves.ite h.count.count.setF.emit h.count.count.setF).raiseLimited
  · exact h

/-- A port whose counters have started a new window with nothing that waits. -/
def QPort.fresh (q : QPort) : Prop := q.issued = [] ∧ q.done = [] ∧ q.busyAll = 0

/-- The bytes beyond each class's ceiling, where there are none. -/
theorem foldl_put_zero (l : List Nat) {g : Nat → Nat} (h : ∀ c ∈ l, g c = 0) : l.foldl (fun t c => NTbl.put 0 t c (g c)) [] = [] := by
  induction l with
  | nil => rfl
  | cons c l ih =>
    have hc : NTbl.put 0 [] c (g c) = [] := by
      rw [h c List.mem_cons_self]
      rfl
    rw [List.foldl_cons, hc]
    exact ih fun d hd => h d (List.mem_cons_of_mem _ hd)

/-- No request, transaction or command waits anywhere. -/
def State.meshQuiet (s : State) : Prop := s.mesh.reqs = [] ∧ s.cohOut = [] ∧ s.coh.parked = []

theorem State.classBusy_quiet {s : State} (h : s.meshQuiet) (p c : Nat) : s.classBusy p c = false := by
  obtain ⟨hr, hc, hp⟩ := h
  unfold State.classBusy
  rw [hr, hc, hp]
  rfl

theorem State.portWindow_fresh {s : State} {p : Nat} (h : s.meshQuiet)
    (hu : ∀ c, c < 8 → ((s.qport p).cls c).ceil = 0 ∨ (s.qport p).used c ≤ ((s.qport p).cls c).ceil * 1000) :
    ((s.portWindow p).qport p).fresh := by
  have hb : (List.range 8).filter (s.classBusy p) = [] := List.filter_eq_nil_iff.mpr fun c _ => by
    rw [State.classBusy_quiet h]
    exact Bool.false_ne_true
  unfold State.portWindow
  rw [State.qport_setQport, hb]
  refine ⟨foldl_put_zero _ fun c hc => ?_, rfl, rfl⟩
  rcases hu c (List.mem_range.mp hc) with hz | hle
  · exact if_pos hz
  · split
    · rfl
    · exact Nat.sub_eq_zero_of_le hle

theorem State.portWindow_leaves (s : State) (p : Nat) : s.Leaves [.ports] (s.portWindow p) := State.Leaves.setQport (.refl s)

theorem State.meshQuiet_of_leaves {s t : State} {P : List Part} (h : s.Leaves P t) (hs : s.meshQuiet) (h1 : Part.reqs.inList P = false := by rfl)
    (h2 : Part.txns.inList P = false := by rfl) (h3 : Part.sf.inList P = false := by rfl) (h4 : Part.coh.inList P = false := by rfl) :
    t.meshQuiet := by
  obtain ⟨hr, hc, hp⟩ := hs
  have hk := h.coh h2 h3 h4
  refine ⟨(h.reqs h1).trans hr, ?_, ?_⟩
  · unfold State.cohOut at hc ⊢
    rw [hk]
    exact hc
  · rw [hk]
    exact hp

/-- The ports of a list start their windows. -/
theorem State.portWindows_fresh (l : List Nat) {s : State} (hl : l.Nodup) (h : s.meshQuiet) (hu : ∀ p ∈ l, ∀ c, c < 8 →
    ((s.qport p).cls c).ceil = 0 ∨ (s.qport p).used c ≤ ((s.qport p).cls c).ceil * 1000) :
    ∀ p ∈ l, ((l.foldl State.portWindow s).qport p).fresh := by
  induction l generalizing s with
  | nil => exact fun _ hp => absurd hp List.not_mem_nil
  | cons a l ih =>
    obtain ⟨ha, hl⟩ := List.nodup_cons.mp hl
    have hne : ∀ p ∈ l, (s.portWindow a).qport p = s.qport p := fun p hp => State.qport_setQport_ne _ _ fun he => ha (he ▸ hp)
    intro p hp
    rw [List.foldl_cons]
    by_cases hpl : p ∈ l
    · exact ih hl (State.meshQuiet_of_leaves (s.portWindow_leaves a) h) (fun q hq => by
        rw [hne q hq]
        exact hu q (List.mem_cons_of_mem _ hq)) p hpl
    · have hpa : p = a := (List.mem_cons.mp hp).resolve_right hpl
      subst hpa
      have hk : ((l.foldl State.portWindow (s.portWindow p)).qport p) = (s.portWindow p).qport p :=
        foldl_mem (fun s => s.qport p) State.portWindow l (fun q hq t => State.qport_setQport_ne _ _ fun he => hpl (he ▸ hq)) _
      rw [hk]
      exact State.portWindow_fresh h (hu p List.mem_cons_self)

/-- The ports whose windows are new, with nothing that waits at them, as settings take effect. -/
structure State.WindowOpen (s t : State) : Prop where
  reqs : t.mesh.reqs = []
  mem : t.mem = s.mem
  units : t.units = s.units
  ports : ∀ p, p < 30 → (t.qport p).fresh

theorem State.WindowOpen.leaves {s t u : State} (h : s.WindowOpen t) {P : List Part} (k : t.Leaves P u) (h1 : Part.reqs.inList P = false := by rfl)
    (h2 : Part.ports.inList P = false := by rfl) (h3 : Part.units.inList P = false := by rfl) (h4 : u.mem = t.mem) : s.WindowOpen u := by
  obtain ⟨hr, hm, hu, hp⟩ := h
  refine ⟨(k.reqs h1).trans hr, h4.trans hm, (k.units h3).trans hu, fun p hl => ?_⟩
  unfold State.qport
  rw [k.ports h2]
  exact hp p hl

theorem State.WindowOpen.setQport {s t : State} (h : s.WindowOpen t) {p : Nat} {v : QPort} (hv : (t.qport p).fresh → v.fresh) :
    s.WindowOpen (t.setQport p v) := by
  obtain ⟨hr, hm, hu, hp⟩ := h
  refine ⟨hr, hm, hu, fun q hq => ?_⟩
  by_cases he : q = p
  · subst he
    rw [State.qport_setQport]
    exact hv (hp q hq)
  · rw [State.qport_setQport_ne _ _ he]
    exact hp q hq

theorem State.WindowOpen.pendingSet {s t : State} (h : s.WindowOpen t) {v : List QPending} :
    s.WindowOpen { t with mesh := { t.mesh with pending := v } } := ⟨h.reqs, h.mem, h.units, h.ports⟩

theorem State.WindowOpen.applyEff {s t : State} (h : s.WindowOpen t) (sites ports : List Nat) : s.WindowOpen (t.applyEff sites ports) :=
  foldl_keeps (fun u => s.WindowOpen u) _ _ (fun u p hu => by
    dsimp only
    split
    · exact hu
    · exact hu.setQport fun hq => hq) t h

theorem State.rescale_leaves (s : State) (qs : List QPort) :
    s.Leaves (raiseParts ++ [.fld .QOS_SITE_LOAD_SCALE, .fld .QOS_PORT_STATUS_SCALE]) (s.rescale qs) := by
  unfold State.rescale
  exact .foldl (.foldl (.refl s) fun _ _ h => .ite h h.setF.raise) fun _ _ h => .ite h h.setF.raise

theorem State.WindowOpen.commitNow {s t : State} (h : s.WindowOpen t) (qs : List QPort) : s.WindowOpen (t.commitNow qs) := by
  have h1 := h.leaves (t.rescale_leaves qs) (h4 := (t.rescale_leaves qs).mem)
  unfold State.commitNow
  dsimp only
  generalize t.rescale qs = u at h1
  have h2 := foldl_keeps (fun u => s.WindowOpen u) (fun (u : State) (x : QPort × Nat) => u.setQport x.2 { u.qport x.2 with
    ranges := x.1.ranges, dflt := x.1.dflt, classes := x.1.classes }) (qs.zipIdx) (fun _ _ hu => hu.setQport fun hq => hq) u h1
  generalize List.foldl _ u (qs.zipIdx) = w at h2 ⊢
  have h3 := h2.applyEff w.siteScales w.portScales
  generalize w.applyEff w.siteScales w.portScales = x at h3 ⊢
  exact h3.pendingSet

theorem State.WindowOpen.pendingTick {s t : State} (h : s.WindowOpen t) : s.WindowOpen t.pendingTick := by
  unfold State.pendingTick
  refine foldl_keeps (fun u => s.WindowOpen u) _ _ (fun u p hu => ?_) _ h.pendingSet
  split
  · exact hu.commitNow _
  · exact hu.applyEff ..

theorem windowOpens {s : State} (h : s.meshQuiet) (hu : ∀ p c, p < 30 → c < 8 →
    ((s.qport p).cls c).ceil = 0 ∨ (s.qport p).used c ≤ ((s.qport p).cls c).ceil * 1000) : ∃ t, exec .qosWindowEnd s = .next t
      ∧ t.mesh.reqs = [] ∧ t.mem = s.mem ∧ t.units = s.units
      ∧ ∀ p, p < 30 → (t.qport p).issued = [] ∧ (t.qport p).done = [] ∧ (t.qport p).busyAll = 0 := by
  have h1 : s.Leaves missParts ((List.range 30).foldl State.portMisses s) := .foldl (.refl s) fun _ p h => h.portMisses p
  have hq := State.meshQuiet_of_leaves h1 h
  have hports : ∀ p, ((List.range 30).foldl State.portMisses s).qport p = s.qport p := fun p => by
    unfold State.qport
    rw [h1.ports]
  have h2 : ((List.range 30).foldl State.portMisses s).Leaves [.ports]
      ((List.range 30).foldl State.portWindow ((List.range 30).foldl State.portMisses s)) :=
    .foldl (.refl _) fun _ p h => h.trans (State.portWindow_leaves _ p)
  have hf := State.portWindows_fresh (List.range 30) List.nodup_range hq fun p hp c hc => by
    rw [hports]
    exact hu p c (List.mem_range.mp hp) hc
  have ho : s.WindowOpen ((List.range 30).foldl State.portWindow ((List.range 30).foldl State.portMisses s)) :=
    ⟨(h2.reqs).trans hq.1, h2.mem.trans h1.mem, h2.units.trans h1.units, fun p hp => hf p (List.mem_range.mpr hp)⟩
  obtain ⟨hr, hm, hun, hp⟩ := ho.pendingTick
  refine ⟨_, rfl, ?_⟩
  rw [hr]
  exact ⟨hr, hm, hun, hp⟩

theorem regulatorRows_holds : regulatorRows := by
  intro s m v
  refine ⟨fun hp => ?_, rfl, fun hr hc hk hu => windowOpens ⟨hr, hc, hk⟩ hu⟩
  rintro ⟨hm, hs, hg⟩
  refine writeGives_of (fun _ => rfl) ((State.blockWrite_write3 (by decide)).trans ?_)
  refine Eq.trans (if_pos (bit_setBit ..)) (State.qosCommit_fits _ hp hm hs hg)

/-- Settles O39. -/
theorem regulators : Obligations.Regulators := ⟨regulatorRows_holds, refusedCommitKeepsRegulators_holds⟩

end Sys2Proof.Machine
end

section
-- One proof after the other: many waiting at once would hold too much memory when the text is checked as one.
set_option Elab.async false
/-! Flit replays, plane failures, router faults and the loss of the mesh (07 R261, R277-R279). -/

namespace Sys2Proof.Machine

variable {s t : State} {P : List Part}

/-! ### What the operations leave -/

theorem State.Leaves.cohAll (h : s.Leaves P t) {v : Coh} (h1 : Part.coh.inList P = true := by rfl) (h2 : Part.txns.inList P = true := by rfl)
    (h3 : Part.sf.inList P = true := by rfl) (hv : v.up = t.coh.up := by rfl) : s.Leaves P { t with coh := v } :=
  h.trans fun p hp => by
    cases p
    case coh => exact absurd (h1.symm.trans hp) (by decide)
    case txns => exact absurd (h2.symm.trans hp) (by decide)
    case sf => exact absurd (h3.symm.trans hp) (by decide)
    case up => exact hv
    all_goals rfl

theorem State.Leaves.stopped (h : s.Leaves P t) (hp : Part.mesh.inList P = false := by rfl) : t.mesh.stopped = s.mesh.stopped :=
  (congrArg Mesh.stopped (h .mesh hp) :)

theorem State.Leaves.linkFails (h : s.Leaves P t) (hp : Part.mesh.inList P = false := by rfl) : t.mesh.linkFails = s.mesh.linkFails :=
  (congrArg Mesh.linkFails (h .mesh hp) :)

/-- What the refusal of an agent's request may change. -/
def refuseParts : List Part := [.coh, .txns, .sf, .links, .out]

theorem State.Leaves.hreqFails (h : s.Leaves refuseParts t) {r : HReq} {st : Nat} {lost : Bool} : s.Leaves refuseParts (t.hreqFails r st lost) := by
  have hu : ∀ g, s.Leaves refuseParts (t.updHreqs g) := fun _ => h.cohAll
  unfold State.hreqFails State.cohRefuse
  dsimp only
  split
  · exact (hu _).siteSend
  · exact (hu _).emit

/-- The requests of a plane answered. -/
def State.planeReqs (s : State) (plane : Nat) : List Req := s.mesh.reqs.map (fun (r : Req) =>
  if r.plane = plane ∧ r.phase ≠ ReqPhase.waitPort then
    { r with phase := .issued, status := stPlane, rdata := [], rpoison := 0, ans := true, gone := false }
  else r)

theorem State.dropPlane_leaves (s : State) (plane : Nat) :
    State.Leaves { s with mesh := { s.mesh with reqs := s.planeReqs plane } } refuseParts (s.dropPlane plane) := by
  unfold State.dropPlane
  exact (State.Leaves.foldl (State.Leaves.cohAll (.refl { s with mesh := { s.mesh with reqs := s.planeReqs plane } }))
    fun _ _ h => h.hreqFails).cohAll

theorem State.Leaves.wearAdd (h : s.Leaves P t) {kind cls unit detail : Nat} (h1 : Part.boot.inList P = true := by rfl)
    (h2 : (Part.fld .GLB_REC_STATUS_WEAR_FULL).inList P = true := by rfl) (h3 : (Part.fld .GLB_REC_STATUS_STALE).inList P = true := by rfl) :
    s.Leaves P (t.wearAdd kind cls unit detail) := by
  unfold State.wearAdd
  exact .ite h (.ite (h.flag h2) ((h.bootSet h1).flag h3))

/-- What a change of one class of the unit map may change. -/
def unitParts (c : UCls) : List Part :=
  [.cls c, .units, .umGen, .boot, .fld .GLB_REC_STATUS_WEAR_FULL, .fld .GLB_REC_STATUS_STALE] ++ raiseParts

theorem UCls.code_inj {c d : UCls} (h : c.code = d.code) : c = d := by
  cases c <;> cases d <;> simp_all [UCls.code]

theorem unitsPut_leaves (s : State) (c : UCls) (n : Nat) (v : CUnit) : s.Leaves (unitParts c) { s with units := PTbl.put {} s.units c.code n v } := by
  intro p hp
  cases p
  case units =>
    cases c <;> exact absurd hp (by decide)
  case cls d =>
    by_cases hd : d = c
    · subst hd
      cases d <;> exact absurd hp (by decide)
    · exact funext fun k => PTbl.at_put_ne _ _ _ fun he => hd (UCls.code_inj (Prod.mk.inj he).1)
  all_goals rfl

theorem State.putUnit_leaves (s : State) (c : UCls) (n : Nat) (v : CUnit) : s.Leaves (unitParts c) (s.putUnit c n v) := by
  have h := unitsPut_leaves s c n v
  unfold State.putUnit
  dsimp only
  split
  · cases c <;> exact h.umGenSet.raise
  · exact h

theorem State.setUnit_leaves (s : State) (c : UCls) (n : Nat) (st : UState) : s.Leaves (unitParts c) (s.setUnit c n st) := by
  have h := fun v => s.putUnit_leaves c n v
  unfold State.setUnit
  dsimp only
  split
  · split
    · cases c <;> exact (h _).wearAdd
    · exact h _
  · exact .refl s

theorem State.Leaves.capChanged (h : s.Leaves P t) (hp : subParts (raiseParts ++ ([.fld .QOS_SITE_LOAD_SCALE, .fld .QOS_PORT_STATUS_SCALE] : List Part)) P = true := by rfl)
    (hm : Part.mesh.inList P = true := by rfl) : s.Leaves P t.capChanged := by
  have hr := h.step (t.rescale_leaves t.qports) hp
  unfold State.capChanged
  dsimp only
  generalize t.rescale t.qports = u at hr
  refine hr.upd .mesh hm fun p hn => ?_
  cases p
  case mesh => exact absurd rfl hn
  all_goals rfl

/-! ### Planes that are up -/

theorem bit_or (a b i : Nat) : bit (a ||| b) i = (bit a i || bit b i) := by
  have h : ∀ v, bit v i = v.testBit i := fun v => by
    rw [Nat.testBit_eq_decide_div_mod_eq]
    rfl
  rw [h, h, h, Nat.testBit_or]

theorem bit_mod {a k i : Nat} (h : i < k) : bit (a % 2 ^ k) i = bit a i := by
  have hb : ∀ v, bit v i = v.testBit i := fun v => by
    rw [Nat.testBit_eq_decide_div_mod_eq]
    rfl
  rw [hb, hb, Nat.testBit_mod_two_pow]
  simp [h]

/-- Whether a plane's state lets it be up. -/
def planeLives (u : CUnit) : Bool := match u.st with
  | some .failed => false
  | some .retired => false
  | _ => true

theorem State.mem_planesUp (p : Nat) : p ∈ s.planesUp ↔ p < 4 ∧ bit s.mesh.stopped p = false ∧ planeLives (s.unit .plane p) = true := by
  change p ∈ (List.range 4).filter (fun p => !bit s.mesh.stopped p && planeLives (s.unit .plane p)) ↔ _
  simp

theorem State.planesUp_filter (q : Nat → Bool) (h : ∀ p, p < 4 → ((!bit t.mesh.stopped p && planeLives (t.unit .plane p)) =
    (!bit s.mesh.stopped p && planeLives (s.unit .plane p) && q p))) : t.planesUp = s.planesUp.filter q := by
  change (List.range 4).filter (fun p => !bit t.mesh.stopped p && planeLives (t.unit .plane p))
    = ((List.range 4).filter (fun p => !bit s.mesh.stopped p && planeLives (s.unit .plane p))).filter q
  rw [List.filter_filter]
  refine List.filter_congr fun p hp => (h p (List.mem_range.mp hp)).trans (Bool.and_comm ..)

theorem State.present_of_up {p : Nat} (h : p ∈ s.planesUp) : (s.unit .plane p).st ≠ some .failed := fun he => by
  obtain ⟨-, -, hl⟩ := (State.mem_planesUp p).mp h
  unfold planeLives at hl
  rw [he] at hl
  exact Bool.noConfusion hl

/-! ### The three rows -/

/-- A replay counted, flagged and reported. -/
def State.retryReported (s : State) (plane link : Nat) : State :=
  ((s.count .MESH_RETRY_COUNT_COUNT 0 0 32 1).flag .MESH_ERR_STATUS_LINK_RETRY).raiseLimited 10000 0x3008 sevCorrected 4 plane
    [plane, link] .owner link

/-- The count of failed replays of a link of a plane. -/
def State.failsPut (s : State) (plane link k : Nat) : State :=
  { s with mesh := { s.mesh with linkFails := PTbl.put 0 s.mesh.linkFails plane link k } }

theorem execMeshLinkRetry_up {plane : Nat} (link : Nat) (again : Bool) (h : plane ∈ s.planesUp) : exec (.meshLinkRetry plane link again) s =
    .next (let k := if again then PTbl.at 0 s.mesh.linkFails plane link + 1 else 0
      if 3 ≤ k then (s.linkRetried plane link 0).planeFail plane else s.linkRetried plane link k) := by
  have hk : ((s.count .MESH_RETRY_COUNT_COUNT 0 0 32 1).flag .MESH_ERR_STATUS_LINK_RETRY).Leaves limitedParts (s.retryReported plane link) :=
    .raiseLimited (.refl _)
  have hl : (s.retryReported plane link).mesh.linkFails = s.mesh.linkFails := hk.linkFails
  have hr : ∀ k, s.linkRetried plane link k = (s.retryReported plane link).failsPut plane link k := fun _ => rfl
  have hx : exec (.meshLinkRetry plane link again) s = if !s.planesUp.contains plane then .next s else
      .next (let k := if again then PTbl.at 0 (s.retryReported plane link).mesh.linkFails plane link + 1 else 0
        if 3 ≤ k then ((s.retryReported plane link).failsPut plane link 0).planeFail plane
        else (s.retryReported plane link).failsPut plane link k) := rfl
  rw [hx, if_neg (by simp [h]), hl]
  simp only [hr]

theorem State.planeFail_last {plane : Nat} (h : s.planesUp = [plane]) : s.planeFail plane = s.routerFatal (2 ^ plane) := by
  have hm : plane ∈ s.planesUp := by rw [h]; exact List.mem_singleton_self _
  unfold State.planeFail
  rw [if_neg (State.present_of_up hm), if_neg (by simp [hm]), if_pos h]

/-- What a plane's failure may change besides the requests. -/
def planeFailParts : List Part :=
  ([.mesh, .fld .MESH_ERR_STATUS_PLANE_FAIL, .fld .QOS_SITE_LOAD_SCALE, .fld .QOS_PORT_STATUS_SCALE] : List Part) ++ unitParts .plane

theorem State.stopped_capChanged (s : State) : s.capChanged.mesh.stopped = s.mesh.stopped := by
  have h := s.rescale_leaves s.qports
  unfold State.capChanged
  dsimp only
  generalize s.rescale s.qports = u at h
  exact h.stopped

theorem State.units_setUnit_ne {s : State} {c : UCls} {n k : Nat} {st : UState} (h : k ≠ n) : (s.setUnit c n st).unit c k = s.unit c k := by
  have hp : ∀ v, (s.putUnit c n v).unit c k = s.unit c k := fun v => by
    have hu : (s.putUnit c n v).units = PTbl.put {} s.units c.code n v := by
      unfold State.putUnit
      dsimp only
      split
      · exact State.units_raise ..
      · rfl
    unfold State.unit
    rw [hu, PTbl.at_put_ne _ _ _ fun he => h (Prod.mk.inj he).2]
  unfold State.setUnit
  dsimp only
  split
  · split
    · unfold State.unit at hp ⊢
      rw [State.units_wearAdd]
      exact hp _
    · exact hp _
  · rfl

theorem planeFails {plane : Nat} (h : plane ∈ s.planesUp) (hn : s.planesUp ≠ [plane]) (hu : (s.unit .plane plane).st = some .present) :
    ∃ t, exec (.meshPlaneFail plane) s = .next t ∧ (t.unit .plane plane).st = some .failed
      ∧ t.planesUp = s.planesUp.filter (fun p => decide (p ≠ plane))
      ∧ (∀ r, r ∈ t.mesh.reqs → r.plane = plane → r.phase = .issued → r.ans = true) := by
  have hx : exec (.meshPlaneFail plane) s = .next (((((s.dropPlane plane).setUnit .plane plane .failed).flag
      .MESH_ERR_STATUS_PLANE_FAIL).raise 0x3040 sevUnitFatal 4 plane [plane]).capChanged) := by
    refine congrArg Host.Outcome.next ?_
    unfold State.planeFail
    rw [if_neg (State.present_of_up h), if_neg (by simp [h]), if_neg hn]
  have h1 := s.dropPlane_leaves plane
  have h2 := (s.dropPlane plane).setUnit_leaves .plane plane .failed
  have h3 : (s.dropPlane plane).Leaves planeFailParts (((((s.dropPlane plane).setUnit .plane plane .failed).flag
      .MESH_ERR_STATUS_PLANE_FAIL).raise 0x3040 sevUnitFatal 4 plane [plane]).capChanged) :=
    (h2.mono (Q := planeFailParts) rfl).flag.raise.capChanged
  have hunit : ∀ p, (((((s.dropPlane plane).setUnit .plane plane .failed).flag
      .MESH_ERR_STATUS_PLANE_FAIL).raise 0x3040 sevUnitFatal 4 plane [plane]).capChanged).unit .plane p
      = ((s.dropPlane plane).setUnit .plane plane .failed).unit .plane p := fun p => by
    unfold State.unit
    rw [State.units_capChanged, State.units_raise, State.units_flag]
  have hold : ∀ p, (s.dropPlane plane).unit .plane p = s.unit .plane p := fun p => h1.unit .plane p
  have hfail : (((s.dropPlane plane).setUnit .plane plane .failed).unit .plane plane).st = some .failed :=
    State.unit_setUnit (by rw [hold, hu]; rfl)
  have hstop : ((((((s.dropPlane plane).setUnit .plane plane .failed).flag
      .MESH_ERR_STATUS_PLANE_FAIL).raise 0x3040 sevUnitFatal 4 plane [plane]).capChanged)).mesh.stopped = s.mesh.stopped := by
    rw [State.stopped_capChanged, State.mesh_raise]
    exact h2.stopped.trans h1.stopped
  refine ⟨_, hx, ?_, ?_, ?_⟩
  · rw [hunit]
    exact hfail
  · refine State.planesUp_filter _ fun p _ => ?_
    rw [hstop, hunit]
    by_cases hp : p = plane
    · subst hp
      simp [planeLives, hfail]
    · rw [State.units_setUnit_ne hp, hold]
      simp [hp]
  · intro r hr hp hi
    rw [h3.reqs, h1.reqs] at hr
    obtain ⟨r0, -, rfl⟩ := List.mem_map.mp hr
    by_cases hc : r0.plane = plane ∧ r0.phase ≠ ReqPhase.waitPort
    · rw [if_pos hc]
    · rw [if_neg hc] at hp hi
      exact absurd ⟨hp, by rw [hi]; decide⟩ hc

theorem State.routerFatal_shows (s : State) (mask : Nat) : (s.routerFatal mask).aon.alert = true
    ∧ (s.routerFatal mask).units = s.units ∧ (s.routerFatal mask).hl.moduleSeq = s.hl.moduleSeq + 1
    ∧ (s.routerFatal mask).mesh.reqs = s.mesh.reqs ∧ (s.routerFatal mask).mesh.stopped = s.mesh.stopped ||| mask := by
  unfold State.routerFatal
  refine ⟨State.alert_raise_moduleFatal .., State.units_raise .., State.raise_seq .., ?_, ?_⟩ <;> rw [State.mesh_raise]

theorem State.planesUp_routerFatal (s : State) (mask : Nat) : (s.routerFatal mask).planesUp = s.planesUp.filter (fun p => !bit mask p) := by
  obtain ⟨-, hu, -, -, hs⟩ := s.routerFatal_shows mask
  refine State.planesUp_filter _ fun p _ => ?_
  unfold State.unit
  rw [hs, hu, bit_or, Bool.not_or, Bool.and_right_comm]

theorem State.losePacket_keeps (s : State) (port tag : Nat) : (s.losePacket port tag).units = s.units
    ∧ (s.losePacket port tag).mesh.stopped = s.mesh.stopped ∧ (s.losePacket port tag).hl = s.hl
    ∧ (∀ r, r ∈ (s.losePacket port tag).mesh.reqs → r.port = port → r.tag = tag → r.phase ≠ .waitPort → r.gone = true) := by
  refine ⟨rfl, rfl, rfl, fun r hr hp ht _ => ?_⟩
  obtain ⟨r0, -, rfl⟩ := List.mem_map.mp hr
  split at hp
  · next hc =>
    rw [if_pos hc] at ht
    exact absurd hc (by simp [hp, ht])
  · next hc =>
    rw [if_neg hc]
    split <;> rfl

/-- Settles O40. -/
theorem meshFailures : Obligations.MeshFailures := by
  intro s plane link h
  have hlt := ((State.mem_planesUp plane).mp h).1
  refine ⟨execMeshLinkRetry_up link false h, ⟨fun hk => ?_, fun hk => ?_⟩, fun hn hu => planeFails h hn hu, fun hl => ?_, fun mask => ?_,
    fun mask port tag => ?_⟩
  · rw [execMeshLinkRetry_up link true h]
    exact congrArg Host.Outcome.next (if_neg (by simpa using hk))
  · rw [execMeshLinkRetry_up link true h]
    exact congrArg Host.Outcome.next (if_pos (by simpa using hk))
  · have hm : 2 ^ plane % 16 = 2 ^ plane := Nat.mod_eq_of_lt (Nat.pow_lt_pow_right (by decide) hlt : 2 ^ plane < 2 ^ 4)
    refine congrArg Host.Outcome.next ((State.planeFail_last hl).trans ?_)
    rw [hm]
  · obtain ⟨ha, hu, hs, -, -⟩ := s.routerFatal_shows (mask % 16)
    refine ⟨_, rfl, ha, ?_, hu, hs⟩
    rw [State.planesUp_routerFatal]
    refine List.filter_congr fun p hp => ?_
    rw [show bit (mask % 16) p = bit mask p from bit_mod (k := 4) ((State.mem_planesUp p).mp hp).1]
  · obtain ⟨hu, hst, hh, hr⟩ := s.losePacket_keeps port tag
    obtain ⟨ha, hu2, hs, hr2, -⟩ := (s.losePacket port tag).routerFatal_shows 0
    refine ⟨_, rfl, ha, ?_, hs.trans (by rw [hh]), fun r hrm => hr r (hr2 ▸ hrm)⟩
    rw [State.planesUp_routerFatal]
    have hz : (s.losePacket port tag).planesUp = s.planesUp.filter (fun _ => true) := State.planesUp_filter _ fun p _ => by
      unfold State.unit
      rw [hst, hu, Bool.and_true]
    rw [hz]
    simp [bit]

end Sys2Proof.Machine
end

section
-- One proof after the other: many waiting at once would hold too much memory when the text is checked as one.
set_option Elab.async false
/-! Bytes of memory as they are written and read back, and reads that show errors (05 R196-R209). -/

namespace Sys2Proof.Machine

variable {s t : State}

/-! ### What serving a line leaves -/

/-- The state without the LLC, the combining entries, the channels' queues and the sites. -/
def State.sansLlc (s : State) : State :=
  { s with freeCtr := 0, mem := { s.mem with llc := [], comb := [], sched := [], sites := [] } }

theorem State.sansLlc_combClose (s : State) (line : Nat) : (s.combClose line).sansLlc = s.sansLlc := by
  unfold State.combClose
  split <;> rfl

theorem State.sansLlc_chanPush (s : State) (line kind cls port tag : Nat) : (s.chanPush line kind cls port tag).sansLlc = s.sansLlc := by
  unfold State.chanPush
  dsimp only
  split <;> rfl

theorem State.sansLlc_chanServe (s : State) (line kind cls port tag : Nat) : (s.chanServe line kind cls port tag).sansLlc = s.sansLlc := by
  unfold State.chanServe
  dsimp only
  have h := s.sansLlc_chanPush line kind cls port tag
  split
  · exact h
  · exact h

theorem State.sansLlc_llcRoom (s : State) (line : Nat) : (s.llcRoom line).sansLlc = s.sansLlc := by
  have he : ∀ (t : State) v, (t.llcEvict v).sansLlc = t.sansLlc := fun t v => by
    unfold State.llcEvict State.llcDrop
    split
    · exact t.sansLlc_chanPush v 1 4 31 0
    · rfl
  unfold State.llcRoom State.freeBelow
  dsimp only
  split
  · rfl
  · split
    · exact he _ _
    · rfl

theorem State.sansLlc_llcPut (s : State) (line : Nat) (dirty : Bool) : (s.llcPut line dirty).sansLlc = s.sansLlc := by
  unfold State.llcPut
  dsimp only
  split
  · rfl
  · exact s.sansLlc_llcRoom line

theorem State.memByte_of_sansLlc (h : s.sansLlc = t.sansLlc) (a : Nat) : s.memByte a = t.memByte a :=
  (congrArg (fun s => State.memByte s a) h :)

theorem State.lineLost_of_sansLlc (h : s.sansLlc = t.sansLlc) (line : Nat) : s.lineLost line = t.lineLost line :=
  (congrArg (fun s => State.lineLost s line) h :)

theorem State.poisoned_of_sansLlc (h : s.sansLlc = t.sansLlc) (line : Nat) : s.poisoned line = t.poisoned line :=
  (congrArg (fun s => State.poisoned s line) h :)

theorem State.sec_of_sansLlc (h : s.sansLlc = t.sansLlc) : s.sec = t.sec := (congrArg State.sec h :)

theorem State.twinLine_none (h : s.sec.twins = []) (line : Nat) : s.twinLine line = none := by
  unfold State.twinLine State.twinOf
  rw [h]
  rfl

theorem State.llcHit_clean (s : State) (line : Nat) : s.llcHit line (errOf [] line) = (NTbl.at none s.mem.llc line).isSome := Bool.and_true _

/-- A read that the LLC answers returns the line as it stands. -/
theorem State.readLine_hit (h : s.sec.twins = []) {line : Nat} (hh : (NTbl.at none s.mem.llc line).isSome = true) (src cls port tag : Nat) :
    s.readLine line [] src cls port tag = (s.poisoned line, s) := by
  unfold State.readLine
  dsimp only
  rw [s.llcHit_clean, if_pos hh]
  change (if true = true ∧ (!s.poisoned line) = true then (false, s) else match s.twinLine line with
    | some tl => s.twinRead [] line tl src
    | none => (true, s)) = _
  rw [State.twinLine_none h]
  cases s.poisoned line <;> rfl

/-- A stored line without errors on its pins is good or poisoned. -/
theorem State.eccRead_clean {line : Nat} (hl : s.lineLost line = false) :
    s.eccRead line [] = (if s.poisoned line then .poison else .good, s) := by
  have hp : s.poisoned line = NTbl.at false s.mem.poison line := by
    unfold State.poisoned
    rw [hl, Bool.or_false]
  have hl' : ¬(s.chan (s.storeChan (line * 64))).failed = true := fun h => Bool.false_ne_true (hl.symm.trans h)
  unfold State.eccRead
  dsimp only
  rw [if_neg hl', hp]
  split
  · exact if_pos (Nat.zero_le _)
  · exact (if_pos (Nat.zero_le _)).trans (if_pos rfl)

/-- A read that finds no error returns the line as it stands. -/
theorem State.readLine_clean (h : s.sec.twins = []) {line : Nat} (hl : s.lineLost line = false) (src cls port tag : Nat) :
    ∃ u, s.readLine line [] src cls port tag = (s.poisoned line, u) ∧ u.sansLlc = s.sansLlc := by
  by_cases hh : (NTbl.at none s.mem.llc line).isSome = true
  · exact ⟨s, State.readLine_hit h hh .., rfl⟩
  · have hk := s.sansLlc_chanServe line 0 cls port tag
    have hput := ((s.chanServe line 0 cls port tag).sansLlc_llcPut line false).trans hk
    have htw : ((s.chanServe line 0 cls port tag).llcPut line false).sec.twins = [] := (congrArg Sec.twins (State.sec_of_sansLlc hput)).trans h
    refine ⟨_, ?_, hput⟩
    unfold State.readLine
    dsimp only
    rw [s.llcHit_clean, if_neg hh]
    have he : (s.chanServe line 0 cls port tag).eccRead line (((errOf [] line).map (·.pins)).getD [])
        = (if s.poisoned line then .poison else .good, s.chanServe line 0 cls port tag) := by
      rw [← State.poisoned_of_sansLlc hk]
      exact State.eccRead_clean ((State.lineLost_of_sansLlc hk line).trans hl)
    rw [he]
    cases s.poisoned line
    · rfl
    · simp only [if_true, State.twinLine_none htw]
      rfl

/-! ### Bytes stored -/

theorem State.memBytes_eq (s : State) (a n : Nat) : s.memBytes a n = (List.range n).map (fun i => s.memByte (a + i)) := by
  induction n generalizing a with
  | zero => rfl
  | succ n ih =>
    rw [State.memBytes, ih, List.range_succ_eq_map]
    simp [Function.comp_def, Nat.add_comm, Nat.add_left_comm]

/-- What a byte is read from: the key in force and the line's own, and the cells of its line. -/
theorem State.memByte_congr {a : Nat} (hg : t.ginst (lineGran (a / 64)) = s.ginst (lineGran (a / 64)))
    (ht : t.lineTag (a / 64) = s.lineTag (a / 64)) (hc : ∀ i, i < 64 → NTbl.at 0 t.mem.cells (a / 64 * 64 + i) = NTbl.at 0 s.mem.cells (a / 64 * 64 + i)) :
    t.memByte a = s.memByte a := by
  have hp : t.plainLine (a / 64) = s.plainLine (a / 64) := List.map_congr_left fun i hi => hc i (List.mem_range.mp hi)
  have hcell := hc (a % 64) (Nat.mod_lt _ (by decide))
  rw [Nat.div_add_mod' a 64] at hcell
  unfold State.memByte State.cipherLine
  dsimp only
  rw [hg, ht, hp, hcell]

/-- Bytes put in a line that stands under the key in force. -/
def State.cellsPut (s : State) (pa : Nat) (b : Bytes) : State := { s with mem := s.mem.putBytes pa b }

theorem Mem.putBytes_leaves (b : Bytes) (m : Mem) (pa : Nat) : (m.putBytes pa b).tag = m.tag ∧ (m.putBytes pa b).base = m.base
    ∧ (m.putBytes pa b).ginst = m.ginst ∧ (m.putBytes pa b).inited = m.inited ∧ (m.putBytes pa b).chans = m.chans
    ∧ (m.putBytes pa b).relocR = m.relocR ∧ (m.putBytes pa b).mapped = m.mapped := by
  induction b generalizing m pa with
  | nil => exact ⟨rfl, rfl, rfl, rfl, rfl, rfl, rfl⟩
  | cons x b ih => exact ih _ _

theorem State.lineTag_cellsPut (s : State) (pa line : Nat) (b : Bytes) : (s.cellsPut pa b).lineTag line = s.lineTag line := by
  obtain ⟨ht, hb, -, hi, -⟩ := Mem.putBytes_leaves b s.mem pa
  unfold State.lineTag State.cellsPut
  rw [ht, hb, hi]

theorem State.ginst_cellsPut (s : State) (pa g : Nat) (b : Bytes) : (s.cellsPut pa b).ginst g = s.ginst g := by
  obtain ⟨-, -, hg, -⟩ := Mem.putBytes_leaves b s.mem pa
  unfold State.ginst State.cellsPut
  rw [hg]

/-- Bytes put inside a line under the key in force are read there. -/
theorem State.memByte_cellsPut {pa i : Nat} {b : Bytes} (hf : pa % 64 + b.length ≤ 64)
    (ht : s.lineTag (pa / 64) = s.ginst (lineGran (pa / 64))) (hi : i < b.length) : (s.cellsPut pa b).memByte (pa + i) = b[i] := by
  have hl : (pa + i) / 64 = pa / 64 := by omega
  unfold State.memByte
  dsimp only
  rw [hl, State.lineTag_cellsPut, State.ginst_cellsPut, if_pos ht]
  exact Mem.putBytes_same b s.mem pa i hi

/-- Every other byte reads as before. -/
theorem State.memByte_cellsPut_other {pa a : Nat} {b : Bytes} (hf : pa % 64 + b.length ≤ 64)
    (ht : s.lineTag (pa / 64) = s.ginst (lineGran (pa / 64))) (ha : a < pa ∨ pa + b.length ≤ a) :
    (s.cellsPut pa b).memByte a = s.memByte a := by
  by_cases hl : a / 64 = pa / 64
  · unfold State.memByte
    dsimp only
    rw [hl, State.lineTag_cellsPut, State.ginst_cellsPut, if_pos ht, if_pos ht]
    exact Mem.putBytes_other b s.mem pa a ha
  · refine State.memByte_congr (State.ginst_cellsPut ..) (State.lineTag_cellsPut ..) fun i hi => ?_
    exact Mem.putBytes_other b s.mem pa _ (by omega)

/-- The line put under the key in force. -/
def State.retag (s : State) (line : Nat) : State :=
  { s with mem := { s.mem with tag := NTbl.put none s.mem.tag line (some (s.ginst (lineGran line))) } }

theorem State.lineTag_retag (s : State) (line : Nat) : (s.retag line).lineTag line = (s.retag line).ginst (lineGran line) := by
  unfold State.retag State.lineTag State.ginst
  dsimp only
  rw [NTbl.at_put_same]
  rfl

theorem State.lineTag_retag_ne (s : State) {line l : Nat} (h : l ≠ line) : (s.retag line).lineTag l = s.lineTag l := by
  unfold State.retag State.lineTag
  dsimp only
  rw [NTbl.at_put_ne _ _ _ h]

theorem State.memByte_retag_ne (s : State) {line a : Nat} (h : a / 64 ≠ line) : (s.retag line).memByte a = s.memByte a :=
  State.memByte_congr rfl (s.lineTag_retag_ne h) fun _ _ => rfl

theorem State.freshen_eq (s : State) (line : Nat) : s.freshen line = if s.lineTag line = s.ginst (lineGran line) then s
    else (s.cellsPut (line * 64) (s.memBytes (line * 64) 64)).retag line := by
  unfold State.freshen State.retag
  dsimp only
  rw [State.ginst_cellsPut]
  rfl

/-- A stale line brought under the key in force reads as before. -/
theorem State.freshen_keeps (s : State) (line : Nat) : (s.freshen line).lineTag line = (s.freshen line).ginst (lineGran line)
    ∧ ∀ a, (s.freshen line).memByte a = s.memByte a := by
  rw [State.freshen_eq]
  split
  · next h => exact ⟨h, fun _ => rfl⟩
  · refine ⟨State.lineTag_retag .., fun a => ?_⟩
    have hlen : (s.memBytes (line * 64) 64).length = 64 := by rw [State.memBytes_eq]; simp
    by_cases hl : a / 64 = line
    · have hc := Mem.putBytes_same (s.memBytes (line * 64) 64) s.mem (line * 64) (a % 64)
        (hlen.symm ▸ Nat.mod_lt a (by decide))
      have ha : line * 64 + a % 64 = a := by omega
      have hcell : NTbl.at 0 ((s.cellsPut (line * 64) (s.memBytes (line * 64) 64)).retag line).mem.cells a = s.memByte a := by
        rw [ha] at hc
        refine hc.trans ?_
        simp only [State.memBytes_eq, List.getElem_map, List.getElem_range, ha]
      have ht : ((s.cellsPut (line * 64) (s.memBytes (line * 64) 64)).retag line).lineTag line
        = ((s.cellsPut (line * 64) (s.memBytes (line * 64) 64)).retag line).ginst (lineGran line) := State.lineTag_retag ..
      rw [← hcell]
      unfold State.memByte
      dsimp only
      rw [hl]
      exact if_pos ht
    · rw [State.memByte_retag_ne _ hl]
      refine State.memByte_congr (State.ginst_cellsPut ..) (State.lineTag_cellsPut ..) fun i hi => ?_
      exact Mem.putBytes_other _ s.mem _ _ (by omega)

theorem State.storeIn_eq (s : State) (pa : Nat) (b : Bytes) :
    s.storeIn pa b = (if b.length = 64 then s.retag (pa / 64) else s.freshen (pa / 64)).cellsPut pa b := rfl

/-- Bytes stored inside a line are read back, and every other byte reads as before. -/
theorem State.storeIn_reads {pa : Nat} {b : Bytes} (hf : pa % 64 + b.length ≤ 64) :
    (∀ i (hi : i < b.length), (s.storeIn pa b).memByte (pa + i) = b[i])
      ∧ ∀ a, a < pa ∨ pa + b.length ≤ a → (s.storeIn pa b).memByte a = s.memByte a := by
  rw [State.storeIn_eq]
  split
  · next h =>
    have ht : (s.retag (pa / 64)).lineTag (pa / 64) = (s.retag (pa / 64)).ginst (lineGran (pa / 64)) := State.lineTag_retag ..
    refine ⟨fun i hi => State.memByte_cellsPut hf ht hi, fun a ha => ?_⟩
    rw [State.memByte_cellsPut_other hf ht ha]
    exact State.memByte_retag_ne _ (by omega)
  · obtain ⟨ht, hk⟩ := s.freshen_keeps (pa / 64)
    exact ⟨fun i hi => State.memByte_cellsPut hf ht hi, fun a ha => (State.memByte_cellsPut_other hf ht ha).trans (hk a)⟩

/-! ### Poison -/

/-- The state without the bytes of memory and the keys they were written under. -/
def State.sansCells (s : State) : State := { s with mem := { s.mem with cells := [], tag := [] } }

theorem Mem.putBytes_eq (b : Bytes) (m : Mem) (pa : Nat) : ∃ c, m.putBytes pa b = { m with cells := c } := by
  induction b generalizing m pa with
  | nil => exact ⟨m.cells, rfl⟩
  | cons x b ih =>
    obtain ⟨c, hc⟩ := ih (m.putByte pa x) (pa + 1)
    exact ⟨c, hc⟩

theorem State.sansCells_cellsPut (s : State) (pa : Nat) (b : Bytes) : (s.cellsPut pa b).sansCells = s.sansCells := by
  obtain ⟨c, hc⟩ := Mem.putBytes_eq b s.mem pa
  unfold State.cellsPut
  rw [hc]
  rfl

theorem State.sansCells_retag (s : State) (line : Nat) : (s.retag line).sansCells = s.sansCells := rfl

theorem State.sansCells_freshen (s : State) (line : Nat) : (s.freshen line).sansCells = s.sansCells := by
  rw [State.freshen_eq]
  split
  · rfl
  · exact (State.sansCells_retag ..).trans (s.sansCells_cellsPut _ _)

theorem State.sansCells_storeIn (s : State) (pa : Nat) (b : Bytes) : (s.storeIn pa b).sansCells = s.sansCells := by
  rw [State.storeIn_eq, State.sansCells_cellsPut]
  split
  · exact s.sansCells_retag _
  · exact s.sansCells_freshen _

theorem State.poisoned_of_sansCells {s t : State} (h : s.sansCells = t.sansCells) (line : Nat) : s.poisoned line = t.poisoned line :=
  (congrArg (fun s => State.poisoned s line) h :)

theorem State.sec_of_sansCells {s t : State} (h : s.sansCells = t.sansCells) : s.sec = t.sec := (congrArg State.sec h :)

theorem State.poisoned_storeIn (s : State) (pa : Nat) (b : Bytes) (line : Nat) : (s.storeIn pa b).poisoned line = s.poisoned line :=
  State.poisoned_of_sansCells (s.sansCells_storeIn pa b) line

theorem State.poisoned_setPoison (s : State) (line : Nat) (p : Bool) : (s.setPoison line p).poisoned line = (p || s.lineLost line) := by
  change (NTbl.at false (NTbl.put false s.mem.poison line p) line || s.lineLost line) = _
  rw [NTbl.at_put_same]

theorem State.poisoned_setPoison_ne (s : State) {line l : Nat} (h : l ≠ line) (p : Bool) :
    (s.setPoison line p).poisoned l = s.poisoned l := by
  change (NTbl.at false (NTbl.put false s.mem.poison line p) l || s.lineLost l) = _
  rw [NTbl.at_put_ne _ _ _ h]
  rfl

/-! ### A write inside a line -/

/-- A whole line written, poisoned or not. -/
theorem State.writeCopy_poisons {pa : Nat} {b : Bytes} (hl : s.lineLost (pa / 64) = false) :
    s.writeCopy pa b true [] srcMerge = s.setPoison (pa / 64) true := by
  unfold State.writeCopy
  simp only [hl, Bool.false_eq_true, if_false, if_true, ite_self]

theorem State.writeCopy_whole {pa : Nat} {b : Bytes} (hl : s.lineLost (pa / 64) = false) (hb : b.length = 64) :
    s.writeCopy pa b false [] srcMerge = (s.setPoison (pa / 64) false).storeIn pa b := by
  unfold State.writeCopy
  simp only [hl, hb, Bool.false_eq_true, if_false, if_true]

/-- A part of a line is merged into what a read returns, unless that is poison. -/
theorem State.writeCopy_part {pa : Nat} {b : Bytes} (h : s.sec.twins = []) (hl : s.lineLost (pa / 64) = false) (hb : b.length ≠ 64) :
    ∃ u, s.writeCopy pa b false [] srcMerge = (if s.poisoned (pa / 64) then u else u.storeIn pa b) ∧ u.sansLlc = s.sansLlc := by
  obtain ⟨u, hu, hk⟩ := State.readLine_clean h hl srcMerge 4 31 0
  refine ⟨u, ?_, hk⟩
  unfold State.writeCopy
  simp only [hl, hb, hu, Bool.false_eq_true, if_false]

theorem State.sec_writeCopy {pa : Nat} {b : Bytes} (h : s.sec.twins = []) (hl : s.lineLost (pa / 64) = false) (p : Bool) :
    (s.writeCopy pa b p [] srcMerge).sec = s.sec := by
  have hs : ∀ u : State, (u.storeIn pa b).sec = u.sec := fun u => State.sec_of_sansCells (u.sansCells_storeIn pa b)
  cases p with
  | true => rw [State.writeCopy_poisons hl]; rfl
  | false =>
    by_cases hb : b.length = 64
    · rw [State.writeCopy_whole hl hb, hs]
      rfl
    · obtain ⟨u, hu, hk⟩ := State.writeCopy_part h hl hb
      rw [hu]
      split
      · exact State.sec_of_sansLlc hk
      · exact (hs u).trans (State.sec_of_sansLlc hk)

theorem State.writeLine_eq {pa : Nat} {b : Bytes} (h : s.sec.twins = []) (hl : s.lineLost (pa / 64) = false) (p : Bool) :
    (s.writeLine pa b p).sansLlc = ((s.combClose (pa / 64)).writeCopy pa b p [] srcMerge).sansLlc := by
  have hk := s.sansLlc_combClose (pa / 64)
  have htw : (s.combClose (pa / 64)).sec.twins = [] := (congrArg Sec.twins (State.sec_of_sansLlc hk)).trans h
  have hl' := (State.lineLost_of_sansLlc hk (pa / 64)).trans hl
  have ht : ((s.combClose (pa / 64)).writeCopy pa b p [] srcMerge).twinLine (pa / 64) = none :=
    State.twinLine_none ((congrArg Sec.twins (State.sec_writeCopy htw hl' p)).trans htw) _
  unfold State.writeLine
  dsimp only
  rw [ht]
  exact State.sansLlc_llcPut ..

/-- Settles O41: the line's bytes stand under the key in force once they are written, and nothing else of memory changes but the
line's poison. -/
theorem memoryReadsBack : Obligations.MemoryReadsBack := by
  intro s pa b h hl hb hf
  have hk := s.sansLlc_combClose (pa / 64)
  have hl' := (State.lineLost_of_sansLlc hk (pa / 64)).trans hl
  have htw : (s.combClose (pa / 64)).sec.twins = [] := (congrArg Sec.twins (State.sec_of_sansLlc hk)).trans h
  have hpo := fun l => State.poisoned_of_sansLlc hk l
  have hby := fun a => State.memByte_of_sansLlc hk a
  have hw := fun p => State.writeLine_eq (b := b) h hl p
  refine ⟨fun hc => ?_, ?_, fun l hne p => ?_⟩
  · obtain ⟨u, hu, hread, hp64⟩ : ∃ u : State, ((s.combClose (pa / 64)).writeCopy pa b false [] srcMerge) = u.storeIn pa b
        ∧ (∀ a, u.memByte a = s.memByte a) ∧ (b.length = 64 → u.poisoned (pa / 64) = false) := by
      by_cases h64 : b.length = 64
      · refine ⟨_, State.writeCopy_whole hl' h64, hby, fun _ => ?_⟩
        rw [State.poisoned_setPoison, hl']
        rfl
      · obtain ⟨u, hu, hku⟩ := State.writeCopy_part (b := b) htw hl' h64
        rw [hpo, hc.resolve_left h64] at hu
        exact ⟨u, hu, fun a => (State.memByte_of_sansLlc hku a).trans (hby a), fun h => absurd h h64⟩
    have hk2 := hu ▸ hw false
    obtain ⟨hin, hout⟩ := State.storeIn_reads (s := u) hf
    refine ⟨?_, fun a ha => ?_, fun h64 => ?_⟩
    · rw [State.memBytes_eq]
      refine List.ext_getElem (by simp) fun i h1 h2 => ?_
      rw [List.getElem_map, List.getElem_range, State.memByte_of_sansLlc hk2]
      exact hin i h2
    · rw [State.memByte_of_sansLlc hk2, hout a ha, hread]
    · rw [State.poisoned_of_sansLlc hk2, State.poisoned_storeIn, hp64 h64]
  · rw [State.poisoned_of_sansLlc (hw true), State.writeCopy_poisons hl', State.poisoned_setPoison]
    rfl
  · rw [State.poisoned_of_sansLlc (hw p)]
    cases p with
    | true => rw [State.writeCopy_poisons hl', State.poisoned_setPoison_ne _ hne, hpo]
    | false =>
      by_cases h64 : b.length = 64
      · rw [State.writeCopy_whole hl' h64, State.poisoned_storeIn, State.poisoned_setPoison_ne _ hne, hpo]
      · obtain ⟨u, hu, hku⟩ := State.writeCopy_part (b := b) htw hl' h64
        rw [hu]
        split
        · exact (State.poisoned_of_sansLlc hku l).trans (hpo l)
        · rw [State.poisoned_storeIn]
          exact (State.poisoned_of_sansLlc hku l).trans (hpo l)

/-! ### Detections (05 R199, R200) -/

/-- What a detection may change besides its count. -/
def detectParts : List Part := ([.sites, .fld .MEM_ERR_STATUS_UNCORR, .fld .MEM_ERR_ADDR_LINE, .fld .MEM_ERR_ADDR_CHAN] : List Part) ++ raiseParts

theorem State.Leaves.uncorrRaise {P : List Part} (h : s.Leaves P t) {n line chan src : Nat} {sc : Scope}
    (hp : subParts (.sites :: raiseParts) P = true := by rfl) : s.Leaves P (t.uncorrRaise n line chan src sc) := by
  refine h.step (Q := .sites :: raiseParts) ?_ hp
  unfold State.uncorrRaise
  exact (State.Leaves.refl t).setMsite.raise

theorem State.Leaves.uncorrEvent {P : List Part} (h : s.Leaves P t) {n line src : Nat} {sc : Scope}
    (hp : subParts (.sites :: raiseParts) P = true := by rfl) : s.Leaves P (t.uncorrEvent n line src sc) := by
  refine h.step (Q := .sites :: raiseParts) ?_ hp
  unfold State.uncorrEvent
  exact .ite (State.Leaves.refl t).setMsite (State.Leaves.refl t).uncorrRaise

/-- A detection is counted at the line's home, and else only reported. -/
theorem State.uncorr_leaves (s : State) (line src : Nat) :
    (s.count .MEM_UNCORR_COUNT_COUNT (s.home (line * 64)) 0 32 1).Leaves detectParts (s.uncorr line src) := by
  unfold State.uncorr
  exact (State.Leaves.refl _).flag.setF.setF.uncorrEvent

theorem State.Leaves.uncorr {P : List Part} (h : s.Leaves P t) {line src : Nat}
    (hp : subParts (.fld .MEM_UNCORR_COUNT_COUNT :: detectParts) P = true := by rfl) : s.Leaves P (t.uncorr line src) :=
  h.step (Q := .fld .MEM_UNCORR_COUNT_COUNT :: detectParts) ((State.Leaves.refl t).count.step (t.uncorr_leaves line src) (by rfl)) hp

/-- More wrong symbols than the code corrects, with no pin of the channel erased. -/
theorem State.eccRead_bad {line : Nat} {pins : List Nat} (hp : s.poisoned line = false) (he : (s.chan (s.storeChan (line * 64))).erased = [])
    (hw : 4 < (pins.eraseDups.filter (fun p => decide (p < 72))).length) : s.eccRead line pins = (.bad, s) := by
  obtain ⟨hpo, hl⟩ := Bool.or_eq_false_iff.mp hp
  have hl' : ¬(s.chan (s.storeChan (line * 64))).failed = true := fun h => Bool.false_ne_true (hl.symm.trans h)
  have hr : (pins.eraseDups.filter (fun p => decide (p < 72) && !([] : List Nat).contains p)) = pins.eraseDups.filter (fun p => decide (p < 72)) :=
    congrArg (fun q => pins.eraseDups.filter q) (funext fun p => Bool.and_true _)
  unfold State.eccRead
  dsimp only
  rw [if_neg hl', he, hr, hpo]
  exact (if_neg Bool.false_ne_true).trans (if_neg (Nat.not_le.mpr hw))

theorem State.chan_of_sansLlc (h : s.sansLlc = t.sansLlc) (line : Nat) :
    s.chan (s.storeChan (line * 64)) = t.chan (t.storeChan (line * 64)) :=
  (congrArg (fun s => State.chan s (State.storeChan s (line * 64))) h :)

theorem State.poisonOut_shows (s : State) (line src : Nat) : (s.poisonOut line src).poisoned line = true
    ∧ (s.poisonOut line src).f .MEM_UNCORR_COUNT_COUNT (s.home (line * 64))
      = satAdd 32 (s.f .MEM_UNCORR_COUNT_COUNT (s.home (line * 64))) 1 := by
  have hk := (s.setPoison line true).sansLlc_chanPush line 1 4 31 0
  have hp : ((s.setPoison line true).chanPush line 1 4).mem.poison = NTbl.put false s.mem.poison line true := (congrArg (fun s => State.mem s |>.poison) hk :)
  have hf : ((s.setPoison line true).chanPush line 1 4).flds = s.flds := (congrArg State.flds hk :)
  have hd : ((s.setPoison line true).chanPush line 1 4).home (line * 64) = s.home (line * 64) := (congrArg (fun s => State.home s (line * 64)) hk :)
  unfold State.poisonOut
  generalize (s.setPoison line true).chanPush line 1 4 = t at hp hf hd ⊢
  have hu := t.uncorr_leaves line src
  have hm : (t.uncorr line src).mem.poison = t.mem.poison := (congrArg Mem.poison (hu .mem (by rfl)) :)
  refine ⟨?_, ?_⟩
  · unfold State.poisoned
    rw [hm, hp, NTbl.at_put_same]
    rfl
  · rw [hu.f .MEM_UNCORR_COUNT_COUNT (s.home (line * 64)) 0, hd, State.f_count_same]
    unfold State.f
    rw [hf]

/-- Settles O42: a line whose errors exceed the code's reach meets `poisonOut`; without errors it is read as it stands. -/
theorem uncorrectableReadPoisons : Obligations.UncorrectableReadPoisons := by
  intro s line e h hllc hp hline he hw
  have hl : s.lineLost line = false := (Bool.or_eq_false_iff.mp hp).2
  have hk := s.sansLlc_chanServe line 0 4 31 0
  have hbad : (s.chanServe line 0 4 31 0).eccRead line (((some e).map (·.pins)).getD []) = (.bad, s.chanServe line 0 4 31 0) :=
    State.eccRead_bad ((State.poisoned_of_sansLlc hk line).trans hp) ((congrArg Chan.erased (State.chan_of_sansLlc hk line)).trans he) hw
  have hput := ((s.chanServe line 0 4 31 0).sansLlc_llcPut line false).trans hk
  have htw : ((s.chanServe line 0 4 31 0).llcPut line false).twinLine line = none :=
    State.twinLine_none ((congrArg Sec.twins (State.sec_of_sansLlc hput)).trans h) _
  have herr : errOf [e] line = some e := List.find?_cons_of_pos (by rw [hline]; exact beq_self_eq_true _)
  have hread : s.readLine line [e] srcDemand = (true, ((s.chanServe line 0 4 31 0).llcPut line false).poisonOut line srcDemand) := by
    unfold State.readLine
    dsimp only
    have hmiss : ¬s.llcHit line (errOf [e] line) = true := by
      unfold State.llcHit
      rw [hllc]
      exact Bool.false_ne_true
    rw [if_neg hmiss, herr]
    rw [hbad]
    dsimp only
    rw [htw]
    rfl
  obtain ⟨u, hu, -⟩ := State.readLine_clean h hl srcDemand 4 31 0
  have hhome : ((s.chanServe line 0 4 31 0).llcPut line false).home (line * 64) = s.home (line * 64) :=
    (congrArg (fun s => State.home s (line * 64)) hput :)
  have hfld : ((s.chanServe line 0 4 31 0).llcPut line false).f .MEM_UNCORR_COUNT_COUNT (s.home (line * 64))
      = s.f .MEM_UNCORR_COUNT_COUNT (s.home (line * 64)) :=
    (congrArg (fun t => State.f t .MEM_UNCORR_COUNT_COUNT (s.home (line * 64))) hput :)
  obtain ⟨hpo, hcnt⟩ := ((s.chanServe line 0 4 31 0).llcPut line false).poisonOut_shows line srcDemand
  rw [hhome, hfld] at hcnt
  rw [hread]
  refine ⟨rfl, hpo, ?_, ?_⟩
  · exact hcnt
  · rw [hu]
    exact hp

/-- Settles O43: each alias is its format's addition. -/
theorem aliasArithmetic : Obligations.AliasArithmetic := by
  intro v x hv hx
  refine ⟨rfl, rfl, rfl, ?_⟩
  have hi : ∀ {n : Nat}, n < 2 ^ 32 → asInt 32 n = (BitVec.ofNat 32 n).toInt := fun h => by
    rw [← asInt_toNat, BitVec.toNat_ofNat, Nat.mod_eq_of_lt h]
  rw [← hi hv, ← hi hx]
  exact ofNat_clampInt _

end Sys2Proof.Machine
end

section
-- One proof after the other: many waiting at once would hold too much memory when the text is checked as one.
set_option Elab.async false
/-! What follows when a zone's reading is judged, up to the protective stop of the module (15 R551-R557). -/

namespace Sys2Proof.Machine

variable {s t u : State} {P : List Part} {lo : Nat}

/-! ### What accesses leave -/

/-- The fields that an access may write. -/
def accessFids : List Fid :=
  [.COH_SNOOPS_COUNT, .GLB_REC_STATUS_STALE, .GLB_REC_STATUS_WEAR_FULL, .GLN_COUNT_COUNT, .GLN_MINMAX_MAX, .GLN_MINMAX_MIN, .GLN_SUM_SUM,
    .HL_ERR_STATUS_EVT_LOST, .MEM_COMB_ATTACHED_COUNT, .MEM_COMB_FULL_COUNT, .MEM_COMB_OPENED_COUNT, .MEM_CORR_COUNT_COUNT,
    .MEM_ERR_ADDR_CHAN, .MEM_ERR_ADDR_LINE, .MEM_ERR_STATUS_CH_FAILED, .MEM_ERR_STATUS_CORR, .MEM_ERR_STATUS_PIN_ERASED,
    .MEM_ERR_STATUS_UNCORR, .MEM_RED_FLAGS_FLAGS, .MEM_RED_FLAGS_NAN_COUNT, .MEM_RED_POISONED_COUNT, .MEM_RED_REFUSED_COUNT,
    .MEM_RED_WRITES_COUNT, .MEM_TWIN_REPAIR_COUNT_COUNT, .MEM_TWIN_SERVED_COUNT, .MEM_UNCORR_COUNT_COUNT, .MESH_ERR_STATUS_TIMEOUT,
    .MESH_ERR_STATUS_UNMAPPED, .PRB_BYTES_COUNT, .PRB_PKTS_COUNT, .QOS_PORT_COUNT_TIMEOUTS, .QOS_PORT_COUNT_UNMAPPED,
    .QOS_PORT_STATUS_SCALE, .QOS_SITE_LOAD_SCALE, .SHEAF_CTX_STATUS_PHASE, .SHEAF_CTX_STATUS_STATE, .SHEAF_STATUS_ACTIVE,
    .TEL_CO_REGSTAT_DROPPED, .TEL_CO_REGSTAT_FULL, .TEL_CO_REGSTAT_WRAPPED, .TEL_CO_REGSTAT_WR_PTR, .TEL_FATAL_CODE, .TEL_FATAL_COUNT,
    .TEL_FATAL_CYC_CYCLES, .TEL_FATAL_DOMAIN]

/-- The parts that an access may change. -/
def accessParts : List Part :=
  ([.aon, .units, .cls .channel, .cls .memSite, .umGen, .hl, .cells, .chans, .sched, .sites, .mem, .reqs, .ports, .limits, .mesh, .plots, .sec,
    .boot, .txns, .sf, .coh, .links, .sheaf, .tel, .out, .freeCtr] : List Part) ++ accessFids.map Part.fld

theorem fld_mem_accessParts {f : Fid} (h : accessFid f = true) : (Part.fld f).inList accessParts = true := by
  unfold accessFid at h
  split at h
  on_goal -1 => exact Bool.noConfusion h
  all_goals rfl

/-- What an access may change, as a list of parts. -/
theorem State.Accesses.parts (h : s.Accesses lo t) : s.Leaves accessParts t := by
  intro p hp
  cases p
  case fld f =>
    have hf : accessFid f = false := Bool.eq_false_iff.mpr fun he => Bool.noConfusion ((fld_mem_accessParts he).symm.trans hp)
    exact funext fun i => funext fun j => h.fld f i j hf
  case cls c =>
    have hc : accessUnit c = false := by
      cases c
      case channel => exact Bool.noConfusion hp
      case memSite => exact Bool.noConfusion hp
      all_goals rfl
    exact funext fun n => h.unit c n hc
  case therm => exact funext h.therm
  case control => exact funext h.control
  case plot => exact funext h.plot
  case qps => exact congrArg Eth.qps h.eth
  case streams => exact congrArg Eth.streams h.eth
  case eth => exact congrArg (fun e : Eth => { e with qps := [], streams := [] }) h.eth
  case rwl => exact h.rwl
  case fuses => exact h.fuses
  case umReady => exact h.umReady
  case doms => exact h.doms
  case engs => exact h.engs
  case waits => exact h.waits
  case up => exact h.up
  case pwr => exact h.pwr
  case jtag => exact h.jtag
  case mgmtIndex => exact h.mgmtIndex
  case fallowUnit => exact h.fallowUnit
  case now => exact h.now
  case pending => exact h.pending
  all_goals exact Bool.noConfusion hp

/-- What a change of a site's capacity may change. -/
def capParts : List Part := raiseParts ++ ([.fld .QOS_SITE_LOAD_SCALE, .fld .QOS_PORT_STATUS_SCALE, .mesh, .sites] : List Part)

/-! ### More single updates -/

namespace State.Leaves

theorem cohSet (h : s.Leaves P t) {v : Coh} (hp : Part.coh.inList P = true := by rfl) (h1 : v.txns = t.coh.txns := by rfl)
    (h2 : v.sf = t.coh.sf := by rfl) (h3 : v.up = t.coh.up := by rfl) : s.Leaves P { t with coh := v } :=
  h.upd .coh hp fun p hn => by
    cases p
    case coh => exact absurd rfl hn
    case txns => exact h1
    case sf => exact h2
    case up => exact h3
    all_goals rfl

theorem meshSet (h : s.Leaves P t) {v : Mesh} (hp : Part.mesh.inList P = true := by rfl) (h1 : v.reqs = t.mesh.reqs := by rfl)
    (h2 : v.ports = t.mesh.ports := by rfl) (h3 : v.limits = t.mesh.limits := by rfl) : s.Leaves P { t with mesh := v } :=
  h.upd .mesh hp fun p hn => by
    cases p
    case mesh => exact absurd rfl hn
    case reqs => exact h1
    case ports => exact h2
    case limits => exact h3
    all_goals rfl

theorem ethSet (h : s.Leaves P t) {v : Eth} (hp : Part.eth.inList P = true := by rfl) (h1 : v.qps = t.eth.qps := by rfl)
    (h2 : v.streams = t.eth.streams := by rfl) : s.Leaves P { t with eth := v } :=
  h.upd .eth hp fun p hn => by
    cases p
    case eth => exact absurd rfl hn
    case qps => exact h1
    case streams => exact h2
    all_goals rfl

theorem setDom (h : s.Leaves P t) {d : Nat} {v : Dom} (hp : Part.doms.inList P = true := by rfl) : s.Leaves P (t.setDom d v) := h.domsSet hp

theorem setMb (h : s.Leaves P t) {c : Nat} {v : Mbox} (hp : Part.hl.inList P = true := by rfl) : s.Leaves P (t.setMb c v) := h.hlSet hp

theorem setZone (h : s.Leaves P t) {z : Nat} {v : Zone} (hp : Part.pwr.inList P = true := by rfl) : s.Leaves P (t.setZone z v) := h.pwrSet hp

theorem setShc (h : s.Leaves P t) {x : Nat} {v : ShCtx} (hp : Part.sheaf.inList P = true := by rfl) : s.Leaves P (t.setShc x v) := h.sheafSet hp

theorem setQp (h : s.Leaves P t) {q : Nat} {v : Qp} (hp : Part.qps.inList P = true := by rfl) : s.Leaves P (t.setQp q v) := h.qpsSet hp

theorem setSf (h : s.Leaves P t) {line : Nat} {v : Option SfEnt} (hp : Part.sf.inList P = true := by rfl) : s.Leaves P (t.setSf line v) := h.sfSet hp

theorem putHtxn (h : s.Leaves P t) {x : HTxn} (hp : Part.txns.inList P = true := by rfl) : s.Leaves P (t.putHtxn x) := by
  unfold State.putHtxn
  exact .ite (h.txnsSet hp) (h.txnsSet hp)

theorem setChan (h : s.Leaves P t) {c : Nat} {v : Chan} (hp : Part.chans.inList P = true := by rfl) : s.Leaves P (t.setChan c v) := h.chansSet hp

theorem setSched (h : s.Leaves P t) {k : Nat} {v : Sched} (hp : Part.sched.inList P = true := by rfl) : s.Leaves P (t.setSched k v) := h.schedSet hp

theorem setDeg {c : UCls} (h : s.Leaves (unitParts c) t) {n : Nat} {d : Bool} : s.Leaves (unitParts c) (t.setDeg c n d) := by
  unfold State.setDeg
  exact .ite (h.trans (t.putUnit_leaves _ _ _)) h

theorem updateCap (h : s.Leaves P t) {n : Nat}
    (hp : subParts capParts P = true := by decide +kernel) :
    s.Leaves P (t.updateCap n) := by
  refine h.step (Q := capParts) ?_ hp
  unfold State.updateCap
  exact .ite (.refl t) (State.Leaves.refl t).setMsite.raise.capChanged

end State.Leaves

/-! ### Mailboxes, waits, clocks and rails -/

/-- What a mailbox's reset may change. -/
def mbParts : List Part := .out :: raiseParts

theorem State.Leaves.mbNote (h : s.Leaves mbParts t) {c : Nat} : s.Leaves mbParts (t.mbNote c) := by
  have hr := fun p [Decidable p] {code sev ucls unit : Nat} {detail : List Nat} {sc : Scope} {plot : Option Nat} =>
    State.Leaves.ite (c := p) (h.raise (code := code) (sev := sev) (ucls := ucls) (unit := unit) (detail := detail) (sc := sc) (plot := plot)) h
  unfold State.mbNote
  exact .ite (.emit (.ite (hr _).emit (hr _))) (.ite (hr _).emit (hr _))

theorem State.Leaves.mbReset (h : s.Leaves P t) {p : MbBind → Bool} (hp : subParts mbParts P = true := by decide +kernel) : s.Leaves P (t.mbReset p) := by
  refine h.step (Q := mbParts) ?_ hp
  unfold State.mbReset
  exact .foldl (.refl t) fun _ _ h => .ite h.setMb.mbNote h

/-- What the withdrawal of waiting orders may change. -/
def waitParts : List Part := [.engs, .waits, .fld .TALLY_VALUE_VALUE]

theorem State.Leaves.waitDone (h : s.Leaves waitParts t) {w : TWait} {v : Nat} : s.Leaves waitParts (t.waitDone w v) := by
  unfold State.waitDone
  exact h.waitsSet.updRun

theorem State.Leaves.judgeConsuming {tly : Nat} {l : List TWait} (h : s.Leaves waitParts t) : s.Leaves waitParts (State.judgeConsuming tly l t) := by
  induction l generalizing t with
  | nil => exact h
  | cons w l ih =>
    unfold State.judgeConsuming
    exact .ite (ih h.waitDone.setF) h

theorem State.Leaves.judge (h : s.Leaves waitParts t) {tly : Nat} : s.Leaves waitParts (t.judge tly) := by
  unfold State.judge
  exact .judgeConsuming (.foldl h fun _ _ h => h.waitDone)

theorem State.Leaves.dropWaits (h : s.Leaves P t) {p : TWait → Bool} (hp : subParts waitParts P = true := by decide +kernel) :
    s.Leaves P (t.dropWaits p) := by
  refine h.step (Q := waitParts) ?_ hp
  unfold State.dropWaits
  exact .foldl (State.Leaves.refl t).waitsSet fun _ _ h => h.judge

theorem State.Leaves.engStop (h : s.Leaves P t) {e : Nat} (hp : subParts waitParts P = true := by decide +kernel) : s.Leaves P (t.engStop e) := by
  refine h.step (Q := waitParts) ?_ hp
  unfold State.engStop
  exact (State.Leaves.refl t).setEng.dropWaits

theorem State.Leaves.stopDoms (h : s.Leaves P t) {l : List Nat} (hp : subParts [.doms, .out] P = true := by decide +kernel) : s.Leaves P (t.stopDoms l) := by
  refine h.step (Q := [.doms, .out]) ?_ hp
  unfold State.stopDoms
  exact .foldl (.refl t) fun _ _ h => .ite h.setDom.emit h.setDom

theorem State.Leaves.ccHalted (h : s.Leaves P t) (hp : Part.boot.inList P = true := by rfl) : s.Leaves P t.ccHalted := h.bootSet hp

/-- What the rails' commands may change. -/
def railParts : List Part := [.pwr, .out]

theorem State.Leaves.setVolt (h : s.Leaves railParts t) {r mv : Nat} : s.Leaves railParts (t.setVolt r mv) := h.pwrSet.emit

theorem State.Leaves.stepVolt (h : s.Leaves P t) {e k : Nat} (hp : subParts railParts P = true := by decide +kernel) : s.Leaves P (t.stepVolt e k) :=
  h.step (Q := railParts) (State.Leaves.refl t).setVolt hp

theorem State.Leaves.railUp (h : s.Leaves railParts t) {r : Nat} : s.Leaves railParts (t.railUp r) := by
  unfold State.railUp
  exact .emit (.ite h.stepVolt (.ite h.setVolt h))

theorem State.Leaves.railsFollow (h : s.Leaves P t) {old : State} (hp : subParts railParts P = true := by decide +kernel) : s.Leaves P (t.railsFollow old) := by
  refine h.step (Q := railParts) ?_ hp
  unfold State.railsFollow
  exact .foldl (.foldl (.refl t) fun _ _ h => h.railUp) fun _ _ h => h.emit

/-! ### Frames and packets that leave (10 R387, R399) -/

/-- What a frame that leaves may change. -/
def frameParts : List Part := [.qps, .eth, .out]

theorem State.Leaves.txPut (h : s.Leaves frameParts t) {x : TxItem} : s.Leaves frameParts (t.txPut x) := by
  have he : ∀ {c : Prop} [Decidable c] {v w : Eth}, v.qps = t.eth.qps → w.qps = t.eth.qps → v.streams = t.eth.streams →
      w.streams = t.eth.streams → s.Leaves frameParts { t with eth := if c then v else w } := fun h1 h2 h3 h4 => by
    split
    · exact h.ethSet (h1 := h1) (h2 := h3)
    · exact h.ethSet (h1 := h2) (h2 := h4)
  unfold State.txPut
  dsimp only
  refine .emit ?_
  have hx := he (c := x.strict = true) (v := { t.eth with linkAt := max t.eth.linkAt (t.now * 1000000) + x.bytes * 1000 / t.mesh.ethCap })
    (w := { t.eth with
      linkAt := max t.eth.linkAt (t.now * 1000000) + x.bytes * 1000 / t.mesh.ethCap
      turn := x.h.prio
      turnLeft := (if t.eth.turn = x.h.prio ∧ 0 < t.eth.turnLeft then t.eth.turnLeft else t.f .ETH_TX_WEIGHT_WEIGHT 0 x.h.prio * 4096) - x.bytes })
    rfl rfl rfl rfl
  split
  · exact hx.setQp
  · exact hx

theorem State.Leaves.txRun {k : Nat} (h : s.Leaves frameParts t) : s.Leaves frameParts (State.txRun k t) := by
  induction k generalizing t with
  | zero => exact h
  | succ n ih =>
    unfold State.txRun
    split
    · exact ih h.ethSet.txPut
    · exact h

theorem State.Leaves.txGo (h : s.Leaves P t) (hp : subParts frameParts P = true := by decide +kernel) : s.Leaves P t.txGo :=
  h.step (Q := frameParts) (State.Leaves.refl t).txRun hp

theorem State.Leaves.tx (h : s.Leaves P t) {x : TxItem} (hp : subParts frameParts P = true := by decide +kernel) : s.Leaves P (t.tx x) := by
  refine h.step (Q := frameParts) ?_ hp
  unfold State.tx
  exact .ite (.refl t) (.ite (State.Leaves.refl t).txPut (State.Leaves.refl t).ethSet.txGo)

/-- What packets that a queue pair sends may change. -/
def packetParts : List Part := .fld .ETH_QP_PSN_SQ_PSN :: frameParts

theorem State.Leaves.pktSend (h : s.Leaves P t) {q : Nat} {ps : List SentPkt} (hp : subParts packetParts P = true := by decide +kernel) :
    s.Leaves P (t.pktSend q ps) := by
  have ho : ∀ {u : State} {p : SentPkt}, t.Leaves packetParts u → t.Leaves packetParts (u.pktOut q p) := fun h => by
    unfold State.pktOut
    exact .ite h.tx h
  refine h.step (Q := packetParts) ?_ hp
  unfold State.pktSend
  exact .setF (.setQp (.foldl (.refl t) fun _ _ h => ho h))

/-- What the notice of a lag may change. -/
def lagParts : List Part :=
  packetParts ++ limitedParts ++ ([.sheaf, .fld .SHEAF_CTX_LAG_LAG_MS, .fld .SHEAF_CTX_STATUS_SEGS_DONE, .fld .SHEAF_ERR_STATUS_LAG_SENT] : List Part)

theorem State.Leaves.shSend (h : s.Leaves P t) {x i imm va : Nat} {data : Bytes} {isData : Bool} {good : Option Nat}
    (hp : subParts packetParts P = true := by decide +kernel) : s.Leaves P (t.shSend x i imm va data isData good) := by
  refine h.step (Q := packetParts) ?_ hp
  unfold State.shSend
  dsimp only
  split
  · exact .refl t
  · split
    · exact (State.Leaves.refl t).pktSend
    · exact (State.Leaves.refl t).setQp.pktSend

theorem State.Leaves.shNote (h : s.Leaves P t) {x i kind arg : Nat} (hp : subParts packetParts P = true := by decide +kernel) :
    s.Leaves P (t.shNote x i kind arg) := h.shSend hp

theorem State.Leaves.setRun (h : s.Leaves lagParts t) {x : Nat} {r : ShRun} : s.Leaves lagParts (t.setRun x r) := by
  unfold State.setRun
  exact h.setShc.setF.setF

theorem State.Leaves.shLagEvent (h : s.Leaves lagParts t) {x dir d : Nat} : s.Leaves lagParts (t.shLagEvent x dir d) := by
  have hl := State.Leaves.limit (a := 0x6808) (b := x) (us := 10000) (.refl t)
  unfold State.shLagEvent
  split
  · next he =>
    rw [he] at hl
    exact (h.step hl (by rfl)).raise
  · next he =>
    rw [he] at hl
    exact h.step hl (by rfl)

theorem State.Leaves.shLagTo (h : s.Leaves lagParts t) {x i d : Nat} : s.Leaves lagParts (t.shLagTo x i d) := by
  unfold State.shLagTo
  dsimp only
  split
  · exact h.shNote.flag.shLagEvent.setRun
  · exact h.shNote.flag.shLagEvent

theorem State.Leaves.shLagAll (h : s.Leaves P t) {x : Nat} (hp : subParts lagParts P = true := by decide +kernel) : s.Leaves P (t.shLagAll x) := by
  refine h.step (Q := lagParts) ?_ hp
  unfold State.shLagAll
  exact .ite (.foldl (.refl t) fun _ _ h => h.shLagTo) (.refl t)

theorem State.Leaves.lagBegin (h : s.Leaves P t) (hp : subParts lagParts P = true := by decide +kernel) : s.Leaves P t.lagBegin := by
  refine h.step (Q := lagParts) ?_ hp
  unfold State.lagBegin
  exact .foldl (.refl t) fun _ _ h => h.shLagAll

/-! ### Evictions kept as a site's link is cut (09 R361) -/

theorem State.Leaves.homeWrite (h : s.Leaves P t) {pa : Nat} {b : Bytes} {poison : Bool} {cls : Nat}
    (hp : subParts accessParts P = true := by decide +kernel) : s.Leaves P (t.homeWrite pa b poison cls).2 := by
  refine h.step (Q := accessParts) ?_ hp
  unfold State.homeWrite
  split
  · exact (State.Accesses.refl (lo := 0) t).farTimeout.parts
  · exact ((State.Accesses.refl (lo := 0) t).farAsks.memWrite (Nat.zero_le _)).parts

theorem State.Leaves.dropHolder (h : s.Leaves P t) {line a : Nat} (hp : Part.sf.inList P = true := by rfl) : s.Leaves P (t.dropHolder line a) := by
  unfold State.dropHolder
  exact h.setSf hp

theorem State.Leaves.unhold (h : s.Leaves P t) {a line : Nat} (hp : Part.sf.inList P = true := by rfl) (ht : Part.txns.inList P = true := by rfl) :
    s.Leaves P (t.unhold a line) := by
  unfold State.unhold
  dsimp only
  split
  · exact (h.dropHolder hp).putHtxn ht
  · exact h.dropHolder hp

theorem State.Leaves.evictTake (h : s.Leaves accessParts t) {a line : Nat} {data : Bytes} {poison : Bool} {x : Nat × State}
    (hu : t.evictTake a line data poison = some x) : s.Leaves accessParts x.2 := by
  have some_ite : ∀ {c : Prop} [Decidable c] {st : Nat} {v : State}, s.Leaves accessParts v →
      (if c then some (st, v) else none) = some x → s.Leaves accessParts x.2 := by
    intro c _ st v h hu
    split at hu
    · cases hu
      exact h
    · cases hu
  unfold State.evictTake at hu
  dsimp only at hu
  split at hu
  · exact some_ite h.homeWrite.dropHolder hu
  · split at hu
    · exact some_ite h.homeWrite.unhold hu
    · split at hu
      · exact some_ite h.homeWrite.dropHolder hu
      · exact some_ite h.homeWrite.dropHolder.putHtxn hu

theorem State.Leaves.evictsKept (h : s.Leaves accessParts t) {n : Nat} : s.Leaves accessParts (t.evictsKept n) := by
  have take : ∀ {x : State} {line : Nat} {d : Bytes} {p : Bool}, s.Leaves accessParts x →
      s.Leaves accessParts (((x.evictTake n line d p).map Prod.snd).getD x) := by
    intro x line d p h
    cases hx : x.evictTake n line d p with
    | none => exact h
    | some y => exact h.evictTake hx
  unfold State.evictsKept
  dsimp only
  refine .foldl (.foldl h.cohSet fun _ _ h => take h) fun x e h => ?_
  split
  · exact take h
  · exact h

/-- What the cut of a site's link may change. -/
def cutParts : List Part := accessParts ++ ([.control, .fld .SITE_STATUS_RATE, .fld .SITE_STATUS_PROFILE_ACT] : List Part)

theorem State.Leaves.linkCut (h : s.Leaves P t) {n : Nat} (hp : subParts cutParts P = true := by decide +kernel) : s.Leaves P (t.linkCut n).2 := by
  refine h.step (Q := cutParts) ?_ hp
  have hk := (State.Leaves.evictsKept (n := n) (.refl t)).mono (Q := cutParts) (by rfl)
  unfold State.linkCut
  dsimp only
  exact hk.reqsSet.setControl.setF.setF

theorem State.Leaves.siteCapSet (h : s.Leaves P t) {n : Nat}
    (hp : subParts capParts P = true := by decide +kernel) : s.Leaves P (t.siteCapSet n) := by
  refine h.step (Q := capParts) ?_ hp
  unfold State.siteCapSet
  exact .ite (.refl t) (State.Leaves.refl t).meshSet.capChanged

/-! ### A zone that is judged -/

/-- What the stop of the module may change. -/
def stopParts : List Part :=
  cutParts ++ waitParts ++ railParts ++ ([.doms, .fld .SITE_STATUS_LINK, .fld .PWR_STATUS_STOP, .fld .PWR_ERR_STATUS_STOP, .fld .PWR_STOP_INFO_CAUSE,
    .fld .PWR_STOP_INFO_TEMP_Q2, .fld .PWR_STOP_INFO_RAIL, .fld .PWR_STOP_INFO_ZONE] : List Part)

theorem State.Leaves.siteStop (h : s.Leaves P t) {n : Nat} (hp : subParts (.fld .SITE_STATUS_LINK :: cutParts) P = true := by rfl) :
    s.Leaves P (t.siteStop n) := by
  refine h.step (Q := .fld .SITE_STATUS_LINK :: cutParts) ?_ hp
  unfold State.siteStop
  exact (State.Leaves.refl t).linkCut.setF.setControl.mbReset.siteCapSet

theorem State.Leaves.sheafStop (h : s.Leaves P t) (hp : subParts accessParts P = true := by decide +kernel) : s.Leaves P t.sheafStop :=
  h.step (Q := accessParts) (State.Accesses.refl (lo := 0) t).sheafStop.parts hp

theorem State.Leaves.protStop (h : s.Leaves P t) {cause zone sensor temp rail : Nat} (hp : subParts stopParts P = true := by decide +kernel) :
    s.Leaves P (t.protStop cause zone sensor temp rail) := by
  refine h.step (Q := stopParts) ?_ hp
  unfold State.protStop
  exact .ite (.refl t) (.railsFollow (.raise (.ccHalted (.stopDoms (.sheafStop
    (.foldl (.foldl (State.Leaves.refl t).setF.flag.setF.setF.setF.setF fun _ _ h => h.engStop) fun _ _ h => h.siteStop))))))

/-- What the order to issue at half the rate may change. -/
def halfParts : List Part :=
  lagParts ++ ([.sites, .mesh, .fld .QOS_SITE_LOAD_SCALE, .fld .QOS_PORT_STATUS_SCALE, .fld .PWR_ERR_STATUS_HALF_ISSUE] : List Part)

theorem State.Leaves.halfOn (h : s.Leaves P t) {z cause : Nat} (hp : subParts halfParts P = true := by decide +kernel) : s.Leaves P (t.halfOn z cause) := by
  refine h.step (Q := halfParts) ?_ hp
  have hf := (State.Leaves.refl (P := halfParts) t).setMsite (n := z) (v := { t.msite z with halfIssue := true })
  unfold State.halfOn
  exact .ite (.refl t) (.ite hf.updateCap.raise.flag.lagBegin hf.updateCap.raise.flag)

/-- What a zone that is too hot may change. -/
def coolParts : List Part :=
  railParts ++ ([.fld .PWR_ZONE_STATUS_CAP_THERM, .fld .PWR_ZONE_STATUS_STEP, .fld .CLK_DOM_STATUS_FREQ_ACT] : List Part)

theorem State.Leaves.coolNow (h : s.Leaves P t) {z : Nat} (hp : subParts coolParts P = true := by decide +kernel) : s.Leaves P (t.coolNow z) := by
  refine h.step (Q := coolParts) ?_ hp
  have hc := State.Leaves.setF (f := .PWR_ZONE_STATUS_CAP_THERM) (i := z) (j := 0) (v := 5) (.refl (P := coolParts) t)
  have hs : ∀ u, t.Leaves coolParts u → t.Leaves coolParts (u.putStep z 5) := fun u h => by
    unfold State.putStep
    exact h.setF.setF
  unfold State.coolNow
  exact .ite hc (.ite (hs _ hc).stepVolt.setZone hc.setF.setZone)

/-- What the heat of a zone may change. -/
def heatParts : List Part := stopParts ++ halfParts ++ coolParts

theorem State.Leaves.heat (h : s.Leaves P t) {z : Nat} (hp : subParts heatParts P = true := by decide +kernel) : s.Leaves P (t.heat z) := by
  refine h.step (Q := heatParts) ?_ hp
  have hr := State.Leaves.refl (P := heatParts) t
  unfold State.heat
  exact .ite hr (.ite hr.protStop (.ite hr.protStop (.ite hr.coolNow.halfOn hr)))

/-- What the levels of a zone may change. -/
def levelParts : List Part := ([.pwr, .fld .PWR_ZONE_STATUS_STK_LEVEL, .fld .PWR_ZONE_STATUS_HUB_LEVEL] : List Part) ++ limitedParts

theorem State.Leaves.graceEnd (h : s.Leaves P t) {z cause : Nat} (hp : subParts (.pwr :: raiseParts) P = true := by rfl) :
    s.Leaves P (t.graceEnd z cause) := by
  refine h.step (Q := .pwr :: raiseParts) ?_ hp
  unfold State.graceEnd
  exact .ite (State.Leaves.refl t).setZone.raise (.refl t)

theorem State.Leaves.graceStart (h : s.Leaves P t) {z : Nat} (hp : subParts (.pwr :: raiseParts) P = true := by rfl) : s.Leaves P (t.graceStart z) := by
  refine h.step (Q := .pwr :: raiseParts) ?_ hp
  have hr := State.Leaves.refl (P := .pwr :: raiseParts) t
  unfold State.graceStart
  exact .ite (.ite hr.setZone.raise.graceEnd hr.setZone.raise) hr

theorem State.Leaves.putLevel (h : s.Leaves levelParts t) {z : Nat} {stk : Bool} {new : Nat} : s.Leaves levelParts (t.putLevel z stk new) := by
  have hf : s.Leaves levelParts (t.setF (if stk then .PWR_ZONE_STATUS_STK_LEVEL else .PWR_ZONE_STATUS_HUB_LEVEL) z 0 new) := by
    cases stk
    · exact h.setF
    · exact h.setF
  unfold State.putLevel
  exact .ite h (.ite hf.raiseLimited (.ite hf.raiseLimited.graceStart (.ite hf.raiseLimited.graceEnd (.ite hf.raiseLimited.graceEnd hf.raiseLimited))))

theorem State.Leaves.zoneLevels (h : s.Leaves P t) {z : Nat} (hp : subParts levelParts P = true := by decide +kernel) : s.Leaves P (t.zoneLevels z) := by
  refine h.step (Q := levelParts) ?_ hp
  unfold State.zoneLevels
  exact .ite (.refl t) (State.Leaves.refl t).putLevel.putLevel

/-- What a zone's reading may change. -/
def readingParts : List Part := levelParts ++ heatParts

theorem State.Leaves.zoneRead (h : s.Leaves P t) {z : Nat} (hp : subParts readingParts P = true := by decide +kernel) : s.Leaves P (t.zoneRead z) :=
  h.step (Q := readingParts) (State.Leaves.refl t).zoneLevels.heat hp

end Sys2Proof.Machine
end

section
-- One proof after the other: many waiting at once would hold too much memory when the text is checked as one.
set_option Elab.async false
/-! Events of the memory sites, the sensors of their stacks, and rows that are repaired (05 R185-R226, 06 R243). -/

namespace Sys2Proof.Machine

variable {s t u : State}

theorem State.msite_raise (s : State) (code sev ucls unit : Nat) (detail : List Nat) (sc : Scope) (plot : Option Nat) (n : Nat) :
    (s.raise code sev ucls unit detail sc plot).msite n = s.msite n := by
  unfold State.msite
  rw [State.mem_raise]

theorem State.chan_of_chans (h : t.mem.chans = s.mem.chans) (c : Nat) : t.chan c = s.chan c := by
  unfold State.chan
  rw [h]

/-! ### Intervals, windows and the patrol -/

theorem execUncorrIntervalEnd_quiet {n : Nat} (ho : (s.msite n).uncorrOpen = true) (hd : (s.msite n).chanLossDue = []) :
    exec (.uncorrIntervalEnd n) s = .next (s.setMsite n { s.msite n with uncorrOpen := false }) := by
  change execUncorrIntervalEnd n s = _
  unfold execUncorrIntervalEnd
  dsimp only
  rw [ho, hd]
  rfl

theorem State.chanLossRaise_shows (s : State) (c : Nat) :
    (s.chanLossRaise c).msite (c / 32) = { s.msite (c / 32) with uncorrOpen := true, suppressed := 0 }
      ∧ (s.chanLossRaise c).hl.moduleSeq = s.hl.moduleSeq + 1 := by
  unfold State.chanLossRaise State.uncorrRaise
  dsimp only
  rw [State.msite_raise, State.msite_setMsite]
  exact ⟨rfl, State.raise_seq ..⟩

/-- A loss withheld within the interval opens the next one. -/
theorem execUncorrIntervalEnd_due {n c : Nat} {r : List Nat} (hc : c / 32 = n) (ho : (s.msite n).uncorrOpen = true)
    (hd : (s.msite n).chanLossDue = c :: r) : ∃ t, exec (.uncorrIntervalEnd n) s = .next t ∧ (t.msite n).uncorrOpen = true
      ∧ (t.msite n).chanLossDue = r ∧ t.hl.moduleSeq = s.hl.moduleSeq + 1 := by
  have hx : exec (.uncorrIntervalEnd n) s
      = .next ((s.setMsite n { s.msite n with uncorrOpen := false, chanLossDue := r }).chanLossRaise c) := by
    change execUncorrIntervalEnd n s = _
    unfold execUncorrIntervalEnd
    dsimp only
    rw [ho, hd]
    exact if_neg Bool.false_ne_true
  have hm := State.msite_setMsite s n { s.msite n with uncorrOpen := false, chanLossDue := r }
  have hl : (s.setMsite n { s.msite n with uncorrOpen := false, chanLossDue := r }).hl = s.hl := rfl
  generalize s.setMsite n { s.msite n with uncorrOpen := false, chanLossDue := r } = u at hx hm hl
  obtain ⟨h1, h2⟩ := u.chanLossRaise_shows c
  rw [hc, hm] at h1
  rw [hl] at h2
  exact ⟨_, hx, by rw [h1], by rw [h1], h2⟩

theorem execCombWindowClose_open {n line : Nat} {e : CombEnt} (hn : s.home (line * 64) = n) (he : NTbl.at none s.mem.comb line = some e) :
    ∃ t, exec (.combWindowClose n line) s = .next t ∧ NTbl.at none t.mem.comb line = none
      ∧ (t.msite n).combInUse = (s.msite n).combInUse - 1 ∧ t.mem.cells = s.mem.cells := by
  have hc : s.combClose line = State.setMsite { s with mem := { s.mem with comb := NTbl.put none s.mem.comb line none } } n
      { s.msite n with combInUse := (s.msite n).combInUse - 1 } := by
    unfold State.combClose
    rw [he]
    subst hn
    rfl
  refine ⟨s.combClose line, if_pos hn, ?_, ?_, ?_⟩
  · rw [hc]
    exact (NTbl.at_put_same none s.mem.comb line none :)
  · rw [hc, State.msite_setMsite]
  · rw [hc]
    rfl

/-- A patrol read in its turn. -/
theorem execPatrolRead_turn {n line : Nat} {errs : List LineErr} (he : s.f .MEM_SCRUB_CFG_ENABLE n ≠ 0) (hs : s.scrubsSite n = false)
    (hl : line < 2 ^ 33) (hb : s.bankBlocked line = false) (hr : lineGran line < s.relocBase) (hh : s.home (s.storePa (line * 64)) = n)
    (hp : s.sla (s.storePa (line * 64)) / 64 = s.patrolNext n patrolGap (s.msite n).patrolPos) :
    let s0 := if (s.msite n).patrolPos = 0 then s.setMsite n { s.msite n with period := s.f .MEM_SCRUB_CFG_PERIOD_H n } else s
    let s1 := s0.patrolLine line errs
    let after := s1.patrolNext n patrolGap (s.sla (s.storePa (line * 64)) / 64 + 1)
    exec (.patrolRead n line errs) s = if 2 ^ 30 ≤ after then .next (((s1.setMsite n { s1.msite n with
        patrolPos := 0 }).setF .MEM_SCRUB_STATUS_PROGRESS n 0 0).count .MEM_SCRUB_STATUS_PASSES n 0 32 1)
      else .next ((s1.setMsite n { s1.msite n with patrolPos := after }).setF .MEM_SCRUB_STATUS_PROGRESS n 0 (after / 2 ^ 14)) := by
  intro s0 s1 after
  have hn : ¬(s.f .MEM_SCRUB_CFG_ENABLE n = 0 ∨ s.scrubsSite n = true ∨ 2 ^ 33 ≤ line ∨ s.home (s.storePa (line * 64)) ≠ n
      ∨ s.sla (s.storePa (line * 64)) / 64 ≠ s.patrolNext n patrolGap (s.msite n).patrolPos ∨ s.relocBase ≤ lineGran line
      ∨ s.bankBlocked line = true) := by
    rw [hs, hb]
    rintro (h | h | h | h | h | h | h)
    · exact he h
    · exact Bool.noConfusion h
    · exact absurd hl (Nat.not_lt.mpr h)
    · exact h hh
    · exact h hp
    · exact absurd hr (Nat.not_lt.mpr h)
    · exact Bool.noConfusion h
  change execPatrolRead n line errs s = _
  unfold execPatrolRead
  dsimp only
  rw [if_neg hn, ← hp]

/-! ### Channels and sites that fail -/

theorem State.unit_of_parts {P : List Part} {c : UCls} (h : s.Leaves P t) (n : Nat) (hp : (Part.cls c).inList P = false) :
    t.unit c n = s.unit c n := h.unit c n hp

/-- What a failed channel reports may change. -/
theorem State.lossReported_leaves (s : State) (n c : Nat) : s.Leaves capParts
    (if (s.msite n).uncorrOpen then s.setMsite n { s.msite n with chanLossDue := (s.msite n).chanLossDue ++ [c] } else s.chanLossRaise c) :=
  .ite (State.Leaves.refl s).setMsite (State.Leaves.refl s).uncorrRaise

/-- A channel that fails for the first time. -/
theorem State.channelFail_present {c : Nat} (hu : (s.unit .channel c).st = some .present) (cause : Nat) :
    ((s.channelFail c cause).unit .channel c).st = some .failed ∧ ((s.channelFail c cause).chan c).failed = true
      ∧ (s.channelFail c cause).f .MEM_ERR_STATUS_CH_FAILED (c / 32) = 1 ∧ (s.channelFail c cause).f .MEM_ERR_STATUS_UNCORR (c / 32) = 1 := by
  let s1 := ((s.lostReads c).setChan c { s.chan c with failed := true, repair := none }).setSched c
    { s.sched c with queue := [], draining := false }
  let s2 := (s1.setUnit .channel c .failed).degMem (c / 32)
  let s3 := (s2.flag .MEM_ERR_STATUS_CH_FAILED (c / 32)).flag .MEM_ERR_STATUS_UNCORR (c / 32)
  obtain ⟨t, ht, hk⟩ : ∃ t, s.channelFail c cause = t ∧ s3.Leaves capParts t := by
    refine ⟨_, rfl, ?_⟩
    unfold State.channelFail
    rw [if_neg (by rw [hu]; decide)]
    exact ((State.Leaves.refl s3).raise.updateCap).trans (State.lossReported_leaves _ _ _)
  have hd : (s1.setUnit .channel c .failed).Leaves (unitParts .memSite) s2 := (State.Leaves.refl _).setDeg
  have hs : s1.Leaves (unitParts .channel) (s1.setUnit .channel c .failed) := s1.setUnit_leaves _ _ _
  have hst : ((s1.setUnit .channel c .failed).unit .channel c).st = some .failed :=
    State.unit_setUnit (by rw [show (s1.unit .channel c).st = some .present from hu]; rfl)
  have hch : s2.mem.chans = s1.mem.chans := (hd .chans (by rfl)).trans (hs .chans (by rfl))
  have h1 : s1.chan c = { s.chan c with failed := true, repair := none } := NTbl.at_put_same ..
  rw [ht]
  refine ⟨?_, ?_, ?_, ?_⟩
  · rw [hk.unit .channel c, show s3.unit .channel c = s2.unit .channel c from rfl, hd.unit .channel c, hst]
  · have : t.mem.chans = s1.mem.chans := (hk .chans (by rfl)).trans hch
    rw [State.chan_of_chans this, h1]
  · rw [hk.f .MEM_ERR_STATUS_CH_FAILED (c / 32) 0, State.f_flag_fid _ (by decide), State.f_flag_same]
  · rw [hk.f .MEM_ERR_STATUS_UNCORR (c / 32) 0, State.f_flag_same]

theorem execChannelRetrain_live {ch : Nat} (hc : ch < 256) (hf : (s.chan ch).failed = false) (cleared : Bool) :
    exec (.channelRetrain ch cleared) s = if cleared = true then .next (s.setChan ch { s.chan ch with retrains := 0 })
      else if 3 ≤ (s.chan ch).retrains + 1 then .next ((s.setChan ch { s.chan ch with retrains := 0 }).channelFail ch 1)
      else .next (s.setChan ch { s.chan ch with retrains := (s.chan ch).retrains + 1 }) := by
  refine if_neg ?_
  rw [hf]
  rintro (h | h)
  · exact absurd hc (Nat.not_lt.mpr h)
  · exact Bool.noConfusion h

/-- No context of Sheaf runs once Sheaf has stopped. -/
theorem State.sheafStop_idle (s : State) {x : Nat} (hx : x < 16) : s.sheafStop.f .SHEAF_CTX_STATUS_STATE x = 0 := by
  have hz : ∀ (u : State) y, (if u.f .SHEAF_CTX_STATUS_STATE y = 0 then u else u.sheafIdle y).f .SHEAF_CTX_STATUS_STATE y = 0 := by
    intro u y
    split
    · assumption
    · unfold State.sheafIdle
      dsimp only
      rw [State.f_setF_fid _ _ (by decide), State.f_setF_fid _ _ (by decide), State.f_setF_same]
  have hne : ∀ (u : State) y, y ≠ x → (if u.f .SHEAF_CTX_STATUS_STATE y = 0 then u else u.sheafIdle y).f .SHEAF_CTX_STATUS_STATE x
      = u.f .SHEAF_CTX_STATUS_STATE x := by
    intro u y hy
    split
    · rfl
    · unfold State.sheafIdle
      dsimp only
      rw [State.f_setF_fid _ _ (by decide), State.f_setF_fid _ _ (by decide), State.f_setF_ne _ _ fun he => hy (Prod.mk.inj (Prod.mk.inj he).2).1.symm]
      rfl
  exact foldl_one (p := fun s : State => s.f .SHEAF_CTX_STATUS_STATE x) (fun _ => 0) (List.mem_range.mpr hx) List.nodup_range
    (fun y _ hy u => hne u y hy) (fun u => hz u x) s

theorem State.memFatal_shows (s : State) (n : Nat) : ((s.memFatal n).msite n).fatal = true ∧ (s.memFatal n).msAlive n = false
    ∧ (s.memFatal n).aon.alert = true ∧ ∀ x, x < 16 → (s.memFatal n).f .SHEAF_CTX_STATUS_STATE x = 0 := by
  have hm : (s.memFatal n).msite n = { s.msite n with fatal := true } := by
    have h : (s.memFatal n).mem = (s.setMsite n { s.msite n with fatal := true }).mem := (State.mem_sheafStop _).trans (State.mem_raise ..)
    unfold State.msite
    rw [h]
    exact State.msite_setMsite ..
  refine ⟨by rw [hm], ?_, ?_, fun x hx => State.sheafStop_idle _ hx⟩
  · unfold State.msAlive
    rw [hm]
    exact Bool.and_false _
  · unfold State.memFatal
    rw [State.aon_sheafStop]
    exact State.alert_raise_moduleFatal ..

/-- Settles O44: each event by what it does to its site, its channel or its line. -/
theorem memoryEvents : Obligations.MemoryEvents := by
  intro s n ch line
  refine ⟨execUncorrIntervalEnd_quiet, fun c r hc => execUncorrIntervalEnd_due hc, fun e => execCombWindowClose_open, fun bank => rfl,
    fun errs hs => if_pos (.inr (.inl hs)), fun errs he hs hl hb hr hh hp => ?_, fun hc hu cause => ?_, fun hc hf => ?_, ?_⟩
  · have hx := execPatrolRead_turn (errs := errs) he hs hl hb hr hh hp
    exact ⟨fun ha => hx.trans (if_neg (Nat.not_le.mpr ha)), fun ha => hx.trans (if_pos ha)⟩
  · exact ⟨_, if_pos hc, State.channelFail_present hu cause⟩
  · have hx := execChannelRetrain_live hc hf
    refine ⟨hx true, fun hr => ?_, fun hr => ?_⟩
    · exact (hx false).trans (if_neg (Nat.not_le.mpr (Nat.succ_lt_succ hr)))
    · exact (hx false).trans (if_pos (Nat.succ_le_succ hr))
  · exact ⟨_, rfl, s.memFatal_shows n⟩

/-! ### Sensors of the stacks -/

/-- What the reading of a stack's sensor may change once it is published. -/
def stackReadParts : List Part := .fld .PWR_ZONE_MAX_STK_MAX_Q2 :: readingParts

/-- The hottest reading of a zone's stack, brought up to date from what state `s` shows. -/
def State.stackShown (s u : State) (n : Nat) : Option Int → State
  | some t => if !(s.zone n).stkSeen ∨ asInt 12 (s.f .PWR_ZONE_MAX_STK_MAX_Q2 n) < t then
      (u.setF .PWR_ZONE_MAX_STK_MAX_Q2 n 0 (ofInt 12 t)).setZone n { u.zone n with stkSeen := true }
    else u
  | none => u

/-- A reading of a running site's sensor is published, and its zone is judged. -/
theorem execMemTempReading_running {n : Nat} (hn : n < 8) (hr : (s.dom (8 + n)).running = true) (hf : (s.msite n).fatal = false)
    (q : Option Int) : ∃ t, exec (.memTempReading n q) s = .next t ∧ (s.stackReading n q).Leaves stackReadParts t := by
  have hx : ¬(8 ≤ n ∨ (!(s.dom (8 + n)).running) = true ∨ (s.msite n).fatal = true) := by
    rw [hr, hf]
    rintro (h | h | h)
    · exact absurd hn (Nat.not_lt.mpr h)
    · exact Bool.noConfusion h
    · exact Bool.noConfusion h
  have he : exec (.memTempReading n q) s = .next ((s.stackShown (s.stackReading n q) n
      (if ((s.stackReading n q).msite n).tempLost then some 368 else q)).zoneRead n) := by
    change execMemTempReading n q s = _
    unfold execMemTempReading
    rw [if_neg hx]
    dsimp only
    generalize s.stackReading n q = u
    generalize (if (u.msite n).tempLost = true then some 368 else q) = r
    cases r with
    | none => rfl
    | some x => rfl
  have hs : ∀ (u : State) r, u.Leaves stackReadParts (s.stackShown u n r) := fun u r => by
    cases r with
    | none => exact .refl u
    | some x => exact .ite (State.Leaves.refl u).setF.setZone (.refl u)
  exact ⟨_, he, (hs _ _).zoneRead⟩

/-- Whether the refresh rate is doubled after a reading (05 R219). -/
def State.doubles (s : State) (n : Nat) (q : Int) : Bool :=
  if 340 < q then true else if q < 332 then false else (s.msite n).refresh2x && (s.msite n).tempRead

theorem State.stackReading_some (s : State) (n : Nat) (q : Int) : (s.stackReading n (some q)).f .MEM_TEMP_TEMP_Q2 n = ofInt 12 q
    ∧ ((s.stackReading n (some q)).msite n).therm = (0, true, false, s.doubles n q, true)
    ∧ (s.stackReading n (some q)).f .MEM_STATUS_REFRESH_2X n = b2n (s.doubles n q) := by
  have hp : ∃ u : State, (s.stackReading n (some q)) = ((u.setMsite n { s.msite n with
      tempFails := 0, tempRead := true, tempLost := false, refresh2x := s.doubles n q, maxSeen := true }).setF
      .MEM_STATUS_REFRESH_2X n 0 (b2n (s.doubles n q))).updateCap n ∧ u.f .MEM_TEMP_TEMP_Q2 n = ofInt 12 q := by
    refine ⟨_, rfl, ?_⟩
    split
    · rw [State.f_setF_fid _ _ (by decide), State.f_setF_same]
    · rw [State.f_setF_same]
  obtain ⟨u, hu, hf⟩ := hp
  rw [hu]
  have hk := State.Leaves.updateCap (P := capParts) (n := n) (.refl ((u.setMsite n { s.msite n with
      tempFails := 0, tempRead := true, tempLost := false, refresh2x := s.doubles n q, maxSeen := true }).setF
      .MEM_STATUS_REFRESH_2X n 0 (b2n (s.doubles n q))))
  refine ⟨?_, ?_, ?_⟩
  · rw [hk.f .MEM_TEMP_TEMP_Q2 n 0, State.f_setF_fid _ _ (by decide), State.f_setMsite, hf]
  · rw [hk.therm n]
    change ((u.setMsite n _).msite n).therm = _
    rw [State.msite_setMsite]
    rfl
  · rw [hk.f .MEM_STATUS_REFRESH_2X n 0, State.f_setF_same]

/-- A site whose sensor counts as lost. -/
def MSite.sensorLost (m : MSite) : MSite :=
  { m with tempFails := m.tempFails + 1, tempRead := true, tempLost := true, refresh2x := true, maxSeen := true }

/-- The fields that show a lost sensor, and its report. -/
def State.sensorLost (s : State) (n : Nat) (known : Bool) : State :=
  let s2 := (s.setF .MEM_TEMP_TEMP_Q2 n 0 368).setF .MEM_STATUS_REFRESH_2X n 0 1
  (if known then s2 else s2.raise 0x2040 sevCorrected 2 n [n]).updateCap n

theorem State.sensorLost_leaves (s : State) (n : Nat) (known : Bool) :
    ((s.setF .MEM_TEMP_TEMP_Q2 n 0 368).setF .MEM_STATUS_REFRESH_2X n 0 1).Leaves capParts (s.sensorLost n known) := by
  unfold State.sensorLost
  exact .updateCap (.ite (.refl _) (State.Leaves.refl _).raise)

/-- The third failure in a row. -/
theorem State.stackReading_lost {n : Nat} (hk : (s.msite n).tempFails = 2) :
    ((s.stackReading n none).msite n).therm = (3, true, true, true, true) ∧ (s.stackReading n none).f .MEM_STATUS_REFRESH_2X n = 1 := by
  obtain ⟨u, hu⟩ : ∃ u : State, s.stackReading n none = (u.setMsite n (s.msite n).sensorLost).sensorLost n (s.msite n).tempLost :=
    ⟨_, if_pos (by rw [hk])⟩
  have hm := State.msite_setMsite u n (s.msite n).sensorLost
  rw [hu]
  generalize u.setMsite n (s.msite n).sensorLost = v at hm
  have hl := v.sensorLost_leaves n (s.msite n).tempLost
  refine ⟨?_, ?_⟩
  · rw [hl.therm n]
    change (v.msite n).therm = _
    rw [hm, MSite.sensorLost, hk]
    rfl
  · rw [hl.f .MEM_STATUS_REFRESH_2X n 0, State.f_setF_same]

theorem MSite.therm_eq {m : MSite} {a : Nat} {b c d e : Bool} (h : m.therm = (a, b, c, d, e)) :
    m.tempFails = a ∧ m.tempLost = c ∧ m.refresh2x = d := by
  obtain ⟨h1, h2, h3, h4, h5⟩ := h
  exact ⟨rfl, rfl, rfl⟩

/-- Settles O45: the reading fixes the site's rate; nothing that follows in its zone touches it. -/
theorem stackSensor : Obligations.StackSensor := by
  intro s n q hn hr hf
  refine ⟨?_, fun hk => ?_, fun hk _ => ?_⟩
  · obtain ⟨t, ht, hl⟩ := execMemTempReading_running hn hr hf (some q)
    obtain ⟨h1, h2, h3⟩ := s.stackReading_some n q
    obtain ⟨hfails, -, hrate⟩ := MSite.therm_eq ((hl.therm n).trans h2)
    have hbit := (hl.f .MEM_STATUS_REFRESH_2X n 0).trans h3
    unfold State.doubles at hrate hbit
    refine ⟨t, ht, (hl.f .MEM_TEMP_TEMP_Q2 n 0).trans h1, hfails, fun hq => ?_, fun hq => ?_, fun h1 h2 hread => ?_⟩
    · rw [if_pos hq] at hrate hbit
      exact ⟨hrate, hbit⟩
    · rw [if_neg (by omega), if_pos hq] at hrate hbit
      exact ⟨hrate, hbit⟩
    · rw [if_neg (by omega), if_neg (by omega), hread, Bool.and_true] at hrate
      exact hrate
  · obtain ⟨t, ht, hl⟩ := execMemTempReading_running hn hr hf none
    have hs : s.stackReading n none = s.setMsite n { s.msite n with tempFails := (s.msite n).tempFails + 1 } :=
      if_neg (by omega)
    obtain ⟨h1, -, h2⟩ := MSite.therm_eq (hl.therm n)
    rw [hs, State.msite_setMsite] at h1 h2
    exact ⟨t, ht, h1, h2⟩
  · obtain ⟨t, ht, hl⟩ := execMemTempReading_running hn hr hf none
    obtain ⟨h1, h2⟩ := State.stackReading_lost hk
    obtain ⟨-, hlost, hrate⟩ := MSite.therm_eq ((hl.therm n).trans h1)
    exact ⟨t, ht, hlost, hrate, (hl.f .MEM_STATUS_REFRESH_2X n 0).trans h2⟩

/-! ### Rows that are repaired -/

/-- A row as no error was noted of it. -/
def State.rowForgotten (s : State) (ch bank row : Nat) : State :=
  { s with mem := { s.mem with rowErr := PTbl.put [] s.mem.rowErr ch (rowKey bank row) [] } }

theorem State.rowForgotten_clean (s : State) (ch bank row : Nat) :
    PTbl.at [] (s.rowForgotten ch bank row).mem.rowErr ch (rowKey bank row) = [] :=
  (PTbl.at_put_same [] s.mem.rowErr ch (rowKey bank row) [] :)

/-- The end of a repair. -/
theorem State.repairEnd_shows (s : State) (ch bank row : Nat) : let t := s.repairEnd ch bank row
    NTbl.at 0 (t.chan ch).spareUsed bank = NTbl.at 0 (s.chan ch).spareUsed bank + 1 ∧ (t.chan ch).repair = none
      ∧ PTbl.at [] t.mem.rowErr ch (rowKey bank row) = [] ∧ t.f .MEM_ERR_STATUS_PPR_DONE (ch / 32) = 1 ∧ t.mem.cells = s.mem.cells
      ∧ t.hl.moduleSeq = s.hl.moduleSeq + 1 := by
  intro t
  let s1 := (s.rowForgotten ch bank row).setChan ch { s.chan ch with
    spareUsed := NTbl.put 0 (s.chan ch).spareUsed bank (NTbl.at 0 (s.chan ch).spareUsed bank + 1), repair := none }
  let s2 := s1.setSched ch { s1.sched ch with rows := NTbl.put none (s1.sched ch).rows bank none }
  let s3 := (s2.flag .MEM_ERR_STATUS_PPR_DONE (ch / 32)).wearAdd 3 3 ch (rowKey bank row)
  have ht : t = s3.raise 0x2004 sevCorrected 3 ch [ch, bank, row] := rfl
  have hm : t.mem = s2.mem := by rw [ht, State.mem_raise, State.mem_wearAdd, State.mem_flag]
  have hc : t.chan ch = s1.chan ch := State.chan_of_chans (congrArg Mem.chans hm) ch
  have h1 : s1.chan ch = _ := State.chan_setChan ..
  refine ⟨?_, ?_, ?_, ?_, ?_, ?_⟩
  · rw [hc, h1]
    exact NTbl.at_put_same (0 : Nat) (s.chan ch).spareUsed bank (NTbl.at 0 (s.chan ch).spareUsed bank + 1)
  · rw [hc, h1]
  · rw [hm]
    exact s.rowForgotten_clean ch bank row
  · rw [ht, State.f_raise (h := by decide), State.f_wearAdd _ _ _ _ _ (by decide), State.f_flag_same]
  · rw [hm]
    rfl
  · rw [ht, State.raise_seq, State.hl_wearAdd]
    rfl

/-- The start of a repair where no line of the row shows an error. -/
theorem State.repairStart_shows (s : State) (ch bank row : Nat) : let t := s.repairStart ch bank row []
    (t.chan ch).repair = some (bank, row) ∧ (t.chan ch).spareUsed = (s.chan ch).spareUsed
      ∧ (∀ x, x ∈ (t.sched ch).queue → (s.lineRow x.line).1 ≠ bank) ∧ t.mem.rowErr = s.mem.rowErr ∧ t.mem.cells = s.mem.cells
      ∧ t.hl = s.hl := by
  intro t
  have hc : t.chan ch = { s.chan ch with repair := some (bank, row) } := State.chan_setChan ..
  refine ⟨by rw [hc], by rw [hc], fun x hx => ?_, rfl, rfl, rfl⟩
  have hq : (t.sched ch).queue = _ := congrArg Sched.queue (State.sched_setSched ..)
  rw [hq] at hx
  exact bne_iff_ne.mp (List.mem_filter.mp hx).2

/-- Settles O46: the row's notes are what starts its repair, and they are forgotten whatever comes of it. -/
theorem rowRepair : Obligations.RowRepair := by
  intro s ch bank row
  refine ⟨fun hr errs => ⟨_, if_pos hr, s.repairEnd_shows ch bank row⟩, fun hk hf hr => ?_⟩
  have hx : ∀ errs, exec (.postPackageRepair ch bank row errs) s = if 2 ≤ NTbl.at 0 (s.chan ch).spareUsed bank then
      if NTbl.at false (s.chan ch).pprNone bank then .next (s.rowForgotten ch bank row)
      else .next ((((s.rowForgotten ch bank row).setChan ch { s.chan ch with pprNone := NTbl.put false (s.chan ch).pprNone bank true }).flag
          .MEM_ERR_STATUS_PPR_NONE (ch / 32)).raise 0x2005 sevCorrected 3 ch [ch, bank, row])
      else .next ((s.rowForgotten ch bank row).repairStart ch bank row errs) := fun errs => by
    have hn : ¬((PTbl.at [] s.mem.rowErr ch (rowKey bank row)).length < 4 ∨ (s.chan ch).failed = true ∨ (s.chan ch).repair.isSome = true) := by
      rw [hf, hr]
      rintro (h | h | h)
      · exact absurd hk (Nat.not_le.mpr h)
      · exact Bool.noConfusion h
      · exact Bool.noConfusion h
    refine (if_neg ?_).trans (if_neg hn)
    rw [hr]
    exact nofun
  refine ⟨fun hs => ?_, fun hs hp errs => ?_⟩
  · have hn := fun errs => (hx errs).trans (if_neg (Nat.not_le.mpr hs))
    obtain ⟨h1, h2, h3, h4, h5, h6⟩ := (s.rowForgotten ch bank row).repairStart_shows ch bank row
    exact ⟨fun errs => ⟨_, hn errs⟩, _, hn [], h1, h2, h3, by rw [h4]; exact s.rowForgotten_clean ch bank row, h5, h6⟩
  · let u := ((s.rowForgotten ch bank row).setChan ch { s.chan ch with pprNone := NTbl.put false (s.chan ch).pprNone bank true }).flag
      .MEM_ERR_STATUS_PPR_NONE (ch / 32)
    refine ⟨_, (hx errs).trans ((if_pos hs).trans (if_neg (by rw [hp]; exact Bool.false_ne_true))), ?_, ?_, ?_⟩
    · rw [State.f_raise (h := by decide), State.f_flag_same]
    · have hc : u.chan ch = { s.chan ch with pprNone := NTbl.put false (s.chan ch).pprNone bank true } := State.chan_setChan ..
      rw [State.chan_of_chans (s := u) (by rw [State.mem_raise]), hc]
      exact (NTbl.at_put_same false (s.chan ch).pprNone bank true :)
    · rw [State.raise_seq]
      rfl

end Sys2Proof.Machine
end

section
-- One proof after the other: many waiting at once would hold too much memory when the text is checked as one.
set_option Elab.async false
/-! The TAP, its debug access instrument, and the management port (16 R596, R597; 17 R621-R624). -/

namespace Sys2Proof.Machine

variable {s : State}

/-! ### Instructions of the TAP -/

theorem State.loadIr_eq (h : s.jtag.reset = false) (code : Nat) :
    s.loadIr code = { s with jtag := { s.jtag with ir := s.irFor code } } := if_neg (by rw [h]; exact Bool.false_ne_true)

/-- An instruction that does not take the pins is selected in every state but SCRAP. -/
theorem State.irFor_plain {code : Nat} (h : s.sec.lcState ≠ lcScrap) (hc : code ≠ irExtest ∧ code ≠ irClamp ∧ code ≠ irHighz) :
    s.irFor code = code := by
  obtain ⟨h1, h2, h3⟩ := hc
  unfold State.irFor
  rw [if_neg (fun hx => h hx.1), if_neg]
  rintro ⟨h | h | h, -⟩
  · exact h1 h
  · exact h2 h
  · exact h3 h

/-- An instruction that takes the pins is selected where they are free for it. -/
theorem State.irFor_pins {code : Nat} (h : s.sec.lcState ≠ lcScrap) (hp : s.pinsFree = true) : s.irFor code = code := by
  unfold State.irFor
  rw [if_neg (fun hx => h hx.1), if_neg]
  rintro ⟨-, hx⟩
  rw [hp] at hx
  exact Bool.noConfusion hx

theorem State.irFor_noPins {code : Nat} (hp : s.pinsFree = false) (hc : code = irExtest ∨ code = irClamp ∨ code = irHighz) :
    s.irFor code = irBypass := by
  unfold State.irFor
  rw [hp]
  split
  · rfl
  · exact if_pos ⟨hc, rfl⟩

theorem State.irFor_bypass (s : State) : s.irFor irBypass = irBypass := by
  unfold State.irFor
  split
  · rfl
  · exact if_neg fun h => absurd h.1 (by decide)

theorem State.irFor_idcode (s : State) : s.irFor irIdcode = irIdcode := by
  unfold State.irFor
  rw [if_neg (fun h => h.2 rfl), if_neg fun h => absurd h.1 (by decide)]

theorem State.irFor_scrap {code : Nat} (h : s.sec.lcState = lcScrap) (hc : code ≠ irIdcode) : s.irFor code = irBypass := if_pos ⟨h, hc⟩

theorem State.loadBoundary_selected {code : Nat} (h : s.jtag.reset = false) (hi : s.irFor code = code) (dr : Nat) :
    (s.loadBoundary code dr).jtag.ir = code ∧ (s.loadBoundary code dr).jtag.boundary = dr := by
  have hb : s.loadBoundary code dr = { s with jtag := { s.jtag with ir := code, boundary := dr } } := by
    unfold State.loadBoundary
    rw [State.loadIr_eq h, hi, h]
    exact if_pos ⟨rfl, rfl⟩
  rw [hb]
  exact ⟨rfl, rfl⟩

theorem State.loadBoundary_bypassed {code : Nat} (h : s.jtag.reset = false) (hi : s.irFor code = irBypass) (hc : code ≠ irBypass) (dr : Nat) :
    (s.loadBoundary code dr).jtag.ir = irBypass ∧ (s.loadBoundary code dr).jtag.boundary = s.jtag.boundary := by
  have hb : s.loadBoundary code dr = { s with jtag := { s.jtag with ir := irBypass } } := by
    unfold State.loadBoundary
    rw [State.loadIr_eq h, hi]
    exact if_neg fun hx => hc hx.2.symm
  rw [hb]
  exact ⟨rfl, rfl⟩

theorem State.jtag_loadIr (h : s.jtag.reset = false) (code : Nat) :
    (s.loadIr code).jtag = { s.jtag with ir := s.irFor code } := by rw [State.loadIr_eq h]

/-! ### The debug access instrument -/

theorem State.instrCapture_settled (h : s.jtag.left ≤ 1) :
    s.instrCapture = (s.jtag.result, { s with jtag := { s.jtag with left := s.jtag.left - 1 } }) := if_pos h

/-- One scan of the instrument's register, once nothing keeps its access waiting. -/
def instrScan (dr : BitVec 128) (s : State) : Res :=
  if s.jtag.reset ∨ s.jtag.ir ≠ irIjtag ∨ s.sec.lcState = lcScrap then .next s
  else
    let (cap, s1) := s.instrCapture
    let s2 := s1.emit (.serial 1 (leBytes 16 cap))
    let v := dr.toNat
    if bits v 63 62 = 0 then .next s2
    else
      let a := bits v 51 3 * 8
      let (d, res, s3) := s2.instrument (bits v 63 62) a (bits v 127 64)
      .next { s3 with jtag := { s3.jtag with
        result := d * 2 ^ 64 + bits v 63 62 * 2 ^ 62 + res * 2 ^ 59 + a, left := 2 } }

theorem execDebugAccessInstrument_eq (dr : BitVec 128) (s : State) :
    exec (.debugAccessInstrument dr) s = parkIf (.debugAccessInstrument dr) (ParkKey.master 0x70).no (instrScan dr) s := rfl

/-- The instrument where its instruction is selected: what it does with the scanned register. -/
theorem instrument_comesTo {dr : BitVec 128} {t : State} (hr : s.jtag.reset = false) (hi : s.jtag.ir = irIjtag) (hl : s.sec.lcState ≠ lcScrap)
    (hc : s.jtag.left ≤ 1)
    (ht : let s2 := State.emit { s.arm with jtag := { s.jtag with left := s.jtag.left - 1 } } (.serial 1 (leBytes 16 s.jtag.result))
      (if bits dr.toNat 63 62 = 0 then s2 else
        let x := s2.instrument (bits dr.toNat 63 62) (bits dr.toNat 51 3 * 8) (bits dr.toNat 127 64)
        { x.2.2 with jtag := { x.2.2.jtag with
          result := x.1 * 2 ^ 64 + bits dr.toNat 63 62 * 2 ^ 62 + x.2.1 * 2 ^ 59 + bits dr.toNat 51 3 * 8, left := 2 } }) = t) :
    s.comesTo (.debugAccessInstrument dr) (.master 0x70) t := by
  refine State.comesTo_of (execDebugAccessInstrument_eq dr s) ?_
  have hn : ¬(s.arm.jtag.reset = true ∨ s.arm.jtag.ir ≠ irIjtag ∨ s.arm.sec.lcState = lcScrap) := by
    rintro (h | h | h)
    · exact Bool.false_ne_true (hr.symm.trans h)
    · exact h hi
    · exact hl h
  unfold instrScan
  rw [if_neg hn, State.instrCapture_settled (s := s.arm) hc, ← ht]
  dsimp only
  split
  · rfl
  · rfl

/-! ### The management port -/

theorem mgmtBytes_length (d : Bytes) (hd : d.length = 8) (x : BitVec 8) (n : Nat) :
    ((d ++ [x]).take n ++ List.replicate (n - 9) 0xFF#8).length = n := by
  rw [List.length_append, List.length_take, List.length_append, List.length_replicate, hd, List.length_singleton]
  omega

theorem mgmtBytes_tail (d : Bytes) (hd : d.length = 8) (x : BitVec 8) {n i : Nat} (h9 : 9 ≤ i) (hi : i < n) :
    ((d ++ [x]).take n ++ List.replicate (n - 9) 0xFF#8).getD i 0 = 0xFF := by
  have hl : ((d ++ [x]).take n).length = 9 := by
    rw [List.length_take, List.length_append, hd, List.length_singleton]
    omega
  rw [List.getD_eq_getElem?_getD, List.getElem?_append_right (by omega), hl, List.getElem?_replicate, if_pos (by omega)]
  rfl

/-- Settles O60: the TAP by the instruction that the state of the module lets act, the ports by what they show. -/
theorem testAndManagementPorts : Obligations.TestAndManagementPorts := by
  intro s
  refine ⟨fun h => ⟨fun dr hl => ?_, fun dr hl hp => ⟨?_, ?_, ?_⟩, fun dr hp => ⟨?_, ?_, ?_⟩, fun hl => ?_, fun hl => ?_, ?_, ?_⟩, ?_, ?_,
    fun dr hr hi hl hc => ⟨fun hz => ?_, fun hz d r s3 hx => ?_⟩, fun b r => rfl, ?_, fun n => ?_⟩
  · exact ⟨_, rfl, State.loadBoundary_selected h (State.irFor_plain hl (by decide)) dr⟩
  · exact ⟨_, rfl, State.loadBoundary_selected h (State.irFor_pins hl hp) dr⟩
  · exact ⟨_, rfl, by rw [State.jtag_loadIr h, State.irFor_pins hl hp], by rw [State.jtag_loadIr h]⟩
  · exact ⟨_, rfl, by rw [State.jtag_loadIr h, State.irFor_pins hl hp], by rw [State.jtag_loadIr h]⟩
  · exact ⟨_, rfl, State.loadBoundary_bypassed h (State.irFor_noPins hp (.inl rfl)) (by decide) dr⟩
  · exact ⟨_, rfl, by rw [State.jtag_loadIr h, State.irFor_noPins hp (.inr (.inl rfl))]⟩
  · exact ⟨_, rfl, by rw [State.jtag_loadIr h, State.irFor_noPins hp (.inr (.inr rfl))]⟩
  · exact ⟨_, rfl, by rw [State.jtag_loadIr h, State.irFor_plain hl (by decide)], by rw [State.loadIr_eq h]⟩
  · exact ⟨_, rfl, by rw [State.jtag_loadIr h, State.irFor_scrap hl (by decide)]⟩
  · exact ⟨_, rfl, by rw [State.jtag_loadIr h, State.irFor_bypass], by rw [State.loadIr_eq h]⟩
  · have hx : exec .idcode s = .next ((s.loadIr irIdcode).emit (.serial 1 (leBytes 4 0x116085CF))) :=
      congrArg Host.Outcome.next (if_neg (by rw [h]; exact Bool.false_ne_true))
    have hb : leBytes 4 0x116085CF = [0xCF, 0x85, 0x60, 0x11] := by decide
    rw [State.loadIr_eq h, State.irFor_idcode, hb] at hx
    exact ⟨_, hx, rfl, rfl⟩
  · exact ⟨_, rfl, rfl, rfl, rfl, rfl⟩
  · exact ⟨_, rfl, rfl, rfl, rfl⟩
  · exact instrument_comesTo hr hi hl hc (if_pos hz)
  · refine instrument_comesTo hr hi hl hc ((if_neg hz).trans ?_)
    rw [hx]
  · have ht : (leBytes 8 (s.mgmtWord s.mgmtIndex) ++ [BitVec.ofNat 8 (pec ([0xB4#8, BitVec.ofNat 8 s.mgmtIndex, 0xB5#8]
        ++ leBytes 8 (s.mgmtWord s.mgmtIndex)))]).take 8 ++ List.replicate (8 - 9) 0xFF#8 = leBytes 8 (s.mgmtWord s.mgmtIndex) := by
      rw [List.take_append_of_le_length (by rw [leBytes_length]), List.take_of_length_le (by rw [leBytes_length])]
      exact List.append_nil _
    refine ⟨_, rfl, ?_, rfl, rfl, rfl⟩
    exact congrArg (fun b => s.out ++ [Out.serial 0 b]) ht
  · exact ⟨_, _, rfl, rfl, mgmtBytes_length _ (leBytes_length ..) _ n, fun i h9 hi => mgmtBytes_tail _ (leBytes_length ..) _ h9 hi⟩

end Sys2Proof.Machine
end

section
-- One proof after the other: many waiting at once would hold too much memory when the text is checked as one.
set_option Elab.async false
/-! Telemetry: captures, the carve-out, exports, monitors, probes, debug stores and the analogue test bus (16 R578-R602). -/

namespace Sys2Proof.Machine

variable {s t : State}

/-- A bit of a field of a word. -/
theorem bit_bits {v hi lo k : Nat} (h : lo + k ≤ hi) : bit (bits v hi lo) k = bit v (lo + k) := by
  unfold bits
  rw [bit_mod (by omega)]
  unfold bit
  rw [Nat.div_div_eq_div_mul, ← Nat.pow_add]

/-! ### Captures -/

/-- One domain's count, captured. -/
def State.captured (s : State) (d : Nat) : State :=
  (s.freeBelow 5).2.setF .TEL_SNAP_CYC_COUNT d 0 (satAdd 64 ((s.freeBelow 5).2.dom d).cycles (s.freeBelow 5).1)

theorem State.doms_captures (s : State) (l : List Nat) : (l.foldl State.captured s).doms = s.doms :=
  foldl_leaves State.doms State.captured l (fun _ _ => rfl) s

theorem State.captured_shows (s : State) (d : Nat) : ∃ k, k < 5 ∧ (s.captured d).f .TEL_SNAP_CYC_COUNT d = satAdd 64 (s.dom d).cycles k :=
  ⟨(s.freeBelow 5).1, Nat.mod_lt _ (by decide), State.f_setF_same ..⟩

theorem State.captures_show (l : List Nat) (s : State) {d : Nat} (hd : d ∈ l) :
    ∃ k, k < 5 ∧ (l.foldl State.captured s).f .TEL_SNAP_CYC_COUNT d = satAdd 64 (s.dom d).cycles k := by
  induction l generalizing s with
  | nil => exact absurd hd List.not_mem_nil
  | cons x l ih =>
    rw [List.foldl_cons]
    by_cases hl : d ∈ l
    · exact ih (s.captured x) hl
    · obtain rfl := (List.mem_cons.mp hd).resolve_right hl
      obtain ⟨k, hk, hs⟩ := s.captured_shows d
      refine ⟨k, hk, ?_⟩
      rw [foldl_mem (fun s => s.f .TEL_SNAP_CYC_COUNT d) State.captured l (fun x hx u => ?_) _, hs]
      unfold State.captured
      rw [State.f_setF_ne _ _ fun he => hl (by rwa [(Prod.mk.inj (Prod.mk.inj he).2).1])]
      rfl

theorem State.f_captures (l : List Nat) (s : State) {f : Fid} (h : f ≠ .TEL_SNAP_CYC_COUNT) (i j : Nat) :
    (l.foldl State.captured s).f f i j = s.f f i j :=
  foldl_leaves (fun s => s.f f i j) State.captured l (fun _ _ => State.f_setF_fid _ _ h) s

/-- A capture that starts. -/
theorem telSnap_gives (m : Master) (v : Word) (h : s.tel.snap = false) : ∃ t,
    writeGives (.telSnap m v) m .TEL_SNAP_CTL 0 0 (setBit v.toNat 0 true) s t ∧ t.tel.snap = true
      ∧ t.f .TEL_SNAP_CTL_SNAP_SEQ = (s.f .TEL_SNAP_CTL_SNAP_SEQ + 1) % 2 ^ 32
      ∧ ∀ d, d < 25 → ∃ k, k < 5 ∧ t.f .TEL_SNAP_CYC_COUNT d = satAdd 64 (s.dom d).cycles k := by
  let s1 := (List.range 25).foldl State.captured s
  let s2 := s1.setF .TEL_SNAP_CTL_SNAP_SEQ 0 0 ((s1.f .TEL_SNAP_CTL_SNAP_SEQ + 1) % 2 ^ 32)
  have hw : s.telSnap (setBit v.toNat 0 true) = (hOk, s2.setTel { s2.tel with snap := true }) := by
    refine if_neg ?_
    rw [bits_setBit_zero, h]
    rintro (hx | hx)
    · exact absurd hx (by decide)
    · exact Bool.noConfusion hx
  refine ⟨s2.setTel { s2.tel with snap := true }, writeGives_of (fun _ => rfl) ((State.blockWrite_write7 (by decide)).trans hw), rfl, ?_, fun d hd => ?_⟩
  · change s2.f .TEL_SNAP_CTL_SNAP_SEQ = _
    rw [State.f_setF_same, State.f_captures _ _ (by decide)]
  · obtain ⟨k, hk, hs⟩ := State.captures_show (List.range 25) s (List.mem_range.mpr hd)
    exact ⟨k, hk, (State.f_setF_fid _ _ (by decide)).trans hs⟩

/-! ### The carve-out -/

theorem telCoOpen_gives (m : Master) (v : Word) (h : s.coState = 0) :
    writeGives (.telCoOpen m v) m .TEL_CO_CTL 0 0 (putBits v.toNat 1 0 1) s ((s.setF .TEL_CO_CTL_STATE 0 0 1).setTel { s.tel with opening := true }) := by
  have hb : bits (putBits v.toNat 1 0 1) 1 0 = 1 := bits_putBits _ 1 0 1 (by decide)
  have h0 : bit (putBits v.toNat 1 0 1) 0 = true := by
    have h1 := bit_bits (v := putBits v.toNat 1 0 1) (hi := 1) (lo := 0) (k := 0) (by decide)
    rw [hb] at h1
    exact h1.symm
  refine writeGives_of (fun _ => rfl) ((State.blockWrite_write7 (by decide)).trans ?_)
  change s.telCo _ = _
  unfold State.telCo
  rw [hb, h, if_neg (by decide), if_neg (by decide), if_pos ⟨rfl, h0⟩]
  rfl

/-- The enables of every region, cleared. -/
theorem State.f_regionsOff (s : State) {f : Fid} (h : f ≠ .TEL_CO_REGION_ENABLE) (i j : Nat) :
    ((List.range 4).foldl (fun s i => s.setF .TEL_CO_REGION_ENABLE i 0 0) s).f f i j = s.f f i j :=
  foldl_leaves (fun s => s.f f i j) _ (List.range 4) (fun _ _ => State.f_setF_fid _ _ h) s

theorem State.regionsOff (s : State) {k : Nat} (hk : k < 4) :
    ((List.range 4).foldl (fun s i => s.setF .TEL_CO_REGION_ENABLE i 0 0) s).f .TEL_CO_REGION_ENABLE k = 0 :=
  foldl_one (p := fun s : State => s.f .TEL_CO_REGION_ENABLE k) (g := fun s i => s.setF .TEL_CO_REGION_ENABLE i 0 0) (fun _ => 0)
    (List.mem_range.mpr hk) List.nodup_range
    (fun _ _ hy _ => State.f_setF_ne _ _ fun he => hy (Prod.mk.inj (Prod.mk.inj he).2).1.symm) (fun _ => State.f_setF_same ..) s

theorem State.coClose_shows (h : s.coState = 2) : s.coClose.coState = 1 ∧ s.coClose.tel.opening = false
    ∧ ∀ j, j < 4 → s.coClose.f .TEL_CO_REGION_ENABLE j = 0 := by
  let s1 := (List.range 4).foldl (fun s i => s.setF .TEL_CO_REGION_ENABLE i 0 0) s
  have hc : s.coClose = (s1.setF .TEL_CO_CTL_STATE 0 0 1).setTel { s1.tel with opening := false, post := none } :=
    if_neg (by rw [h]; decide)
  have hf : ∀ f i, ((s1.setF .TEL_CO_CTL_STATE 0 0 1).setTel { s1.tel with opening := false, post := none }).f f i
      = (s1.setF .TEL_CO_CTL_STATE 0 0 1).f f i := fun _ _ => rfl
  rw [hc]
  refine ⟨(hf _ _).trans (State.f_setF_same ..), rfl, fun j hj => ?_⟩
  rw [hf, State.f_setF_fid _ _ (by decide)]
  exact s.regionsOff hj

theorem telCoClose_gives (m : Master) (v : Word) (h : s.coState = 2) :
    writeGives (.telCoClose m v) m .TEL_CO_CTL 0 0 (putBits v.toNat 1 0 2) s s.coClose := by
  have hb : bits (putBits v.toNat 1 0 2) 1 0 = 2 := bits_putBits _ 1 0 2 (by decide)
  have h1 : bit (putBits v.toNat 1 0 2) 1 = true := by
    have h1 := bit_bits (v := putBits v.toNat 1 0 2) (hi := 1) (lo := 0) (k := 1) (by decide)
    rw [hb] at h1
    exact h1.symm
  refine writeGives_of (fun _ => rfl) ((State.blockWrite_write7 (by decide)).trans ?_)
  change s.telCo _ = _
  unfold State.telCo
  rw [hb, h, if_neg (by decide), if_neg (by decide), if_neg (fun hx => absurd hx.1 (by decide)), if_pos ⟨rfl, h1⟩]

theorem State.waysLeave_leaves (s : State) : s.Leaves [.freeCtr, .mem] s.waysLeave := by
  have hd : ∀ (t : State) l, s.Leaves [.freeCtr, .mem] t → s.Leaves [.freeCtr, .mem] (t.llcDrop l) := fun t l h =>
    h.upd .mem (by rfl) fun p hn => by
      cases p
      case mem => exact absurd rfl hn
      all_goals rfl
  unfold State.waysLeave
  exact .foldl (State.Leaves.refl s).freeCtrSet fun t e h => hd t e.1.1 h

/-- The carve-out's change ends. -/
theorem execTelCoState_changes (h : s.coState = 1) : ∃ t, exec .telCoState s = .next t ∧ t.coState = (if s.tel.opening then 2 else 0)
    ∧ t.tel.co = [] ∧ t.hl.moduleSeq = s.hl.moduleSeq + 1 := by
  let s0 := if s.tel.opening then s.waysLeave else s
  have hl : s0.hl = s.hl := (State.Leaves.ite s.waysLeave_leaves (.refl s)).hl
  let new := if s.tel.opening then 2 else 0
  let s1 := (s0.setTel { s0.tel with co := [], opening := false, stopped := 0, post := none }).setF .TEL_CO_CTL_STATE 0 0 new
  have hq := s1.raise_seq 0xA001 sevNone 0 0 [new] .op none
  have hf := s1.f_raise 0xA001 sevNone 0 0 [new] .op none .TEL_CO_CTL_STATE 0 0 (by decide)
  have ht := s1.tel_raise 0xA001 sevNone 0 0 [new] .op none
  refine ⟨s1.raise 0xA001 sevNone 0 0 [new] .op, if_neg fun hn => hn h, ?_, ?_, ?_⟩
  · exact hf.trans (State.f_setF_same ..)
  · rw [ht]
    rfl
  · rw [hq]
    exact congrArg (fun x : Hl => x.moduleSeq + 1) hl

/-- A region's write. -/
theorem State.telRegion_shows {i v : Nat} (h : s.telRegion i v = (hOk, t)) : t.f .TEL_CO_REGION_ENABLE i = bits v 0 0
    ∧ t.f .TEL_CO_REGION_BASE i = bits v 41 28 ∧ t.f .TEL_CO_REGION_SIZE i = bits v 58 44 ∧ t.f .TEL_CO_REGION_USER i = bits v 5 4
    ∧ (bits v 0 0 = 1 → t.f .TEL_CO_REGSTAT_WR_PTR i = 0) := by
  let s1 := ((((s.setF .TEL_CO_REGION_SIZE i 0 (bits v 58 44)).setF .TEL_CO_REGION_BASE i 0 (bits v 41 28)).setF .TEL_CO_REGION_USER i 0
    (bits v 5 4)).setF .TEL_CO_REGION_MODE i 0 (bits v 1 1)).setF .TEL_CO_REGION_ENABLE i 0 (bits v 0 0)
  let s2 := ((s1.setF .TEL_CO_REGSTAT_WR_PTR i 0 0).setF .TEL_CO_REGSTAT_FULL i 0 0).setF .TEL_CO_REGSTAT_WRAPPED i 0 0
  have hs1 : s1.f .TEL_CO_REGION_ENABLE i = bits v 0 0 ∧ s1.f .TEL_CO_REGION_BASE i = bits v 41 28
      ∧ s1.f .TEL_CO_REGION_SIZE i = bits v 58 44 ∧ s1.f .TEL_CO_REGION_USER i = bits v 5 4 := by
    refine ⟨State.f_setF_same .., ?_, ?_, ?_⟩
    · rw [State.f_setF_fid _ _ (by decide), State.f_setF_fid _ _ (by decide), State.f_setF_fid _ _ (by decide), State.f_setF_same]
    · rw [State.f_setF_fid _ _ (by decide), State.f_setF_fid _ _ (by decide), State.f_setF_fid _ _ (by decide),
        State.f_setF_fid _ _ (by decide), State.f_setF_same]
    · rw [State.f_setF_fid _ _ (by decide), State.f_setF_fid _ _ (by decide), State.f_setF_same]
  have hs2 : ∀ f, f ≠ .TEL_CO_REGSTAT_WR_PTR → f ≠ .TEL_CO_REGSTAT_FULL → f ≠ .TEL_CO_REGSTAT_WRAPPED → s2.f f i = s1.f f i :=
    fun f h1 h2 h3 => by rw [State.f_setF_fid _ _ h3, State.f_setF_fid _ _ h2, State.f_setF_fid _ _ h1]
  have hp : s2.f .TEL_CO_REGSTAT_WR_PTR i = 0 := by
    rw [State.f_setF_fid _ _ (by decide), State.f_setF_fid _ _ (by decide), State.f_setF_same]
  unfold State.telRegion at h
  dsimp only at h
  split at h
  · exact absurd (Prod.mk.inj h).1 (by decide)
  · split at h
    · next he =>
      have ht : t.flds = s2.flds := (congrArg State.flds (Prod.mk.inj h).2).symm
      have hf : ∀ f, t.f f i = s2.f f i := fun f => by
        unfold State.f
        rw [ht]
      rw [hf, hf, hf, hf, hf, hs2 _ (by decide) (by decide) (by decide), hs2 _ (by decide) (by decide) (by decide),
        hs2 _ (by decide) (by decide) (by decide), hs2 _ (by decide) (by decide) (by decide)]
      obtain ⟨h1, h2, h3, h4⟩ := hs1
      exact ⟨h1, h2, h3, h4, fun _ => hp⟩
    · next he =>
      obtain ⟨h1, h2, h3, h4⟩ := hs1
      obtain rfl : s1 = t := (Prod.mk.inj h).2
      exact ⟨h1, h2, h3, h4, fun hx => absurd hx he⟩

theorem telCoRegion_gives (m : Master) {i : Nat} {v : Word} (ha : s.anyChange .TEL_CO_REGION i 0 v.toNat = true)
    (h : s.telRegion i v.toNat = (hOk, t)) : writeGives (.telCoRegion m i v) m .TEL_CO_REGION i 0 v.toNat s t :=
  writeGives_of (fun _ => rfl) ((State.blockWrite_write7 (by decide)).trans ((if_pos ha).trans h))

/-! ### Exports -/

/-- An export that starts. -/
theorem telExport_gives (m : Master) (v : Word) : let w := setBit v.toNat 0 true
    let src := 64 * s.f .TEL_EXPORT_SRC_SRC
    let len := 64 * s.f .TEL_EXPORT_SRC_LENGTH_L
    s.tel.job = none → s.exportOk src len (64 * bits w 51 6) = true →
    ∃ t, writeGives (.telExport m v) m .TEL_EXPORT 0 0 w s t ∧ t.tel.job = some (src, len, 64 * bits w 51 6)
      ∧ t.f .TEL_EXPORT_RESULT_CODE = 1 ∧ t.f .TEL_EXPORT_DEST = bits w 51 6 ∧ t.mem = s.mem := by
  intro w src len hj he
  let s1 := s.setF .TEL_EXPORT_DEST 0 0 (bits w 51 6)
  have hf : ∀ f, ((s1.setF .TEL_EXPORT_RESULT_CODE 0 0 1).setTel { s1.tel with job := some (src, len, 64 * bits w 51 6) }).f f
      = (s1.setF .TEL_EXPORT_RESULT_CODE 0 0 1).f f := fun _ => rfl
  refine ⟨(s1.setF .TEL_EXPORT_RESULT_CODE 0 0 1).setTel { s1.tel with job := some (src, len, 64 * bits w 51 6) },
    writeGives_of (fun _ => rfl) ((State.blockWrite_write7 (by decide)).trans ?_), rfl, (hf _).trans (State.f_setF_same ..), ?_, rfl⟩
  · change s.telExport w = _
    unfold State.telExport
    dsimp only
    rw [show bits w 0 0 = 1 from bits_setBit_zero _, hj, if_neg (by decide), if_neg (by decide), if_pos he]
  · rw [hf, State.f_setF_fid _ _ (by decide), State.f_setF_same]

theorem execTelExportDone_eq (s : State) : exec .telExportDone s = parkIf .telExportDone ParkKey.dump.no (fun s => .next (match s.tel.job with
    | some (src, len, dest) =>
      let (_, _, s1) := (s.setTel { s.tel with job := none }).wr { id := 0x60, plot := none } dest (cellBytes s.tel.co src len)
      (s1.setF .TEL_EXPORT_RESULT_CODE 0 0 2).raise 0xA018 sevNone 0 0 [2] .op
    | none => s)) s := rfl

/-- The end of an export. -/
theorem telExportDone_comesTo {src len dest st a : Nat} {s1 : State} (hj : s.tel.job = some (src, len, dest))
    (hw : (s.arm.setTel { s.tel with job := none }).wr { id := 0x60, plot := none } dest (cellBytes s.tel.co src len) = (st, a, s1)) :
    s.comesTo .telExportDone .dump ((s1.setF .TEL_EXPORT_RESULT_CODE 0 0 2).raise 0xA018 sevNone 0 0 [2] .op) := by
  have hj' : s.arm.tel.job = some (src, len, dest) := hj
  refine State.comesTo_of (execTelExportDone_eq s) (congrArg Host.Outcome.next ?_)
  rw [hj']
  change (match (s.arm.setTel { s.tel with job := none }).wr { id := 0x60, plot := none } dest (cellBytes s.tel.co src len) with
    | (_, _, s1) => (s1.setF .TEL_EXPORT_RESULT_CODE 0 0 2).raise 0xA018 sevNone 0 0 [2] .op) = _
  rw [hw]

theorem carveOutRows_holds : carveOutRows := by
  intro s m i v
  refine ⟨telSnap_gives m v, ⟨_, rfl, rfl, rfl⟩, telCoOpen_gives m v, fun h => ⟨_, telCoClose_gives m v h, State.coClose_shows h⟩,
    execTelCoState_changes, fun t ha h => ⟨telCoRegion_gives m ha h, State.telRegion_shows h⟩, telExport_gives m v,
    fun src len dest st a s1 hj hw => ⟨telExportDone_comesTo hj hw, ?_, ?_⟩⟩
  · exact (State.f_raise (h := by decide) ..).trans (State.f_setF_same ..)
  · exact State.mem_raise ..

/-! ### Monitors and probes -/

/-- A monitor's sample below 2^32. -/
theorem State.glnSample_shows (s : State) (k : Nat) {x : Nat} (hx : x < 2 ^ 32) : let t := s.glnSample k x
    t.f .GLN_MINMAX_MIN k = min x (s.f .GLN_MINMAX_MIN k) ∧ t.f .GLN_MINMAX_MAX k = max x (s.f .GLN_MINMAX_MAX k)
      ∧ t.f .GLN_COUNT_COUNT k = satAdd 64 (s.f .GLN_COUNT_COUNT k) 1 ∧ t.f .GLN_SUM_SUM k = satAdd 64 (s.f .GLN_SUM_SUM k) x
      ∧ t.mem = s.mem := by
  intro t
  let s1 := (s.setF .GLN_MINMAX_MIN k 0 (min x (s.f .GLN_MINMAX_MIN k))).setF .GLN_MINMAX_MAX k 0 (max x (s.f .GLN_MINMAX_MAX k))
  let s2 := (s1.count .GLN_COUNT_COUNT k 0 64 1).count .GLN_SUM_SUM k 0 64 x
  have ht : t.flds = s2.flds ∧ t.mem = s.mem := by
    have hm : min x (2 ^ 32 - 1) = x := Nat.min_eq_left (by omega)
    change (s.glnSample k x).flds = _ ∧ _
    unfold State.glnSample
    rw [hm]
    exact ⟨rfl, rfl⟩
  have hf : ∀ f, t.f f k = s2.f f k := fun f => by
    unfold State.f
    rw [ht.1]
  rw [hf, hf, hf, hf]
  refine ⟨?_, ?_, ?_, ?_, ht.2⟩
  · rw [State.f_count_fid _ (by decide), State.f_count_fid _ (by decide), State.f_setF_fid _ _ (by decide), State.f_setF_same]
  · rw [State.f_count_fid _ (by decide), State.f_count_fid _ (by decide), State.f_setF_same]
  · rw [State.f_count_fid _ (by decide), State.f_count_same, State.f_setF_fid _ _ (by decide), State.f_setF_fid _ _ (by decide)]
  · rw [State.f_count_same, State.f_count_fid _ (by decide), State.f_setF_fid _ _ (by decide), State.f_setF_fid _ _ (by decide)]

theorem State.gln_setGln (s : State) (k : Nat) (v : Gln) : (s.setGln k v).gln k = v := NTbl.at_put_same ..

/-- A probe that is enabled starts its counts anew. -/
theorem prbCfg_enables (m : Master) {k : Nat} {v : Word} (h : s.f .PRB_CFG_ENABLE k = 0) (hv : bits v.toNat 0 0 = 1) :
    ∃ t, writeGives (.prbCfg m k v) m .PRB_CFG k 0 v.toNat s t ∧ t.f .PRB_CFG_ENABLE k = 1 ∧ t.f .PRB_PKTS_COUNT k = 0
      ∧ t.f .PRB_BYTES_COUNT k = 0 := by
  refine ⟨(s.putFields .PRB_CFG k 0 v.toNat).prbStart k, writeGives_of (fun _ => rfl) ((State.blockWrite_write7 (by decide)).trans ?_), ?_, ?_, ?_⟩
  · exact congrArg (hOk, ·) (if_pos ⟨h, hv⟩)
  · unfold State.prbStart
    rw [State.f_setF_fid _ _ (by decide), State.f_setF_fid _ _ (by decide)]
    exact (State.putFields_at (r := .PRB_CFG) (f := { fid := .PRB_CFG_ENABLE, hi := 0, lo := 0, acc := .rw }) (e := 0)
      (by decide) (by decide)).trans hv
  · unfold State.prbStart
    rw [State.f_setF_fid _ _ (by decide), State.f_setF_same]
  · exact State.f_setF_same ..

theorem prbCfg_running (m : Master) {k : Nat} {v : Word} (h : s.f .PRB_CFG_ENABLE k ≠ 0) :
    writeGives (.prbCfg m k v) m .PRB_CFG k 0 v.toNat s (s.putFields .PRB_CFG k 0 v.toNat) :=
  writeGives_of (fun _ => rfl) ((State.blockWrite_write7 (by decide)).trans (congrArg (hOk, ·) (if_neg fun hx => h hx.1)))

/-- A probe that only counts. -/
theorem State.probeHit_counts {k : Nat} (p : Pkt) (h : s.f .PRB_CFG_ACTIONS k = 1) :
    (s.probeHit k p).f .PRB_PKTS_COUNT k = satAdd 64 (s.f .PRB_PKTS_COUNT k) 1 := by
  have hh : s.probeHit k p = (s.count .PRB_PKTS_COUNT k 0 64 1).count .PRB_BYTES_COUNT k 0 64 (if p.units = 0 then 0 else p.len) := by
    unfold State.probeHit
    rw [h]
    rfl
  rw [hh, State.f_count_fid _ (by decide), State.f_count_same]

/-! ### Debug stores -/

theorem State.touchAll_none (s : State) (addr : Nat) : s.touchAll 0 addr = s := rfl

/-- The lane program store of an engine outside plots, through DBG_DATA. -/
theorem State.dbgData_lps (h3 : s.f .DBG_SEL_STORE = 3) (ho : 8 * s.f .DBG_OFFSET_OFFSET < 0x2000)
    (hp : s.plotOfEngine (s.f .DBG_SEL_UNIT) = none) :
    s.dbgData none = (hOk, NTbl.at 0 (s.eng (s.f .DBG_SEL_UNIT)).lps (s.f .DBG_OFFSET_OFFSET),
        s.setF .DBG_OFFSET_OFFSET 0 0 ((s.f .DBG_OFFSET_OFFSET + 1) % 2 ^ 29))
      ∧ ∀ x, s.dbgData (some x) = (hOk, 0, (s.setEng (s.f .DBG_SEL_UNIT) { s.eng (s.f .DBG_SEL_UNIT) with
          lps := NTbl.put 0 (s.eng (s.f .DBG_SEL_UNIT)).lps (s.f .DBG_OFFSET_OFFSET) x }).setF .DBG_OFFSET_OFFSET 0 0
            ((s.f .DBG_OFFSET_OFFSET + 1) % 2 ^ 29)) := by
  have ht : s.dbgTouches 3 (s.f .DBG_SEL_WAY) (s.f .DBG_SEL_UNIT) = 0 := by
    unfold State.dbgTouches
    rw [hp]
    rfl
  have hd : 8 * s.f .DBG_OFFSET_OFFSET / 8 = s.f .DBG_OFFSET_OFFSET := Nat.mul_div_cancel_left _ (by decide)
  have hs : ¬dbgSize 3 ≤ 8 * s.f .DBG_OFFSET_OFFSET := Nat.not_le.mpr ho
  refine ⟨?_, fun x => ?_⟩
  · unfold State.dbgData
    dsimp only
    rw [h3, ht, State.touchAll_none, if_neg hs, hd]
    change (hOk, NTbl.at 0 (s.eng (s.f .DBG_SEL_UNIT)).lps (8 * s.f .DBG_OFFSET_OFFSET / 8), _) = _
    rw [hd]
    rfl
  · unfold State.dbgData
    dsimp only
    rw [h3, ht, State.touchAll_none, if_neg hs, hd]
    change (hOk, 0, (s.setEng (s.f .DBG_SEL_UNIT) { s.eng (s.f .DBG_SEL_UNIT) with
          lps := NTbl.put 0 (s.eng (s.f .DBG_SEL_UNIT)).lps (8 * s.f .DBG_OFFSET_OFFSET / 8) x }).setF .DBG_OFFSET_OFFSET 0 0 _) = _
    rw [hd]

/-! ### The analogue test bus -/

theorem bit_setBit_false (v i : Nat) : bit (setBit v i false) i = false := bit_setBit v i false

/-- A new connection of a pin of the test bus, which is open meanwhile. -/
theorem atbCfg_connects (m : Master) {k : Nat} {v : Word} (hm : bits v.toNat 1 0 ≠ 2)
    (hc : s.f .ATB_CFG_MODE k ≠ bits v.toNat 1 0 ∨ s.f .ATB_CFG_NODE k ≠ bits v.toNat 15 8) :
    ∃ t, writeGives (.atbCfg m k v) m .ATB_CFG k 0 v.toNat s t ∧ bit t.tel.atbWait k = true ∧ t.f .ATB_CFG_MODE k = bits v.toNat 1 0
      ∧ t.f .ATB_CFG_NODE k = bits v.toNat 15 8 ∧ t.out = s.out ++ [.pin (1 + k) 0] := by
  let s1 := ((s.setF .ATB_CFG_MODE k 0 (bits v.toNat 1 0)).setF .ATB_CFG_NODE k 0 (bits v.toNat 15 8)).setF .ATB_CFG_IFORCE_UA k 0
    (bits v.toNat 31 24)
  let t := (s1.setTel { s1.tel with atbWait := setBit s1.tel.atbWait k true }).emit (.pin (1 + k) 0)
  have hf : ∀ f, t.f f k = s1.f f k := fun _ => rfl
  have hw : s.atbCfg k v.toNat = (hOk, t) := by
    unfold State.atbCfg
    dsimp only
    rw [if_neg fun hx => hm hx.1, if_neg fun hx => hm hx.1]
    exact if_pos hc
  refine ⟨t, writeGives_of (fun _ => rfl) ((State.blockWrite_write7 (by decide)).trans hw), bit_setBit .., ?_, ?_, rfl⟩
  · rw [hf, State.f_setF_fid _ _ (by decide), State.f_setF_fid _ _ (by decide), State.f_setF_same]
  · rw [hf, State.f_setF_fid _ _ (by decide), State.f_setF_same]

theorem monitorsAndStores_holds : monitorsAndStores := by
  intro s m k v
  refine ⟨fun x he hl hx => ⟨s.glnSample k x, ?_, s.glnSample_shows k hx⟩, fun he hh => ?_, prbCfg_enables m, prbCfg_running m,
    fun p _ ha => State.probeHit_counts p ha, fun d s0 s1 off q ha hc hs hd => ?_, fun s0 off q s1 ha hc hs hd => ?_, fun x h3 ho hp => ?_,
    fun hm hc _ => atbCfg_connects m hm hc, fun hb hk => ?_, fun ht => ⟨_, congrArg Host.Outcome.next (if_pos ht), rfl, rfl⟩⟩
  · refine (if_neg he).trans ?_
    rw [hl]
  · refine ⟨_, if_neg (not_or.mpr ⟨he, hh⟩), ?_⟩
    rw [State.gln_setGln]
    exact ⟨rfl, rfl, rfl, rfl⟩
  · change Host.Outcome.next (match regAddr .DBG_DATA 0 0, (none : Option Word) with
      | some a, some v => s0.sendWrite m a 8 v.toNat
      | some a, none => s0.sendRead m a 8
      | none, _ => s0) = _
    rw [ha]
    exact congrArg Host.Outcome.next (State.sendRead_sends hs hc ((State.ctlRead_eq hc).trans hd))
  · change Host.Outcome.next (match regAddr .DBG_DATA 0 0, some v with
      | some a, some v => s0.sendWrite m a 8 v.toNat
      | some a, none => s0.sendRead m a 8
      | none, _ => s0) = _
    rw [ha]
    exact congrArg Host.Outcome.next (State.sendWrite_sends hs hc ((State.ctlWrite_eq hc).trans hd))
  · obtain ⟨hr, hw⟩ := State.dbgData_lps h3 ho hp
    rw [hr, hw x]
    refine ⟨rfl, rfl, State.f_setF_same .., rfl, ?_⟩
    have he := s.eng_setEng (s.f .DBG_SEL_UNIT) { s.eng (s.f .DBG_SEL_UNIT) with
      lps := NTbl.put 0 (s.eng (s.f .DBG_SEL_UNIT)).lps (s.f .DBG_OFFSET_OFFSET) x }
    exact (congrArg (fun g : Eng => NTbl.at 0 g.lps (s.f .DBG_OFFSET_OFFSET)) he).trans (NTbl.at_put_same ..)
  · exact ⟨_, congrArg Host.Outcome.next (if_pos ⟨hb, hk⟩), bit_setBit_false .., rfl⟩

/-- Settles O59: the rows of the carve-out, and those of monitors, stores and the test bus. -/
theorem telemetryRows : Obligations.TelemetryRows := ⟨carveOutRows_holds, monitorsAndStores_holds⟩

end Sys2Proof.Machine
end

section
-- One proof after the other: many waiting at once would hold too much memory when the text is checked as one.
set_option Elab.async false
/-! The security block: requests, fuse blows, and granules made common (13 R479-R511). -/

namespace Sys2Proof.Machine

variable {s t : State}

/-! ### Words written -/

theorem putBits_lt {v hi lo x n : Nat} (hv : v < 2 ^ n) (h : lo ≤ hi) (hn : hi < n) : putBits v hi lo x < 2 ^ n := by
  have hp : 2 ^ (hi + 1 - lo) * 2 ^ lo = 2 ^ (hi + 1) := by
    rw [← Nat.pow_add]
    congr 1
    omega
  have hn2 : 2 ^ (n - (hi + 1)) * 2 ^ (hi + 1) = 2 ^ n := by
    rw [← Nat.pow_add]
    congr 1
    omega
  have hq : v / 2 ^ (hi + 1) + 1 ≤ 2 ^ (n - (hi + 1)) := Nat.div_lt_of_lt_mul (by rwa [Nat.mul_comm, hn2])
  have hx : x % 2 ^ (hi + 1 - lo) + 1 ≤ 2 ^ (hi + 1 - lo) := Nat.mod_lt _ (Nat.two_pow_pos _)
  have hl : v % 2 ^ lo < 2 ^ lo := Nat.mod_lt _ (Nat.two_pow_pos _)
  have h1 := Nat.mul_le_mul_right (2 ^ (hi + 1)) hq
  have h2 := Nat.mul_le_mul_right (2 ^ lo) hx
  rw [hn2, Nat.add_mul, Nat.one_mul] at h1
  rw [hp, Nat.add_mul, Nat.one_mul] at h2
  unfold putBits
  omega

theorem setBit_lt {v i n : Nat} (b : Bool) (hv : v < 2 ^ n) (hn : i < n) : setBit v i b < 2 ^ n := putBits_lt hv (Nat.le_refl i) hn

/-- A word with a field replaced is a word. -/
theorem word_putBits (v : Word) {hi lo x : Nat} (h : lo ≤ hi) (hn : hi < 64) : putBits v.toNat hi lo x < 2 ^ 64 := putBits_lt v.isLt h hn

theorem word_setBit (v : Word) {i : Nat} (b : Bool) (hn : i < 64) : setBit v.toNat i b < 2 ^ 64 := setBit_lt b v.isLt hn

/-! ### Transitions of the life cycle -/

theorem secLcReq_waits {m : Master} {v : Word} (h : s.lcReq m (setBit v.toNat 0 true) = (hOk, t)) :
    writeWaits (.secLcReq m v) m .SEC_LC_REQ 0 0 (setBit v.toNat 0 true) s t := by
  refine writeWaits_of (word_setBit v true (by decide)) (fun _ => rfl) ((State.blockWrite_write7 (by decide)).trans ((if_pos ?_).trans h))
  exact bit_setBit ..

/-- The transition to SCRAP. -/
theorem State.lcReq_scrap {m : Master} {w : Nat} (ho : s.opSession m = true) (hg : bits w 0 0 = 1) (hj : s.sec.jobs.any SecJob.isLc = false)
    (hk : bits w 10 8 = lcScrap) (hs : s.sec.lcState < lcScrap) : s.lcReq m w = (hOk, s.lcAccept lcScrap) := by
  have hst : lcStage s.sec.lcState lcScrap = some 0 := if_pos ⟨rfl, hs⟩
  unfold State.lcReq
  dsimp only
  rw [ho, hg, hj, hk, hst, if_neg (by decide), if_neg (by decide), if_neg (by rintro (h | h); exacts [Bool.noConfusion h, h.2 rfl])]
  dsimp only
  rw [if_neg (Nat.not_lt_zero _), if_neg fun h => absurd h.2.1 (by decide), if_pos rfl]

/-- A transition that its authorisation allows. -/
theorem State.lcReq_next {m : Master} {w st : Nat} {s1 : State} (ho : s.opSession m = true) (hg : bits w 0 0 = 1)
    (hj : s.sec.jobs.any SecJob.isLc = false) (ht : s.tearing = false) (hk : bits w 10 8 ≠ lcScrap)
    (hst : lcStage s.sec.lcState (bits w 10 8) = some st) (hle : st ≤ s.stage)
    (hl : s.sec.lcState = lcProvision → bits w 10 8 = lcField → s.fuses.ownersLive ≠ 0)
    (ha : s.lcAuthOk (bits w 51 12 * 4096) (bits w 10 8) = (true, s1)) : s.lcReq m w = (hOk, s1.lcAccept (bits w 10 8)) := by
  unfold State.lcReq
  dsimp only
  rw [ho, hg, hj, ht, hst, if_neg (by decide), if_neg (by decide),
    if_neg (by rintro (h | h); exacts [Bool.noConfusion h, Bool.noConfusion h.1])]
  dsimp only
  rw [if_neg (Nat.not_lt.mpr hle), if_neg fun h => hl h.1 h.2.1 h.2.2, if_neg hk, ha]
  rfl

theorem State.killKeys_leaves (s : State) : s.Leaves [.mem] s.killKeys := by
  have hm : ∀ {t : State} {v : Mem}, s.Leaves [.mem] t → v.cells = t.mem.cells → v.chans = t.mem.chans → v.sched = t.mem.sched →
      v.sites = t.mem.sites → s.Leaves [.mem] { t with mem := v } := fun h h1 h2 h3 h4 => h.upd .mem (by rfl) fun p hn => by
    cases p
    case mem => exact absurd rfl hn
    case cells => exact h1
    case chans => exact h2
    case sched => exact h3
    case sites => exact h4
    case therm => exact funext fun n => congrArg (fun x => (NTbl.at {} x n).therm) h4
    all_goals rfl
  have hg : ∀ (t : State) (g a b : Nat), s.Leaves [.mem] t → s.Leaves [.mem] (t.setGkey g a b) := fun _ _ _ _ h => hm h rfl rfl rfl rfl
  have hf := State.Leaves.foldl (l := List.range 512) (g := fun t g => t.setGkey g (t.gkey g) s.mem.keyCtr) (.refl s) fun t g h => hg t g _ _ h
  unfold State.killKeys
  dsimp only
  generalize List.foldl _ s (List.range 512) = u at hf ⊢
  exact hm hf rfl rfl rfl rfl

theorem State.Leaves.scheduleReset {P : List Part} (h : s.Leaves P t) {cause : Nat} (hp : Part.aon.inList P = true := by rfl) :
    s.Leaves P (t.scheduleReset cause) := by
  unfold State.scheduleReset
  split
  · exact h
  · exact h.aonSet hp

/-- An announced transition, before the reset that it orders. -/
def State.lcAnnounced (s : State) (k : Nat) : State :=
  let s1 := (s.setF .SEC_LC_RESULT_CODE 0 0 1).raise 0x8020 sevNone 0 0 [s.sec.lcState, k] .op
  s1.setSec { s1.sec with jobs := s1.sec.jobs ++ [.lcBlow k] }

theorem aon_raise_none (s : State) (code ucls unit : Nat) (detail : List Nat) (sc : Scope) (plot : Option Nat) :
    (s.raise code sevNone ucls unit detail sc plot).aon = s.aon := by
  unfold State.raise
  dsimp only
  rw [if_neg (by decide)]
  have hd : ∀ (e : Event) (u : State) n, (State.deliver e u n).aon = u.aon := fun e u n => by
    unfold State.deliver
    dsimp only
    split
    · split <;> rfl
    · rfl
  exact foldl_leaves State.aon (State.deliver _) (List.range 16) (hd _) _

theorem State.lcAccept_shows (s : State) (k : Nat) : (s.lcAccept k).f .SEC_LC_RESULT_CODE = 1
    ∧ (s.aon.due = none → (s.lcAccept k).aon.due = some (s.now + 100, 3)) ∧ (s.lcAccept k).sec.jobs = s.sec.jobs ++ [.lcBlow k] := by
  have hf : (s.lcAnnounced k).f .SEC_LC_RESULT_CODE = 1 := by
    unfold State.lcAnnounced
    dsimp only
    rw [State.f_setSec, State.f_raise (h := by decide), State.f_setF_same]
  have ha : (s.lcAnnounced k).aon = s.aon := by
    unfold State.lcAnnounced
    dsimp only
    rw [State.aon_setSec, aon_raise_none, State.aon_setF]
  have hj : (s.lcAnnounced k).sec.jobs = s.sec.jobs ++ [.lcBlow k] := by
    unfold State.lcAnnounced State.setSec
    dsimp only
    rw [State.sec_raise, State.sec_setF]
  have hn : (s.lcAnnounced k).now = s.now := by
    unfold State.lcAnnounced
    dsimp only
    rw [State.now_setSec, State.now_raise, State.now_setF]
  let u := if k = lcScrap then (s.lcAnnounced k).killKeys else s.lcAnnounced k
  have hu : (s.lcAnnounced k).Leaves [.mem] u := .ite (State.killKeys_leaves _) (.refl _)
  have ht : s.lcAccept k = u.scheduleReset 3 := rfl
  have hl : u.Leaves [.aon] (u.scheduleReset 3) := (State.Leaves.refl u).scheduleReset
  rw [ht]
  refine ⟨(hl.f _ _ _).trans ((hu.f _ _ _).trans hf), fun hd => ?_, ?_⟩
  · have hx : u.aon.due = none := by rw [hu.aon, ha, hd]
    have hnow : u.now = s.now := (hu .now (by rfl) : _).trans hn
    unfold State.scheduleReset
    rw [hx]
    dsimp only
    rw [hnow]
  · have h1 : (u.scheduleReset 3).sec.jobs = u.sec.jobs := (congrArg Sec.jobs (hl .sec (by rfl)) :)
    have h2 : u.sec.jobs = (s.lcAnnounced k).sec.jobs := (congrArg Sec.jobs (hu .sec (by rfl)) :)
    rw [h1, h2, hj]

/-! ### Owners, security versions and retirements -/

theorem ownerProg_waits {c : Instr} {m : Master} {v : Word} {a : Nat} (ha : a % 4 ≠ 0)
    (hrow : ∀ s0, exec c s0 = s0.regWait m .SEC_OWNER_PROG 0 0 (putBits v.toNat 9 8 a))
    (h : s.ownerProg m (putBits v.toNat 9 8 a) = (hOk, t)) : writeWaits c m .SEC_OWNER_PROG 0 0 (putBits v.toNat 9 8 a) s t := by
  refine writeWaits_of (word_putBits v (by decide) (by decide)) hrow ((State.blockWrite_write7 (by decide)).trans ((if_neg ?_).trans h))
  rw [bits_putBits _ 9 8 a (by decide)]
  exact ha

/-- A request for a fuse of owners, in a state of the life cycle that takes it. -/
theorem State.ownerProg_eq {m : Master} {v : Word} (ho : s.opSession m = true) (hj : s.sec.jobs.any SecJob.isOwner = false)
    (hl : s.sec.lcState = lcProvision ∨ s.sec.lcState = lcField) : let slot := bits v.toNat 1 0
    let start (j : SecJob) : WRes := (hOk, s.setSec { s.sec with jobs := s.sec.jobs ++ [j] })
    let live := bit s.fuses.ownerBlown slot && !bit s.fuses.ownerRevoked slot
    s.ownerProg m (putBits v.toNat 9 8 1) = (if bit s.fuses.ownerBlown slot then (hDenied, s.setF .SEC_OWNER_RESULT_CODE 0 0 2)
      else start (.ownerProgram slot ((List.range 4).flatMap (fun i => leBytes 8 (s.f .SEC_OWNER_HASH_HASH i)))))
    ∧ s.ownerProg m (putBits v.toNat 9 8 2) = (if s.sec.lcState = lcField ∧ s.fuses.ownersLive ≤ b2n live then
      (hDenied, s.setF .SEC_OWNER_RESULT_CODE 0 0 3) else start (.ownerRevoke slot))
    ∧ s.ownerProg m (putBits v.toNat 9 8 3) = (if 64 ≤ s.fuses.minSvn then (hDenied, s.setF .SEC_OWNER_RESULT_CODE 0 0 2)
      else start .minSvn) := by
  have hs : ∀ a, bits (putBits v.toNat 9 8 a) 1 0 = bits v.toNat 1 0 := fun a => bits_putBits_below (by decide) (by decide)
  have hst : ¬(s.sec.lcState ≠ lcProvision ∧ s.sec.lcState ≠ lcField) := fun h => hl.elim h.1 h.2
  have hb : ∀ a, bits (putBits v.toNat 9 8 a) 9 8 = a % 4 := fun a => bits_putBits _ 9 8 a (by decide)
  refine ⟨?_, ?_, ?_⟩
  all_goals
    unfold State.ownerProg
    dsimp only
    rw [ho, hj, hs, hb, if_neg (by decide), if_neg (by decide), if_neg hst]
    rfl

theorem secRetireProg_gives {m : Master} {v : Word} (ho : s.opSession m = true) : let w := setBit v.toNat 63 true
    s.sec.jobs.any SecJob.isRetire = false → s.lcAnalysis = true → NTbl.at 0 s.fuses.retire (bits w 35 32) = 0 → retireValid (bits w 15 0) = true →
    writeGives (.secRetireProg m v) m .SEC_RETIRE_PROG 0 0 w s
      (s.setSec { s.sec with jobs := s.sec.jobs ++ [.retire (bits w 35 32) (bits w 15 0)] }) := by
  intro w hj ha hr hv
  refine writeGives_of (fun _ => rfl) ((State.blockWrite_write7 (by decide)).trans ((if_pos (bit_setBit ..)).trans ?_))
  unfold State.retireProg
  dsimp only
  rw [ho, show bits w 63 63 = 1 from bits_setBit _ 63 true, hj, ha, hr, hv, if_neg (by decide), if_neg (by decide), if_neg (by decide),
    if_neg (by decide), if_neg (by decide), if_neg (by decide)]

theorem securityRequests_holds : securityRequests := by
  intro s m v ho
  refine ⟨fun hj => ⟨fun hk hs => ?_, fun s1 st ht hk hst hle hl ha => ?_⟩, s.lcAccept_shows, fun hj hl => ?_, secRetireProg_gives ho⟩
  · exact secLcReq_waits (State.lcReq_scrap ho (bits_setBit_zero _) hj hk hs)
  · exact secLcReq_waits (State.lcReq_next ho (bits_setBit_zero _) hj ht hk hst hle hl ha)
  · obtain ⟨h1, h2, h3⟩ := State.ownerProg_eq (v := v) ho hj hl
    refine ⟨fun hb => ?_, fun hr => ?_, fun hn => ?_⟩
    · exact ownerProg_waits (by decide) (fun _ => rfl) (h1.trans (if_neg (by rw [hb]; exact Bool.false_ne_true)))
    · refine ownerProg_waits (by decide) (fun _ => rfl) (h2.trans (if_neg fun hx => ?_))
      have hb : ∀ b : Bool, b2n b ≤ 1 := fun b => by cases b <;> decide
      obtain hp | ho := hr
      · exact absurd (hp.symm.trans hx.1) (by decide)
      · exact absurd (Nat.le_trans hx.2 (hb _)) (Nat.not_le.mpr ho)
    · exact ownerProg_waits (by decide) (fun _ => rfl) (h3.trans (if_neg (Nat.not_le.mpr hn)))

/-! ### Granules made common -/

/-- A request for a common granule that its rules take up. -/
theorem commonReq_gives {c : Instr} {m : Master} {v : Word} {a : Nat} (ha : a = 1 ∨ a = 2)
    (hrow : ∀ s0, exec c s0 = .next (s0.regSend m .SEC_COMMON_REQ 0 0 (putBits v.toNat 17 16 a)))
    (hj : s.sec.commonJob = none) (ht : s.tearing = false) (hf : s.sec.fatal = false) (hp : s.granPlots (bits v.toNat 8 0) = 0)
    (he : s.commonEligible a (bits v.toNat 8 0) = true) : ∃ t, writeGives c m .SEC_COMMON_REQ 0 0 (putBits v.toNat 17 16 a) s t
      ∧ t.sec.commonJob = some (a, bits v.toNat 8 0) ∧ t.f .SEC_COMMON_RESULT_CODE = 1 ∧ t.f .SEC_COMMON_RESULT_GRAN = bits v.toNat 8 0 := by
  let g := bits v.toNat 8 0
  let s1 := (s.setF .SEC_COMMON_RESULT_CODE 0 0 1).setF .SEC_COMMON_RESULT_GRAN 0 0 g
  have hb : bits (putBits v.toNat 17 16 a) 17 16 = a := by
    rw [bits_putBits _ 17 16 a (by decide)]
    obtain rfl | rfl := ha <;> rfl
  have hg : bits (putBits v.toNat 17 16 a) 8 0 = g := bits_putBits_below (by decide) (by decide)
  have hw : s.commonReq (putBits v.toNat 17 16 a) = (hOk, s1.setSec { s1.sec with commonJob := some (a, g) }) := by
    unfold State.commonReq
    dsimp only
    rw [hb, hg, hj, ht, he, hf, hp, if_neg (by decide), if_neg (by decide), if_neg, if_neg (by decide)]
    rintro (h | h)
    · exact Bool.noConfusion h
    · exact Bool.noConfusion h.2.1
  refine ⟨s1.setSec { s1.sec with commonJob := some (a, g) }, writeGives_of hrow ((State.blockWrite_write7 (by decide)).trans ((if_neg ?_).trans hw)), rfl, ?_, ?_⟩
  · rw [hb]
    obtain rfl | rfl := ha <;> decide
  · rw [State.f_setSec, State.f_setF_fid _ _ (by decide), State.f_setF_same]
  · rw [State.f_setSec, State.f_setF_same]

theorem commonRequests_holds : commonRequests := fun _ _ _ hj ht hf hp =>
  ⟨fun he => commonReq_gives (.inl rfl) (fun _ => rfl) hj ht hf hp he, fun he => commonReq_gives (.inr rfl) (fun _ => rfl) hj ht hf hp he⟩

/-! ### Sessions that close -/

/-- What the carve-out's closing may change. -/
def coParts : List Part := [.tel, .fld .TEL_CO_REGION_ENABLE, .fld .TEL_CO_CTL_STATE]

/-- What a session's claims, locks and buffers touch when it gives them up. -/
def giveUpParts : List Part := ([.hl, .boot, .fld .GLB_TRAIN_STATUS_STATE] : List Part) ++ coParts

/-- What a session that closes may change. -/
def closeParts : List Part := ([.sec] : List Part) ++ raiseParts ++ giveUpParts

/-- A session's place once what it held is given up: empty, or kept until its last events have left. -/
def State.forget (s : State) (n : Nat) : State :=
  let x := s.sess n
  let y : Session := if x.unsent = [] then {} else
    { plot := x.plot, unsent := x.unsent, evSeq := x.evSeq, lost := x.lost, peer := x.peer, key := x.key }
  let t := s.setSess n y
  { t with sec := { t.sec with bindings := NTbl.put [] t.sec.bindings n [], credSlot := NTbl.put 0xFF t.sec.credSlot n 0xFF } }

theorem State.sessClose_eq (n cause : Nat) : s.sessClose n cause = if !(s.sess n).isOpen then s
    else ((s.raise 0x7008 sevNone 12 n [cause] (.opSess n)).giveUp n).forget n := rfl

namespace State.Leaves

variable {t : State} {P : List Part}

theorem secSet (h : s.Leaves P t) {v : Sec} (hv : v.plots = t.sec.plots := by rfl) (hp : Part.sec.inList P = true := by rfl) :
    s.Leaves P { t with sec := v } :=
  h.upd .sec hp fun p hn => by
    cases p
    case sec => exact absurd rfl hn
    case plots => exact hv
    case plot => exact funext fun n => congrArg (fun T => (NTbl.at {} T n).core) hv
    all_goals rfl

theorem sec (h : s.Leaves P t) (h1 : Part.sec.inList P = false := by rfl) (h2 : Part.plots.inList P = false := by rfl) :
    t.sec = s.sec := by
  have hp : t.sec.plots = s.sec.plots := h .plots h2
  refine (congrArg (fun m : Sec => { m with plots := t.sec.plots }) (h Part.sec h1)).trans ?_
  rw [hp]
  rfl

theorem fuses (h : s.Leaves P t) (hp : Part.fuses.inList P = false := by rfl) : t.fuses = s.fuses := h .fuses hp

theorem coClose (h : s.Leaves P t) (hp : subParts coParts P = true := by rfl) : s.Leaves P t.coClose := by
  refine h.step (Q := coParts) ?_ hp
  replace h := State.Leaves.refl (P := coParts) t
  unfold State.coClose
  exact .ite h (.telSet (.setF (.foldl h fun _ _ h => h.setF)))

theorem setClaim {k : Nat} {x : Holder} (h : s.Leaves P t) (hp : subParts giveUpParts P = true := by rfl) : s.Leaves P (t.setClaim k x) := by
  refine h.step (Q := giveUpParts) ?_ hp
  replace h := State.Leaves.refl (P := giveUpParts) t
  unfold State.setClaim
  exact .ite h.hlSet.coClose h.hlSet

theorem giveUp {n : Nat} (h : s.Leaves P t) (hp : subParts giveUpParts P = true := by rfl) : s.Leaves P (t.giveUp n) := by
  refine h.step (Q := giveUpParts) ?_ hp
  have h1 : t.Leaves giveUpParts ((List.range 4).foldl (fun s k => if s.claimOf k = .session n then s.setClaim k .free else s) t) :=
    .foldl (.refl t) fun _ _ h => .ite h.setClaim h
  unfold State.giveUp
  exact .ite (.setF (.bootSet (.ite h1.hlSet.bootSet h1.hlSet))) (.ite h1.hlSet.bootSet h1.hlSet)

theorem forget {n : Nat} (h : s.Leaves closeParts t) : s.Leaves closeParts (t.forget n) :=
  .secSet (t := t.setSess n _) h.hlSet

theorem sessClose {n cause : Nat} (h : s.Leaves P t) (hp : subParts closeParts P = true := by decide +kernel) :
    s.Leaves P (t.sessClose n cause) := by
  refine h.step (Q := closeParts) ?_ hp
  rw [State.sessClose_eq]
  exact .ite (.refl t) (.forget (.giveUp (.raise (.refl t))))

theorem closeWhere {cause : Nat} {f : Nat → Bool} (h : s.Leaves P t) (hp : subParts closeParts P = true := by decide +kernel) :
    s.Leaves P (t.closeWhere cause f) := by
  refine h.step (Q := closeParts) ?_ hp
  exact .foldl (.refl t) fun _ _ h => .ite h.sessClose h

end State.Leaves

/-- The requests that SB carries out stay when a session closes. -/
theorem State.jobs_sessClose (n cause : Nat) : (s.sessClose n cause).sec.jobs = s.sec.jobs := by
  have hf : ∀ u : State, (u.forget n).sec.jobs = u.sec.jobs := fun _ => rfl
  rw [State.sessClose_eq]
  split
  · rfl
  · rw [hf, ((State.Leaves.refl (P := giveUpParts) _).giveUp).sec, State.sec_raise]

theorem State.jobs_closeWhere (cause : Nat) (f : Nat → Bool) : (s.closeWhere cause f).sec.jobs = s.sec.jobs :=
  foldl_keeps (fun t => t.sec.jobs = s.sec.jobs) _ _ (fun t n h => by
    split
    · exact (t.jobs_sessClose n cause).trans h
    · exact h) s rfl

/-! ### Blows that end -/

theorem fuseBlowDone_first {j : SecJob} {r : List SecJob} (h : s.sec.jobs = j :: r) (hj : j.isLc = false) :
    exec .fuseBlowDone s = .next ((s.setSec { s.sec with jobs := r }).blow j) := by
  change execFuseBlowDone s = _
  unfold execFuseBlowDone
  rw [h, List.find?_cons_of_pos (by rw [hj]; rfl)]
  change (.next ((s.setSec { s.sec with jobs := (j :: r).erase j }).blow j) : Res) = _
  rw [List.erase_cons_head]

theorem State.blow_ownerProgram_shows (s : State) (i : Nat) (h : Bytes) : let t := s.blow (.ownerProgram i h)
    t.sec.jobs = s.sec.jobs ∧ bit t.fuses.ownerBlown i = true ∧ NTbl.at [] t.fuses.ownerHash i = h ∧ t.f .SEC_OWNER_RESULT_CODE = 1 :=
  ⟨rfl, bit_setBit .., NTbl.at_put_same .., State.f_setF_same ..⟩

theorem State.blow_ownerRevoke_shows (s : State) (i : Nat) : let t := s.blow (.ownerRevoke i)
    t.sec.jobs = s.sec.jobs ∧ bit t.fuses.ownerRevoked i = true ∧ t.f .SEC_OWNER_RESULT_CODE = 1 := by
  let u : State := { s with fuses := { s.fuses with ownerRevoked := setBit s.fuses.ownerRevoked i true } }
  let s1 := u.setF .SEC_OWNER_RESULT_CODE 0 0 1
  have hl : s1.Leaves closeParts (s.blow (.ownerRevoke i)) := (State.Leaves.refl s1).closeWhere
  refine ⟨s1.jobs_closeWhere _ _, ?_, ?_⟩
  · rw [hl.fuses]
    exact bit_setBit ..
  · rw [hl.f .SEC_OWNER_RESULT_CODE]
    exact u.f_setF_same ..

theorem State.blow_minSvn_shows (h : s.fuses.minSvn < 64) : (s.blow .minSvn).sec.jobs = s.sec.jobs
    ∧ (s.blow .minSvn).fuses.minSvn = s.fuses.minSvn + 1 ∧ (s.blow .minSvn).f .SEC_OWNER_RESULT_CODE = 1 :=
  ⟨rfl, Nat.min_eq_right h, State.f_setF_same ..⟩

theorem State.blow_retire_shows (s : State) (i x : Nat) : (s.blow (.retire i x)).sec.jobs = s.sec.jobs
    ∧ NTbl.at 0 (s.blow (.retire i x)).fuses.retire i = x ∧ (s.blow (.retire i x)).f .SEC_RETIRE_RESULT_CODE = 1 :=
  ⟨rfl, NTbl.at_put_same .., State.f_setF_same ..⟩

/-! ### Granules that Harrow has rewritten -/

/-- What is left of a table when entries go by their number. -/
theorem NTbl.at_filter {α : Type} (d : α) (p : Nat → Bool) (T : NTbl α) (k : Nat) :
    NTbl.at d (T.filter (fun e => p e.1)) k = if p k then NTbl.at d T k else d := by
  unfold NTbl.at
  induction T with
  | nil => simp [Tbl.get]
  | cons e T ih =>
    obtain ⟨n, x⟩ := e
    by_cases hn : n = k
    · subst hn
      cases hp : p n <;> simp [hp, Tbl.get, ih]
    · cases hp : p n <;> simp [hp, Tbl.get, ih, hn]

theorem State.cells_combClose (s : State) (line : Nat) : (s.combClose line).mem.cells = s.mem.cells := by
  unfold State.combClose
  split <;> rfl

/-- A granule written as zeros reads zero, and every other byte is as it was. -/
theorem State.cells_zeroGran (s : State) (g inst a : Nat) :
    NTbl.at 0 (s.zeroGran g inst).mem.cells a = if a / 2 ^ 30 = g then 0 else NTbl.at 0 s.mem.cells a := by
  have hc : (s.combCloseGran g).mem.cells = s.mem.cells :=
    foldl_keeps (fun t => t.mem.cells = s.mem.cells) _ _ (fun t l h => (t.cells_combClose l).trans h) s rfl
  change NTbl.at 0 ((s.combCloseGran g).mem.cells.filter (fun e => decide (e.1 / 2 ^ 30 ≠ g))) a = _
  rw [hc, NTbl.at_filter 0 (fun k => decide (k / 2 ^ 30 ≠ g))]
  by_cases h : a / 2 ^ 30 = g
  · rw [if_pos h, if_neg (by simpa using h)]
  · rw [if_neg h, if_pos (by simpa using h)]

/-- A request of Harrow's is over, with what its result shows. -/
def State.commonEnds (s : State) (code : Nat) : State :=
  (s.setSec { s.sec with commonJob := none }).setF .SEC_COMMON_RESULT_CODE 0 0 code

theorem State.commonEnds_shows (s : State) (code : Nat) : (s.commonEnds code).sec = { s.sec with commonJob := none }
    ∧ (s.commonEnds code).f .SEC_COMMON_RESULT_CODE = code ∧ (s.commonEnds code).mem = s.mem :=
  ⟨rfl, State.f_setF_same .., rfl⟩

/-- The state in which a granule that becomes common has its key. -/
def State.commonKeyed (s : State) (g : Nat) : State :=
  let t : State := if s.sec.commonInst = 0 then
      { s with sec := { s.sec with commonInst := s.mem.keyCtr }, mem := { s.mem with keyCtr := s.mem.keyCtr + 1 } }
    else s
  t.setGkey g 9 t.sec.commonInst

theorem State.commonKeyed_shows (s : State) (g : Nat) : (s.commonKeyed g).sec.commonJob = s.sec.commonJob
    ∧ (s.commonKeyed g).flds = s.flds ∧ (s.commonKeyed g).mem.cells = s.mem.cells := by
  have hk : ∀ (t : State) k, (t.setGkey g 9 k).sec = t.sec ∧ (t.setGkey g 9 k).flds = t.flds ∧ (t.setGkey g 9 k).mem.cells = t.mem.cells :=
    fun _ _ => ⟨rfl, rfl, rfl⟩
  unfold State.commonKeyed
  dsimp only
  split
  · exact ⟨rfl, rfl, rfl⟩
  · exact ⟨rfl, rfl, rfl⟩

theorem State.zeroGran_shows (s : State) (g inst : Nat) : (s.zeroGran g inst).sec = s.sec ∧ (s.zeroGran g inst).flds = s.flds := by
  have hc : ∀ (t : State) l, (t.combClose l).sec = t.sec ∧ (t.combClose l).flds = t.flds := fun t l => by
    unfold State.combClose
    split <;> exact ⟨rfl, rfl⟩
  exact foldl_keeps (fun t => t.sec = s.sec ∧ t.flds = s.flds) _ _ (fun t l h => ⟨(hc t l).1.trans h.1, (hc t l).2.trans h.2⟩) s ⟨rfl, rfl⟩

/-- A granule that becomes common holds zeros; the others are as they were. -/
theorem State.makeCommon_shows (s : State) (g : Nat) : let t := s.makeCommon g
    t.sec.commonJob = s.sec.commonJob ∧ g ∈ t.sec.common ∧ t.flds = s.flds
      ∧ ∀ a, NTbl.at 0 t.mem.cells a = if a / 2 ^ 30 = g then 0 else NTbl.at 0 s.mem.cells a := by
  obtain ⟨h1, h2, h3⟩ := s.commonKeyed_shows g
  obtain ⟨k, hk⟩ : ∃ k, s.makeCommon g = ((s.commonKeyed g).zeroGran g k).setSec
      { ((s.commonKeyed g).zeroGran g k).sec with common := ((s.commonKeyed g).zeroGran g k).sec.common ++ [g] } := ⟨_, rfl⟩
  have hz := (s.commonKeyed g).zeroGran_shows g k
  have hc := (s.commonKeyed g).cells_zeroGran g k
  dsimp only
  rw [hk]
  generalize (s.commonKeyed g).zeroGran g k = u at hz hc ⊢
  refine ⟨?_, List.mem_append_right _ (List.mem_singleton_self g), hz.2.trans h2, fun a => ?_⟩
  · exact (congrArg Sec.commonJob hz.1).trans h1
  · rw [← h3]
    exact hc a

/-- A granule without a twin returns to the operator, holding zeros. -/
theorem State.releaseCommon_shows {g : Nat} (ht : s.twinOf g = none) : let t := s.releaseCommon g
    t.sec.commonJob = s.sec.commonJob ∧ g ∉ t.sec.common ∧ t.flds = s.flds ∧ ∀ a, a / 2 ^ 30 = g → NTbl.at 0 t.mem.cells a = 0 := by
  have hz := (s.setGkey g 0 1).zeroGran_shows g 1
  have hc := (s.setGkey g 0 1).cells_zeroGran g 1
  unfold State.releaseCommon State.toOperator
  dsimp only
  rw [ht]
  dsimp only
  generalize (s.setGkey g 0 1).zeroGran g 1 = u at hz hc ⊢
  refine ⟨(congrArg Sec.commonJob hz.1 :), fun h => ?_, hz.2, fun a ha => (hc a).trans (if_pos ha)⟩
  have hm := (List.mem_filter.mp h).2
  rw [bne_self_eq_false] at hm
  exact Bool.noConfusion hm

/-! ### SB itself fails -/

theorem sbFatal_shows (s : State) (cause : Nat) : ∃ t, exec (.sbFatal cause) s = .next t ∧ t.sec.fatal = true ∧ t.aon.alert = true
    ∧ t.hl.moduleSeq = s.hl.moduleSeq + 1 ∧ t.mem = s.mem := by
  refine ⟨_, rfl, ?_, State.alert_raise_moduleFatal .., State.raise_seq .., ?_⟩
  · rw [State.sec_raise]
    rfl
  · rw [State.mem_raise]
    rfl

theorem securityEnds_holds : securityEnds := by
  intro s
  refine ⟨fun i h r hj => ⟨_, fuseBlowDone_first hj rfl, State.blow_ownerProgram_shows ..⟩,
    fun i r hj => ⟨_, fuseBlowDone_first hj rfl, State.blow_ownerRevoke_shows ..⟩,
    fun r hj hm => ⟨_, fuseBlowDone_first hj rfl, State.blow_minSvn_shows hm⟩,
    fun i x r hj => ⟨_, fuseBlowDone_first hj rfl, State.blow_retire_shows ..⟩, ?_, ?_, ?_, sbFatal_shows s⟩
  all_goals
    obtain ⟨hs, hr, hm⟩ := s.commonEnds_shows 2
    intro g hj
  · intro hf hi
    change execCommonRequestDone s = _
    unfold execCommonRequestDone
    rw [hj]
    dsimp only
    rw [if_pos ⟨rfl, hf, hi⟩, if_pos ⟨rfl, hf, hi⟩]
  · intro hk
    have hn : ¬((1 : Nat) = 1 ∧ s.sec.fatal = true ∧ s.sec.commonInst = 0) := by
      rintro ⟨-, h1, h2⟩
      exact hk.elim (fun h => Bool.noConfusion (h.symm.trans h1)) fun h => h h2
    have he : exec .commonRequestDone s = .next ((s.commonEnds 2).makeCommon g) := by
      change execCommonRequestDone s = _
      unfold execCommonRequestDone
      rw [hj]
      dsimp only
      rw [if_neg hn, if_neg hn]
      rfl
    obtain ⟨h1, h2, h3, h4⟩ := (s.commonEnds 2).makeCommon_shows g
    rw [hs] at h1
    rw [hm] at h4
    exact ⟨_, he, h1, h2, (State.f_of_flds h3 ..).trans hr, fun a ha => (h4 a).trans (if_pos ha), fun a ha => (h4 a).trans (if_neg ha)⟩
  · intro ht
    have he : exec .commonRequestDone s = .next ((s.commonEnds 2).releaseCommon g) := by
      change execCommonRequestDone s = _
      unfold execCommonRequestDone
      rw [hj]
      rfl
    obtain ⟨h1, h2, h3, h4⟩ := (s.commonEnds 2).releaseCommon_shows (g := g) (by rw [State.twinOf, hs]; exact ht)
    rw [hs] at h1
    exact ⟨_, he, h1, h2, (State.f_of_flds h3 ..).trans hr, h4⟩

/-- Settles O57: requests are taken up as their rules say, a blow that ends sets its fuses and leaves the other requests, and a
granule that Harrow has rewritten holds zeros. -/
theorem securityBlock : Obligations.SecurityBlock := ⟨securityRequests_holds, commonRequests_holds, securityEnds_holds⟩

end Sys2Proof.Machine
end

section
-- One proof after the other: many waiting at once would hold too much memory when the text is checked as one.
set_option Elab.async false
/-! Queue pairs: state changes and doorbells (10 R393, R398). -/

namespace Sys2Proof.Machine

variable {s t : State} {P : List Part}

/-! ### What writes of a register and flushing leave -/

/-- Fields put in place by a write are among those of its register that the write does not spare. -/
theorem State.Leaves.putFields {r : Reg} {i j v : Nat} {but : List Fid} (h : s.Leaves P t)
    (hp : ∀ f ∈ (regRow r).fields, but.contains f.fid = false → (Part.fld f.fid).inList P = true) :
    s.Leaves P (t.putFields r i j v but) := by
  unfold State.putFields
  refine List.foldlRecOn _ _ h fun t h f hf => ?_
  split
  · exact h
  · next hb =>
    have hf := hp f hf (Bool.eq_false_iff.mpr hb)
    refine .foldl h fun t x h => ?_
    dsimp only
    split
    · exact h.setF hf
    · exact h.setF hf
    · exact h.setF hf
    · exact h

/-- What a signal to a tally may change. -/
def tallyParts : List Part := ([.fld .TALLY_VALUE_VALUE, .fld .TALLY_OVF_OVF] : List Part) ++ waitParts ++ raiseParts

theorem State.Leaves.signalTally {k a : Nat} (h : s.Leaves P t) (hp : subParts tallyParts P = true := by decide +kernel) :
    s.Leaves P (t.signalTally k a) := by
  refine h.step (Q := tallyParts) ?_ hp
  have h1 : t.Leaves tallyParts (t.setF .TALLY_VALUE_VALUE k 0 (min (t.tally k + a) 0xFFFFFFFF)) := (State.Leaves.refl t).setF
  unfold State.signalTally
  exact .step (Q := waitParts) (.ite h1.setF.raise h1) (.judge (.refl _)) (by decide +kernel)

theorem State.Leaves.rd {src : Src} {a n : Nat} (h : s.Leaves P t) (hp : subParts accessParts P = true := by decide +kernel) :
    s.Leaves P (t.rd src a n).2 :=
  h.step (Q := accessParts) (State.Accesses.refl (lo := 0) t).rd.parts hp

theorem State.Leaves.wr {src : Src} {a : Nat} {b : Bytes} (h : s.Leaves P t) (hp : subParts accessParts P = true := by decide +kernel) :
    s.Leaves P (t.wr src a b).2.2 :=
  h.step (Q := accessParts) (State.Accesses.refl (lo := 0) t).wr.parts hp

/-! ### A queue pair in ERROR stays there while it flushes -/

/-- What the records of a queue pair may change, besides STATE. -/
def recordsParts : List Part :=
  ([.qps, .fld .ETH_QP_STATUS_CQ_TAIL, .fld .ETH_QP_STATUS_LAST_STATUS, .fld .ETH_ERR_STATUS_QP_ERROR] : List Part)
    ++ accessParts ++ tallyParts ++ limitedParts

/-- `t` follows `s` by records of queue pairs: what else the state holds stays, and a queue pair in ERROR stays there. -/
structure State.Flushes (s t : State) : Prop where
  leaves : s.Leaves (.fld .ETH_QP_CTL_STATE :: recordsParts) t
  err : ∀ q, s.qpState q = 6 → t.qpState q = 6

namespace State.Flushes

variable {q : Nat}

theorem refl (s : State) : s.Flushes s := ⟨.refl s, fun _ h => h⟩

/-- A step that leaves STATE alone. -/
theorem step {u : State} (h : s.Flushes t) (k : t.Leaves recordsParts u) : s.Flushes u :=
  ⟨h.leaves.step k (by decide +kernel), fun q hq => (k.f .ETH_QP_CTL_STATE q 0 (by decide +kernel)).trans (h.err q hq)⟩

theorem ite {c : Prop} [Decidable c] {u : State} (h : s.Flushes t) (k : s.Flushes u) : s.Flushes (if c then t else u) := by
  split <;> assumption

theorem setError (h : s.Flushes t) : s.Flushes (t.setF .ETH_QP_CTL_STATE q 0 6) :=
  ⟨h.leaves.setF, fun k hk => by
    by_cases hq : k = q
    · rw [hq]
      exact t.f_setF_same ..
    · exact (t.f_setF_ne _ fun he => hq (congrArg (fun x => x.2.1) he)).trans (h.err k hk)⟩

theorem setQp {v : Qp} (h : s.Flushes t) : s.Flushes (t.setQp q v) := h.step (State.Leaves.refl t).setQp

theorem wr {src : Src} {a : Nat} {b : Bytes} (h : s.Flushes t) : s.Flushes (t.wr src a b).2.2 := h.step (State.Leaves.refl t).wr

theorem rd {src : Src} {a n : Nat} (h : s.Flushes t) : s.Flushes (t.rd src a n).2 := h.step (State.Leaves.refl t).rd

theorem signalTally {k a : Nat} (h : s.Flushes t) : s.Flushes (t.signalTally k a) := h.step (State.Leaves.refl t).signalTally

theorem setF {f : Fid} {i j v : Nat} (h : s.Flushes t) (hp : (Part.fld f).inList recordsParts = true := by decide +kernel) :
    s.Flushes (t.setF f i j v) := h.step ((State.Leaves.refl t).setF hp)

theorem reported {f : Fid} {us code sev ucls unit : Nat} {detail : List Nat} (h : s.Flushes t)
    (hp : (Part.fld f).inList recordsParts = true := by decide +kernel) :
    s.Flushes ((t.flag f).raiseLimited us code sev ucls unit detail) :=
  h.step (.raiseLimited (.flag (.refl t) hp) (by decide +kernel))

theorem qpRecord {st : Nat} {recv : Bool} {bytes wrId : Nat} {imm : Option Nat} {idx : Nat} (h : s.Flushes t) :
    s.Flushes (t.qpRecord q st recv bytes wrId imm idx) := by
  unfold State.qpRecord
  dsimp only
  exact .ite h.wr.setF (.reported h.wr.setF.setF.setError)

theorem qpErrorState {st : Nat} (h : s.Flushes t) : s.Flushes (t.qpErrorState q st) := by
  unfold State.qpErrorState
  exact .reported h.setF.setError

theorem sendRecord {w : Wqe} {st : Nat} (h : s.Flushes t) : s.Flushes (t.sendRecord q w st) := by
  unfold State.sendRecord
  exact .ite h.qpRecord.signalTally h.qpRecord

theorem recvRecord {st bytes wrId : Nat} {imm : Option Nat} {idx : Nat} (h : s.Flushes t) :
    s.Flushes (t.recvRecord q st bytes wrId imm idx) := by
  unfold State.recvRecord
  exact .ite h.qpRecord.signalTally h.qpRecord

theorem flushOne {u : State} (h : s.Flushes t) (hu : t.flushOne q = some u) : s.Flushes u := by
  have some_of : ∀ {v : State}, s.Flushes v → some v = some u → s.Flushes u := by
    rintro _ h ⟨⟩
    exact h
  unfold State.flushOne at hu
  dsimp only at hu
  split at hu
  · split at hu
    · exact some_of h.setQp hu
    · split at hu
      · exact some_of h.setQp.sendRecord hu
      · exact nomatch hu
  · split at hu
    · exact nomatch hu
    · split at hu
      · exact some_of h.rd.setQp.sendRecord hu
      · split at hu
        · split at hu
          · exact some_of h.setQp.recvRecord hu
          · exact some_of h.setQp hu
        · split at hu
          · exact nomatch hu
          · exact some_of h.rd.setQp.recvRecord hu

theorem flushLoop {n : Nat} (h : s.Flushes t) : s.Flushes (State.flushLoop q n t) := by
  induction n generalizing t with
  | zero => exact h
  | succ n ih =>
    unfold State.flushLoop
    split
    · next he => exact ih (h.flushOne he)
    · exact h

theorem qpFlush (h : s.Flushes t) : s.Flushes (t.qpFlush q) := by
  unfold State.qpFlush
  exact .ite h.setQp.flushLoop h

end State.Flushes

/-! ### Writes of STATE -/

/-- The settings of a queue pair that a write of ETH_QP_CTL puts in place. -/
def settingParts : List Part :=
  [.fld .ETH_QP_CTL_DEST_QPN, .fld .ETH_QP_CTL_SRC_ADDR, .fld .ETH_QP_CTL_PRIO, .fld .ETH_QP_CTL_PMTU, .fld .ETH_QP_CTL_SACK,
    .fld .ETH_QP_CTL_ACK_TIMEOUT, .fld .ETH_QP_CTL_RETRY_CNT, .fld .ETH_QP_CTL_RNR_RETRY]

/-- A queue pair whose settings a write of ETH_QP_CTL has put in place. -/
def State.qpSettings (s : State) (q v : Nat) : State := s.putFields .ETH_QP_CTL q 0 v [.ETH_QP_CTL_STATE]

theorem State.qpSettings_leaves (q v : Nat) : s.Leaves settingParts (s.qpSettings q v) :=
  (State.Leaves.refl s).putFields (by decide +kernel)

/-- A write of ETH_QP_CTL that changes STATE, as the change of STATE decides. -/
theorem State.qpCtl_of {q v k : Nat} (hv : bits v 2 0 = k) (hs : s.qpState q ≠ k)
    (hc : s.qpState q ≤ 1 ∨ s.anyChange .ETH_QP_CTL q 0 v [.ETH_QP_CTL_STATE] = false)
    (ht : (s.qpSettings q v).qpToState q k = (hOk, t)) : s.qpCtl q v = (hOk, t.sheafSettle) := by
  have hn : ¬(s.anyChange .ETH_QP_CTL q 0 v [.ETH_QP_CTL_STATE] = true ∧ (!s.qpOpen q) = true) := by
    rintro ⟨h1, h2⟩
    obtain h | h := hc
    · rw [State.qpOpen, decide_eq_true h] at h2
      exact Bool.noConfusion h2
    · exact Bool.noConfusion (h.symm.trans h1)
  unfold State.qpCtl
  rw [if_neg hn, hv]
  change (match (s.qpSettings q v).qpToState q k with
    | (st, s1) => if st = hOk then (st, if s.qpState q = k then s1 else s1.sheafSettle)
      else (st, if s1.f .ETH_QP_STATUS_RING_ERR q = 1 then s.flag .ETH_QP_STATUS_RING_ERR q else s)) = _
  rw [ht]
  exact (if_pos rfl).trans (by rw [if_neg hs])

theorem bits_word_state (v : Word) {x : Nat} (h : x < 8) : bits (putBits v.toNat 2 0 x) 2 0 = x :=
  (bits_putBits _ 2 0 x (by decide)).trans (Nat.mod_eq_of_lt h)

section

variable {m : Master} {q : Nat} {v : Word}

/-- A row that writes STATE with another value. -/
theorem qpState_gives {c : Instr} {x : Nat} (hx : x < 8)
    (hrow : ∀ s0, exec c s0 = .next (s0.regSend m .ETH_QP_CTL q 0 (putBits v.toNat 2 0 x))) (hs : s.qpState q ≠ x)
    (hc : s.qpState q ≤ 1 ∨ s.anyChange .ETH_QP_CTL q 0 (putBits v.toNat 2 0 x) [.ETH_QP_CTL_STATE] = false)
    (ht : (s.qpSettings q (putBits v.toNat 2 0 x)).qpToState q x = (hOk, t)) :
    writeGives c m .ETH_QP_CTL q 0 (putBits v.toNat 2 0 x) s t.sheafSettle :=
  writeGives_of hrow ((State.blockWrite_write3 (by decide)).trans (State.qpCtl_of (bits_word_state v hx) hs hc ht))

theorem State.qpState_qpSettings (w : Nat) : (s.qpSettings q w).qpState q = s.qpState q :=
  (s.qpSettings_leaves q w).f .ETH_QP_CTL_STATE q 0

/-- The changes of STATE that the state allows (10 R393). -/
theorem State.qpToState_init (h : s.qpState q = 0) : s.qpToState q 1 = (hOk, s.setF .ETH_QP_CTL_STATE q 0 1) := by
  unfold State.qpToState
  rw [h]
  rfl

theorem State.qpToState_rtr (h : s.qpState q = 1) (hr : s.qpRingsOk q = true) :
    s.qpToState q 2 = (hOk, s.setF .ETH_QP_CTL_STATE q 0 2) := by
  unfold State.qpToState
  rw [h]
  exact if_pos hr

/-- A queue pair in RTS starts at its maximal rate (10 R406). -/
def State.qpRts (s : State) (q : Nat) : State :=
  let r := s.f .ETH_QP_RATE_RATE_MAX q
  let s1 := (s.setF .ETH_QP_CTL_STATE q 0 3).setF .ETH_QP_RATE_RATE_NOW q 0 r
  s1.setQp q { s1.qp q with target := r }

theorem State.qpToState_rts (h : s.qpState q = 2) : s.qpToState q 3 = (hOk, s.qpRts q) := by
  unfold State.qpToState
  rw [h]
  rfl

theorem State.qpToState_reset (h : s.qpState q ≠ 0) : s.qpToState q 0 = (hOk, s.qpReset q) := by
  unfold State.qpToState
  exact (if_neg (Ne.symm h)).trans (if_pos rfl)

theorem State.qpToState_error (h : s.qpState q ≠ 6) : s.qpToState q 6 = (hOk, (s.setF .ETH_QP_CTL_STATE q 0 6).qpFlush q) := by
  unfold State.qpToState
  exact (if_neg (Ne.symm h)).trans ((if_neg (by decide)).trans (if_pos rfl))

theorem State.qpState_setF (s : State) (q k : Nat) : (s.setF .ETH_QP_CTL_STATE q 0 k).qpState q = k := State.f_setF_same ..

theorem State.qpRts_shows (s : State) (q : Nat) : (s.qpRts q).qpState q = 3
    ∧ (s.qpRts q).f .ETH_QP_RATE_RATE_NOW q = s.f .ETH_QP_RATE_RATE_MAX q
    ∧ ((s.qpRts q).qp q).target = s.f .ETH_QP_RATE_RATE_MAX q := by
  have hf : ∀ (u : State) v f, (u.setQp q v).f f q = u.f f q := fun _ _ _ => rfl
  unfold State.qpRts
  dsimp only
  refine ⟨?_, ?_, ?_⟩
  · rw [State.qpState, hf, State.f_setF_fid _ _ (by decide), State.f_setF_same]
  · rw [hf, State.f_setF_same]
  · rw [State.qp_setQp]

/-- What RESET leaves of a queue pair (10 R393). -/
theorem State.qpReset_shows (s : State) (q : Nat) : (s.qpReset q).qpState q = 0 ∧ (s.qpReset q).qp q = {}
    ∧ (s.qpReset q).f .ETH_QP_SQ_TAIL_TAIL q = 0 ∧ (s.qpReset q).f .ETH_QP_RQ_TAIL_TAIL q = 0 ∧ (s.qpReset q).f .ETH_QP_CQ_HEAD_HEAD q = 0
    ∧ (s.qpReset q).f .ETH_QP_STATUS_CQ_TAIL q = 0 ∧ (s.qpReset q).mem = s.mem := by
  obtain ⟨u, hu, hq, hm⟩ : ∃ u : State, s.qpReset q = ((((u.setF .ETH_QP_CTL_STATE q 0 0).setF .ETH_QP_SQ_TAIL_TAIL q 0 0).setF
      .ETH_QP_RQ_TAIL_TAIL q 0 0).setF .ETH_QP_CQ_HEAD_HEAD q 0 0).setF .ETH_QP_STATUS_CQ_TAIL q 0 0 ∧ u.qp q = {} ∧ u.mem = s.mem :=
    ⟨(s.txDrop q).setQp q {}, rfl, State.qp_setQp .., rfl⟩
  rw [hu]
  refine ⟨?_, hq, ?_, ?_, ?_, State.f_setF_same .., hm⟩
  · rw [State.qpState]
    repeat rw [State.f_setF_fid _ _ (by decide)]
    exact u.f_setF_same ..
  · repeat rw [State.f_setF_fid _ _ (by decide)]
    exact State.f_setF_same ..
  · repeat rw [State.f_setF_fid _ _ (by decide)]
    exact State.f_setF_same ..
  · rw [State.f_setF_fid _ _ (by decide), State.f_setF_same]

theorem State.qpRingsOk_qpSettings (w : Nat) : (s.qpSettings q w).qpRingsOk q = s.qpRingsOk q := by
  have h := s.qpSettings_leaves q w
  have hs : (s.qpSettings q w).sec = s.sec := h.sec
  have hp : (s.qpSettings q w).plotOfQp q = s.plotOfQp q := by
    unfold State.plotOfQp State.findPlot State.plot
    rw [hs]
  have hr : ∀ p a n, (s.qpSettings q w).ringOk p a n true = s.ringOk p a n true := fun p a n => by
    unfold State.ringOk State.mapEnt State.plot
    rw [hs]
  unfold State.qpRingsOk
  dsimp only
  rw [hp, h.f .ETH_QP_SQ_BASE, h.f .ETH_QP_SQ_LOG2_SIZE, h.f .ETH_QP_RQ_BASE, h.f .ETH_QP_RQ_LOG2_SIZE, h.f .ETH_QP_CQ_BASE,
    h.f .ETH_QP_CQ_LOG2_SIZE, hr, hr, hr]

/-! ### Doorbells -/

theorem State.qpFlush_of_ne (h : s.qpState q ≠ 6) : s.qpFlush q = s := if_neg h

/-- A tail within its ring (10 R398). -/
theorem State.qpTail_moves {fid : Fid} {head lg x : Nat} (hf : fid ≠ .ETH_QP_CTL_STATE) (hb : s.boundTo q = none) (hs : s.qpState q ≠ 6)
    (hx : x ≠ s.f fid q) (h1 : idxDist x head ≤ 2 ^ lg) (h2 : idxDist x (s.f fid q) < 2 ^ 31) :
    s.qpTail fid q head lg x = (hOk, s.setF fid q 0 x) := by
  have hq : (s.setF fid q 0 x).qpState q ≠ 6 := by
    rw [State.qpState, State.f_setF_fid _ _ hf.symm]
    exact hs
  unfold State.qpTail
  rw [if_neg hx, hb, if_neg (by decide), if_pos ⟨h1, h2⟩, State.qpFlush_of_ne hq]

theorem State.qpCqHead_moves {x : Nat} (hs : s.qpState q ≠ 6) (hx : x ≠ s.f .ETH_QP_CQ_HEAD_HEAD q)
    (h1 : idxDist (s.f .ETH_QP_STATUS_CQ_TAIL q) x ≤ 2 ^ s.f .ETH_QP_CQ_LOG2_SIZE q)
    (h2 : idxDist x (s.f .ETH_QP_CQ_HEAD_HEAD q) < 2 ^ 31) : s.qpCqHead q x = (hOk, s.setF .ETH_QP_CQ_HEAD_HEAD q 0 x) := by
  have hq : (s.setF .ETH_QP_CQ_HEAD_HEAD q 0 x).qpState q ≠ 6 := by
    rw [State.qpState, State.f_setF_fid _ _ (by decide)]
    exact hs
  unfold State.qpCqHead
  rw [if_neg hx, if_pos ⟨h1, h2⟩, State.qpFlush_of_ne hq]

theorem sqTail_waits (h : s.qpSqTail q (bits v.toNat 31 0) = (hOk, t)) : writeWaits (.ethQpSqTail m q v) m .ETH_QP_SQ_TAIL q 0 v.toNat s t :=
  writeWaits_of v.isLt (fun _ => rfl) ((State.blockWrite_write3 (by decide)).trans h)

theorem rqTail_waits (h : s.qpRqTail q (bits v.toNat 31 0) = (hOk, t)) : writeWaits (.ethQpRqTail m q v) m .ETH_QP_RQ_TAIL q 0 v.toNat s t :=
  writeWaits_of v.isLt (fun _ => rfl) ((State.blockWrite_write3 (by decide)).trans h)

theorem cqHead_waits (h : s.qpCqHead q (bits v.toNat 31 0) = (hOk, t)) : writeWaits (.ethQpCqHead m q v) m .ETH_QP_CQ_HEAD q 0 v.toNat s t :=
  writeWaits_of v.isLt (fun _ => rfl) ((State.blockWrite_write3 (by decide)).trans h)

/-- The writes of STATE: each change that the state allows. -/
theorem stateWrites_hold (s : State) (m : Master) (q : Nat) (v : Word) :
    let w (x : Nat) : Nat := putBits v.toNat 2 0 x
    let same (x : Nat) : Prop := s.anyChange .ETH_QP_CTL q 0 (w x) [.ETH_QP_CTL_STATE] = false
    (s.qpState q = 0 → ∃ t : State, writeGives (.qpToInit m q v) m .ETH_QP_CTL q 0 (w 1) s t.sheafSettle ∧ t.qpState q = 1)
    ∧ (s.qpState q = 1 → s.qpRingsOk q = true →
      ∃ t : State, writeGives (.qpToRtr m q v) m .ETH_QP_CTL q 0 (w 2) s t.sheafSettle ∧ t.qpState q = 2)
    ∧ (s.qpState q = 2 → same 3 → ∃ t : State, writeGives (.qpToRts m q v) m .ETH_QP_CTL q 0 (w 3) s t.sheafSettle ∧ t.qpState q = 3
        ∧ t.f .ETH_QP_RATE_RATE_NOW q = s.f .ETH_QP_RATE_RATE_MAX q ∧ (t.qp q).target = s.f .ETH_QP_RATE_RATE_MAX q)
    ∧ (s.qpState q ≠ 0 → same 0 → ∃ t : State, writeGives (.qpToReset m q v) m .ETH_QP_CTL q 0 (w 0) s t.sheafSettle ∧ t.qpState q = 0
        ∧ t.qp q = {} ∧ t.f .ETH_QP_SQ_TAIL_TAIL q = 0 ∧ t.f .ETH_QP_RQ_TAIL_TAIL q = 0 ∧ t.f .ETH_QP_CQ_HEAD_HEAD q = 0
        ∧ t.f .ETH_QP_STATUS_CQ_TAIL q = 0 ∧ t.mem = s.mem)
    ∧ (s.qpState q ≠ 6 → same 6 → ∃ t : State, writeWaits (.qpToError m q v) m .ETH_QP_CTL q 0 (w 6) s t.sheafSettle ∧ t.qpState q = 6) := by
  intro w same
  have hset : ∀ x, (s.qpSettings q x).qpState q = s.qpState q := fun x => s.qpState_qpSettings x
  refine ⟨fun h => ?_, fun h hr => ?_, fun h hc => ?_, fun h hc => ?_, fun h hc => ?_⟩
  · exact ⟨_, qpState_gives (by decide) (fun _ => rfl) (by rw [h]; decide) (.inl (by rw [h]; decide))
      (State.qpToState_init ((hset _).trans h)), State.qpState_setF ..⟩
  · exact ⟨_, qpState_gives (by decide) (fun _ => rfl) (by rw [h]; decide) (.inl (by rw [h]))
      (State.qpToState_rtr ((hset _).trans h) ((State.qpRingsOk_qpSettings _).trans hr)), State.qpState_setF ..⟩
  · obtain ⟨h1, h2, h3⟩ := (s.qpSettings q (w 3)).qpRts_shows q
    rw [(s.qpSettings_leaves q (w 3)).f .ETH_QP_RATE_RATE_MAX] at h2 h3
    exact ⟨_, qpState_gives (by decide) (fun _ => rfl) (by rw [h]; decide) (.inr hc) (State.qpToState_rts ((hset _).trans h)), h1, h2, h3⟩
  · obtain ⟨h1, h2, h3, h4, h5, h6, h7⟩ := (s.qpSettings q (w 0)).qpReset_shows q
    exact ⟨_, qpState_gives (by decide) (fun _ => rfl) h (.inr hc) (State.qpToState_reset (by rw [hset]; exact h)), h1, h2, h3, h4, h5, h6,
      h7.trans (s.qpSettings_leaves q (w 0)).mem⟩
  · refine ⟨_, writeWaits_of (word_putBits v (by decide) (by decide)) (fun _ => rfl) ((State.blockWrite_write3 (by decide)).trans
      (State.qpCtl_of (bits_word_state v (by decide)) h (.inr hc) (State.qpToState_error (by rw [hset]; exact h)))), ?_⟩
    exact (State.Flushes.refl _).qpFlush.err q (State.qpState_setF ..)

/-- Settles O51: a write of STATE gives the change that the state allows, a doorbell moves within its ring or stays. -/
theorem queuePairRows : Obligations.QueuePairRows := by
  intro s m q v
  obtain ⟨h1, h2, h3, h4, h5⟩ := stateWrites_hold s m q v
  refine ⟨h1, h2, h3, h4, h5, fun h => sqTail_waits (if_pos h), fun h => rqTail_waits (if_pos h), fun h => cqHead_waits (if_pos h),
    fun hb hs x hx => ?_⟩
  subst hx
  exact ⟨fun hn ha hd => sqTail_waits (State.qpTail_moves (by decide) hb hs hn ha hd),
    fun hn ha hd => rqTail_waits (State.qpTail_moves (by decide) hb hs hn ha hd),
    fun hn ha hd => cqHead_waits (State.qpCqHead_moves hs hn ha hd)⟩

end

end Sys2Proof.Machine
end

section
-- One proof after the other: many waiting at once would hold too much memory when the text is checked as one.
set_option Elab.async false
/-! The Ethernet port: its link, received frames and pauses (10 R375-R390). -/

namespace Sys2Proof.Machine

variable {s t : State} {P : List Part}

/-! ### Training -/

/-- What training changes. -/
def trainParts : List Part := [.fld .ETH_STATUS_MODE_ACT, .fld .ETH_STATUS_LANES_USED, .fld .ETH_STATUS_LINK]

/-- What a drop of the port's link may change. -/
def dropParts : List Part := ([.eth, .fld .ETH_LANE_LOCK, .fld .ETH_ERR_STATUS_LINK_DOWN] : List Part) ++ trainParts ++ raiseParts

theorem State.Leaves.ethTrain (h : s.Leaves P t) (hp : Part.inList (.fld .ETH_STATUS_LINK) P = true := by rfl) : s.Leaves P t.ethTrain := h.setF hp

theorem State.Leaves.ethRestart (h : s.Leaves P t) (hp : subParts trainParts P = true := by rfl) : s.Leaves P t.ethRestart := by
  refine h.step (Q := trainParts) ?_ hp
  unfold State.ethRestart
  exact (State.Leaves.refl t).setF.setF.ethTrain

/-- Training starts in the mode and lanes that hold now (10 R377). -/
theorem State.ethRestart_shows (s : State) : (s.ethRestart.f .ETH_STATUS_LINK = 1 ∨ s.ethRestart.f .ETH_STATUS_LINK = 2)
    ∧ s.ethRestart.f .ETH_STATUS_MODE_ACT = s.trainMode ∧ s.ethRestart.f .ETH_STATUS_LANES_USED = 0
    ∧ s.ethRestart.trainMode = s.trainMode ∧ s.ethRestart.eth = s.eth := by
  have hm : s.ethRestart.f .ETH_STATUS_MODE_ACT = s.trainMode := by
    unfold State.ethRestart State.ethTrain
    dsimp only
    rw [State.f_setF_fid _ _ (by decide), State.f_setF_fid _ _ (by decide), State.f_setF_same]
  refine ⟨?_, hm, ?_, ?_, rfl⟩
  · unfold State.ethRestart State.ethTrain
    dsimp only
    rw [State.f_setF_same]
    split
    · exact .inl rfl
    · exact .inr rfl
  · unfold State.ethRestart State.ethTrain
    dsimp only
    rw [State.f_setF_fid _ _ (by decide), State.f_setF_same]
  · exact congrArg s.eth.fall.getD (((State.Leaves.refl s).ethRestart (P := trainParts)).f .ETH_CFG_MODE 0 0)

/-! ### The link drops -/

/-- The port's state as a drop leaves it: no frame waits and no pause holds. -/
def State.ethCleared (s : State) : Eth :=
  { s.eth with fall := if s.eth.dropDue.isSome then none else s.eth.fall, dropDue := none, pauseSince := [], storm := 0, xoff := 0,
               txq := [], corr := [] }

/-- The port with no lane in lock. -/
def State.ethUnlocked (s : State) : State :=
  (List.range 8).foldl (fun s i => s.setF .ETH_LANE_LOCK i 0 0) { s with eth := s.ethCleared }

/-- The drop, reported where the link was up. -/
def State.ethDropped (s : State) (cause : Nat) : State :=
  if s.f .ETH_STATUS_LINK = 3 then (s.ethUnlocked.flag .ETH_ERR_STATUS_LINK_DOWN).raise 0x6008 sevNone 0 0 [cause] else s.ethUnlocked

theorem State.ethDrop_eq (s : State) (cause : Nat) : s.ethDrop cause = (s.ethDropped cause).ethRestart := rfl

theorem State.ethUnlocked_leaves (s : State) : s.Leaves [.eth, .fld .ETH_LANE_LOCK] s.ethUnlocked :=
  .foldl (State.Leaves.refl s).ethSet fun _ _ h => h.setF

theorem State.ethDropped_leaves (s : State) (cause : Nat) : s.Leaves dropParts (s.ethDropped cause) := by
  have h : s.Leaves dropParts s.ethUnlocked := s.ethUnlocked_leaves.mono (by decide +kernel)
  exact .ite (h.flag).raise h

theorem State.Leaves.ethDrop (h : s.Leaves P t) {cause : Nat} (hp : subParts dropParts P = true := by decide +kernel) :
    s.Leaves P (t.ethDrop cause) := h.step (Q := dropParts) (t.ethDropped_leaves cause).ethRestart hp

theorem State.eth_ethUnlocked (s : State) : s.ethUnlocked.eth = s.ethCleared :=
  foldl_leaves State.eth (fun (s : State) i => s.setF .ETH_LANE_LOCK i 0 0) (List.range 8) (fun _ _ => rfl) { s with eth := s.ethCleared }

theorem State.eth_ethDrop (s : State) (cause : Nat) : (s.ethDrop cause).eth = s.ethCleared := by
  rw [State.ethDrop_eq, (State.ethRestart_shows _).2.2.2.2]
  unfold State.ethDropped
  split
  · rw [State.eth_raise]
    exact s.eth_ethUnlocked
  · exact s.eth_ethUnlocked

/-- Eight lanes set one after the other. -/
theorem State.laneLocks_at (g : Nat → Nat) {i : Nat} (hi : i < 8) (s : State) :
    ((List.range 8).foldl (fun s k => s.setF .ETH_LANE_LOCK k 0 (g k)) s).f .ETH_LANE_LOCK i = g i :=
  foldl_one (p := fun s : State => s.f .ETH_LANE_LOCK i) (g := fun (s : State) k => s.setF .ETH_LANE_LOCK k 0 (g k)) (fun _ => g i)
    (List.mem_range.mpr hi) List.nodup_range (fun _ _ hk _ => State.f_setF_ne _ _ fun he => hk (Prod.mk.inj (Prod.mk.inj he).2).1.symm)
    (fun u => u.f_setF_same ..) s

theorem State.ethUnlocked_lock (s : State) {i : Nat} (hi : i < 8) : s.ethUnlocked.f .ETH_LANE_LOCK i = 0 :=
  State.laneLocks_at (fun _ => 0) hi _

/-- After a drop no lane is in lock and the port trains. -/
theorem State.ethDrop_shows (s : State) (cause : Nat) : let t := s.ethDrop cause
    (t.f .ETH_STATUS_LINK = 1 ∨ t.f .ETH_STATUS_LINK = 2) ∧ t.eth.dropDue = none ∧ t.f .ETH_STATUS_LANES_USED = 0
      ∧ t.f .ETH_STATUS_MODE_ACT = t.trainMode ∧ (∀ i, i < 8 → t.f .ETH_LANE_LOCK i = 0) ∧ t.units = s.units := by
  have he := s.eth_ethDrop cause
  have hu := (State.Leaves.refl s).ethDrop (P := dropParts) (cause := cause)
  obtain ⟨h1, h2, h3, h4, -⟩ := (s.ethDropped cause).ethRestart_shows
  rw [State.ethDrop_eq] at he hu
  refine ⟨h1, congrArg Eth.dropDue he, h3, h2.trans h4.symm, fun i hi => ?_, hu.units⟩
  rw [State.ethDrop_eq, ((State.Leaves.refl _).ethRestart (P := trainParts)).f .ETH_LANE_LOCK i 0]
  unfold State.ethDropped
  split
  · rw [State.f_raise (h := by decide), State.f_flag_fid _ (by decide)]
    exact s.ethUnlocked_lock hi
  · exact s.ethUnlocked_lock hi

/-! ### The link comes up -/

/-- The port's status once its link is up in a mode on its lanes. -/
def State.ethShown (s : State) (mode lanes : Nat) : State :=
  ((s.setF .ETH_STATUS_LINK 0 0 3).setF .ETH_STATUS_MODE_ACT 0 0 mode).setF .ETH_STATUS_LANES_USED 0 0 lanes

/-- Its lanes in lock. -/
def State.ethLocked (s : State) (lanes : Nat) : State := (List.range 8).foldl (fun s i => s.setF .ETH_LANE_LOCK i 0 (b2n (bit lanes i))) s

theorem State.ethShown_shows (s : State) (mode lanes : Nat) : (s.ethShown mode lanes).f .ETH_STATUS_LINK = 3
    ∧ (s.ethShown mode lanes).f .ETH_STATUS_MODE_ACT = mode ∧ (s.ethShown mode lanes).f .ETH_STATUS_LANES_USED = lanes := by
  unfold State.ethShown
  refine ⟨?_, ?_, State.f_setF_same ..⟩
  · rw [State.f_setF_fid _ _ (by decide), State.f_setF_fid _ _ (by decide), State.f_setF_same]
  · rw [State.f_setF_fid _ _ (by decide), State.f_setF_same]

theorem State.ethLocked_leaves (s : State) (lanes : Nat) : s.Leaves [.fld .ETH_LANE_LOCK] (s.ethLocked lanes) :=
  .foldl (.refl s) fun _ _ h => h.setF

theorem State.ethLocked_lock (s : State) (lanes : Nat) {i : Nat} (hi : i < 8) : (s.ethLocked lanes).f .ETH_LANE_LOCK i = b2n (bit lanes i) :=
  State.laneLocks_at (fun i => b2n (bit lanes i)) hi s

/-- The capacity of the port's mesh port follows its mode (07 R256). -/
def State.ethCapacity (s : State) (mode : Nat) : State :=
  if s.mesh.ethCap = modeCap mode then s else ({ s with mesh := { s.mesh with ethCap := modeCap mode } }).capChanged

theorem State.ethCap_capChanged (s : State) : s.capChanged.mesh.ethCap = s.mesh.ethCap := by
  have h := s.rescale_leaves s.qports
  unfold State.capChanged
  dsimp only
  generalize s.rescale s.qports = u at h
  exact congrArg Mesh.ethCap h.mesh

theorem State.meshCap_leaves (s : State) (c : Nat) : s.Leaves capParts { s with mesh := { s.mesh with ethCap := c } } :=
  (State.Leaves.refl s).meshSet

theorem State.ethCapacity_shows (s : State) (mode : Nat) : (s.ethCapacity mode).mesh.ethCap = modeCap mode
    ∧ s.Leaves capParts (s.ethCapacity mode) := by
  have h := s.meshCap_leaves (modeCap mode)
  have hc : ({ s with mesh := { s.mesh with ethCap := modeCap mode } } : State).mesh.ethCap = modeCap mode := rfl
  unfold State.ethCapacity
  generalize ({ s with mesh := { s.mesh with ethCap := modeCap mode } } : State) = u at h hc ⊢
  split
  · next h => exact ⟨h, .refl s⟩
  · exact ⟨u.ethCap_capChanged.trans hc, h.capChanged (by decide +kernel)⟩

/-- The port with its link up on its lanes. -/
def State.ethReady (s : State) (mode lanes : Nat) : State := (s.ethShown mode lanes).ethLocked lanes

theorem State.ethReady_shows (s : State) (mode lanes : Nat) : (s.ethReady mode lanes).f .ETH_STATUS_LINK = 3
    ∧ (s.ethReady mode lanes).f .ETH_STATUS_MODE_ACT = mode ∧ (s.ethReady mode lanes).f .ETH_STATUS_LANES_USED = lanes
    ∧ ∀ i, i < 8 → (s.ethReady mode lanes).f .ETH_LANE_LOCK i = b2n (bit lanes i) := by
  obtain ⟨h1, h2, h3⟩ := s.ethShown_shows mode lanes
  have hl := (s.ethShown mode lanes).ethLocked_leaves lanes
  exact ⟨(hl.f ..).trans h1, (hl.f ..).trans h2, (hl.f ..).trans h3, fun i hi => State.ethLocked_lock _ lanes hi⟩

/-- Its capacity, and the event. -/
def State.ethRises (s : State) (mode lanes : Nat) : State := (s.ethCapacity mode).raise 0x6001 sevNone 0 0 [mode, lanes]

theorem State.ethRises_shows (s : State) (mode lanes : Nat) : s.Leaves capParts (s.ethRises mode lanes)
    ∧ (s.ethRises mode lanes).mesh.ethCap = modeCap mode := by
  obtain ⟨hc, hp⟩ := s.ethCapacity_shows mode
  unfold State.ethRises
  exact ⟨hp.raise (by decide +kernel), (congrArg Mesh.ethCap (State.mesh_raise ..)).trans hc⟩

theorem execEthLinkUp_eq {mode : Nat} (hl : s.f .ETH_STATUS_LINK = 1 ∨ s.f .ETH_STATUS_LINK = 2) (hd : (s.dom 21).running = true)
    (hm : modeFits s.trainMode mode = true) (hk : s.umReady = true → s.lanesOk (s.lanesOfMode mode) = true) :
    exec (.ethLinkUp mode (s.lanesOfMode mode)) s
      = .next ((s.ethReady mode (s.lanesOfMode mode)).ethRises mode (s.lanesOfMode mode)) := by
  refine if_neg ?_
  rintro (h | h | h | h | ⟨h1, h2⟩)
  · rw [decide_eq_true hl] at h
    exact Bool.noConfusion h
  · rw [hd] at h
    exact Bool.noConfusion h
  · rw [hm] at h
    exact Bool.noConfusion h
  · exact h rfl
  · rw [hk h1] at h2
    exact Bool.noConfusion h2

theorem ethLinkUp_shows {mode : Nat} (hl : s.f .ETH_STATUS_LINK = 1 ∨ s.f .ETH_STATUS_LINK = 2) (hd : (s.dom 21).running = true)
    (hm : modeFits s.trainMode mode = true) (hk : s.umReady = true → s.lanesOk (s.lanesOfMode mode) = true) :
    ∃ t, exec (.ethLinkUp mode (s.lanesOfMode mode)) s = .next t ∧ t.f .ETH_STATUS_LINK = 3
        ∧ t.f .ETH_STATUS_MODE_ACT = mode ∧ t.f .ETH_STATUS_LANES_USED = s.lanesOfMode mode ∧ t.mesh.ethCap = modeCap mode
        ∧ ∀ i, i < 8 → t.f .ETH_LANE_LOCK i = b2n (bit (s.lanesOfMode mode) i) := by
  have he := execEthLinkUp_eq hl hd hm hk
  generalize s.lanesOfMode mode = l at he ⊢
  obtain ⟨h1, h2, h3, h4⟩ := s.ethReady_shows mode l
  obtain ⟨hp, hc⟩ := (s.ethReady mode l).ethRises_shows mode l
  exact ⟨_, he, (hp.f ..).trans h1, (hp.f ..).trans h2, (hp.f ..).trans h3, hc, fun i hi => (hp.f ..).trans (h4 i hi)⟩

/-! ### A lane fails -/

theorem State.eth_sheafStop (s : State) : s.sheafStop.eth = s.eth := foldl_leaves State.eth _ _ (fun s x => by split <;> rfl) s

theorem State.f_sheafStop_link {f : Fid} (hf : f = .ETH_STATUS_LINK ∨ f = .ETH_ERR_STATUS_PORT_FATAL) (s : State) : s.sheafStop.f f = s.f f := by
  refine foldl_leaves (fun s : State => s.f f) _ _ (fun s x => ?_) s
  split
  · rfl
  · unfold State.sheafIdle
    dsimp only
    rw [State.f_setF_fid _ _ (by obtain rfl | rfl := hf <;> decide), State.f_setF_fid _ _ (by obtain rfl | rfl := hf <;> decide),
      State.f_setF_fid _ _ (by obtain rfl | rfl := hf <;> decide)]
    rfl

/-- The port's failure, before Sheaf's runs end with it. -/
def State.ethFatal (s : State) : State :=
  (({ s with eth := { s.eth with fatal := true } }.setF .ETH_STATUS_LINK 0 0 4).flag .ETH_ERR_STATUS_PORT_FATAL).raise 0x6040 sevModuleFatal 0 0 []

theorem State.ethFatal_shows (s : State) : s.ethFatal.eth.fatal = true ∧ s.ethFatal.f .ETH_STATUS_LINK = 4
    ∧ s.ethFatal.f .ETH_ERR_STATUS_PORT_FATAL = 1 ∧ s.ethFatal.aon.alert = true ∧ s.ethFatal.units = s.units := by
  unfold State.ethFatal
  refine ⟨?_, ?_, ?_, State.alert_raise_moduleFatal .., ?_⟩
  · rw [State.eth_raise]
    rfl
  · rw [State.f_raise (h := by decide), State.f_flag_fid _ (by decide), State.f_setF_same]
  · rw [State.f_raise (h := by decide), State.f_flag_same]
  · rw [State.units_raise]
    rfl

/-- A port without a usable half stays down (10 R381). -/
theorem State.ethPortFatal_shows (s : State) : s.ethPortFatal.eth.fatal = true ∧ s.ethPortFatal.f .ETH_STATUS_LINK = 4
    ∧ s.ethPortFatal.f .ETH_ERR_STATUS_PORT_FATAL = 1 ∧ s.ethPortFatal.aon.alert = true ∧ s.ethPortFatal.units = s.units := by
  have he : s.ethPortFatal = s.ethFatal.sheafStop := rfl
  have h := s.ethFatal_shows
  rw [he]
  generalize s.ethFatal = u at h
  rw [State.eth_sheafStop, State.f_sheafStop_link (.inl rfl), State.f_sheafStop_link (.inr rfl), State.aon_sheafStop, State.units_sheafStop]
  exact h

/-- The port after lane `l` has failed, before its link drops. -/
def State.laneFailed (s : State) (l : Nat) : State :=
  ((s.setUnit .ethLane l .failed).flag .ETH_ERR_STATUS_LANE_FAIL).raise 0x6010 sevUnitFatal 7 l [l]

/-- What a lane's failure may change before the link drops. -/
def laneParts : List Part := ([.fld .ETH_ERR_STATUS_LANE_FAIL, .freeCtr] : List Part) ++ unitParts .ethLane

theorem State.laneFailed_leaves (s : State) (l : Nat) : s.Leaves laneParts (s.laneFailed l) := by
  have h : s.Leaves laneParts (s.setUnit .ethLane l .failed) := (s.setUnit_leaves .ethLane l .failed).mono (by decide +kernel)
  unfold State.laneFailed
  generalize s.setUnit .ethLane l .failed = u at h ⊢
  exact h.flag.raise

theorem State.laneFailed_shows {l : Nat} (h : (s.unit .ethLane l).st = some .present) :
    ((s.laneFailed l).unit .ethLane l).st = some .failed ∧ (∀ k, k ≠ l → (s.laneFailed l).unit .ethLane k = s.unit .ethLane k)
      ∧ (s.laneFailed l).f .ETH_ERR_STATUS_LANE_FAIL = 1 := by
  have h1 : ((s.setUnit .ethLane l .failed).unit .ethLane l).st = some .failed := State.unit_setUnit (by rw [h]; rfl)
  have h2 : ∀ k, k ≠ l → (s.setUnit .ethLane l .failed).unit .ethLane k = s.unit .ethLane k := fun k hk => State.units_setUnit_ne hk
  have hu : (s.laneFailed l).units = (s.setUnit .ethLane l .failed).units := (State.units_raise ..).trans (State.units_flag ..)
  have hk : ∀ k, (s.laneFailed l).unit .ethLane k = (s.setUnit .ethLane l .failed).unit .ethLane k := fun k => by
    unfold State.unit
    rw [hu]
  refine ⟨(congrArg CUnit.st (hk l)).trans h1, fun k hn => (hk k).trans (h2 k hn), ?_⟩
  unfold State.laneFailed
  rw [State.f_raise (h := by decide), State.f_flag_same]

/-- Whether a mask of lanes is usable is up to the lanes' states. -/
theorem State.lanesOk_congr {m : Nat} (h : ∀ l, l < 8 → bit m l = true → (t.unit .ethLane l).st = (s.unit .ethLane l).st) :
    t.lanesOk m = s.lanesOk m := by
  unfold State.lanesOk
  rw [Bool.eq_iff_iff, List.all_eq_true, List.all_eq_true]
  refine forall₂_congr fun l hl => ?_
  obtain ⟨hr, hb⟩ := List.mem_filter.mp hl
  rw [h l (List.mem_range.mp hr) hb]

theorem State.lanesOk_failed {m l : Nat} (hl : l < 8) (hb : bit m l = true) (h : (s.unit .ethLane l).st = some .failed) : s.lanesOk m = false := by
  refine Bool.eq_false_iff.mpr fun ha => ?_
  have hx := List.all_eq_true.mp ha l (List.mem_filter.mpr ⟨List.mem_range.mpr hl, hb⟩)
  rw [h] at hx
  exact absurd hx (by decide)

/-- With a lane of the lower half failed, the port goes to the upper half or ends. -/
theorem State.ethFallback_upper {l : Nat} (hl : l < 4) (hf : (s.unit .ethLane l).st = some .failed) (ho : s.lanesOk 0xF0 = true) :
    s.ethFallback 0xFF = if s.f .ETH_CFG_FALLBACK = 0 then s.ethPortFatal
      else ({ s with eth := { s.eth with half := 1, fall := some (fallMode s.trainMode) } }).ethRestart := by
  have h0 : s.lanesOk 0x0F = false := State.lanesOk_failed (by omega) (by interval_cases l <;> rfl) hf
  unfold State.ethFallback
  rw [if_pos (by decide), h0, ho]
  rfl

/-- A lane's failure with its cause drawn. -/
def State.laneCause (s : State) (l : Nat) : Nat × State := (s.laneFailed l).freeBelow 256

/-- A lane fails and the link drops; then the port falls back or ends. -/
theorem State.laneFail_eq (s : State) (l : Nat) :
    s.laneFail l = ((s.laneCause l).2.ethDrop (s.laneCause l).1).ethFallback (s.f .ETH_STATUS_LANES_USED) := rfl

theorem State.laneCause_shows (s : State) (l : Nat) : s.Leaves laneParts (s.laneCause l).2 ∧ (s.laneCause l).2.eth = s.eth
    ∧ (s.laneCause l).2.units = (s.laneFailed l).units ∧ ∀ f, (s.laneCause l).2.f f = (s.laneFailed l).f f := by
  have he : (s.laneFailed l).eth = s.eth := by
    unfold State.laneFailed
    rw [State.eth_raise, State.eth_flag, State.eth_setUnit]
  have h := s.laneFailed_leaves l
  unfold State.laneCause
  generalize s.laneFailed l = u at h he
  exact ⟨h.freeCtrSet, he, rfl, fun _ => rfl⟩

/-- What is known of the port when the failure of a lane has dropped its link. -/
theorem State.laneDropped_shows {l : Nat} (hd : s.eth.dropDue = none) (hp : (s.unit .ethLane l).st = some .present)
    (hl : l < 4) (ho : s.lanesOk 0xF0 = true) (hu : s.f .ETH_STATUS_LANES_USED = 0xFF) : ∃ u : State, s.laneFail l = u.ethFallback 0xFF
      ∧ (u.unit .ethLane l).st = some .failed ∧ u.lanesOk 0xF0 = true ∧ u.f .ETH_ERR_STATUS_LANE_FAIL = 1
      ∧ u.f .ETH_CFG_FALLBACK = s.f .ETH_CFG_FALLBACK ∧ u.trainMode = s.trainMode := by
  obtain ⟨hv, he, hn, hf⟩ := s.laneCause_shows l
  obtain ⟨h1, h2, h3⟩ := State.laneFailed_shows hp
  have hq := s.laneFail_eq l
  rw [hu] at hq
  generalize (s.laneCause l).1 = c at hq
  generalize (s.laneCause l).2 = v at hv he hn hf hq
  have hw : v.Leaves dropParts (v.ethDrop c) := (State.Leaves.refl v).ethDrop
  have hx : ∀ k, (v.ethDrop c).unit .ethLane k = (s.laneFailed l).unit .ethLane k := fun k => by
    rw [hw.unit .ethLane]
    unfold State.unit
    rw [hn]
  refine ⟨_, hq, (congrArg CUnit.st (hx l)).trans h1, ?_, ?_, ?_, ?_⟩
  · refine (State.lanesOk_congr fun k _ hb => ?_).trans ho
    rw [hx, h2 k]
    rintro rfl
    interval_cases k <;> exact Bool.noConfusion hb
  · rw [hw.f .ETH_ERR_STATUS_LANE_FAIL, hf]
    exact h3
  · rw [hw.f .ETH_CFG_FALLBACK, hv.f .ETH_CFG_FALLBACK]
  · have hc : (v.ethDrop c).eth.fall = s.eth.fall := by
      rw [State.eth_ethDrop]
      unfold State.ethCleared
      rw [he, hd]
      rfl
    unfold State.trainMode
    rw [hc, hw.f .ETH_CFG_MODE, hv.f .ETH_CFG_MODE]

theorem State.laneFail_falls {l : Nat} (hl : l < 4) (hd : s.eth.dropDue = none) (hp : (s.unit .ethLane l).st = some .present)
    (ho : s.lanesOk 0xF0 = true) (hu : s.f .ETH_STATUS_LANES_USED = 0xFF) (hf : s.f .ETH_CFG_FALLBACK = 1) :
    ((s.laneFail l).unit .ethLane l).st = some .failed ∧ (s.laneFail l).eth.half = 1 ∧ (s.laneFail l).eth.fall = some (fallMode s.trainMode)
      ∧ (s.laneFail l).f .ETH_ERR_STATUS_LANE_FAIL = 1 ∧ (s.laneFail l).f .ETH_STATUS_MODE_ACT = fallMode s.trainMode := by
  obtain ⟨u, he, h1, h2, h3, h4, h5⟩ := State.laneDropped_shows hd hp hl ho hu
  rw [he, State.ethFallback_upper hl h1 h2, if_neg (by rw [h4, hf]; decide), h5]
  obtain ⟨v, hv, hun, hf, hb⟩ : ∃ v : State, v = { u with eth := { u.eth with half := 1, fall := some (fallMode s.trainMode) } }
      ∧ v.unit .ethLane l = u.unit .ethLane l ∧ v.f .ETH_ERR_STATUS_LANE_FAIL = u.f .ETH_ERR_STATUS_LANE_FAIL
      ∧ v.eth = { u.eth with half := 1, fall := some (fallMode s.trainMode) } := ⟨_, rfl, rfl, rfl, rfl⟩
  have ht : v.trainMode = fallMode s.trainMode := by
    rw [State.trainMode, hb]
    rfl
  rw [← hv]
  obtain ⟨-, hm, -, -, hr⟩ := v.ethRestart_shows
  have hl := (State.Leaves.refl (P := trainParts) v).ethRestart
  rw [hl.unit .ethLane, hl.f .ETH_ERR_STATUS_LANE_FAIL, hr, hm, hun, hf, hb]
  exact ⟨h1, rfl, rfl, h3, ht⟩

theorem State.laneFail_ends {l : Nat} (hl : l < 4) (hd : s.eth.dropDue = none) (hp : (s.unit .ethLane l).st = some .present)
    (ho : s.lanesOk 0xF0 = true) (hu : s.f .ETH_STATUS_LANES_USED = 0xFF) (hf : s.f .ETH_CFG_FALLBACK = 0) :
    ((s.laneFail l).unit .ethLane l).st = some .failed ∧ (s.laneFail l).eth.fatal = true ∧ (s.laneFail l).f .ETH_STATUS_LINK = 4
      ∧ (s.laneFail l).f .ETH_ERR_STATUS_PORT_FATAL = 1 ∧ (s.laneFail l).aon.alert = true := by
  obtain ⟨u, he, h1, h2, -, h4, -⟩ := State.laneDropped_shows hd hp hl ho hu
  rw [he, State.ethFallback_upper hl h1 h2, if_pos (h4.trans hf)]
  obtain ⟨h5, h6, h7, h8, h9⟩ := u.ethPortFatal_shows
  refine ⟨?_, h5, h6, h7, h8⟩
  unfold State.unit
  rw [h9]
  exact h1

/-! ### ETH_CFG -/

theorem State.ccEnChanged_leaves (s : State) : s.Leaves [.fld .ETH_QP_RATE_RATE_NOW] s.ccEnChanged := by
  unfold State.ccEnChanged
  exact .ite (.refl s) (.foldl (.refl s) fun _ _ h => .ite h.setF h)

/-- What a write of ETH_CFG changes besides MODE and the drop that it orders. -/
def cfgParts : List Part :=
  [.fld .ETH_QP_RATE_RATE_NOW, .fld .ETH_CFG_RETRAIN, .fld .ETH_CFG_HL_PRIO, .fld .ETH_CFG_CNP_PRIO, .fld .ETH_CFG_CC_EN, .fld .ETH_CFG_FALLBACK]

/-- A write of ETH_CFG as far as MODE. -/
def State.ethCfgPut (s : State) (w : Nat) : State :=
  let s1 := s.putFields .ETH_CFG 0 0 w [.ETH_CFG_MODE]
  if bits w 1 1 ≠ s.f .ETH_CFG_CC_EN then s1.ccEnChanged else s1

theorem State.ethCfgPut_leaves (s : State) (w : Nat) : s.Leaves cfgParts (s.ethCfgPut w) := by
  have h : s.Leaves cfgParts (s.putFields .ETH_CFG 0 0 w [.ETH_CFG_MODE]) := (State.Leaves.refl s).putFields (by decide +kernel)
  unfold State.ethCfgPut
  generalize s.putFields .ETH_CFG 0 0 w [.ETH_CFG_MODE] = u at h ⊢
  exact .ite (h.step u.ccEnChanged_leaves (by decide +kernel)) h

/-- ETH_CFG takes the mode written, and orders the drop for 100 µs later where it changes or RETRAIN is set (10 R378). -/
theorem State.ethCfg_shows (s : State) (w : Nat) : (s.ethCfg w).f .ETH_CFG_MODE = bits w 14 12
    ∧ ((bits w 15 15 = 1 ∨ bits w 14 12 ≠ s.f .ETH_CFG_MODE) → (s.ethCfg w).eth.dropDue = some (s.now + 100)) := by
  have he : s.ethCfg w = (s.ethCfgPut w).ethCfgMode (bits w 14 12) (bits w 15 15) := rfl
  have h := s.ethCfgPut_leaves w
  rw [he]
  generalize s.ethCfgPut w = u at h
  have hm : u.f .ETH_CFG_MODE = s.f .ETH_CFG_MODE := h.f .ETH_CFG_MODE 0 0
  have hn : u.now = s.now := h .now rfl
  unfold State.ethCfgMode
  dsimp only
  rw [hm]
  refine ⟨?_, fun hc => ?_⟩
  · split <;> exact u.f_setF_same ..
  · rw [if_pos hc]
    exact congrArg (fun x => some (x + 100)) hn

theorem ethernetLink_holds : ethernetLink := by
  intro s m v
  refine ⟨fun mode hl hd hm hk => ethLinkUp_shows hl hd hm hk, fun cause hf hc => ⟨_, (if_neg (by rw [hf]; exact Bool.false_ne_true)).trans
    (congrArg _ (if_pos hc)), s.ethDrop_shows cause⟩, fun c hc hs => ?_, fun l hl h3 hu hd hp ho hk => ?_,
    writeGives_of (fun _ => rfl) (State.blockWrite_write3 (by decide)), writeGives_of (fun _ => rfl) (State.blockWrite_write3 (by decide)),
    s.ethCfg_shows⟩
  · have hn : ¬(s.trainMode ≠ 0 ∧ s.trainMode ≠ 7) := by
      rw [hc]
      omega
    refine ⟨fun h => (if_neg hn).trans ((if_pos h).trans (by rw [hc])), fun h => (if_neg hn).trans ((if_neg (by rw [h]; decide)).trans
      ((if_pos h).trans (by rw [hc])))⟩
  · have hused : s.laneUsed l = true := by
      unfold State.laneUsed
      rw [h3, hu]
      interval_cases l <;> rfl
    have he : exec (.ethLaneFail l) s = .next (s.laneFail l) := congrArg _ (if_pos ⟨hused, hk⟩)
    exact ⟨fun hf => ⟨_, he, State.laneFail_falls hl hd hp ho hu hf⟩, fun hf => ⟨_, he, State.laneFail_ends hl hd hp ho hu hf⟩⟩

/-! ### Received frames -/

section

variable {f : Frame}

/-- What each row of 10 R384 does with a frame. -/
def State.frameEnds (s : State) (f : Frame) : FrameEnd → State
  | .drop c => ((s.fecCorr f).ethCnt c).fecLimit
  | .uncorr => (((s.fecCorr f).ethCnt 0).ethCnt 14).fecLimit
  | .pfc q => ((s.fecCorr f).pfcIn q).fecLimit
  | .arp t i => ((s.fecCorr f).answerNd 0x0806 [f.srcMac, i, t, s.fuses.mac]).fecLimit
  | .nd t _ i => ((s.fecCorr f).answerNd 0x86DD [f.srcMac, i, t, s.fuses.mac]).fecLimit
  | .take => ((s.fecCorr f).bufferIn (s.framePrio f) f.len).2.fecLimit

theorem execFrameReceive_up (h : s.ethUp = true) : exec (.frameReceive f) s = .next (s.frameEnds f (s.judgeFrame f)) := by
  change execFrameReceive f s = _
  unfold execFrameReceive
  rw [if_neg (by rw [h]; exact Bool.false_ne_true)]
  cases s.judgeFrame f <;> rfl

theorem State.judgeFrame_uncorr (h : f.fecOk = false) : s.judgeFrame f = .uncorr := by
  unfold State.judgeFrame
  rw [h]
  rfl

theorem State.judgeFrame_fcs (h : f.fecOk = true) (hc : f.fcsOk = false) : s.judgeFrame f = .drop 0 := by
  unfold State.judgeFrame
  rw [h, hc]
  rfl

theorem State.judgeFrame_long (h : f.fecOk = true) (hc : f.fcsOk = true) (hl : 9216 < f.len) : s.judgeFrame f = .drop 1 := by
  unfold State.judgeFrame
  rw [h, hc]
  exact if_pos hl

theorem State.judgeFrame_pfc {q : List (Option Nat)} (h : f.fecOk = true) (hc : f.fcsOk = true) (hl : f.len ≤ 9216) (hb : f.body = .pfc q) :
    s.judgeFrame f = .pfc q := by
  unfold State.judgeFrame
  rw [h, hc, hb]
  exact if_neg (Nat.not_lt.mpr hl)

/-! ### Lanes whose errors exceed their limit -/

/-- Whether a lane's symbols of the last millisecond exceed its limit. -/
def State.laneOver (s : State) (l : Nat) : Bool := s.laneUsed l && decide (s.f .ETH_LANE_LIMIT_SYMBOLS < s.corrRecent l)

theorem State.laneOver_iff (s : State) (l : Nat) : s.laneOver l = true ↔ s.laneUsed l = true ∧ s.f .ETH_LANE_LIMIT_SYMBOLS < s.corrRecent l := by
  unfold State.laneOver
  rw [Bool.and_eq_true, decide_eq_true_iff]

theorem State.fecLimit_none (h : ∀ l, l < 8 → s.laneUsed l = true → s.corrRecent l ≤ s.f .ETH_LANE_LIMIT_SYMBOLS) : s.fecLimit = s := by
  have hn : (List.range 8).find? s.laneOver = none := List.find?_eq_none.mpr fun l hl ho => by
    obtain ⟨hu, hx⟩ := (s.laneOver_iff l).mp ho
    exact Nat.not_lt.mpr (h l (List.mem_range.mp hl) hu) hx
  change (match (List.range 8).find? s.laneOver with
    | some l => s.laneFail l
    | none => s) = s
  rw [hn]

theorem State.fecLimit_first {l : Nat} (hl : l < 8) (ho : s.laneOver l = true) (hf : ∀ k, k < l → ¬s.laneOver k = true) :
    s.fecLimit = s.laneFail l := by
  have hn : (List.range 8).find? s.laneOver = some l := List.find?_range_eq_some.mpr
    ⟨ho, List.mem_range.mpr hl, fun k hk => by simpa using hf k hk⟩
  change (match (List.range 8).find? s.laneOver with
    | some l => s.laneFail l
    | none => s) = _
  rw [hn]

/-! ### Answers, pauses and turns -/

theorem State.txGo_nil (h : s.eth.txq = []) : s.txGo = s := by
  unfold State.txGo
  rw [h]
  rfl

/-- A frame that stands alone and may start leaves at once. -/
theorem State.tx_alone {x : TxItem} (hu : s.ethUp = true) (hq : s.eth.txq = []) (hm : s.txMay x = true) : s.tx x = s.txPut x := by
  unfold State.tx
  rw [if_neg (by rw [hu]; exact Bool.false_ne_true), if_pos ⟨hq, hm⟩]

/-- The first answer of a second leaves at once where nothing waits and its priority is not paused. -/
theorem State.answerNd_first (hu : s.ethUp = true) (ha : s.eth.arpCount = 0) (hq : s.eth.txq = [])
    (hp : s.paused (s.f .ETH_CFG_HL_PRIO) = none) (k : Nat) (fs : List Nat) :
    (s.answerNd k fs).out = s.out ++ [.frame s.hlHdr k fs] ∧ (s.answerNd k fs).eth.arpCount = 1 := by
  let u : State := { s with eth := { s.eth with arpStart := s.now, arpCount := 1 } }
  have hm : u.txMay { h := u.hlHdr, strict := true, out := .frame s.hlHdr k fs } = true := by
    have hz : (u.paused (u.f .ETH_CFG_HL_PRIO)).isNone = true := by
      rw [show u.paused (u.f .ETH_CFG_HL_PRIO) = none from hp]
      rfl
    unfold State.txMay
    exact (Bool.and_eq_true _ _).mpr ⟨hz, rfl⟩
  have he : s.answerNd k fs = u.txPut { h := u.hlHdr, strict := true, out := .frame s.hlHdr k fs } := by
    have hc : s.eth.arpStart + 1000000 ≤ s.now ∨ s.eth.arpCount = 0 := .inr ha
    unfold State.answerNd
    dsimp only
    rw [if_pos hc, if_pos hc, if_neg (by decide)]
    exact State.tx_alone hu hq hm
  rw [he]
  exact ⟨rfl, rfl⟩

/-- At most 1,000 answers leave in a second. -/
theorem State.answerNd_full (ha : 1000 ≤ s.eth.arpCount) (ht : s.now < s.eth.arpStart + 1000000) (k : Nat) (fs : List Nat) :
    s.answerNd k fs = s.ethCnt 12 := by
  have hn : ¬(s.eth.arpStart + 1000000 ≤ s.now ∨ s.eth.arpCount = 0) := by omega
  unfold State.answerNd
  dsimp only
  rw [if_neg hn, if_pos ha]

/-- What a pause that is set or ended shows. -/
theorem State.setPause_shows (s : State) (p : Nat) (v : Option Nat) : (s.setPause p v).paused p = v ∧ (s.setPause p v).flds = s.flds
    ∧ (s.setPause p v).out = s.out := ⟨NTbl.at_put_same none s.eth.pauseSince p v, rfl, rfl⟩

theorem State.setPause_storm (s : State) (p : Nat) : bit (s.setPause p none).eth.storm p = false := bit_setBit_false _ _

theorem State.pfcClass_shows {p : Nat} (h : s.lossless p = true) : (s.pfcClass p 0).paused p = none
    ∧ ∀ q, q ≠ 0 → s.paused p = none → (s.pfcClass p q).paused p = some s.now := by
  have hn : ¬(!s.lossless p) = true := by
    rw [h]
    exact Bool.false_ne_true
  unfold State.pfcClass
  refine ⟨?_, fun q hq hp => ?_⟩
  · rw [if_neg hn, if_pos rfl]
    exact (s.setPause_shows p none).1
  · rw [if_neg hn, if_neg hq, hp, if_neg (by decide)]
    exact (s.setPause_shows p (some s.now)).1

/-- Strict frames leave before the others (10 R389). -/
theorem State.txPick_strict {x y : TxItem} (hx : s.txPick = some x) (hy : y ∈ s.eth.txq) (hs : y.strict = true) (hm : s.txMay y = true) :
    x.strict = true := by
  have hf : ((s.eth.txq.filter s.txMay).find? (fun x => x.strict)).isSome = true :=
    List.find?_isSome.mpr ⟨y, List.mem_filter.mpr ⟨hy, hm⟩, hs⟩
  obtain ⟨z, hz⟩ := Option.isSome_iff_exists.mp hf
  unfold State.txPick at hx
  dsimp only at hx
  rw [hz] at hx
  cases hx
  exact List.find?_some hz

theorem ethPfcStorm_shows {p : Nat} (hp : p < 8) (hs : (s.paused p).isSome = true) (hw : s.f .ETH_PFC_WD_MS ≠ 0)
    (hb : bit s.eth.storm p = false) : ∃ t, exec (.ethPfcStorm p) s = .next t ∧ bit t.eth.storm p = true
      ∧ t.f .ETH_ERR_STATUS_PFC_STORM = 1 ∧ t.hl.moduleSeq = s.hl.moduleSeq + 1 := by
  have hn : ¬(8 ≤ p ∨ (s.paused p).isNone ∨ s.f .ETH_PFC_WD_MS = 0 ∨ bit s.eth.storm p = true) := by
    rintro (h | h | h | h)
    · exact absurd hp (Nat.not_lt.mpr h)
    · rw [Option.isNone_iff_eq_none] at h
      rw [h] at hs
      exact Bool.noConfusion hs
    · exact hw h
    · rw [hb] at h
      exact Bool.noConfusion h
  refine ⟨_, if_neg hn, ?_, ?_, State.raise_seq ..⟩
  · rw [State.eth_raise]
    exact bit_setBit ..
  · rw [State.f_raise (h := by decide), State.f_flag_same]

theorem ethernetFrames_holds : ethernetFrames := by
  intro s f p quanta hu
  have hr := execFrameReceive_up (f := f) hu
  refine ⟨fun h => ?_, fun h1 h2 => ?_, fun h1 h2 h3 => ?_, fun h1 h2 h3 h4 => ?_, fun c h => ?_, fun h => ?_, State.fecLimit_none,
    fun l hl h1 h2 h3 => State.fecLimit_first hl ((s.laneOver_iff l).mpr ⟨h1, h2⟩) fun k hk ho => h3 k hk ((s.laneOver_iff k).mp ho),
    fun target mac ip h => ?_, fun target mac ip h => ?_, fun target dst mac ip h1 h2 => ?_, fun ha hq hp k fs => State.answerNd_first hu ha hq hp k fs,
    fun ha ht k fs => State.answerNd_full ha ht k fs, congrArg _ (if_pos hu), State.pfcClass_shows, fun h q => ?_, fun hp => ?_, State.txGo_nil,
    fun x y hx hy hs hm => State.txPick_strict hx hy hs hm, fun hp hb ho => congrArg _ (if_pos ⟨hp, hb, ho⟩), ethPfcStorm_shows⟩
  · rw [hr, State.judgeFrame_uncorr h]
    rfl
  · rw [hr, State.judgeFrame_fcs h1 h2]
    rfl
  · rw [hr, State.judgeFrame_long h1 h2 h3]
    rfl
  · rw [hr, State.judgeFrame_pfc h1 h2 h3 h4]
    rfl
  · rw [hr, h]
    rfl
  · rw [hr, h]
    rfl
  · exact congrArg _ ((if_pos hu).trans (if_pos h))
  · exact congrArg _ ((if_pos hu).trans (if_neg (by rw [h]; exact Bool.false_ne_true)))
  · exact congrArg _ ((if_pos hu).trans (if_pos ⟨h1, h2⟩))
  · exact if_pos (by rw [h]; rfl)
  · exact ⟨congrArg _ (if_pos hp), (s.setPause_shows p none).1, s.setPause_storm p, rfl, rfl⟩

/-- Settles O50: the link's changes show in the port's fields, and a received frame meets the first row that matches. -/
theorem ethernetPort : Obligations.EthernetPort := ⟨ethernetLink_holds, ethernetFrames_holds⟩

end

end Sys2Proof.Machine
end

section
-- One proof after the other: many waiting at once would hold too much memory when the text is checked as one.
set_option Elab.async false
/-! The transport: work requests, packets, responses and congestion (10 R390-R406). -/

namespace Sys2Proof.Machine

variable {s t : State} {q : Nat}

/-! ### Work requests start -/

/-- The rows of the work requests, by opcode. -/
def WrRow (row : Nat → Instr) (op : Nat) : Prop :=
  ∀ s q, exec (row q) s = parkIf (row q) (ParkKey.qp q).no (fun s => .next (s.wrStart q op).sheafSettle) s

theorem wrRows : WrRow .wrSend 0 ∧ WrRow .wrSendImm 1 ∧ WrRow .wrRdmaWrite 2 ∧ WrRow .wrRdmaWriteImm 3 ∧ WrRow .wrRdmaRead 4 :=
  ⟨fun _ _ => rfl, fun _ _ => rfl, fun _ _ => rfl, fun _ _ => rfl, fun _ _ => rfl⟩

theorem WrRow.comesTo {row : Nat → Instr} {op : Nat} {u : State} (h : WrRow row op) (hs : s.arm.wrStart q op = u) :
    s.comesTo (row q) (.qp q) u.sheafSettle :=
  State.comesTo_of (h s q) (congrArg (fun u : State => Host.Outcome.next u.sheafSettle) hs)

/-- Starting a work request once its words are read. -/
theorem State.wrStart_read {op : Nat} {r : RdRes} {s0 : State} (hr : s.wrReady q = true)
    (hrd : s.rd (s.qpSrc q) (s.sqSlot q (s.qp q).sqHead) 64 = (r, s0)) (h0 : r.status = 0) :
    s.wrStart q op = (let b := r.data
      if !wrIllegal (s.plotOfQp q) b ∧ (leAt b 0 1 ≠ op ∨ (bit (leAt b 1 1) 0 ∧ (s.qp q).wqes.any Wqe.reading)
          ∨ (op = 4 ∧ 16 ≤ ((s.qp q).wqes.filter Wqe.reading).length)) then s
      else if wrIllegal (s.plotOfQp q) b then (s.wrTaken s0 q).wrFail q (s.wrOf q b) qsIllegal
      else if op = 4 then (s.wrTaken s0 q).wrReadReq q (s.wrOf q b) b
      else
        let x := (s.wrTaken s0 q).rd (s.qpSrc q) (leAt b 16 8) (leAt b 4 4)
        if 1 < x.1.status then x.2.wrFail q (s.wrOf q b) qsLocal
        else x.2.wrPackets q (s.wrOf q b) b x.1.data (goodBytes (leAt b 16 8) (leAt b 4 4) x.1.poison)) := by
  have hn : ¬(!s.wrReady q) = true := by
    rw [hr]
    exact Bool.false_ne_true
  have hd : ∀ b, (decide (r.status ≠ 0) || b) = b := fun b => by
    rw [h0]
    rfl
  unfold State.wrStart
  rw [if_neg hn]
  dsimp only
  rw [hrd]
  dsimp only
  rw [hd, h0]
  rfl

/-- A SEND or WRITE whose data reads without a refusal. -/
theorem State.wrStart_sends {op : Nat} {b : Bytes} {s0 s2 : State} {d : RdRes} (hop : op ≠ 4) (h : s.wrAt q op b s0)
    (hd : (s.wrTaken s0 q).rd (s.qpSrc q) (leAt b 16 8) (leAt b 4 4) = (d, s2)) (h1 : d.status ≤ 1) :
    s.wrStart q op = s2.wrPackets q (s.wrOf q b) b d.data (goodBytes (leAt b 16 8) (leAt b 4 4) d.poison) := by
  obtain ⟨hr, ⟨r, hrd, h0, rfl⟩, hi, hc, hf⟩ := h
  rw [State.wrStart_read hr hrd h0]
  dsimp only
  rw [hd, hi, hc, if_neg, if_neg Bool.false_ne_true, if_neg hop, if_neg (Nat.not_lt.mpr h1)]
  rintro ⟨-, h | ⟨h2, h3⟩ | ⟨h, -⟩⟩
  · exact h rfl
  · obtain hf | hf := hf
    · rw [hf] at h2
      exact Bool.noConfusion h2
    · rw [hf] at h3
      exact Bool.noConfusion h3
  · exact hop h

/-- A READ of which fewer than 16 are outstanding. -/
theorem State.wrStart_reads {b : Bytes} {s0 : State} (h : s.wrAt q 4 b s0) (hl : ((s.qp q).wqes.filter Wqe.reading).length < 16) :
    s.wrStart q 4 = (s.wrTaken s0 q).wrReadReq q (s.wrOf q b) b := by
  obtain ⟨hr, ⟨r, hrd, h0, rfl⟩, hi, hc, hf⟩ := h
  rw [State.wrStart_read hr hrd h0]
  dsimp only
  rw [hi, hc, if_neg, if_neg Bool.false_ne_true, if_pos rfl]
  rintro ⟨-, h | ⟨h2, h3⟩ | ⟨-, h⟩⟩
  · exact h rfl
  · obtain hf | hf := hf
    · rw [hf] at h2
      exact Bool.noConfusion h2
    · rw [hf] at h3
      exact Bool.noConfusion h3
  · exact absurd hl (Nat.not_lt.mpr h)

/-- A work request that breaks 10 R396 ends with ILLEGAL, whichever row meets it. -/
theorem State.wrStart_illegal {op : Nat} {r : RdRes} {s0 : State} (hr : s.wrReady q = true)
    (hrd : s.rd (s.qpSrc q) (s.sqSlot q (s.qp q).sqHead) 64 = (r, s0)) (h0 : r.status = 0) (hi : wrIllegal (s.plotOfQp q) r.data = true) :
    s.wrStart q op = (s.wrTaken s0 q).wrFail q (s.wrOf q r.data) qsIllegal := by
  rw [State.wrStart_read hr hrd h0]
  dsimp only
  rw [hi, if_neg (fun h => Bool.noConfusion h.1), if_pos rfl]

theorem wrSends_of {row : Nat → Instr} {op : Nat} (h : WrRow row op) (hop : op ≠ 4) : wrSends row op := fun _ _ _ _ _ _ ha hd h1 =>
  h.comesTo (State.wrStart_sends hop ha hd h1)

theorem workRequestsStart_holds : workRequestsStart := by
  obtain ⟨r0, r1, r2, r3, r4⟩ := wrRows
  refine ⟨wrSends_of r0 (by decide), wrSends_of r1 (by decide), wrSends_of r2 (by decide), wrSends_of r3 (by decide), fun s s0 q b =>
    ⟨fun ha hl => r4.comesTo (State.wrStart_reads ha hl), fun r row hrow hr hrd h0 hi => ?_⟩⟩
  have hw : ∀ op, s.arm.wrStart q op = (s.wrTaken s0 q).wrFail q (s.wrOf q r.data) qsIllegal := fun op =>
    State.wrStart_illegal (s := s.arm) hr hrd h0 hi
  simp only [List.mem_cons, List.not_mem_nil, or_false] at hrow
  obtain rfl | rfl | rfl | rfl | rfl := hrow
  · exact r0.comesTo (hw 0)
  · exact r1.comesTo (hw 1)
  · exact r2.comesTo (hw 2)
  · exact r3.comesTo (hw 3)
  · exact r4.comesTo (hw 4)

/-! ### Packets arrive -/

/-- SEND_PACKET, RDMA_WRITE_PACKET and RDMA_READ_REQUEST, by the place of the packet's PSN. -/
def State.sendAt (s : State) (q : Nat) (b : Bth) : PsnPlace → State
  | .expected => if (s.sendIn q b).f .ETH_QP_PSN_RQ_PSN q = s.f .ETH_QP_PSN_RQ_PSN q then s.sendIn q b else (s.sendIn q b).thenAhead q
  | .ahead _ => s.gapNak q
  | .duplicate => s.ackNow q

def State.writeAt (s : State) (q : Nat) (b : Bth) : PsnPlace → State
  | .expected => s.writeIn q b
  | .ahead d => if s.f .ETH_QP_CTL_SACK q = 1 ∧ b.pos = .only ∧ d ≤ 256 then s.writeAhead q b else s.gapNak q
  | .duplicate => s.ackNow q

def State.readAt (s : State) (q : Nat) (b : Bth) : PsnPlace → State
  | .expected => (((s.rqStep q (max 1 (ceilDiv b.dmaLen (s.qpMtu q)))).msgDone q).readServe q b).thenAhead q
  | .ahead _ => s.gapNak q
  | .duplicate => s.readServe q b

/-- A row of an inbound packet does by its PSN what `g` says. -/
def PacketRow (row : Nat → Bth → Instr) (g : State → Nat → Bth → PsnPlace → State) : Prop :=
  ∀ (s : State) (q : Nat) (b : Bth) (s1 : State), s.arm.rxStart q b = (true, s1) → s.comesTo (row q b) (.qp q) (g s1 q b (s1.psnPlace q b.psn)).sheafSettle

/-- The commands' bodies, as their rows run them. -/
def sendPacketBody (q : Nat) (b : Bth) (s : State) : Res :=
  let (go, s1) := s.rxStart q b
  if !go then .next s1.sheafSettle
  else match s1.psnPlace q b.psn with
    | .expected =>
      let s2 := s1.sendIn q b
      .next (if s2.f .ETH_QP_PSN_RQ_PSN q = s1.f .ETH_QP_PSN_RQ_PSN q then s2 else s2.thenAhead q).sheafSettle
    | .ahead _ => .next (s1.gapNak q).sheafSettle
    | .duplicate => .next (s1.ackNow q).sheafSettle

def writePacketBody (q : Nat) (b : Bth) (s : State) : Res :=
  let (go, s1) := s.rxStart q b
  if !go then .next s1.sheafSettle
  else match s1.psnPlace q b.psn with
    | .expected => .next (s1.writeIn q b).sheafSettle
    | .ahead d =>
      if s1.f .ETH_QP_CTL_SACK q = 1 ∧ b.pos = .only ∧ d ≤ 256 then .next (s1.writeAhead q b).sheafSettle
      else .next (s1.gapNak q).sheafSettle
    | .duplicate => .next (s1.ackNow q).sheafSettle

def readRequestBody (q : Nat) (b : Bth) (s : State) : Res :=
  let (go, s1) := s.rxStart q b
  if !go then .next s1.sheafSettle
  else match s1.psnPlace q b.psn with
    | .expected =>
      .next ((((s1.rqStep q (max 1 (ceilDiv b.dmaLen (s1.qpMtu q)))).msgDone q).readServe q b).thenAhead q).sheafSettle
    | .ahead _ => .next (s1.gapNak q).sheafSettle
    | .duplicate => .next (s1.readServe q b).sheafSettle

theorem execSendPacket_eq (q : Nat) (b : Bth) (s : State) :
    exec (.sendPacket q b) s = parkIf (.sendPacket q b) (ParkKey.qp q).no (sendPacketBody q b) s := by
  change execSendPacket q b s = _
  unfold execSendPacket
  rfl

theorem sendPacketBody_started {b : Bth} {s1 : State} (h : s.rxStart q b = (true, s1)) :
    sendPacketBody q b s = .next (s1.sendAt q b (s1.psnPlace q b.psn)).sheafSettle := by
  unfold sendPacketBody
  rw [h]
  cases hp : s1.psnPlace q b.psn <;> simp only [Bool.not_true, Bool.false_eq_true, if_false, hp, State.sendAt]

theorem sendPacket_row : PacketRow .sendPacket State.sendAt := fun s q b _ h =>
  State.comesTo_of (execSendPacket_eq q b s) (sendPacketBody_started h)

theorem writePacket_row : PacketRow .rdmaWritePacket State.writeAt := by
  intro s q b s1 h
  have hb : writePacketBody q b s.arm = .next (s1.writeAt q b (s1.psnPlace q b.psn)).sheafSettle := by
    unfold writePacketBody
    rw [h]
    dsimp only
    rw [if_neg (by decide)]
    cases s1.psnPlace q b.psn
    case ahead d => exact (apply_ite (fun u : State => Host.Outcome.next u.sheafSettle) _ _ _).symm
    all_goals rfl
  exact State.comesTo_of rfl hb

theorem readRequest_row : PacketRow .rdmaReadRequest State.readAt := by
  intro s q b s1 h
  have hb : readRequestBody q b s.arm = .next (s1.readAt q b (s1.psnPlace q b.psn)).sheafSettle := by
    unfold readRequestBody
    rw [h]
    dsimp only
    rw [if_neg (by decide)]
    cases s1.psnPlace q b.psn <;> rfl
  exact State.comesTo_of rfl hb

theorem packetsArrive_holds : packetsArrive := by
  intro s s1 q b h
  have h1 := sendPacket_row s q b s1 h
  have h2 := writePacket_row s q b s1 h
  have h3 := readRequest_row s q b s1 h
  refine ⟨fun hp => ?_, fun k hp => ?_, fun hp => ?_⟩ <;> rw [hp] at h1 h2 h3
  · rw [State.sendAt] at h1
    exact ⟨h1, h2, h3⟩
  · refine ⟨h1, h3, fun hs => ?_, fun hs ho hk => ?_⟩
    · exact (if_neg (fun hx => absurd (hs.symm.trans hx.1) (by decide)) : s1.writeAt q b (.ahead k) = s1.gapNak q) ▸ h2
    · exact (if_pos ⟨hs, ho, hk⟩ : s1.writeAt q b (.ahead k) = s1.writeAhead q b) ▸ h2
  · exact ⟨h1, h2, h3⟩

/-! ### One WRITE packet (10 R394, R402) -/

/-- A WRITE Only packet of one message that fits is not refused before its window is judged. -/
theorem writeOnly_fits {b : Bth} {mtu : Nat} (hp : b.pos = .only) (hl : b.payload.length = b.dmaLen) (hm : b.payload.length ≤ mtu)
    (hd : b.dmaLen ≤ msgMax) : ¬((!rxFits none false b.pos) = true ∨ mtu < b.payload.length ∨ b.dmaLen < 0 + b.payload.length
      ∨ (posEnds b.pos = true ∧ 0 + b.payload.length ≠ b.dmaLen) ∨ msgMax < b.dmaLen) := by
  rintro (h | h | h | ⟨-, h⟩ | h)
  · rw [hp] at h
    exact Bool.noConfusion h
  all_goals omega

theorem State.writeIn_outside {b : Bth} (hp : b.pos = .only) (hx : (s.qp q).rx = none) (hl : b.payload.length = b.dmaLen)
    (hm : b.payload.length ≤ s.qpMtu q) (hd : b.dmaLen ≤ msgMax) (hw : s.winOk q b.va b.rkey b.dmaLen true = false) :
    s.writeIn q b = s.nakError q .nakAccess b.psn := by
  unfold State.writeIn
  dsimp only
  rw [hx, hw]
  exact (if_neg (writeOnly_fits hp hl hm hd)).trans (if_pos ⟨rfl, rfl⟩)

theorem State.writeIn_long {c : Bth} (h : msgMax < c.dmaLen) (hx : (s.qp q).rx = none) : s.writeIn q c = s.nakError q .nakInvalid c.psn := by
  unfold State.writeIn
  dsimp only
  rw [hx]
  exact if_pos (.inr (.inr (.inr (.inr h))))

theorem State.writeIn_inside {b : Bth} {a : Nat} {s1 : State} (hp : b.pos = .only) (hi : b.imm = none) (hx : (s.qp q).rx = none)
    (hl : b.payload.length = b.dmaLen) (hm : b.payload.length ≤ s.qpMtu q) (hd : b.dmaLen ≤ msgMax)
    (ha : NTbl.at none (s.qp q).ahead b.psn = none) (hw : s.winOk q b.va b.rkey b.dmaLen true = true)
    (hwr : s.wr (s.qpSrc q) b.va b.payload = (0, a, s1)) : s.writeIn q b
      = ((s1.setQp q { s1.qp q with ahead := NTbl.put none (s1.qp q).ahead b.psn none }).rxDone q true none).thenAhead q := by
  unfold State.writeIn
  dsimp only
  rw [hx, hw, ha, hp, hi]
  simp only [Option.getD_none, Nat.add_zero]
  refine (if_neg (hp ▸ writeOnly_fits hp hl hm hd)).trans ((if_neg fun h => Bool.noConfusion h.2).trans ((if_neg fun h => Bool.noConfusion h.1).trans ?_))
  have he : (if (none : Option (Option Nat × Nat)).isSome = true then ((0, 0, s) : Nat × Nat × State) else s.wr (s.qpSrc q) b.va b.payload) = (0, a, s1) := hwr
  rw [he]
  rfl

/-! ### Responses -/

theorem State.unacked_setQp {v : Qp} (k : Nat) (h : v.unacked = (s.qp q).unacked) : ((s.setQp q v).qp k).unacked = (s.qp k).unacked := by
  by_cases hk : k = q
  · rw [hk, State.qp_setQp, h]
  · rw [State.qp_setQp_ne _ _ hk]

/-- What a queue pair has sent and holds stays when frames leave. -/
theorem State.unacked_txPut (s : State) (x : TxItem) (k : Nat) : ((s.txPut x).qp k).unacked = (s.qp k).unacked := by
  have hk : ∀ u : State, (∀ v : Eth, v.qps = s.eth.qps → u = { s with eth := v } → (u.qp k).unacked = (s.qp k).unacked) := fun u v hv hu => by
    rw [hu]
    unfold State.qp
    rw [hv]
  have hp : ∀ (u : State) (q n : Nat), ((u.paceQp q n).qp k).unacked = (u.qp k).unacked := fun u q n => State.unacked_setQp k rfl
  have hm : ∀ v : Eth, v.qps = s.eth.qps → (((match x.qp with
      | some q => State.paceQp { s with eth := v } q x.bytes
      | none => { s with eth := v }).emit x.out).qp k).unacked = (s.qp k).unacked := fun v hv => by
    cases x.qp
    case none => exact hk { s with eth := v } v hv rfl
    case some r => exact (hp { s with eth := v } r x.bytes).trans (hk { s with eth := v } v hv rfl)
  unfold State.txPut
  dsimp only
  refine hm _ ?_
  split <;> rfl

theorem State.unacked_txRun (n : Nat) (s : State) (k : Nat) : ((State.txRun n s).qp k).unacked = (s.qp k).unacked := by
  induction n generalizing s with
  | zero => rfl
  | succ n ih =>
    unfold State.txRun
    split
    · exact (ih _).trans (State.unacked_txPut _ _ k)
    · rfl

theorem State.unacked_tx (s : State) (x : TxItem) (k : Nat) : ((s.tx x).qp k).unacked = (s.qp k).unacked := by
  unfold State.tx
  split
  · rfl
  · split
    · exact s.unacked_txPut x k
    · exact State.unacked_txRun _ _ k

theorem State.unacked_pktResend (s : State) (q k : Nat) (ps : List SentPkt) : ((s.pktResend q ps).qp k).unacked = (s.qp k).unacked := by
  unfold State.pktResend
  refine foldl_leaves (fun s : State => (s.qp k).unacked) _ _ (fun s p => ?_) s
  unfold State.pktOut
  split
  · exact s.unacked_tx _ k
  · rfl

/-- What a SACK block shows received is kept no longer (10 R402). -/
theorem State.sackIn_drops (s : State) (q psn : Nat) (sack : List Nat) (p : SentPkt) (hp : p ∈ ((s.sackIn q psn sack).qp q).unacked) :
    sackHas psn sack p = false := by
  have hu : ((s.sackIn q psn sack).qp q).unacked = ((s.qp q).unacked.filter (fun p => !sackHas psn sack p)).map
      (fun p => if sackMisses psn sack p then { p with again := true } else p) := by
    unfold State.sackIn
    dsimp only
    split
    · rw [State.qp_setQp]
    · rw [State.unacked_pktResend, State.qp_setQp]
  rw [hu] at hp
  obtain ⟨x, hx, rfl⟩ := List.mem_map.mp hp
  have hs := (List.mem_filter.mp hx).2
  rw [Bool.not_eq_true'] at hs
  split
  · exact hs
  · exact hs

/-- A queue pair that acts in RTS. -/
theorem notIdle (ha : s.qpActs q = true) (hs : s.qpState q = 3) : ¬((!s.qpActs q) = true ∨ s.qpState q ≠ 3) := by
  rw [ha, hs]
  decide

/-- What an acknowledgement of a kind does after what it covers. -/
def State.ackThen (s : State) (q psn : Nat) (sack : List Nat) : AckKind → State
  | .ack => if s.f .ETH_QP_CTL_SACK q = 1 then s.sackIn q psn sack else s
  | .nakSeq => s.retryAll q
  | .nakRnr => s.rnrRetry q
  | .nakAccess => s.failSend q qsAccess
  | .nakInvalid => s.failSend q qsInvalid
  | .nakOp => s.failSend q qsOp

/-- The command's body, as its row runs it. -/
def ackBody (q psn : Nat) (a : Ack) (sack : List Nat) (s : State) : Res :=
  if !s.qpActs q ∨ s.qpState q ≠ 3 then .next s
  else
    let prev := psnDist psn 1
    let s1 := (s.cnpFor q a.ce).ackTo q (if a.kind = .ack then psn else prev)
    if s1.qpState q ≠ 3 then .next s1.sheafSettle
    else .next (match a.kind with
      | .ack => if s1.f .ETH_QP_CTL_SACK q = 1 then s1.sackIn q psn sack else s1
      | .nakSeq => s1.retryAll q
      | .nakRnr => s1.rnrRetry q
      | .nakAccess => s1.failSend q qsAccess
      | .nakInvalid => s1.failSend q qsInvalid
      | .nakOp => s1.failSend q qsOp).sheafSettle

theorem execAcknowledge_eq (q psn : Nat) (a : Ack) (sack : List Nat) (s : State) :
    exec (.acknowledge q psn a sack) s = parkIf (.acknowledge q psn a sack) (ParkKey.qp q).no (ackBody q psn a sack) s := by
  change execAcknowledge q psn a sack s = _
  unfold execAcknowledge
  rfl

theorem acknowledge_comesTo {psn x : Nat} {sack : List Nat} {k : AckKind} {ce : Bool} (ha : s.qpActs q = true) (hs : s.qpState q = 3)
    (hx : (if k = .ack then psn else psnDist psn 1) = x) (ht : (s.arm.cnpFor q ce).ackTo q x = t) (h3 : t.qpState q = 3) :
    s.comesTo (.acknowledge q psn ⟨k, ce⟩ sack) (.qp q) (t.ackThen q psn sack k).sheafSettle := by
  refine State.comesTo_of (execAcknowledge_eq q psn ⟨k, ce⟩ sack s) ?_
  unfold ackBody
  rw [if_neg (notIdle (s := s.arm) ha hs)]
  simp only [hx, ht, h3]
  cases k <;> rfl

theorem ackTimeout_comesTo (ha : s.qpActs q = true) (hs : s.qpState q = 3) :
    s.comesTo (.ackTimeout q) (.qp q) (s.arm.retryAll q).sheafSettle :=
  State.comesTo_of (f := fun s => if !s.qpActs q ∨ s.qpState q ≠ 3 then .next s else .next (s.retryAll q).sheafSettle) rfl
    (if_neg (notIdle (s := s.arm) ha hs))

/-- The next packet of the oldest READ. -/
def readResponseBody (q : Nat) (b : Bth) (s : State) : Res :=
  if !s.qpActs q ∨ s.qpState q ≠ 3 then .next s
  else
    let s0 := s.cnpFor q b.ecnCe
    match (s0.qp q).wqes.find? Wqe.reading with
    | none => .next s0
    | some w =>
      if b.psn ≠ psnAdd w.psn (w.got / s0.qpMtu q) ∨ s0.qpMtu q < b.payload.length ∨ w.len < w.got + b.payload.length
          ∨ (w.got + b.payload.length < w.len ∧ b.payload.length ≠ s0.qpMtu q) then .next s0
      else
        let s1 := s0.ackTo q (psnDist w.psn 1)
        .next (if s1.qpState q = 3 then s1.readData q w b else s1).sheafSettle

theorem execRdmaReadResponse_eq (q : Nat) (b : Bth) (s : State) :
    exec (.rdmaReadResponse q b) s = parkIf (.rdmaReadResponse q b) (ParkKey.qp q).no (readResponseBody q b) s := by
  change execRdmaReadResponse q b s = _
  unfold execRdmaReadResponse
  rfl

theorem readResponse_comesTo {b : Bth} {w : Wqe} (ha : s.qpActs q = true) (hs : s.qpState q = 3) (hc : b.ecnCe = false)
    (hw : (s.qp q).wqes.find? Wqe.reading = some w) (hp : b.psn = psnAdd w.psn (w.got / s.qpMtu q))
    (hl : b.payload.length = s.qpMtu q) (hn : w.got + b.payload.length ≤ w.len) (ht : s.arm.ackTo q (psnDist w.psn 1) = t)
    (h3 : t.qpState q = 3) : s.comesTo (.rdmaReadResponse q b) (.qp q) (t.readData q w b).sheafSettle := by
  have h0 : s.arm.cnpFor q b.ecnCe = s.arm := by
    rw [hc]
    unfold State.cnpFor
    exact if_pos (Or.inl rfl)
  have hf : (s.arm.qp q).wqes.find? Wqe.reading = some w := hw
  have hm : ¬(b.psn ≠ psnAdd w.psn (w.got / s.arm.qpMtu q) ∨ s.arm.qpMtu q < b.payload.length ∨ w.len < w.got + b.payload.length
      ∨ (w.got + b.payload.length < w.len ∧ b.payload.length ≠ s.arm.qpMtu q)) := by
    change ¬(b.psn ≠ psnAdd w.psn (w.got / s.qpMtu q) ∨ s.qpMtu q < b.payload.length ∨ w.len < w.got + b.payload.length
      ∨ (w.got + b.payload.length < w.len ∧ b.payload.length ≠ s.qpMtu q))
    rintro (h | h | h | ⟨-, h⟩)
    · exact h hp
    · omega
    · omega
    · exact h hl
  refine State.comesTo_of (execRdmaReadResponse_eq q b s) ?_
  unfold readResponseBody
  rw [if_neg (notIdle (s := s.arm) ha hs)]
  simp only [h0, hf]
  rw [if_neg hm]
  simp only [ht, h3, if_true]

theorem State.retryAll_resends (h : (s.qp q).unacked ≠ []) (hr : (s.qp q).retries < s.f .ETH_QP_CTL_RETRY_CNT q) :
    s.retryAll q = (s.setQp q { s.qp q with
        retries := (s.qp q).retries + 1
        unacked := (s.qp q).unacked.map (fun p => { p with again := false }) }).pktResend q (s.qp q).unacked := by
  unfold State.retryAll
  exact (if_neg h).trans (if_neg (Nat.not_le.mpr hr))

theorem State.retryAll_gives_up (h : (s.qp q).unacked ≠ []) (hr : s.f .ETH_QP_CTL_RETRY_CNT q ≤ (s.qp q).retries) :
    s.retryAll q = s.failSend q qsRetry := by
  unfold State.retryAll
  exact (if_neg h).trans (if_pos hr)

section

variable {psn : Nat} {sack : List Nat} {ce : Bool}

theorem ack_comesTo (ha : s.qpActs q = true) (hs : s.qpState q = 3) (ht : (s.arm.cnpFor q ce).ackTo q psn = t) (h3 : t.qpState q = 3) :
    (t.f .ETH_QP_CTL_SACK q = 0 → s.comesTo (.acknowledge q psn ⟨.ack, ce⟩ sack) (.qp q) t.sheafSettle)
      ∧ (t.f .ETH_QP_CTL_SACK q = 1 → s.comesTo (.acknowledge q psn ⟨.ack, ce⟩ sack) (.qp q) (t.sackIn q psn sack).sheafSettle) := by
  have h := acknowledge_comesTo (k := .ack) (sack := sack) ha hs (if_pos rfl) ht h3
  unfold State.ackThen at h
  refine ⟨fun hx => ?_, fun hx => ?_⟩
  · rw [if_neg (by rw [hx]; decide)] at h
    exact h
  · rw [if_pos hx] at h
    exact h

theorem nak_comesTo (ha : s.qpActs q = true) (hs : s.qpState q = 3) (ht : (s.arm.cnpFor q ce).ackTo q (psnDist psn 1) = t) (h3 : t.qpState q = 3) :
    s.comesTo (.acknowledge q psn ⟨.nakSeq, ce⟩ sack) (.qp q) (t.retryAll q).sheafSettle
      ∧ s.comesTo (.acknowledge q psn ⟨.nakRnr, ce⟩ sack) (.qp q) (t.rnrRetry q).sheafSettle
      ∧ s.comesTo (.acknowledge q psn ⟨.nakAccess, ce⟩ sack) (.qp q) (t.failSend q qsAccess).sheafSettle
      ∧ s.comesTo (.acknowledge q psn ⟨.nakInvalid, ce⟩ sack) (.qp q) (t.failSend q qsInvalid).sheafSettle
      ∧ s.comesTo (.acknowledge q psn ⟨.nakOp, ce⟩ sack) (.qp q) (t.failSend q qsOp).sheafSettle := by
  have hk : ∀ k, k ≠ AckKind.ack → s.comesTo (.acknowledge q psn ⟨k, ce⟩ sack) (.qp q) (t.ackThen q psn sack k).sheafSettle := fun k hk =>
    acknowledge_comesTo ha hs (if_neg hk) ht h3
  exact ⟨hk .nakSeq (by decide), hk .nakRnr (by decide), hk .nakAccess (by decide), hk .nakInvalid (by decide), hk .nakOp (by decide)⟩

end

theorem responsesArrive_holds : responsesArrive := by
  intro s q psn sack ce ha hs
  exact ⟨ack_comesTo ha hs rfl, s.sackIn_drops q psn sack, nak_comesTo ha hs rfl, ackTimeout_comesTo ha hs, State.retryAll_resends,
    State.retryAll_gives_up, fun b w hc hw hp hl hn h3 => readResponse_comesTo ha hs hc hw hp hl hn rfl h3⟩

/-! ### One WRITE packet, and congestion -/

theorem writePacket_holds : writePacket := by
  intro s q b hp hi hx hl hm hd ha
  exact ⟨fun a s1 hw hwr => State.writeIn_inside hp hi hx hl hm hd ha hw hwr, fun hw => State.writeIn_outside hp hx hl hm hd hw,
    fun c hc hx => State.writeIn_long hc hx⟩

/-- A CNP that finds no cut within CUT_HOLD_US. -/
def State.cnpCut (s : State) (q : Nat) : State :=
  ((s.count .ETH_QP_COUNT_CNP_RX q 0 32 1).setQp q
    { (s.count .ETH_QP_COUNT_CNP_RX q 0 32 1).qp q with target := s.rateNow q, lastCut := some s.now, quiet := 0, cnpSeen := true }).setF
    .ETH_QP_RATE_RATE_NOW q 0 (min (max (s.f .ETH_CC_CFG_RATE_MIN) (s.rateNow q * (256 - s.f .ETH_CC_CFG_CUT_NUM) / 256)) (s.f .ETH_QP_RATE_RATE_MAX q))

theorem execCnp_cuts (ha : s.qpActs q = true) (hs : s.qpState q = 3) (hc : s.f .ETH_CFG_CC_EN = 1) (hl : (s.qp q).lastCut = none) :
    exec (.cnp q) s = .next (s.cnpCut q) := by
  have hl' : ((s.count .ETH_QP_COUNT_CNP_RX q 0 32 1).qp q).lastCut = none := hl
  change execCnp q s = _
  unfold execCnp
  rw [if_neg (notIdle ha hs)]
  dsimp only
  rw [hl', hc]
  exact if_neg fun h => h.elim (fun h => absurd h (by decide)) fun h => Bool.noConfusion h

theorem execCnp_held {c : Nat} (ha : s.qpActs q = true) (hs : s.qpState q = 3) (hl : (s.qp q).lastCut = some c)
    (hn : s.now < c + s.f .ETH_CC_CFG_CUT_HOLD_US) : exec (.cnp q) s = .next ((s.count .ETH_QP_COUNT_CNP_RX q 0 32 1).setQp q
      { (s.count .ETH_QP_COUNT_CNP_RX q 0 32 1).qp q with cnpSeen := true }) := by
  have hl' : ((s.count .ETH_QP_COUNT_CNP_RX q 0 32 1).qp q).lastCut = some c := hl
  change execCnp q s = _
  unfold execCnp
  rw [if_neg (notIdle ha hs)]
  dsimp only
  rw [hl']
  exact if_pos (.inr (decide_eq_true hn))

/-- A queue pair that sent and saw no CNP rises towards its target. -/
def State.risen (s : State) (q : Nat) : State :=
  (s.setQp q { s.qp q with quiet := (s.qp q).quiet + 1, target := (s.qp q).target }).setF .ETH_QP_RATE_RATE_NOW q 0
    (min (s.f .ETH_QP_RATE_RATE_MAX q) ((s.rateNow q + (s.qp q).target) / 2))

theorem State.rise_towards (hs : s.qpState q = 3) (hc : s.f .ETH_CFG_CC_EN = 1) (hn : (s.qp q).cnpSeen = false)
    (hq : (s.qp q).quiet < s.f .ETH_CC_CFG_RECOVER_STEPS) : s.rise q = s.risen q := by
  unfold State.rise
  dsimp only
  have hx : ¬((s.qp q).cnpSeen = true ∨ s.qpState q ≠ 3 ∨ s.f .ETH_CFG_CC_EN = 0) := by
    rw [hn, hs, hc]
    decide
  rw [if_neg hx, if_neg (by omega)]
  rfl

theorem execRisePeriod_one (ha : s.qpActs q = true) (hl : s.eth.qps = [(q, s.qp q)]) (hn : (s.qp q).sentNow = true) :
    exec .risePeriod s = .next ((s.rise q).setQp q { (s.rise q).qp q with sentNow := false, cnpSeen := false }) := by
  have hd : (s.dom 21).running = true := by
    unfold State.qpActs at ha
    simp only [Bool.and_eq_true] at ha
    exact ha.1.1.2
  change execRisePeriod s = _
  unfold execRisePeriod
  rw [if_neg (by rw [hd]; decide), hl, List.foldl_cons, List.foldl_nil]
  simp only [hn, if_true]

theorem State.cnpCut_shows (s : State) (q : Nat) : (s.cnpCut q).f .ETH_QP_RATE_RATE_NOW q
      = min (max (s.f .ETH_CC_CFG_RATE_MIN) (s.rateNow q * (256 - s.f .ETH_CC_CFG_CUT_NUM) / 256)) (s.f .ETH_QP_RATE_RATE_MAX q)
    ∧ ((s.cnpCut q).qp q).target = s.rateNow q ∧ ((s.cnpCut q).qp q).lastCut = some s.now
    ∧ (s.cnpCut q).f .ETH_QP_COUNT_CNP_RX q = satAdd 32 (s.f .ETH_QP_COUNT_CNP_RX q) 1 := by
  have hq : ∀ (u : State) v x, ((u.setQp q v).setF .ETH_QP_RATE_RATE_NOW q 0 x).qp q = v := fun u v x => u.qp_setQp q v
  have hf : ∀ (u : State) v x, ((u.setQp q v).setF .ETH_QP_RATE_RATE_NOW q 0 x).f .ETH_QP_COUNT_CNP_RX q = u.f .ETH_QP_COUNT_CNP_RX q :=
    fun u v x => State.f_setF_fid _ _ (by decide)
  unfold State.cnpCut
  refine ⟨State.f_setF_same .., ?_, ?_, ?_⟩
  · rw [hq]
  · rw [hq]
  · rw [hf, State.f_count_same]

theorem State.risen_shows (s : State) (q : Nat) : (s.risen q).f .ETH_QP_RATE_RATE_NOW q
      = min (s.f .ETH_QP_RATE_RATE_MAX q) ((s.rateNow q + (s.qp q).target) / 2) ∧ ((s.risen q).qp q).quiet = (s.qp q).quiet + 1 := by
  refine ⟨State.f_setF_same .., ?_⟩
  have hq : ∀ v x, ((s.setQp q v).setF .ETH_QP_RATE_RATE_NOW q 0 x).qp q = v := fun v x => s.qp_setQp q v
  unfold State.risen
  rw [hq]

theorem congestion_holds : congestion := by
  intro s q ha hs hc
  refine ⟨fun hl => ⟨_, execCnp_cuts ha hs hc hl, s.cnpCut_shows q⟩, fun c hl hn => ⟨_, execCnp_held ha hs hl hn, ?_, ?_⟩,
    fun hl hn hv hq => ⟨_, execRisePeriod_one ha hl hn, ?_, ?_, ?_⟩, ⟨_, if_neg ?_, ?_, ?_, ?_⟩⟩
  · exact State.f_count_fid _ (by decide)
  · rw [State.qp_setQp]
  · rw [State.rise_towards hs hc hv hq]
    exact (s.risen_shows q).1
  · rw [State.qp_setQp, State.rise_towards hs hc hv hq]
    exact (s.risen_shows q).2
  · rw [State.qp_setQp]
  · rw [hc, ha, hs]
    decide
  · exact State.f_setF_same ..
  · exact (congrArg Qp.target (s.qp_setQp q _) :)
  · exact (congrArg Qp.quiet (s.qp_setQp q _) :)

/-- Settles O52: each command of the transport runs its body once its checks pass, and congestion control moves the rate. -/
theorem transport : Obligations.Transport :=
  ⟨workRequestsStart_holds, packetsArrive_holds, writePacket_holds, responsesArrive_holds, congestion_holds⟩

end Sys2Proof.Machine
end

section
-- One proof after the other: many waiting at once would hold too much memory when the text is checked as one.
set_option Elab.async false
/-! Ingest streams and Sheaf (10 R407-R412, 11 R418-R441). -/

namespace Sys2Proof.Machine

variable {s t : State} {k : Nat}

/-! ### Rows of a stream (10 R408-R412) -/

theorem State.Leaves.setIng {P : List Part} {n : Nat} {v : Ing} (h : s.Leaves P t) (hp : Part.streams.inList P = true := by rfl) :
    s.Leaves P (t.setIng n v) :=
  h.upd .streams hp fun p hn => by
    cases p
    case streams => exact absurd rfl hn
    all_goals rfl

@[simp] theorem State.ing_setIng_same (s : State) (n : Nat) (v : Ing) : (s.setIng n v).ing n = v := NTbl.at_put_same ({} : Ing) s.eth.streams n v

/-- Where an access leaves the streams alone. -/
theorem State.Leaves.ing {P : List Part} (h : s.Leaves P t) (n : Nat) (hp : Part.streams.inList P = false := by rfl) : t.ing n = s.ing n :=
  congrArg (fun T : NTbl Ing => NTbl.at ({} : Ing) T n) (h .streams hp)

/-- A datagram's body, as its row runs it. -/
def ingestBody (k : Nat) (payload : Bytes) (s : State) : Res :=
  if !(s.dom 21).running ∨ s.f .PWR_STATUS_STOP = 1 ∨ s.scrubbing (s.plotOfStream k) then .next s
  else if s.f .ETH_ING_CFG_MODE k = 1 then .next (s.ingRow k ((s.ing k).accepted % 2 ^ 32) payload)
  else if payload.length < 8 then .next (s.count .ETH_ING_DROPS_BADLEN k 0 16 1)
  else .next (s.ingRow k (beAt payload 0 4) (payload.drop 8))

theorem execIngestDatagram_eq {port src : Nat} {payload : Bytes} (h : s.streamFor port src = some k) :
    exec (.ingestDatagram port src payload) s = parkIf (.ingestDatagram port src payload) (ParkKey.ingest k).no (ingestBody k payload) s := by
  change execIngestDatagram port src payload s = _
  unfold execIngestDatagram
  rw [h]
  rfl

theorem ingestBody_acts {payload : Bytes} (hd : (s.dom 21).running = true) (hp : s.f .PWR_STATUS_STOP = 0)
    (hs : s.scrubbing (s.plotOfStream k) = false) : ingestBody k payload s
      = if s.f .ETH_ING_CFG_MODE k = 1 then .next (s.ingRow k ((s.ing k).accepted % 2 ^ 32) payload)
        else if payload.length < 8 then .next (s.count .ETH_ING_DROPS_BADLEN k 0 16 1)
        else .next (s.ingRow k (beAt payload 0 4) (payload.drop 8)) := by
  refine if_neg ?_
  rw [hd, hp, hs]
  decide

section

variable {port src : Nat} {payload : Bytes}

theorem datagrams_come (hk : s.streamFor port src = some k) (hd : (s.dom 21).running = true) (hp : s.f .PWR_STATUS_STOP = 0)
    (hs : s.scrubbing (s.plotOfStream k) = false) :
    (s.f .ETH_ING_CFG_MODE k = 1 → s.comesTo (.ingestDatagram port src payload) (.ingest k)
        (s.arm.ingRow k ((s.ing k).accepted % 2 ^ 32) payload))
      ∧ (s.f .ETH_ING_CFG_MODE k = 0 → 8 ≤ payload.length → s.comesTo (.ingestDatagram port src payload) (.ingest k)
        (s.arm.ingRow k (beAt payload 0 4) (payload.drop 8)))
      ∧ (s.f .ETH_ING_CFG_MODE k = 0 → payload.length < 8 → s.comesTo (.ingestDatagram port src payload) (.ingest k)
        (s.arm.count .ETH_ING_DROPS_BADLEN k 0 16 1)) := by
  have hb := ingestBody_acts (s := s.arm) (payload := payload) hd hp hs
  have he := execIngestDatagram_eq (payload := payload) hk
  refine ⟨fun hm => ?_, fun hm hl => ?_, fun hm hl => ?_⟩
  · exact State.comesTo_of he (hb.trans (if_pos hm))
  · exact State.comesTo_of he (hb.trans ((if_neg (by rw [show s.arm.f .ETH_ING_CFG_MODE k = 0 from hm]; decide)).trans (if_neg (Nat.not_lt.mpr hl))))
  · exact State.comesTo_of he (hb.trans ((if_neg (by rw [show s.arm.f .ETH_ING_CFG_MODE k = 0 from hm]; decide)).trans (if_pos hl)))

theorem State.ingRow_badLen {n : Nat} (h : payload.length ≠ s.rowBytes k) : s.ingRow k n payload = s.count .ETH_ING_DROPS_BADLEN k 0 16 1 := if_pos h

theorem State.ingRow_dup {n : Nat} (h : payload.length = s.rowBytes k) (hj : (s.ing k).judge (n - n % s.ingRows k) (n % s.ingRows k) = .dup) :
    s.ingRow k n payload = s.count .ETH_ING_DROPS_DUP k 0 16 1 := by
  unfold State.ingRow
  rw [if_neg (not_not_intro h)]
  dsimp only
  rw [hj]

theorem State.ingRow_late {n : Nat} (h : payload.length = s.rowBytes k) (hj : (s.ing k).judge (n - n % s.ingRows k) (n % s.ingRows k) = .late) :
    s.ingRow k n payload = s.count .ETH_ING_DROPS_LATE k 0 16 1 := by
  unfold State.ingRow
  rw [if_neg (not_not_intro h)]
  dsimp only
  rw [hj]

/-- A row of a slot that it does not complete. -/
def State.rowPut (s : State) (k : Nat) (t : IngSlot) (r c : Nat) : State :=
  (s.setIng k { s.ing k with slots := (s.ing k).slots.map (fun x => if x.no = t.no then { t with rows := t.rows ++ [r], c1 := c } else x),
                             accepted := (s.ing k).accepted + 1 }).count .ETH_ING_ROWS_COUNT k 0 64 1

theorem State.rowPut_shows (s : State) (k : Nat) (t : IngSlot) (r c : Nat) : ((s.rowPut k t r c).ing k).accepted = (s.ing k).accepted + 1
    ∧ (s.rowPut k t r c).f .ETH_ING_ROWS_COUNT k = satAdd 64 (s.f .ETH_ING_ROWS_COUNT k) 1
    ∧ (s.rowPut k t r c).f .ETH_ING_STATUS_TAIL k = s.f .ETH_ING_STATUS_TAIL k
    ∧ (s.rowPut k t r c).ingRows k = s.ingRows k := by
  have hi : ∀ (u : State) v, ((u.setIng k v).count .ETH_ING_ROWS_COUNT k 0 64 1).ing k = v := fun u v => u.ing_setIng_same k v
  have hr : ∀ (u : State) v f, f ≠ .ETH_ING_ROWS_COUNT → ((u.setIng k v).count .ETH_ING_ROWS_COUNT k 0 64 1).f f k = u.f f k :=
    fun u v f hf => State.f_count_fid _ hf
  unfold State.rowPut
  refine ⟨?_, State.f_count_same .., hr _ _ _ (by decide), ?_⟩
  · rw [hi]
  · unfold State.ingRows
    rw [hr _ _ _ (by decide)]

theorem State.rowIn_eq (s : State) (k : Nat) (t : IngSlot) (r : Nat) (row : Bytes) :
    s.rowIn k t r row = (let u := (s.wr (s.ingSrc k) (s.rowAddr k t.no r) row).2.2.rowPut k t r s.ethCycles
      if (t.rows ++ [r]).length = u.ingRows k then u.slotClose k { t with rows := t.rows ++ [r], c1 := s.ethCycles } 0 else u) := rfl

theorem State.rowIn_open {t : IngSlot} {r : Nat} (h : t.rows.length + 1 ≠ s.ingRows k) :
    ((s.rowIn k t r payload).ing k).accepted = (s.ing k).accepted + 1
      ∧ (s.rowIn k t r payload).f .ETH_ING_ROWS_COUNT k = satAdd 64 (s.f .ETH_ING_ROWS_COUNT k) 1
      ∧ (s.rowIn k t r payload).f .ETH_ING_STATUS_TAIL k = s.f .ETH_ING_STATUS_TAIL k := by
  have hw : s.Leaves accessParts (s.wr (s.ingSrc k) (s.rowAddr k t.no r) payload).2.2 := (State.Leaves.refl s).wr
  generalize hu : (s.wr (s.ingSrc k) (s.rowAddr k t.no r) payload).2.2 = u at hw
  obtain ⟨h1, h2, h3, h4⟩ := u.rowPut_shows k t r s.ethCycles
  have hr : u.ingRows k = s.ingRows k := by
    unfold State.ingRows
    rw [hw.f .ETH_ING_CFG_LOG2_ROWS]
  have he : s.rowIn k t r payload = u.rowPut k t r s.ethCycles := by
    rw [State.rowIn_eq, hu]
    dsimp only
    rw [h4, hr, List.length_append, List.length_singleton]
    exact if_neg h
  rw [he, h1, h2, h3, hw.ing, hw.f .ETH_ING_ROWS_COUNT, hw.f .ETH_ING_STATUS_TAIL]
  exact ⟨rfl, rfl, rfl⟩

end

/-! ### Slots that close -/

/-- SLOT_TIMEOUT's body, as its row runs it. -/
def slotTimeoutBody (k : Nat) (s : State) : Res :=
  match (s.ing k).slots with
  | t :: _ => .next (if s.f .ETH_ING_ROWCFG_SLOT_US k = 0 then s else s.slotClose k t 2)
  | [] => .next s

theorem slotTimeoutBody_closes {t : IngSlot} {l : List IngSlot} (h : (s.ing k).slots = t :: l) (hu : s.f .ETH_ING_ROWCFG_SLOT_US k ≠ 0) :
    slotTimeoutBody k s = .next (s.slotClose k t 2) := by
  unfold slotTimeoutBody
  rw [h]
  dsimp only
  rw [if_neg hu]

theorem execSlotTimeout_comesTo {t : IngSlot} {l : List IngSlot} (h : (s.ing k).slots = t :: l) (hu : s.f .ETH_ING_ROWCFG_SLOT_US k ≠ 0) :
    s.comesTo (.slotTimeout k) (.ingest k) (s.arm.slotClose k t 2) :=
  State.comesTo_of (f := slotTimeoutBody k) rfl (slotTimeoutBody_closes (s := s.arm) h hu)

/-- The bytes that fill a slot's missing rows. -/
def State.slotFilled (s : State) (k : Nat) (t : IngSlot) : State :=
  let fill := s.f .ETH_ING_CFG_FILL k
  let missing := (List.range (s.ingRows k)).filter (fun r => !t.rows.contains r)
  if fill = 1 then s
  else missing.foldl (fun s r =>
    (s.wr (s.ingSrc k) (s.rowAddr k t.no r) (List.replicate (s.rowBytes k) (if fill = 0 then 0 else 0xFF))).2.2) s

theorem State.slotFilled_leaves (s : State) (k : Nat) (t : IngSlot) : s.Leaves accessParts (s.slotFilled k t) := by
  unfold State.slotFilled
  exact .ite (.refl s) (.foldl (.refl s) fun _ _ h => h.wr)

/-- The slot leaves the stream, and the next of the ring comes. -/
def State.slotGone (s : State) (k no : Nat) : State :=
  (s.setIng k { s.ing k with slots := (s.ing k).slots.filter (fun x => x.no != no) }).setF .ETH_ING_STATUS_TAIL k 0
    ((s.f .ETH_ING_STATUS_TAIL k + 1) % 2 ^ 32)

/-- A slot's record. -/
def State.slotRecord (s : State) (k : Nat) (t : IngSlot) (c : Nat) : Bytes :=
  let missing := (List.range (s.ingRows k)).filter (fun r => !t.rows.contains r)
  let phase := if t.no / s.ingSlots k % 2 = 0 then 128 else 0
  leBytes 4 t.first ++ leBytes 4 t.rows.length ++ leBytes 4 missing.length ++ leBytes 1 c
    ++ leBytes 1 phase ++ leBytes 2 0 ++ leBytes 8 t.c0 ++ leBytes 8 t.c1

/-- A slot filled and recorded. -/
def State.slotWritten (s : State) (k : Nat) (t : IngSlot) (c : Nat) : State :=
  ((s.slotFilled k t).wr (s.ingSrc k) (s.f .ETH_ING_REC_BASE_BASE k * 4096 + t.no % s.ingSlots k * 32) (s.slotRecord k t c)).2.2

theorem State.slotClose_eq (s : State) (k : Nat) (t : IngSlot) (c : Nat) : s.slotClose k t c
    = ((s.slotWritten k t c).slotGone k t.no).signalTally
      (tallyNo (s.plotOfStream k) (((s.slotWritten k t c).slotGone k t.no).f .ETH_ING_CFG_TALLY k)) 1 := rfl

/-- A slot that closes moves TAIL on and is no longer open (10 R411, R412). -/
theorem State.slotClose_shows (s : State) (k : Nat) (t : IngSlot) (c : Nat) :
    (s.slotClose k t c).f .ETH_ING_STATUS_TAIL k = (s.f .ETH_ING_STATUS_TAIL k + 1) % 2 ^ 32
      ∧ ∀ x, x ∈ ((s.slotClose k t c).ing k).slots → x.no ≠ t.no := by
  have hw : s.Leaves accessParts (s.slotWritten k t c) := (s.slotFilled_leaves k t).wr
  rw [State.slotClose_eq]
  generalize s.slotWritten k t c = u at hw
  generalize tallyNo (s.plotOfStream k) ((u.slotGone k t.no).f .ETH_ING_CFG_TALLY k) = n
  have hs : (u.slotGone k t.no).Leaves tallyParts ((u.slotGone k t.no).signalTally n 1) := (State.Leaves.refl _).signalTally
  have hi : (u.slotGone k t.no).ing k = { u.ing k with slots := (u.ing k).slots.filter (fun x => x.no != t.no) } :=
    u.ing_setIng_same k _
  rw [hs.f .ETH_ING_STATUS_TAIL, hs.ing, hi]
  refine ⟨?_, fun x hx hn => ?_⟩
  · unfold State.slotGone
    rw [State.f_setF_same, hw.f .ETH_ING_STATUS_TAIL]
  · have hm := (List.mem_filter.mp hx).2
    rw [hn, bne_self_eq_false] at hm
    exact Bool.noConfusion hm

/-! ### Streams enabled and disabled (10 R407, R411) -/

/-- The fields of ETH_ING_CFG that a write puts in place. -/
def ingParts : List Part := ingFields.map (fun x => Part.fld x.1)

/-- A stream with the configuration that a write carries. -/
def State.ingPut (s : State) (k w : Nat) : State := ingFields.foldl (fun s x => s.setF x.1 k 0 (bits w x.2.1 x.2.2)) s

theorem State.ingPut_leaves (s : State) (k w : Nat) : s.Leaves ingParts (s.ingPut k w) :=
  List.foldlRecOn _ _ (.refl s) fun t h x hx => h.setF (by
    revert x
    decide +kernel)

theorem State.ingPut_port (s : State) (k w : Nat) : (s.ingPut k w).f .ETH_ING_CFG_UDP_PORT k = bits w 63 48 := by
  unfold State.ingPut ingFields
  simp only [List.foldl_cons, List.foldl_nil]
  repeat rw [State.f_setF_fid _ _ (by decide)]
  exact s.f_setF_same ..

/-- An enabled stream starts empty. -/
def State.ingStarted (s : State) (k : Nat) : State :=
  ((((s.setF .ETH_ING_HEAD_HEAD k 0 0).setF .ETH_ING_STATUS_TAIL k 0 0).setF .ETH_ING_STATUS_OPENED k 0 0).setIng k {}).setF .ETH_ING_CFG_ENABLE k 0 1

theorem State.ingStarted_shows (s : State) (k : Nat) : (s.ingStarted k).f .ETH_ING_CFG_ENABLE k = 1 ∧ (s.ingStarted k).f .ETH_ING_HEAD_HEAD k = 0
    ∧ (s.ingStarted k).f .ETH_ING_STATUS_TAIL k = 0 ∧ (s.ingStarted k).f .ETH_ING_STATUS_OPENED k = 0 ∧ (s.ingStarted k).ing k = {}
    ∧ (s.ingStarted k).f .ETH_ING_CFG_UDP_PORT k = s.f .ETH_ING_CFG_UDP_PORT k := by
  have hf : ∀ (u : State) v f, f ≠ .ETH_ING_CFG_ENABLE → ((u.setIng k v).setF .ETH_ING_CFG_ENABLE k 0 1).f f k = u.f f k :=
    fun u v f hf => State.f_setF_fid _ _ hf
  have hi : ∀ (u : State) v, ((u.setIng k v).setF .ETH_ING_CFG_ENABLE k 0 1).ing k = v := fun u v => u.ing_setIng_same k v
  unfold State.ingStarted
  refine ⟨State.f_setF_same .., ?_, ?_, ?_, hi .., ?_⟩
  · rw [hf _ _ _ (by decide), State.f_setF_fid _ _ (by decide), State.f_setF_fid _ _ (by decide), State.f_setF_same]
  · rw [hf _ _ _ (by decide), State.f_setF_fid _ _ (by decide), State.f_setF_same]
  · rw [hf _ _ _ (by decide), State.f_setF_same]
  · rw [hf _ _ _ (by decide), State.f_setF_fid _ _ (by decide), State.f_setF_fid _ _ (by decide), State.f_setF_fid _ _ (by decide)]

theorem State.ingCfg_enables {w : Nat} (he : s.f .ETH_ING_CFG_ENABLE k = 0) (hb : bit w 0 = true)
    (h1 : (s.ingPut k w).ringOk (s.plotOfStream k) (s.f .ETH_ING_SLOT_BASE_BASE k * 4096) ((s.ingPut k w).ingSlots k * (s.ingPut k w).ingStride k) true = true)
    (h2 : (s.ingPut k w).ringOk (s.plotOfStream k) (s.f .ETH_ING_REC_BASE_BASE k * 4096) ((s.ingPut k w).ingSlots k * 32) true = true)
    (h3 : (s.ingPut k w).portTaken k (bits w 63 48) = false) : s.ingCfg k w = (hOk, (s.ingPut k w).ingStarted k) := by
  have hl := s.ingPut_leaves k w
  have hp : (s.ingPut k w).plotOfStream k = s.plotOfStream k := by
    unfold State.plotOfStream State.findPlot State.plot
    rw [hl.sec]
  have hi : (s.ingPut k w).ingEnable k = (hOk, (s.ingPut k w).ingStarted k) := by
    unfold State.ingEnable
    dsimp only
    rw [hp, hl.f .ETH_ING_SLOT_BASE_BASE, hl.f .ETH_ING_REC_BASE_BASE, h1, h2, State.ingPut_port, h3, if_neg (by decide),
      if_neg Bool.false_ne_true]
    rfl
  change (if s.f .ETH_ING_CFG_ENABLE k = 1 then _ else if bit w 0 then
      (match (s.ingPut k w).ingEnable k with
        | (st, s2) => (st, if st = hOk then s2 else s)) else (hOk, s.ingPut k w)) = _
  rw [if_neg (by rw [he]; decide), if_pos hb, hi]
  rfl

theorem State.ingCfg_disables {w : Nat} (he : s.f .ETH_ING_CFG_ENABLE k = 1) (hb : bit w 0 = false)
    (hs : ingFields.all (fun x => s.f x.1 k == bits w x.2.1 x.2.2) = true) : s.ingCfg k w = (hOk, s.ingDisable k) := by
  unfold State.ingCfg
  dsimp only
  rw [if_pos he, hs, if_neg (by decide), hb, if_neg Bool.false_ne_true]

theorem ingestRows_holds : ingestRows := by
  intro s m k port src payload v
  refine ⟨fun hk hd hp hs => datagrams_come hk hd hp hs, fun n h => State.ingRow_badLen h, fun n h hj => State.ingRow_dup h hj,
    fun n h hj => State.ingRow_late h hj, fun t r h => State.rowIn_open h, fun t l h hu => execSlotTimeout_comesTo h hu,
    s.slotClose_shows k, fun he h1 h2 h3 => ?_, fun he hs => ?_⟩
  · obtain ⟨a1, a2, a3, a4, a5, a6⟩ := (s.ingPut k (setBit v.toNat 0 true)).ingStarted_shows k
    exact ⟨_, writeGives_of (fun _ => rfl) ((State.blockWrite_write3 (by decide)).trans (State.ingCfg_enables he (bit_setBit ..) h1 h2 h3)),
      a1, a2, a3, a4, a5, a6.trans (s.ingPut_port k _)⟩
  · exact writeWaits_of (word_setBit v false (by decide)) (fun _ => rfl)
      ((State.blockWrite_write3 (by decide)).trans (State.ingCfg_disables he (bit_setBit_false _ _) hs))

/-! ### Runs that fail and runs that end (11 R430, R431, R436) -/

/-- Where an operation leaves the contexts alone. -/
theorem State.Leaves.shc {P : List Part} (h : s.Leaves P t) (n : Nat) (hp : Part.sheaf.inList P = false := by rfl) : t.shc n = s.shc n :=
  congrArg (fun T : NTbl ShCtx => NTbl.at ({} : ShCtx) T n) (h .sheaf hp)

/-- A run marked as failed, before its neighbours are told. -/
def State.shFailed (s : State) (x st peer : Nat) (r : ShRun) : State :=
  (s.setRun x { r with fail := some (st, peer) }).setF .SHEAF_CTX_STATUS_STATE x 0 2

theorem State.shFailed_shows (s : State) (x st peer : Nat) (r : ShRun) : (s.shFailed x st peer r).shState x = 2
    ∧ ((s.shFailed x st peer r).shc x).run = some { r with fail := some (st, peer) } := by
  have hr : ∀ (r : ShRun), ((s.setRun x r).setF .SHEAF_CTX_STATUS_STATE x 0 2).shc x = { s.shc x with run := some r } := fun r => s.shc_setShc x _
  unfold State.shFailed
  refine ⟨State.f_setF_same .., ?_⟩
  rw [hr]

theorem State.shFail_eq {x st peer : Nat} {but : Option Nat} {r : ShRun} (h : (s.shc x).run = some r) (hf : r.fail = none) :
    ∃ l : List Nat, s.shFail x st peer but = l.foldl (fun s i => s.shNote x i 3 st) (s.shFailed x st peer r) := by
  unfold State.shFail
  rw [h]
  dsimp only
  rw [hf]
  exact ⟨_, rfl⟩

/-- A run that fails is ABORTING. -/
theorem State.shFail_shows {x st peer : Nat} {r : ShRun} (h : (s.shc x).run = some r) (hf : r.fail = none) :
    (s.shFail x st peer).shState x = 2 ∧ ((s.shFail x st peer).shc x).run = some { r with fail := some (st, peer) } := by
  obtain ⟨l, he⟩ := State.shFail_eq (st := st) (peer := peer) (but := none) h hf
  have hl : (s.shFailed x st peer r).Leaves packetParts (l.foldl (fun s i => s.shNote x i 3 st) (s.shFailed x st peer r)) :=
    .foldl (.refl _) fun _ _ h => h.shNote
  obtain ⟨h1, h2⟩ := s.shFailed_shows x st peer r
  rw [he, hl.shc, State.shState, hl.f .SHEAF_CTX_STATUS_STATE]
  exact ⟨h1, h2⟩

/-- A run's record is written, and its context is IDLE. -/
def State.shIdle (s : State) (x st : Nat) : State := (s.sheafIdle x).setF .SHEAF_CTX_STATUS_LAST_STATUS x 0 st

theorem State.shIdle_shows (s : State) (x st : Nat) : (s.shIdle x st).shState x = 0 ∧ (s.shIdle x st).f .SHEAF_CTX_STATUS_LAST_STATUS x = st
    ∧ ((s.shIdle x st).shc x).run = none := by
  unfold State.shIdle State.sheafIdle
  dsimp only
  refine ⟨?_, State.f_setF_same .., ?_⟩
  · rw [State.shState, State.f_setF_fid _ _ (by decide), State.f_setF_fid _ _ (by decide), State.f_setF_fid _ _ (by decide), State.f_setF_same]
  · exact (congrArg ShCtx.run (s.shc_setShc x { s.shc x with run := none }) :)

/-- What a run's end reports. -/
def State.shReport (s : State) (x tly st peer : Nat) : State :=
  let t := s.signalTally tly 1
  if st = 0 then t else (t.flag .SHEAF_ERR_STATUS_FAIL).raise 0x6820 sevDeferred 10 x [x, st, peer] (t.shScope x)

theorem State.shReport_leaves (s : State) (x tly st peer : Nat) :
    s.Leaves (.fld .SHEAF_ERR_STATUS_FAIL :: tallyParts) (s.shReport x tly st peer) := by
  have h : s.Leaves (.fld .SHEAF_ERR_STATUS_FAIL :: tallyParts) (s.signalTally tly 1) := (State.Leaves.refl s).signalTally
  unfold State.shReport
  exact .ite h (.raise h.flag (by decide +kernel))

/-- The run's record written. -/
def State.shRecorded (s : State) (x : Nat) (r : ShRun) (st peer : Nat) : State :=
  (s.wr (s.shSrc x) (s.f .SHEAF_CTX_CMPL_ADDR x * 32) (leBytes 1 st ++ leBytes 1 (s.f .SHEAF_CTX_STATUS_PHASE x)
    ++ leBytes 1 (s.f .SHEAF_CTX_STATUS_EPOCH x) ++ leBytes 1 x ++ leBytes 4 (s.f .SHEAF_CTX_STATUS_SEGS_DONE x) ++ leBytes 4 peer
    ++ leBytes 4 r.total ++ leBytes 8 ((s.dom 21).cycles - r.cyc) ++ leBytes 8 0)).2.2

theorem State.shFinish_eq (s : State) (x : Nat) (r : ShRun) (st peer : Nat) : s.shFinish x r st peer
    = ((s.shRecorded x r st peer).shIdle x st).shReport x
      (tallyNo ((s.shRecorded x r st peer).shPlot x) ((s.shRecorded x r st peer).f .SHEAF_CTX_CMPL_TALLY x)) st peer := rfl

/-- The end of a run leaves its context IDLE with its status. -/
theorem State.shFinish_shows (s : State) (x : Nat) (r : ShRun) (st peer : Nat) : (s.shFinish x r st peer).shState x = 0
    ∧ (s.shFinish x r st peer).f .SHEAF_CTX_STATUS_LAST_STATUS x = st ∧ ((s.shFinish x r st peer).shc x).run = none := by
  rw [State.shFinish_eq]
  generalize s.shRecorded x r st peer = u
  generalize tallyNo (u.shPlot x) (u.f .SHEAF_CTX_CMPL_TALLY x) = n
  have hl := (u.shIdle x st).shReport_leaves x n st peer
  rw [hl.shc, hl.f .SHEAF_CTX_STATUS_LAST_STATUS, State.shState, hl.f .SHEAF_CTX_STATUS_STATE]
  exact u.shIdle_shows x st

/-! ### Neighbours, START and CANCEL (11 R419, R427, R436) -/

section

variable {m : Master} {x i q : Nat} {v : Word}

/-- A neighbour entry whose queue pair is bound nowhere changes when it is bound. -/
theorem State.nbrChanges {w : Nat} (hx : x < 16) (hi : i < 9) (hv : bits w 24 24 = 1) (hb : s.boundTo (bits w 12 0) = none) :
    s.anyChange .SHEAF_CTX_NBR_QP x i w = true := by
  by_contra hn
  have hk : ∀ f : FieldRow, f ∈ (regRow .SHEAF_CTX_NBR_QP).fields → f.rep = 1 → (f.accAt x == .rw) = true →
      s.f f.fid x i = f.get w 0 := fun f hf hr ha => by
    by_contra hne
    refine hn (List.any_eq_true.mpr ⟨f, hf, ?_⟩)
    have he : (f.elems w).any (s.changes (regRow .SHEAF_CTX_NBR_QP) f x i) = true := by
      refine List.any_eq_true.mpr ⟨(0, f.get w 0), ?_, ?_⟩
      · unfold FieldRow.elems
        rw [hr]
        exact List.mem_singleton_self _
      · unfold State.changes FieldRow.key
        rw [hr]
        exact bne_iff_ne.mpr (Ne.symm hne)
    rw [ha, he]
    rfl
  have h1 := hk { fid := .SHEAF_CTX_NBR_QP_VALID, hi := 24, lo := 24, acc := .rw } (by decide) rfl (by rfl)
  have h2 := hk { fid := .SHEAF_CTX_NBR_QP_QP, hi := 12, lo := 0, acc := .rw } (by decide) rfl (by rfl)
  have h3 : (List.range 9).find? (fun i => s.f .SHEAF_CTX_NBR_QP_VALID x i == 1 && s.f .SHEAF_CTX_NBR_QP_QP x i == bits w 12 0) = none := by
    have h := List.findSome?_eq_none_iff.mp hb x (List.mem_range.mpr hx)
    exact Option.map_eq_none_iff.mp h
  refine List.find?_eq_none.mp h3 i (List.mem_range.mpr hi) ((Bool.and_eq_true ..).mpr ⟨beq_iff_eq.mpr ?_, beq_iff_eq.mpr ?_⟩)
  · exact h1.trans hv
  · exact h2

theorem State.shNbrQp_binds {w : Nat} (hv : bit w 24 = true) (hs : s.shState x = 0) (hb : s.boundTo (bits w 12 0) = none)
    (hp : s.plotOfQp (bits w 12 0) = s.shPlot x) : s.shNbrQp x i w = (hOk,
      ((s.setF .SHEAF_CTX_NBR_QP_RKEY x i (bits w 63 32)).setF .SHEAF_CTX_NBR_QP_VALID x i (bits w 24 24)).setF
         .SHEAF_CTX_NBR_QP_QP x i (bits w 12 0)) := by
  unfold State.shNbrQp
  dsimp only
  rw [if_neg (not_not_intro hs), hb, if_neg, hv, if_pos rfl]
  rintro ⟨-, h | h⟩
  · exact Bool.noConfusion h
  · exact h hp

theorem neighbourBind_gives (hs : s.shState x = 0) (hb : s.boundTo (bits (setBit v.toNat 24 true) 12 0) = none)
    (hp : s.plotOfQp (bits (setBit v.toNat 24 true) 12 0) = s.shPlot x) : let w := setBit v.toNat 24 true
    writeGives (.neighbourBind m x i v) m .SHEAF_CTX_NBR_QP x i w s
       (((s.setF .SHEAF_CTX_NBR_QP_RKEY x i (bits w 63 32)).setF .SHEAF_CTX_NBR_QP_VALID x i (bits w 24 24)).setF
         .SHEAF_CTX_NBR_QP_QP x i (bits w 12 0)) := by
  intro w s0 off q hsend hl
  obtain ⟨-, hx, hi⟩ := State.lets_off hl
  have hc : s.anyChange .SHEAF_CTX_NBR_QP x i w = true := State.nbrChanges hx hi (bits_setBit ..) hb
  have h : s.blockWrite m .SHEAF_CTX_NBR_QP x i w = (hOk, _) :=
    (State.blockWrite_write3 (by decide)).trans ((if_pos hc).trans (State.shNbrQp_binds (bit_setBit ..) hs hb hp))
  exact congrArg Host.Outcome.next (State.regSend_lets hsend hl ((State.regApply_of_lets hl).trans h))

theorem State.shCtl_starts {w : Nat} (hb : bit w 0 = true) (hs : s.shState x = 0) (ho : s.shStartOk x = true) :
    s.shCtl x w = (hOk, s.shBegin x (bits w 7 4)) := by
  unfold State.shCtl State.shStart
  rw [if_pos hb, if_neg (not_not_intro hs), ho]
  rfl

theorem State.shStart_refused {e : Nat} (hs : s.shState x = 0) (ho : s.shStartOk x = false) :
    s.shStart x e = (hBadArg, s.setF .SHEAF_CTX_STATUS_LAST_STATUS x 0 8) := by
  unfold State.shStart
  rw [if_neg (not_not_intro hs), ho]
  rfl

theorem State.shCtl_cancels {w : Nat} (h0 : bit w 0 = false) (h1 : bit w 1 = true) (hs : s.shState x = 1) :
    s.shCtl x w = (hOk, (s.shFail x 6 0).shCheck x) := by
  unfold State.shCtl
  rw [h0, if_neg Bool.false_ne_true, if_pos ⟨h1, hs⟩]

/-! ### Messages and deadlines -/

theorem shMessage_arrives {imm : BitVec 32} {kind : Nat} (hk : bits imm.toNat 31 28 = kind) (ha : s.qpActs q = true)
    (hb : (s.boundTo q).isSome = true) : s.shMessage kind q imm = (s.sheafArrive q imm.toNat).sheafSettle := if_pos ⟨hk, ha, hb⟩

/-- The rows of Sheaf's messages, by kind. -/
theorem messages_come {imm : BitVec 32} (kind : Nat) (row : Nat → BitVec 32 → Instr)
    (hr : (kind, row) ∈ ([(0, .sheafData), (1, .ready), (2, .lag), (3, .abort)] : List (Nat × (Nat → BitVec 32 → Instr))))
    (hk : bits imm.toNat 31 28 = kind) (ha : s.qpActs q = true) (hb : (s.boundTo q).isSome = true) :
    s.comesTo (row q imm) (.qp q) (s.arm.sheafArrive q imm.toNat).sheafSettle := by
  have hm : (.next (s.arm.shMessage kind q imm) : Res) = .next (s.arm.sheafArrive q imm.toNat).sheafSettle :=
    congrArg _ (shMessage_arrives (s := s.arm) hk ha hb)
  simp only [List.mem_cons, Prod.mk.injEq, List.not_mem_nil, or_false] at hr
  obtain ⟨rfl, rfl⟩ | ⟨rfl, rfl⟩ | ⟨rfl, rfl⟩ | ⟨rfl, rfl⟩ := hr
  · exact State.comesTo_of (f := fun s => .next (s.shMessage 0 q imm)) rfl hm
  · exact State.comesTo_of (f := fun s => .next (s.shMessage 1 q imm)) rfl hm
  · exact State.comesTo_of (f := fun s => .next (s.shMessage 2 q imm)) rfl hm
  · exact State.comesTo_of (f := fun s => .next (s.shMessage 3 q imm)) rfl hm

theorem State.sheafArrive_stray {n : Nat} (hb : s.boundTo q = some (x, i)) (hn : bits n 31 28 ≠ 1) (hs : s.shState x = 0) :
    s.sheafArrive q n = s.count .SHEAF_STRAY_COUNT 0 0 32 1 := by
  unfold State.sheafArrive
  rw [hb]
  dsimp only
  by_cases h3 : 3 < bits n 31 28
  · rw [if_pos h3]
    rfl
  · rw [if_neg h3, if_neg hn, if_pos (Or.inl hs)]
    rfl

theorem State.sheafArrive_abort {n : Nat} (hb : s.boundTo q = some (x, i)) (hn : bits n 31 28 = 3) (hs : s.shState x = 1)
    (he : bits n 23 20 = s.f .SHEAF_CTX_STATUS_EPOCH x) : s.sheafArrive q n = s.shFail x 1 (s.shRank x i) (some i) := by
  unfold State.sheafArrive
  rw [hb]
  dsimp only
  rw [hn, if_neg (by decide), if_neg (by decide), if_neg, hs, if_neg (by decide), if_neg (by decide), if_neg (by decide)]
  rintro (h | h)
  · exact absurd (hs.symm.trans h) (by decide)
  · exact h he

/-- PROGRESS_DEADLINE's body, as its row runs it. -/
def deadlineBody (x : Nat) (s : State) : Res :=
  match (s.shc x).run with
  | none => .next s
  | some r => if s.shState x ≠ 1 then .next s
    else .next ((s.shFail x 2 (s.shRank x (s.shLongest x r))).shCheck x)

theorem deadlineBody_fails {r : ShRun} (h : (s.shc x).run = some r) (hs : s.shState x = 1) :
    deadlineBody x s = .next ((s.shFail x 2 (s.shRank x (s.shLongest x r))).shCheck x) := by
  unfold deadlineBody
  rw [h]
  dsimp only
  rw [if_neg (not_not_intro hs)]

theorem progressDeadline_comesTo {r : ShRun} (h : (s.shc x).run = some r) (hs : s.shState x = 1) :
    s.comesTo (.progressDeadline x) (.sheaf x) ((s.arm.shFail x 2 (s.shRank x (s.shLongest x r))).shCheck x) :=
  State.comesTo_of (f := deadlineBody x) rfl (deadlineBody_fails (s := s.arm) h hs)

theorem lagRepeat_comesTo (h : s.halfHeld = true) : s.comesTo (.lagRepeat x) (.sheaf x) (s.arm.shLagAll x).sheafSettle :=
  State.comesTo_of (f := fun s => .next (if s.halfHeld then (s.shLagAll x).sheafSettle else s)) rfl (congrArg _ (if_pos h))

theorem State.shData_outOfOrder {r : ShRun} {arg : Nat} (h : (s.shc x).run = some r) (ha : arg ≠ r.rxOf i % 2 ^ 20) :
    s.shData x i arg = s.shFail x 7 (s.shRank x i) := by
  unfold State.shData
  rw [h]
  exact if_pos (Or.inl ha)

theorem sheafRows_holds : sheafRows := by
  intro s m x i q v imm
  refine ⟨fun hs hb hp => ?_, fun hs ho => ?_, fun e hs ho => State.shStart_refused hs ho, fun hs => ?_, messages_come,
    fun n hb hn hs => State.sheafArrive_stray hb hn hs, fun n hb hn hs he => State.sheafArrive_abort hb hn hs he,
    fun r h hs => progressDeadline_comesTo h hs, lagRepeat_comesTo, fun r st peer h hf => State.shFail_shows h hf,
    fun r st peer => s.shFinish_shows x r st peer, fun r arg h _ ha => State.shData_outOfOrder h ha⟩
  · exact neighbourBind_gives hs hb hp
  · exact writeWaits_of (word_setBit v true (by decide)) (fun _ => rfl)
      ((State.blockWrite_write3 (by decide)).trans (State.shCtl_starts (bit_setBit ..) hs ho))
  · refine writeWaits_of (setBit_lt false (word_setBit v true (by decide)) (by decide)) (fun _ => rfl)
      ((State.blockWrite_write3 (by decide)).trans (State.shCtl_cancels (bit_setBit_false _ _) ?_ hs))
    exact beq_iff_eq.mpr ((bits_setBit_ne (hi := 1) false (Or.inr (by decide))).trans (bits_setBit ..))

/-- Settles O53: rows go to their stream and slots close, and Sheaf's messages and deadlines reach their context. -/
theorem streamsAndSheaf : Obligations.StreamsAndSheaf := ⟨ingestRows_holds, sheafRows_holds⟩

end

end Sys2Proof.Machine
end

section
-- One proof after the other: many waiting at once would hold too much memory when the text is checked as one.
set_option Elab.async false
/-! The commands that a session sends: what a reply does, accesses, firmware, training, plots, reports and debug (12 R443-R460, 13,
14 R527-R533, 16 R593). -/

namespace Sys2Proof.Machine

variable {s t s1 : State} {n : Nat} {b : Bytes}

/-! ### Replies (12 R443-R446, R451) -/

/-- A session once the command at NEXT has its reply. -/
def Session.replied (x : Session) (r : HReply) : Session :=
  let kept := x.retained ++ [(x.next, r)]
  { x with next := x.next + 1, window := NTbl.put none x.window x.next none, polling := none, retained := kept.drop (kept.length - 8) }

theorem State.hlReply_of_open {c : HCmd} {st : Nat} (ho : (s.sess n).isOpen = true) (hn : (s.sess n).next < 0xFFFFFFFF) :
    s.hlReply n c st b = (s.setSess n ((s.sess n).replied (mkReply n (s.sess n).next c st b))).hlSend (mkReply n (s.sess n).next c st b) := by
  unfold State.hlReply
  dsimp only
  rw [if_neg (by rw [ho]; exact Bool.false_ne_true), if_neg (Nat.ne_of_lt hn)]
  rfl

theorem State.Leaves.hlEmit {P : List Part} {o : TxHdr → Out} (h : s.Leaves P t) (hp : subParts frameParts P = true := by decide +kernel) :
    s.Leaves P (t.hlEmit o) := by
  unfold State.hlEmit
  exact .ite (h.tx hp) h

theorem State.hlUp_ethUp (h : s.hlUp = true) : s.ethUp = true := ((Bool.and_eq_true _ _).mp h).2

/-- A strict frame that stands alone and whose priority is not paused leaves at once. -/
theorem State.out_txStrict (hu : s.ethUp = true) (hq : s.eth.txq = []) (hp : s.paused (s.f .ETH_CFG_HL_PRIO) = none) (o : Out) :
    (s.txStrict o).out = s.out ++ [o] := by
  have hm : s.txMay { h := s.hlHdr, strict := true, out := o } = true := by
    have hz : (s.paused (s.f .ETH_CFG_HL_PRIO)).isNone = true := by
      rw [hp]
      rfl
    unfold State.txMay
    exact (Bool.and_eq_true _ _).mpr ⟨hz, rfl⟩
  unfold State.txStrict
  rw [State.tx_alone hu hq hm]
  rfl

theorem State.out_hlEmit (hu : s.hlUp = true) (hq : s.eth.txq = []) (hp : s.paused (s.f .ETH_CFG_HL_PRIO) = none) (o : TxHdr → Out) :
    (s.hlEmit o).out = s.out ++ [o s.hlHdr] := by
  unfold State.hlEmit
  rw [if_pos hu]
  exact State.out_txStrict (State.hlUp_ethUp hu) hq hp _

theorem State.sess_hlSend (s : State) (r : HReply) (k : Nat) : (s.hlSend r).sess k = s.sess k := by
  have hl : s.Leaves frameParts (s.hlSend r) := (State.Leaves.refl s).hlEmit
  exact congrArg (fun h : Hl => NTbl.at ({} : Session) h.sessions k) hl.hl

theorem State.sess_setSess_ne {k : Nat} {v : Session} (h : k ≠ n) : (s.setSess n v).sess k = s.sess k := NTbl.at_put_ne _ _ _ h

theorem State.out_hlSend {r : HReply} (hr : r.session < 16) (hu : s.hlUp = true) (hq : s.eth.txq = [])
    (hp : s.paused (s.f .ETH_CFG_HL_PRIO) = none) :
    (s.hlSend r).out = s.out ++ [.reply s.hlHdr r (r.datagrams (some (s.sess r.session).key))] := by
  unfold State.hlSend
  rw [State.out_hlEmit hu hq hp]
  unfold State.replyOut
  rw [if_neg (by omega)]

theorem repliesLeave_holds : repliesLeave := by
  intro s n st c b hn ho hx t r
  have ht : t = (s.setSess n ((s.sess n).replied r)).hlSend r := State.hlReply_of_open ho hx
  have hl : (s.setSess n ((s.sess n).replied r)).Leaves frameParts t := ht ▸ (State.Leaves.refl _).hlEmit
  have hs : t.sess n = (s.sess n).replied r := by rw [ht, State.sess_hlSend, State.sess_setSess]
  refine ⟨congrArg Session.next hs, ?_, congrArg Session.polling hs, fun hu hq hp => ?_, hl.mem, hl.units, fun k hk => ?_⟩
  · rw [hs]
    exact NTbl.at_put_same none (s.sess n).window (s.sess n).next none
  · have hk : ((s.setSess n ((s.sess n).replied r)).sess n).key = (s.sess n).key :=
      (congrArg Session.key (State.sess_setSess ..)).trans rfl
    have ho := State.out_hlSend (s := s.setSess n ((s.sess n).replied r)) (r := r) hn hu hq hp
    rw [show r.session = n from rfl, hk] at ho
    exact (congrArg State.out ht).trans ho
  · rw [ht, State.sess_hlSend, State.sess_setSess_ne hk]

/-! ### Commands that nothing refuses (12 R451) -/

section

variable {row : Nat → Instr} {op st : Nat} {reply : Bytes}

theorem State.commands.arm {c : HCmd} (h : s.commands n op b c) : s.arm.commands n op b c := h

/-- What a row gives that runs the command of its opcode. -/
theorem commandGives_of {f : HCmd → State → Nat × Bytes × State} (hrow : exec (row n) s = .next (s.hlRun n op f))
    (hf : ∀ c, c.payload = b → f c s = (st, reply, t)) : commandGives row op n s b st reply t := by
  intro c hc
  have hp : c.payload = b := hc.2.2.1
  rw [hrow, State.hlRun_executes hc, hf c hp]

theorem commandGives_of_simple {f : HCmd → State → WRes} (hrow : exec (row n) s = .next (s.hlSimple n op f))
    (hf : ∀ c, c.payload = b → f c s = (st, t)) : commandGives row op n s b st [] t :=
  commandGives_of hrow fun c hp => by rw [hf c hp]

/-- What a row gives that may wait at a home. -/
theorem commandWaits_of {f : HCmd → State → Nat × Bytes × State}
    (hrow : exec (row n) s = parkIf (row n) (ParkKey.session n).no (fun s => .next (s.hlRun n op f)) s)
    (hf : ∀ c, c.payload = b → f c s.arm = (st, reply, t)) : commandWaits row op n s b st reply t := by
  intro c hc
  have hp : c.payload = b := hc.2.2.1
  exact State.comesTo_of hrow (by rw [State.hlRun_executes hc.arm, hf c hp])

theorem commandWaits_of_simple {f : HCmd → State → WRes}
    (hrow : exec (row n) s = parkIf (row n) (ParkKey.session n).no (fun s => .next (s.hlSimple n op f)) s)
    (hf : ∀ c, c.payload = b → f c s.arm = (st, t)) : commandWaits row op n s b st [] t :=
  commandWaits_of hrow fun c hp => by rw [hf c hp]

end

/-! ### Registers and memory (12 R456-R459) -/

theorem State.readRegs_one {m : Master} {a v : Nat} (h : s.askRead m a 8 = (hOk, v, s1)) : State.readRegs m 1 a s = (hOk, beBytes 8 v, s1) := by
  unfold State.readRegs
  rw [h]
  dsimp only
  rw [if_pos rfl]
  exact congrArg (fun x => (hOk, x, s1)) (List.append_nil _)

theorem State.hlRegRead_one {v : Nat} (hb : b.length = 10) (hc : beAt b 8 2 = 1)
    (h : s.askRead (.session n) (beAt b 0 8) 8 = (hOk, v, s1)) : s.hlRegRead n b = (hOk, beBytes 8 v, s1) := by
  unfold State.hlRegRead
  dsimp only
  rw [hc, if_neg (by omega), State.readRegs_one h]
  rfl

theorem State.writePairs_one {m : Master} (h : s.askWrite m (beAt b 2 8) 8 (beAt b 10 8) = (hOk, s1)) :
    State.writePairs m b 1 1 s = (hOk, 1, s1) := by
  unfold State.writePairs
  dsimp only
  rw [Nat.sub_self, h]
  rfl

theorem State.hlRegWrite_one (hb : b.length = 18) (hc : beAt b 0 2 = 1)
    (h : s.askWrite (.session n) (beAt b 2 8) 8 (beAt b 10 8) = (hOk, s1)) : s.hlRegWrite n b = (hOk, beBytes 2 1, s1) := by
  unfold State.hlRegWrite
  dsimp only
  rw [hc, if_neg (by omega), State.writePairs_one h]

/-- A read of a REG_POLL that succeeds ends it where the value meets the condition or the limit has passed. -/
theorem State.pollOnce_of_read {v since : Nat} {last : Bool} (h : s.askRead (.session n) (beAt b 0 8) 8 = (hOk, v, s1)) :
    s.pollOnce n since last b = if pollMet (beAt b 24 1) v (beAt b 8 8) (beAt b 16 8) then
        (some (hOk, beBytes 8 v ++ beBytes 4 (min (beAt b 28 4) (s.now - since))), s1)
      else if last then (some (hTimeout, beBytes 8 v ++ beBytes 4 (beAt b 28 4)), s1) else (none, s1) := by
  unfold State.pollOnce
  rw [h]
  exact if_neg (not_not_intro rfl)

theorem State.pollStep_ends {c : HCmd} {since st : Nat} {last : Bool} {p : Bytes} (hr : s.hlRefusal n c = none)
    (hf : pollForm c.payload = true) (h : s.pollOnce n since last c.payload = (some (st, p), s1)) :
    s.pollStep n c since last = s1.hlDone n c st p := by
  unfold State.pollStep
  rw [hr]
  dsimp only
  rw [hf, h]
  rfl

theorem State.pollStep_waits {c : HCmd} {since : Nat} {last : Bool} (hr : s.hlRefusal n c = none)
    (hf : pollForm c.payload = true) (h : s.pollOnce n since last c.payload = (none, s1)) :
    s.pollStep n c since last = s1.setSess n { s1.sess n with polling := some since } := by
  unfold State.pollStep
  rw [hr]
  dsimp only
  rw [hf, h]
  rfl

/-- The first read of a REG_POLL at NEXT. -/
theorem regPoll_first {c : HCmd} (hc : s.commands n 0x12 b c) : exec (.regPoll n) s = .next (s.pollStep n c s.now false) := by
  obtain ⟨h1, h2, -, -⟩ := hc
  change execRegPoll n s = _
  unfold execRegPoll
  rw [State.hlNext_notPolling h1, h1]
  dsimp only
  rw [if_pos h2]

theorem regPollLimit_ends {c : HCmd} (hc : s.hlPolling n = some c) :
    exec (.regPollLimit n) s = .next (s.pollStep n c ((s.sess n).polling.getD 0) true) := by
  change execRegPollLimit n s = _
  unfold execRegPollLimit
  rw [hc]

theorem State.hlMemRead_answers {r : RdRes} (hb : b.length = 10) (h1 : 1 ≤ beAt b 8 2) (h2 : beAt b 8 2 ≤ 8192)
    (hm : s.memRefusal n (beAt b 0 8) (beAt b 8 2) false = none)
    (hr : s.rd { id := 0x60, plot := (s.sess n).plot } (beAt b 0 8) (beAt b 8 2) = (r, s1)) :
    s.hlMemRead n b = if r.status = stOk then (hOk, r.data, s1)
      else if r.status = stPoison then (hAborted, beBytes 4 (r.addr - beAt b 0 8), s1) else (meshStatus r.status, [], s1) := by
  unfold State.hlMemRead
  dsimp only
  rw [if_neg (by omega), hm]
  dsimp only
  rw [hr]

theorem State.hlMemWrite_stores {a : Nat} (h1 : 17 ≤ b.length) (h2 : b.length ≤ 16 + 8176) (hz : beAt b 8 8 = 0)
    (hm : s.memRefusal n (beAt b 0 8) (b.length - 16) true = none)
    (hw : s.wr { id := 0x60, plot := (s.sess n).plot } (beAt b 0 8) (b.drop 16) = (stOk, a, s1)) : s.hlMemWrite n b = (hOk, s1) := by
  have hl : (b.drop 16).length = b.length - 16 := List.length_drop
  have hn : ¬(b.drop 16 = [] ∨ 8176 < (b.drop 16).length ∨ beAt b 8 8 ≠ 0) := by
    rintro (h | h | h)
    · rw [h] at hl
      exact absurd hl.symm (by rw [List.length_nil]; omega)
    · omega
    · exact h hz
  unfold State.hlMemWrite
  dsimp only
  rw [if_neg hn, hl, hm]
  dsimp only
  rw [hw]
  rfl

theorem sessionAccesses_holds : sessionAccesses := by
  intro s s1 n v b
  refine ⟨fun hb hc h => ?_, fun hb hc h c hcm => ?_, fun hf h => ⟨fun hm => ?_, fun hm c hcm => ?_, fun hm c hp hcp hr => ?_⟩,
    fun r hb h1 h2 hm hr => ⟨fun hst => ?_, fun hst => ?_⟩, fun a h1 h2 hz hm hw => ?_⟩
  · exact commandGives_of rfl fun c hp => by rw [hp]; exact State.hlRegRead_one hb hc h
  · refine State.comesTo_of (f := fun s => .next (s.hlRun n 0x11 (fun c s => s.hlRegWrite n c.payload)).lcSettle) rfl ?_
    rw [State.hlRun_executes hcm.arm, hcm.2.2.1, State.hlRegWrite_one hb hc h]
  · intro c hcm
    have hr : s.hlRefusal n c = none := hcm.2.2.2
    have hp : c.payload = b := hcm.2.2.1
    have ho := State.pollOnce_of_read (since := s.now) (last := false) h
    rw [if_pos hm, Nat.sub_self, Nat.min_zero] at ho
    rw [regPoll_first hcm, State.pollStep_ends hr (by rw [hp]; exact hf) (by rw [hp]; exact ho)]
  · have hr : s.hlRefusal n c = none := hcm.2.2.2
    have hp : c.payload = b := hcm.2.2.1
    have ho := State.pollOnce_of_read (since := s.now) (last := false) h
    rw [hm] at ho
    rw [regPoll_first hcm, State.pollStep_waits hr (by rw [hp]; exact hf) (by rw [hp]; exact ho)]
  · have ho := State.pollOnce_of_read (since := (s.sess n).polling.getD 0) (last := true) h
    rw [hm] at ho
    rw [regPollLimit_ends hp, State.pollStep_ends hr (by rw [hcp]; exact hf) (by rw [hcp]; exact ho)]
  · refine commandWaits_of rfl fun c hp => ?_
    rw [hp, State.hlMemRead_answers (s := s.arm) hb h1 h2 hm hr, if_pos hst]
  · refine commandWaits_of rfl fun c hp => ?_
    rw [hp, State.hlMemRead_answers (s := s.arm) hb h1 h2 hm hr, hst]
    rfl
  · exact commandWaits_of_simple rfl fun c hp => by rw [hp]; exact State.hlMemWrite_stores (s := s.arm) h1 h2 hz hm hw

/-! ### Firmware (14 R527-R530) -/

/-- The control complex in another FW_STATE. -/
def Boot.atFw (b : Boot) (k : Nat) : Boot := { b with fwState := k }

/-- FW_STATE before its event. -/
def State.fwAt (s : State) (k : Nat) (d : Option Bytes) : State :=
  { s with boot := s.boot.atFw k, freeCtr := s.freeCtr + (if d.isNone then 1 else 0) }

theorem State.setFw_changes {k : Nat} (h : s.boot.fwState ≠ k) (d : Option Bytes) : ∃ l,
    s.setFw k d = (s.fwAt k d).raise 0x0040 sevNone 0 0 l := by
  unfold State.setFw
  rw [if_neg h]
  exact ⟨_, rfl⟩

/-- FW_STATE changes, and of the control complex nothing else. -/
theorem State.setFw_shows (s : State) (k : Nat) (d : Option Bytes) : (s.setFw k d).boot = s.boot.atFw k
    ∧ (s.setFw k d).aon = s.aon ∧ (s.setFw k d).mem = s.mem := by
  by_cases he : s.boot.fwState = k
  · rw [show s.setFw k d = s from if_pos he]
    exact ⟨he ▸ rfl, rfl, rfl⟩
  · obtain ⟨l, hl⟩ := State.setFw_changes he d
    rw [hl]
    have hp : (s.fwAt k d).Leaves raiseParts ((s.fwAt k d).raise 0x0040 sevNone 0 0 l) := (State.Leaves.refl _).raise
    exact ⟨hp .boot rfl, aon_raise_none .., hp.mem⟩

/-- A chunk of an image in the loading SRAM, and who loads it. -/
def State.fwChunk (s : State) (n off : Nat) (chunk : Bytes) : State :=
  { s with boot := { s.boot with
      holder := if off = 0 then some n else s.boot.holder
      loaded := if off = 0 then off + chunk.length else max s.boot.loaded (off + chunk.length)
      sram := putCells s.boot.sram off chunk } }

theorem State.fwLoad_loads {off : Nat} {chunk : Bytes} (h0 : chunk.length ≠ 0) (h1 : chunk.length ≤ 8188) (h2 : off + chunk.length ≤ imageMax)
    (ho : s.fwOther n = false) (hf : s.boot.fwState < 3) : s.fwLoad n off chunk = (hOk, (s.fwChunk n off chunk).setFw 1 none) := by
  have hn : ¬(chunk.length = 0 ∨ 8188 < chunk.length ∨ imageMax < off + chunk.length) := by
    rintro (h | h | h) <;> omega
  unfold State.fwLoad
  dsimp only
  rw [if_neg hn, if_neg (by rw [ho]; exact Bool.false_ne_true), if_neg (by omega), if_pos hf]
  rfl

theorem fwLoad_waits {off : Nat} {chunk : Bytes} (hoff : beAt b 0 4 = off) (hch : b.drop 4 = chunk) (h5 : 5 ≤ b.length)
    (h1 : chunk.length ≤ 8188) (h2 : off + chunk.length ≤ imageMax) (ho : s.fwOther n = false) (hf : s.boot.fwState < 3) :
    commandWaits .fwLoad 0x20 n s b hOk [] ((s.arm.fwChunk n off chunk).setFw 1 none) := by
  have hl : chunk.length = b.length - 4 := by rw [← hch]; exact List.length_drop
  refine commandWaits_of_simple rfl fun c hp => ?_
  rw [hp, if_neg (by omega), hoff, hch]
  exact State.fwLoad_loads (s := s.arm) (by omega) h1 h2 ho hf

/-- FW_START runs in the row of its MODE. -/
theorem State.fwStartRow_done {c : HCmd} {mode st : Nat} (hc : s.commands n 0x21 b c) (hb : b.length = 8) (hz : beAt b 5 3 = 0)
    (hm : beAt b 4 1 = mode) (h : s.fwStart n (beAt b 0 4) mode = (st, t)) : s.fwStartRow n mode = t.hlDone n c st [] := by
  obtain ⟨h1, -, hp, -⟩ := id hc
  unfold State.fwStartRow
  rw [h1]
  dsimp only
  rw [hp, hm, if_pos (Or.inl rfl), State.hlSimple_executes hc, hp, if_neg (by omega), h]

theorem fwStart_gives {row : Nat → Instr} {mode st : Nat} (hrow : exec (row n) s = .next (s.fwStartRow n mode)) (hb : b.length = 8)
    (hz : beAt b 5 3 = 0) (hm : beAt b 4 1 = mode) (h : s.fwStart n (beAt b 0 4) mode = (st, t)) :
    commandGives row 0x21 n s b st [] t := fun _ hc => hrow.trans (congrArg _ (State.fwStartRow_done hc hb hz hm h))

theorem fwStartStage_waits {st : Nat} (hb : b.length = 8) (hz : beAt b 5 3 = 0) (hm : beAt b 4 1 = 2)
    (h : s.arm.fwStart n (beAt b 0 4) 2 = (st, t)) : commandWaits .fwStartStage 0x21 n s b st [] t := fun _ hc =>
  State.comesTo_of (f := fun s => .next (s.fwStartRow n 2)) rfl (congrArg _ (State.fwStartRow_done hc.arm hb hz hm h))

section

variable {len : Nat}

/-- The image buffer without a holder. -/
def State.fwFree (s : State) : State := { s with boot := { s.boot with holder := none } }

/-- The image that verified starts on the cores. -/
def State.fwRuns (s : State) (img : Bytes) : State :=
  { s with
    aon := { s.aon with digest := [], svn := 0 }
    boot := { s.boot with
      holder := none, cores := 15, entry := leAt img 16 8, runDigest := Config.sha256 img, runSvn := leAt img 8 4, started := true
      kicked := s.now } }

theorem State.fwStart_runs (ho : s.fwOther n = false) (hl : len ≤ imageMax) (hf : s.boot.fwState = 1 ∨ s.boot.fwState = 2)
    (hi : s.imageOk (cellBytes s.boot.sram 0 len) s.aon.digest = true) :
    s.fwStart n len 0 = (hOk, (s.fwRuns (cellBytes s.boot.sram 0 len)).setFw 3 (some (Config.sha256 (cellBytes s.boot.sram 0 len)))) := by
  unfold State.fwStart
  dsimp only
  rw [if_neg (by rw [ho]; exact Bool.false_ne_true), if_neg (by omega), if_pos rfl, if_neg (by omega), if_pos hi]
  rfl

theorem State.fwStart_verifies (ho : s.fwOther n = false) (hl : len ≤ imageMax) (hf : s.boot.fwState = 1)
    (hi : s.imageOk (cellBytes s.boot.sram 0 len) [] = true) :
    s.fwStart n len 1 = (hOk, s.fwFree.setFw 2 (some (Config.sha256 (cellBytes s.boot.sram 0 len)))) := by
  unfold State.fwStart
  dsimp only
  rw [if_neg (by rw [ho]; exact Bool.false_ne_true), if_neg (by omega), if_neg (by decide), if_pos rfl, if_neg (by omega), if_pos hi]
  rfl

/-- The image that was read stands as the staged one. -/
def State.fwStages (s : State) (img : Bytes) : State :=
  { s with boot := { s.boot with holder := none, stagedDigest := Config.sha256 img, stagedSvn := leAt img 8 4 } }

theorem State.fwStart_stages {r : RdRes} (ho : s.fwOther n = false) (hl : len ≤ imageMax) (hf : s.boot.fwState = 3)
    (hr : s.rd sbSrc stagingBase len = (r, s1)) (hst : r.status = stOk) (hi : s1.imageOk r.data [] = true) :
    s.fwStart n len 2 = (hOk, (s1.fwStages r.data).setFw 4 (some (Config.sha256 r.data))) := by
  unfold State.fwStart
  dsimp only
  rw [if_neg (by rw [ho]; exact Bool.false_ne_true), if_neg (by omega), if_neg (by decide), if_neg (by decide), if_pos rfl,
    if_neg (by omega), hr]
  dsimp only
  rw [if_pos ⟨hst, hi⟩]
  rfl

/-- No image is staged. -/
def State.fwClears (s : State) : State :=
  { s with boot := { s.boot with stagedDigest := [], stagedSvn := 0 }, aon := { s.aon with digest := [], svn := 0 } }

theorem State.fwStart_clears (ho : s.fwOther n = false) (hl : len ≤ imageMax) :
    s.fwStart n len 3 = (hOk, if s.boot.fwState = 4 then s.fwClears.setFw 3 (some s.boot.stagedDigest) else s.fwClears) := by
  unfold State.fwStart
  dsimp only
  rw [if_neg (by rw [ho]; exact Bool.false_ne_true), if_neg (by omega), if_neg (by decide), if_neg (by decide), if_neg (by decide)]
  rfl

end

/-! ### Training and its record (14 R532, R533) -/

theorem State.train_begins {stks sites : Nat} (h : stks < 256) (h1 : s.trainState ≠ 1) (h2 : s.trainState ≠ 2)
    (h3 : s.trainState ≠ 3 ∨ stks = 0 ∨ s.f .MEM_INIT_STATE = 0) (hr : s.trainReady stks sites = true) :
    s.train n stks sites = (hOk, s.trainBegin { stks, sites, replay := false, wearOnly := false }) := by
  have hb : ¬(s.trainState = 2 ∨ (s.trainState = 3 ∧ stks ≠ 0 ∧ s.f .MEM_INIT_STATE ≠ 0)) := by
    rintro (h | ⟨ha, hb, hc⟩)
    · exact h2 h
    · exact h3.elim (fun h => h ha) (fun h => h.elim hb hc)
  unfold State.train
  dsimp only
  rw [if_neg (Nat.not_le.mpr h), if_neg (fun hn => h1 hn.1), if_neg hb, hr]
  rfl

/-- A chunk of a training record in its buffer. -/
def State.recChunk (s : State) (n off : Nat) (chunk : Bytes) : State :=
  State.setF { s with boot := { s.boot with bufHolder := some n, buf := putCells s.boot.buf off chunk } } .GLB_TRAIN_STATUS_STATE 0 0 1

theorem State.recordReplay_collects {off : Nat} {chunk : Bytes} (h0 : chunk.length ≠ 0) (h1 : chunk.length ≤ 8184)
    (h2 : off + chunk.length ≤ 262144) (hs : s.trainState = 0 ∧ off = 0 ∨ s.trainState = 1 ∧ s.recOther n = false) :
    s.recordReplay n off 0 chunk = (hOk, s.recChunk n off chunk) := by
  have hn : ¬(chunk.length = 0 ∨ 8184 < chunk.length ∨ 262144 < off + chunk.length ∨ 4 ≤ 0) := by
    rintro (h | h | h | h) <;> omega
  have ho : ¬(s.trainState = 1 ∧ s.recOther n = true) := by
    rintro ⟨ha, hb⟩
    obtain ⟨h, -⟩ | ⟨-, h⟩ := hs
    · omega
    · rw [hb] at h
      exact Bool.noConfusion h
  unfold State.recordReplay
  dsimp only
  rw [if_neg hn, if_neg (by omega), if_neg ho, if_neg (by omega)]
  rfl

theorem firmwareAndTraining_holds : firmwareAndTraining := by
  intro s n b
  refine ⟨fun h5 h1 h2 ho hf => ?_, fun hb hz hl ho => ⟨fun hm hf hi => ?_, fun hm hf hi => ?_, fun hm hf r s1 hr hst hi => ?_, fun hm => ?_⟩,
    fun hb h h1 h2 h3 hr => ?_, fun h9 h1 h2 hf hz hs => ?_⟩
  · have hw := fwLoad_waits rfl rfl h5 h1 h2 ho hf
    obtain ⟨hboot, -, hmem⟩ := (s.arm.fwChunk n (beAt b 0 4) (b.drop 4)).setFw_shows 1 none
    exact ⟨_, hw, congrArg Boot.fwState hboot, congrArg Boot.sram hboot, fun h0 => (congrArg Boot.holder hboot).trans (if_pos h0), hmem⟩
  · have hw := fwStart_gives (row := .fwStartRun) rfl hb hz hm (State.fwStart_runs ho hl hf hi)
    obtain ⟨hboot, haon, -⟩ := (s.fwRuns (cellBytes s.boot.sram 0 (beAt b 0 4))).setFw_shows 3
      (some (Config.sha256 (cellBytes s.boot.sram 0 (beAt b 0 4))))
    exact ⟨_, hw, congrArg Boot.fwState hboot, congrArg Boot.cores hboot, congrArg Boot.entry hboot, congrArg Boot.runDigest hboot,
      congrArg Boot.runSvn hboot, congrArg Boot.holder hboot, congrArg Aon.digest haon⟩
  · have hw := fwStart_gives (row := .fwStartVerify) rfl hb hz hm (State.fwStart_verifies ho hl hf hi)
    obtain ⟨hboot, -, -⟩ := s.fwFree.setFw_shows 2 (some (Config.sha256 (cellBytes s.boot.sram 0 (beAt b 0 4))))
    exact ⟨_, hw, congrArg Boot.fwState hboot, (congrArg Boot.cores hboot).trans rfl, congrArg Boot.holder hboot⟩
  · have hw := fwStartStage_waits hb hz hm (State.fwStart_stages (s := s.arm) ho hl hf hr hst hi)
    obtain ⟨hboot, -, -⟩ := (s1.fwStages r.data).setFw_shows 4 (some (Config.sha256 r.data))
    exact ⟨_, hw, congrArg Boot.fwState hboot, congrArg Boot.stagedDigest hboot, congrArg Boot.stagedSvn hboot⟩
  · refine ⟨_, fwStart_gives (row := .fwStartClear) rfl hb hz hm (State.fwStart_clears ho hl), ?_⟩
    obtain ⟨hboot, haon, -⟩ := s.fwClears.setFw_shows 3 (some s.boot.stagedDigest)
    split
    · exact ⟨congrArg Boot.stagedDigest hboot, congrArg Aon.digest haon, congrArg Boot.fwState hboot⟩
    · exact ⟨rfl, rfl, rfl⟩
  · exact commandGives_of_simple rfl fun c hp => by
      rw [hp, if_neg (not_not_intro hb)]
      exact State.train_begins h h1 h2 h3 hr
  · have hl : (b.drop 8).length = b.length - 8 := List.length_drop
    refine ⟨s.recChunk n (beAt b 0 4) (b.drop 8), commandGives_of_simple rfl fun c hp => ?_, State.f_setF_same .., rfl, rfl⟩
    rw [hp, if_neg (by omega), hf]
    exact State.recordReplay_collects (by omega) h1 h2 hs

/-! ### What homes do with a recall (08 R311-R321) -/

section

variable {P : List Part}

/-- What a request of a home may change: what accesses do, and three counts. -/
def homeParts : List Part := ([.fld .QOS_PORT_COUNT_LATE, .fld .COH_VICTIMS_COUNT, .fld .COH_RECLAIMED_POISONED] : List Part) ++ accessParts

theorem State.Leaves.cohSend (h : s.Leaves P t) {a code grant line status ref : Nat} {data : Bytes} {quiet : Bool} {head : Option (Nat × Nat)}
    (hp : subParts homeParts P = true := by decide +kernel) : s.Leaves P (t.cohSend a code grant line status data ref quiet head) := by
  refine h.step (Q := homeParts) ?_ hp
  have ho : ∀ p, t.Leaves homeParts (t.observe p) := fun _ => (State.Leaves.refl t).observe (by decide +kernel)
  unfold State.cohSend
  dsimp only
  generalize hu : t.observe _ = u
  replace ho : t.Leaves homeParts u := hu ▸ ho _
  split
  · exact ho
  · split
    · exact ho.siteSend (by decide +kernel)
    · exact ho.emit

theorem State.Leaves.cohAnswer (h : s.Leaves P t) {r : HReq} {code grant status : Nat} {data : Bytes}
    (hp : subParts homeParts P = true := by decide +kernel) : s.Leaves P (t.cohAnswer r code grant status data) := by
  refine h.step (Q := homeParts) ?_ hp
  replace h := State.Leaves.refl (P := homeParts) t
  unfold State.cohAnswer
  dsimp only
  exact .ite h (.ite h.count (h.setQport.glnLatency (by decide +kernel)).cohSend)

theorem State.Leaves.cohData (h : s.Leaves P t) {r : HReq} {grant : Nat} {comb : Bool}
    (hp : subParts homeParts P = true := by decide +kernel) : s.Leaves P (t.cohData r grant comb) := by
  refine h.step (Q := homeParts) ?_ hp
  have ha := State.Accesses.refl (lo := 0) t
  have hs : subParts accessParts homeParts = true := by decide +kernel
  unfold State.cohData
  dsimp only
  refine .ite (ha.farTimeout.parts.mono hs).cohAnswer ?_
  split
  · exact (ha.farAsks.combMemRead.parts.mono hs).cohAnswer
  · generalize hm : (t.farAsks (r.line * 64) 64 [] false).memRead (r.line * 64) 64 [] srcDemand r.cls = y
    have hy : t.Leaves homeParts y.2.2 := by
      rw [← hm]
      exact ha.farAsks.memRead.parts.mono hs
    exact hy.cohAnswer

theorem State.Leaves.cohTrace (h : s.Leaves P t) {x : HTxn} (hp : subParts homeParts P = true := by decide +kernel) : s.Leaves P (t.cohTrace x) := by
  have hr : t.Leaves recordParts (t.cohTrace x) := by
    unfold State.cohTrace
    dsimp only
    exact .ite (State.Leaves.refl t).touchAll.coWrite (.refl t)
  exact h.step (Q := homeParts) (hr.mono (by decide +kernel)) hp

theorem State.Leaves.dropHtxn (h : s.Leaves P t) {line : Nat} (hp : subParts homeParts P = true := by decide +kernel) :
    s.Leaves P (t.dropHtxn line) := by
  refine h.step (Q := homeParts) ?_ hp
  unfold State.dropHtxn
  dsimp only
  split
  · exact (State.Leaves.refl t).cohTrace.txnsSet
  · exact (State.Leaves.refl t).txnsSet

theorem State.Leaves.cohTraceNow (h : s.Leaves P t) {r : HReq} (hp : subParts homeParts P = true := by decide +kernel) :
    s.Leaves P (t.cohTraceNow r) := by
  refine h.step (Q := homeParts) ?_ hp
  have hf : t.Leaves homeParts (t.freeBelow 4096).2 := (State.Leaves.refl t).freeCtrSet
  unfold State.cohTraceNow
  exact hf.cohTrace

theorem State.Leaves.openHtxn (h : s.Leaves P t) {r : HReq} {phase : HPhase} (h1 : Part.coh.inList P = true := by rfl)
    (h2 : Part.txns.inList P = true := by rfl) : s.Leaves P (t.openHtxn r phase).2 := by
  unfold State.openHtxn
  exact (h.cohSet h1).putHtxn h2

theorem State.Leaves.snoopFor (h : s.Leaves P t) {x : HTxn} {code targets : Nat} (hp : subParts homeParts P = true := by decide +kernel) :
    s.Leaves P (t.snoopFor x code targets) := by
  refine h.step (Q := homeParts) ?_ hp
  have hs : t.Leaves homeParts (t.sendSnoop code x.line x.txn targets) := (State.Accesses.refl (lo := 0) t).sendSnoop.parts.mono (by decide +kernel)
  unfold State.snoopFor
  exact hs.putHtxn

theorem State.Leaves.poisonLine (h : s.Leaves P t) {line : Nat} (hp : subParts accessParts P = true := by decide +kernel) :
    s.Leaves P (t.poisonLine line) := by
  unfold State.poisonLine
  exact h.step ((State.Accesses.refl (lo := 0) t).memWrite (Nat.zero_le _)).parts hp

theorem State.Leaves.grantLost (h : s.Leaves P t) {x : HTxn} (hp : subParts homeParts P = true := by decide +kernel) :
    s.Leaves P (t.grantLost x).2 := by
  refine h.step (Q := homeParts) ?_ hp
  unfold State.grantLost
  dsimp only
  split
  · exact (State.Leaves.refl t).poisonLine.setSf.dropHtxn
  · exact (State.Leaves.refl t).setSf.dropHtxn

theorem State.Leaves.reclaimMore (h : s.Leaves P t) {a : Nat} (hp : subParts homeParts P = true := by decide +kernel) :
    s.Leaves P (t.reclaimMore a) := by
  refine h.step (Q := homeParts) ?_ hp
  unfold State.reclaimMore
  exact .ite (State.Leaves.refl t).cohSet (State.Leaves.refl t).count

theorem State.Leaves.combClose (h : s.Leaves P t) {line : Nat} (hp : subParts accessParts P = true := by decide +kernel) :
    s.Leaves P (t.combClose line) := h.step (State.Accesses.refl (lo := 0) t).combClose.parts hp

theorem State.Leaves.sendGrant (h : s.Leaves P t) {x : HTxn} {g holders : Nat} {data : Bool}
    (hp : subParts homeParts P = true := by decide +kernel) : s.Leaves P (t.sendGrant x g data holders) := by
  refine h.step (Q := homeParts) ?_ hp
  have h0 : t.Leaves homeParts (if g = 2 then t.combClose x.line else t) := .ite (State.Leaves.refl t).combClose (.refl t)
  have h1 := State.Leaves.ite (c := data = true) (h0.cohData (r := x.req) (grant := g) (comb := false))
    (h0.cohAnswer (r := x.req) (code := 0x81) (grant := g) (status := 0) (data := []))
  unfold State.sendGrant
  dsimp only
  exact .ite h1.dropHtxn (.ite h1.putHtxn (.ite h1.putHtxn.grantLost.reclaimMore h1.putHtxn.grantLost))

theorem State.Leaves.writeInv (h : s.Leaves P t) {r : HReq} (hp : subParts homeParts P = true := by decide +kernel) :
    s.Leaves P (t.writeInv r) := by
  refine h.step (Q := homeParts) ?_ hp
  have hw : t.Leaves homeParts (t.homeWrite (r.line * 64 + r.off) r.data r.poison r.cls).2 := (State.Leaves.refl t).homeWrite
  unfold State.writeInv
  exact hw.cohAnswer

theorem State.Leaves.sfAlloc (h : s.Leaves P t) {x : HTxn} (hp : subParts homeParts P = true := by decide +kernel) :
    s.Leaves P (t.sfAlloc x) := by
  refine h.step (Q := homeParts) ?_ hp
  replace h := State.Leaves.refl (P := homeParts) t
  unfold State.sfAlloc
  refine .ite h.sendGrant ?_
  split
  · exact h.putHtxn
  · exact h.putHtxn.count.openHtxn.snoopFor

theorem State.Leaves.startI (h : s.Leaves P t) {r : HReq} (hp : subParts homeParts P = true := by decide +kernel) : s.Leaves P (t.startI r) := by
  refine h.step (Q := homeParts) ?_ hp
  replace h := State.Leaves.refl (P := homeParts) t
  unfold State.startI
  exact .ite h.openHtxn (.ite h.cohData.cohTraceNow (.ite h.writeInv.cohTraceNow (.ite h h.openHtxn.sfAlloc)))

theorem State.Leaves.startHreq (h : s.Leaves P t) {r : HReq} (hp : subParts homeParts P = true := by decide +kernel) :
    s.Leaves P (t.startHreq r) := by
  refine h.step (Q := homeParts) ?_ hp
  replace h := State.Leaves.refl (P := homeParts) t
  have ho : t.Leaves homeParts (t.openHtxn r .snoop).2 := h.openHtxn
  unfold State.startHreq
  split
  · exact h.startI
  · exact .ite h.cohData.cohTraceNow (.ite h (.ite (.ite ho.snoopFor ho.putHtxn) (.ite ho.snoopFor (.ite (.ite ho.snoopFor ho.sendGrant)
      (.ite ho.sendGrant (.ite ho.snoopFor (.ite ho.snoopFor ho.snoopFor)))))))

theorem State.Leaves.askLine (h : s.Leaves P t) {r : HReq} (hp : subParts homeParts P = true := by decide +kernel) : s.Leaves P (t.askLine r) := by
  refine h.step (Q := homeParts) ?_ hp
  unfold State.askLine
  exact .ite (State.Leaves.refl t).cohSet (State.Leaves.refl t).startHreq

theorem State.Leaves.tearRecall (h : s.Leaves P t) {p : Nat} (hp : subParts homeParts P = true := by decide +kernel) :
    s.Leaves P (t.tearRecall p) := by
  refine h.step (Q := homeParts) ?_ hp
  unfold State.tearRecall
  exact .foldl (.refl t) fun _ _ h => h.askLine

end

/-! ### Plots (13 R498-R510) -/

section

variable {P : List Part}

/-- The same value for each field of a list. -/
theorem State.Leaves.setFs {l : List Fid} {i j v : Nat} (h : s.Leaves P t) (hp : l.all (fun f => (Part.fld f).inList P) = true := by rfl) :
    s.Leaves P (l.foldl (fun s f => s.setF f i j v) t) := by
  induction l generalizing t with
  | nil => exact h
  | cons f l ih =>
    obtain ⟨hf, hl⟩ := (Bool.and_eq_true _ _).mp (List.all_cons.symm.trans hp)
    exact ih (h.setF hf) hl

/-- What the tallies and the reduction flags of a plot take along when they are cleared. -/
def clearParts : List Part := ([.fld .TALLY_OVF_OVF, .fld .MEM_RED_FLAGS_FLAGS, .fld .MEM_RED_FLAGS_NAN_COUNT] : List Part) ++ waitParts

theorem State.Leaves.talliesClear (h : s.Leaves clearParts t) {p : Nat} : s.Leaves clearParts (t.talliesClear p) := by
  unfold State.talliesClear
  dsimp only
  exact .setF (.foldl (.dropWaits (.foldl h fun _ _ h => h.updRun)) fun _ _ h => h.setF)

theorem State.Leaves.redClear (h : s.Leaves clearParts t) {p : Nat} : s.Leaves clearParts (t.redClear p) := by
  unfold State.redClear
  exact .foldl h fun _ _ h => h.setF.setF

theorem Plot.core_inj {x y : Plot} (h : x.core = y.core) : x.active = y.active ∧ x.engines = y.engines ∧ x.map = y.map
    ∧ x.generation = y.generation ∧ x.teardown = y.teardown := by
  obtain ⟨h1, h2, h3, -, -, h6, -, -, -, -, -, h12, -, -⟩ := Plot.mk.inj h
  exact ⟨h1, h3, h6, h12, h2⟩

/-- The plot that a descriptor makes (13 R498). -/
def PlotDesc.made (d : PlotDesc) (gen k : Nat) : Plot :=
  { active := true, engines := d.engines, sites := d.sites, ways := d.ways, map := d.map, qpFirst := d.qpFirst, qpCount := d.qpCount,
    ingFirst := d.ingFirst, ingCount := d.ingCount, keyHash := d.keyHash, generation := gen, keyInst := k }

/-- The keys of a plot's granules and its new pairings. -/
def State.plotKeyed (s : State) (p : Nat) (d : PlotDesc) : State :=
  (d.pairings s).foldl State.pair (d.priv.foldl (fun t g => t.setGkey g (1 + p) s.mem.keyCtr)
    { s with mem := { s.mem with keyCtr := s.mem.keyCtr + 1 } })

theorem State.plotMake_eq (s : State) (p : Nat) (d : PlotDesc) : s.plotMake p d
    = ((((s.plotKeyed p d).setPlot p (d.made ((s.plot p).generation + 1) s.mem.keyCtr)).talliesClear p).redClear p).raise 0x8008 sevNone 0 0
        [p, (s.plot p).generation + 1] (.opPlots (2 ^ p)) (some p) := rfl

/-- The plot stands as its descriptor says once it is made. -/
theorem State.plotMake_shows (s : State) (p : Nat) (d : PlotDesc) : ((s.plotMake p d).plot p).core
    = (d.made ((s.plot p).generation + 1) s.mem.keyCtr).core := by
  rw [State.plotMake_eq]
  generalize s.plotKeyed p d = u
  generalize d.made ((s.plot p).generation + 1) s.mem.keyCtr = v
  have h : (u.setPlot p v).Leaves clearParts (((u.setPlot p v).talliesClear p).redClear p) := (State.Leaves.refl _).talliesClear.redClear
  have hr := (h.mono (Q := clearParts ++ raiseParts) (by decide +kernel)).raise (by decide +kernel) (code := 0x8008) (sev := sevNone) (ucls := 0)
    (unit := 0) (detail := [p, (s.plot p).generation + 1]) (sc := .opPlots (2 ^ p)) (plot := some p)
  exact (hr.plot p).trans (congrArg Plot.core (State.plot_setPlot ..))

/-- What a teardown that begins may change beside its plot. -/
def tearParts : List Part :=
  ([.qps, .eth, .streams, .fld .SHEAF_CTX_OWNER_PLOT_VALID, .fld .SHEAF_CTX_NBR_QP_VALID, .fld .SHEAF_CTX_OWNER_PLOT, .fld .ETH_QP_CTL_STATE,
    .fld .ETH_QP_SQ_TAIL_TAIL, .fld .ETH_QP_RQ_TAIL_TAIL, .fld .ETH_QP_CQ_HEAD_HEAD, .fld .ETH_QP_STATUS_CQ_TAIL, .fld .ETH_WIN_CTL_VALID,
    .fld .ETH_WIN_CTL_READ, .fld .ETH_WIN_CTL_WRITE, .fld .ETH_WIN_CTL_ALIAS, .fld .ETH_WIN_CTL_TAG, .fld .ETH_WIN_RANGE_BASE,
    .fld .ETH_WIN_RANGE_LIMIT, .fld .ETH_ING_CFG_ENABLE] : List Part) ++ waitParts ++ mbParts ++ homeParts

theorem State.Leaves.engAbandon (h : s.Leaves tearParts t) {e : Nat} : s.Leaves tearParts (t.engAbandon e) := by
  unfold State.engAbandon
  exact h.setEng.dropWaits

theorem State.Leaves.sheafIdle (h : s.Leaves P t) {x : Nat} (hp : subParts accessParts P = true := by decide +kernel) :
    s.Leaves P (t.sheafIdle x) := h.step (State.Accesses.refl (lo := 0) t).sheafIdle.parts hp

theorem State.Leaves.shRelease (h : s.Leaves tearParts t) {x : Nat} : s.Leaves tearParts (t.shRelease x) := by
  have hi : s.Leaves tearParts (if t.shState x = 0 then t else t.sheafIdle x) := .ite h h.sheafIdle
  unfold State.shRelease
  exact .foldl hi.setShc.setF.setF fun _ _ h => h.setF

theorem State.Leaves.qpReset (h : s.Leaves tearParts t) {q : Nat} : s.Leaves tearParts (t.qpReset q) := by
  have hd : s.Leaves tearParts (t.txDrop q) := h.ethSet
  unfold State.qpReset
  exact .setFs hd.setQp.setF

theorem State.Leaves.windowsClear (h : s.Leaves tearParts t) {p : Nat} : s.Leaves tearParts (t.windowsClear p) := by
  unfold State.windowsClear
  exact .foldl h fun _ _ h => h.setFs

/-- A plot whose teardown begins: the place of its teardown, and what it takes along. -/
def State.tornPlot (s : State) (p : Nat) : Plot :=
  { s.plot p with teardown := some {
      began := s.ethCycles
      order := ((List.range 8).map (fun k => match (s.plot k).teardown with
        | some t => t.order + 1
        | none => 0)).foldl max 0
      qps := (s.plot p).qps.filter (fun q => s.qpState q == 2 || s.qpState q == 3)
      streams := (s.plot p).streams.filter (fun k => s.f .ETH_ING_CFG_ENABLE k == 1) } }

/-- Step 2 of a plot's teardown, in the state that step 1 leaves. -/
def State.tearStops (t : State) (p : Nat) (x : Plot) : State :=
  let s2 := (maskList 8 x.engines).foldl State.engAbandon t
  let s3 := (List.range 16).foldl (fun s c => if s.shPlot c = some p then s.shRelease c else s) s2
  let s4 := (x.qps.foldl State.qpReset s3).windowsClear p
  let s5 := x.streams.foldl (fun s k => (s.setIng k {}).setF .ETH_ING_CFG_ENABLE k 0 0) s4
  s5.mbReset (fun b => b.receiver == 0x60 && b.scopePlot == some p)

theorem State.tearBegin_eq (s : State) (p : Nat) : s.tearBegin p = let t := (s.setPlot p (s.tornPlot p)).tearStops p (s.plot p)
    if t.tearFirst = some p then t.tearRecall p else t := rfl

theorem State.tearStops_leaves (s : State) (p : Nat) (x : Plot) : s.Leaves tearParts (s.tearStops p x) := by
  have h2 : s.Leaves tearParts ((maskList 8 x.engines).foldl State.engAbandon s) := .foldl (.refl s) fun _ _ h => h.engAbandon
  have h4 : s.Leaves tearParts ((x.qps.foldl State.qpReset ((List.range 16).foldl (fun s c => if s.shPlot c = some p then s.shRelease c else s)
      ((maskList 8 x.engines).foldl State.engAbandon s))).windowsClear p) :=
    .windowsClear (.foldl (.foldl h2 fun _ _ h => .ite h.shRelease h) fun _ _ h => h.qpReset)
  have h5 (l : List Nat) : ∀ u, s.Leaves tearParts u → s.Leaves tearParts (l.foldl (fun s k => (s.setIng k {}).setF .ETH_ING_CFG_ENABLE k 0 0) u) :=
    fun _ h => .foldl h fun _ _ h => h.setIng.setF
  unfold State.tearStops
  exact (h5 _ _ h4).mbReset

/-- The plot stays as it is but for its teardown. -/
theorem State.tearBegin_shows (s : State) (p : Nat) : ((s.tearBegin p).plot p).core = (s.tornPlot p).core := by
  rw [State.tearBegin_eq]
  generalize s.tornPlot p = v
  generalize s.plot p = x
  have hr : ∀ t, (s.setPlot p v).Leaves tearParts t → (s.setPlot p v).Leaves tearParts (if t.tearFirst = some p then t.tearRecall p else t) :=
    fun _ h => .ite h.tearRecall h
  exact ((hr _ ((s.setPlot p v).tearStops_leaves p x)).plot p).trans (congrArg Plot.core (State.plot_setPlot ..))

/-- What the end of a teardown may change once the plot is gone. -/
def tearEndParts : List Part := closeParts ++ homeParts

/-- The end of a teardown leaves what the plot is then as it is. -/
theorem State.tearEnd_leaves (s : State) (p began : Nat) : ∃ u : State,
    (u.setPlot p { generation := (s.plot p).generation }).Leaves tearEndParts (s.tearEnd p began) := by
  unfold State.tearEnd
  extract_lets x gs s1 s2 s3 s4 s5
  have h4 : s3.Leaves tearEndParts s4 := (State.Leaves.refl s3).raise (by decide +kernel)
  have h5 : s3.Leaves tearEndParts s5 := h4.closeWhere
  refine ⟨(s2.talliesClear p).redClear p, ?_⟩
  split
  · exact h5.tearRecall
  · exact h5

/-- The plot is gone, and its next generation is another. -/
theorem State.tearEnd_shows (s : State) (p began : Nat) : ((s.tearEnd p began).plot p).core
    = Plot.core { generation := (s.plot p).generation } := by
  obtain ⟨u, hu⟩ := s.tearEnd_leaves p began
  exact (hu.plot p).trans (congrArg Plot.core (State.plot_setPlot ..))

theorem State.plotCreate_makes {d : PlotDesc} (hr : s.plotRefusal b = none) (hp : PlotDesc.parse b = some d) (h8 : d.plot < 8) :
    s.plotCreate b = (hOk, beBytes 1 d.plot, s.plotMake d.plot d) := by
  unfold State.plotCreate
  rw [hr, hp]
  dsimp only
  rw [if_pos h8]

theorem plotCreate_runs (h : s.sec.commonJob = none) :
    exec (.plotCreate n) s = .next (s.hlRun n 0x30 (fun c s => s.plotCreate c.payload)) := by
  change execPlotCreate n s = _
  unfold execPlotCreate
  rw [h]
  exact congrArg _ (if_neg fun hn => Bool.noConfusion hn.1)

theorem State.plotTeardown_begins (hb : b.length = 1) (h8 : beAt b 0 1 < 8) (ha : (s.plot (beAt b 0 1)).active = true)
    (ht : (s.plot (beAt b 0 1)).teardown = none) : s.plotTeardown b = (hOk, s.tearBegin (beAt b 0 1)) := by
  have hn : ¬(b.length ≠ 1 ∨ 8 ≤ beAt b 0 1 ∨ (!(s.plot (beAt b 0 1)).active) = true) := by
    rw [ha]
    rintro (h | h | h)
    · exact h hb
    · omega
    · exact Bool.noConfusion h
  have hs : s.scrubbing (some (beAt b 0 1)) = false := by
    change (s.plot (beAt b 0 1)).teardown.isSome = false
    rw [ht]
    rfl
  unfold State.plotTeardown
  dsimp only
  rw [if_neg hn, hs]
  rfl

theorem plotScrubbed_ends {p : Nat} {x : Teardown} (ht : (s.plot p).teardown = some x) (hf : s.tearFirst = some p) (hb : s.plotBusy p = false)
    (hr : s.recallOpen HReq.tears = false) : exec (.plotScrubbed p) s = .next (s.tearEnd p x.began) := by
  have hn : ¬(s.tearFirst ≠ some p ∨ s.plotBusy p = true ∨ s.recallOpen HReq.tears = true) := by
    rw [hb, hr]
    rintro (h | h | h)
    · exact h hf
    · exact Bool.noConfusion h
    · exact Bool.noConfusion h
  change execPlotScrubbed p s = _
  unfold execPlotScrubbed
  rw [ht]
  dsimp only
  rw [if_neg hn]

end

/-! ### Reports and debug (13 R493, R505, R506; 16 R593-R595) -/

/-- A report counted. -/
def State.reported (s : State) : State := s.setSec { s.sec with reportSeq := s.sec.reportSeq + 1 }

theorem attest_reports {c : HCmd} (hc : s.commands n 0x02 b c) (hb : b.length = 32) (hl : s.sec.lcState ≠ lcTest) :
    exec (.attest n) s = .next (s.reported.hlDone n c hOk
      (s.reportBody n b ++ slice (Config.slhSign s.fuses.secret (s.reportBody n b)) 0 17088)) := by
  change execAttest n s = _
  unfold execAttest
  rw [State.hlRun_executes hc, hc.2.2.1, if_neg (not_not_intro hb), if_neg hl]
  rfl

theorem State.hlQosCommit_judged {st : Nat} (hb : b.length = 1) (h15 : beAt b 0 1 ≤ 15) (hl : s.lockRefuses 0x04000100 (some n) = false)
    (h : s.qosCommit (beAt b 0 1) = (st, s1)) : s.hlQosCommit n b = (st, beBytes 8 (s1.regWord .QOS_COMMIT_RESULT 0 0), s1) := by
  unfold State.hlQosCommit
  rw [if_neg (by omega), hl, if_neg Bool.false_ne_true, h]

theorem debugRead_waits {st : Nat} {d : Bytes} (hb : b.length = 10) (h1 : 8 ≤ beAt b 8 2) (h2 : beAt b 8 2 ≤ 8192)
    (hs : s.arm.debugScrubs (beAt b 0 8) (beAt b 8 2) = false) (h : s.arm.debugRead (beAt b 0 8) (beAt b 8 2) = (st, d, s1)) :
    commandWaits .debugRead 0x70 n s b st d s1 := commandWaits_of rfl fun c hp => by
  rw [hp, if_neg (by omega), hs, if_neg Bool.false_ne_true, h]

theorem debugWrite_waits {st : Nat} (h1 : 17 ≤ b.length) (h2 : b.length ≤ 8192) (hz : beAt b 8 8 = 0)
    (hs : s.arm.debugScrubs (beAt b 0 8) (b.length - 16) = false) (h : s.arm.debugWrite (beAt b 0 8) (b.drop 16) = (st, s1)) :
    commandWaits .debugWrite 0x71 n s b st [] s1 := commandWaits_of_simple rfl fun c hp => by
  have hl : (b.drop 16).length = b.length - 16 := List.length_drop
  have hn : ¬(b.drop 16 = [] ∨ 8176 < (b.drop 16).length ∨ beAt b 8 8 ≠ 0) := by
    rintro (h | h | h)
    · rw [h] at hl
      exact absurd hl.symm (by rw [List.length_nil]; omega)
    · omega
    · exact h hz
  rw [hp, if_neg hn, hl, hs, if_neg Bool.false_ne_true, h]

/-- A well-formed DEBUG_HALT of an engine runs in the row of its ACTION. -/
theorem State.haltRow_done {c : HCmd} {action e st : Nat} (hc : s.commands n 0x72 b c) (hb : b.length = 5) (hcls : beAt b 0 1 = 1)
    (hz : beAt b 1 1 = 0) (he : beAt b 2 2 = e) (ha : beAt b 4 1 = action) (h2 : action ≤ 2) (hs : s.scrubbing (s.plotOfEngine e) = false)
    (h : s.debugCount.debugHalt 1 e action = (st, t)) : s.haltRow n action = t.hlDone n c st [] := by
  obtain ⟨h1, -, hp, -⟩ := id hc
  have hbad : (c.payload.length != 5 || beAt c.payload 1 1 != 0 || decide (2 < beAt c.payload 4 1)) = false := by
    rw [hp, hb, hz, ha, decide_eq_false (by omega)]
    rfl
  unfold State.haltRow
  rw [h1]
  dsimp only
  rw [hbad, hp, ha, if_pos (Or.inl ⟨rfl, rfl⟩), State.hlSimple_executes hc, if_neg Bool.false_ne_true, hp, hcls, he, hs,
    if_neg (fun hn => Bool.noConfusion hn.2), h]

/-- An engine that debug halts (0), resumes (1) or steps. -/
def Eng.haltedBy (g : Eng) : Nat → Eng
  | 0 => { g with halted := true, stepMask := 0 }
  | 1 => { g with halted := false, stepMask := 0 }
  | _ => { g with stepMask := 2 ^ 65 - 1 }

theorem State.haltEngine_eq {action e : Nat} {u : State} (ht : s.touchAll (plotMask (s.plotOfEngine e)) e = u)
    (hp : s.pstate e = 0 ∨ s.pstate e = 1) (hpr : s.present .engine e = true) (hg : (u.eng e).halted = decide (action ≠ 0)) :
    s.haltEngine action e = (hOk, (u.setEng e ((u.eng e).haltedBy action)).raise 0xA020 sevNone 1 e [1, e] .op) := by
  have hn : ¬(s.pstate e = 2 ∨ s.pstate e = 3 ∨ s.pstate e = 5) := by omega
  unfold State.haltEngine
  dsimp only
  rw [if_neg hn, ht, if_neg (by rw [hpr]; exact Bool.false_ne_true)]
  match action, hg with
  | 0, hg => exact congrArg (Prod.mk hOk) (if_neg (by rw [hg]; exact Bool.false_ne_true))
  | 1, hg => exact congrArg (Prod.mk hOk) (if_pos hg)
  | _ + 2, hg => exact congrArg (Prod.mk hOk) (if_pos hg)

theorem State.haltEngine_shows {action e : Nat} (hp : s.pstate e = 0 ∨ s.pstate e = 1) (hpr : s.present .engine e = true)
    (hg : (s.eng e).halted = decide (action ≠ 0)) : ∃ t, s.haltEngine action e = (hOk, t) ∧ t.eng e = (s.eng e).haltedBy action
      ∧ { t.sec with plots := [] } = { s.sec with plots := [] } := by
  have hu : s.Leaves recordParts (s.touchAll (plotMask (s.plotOfEngine e)) e) := (State.Leaves.refl s).touchAll
  generalize htt : s.touchAll (plotMask (s.plotOfEngine e)) e = u at hu
  have he : u.eng e = s.eng e := congrArg (fun g : NTbl Eng => NTbl.at ({} : Eng) g e) hu.engs
  have hl : (u.setEng e ((s.eng e).haltedBy action)).Leaves raiseParts
      ((u.setEng e ((s.eng e).haltedBy action)).raise 0xA020 sevNone 1 e [1, e] .op) := (State.Leaves.refl _).raise
  refine ⟨_, (State.haltEngine_eq htt hp hpr (by rw [he]; exact hg)).trans (by rw [he]), ?_, (hl .sec rfl).trans (hu .sec rfl)⟩
  exact (congrArg (fun g : NTbl Eng => NTbl.at ({} : Eng) g e) hl.engs).trans (u.eng_setEng e _)

/-- What DEBUG_HALT of an engine gives: the access is counted and the engine halts, goes on or steps. -/
theorem debugHalt_gives {row : Nat → Instr} {action e : Nat} (hrow : exec (row n) s = .next (s.haltRow n action)) (hb : b.length = 5)
    (hcls : beAt b 0 1 = 1) (hz : beAt b 1 1 = 0) (he : beAt b 2 2 = e) (h8 : e < 8) (ha : beAt b 4 1 = action) (h2 : action ≤ 2)
    (hpr : s.present .engine e = true) (hs : s.scrubbing (s.plotOfEngine e) = false) (hp : s.pstate e = 0 ∨ s.pstate e = 1)
    (hg : (s.eng e).halted = decide (action ≠ 0)) : ∃ t, commandGives row 0x72 n s b hOk [] t ∧ t.eng e = (s.eng e).haltedBy action
      ∧ t.sec.debugUsed = true ∧ t.sec.debugCount = satAdd 32 s.sec.debugCount 1 := by
  obtain ⟨t, ht, heng, hsec⟩ := State.haltEngine_shows (s := s.debugCount) (action := action) hp hpr hg
  have hd : s.debugCount.debugHalt 1 e action = (hOk, t) := by
    unfold State.debugHalt
    rw [if_neg (Nat.not_lt.mpr h2), if_pos ⟨rfl, h8⟩, ht]
  exact ⟨t, fun c hc => hrow.trans (congrArg _ (State.haltRow_done hc hb hcls hz he ha h2 hs hd)), heng, congrArg Sec.debugUsed hsec,
    congrArg Sec.debugCount hsec⟩

theorem plotsAndDebug_holds : plotsAndDebug := by
  intro s s1 n b
  refine ⟨fun d hj hr hp h8 => ⟨?_, ?_⟩, fun hb h8 ha ht => ⟨?_, ?_⟩, fun p x ht hf hb hr => ⟨plotScrubbed_ends ht hf hb hr, ?_⟩,
    fun hb hl c hc => ⟨s.reported, _, attest_reports hc hb hl, rfl, rfl⟩, fun st hb h15 hl h => ?_,
    fun st d hb h1 h2 hs h => debugRead_waits hb h1 h2 hs h, fun st h1 h2 hz hs h => debugWrite_waits h1 h2 hz hs h,
    fun hb hcls hz e he h8 hpr hs hp => ⟨fun ha hg => ?_, fun ha hg => ?_, fun ha hg => ?_⟩⟩
  · exact commandGives_of (plotCreate_runs hj) fun c hpl => by rw [hpl]; exact State.plotCreate_makes hr hp h8
  · obtain ⟨hact, heng, hmap, hgen, -⟩ := Plot.core_inj (s.plotMake_shows d.plot d)
    exact ⟨hact, heng, hmap, hgen⟩
  · exact commandGives_of_simple rfl fun c hpl => by rw [hpl]; exact State.plotTeardown_begins hb h8 ha ht
  · obtain ⟨-, -, -, -, htd⟩ := Plot.core_inj (s.tearBegin_shows (beAt b 0 1))
    rw [htd]
    rfl
  · obtain ⟨hact, -, -, hgen, -⟩ := Plot.core_inj (s.tearEnd_shows p x.began)
    exact ⟨hact, hgen⟩
  · exact commandGives_of rfl fun c hpl => by rw [hpl]; exact State.hlQosCommit_judged hb h15 hl h
  · obtain ⟨t, hg, heng, hu, hc⟩ := debugHalt_gives (row := .debugHalt) (action := 0) rfl hb hcls hz he.symm h8 ha (by decide) hpr hs hp hg
    exact ⟨t, hg, by rw [heng]; rfl, hu, hc⟩
  · obtain ⟨t, hg, heng, -, -⟩ := debugHalt_gives (row := .debugResume) (action := 1) rfl hb hcls hz he.symm h8 ha (by decide) hpr hs hp hg
    exact ⟨t, hg, by rw [heng]; rfl, by rw [heng]; rfl⟩
  · obtain ⟨t, hgv, heng, -, -⟩ := debugHalt_gives (row := .debugStep) (action := 2) rfl hb hcls hz he.symm h8 ha (by decide) hpr hs hp hg
    exact ⟨t, hgv, by rw [heng]; exact hg, by rw [heng]; rfl⟩

/-- Settles O55: replies leave, and sessions' commands reach registers, memory, firmware, training, plots, reports and debug. -/
theorem sessionCommands : Obligations.SessionCommands :=
  ⟨repliesLeave_holds, sessionAccesses_holds, firmwareAndTraining_holds, plotsAndDebug_holds⟩

end Sys2Proof.Machine
end

section
-- One proof after the other: many waiting at once would hold too much memory when the text is checked as one.
set_option Elab.async false
/-! Sessions, claims, locks and mailboxes (12 R445-R475; 13 R490-R492). -/

namespace Sys2Proof.Machine

variable {s t s1 : State} {n k : Nat} {b : Bytes}

/-! ### What events leave of the Headland -/

/-- A session but for the events that wait to be sent. -/
def Session.still (x : Session) : Session := { x with unsent := [], lost := 0 }

/-- The Headland but for its sessions and its log. -/
def State.hlRest (s : State) : Hl := { s.hl with sessions := [], log := [], moduleSeq := 0 }

theorem State.deliver_still (e : Event) (s : State) (n k : Nat) :
    (State.deliver e s n).hlRest = s.hlRest ∧ ((State.deliver e s n).sess k).still = (s.sess k).still := by
  have hs : ∀ v : Session, v.still = (s.sess n).still → ((s.setSess n v).sess k).still = (s.sess k).still :=
    fun v hv => NTbl.at_put_view Session.still hv k
  unfold State.deliver
  dsimp only
  split
  · split
    · exact ⟨rfl, hs _ rfl⟩
    · exact ⟨rfl, hs _ rfl⟩
  · exact ⟨rfl, rfl⟩

/-- What neither the delivery of an event nor the log nor a fatal error changes, an event does not change. -/
theorem State.view_raise {α : Type} (g : State → α) (hf : ∀ (t : State) a b c, g (t.fatal a b c) = g t)
    (hd : ∀ e (t : State) n, g (State.deliver e t n) = g t)
    (hl : ∀ (t : State) L q, g { t with hl := { t.hl with log := L, moduleSeq := q } } = g t)
    (s : State) (code sev ucls unit : Nat) (detail : List Nat) (sc : Scope) (plot : Option Nat) :
    g (s.raise code sev ucls unit detail sc plot) = g s := by
  unfold State.raise
  dsimp only
  split
  · exact (hf ..).trans ((foldl_leaves g _ _ (hd _) _).trans (hl ..))
  · exact (foldl_leaves g _ _ (hd _) _).trans (hl ..)

theorem State.hlRest_raise (s : State) (code sev ucls unit : Nat) (detail : List Nat) (sc : Scope) (plot : Option Nat) :
    (s.raise code sev ucls unit detail sc plot).hlRest = s.hlRest :=
  State.view_raise State.hlRest (fun t a b c => congrArg (fun h : Hl => { h with sessions := [], log := [], moduleSeq := 0 }) (t.hl_fatal a b c))
    (fun e t n => (t.deliver_still e n 0).1) (fun _ _ _ => rfl) ..

theorem State.still_raise (s : State) (code sev ucls unit : Nat) (detail : List Nat) (sc : Scope) (plot : Option Nat) (k : Nat) :
    ((s.raise code sev ucls unit detail sc plot).sess k).still = (s.sess k).still :=
  State.view_raise (fun t => (t.sess k).still)
    (fun t a b c => congrArg (fun h : Hl => (NTbl.at ({} : Session) h.sessions k).still) (t.hl_fatal a b c))
    (fun e t n => (t.deliver_still e n k).2) (fun _ _ _ => rfl) ..

/-! ### Claims (12 R463, R464) -/

theorem State.hl_coClose (s : State) : s.coClose.hl = s.hl := ((State.Leaves.refl (P := coParts) s).coClose).hl

theorem State.hl_setClaim (s : State) (k : Nat) (x : Holder) :
    (s.setClaim k x).hl = { s.hl with claims := NTbl.put .free s.hl.claims k x } := by
  unfold State.setClaim
  dsimp only
  split
  · exact State.hl_coClose _
  · rfl

theorem State.claimOf_setClaim_same (s : State) (k : Nat) (x : Holder) : (s.setClaim k x).claimOf k = x := by
  unfold State.claimOf
  rw [State.hl_setClaim]
  exact NTbl.at_put_same ..

theorem State.claimOf_setClaim_ne (s : State) {k j : Nat} (x : Holder) (h : j ≠ k) : (s.setClaim k x).claimOf j = s.claimOf j := by
  unfold State.claimOf
  rw [State.hl_setClaim]
  exact NTbl.at_put_ne _ _ _ h

/-- A free resource goes to who claims it. -/
theorem State.claim_free {x : Holder} (hf : s.claimOf k = .free) (hl : s.lockAt 1 k = none) (hx : x ≠ .free) :
    s.claim k x = (hOk, s.setClaim k x) := by
  unfold State.claim
  rw [hf, hl, if_neg (Ne.symm hx)]
  rfl

theorem State.claim_busy {x y : Holder} (hf : s.claimOf k = y) (hl : s.lockAt 1 k = none) (hx : y ≠ x) (hy : y ≠ .free) :
    s.claim k x = (hBusy, s) := by
  unfold State.claim
  rw [hf, hl, if_neg hx]
  dsimp only
  rw [if_neg Bool.false_ne_true, if_neg hy]

theorem State.unclaim_holder {x : Holder} (hf : s.claimOf k = x) : s.unclaim k x = (hOk, s.setClaim k .free) := if_pos hf

theorem State.unclaim_other {x y : Holder} (hf : s.claimOf k = y) (hx : y ≠ x) (hy : y ≠ .free) : s.unclaim k x = (hOwned, s) := by
  unfold State.unclaim
  rw [hf, if_neg hx, if_neg hy]

theorem State.claimant_operator (h4 : k < 4) (ho : s.isOperator n = true) : s.claimant k (.session n) = some (.session n) := if_pos ⟨h4, ho⟩

theorem State.claimant_ne_free {m : Master} {x : Holder} (h : s.claimant k m = some x) : x ≠ .free := by
  rintro rfl
  cases m with
  | session n =>
    change (if k < 4 ∧ s.isOperator n = true then some (Holder.session n) else none) = some .free at h
    split at h
    · cases h
    · cases h
  | onModule id =>
    change (if k < 4 ∧ mayClaim k id = true then some (Holder.master id) else none) = some .free at h
    split at h
    · cases h
    · cases h

theorem State.hlClaim_judged {st : Nat} (hb : b.length = 1) (hk : beAt b 0 1 = k) (h4 : k < 4) (ho : s.isOperator n = true)
    (h : s.claim k (.session n) = (st, t)) : s.hlClaim n b = (st, if st = hOk then beBytes 8 (t.claimOf k).word else [], t) := by
  unfold State.hlClaim
  dsimp only
  rw [hk, if_neg (by omega), State.claimant_operator h4 ho]
  dsimp only
  rw [h]

theorem State.hlRelease_judged (hb : b.length = 1) (hk : beAt b 0 1 = k) (h4 : k < 4) (ho : s.isOperator n = true) :
    s.hlRelease n b = s.unclaim k (.session n) := by
  unfold State.hlRelease
  dsimp only
  rw [hk, if_neg (by omega), State.claimant_operator h4 ho]

/-! ### Locks (12 R465, R466) -/

/-- A lockable block that nobody has locked takes the first free place of the table. -/
theorem State.lock_free {x i : Nat} (hl : lockable 0 x = true) (ho : s.isOperator n = true) (ha : s.lockAt 0 x = none)
    (hi : (List.range 32).find? (fun i => decide (NTbl.at none s.hl.locks i = none)) = some i) :
    s.lock n 0 x = (hOk, 0xFF, s.setLock i (some { session := n, kind := 0, target := x })) := by
  unfold State.lock
  dsimp only
  rw [hl, ho, if_neg (by decide), if_neg (fun h => absurd h.1 (by decide)), ha, hi]
  rfl

theorem State.unlock_own {x i : Nat} {l : LockEnt} (hl : lockable 0 x = true) (ha : s.lockAt 0 x = some (i, l)) (hn : l.session = n) :
    s.unlock n 0 x = (hOk, s.setLock i none) := by
  unfold State.unlock
  rw [hl, if_neg (by decide), ha]
  exact if_pos hn

theorem lock_gives {st rev x : Nat} (hf : lockForm b = true) (h0 : beAt b 0 1 = 0) (hx : beAt b 4 4 = x) (hs : s.targetScrubs 0 x = false)
    (h : s.lock n 0 x = (st, rev, t)) : commandGives .lock 0x52 n s b st (if st = hOk then beBytes 1 rev else []) t :=
  commandGives_of rfl fun c hp => by
    dsimp only
    rw [hp, hf, h0, hx, hs, if_neg (by decide), if_neg (by decide), h]

theorem unlock_gives {st x : Nat} (hf : lockForm b = true) (h0 : beAt b 0 1 = 0) (hx : beAt b 4 4 = x) (hs : s.targetScrubs 0 x = false)
    (h : s.unlock n 0 x = (st, t)) : commandGives .unlock 0x53 n s b st [] t :=
  commandGives_of_simple rfl fun c hp => by
    dsimp only
    rw [hp, hf, h0, hx, hs, if_neg (by decide), if_neg (by decide), h]

/-- HELD in HL_CLAIM claims and releases for its master. -/
theorem State.heldWrite_claims {m : Master} {x : Holder} (hm : s.claimant k m = some x) :
    s.heldWrite k (2 ^ 31) m = s.claim k x ∧ s.heldWrite k 0 m = s.unclaim k x := by
  unfold State.heldWrite
  rw [hm]
  exact ⟨rfl, rfl⟩

theorem claimsAndLocks_holds : claimsAndLocks := by
  intro s n k b m
  refine ⟨fun hb hk h4 ho => ⟨fun hf hl => ⟨?_, State.claimOf_setClaim_same ..⟩, fun hf => ⟨?_, State.claimOf_setClaim_same ..⟩,
      fun j hj hf hl => ⟨?_, ?_⟩⟩, fun x i hf h0 hx hs hl ho ha hi => lock_gives hf h0 hx hs (State.lock_free hl ho ha hi),
    fun x i l hf h0 hx hs hl ha hn => unlock_gives hf h0 hx hs (State.unlock_own hl ha hn), fun h hm hf hl => ?_, fun h hm hf hn => ?_⟩
  · refine commandGives_of rfl fun c hp => ?_
    rw [hp, State.hlClaim_judged hb hk h4 ho (State.claim_free hf hl Holder.noConfusion), if_pos rfl, State.claimOf_setClaim_same]
  · exact commandGives_of_simple rfl fun c hp => by rw [hp, State.hlRelease_judged hb hk h4 ho, State.unclaim_holder hf]
  · have hne : Holder.session j ≠ .session n := fun h => hj (Holder.session.inj h)
    refine commandGives_of rfl fun c hp => ?_
    rw [hp, State.hlClaim_judged hb hk h4 ho (State.claim_busy hf hl hne Holder.noConfusion)]
    rfl
  · have hne : Holder.session j ≠ .session n := fun h => hj (Holder.session.inj h)
    exact commandGives_of_simple rfl fun c hp => by
      rw [hp, State.hlRelease_judged hb hk h4 ho, State.unclaim_other hf hne Holder.noConfusion]
  · exact writeGives_of (fun _ => rfl) ((State.blockWrite_write7 (by decide)).trans
      ((State.heldWrite_claims hm).1.trans (State.claim_free hf hl (State.claimant_ne_free hm))))
  · exact writeGives_of (fun _ => rfl) ((State.blockWrite_write7 (by decide)).trans
      ((State.heldWrite_claims hm).2.trans (State.unclaim_holder hf)))

/-! ### Mailboxes (12 R471-R474) -/

theorem State.mb_setMb (s : State) (c : Nat) (v : Mbox) : (s.setMb c v).mb c = v := NTbl.at_put_same ..

theorem State.mb_setMb_ne (s : State) {c d : Nat} (v : Mbox) (h : d ≠ c) : (s.setMb c v).mb d = s.mb d := NTbl.at_put_ne _ _ _ h

theorem State.hlRest_emitIf (s : State) (o : Out) {p : Prop} [Decidable p] : (if p then s.emit o else s).hlRest = s.hlRest := by
  split <;> rfl

theorem State.hlRest_mbNote (s : State) (c : Nat) : (s.mbNote c).hlRest = s.hlRest := by
  unfold State.mbNote
  dsimp only
  refine (State.hlRest_emitIf ..).trans ((State.hlRest_emitIf ..).trans ?_)
  split
  · exact State.hlRest_raise ..
  · rfl

theorem State.mb_mbNote (s : State) (c d : Nat) : (s.mbNote c).mb d = s.mb d := by
  have h : (s.mbNote c).hl.mbox = s.hl.mbox := by
    have h := congrArg Hl.mbox (s.hlRest_mbNote c)
    exact h
  exact congrArg (fun l : NTbl Mbox => NTbl.at ({} : Mbox) l d) h

/-- A channel in its next state, and the note of it. -/
theorem State.mbMove_shows (s : State) (c : Nat) (v : Mbox) : s.mbMove c v = (hOk, (s.setMb c v).mbNote c) ∧ ((s.setMb c v).mbNote c).mb c = v :=
  ⟨rfl, (State.mb_mbNote ..).trans (State.mb_setMb ..)⟩

/-- What the channel of a mailbox becomes when a message is posted. -/
def Mbox.posting (x : Mbox) (len : Nat) (m : Master) : Mbox :=
  { x with st := .posted, len, senderId := x.bind.sender, session := (match m with
      | .session n => some n
      | .onModule _ => none), posts := satAdd 32 x.posts 1 }

section

variable {c : Nat} {m : Master}

theorem State.mbPost_posts {len : Nat} (h1 : 1 ≤ len) (h2 : len ≤ 256) (hs : s.mbSends c m = true) (he : (s.mb c).st = .empty) :
    s.mbPost c len m = s.mbMove c ((s.mb c).posting len m) := by
  unfold State.mbPost
  dsimp only
  rw [if_neg (by omega), hs, if_neg (by decide), if_neg (not_not_intro he)]
  rfl

theorem State.mbTake_takes (hr : s.mbReceives c m = true) (hp : (s.mb c).st = .posted) :
    s.mbTake c m = s.mbMove c { s.mb c with st := .taken } := by
  unfold State.mbTake
  dsimp only
  rw [hr, if_neg (by decide), if_neg (not_not_intro hp)]

theorem State.mbAck_acks {code : Nat} (hr : s.mbReceives c m = true) (hp : (s.mb c).st = .posted ∨ (s.mb c).st = .taken) :
    s.mbAck c code m = s.mbMove c { s.mb c with st := .acked, ackCode := code } := by
  unfold State.mbAck
  dsimp only
  rw [hr, if_neg (by decide), if_neg fun h => hp.elim h.1 h.2]

theorem State.mbClear_clears (hs : s.mbSends c m = true) (hp : (s.mb c).st = .acked ∨ (s.mb c).st = .aborted) :
    s.mbClear c m = s.mbMove c { s.mb c with st := .empty } := by
  unfold State.mbClear
  dsimp only
  rw [hs, if_neg (by decide), if_neg fun h => hp.elim h.1 h.2]

theorem State.mbGate_open (h : c < 64) (hs : s.scrubbing (s.mb c).bind.scopePlot = false) : s.mbGate c = none := by
  unfold State.mbGate
  rw [if_neg (by omega), hs, if_neg Bool.false_ne_true]

/-- The slot that MBOX_POST fills. -/
def State.mbFilled (t : State) (c len : Nat) (b : Bytes) : State :=
  t.setMb c { t.mb c with slot := patch (slice (t.mb c).slot 0 256) 0 (slice b 8 len) }

theorem slice_patch_zero (b d : Bytes) : slice (patch b 0 d) 0 d.length = d := by
  have h : patch b 0 d = d ++ b.drop (0 + d.length) := by
    unfold patch
    rw [List.take_zero, List.nil_append]
  rw [h]
  exact slice_append_left _ rfl

/-- All that follows a place, as the bytes that stand there. -/
theorem slice_eq_drop {b : Bytes} {o len : Nat} (h : b.length = o + len) : slice b o len = b.drop o := by
  have hl : (b.drop o).length = len := by rw [List.length_drop]; omega
  unfold slice
  dsimp only
  rw [List.take_of_length_le (Nat.le_of_eq hl), hl, Nat.sub_self]
  exact List.append_nil _

theorem State.hlPost_posts (hc : beAt b 0 1 = c) (h64 : c < 64) (hs : s.scrubbing (s.mb c).bind.scopePlot = false) (h1 : beAt b 1 1 = 0)
    (h4 : beAt b 4 4 = 0) (hl : b.length = 8 + beAt b 2 2) (ha : 1 ≤ beAt b 2 2) (hb : beAt b 2 2 ≤ 256)
    (hm : s.mbSends c (.session n) = true) (he : (s.mb c).st = .empty) : s.hlPost n b
      = (hOk, ((s.setMb c ((s.mb c).posting (beAt b 2 2) (.session n))).mbNote c).mbFilled c (beAt b 2 2) b) := by
  have hn : ¬(beAt b 1 1 ≠ 0 ∨ beAt b 4 4 ≠ 0 ∨ b.length ≠ 8 + beAt b 2 2) := by
    rintro (h | h | h)
    · exact h h1
    · exact h h4
    · exact h hl
  unfold State.hlPost
  dsimp only
  rw [if_neg hn, hc, State.mbGate_open h64 hs]
  dsimp only
  rw [State.mbPost_posts ha hb hm he, (State.mbMove_shows ..).1]
  rfl

theorem mboxPost_gives (hc : beAt b 0 1 = c) (h64 : c < 64) (hs : s.scrubbing (s.mb c).bind.scopePlot = false) (h1 : beAt b 1 1 = 0)
    (h4 : beAt b 4 4 = 0) (hl : b.length = 8 + beAt b 2 2) (ha : 1 ≤ beAt b 2 2) (hb : beAt b 2 2 ≤ 256)
    (hm : s.mbSends c (.session n) = true) (he : (s.mb c).st = .empty) : ∃ t, commandGives .mboxPost 0x40 n s b hOk [] t
      ∧ (t.mb c).st = .posted ∧ (t.mb c).len = beAt b 2 2 ∧ (t.mb c).session = some n ∧ slice (t.mb c).slot 0 (beAt b 2 2) = b.drop 8 := by
  have hp := State.hlPost_posts hc h64 hs h1 h4 hl ha hb hm he
  have hv := (s.mbMove_shows c ((s.mb c).posting (beAt b 2 2) (.session n))).2
  generalize (s.setMb c ((s.mb c).posting (beAt b 2 2) (.session n))).mbNote c = u at hp hv
  have ht : (u.mbFilled c (beAt b 2 2) b).mb c = { u.mb c with slot := patch (slice (u.mb c).slot 0 256) 0 (slice b 8 (beAt b 2 2)) } :=
    State.mb_setMb ..
  have hd : (slice b 8 (beAt b 2 2)).length = beAt b 2 2 := slice_length ..
  refine ⟨_, commandGives_of_simple rfl fun c hcp => by rw [hcp]; exact hp, ?_⟩
  rw [ht, hv]
  refine ⟨rfl, rfl, rfl, ?_⟩
  have h := slice_patch_zero (slice (u.mb c).slot 0 256) (slice b 8 (beAt b 2 2))
  rw [hd, slice_eq_drop hl, hv] at h
  rw [slice_eq_drop hl]
  exact h

theorem State.hlTake_takes (hc : beAt b 0 1 = c) (h64 : c < 64) (hs : s.scrubbing (s.mb c).bind.scopePlot = false) (hb : b.length = 1)
    (hr : s.mbReceives c (.session n) = true) (hp : (s.mb c).st = .posted) : s.hlTake n b
      = (hOk, beBytes 8 (s.mb c).word ++ slice (s.mb c).slot 0 (s.mb c).len, (s.setMb c { s.mb c with st := .taken }).mbNote c) := by
  unfold State.hlTake
  dsimp only
  rw [hc, if_neg (not_not_intro hb), State.mbGate_open h64 hs]
  dsimp only
  rw [hr, if_pos rfl, State.mbTake_takes hr hp]
  rfl

theorem State.hlTake_clears (hc : beAt b 0 1 = c) (h64 : c < 64) (hs : s.scrubbing (s.mb c).bind.scopePlot = false) (hb : b.length = 1)
    (hr : s.mbReceives c (.session n) = false) (hm : s.mbSends c (.session n) = true)
    (hp : (s.mb c).st = .acked ∨ (s.mb c).st = .aborted) : s.hlTake n b
      = (hOk, beBytes 8 (s.mb c).word, (s.setMb c { s.mb c with st := .empty }).mbNote c) := by
  unfold State.hlTake
  dsimp only
  rw [hc, if_neg (not_not_intro hb), State.mbGate_open h64 hs]
  dsimp only
  rw [hr, if_neg Bool.false_ne_true, State.mbClear_clears hm hp]
  exact congrArg (fun x => (hOk, x, _)) (List.append_nil _)

theorem State.hlAck_acks (hc : beAt b 0 1 = c) (h64 : c < 64) (hs : s.scrubbing (s.mb c).bind.scopePlot = false) (hb : b.length = 4)
    (h1 : beAt b 1 1 = 0) (hr : s.mbReceives c (.session n) = true) (hp : (s.mb c).st = .posted ∨ (s.mb c).st = .taken) : s.hlAck n b
      = (hOk, (s.setMb c { s.mb c with st := .acked, ackCode := beAt b 2 2 }).mbNote c) := by
  have hn : ¬(b.length ≠ 4 ∨ beAt b 1 1 ≠ 0) := by
    rintro (h | h)
    · exact h hb
    · exact h h1
  unfold State.hlAck
  dsimp only
  rw [hc, if_neg hn, State.mbGate_open h64 hs]
  exact State.mbAck_acks hr hp

/-- HL_MBOX_CTL acts by its ACTION. -/
theorem mbCtl_gives {row : Instr} {w : Nat} (hrow : ∀ s0, exec row s0 = .next (s0.regSend m .HL_MBOX_CTL c 0 w)) (hw : bits w 2 0 ≠ 0)
    (h : s.mbCtl c w m = (hOk, t)) : writeGives row m .HL_MBOX_CTL c 0 w s t :=
  writeGives_of hrow ((State.blockWrite_write7 (by decide)).trans ((if_neg hw).trans h))

theorem bits_action (v : Nat) {a : Nat} (h : a < 8) : bits (putBits v 2 0 a) 2 0 = a :=
  (bits_putBits v 2 0 a (by decide)).trans (Nat.mod_eq_of_lt h)

/-- ACTION selects what a write of HL_MBOX_CTL does. -/
theorem State.mbCtl_action (s : State) (c w : Nat) (m : Master) :
    (bits w 2 0 = 1 → s.mbCtl c w m = s.mbPost c (bits w 40 32) m) ∧ (bits w 2 0 = 2 → s.mbCtl c w m = s.mbTake c m)
    ∧ (bits w 2 0 = 3 → s.mbCtl c w m = s.mbAck c (bits w 63 48) m) ∧ (bits w 2 0 = 4 → s.mbCtl c w m = s.mbClear c m) := by
  unfold State.mbCtl
  refine ⟨fun h => ?_, fun h => ?_, fun h => ?_, fun h => ?_⟩ <;> simp only [h]

end

/-- The binding table once its image has been read. -/
def State.mbTable (s : State) (ok : Bool) (d : Bytes) : State :=
  (List.range 64).foldl (fun s c => s.setMb c { s.mb c with bind := if ok then bindOf (leAt d (8 * c) 8) else {} }) s

theorem State.mb_mbTable (s : State) (ok : Bool) (d : Bytes) {c : Nat} (h : c < 64) :
    (s.mbTable ok d).mb c = { s.mb c with bind := if ok then bindOf (leAt d (8 * c) 8) else {} } := by
  have hl : ∀ (l : List Nat) (t : State), l.Nodup → c ∈ l →
      (l.foldl (fun s c => s.setMb c { s.mb c with bind := if ok then bindOf (leAt d (8 * c) 8) else {} }) t).mb c
        = { t.mb c with bind := if ok then bindOf (leAt d (8 * c) 8) else {} } := by
    intro l
    induction l with
    | nil => exact fun _ _ h => absurd h List.not_mem_nil
    | cons x l ih =>
      intro t hd hc
      obtain ⟨hx, hd⟩ := List.nodup_cons.mp hd
      by_cases he : c = x
      · subst he
        have hk : ∀ u : State, (l.foldl (fun s c => s.setMb c { s.mb c with bind := if ok then bindOf (leAt d (8 * c) 8) else {} }) u).mb c
            = u.mb c := fun u => by
          refine List.foldlRecOn (motive := fun v : State => v.mb c = u.mb c) _ _ rfl fun v hv y hy => ?_
          exact (State.mb_setMb_ne _ _ (fun h => hx (by rw [h]; exact hy))).trans hv
        exact (hk _).trans (State.mb_setMb ..)
      · refine (ih _ hd ((List.mem_cons.mp hc).resolve_left he)).trans ?_
        rw [State.mb_setMb_ne _ _ he]
  exact hl _ s List.nodup_range (List.mem_range.mpr h)

/-- The table once it is read, with its address, and locked. -/
def State.mbBound (s : State) (ok : Bool) (d : Bytes) (a : Nat) : State :=
  let s2 := (s.mbTable ok d).setF .HL_MBOX_BIND_SRC_ADDR 0 0 a
  (s2.setHl { s2.hl with bindLoaded := true, bindErr := !ok }).rwlLock 0x07000800

theorem State.mbBind_loads {w : Nat} {r : RdRes} (h2 : 2 ≤ s.stage) (hl : s.rwlLocked 0x07000800 = false)
    (hr : s.rd { id := 0x60, plot := none } (bits w 51 9 * 512) 512 = (r, s1)) (hst : r.status = stOk) :
    s.mbBind w = (hOk, s1.mbBound true r.data (bits w 51 9)) := by
  unfold State.mbBind
  rw [hl, if_neg Bool.false_ne_true, if_neg (by omega), hr]
  dsimp only
  rw [hst]
  rfl

theorem mailboxes_holds : mailboxes := by
  intro s n ch b m v h64
  refine ⟨fun hc hs => ⟨fun h1 h4 hl ha hb hm he => mboxPost_gives hc h64 hs h1 h4 hl ha hb hm he, fun hb hr hp => ?_, fun hb hr hm hp => ?_,
    fun hb h1 hr hp => ?_⟩, fun hm he h1 h2 => ?_, fun hr hp => ?_, fun hr hp => ?_, fun hm hp => ?_, fun r s1 h2 hl hr hst => ?_⟩
  · have hv := (s.mbMove_shows ch { s.mb ch with st := .taken }).2
    exact ⟨_, commandGives_of rfl fun c hcp => by rw [hcp]; exact State.hlTake_takes hc h64 hs hb hr hp, congrArg Mbox.st hv,
      (congrArg Mbox.slot hv).trans rfl⟩
  · have hv := (s.mbMove_shows ch { s.mb ch with st := .empty }).2
    exact ⟨_, commandGives_of rfl fun c hcp => by rw [hcp]; exact State.hlTake_clears hc h64 hs hb hr hm hp, congrArg Mbox.st hv⟩
  · have hv := (s.mbMove_shows ch { s.mb ch with st := .acked, ackCode := beAt b 2 2 }).2
    exact ⟨_, commandGives_of_simple rfl fun c hcp => by rw [hcp]; exact State.hlAck_acks hc h64 hs hb h1 hr hp, congrArg Mbox.st hv,
      congrArg Mbox.ackCode hv⟩
  · have ha := bits_action v.toNat (a := 1) (by decide)
    obtain ⟨hmv, hv⟩ := s.mbMove_shows ch ((s.mb ch).posting (bits (putBits v.toNat 2 0 1) 40 32) m)
    have hx := ((s.mbCtl_action ch (putBits v.toNat 2 0 1) m).1 ha).trans ((State.mbPost_posts h1 h2 hm he).trans hmv)
    exact ⟨_, mbCtl_gives (fun _ => rfl) (by rw [ha]; decide) hx, congrArg Mbox.st hv, congrArg Mbox.len hv, congrArg Mbox.posts hv⟩
  · have ha := bits_action v.toNat (a := 2) (by decide)
    obtain ⟨hmv, hv⟩ := s.mbMove_shows ch { s.mb ch with st := .taken }
    have hx := ((s.mbCtl_action ch (putBits v.toNat 2 0 2) m).2.1 ha).trans ((State.mbTake_takes hr hp).trans hmv)
    exact ⟨_, mbCtl_gives (fun _ => rfl) (by rw [ha]; decide) hx, congrArg Mbox.st hv⟩
  · have ha := bits_action v.toNat (a := 3) (by decide)
    obtain ⟨hmv, hv⟩ := s.mbMove_shows ch { s.mb ch with st := .acked, ackCode := bits (putBits v.toNat 2 0 3) 63 48 }
    have hx := ((s.mbCtl_action ch (putBits v.toNat 2 0 3) m).2.2.1 ha).trans ((State.mbAck_acks hr hp).trans hmv)
    exact ⟨_, mbCtl_gives (fun _ => rfl) (by rw [ha]; decide) hx, congrArg Mbox.st hv, congrArg Mbox.ackCode hv⟩
  · have ha := bits_action v.toNat (a := 4) (by decide)
    obtain ⟨hmv, hv⟩ := s.mbMove_shows ch { s.mb ch with st := .empty }
    have hx := ((s.mbCtl_action ch (putBits v.toNat 2 0 4) m).2.2.2 ha).trans ((State.mbClear_clears hm hp).trans hmv)
    exact ⟨_, mbCtl_gives (fun _ => rfl) (by rw [ha]; decide) hx, congrArg Mbox.st hv⟩
  · have hx := State.mbBind_loads h2 hl hr hst
    have hmb : (s1.mbBound true r.data (bits v.toNat 51 9)).mb ch = (s1.mbTable true r.data).mb ch := rfl
    refine ⟨_, writeWaits_of v.isLt (fun _ => rfl) ((State.blockWrite_write7 (by decide)).trans hx), rfl, rfl, ?_, State.f_setF_same ..⟩
    rw [hmb, State.mb_mbTable _ _ _ h64]
    rfl

/-! ### Datagrams (12 R443-R447) -/

section

variable {d : Datagram}

theorem headlandDatagram_takes (h : s.hlHears = true) : exec (.headlandDatagram d) s = .next (s.hlDatagram d) :=
  congrArg Host.Outcome.next (if_pos h)

theorem dgDiscovers_sized (h : dgDiscovers d = true) : dgSized d = true := by
  unfold dgDiscovers at h
  exact ((Bool.and_eq_true _ _).mp ((Bool.and_eq_true _ _).mp h).1).1

theorem State.hlDatagram_discovers (h : dgDiscovers d = true) : s.hlDatagram d = s.discover d := by
  unfold State.hlDatagram
  rw [dgDiscovers_sized h, if_neg (by decide), if_pos h]

theorem State.hlDatagram_unsized (h : dgSized d = false) : s.hlDatagram d = s.hlDrop := by
  unfold State.hlDatagram
  rw [h]
  rfl

/-- A well-formed command for an open session meets its tag. -/
theorem State.hlDatagram_command (hz : dgSized d = true) (hd : dgDiscovers d = false) (hs : s.sec.lcState ≠ lcScrap) (hu : d.dest = .unicast)
    (ho : dgOpcode d ≠ 0x03) (h1 : beAt d.bytes 0 1 = 1) (ht : dgType d = 0) (hp : dgParts d = 1) (hn : dgSession d < 16)
    (hopen : (s.sess (dgSession d)).isOpen = true) : s.hlDatagram d = if !s.authOk d then s.hlDrop else s.hlAccept d := by
  have hf : ¬(beAt d.bytes 0 1 ≠ 1 ∨ dgType d ≠ 0 ∨ dgParts d ≠ 1 ∨ 16 ≤ dgSession d ∨ (!(s.sess (dgSession d)).isOpen) = true) := by
    rw [hopen]
    rintro (h | h | h | h | h)
    · exact h h1
    · exact h ht
    · exact h hp
    · omega
    · exact Bool.noConfusion h
  unfold State.hlDatagram
  rw [hz, hd, if_neg (by decide), if_neg Bool.false_ne_true, if_neg hs, if_neg (not_not_intro hu), if_neg (fun h => ho h.1), if_neg hf]

theorem State.discover_answers {p : Peer} (hp : s.replyPeer d = some p) (hb : 1000000 ≤ s.hl.bucket) :
    s.discover d = (s.setHl { s.hl with bucket := s.hl.bucket - 1000000 }).hlEmit (.discover · p (s.discoverReply d)) := by
  unfold State.discover
  rw [hp]
  exact if_neg (by omega)

theorem State.discover_limited {p : Peer} (hp : s.replyPeer d = some p) (hb : s.hl.bucket < 1000000) :
    s.discover d = s.count .HL_CNT_DISCOVER_LIMITED_COUNT 0 0 32 1 := by
  unfold State.discover
  rw [hp]
  exact if_pos hb

theorem State.hlHears_hlUp (h : s.hlHears = true) : s.hlUp = true := ((Bool.and_eq_true _ _).mp h).1

theorem State.bucket_hlEmit (s : State) (x : Nat) (o : TxHdr → Out) : ((s.setHl { s.hl with bucket := x }).hlEmit o).hl.bucket = x := by
  have h : (s.setHl { s.hl with bucket := x }).Leaves frameParts ((s.setHl { s.hl with bucket := x }).hlEmit o) := (State.Leaves.refl _).hlEmit
  exact congrArg Hl.bucket h.hl

theorem State.out_bucket (hu : s.hlUp = true) (hq : s.eth.txq = []) (hp : s.paused (s.f .ETH_CFG_HL_PRIO) = none) (x : Nat)
    (o : TxHdr → Out) : ((s.setHl { s.hl with bucket := x }).hlEmit o).out = s.out ++ [o s.hlHdr] :=
  State.out_hlEmit (s := s.setHl { s.hl with bucket := x }) hu hq hp o

end

/-! ### The life of a session (12 R445, R452; 13 R491) -/

theorem sessionOpen_checks {ip port tag : Nat} {a : OpenAsm} (hh : s.hlHears = true)
    (ha : s.hl.asm.find? (fun a => a.isFor ip port tag && a.complete) = some a) :
    exec (.sessionOpen ip port tag) s = .next ((s.setHl { s.hl with asm := s.hl.asm.erase a }).sessionOpen a) := by
  change execSessionOpen ip port tag s = _
  unfold execSessionOpen
  rw [ha]
  exact congrArg Host.Outcome.next (if_pos hh)

theorem State.closeOldest_none (h : s.unconfirmed.length < 4) : s.closeOldest = s := if_pos h

/-- An operator's open that every row of 13 R491 passes takes the first free number. -/
theorem State.sessionOpen_opens {a : OpenAsm} (h1 : openFormOk a.payload = true) (h2 : s.credentialOk a.payload = true)
    (h3 : s.openSigOk a.payload = true) (hf : s.sec.fatal = false) (hr : beAt a.payload 0 1 = 0) (hu : s.unconfirmed.length < 4)
    (hk : (List.range 16).find? s.numberFree = some k) (ho : s.openCount < 16) : s.sessionOpen a = s.openSession k a a.payload := by
  have hn : ¬(s.openCount = 16 ∨ (List.range 16).all (fun n => !s.numberFree n) = true) := by
    rintro (h | h)
    · omega
    · have hx := List.all_eq_true.mp h k (List.mem_of_find?_eq_some hk)
      rw [List.find?_some hk] at hx
      exact Bool.noConfusion hx
  unfold State.sessionOpen
  dsimp only
  rw [h1, h2, h3, if_neg (by decide), hf, if_neg Bool.false_ne_true, hr, if_neg (fun h => absurd h.1 (by decide)), if_neg hn,
    State.closeOldest_none hu, hk]

theorem State.openSession_shows (s : State) (k : Nat) (a : OpenAsm) (hr : beAt b 0 1 = 0) :
    ((s.openSession k a b).sess k).isOpen = true ∧ ((s.openSession k a b).sess k).plot = none := by
  have hv : ∀ (u : State) (x : Session) (v : Sec) (l : List Nat) (r : HReply) (p : Option Nat),
      ((((State.setSec (u.setSess k x) v).raise 0x7001 sevNone 12 k l .op p).hlSend r).sess k).still = x.still := fun u x v l r p => by
    rw [State.sess_hlSend, State.still_raise]
    exact congrArg Session.still (u.sess_setSess k x)
  have hx : ∀ {x y : Session}, x.still = y.still → x.isOpen = y.isOpen ∧ x.plot = y.plot := fun {x y} h =>
    ⟨(Session.mk.inj h).1, (Session.mk.inj h).2.1⟩
  unfold State.openSession
  obtain ⟨h1, h2⟩ := hx (hv _ _ _ _ _ _)
  refine ⟨h1, h2.trans ?_⟩
  rw [hr]
  rfl

theorem State.claims_giveUp (s : State) (n : Nat) {k : Nat} (hk : k < 4) : (s.giveUp n).claimOf k ≠ .session n := by
  have hl : ∀ (l : List Nat) (t : State), (k ∈ l ∨ t.claimOf k ≠ .session n) →
      (l.foldl (fun s k => if s.claimOf k = .session n then s.setClaim k .free else s) t).claimOf k ≠ .session n := by
    intro l
    induction l with
    | nil => exact fun t h => h.resolve_left List.not_mem_nil
    | cons x l ih =>
      intro t h
      refine ih _ ?_
      by_cases hkl : k ∈ l
      · exact .inl hkl
      · right
        dsimp only
        by_cases hx : k = x
        · subst hx
          split
          · rw [State.claimOf_setClaim_same]
            exact Holder.noConfusion
          · next hne => exact hne
        · have ht : t.claimOf k ≠ .session n := h.resolve_left fun hm => (List.mem_cons.mp hm).elim hx hkl
          split
          · rwa [State.claimOf_setClaim_ne _ _ hx]
          · exact ht
  have hg : ∀ u : State, ((List.range 4).foldl (fun s k => if s.claimOf k = .session n then s.setClaim k .free else s) s) = u →
      (s.giveUp n).claimOf k = u.claimOf k := fun u hu => by
    unfold State.giveUp
    rw [hu]
    dsimp only
    split
    · split <;> rfl
    · split <;> rfl
  rw [hg _ rfl]
  exact hl _ s (.inl (List.mem_range.mpr hk))

theorem State.claimOf_forget (s : State) (n k : Nat) : (s.forget n).claimOf k = s.claimOf k := rfl

/-- A session that closes is open no longer and holds nothing. -/
theorem State.sessClose_shows {cause : Nat} (ho : (s.sess n).isOpen = true) : ((s.sessClose n cause).sess n).isOpen = false
    ∧ ∀ k, k < 4 → (s.sessClose n cause).claimOf k ≠ .session n := by
  have hf : ∀ u : State, ((u.forget n).sess n).isOpen = false := fun u => by
    have h : (u.forget n).sess n = if (u.sess n).unsent = [] then {} else
        { plot := (u.sess n).plot, unsent := (u.sess n).unsent, evSeq := (u.sess n).evSeq, lost := (u.sess n).lost, peer := (u.sess n).peer,
          key := (u.sess n).key } := NTbl.at_put_same ..
    rw [h]
    split <;> rfl
  rw [State.sessClose_eq, if_neg (by rw [ho]; decide)]
  refine ⟨hf _, fun k hk => ?_⟩
  rw [State.claimOf_forget]
  exact State.claims_giveUp _ n hk

theorem State.hlNext_open {c : HCmd} (h : s.hlNext n = some c) : (s.sess n).isOpen = true := by
  unfold State.hlNext at h
  dsimp only at h
  split at h
  · next hc => exact hc.1
  · cases h

/-- A session that closes itself is answered first. -/
theorem sessionClose_own {c : HCmd} (hc : s.commands n 0x04 b c) (hb : b.length = 1) (hk : beAt b 0 1 = 0xFF) (hn : n < 16) :
    exec (.sessionClose n) s = .next ((s.hlReply n c hOk []).sessClose n 0) := by
  obtain ⟨h1, h2, h3, h4⟩ := hc
  have hf : ¬(b.length ≠ 1 ∨ 16 ≤ n ∨ (!(s.sess n).isOpen) = true) := by
    rw [State.hlNext_open h1]
    rintro (h | h | h)
    · exact h hb
    · omega
    · exact Bool.noConfusion h
  have ht : s.closeTarget n b = (hOk, n) := by
    unfold State.closeTarget
    dsimp only
    rw [hk, if_pos rfl, if_neg hf, if_neg (fun h => h.1 rfl)]
  change execSessionClose n s = _
  unfold execSessionClose
  rw [h1]
  dsimp only
  rw [h3, ht, if_pos ⟨h2, by rw [h4]; rfl, rfl, rfl⟩]

/-- An operator closes another session. -/
theorem sessionClose_other (hb : b.length = 1) (hk : beAt b 0 1 = k) (h16 : k < 16) (hne : k ≠ n) (ho : (s.sess k).isOpen = true)
    (hop : s.isOperator n = true) : commandGives .sessionClose 0x04 n s b hOk [] (s.sessClose k 1) := by
  have hf : ¬(b.length ≠ 1 ∨ 16 ≤ k ∨ (!(s.sess k).isOpen) = true) := by
    rw [ho]
    rintro (h | h | h)
    · exact h hb
    · omega
    · exact Bool.noConfusion h
  have ht : s.closeTarget n b = (hOk, k) := by
    unfold State.closeTarget
    dsimp only
    rw [hk, show (if k = 0xFF then n else k) = k from if_neg (by omega), if_neg hf, if_neg (fun h => absurd h.2 (by rw [hop]; decide))]
  intro c hc
  obtain ⟨h1, -, h3, -⟩ := id hc
  change execSessionClose n s = _
  unfold execSessionClose
  rw [h1]
  dsimp only
  rw [h3, ht, if_neg (fun h => hne h.2.2.2), State.hlSimple_executes hc]
  dsimp only
  rw [if_pos rfl]

/-! ### Events (12 R467-R469) and RESET_DEVICE (R460) -/

theorem eventSubscribe_gives {c : HCmd} (hc : s.commands n 0x48 b c) (hs : s.subCheck n b = hOk) : exec (.eventSubscribe n) s
    = .next ((((s.setSess n { s.sess n with sub := some (subOf b) }).hlDone n c hOk (beBytes 4 (s.sess n).evSeq)).replay n
        (beAt b 8 4)).logReplay n (beAt b 16 8)) := by
  obtain ⟨h1, h2, h3, h4⟩ := hc
  change execEventSubscribe n s = _
  unfold execEventSubscribe
  rw [h1]
  dsimp only
  rw [h3, if_pos ⟨h2, by rw [h4]; rfl, hs⟩]

theorem Session.after_open {x : Session} (ho : x.isOpen = true) (y : Session) : x.after y = y := by
  unfold Session.after
  rw [ho]
  rfl

/-- A session once one of its events has left with its next number. -/
def Session.sentOne (x y : Session) (lost : Nat) (e : Event) : Session :=
  let kept := x.sent ++ [(x.evSeq, lost, e)]
  { y with evSeq := x.evSeq + 1, sent := kept.drop (kept.length - 1024) }

/-- The state once an event of a session has left. -/
def State.eventOut (s : State) (n : Nat) (y : Session) (seq lost : Nat) (e : Event) : State :=
  (s.setSess n y).txStrict (.event s.hlHdr (s.sess n).peer n seq e ((s.sess n).eventPacket n seq lost e))

/-- Those resent leave first, then those of the log, then the next unsent one. -/
theorem eventSend_order (hu : s.hlUp = true) (ho : (s.sess n).isOpen = true) :
    (∀ a r, (s.sess n).again = a :: r → exec (.eventSend n) s = .next (s.eventOut n { s.sess n with again := r } a.1 a.2.1 a.2.2))
    ∧ (∀ e r, (s.sess n).again = [] → (s.sess n).relog = e :: r →
      exec (.eventSend n) s = .next (s.eventOut n ((s.sess n).sentOne { s.sess n with relog := r } 0 e) (s.sess n).evSeq 0 e))
    ∧ (∀ e r, (s.sess n).again = [] → (s.sess n).relog = [] → (s.sess n).unsent = e :: r →
      exec (.eventSend n) s = .next (s.eventOut n ((s.sess n).sentOne { s.sess n with unsent := r, lost := 0 } (s.sess n).lost e)
        (s.sess n).evSeq (s.sess n).lost e)) := by
  have hup : ¬(!s.hlUp) = true := by rw [hu]; decide
  refine ⟨fun a r h1 => ?_, fun e r h1 h2 => ?_, fun e r h1 h2 h3 => ?_⟩
  · change execEventSend n s = _
    unfold execEventSend State.eventOut
    dsimp only
    rw [if_neg hup, h1]
    dsimp only
    rw [Session.after_open ho]
  · change execEventSend n s = _
    unfold execEventSend State.eventOut Session.sentOne
    dsimp only
    rw [if_neg hup, h1, h2]
    dsimp only
    rw [Session.after_open ho]
  · change execEventSend n s = _
    unfold execEventSend State.eventOut Session.sentOne
    dsimp only
    rw [if_neg hup, h1, h2, h3]
    dsimp only
    rw [Session.after_open ho]

theorem State.sess_txStrict (s : State) (o : Out) (k : Nat) : (s.txStrict o).sess k = s.sess k := by
  have h : s.Leaves frameParts (s.txStrict o) := (State.Leaves.refl s).tx
  exact congrArg (fun h : Hl => NTbl.at ({} : Session) h.sessions k) h.hl

theorem State.eventOut_shows (s : State) (n : Nat) (y : Session) (seq lost : Nat) (e : Event) : (s.eventOut n y seq lost e).sess n = y :=
  (State.sess_txStrict ..).trans (State.sess_setSess ..)

theorem resetDevice_resets {c : HCmd} (hc : s.commands n 0x60 [] c) :
    exec (.resetDevice n) s = .next (((s.hlReply n c hOk []).hlQuiesce none).scheduleReset 1) := by
  obtain ⟨h1, h2, h3, h4⟩ := hc
  have hn : ¬(c.opcode ≠ 0x60 ∨ (s.hlRefusal n c).isSome = true ∨ c.payload ≠ []) := by
    rw [h2, h3, h4]
    decide
  change execResetDevice n s = _
  unfold execResetDevice
  rw [h1]
  dsimp only
  rw [if_neg hn]


theorem sessionLife_holds : sessionLife := by
  intro s n d b
  refine ⟨fun hh => ⟨fun hd => ⟨congrArg Host.Outcome.next (if_pos ⟨hh, hd⟩), ?_⟩, fun p hp hb => ?_, fun p hp hb => State.discover_limited hp hb,
      fun hz => ?_, fun hz hd hs hu ho h1 ht hp hn hopen => ?_, fun a ip port tag ha => sessionOpen_checks hh ha⟩,
    fun ip port tag => rfl, fun a h1 h2 h3 hf hr hu k hk ho => ⟨State.sessionOpen_opens h1 h2 h3 hf hr hu hk ho, s.openSession_shows k a hr⟩,
    fun c hc hb hk hn => sessionClose_own hc hb hk hn, fun k hb hk h16 hne ho hop => sessionClose_other hb hk h16 hne ho hop,
    fun h => congrArg Host.Outcome.next (if_neg h), fun h => congrArg Host.Outcome.next (if_neg (by rw [h]; exact Bool.false_ne_true)),
    fun ho _ => State.sessClose_shows ho, fun c hc hs => ⟨_, eventSubscribe_gives hc hs, rfl⟩,
    fun a r h1 hu ho => (eventSend_order hu ho).1 a r h1, fun e r h1 h2 hu ho => ?_, fun e r h1 h2 h3 hu ho => ?_,
    fun c hc => resetDevice_resets hc⟩
  · rw [headlandDatagram_takes hh, State.hlDatagram_discovers hd]
  · rw [State.discover_answers hp hb]
    refine ⟨s.bucket_hlEmit _ _, fun hq hpa => ?_⟩
    exact State.out_bucket (State.hlHears_hlUp hh) hq hpa _ _
  · rw [headlandDatagram_takes hh, State.hlDatagram_unsized hz]
  · have h := State.hlDatagram_command hz hd hs hu ho h1 ht hp hn hopen
    refine ⟨fun ha => ?_, fun ha => ?_⟩
    · rw [headlandDatagram_takes hh, h, ha]
      rfl
    · rw [headlandDatagram_takes hh, h, ha]
      rfl
  · have hs := s.eventOut_shows n ((s.sess n).sentOne { s.sess n with relog := r } 0 e) (s.sess n).evSeq 0 e
    exact ⟨_, (eventSend_order hu ho).2.1 e r h1 h2, (congrArg Session.relog hs).trans rfl, (congrArg Session.unsent hs).trans rfl,
      (congrArg Session.evSeq hs).trans rfl⟩
  · have hs := s.eventOut_shows n ((s.sess n).sentOne { s.sess n with unsent := r, lost := 0 } (s.sess n).lost e) (s.sess n).evSeq
      (s.sess n).lost e
    refine ⟨_, (eventSend_order hu ho).2.2 e r h1 h2 h3, (congrArg Session.unsent hs).trans rfl, (congrArg Session.evSeq hs).trans rfl,
      (congrArg Session.lost hs).trans rfl, fun hq hp => ?_⟩
    exact State.out_txStrict (s := s.setSess n _) (State.hlUp_ethUp hu) hq hp _

/-- Settles O56: claims, locks, mailboxes and the life of sessions are as their rows say. -/
theorem sessionsAndMailboxes : Obligations.SessionsAndMailboxes := ⟨claimsAndLocks_holds, mailboxes_holds, sessionLife_holds⟩

end Sys2Proof.Machine
end

section
-- One proof after the other: many waiting at once would hold too much memory when the text is checked as one.
set_option Elab.async false
/-! Rails, sensors and the governor (15 R545-R565). -/

namespace Sys2Proof.Machine

variable {s t u : State} {P : List Part}

/-! ### A caching agent that is lost (08 R318) -/

theorem State.Leaves.wakeAlloc (h : s.Leaves P t) {line : Nat} (hp : subParts homeParts P = true := by decide +kernel) :
    s.Leaves P (t.wakeAlloc line) := by
  unfold State.wakeAlloc
  split
  · exact h.sfAlloc hp
  · exact h

theorem State.Leaves.snoopsIn (h : s.Leaves P t) {x : HTxn} (hp : subParts homeParts P = true := by decide +kernel) :
    s.Leaves P (t.snoopsIn x) := by
  refine h.step (Q := homeParts) ?_ hp
  replace h := fun v => State.Leaves.setSf (line := x.line) (v := v) (.refl (P := homeParts) t)
  unfold State.snoopsIn
  exact .ite (h _).putHtxn.sfAlloc (.ite (h _).sendGrant (.ite (h _).sendGrant (.ite (h _).cohData.dropHtxn
    (.ite (h _).setSf.writeInv.dropHtxn (.ite (h _).dropHtxn (.ite (h _).putHtxn (.ite (h _).dropHtxn.wakeAlloc
      (h _).setSf.dropHtxn.wakeAlloc)))))))

theorem State.Leaves.snoopCheck (h : s.Leaves P t) {line : Nat} (hp : subParts homeParts P = true := by decide +kernel) :
    s.Leaves P (t.snoopCheck line) := by
  unfold State.snoopCheck
  split
  · exact .ite (h.snoopsIn hp) h
  · exact h

theorem State.Leaves.lostAt (h : s.Leaves homeParts t) {x : HTxn} {a : Nat} : s.Leaves homeParts (t.lostAt x a).2 := by
  unfold State.lostAt
  extract_lets owner s1 s2
  have h1 : s.Leaves homeParts s1 := .ite h.poisonLine h
  have h2 : s.Leaves homeParts s2 := h1.dropHolder.putHtxn
  split
  · exact h2.snoopCheck
  · split
    · exact h.grantLost
    · exact h

theorem State.Leaves.reclaimLines (h : s.Leaves homeParts t) (a : Nat) (l : List Nat) :
    s.Leaves homeParts (State.reclaimLines a l t).2.2 := by
  induction l generalizing t with
  | nil => exact h
  | cons x l ih =>
    unfold State.reclaimLines
    split
    · split
      · dsimp only
        split
        · exact ih h.setSf.poisonLine
        · exact ih h.dropHolder
      · exact ih h
    · exact ih h

/-- What the loss of a caching agent may change. -/
def lostAgentParts : List Part := ([.up, .fld .COH_AGENT_STATUS_STATE] : List Part) ++ homeParts

theorem State.Leaves.finalDrop (h : s.Leaves P t) {a : Nat} (hp : Part.txns.inList P = true := by rfl) : s.Leaves P (t.finalDrop a) := h.txnsSet hp

theorem State.Leaves.agentUp (h : s.Leaves lostAgentParts t) {a : Nat} {b : Bool} : s.Leaves lostAgentParts (t.agentUp a b) := by
  unfold State.agentUp
  refine State.Leaves.setF (h.trans fun p hp => ?_)
  cases p
  case coh => exact absurd hp (by decide)
  case up => exact absurd hp (by decide)
  all_goals rfl

/-- Every open transaction meets the loss of an agent, as State.agentLost goes through them. -/
theorem lostFold (a : Nat) (l : List HTxn) {x : Nat × State} (h : s.Leaves homeParts x.2) :
    s.Leaves homeParts (l.foldl (fun (x : Nat × State) t =>
      match x.2.htxn t.line with
      | some t1 => let (p, s') := x.2.lostAt t1 a
        (x.1 + b2n p, s')
      | none => x) x).2 := by
  refine List.foldlRecOn (motive := fun x : Nat × State => s.Leaves homeParts x.2) l _ h fun x hx y _ => ?_
  dsimp only
  split
  · exact hx.lostAt
  · exact hx

theorem State.Leaves.agentLost (h : s.Leaves P t) {a : Nat} (hp : subParts lostAgentParts P = true := by decide +kernel) :
    s.Leaves P (t.agentLost a) := by
  refine h.step (Q := lostAgentParts) ?_ hp
  unfold State.agentLost
  split
  · exact .refl t
  extract_lets keep _ s0 s1
  have h1 : t.Leaves lostAgentParts s1 := ((State.Leaves.refl t).cohAll (v := s0.coh)).agentUp.setF
  have h2 := h1.step (lostFold a s1.coh.txns (x := (0, s1)) (.refl _)) (by decide +kernel)
  exact (h2.step (State.Leaves.reclaimLines (.refl _) a _) (by decide +kernel)).finalDrop.cohSet

theorem State.up_agentLost (s : State) (a : Nat) : bit (s.agentLost a).coh.up a = false := by
  by_cases hb : bit s.coh.up a = true
  · unfold State.agentLost
    rw [if_neg (by simp [hb])]
    extract_lets keep _ s0 s1
    have h0 : bit s1.coh.up a = false := bit_setBit ..
    have h2 : s1.Leaves homeParts (s1.coh.txns.foldl _ (0, s1)).2 := lostFold a s1.coh.txns (x := (0, s1)) (.refl _)
    exact (congrArg (fun u => bit u a) (State.Leaves.up (State.Leaves.finalDrop (a := a) (State.Leaves.reclaimLines h2 a _)))).trans h0
  · unfold State.agentLost
    rw [if_pos (by simp [hb])]
    exact Bool.eq_false_iff.mpr hb

/-! ### A site that fails (09 R366) -/

theorem State.Leaves.setRefclk (h : s.Leaves P t) {n : Nat} {b : Bool} (h1 : Part.links.inList P = true := by rfl)
    (h2 : Part.control.inList P = true := by rfl) (h3 : Part.out.inList P = true := by rfl) : s.Leaves P (t.setRefclk n b) := by
  unfold State.setRefclk
  exact .ite h ((h.setControl h1 h2).emit h3)

theorem State.Leaves.fallowReport (h : s.Leaves P t) {cls unit phase code : Nat}
    (h1 : (Part.fld .PWR_FALLOW_RESULT_PHASE).inList P = true := by rfl) (h2 : (Part.fld .PWR_FALLOW_RESULT_CODE).inList P = true := by rfl) :
    s.Leaves P (t.fallowReport cls unit phase code) := by
  unfold State.fallowReport
  exact .ite ((h.setF h1).setF h2) h

/-- The link of a site that fails cut, and its agent lost. -/
def State.siteLost (s : State) (n cause : Nat) (report : Bool) : State :=
  let (k, s0) := s.linkCut n
  let dropped := if !s.linkUp n then s0
    else
      let s' := (s0.flag .SITE_ERR_STATUS_LINK_DOWN n).count .SITE_LINK_DOWNS_COUNT n 0 32 1
      if report then (s'.setF .SITE_LAST_DOWN_CAUSE n 0 (cause % 16)).raise 0x5020 sevDeferred 5 n [cause, k] else s'
  dropped.agentLost n

/-- The unit FAILED behind its fence, its chiplet held in reset, and the fault shown. -/
def State.siteMapped (s1 : State) (n : Nat) : State :=
  let s2 := (s1.setF .SITE_STATUS_LINK n 0 1).setUnit .site n .failed
  let s3 := s2.beginFence (16 + n)
  let s4 := (s3.setRefclk n false).setLink n { (s3.setRefclk n false).link n with
    rstLow := true, waking := false, fencing := false, rails := false, releaseAt := none, hold := false }
  s4.flag .SITE_ERR_STATUS_FAIL n

/-- The failure of a site reported. -/
def State.siteTold (s5 : State) (n cause : Nat) (report : Bool) : State :=
  let s6 := (if report then s5.raise 0x5040 sevUnitFatal 5 n [cause] else s5).fallowReport 1 n 5 5
  (s6.mbReset (fun b => isSiteId n b.receiver)).siteCapSet n

theorem State.siteFailed_present {n cause : Nat} {report : Bool} (h : (s.unit .site n).st = some .present) :
    s.siteFailed n cause report = (((s.siteLost n cause report).siteMapped n).siteTold n cause report).railsFollow s := by
  unfold State.siteFailed
  dsimp only
  rw [h, if_neg (by decide), if_neg (by decide)]
  rfl

/-- What the loss of a site's link may change. -/
def siteLostParts : List Part :=
  cutParts ++ lostAgentParts ++ ([.fld .SITE_ERR_STATUS_LINK_DOWN, .fld .SITE_LINK_DOWNS_COUNT, .fld .SITE_LAST_DOWN_CAUSE] : List Part)

theorem State.siteLost_leaves (s : State) (n cause : Nat) (report : Bool) : s.Leaves siteLostParts (s.siteLost n cause report) := by
  have h := (State.Leaves.refl (P := siteLostParts) s).linkCut (n := n)
  unfold State.siteLost
  exact (State.Leaves.ite h (.ite h.flag.count.setF.raise h.flag.count)).agentLost

theorem State.siteLost_down (s : State) (n cause : Nat) (report : Bool) : bit (s.siteLost n cause report).coh.up n = false :=
  State.up_agentLost ..

/-- What the report of a site's failure may change. -/
def siteToldParts : List Part := mbParts ++ capParts ++ ([.fld .PWR_FALLOW_RESULT_PHASE, .fld .PWR_FALLOW_RESULT_CODE] : List Part)

theorem State.siteTold_leaves (s : State) (n cause : Nat) (report : Bool) : s.Leaves siteToldParts (s.siteTold n cause report) := by
  have h := State.Leaves.refl (P := siteToldParts) s
  unfold State.siteTold
  exact (State.Leaves.ite h.raise h).fallowReport.mbReset.siteCapSet

/-- What stands of a site that has failed. -/
structure State.SiteGone (n : Nat) (t : State) : Prop where
  unit : (t.unit .site n).st = some .failed
  link : t.siteLinkState n = 1
  rst : (t.link n).rstLow = true
  fence : (t.qport (16 + n)).fence = 1 ∨ (t.qport (16 + n)).fence = 2
  shown : t.f .SITE_ERR_STATUS_FAIL n = 1
  down : bit t.coh.up n = false

theorem SLink.rstLow_of_control {a b : SLink} (h : a.control = b.control) : a.rstLow = b.rstLow :=
  congrArg (fun c => c.2.2.2.2.2.2.1) h

theorem State.qport_of_ports (h : t.mesh.ports = s.mesh.ports) (p : Nat) : t.qport p = s.qport p := by
  unfold State.qport
  rw [h]

theorem State.SiteGone.keeps {n : Nat} (h : s.SiteGone n) (k : s.Leaves P t) (h1 : (Part.cls .site).inList P = false := by rfl)
    (h2 : (Part.fld .SITE_STATUS_LINK).inList P = false := by rfl) (h3 : Part.control.inList P = false := by rfl)
    (h4 : Part.ports.inList P = false := by rfl) (h5 : (Part.fld .SITE_ERR_STATUS_FAIL).inList P = false := by rfl)
    (h6 : Part.up.inList P = false := by rfl) : t.SiteGone n := by
  refine ⟨?_, (k.f _ _ _ h2).trans h.link, (SLink.rstLow_of_control (k.control n h3)).trans h.rst, ?_, (k.f _ _ _ h5).trans h.shown, ?_⟩
  · rw [k.unit .site n h1]
    exact h.unit
  · rw [State.qport_of_ports (k.ports h4)]
    exact h.fence
  · rw [k.up h6]
    exact h.down

theorem State.siteMapped_gone {n : Nat} (h : (s.unit .site n).st = some .present) (hd : bit s.coh.up n = false) :
    (s.siteMapped n).SiteGone n := by
  unfold State.siteMapped
  extract_lets s2 s3 _ s4
  have hu : (s2.unit .site n).st = some .failed := State.unit_setUnit (by rw [show (s.setF .SITE_STATUS_LINK n 0 1).unit .site n = s.unit .site n from rfl, h]; rfl)
  have hl := State.setUnit_leaves (s.setF .SITE_STATUS_LINK n 0 1) .site n .failed
  have hf : s2.siteLinkState n = 1 := (hl.f _ _ _).trans (State.f_setF_same ..)
  have hup : bit s2.coh.up n = false := by
    rw [hl.up]
    exact hd
  obtain ⟨hfe, hun⟩ := s2.beginFence_fence (16 + n)
  have h34 : s3.Leaves [.links, .control, .out] s4 := ((State.Leaves.refl s3).setRefclk).setControl
  refine ⟨?_, ?_, ?_, ?_, State.f_flag_same .., ?_⟩
  · refine (congrArg CUnit.st (h34.unit .site n)).trans ?_
    unfold State.unit at hu ⊢
    rw [hun]
    exact hu
  · exact (State.f_flag_fid _ (by decide)).trans ((h34.f _ _ _).trans ((s2.f_beginFence ..).trans hf))
  · exact congrArg SLink.rstLow (NTbl.at_put_same ({} : SLink) _ n _)
  · have hq := State.qport_of_ports h34.ports (16 + n)
    exact hq ▸ hfe
  · refine (congrArg (fun u => bit u n) h34.up).trans ?_
    unfold s3 State.beginFence
    dsimp only
    split <;> exact hup

theorem State.siteFailed_gone {n cause : Nat} {report : Bool} (h : (s.unit .site n).st = some .present) :
    (s.siteFailed n cause report).SiteGone n := by
  rw [State.siteFailed_present h]
  have hl := s.siteLost_leaves n cause report
  have hm := State.siteMapped_gone (n := n) (s := s.siteLost n cause report) (by rw [hl.unit .site n]; exact h) (s.siteLost_down ..)
  exact (hm.keeps (State.siteTold_leaves _ n cause report)).keeps (State.Leaves.railsFollow (P := railParts) (.refl _))

/-! ### An engine that fails without a report of its own -/

/-- What the end of an engine's work may change as it fails. -/
def faultParts : List Part :=
  accessParts ++ waitParts ++ ([.fld .TALLY_OVF_OVF, .fld .CE_WQ_STATUS_CQ_TAIL, .fld .CE_FAULT_Q_NEXT, .fld .CE_FAULT_Q_TAIL] : List Part)

theorem State.Leaves.performOuts (e : Nat) (l : List OutWr) (x : Run) (h : s.Leaves faultParts t) :
    s.Leaves faultParts (State.performOuts e l x t).2 := by
  induction l generalizing t x with
  | nil => exact h
  | cons o l ih =>
    unfold State.performOuts
    dsimp only
    split
    · exact ih _ h.setEng
    · have hw := h.step ((State.Accesses.refl (lo := 0) t).wr (src := t.engSrc e (opMaster x.op)) (a := o.addr) (b := o.bytes) (pois := o.pois)
        (run := some { e := e, q := x.q, idx := x.idx })).parts (by decide +kernel)
      split
      · exact ih _ hw
      · exact hw

theorem State.Leaves.lostOrder (h : s.Leaves faultParts t) (e : Nat) (x : Run) : s.Leaves faultParts (t.lostOrder e x).2 := by
  unfold State.lostOrder
  extract_lets k outs
  have hp := State.Leaves.performOuts e outs x (h.freeCtrSet (v := k + 4 + x.outs.length))
  exact .ite hp.signalTally hp

theorem State.Leaves.orderLost (h : s.Leaves faultParts t) (e : Nat) (records : Bool) (x : Run) :
    s.Leaves faultParts (State.orderLost e records t x) := by
  have hl := h.lostOrder e x
  have hw : ∀ r, s.Leaves faultParts ((t.lostOrder e x).2.writeRecord e r) := fun r => by
    unfold State.writeRecord
    dsimp only
    exact hl.wr.setF (f := .CE_WQ_STATUS_CQ_TAIL)
  unfold State.orderLost
  dsimp only
  split
  · exact .ite (hw _).raise (hw _)
  · exact hl

/-- What an engine holds gone, its queues' indices saved. -/
theorem State.engineEmptied_leaves (s : State) (e : Nat) (front : Bool) (owner : Option Nat) :
    s.Leaves faultParts ((s.faultStart e front).engineEmptied e owner) := by
  have h1 : s.Leaves faultParts (s.faultRecords e (!front)) := .foldl (g := State.orderLost e (!front)) (.refl s) fun _ _ h => h.orderLost e _ _
  have h2 : s.Leaves faultParts (s.faultStart e front) := by
    unfold State.faultStart
    rw [State.faultQueues_eq]
    exact .foldl h1 fun _ _ h => h.setF.setF
  unfold State.engineEmptied
  exact h2.setEng.dropWaits

/-- The port behind a fence and the fault shown. -/
def State.faultShown (s : State) (e : Nat) : State := (s.beginFence e).flag .CE_ERR_STATUS_HARD_FAULT e

theorem State.engineFault_quiet {e : Nat} (h : (s.unit .engine e).st = some .present) :
    s.engineFault e 2 true false
      = (((((s.faultStart e true).engineEmptied e (s.plotOfEngine e)).faultShown e).faultMapped e).faultStopped e).railsFollow s := by
  unfold State.engineFault
  dsimp only
  rw [h, if_neg (by decide), if_neg (by decide)]
  rfl

theorem State.Leaves.beginFence (h : s.Leaves P t) {p : Nat} (h1 : Part.reqs.inList P = true := by rfl)
    (h2 : Part.ports.inList P = true := by rfl) : s.Leaves P (t.beginFence p) := by
  unfold State.beginFence
  exact .ite (h.reqsSet h1) ((h.reqsSet h1).setFence h2)

/-- What the unit map's and the port's part of an engine's failure may change. -/
def faultMapParts : List Part :=
  unitParts .engine ++ mbParts ++ ([.reqs, .ports, .doms, .fld .CE_ERR_STATUS_HARD_FAULT, .fld .CE_STATUS_PSTATE, .fld .PWR_FALLOW_RESULT_PHASE,
    .fld .PWR_FALLOW_RESULT_CODE, .fld .CLK_DOM_STATUS_RELEASED] : List Part)

theorem State.faultStopped_leaves (s : State) (e : Nat) : s.Leaves ([.ports, .doms, .fld .CLK_DOM_STATUS_RELEASED] : List Part) (s.faultStopped e) := by
  have h := State.Leaves.refl (P := [.ports, .doms, .fld .CLK_DOM_STATUS_RELEASED]) s
  unfold State.faultStopped
  exact .ite h h.setFence.setDom.setF

theorem State.faultMapped_leaves (s : State) (e : Nat) : s.Leaves faultMapParts (((s.faultShown e).faultMapped e).faultStopped e) := by
  have h1 : s.Leaves faultMapParts (s.faultShown e) := (State.Leaves.refl s).beginFence.flag
  have h2 := h1.step ((s.faultShown e).setUnit_leaves .engine e .failed) (by decide +kernel)
  have h3 : s.Leaves faultMapParts ((s.faultShown e).faultMapped e) := h2.setF.fallowReport.mbReset
  exact h3.step (State.faultStopped_leaves _ e) (by decide +kernel)

theorem State.railFault_railsFollow (s old : State) : (s.railsFollow old).pwr.railFault = s.pwr.railFault := by
  have hv : ∀ (s : State) r mv, (s.setVolt r mv).pwr.railFault = s.pwr.railFault := fun _ _ _ => rfl
  have hu : ∀ (s : State) r, (s.railUp r).pwr.railFault = s.pwr.railFault := by
    intro s r
    unfold State.railUp State.stepVolt
    dsimp only
    split
    · rfl
    · split <;> rfl
  unfold State.railsFollow
  exact (foldl_leaves (fun s : State => s.pwr.railFault) (fun x r => x.pmbus r 0x01 0) _ (fun _ _ => rfl) _).trans
    (foldl_leaves (fun s : State => s.pwr.railFault) State.railUp _ hu _)

theorem State.engineFault_fails {e : Nat} (h : (s.unit .engine e).st = some .present) :
    ((s.engineFault e 2 true false).unit .engine e).st = some .failed
      ∧ (s.engineFault e 2 true false).pwr.railFault = s.pwr.railFault
      ∧ ∀ i, (s.engineFault e 2 true false).f .PWR_ERR_STATUS_RAIL_FAULT i = s.f .PWR_ERR_STATUS_RAIL_FAULT i := by
  rw [State.engineFault_quiet h]
  have h1 := s.engineEmptied_leaves e true (s.plotOfEngine e)
  generalize (s.faultStart e true).engineEmptied e (s.plotOfEngine e) = t at h1
  have hf : t.Leaves ([.reqs, .ports, .fld .CE_ERR_STATUS_HARD_FAULT] : List Part) (t.faultShown e) := (State.Leaves.refl t).beginFence.flag
  obtain ⟨hst, -⟩ := State.faultMapped_failed (s := t.faultShown e) (e := e) (by rw [hf.unit .engine e, h1.unit .engine e]; exact h)
  have h2 := t.faultMapped_leaves e
  have h3 := State.faultStopped_leaves ((t.faultShown e).faultMapped e) e
  generalize ((t.faultShown e).faultMapped e).faultStopped e = u at h2 h3
  have h4 : u.Leaves railParts (u.railsFollow s) := (State.Leaves.refl u).railsFollow
  refine ⟨?_, ?_, fun i => ?_⟩
  · rw [h4.unit .engine e, h3.unit .engine e]
    exact hst
  · exact (State.railFault_railsFollow ..).trans ((congrArg Pwr.railFault (h2 .pwr rfl)).trans (congrArg Pwr.railFault (h1 .pwr rfl)))
  · exact (h4.f _ _ _).trans ((h2.f _ _ _).trans (h1.f _ _ _))

/-! ### The protective stop (15 R564, R565) -/

/-- The stop shown, with its cause. -/
def State.stopShown (s : State) (cause zone temp rail : Nat) : State :=
  let s1 := ((s.setF .PWR_STATUS_STOP 0 0 1).flag .PWR_ERR_STATUS_STOP).setF .PWR_STOP_INFO_CAUSE 0 0 cause
  ((s1.setF .PWR_STOP_INFO_TEMP_Q2 0 0 temp).setF .PWR_STOP_INFO_RAIL 0 0 rail).setF .PWR_STOP_INFO_ZONE 0 0 zone

/-- The work of engines, sites and Sheaf ended. -/
def State.stopWork (s : State) : State := ((List.range 8).foldl State.siteStop ((List.range 8).foldl State.engStop s)).sheafStop

/-- The clocks of engines and memory sites, among others, stopped. -/
def State.stopClocks (s : State) : State := s.stopDoms ((List.range 16) ++ [17, 18, 19, 20])

theorem State.protStop_starts {cause zone sensor temp rail : Nat} (h : s.stopped = false) :
    s.protStop cause zone sensor temp rail
      = (((s.stopShown cause zone temp rail).stopWork.stopClocks.ccHalted).raise 0x9050 sevModuleFatal 0 0 [cause, zone, sensor, temp]
        (.opPlots (maskOf ((List.range 8).filter (fun p => (s.plot p).active))))).railsFollow s := by
  unfold State.protStop
  rw [if_neg (by simp [h])]
  rfl

theorem State.runs_waitDone {e : Nat} (h : (s.eng e).runs = []) (w : TWait) (v : Nat) : ((s.waitDone w v).eng e).runs = [] := by
  by_cases he : e = w.e
  · subst he
    refine (congrArg Eng.runs (State.eng_setEng ..)).trans ?_
    change List.map _ (s.eng w.e).runs = []
    rw [h]
    rfl
  · exact (congrArg Eng.runs (State.eng_setEng_ne _ _ he)).trans h

theorem State.runs_judgeConsuming {e : Nat} (h : (s.eng e).runs = []) (k : Nat) (l : List TWait) :
    ((State.judgeConsuming k l s).eng e).runs = [] := by
  induction l generalizing s with
  | nil => exact h
  | cons w l ih =>
    unfold State.judgeConsuming
    split
    · exact ih (s := (s.waitDone w _).setF ..) (State.runs_waitDone h w _)
    · exact h

theorem State.runs_judge {e : Nat} (h : (s.eng e).runs = []) (k : Nat) : ((s.judge k).eng e).runs = [] :=
  State.runs_judgeConsuming (foldl_keeps (fun u : State => (u.eng e).runs = []) (fun u w => u.waitDone w (s.tally k)) _
    (fun _ w hu => State.runs_waitDone hu w _) s h) k _

theorem State.runs_dropWaits {e : Nat} (h : (s.eng e).runs = []) (p : TWait → Bool) : ((s.dropWaits p).eng e).runs = [] :=
  foldl_keeps (fun u : State => (u.eng e).runs = []) State.judge _ (fun _ k hu => State.runs_judge hu k) _ h

theorem State.runs_engStop (s : State) (e : Nat) : ((s.engStop e).eng e).runs = [] :=
  State.runs_dropWaits (congrArg Eng.runs (State.eng_setEng ..)) _

theorem State.runs_engStop_keeps {e : Nat} (h : (s.eng e).runs = []) (k : Nat) : ((s.engStop k).eng e).runs = [] := by
  by_cases hk : e = k
  · subst hk
    exact s.runs_engStop e
  · exact State.runs_dropWaits ((congrArg Eng.runs (State.eng_setEng_ne _ _ hk)).trans h) _

theorem State.runs_engStops {e : Nat} {l : List Nat} (h : e ∈ l) (s : State) : ((l.foldl State.engStop s).eng e).runs = [] := by
  induction l generalizing s with
  | nil => cases h
  | cons k l ih =>
    rcases List.mem_cons.mp h with rfl | h
    · exact foldl_keeps (fun u : State => (u.eng e).runs = []) State.engStop l (fun _ k hu => State.runs_engStop_keeps hu k) _ (s.runs_engStop e)
    · exact ih h _

/-- What the end of all work may change. -/
def stopWorkParts : List Part := cutParts ++ waitParts ++ ([.fld .SITE_STATUS_LINK] : List Part)

theorem State.eng_of_engs (h : t.engs = s.engs) (e : Nat) : t.eng e = s.eng e := by
  unfold State.eng
  rw [h]

theorem State.stopWork_leaves (s : State) : s.Leaves stopWorkParts s.stopWork := by
  unfold State.stopWork
  exact .sheafStop (.foldl (.foldl (.refl s) fun _ _ h => h.engStop) fun _ _ h => h.siteStop (by decide +kernel))

theorem State.runs_stopWork (s : State) {e : Nat} (he : e < 8) : (s.stopWork.eng e).runs = [] := by
  have h : ((List.range 8).foldl State.engStop s).Leaves (.fld .SITE_STATUS_LINK :: cutParts) s.stopWork := by
    unfold State.stopWork
    exact .sheafStop (.foldl (.refl _) fun _ _ h => h.siteStop)
  rw [State.eng_of_engs h.engs]
  exact State.runs_engStops (List.mem_range.mpr he) s

theorem State.protStop_shows {cause zone sensor temp rail : Nat} (h : s.stopped = false) {t : State}
    (ht : s.protStop cause zone sensor temp rail = t) : t.stopped = true ∧ t.f .PWR_STOP_INFO_CAUSE = cause
      ∧ t.f .PWR_STOP_INFO_RAIL = rail ∧ t.aon.alert = true ∧ (∀ e, e < 8 → (t.eng e).runs = []) ∧ ∀ e, e < 16 → (t.dom e).running = false := by
  rw [State.protStop_starts h] at ht
  generalize Scope.opPlots (maskOf ((List.range 8).filter (fun p => (s.plot p).active))) = sc at ht
  generalize hp : s.stopShown cause zone temp rail = s2 at ht
  have hw := s2.stopWork_leaves
  have hr := fun e he => s2.runs_stopWork (e := e) he
  generalize s2.stopWork = s3 at ht hw hr
  have hc := (State.Leaves.refl (P := [.doms, .out]) s3).stopDoms (l := (List.range 16) ++ [17, 18, 19, 20])
  have hd := State.running_stopDoms s3 ((List.range 16) ++ [17, 18, 19, 20])
  change s3.Leaves _ s3.stopClocks at hc
  change ∀ k, ((s3.stopClocks).dom k).running = _ at hd
  generalize s3.stopClocks = s4 at ht hc hd
  have ha := State.alert_raise_moduleFatal s4.ccHalted 0x9050 0 0 [cause, zone, sensor, temp] sc none
  have h5 : s4.Leaves (.boot :: raiseParts) (s4.ccHalted.raise 0x9050 sevModuleFatal 0 0 [cause, zone, sensor, temp] sc none) :=
    (State.Leaves.refl s4).ccHalted.raise
  generalize s4.ccHalted.raise 0x9050 sevModuleFatal 0 0 [cause, zone, sensor, temp] sc none = s5 at ht ha h5
  have h6 : s5.Leaves railParts t := ht ▸ (State.Leaves.refl s5).railsFollow
  have h7 : s2.Leaves (stopWorkParts ++ [.doms, .boot, .pwr]) t :=
    (((hw.mono (by decide +kernel)).step hc (by decide +kernel)).step h5 (by decide +kernel)).step h6 (by decide +kernel)
  have h37 : s3.Leaves ([.doms, .boot, .pwr, .out] ++ raiseParts) t := ((hc.mono (by decide +kernel)).step h5 (by decide +kernel)).step h6 (by decide +kernel)
  have h47 : s4.Leaves ([.boot, .pwr, .out] ++ raiseParts) t := (h5.mono (by decide +kernel)).step h6 (by decide +kernel)
  refine ⟨?_, ?_, ?_, ?_, fun e he => ?_, fun e he => ?_⟩
  · unfold State.stopped
    rw [h7.f .PWR_STATUS_STOP, ← hp]
    unfold State.stopShown
    simp
  · rw [h7.f .PWR_STOP_INFO_CAUSE, ← hp]
    unfold State.stopShown
    simp
  · rw [h7.f .PWR_STOP_INFO_RAIL, ← hp]
    unfold State.stopShown
    simp
  · rw [h6.aon]
    exact ha
  · rw [State.eng_of_engs h37.engs]
    exact hr e he
  · have := hd e
    unfold State.dom at this ⊢
    rw [h47.doms, this, Bool.and_eq_false_iff]
    exact .inr (by simp; omega)

/-! ### Rails (15 R545-R549, R563) -/

/-- A rail's fault latched and shown. -/
def State.railLatched (s : State) (r : Nat) : State :=
  { s with pwr := { s.pwr with railFault := setBit s.pwr.railFault r true } }.flag .PWR_ERR_STATUS_RAIL_FAULT

theorem State.railFaulted_on {r word : Nat} (hr : r < 32) (h : s.railState r = 1) : s.railFaulted r word =
    if r < 8 then ((s.railLatched r).raise 0x9030 sevUnitFatal 0 0 [r, word] .op).engineFault r 2 true false
    else if r < 16 then ((s.railLatched r).raise 0x9030 sevModuleFatal 0 0 [r, word] .op).protStop 3 0 0 0 r
    else ((s.railLatched r).raise 0x9030 sevUnitFatal 0 0 [r, word] .op).siteFailed ((r - 16) / 2) 0 false := by
  unfold State.railFaulted
  rw [if_neg (by simp [h]; omega)]
  rfl

/-- What the report of a rail's fault may change. -/
def railToldParts : List Part := .pwr :: .fld .PWR_ERR_STATUS_RAIL_FAULT :: raiseParts

theorem State.railTold_leaves (s : State) (r sev : Nat) (l : List Nat) :
    s.Leaves railToldParts ((s.railLatched r).raise 0x9030 sev 0 0 l .op) := by
  unfold State.railLatched
  exact (State.Leaves.refl s).pwrSet.flag.raise

theorem State.railTold_shows (s : State) (r sev : Nat) (l : List Nat) :
    ((s.railLatched r).raise 0x9030 sev 0 0 l .op).f .PWR_ERR_STATUS_RAIL_FAULT = 1
      ∧ bit ((s.railLatched r).raise 0x9030 sev 0 0 l .op).pwr.railFault r = true := by
  have h : (s.railLatched r).Leaves raiseParts ((s.railLatched r).raise 0x9030 sev 0 0 l .op) := (State.Leaves.refl _).raise
  refine ⟨(h.f _ _ _).trans (State.f_flag_same ..), ?_⟩
  exact (congrArg (fun p : Pwr => bit p.railFault r) (h .pwr rfl)).trans (bit_setBit ..)

theorem pwrRailFault_engine {r word : Nat} (hr : r < 8) (h : s.railState r = 1) (hp : (s.unit .engine r).st = some .present) :
    ∃ t, exec (.pwrRailFault r word) s = .next t
      ∧ (t.unit .engine r).st = some .failed ∧ t.f .PWR_ERR_STATUS_RAIL_FAULT = 1 ∧ t.railState r = 2 := by
  have hx : exec (.pwrRailFault r word) s = .next (s.railFaulted r word) := rfl
  rw [State.railFaulted_on (by omega) h, if_pos hr] at hx
  have hl := s.railTold_leaves r sevUnitFatal [r, word]
  obtain ⟨hf, hb⟩ := s.railTold_shows r sevUnitFatal [r, word]
  obtain ⟨hu, hk, hs⟩ := State.engineFault_fails (e := r) (s := (s.railLatched r).raise 0x9030 sevUnitFatal 0 0 [r, word] .op)
    (by rw [hl.unit .engine r]; exact hp)
  refine ⟨_, hx, hu, (hs 0).trans hf, ?_⟩
  unfold State.railState
  rw [hk, hb]
  rfl

theorem pwrRailFault_stop {r word : Nat} (h8 : 8 ≤ r) (hr : r < 16) (h : s.railState r = 1) (hs : s.stopped = false) :
    ∃ t, exec (.pwrRailFault r word) s = .next t
      ∧ t.stopped = true ∧ t.f .PWR_STOP_INFO_CAUSE = 3 ∧ t.f .PWR_STOP_INFO_RAIL = r ∧ t.aon.alert = true
      ∧ (∀ e, e < 8 → (t.eng e).runs = []) ∧ ∀ e, e < 16 → (t.dom e).running = false := by
  have hx : exec (.pwrRailFault r word) s = .next (s.railFaulted r word) := rfl
  rw [State.railFaulted_on (by omega) h, if_neg (by omega), if_pos hr] at hx
  have hl := s.railTold_leaves r sevModuleFatal [r, word]
  refine ⟨_, hx, State.protStop_shows ?_ rfl⟩
  unfold State.stopped at hs ⊢
  rw [hl.f .PWR_STATUS_STOP]
  exact hs

theorem pwrRailFault_site {r word : Nat} (h16 : 16 ≤ r) (hr : r < 32) (h : s.railState r = 1)
    (hp : (s.unit .site ((r - 16) / 2)).st = some .present) :
    ∃ t, exec (.pwrRailFault r word) s = .next t ∧ (t.unit .site ((r - 16) / 2)).st = some .failed := by
  have hx : exec (.pwrRailFault r word) s = .next (s.railFaulted r word) := rfl
  rw [State.railFaulted_on hr h, if_neg (by omega), if_neg (by omega)] at hx
  have hl := s.railTold_leaves r sevUnitFatal [r, word]
  exact ⟨_, hx, (State.siteFailed_gone (by rw [hl.unit .site]; exact hp)).unit⟩

theorem pmbusPoll_one {x : RailReading} (hp : s.aon.porstLow = false) (hr : x.rail < 32) (h : s.railState x.rail = 1) (hf : x.fails = 0) :
    ∃ t, exec (.pmbusPoll [x]) s = .next t ∧ t.f .PWR_RAIL_STATUS_VOUT_MV x.rail = min 65535 x.mv
      ∧ t.f .PWR_RAIL_STATUS_IOUT_DA x.rail = min 65535 x.da ∧ t.f .PWR_RAIL_STATUS_TEMP_C x.rail = min 255 x.tempC
      ∧ t.units = s.units ∧ t.hl = s.hl := by
  have hx : exec (.pmbusPoll [x]) s = .next (((s.setF .PWR_RAIL_STATUS_VOUT_MV x.rail 0 (min 65535 x.mv)).setF .PWR_RAIL_STATUS_IOUT_DA x.rail 0
      (min 65535 x.da)).setF .PWR_RAIL_STATUS_TEMP_C x.rail 0 (min 255 x.tempC)) := by
    change execPmbusPoll [x] s = _
    unfold execPmbusPoll
    rw [hp]
    change (.next (s.railRead x) : Res) = _
    unfold State.railRead
    rw [if_neg (by simp [h]; omega), if_neg (by omega)]
    dsimp only
    rw [if_pos hf]
  exact ⟨_, hx, by simp, by simp, by simp, rfl, rfl⟩

theorem sitePowerAverage_low {n avg peak : Nat} (hp : s.aon.porstLow = false) (hn : n < 8) (ha : avg ≤ s.f .PWR_SITE_CFG_LIMIT_W n)
    (hk : peak ≤ 198) (hw : avg < 65536) : ∃ t, exec (.sitePowerAverage n avg peak) s = .next t ∧ t.f .PWR_SITE_STATUS_AVG_W n = avg
      ∧ t.f .PWR_SITE_STATUS_PEAK_W n = max (s.f .PWR_SITE_STATUS_PEAK_W n) peak ∧ t.hl = s.hl := by
  have hm : min 65535 avg = avg := by omega
  have hm2 : min 65535 peak = peak := by omega
  have hx : exec (.sitePowerAverage n avg peak) s = .next ((s.setF .PWR_SITE_STATUS_AVG_W n 0 avg).setF .PWR_SITE_STATUS_PEAK_W n 0
      (max (s.f .PWR_SITE_STATUS_PEAK_W n) peak)) := by
    change execSitePowerAverage n avg peak s = _
    unfold execSitePowerAverage
    rw [if_neg (by simp [hp]; omega)]
    dsimp only
    rw [hm, hm2, if_neg (show ¬ 198 < peak by omega)]
    simp only [ne_eq, reduceCtorEq, not_false_eq_true, State.f_setF_fid]
    rw [if_neg (by omega)]
  exact ⟨_, hx, by simp, by simp, rfl⟩

theorem sitePowerAverage_high {n avg : Nat} (hp : s.aon.porstLow = false) (hn : n < 8) (ha : s.f .PWR_SITE_CFG_LIMIT_W n < avg) :
    ∃ t, exec (.sitePowerAverage n avg 198) s = .next t ∧ t.f .PWR_ERR_STATUS_SITE_OVER = 1 := by
  have hx : ∃ u, exec (.sitePowerAverage n avg 198) s = .next (State.flag u .PWR_ERR_STATUS_SITE_OVER) := by
    change ∃ u, execSitePowerAverage n avg 198 s = _
    unfold execSitePowerAverage
    rw [if_neg (by simp [hp]; omega)]
    dsimp only
    rw [if_neg (show ¬ 198 < 198 by omega)]
    simp only [ne_eq, reduceCtorEq, not_false_eq_true, State.f_setF_fid]
    rw [if_pos ha]
    exact ⟨_, rfl⟩
  obtain ⟨u, hu⟩ := hx
  exact ⟨_, hu, State.f_flag_same ..⟩

theorem railRows_hold : railRows := by
  intro s x r word n hp
  refine ⟨fun l => ?_, pmbusPoll_one hp, fun hw => ?_, fun hw => ?_, pwrRailFault_engine, pwrRailFault_stop, pwrRailFault_site,
    fun avg peak => sitePowerAverage_low hp, fun avg => sitePowerAverage_high hp⟩
  · change execPmbusPoll l s = _
    unfold execPmbusPoll
    rw [hp]
    rfl
  · change execPmbAlert [(r, word)] s = execPwrRailFault r word s
    unfold execPmbAlert execPwrRailFault
    rw [hp]
    change (.next (if statusFault word then _ else _) : Res) = _
    rw [if_pos hw]
  · change execPmbAlert [(r, word)] s = _
    unfold execPmbAlert
    rw [hp]
    change (.next (if statusFault word then _ else _) : Res) = _
    rw [hw]
    rfl

/-! ### The governor (15 R551-R561) -/

/-- What a level put for a zone's stack may change: not the level of its hub. -/
def stackLevelParts : List Part := ([.pwr, .fld .PWR_ZONE_STATUS_STK_LEVEL] : List Part) ++ limitedParts

theorem State.putLevel_stack (s : State) (z new : Nat) : s.Leaves stackLevelParts (s.putLevel z true new) := by
  have h := State.Leaves.refl (P := stackLevelParts) s
  have hf : s.Leaves stackLevelParts (s.setF .PWR_ZONE_STATUS_STK_LEVEL z 0 new) := h.setF
  unfold State.putLevel
  exact .ite h (.ite hf.raiseLimited (.ite hf.raiseLimited.graceStart (.ite hf.raiseLimited.graceEnd (.ite hf.raiseLimited.graceEnd hf.raiseLimited))))

theorem State.level_putLevel_hub (s : State) (z new : Nat) : (s.putLevel z false new).level z false = new := by
  unfold State.putLevel
  dsimp only
  split
  · next h => exact h.symm
  · exact (State.f_raiseLimited _ _ _ _ _ _ _ _ _ _ _ _ rfl).trans (State.f_setF_same ..)

theorem State.level_of_leaves (h : s.Leaves P t) (z : Nat) (hp : (Part.fld .PWR_ZONE_STATUS_HUB_LEVEL).inList P = false := by rfl) :
    t.level z false = s.level z false := h.f _ _ _ hp

/-- The level of a hub whose zone has both readings, once they are judged (15 R554). -/
theorem State.level_zoneRead {z : Nat} (hk : s.zoneKnown z = true) : (s.zoneRead z).level z false
    = levelOf (s.level z false) (s.zoneTemp z false) (s.warnQ false) (s.hotQ false) 440 := by
  have hh : (s.zoneLevels z).Leaves heatParts (s.zoneRead z) := (State.Leaves.refl _).heat
  rw [State.level_of_leaves hh]
  unfold State.zoneLevels
  rw [hk]
  exact (State.level_of_leaves (State.putLevel_stack _ z _) z).trans (State.level_putLevel_hub s z _)

/-- A hub's reading put, before its zone is judged. -/
def State.hubShown (s : State) (z : Nat) (q : Int) : State :=
  let s1 := (s.setZone z { s.zone z with hubFails := 0, hubKnown := true, hubSeen := true }).setF .PWR_ZONE_STATUS_SENSOR_LOST z 0 0
  let s2 := s1.setF .PWR_ZONE_STATUS_HUB_TEMP_Q2 z 0 (ofInt 12 q)
  if !(s.zone z).hubSeen ∨ asInt 12 (s.f .PWR_ZONE_MAX_HUB_MAX_Q2 z) < q then s2.setF .PWR_ZONE_MAX_HUB_MAX_Q2 z 0 (ofInt 12 q) else s2

theorem hubSensorReading_some {z : Nat} {l : List (Option Int)} {q : Int} (hz : z < 8) (hp : s.aon.porstLow = false) (hr : s.aon.refLost = false)
    (hh : hottest l = some q) : exec (.hubSensorReading z l) s = .next ((s.hubShown z q).zoneRead z) := by
  change execHubSensorReading z l s = _
  unfold execHubSensorReading
  dsimp only
  rw [if_neg (by simp [hp, hr]; omega), hh]
  rfl

theorem State.hubShown_shows (s : State) (z : Nat) (q : Int) : (s.hubShown z q).f .PWR_ZONE_STATUS_HUB_TEMP_Q2 z = ofInt 12 q
    ∧ (s.hubShown z q).f .PWR_ZONE_STATUS_SENSOR_LOST z = 0 ∧ ((s.hubShown z q).zone z).hubKnown = true
    ∧ s.Leaves ([.pwr, .fld .PWR_ZONE_STATUS_SENSOR_LOST, .fld .PWR_ZONE_STATUS_HUB_TEMP_Q2, .fld .PWR_ZONE_MAX_HUB_MAX_Q2] : List Part)
      (s.hubShown z q) := by
  have hz : ∀ v, ((s.setZone z v).zone z) = v := s.zone_setZone z
  unfold State.hubShown
  dsimp only
  split
  · exact ⟨by simp, by simp, congrArg Zone.hubKnown (hz _), (State.Leaves.refl s).setZone.setF.setF.setF⟩
  · exact ⟨by simp, by simp, congrArg Zone.hubKnown (hz _), (State.Leaves.refl s).setZone.setF.setF⟩

theorem hubSensorReading_shows {z : Nat} {l : List (Option Int)} {q : Int} (hz : z < 8) (hp : s.aon.porstLow = false)
    (hr : s.aon.refLost = false) (hh : hottest l = some q) : ∃ t, exec (.hubSensorReading z l) s = .next t
      ∧ t.f .PWR_ZONE_STATUS_HUB_TEMP_Q2 z = ofInt 12 q ∧ t.f .PWR_ZONE_STATUS_SENSOR_LOST z = 0
      ∧ ((s.msite z).tempRead = true → t.level z false
        = levelOf (s.level z false) (asInt 12 (ofInt 12 q)) (s.warnQ false) (s.hotQ false) 440) := by
  obtain ⟨ht, hl, hk, hv⟩ := s.hubShown_shows z q
  have hm : (s.hubShown z q).msite z = s.msite z := by
    unfold State.msite
    rw [hv.mem]
  have hw : (s.hubShown z q).warnQ false = s.warnQ false := by
    unfold State.warnQ
    rw [hv.f .PWR_CFG_HUB_WARN_OFF, hv.f .PWR_CFG_STK_WARN_OFF]
  have hq : (s.hubShown z q).hotQ false = s.hotQ false := by
    unfold State.hotQ
    rw [hv.f .PWR_CFG_HUB_HOT_OFF, hv.f .PWR_CFG_STK_HOT_OFF]
  have hv0 := State.level_of_leaves hv z
  have hx := hubSensorReading_some hz hp hr hh
  generalize s.hubShown z q = u at ht hl hk hm hw hq hv0 hx
  have hs : u.Leaves readingParts (u.zoneRead z) := (State.Leaves.refl u).zoneRead
  refine ⟨_, hx, (hs.f _ _ _).trans ht, (hs.f _ _ _).trans hl, fun hread => ?_⟩
  have hkn : u.zoneKnown z = true := by
    unfold State.zoneKnown
    rw [hk, hm, hread]
    rfl
  have htmp : u.zoneTemp z false = asInt 12 (ofInt 12 q) := congrArg (asInt 12) ht
  rw [State.level_zoneRead hkn, hv0, htmp, hw, hq]

theorem hubSensorReading_none {z : Nat} {l : List (Option Int)} (hz : z < 8) (hp : s.aon.porstLow = false) (hr : s.aon.refLost = false)
    (hh : hottest l = none) (hf : (s.zone z).hubFails < 2) :
    exec (.hubSensorReading z l) s = .next (s.setZone z { s.zone z with hubFails := (s.zone z).hubFails + 1 }) := by
  change execHubSensorReading z l s = _
  unfold execHubSensorReading
  dsimp only
  rw [if_neg (by simp [hp, hr]; omega), hh]
  dsimp only
  rw [if_neg (by omega)]

theorem hubSensorReading_lost {z : Nat} {l : List (Option Int)} (hz : z < 8) (hp : s.aon.porstLow = false) (hr : s.aon.refLost = false)
    (hh : hottest l = none) (hf : (s.zone z).hubFails = 2) (hl : s.f .PWR_ZONE_STATUS_SENSOR_LOST z = 0) :
    ∃ t, exec (.hubSensorReading z l) s = .next t ∧ t.f .PWR_ZONE_STATUS_SENSOR_LOST z = 1 ∧ t.f .PWR_ERR_STATUS_TSENSE_LOST = 1 := by
  have hx : ∃ u v : State, exec (.hubSensorReading z l) s = .next (State.zoneRead v z)
      ∧ State.Leaves (u.flag .PWR_ERR_STATUS_TSENSE_LOST) raiseParts v ∧ u.f .PWR_ZONE_STATUS_SENSOR_LOST z = 1 := by
    change ∃ u v : State, execHubSensorReading z l s = _ ∧ _
    unfold execHubSensorReading
    dsimp only
    rw [if_neg (by simp [hp, hr]; omega), hh]
    dsimp only
    rw [hf, if_pos ⟨by omega, hl⟩]
    exact ⟨_, _, rfl, (State.Leaves.refl _).raise, by simp⟩
  obtain ⟨u, v, hx, hv, hu⟩ := hx
  have hs : v.Leaves readingParts (v.zoneRead z) := (State.Leaves.refl v).zoneRead
  exact ⟨_, hx, (hs.f _ _ _).trans ((hv.f _ _ _).trans ((State.f_flag_fid _ (by decide)).trans hu)),
    (hs.f _ _ _).trans ((hv.f _ _ _).trans (State.f_flag_same ..))⟩

theorem governorTick_runs {est : List Nat} (hd : (s.dom 22).running = true) (hs : s.stopped = false)
    (h1 : ((List.range 8).foldl State.tickZone s).stopped = false) : exec (.governorTick est) s
      = .next ((List.range 8).foldl State.tickTime ((List.range 8).foldl State.tickStep (((List.range 8).foldl State.tickZone s).tickPower est))) := by
  change execGovernorTick est s = _
  unfold execGovernorTick
  rw [if_neg (by simp [hd, hs])]
  dsimp only
  rw [if_neg (by simp [h1])]

theorem graceExpiry_ends {z x : Nat} (h : (s.zone z).grace = some x) : ∃ t, exec (.graceExpiry z) s = .next t ∧ (t.zone z).grace = none
    ∧ t.hl.moduleSeq = s.hl.moduleSeq + 1 ∧ t.units = s.units ∧ t.mem = s.mem := by
  obtain ⟨u, hu⟩ : ∃ u, u = s.setZone z { s.zone z with grace := none } := ⟨_, rfl⟩
  have hx : exec (.graceExpiry z) s = .next (u.raise 0x9010 sevNone 1 z [z, 1]) := by
    change execGraceExpiry z s = _
    unfold execGraceExpiry State.graceEnd
    rw [h, hu]
    rfl
  have hl : u.Leaves raiseParts (u.raise 0x9010 sevNone 1 z [z, 1]) := (State.Leaves.refl u).raise
  have hz : (u.zone z).grace = none := by
    rw [hu]
    exact congrArg Zone.grace (s.zone_setZone z _)
  have hs : u.hl.moduleSeq = s.hl.moduleSeq ∧ u.units = s.units ∧ u.mem = s.mem := by
    rw [hu]
    exact ⟨rfl, rfl, rfl⟩
  obtain ⟨hseq, hun, hm⟩ := hs
  have hq : (u.raise 0x9010 sevNone 1 z [z, 1]).hl.moduleSeq = u.hl.moduleSeq + 1 := State.raise_seq ..
  generalize u.raise 0x9010 sevNone 1 z [z, 1] = t at hx hl hq
  have hp : t.pwr = u.pwr := hl .pwr rfl
  refine ⟨t, hx, ?_, hq.trans (congrArg (· + 1) hseq), hl.units.trans hun, hl.mem.trans hm⟩
  unfold State.zone at hz ⊢
  rw [hp]
  exact hz

theorem State.underLimit_setCap (s : State) (z v : Nat) : (s.setF .PWR_ZONE_STATUS_CAP_THERM z 0 v).underLimit = s.underLimit := by
  unfold State.underLimit State.windowSamples
  simp only [ne_eq, reduceCtorEq, not_false_eq_true, State.f_setF_fid]
  rfl

theorem capRise_runs {z : Nat} (hz : z < 8) (hd : (s.dom 22).running = true) (hs : s.stopped = false) : exec (.capRise z) s
    = .next (let cool : Bool := s.zoneKnown z && decide (s.zoneTemp z true ≤ s.warnQ true - 12) && decide (s.zoneTemp z false ≤ s.warnQ false - 12)
      let s1 := if cool then s.setF .PWR_ZONE_STATUS_CAP_THERM z 0 (s.f .PWR_ZONE_STATUS_CAP_THERM z - 1) else s
      if s1.underLimit then s1.setF .PWR_ZONE_STATUS_CAP_POWER z 0 (s1.f .PWR_ZONE_STATUS_CAP_POWER z - 1) else s1) := by
  change execCapRise z s = _
  unfold execCapRise
  dsimp only
  rw [if_neg (by simp [hd, hs]; omega)]

theorem dvfsChangeDone_shows {z k : Nat} (h : (s.zone z).changing = some k) (hc : s.engClocked z = true) :
    ∃ t, exec (.dvfsChangeDone z) s = .next t ∧ t.f .PWR_ZONE_STATUS_STEP z = k ∧ t.f .CLK_DOM_STATUS_FREQ_ACT z = 1000 - 100 * k
      ∧ (t.zone z).changing = none := by
  have hx : exec (.dvfsChangeDone z) s = .next ((s.setZone z { s.zone z with changing := none }).putStep z k) := by
    change execDvfsChangeDone z s = _
    unfold execDvfsChangeDone
    rw [h]
    dsimp only
    rw [hc]
    rfl
  refine ⟨_, hx, ?_, ?_, congrArg Zone.changing (s.zone_setZone z _)⟩
  · unfold State.putStep
    simp
  · unfold State.putStep
    simp

theorem governorRows_hold : governorRows := by
  intro s z hz
  refine ⟨fun l q hp hr hh => hubSensorReading_shows hz hp hr hh, fun l hp hr hh hf => hubSensorReading_none hz hp hr hh hf,
    fun l hp hr hh hf hl => hubSensorReading_lost hz hp hr hh hf hl, fun est hd hs h1 => governorTick_runs hd hs h1,
    fun x h => graceExpiry_ends h, fun hd hs hk ht hh hu => ?_, fun hd hs hk hu => ?_, fun k h hc => dvfsChangeDone_shows h hc⟩
  · rw [capRise_runs hz hd hs]
    dsimp only
    rw [hk, decide_eq_true ht, decide_eq_true hh]
    simp only [Bool.and_self, if_true, State.underLimit_setCap, hu]
    rfl
  · rw [capRise_runs hz hd hs]
    dsimp only
    rw [hk]
    simp only [Bool.false_and, Bool.false_eq_true, if_false, hu, if_true]

/-- Settles O58: a rail's fault ends in the failure of its engine or site or in the protective stop, and neither the reports nor
the rails' commands undo what was shown; a zone's judgement leaves its reading. -/
theorem powerAndThermal : Obligations.PowerAndThermal := ⟨railRows_hold, governorRows_hold⟩

end Sys2Proof.Machine
end

section
-- One proof after the other: many waiting at once would hold too much memory when the text is checked as one.
set_option Elab.async false
/-! Accesses of a home that meet no error: they change neither the unit map nor the requests of the mesh, and not what homes know of their
lines. Only the failure of a channel does (05 R204, R210), and a read without listed errors notes no pin. -/

namespace Sys2Proof.Machine

variable {s t u : State} {P : List Part}

/-- Neither the unit map, nor the list of requests of the mesh, nor the transactions and the filters of homes have changed. -/
def State.Quiet (s t : State) : Prop :=
  t.units = s.units ∧ t.mesh.reqs = s.mesh.reqs ∧ t.coh.txns = s.coh.txns ∧ t.coh.sf = s.coh.sf

namespace State.Quiet

theorem refl (s : State) : s.Quiet s := ⟨rfl, rfl, rfl, rfl⟩

theorem trans (h : s.Quiet t) (k : t.Quiet u) : s.Quiet u := by
  obtain ⟨hu, hr, ht, hf⟩ := h
  obtain ⟨ku, kr, kt, kf⟩ := k
  exact ⟨ku.trans hu, kr.trans hr, kt.trans ht, kf.trans hf⟩

/-- A step that touches none of them. -/
theorem other (h : s.Quiet t) (hu : u.units = t.units := by rfl) (hr : u.mesh.reqs = t.mesh.reqs := by rfl)
    (ht : u.coh.txns = t.coh.txns := by rfl) (hf : u.coh.sf = t.coh.sf := by rfl) : s.Quiet u := h.trans ⟨hu, hr, ht, hf⟩

theorem leaves (h : s.Quiet t) (k : t.Leaves P u) (hu : Part.units.inList P = false := by decide +kernel)
    (hr : Part.reqs.inList P = false := by decide +kernel) (ht : Part.txns.inList P = false := by decide +kernel)
    (hf : Part.sf.inList P = false := by decide +kernel) : s.Quiet u := h.trans ⟨k.units hu, k.reqs hr, k .txns ht, k .sf hf⟩

theorem ite {c : Prop} [Decidable c] (h : s.Quiet t) (k : s.Quiet u) : s.Quiet (if c then t else u) := by
  split <;> assumption

theorem ite_snd {α : Type} {c : Prop} [Decidable c] {x y : α × State} (h : s.Quiet x.2) (k : s.Quiet y.2) :
    s.Quiet (if c then x else y).2 := by
  split <;> assumption

theorem foldl {α : Type} {l : List α} {f : State → α → State} (h : s.Quiet t) (hf : ∀ t a, s.Quiet t → s.Quiet (f t a)) :
    s.Quiet (l.foldl f t) :=
  foldl_keeps (fun t => s.Quiet t) f l hf t h

theorem foldl_snd {α β : Type} {l : List α} {f : β × State → α → β × State} {x : β × State} (h : s.Quiet x.2)
    (hf : ∀ x a, s.Quiet x.2 → s.Quiet (f x a).2) : s.Quiet (l.foldl f x).2 :=
  List.foldlRecOn (motive := fun x : β × State => s.Quiet x.2) l f h fun x hx a _ => hf x a hx

theorem setF (h : s.Quiet t) {f : Fid} {i j v : Nat} : s.Quiet (t.setF f i j v) := h.other

theorem count (h : s.Quiet t) {f : Fid} {i j w x : Nat} : s.Quiet (t.count f i j w x) := h.other

theorem raise (h : s.Quiet t) {code sev ucls unit : Nat} {detail : List Nat} {sc : Scope} {plot : Option Nat} :
    s.Quiet (t.raise code sev ucls unit detail sc plot) :=
  h.leaves (P := raiseParts) (State.Leaves.refl t).raise

theorem raiseLimited (h : s.Quiet t) {us code sev ucls unit : Nat} {detail : List Nat} {sc : Scope} {key : Nat} :
    s.Quiet (t.raiseLimited us code sev ucls unit detail sc key) :=
  h.leaves (P := limitedParts) (State.Leaves.refl t).raiseLimited

theorem observe (h : s.Quiet t) {p : Pkt} : s.Quiet (t.observe p) := h.leaves (P := recordParts) (State.Leaves.refl t).observe

theorem glnLatency (h : s.Quiet t) {port cls : Nat} {write : Bool} {status since : Nat} : s.Quiet (t.glnLatency port cls write status since) :=
  h.leaves (P := recordParts) (State.Leaves.refl t).glnLatency

theorem siteSend (h : s.Quiet t) {n : Nat} {m : SiteMsg} : s.Quiet (t.siteSend n m) := h.leaves (P := sendParts) (State.Leaves.refl t).siteSend

/-! ### Stacks and slices -/

theorem setPoison (h : s.Quiet t) {line : Nat} {p : Bool} : s.Quiet (t.setPoison line p) := h.other

theorem chanPush (h : s.Quiet t) {line kind cls port tag : Nat} : s.Quiet (t.chanPush line kind cls port tag) := by
  unfold State.chanPush
  exact .ite h h.other

theorem chanServe (h : s.Quiet t) {line kind cls port tag : Nat} : s.Quiet (t.chanServe line kind cls port tag) := by
  unfold State.chanServe
  exact .ite h.chanPush.other h.chanPush

theorem storeIn (h : s.Quiet t) {pa : Nat} {b : Bytes} : s.Quiet (t.storeIn pa b) := by
  have hf : s.Quiet (t.freshen (pa / 64)) := by
    unfold State.freshen
    exact .ite h h.other
  unfold State.storeIn
  extract_lets line _ s1
  have h1 : s.Quiet s1 := .ite h.other hf
  exact h1.other

theorem memFatal (h : s.Quiet t) {n : Nat} : s.Quiet (t.memFatal n) := by
  unfold State.memFatal State.sheafStop State.sheafIdle
  exact .foldl (.raise h.other) fun _ _ h => .ite h h.other

theorem spareWay (h : s.Quiet t) {n way : Nat} : s.Quiet (t.spareWay n way) := by
  unfold State.spareWay
  exact .ite (.raise h.other) h.memFatal

theorem llcErr (h : s.Quiet t) {n : Nat} {e : LineErr} : s.Quiet (t.llcErr n e) := by
  unfold State.llcErr
  exact .ite h.spareWay (.ite h (.ite h.spareWay h.other))

theorem llcEvict (h : s.Quiet t) {line : Nat} : s.Quiet (t.llcEvict line) := by
  unfold State.llcEvict
  exact .other (.ite h.chanPush h)

theorem llcRoom (h : s.Quiet t) {line : Nat} : s.Quiet (t.llcRoom line) := by
  unfold State.llcRoom
  dsimp only
  split
  · exact h
  · split
    · exact .llcEvict h.other
    · exact h.other

theorem llcPut (h : s.Quiet t) {line : Nat} {dirty : Bool} : s.Quiet (t.llcPut line dirty) := by
  unfold State.llcPut
  exact .other (.ite h h.llcRoom)

theorem uncorr (h : s.Quiet t) {line src : Nat} : s.Quiet (t.uncorr line src) := by
  unfold State.uncorr State.uncorrEvent State.uncorrRaise
  exact .ite h.other (.raise h.other)

theorem poisonOut (h : s.Quiet t) {line src : Nat} : s.Quiet (t.poisonOut line src) := by
  unfold State.poisonOut
  exact h.setPoison.chanPush.uncorr

/-- A read in which no symbol is wrong notes nothing. -/
theorem eccRead_none (s : State) (line : Nat) : (s.eccRead line []).2 = s := by
  unfold State.eccRead
  simp only [List.eraseDups_nil, List.filter_nil, List.length_nil, Nat.zero_le, if_true]
  split
  · rfl
  · split <;> rfl

theorem twinRead (h : s.Quiet t) {line tl src : Nat} : s.Quiet (t.twinRead [] line tl src).2 := by
  have he : s.Quiet (t.eccRead tl []).2 := by
    rw [eccRead_none]
    exact h
  unfold State.twinRead
  dsimp only
  split
  · exact .ite_snd he.count he.setPoison.storeIn.count.raiseLimited
  · exact .ite_snd he.count he.setPoison.storeIn.count.raiseLimited
  · exact .poisonOut (.ite he.setPoison he)
  · exact .poisonOut (.ite he.setPoison he)

theorem readLine (h : s.Quiet t) {line src cls port tag : Nat} : s.Quiet (t.readLine line [] src cls port tag).2 := by
  have he : s.Quiet (((t.chanServe line 0 cls port tag).eccRead line []).2) := by
    rw [eccRead_none]
    exact h.chanServe
  unfold State.readLine
  dsimp only
  split
  · split
    · exact h.llcErr
    · split
      · exact .twinRead (.ite h.llcErr.poisonOut h.llcErr)
      · exact .ite h.llcErr.poisonOut h.llcErr
  · split
    · exact he.llcPut
    · exact he.llcPut
    · split
      · exact he.llcPut.twinRead
      · exact .ite he.llcPut.poisonOut he.llcPut
    · split
      · exact he.llcPut.twinRead
      · exact .ite he.llcPut.poisonOut he.llcPut

theorem memRead (h : s.Quiet t) {pa n src cls port tag : Nat} {joined : List (Nat × Bool)} :
    s.Quiet (t.memRead pa n [] src cls port tag joined).2.2 := by
  unfold State.memRead
  dsimp only
  refine .foldl_snd h fun t a h => ?_
  split
  · exact h
  · exact h.readLine

theorem combClose (h : s.Quiet t) {line : Nat} : s.Quiet (t.combClose line) := by
  unfold State.combClose
  split
  · exact h.other
  · exact h

theorem writeCopy (h : s.Quiet t) {pa : Nat} {b : Bytes} {pois : Bool} {src cls : Nat} : s.Quiet (t.writeCopy pa b pois [] src cls) := by
  unfold State.writeCopy
  dsimp only
  exact .ite h (.ite (.ite h.setPoison h.setPoison.storeIn) (.ite h.setPoison (.ite h.readLine h.readLine.storeIn)))

theorem memWrite (h : s.Quiet t) {pa : Nat} {b : Bytes} {pois cls : Nat} : s.Quiet (t.memWrite pa b pois [] cls) := by
  unfold State.memWrite State.writeLine
  refine .foldl h fun t a h => .llcPut ?_
  split
  · exact h.combClose.writeCopy.writeCopy
  · exact h.combClose.writeCopy

theorem promote (h : s.Quiet t) {line cls : Nat} : s.Quiet (t.promote line cls) := by
  unfold State.promote
  exact .ite h.other h

theorem combRead (h : s.Quiet t) {line cls : Nat} {errs : List LineErr} : s.Quiet (t.combRead line cls errs).2 := by
  unfold State.combRead
  dsimp only
  split
  · exact h
  · split
    · exact .count (.promote h.other)
    · exact .ite_snd h (.ite_snd h.count h.other)

theorem combMemRead (h : s.Quiet t) {pa n cls port tag : Nat} {skip : List Nat} : s.Quiet (t.combMemRead pa n [] cls skip port tag).2.2 := by
  have hl : s.Quiet (t.combLines pa n cls skip []).2 := by
    unfold State.combLines
    exact .foldl_snd h fun _ _ h => h.combRead
  have hd : ∀ {u : State} {j : List (Nat × Bool)} {bad : List Nat}, s.Quiet u → s.Quiet (u.combDone pa n j bad) := by
    intro u j bad h
    unfold State.combDone
    refine .foldl h fun t a h => ?_
    split
    · exact h.other
    · exact h
  unfold State.combMemRead
  dsimp only
  exact hd hl.memRead

/-! ### Requests of homes to one another -/

theorem farTimeout (h : s.Quiet t) {pa : Nat} {write : Bool} : s.Quiet (t.farTimeout pa write) := by
  unfold State.farTimeout State.timedOut
  exact .raiseLimited h.other

theorem unitDone (h : s.Quiet t) {r : UnitReq} {st : Nat} {bad : List Nat} {own : Bool} {since : Option Nat} :
    s.Quiet (t.unitDone r st bad own since) := by
  unfold State.unitDone State.timedOut
  exact .ite (.raiseLimited h.other) h.observe.glnLatency.other

theorem farAsks (h : s.Quiet t) {pa n : Nat} {errs : List LineErr} {write : Bool} : s.Quiet (t.farAsks pa n errs write) := by
  unfold State.farAsks State.farAsk
  exact .foldl h fun _ _ h => .unitDone (.observe h.other)

/-! ### Homes (08) -/

theorem homeWrite (h : s.Quiet t) {pa : Nat} {b : Bytes} {poison : Bool} {cls : Nat} : s.Quiet (t.homeWrite pa b poison cls).2 := by
  unfold State.homeWrite
  exact .ite_snd h.farTimeout h.farAsks.memWrite

theorem cohSend (h : s.Quiet t) {a code grant line status ref : Nat} {data : Bytes} {quiet : Bool} {head : Option (Nat × Nat)} :
    s.Quiet (t.cohSend a code grant line status data ref quiet head) := by
  have ho : ∀ p, s.Quiet (t.observe p) := fun _ => h.observe
  unfold State.cohSend
  dsimp only
  generalize hu : t.observe _ = u
  replace ho : s.Quiet u := hu ▸ ho _
  split
  · exact ho
  · split
    · exact ho.siteSend
    · exact ho.other

theorem cohAnswer (h : s.Quiet t) {r : HReq} {code grant status : Nat} {data : Bytes} : s.Quiet (t.cohAnswer r code grant status data) := by
  unfold State.cohAnswer
  dsimp only
  exact .ite h (.ite h.count (.cohSend (.glnLatency h.other)))

theorem cohData (h : s.Quiet t) {r : HReq} {grant : Nat} {comb : Bool} : s.Quiet (t.cohData r grant comb) := by
  unfold State.cohData
  dsimp only
  refine .ite h.farTimeout.cohAnswer ?_
  split
  · exact h.farAsks.combMemRead.cohAnswer
  · generalize hm : (t.farAsks (r.line * 64) 64 [] false).memRead (r.line * 64) 64 [] srcDemand r.cls = y
    have hy : s.Quiet y.2.2 := by
      rw [← hm]
      exact h.farAsks.memRead
    exact hy.cohAnswer

theorem cohTrace (h : s.Quiet t) {x : HTxn} : s.Quiet (t.cohTrace x) := by
  have hr : t.Leaves recordParts (t.cohTrace x) := by
    unfold State.cohTrace
    dsimp only
    exact .ite (State.Leaves.refl t).touchAll.coWrite (.refl t)
  exact h.leaves hr

theorem poisonLine (h : s.Quiet t) {line : Nat} : s.Quiet (t.poisonLine line) := by
  unfold State.poisonLine
  exact h.memWrite

theorem writeInv (h : s.Quiet t) {r : HReq} : s.Quiet (t.writeInv r) := by
  have hw : s.Quiet (t.homeWrite (r.line * 64 + r.off) r.data r.poison r.cls).2 := h.homeWrite
  unfold State.writeInv
  exact hw.cohAnswer

end State.Quiet

/-! ### The end of transactions and the loss of agents (08) -/

/-- Neither the unit map nor the list of requests of the mesh has changed. -/
def State.Calm (s t : State) : Prop := t.units = s.units ∧ t.mesh.reqs = s.mesh.reqs

namespace State.Calm

theorem refl (s : State) : s.Calm s := ⟨rfl, rfl⟩

theorem trans (h : s.Calm t) (k : t.Calm u) : s.Calm u := ⟨k.1.trans h.1, k.2.trans h.2⟩

/-- A step that touches neither. -/
theorem other (h : s.Calm t) (hu : u.units = t.units := by rfl) (hr : u.mesh.reqs = t.mesh.reqs := by rfl) : s.Calm u := h.trans ⟨hu, hr⟩

theorem leaves (h : s.Calm t) (k : t.Leaves P u) (hu : Part.units.inList P = false := by decide +kernel)
    (hr : Part.reqs.inList P = false := by decide +kernel) : s.Calm u := h.trans ⟨k.units hu, k.reqs hr⟩

theorem ite {c : Prop} [Decidable c] (h : s.Calm t) (k : s.Calm u) : s.Calm (if c then t else u) := by
  split <;> assumption

theorem foldl {α : Type} {l : List α} {f : State → α → State} (h : s.Calm t) (hf : ∀ t a, s.Calm t → s.Calm (f t a)) :
    s.Calm (l.foldl f t) :=
  foldl_keeps (fun t => s.Calm t) f l hf t h

theorem foldl_snd {α β : Type} {l : List α} {f : β × State → α → β × State} {x : β × State} (h : s.Calm x.2)
    (hf : ∀ x a, s.Calm x.2 → s.Calm (f x a).2) : s.Calm (l.foldl f x).2 :=
  List.foldlRecOn (motive := fun x : β × State => s.Calm x.2) l f h fun x hx a _ => hf x a hx

/-- A step that is quiet is calm. -/
theorem quiet (h : s.Calm t) (k : t.Quiet u) : s.Calm u := h.trans ⟨k.1, k.2.1⟩

theorem count (h : s.Calm t) {f : Fid} {i j w x : Nat} : s.Calm (t.count f i j w x) := h.other

theorem combClose (h : s.Calm t) {line : Nat} : s.Calm (t.combClose line) := h.quiet (State.Quiet.refl t).combClose

theorem homeWrite (h : s.Calm t) {pa : Nat} {b : Bytes} {poison : Bool} {cls : Nat} : s.Calm (t.homeWrite pa b poison cls).2 :=
  h.quiet (State.Quiet.refl t).homeWrite

theorem cohAnswer (h : s.Calm t) {r : HReq} {code grant status : Nat} {data : Bytes} : s.Calm (t.cohAnswer r code grant status data) :=
  h.quiet (State.Quiet.refl t).cohAnswer

theorem cohData (h : s.Calm t) {r : HReq} {grant : Nat} {comb : Bool} : s.Calm (t.cohData r grant comb) :=
  h.quiet (State.Quiet.refl t).cohData

theorem cohTrace (h : s.Calm t) {x : HTxn} : s.Calm (t.cohTrace x) := h.quiet (State.Quiet.refl t).cohTrace

theorem poisonLine (h : s.Calm t) {line : Nat} : s.Calm (t.poisonLine line) := h.quiet (State.Quiet.refl t).poisonLine

theorem writeInv (h : s.Calm t) {r : HReq} : s.Calm (t.writeInv r) := h.quiet (State.Quiet.refl t).writeInv

theorem dropHolder (h : s.Calm t) {line a : Nat} : s.Calm (t.dropHolder line a) :=
  h.leaves (P := [.sf]) (State.Leaves.refl t).dropHolder

theorem setSf (h : s.Calm t) {line : Nat} {v : Option SfEnt} : s.Calm (t.setSf line v) := h.other

theorem putHtxn (h : s.Calm t) {x : HTxn} : s.Calm (t.putHtxn x) := h.leaves (P := [.txns]) (State.Leaves.refl t).putHtxn

theorem dropHtxn (h : s.Calm t) {line : Nat} : s.Calm (t.dropHtxn line) := by
  unfold State.dropHtxn
  dsimp only
  split
  · exact h.cohTrace.other
  · exact h.other

theorem snoopFor (h : s.Calm t) {x : HTxn} {code targets : Nat} : s.Calm (t.snoopFor x code targets) := by
  unfold State.snoopFor State.sendSnoop
  exact .putHtxn (.foldl h.count fun _ _ h => h.other)

theorem grantLost (h : s.Calm t) {x : HTxn} : s.Calm (t.grantLost x).2 := by
  unfold State.grantLost
  dsimp only
  split
  · exact .dropHtxn h.poisonLine.other
  · exact .dropHtxn h.other

theorem sendGrant (h : s.Calm t) {x : HTxn} {g holders : Nat} {data : Bool} : s.Calm (t.sendGrant x g data holders) := by
  have h0 : s.Calm (if g = 2 then t.combClose x.line else t) := .ite h.combClose h
  have h1 := State.Calm.ite (c := data = true) (h0.cohData (r := x.req) (grant := g) (comb := false))
    (h0.cohAnswer (r := x.req) (code := 0x81) (grant := g) (status := 0) (data := []))
  have hr : ∀ {u : State}, s.Calm u → s.Calm (u.reclaimMore x.req.agent) := fun h => by
    unfold State.reclaimMore
    exact .ite h.other h.count
  unfold State.sendGrant
  dsimp only
  exact .ite h1.dropHtxn (.ite h1.putHtxn (.ite (hr h1.putHtxn.grantLost) h1.putHtxn.grantLost))

theorem sfAlloc (h : s.Calm t) {x : HTxn} : s.Calm (t.sfAlloc x) := by
  unfold State.sfAlloc
  refine .ite h.sendGrant ?_
  split
  · exact h.putHtxn
  · exact .snoopFor (.leaves (P := [.coh, .txns]) h.putHtxn.count (State.Leaves.refl _).openHtxn)

theorem wakeAlloc (h : s.Calm t) {line : Nat} : s.Calm (t.wakeAlloc line) := by
  unfold State.wakeAlloc
  split
  · exact h.sfAlloc
  · exact h

theorem snoopsIn (h : s.Calm t) {x : HTxn} : s.Calm (t.snoopsIn x) := by
  unfold State.snoopsIn
  exact .ite h.setSf.putHtxn.sfAlloc (.ite h.setSf.sendGrant (.ite h.setSf.sendGrant (.ite h.setSf.cohData.dropHtxn
    (.ite h.setSf.setSf.writeInv.dropHtxn (.ite h.setSf.dropHtxn (.ite h.setSf.putHtxn (.ite h.setSf.dropHtxn.wakeAlloc
      h.setSf.setSf.dropHtxn.wakeAlloc)))))))

theorem snoopCheck (h : s.Calm t) {line : Nat} : s.Calm (t.snoopCheck line) := by
  unfold State.snoopCheck
  split
  · exact .ite h.snoopsIn h
  · exact h

theorem lostAt (h : s.Calm t) {x : HTxn} {a : Nat} : s.Calm (t.lostAt x a).2 := by
  unfold State.lostAt
  extract_lets owner s1 s2
  have h1 : s.Calm s1 := .ite h.poisonLine h
  have h2 : s.Calm s2 := h1.dropHolder.putHtxn
  split
  · exact h2.snoopCheck
  · split
    · exact h.grantLost
    · exact h

theorem reclaimLines (h : s.Calm t) (a : Nat) (l : List Nat) : s.Calm (State.reclaimLines a l t).2.2 := by
  induction l generalizing t with
  | nil => exact h
  | cons x l ih =>
    unfold State.reclaimLines
    split
    · split
      · dsimp only
        split
        · exact ih (.poisonLine h.other)
        · exact ih h.dropHolder
      · exact ih h
    · exact ih h

theorem agentLost (h : s.Calm t) {a : Nat} : s.Calm (t.agentLost a) := by
  unfold State.agentLost
  split
  · exact h
  extract_lets keep _ s0 s1
  have h1 : s.Calm s1 := h.other
  have h2 : s.Calm (s1.coh.txns.foldl (fun (x : Nat × State) t =>
      match x.2.htxn t.line with
      | some t1 => let (p, s') := x.2.lostAt t1 a
        (x.1 + b2n p, s')
      | none => x) (0, s1)).2 := by
    refine .foldl_snd h1 fun x y hx => ?_
    dsimp only
    split
    · exact hx.lostAt
    · exact hx
  exact .other (State.Calm.reclaimLines h2 a _)

theorem evictTake (h : s.Calm t) {a line : Nat} {data : Bytes} {poison : Bool} {x : Nat × State}
    (hu : t.evictTake a line data poison = some x) : s.Calm x.2 := by
  have some_ite : ∀ {c : Prop} [Decidable c] {st : Nat} {v : State}, s.Calm v →
      (if c then some (st, v) else none) = some x → s.Calm x.2 := by
    intro c _ st v h hu
    split at hu
    · cases hu
      exact h
    · cases hu
  have hw : s.Calm (t.homeWrite (line * 64) (slice data 0 64) poison).2 := h.homeWrite
  have hk : ∀ {u : State}, s.Calm u → s.Calm (u.unhold a line) := fun h =>
    h.leaves (P := [.sf, .txns]) (State.Leaves.refl _).unhold
  unfold State.evictTake at hu
  dsimp only at hu
  split at hu
  · exact some_ite h.homeWrite.dropHolder hu
  · split at hu
    · exact some_ite (hk h.homeWrite) hu
    · split at hu
      · exact some_ite h.homeWrite.dropHolder hu
      · exact some_ite h.homeWrite.dropHolder.putHtxn hu

theorem evictsKept (h : s.Calm t) {n : Nat} : s.Calm (t.evictsKept n) := by
  have take : ∀ {x : State} {line : Nat} {d : Bytes} {p : Bool}, s.Calm x →
      s.Calm (((x.evictTake n line d p).map Prod.snd).getD x) := by
    intro x line d p h
    cases hx : x.evictTake n line d p with
    | none => exact h
    | some y => exact h.evictTake hx
  unfold State.evictsKept
  dsimp only
  refine .foldl (.foldl h.other fun _ _ h => take h) fun x e h => ?_
  split
  · exact take h
  · exact h

end State.Calm

end Sys2Proof.Machine
end

section
-- One proof after the other: many waiting at once would hold too much memory when the text is checked as one.
set_option Elab.async false
/-! Chiplet sites: training (09 R351-R356, R362, R374). -/

namespace Sys2Proof.Machine

variable {s t : State} {P : List Part} {n : Nat} {p : SiteParam}

/-! ### The parameter exchange -/

theorem State.side_out (s : State) (n code : Nat) (l : List Nat) : ∃ o, s.side n code l = { s with out := o } := by
  unfold State.side
  split
  · exact ⟨_, rfl⟩
  · exact ⟨s.out, rfl⟩

/-- The hub's own side of an exchange: messages on the sideband, and the modules whose sideband is up. -/
theorem State.exchange_eq (s : State) (n : Nat) : ∃ o v, v.attempts = (s.link n).attempts ∧ v.retest = (s.link n).retest
    ∧ (s.sideInit n).paramOut n = { s.setLink n v with out := o } := by
  unfold State.paramOut
  dsimp only
  obtain ⟨o1, h1⟩ := (s.sideInit n).side_out n 0 [(s.sideInit n).f .SITE_CFG_PROFILE n, (s.sideInit n).f .SITE_CFG_CXL_ROLE n, 512, 512, 64, 64, 1]
  rw [h1]
  obtain ⟨o2, h2⟩ := State.side_out { s.sideInit n with out := o1 } n 1 ((List.range 6).flatMap fun k =>
    [((s.sideInit n).repair n k).width] ++ ((s.sideInit n).repair n k).tx.length :: ((s.sideInit n).repair n k).tx
      ++ ((s.sideInit n).repair n k).rx.length :: ((s.sideInit n).repair n k).rx)
  exact ⟨o2, { s.link n with sideUp := maskOf ((List.range 6).filter (fun k => !s.umOut n k)) }, rfl, rfl, h2⟩

theorem State.rstLow_of_siteTrains (h : s.siteTrains n = true) : (s.link n).rstLow = false := by
  unfold State.siteTrains at h
  simp only [Bool.and_eq_true, Bool.not_eq_true'] at h
  exact h.1.1.1.2

theorem State.siteReleaseDue_training (h : s.siteTrains n = true) : s.siteReleaseDue n (fun _ => true) = s := by
  have hm : s.siteMayRelease n = false := by
    unfold State.siteMayRelease
    simp [State.rstLow_of_siteTrains h]
  unfold State.siteReleaseDue
  split
  · rw [if_neg (by simp [hm])]
  · rfl

/-- What an exchange that the two sides agree on puts in force, before the link's state. -/
def State.agreed (s : State) (n : Nat) (p : SiteParam) (l : SLink) (test : Nat → Bool) (plan : List UmRepair) (ctl : Bool) : State :=
  let cr (i : Nat) : Nat := p.credits.getD i 0 % 65536
  let s1 := (((s.setF .SITE_PEER_CREDITS_REQ n 0 (cr 0)).setF .SITE_PEER_CREDITS_RSP n 0 (cr 1)).setF
    .SITE_PEER_CREDITS_SNP n 0 (cr 2)).setF .SITE_PEER_CREDITS_SRSP n 0 (cr 3)
  let s1a := (List.range 6).foldl (fun t k => if test k then t.setRepair n k (laneTested p k) else t) s1
  s1a.setLink n { l with attempts := 0, credits := [cr 0, cr 1, cr 2, cr 3], tryRate := 5, ctl := ctl, plan := plan }

theorem siteTraining_trains (hn : s.siteTrains n = true) (hl : s.siteLinkState n ∈ [0, 2, 3]) : exec (.siteTraining n p) s
    = (let e := (s.sideInit n).paramOut n
      let l := e.link n
      if e.paramOk n p = false then
        if 2 ≤ l.attempts then .next (e.siteTrainFail n)
        else .next ((e.setLink n { l with attempts := l.attempts + 1 }).setF .SITE_STATUS_LINK n 0 3)
      else .next (((e.agreed n p l (fun k => e.laneTest n k && !e.umOut n k) ((List.range 6).map (e.planModule n p))
        (decide (e.f .SITE_CFG_CTL_ACCESS n = 1))).setF .SITE_STATUS_PROFILE_ACT n 0
          (if p.profile = 1 then 3 else if p.role = 1 then 2 else 1)).setF .SITE_STATUS_LINK n 0 4)) := by
  change execSiteTraining n p s = _
  have hls : s.siteLinkState n = 0 ∨ s.siteLinkState n = 2 ∨ s.siteLinkState n = 3 := by simpa using hl
  unfold execSiteTraining
  rw [State.siteReleaseDue_training hn]
  dsimp only
  rw [if_neg (by simp [hn, hls])]
  unfold State.agreed
  simp only [Bool.not_eq_true', Bool.and_eq_true]

theorem State.setRepair_leaves (s : State) (n k : Nat) (r : UmRepair) :
    s.Leaves ([.boot, .fld .GLB_REC_STATUS_STALE] : List Part) (s.setRepair n k r) := by
  have h := State.Leaves.refl (P := [.boot, .fld .GLB_REC_STATUS_STALE]) s
  unfold State.setRepair
  exact .ite h.bootSet h.bootSet.bootSet.flag

/-- What an agreed exchange may change, besides the link's state. -/
def agreedParts : List Part :=
  [.boot, .links, .control, .fld .GLB_REC_STATUS_STALE, .fld .SITE_PEER_CREDITS_REQ, .fld .SITE_PEER_CREDITS_RSP, .fld .SITE_PEER_CREDITS_SNP,
    .fld .SITE_PEER_CREDITS_SRSP]

theorem State.agreed_leaves (s : State) (n : Nat) (p : SiteParam) (l : SLink) (test : Nat → Bool) (plan : List UmRepair) (ctl : Bool) :
    s.Leaves agreedParts (s.agreed n p l test plan ctl) := by
  unfold State.agreed
  exact .setControl (.foldl (State.Leaves.refl s).setF.setF.setF.setF fun _ _ h =>
    .ite (h.step (State.setRepair_leaves _ _ _ _) (by decide +kernel)) h)

theorem State.agreed_shows (s : State) (n : Nat) (p : SiteParam) (l : SLink) (test : Nat → Bool) (plan : List UmRepair) (ctl : Bool) :
    (s.agreed n p l test plan ctl).f .SITE_PEER_CREDITS_REQ n = p.credits.getD 0 0 % 65536
      ∧ (s.agreed n p l test plan ctl).link n = { l with attempts := 0, credits := (List.range 4).map (fun i => p.credits.getD i 0 % 65536), tryRate := 5, ctl := ctl, plan := plan } := by
  unfold State.agreed
  extract_lets cr s1 s1a
  have h1 : s1.f .SITE_PEER_CREDITS_REQ n = cr 0 := by
    simp [s1]
  have ha : s1.Leaves ([.boot, .fld .GLB_REC_STATUS_STALE] : List Part) s1a := .foldl (.refl s1) fun _ _ h =>
    .ite (h.trans (State.setRepair_leaves _ _ _ _)) h
  exact ⟨(ha.f _ _ _).trans h1, State.link_setLink ..⟩

theorem siteTraining_exchange (hn : s.siteTrains n = true) (hl : s.siteLinkState n ∈ [0, 2, 3]) :
    (s.paramOk n p = true → ∃ t, exec (.siteTraining n p) s = .next t ∧ t.siteLinkState n = 4
      ∧ t.f .SITE_STATUS_PROFILE_ACT n = (if p.profile = 1 then 3 else if p.role = 1 then 2 else 1)
      ∧ (t.link n).attempts = 0 ∧ t.f .SITE_PEER_CREDITS_REQ n = p.credits.getD 0 0 % 65536
      ∧ (t.link n).credits = (List.range 4).map (fun i => p.credits.getD i 0 % 65536)
      ∧ (t.link n).plan = (List.range 6).map (s.planModule n p) ∧ t.units = s.units)
    ∧ (s.paramOk n p = false → (s.link n).attempts < 2 → ∃ t, exec (.siteTraining n p) s = .next t
      ∧ t.siteLinkState n = 3 ∧ (t.link n).attempts = (s.link n).attempts + 1 ∧ t.units = s.units)
    ∧ (s.paramOk n p = false → 2 ≤ (s.link n).attempts →
      exec (.siteTraining n p) s = .next (((s.sideInit n).paramOut n).siteTrainFail n)) := by
  have hx := siteTraining_trains (p := p) hn hl
  obtain ⟨o, v, ha, hr, he⟩ := s.exchange_eq n
  have hl2 : ((s.sideInit n).paramOut n).link n = v := by
    rw [he]
    exact State.link_setLink ..
  have hok : ((s.sideInit n).paramOut n).paramOk n p = s.paramOk n p := by
    rw [he]
    rfl
  have hu : ((s.sideInit n).paramOut n).units = s.units := by
    rw [he]
    rfl
  have hp : ∀ k, ((s.sideInit n).paramOut n).planModule n p k = s.planModule n p k := fun k => by
    have ht : ((s.sideInit n).paramOut n).laneTest n k = s.laneTest n k := by
      unfold State.laneTest
      rw [hl2, hr, he]
      rfl
    unfold State.planModule State.hubSide
    rw [ht, he]
    rfl
  dsimp only at hx
  rw [hl2, hok, ha] at hx
  generalize (s.sideInit n).paramOut n = e at hx hu hp he
  refine ⟨fun h => ?_, fun h h2 => ?_, fun h h2 => ?_⟩
  · rw [if_neg (by simp [h])] at hx
    have hs := e.agreed_leaves n p v (fun k => e.laneTest n k && !e.umOut n k) ((List.range 6).map (e.planModule n p)) (decide (e.f .SITE_CFG_CTL_ACCESS n = 1))
    obtain ⟨hc, hk⟩ := e.agreed_shows n p v (fun k => e.laneTest n k && !e.umOut n k) ((List.range 6).map (e.planModule n p)) (decide (e.f .SITE_CFG_CTL_ACCESS n = 1))
    generalize e.agreed n p v (fun k => e.laneTest n k && !e.umOut n k) ((List.range 6).map (e.planModule n p)) (decide (e.f .SITE_CFG_CTL_ACCESS n = 1)) = u at hx hs hc hk
    refine ⟨_, hx, State.f_setF_same .., ?_, congrArg SLink.attempts hk, ?_, congrArg SLink.credits hk, ?_, hs.units.trans hu⟩
    · rw [State.f_setF_fid _ _ (by decide), State.f_setF_same]
    · rw [State.f_setF_fid _ _ (by decide), State.f_setF_fid _ _ (by decide)]
      exact hc
    · exact (congrArg SLink.plan hk).trans (List.map_congr_left fun k _ => hp k)
  · rw [if_pos h, if_neg (by omega)] at hx
    exact ⟨_, hx, State.f_setF_same .., congrArg SLink.attempts (State.link_setLink ..), hu⟩
  · rw [if_pos h, if_pos h2] at hx
    exact hx

/-! ### The release of SITEn_RST_N -/

theorem State.siteRelease_shows (s : State) (n : Nat) : ((s.siteRelease n).link n).rstLow = false
    ∧ ((s.siteRelease n).link n).releaseAt = none ∧ (s.siteRelease n).siteLinkState n = 2 :=
  ⟨congrArg SLink.rstLow (State.link_setLink ..), congrArg SLink.releaseAt (State.link_setLink ..), State.f_setF_same ..⟩

theorem siteTraining_released {x : Nat} (hx : (s.link n).releaseAt = some x) (hm : s.siteMayRelease n = true)
    (ht : (s.siteRelease n).siteTrains n = true) : exec (.siteTraining n p) s = exec (.siteTraining n p) (s.siteRelease n) := by
  obtain ⟨-, hr, hl⟩ := s.siteRelease_shows n
  have hd : s.siteReleaseDue n (fun _ => true) = s.siteRelease n := by
    unfold State.siteReleaseDue
    rw [hx]
    exact if_pos ⟨rfl, hm⟩
  have hd2 : (s.siteRelease n).siteReleaseDue n (fun _ => true) = s.siteRelease n := by
    unfold State.siteReleaseDue
    rw [hr]
  change execSiteTraining n p s = execSiteTraining n p (s.siteRelease n)
  unfold execSiteTraining
  rw [hd, hd2]
  dsimp only
  have hc : ¬ ((!(s.siteRelease n).siteTrains n) = true ∨ (!(decide ((s.siteRelease n).siteLinkState n = 0
      ∨ (s.siteRelease n).siteLinkState n = 2 ∨ (s.siteRelease n).siteLinkState n = 3))) = true) := by simp [ht, hl]
  rw [if_neg hc, if_neg hc]

theorem chipletResetRelease_releases (hn : n < 8) (hh : (s.link n).hold = true) (hm : s.siteMayRelease n = true) :
    exec (.chipletResetRelease n) s = .next (s.siteRelease n) := by
  change execChipletResetRelease n s = _
  unfold execChipletResetRelease
  rw [if_pos ⟨hn, hh, hm⟩]

/-! ### SITE_CTL -/

theorem siteCtl_rows {m : Master} {v : Word} {w : Nat} {t : State} (h : s.siteCtl n (bits w 13 8) (bits w 1 1) (bits w 0 0) = (hOk, t)) :
    (w = v.toNat → writeGives (.siteRetest m n v) m .SITE_CTL n 0 w s t)
    ∧ (w = setBit v.toNat 1 true → writeGives (.chipletReset m n v) m .SITE_CTL n 0 w s t)
    ∧ (w = setBit v.toNat 0 true → writeGives (.siteRetrain m n v) m .SITE_CTL n 0 w s t) := by
  have hb : s.blockWrite m .SITE_CTL n 0 w = (hOk, t) := (State.blockWrite_write3 (by decide)).trans h
  exact ⟨fun hw => hw ▸ writeGives_of (fun _ => rfl) (hw ▸ hb), fun hw => hw ▸ writeGives_of (fun _ => rfl) (hw ▸ hb),
    fun hw => hw ▸ writeGives_of (fun _ => rfl) (hw ▸ hb)⟩

theorem State.siteCtl_retest (s : State) (n r : Nat) : ((s.siteCtl n r 0 0).2.link n).retest = (s.link n).retest ||| r :=
  congrArg SLink.retest (State.link_setLink ..)

/-- A site's order for a lane test noted. -/
def State.retestNoted (s : State) (n r : Nat) : State := s.setLink n { s.link n with retest := (s.link n).retest ||| r }

theorem State.link_retestNoted (s : State) (n r : Nat) : (s.retestNoted n r).link n = { s.link n with retest := (s.link n).retest ||| r } :=
  State.link_setLink ..

theorem State.linkDown_down {cause : Nat} (h : s.linkUp n = false) : s.linkDown n cause = s := by
  unfold State.linkDown
  rw [if_pos (by simp [h])]

theorem State.siteCtl_reset {r : Nat} (h : s.linkUp n = false) (hr : s.siteRails n = true) :
    let l := (s.siteCtl n r 1 0).2.link n
    (s.siteCtl n r 1 0).2.siteLinkState n = 1 ∧ l.rstLow = true ∧ l.hold = true ∧ l.releaseAt = none ∧ l.lowUntil = s.now + 1000 := by
  have hx : (s.siteCtl n r 1 0).2 = ((s.retestNoted n r).setLink n { (s.retestNoted n r).link n with rstLow := true, hold := true, attempts := 0, releaseAt := none, sideUp := 0, lowUntil := s.now + 1000 }).setF .SITE_STATUS_LINK n 0 1 := by
    have hrr : (s.retestNoted n r).siteRails n = true := by
      unfold State.siteRails at hr ⊢
      rw [State.link_retestNoted]
      exact hr
    change (s.retestNoted n r).chipletReset n = _
    unfold State.chipletReset
    rw [State.linkDown_down (s := s.retestNoted n r) h]
    dsimp only
    rw [hrr]
    rfl
  rw [hx]
  have hl := State.link_setLink (s.retestNoted n r) n { (s.retestNoted n r).link n with rstLow := true, hold := true, attempts := 0, releaseAt := none, sideUp := 0, lowUntil := s.now + 1000 }
  exact ⟨State.f_setF_same .., congrArg SLink.rstLow hl, congrArg SLink.hold hl, congrArg SLink.releaseAt hl, congrArg SLink.lowUntil hl⟩

theorem State.siteCtl_retrain {r : Nat} (h : s.linkUp n = true) : (s.siteCtl n r 0 1).2 = (s.retestNoted n r).linkDown n 11 := by
  change (s.retestNoted n r).siteRetrain n = _
  unfold State.siteRetrain
  exact if_pos h

end Sys2Proof.Machine
end

section
-- One proof after the other: many waiting at once would hold too much memory when the text is checked as one.
set_option Elab.async false
/-! Chiplet sites: the end of a training (09 R351 step 5, R352). -/

namespace Sys2Proof.Machine

variable {s t : State} {P : List Part} {n : Nat}

/-! ### Reclaims that have ended by then (08 R320) -/

/-- The reclaims of a site ended. -/
def State.reclaimed (s : State) (n : Nat) : State := (s.coh.reclaim.filter (fun r => r.1 == n)).foldl State.reclaimEnd s

/-- What the end of a reclaim may change. -/
def reclaimParts : List Part :=
  ([.coh, .fld .COH_RECLAIMED_DROPPED, .fld .COH_RECLAIMED_POISONED, .fld .COH_ERR_STATUS_RECLAIM, .fld .COH_AGENT_STATUS_STATE] : List Part)
    ++ raiseParts

theorem State.reclaimed_leaves (s : State) (n : Nat) : s.Leaves reclaimParts (s.reclaimed n) := by
  unfold State.reclaimed State.reclaimEnd
  exact .foldl (.refl s) fun _ _ h => h.cohSet.count.count.flag.setF.raise

theorem State.reclaimed_none (h : s.coh.reclaim = []) : s.reclaimed n = s := by
  unfold State.reclaimed
  rw [h]
  rfl

theorem State.link_of_links (h : t.links = s.links) (n : Nat) : t.link n = s.link n := by
  unfold State.link
  rw [h]

theorem State.siteTrains_reclaimed (h : s.siteTrains n = true) : (s.reclaimed n).siteTrains n = true := by
  have hl := s.reclaimed_leaves n
  have hb : (s.reclaimed n).boot = s.boot := hl .boot rfl
  unfold State.siteTrains State.dom at h ⊢
  rw [State.link_of_links hl.links, hl.unit .site n, hl.f .SITE_CFG_FITTED, hl.doms, hb]
  exact h

/-! ### Modules that come into the rotation -/

/-- What a module's entry into the rotation may change, besides its width. -/
def umInParts : List Part := unitParts .ucie ++ ([.links, .control, .fld .SITE_ERR_STATUS_WIDTH] : List Part)

theorem State.umIn_leaves (s : State) (n k : Nat) (r : UmRepair) : (s.setF .SITE_UM_STATUS_WIDTH n k r.width).Leaves umInParts (s.umIn n k r) := by
  have hw : (s.setF .SITE_UM_STATUS_WIDTH n k r.width).Leaves umInParts (s.setWidth n k r.width) :=
    (State.Leaves.setDeg (c := .ucie) (.refl _)).mono (by decide +kernel)
  have hl : (s.setF .SITE_UM_STATUS_WIDTH n k r.width).Leaves umInParts ((s.setWidth n k r.width).setLive n k r) := hw.setControl
  unfold State.umIn
  exact .ite hl.flag.raise hl

theorem State.umWidth_umIn (s : State) (n k : Nat) (r : UmRepair) : (s.umIn n k r).umWidth n k = r.width :=
  ((s.umIn_leaves n k r).f .SITE_UM_STATUS_WIDTH n k).trans (State.f_setF_same ..)

theorem State.umWidth_umIn_ne (s : State) {n j k : Nat} (r : UmRepair) (h : k ≠ j) : (s.umIn n j r).umWidth n k = s.umWidth n k :=
  ((s.umIn_leaves n j r).f .SITE_UM_STATUS_WIDTH n k).trans (State.f_setF_ne _ _ (by simpa using h))

/-- All six modules of a site come up, each as planned. -/
def State.modulesIn (s : State) (n : Nat) (plan : List UmRepair) : State := (List.range 6).foldl (fun s k => s.umIn n k (plan.getD k {})) s

theorem State.umWidth_modulesIn (s : State) (plan : List UmRepair) {k : Nat} (hk : k < 6) :
    (s.modulesIn n plan).umWidth n k = (plan.getD k {}).width :=
  foldl_one (p := fun s : State => s.umWidth n k) (g := fun s k => s.umIn n k (plan.getD k {})) (fun _ => (plan.getD k {}).width)
    (List.mem_range.mpr hk) List.nodup_range (fun _ _ h s => s.umWidth_umIn_ne _ h.symm) (fun s => s.umWidth_umIn n k _) s

theorem State.modulesIn_leaves (s : State) (n : Nat) (plan : List UmRepair) :
    s.Leaves (.fld .SITE_UM_STATUS_WIDTH :: umInParts) (s.modulesIn n plan) :=
  .foldl (.refl s) fun t k h => (h.setF (f := .SITE_UM_STATUS_WIDTH) (i := n) (j := k)).step (t.umIn_leaves n k _) (by decide +kernel)

/-! ### The link comes up -/

/-- The link up, and the site's agent with it. -/
def State.linkIn (s : State) (n : Nat) : State :=
  let s2 := s.setF .SITE_STATUS_LINK n 0 5
  (s2.setLink n { s2.link n with attempts := 0, retest := 0, plan := [], waking := false }).agentUp n true

/-- A site that has waked is PRESENT, with its port open. -/
def State.wokenIn (s : State) (n : Nat) (waking : Bool) : State :=
  if waking then (s.setUnit .site n .present).setFence (16 + n) 0 else s

/-- Capacity and DEGRADED follow the link, and it is reported. -/
def State.upTold (s : State) (n rate : Nat) (waking : Bool) : State :=
  let s5 := (s.siteCapSet n).siteDegSet n
  let s6 := s5.raise 0x5001 sevNone 5 n (rate :: (List.range 6).map (s5.umWidth n) ++ [s5.siteCapacity n])
  if waking then s6.fallowReport 1 n 5 0 else s6

theorem siteLinkUp_ends {rate trained : Nat} (hs : s.siteTrains n = true) (hl : s.siteLinkState n = 4) (h1 : 1 ≤ rate)
    (hr : rate ≤ (s.link n).tryRate) : exec (.siteLinkUp n rate trained) s
      = (let up (k : Nat) : Bool := bit trained k && ((s.link n).plan.getD k {}).width != 0
        if ((List.range 6).filter up).length < 3 then
          .next (if rate = 1 then (s.reclaimed n).siteTrainFail n else (s.reclaimed n).setLink n { s.link n with tryRate := rate - 1 })
        else .next ((((((List.range 6).foldl (fun u k => if up k then u.umIn n k ((s.link n).plan.getD k {}) else if u.umOut n k then u else u.umFail n k)
          ((s.reclaimed n).setF .SITE_STATUS_RATE n 0 rate)).linkIn n).wokenIn n (s.link n).waking).upTold n rate (s.link n).waking))) := by
  have hv := s.reclaimed_leaves n
  have hk := State.link_of_links hv.links n
  have hl2 : (s.reclaimed n).siteLinkState n = 4 := (hv.f .SITE_STATUS_LINK n 0).trans hl
  have ht := State.siteTrains_reclaimed hs
  change execSiteLinkUp n rate trained s = _
  unfold execSiteLinkUp
  rw [show (s.coh.reclaim.filter (fun r => r.1 == n)).foldl State.reclaimEnd s = s.reclaimed n from rfl]
  dsimp only
  rw [if_neg (by simp [ht, hl2, hk]; omega), hk]
  rfl

theorem siteLinkUp_slower {rate trained : Nat} (hs : s.siteTrains n = true) (hl : s.siteLinkState n = 4) (h1 : 1 ≤ rate)
    (hr : rate ≤ (s.link n).tryRate) (hc : s.coh.reclaim = [])
    (hu : ((List.range 6).filter (fun k => bit trained k && ((s.link n).plan.getD k {}).width != 0)).length < 3) :
    (rate = 1 → exec (.siteLinkUp n rate trained) s = .next (s.siteTrainFail n))
      ∧ (1 < rate → exec (.siteLinkUp n rate trained) s = .next (s.setLink n { s.link n with tryRate := rate - 1 })) := by
  have hx := siteLinkUp_ends (trained := trained) hs hl h1 hr
  dsimp only at hx
  rw [if_pos hu, State.reclaimed_none hc] at hx
  exact ⟨fun h => by rw [hx, if_pos h], fun h => by rw [hx, if_neg (by omega)]⟩

/-- What the steps after the link's are up may change. -/
def upToldParts : List Part :=
  unitParts .site ++ capParts ++ ([.fld .PWR_FALLOW_RESULT_PHASE, .fld .PWR_FALLOW_RESULT_CODE] : List Part)

theorem State.upTold_leaves (s : State) (n rate : Nat) (waking : Bool) : s.Leaves upToldParts (s.upTold n rate waking) := by
  have h1 : s.Leaves upToldParts (s.siteCapSet n) := (State.Leaves.refl s).siteCapSet
  have h2 : s.Leaves upToldParts ((s.siteCapSet n).siteDegSet n) := h1.step (State.Leaves.setDeg (c := .site) (.refl _)) (by decide +kernel)
  unfold State.upTold
  exact .ite h2.raise.fallowReport h2.raise

theorem State.setDeg_st (s : State) (c : UCls) (n : Nat) (d : Bool) : ((s.setDeg c n d).unit c n).st = (s.unit c n).st := by
  unfold State.setDeg
  split
  · exact (congrArg CUnit.st (s.unit_putUnit c n { s.unit c n with deg := d })).trans rfl
  · rfl

theorem State.upTold_st (s : State) (n rate : Nat) (waking : Bool) : ((s.upTold n rate waking).unit .site n).st = (s.unit .site n).st := by
  have h1 : s.Leaves capParts (s.siteCapSet n) := (State.Leaves.refl s).siteCapSet
  have h2 : ∀ u : State, u.Leaves (raiseParts ++ [.fld .PWR_FALLOW_RESULT_PHASE, .fld .PWR_FALLOW_RESULT_CODE]) (if waking then
      (u.raise 0x5001 sevNone 5 n (rate :: (List.range 6).map (u.umWidth n) ++ [u.siteCapacity n])).fallowReport 1 n 5 0
      else u.raise 0x5001 sevNone 5 n (rate :: (List.range 6).map (u.umWidth n) ++ [u.siteCapacity n])) := fun u =>
    .ite (State.Leaves.refl u).raise.fallowReport (State.Leaves.refl u).raise
  refine (congrArg CUnit.st ((h2 _).unit .site n)).trans ?_
  exact (State.setDeg_st ..).trans (congrArg CUnit.st (h1.unit .site n))

theorem State.wokenIn_leaves (s : State) (n : Nat) (waking : Bool) : s.Leaves (unitParts .site ++ [.ports]) (s.wokenIn n waking) := by
  have h := (s.setUnit_leaves .site n .present).mono (Q := unitParts .site ++ [.ports]) (by decide +kernel)
  unfold State.wokenIn
  exact .ite h.setFence (.refl s)

theorem State.wokenIn_wakes (h : (s.unit .site n).st = some .fallow) :
    ((s.wokenIn n true).unit .site n).st = some .present ∧ ((s.wokenIn n true).qport (16 + n)).fence = 0 :=
  ⟨State.unit_setUnit (by rw [h]; rfl), congrArg QPort.fence (State.qport_setQport ..)⟩

theorem State.linkIn_shows (s : State) (n : Nat) : (s.linkIn n).siteLinkState n = 5 ∧ bit (s.linkIn n).coh.up n = true
    ∧ ((s.linkIn n).link n).waking = false
    ∧ (∀ f i j, f ≠ .SITE_STATUS_LINK → f ≠ .COH_AGENT_STATUS_STATE → (s.linkIn n).f f i j = s.f f i j) ∧ (s.linkIn n).units = s.units := by
  have h : ∀ f i j, (s.linkIn n).f f i j = ((s.setF .SITE_STATUS_LINK n 0 5).setF .COH_AGENT_STATUS_STATE n 0 1).f f i j := fun _ _ _ => rfl
  refine ⟨?_, bit_setBit .., congrArg SLink.waking (NTbl.at_put_same ({} : SLink) _ n _), fun f i j h1 h2 => ?_, rfl⟩
  · exact (h ..).trans ((State.f_setF_fid _ _ (by decide)).trans (State.f_setF_same ..))
  · exact (h ..).trans ((State.f_setF_fid _ _ h2).trans (State.f_setF_fid _ _ h1))

theorem siteLinkUp_shows {rate trained : Nat} (hs : s.siteTrains n = true) (hl : s.siteLinkState n = 4) (h1 : 1 ≤ rate)
    (hr : rate ≤ (s.link n).tryRate) (hu : ∀ k, k < 6 → bit trained k = true ∧ ((s.link n).plan.getD k {}).width ≠ 0) :
    ∃ t, exec (.siteLinkUp n rate trained) s = .next t ∧ t.siteLinkState n = 5 ∧ t.f .SITE_STATUS_RATE n = rate
      ∧ (∀ k, k < 6 → t.umWidth n k = ((s.link n).plan.getD k {}).width) ∧ bit t.coh.up n = true ∧ (t.link n).waking = false
      ∧ ((s.link n).waking = true → (s.unit .site n).st = some .fallow →
        (t.unit .site n).st = some .present ∧ (t.qport (16 + n)).fence = 0) := by
  have hup : ∀ k ∈ List.range 6, (bit trained k && ((s.link n).plan.getD k {}).width != 0) = true := fun k hk => by
    obtain ⟨hb, hw⟩ := hu k (List.mem_range.mp hk)
    simp only [hb, Bool.true_and, bne_iff_ne]
    exact hw
  have hx := siteLinkUp_ends (trained := trained) hs hl h1 hr
  dsimp only at hx
  have hfold : ∀ X : State, (List.range 6).foldl (fun (u : State) k => if (bit trained k && ((s.link n).plan.getD k {}).width != 0) = true then
      u.umIn n k ((s.link n).plan.getD k {}) else if u.umOut n k = true then u else u.umFail n k) X = X.modulesIn n (s.link n).plan :=
    fun X => List.foldl_ext _ _ X fun u k hk => if_pos (hup k hk)
  rw [List.filter_eq_self.mpr hup, if_neg (by simp), hfold] at hx
  have h0 := s.reclaimed_leaves n
  have hm := ((s.reclaimed n).setF .SITE_STATUS_RATE n 0 rate).modulesIn_leaves n (s.link n).plan
  have hw := fun k hk => ((s.reclaimed n).setF .SITE_STATUS_RATE n 0 rate).umWidth_modulesIn (n := n) (s.link n).plan (k := k) hk
  have hrate : (((s.reclaimed n).setF .SITE_STATUS_RATE n 0 rate).modulesIn n (s.link n).plan).f .SITE_STATUS_RATE n = rate :=
    (hm.f _ _ _).trans (State.f_setF_same ..)
  have hun : (((s.reclaimed n).setF .SITE_STATUS_RATE n 0 rate).modulesIn n (s.link n).plan).unit .site n = s.unit .site n :=
    (hm.unit .site n).trans (h0.unit .site n)
  generalize ((s.reclaimed n).setF .SITE_STATUS_RATE n 0 rate).modulesIn n (s.link n).plan = s1 at hx hw hrate hun
  obtain ⟨hlk, hbit, hwk, hf, hlu⟩ := s1.linkIn_shows n
  have hun3 : (s1.linkIn n).unit .site n = s.unit .site n := hun
  generalize s1.linkIn n = s3 at hx hlk hbit hwk hf hun3
  have hk4 := s3.wokenIn_leaves n (s.link n).waking
  have hwoken : (s.link n).waking = true → (s.unit .site n).st = some .fallow →
      ((s3.wokenIn n (s.link n).waking).unit .site n).st = some .present ∧ ((s3.wokenIn n (s.link n).waking).qport (16 + n)).fence = 0 :=
    fun hwake hfal => by
      rw [hwake]
      exact State.wokenIn_wakes (by rw [hun3]; exact hfal)
  generalize s3.wokenIn n (s.link n).waking = s4 at hx hk4 hwoken
  have hk5 := s4.upTold_leaves n rate (s.link n).waking
  have hst := s4.upTold_st n rate (s.link n).waking
  have hk6 : s3.Leaves (.ports :: upToldParts) (s4.upTold n rate (s.link n).waking) := (hk4.mono (by decide +kernel)).step hk5 (by decide +kernel)
  generalize s4.upTold n rate (s.link n).waking = t at hx hst hk5 hk6
  have hl6 : t.link n = s3.link n := State.link_of_links hk6.links n
  refine ⟨t, hx, (hk6.f .SITE_STATUS_LINK n 0).trans hlk, ?_, fun k hk => ?_, ?_, ?_, fun hwake hfal => ?_⟩
  · exact (hk6.f .SITE_STATUS_RATE n 0).trans ((hf _ _ _ (by decide) (by decide)).trans hrate)
  · exact (hk6.f .SITE_UM_STATUS_WIDTH n k).trans ((hf _ _ _ (by decide) (by decide)).trans (hw k hk))
  · rw [hk6.up]
    exact hbit
  · rw [hl6]
    exact hwk
  · obtain ⟨hp, hq⟩ := hwoken hwake hfal
    refine ⟨hst.trans hp, ?_⟩
    rw [State.qport_of_ports hk5.ports]
    exact hq

theorem siteTraining_holds : siteTraining := fun s _ _ _ _ =>
  ⟨fun _ hs hl => siteTraining_exchange hs hl, fun _ hx hm ht => siteTraining_released hx hm ht,
    fun _ _ _ hs hl h1 hr hu => siteLinkUp_shows hs hl h1 hr hu, fun _ _ _ hs hl h1 hr hc hu => siteLinkUp_slower hs hl h1 hr hc hu,
    fun hn hh hm => ⟨chipletResetRelease_releases hn hh hm, (s.siteRelease_shows _).1, (s.siteRelease_shows _).2.2⟩,
    fun _ _ h => siteCtl_rows h, fun r _ => s.siteCtl_retest _ r, fun _ _ h hr => State.siteCtl_reset h hr,
    fun _ _ h => State.siteCtl_retrain h⟩

end Sys2Proof.Machine
end

section
-- One proof after the other: many waiting at once would hold too much memory when the text is checked as one.
set_option Elab.async false
/-! Chiplet sites: a link that drops, and modules and sites that fail (09 R357-R366). -/

namespace Sys2Proof.Machine

variable {s t : State} {P : List Part} {n cause : Nat}

/-! ### A link that drops (09 R359) -/

theorem State.linkCut_reqs (s : State) (n : Nat) : (∀ r, r ∈ (s.linkCut n).2.mesh.reqs → reqToSite n r = false)
    ∧ (s.linkCut n).2.units = s.units := by
  obtain ⟨hu, -⟩ := State.Calm.evictsKept (n := n) (.refl s)
  refine ⟨fun r hr => ?_, hu⟩
  obtain ⟨q, -, rfl⟩ := List.mem_map.mp hr
  split
  · unfold reqToSite
    split <;> simp
  · next hq =>
    have hq := Bool.eq_false_iff.mpr hq
    split
    · exact hq
    · exact hq

/-- The link down, the site's agent lost. -/
def State.linkGone (s : State) (n : Nat) : State := ((s.linkCut n).2.setF .SITE_STATUS_LINK n 0 0).agentLost n

/-- The drop shown with its cause. -/
def State.dropShown (s2 : State) (n cause : Nat) : State :=
  let s3 := ((s2.flag .SITE_ERR_STATUS_LINK_DOWN n).setF .SITE_LAST_DOWN_CAUSE n 0 cause).count .SITE_LINK_DOWNS_COUNT n 0 32 1
  if cause = 6 then s3.flag .SITE_ERR_STATUS_CREDIT_STALL n else s3

/-- The drop reported. -/
def State.dropTold (s4 : State) (n cause k : Nat) : State :=
  ((s4.raise 0x5020 sevDeferred 5 n [cause, k]).mbReset (fun b => isSiteId n b.receiver)).siteCapSet n

/-- The drops of the last second, with this one where it counts. -/
def State.recentDrops (s6 : State) (n cause : Nat) : List Nat :=
  let recent := (s6.link n).drops.filter (fun t => decide (s6.now < t + 1000000))
  if dropCounts cause then recent ++ [s6.now] else recent

/-- The drop noted among them. -/
def State.dropNoted (s6 : State) (n cause : Nat) : State := s6.setLink n { s6.link n with drops := s6.recentDrops n cause }

/-- The state of a link that has dropped, before what follows from it. -/
def State.linkDropped (s : State) (n cause : Nat) : State :=
  (((s.linkGone n).dropShown n cause).dropTold n cause (s.linkCut n).1).dropNoted n cause

theorem State.linkDown_up (h : s.linkUp n = true) : s.linkDown n cause
    = if 3 ≤ ((((s.linkGone n).dropShown n cause).dropTold n cause (s.linkCut n).1).recentDrops n cause).length ∧ dropCounts cause then
        (s.linkDropped n cause).siteFailed n cause
      else if s.siteLinkState n = 6 ∧ !((s.linkDropped n cause).link n).fencing then (s.linkDropped n cause).siteDrained n
      else s.linkDropped n cause := by
  unfold State.linkDown
  rw [if_neg (by simp [h])]
  rfl

/-- What a drop's report may change. -/
def dropToldParts : List Part :=
  mbParts ++ capParts ++ ([.links, .control, .fld .SITE_ERR_STATUS_LINK_DOWN, .fld .SITE_LAST_DOWN_CAUSE, .fld .SITE_LINK_DOWNS_COUNT,
    .fld .SITE_ERR_STATUS_CREDIT_STALL] : List Part)

theorem State.dropTold_leaves (s : State) (n cause k : Nat) : s.Leaves (.links :: .control :: (mbParts ++ capParts)) ((s.dropTold n cause k).dropNoted n cause) := by
  have h : s.Leaves (.links :: .control :: (mbParts ++ capParts)) (s.dropTold n cause k) := (State.Leaves.refl s).raise.mbReset.siteCapSet
  exact h.setControl

theorem State.dropShown_leaves (s : State) (n cause : Nat) : s.Leaves dropToldParts (s.dropShown n cause) := by
  have h := (State.Leaves.refl (P := dropToldParts) s).flag (f := .SITE_ERR_STATUS_LINK_DOWN) (i := n) (j := 0)
  unfold State.dropShown
  exact .ite h.setF.count.flag h.setF.count

theorem State.dropShown_shows (s : State) (n cause : Nat) : (s.dropShown n cause).f .SITE_LAST_DOWN_CAUSE n = cause
    ∧ (s.dropShown n cause).f .SITE_ERR_STATUS_LINK_DOWN n = 1 := by
  unfold State.dropShown
  dsimp only
  split
  · exact ⟨by simp, by simp⟩
  · exact ⟨by simp, by simp⟩

theorem State.linkGone_leaves (s : State) (n : Nat) : s.Leaves (.fld .SITE_STATUS_LINK :: (cutParts ++ lostAgentParts)) (s.linkGone n) := by
  unfold State.linkGone
  exact (State.Leaves.refl s).linkCut.setF.agentLost

theorem State.linkGone_shows (s : State) (n : Nat) : (s.linkGone n).siteLinkState n = 0 ∧ (s.linkGone n).f .SITE_STATUS_RATE n = 0
    ∧ (s.linkGone n).f .SITE_STATUS_PROFILE_ACT n = 0 ∧ bit (s.linkGone n).coh.up n = false := by
  have h : ((s.linkCut n).2.setF .SITE_STATUS_LINK n 0 0).Leaves lostAgentParts (s.linkGone n) := (State.Leaves.refl _).agentLost
  refine ⟨(h.f _ _ _).trans (State.f_setF_same ..), (h.f _ _ _).trans ?_, (h.f _ _ _).trans ?_, State.up_agentLost ..⟩
  · exact (State.f_setF_fid _ _ (by decide)).trans ((State.f_setF_fid _ _ (by decide)).trans (State.f_setF_same ..))
  · exact (State.f_setF_fid _ _ (by decide)).trans (State.f_setF_same ..)

theorem State.linkGone_calm (s : State) (n : Nat) : ((s.linkCut n).2).Calm (s.linkGone n) := by
  unfold State.linkGone
  exact .agentLost (.quiet (.refl _) (.setF (.refl _)))

theorem State.linkDropped_calm (s : State) (n cause k : Nat) : s.Calm ((((s.dropShown n cause)).dropTold n cause k).dropNoted n cause) :=
  ((State.Calm.refl s).leaves (s.dropShown_leaves n cause)).leaves (State.dropTold_leaves _ n cause k)

theorem siteLinkDown_shows (hl : s.siteLinkState n = 5) (h1 : 1 ≤ cause) (h2 : cause ≤ 11) (hc : dropCounts cause = false) :
    ∃ t, exec (.siteLinkDown n cause) s = .next t ∧ t.siteLinkState n = 0 ∧ t.f .SITE_LAST_DOWN_CAUSE n = cause
      ∧ t.f .SITE_ERR_STATUS_LINK_DOWN n = 1 ∧ t.f .SITE_STATUS_RATE n = 0 ∧ t.f .SITE_STATUS_PROFILE_ACT n = 0
      ∧ bit t.coh.up n = false ∧ (∀ r, r ∈ t.mesh.reqs → reqToSite n r = false) ∧ t.units = s.units := by
  have hx : exec (.siteLinkDown n cause) s = .next (s.linkDropped n cause) := by
    change execSiteLinkDown n cause s = _
    unfold execSiteLinkDown
    rw [if_neg (by omega), State.linkDown_up (by unfold State.linkUp; rw [hl]; rfl), if_neg (by simp [hc]), if_neg (by rw [hl]; omega)]
  obtain ⟨hlk, hrt, hpr, hup⟩ := s.linkGone_shows n
  obtain ⟨hr, hu⟩ := s.linkCut_reqs n
  obtain ⟨hcu, hcr⟩ := (s.linkGone_calm n).trans ((s.linkGone n).linkDropped_calm n cause (s.linkCut n).1)
  obtain ⟨hca, hfl⟩ := (s.linkGone n).dropShown_shows n cause
  have h3 := (s.linkGone n).dropShown_leaves n cause
  have h4 := ((s.linkGone n).dropShown n cause).dropTold_leaves n cause (s.linkCut n).1
  have h34 : (s.linkGone n).Leaves dropToldParts (s.linkDropped n cause) := h3.step h4 (by decide +kernel)
  refine ⟨_, hx, (h34.f .SITE_STATUS_LINK n 0).trans hlk, (h4.f .SITE_LAST_DOWN_CAUSE n 0).trans hca,
    (h4.f .SITE_ERR_STATUS_LINK_DOWN n 0).trans hfl, (h34.f .SITE_STATUS_RATE n 0).trans hrt, (h34.f .SITE_STATUS_PROFILE_ACT n 0).trans hpr,
    ?_, fun r h => hr r ?_, hcu.trans hu⟩
  · rw [h34.up]
    exact hup
  · rw [← hcr]
    exact h

/-! ### What a drop or a failure may change at most -/

/-- What the failure of a site, or the drop of its link, may change. -/
def siteOutParts : List Part :=
  ([.reqs, .ports, .control, .up, .cls .site, .pwr, .fld .SITE_STATUS_LINK, .fld .SITE_STATUS_RATE, .fld .SITE_STATUS_PROFILE_ACT,
    .fld .COH_AGENT_STATUS_STATE, .fld .QOS_PORT_COUNT_LATE, .fld .COH_VICTIMS_COUNT, .fld .COH_RECLAIMED_POISONED,
    .fld .SITE_ERR_STATUS_LINK_DOWN, .fld .SITE_LINK_DOWNS_COUNT, .fld .SITE_LAST_DOWN_CAUSE, .fld .SITE_ERR_STATUS_CREDIT_STALL,
    .fld .PWR_FALLOW_RESULT_PHASE, .fld .PWR_FALLOW_RESULT_CODE, .fld .SITE_ERR_STATUS_FAIL] : List Part) ++ accessParts

theorem State.siteMapped_leaves (s : State) (n : Nat) : s.Leaves siteOutParts (s.siteMapped n) := by
  have h : s.Leaves siteOutParts ((s.setF .SITE_STATUS_LINK n 0 1).setUnit .site n .failed) :=
    (State.Leaves.refl s).setF.step (State.setUnit_leaves _ .site n .failed) (by decide +kernel)
  unfold State.siteMapped
  exact h.beginFence.setRefclk.setControl.flag

theorem State.Leaves.siteFailed (h : s.Leaves P t) {report : Bool} (hp : subParts siteOutParts P = true := by decide +kernel) :
    s.Leaves P (t.siteFailed n cause report) := by
  refine h.step (Q := siteOutParts) ?_ hp
  have hr := State.Leaves.refl (P := siteOutParts) t
  have h1 : t.Leaves siteOutParts (t.siteLost n cause report) := (t.siteLost_leaves n cause report).mono (by decide +kernel)
  have h2 : t.Leaves siteOutParts ((t.siteLost n cause report).siteMapped n) := h1.trans (State.siteMapped_leaves _ n)
  have h3 : t.Leaves siteOutParts (((t.siteLost n cause report).siteMapped n).siteTold n cause report) :=
    h2.step (State.siteTold_leaves _ n cause report) (by decide +kernel)
  unfold State.siteFailed
  exact .ite hr (.ite (.ite hr.flag.raise hr) h3.railsFollow)

theorem State.Leaves.siteRecall (h : s.Leaves P t) (hp : subParts homeParts P = true := by decide +kernel) : s.Leaves P (t.siteRecall n) := by
  refine h.step (Q := homeParts) ?_ hp
  unfold State.siteRecall State.recallAll
  refine .foldl (State.Leaves.refl t).setLink fun u l h => ?_
  split
  · exact .ite h.askLine h
  · exact h

theorem State.Leaves.siteDrained (h : s.Leaves siteOutParts t) : s.Leaves siteOutParts (t.siteDrained n) := by
  have h1 : s.Leaves siteOutParts (t.siteRecall n) := h.siteRecall
  unfold State.siteDrained
  generalize t.siteRecall n = u at h1
  have h2 : s.Leaves siteOutParts (u.setLink n { u.link n with recalling := false }) := h1.setLink
  have ha : s.Leaves siteOutParts ((u.setLink n { u.link n with recalling := false }).agentUp n false) :=
    h2.step (State.Leaves.agentUp (.refl _)) (by decide +kernel)
  have hf : ∀ {v : State}, s.Leaves siteOutParts v → s.Leaves siteOutParts (v.siteFence n) := fun h => by
    unfold State.siteFence
    exact State.Leaves.beginFence h.setLink
  unfold State.siteRecalled
  exact .ite h1 (.ite h1.siteRecall (hf (.ite ha h2)).fallowReport)

theorem State.linkDropped_leaves (s : State) (n cause : Nat) : s.Leaves siteOutParts (s.linkDropped n cause) := by
  have h1 := (s.linkGone_leaves n).mono (Q := siteOutParts) (by decide +kernel)
  have h2 := h1.step ((s.linkGone n).dropShown_leaves n cause) (by decide +kernel)
  exact h2.step (State.dropTold_leaves _ n cause (s.linkCut n).1) (by decide +kernel)

theorem State.Leaves.linkDown (h : s.Leaves P t) (hp : subParts siteOutParts P = true := by decide +kernel) :
    s.Leaves P (t.linkDown n cause) := by
  refine h.step (Q := siteOutParts) ?_ hp
  by_cases hu : t.linkUp n = true
  · have hd := t.linkDropped_leaves n cause
    rw [State.linkDown_up hu]
    exact .ite hd.siteFailed (.ite hd.siteDrained hd)
  · rw [State.linkDown_down (Bool.eq_false_iff.mpr hu)]
    exact .refl t

/-! ### Modules and lanes (09 R357, R358) -/

/-- What the flits of a module that leaves the rotation may change. -/
def replayParts : List Part := ([.links, .out, .fld .SITE_REPLAYS_COUNT] : List Part) ++ limitedParts

theorem State.Leaves.deal (h : s.Leaves P t) {mods : List Nat} {b : FlitBody} (h1 : Part.links.inList P = true := by rfl)
    (h2 : Part.out.inList P = true := by rfl) : s.Leaves P (t.deal n mods b).2 := by
  unfold State.deal
  exact (h.setLink h1).emit h2

theorem State.replayOn_leaves (s : State) (n k : Nat) : s.Leaves replayParts (s.replayOn n k) := by
  unfold State.replayOn
  extract_lets mods l
  split
  · exact .refl s
  have h1 : ∀ x : List (Nat × FlitBody) × State, s.Leaves replayParts x.2 → s.Leaves replayParts (l.sent.foldl (fun a e =>
      if e.1 = k then
        let (j, s') := a.2.deal n mods e.2
        (a.1 ++ [(j, e.2)], s'.count .SITE_REPLAYS_COUNT n 0 32 1)
      else (a.1 ++ [e], a.2)) x).2 := fun x hx => by
    refine List.foldlRecOn (motive := fun x : List (Nat × FlitBody) × State => s.Leaves replayParts x.2) _ _ hx fun x hx e _ => ?_
    split
    · exact hx.deal.count
    · exact hx
  have h2 := h1 ([], s) (.refl s)
  exact .ite h2.setLink.raiseLimited h2.setLink

/-- A module out of the rotation, FAILED at width 0. -/
def State.moduleOut (s0 : State) (n k : Nat) : State :=
  let s := (s0.replayOn n k).setLink n { (s0.replayOn n k).link n with sideUp := setBit (s0.link n).sideUp k false }
  let s1 := (s.setWidth n k 0).setUnit .ucie (umNo n k) .failed
  (s1.flag .SITE_ERR_STATUS_UM_FAIL n).raise 0x5018 sevUnitFatal 6 (umNo n k) [n, k]

theorem State.umFail_present {k : Nat} (h : (s.unit .ucie (umNo n k)).st = some .present) : s.umFail n k
    = if (s.moduleOut n k).linkUp n ∧ (List.range 6).all (fun j => decide ((s.moduleOut n k).umWidth n j = 0)) then
        ((s.moduleOut n k).linkDown n 10).siteFailed n 10
      else ((s.moduleOut n k).siteCapSet n).siteDegSet n := by
  unfold State.umFail
  dsimp only
  rw [h, if_neg (by decide), if_neg (by decide)]
  rfl

theorem State.moduleOut_shows {k : Nat} (h : (s.unit .ucie (umNo n k)).st = some .present) :
    ((s.moduleOut n k).unit .ucie (umNo n k)).st = some .failed ∧ (s.moduleOut n k).umWidth n k = 0
      ∧ (s.moduleOut n k).f .SITE_ERR_STATUS_UM_FAIL n = 1 := by
  unfold State.moduleOut
  extract_lets _ s2 s1
  have h2 : s.Leaves (.control :: replayParts) s2 := ((s.replayOn_leaves n k).mono (by decide +kernel)).setControl
  have hst : ((s2.setWidth n k 0).unit .ucie (umNo n k)).st = some .present := by
    unfold State.setWidth
    refine (State.setDeg_st ..).trans ?_
    change (s2.unit .ucie (umNo n k)).st = _
    rw [h2.unit .ucie]
    exact h
  have hw : (s2.setWidth n k 0).umWidth n k = 0 := by
    have hd : (s2.setF .SITE_UM_STATUS_WIDTH n k 0).Leaves (unitParts .ucie) (s2.setWidth n k 0) := State.Leaves.setDeg (c := .ucie) (.refl _)
    exact (hd.f _ _ _).trans (State.f_setF_same ..)
  have h1 := State.setUnit_leaves (s2.setWidth n k 0) .ucie (umNo n k) .failed
  have hr : (s1.flag .SITE_ERR_STATUS_UM_FAIL n).Leaves raiseParts
    ((s1.flag .SITE_ERR_STATUS_UM_FAIL n).raise 0x5018 sevUnitFatal 6 (umNo n k) [n, k]) := (State.Leaves.refl _).raise
  refine ⟨?_, ?_, (hr.f _ _ _).trans (State.f_flag_same ..)⟩
  · rw [hr.unit .ucie]
    exact State.unit_setUnit (by rw [hst]; rfl)
  · exact (hr.f _ _ _).trans ((State.f_flag_fid _ (by decide)).trans ((h1.f _ _ _).trans hw))

theorem siteUmFail_fails {k : Nat} (hn : n < 8) (hk : k < 6) (h : (s.unit .ucie (umNo n k)).st = some .present) :
    ∃ t, exec (.siteUmFail n k) s = .next t ∧ (t.unit .ucie (umNo n k)).st = some .failed ∧ t.umWidth n k = 0
      ∧ t.f .SITE_ERR_STATUS_UM_FAIL n = 1 := by
  have hx : exec (.siteUmFail n k) s = .next (s.umFail n k) := congrArg Host.Outcome.next (if_pos ⟨hn, hk⟩)
  rw [State.umFail_present h] at hx
  obtain ⟨hu, hw, hf⟩ := State.moduleOut_shows (s := s) h
  generalize s.moduleOut n k = u at hx hu hw hf
  have hd : u.Leaves siteOutParts ((u.siteCapSet n).siteDegSet n) :=
    (State.Leaves.refl u).siteCapSet.step (State.Leaves.setDeg (c := .site) (.refl _)) (by decide +kernel)
  have hl : u.Leaves siteOutParts (if u.linkUp n ∧ (List.range 6).all (fun j => decide (u.umWidth n j = 0)) then (u.linkDown n 10).siteFailed n 10
      else (u.siteCapSet n).siteDegSet n) := .ite (State.Leaves.refl u).linkDown.siteFailed hd
  refine ⟨_, hx, ?_, (hl.f .SITE_UM_STATUS_WIDTH n k).trans hw, (hl.f .SITE_ERR_STATUS_UM_FAIL n 0).trans hf⟩
  rw [hl.unit .ucie]
  exact hu

theorem siteUmFail_again {k : Nat} (hn : n < 8) (hk : k < 6) (h : (s.unit .ucie (umNo n k)).st = some .failed) : exec (.siteUmFail n k) s
    = .next ((s.flag .SITE_ERR_STATUS_UM_FAIL n).raise 0x5018 sevUnitFatal 6 (umNo n k) [n, k]) := by
  have hx : exec (.siteUmFail n k) s = .next (s.umFail n k) := congrArg Host.Outcome.next (if_pos ⟨hn, hk⟩)
  rw [hx]
  unfold State.umFail
  dsimp only
  rw [h, if_neg (by decide), if_pos rfl]

theorem siteFail_again (hn : n < 8) (h : (s.unit .site n).st = some .failed) : exec (.siteFail n cause) s
    = .next ((s.flag .SITE_ERR_STATUS_FAIL n).raise 0x5040 sevUnitFatal 5 n [cause]) := by
  have hx : exec (.siteFail n cause) s = .next (s.siteFailed n cause) := congrArg Host.Outcome.next (if_neg (by simp [h]; omega))
  rw [hx]
  unfold State.siteFailed
  dsimp only
  rw [h, if_neg (by decide), if_pos rfl]
  rfl

theorem siteFail_fails (hn : n < 8) (h : (s.unit .site n).st = some .present) :
    ∃ t, exec (.siteFail n cause) s = .next t ∧ (t.unit .site n).st = some .failed ∧ t.siteLinkState n = 1
      ∧ (t.link n).rstLow = true ∧ ((t.qport (16 + n)).fence = 1 ∨ (t.qport (16 + n)).fence = 2) ∧ t.f .SITE_ERR_STATUS_FAIL n = 1
      ∧ bit t.coh.up n = false := by
  have hx : exec (.siteFail n cause) s = .next (s.siteFailed n cause) := congrArg Host.Outcome.next (if_neg (by simp [h]; omega))
  obtain ⟨h1, h2, h3, h4, h5, h6⟩ := State.siteFailed_gone (cause := cause) (report := true) h
  exact ⟨_, hx, h1, h2, h3, h4, h5, h6⟩

theorem siteLaneRepair_down {k lane : Nat} {rx : Bool} (hn : n < 8) (hk : k < 6) (hl : lane < 64) (h : s.linkUp n = false) :
    exec (.siteLaneRepair n k lane rx) s = .next (s.setRepair n k (if rx then
      fitWidth (s.repair n k).width (s.repair n k).tx (laneUnion (s.repair n k).rx [lane])
      else fitWidth (s.repair n k).width (laneUnion (s.repair n k).tx [lane]) (s.repair n k).rx)) := by
  have hx : exec (.siteLaneRepair n k lane rx) s = .next (s.laneRepair n k lane rx) := congrArg Host.Outcome.next (if_pos ⟨hn, hk, hl⟩)
  rw [hx]
  unfold State.laneRepair
  dsimp only
  rw [if_pos (by simp [h])]

theorem siteDropsAndFailures_hold : siteDropsAndFailures := fun _ _ _ hn =>
  ⟨siteLinkDown_shows, fun _ => rfl, fun h hm hc => congrArg Host.Outcome.next (if_pos (List.any_eq_true.mpr ⟨h, hm, decide_eq_true hc⟩)),
    fun _ _ hk hl hu => ⟨siteLaneRepair_down (rx := false) hn hk hl hu, siteLaneRepair_down (rx := true) hn hk hl hu⟩,
    fun _ hk h => siteUmFail_fails hn hk h, fun _ hk h => siteUmFail_again hn hk h, siteFail_again hn, siteFail_fails hn⟩

end Sys2Proof.Machine
end

section
-- One proof after the other: many waiting at once would hold too much memory when the text is checked as one.
set_option Elab.async false
/-! Chiplet sites: flits (09 R332-R337). -/

namespace Sys2Proof.Machine

variable {s t : State} {P : List Part} {n : Nat}

/-! ### Fields of a byte string that are zero -/

theorem slice_eq_map (b : Bytes) (o n : Nat) : slice b o n = (List.range n).map (fun i => b.getD (o + i) 0) := by
  refine List.ext_getElem (by simp [slice_length]) fun i h1 h2 => ?_
  rw [slice_length] at h1
  simp only [slice, List.getElem_append, List.getElem_map, List.getElem_range, List.getD_eq_getElem?_getD, List.length_take, List.length_drop]
  split
  · next h => rw [List.getElem_take, List.getElem_drop, List.getElem?_eq_getElem (by omega), Option.getD_some]
  · next h => rw [List.getElem_replicate, List.getElem?_eq_none (by omega), Option.getD_none]

theorem leNat_eq_zero {b : Bytes} : leNat b = 0 ↔ ∀ x ∈ b, x = 0 := by
  induction b with
  | nil => simp [leNat]
  | cons x b ih =>
    rw [leNat, List.forall_mem_cons, ← ih]
    constructor
    · intro h
      exact ⟨BitVec.eq_of_toNat_eq (by simp; omega), by omega⟩
    · rintro ⟨rfl, h⟩
      rw [h]
      rfl

theorem leAt_eq_zero {b : Bytes} {o n : Nat} : leAt b o n = 0 ↔ ∀ i, i < n → b.getD (o + i) 0 = 0 := by
  unfold leAt
  rw [slice_eq_map, leNat_eq_zero]
  simp

/-- A field inside one that is zero is zero. -/
theorem leAt_zero_of {b : Bytes} {o n p m : Nat} (h : leAt b o n = 0) (h1 : o ≤ p) (h2 : p + m ≤ o + n) : leAt b p m = 0 :=
  leAt_eq_zero.mpr fun i hi => by
    have := leAt_eq_zero.mp h (p + i - o) (by omega)
    rwa [show o + (p + i - o) = p + i by omega] at this

/-! ### A flit that leaves -/

theorem State.flitOut_shows (s : State) (n : Nat) (body : Nat → Nat → FlitBody) :
    s.Leaves ([.links, .out] : List Part) (s.flitOut n body)
      ∧ (∃ k, (s.flitOut n body).out = s.out ++ [.flit n k (body (s.link n).txSeq (((s.link n).rxNext + 65535) % 65536))])
      ∧ ((s.flitOut n body).link n).rxNext = (s.link n).rxNext ∧ ((s.flitOut n body).link n).rxBad = (s.link n).rxBad
      ∧ ((s.flitOut n body).link n).ahead = (s.link n).ahead := by
  unfold State.flitOut
  extract_lets l b
  have hd : s.Leaves ([.links, .out] : List Part) (s.deal n (s.linkSlots n) b).2 := (State.Leaves.refl s).deal
  have hl : (s.deal n (s.linkSlots n) b).2.link n = { l with dealt := (l.dealt + 1) % max (s.linkSlots n).length 1 } := State.link_setLink ..
  refine ⟨hd.setLink, ⟨_, rfl⟩, ?_, ?_, ?_⟩
  all_goals
    dsimp only
    rw [State.link_setLink]
    dsimp only
    rw [hl]

/-- The answer that a link owes when no credit is due: an acknowledgement or a NAK in a flit of its own. -/
theorem State.linkControl_bludric {l : SLink} (hl : s.link n = l) (hp : s.f .SITE_STATUS_PROFILE_ACT n = 3) (hu : s.linkUp n = true)
    (ho : l.owed = [0, 0, 0, 0]) (hs : l.sent.length < 1024) (ha : l.oweAck = true ∨ l.oweNak = true) :
    s.linkControl n = (s.setLink n { l with owed := [0, 0, 0, 0], oweNak := false }).flitOut n
      (fun q a => .bludric (flitBytes q a 0 (b2n l.oweNak) 0 [])) := by
  unfold State.linkControl
  dsimp only
  rw [hl, hp, ho, hu]
  have hd : (List.range 4).filter (fun v => decide (([0, 0, 0, 0] : List Nat).getD v 0 ≠ 0)) = [] := by decide
  rw [show (if decide (3 = 3) = true then (List.range 4).filter (fun v => decide (([0, 0, 0, 0] : List Nat).getD v 0 ≠ 0)) else []) = [] from hd]
  rw [if_neg (by
    rintro (h | h | ⟨-, h1, h2⟩)
    · exact absurd h (by decide)
    · simp at h
      omega
    · rcases ha with h | h
      · simp [h] at h1
      · simp [h] at h2)]
  rfl

/-! ### A flit that arrives -/

/-- A flit in stream order noted. -/
def SLink.inOrder (l : SLink) : SLink := { l with rxNext := (l.rxNext + 1) % 65536, rxBad := false, rxFails := 0, oweAck := true }

/-- Only a site's link has changed, to `m`. -/
structure State.OnLink (s : State) (n : Nat) (m : SLink) (t : State) : Prop where
  rest : s.Leaves ([.links, .control] : List Part) t
  link : t.link n = m

theorem State.OnLink.refl (s : State) (n : Nat) : s.OnLink n (s.link n) s := ⟨.refl s, rfl⟩

theorem State.OnLink.set {m : SLink} (h : s.OnLink n m t) (v : SLink) : s.OnLink n v (t.setLink n v) :=
  ⟨h.rest.setControl, State.link_setLink ..⟩

theorem State.OnLink.linkUp {m : SLink} (h : s.OnLink n m t) : t.linkUp n = s.linkUp n := by
  unfold State.linkUp State.siteLinkState
  rw [h.rest.f .SITE_STATUS_LINK]

theorem State.linkAck_none {ack : Nat} (hs : (s.link n).sent = []) : s.linkAck n ack = s := by
  unfold State.linkAck
  dsimp only
  rw [hs]
  exact if_pos (by simp; omega)

theorem State.OnLink.linkCredit {m : SLink} (h : s.OnLink n m t) (vc units : Nat) :
    s.OnLink n { m with credits := m.credits.set vc (m.credits.getD vc 0 + units) } (t.linkCredit n vc units) := by
  obtain ⟨hr, rfl⟩ := h
  exact State.OnLink.set ⟨hr, rfl⟩ _

theorem State.OnLink.heldOut {m : SLink} (h : s.OnLink n m t) (hh : m.held = []) : s.OnLink n { m with held := [] } (t.heldOut n) := by
  obtain ⟨hr, rfl⟩ := h
  unfold State.heldOut
  dsimp only
  rw [hh]
  exact State.OnLink.set ⟨hr, rfl⟩ _

theorem State.OnLink.flitReturns {m : SLink} {ack : Nat} (h : s.OnLink n m t) (hu : s.linkUp n = true) (hs : m.sent = []) (hh : m.held = []) :
    s.OnLink n { m with credits := m.credits.set 0 (m.credits.getD 0 0 + 0), held := [] } (t.flitReturns n ack false 0 0) := by
  unfold State.flitReturns
  dsimp only
  rw [State.linkAck_none (by rw [h.link]; exact hs)]
  simp only [Bool.false_eq_true, if_false]
  rw [h.linkUp, if_pos hu]
  exact (h.linkCredit 0 0).heldOut hh

/-- A slot that holds nothing changes nothing where no packet is under way. -/
theorem State.slotIn_empty {x : BitVec 512} (hh : (s.link n).hdr = none) : State.slotIn n (0, x) s = s := by
  unfold State.slotIn
  dsimp only
  split
  · rfl
  · rw [if_neg (by decide), hh, if_neg (by decide), if_neg (by decide)]

/-- A flit of the Bludric profile without slots, acknowledgements of flits kept or credits. -/
theorem State.flitTake_empty {b : Bytes} (hb : (s.link n).rxBad = false) (hz : leAt b 4 4 = 0) (hu : s.linkUp n = true)
    (hs : (s.link n).sent = []) (hh : (s.link n).held = []) (hd : (s.link n).hdr = none) :
    s.OnLink n { (s.link n).inOrder with credits := (s.link n).credits.set 0 ((s.link n).credits.getD 0 0 + 0), held := [] }
      (s.flitTake n (.bludric b)) := by
  have h1 := (State.OnLink.refl s n).set (s.link n).inOrder
  have h2 := h1.flitReturns (ack := leAt b 2 2) hu hs hh
  unfold State.flitTake
  dsimp only
  rw [hb, leAt_zero_of (m := 1) hz (p := 4) (by omega) (by omega), leAt_zero_of (m := 1) hz (p := 5) (by omega) (by omega),
    leAt_zero_of (m := 2) hz (p := 6) (by omega) (by omega)]
  have hfold : ∀ {u : State}, (u.link n).hdr = none → ∀ l : List Nat, (l.map (fun i => (0 / 4 ^ i % 4, BitVec.ofNat 512 (leAt b (8 + 64 * i) 64)))).foldl
      (fun s x => State.slotIn n x s) u = u := fun {u} hu l => by
    induction l with
    | nil => rfl
    | cons i l ih =>
      rw [List.map_cons, List.foldl_cons, Nat.zero_div, Nat.zero_mod, State.slotIn_empty hu]
      exact ih
  rw [show bit 0 0 = false from rfl, show bits 0 3 2 = 0 from rfl]
  exact (hfold (by rw [h2.link]; exact hd) (List.range 4)).symm ▸ h2

theorem State.flitsAhead_none (h : (s.link n).ahead = []) (k : Nat) : State.flitsAhead n k s = s := by
  cases k with
  | zero => rfl
  | succ k =>
    unfold State.flitsAhead
    dsimp only
    rw [h]
    rfl

theorem bludricFlit_takes {f : SiteFlit} (hn : n < 8) (hu : s.linkUp n = true) (hf : s.flitFits n f = true) (hg : flitGood f = true)
    (hq : flitSeq f = (s.link n).rxNext) :
    exec (.bludricFlit n f) s = .next ((State.flitsAhead n 1024 (s.flitTake n f)).linkControl n) := by
  have hx : exec (.bludricFlit n f) s = .next ((s.flitIn n f).linkControl n) := congrArg Host.Outcome.next (if_neg (by simp [hu, hf]; omega))
  rw [hx]
  unfold State.flitIn
  dsimp only
  rw [if_neg (by simp [hg]), if_pos hq]

theorem bludricFlit_bad {f : SiteFlit} (hn : n < 8) (hu : s.linkUp n = true) (hf : s.flitFits n f = true) (hg : flitGood f = false) :
    exec (.bludricFlit n f) s = .next ((s.flitBad n (flitSeq f)).linkControl n) := by
  have hx : exec (.bludricFlit n f) s = .next ((s.flitIn n f).linkControl n) := congrArg Host.Outcome.next (if_neg (by simp [hu, hf]; omega))
  rw [hx]
  unfold State.flitIn
  dsimp only
  rw [if_pos (by simp [hg])]

/-- What a link's own flit leaves where only the link has changed before. -/
theorem State.OnLink.linkControl {m : SLink} (h : s.OnLink n m t) (hp : s.f .SITE_STATUS_PROFILE_ACT n = 3) (hu : s.linkUp n = true)
    (ho : m.owed = [0, 0, 0, 0]) (hs : m.sent.length < 1024) (ha : m.oweAck = true ∨ m.oweNak = true) :
    s.Leaves ([.links, .control, .out] : List Part) (t.linkControl n)
      ∧ (∃ k, (t.linkControl n).out = s.out ++ [.flit n k (.bludric (flitBytes m.txSeq ((m.rxNext + 65535) % 65536) 0 (b2n m.oweNak) 0 []))])
      ∧ ((t.linkControl n).link n).rxNext = m.rxNext ∧ ((t.linkControl n).link n).rxBad = m.rxBad ∧ ((t.linkControl n).link n).ahead = m.ahead := by
  rw [State.linkControl_bludric h.link ((h.rest.f .SITE_STATUS_PROFILE_ACT n 0).trans hp) (h.linkUp.trans hu) ho hs ha]
  have h1 := h.set { m with owed := [0, 0, 0, 0], oweNak := false }
  generalize t.setLink n { m with owed := [0, 0, 0, 0], oweNak := false } = u at h1
  obtain ⟨hl, ⟨k, hk⟩, hr, hb, hc⟩ := u.flitOut_shows n (fun q a => .bludric (flitBytes q a 0 (b2n m.oweNak) 0 []))
  rw [h1.link] at hk hr hb hc
  rw [h1.rest.out] at hk
  exact ⟨(h1.rest.mono (by decide +kernel)).step hl (by decide +kernel), ⟨k, hk⟩, hr, hb, hc⟩

theorem bludricFlit_empty {b : Bytes} (hn : n < 8) (hu : s.linkUp n = true) (hp : s.f .SITE_STATUS_PROFILE_ACT n = 3)
    (hb : (s.link n).rxBad = false) (ho : (s.link n).owed = [0, 0, 0, 0]) (hg : flitGood (.bludric b) = true)
    (hq : leAt b 0 2 = (s.link n).rxNext) (hz : leAt b 4 4 = 0) (hh : (s.link n).held = []) (ha : (s.link n).ahead = [])
    (hd : (s.link n).hdr = none) (hs : (s.link n).sent = []) (hk : (s.link n).oweNak = false) :
    ∃ t k, exec (.bludricFlit n (.bludric b)) s = .next t ∧ (t.link n).rxNext = ((s.link n).rxNext + 1) % 65536
      ∧ t.out = s.out ++ [.flit n k (.bludric (flitBytes (s.link n).txSeq ((s.link n).rxNext % 65536) 0 0 0 []))]
      ∧ t.mem = s.mem ∧ t.mesh = s.mesh ∧ t.coh = s.coh ∧ t.units = s.units := by
  have hx := bludricFlit_takes (f := .bludric b) hn hu (by simp [State.flitFits, hp]) hg hq
  have h1 := State.flitTake_empty hb hz hu hs hh hd
  rw [State.flitsAhead_none (by rw [h1.link]; exact ha)] at hx
  obtain ⟨hl, ⟨k, hout⟩, hr, -, -⟩ := h1.linkControl hp hu ho (lt_of_eq_of_lt (congrArg List.length hs) (by decide)) (.inl rfl)
  refine ⟨_, k, hx, hr, hout.trans ?_, hl.mem, hl.mesh, hl.coh, hl.units⟩
  have hn2 : (((s.link n).rxNext + 1) % 65536 + 65535) % 65536 = (s.link n).rxNext % 65536 := by omega
  change _ ++ [Out.flit n k (.bludric (flitBytes (s.link n).txSeq ((((s.link n).rxNext + 1) % 65536 + 65535) % 65536) 0 (b2n (s.link n).oweNak) 0 []))] = _
  rw [hn2, hk]
  rfl

theorem State.flitBad_first {seq : Nat} (hb : (s.link n).rxBad = false) :
    s.OnLink n { s.link n with rxBad := true, rxFails := 0, ahead := [], oweNak := true } (s.flitBad n seq) := by
  unfold State.flitBad
  dsimp only
  rw [hb]
  exact (State.OnLink.refl s n).set _

theorem bludricFlit_nak {b : Bytes} (hn : n < 8) (hu : s.linkUp n = true) (hp : s.f .SITE_STATUS_PROFILE_ACT n = 3)
    (hb : (s.link n).rxBad = false) (ho : (s.link n).owed = [0, 0, 0, 0]) (hg : flitGood (.bludric b) = false)
    (hs : (s.link n).sent.length < 1024) :
    ∃ t k, exec (.bludricFlit n (.bludric b)) s = .next t ∧ (t.link n).rxBad = true ∧ (t.link n).ahead = []
      ∧ t.out = s.out ++ [.flit n k (.bludric (flitBytes (s.link n).txSeq (((s.link n).rxNext + 65535) % 65536) 0 1 0 []))]
      ∧ t.mem = s.mem ∧ t.mesh = s.mesh := by
  have hx := bludricFlit_bad (f := .bludric b) hn hu (by simp [State.flitFits, hp]) hg
  obtain ⟨hl, ⟨k, hout⟩, -, hr, ha⟩ := (State.flitBad_first (seq := flitSeq (.bludric b)) hb).linkControl hp hu ho hs (.inr rfl)
  exact ⟨_, k, hx, hr, ha, hout, hl.mem, hl.mesh⟩

/-! ### A packet that is whole -/

theorem State.siteTakes_setLink (s : State) (n : Nat) (v : SLink) (cmd tag : Nat) : (s.setLink n v).siteTakes n cmd tag = s.siteTakes n cmd tag := rfl

theorem State.pktIn_read {h : BitVec 512} (hu : s.linkUp n = true) (hw : (sitePkt h []).wellFormed = true) (hc : (sitePkt h []).cmd = 0x01)
    (he : (s.link n).waiting = []) (ht : s.siteTakes n (sitePkt h []).cmd (sitePkt h []).tag = true) :
    s.pktIn n h [] = (((s.setLink n { s.link n with waiting := [(h, [])] }).setLink n { s.link n with waiting := [] }).owe n 0 1).request
      { id := 0x100 + 0x40 * n + (sitePkt h []).sub, tag := (sitePkt h []).tag, addr := (sitePkt h []).addr, len := (sitePkt h []).len }
      false [] 0 [] := by
  have hv : (if (sitePkt h []).cmd = 0x80 ∧ s.dirtyPkt n (sitePkt h []) = true then 3 else vcIn (sitePkt h []).cmd) = 0 := by
    rw [hc, if_neg (fun h => absurd h.1 (by decide))]
    rfl
  have hl := State.link_setLink s n { s.link n with waiting := [(h, [])] }
  have hq := (s.siteTakes_setLink n { s.link n with waiting := [(h, [])] } _ _).trans ht
  have hup : (s.setLink n { s.link n with waiting := [(h, [])] }).linkUp n = true := hu
  unfold State.pktIn
  dsimp only
  rw [hv, hw, he, if_neg (by decide), if_pos rfl, if_neg (by unfold SLink.reqUnits; rw [he]; decide)]
  rw [List.nil_append]
  generalize s.setLink n { s.link n with waiting := [(h, [])] } = u at hl hq hup
  have hr : ∀ v : State, v.siteRequest n (sitePkt h []) = v.request
      { id := 0x100 + 0x40 * n + (sitePkt h []).sub, tag := (sitePkt h []).tag, addr := (sitePkt h []).addr, len := (sitePkt h []).len }
      false [] 0 [] := fun v => by
    unfold State.siteRequest
    dsimp only
    rw [if_pos hc]
  unfold State.siteWaiting
  rw [hl]
  dsimp only
  unfold State.takeReqs
  dsimp only
  rw [hup, if_neg (by decide), if_pos hq, hl, hr]
  rfl

theorem bludricFlits_hold : bludricFlits := fun _ _ hn hu =>
  ⟨fun _ hf hg hq => bludricFlit_takes hn hu hf hg hq, fun _ hf hg => bludricFlit_bad hn hu hf hg,
    fun _ hp hb ho => ⟨fun hg hq hz hh ha hd hs hk => bludricFlit_empty hn hu hp hb ho hg hq hz hh ha hd hs hk,
      fun hg hs => bludricFlit_nak hn hu hp hb ho hg hs⟩,
    fun _ hw hc he ht => State.pktIn_read hu hw hc he ht⟩

/-- Settles O49: a drop makes no access that meets an error, so that the unit map stands; what follows it changes neither the
modules' widths nor the link. -/
theorem siteLinks : Obligations.SiteLinks := ⟨siteTraining_holds, siteDropsAndFailures_hold, bludricFlits_hold⟩

end Sys2Proof.Machine
end

section
-- One proof after the other: many waiting at once would hold too much memory when the text is checked as one.
set_option Elab.async false
/-! What the address of a line rests on (05 R187-R212; 06 R248): states that agree on the map of the memory, its channels, the slices
and the twins agree on the home of a line, on where it is stored, and on which other sites it needs. -/

namespace Sys2Proof.Machine

variable {s t u : State} {P : List Part}

/-- Two states agree on where lines are stored, on what the slices hold, and on which sites answer. -/
structure State.SameStore (s t : State) : Prop where
  group : t.f .MEM_GROUP_EFFECTIVE_LOCAL = s.f .MEM_GROUP_EFFECTIVE_LOCAL
  mapped : t.mem.mapped = s.mem.mapped
  relocR : t.mem.relocR = s.mem.relocR
  chans : t.mem.chans = s.mem.chans
  llc : t.mem.llc = s.mem.llc
  poison : t.mem.poison = s.mem.poison
  twins : t.sec.twins = s.sec.twins
  alive : ∀ n, t.msAlive n = s.msAlive n

namespace State.SameStore

theorem refl (s : State) : s.SameStore s := ⟨rfl, rfl, rfl, rfl, rfl, rfl, rfl, fun _ => rfl⟩

theorem trans (h : s.SameStore t) (k : t.SameStore u) : s.SameStore u :=
  ⟨k.group.trans h.group, k.mapped.trans h.mapped, k.relocR.trans h.relocR, k.chans.trans h.chans, k.llc.trans h.llc,
    k.poison.trans h.poison, k.twins.trans h.twins, fun n => (k.alive n).trans (h.alive n)⟩

/-- What touches neither memory, nor clocks, nor the security block, nor the map of the granules. -/
theorem of_leaves (h : s.Leaves P t) (hf : Part.inList (.fld .MEM_GROUP_EFFECTIVE_LOCAL) P = false := by decide +kernel)
    (hm : Part.mem.inList P = false := by decide +kernel) (hc : Part.chans.inList P = false := by decide +kernel)
    (hs : Part.sites.inList P = false := by decide +kernel) (hk : Part.sec.inList P = false := by decide +kernel)
    (hd : Part.doms.inList P = false := by decide +kernel) : s.SameStore t := by
  have mem := h .mem hm
  have sites : t.mem.sites = s.mem.sites := h .sites hs
  have doms : t.doms = s.doms := h .doms hd
  refine ⟨h.f _ _ _ hf, (congrArg Mem.mapped mem :), (congrArg Mem.relocR mem :), h .chans hc, (congrArg Mem.llc mem :),
    (congrArg Mem.poison mem :), (congrArg Sec.twins (h .sec hk) :), fun n => ?_⟩
  unfold State.msAlive State.dom State.msite
  rw [sites, doms]

section
variable (h : s.SameStore t)
include h

theorem siteLocal (pa : Nat) : t.siteLocal pa = s.siteLocal pa := by
  unfold State.siteLocal
  rw [h.group]

theorem home (pa : Nat) : t.home pa = s.home pa := by
  unfold State.home
  rw [h.siteLocal]

theorem sla (pa : Nat) : t.sla pa = s.sla pa := by
  unfold State.sla
  rw [h.siteLocal]

theorem chanOf (pa : Nat) : t.chanOf pa = s.chanOf pa := by
  unfold State.chanOf
  rw [h.home, h.sla]

theorem out? (c : Nat) : t.out? c = s.out? c := congrArg (fun l : List Nat => l.contains c) h.mapped

theorem outInGranule (g : Nat) : t.outInGranule g = s.outInGranule g := by
  unfold State.outInGranule
  rw [h.siteLocal, h.mapped]

theorem outBelowInGranule (pa : Nat) : t.outBelowInGranule pa = s.outBelowInGranule pa := by
  unfold State.outBelowInGranule
  simp only [h.siteLocal, h.mapped, h.out?, h.chanOf]

theorem relocBase : t.relocBase = s.relocBase := congrArg (fun r => 512 - 2 * r) h.relocR

theorem relocBlock (i : Nat) : t.relocBlock i = s.relocBlock i := by
  unfold State.relocBlock
  simp only [h.relocR, h.relocBase, h.out?, h.chanOf]

theorem storePa (pa : Nat) : t.storePa pa = s.storePa pa := by
  unfold State.storePa
  simp only [h.out?, h.chanOf, h.relocBase, h.outBelowInGranule, h.relocBlock, funext h.outInGranule]

theorem storeChan (pa : Nat) : t.storeChan pa = s.storeChan pa := by
  unfold State.storeChan
  rw [h.storePa, h.chanOf]

theorem chan (c : Nat) : t.chan c = s.chan c := congrArg (fun l : NTbl Chan => NTbl.at ({} : Chan) l c) h.chans

theorem poisoned (line : Nat) : t.poisoned line = s.poisoned line := by
  unfold State.poisoned State.lineLost
  rw [h.poison, h.storeChan, h.chan]

theorem twinLine (line : Nat) : t.twinLine line = s.twinLine line :=
  congrArg (fun l : NTbl (Option Nat) => (NTbl.at none l (lineGran line)).map (fun t => t * 2 ^ 24 + line % 2 ^ 24)) h.twins

theorem homeLine (line : Nat) : t.homeLine line = s.homeLine line := by
  unfold State.homeLine State.primaryOf
  rw [h.twins]

theorem homePa (pa : Nat) : t.homePa pa = s.homePa pa := by
  unfold State.homePa
  rw [h.home, h.homeLine]

theorem llcHit (line : Nat) (e : Option LineErr) : t.llcHit line e = s.llcHit line e := by
  unfold State.llcHit
  rw [h.llc]

theorem bankBlocked (line : Nat) : t.bankBlocked line = s.bankBlocked line := by
  unfold State.bankBlocked State.bankRepair State.lineRow
  rw [h.llc, h.storeChan, h.chan, h.storePa, h.sla]

theorem repairHeld (line : Nat) (write : Bool) : t.repairHeld line write = s.repairHeld line write := by
  unfold State.repairHeld
  simp only [h.bankBlocked, h.twinLine, h.poisoned]

/-- What a read without wrong symbols finds. -/
theorem eccRead (line : Nat) : (t.eccRead line []).1 = (s.eccRead line []).1 := by
  unfold State.eccRead
  simp only [List.eraseDups_nil, List.filter_nil, List.length_nil, Nat.zero_le, if_true, h.storeChan, h.chan, h.poison]
  split
  · rfl
  · split <;> rfl

theorem farLines (line : Nat) (write : Bool) : t.farLines line [] write = s.farLines line [] write := by
  unfold State.farLines
  simp only [h.storeChan, h.home, h.llcHit, h.twinLine, h.poisoned, show errOf [] line = none from rfl, Option.map_none, Option.getD_none,
    h.eccRead]

theorem farDead (line : Nat) (write : Bool) : t.farDead line [] write = s.farDead line [] write := by
  unfold State.farDead
  simp only [h.farLines, h.alive]

theorem sfSet (line : Nat) : t.sfSet line = s.sfSet line := by
  unfold State.sfSet
  rw [h.sla, h.home]

end

/-- The end of read combining moves no line. -/
theorem combClose (h : s.SameStore t) (line : Nat) : s.SameStore (t.combClose line) := by
  unfold State.combClose
  split
  · refine h.trans ⟨rfl, rfl, rfl, rfl, rfl, rfl, rfl, fun n => ?_⟩
    have hf : ∀ k (m : MSite), m.fatal = (t.msite k).fatal → (NTbl.at ({} : MSite) (NTbl.put {} t.mem.sites k m) n).fatal = (t.msite n).fatal :=
      fun _ _ hm => NTbl.at_put_view MSite.fatal hm n
    exact congrArg (fun b => (t.dom (8 + n)).running && !b) (hf _ _ rfl)
  · exact h

end State.SameStore

/-- A bank that holds no write holds no read. -/
theorem State.repairHeld_read {line : Nat} (h : s.repairHeld line true = false) (w : Bool) : s.repairHeld line w = false := by
  unfold State.repairHeld at h ⊢
  split at h
  · simp only [Bool.true_or, Bool.and_true, Bool.or_eq_false_iff] at h
    obtain ⟨hb, ht⟩ := h
    rw [hb, ht]
    rfl
  · exact h

end Sys2Proof.Machine
end

section
-- One proof after the other: many waiting at once would hold too much memory when the text is checked as one.
set_option Elab.async false
/-! Coherent requests at their home: grants, reads, writes and waiting (08 R310, R311; 05 R191). -/

namespace Sys2Proof.Machine

variable {s t u : State} {P : List Part} {a cmd addr line n : Nat} {data : Bytes} {poison : Bool}

/-! ### The message leaves its agent -/

/-- What a message may change on its way to the home. -/
def sentParts : List Part := ([.coh, .ports] : List Part) ++ recordParts

/-- What a message leaves as it was on its way to the home: of coherence it may change CC's copy only. -/
structure State.Sent (s t : State) : Prop where
  leaves : s.Leaves sentParts t
  coh : ∃ v, t.coh = { s.coh with cc := v }

theorem State.agentPacket_leaves (s : State) (a cmd line len units : Nat) (write req : Bool) :
    s.Leaves (.ports :: recordParts) (s.agentPacket a cmd line len units write req none).2 := by
  have hf : s.Leaves (.ports :: recordParts) (s.freeBelow (2 ^ 18)).2 := (State.Leaves.refl s).freeCtrSet
  unfold State.agentPacket
  dsimp only
  exact .observe (.ite hf.setQport hf)

theorem State.ccAsk_eq (s : State) (a line cmd : Nat) : ∃ v, s.ccAsk a line cmd = { s with coh := { s.coh with cc := v } } := by
  have no : ∃ v, s = { s with coh := { s.coh with cc := v } } := ⟨s.coh.cc, rfl⟩
  have set : ∀ c, ∃ v, s.setCc line c = { s with coh := { s.coh with cc := v } } := fun c => ⟨_, rfl⟩
  have pick : ∀ {c : Prop} [Decidable c] {x y : State}, (∃ v, x = { s with coh := { s.coh with cc := v } }) →
      (∃ v, y = { s with coh := { s.coh with cc := v } }) → ∃ v, (if c then x else y) = { s with coh := { s.coh with cc := v } } := by
    intro c _ x y hx hy
    split <;> assumption
  unfold State.ccAsk
  exact pick no (pick (set _) (pick (set _) (pick (set _) (pick (set _) (pick (set _) (pick (set _) no))))))

/-- A message of an agent, with CC's note of it. -/
theorem State.sent_packet (s : State) (a cmd line len units : Nat) (write req : Bool) :
    s.Sent ((s.agentPacket a cmd line len units write req none).2.ccAsk a line cmd) := by
  have h := s.agentPacket_leaves a cmd line len units write req
  generalize (s.agentPacket a cmd line len units write req none).2 = u at h
  obtain ⟨v, hv⟩ := u.ccAsk_eq a line cmd
  rw [hv]
  exact ⟨(h.mono (by decide +kernel)).cohSet, v, by rw [h.coh (by decide +kernel) (by decide +kernel) (by decide +kernel)]⟩

namespace State.Sent

section
variable (h : s.Sent t)
include h

theorem store : s.SameStore t := .of_leaves h.leaves

theorem htxn (line : Nat) : t.htxn line = s.htxn line := by
  obtain ⟨v, hv⟩ := h.coh
  unfold State.htxn
  rw [hv]

theorem sfEnt (line : Nat) : t.sfEnt line = s.sfEnt line := by
  obtain ⟨v, hv⟩ := h.coh
  unfold State.sfEnt
  rw [hv]

theorem lineBusy (line : Nat) : t.lineBusy line = s.lineBusy line := by
  obtain ⟨v, hv⟩ := h.coh
  unfold State.lineBusy State.htxn
  rw [hv]

theorem homeLoad (n : Nat) (p : HReq → Bool) : t.homeLoad n p = s.homeLoad n p := by
  obtain ⟨v, hv⟩ := h.coh
  unfold State.homeLoad
  simp only [h.store.homePa, hv]

theorem trackerFree (n : Nat) (c0 : Bool) : t.trackerFree n c0 = s.trackerFree n c0 := by
  have hm : t.mem.sites = s.mem.sites := h.leaves .sites (by decide +kernel)
  have hf : t.f .MEM_SCHED_CFG_C0_RESERVE n = s.f .MEM_SCHED_CFG_C0_RESERVE n := h.leaves.f _ _ _ (by decide +kernel)
  unfold State.trackerFree State.msite
  rw [h.homeLoad, h.homeLoad, hm, hf]

theorem trackerOpen (n : Nat) (c0 : Bool) : t.trackerOpen n c0 = s.trackerOpen n c0 := by
  have hr : t.mesh.reqs = s.mesh.reqs := h.leaves.reqs (by decide +kernel)
  have hm : t.meshWaits n = s.meshWaits n := by
    funext r
    unfold State.meshWaits
    rw [h.trackerFree]
  have hw : t.homeWaits n = s.homeWaits n := by
    funext r
    unfold State.homeWaits
    rw [h.trackerFree, h.store.homePa]
  obtain ⟨v, hv⟩ := h.coh
  unfold State.trackerOpen
  rw [h.trackerFree, hr, hm, hw, hv]

end

end State.Sent

/-! ### It finds a tracker -/

/-- A tracker that is open for any request is open for a C0 read. -/
theorem State.trackerOpen_of (h : s.trackerOpen n false = true) (c0 : Bool) : s.trackerOpen n c0 = true := by
  cases c0
  · exact h
  · unfold State.trackerOpen State.trackerFree at h ⊢
    simp only [Bool.and_eq_true, Bool.true_or, Bool.and_true] at h ⊢
    obtain ⟨⟨⟨hf, -⟩, hm⟩, hw⟩ := h
    exact ⟨⟨hf, hm⟩, hw⟩

/-- Where a plane is up, a request has one. -/
theorem State.planeFor_lt (h : s.planesUp ≠ []) (pa : Nat) : s.planeFor pa < 4 := by
  have hl : 0 < s.planesUp.length := List.length_pos_iff.mpr h
  have hi : bits pa 13 6 % max s.planesUp.length 1 < s.planesUp.length := by
    rw [Nat.max_eq_left hl]
    exact Nat.mod_lt _ hl
  have hm : ∀ p ∈ s.planesUp, p < 4 := fun p hp => List.mem_range.mp (List.mem_of_mem_filter hp)
  unfold State.planeFor
  rw [List.getD_eq_getElem _ _ hi]
  exact hm _ (List.getElem_mem hi)

/-- The request of a packet, as it stands at the home. -/
theorem State.agentReq_sent (s : State) (a cmd addr line : Nat) (data : Bytes) (poison : Bool) :
    s.Sent (s.agentReq a cmd addr line data poison none).2 := by
  unfold State.agentReq
  exact s.sent_packet a cmd line _ _ _ _

theorem State.agentReq_tracker (ho : s.homeOpen line) (a cmd addr : Nat) (data : Bytes) (poison : Bool) :
    let x := s.agentReq a cmd addr line data poison none
    x.2.agentTracker x.1 = true := by
  obtain ⟨hp, ha, ht⟩ := ho
  intro x
  have h : s.Sent x.2 := s.agentReq_sent a cmd addr line data poison
  have hl : x.1.line = line := rfl
  have hx : x.1.plane < 4 := s.planeFor_lt hp _
  unfold State.agentTracker
  dsimp only
  rw [hl, h.store.homePa, h.store.alive, ha, h.trackerOpen, State.trackerOpen_of ht, decide_eq_true hx]
  rfl

theorem State.cohReq_meets (hm : s.meetsHome a cmd addr line (decide (cmd = 0x12 ∨ cmd = 0x13 ∨ cmd = 0x15))) :
    let x := s.agentReq a cmd addr line data poison none
    s.cohReq a cmd addr data poison = if x.2.agentTracker x.1 then x.2.acceptHreq x.1
      else { x.2 with coh := { x.2.coh with waiting := x.2.coh.waiting ++ [x.1] } } := by
  obtain ⟨hh, ho, ha, hc⟩ := hm
  have hs : (!s.agentHeard a || (decide (a < 8) && decide (2048 ≤ s.siteOut a))) = false := by
    rw [hh, Bool.not_true, Bool.false_or]
    by_cases h8 : a < 8
    · rw [decide_eq_false (Nat.not_le.mpr (ho h8)), Bool.and_false]
    · rw [decide_eq_false h8, Bool.false_and]
  unfold State.cohReq
  rw [hs, if_neg Bool.false_ne_true]
  dsimp only
  rw [ha]
  dsimp only
  rw [hc]
  exact if_neg Bool.false_ne_true

theorem coherentRow_of {row : Instr} (hrow : exec row s = .next (s.cohReq a cmd addr data poison)) {write : Bool}
    (hw : write = decide (cmd = 0x12 ∨ cmd = 0x13 ∨ cmd = 0x15)) : coherentRow row s a cmd addr line write data poison := by
  subst hw
  intro hm x
  rw [hrow, State.cohReq_meets hm]
  exact ⟨fun h => congrArg _ (if_pos h), fun h => congrArg _ (if_neg (Bool.eq_false_iff.mp h))⟩

/-! ### It is accepted -/

theorem State.combClose_coh (s : State) (line : Nat) : (s.combClose line).coh = s.coh := by
  unfold State.combClose
  split <;> rfl

/-- A request of a line in I to whose home nothing else stands open starts at once, read combining ended for it where it is for ownership
or writes. -/
theorem State.acceptHreq_starts {r : HReq} (hb : s.lineBusy r.line = false) (hr : s.repairHeld r.line true = false)
    (he : s.sfEnt r.line = none) : s.acceptHreq r =
      (if r.cmd = 0x12 ∨ r.cmd = 0x13 ∨ r.writes then s.combClose r.line else s).startI r := by
  have hf : s.fromOwner r = false := by
    unfold State.fromOwner
    rw [he]
  unfold State.acceptHreq
  rw [hf, Bool.and_false, if_neg Bool.false_ne_true]
  generalize hv : (if r.cmd = 0x12 ∨ r.cmd = 0x13 ∨ r.writes then s.combClose r.line else s) = v
  have hc : v.coh = s.coh ∧ s.SameStore v := by
    rw [← hv]
    split
    · exact ⟨State.combClose_coh .., (State.SameStore.refl s).combClose _⟩
    · exact ⟨rfl, .refl s⟩
  obtain ⟨hcoh, hst⟩ := hc
  have hb' : v.lineBusy r.line = false := by
    unfold State.lineBusy State.htxn at hb ⊢
    rw [hcoh, hb]
  have he' : v.sfEnt r.line = none := by
    unfold State.sfEnt at he ⊢
    rw [hcoh, he]
  unfold State.askLine
  rw [hb', hst.repairHeld, State.repairHeld_read hr, Bool.or_false, if_neg Bool.false_ne_true]
  unfold State.startHreq
  rw [he']

/-- A request whose line is busy waits behind those that came before it. -/
theorem State.acceptHreq_queues {r : HReq} (hb : s.lineBusy r.line = true) (hc : ¬(r.cmd = 0x12 ∨ r.cmd = 0x13 ∨ r.writes = true)) :
    s.acceptHreq r = { s with coh := { s.coh with queue := s.coh.queue ++ [r] } } := by
  unfold State.acceptHreq
  rw [hb, Bool.not_true, Bool.false_and, if_neg Bool.false_ne_true, if_neg hc]
  unfold State.askLine
  rw [hb]
  exact if_pos rfl

/-! ### A grant -/

theorem State.htxn_putHtxn (s : State) (x : HTxn) : (s.putHtxn x).htxn x.line = some x := by
  unfold State.putHtxn
  split
  · next h =>
    obtain ⟨y, hy⟩ := Option.isSome_iff_exists.mp h
    have hl : y.line = x.line := eq_of_beq (List.find?_some (p := fun z : HTxn => z.line == x.line) hy)
    have hp : ((fun z : HTxn => z.line == x.line) ∘ fun z => if z.line = x.line then x else z) = fun z => z.line == x.line := by
      funext z
      by_cases hz : z.line = x.line <;> simp [hz]
    change (s.coh.txns.map fun z => if z.line = x.line then x else z).find? (fun z => z.line == x.line) = some x
    rw [List.find?_map, hp]
    change Option.map _ (s.htxn x.line) = some x
    rw [hy]
    exact congrArg some (if_pos hl)
  · next h =>
    have hn : s.coh.txns.find? (fun z => z.line == x.line) = none := Option.not_isSome_iff_eq_none.mp h
    change (s.coh.txns ++ [x]).find? (fun z => z.line == x.line) = some x
    rw [List.find?_append, hn, Option.none_or]
    exact List.find?_cons_of_pos (beq_self_eq_true _)

/-- A transaction whose grant is on its way. -/
def HTxn.granted (x : HTxn) (owned : Bool) (holders used : Nat) : HTxn :=
  { x with phase := .grant, pend := [], victim := none, final := some { owned, holders, used } }

/-- A grant with the line's data to an agent that is up. -/
theorem State.sendGrant_shows {x : HTxn} (hd : s.farDead x.line [] false = false) (hu : bit s.coh.up x.req.agent = true) (g holders : Nat) :
    ∃ u, s.sendGrant x g true holders = u.putHtxn (x.granted (decide (g = 2)) holders s.coh.stamp) ∧ s.Quiet u := by
  have hc : ∀ v, (v = s ∨ v = s.combClose x.line) → s.Quiet (v.cohData x.req g) ∧ v.farDead x.line [] false = false := by
    rintro v (rfl | rfl)
    · exact ⟨.cohData (.refl _), hd⟩
    · exact ⟨.cohData (.combClose (.refl _)), (((State.SameStore.refl s).combClose _).farDead _ _).trans hd⟩
  unfold State.sendGrant
  dsimp only
  generalize hv : (if g = 2 then s.combClose x.line else s) = v
  obtain ⟨hq, hf⟩ := hc v (by rw [← hv]; split; exacts [.inr rfl, .inl rfl])
  rw [if_pos rfl, hf, Bool.and_false, if_neg Bool.false_ne_true]
  exact ⟨v.cohData x.req g, if_pos hu, hq⟩

/-! ### A line in I is granted -/

theorem State.SameStore.sfWays (h : s.SameStore t) (hs : t.coh.sf = s.coh.sf)
    (ht : t.coh.txns.filter (fun x => x.final.isSome) = s.coh.txns.filter (fun x => x.final.isSome)) (line : Nat) :
    t.sfWays line = s.sfWays line := by
  have split : ∀ (l : List HTxn) (p q : HTxn → Bool), l.filter (fun x => x.final.isSome && p x && q x)
      = (l.filter (fun x => x.final.isSome)).filter (fun x => p x && q x) := fun l p q => by
    rw [List.filter_filter]
    exact List.filter_congr fun x _ => by rw [Bool.and_assoc, Bool.and_comm]
  unfold State.sfWays
  simp only [h.sfSet, hs, split, ht]

/-- What a request for a line without a transaction opens. -/
theorem State.openHtxn_new {r : HReq} {ph : HPhase} (h : s.htxn r.line = none) : (s.openHtxn r ph).2 = { s with coh := { s.coh with
    next := (s.coh.next + 1) % 4096, txns := s.coh.txns ++ [(s.openHtxn r ph).1] } } :=
  if_neg (fun hn => Bool.noConfusion ((congrArg Option.isSome h).symm.trans hn))

/-- A request of an agent for a copy of a line in I, where the filter has a way, is granted S or E. -/
theorem State.startI_grants {r : HReq} (hb : s.htxn r.line = none) (hw : (s.sfWays r.line).length < 16)
    (hd : s.farDead r.line [] false = false) (hu : bit s.coh.up r.agent = true) (hc : 0x10 ≤ r.cmd ∧ r.cmd ≤ 0x13) :
    (s.startI r).granting r.agent r.cmd r.line r.wantsE (2 ^ r.agent) ∧ (s.startI r).coh.sf = s.coh.sf := by
  obtain ⟨hlo, hhi⟩ := hc
  have hm : r.mesh = false := decide_eq_false (by omega)
  have ho := State.openHtxn_new (ph := .alloc) hb
  have hx : (s.openHtxn r .alloc).1.final = none ∧ (s.openHtxn r .alloc).1.line = r.line ∧ (s.openHtxn r .alloc).1.req = r := ⟨rfl, rfl, rfl⟩
  have hl : s.SameStore (s.openHtxn r .alloc).2 := .of_leaves (P := [.coh, .txns]) (State.Leaves.refl s).openHtxn
  unfold State.startI
  rw [hm, if_neg Bool.false_ne_true, if_neg (by omega), if_neg (by omega), if_neg (by omega)]
  dsimp only
  generalize (s.openHtxn r .alloc).1 = x at ho hx
  generalize (s.openHtxn r .alloc).2 = w at ho hl
  obtain ⟨hf, hxl, hxr⟩ := hx
  have hsf : w.coh.sf = s.coh.sf := by rw [ho]
  have hways : (w.sfWays x.line).length < 16 := by
    rw [hl.sfWays hsf (by rw [ho, List.filter_append, List.filter_cons_of_neg (by rw [hf]; exact Bool.false_ne_true), List.filter_nil, List.append_nil]), hxl]
    exact hw
  unfold State.sfAlloc
  rw [if_pos hways]
  obtain ⟨u, he, hq⟩ := State.sendGrant_shows (s := w) (x := x) (by rw [hxl, hl.farDead]; exact hd) (by rw [hxr, ho]; exact hu)
    (if x.req.wantsE then 2 else 1) (2 ^ x.req.agent)
  rw [he, ← hxl, ← hxr]
  obtain ⟨-, -, -, hs⟩ := hq
  have hp : u.Leaves [.txns] (u.putHtxn (x.granted (decide ((if x.req.wantsE then 2 else 1) = 2)) (2 ^ x.req.agent) w.coh.stamp)) :=
    (State.Leaves.refl u).putHtxn
  refine ⟨⟨x.granted _ _ _, _, State.htxn_putHtxn _ _, rfl, rfl, rfl, rfl, ?_, rfl⟩, (hp .sf rfl).trans (hs.trans hsf)⟩
  change decide ((if x.req.wantsE then 2 else 1) = 2) = x.req.wantsE
  cases x.req.wantsE <;> rfl

/-! ### The rows -/

theorem State.agentHeard_up (h : s.agentHeard a = true) : bit s.coh.up a = true := by
  unfold State.agentHeard at h
  simp only [Bool.and_eq_true] at h
  obtain ⟨⟨hu, -⟩, -⟩ := h
  exact hu

theorem State.htxn_of_idle (h : s.lineBusy line = false) : s.htxn line = none := by
  unfold State.lineBusy at h
  obtain ⟨hn, -⟩ := Bool.or_eq_false_iff.mp h
  exact Option.isNone_iff_eq_none.mp (Option.not_isSome .. ▸ by rw [hn]; rfl)

/-- What a coherent request does at a home that is free for its line in I. -/
theorem State.cohReq_starts (hm : s.meetsHome a cmd addr line (decide (cmd = 0x12 ∨ cmd = 0x13 ∨ cmd = 0x15))) (hf : s.homeFree line)
    (he : s.sfEnt line = none) : let x := s.agentReq a cmd addr line data poison none
      s.cohReq a cmd addr data poison =
        (if x.1.cmd = 0x12 ∨ x.1.cmd = 0x13 ∨ x.1.writes then x.2.combClose line else x.2).startI x.1 := by
  obtain ⟨ho, hb, hr, -, -⟩ := hf
  intro x
  have h : s.Sent x.2 := s.agentReq_sent a cmd addr line data poison
  have ht : x.2.agentTracker x.1 = true := State.agentReq_tracker ho ..
  have hl : x.1.line = line := rfl
  rw [State.cohReq_meets hm]
  refine (if_pos ht).trans (State.acceptHreq_starts ?_ ?_ ?_)
  · rw [hl, h.lineBusy, hb]
  · rw [hl, h.store.repairHeld, hr]
  · rw [hl, h.sfEnt, he]

/-- A request that is granted, whether or not read combining ended for it. -/
theorem State.cohReq_grants (hm : s.meetsHome a cmd addr line (decide (cmd = 0x12 ∨ cmd = 0x13 ∨ cmd = 0x15))) (hf : s.homeFree line)
    (he : s.sfEnt line = none) (hw : (s.sfWays line).length < 16) (hc : 0x10 ≤ cmd ∧ cmd ≤ 0x13) {owned : Bool}
    (hg : (s.agentReq a cmd addr line [] false none).1.wantsE = owned) :
    (s.cohReq a cmd addr [] false).granting a cmd line owned (2 ^ a) ∧ (s.cohReq a cmd addr [] false).coh.sf = s.coh.sf := by
  rw [State.cohReq_starts hm hf he, ← hg]
  have h := s.agentReq_sent a cmd addr line [] false
  generalize hx : s.agentReq a cmd addr line [] false none = x at h
  obtain ⟨rfl, rfl, rfl⟩ : x.1.line = line ∧ x.1.cmd = cmd ∧ x.1.agent = a := by rw [← hx]; exact ⟨rfl, rfl, rfl⟩
  obtain ⟨-, hb, -, -, hd⟩ := hf
  obtain ⟨hh, -⟩ := hm
  generalize hv : (if x.1.cmd = 0x12 ∨ x.1.cmd = 0x13 ∨ x.1.writes then x.2.combClose x.1.line else x.2) = v
  obtain ⟨hst, hcoh⟩ : s.SameStore v ∧ v.coh = x.2.coh := by
    rw [← hv]
    split
    · exact ⟨h.store.combClose _, State.combClose_coh ..⟩
    · exact ⟨h.store, rfl⟩
  obtain ⟨c, hcc⟩ := h.coh
  replace hcoh : v.coh = { s.coh with cc := c } := hcoh.trans hcc
  have hsf : v.coh.sf = s.coh.sf := by rw [hcoh]
  have htx : v.coh.txns = s.coh.txns := by rw [hcoh]
  have hup : bit v.coh.up x.1.agent = true := by rw [hcoh]; exact State.agentHeard_up hh
  have hn : v.htxn x.1.line = none := by
    unfold State.htxn
    rw [htx]
    exact State.htxn_of_idle hb
  rw [← hsf]
  exact State.startI_grants hn (by rw [hst.sfWays hsf (by rw [htx])]; exact hw) (by rw [hst.farDead, hd]) hup hc

/-- An agent outside plots may be granted E. -/
theorem State.agentReq_wantsE (hp : a < 8 → s.plotOfSite a = none) : (s.agentReq a 0x11 addr line [] false none).1.wantsE = true := by
  have hn : (if a < 8 then s.plotOfSite a else none) = none := by
    split
    · next h => exact hp h
    · rfl
  unfold State.agentReq HReq.wantsE
  dsimp only
  rw [hn]
  rfl

theorem State.startI_current {r : HReq} (h : r.cmd = 0x14) : s.startI r = (s.cohData r 0 true).cohTraceNow r := by
  have hm : r.mesh = false := decide_eq_false (by omega)
  unfold State.startI
  rw [hm, if_neg Bool.false_ne_true, if_pos h]

theorem State.startI_write {r : HReq} (h : r.cmd = 0x15) : s.startI r = (s.writeInv r).cohTraceNow r := by
  have hm : r.mesh = false := decide_eq_false (by omega)
  unfold State.startI
  rw [hm, if_neg Bool.false_ne_true, if_neg (by omega), if_pos h]

/-- A write of bytes of a line whose sites all answer is made. -/
theorem State.homeWrite_ok {k cls : Nat} (hk : k < 64) (hd : s.farDead line [] true = false) :
    (s.homeWrite (line * 64 + k) data poison cls).1 = stOk := by
  have hl : (line * 64 + k) / 64 = line := by omega
  unfold State.homeWrite
  rw [hl, hd]
  rfl

theorem rdCurr_answers (hf : s.homeFree line) (he : s.sfEnt line = none) (hm : s.meetsHome a 0x14 addr line false) :
    let x := s.agentReq a 0x14 addr line [] false none
    exec (.rdCurr a addr) s = .next ((x.2.cohData x.1 0 true).cohTraceNow x.1) :=
  congrArg _ ((State.cohReq_starts hm hf he).trans (State.startI_current rfl))

theorem wrInv_writes (hf : s.homeFree line) (he : s.sfEnt line = none) (hm : s.meetsHome a 0x15 addr line true) :
    let x := s.agentReq a 0x15 addr line data poison none
    let y := (x.2.combClose line).homeWrite (line * 64 + addr % 64) (data.take (64 - addr % 64)) poison x.1.cls
    y.1 = stOk ∧ exec (.wrInv a addr data poison) s = .next ((y.2.cohAnswer x.1 0x81 0 stOk []).cohTraceNow x.1) := by
  intro x y
  obtain ⟨-, -, -, hd, -⟩ := id hf
  have h : s.SameStore (x.2.combClose line) := (s.agentReq_sent a 0x15 addr line data poison).store.combClose line
  have hy : y.1 = stOk := State.homeWrite_ok (Nat.mod_lt _ (by decide)) ((h.farDead ..).trans hd)
  have hx : x.1.cmd = 0x15 := rfl
  have hw : (x.2.combClose line).writeInv x.1 = y.2.cohAnswer x.1 0x81 0 stOk [] := by
    rw [← hy]
    rfl
  refine ⟨hy, congrArg _ ((State.cohReq_starts hm hf he).trans ?_)⟩
  rw [if_pos (.inr (.inr (decide_eq_true (.inl hx)))), State.startI_write hx, hw]

theorem rdShared_queues (hm : s.meetsHome a 0x10 addr line false) (hb : s.lineBusy line = true) (ho : s.homeOpen line) :
    ∃ t r, exec (.rdShared a addr) s = .next t ∧ t.coh.queue = s.coh.queue ++ [r]
      ∧ r.cmd = 0x10 ∧ r.agent = a ∧ r.line = line ∧ t.coh.txns = s.coh.txns ∧ t.coh.sf = s.coh.sf := by
  have h := s.agentReq_sent a 0x10 addr line [] false
  have ht := State.agentReq_tracker ho a 0x10 addr [] false
  have he : exec (.rdShared a addr) s = .next (s.cohReq a 0x10 addr [] false) := rfl
  rw [he, State.cohReq_meets hm]
  dsimp only
  rw [if_pos ht]
  generalize hx : s.agentReq a 0x10 addr line [] false none = x at h ht ⊢
  obtain ⟨hl, hc, ha⟩ : x.1.line = line ∧ x.1.cmd = 0x10 ∧ x.1.agent = a := by rw [← hx]; exact ⟨rfl, rfl, rfl⟩
  have hw : ¬(x.1.cmd = 0x12 ∨ x.1.cmd = 0x13 ∨ x.1.writes = true) := by
    unfold HReq.writes
    rw [hc]
    decide
  rw [State.acceptHreq_queues (by rw [hl, h.lineBusy, hb]) hw]
  obtain ⟨v, hv⟩ := h.coh
  exact ⟨_, x.1, rfl, by rw [hv], hc, ha, hl, by rw [hv], by rw [hv]⟩

theorem homeTransactionStart_starts {r : HReq} (hn : s.htxn line = none) (hq : s.coh.queue.find? (fun r => r.line == line) = some r)
    (hr : s.repairHeld line r.writes = false) (ho : s.fromOwner r = false) : exec (.homeTransactionStart line) s
      = .next (State.startHreq { s with coh := { s.coh with queue := s.coh.queue.erase r } } r).serveReady := by
  change execHomeTransactionStart line s = _
  unfold execHomeTransactionStart
  rw [hn, hq]
  dsimp only [Option.isSome_none]
  rw [if_neg Bool.false_ne_true]
  rw [hr, if_neg Bool.false_ne_true]
  exact if_neg (fun h => Bool.noConfusion (ho.symm.trans h))

theorem sfAllocRetry_tries {x : HTxn} (hx : s.htxn line = some x) (hp : x.phase = .alloc) (hv : ∀ v, x.victim = some v → s.htxn v = none) :
    exec (.sfAllocRetry line) s
      = .next ((s.count .COH_ALLOC_RETRY_COUNT (s.home (line * 64)) 0 32 1).sfAlloc x).serveReady := by
  have hn : (x.victim.map fun v => (s.htxn v).isSome).getD false = false := by
    cases h : x.victim with
    | none => rfl
    | some v => exact congrArg Option.isSome (hv v h)
  change execSfAllocRetry line s = _
  unfold execSfAllocRetry
  rw [hx]
  dsimp only
  rw [hp, hn]
  exact if_neg (fun h => h.elim (fun h => h rfl) Bool.noConfusion)

/-- Settles O47: coherent requests reach their home or wait, and a line in I is granted, read or written there. -/
theorem coherentRequests : Obligations.CoherentRequests := by
  intro s a addr line data poison
  refine ⟨⟨coherentRow_of rfl rfl, coherentRow_of rfl rfl, coherentRow_of rfl rfl, coherentRow_of rfl rfl, coherentRow_of rfl rfl,
    coherentRow_of rfl rfl⟩, fun hf he hw => ⟨fun hm => ?_, fun hm hp => ?_, fun hm => ?_, fun hm => ?_⟩,
    fun hf he => ⟨rdCurr_answers hf he, wrInv_writes hf he⟩, rdShared_queues,
    fun r hn hq hr ho => homeTransactionStart_starts hn hq hr ho, fun x hx hp hv => sfAllocRetry_tries hx hp hv⟩
  · exact ⟨_, rfl, State.cohReq_grants hm hf he hw (by decide) rfl⟩
  · exact ⟨_, rfl, State.cohReq_grants hm hf he hw (by decide) (State.agentReq_wantsE hp)⟩
  · exact ⟨_, rfl, State.cohReq_grants hm hf he hw (by decide) rfl⟩
  · exact ⟨_, rfl, State.cohReq_grants hm hf he hw (by decide) rfl⟩

end Sys2Proof.Machine
end

section
-- One proof after the other: many waiting at once would hold too much memory when the text is checked as one.
set_option Elab.async false
/-! What homes do with snoop responses, grants, evictions, silence and errors (08 R299-R318). -/

namespace Sys2Proof.Machine

variable {s t u : State} {P : List Part} {a addr line txn n k : Nat} {x : HTxn} {data : Bytes} {poison : Bool}

/-! ### Errors of the ring and of a snoop filter (08 R300, R309) -/

theorem cohSfFatal_shows (s : State) (n : Nat) : (∃ t, exec (.cohSfFatal n true) s = .next t ∧ t.aon.alert = true
    ∧ t.hl.moduleSeq = s.hl.moduleSeq + 1 ∧ t.coh = s.coh) ∧ (∃ t, exec (.cohSfFatal n false) s = .next t
    ∧ t.f .COH_ERR_STATUS_SF_CORR = 1 ∧ t.f .COH_SF_CORR_COUNT_COUNT n = satAdd 32 (s.f .COH_SF_CORR_COUNT_COUNT n) 1 ∧ t.coh = s.coh) := by
  have hl : ((s.flag .COH_ERR_STATUS_SF_CORR).count .COH_SF_CORR_COUNT_COUNT n 0 32 1).Leaves raiseParts
      (((s.flag .COH_ERR_STATUS_SF_CORR).count .COH_SF_CORR_COUNT_COUNT n 0 32 1).raise 0x4008 sevCorrected 2 n [n] .op) :=
    (State.Leaves.refl _).raise
  refine ⟨⟨_, rfl, State.alert_raise_moduleFatal .., State.raise_seq .., State.coh_raise ..⟩,
    ⟨_, rfl, (hl.f _ _ _).trans ?_, (hl.f _ _ _).trans ?_, hl.coh⟩⟩
  · rw [State.f_count_fid _ (by decide), State.f_flag_same]
  · rw [State.f_count_same, State.f_flag_fid _ (by decide)]

theorem cohRingFatal_shows (s : State) (n : Nat) : ∃ t, exec (.cohRingFatal n) s = .next t ∧ t.coh.ringDown = true ∧ t.aon.alert = true
    ∧ t.hl.moduleSeq = s.hl.moduleSeq + 1 ∧ t.coh.txns = s.coh.txns := by
  refine ⟨_, rfl, ?_, State.alert_raise_moduleFatal .., State.raise_seq .., ?_⟩ <;> rw [State.coh_raise]

theorem coherenceErrors_holds : coherenceErrors := by
  intro s n
  obtain ⟨hf, hc⟩ := cohSfFatal_shows s n
  exact ⟨rfl, cohRingFatal_shows s n, hf, hc⟩

/-! ### Responses to snoops (08 R313-R315) -/

/-- Memory once the dirty data of a snooped agent is written; that of a recall of a teardown is discarded. -/
def State.dirtyIn (s : State) (x : HTxn) (line : Nat) : Option Bytes → State
  | some b => if x.req.cmd = 0x201 then s else s.memWrite (line * 64) (slice b 0 64) 0
  | none => s

theorem State.snoopResp_answers {msg : Nat} {d : Option Bytes} (h : s.awaits a line txn x) (hu : bit s.coh.up a = true) :
    s.snoopResp a line txn k msg d = (((s.dirtyIn x line d).putHtxn (x.answered a k)).snoopCheck line).serveReady := by
  obtain ⟨hx, hp, ht, hw⟩ := h
  unfold State.snoopResp
  rw [hu, Bool.not_true, if_neg Bool.false_ne_true, hx]
  dsimp only
  rw [if_pos ⟨hp, ht, hw⟩]
  cases d <;> rfl

theorem State.snoopResp_unexpected {msg : Nat} {d : Option Bytes} (h : s.htxn line = none) (hu : bit s.coh.up a = true) :
    s.snoopResp a line txn k msg d = s.protoErr a line msg := by
  unfold State.snoopResp
  rw [hu, Bool.not_true, if_neg Bool.false_ne_true, h]

theorem rspLost_loses (h : s.awaits a line txn x) (hu : bit s.coh.up a = true) :
    exec (.rspLost a line txn) s = .next (s.lostAt x a).2.serveReady := by
  obtain ⟨hx, hp, ht, hw⟩ := h
  have hc : x.pend.any (fun w => w.agent == a && !w.complete) = true := by
    obtain ⟨w, hm, hb⟩ := List.any_eq_true.mp hw
    obtain ⟨ha, hr⟩ := (Bool.and_eq_true _ _).mp hb
    refine List.any_eq_true.mpr ⟨w, hm, ?_⟩
    unfold SnpWait.complete
    rw [ha, ← Option.not_isNone, hr]
    rfl
  change execRspLost a line txn s = _
  unfold execRspLost
  rw [hu, Bool.not_true, if_neg Bool.false_ne_true, hx]
  dsimp only
  rw [if_pos (.inl ⟨hp, ht, hc⟩)]

theorem rspLost_unexpected (h : s.htxn line = none) (hu : bit s.coh.up a = true) :
    exec (.rspLost a line txn) s = .next (s.protoErr a line 0x3C) := by
  change execRspLost a line txn s = _
  unfold execRspLost
  rw [hu, Bool.not_true, if_neg Bool.false_ne_true, h]

theorem rspIWbp_unexpected (h : s.htxn line = none) (hu : bit s.coh.up a = true) :
    exec (.rspIWbp a line txn) s = .next (s.protoErr a line 0x3B) := by
  change execRspIWbp a line txn s = _
  unfold execRspIWbp
  rw [hu, Bool.not_true, if_neg Bool.false_ne_true, h]

theorem rspIWbp_awaits (h : s.awaits a line txn x) (hu : bit s.coh.up a = true) (hn : x.pend.any (fun w => w.wbp && !w.wb) = false)
    (ha : x.pend.any (fun w => w.agent == a && !w.wb) = true) : exec (.rspIWbp a line txn) s = .next (State.snoopCheck (
        let s1 := s.putHtxn { x with pend := x.pend.map (fun w =>
          if w.agent = a then { w with resp := some 0, wbp := true } else w) }
        s1.count .COH_WBP_COUNT (s1.home (line * 64)) 0 32 1) line).serveReady := by
  obtain ⟨hx, hp, ht, hw⟩ := h
  change execRspIWbp a line txn s = _
  unfold execRspIWbp
  rw [hu, Bool.not_true, if_neg Bool.false_ne_true, hx]
  dsimp only
  rw [if_pos ⟨hp, ht, by rw [hn]; rfl, hw⟩, if_pos ha]

/-! ### Snoops (08 R302, R303; 09 R340) -/

theorem State.snoopAt_cc {snp code : Nat} {b : Option Bytes} {c : Option CcLine} (h : s.awaits 8 line txn x) (hd : s.boot.dead = false)
    (hc : ccAnswer (s.freeCtr + 1) snp (ccNow s.freeCtr (NTbl.at none s.coh.cc line)) = some (code, b, c)) :
    s.snoopAt 8 line txn snp = (State.setCc { s with freeCtr := s.freeCtr + 66 } line c).emit (.snoop code 8 line txn b) := by
  obtain ⟨hx, hp, ht, hw⟩ := h
  unfold State.snoopAt
  rw [hx]
  dsimp only
  rw [if_pos ⟨rfl, by rw [hd]; rfl, hp, ht, hw⟩, hc]

theorem State.snoopAt_site {snp : Nat} (h : s.awaits a line txn x) (h8 : a < 8) : s.snoopAt a line txn snp
    = s.siteSend a { cmd := snp, len := 64, addr := s.agentLine a line, info := txn + s.home (line * 64) * 2 ^ 16 } := by
  obtain ⟨hx, hp, ht, hw⟩ := h
  unfold State.snoopAt
  rw [hx]
  dsimp only
  rw [if_neg (fun hn => absurd hn.1 (by omega)), if_pos ⟨h8, hp, ht, hw⟩]

theorem snoopTimeout_loses {w : SnpWait} (hu : bit s.coh.up a = true) (hx : s.htxn line = some x) (hp : x.phase = .snoop)
    (hw : x.pend = [w]) (hc : w.complete = false) (ha : w.agent = a) (h8 : a < 8) : exec (.snoopTimeout line) s
      = .next (((s.flag .COH_ERR_STATUS_SNOOP_TIMEOUT).linkDown a 8).agentLost a).serveReady := by
  have hl : (x.pend.filter (fun w => !w.complete)).map SnpWait.agent = [a] := by
    rw [hw, List.filter_cons_of_pos (by rw [hc]; rfl), List.filter_nil, List.map_singleton, ha]
  change execSnoopTimeout line s = _
  unfold execSnoopTimeout
  rw [hx]
  dsimp only
  rw [if_pos hp, hl, if_neg (List.cons_ne_nil _ _), List.foldl_cons, List.foldl_nil]
  exact congrArg _ (congrArg State.serveReady (if_pos ⟨h8, hu⟩))

theorem snoopsAndResponses_holds : snoopsAndResponses := by
  intro s a line txn x d
  have hi : exec (.rspI a line txn d) s = .next (s.snoopResp a line txn 0 0x38 d) := rfl
  have hs : exec (.rspS a line txn d) s = .next (s.snoopResp a line txn 1 0x39 d) := rfl
  have he : exec (.rspE a line txn d) s = .next (s.snoopResp a line txn 2 0x3A d) := rfl
  refine ⟨fun h hu => ?_, fun h hu hn ha => rspIWbp_awaits h hu hn ha, fun h hu => ?_, fun snp row hm => ?_,
    fun w hu hx hp hw hc ha h8 => snoopTimeout_loses hu hx hp hw hc ha h8⟩
  · intro s1
    have h1 : s1 = s.dirtyIn x line d := by cases d <;> rfl
    rw [hi, hs, he, h1, State.snoopResp_answers h hu, State.snoopResp_answers h hu, State.snoopResp_answers h hu]
    exact ⟨rfl, rfl, rfl, rspLost_loses h hu⟩
  · rw [hi, hs, he, State.snoopResp_unexpected h hu, State.snoopResp_unexpected h hu, State.snoopResp_unexpected h hu]
    exact ⟨rfl, rfl, rfl, rspIWbp_unexpected h hu, rspLost_unexpected h hu⟩
  · have hr : ∀ a, exec (row a line txn) s = .next (s.snoopAt a line txn snp) := by
      simp only [List.mem_cons, Prod.mk.injEq, List.not_mem_nil, or_false] at hm
      rcases hm with ⟨rfl, rfl⟩ | ⟨rfl, rfl⟩ | ⟨rfl, rfl⟩ <;> exact fun _ => rfl
    refine ⟨fun h hd code b c hc => ?_, fun h8 h => ?_⟩
    · rw [hr, State.snoopAt_cc h hd hc]
    · rw [hr, State.snoopAt_site h h8]

end Sys2Proof.Machine
end

section
-- One proof after the other: many waiting at once would hold too much memory when the text is checked as one.
set_option Elab.async false
/-! Grants and evictions at a home (08 R310-R314, R324). -/

namespace Sys2Proof.Machine

variable {s t u : State} {P : List Part} {a addr line n ref : Nat} {x : HTxn} {data : Bytes} {poison : Bool}

/-! ### Transactions and filter entries -/

theorem State.sfEnt_setSf (s : State) (line : Nat) (v : Option SfEnt) :
    (s.setSf line v).sfEnt line = v.bind fun e => if e.holders = 0 then none else some e := by
  cases v with
  | none => exact NTbl.at_put_same (none : Option SfEnt) s.coh.sf line none
  | some e => exact NTbl.at_put_same (none : Option SfEnt) s.coh.sf line (if e.holders = 0 then none else some e)

/-- The end of a transaction leaves the others and the filter as they were. -/
theorem State.dropHtxn_shows (s : State) (line : Nat) : (s.dropHtxn line).coh.txns = s.coh.txns.filter (fun x => x.line != line)
    ∧ (s.dropHtxn line).coh.sf = s.coh.sf := by
  unfold State.dropHtxn
  dsimp only
  split
  · next x _ =>
    obtain ⟨-, -, ht, hs⟩ := State.Quiet.cohTrace (x := x) (.refl s)
    rw [ht]
    exact ⟨rfl, hs⟩
  · exact ⟨rfl, rfl⟩

theorem State.htxn_dropHtxn (s : State) (line : Nat) : (s.dropHtxn line).htxn line = none := by
  obtain ⟨ht, -⟩ := s.dropHtxn_shows line
  unfold State.htxn
  rw [ht]
  refine List.find?_eq_none.mpr fun y hy => ?_
  obtain ⟨-, hn⟩ := List.mem_filter.mp hy
  simpa using hn

theorem State.htxn_line (h : s.htxn line = some x) : x.line = line :=
  eq_of_beq (List.find?_some (p := fun z : HTxn => z.line == line) h)

/-! ### GRANT_ACK (08 R313, R324) -/

/-- Whether a grant of a line is on its way to an agent. -/
def State.granted (s : State) (a line : Nat) : Bool := match s.htxn line with
  | some t => decide (t.phase = .grant) && t.req.agent == a
  | none => false

/-- The port of a site once its grant is acknowledged to the home. -/
def State.acked (s : State) (a line : Nat) : State :=
  if a < 8 then s.setLink a { s.link a with acks := (s.link a).acks.erase line } else s

/-- A GRANT_ACK as it comes to the home. -/
def State.grantAcked (s : State) (a line : Nat) : State := (s.agentPacket a 0x20 line 64 0 false false none).2.acked a line

theorem execGrantAck_heard (hh : s.agentHeard a = true) (ha : s.lineAddr a addr false = (stOk, some line)) : execGrantAck a addr s =
    if decide (a < 8) && s.granted a line && !(s.link a).acks.contains line then .next s
    else if s.granted a line && !s.agentMay a 0x20 line then .next s
    else .next ((s.grantAcked a line).grantAckAt a line).serveReady := by
  unfold execGrantAck
  rw [hh, Bool.not_true, if_neg Bool.false_ne_true, ha]
  dsimp only
  unfold State.granted State.grantAcked State.acked
  rfl

theorem State.granted_iff : s.granted a line = true ↔ ∃ x, s.htxn line = some x ∧ x.phase = .grant ∧ x.req.agent = a := by
  unfold State.granted
  split
  · next x hx => simp [hx]
  · next hx => simp [hx]

theorem State.acked_coh (s : State) (a line : Nat) : (s.acked a line).coh = s.coh := by
  unfold State.acked
  split <;> rfl

theorem State.grantAcked_coh (s : State) (a line : Nat) : (s.grantAcked a line).coh = s.coh :=
  (State.acked_coh ..).trans ((s.agentPacket_leaves a 0x20 line 64 0 false false).coh (by decide +kernel) (by decide +kernel) (by decide +kernel))

theorem State.grantApply_shows (s : State) (a : Nat) (x : HTxn) : (s.grantApply a x).htxn x.line = none
    ∧ (s.grantApply a x).sfEnt x.line = (x.final.map fun e => { e with used := s.coh.stamp + 1 }).bind
      fun e => if e.holders = 0 then none else some e := by
  have hs : ∀ v : State, ((v.setSf x.line (x.final.map fun e => { e with used := s.coh.stamp + 1 })).dropHtxn x.line).sfEnt x.line
      = (x.final.map fun e => { e with used := s.coh.stamp + 1 }).bind fun e => if e.holders = 0 then none else some e := fun v => by
    obtain ⟨-, hd⟩ := (v.setSf x.line (x.final.map fun e => { e with used := s.coh.stamp + 1 })).dropHtxn_shows x.line
    rw [← State.sfEnt_setSf v]
    exact congrArg (fun l : NTbl (Option SfEnt) => NTbl.at none l x.line) hd
  unfold State.grantApply
  dsimp only
  split
  · exact ⟨State.htxn_dropHtxn .., hs _⟩
  · exact ⟨State.htxn_dropHtxn .., hs _⟩

theorem State.grantAckAt_granted (hx : s.htxn line = some x) (hp : x.phase = .grant) (ha : x.req.agent = a) :
    s.grantAckAt a line = s.grantApply a x := by
  unfold State.grantAckAt
  rw [hx]
  exact if_pos ⟨hp, ha⟩

theorem State.grantAckAt_unexpected (hx : s.htxn line = none) : s.grantAckAt a line = s.protoErr a line 0x20 := by
  unfold State.grantAckAt
  rw [hx]

/-- A GRANT_ACK that its agent may send is taken in. -/
theorem grantAck_comes (hh : s.agentHeard a = true) (ha : s.lineAddr a addr false = (stOk, some line))
    (hm : ∀ x, s.htxn line = some x → x.phase = .grant → x.req.agent = a →
      s.agentMay a 0x20 line = true ∧ (a < 8 → (s.link a).acks.contains line = true)) :
    exec (.grantAck a addr) s = .next ((s.grantAcked a line).grantAckAt a line).serveReady := by
  have hn : (decide (a < 8) && s.granted a line && !(s.link a).acks.contains line) = false
      ∧ (s.granted a line && !s.agentMay a 0x20 line) = false := by
    cases hg : s.granted a line with
    | false => exact ⟨by rw [Bool.and_false, Bool.false_and], rfl⟩
    | true =>
      obtain ⟨x, hx, hp, hr⟩ := State.granted_iff.mp hg
      obtain ⟨hmay, hack⟩ := hm x hx hp hr
      refine ⟨?_, by rw [hmay]; rfl⟩
      by_cases h8 : a < 8
      · rw [hack h8, Bool.not_true, Bool.and_false]
      · rw [decide_eq_false h8, Bool.false_and, Bool.false_and]
  obtain ⟨h1, h2⟩ := hn
  change execGrantAck a addr s = _
  rw [execGrantAck_heard hh ha, h1, h2, if_neg Bool.false_ne_true, if_neg Bool.false_ne_true]

/-- One that comes before its grant is on the link does not. -/
theorem grantAck_early (h8 : a < 8) (hh : s.agentHeard a = true) (ha : s.lineAddr a addr false = (stOk, some line))
    (hc : (s.link a).acks.contains line = false) (hx : s.htxn line = some x) (hp : x.phase = .grant) (hr : x.req.agent = a) :
    exec (.grantAck a addr) s = .next s := by
  change execGrantAck a addr s = _
  rw [execGrantAck_heard hh ha, hc, State.granted_iff.mpr ⟨x, hx, hp, hr⟩, decide_eq_true h8]
  exact if_pos rfl

theorem grantAck_holds (s : State) (a addr line : Nat) (hh : s.agentHeard a = true) (ha : s.lineAddr a addr false = (stOk, some line))
    (hm : ∀ x, s.htxn line = some x → x.phase = .grant → x.req.agent = a →
      s.agentMay a 0x20 line = true ∧ (a < 8 → (s.link a).acks.contains line = true)) :
    let s1 := s.grantAcked a line
    exec (.grantAck a addr) s = .next (s1.grantAckAt a line).serveReady
      ∧ (∀ x e, s.htxn line = some x → x.phase = .grant → x.req.agent = a → x.final = some e →
        (s1.grantAckAt a line).htxn line = none
        ∧ (e.holders ≠ 0 → (s1.grantAckAt a line).sfEnt line = some { e with used := s.coh.stamp + 1 })
        ∧ (e.holders = 0 → (s1.grantAckAt a line).sfEnt line = none))
      ∧ (s.htxn line = none → s1.grantAckAt a line = s1.protoErr a line 0x20) := by
  intro s1
  have hc : s1.coh = s.coh := s.grantAcked_coh a line
  have ht : s1.htxn line = s.htxn line := by
    unfold State.htxn
    rw [hc]
  refine ⟨grantAck_comes hh ha hm, fun x e hx hp hr he => ?_, fun hn => State.grantAckAt_unexpected (ht.trans hn)⟩
  obtain ⟨hnone, hent⟩ := s1.grantApply_shows a x
  rw [State.htxn_line hx] at hnone hent
  rw [State.grantAckAt_granted (ht.trans hx) hp hr, hent, he, hc]
  exact ⟨hnone, fun h0 => if_neg h0, fun h0 => if_pos h0⟩

/-! ### EVICT_CLEAN (08 R310) -/

theorem State.evictClean_comes (hh : s.agentHeard a = true) (ha : s.agentAddr a addr false = (stOk, some line))
    (hm : s.agentMay a 0x18 line = true) : let x := s.agentPacket a 0x18 line 64 0 false false none
    exec (.evictClean a addr) s = .next ((x.2.ccAsk a line 0x18).evictCleanAt a line x.1) := by
  intro x
  change execEvictClean a addr s = _
  unfold execEvictClean State.evictClean
  rw [hh, Bool.not_true, if_neg Bool.false_ne_true, ha]
  dsimp only
  rw [hm, Bool.not_true, if_neg Bool.false_ne_true]

theorem State.holds_congr (hs : t.coh.sf = s.coh.sf) (ht : t.coh.txns = s.coh.txns) : t.holds a line = s.holds a line := by
  unfold State.holds State.sfEnt State.htxn
  rw [hs, ht]

theorem State.sfEnt_dropHolder (s : State) (a line : Nat) :
    (((s.dropHolder line a).sfEnt line).map (fun e => bit e.holders a)).getD false = false := by
  unfold State.dropHolder
  rw [State.sfEnt_setSf]
  cases s.sfEnt line with
  | none => rfl
  | some e =>
    change (Option.map _ (if setBit e.holders a false = 0 then none else some _)).getD false = false
    split
    · rfl
    · exact bit_setBit_false e.holders a

theorem State.holds_unhold (s : State) (a line : Nat) : (s.unhold a line).holds a line = false := by
  have he := s.sfEnt_dropHolder a line
  unfold State.unhold
  dsimp only
  generalize s.dropHolder line a = u at he
  split
  · next x hx =>
    obtain rfl := State.htxn_line hx
    have hl : u.Leaves [.txns] (u.putHtxn { x with final := x.final.map fun e => { e with holders := setBit e.holders a false } }) :=
      (State.Leaves.refl u).putHtxn
    have hs := hl .sf rfl
    have ht := u.htxn_putHtxn { x with final := x.final.map fun e => { e with holders := setBit e.holders a false } }
    generalize u.putHtxn { x with final := x.final.map fun e => { e with holders := setBit e.holders a false } } = v at hs ht
    have hv : v.sfEnt x.line = u.sfEnt x.line := congrArg (fun l : NTbl (Option SfEnt) => NTbl.at none l x.line) hs
    unfold State.holds
    rw [hv, he, Bool.false_or, show v.htxn x.line = some _ from ht]
    cases x.final with
    | none => rfl
    | some e => exact bit_setBit_false e.holders a
  · next hx =>
    unfold State.holds
    rw [he, hx]
    rfl

/-- Its sender does not hold the line any more. -/
theorem State.holds_evictCleanAt (s : State) (a line ref : Nat) : (s.evictCleanAt a line ref).holds a line = false := by
  have hk : ∀ v : State, (v.evictAck a line ref).holds a line = v.holds a line := fun v => by
    obtain ⟨-, -, ht, hs⟩ : v.Quiet (v.evictAck a line ref) := by
      unfold State.evictAck
      exact .ite (.other (.cohSend (.refl v))) (.cohSend (.refl v))
    exact State.holds_congr hs ht
  unfold State.evictCleanAt
  rw [hk]
  cases hh : s.holds a line with
  | true => exact State.holds_unhold s a line
  | false => exact hh

/-! ### EVICT_DIRTY (08 R310) -/

/-- An eviction's place in its home's writeback buffer. -/
def State.evictPlace (s : State) (n : Nat) : State :=
  { s with coh := { s.coh with evicts := NTbl.put 0 s.coh.evicts n (s.evictLoad n + 1) } }

theorem State.evictDirty_comes (hh : s.agentHeard a = true) (ha : s.agentAddr a addr true = (stOk, some line))
    (hm : s.agentMay a 0x19 line = true) : let x := s.agentPacket a 0x19 line 64 1 true false none
    exec (.evictDirty a addr data poison) s
      = .next ((x.2.ccAsk a line 0x19).evictBuf { agent := a, line, data, poison, ref := x.1, quiet := false }) := by
  intro x
  change execEvictDirty a addr data poison s = _
  unfold execEvictDirty State.evictDirty
  rw [hh, Bool.not_true, if_neg Bool.false_ne_true, ha]
  dsimp only
  rw [hm, Bool.not_true, if_neg Bool.false_ne_true]

/-- With none of its places left, an eviction waits for one. -/
theorem State.evictBuf_waits {w : EvWait} (h : 256 ≤ s.evictLoad (s.homePa (w.line * 64))) :
    s.evictBuf w = { s with coh := { s.coh with evWait := s.coh.evWait ++ [w] } } := if_pos (.inl h)

/-- It takes a place where nothing waits. -/
theorem State.evictBuf_enters {w : EvWait} (h : s.evictLoad (s.homePa (w.line * 64)) < 256) (hw : s.coh.evWait = []) :
    s.evictBuf w = (s.evictPlace (s.homePa (w.line * 64))).evictDirtyAt w.agent w.line w.data w.poison w.ref w.quiet :=
  if_neg (by rw [hw]; simpa using h)

/-- An owner's line is written and given up. -/
theorem State.evictDirtyAt_owner {e : SfEnt} (hx : s.htxn line = none) (he : s.sfEnt line = some e) (ho : e.owned = true)
    (hb : bit e.holders a = true) : let y := s.homeWrite (line * 64) (slice data 0 64) poison
    s.evictDirtyAt a line data poison ref false = (y.2.dropHolder line a).evictAck a line ref false y.1 := by
  have ht : s.evictTake a line data poison = some ((s.homeWrite (line * 64) (slice data 0 64) poison).1,
      (s.homeWrite (line * 64) (slice data 0 64) poison).2.dropHolder line a) := by
    unfold State.evictTake
    rw [he, hx]
    dsimp only
    rw [ho, hb]
    rfl
  unfold State.evictDirtyAt
  rw [ht, hx]

/-- A line that its sender does not hold is a protocol error. -/
theorem State.evictDirtyAt_unheld (hx : s.htxn line = none) (he : s.sfEnt line = none) :
    s.evictDirtyAt a line data poison ref false = s.protoErr a line 0x19 := by
  have ht : s.evictTake a line data poison = none := by
    unfold State.evictTake
    rw [he, hx]
    rfl
  unfold State.evictDirtyAt
  rw [ht]

theorem evictDirty_holds (s : State) (a addr line : Nat) (data : Bytes) (poison : Bool) (hh : s.agentHeard a = true)
    (ha : s.agentAddr a addr true = (stOk, some line)) (hm : s.agentMay a 0x19 line = true) :
    let n := s.homePa (line * 64)
    let x := s.agentPacket a 0x19 line 64 1 true false none
    let s1 := x.2.ccAsk a line 0x19
    let s2 := s1.evictPlace n
    let y := s2.homeWrite (line * 64) (slice data 0 64) poison
    (s.evictLoad n < 256 → s.coh.evWait = [] → s.htxn line = none →
      (∀ e, s.sfEnt line = some e → e.owned = true → bit e.holders a = true →
        exec (.evictDirty a addr data poison) s = .next ((y.2.dropHolder line a).evictAck a line x.1 false y.1))
      ∧ (s.sfEnt line = none → exec (.evictDirty a addr data poison) s = .next (s2.protoErr a line 0x19)))
    ∧ (256 ≤ s.evictLoad n → exec (.evictDirty a addr data poison) s = .next { s1 with coh := { s1.coh with
        evWait := s1.coh.evWait ++ [{ agent := a, line, data, poison, ref := x.1, quiet := false }] } }) := by
  intro n x s1 s2 y
  have h : s.Sent s1 := s.sent_packet a 0x19 line 64 1 true false
  have hn : s1.homePa (line * 64) = n := h.store.homePa _
  obtain ⟨v, hv⟩ := h.coh
  have hl : s1.evictLoad n = s.evictLoad n := by
    unfold State.evictLoad
    rw [hv]
  have hb : ∀ ref, s.evictLoad n < 256 → s.coh.evWait = [] →
      s1.evictBuf { agent := a, line, data, poison, ref, quiet := false } = s2.evictDirtyAt a line data poison ref false := fun ref hlt hw => by
    refine (State.evictBuf_enters ?_ ?_).trans ?_
    · exact (by rw [hn, hl]; exact hlt)
    · rw [hv, hw]
    · change (s1.evictPlace (s1.homePa (line * 64))).evictDirtyAt a line data poison ref false = _
      rw [hn]
  rw [State.evictDirty_comes hh ha hm]
  refine ⟨fun hlt hw hx => ⟨fun e he ho hbit => ?_, fun he => ?_⟩, fun hge => congrArg _ (State.evictBuf_waits ?_)⟩
  · exact congrArg _ ((hb _ hlt hw).trans (State.evictDirtyAt_owner (h.htxn line ▸ hx) (h.sfEnt line ▸ he) ho hbit))
  · exact congrArg _ ((hb _ hlt hw).trans (State.evictDirtyAt_unheld (h.htxn line ▸ hx) (h.sfEnt line ▸ he)))
  · exact (by rw [hn, hl]; exact hge)

theorem grantsAndEvictions_holds : grantsAndEvictions := by
  intro s a addr line data poison
  refine ⟨grantAck_holds s a addr line, fun h8 hh ha hc x hx hp hr => grantAck_early h8 hh ha hc hx hp hr,
    fun hh ha hm => ⟨State.evictClean_comes hh ha hm, State.holds_evictCleanAt ..⟩, evictDirty_holds s a addr line data poison⟩

/-- Settles O48: what homes do with the messages of agents, with their silence and with errors. -/
theorem homeMessages : Obligations.HomeMessages :=
  ⟨snoopsAndResponses_holds, grantsAndEvictions_holds, coherenceErrors_holds⟩

end Sys2Proof.Machine
end
